-- ==== Sys2Proof/Word.lean ====
section
/-! DEFINITION. The word types of the model and their plainest arithmetic (00 R4 to R7). -/

namespace Sys2Proof

/-- A byte. -/
abbrev Byte := BitVec 8
/-- A dword: a BAR0 register, a packet dword (R13, R400). -/
abbrev U32 := BitVec 32
/-- A tile of the package, T0 to T7 (R16). A part may have fewer (R1). -/
abbrev Tile := Fin 8
/-- One 64-byte submission entry, sixteen dwords (R400). -/
abbrev Words16 := Vector U32 16

/-- Bits [h:l] of a natural number (R5). -/
def bits (n h l : Nat) : Nat := (n >>> l) % 2 ^ (h + 1 - l)

/-- Bit i of a natural number (R5). -/
def bit (n i : Nat) : Bool := n.testBit i

/-- An increment that saturates at the largest value of w bits. -/
def satInc (w n : Nat) : Nat := min (n + 1) (2 ^ w - 1)

/-- An addition that saturates at the largest value of w bits. -/
def satAdd (w n k : Nat) : Nat := min (n + k) (2 ^ w - 1)

/-- The value of n read as a two's-complement number of w bits (R4). -/
def sext (w n : Nat) : Int :=
  if n % 2 ^ w < 2 ^ (w - 1) then (n % 2 ^ w : Nat) else ((n % 2 ^ w : Nat) : Int) - 2 ^ w

/-- A signed value stored in w bits (R4). -/
def wrapS (w : Nat) (i : Int) : Nat := (i % (2 ^ w : Int)).toNat

/-- A signed value reduced to the s(w) range by wrapping (R15). -/
def wrapI (w : Nat) (i : Int) : Int := sext w (wrapS w i)

/-- clamp(v, lo, hi) of the manual's pseudocode. -/
def clampI (v lo hi : Int) : Int := max lo (min hi v)

/-- The exact ceiling of a quotient of naturals. -/
def ceilDiv (a b : Nat) : Nat := (a + b - 1) / b

/-- n bytes of v, little-endian (R6). -/
def leBytes : Nat → Nat → List Byte
  | 0, _ => []
  | n + 1, v => BitVec.ofNat 8 v :: leBytes n (v / 256)

/-- The little-endian value of a list of bytes (R6). -/
def leVal : List Byte → Nat
  | [] => 0
  | b :: bs => b.toNat + 256 * leVal bs

/-- The little-endian value of n bytes at offset o of a block. -/
def leAt (bs : List Byte) (o n : Nat) : Nat := leVal ((bs.drop o).take n)

/-- The half-open interval test of R57. -/
def inIval (x lo hi : Nat) : Bool := decide (lo ≤ x ∧ x < hi)

/-- Do [a, a + la) and [b, b + lb) share a byte (R57)? -/
def overlap (a la b lb : Nat) : Bool := decide (a < b + lb ∧ b < a + la)

end Sys2Proof
end

