-- ==== Sys2Proof/Syntax.lean ====
section
/-! DEFINITION. The commands of the package: one constructor for each row of spec/opcode_table.json, with the row's
operands. A row of an opcode carries the packet; a row of an event carries what the event says (which tile, which
input, what a frame held, what a measurement read). -/

namespace Sys2Proof

/-- A command packet in the command engine (R400, R404): the SQ it came from, its fetch number and its 16 dwords. -/
structure Packet where
  /-- The queue pair whose SQ held the entry. -/
  q : Nat
  /-- The package-wide fetch number: a packet is earlier if it was fetched earlier (R396). -/
  seq : Nat
  /-- DW0 to DW15. -/
  w : Words16
  deriving DecidableEq, Repr

/-- The four quadrature inputs (R66), with the numbers 0 to 3 of R98. -/
inductive Quad where
  | web | lensL | lensR | lensRow
  deriving DecidableEq, Repr

/-- The three pairs of a quadrature input (R66). -/
inductive Pair where
  | a | b | z
  deriving DecidableEq, Repr

/-- One raw input of the package whose level the glitch filter of R68 watches. -/
inductive Pin where
  /-- One wire of a differential pair; neg is the N wire (R67). -/
  | wire (i : Quad) (j : Pair) (neg : Bool)
  /-- Product detect PD0 to PD7. -/
  | pd (n : Fin 8)
  /-- A carriage line: group and line, 0 CAP, 1 CLEAR, 2 PRINT (R93). -/
  | carr (g : Fin 3) (k : Fin 3)
  /-- An event input EVI0 to EVI3 of a tile (R470). -/
  | evi (t : Tile) (n : Fin 4)
  /-- The tearing-effect input TE0 or TE1 (R517). -/
  | te (port : Fin 2)
  deriving DecidableEq, Repr

/-- The kinds of LINE and VOID frames at a hub (R313, R314). -/
inductive HubKind where
  | line (slots : List Nat)
  | void (cause : Nat)
  deriving DecidableEq, Repr

/-- A LINE or VOID frame as a hub receives it (R313, R314). -/
structure HubFrame where
  seg : Nat
  seq : Nat
  fire : Nat
  fph : Nat
  ncnt : Nat
  crc : Nat
  kind : HubKind
  deriving DecidableEq, Repr

/-- The fields of a HELLO frame (R336). -/
structure Hello where
  state : Nat
  kind : Nat
  caps : Nat
  uid : Nat
  id : Option Nat
  parent : Nat
  depth : Nat
  pend : Nat
  fwd : Nat
  hubLead : Nat
  tPath : Nat
  lastAcc : Nat
  deriving DecidableEq, Repr

/-- One temperature entry of a STATUS frame (R338): SEG with the zone in [15:14], and 0.1 degC. -/
structure TempEntry where
  seg : Nat
  temp : Int
  deriving DecidableEq, Repr

/-- One nozzle-health entry of a STATUS frame (R338). -/
structure HealthEntry where
  seg : Nat
  nozzle : Nat
  health : Nat
  deriving DecidableEq, Repr

/-- The fields of a STATUS frame (R338). -/
structure StatusFrame where
  node : Nat
  state : Nat
  part : Nat
  lastAcc : Nat
  free : Nat
  counters : List Nat
  temps : List TempEntry
  health : List HealthEntry
  deriving DecidableEq, Repr

/-- A CTRL frame (R337). -/
structure CtrlFrame where
  node : Nat
  ctag : Nat
  op : Nat
  addr : Nat
  count : Nat
  data : List U32
  deriving DecidableEq, Repr

/-- A colour report (R264). -/
structure ColourReport where
  band : Nat
  row : Nat
  flags : Nat
  zone : Nat
  l : Int
  a : Int
  b : Int
  deriving DecidableEq, Repr

/-- The content of EVENT POSITION (R341). -/
structure PosEvent where
  line : Nat
  fire : Nat
  fph : Nat
  rate : Nat
  aL : Int
  aR : Int
  r : Int
  q : Nat
  deriving DecidableEq, Repr

/-- A WyrelLink hop on which TIME runs: a tile lane whose far end is a slave, or this package's own slave port (R322). -/
inductive Hop where
  /-- The tile is master towards lane l. -/
  | down (t : Tile) (l : Fin 10)
  /-- The lead tile of a slave package, towards the press master. -/
  | up
  /-- A node as slave of its parent. -/
  | node (id : Nat)
  deriving DecidableEq, Repr

/-- A 64b/66b block as it crosses the pin (R306): its sync header, and its scrambled payload, the bit sent first in bit 0. -/
structure Block where
  sync : BitVec 2
  data : BitVec 64
  deriving DecidableEq, Repr

/-- The blocks that arrive on a lane, oldest first (R306). -/
structure LaneBlocks where
  lane : Fin 10
  blocks : List Block
  deriving DecidableEq, Repr

/-- A firing line, with the granules of the short store that stage 11 reads for it with an uncorrectable error (R240, R292). -/
structure FiringRun where
  line : Nat
  short : List Nat
  deriving DecidableEq, Repr

/-- The ports of a hub towards the tiles, A0, A1, B0 and B1, and away from them, DA and DB (R316). -/
inductive HubPort where
  | a0
  | a1
  | b0
  | b1
  | da
  | db
  deriving DecidableEq, Repr

/-- What a frame receiver saw of one frame (R308, R310, R311): its bytes, or that it was broken. -/
inductive RxFrame where
  | broken
  | bytes (bs : List Byte)
  deriving DecidableEq, Repr

/-- The outcome that ends a boot stage (R576, R577): passed, or a cause code of R575, 8 COMPAT, 9 MEM. -/
inductive StageEnd where
  | pass
  | fail (cause : Nat)
  deriving DecidableEq, Repr

/-- An eye measurement with the equaliser codes it found (R508, R509). -/
structure Eye where
  width : Nat
  height : Nat
  ctle : Nat
  txMain : Nat
  txPost : Nat
  txPre : Nat
  deriving DecidableEq, Repr

/-- The measured results of one trim run (R556, R557): classes measured, classes failed with a cause, the values of
each class, the ADC residual and the VREF_EXT reading in µV, the DRAM margins, and the eyes of the lanes measured. -/
structure TrimResult where
  failed : List (Nat × Nat)
  values : List (Nat × List Int)
  resid : Int
  vref : Nat
  dram : List Nat
  eyes : List (Nat × Eye)
  deriving DecidableEq, Repr

/-- How a DRAM request ended (R482, R483). -/
inductive DramEnd where
  | clean
  | corrected (da : Nat)
  | uncorrectable (da : Nat)
  deriving DecidableEq, Repr

/-- The commands (spec/opcode_table.json): those with operands in the table's order, then those without. -/
inductive Instr where
  /-- R425: Opens a session with a class, a group mask, windows and store and run limits. -/
  | sessionOpen (p : Packet)
  /-- R412: Stops fetching for a session, completes its queued packets as closed and deletes its queues once every packet is posted. -/
  | sessionClose (p : Packet)
  /-- R415: Replaces a session's group mask and windows atomically between two dispatches. -/
  | sessionProt (p : Packet)
  /-- R411: Creates a queue pair for an open session. -/
  | sessionQueue (p : Packet)
  /-- R412: Deletes one queue pair in the way SESSION.CLOSE deletes queues. -/
  | sessionQdelete (p : Packet)
  /-- R425: Writes the class, protection, queues and store use of every session to host memory. -/
  | sessionInfo (p : Packet)
  /-- R104: Reads a host buffer and writes it to the first tile of each named twin, mirrored to the second tile. -/
  | memWrite (p : Packet)
  /-- R131: Reads job memory from one tile, or from both tiles with a comparison, into host memory. -/
  | memRead (p : Packet)
  /-- R106: Completes once every earlier write or compress of its scope has landed on both tiles. -/
  | memFence (p : Packet)
  /-- R128: Encodes a raw surface into strips in a sizing pass, then in a writing pass. -/
  | memCompress (p : Packet)
  /-- R131: Verifies every strip of a surface on both tiles of the addressed spans. -/
  | memVerify (p : Packet)
  /-- R444: Writes the 64-byte memory information block to host memory. -/
  | memInfo (p : Packet)
  /-- R440: Checks and arms the job from the job-boundary items and starts the pitch loop. -/
  | jobArm (p : Packet)
  /-- R160: Commits a flying change to a prepared job, which takes effect from the first product registered after the commit. -/
  | jobChange (p : Packet)
  /-- R443: Commits the end of product registration at an effect line, optionally aborting printing. -/
  | jobDisarm (p : Packet)
  /-- R436: Writes the job report to host memory. -/
  | jobStatus (p : Packet)
  /-- R443: Runs the checks of JOB.ARM or JOB.CHANGE without changing anything. -/
  | jobCheck (p : Packet)
  /-- R154: Changes the settings of one or more layers of a lane for a target product or for the proof path. -/
  | layerSet (p : Packet)
  /-- R155: Replaces the surfaces of up to four layers atomically for a target product, with an optional fence. -/
  | layerFlip (p : Packet)
  /-- R157: Signals a fence and stamps it with its signal line after the memory waits. -/
  | layerSignal (p : Packet)
  /-- R445: Writes the layer report to host memory. -/
  | layerStatus (p : Packet)
  /-- R169: Reads the calendar and optionally applies a host correction to it. -/
  | markClock (p : Packet)
  /-- R172: Loads the daylight-rule table for a target product. -/
  | markRules (p : Packet)
  /-- R176: Loads the shift table for a target product. -/
  | markShifts (p : Packet)
  /-- R190: Copies a glyph set into the standby glyph bank of every tile. -/
  | markGlyphs (p : Packet)
  /-- R186: Sets one field of a lane for a target product. -/
  | markField (p : Packet)
  /-- R181: Sets a counter's settings, and optionally its value, for a target product. -/
  | markCounter (p : Packet)
  /-- R188: Loads the lot strings for a target product. -/
  | markLot (p : Packet)
  /-- R193: Writes the counter states, the calendar state and the last evaluated strings to host memory. -/
  | markStatus (p : Packet)
  /-- R188: Loads the twelve month names for a target product. -/
  | markNames (p : Packet)
  /-- R206: Binds a scene, a view-map slot and a window to a lane's LIGHT layer at an arm line. -/
  | rayBind (p : Packet)
  /-- R222: Sets the nominal lens pitches and the skew at an effect line. -/
  | rayLens (p : Packet)
  /-- R215: Starts lens acquisition at an effect line. -/
  | rayAcquire (p : Packet)
  /-- R204: Copies a view-map table into a slot on every tile. -/
  | rayViewmap (p : Packet)
  /-- R222: Writes the registration loop state and the last lens models to host memory. -/
  | rayStatus (p : Packet)
  /-- R220: Loads the panel settings and the view table, to take effect at the next proof flip. -/
  | rayPanel (p : Packet)
  /-- R234: Copies a threshold array into a screening slot on every tile. -/
  | dropScreen (p : Packet)
  /-- R244: Loads a channel's slot table and slot energies at an effect line. -/
  | dropSlots (p : Packet)
  /-- R237: Loads nozzle-map entries of one row, to take effect at the next line boundary. -/
  | dropNozzles (p : Packet)
  /-- R233: Loads zone tables into the standby bank, to take effect at a product boundary. -/
  | dropZonelut (p : Packet)
  /-- R254: Writes the governor, overspeed and nozzle counters to host memory. -/
  | dropStatus (p : Packet)
  /-- R279: Sets the band and tone items of channels that are OFF or OPEN. -/
  | colourSetup (p : Packet)
  /-- R279: Loads a channel's sensitivity table. -/
  | colourSens (p : Packet)
  /-- R272: Captures targets from the first complete bands and then closes the channels. -/
  | colourClose (p : Packet)
  /-- R270: Sets channels to OPEN and keeps the tables in force. -/
  | colourOpen (p : Packet)
  /-- R268: Reads the reference tile and fits the calibration gains and offsets. -/
  | colourCal (p : Packet)
  /-- R276: Zeroes the colour offsets and commits the tables built from the base tables. -/
  | colourReset (p : Packet)
  /-- R279: Writes the colour states, offsets, targets and the calibration record to host memory. -/
  | colourStatus (p : Packet)
  /-- R279: Copies the last 4,096 band records to host memory. -/
  | colourLog (p : Packet)
  /-- R72: Re-phases the expected index of the named inputs at their next forward index. -/
  | motionRephase (p : Packet)
  /-- R89: Sets and arms a compare unit at an effect tick. -/
  | motionCompare (p : Packet)
  /-- R436: Writes the motion report, including the compare capture sets, to host memory. -/
  | motionStatus (p : Packet)
  /-- R97: Latches LINE_STOP_REQ, or releases it when no enabled source persists. -/
  | motionStopreq (p : Packet)
  /-- R329: Loads the table that maps node UIDs to node IDs. -/
  | linkNodes (p : Packet)
  /-- R343: Writes every known node's HELLO fields, state and counters to host memory. -/
  | linkList (p : Packet)
  /-- R337: Reads or writes a node's registers with CTRL frames and up to three attempts. -/
  | linkCtrl (p : Packet)
  /-- R334: Starts the planned leave of a node at LEAVE_LINE. -/
  | linkLeave (p : Packet)
  /-- R343: Writes each hop's last offset, delay and state to host memory. -/
  | linkTime (p : Packet)
  /-- R302: Writes each tile's scan-out placement, loads and counters to host memory. -/
  | linkScan (p : Packet)
  /-- R297: Moves named bars to their alternate lanes, or back, from the next line boundary. -/
  | linkRemap (p : Packet)
  /-- R507: Trains, sleeps, wakes or switches off a lane. -/
  | linkLane (p : Packet)
  /-- R510: Runs a pattern test on a lane, with optional loopback and error injection. -/
  | linkTest (p : Packet)
  /-- R385: Writes the assay results and signature counts of each tile to host memory. -/
  | twinAssay (p : Packet)
  /-- R350: Withdraws a tile from printing from the first line not yet begun. -/
  | twinWithdraw (p : Packet)
  /-- R367: Starts the rejoin of a withdrawn tile through RESYNC and FILL. -/
  | twinRejoin (p : Packet)
  /-- R383: Withdraws a tile, power-cycles every domain except PD_AON, boots it and rejoins it. -/
  | twinRestart (p : Packet)
  /-- R379: Moves the lead to the other tile of twin 0 by the planned handover. -/
  | twinLead (p : Packet)
  /-- R385: Writes the twin states, causes, epoch and preserve sequences to host memory. -/
  | twinStatus (p : Packet)
  /-- R370: Writes a flash preserve at once and completes once it has been read back. -/
  | twinPreserve (p : Packet)
  /-- R533: Changes the display timing of every port whose HPD is high. -/
  | dispMode (p : Packet)
  /-- R535: Switches PD_DISP on or off on T0 and T1 and starts or stops the ports. -/
  | dispPower (p : Packet)
  /-- R527: Selects the live proof or a raster surface, to be latched at the next proof flip. -/
  | dispFlip (p : Packet)
  /-- R436: Writes the display report to host memory. -/
  | dispStatus (p : Packet)
  /-- R441: Returns the value in force, or the pending value, of a PARM item. -/
  | parmGet (p : Packet)
  /-- R441: Sets, or stages while a job is armed, the value of a PARM item. -/
  | parmSet (p : Packet)
  /-- R453: Writes the descriptors of the PARM items to host memory. -/
  | parmList (p : Packet)
  /-- R454: Switches power domains of a tile on and off. -/
  | svcPower (p : Packet)
  /-- R590: Writes a firmware image to the inactive slot, checks it and marks the slot STAGED. -/
  | svcImage (p : Packet)
  /-- R591: Restarts one tile on the staged image and rejoins it. -/
  | svcUpdate (p : Packet)
  /-- R584: Writes the lifetime tally to host memory. -/
  | svcTally (p : Packet)
  /-- R556: Starts a trim run of the named classes. -/
  | svcTrim (p : Packet)
  /-- R561: Writes the thermal and trim report to host memory. -/
  | svcThermal (p : Packet)
  /-- R454: Returns its parameter dwords in the results. -/
  | diagEcho (p : Packet)
  /-- R455: Reads one BAR0 register into Result 0. -/
  | diagRegread (p : Packet)
  /-- R455: Writes the masked bits of one BAR0 register, with the write attributed to the submitting session. -/
  | diagRegwrite (p : Packet)
  /-- R461: Copies the event logs of the selected tiles to host memory. -/
  | diagEvlog (p : Packet)
  /-- R395: A doorbell write of a new SQ tail makes entries visible for fetch. -/
  | qenSqTailWrite (t : Tile) (q : Fin 256) (v : U32)
  /-- R397: A doorbell write of a new CQ head frees completion entries. -/
  | qenCqHeadWrite (t : Tile) (q : Fin 256) (v : U32)
  /-- R394: Setting QEN_CTL.EN reads the admin queue settings and starts the admin pair. -/
  | qenCtlEnSet (t : Tile)
  /-- R429: Clearing QEN_CTL.EN stops fetching from every queue and keeps the queues and the store. -/
  | qenCtlEnClear (t : Tile)
  /-- R11: A write to a register field without a row of its own acts by its access code, including W1C clears and ignored writes. -/
  | registerWrite (off : Nat) (v : U32)
  /-- R99: A read of a _LO register latches its _HI partner so that the value is read whole. -/
  | loRegisterReadLatch (off : Nat)
  /-- R471: Writing 1 to a bit of EVR_SWSET raises an occurrence of a software source. -/
  | evrSwsetWrite (t : Tile) (v : U32)
  /-- R467: A read of EVR_HT_TAKE pops the oldest entry of the host target's take queue. -/
  | evrHtTakeRead (t : Tile) (h : Fin 32)
  /-- R467: A write of EVR_HT_DONE clears the source's ACTIVE bit and optionally sets the target's CPRI. -/
  | evrHtDoneWrite (t : Tile) (h : Fin 32) (v : U32)
  /-- R474: A read of EVR_CORE_TAKE by its core pops the oldest take-queue entry. -/
  | evrCoreTakeRead (t : Tile) (c : Fin 4)
  /-- R467: A core's DONE write clears the source's ACTIVE bit and optionally sets the core's CPRI. -/
  | evrCoreDoneWrite (t : Tile) (c : Fin 4) (v : U32)
  /-- R474: Writing 1 to a source's PEND bit discards its pending delivery. -/
  | evrSrcPendClear (t : Tile) (src : Fin 192)
  /-- R474: Writing 1 to CLRCNT clears the source's occurrence count. -/
  | evrSrcClrcnt (t : Tile) (src : Fin 192)
  /-- R482: Clears the correctable error count and address and re-arms MEMC_CE. -/
  | memcClrCe (t : Tile)
  /-- R498: Clears the uncorrectable error count and address. -/
  | memcClrUe (t : Tile)
  /-- R498: Clears every MEMC_PANIC_T counter. -/
  | memcClrPanic (t : Tile)
  /-- R498: Clears MEMC_PAUSE. -/
  | memcClrPause (t : Tile)
  /-- R516: Clears a lane's discard and FILL counters. -/
  | lnkClrCnt (t : Tile) (l : Fin 10)
  /-- R516: Clears a lane's test error count and lock-loss count unless a test is running. -/
  | lnkClrTest (t : Tile) (l : Fin 10)
  /-- R539: Clears the display link training count. -/
  | dspClrTrains (port : Fin 2)
  /-- R539: Clears the display underrun line and pixel counts. -/
  | dspClrUnder (port : Fin 2)
  /-- R565: Clears THM_CNT. -/
  | thmClrCnt (t : Tile)
  /-- R565: Sets THM_MAX to the present filtered temperature. -/
  | thmClrMax (t : Tile)
  /-- R389: Writing 1 to CLRLAST clears the last withdrawal cause. -/
  | twnCauseClrlast (t : Tile)
  /-- R396: The command engine fetches visible submission entries and checks them at fetch. -/
  | packetFetch (entry : Option Words16)
  /-- R398: A decided completion is written to its CQ once there is room and the function is in D0. -/
  | completionPost (q : Fin 256)
  /-- R417: The end of a CQ's moderation window makes its vector fall due. -/
  | moderationWindowExpiry (q : Fin 256)
  /-- R419: A vector that fell due is sent once the link has returned to L0 and the vector is unmasked. -/
  | msixVectorSend (v : Fin 2048)
  /-- R419: The PCIe link enters or leaves L0s, L1 or its substates. -/
  | pcieLinkStateChange (port : Fin 2) (st : Fin 6)
  /-- R419: The host puts the function in D3hot, so vectors that fall due set PBA bits and may send PME. -/
  | pcieD3hotEntry (port : Fin 2)
  /-- R419: The function enters D3cold, so vectors are held and WAKE_L may be asserted. -/
  | pcieD3coldEntry (port : Fin 2)
  /-- R420: On return to D0 with bus mastering and MSI-X enabled, held completions are posted and held vectors sent. -/
  | pcieD0Return (port : Fin 2)
  /-- R421: PERST_L resets one endpoint, its configuration space and the HIF block, and keeps the queues. -/
  | pciePerst (port : Fin 2)
  /-- R578: A configuration request before the tile reaches HOST is answered with Configuration Request Retry Status. -/
  | pcieConfigRequest (port : Fin 2)
  /-- R460: An occurrence sets the source's PEND bit, increments its COUNT and writes a log record. -/
  | eventOccurrence (t : Tile) (src : Fin 192) (data : List Nat)
  /-- R466: The router or the host stage chooses a target and commits the delivery of a pending source. -/
  | evrCommit (stage : Option Tile)
  /-- R463: The lead's host delivery stage receives a host-bound offer from a tile's router. -/
  | evrOfferReceive (t : Tile)
  /-- R469: A source that was passed over is reconsidered in the tick after a change that may make a target eligible. -/
  | evrReconsider (stage : Option Tile)
  /-- R470: A filtered edge or high level on an event input raises an occurrence of its source. -/
  | eviEdge (t : Tile) (i : Fin 4)
  /-- R68: A raw input level changes and starts, or cancels, its glitch-filter count. -/
  | inputRawTransition (p : Pin) (level : Bool)
  /-- R69: A filtered quadrature step changes an input's 48-bit count. -/
  | encEdge (i : Quad)
  /-- R67: Both wires of a pair reading one level for ENC_WIRE_TIME ticks declare a wire fault, and opposite levels for the same time clear it. -/
  | encWireFault (i : Quad) (j : Pair)
  /-- R73: A forward index pulse is checked against the expected index count. -/
  | encIndex (i : Quad)
  /-- R73: A count passing the end of the index tolerance window with no index advances the expected index. -/
  | encIndexMiss (i : Quad)
  /-- R76: An absolute frame is checked and used by ABS_MODE. -/
  | absFrameReceived (raw : Nat) (err : Bool) (warn : Bool) (crc : Nat)
  /-- R31: A tile accepts a position message for a line higher than the last it accepted. -/
  | positionMessageReceive (t : Tile) (n : Nat)
  /-- R95: The width timer of a reject or compare pulse expires. -/
  | outputPulseEnd (o : Fin 4)
  /-- R89: At its effect tick a compare setting is applied, and skipped or late hits are handled. -/
  | compareApply (u : Fin 16)
  /-- R90: A filtered active product-detect edge registers a product on its lane. -/
  | pdEdge (i : Fin 8)
  /-- R93: A carriage code stable for CARR_FILT ticks takes its new value. -/
  | carriageCodeChange (g : Fin 3)
  /-- R153: Before the arm line the lead fixes fence outcomes, evaluates the mark fields and commits them with the arm line. -/
  | armLineEvaluation (lane : Fin 16) (num : Nat)
  /-- R107: A command that waits for earlier memory writes proceeds once they have landed on both tiles. -/
  | memoryWaitRelease (seq : Nat)
  /-- R105: A memory write lands on both tiles of a twin. -/
  | memWriteLanded (wid : Nat) (twin : Fin 4)
  /-- R34: The second tile of a twin receives and writes a mirrored host load. -/
  | mirroredLoadReceive (wid : Nat) (twin : Fin 4)
  /-- R122: The codec starts decoding a pending strip, earliest deadline first. -/
  | stripDecodeStart (t : Tile)
  /-- R121: The decoding of a strip ends with a pass or a fail, and the verdict is sent to the partner. -/
  | stripVerified (t : Tile) (sid : Nat) (strip : Nat)
  /-- R124: A tile receives its partner's verdict on a strip. -/
  | stripVerdictReceive (t : Tile) (sid : Nat) (strip : Nat)
  /-- R124: At a strip's deadline the tile releases, voids or blanks the affected lines by the two verdicts. -/
  | stripDeadline (t : Tile) (sid : Nat) (strip : Nat)
  /-- R126: A strip copied from the partner is verified again and reported mended. -/
  | stripMended (t : Tile) (sid : Nat) (strip : Nat)
  /-- R129: The sizing or writing pass of MEM.COMPRESS ends. -/
  | compressPassDone (seq : Nat)
  /-- R60: A tile begins computing a web line, applying the commits due at that line. -/
  | lineCompute (t : Tile) (n : Nat)
  /-- R240: Stage 11 processes a firing line: overspeed, spits, history class, slot mapping, the energy governor and the firing records. -/
  | firingLineStage11 (t : Tile) (r : FiringRun)
  /-- R299: When a segment's frame is due the tile sends LINE, or VOID with a cause. -/
  | segmentFrameDue (t : Tile) (line : Nat) (seg : Nat)
  /-- R355: A tile takes its partner's per-line record, applies it where needed and compares signatures. -/
  | stateCopyReceive (t : Tile) (line : Nat)
  /-- R356: A partner record not arrived by the end of stage 11 of line L + 2 holds the dependent rows. -/
  | stateRecordMissing (t : Tile) (line : Nat)
  /-- R217: A sensor cause freezes the lens model, and the loop enters LOST. -/
  | lensTrackLost (cause : Nat)
  /-- R218: A lens input's forward index is taken as its reference in acquisition or reacquisition. -/
  | lensReferenceIndex (i : Quad)
  /-- R265: No colour report by the report deadline discards the patch as MISSING. -/
  | patchReportTimeout (band : Nat) (row : Nat)
  /-- R265: The lead receives a colour report from the spectral bar and checks it. -/
  | colourReportReceive (r : ColourReport)
  /-- R167: A stopped oscillator or a low VBAT makes a calendar invalid, and it restarts at zero. -/
  | calInvalid (port : Fin 2)
  /-- R323: Every WYL_TIME_INT ticks a TIME master sends SYNC on its hops. -/
  | timeSyncSend (h : Hop)
  /-- R323: A TIME slave stamps a SYNC and answers with REQ. -/
  | timeSyncReceive (h : Hop) (xseq : Nat) (t1 : Nat) (t2 : Nat)
  /-- R323: A TIME master stamps a REQ and answers with RESP. -/
  | timeReqReceive (h : Hop) (xseq : Nat) (t3 : Nat) (t4 : Nat)
  /-- R324: A complete exchange updates the slave servo by slew or step and checks alignment. -/
  | timeRespReceive (h : Hop) (xseq : Nat) (t4 : Nat)
  /-- R326: No complete exchange for 16 intervals puts a slave out of alignment. -/
  | timeExchangeTimeout (h : Hop)
  /-- R327: A slave package receives ANNOUNCE and uses it for calendar discipline. -/
  | timeAnnounceReceive (sec : Nat) (tau : Nat)
  /-- R42: Every 1,024 ticks a tile compares its TIME with the master and slews, or withdraws with TIME_ALIGN_FAULT. -/
  | timeAlignCheck (t : Tile) (diff : Int)
  /-- R307: 64 consecutive valid sync headers bring a receiver into block lock. -/
  | blockLockAcquired (t : Tile) (b : LaneBlocks)
  /-- R307: 16 invalid headers of any 64 lose block lock, and a frame in progress is discarded. -/
  | blockLockLost (t : Tile) (b : LaneBlocks)
  /-- R330: A node or tile sends HELLO at the period of its state and on each downstream port. -/
  | helloSend (h : Hop)
  /-- R329: The lead handles a node's HELLO: ID assignment, conflicts, depth and CONFIG checks. -/
  | helloReceive (t : Tile) (l : Fin 10) (f : Hello)
  /-- R338: The lead takes a node's STATUS with temperatures and nozzle health. -/
  | statusFrameReceive (f : StatusFrame)
  /-- R333: No STATUS for 750,000 ticks makes the node leave unplanned. -/
  | nodeStatusTimeout (node : Nat)
  /-- R341: A slave package takes an EVENT POSITION as its motion output for a line. -/
  | eventPositionReceive (e : PosEvent)
  /-- R341: A slave package takes an EVENT PRODUCT as a product registration. -/
  | eventProductReceive (lane : Fin 16) (num : Nat) (first : Nat)
  /-- R339: A node's NODE_FAULT or node-specific EVENT frame is passed to host software. -/
  | nodeEvent (node : Nat) (code : Nat) (eseq : Nat) (data : List Byte)
  /-- R337: A node receives a CTRL READ or WRITE and answers it. -/
  | ctrlRequestReceive (f : CtrlFrame)
  /-- R337: The lead receives READ_RESP, WRITE_ACK or NAK for a CTRL request. -/
  | ctrlAnswerReceive (f : CtrlFrame)
  /-- R337: No answer within 25,000 ticks resends the request or, after three attempts, times the command out. -/
  | ctrlAnswerTimeout (seq : Nat)
  /-- R319: A hub checks a LINE or VOID frame and keeps the first valid copy of each sequence. -/
  | hubFrameReceive (node : Nat) (port : HubPort) (f : RxFrame)
  /-- R319: At the lowest pending sequence's fire instant the hub fires it or counts it and sets LAST_ACC. -/
  | hubFireInstant (node : Nat) (seg : Nat)
  /-- R503: A lane with block lock and a good eye reaches UP. -/
  | laneTrainingDone (t : Tile) (l : Fin 10) (e : Eye)
  /-- R503: Training not complete within 10 ms leaves the lane DOWN. -/
  | laneTrainFail (t : Tile) (l : Fin 10) (e : Eye)
  /-- R504: A loss of lock, a driver fault or a reference fault takes an UP lane DOWN. -/
  | laneDown (t : Tile) (l : Fin 10) (cause : Fin 3)
  /-- R504: Every 100 ms a DOWN lane retrains while LNK_AUTO_RETRAIN is 1. -/
  | laneRetrainTimer (t : Tile) (l : Fin 10)
  /-- R311: A lane receives a frame and checks or discards it before it is acted on. -/
  | frameReceive (t : Tile) (l : Fin 10) (blocks : List Block)
  /-- R506: A waking lane direction becomes awake after its wake time. -/
  | laneWake (t : Tile) (l : Fin 10) (rx : Bool)
  /-- R512: 1 ms after a test starts, one bit or a burst of 16 bits is inverted. -/
  | laneTestInject (t : Tile) (l : Fin 10)
  /-- R513: A lane test ends after its duration and reports its errors. -/
  | laneTestDone (t : Tile) (l : Fin 10) (errors : Nat) (losses : Nat) (locked : Bool)
  /-- R352: Every 4,096 ticks a tile sends a heartbeat to its partner on both paths. -/
  | heartbeatSend (t : Tile)
  /-- R352: TWN_HB_MISS missing heartbeats on both paths treat the partner as withdrawn. -/
  | partnerSilent (t : Tile)
  /-- R353: Four failed retransmissions, or missing heartbeats on the link alone, take the twin link down. -/
  | twinLinkDown (twin : Fin 4)
  /-- R350: A tile learns that its partner withdrew and goes to SOLO at the same line. -/
  | partnerWithdrawReceive (t : Tile)
  /-- R364: Every 1 ms a vector set starts and the edge role moves to the next slice. -/
  | assaySetStart (t : Tile)
  /-- R365: A vector set ends as a pass or fail, and repeated fails may withdraw the tile. -/
  | assaySetEnd (t : Tile) (pass : Bool) (stage : Nat)
  /-- R359: An affected tile stores a prepared change and returns ACK. -/
  | commitPrepareReceive (t : Tile) (cseq : Nat)
  /-- R359: An ACK arrives, and the commit is committed once every ACK is in. -/
  | commitAckReceive (t : Tile) (cseq : Nat)
  /-- R372: The standby lead checks a received preserve and keeps it if it is valid. -/
  | preserveReceive (data : List Byte)
  /-- R376: Every 1 s the host controller retries link training of a faulty standby port. -/
  | hostPortRetry (ok : Bool)
  /-- R367: The partner's copy to a rejoining tile ends, and the lead commits the start line. -/
  | resyncCopyDone (t : Tile)
  /-- R349: The control cores' watchdog expires and the tile withdraws. -/
  | watchdogExpiry (t : Tile)
  /-- R32: A failed fabric hop reroutes traffic, and a second failure splits the ring. -/
  | fabricHopDown (hop : Fin 8)
  /-- R40: REFCLK absent or off-frequency for 10 µs withdraws the tile. -/
  | refclkLost (t : Tile)
  /-- R40: Loss of lock in the root PLL withdraws the tile. -/
  | pllUnlock (t : Tile)
  /-- R49: A switched-on power domain reaches ready. -/
  | domainReady (t : Tile) (d : Fin 15)
  /-- R483: A DRAM request returns its data or completes its write, with error correction or poison. -/
  | dramRequestComplete (t : Tile) (ch : Fin 4) (e : DramEnd)
  /-- R485: A per-bank refresh falls due and is inserted between requests. -/
  | dramRefreshDue (t : Tile) (ch : Fin 4) (bank : Fin 16)
  /-- R485: A bank's row closes after 64 NOCCLK cycles with no queued request. -/
  | bankIdlePrecharge (t : Tile) (ch : Fin 4) (bank : Fin 16)
  /-- R491: A due pause starts in the first tick in which every real-time port tolerates it. -/
  | dramPauseStart (t : Tile)
  /-- R493: A frequency change completes on the other timing set. -/
  | memcSetChanged (t : Tile)
  /-- R492: MEMC_TRAIN_INT after the last retraining, a retraining falls due. -/
  | dramRetrainDue (t : Tile)
  /-- R494: A retraining not started within MEMC_TRAIN_DEFER runs whatever the tolerances. -/
  | memcPauseForced (t : Tile)
  /-- R489: A port holding PANIC for each 25,000 ticks is reported. -/
  | memcPanicLong (t : Tile) (port : Fin 3)
  /-- R484: A patrol scrub pass ends and reports its error counts. -/
  | memcScrubDone (t : Tile)
  /-- R495: MR4 reporting a DRAM temperature out of range raises the refresh rate. -/
  | memcDramHot (t : Tile) (ch : Fin 4) (mr4 : Nat) (hot : Bool)
  /-- R526: A port starts a frame at line 0 and its frame count rises. -/
  | dspFrameStart (port : Fin 2)
  /-- R527: At the first line of vertical blanking the port latches every pending proof change and the product sample. -/
  | proofFlip (port : Fin 2)
  /-- R529: The start of line DSP_LINE_MATCH is reported. -/
  | dspLineMatch (port : Fin 2)
  /-- R529: The end of line VTOTAL − 1 is reported. -/
  | dspFrameDone (port : Fin 2)
  /-- R528: A filtered TE edge in blanking releases the next frame after DSP_TE_DELAY lines. -/
  | dspTeEdge (port : Fin 2)
  /-- R528: Blanking reaching VTOTAL_MAX with no TE edge starts the frame anyway. -/
  | dspTeLost (port : Fin 2)
  /-- R532: A pixel not ready when the link needs it fills the rest of the line. -/
  | dspUnderrun (port : Fin 2) (line : Nat) (pixel : Nat)
  /-- R524: A lead tile receives decoded source lines or brick rows from another span for the proof. -/
  | proofDataReceive (port : Fin 2) (layer : Fin 4) (row : Nat) (data : List Byte)
  /-- R535: An HPD rise trains the port in the current mode. -/
  | dspHotplug (port : Fin 2)
  /-- R535: An HPD fall or an HPD IRQ reporting link loss makes the port LINKLOST. -/
  | dspLinkLost (port : Fin 2) (hpdFell : Bool)
  /-- R535: Every 100 ms a LINKLOST port with HPD high retrains. -/
  | dspRetrainTimer (port : Fin 2)
  /-- R533: The first frame in the new timing starts, and DISP.MODE completes. -/
  | dspModeChanged (port : Fin 2)
  /-- R540: Every 100 µs the die sensor is converted, and the thresholds and trim interpolation are evaluated. -/
  | thermConversion (t : Tile) (code : Nat) (temp : Int) (valid : Bool)
  /-- R544: At the end of each THM_STEP_T the throttle step rises, falls or holds. -/
  | throttleStepInterval (t : Tile)
  /-- R545: Every 1 ms the power estimate is recomputed from activity counters. -/
  | powerEstimateUpdate (t : Tile) (est : Nat)
  /-- R545: 10 ms after a shedding action the measured drop in estimate is recorded as its saving. -/
  | shedSavingMeasured (t : Tile) (action : Fin 4)
  /-- R557: A trim run ends, and its results are stored in a trim set. -/
  | trimDone (t : Tile) (r : TrimResult)
  /-- R553: An edge-free interval of TRM_EDGE_FREE ticks lets a pending encoder-receiver correction take effect. -/
  | encTrimApply (t : Tile) (i : Quad)
  /-- R576: After SYS_RST_L rises, each tile passes through the boot stages to READY or FAILED. -/
  | boot (t : Tile) (e : StageEnd)
  /-- R577: A tile receives its firmware image over the fabric and checks it. -/
  | imageReceive (t : Tile) (e : StageEnd)
  /-- R579: A partner not reaching PAIR within 500 ms lets the tile go on alone. -/
  | pairTimeout (t : Tile)
  /-- R569: VDD_IO crossing its thresholds moves PD_AON to VBAT or back. -/
  | aonSupplySwitch (t : Tile) (toBat : Bool)
  /-- R588: Every 60 s the AON ADC measures VBAT and may raise VBAT_LOW. -/
  | vbatMeasure (t : Tile) (mv : Nat)
  /-- R612: EXTEST in force withdraws every tile and hands the outputs to the boundary register. -/
  | jtagExtest (on : Bool) (pins : Nat)
  /-- R613: Any other SMBus command, and every write, is NACKed. -/
  | smbOtherNack (cmd : Nat)
  /-- R105: A host memory read issued by the device returns its data, or returns Unsupported Request or Completer Abort. -/
  | hostDmaReadDone (seq : Nat) (data : Option (List Byte))
  /-- R418: Clearing a vector mask or the function mask sends the messages whose PBA bits were set while masked. -/
  | msixMaskClear (v : Option (Fin 2048))
  /-- R534: DisplayPort main-link training on a port ends in success or failure, and on failure the port returns to its previous timing or enters LINKLOST. -/
  | dspLinkTrainingEnd (port : Fin 2) (ok : Bool)
  /-- R494: A retraining pause ends: the active set's delays are updated, pending DRAM trim corrections take force, MEMC_TRAIN_FAIL may be raised and the next due time starts. -/
  | dramRetrainingDone (t : Tile) (drift : Option (Fin 4 × Int))
  /-- R582: A flash program and read-back of a journal record or image slot ends, passing or failing with FLASH_FAIL and a retry. -/
  | flashWriteDone (ok : Bool)
  /-- R405: An eligible packet is checked for protection and arguments and dispatched. -/
  | packetDispatch
  /-- R422: T1 receives a mirrored queue write, doorbell or completion announcement from T0. -/
  | queueMirrorReceive
  /-- R74: Every ABS_PERIOD the master clocks a frame from the absolute encoder. -/
  | absPoll
  /-- R75: A missing start bit within ABS_TIMEOUT discards the frame as a fault. -/
  | absTimeout
  /-- R78: Every 256 ticks the pitch loop corrects its position and rate from the mean edge error. -/
  | pitchLoopUpdate
  /-- R83: 1,024 consecutive updates with a small error bring the loop into lock. -/
  | pitchLock
  /-- R83: 16 consecutive updates with a large error return the loop to acquisition. -/
  | pitchUnlock
  /-- R84: No position edge for MOT_STILL ticks sets the loop rate to zero and stops line issue. -/
  | webStill
  /-- R82: A coast that reaches MOT_COAST lines stops line issue and rejects products in flight. -/
  | encLost
  /-- R85: T1's shadow motion block loads the loop state copied from T0. -/
  | motionStateCopyReceive
  /-- R86: No state copy for 1,024 ticks moves the active motion role to T1. -/
  | motionSourceT1
  /-- R80: The active motion block issues a line with its final fire timestamp, lens models, overspeed states and CMAX. -/
  | lineIssue
  /-- R87: At a line's fire timestamp the current line advances, line-source compares are checked and reject pulses start. -/
  | fireTimestampReached
  /-- R214: 1,024 consecutive good lines move the registration loop from ACQUIRE to LOCK. -/
  | lensLock
  /-- R214: 16 consecutive bad lines return the loop from LOCK to ACQUIRE. -/
  | lensUnlock
  /-- R217: LENS_HOLD lines after the loss, products with LIGHT are rejected. -/
  | lensHoldExpired
  /-- R218: When every cause has ended the loop enters REACQUIRE. -/
  | lensReacquireEnter
  /-- R215: No lock within LENS_ACQ_LINES lines is reported. -/
  | lensAcqFail
  /-- R269: An expired calibration is reported at expiry and again at each local midnight. -/
  | colourCalDue
  /-- R168: The calendar master rolls over a second, is stamped, and applies pending steps and daylight changes. -/
  | calSecondRollover
  /-- R169: No announcements for CAL_HOLD seconds lets the calendar free-run. -/
  | calDisciplineLost
  /-- R170: A slew that has removed its whole correction ends. -/
  | calSlewEnd
  /-- R370: Every 10 ms the host controller captures a preserve into T1's DRAM slot. -/
  | preserveCapture
  /-- R370: Every TWN_PRES_FLASH seconds a preserve is written to the flash journal. -/
  | preserveFlashWrite
  /-- R379: TWN_HOLDOFF after T0 reaches PAIRED, the lead hands back to T0. -/
  | takebackStart
  /-- R380: At H + 16,000 the giving tile stops posting and becomes standby lead. -/
  | handoverEnd
  /-- R443: The last firing line of the last product is sent, and the job becomes IDLE. -/
  | jobDrainEnd
  /-- R568: An assertion of SYS_RST_L, or a brown-out, stops every tile's frames and resets the package. -/
  | coldReset
  /-- R577: T0 not through IMAGE within 200 ms lets T1 claim the flash and take the lead. -/
  | bootImageTimeout
  /-- R582: Every 10 minutes a tally record is written to the flash journal. -/
  | tallyRecordWrite
  /-- R591: A tile not PAIRED within UPD_TIMEOUT of SVC.UPDATE fails the update. -/
  | updateTimeout
  /-- R613: SMBus command 0x01 returns the highest filtered temperature among the tiles. -/
  | smbReadTemp
  /-- R613: SMBus command 0x02 returns T0's boot status. -/
  | smbReadBoot
  /-- R613: SMBus command 0x03 returns T0's last VBAT reading. -/
  | smbReadVbat
  /-- R613: SMBus command 0x04 returns the lead epoch. -/
  | smbReadEpoch
  /-- R613: An Alert Response Address cycle releases SMB_ALERT_L. -/
  | smbAlertResponse
  /-- R374: After a takeover, the DRAM preserve is loaded and the host controller firmware on T1 finishes its cold start, so ring recovery and queue resumption can proceed. -/
  | hostControllerColdStartDone
  deriving DecidableEq, Repr

end Sys2Proof
end

