-- ==== Sys2Proof/Decode.lean ====
section
/-! DEFINITION. The words of spec/opcode_table.json. The table gives no row any bits: its rows are commands (packets,
register accesses and events), and none is spelled by a word. -/

namespace Sys2Proof

/-- The command that a word of nbits bits spells by the table's bits: none, since the table gives no row bits. -/
def decodeTableWord (_nbits _w : Nat) : Option Instr := none

end Sys2Proof
end

