-- ==== Sys2Proof/Config.lean ====
section
/-! DEFINITION. What the spec leaves open: free values, as constants without a body. Nothing can be proved about what
they are; every statement holds whatever they are. -/

namespace Sys2Proof

/-- A free natural number, drawn by number (log 4). -/
opaque Config.freeNat : Nat → Nat
/-- A free integer, drawn by number (log 4). -/
opaque Config.freeInt : Nat → Int
/-- The bytes into which an event's DATA values pack: the field widths are not given (14 R461; log 5). -/
opaque Config.eventData : Nat → List Nat → List Byte
/-- The PARM ID of the status item that a report of an opcode gives at an index: the numbers are not given (13 R437,
R438; log 6). -/
opaque Config.statusId : Nat → Nat → Nat
/-- The VALUE bytes of a status item of a report: lengths and record layouts are not given (13 R437, R438; log 6). -/
opaque Config.statusValue : Nat → Nat → List Int → List Byte
/-- The FMT code of a status item of a report (13 R437; log 6). -/
opaque Config.statusFmt : Nat → Nat → Nat
/-- Is this PARM ID, with an item number of 0x8000 or above, a status item of the part (13 R438; log 6)? -/
opaque Config.isStatusItem : Nat → Bool
/-- WIDTH and UNIT of an item's descriptor in PARM.LIST (13 R453; log 6). -/
opaque Config.descWidth : Nat → Nat
/-- UNIT of an item's descriptor in PARM.LIST: the ASCII spelling of units is not given (13 R453; log 6). -/
opaque Config.descUnit : Nat → List Byte
/-- The descriptors of the status items that PARM.LIST gives for a selector: the items are not given (13 R438, R453; log 6). -/
opaque Config.statusList : Nat → List Byte
/-- The bytes of a preserve's section bodies, private to the firmware (11 R371; log 13). -/
opaque Config.presSection : Nat → Nat → List Byte
/-- The cause value in the data of LEAD_TAKEOVER and LEAD_RETURNED for a reason: the codes are not given (11 R387;
log 41). Reasons: 0 silent partner, 1 REFCLK, 2 PLL, 3 watchdog, 4 a lead domain dropped, 5 boot, 6 TWIN.LEAD,
7 takeback. -/
opaque Config.leadCause : Nat → Nat
/-- The device address at which the DRAM ring of a row begins on a tile (tile, row key): the layout of the device-owned
region is not given (09 R287, R288; log 42). -/
opaque Config.ringBase : Nat → Nat → Nat
/-- The sink connected to a DisplayPort port (port, sinks connected before it) declares Adaptive-Sync (17 R518; log 47). -/
opaque Config.adaptiveSync : Nat → Nat → Bool
/-- The cause value of DSP_CONV_BAD (0) and DSP_SRC_BAD (1): the codes are not given (17 R537; log 50). -/
opaque Config.dspCause : Nat → Nat
/-- The cause value in the data of NODE_LEFT and NODE_REFUSED: 0 STATUS, 1 PLANNED, 2 a module removed, 3 LEAD, 4 PEND,
5 DEPTH, 6 SEGS; the codes are not given (10 R345; log 52). -/
opaque Config.nodeCause : Nat → Nat
/-- The package's own UID as a WyrelLink node, fixed by its maker (10 R329, R336; log 53). -/
opaque Config.packageUid : Nat
/-- SHA-256 (FIPS 180-4) of a list of bytes, outside this spec (19 R575; log 44). -/
opaque Config.sha256 : List Byte → List Byte
/-- ECDSA P-256 verification (FIPS 186-5): public key, message digest, signature; outside this spec (19 R575; log 44). -/
opaque Config.ecdsaOk : List Byte → List Byte → List Byte → Bool
/-- The key hash fused at manufacture (19 R575; 20 R614; log 44). -/
opaque Config.fusedKeyHash : List Byte
/-- The security version floor fused at manufacture (19 R575; log 44). -/
opaque Config.fusedSvn : Nat
/-- The fuses of a tile read back with good parity (19 R575; log 44). -/
opaque Config.fusesGood : Nat → Bool

end Sys2Proof
end

