-- ==== Sys2Proof/Machine/State.lean ====
section
/-! DEFINITION. The state of one Garad package as plain data: every register, buffer, counter, mode and pin the spec
gives it, the far ends that rows of the table make act (hubs and other nodes), and the queue of waiting commands.
Each field's docstring gives its width, its source in spec/ and its value at reset. State.reset is the package right
after the cold reset of R568, every tile in its boot stage ROM. -/

namespace Sys2Proof.Machine

/-- A sparse table keyed by naturals, keys strictly rising and no entry equal to the table's default value. -/
abbrev NMap (α : Type) := List (Nat × α)
/-- Values of PARM items by PARM ID, in the canonical form of NMap over each item's reset value. -/
abbrev PMap := NMap Int
/-- Memory by byte address (R101, R392). -/
abbrev Mem := NMap Byte

/-- The three parts of the family (R1). -/
inductive Part where
  | ga402 | ga404 | ga408
  deriving DecidableEq, Repr

/-- Faults of the model. -/
inductive Fault where
  /-- Raised by the operation onTile (and its kin for ports and twins) when a command names a tile, twin or port that
  the part does not have (R1, R16): such a command cannot occur. Safe: the model stops where no hardware acts. -/
  | absentUnit
  deriving DecidableEq, Repr

/-- Refusals of the model. -/
inductive Refusal where
  /-- Raised by Machine/Dispatch.lean for a command that has no meaning yet. Safe. -/
  | notModelled (mnemonic : String)
  deriving DecidableEq, Repr

/-! ## Event router (chapter 14) -/

/-- One source of a tile's event router: EVR_SRC_CFG, EVR_SRC_TGT, EVR_SRC_STAT (14 R474). -/
structure EvrSrc where
  /-- EN. Width: 1. Source: 14 R474. Reset: 0. -/
  en : Bool
  /-- KIND, 1 cores. Width: 1. Source: 14 R474. Reset: 0. -/
  kind : Bool
  /-- WAKE_EN. Width: 1. Source: 14 R474. Reset: 0. -/
  wakeEn : Bool
  /-- CORES. Width: 4. Source: 14 R474. Reset: 0. -/
  cores : Nat
  /-- WAKE, stored as written (R12). Width: 6. Source: 14 R474. Reset: 0x3F. -/
  wake : Nat
  /-- PRI. Width: 8. Source: 14 R474. Reset: 0. -/
  pri : Nat
  /-- HOSTS. Width: 32. Source: 14 R474. Reset: 0. -/
  hosts : Nat
  /-- COUNT, saturating. Width: 16. Source: 14 R460, R474. Reset: 0. -/
  count : Nat
  /-- ACTIVE. Width: 1. Source: 14 R474. Reset: 0. -/
  active : Bool
  /-- PEND. Width: 1. Source: 14 R474. Reset: 0. -/
  pend : Bool
  deriving DecidableEq, Repr

/-- An entry of a take queue (14 R466, R474). -/
structure TakeEntry where
  tile : Nat
  pri : Nat
  src : Nat
  deriving DecidableEq, Repr

/-- A record of the event log; the 16 DATA bytes are kept as the values they pack (14 R461). -/
structure LogRec where
  time : Nat
  line : Nat
  src : Nat
  tile : Nat
  data : List Nat
  deriving DecidableEq, Repr

/-- A control core as an event target (14 R464, R474). -/
structure CoreTgt where
  /-- EVR_CORE_CPRI.CPRI. Width: 8. Source: 14 R474. Reset: 0. -/
  cpri : Nat
  /-- EVR_CORE_CPRI.SLEEP. Width: 1. Source: 14 R474. Reset: 0. -/
  sleep : Bool
  /-- The core's take queue. Width: 16 entries. Source: 14 R464. Reset: empty. -/
  queue : List TakeEntry
  deriving DecidableEq, Repr

/-- A host target (14 R474). -/
structure HostTgt where
  /-- EVR_HT_CTL.EN. Width: 1. Source: 14 R474. Reset: 0. -/
  en : Bool
  /-- EVR_HT_CTL.SLEEP. Width: 1. Source: 14 R474. Reset: 0. -/
  sleep : Bool
  /-- EVR_HT_CTL.VECN. Width: 2. Source: 14 R474. Reset: 0. -/
  vecn : Nat
  /-- EVR_HT_CTL.VEC. Width: 11. Source: 14 R474. Reset: 0. -/
  vec : Nat
  /-- EVR_HT_CPRI.CPRI. Width: 8. Source: 14 R474. Reset: 0. -/
  cpri : Nat
  /-- The target's take queue. Width: 16 entries. Source: 14 R464. Reset: empty. -/
  queue : List TakeEntry
  deriving DecidableEq, Repr

/-- The wake shadow of one source: its number, its first tick and its further occurrences (14 R472). -/
structure ShadowRec where
  src : Nat
  first : Nat
  more : Nat
  data : List Nat
  deriving DecidableEq, Repr

/-- One tile's event router (chapter 14). -/
structure Evr where
  /-- EVR_CTL.EN. Width: 1. Source: 14 R474. Reset: 0. -/
  en : Bool
  /-- EVR_STAT.BADDONE, saturating. Width: 16. Source: 14 R467, R474. Reset: 0. -/
  baddone : Nat
  /-- EVR_STAT.RESTORED. Width: 1. Source: 14 R472, R474. Reset: 0. -/
  restored : Bool
  /-- EVR_LOGCNT, wrapping. Width: 32. Source: 14 R474. Reset: 0. -/
  logcnt : Nat
  /-- EVR_LOGLOST, saturating. Width: 32. Source: 14 R472, R474. Reset: 0. -/
  loglost : Nat
  /-- EVR_FILT(i).EDGE. Width: 4 x 2. Source: 14 R470, R474. Reset: 0. -/
  edge : Vector Nat 4
  /-- EVR_FILT(i).FILT. Width: 4 x 16. Source: 14 R470, R474. Reset: 0x00FA. -/
  filt : Vector Nat 4
  /-- The four control cores as targets 32 to 35. Width: 4. Source: 14 R457. Reset: idle, awake, empty. -/
  cores : Vector CoreTgt 4
  /-- EVR_PRIGROUP(k).MAP. Width: 8 x 32. Source: 14 R462, R474. Reset: 0xFFFF_FFFF each. -/
  prigroup : Vector Nat 8
  /-- The 192 sources. Width: 192. Source: 14 R457. Reset: as EvrSrc. -/
  srcs : Vector EvrSrc 192
  /-- The event log, oldest first. Width: 1,024 records. Source: 14 R461. Reset: empty. -/
  log : List LogRec
  /-- Round-robin pointer over the cores: the core last chosen. Width: 2. Source: 14 R465. Reset: 3 (DESIGN CHOICE, log 8). -/
  rr : Nat
  /-- Sources passed over and not yet reconsidered. Width: set of sources. Source: 14 R463, R469. Reset: empty. -/
  passed : List Nat
  /-- The router's state is in the retention registers of PD_AON, PD_CTL being off. Width: 1. Source: 14 R472. Reset: 0. -/
  retained : Bool
  /-- The pending shadow of PD_AON. Width: 192 bits with first ticks. Source: 14 R472. Reset: empty. -/
  shadow : List ShadowRec
  deriving DecidableEq, Repr

/-- The host delivery stage and its mirror on the standby lead (14 R463, R473). -/
structure HostStage where
  /-- The host-target registers of the lead. Width: 32. Source: 14 R473, R474. Reset: as HostTgt. -/
  targets : Vector HostTgt 32
  /-- Round-robin pointer: the host target last chosen. Width: 5. Source: 14 R465. Reset: 31 (DESIGN CHOICE, log 8). -/
  rr : Nat
  /-- Offers received: tile and source. Width: list. Source: 14 R463. Reset: empty. -/
  offers : List (Nat × Nat)
  /-- Offers passed over and not yet reconsidered. Width: list. Source: 14 R469. Reset: empty. -/
  passed : List (Nat × Nat)
  deriving DecidableEq, Repr

/-! ## DRAM controller (chapter 15) -/

/-- A request to DRAM: its port (R487), device address and bytes, and the row-line of which it fetches a granule, if any. -/
structure DramReq where
  port : Nat
  da : Nat
  bytes : Nat
  /-- Tick at which its port made it. -/
  at_ : Nat
  /-- Row key, web line and device address of the row-line it fetches from, with the firing line it is for. -/
  rowLine : Option (Nat × Nat × Nat × Nat)
  deriving DecidableEq, Repr

/-- One tile's DRAM controller (chapter 15). -/
structure Memc where
  /-- MEMC_CFG.RATE_A, coded. Width: 4. Source: 15 R498. Reset: 5. -/
  rateA : Nat
  /-- MEMC_CFG.RATE_B, coded. Width: 4. Source: 15 R498. Reset: 3. -/
  rateB : Nat
  /-- MEMC_CFG.SET, the active timing set. Width: 1. Source: 15 R498. Reset: 0. -/
  set : Nat
  /-- MEMC_CFG.RANKS, 1 for two ranks. Width: 1. Source: 15 R498. Reset: 0. -/
  ranks : Nat
  /-- MEMC_CFG.ROWBITS. Width: 5. Source: 15 R498. Reset: 0. -/
  rowbits : Nat
  /-- MEMC_STAT.STATE: 0 off, 1 training, 2 running, 3 self-refresh. Width: 2. Source: 15 R498. Reset: 0. -/
  st : Nat
  /-- MEMC_STAT.PANIC and the tick since which each port holds it. Width: 3. Source: 15 R489, R498. Reset: none. -/
  panic : Vector (Option Nat) 3
  /-- Times MEMC_PANIC_LONG was raised in the present PANIC of each port. Width: 3. Source: 15 R489. Reset: 0. -/
  panicLongs : Vector Nat 3
  /-- Tick from which the present PANIC of each port counts in MEMC_PANIC_T. Width: 3 x 64. Source: 15 R489, R498. Reset: 0. -/
  panicFrom : Vector Nat 3
  /-- MEMC_STAT.PAUSE: kind of the pause in progress (0 frequency, 1 retraining) and its start tick. Width: 1. Source: 15 R491, R498. Reset: none. -/
  pause : Option (Nat × Nat)
  /-- MEMC_STAT.FREQ_PEND. Width: 1. Source: 15 R493, R498. Reset: 0. -/
  freqPend : Bool
  /-- MEMC_STAT.TRAIN_PEND. Width: 1. Source: 15 R492, R498. Reset: 0. -/
  trainPend : Bool
  /-- MEMC_HASH(i).MASK in use. Width: 4 x 21. Source: 15 R496, R498. Reset: 0x1_1111, 0x2_2222, 0x4_4444, 0x8_8888. -/
  hash : Vector Nat 4
  /-- Declared tolerances of SCAN and PROOF in tolerance mode. Width: 2 x 32. Source: 15 R490. Reset: none. -/
  tolDecl : Vector (Option Nat) 3
  /-- MEMC_PANIC_T(p) accumulated before the present PANIC, saturating. Width: 3 x 32. Source: 15 R489, R498. Reset: 0. -/
  panicT : Vector Nat 3
  /-- MEMC_CE_CNT, saturating. Width: 32. Source: 15 R482, R498. Reset: 0. -/
  ceCnt : Nat
  /-- MEMC_UE_CNT, saturating. Width: 32. Source: 15 R483, R498. Reset: 0. -/
  ueCnt : Nat
  /-- MEMC_CE_ADDR. Width: 40. Source: 15 R482, R498. Reset: 0. -/
  ceAddr : Nat
  /-- MEMC_UE_ADDR. Width: 40. Source: 15 R483, R498. Reset: 0. -/
  ueAddr : Nat
  /-- Tick at which MEMC_CE was last raised since MEMC_CLR.CE; none: armed. Width: 64. Source: 15 R482. Reset: none. -/
  ceLast : Option Nat
  /-- MEMC_PAUSE.FORCED, saturating. Width: 16. Source: 15 R494, R498. Reset: 0. -/
  forced : Nat
  /-- MEMC_PAUSE.MAX. Width: 16. Source: 15 R498. Reset: 0. -/
  pauseMax : Nat
  /-- Bytes moved per channel with their ticks, for MEMC_BW(c). Width: 4 lists. Source: 15 R498. Reset: empty. -/
  moved : Vector (List (Nat × Nat)) 4
  /-- The channel queues, in arrival order. Width: 4 x 32 requests. Source: 15 R485. Reset: empty. -/
  chq : Vector (List DramReq) 4
  /-- Requests that wait at each port for the arbiter, oldest first. Width: 6 lists. Source: 15 R487, R488. Reset: empty. -/
  waitq : Vector (List DramReq) 6
  /-- The round-robin of each channel: the port whose turn it is, and its admissions in the turn. Width: 4 x 7. Source: 15 R488. Reset: port 0, 0 (DESIGN CHOICE, log 128). -/
  turn : Vector (Nat × Nat) 4
  /-- Open row of each bank, keyed 16 * channel + bank. Width: 64 banks. Source: 15 R485. Reset: all closed. -/
  openRow : NMap Nat
  /-- Refreshes done per bank, keyed as openRow. Width: 64 banks. Source: 15 R485. Reset: 0. -/
  refreshed : NMap Nat
  /-- Tick at which the next retraining falls due. Width: 64. Source: 15 R492. Reset: none (not running). -/
  trainDue : Option Nat
  /-- MEMC_TRAIN_DEFER as the retraining that is due took it, ms. Width: 7. Source: 15 R494, R496; 00 R14. Reset: 0. -/
  deferMs : Nat
  /-- Words stored with a poison code, or found uncorrectable (device addresses of 8-byte words). Width: set. Source: 15 R481, R483. Reset: empty. -/
  poison : List Nat
  /-- Counts of the patrol scrub pass in progress: correctable, uncorrectable. Width: 2. Source: 15 R484. Reset: 0. -/
  scrub : Nat × Nat
  /-- MEMC_SCRUB as the pass in progress took it, h; 0 without one. Width: 8. Source: 15 R484, R496; 00 R14. Reset: 0. -/
  scrubH : Nat
  /-- MR4 out of range, per channel. Width: 4. Source: 15 R495. Reset: 0. -/
  hot : Vector Bool 4
  deriving DecidableEq, Repr

/-! ## Serial lanes (chapter 16) -/

/-- A lane test in progress (16 R510 to R513). -/
structure LaneTest where
  seq : Nat
  pattern : Nat
  loopback : Nat
  one : Bool
  burst : Bool
  duration : Nat
  user : Nat
  start : Nat
  injected : Bool
  deriving DecidableEq, Repr

/-- A frame handed to a lane (09 R294, 10 R310 to R339). -/
structure OutFrame where
  tile : Nat
  lane : Nat
  /-- TYPE of R310. -/
  type : Nat
  /-- DST of R310. -/
  node : Nat
  /-- The frame's remaining fields in the order of its table. -/
  fields : List Nat
  deriving DecidableEq, Repr

/-- One serial lane of a tile: its register set and link state (chapter 16, 10 R306 to R311). -/
structure LaneHw where
  /-- LNK_STAT.STATE: 0 OFF, 1 TRAINING, 2 UP, 3 DOWN, 4 TEST. Width: 4. Source: 16 R503, R516. Reset: 0. -/
  st : Nat
  /-- LNK_STAT.RATE. Width: 1. Source: 16 R516. Reset: 1. -/
  rate : Nat
  /-- LNK_STAT.LOCK. Width: 1. Source: 16 R516, 10 R307. Reset: 0. -/
  lock : Bool
  /-- LNK_STAT.RXSLP. Width: 2. Source: 16 R506, R516. Reset: 0. -/
  rxslp : Nat
  /-- LNK_STAT.TXSLP. Width: 2. Source: 16 R506, R516. Reset: 0. -/
  txslp : Nat
  /-- LNK_STAT.MARGIN. Width: 1. Source: 16 R509, R516. Reset: 0. -/
  margin : Bool
  /-- LNK_FAULT: ELASTIC, TRAIN, DRIVER, LOCK in bits 3 to 0. Width: 4. Source: 16 R516. Reset: 0. -/
  fault : Nat
  /-- LNK_DISC(l, k): CHECK, FORMAT, BROKEN, saturating. Width: 3 x 32. Source: 16 R516, 10 R311. Reset: 0. -/
  disc : Vector Nat 3
  /-- LNK_FILL_DEL, wrapping. Width: 32. Source: 16 R501, R516. Reset: 0. -/
  fillDel : Nat
  /-- LNK_FILL_INS, wrapping. Width: 32. Source: 16 R501, R516. Reset: 0. -/
  fillIns : Nat
  /-- LNK_EYE.WIDTH. Width: 8. Source: 16 R509, R516. Reset: 0. -/
  eyeW : Nat
  /-- LNK_EYE.HEIGHT. Width: 16. Source: 16 R509, R516. Reset: 0. -/
  eyeH : Nat
  /-- LNK_EQ.CTLE. Width: 4. Source: 16 R508, R516. Reset: 0. -/
  ctle : Nat
  /-- LNK_EQ.TXMAIN. Width: 6. Source: 16 R508, R516. Reset: 0. -/
  txMain : Nat
  /-- LNK_EQ.TXPOST. Width: 5. Source: 16 R508, R516. Reset: 0. -/
  txPost : Nat
  /-- LNK_EQ.TXPRE. Width: 4. Source: 16 R508, R516. Reset: 0. -/
  txPre : Nat
  /-- LNK_TESTERR, saturating. Width: 32. Source: 16 R516. Reset: 0. -/
  testErr : Nat
  /-- LNK_TESTST.LOSS, saturating. Width: 16. Source: 16 R511, R516. Reset: 0. -/
  testLoss : Nat
  /-- LNK_TESTST.LOCKED. Width: 1. Source: 16 R511, R516. Reset: 0. -/
  testLocked : Bool
  /-- LNK_TESTST.DONE. Width: 1. Source: 16 R516. Reset: 0. -/
  testDone : Bool
  /-- Blocks in the elastic buffer. Width: 7. Source: 16 R501. Reset: 32 (DESIGN CHOICE, log 8: the centre). -/
  elastic : Nat
  /-- The LINK.LANE action in progress: the packet and the action code. Width: one. Source: 16 R507. Reset: none. -/
  action : Option (Nat × Nat)
  /-- LNK_TESTST.RUNNING with the running test. Width: one. Source: 16 R510, R516. Reset: none. -/
  test : Option LaneTest
  /-- Tick since which the receiver is out of lock while UP. Width: 64. Source: 16 R504. Reset: none. -/
  outSince : Option Nat
  /-- Tick of entry to DOWN, or of the last retraining since, with LNK_AUTO_RETRAIN 1 at that entry. Width: 64. Source: 16 R504, R515. Reset: none. -/
  downAt : Option Nat
  /-- Directions in the course of waking: transmit, receive, with the tick of the wake action. Width: 2. Source: 16 R506. Reset: none. -/
  waking : Vector (Option Nat) 2
  /-- Tick at which the training or retraining in progress began. Width: 64. Source: 16 R503, R504. Reset: none. -/
  trainAt : Option Nat
  /-- First line whose frames the lane carries. Width: 48. Source: 16 R505. Reset: 0. -/
  fromLine : Nat
  /-- The last sync headers received, newest first: valid or not. Width: 64. Source: 10 R307. Reset: none. -/
  heads : List Bool
  /-- Blocks received in block lock, up to 1,024. Width: 11. Source: 16 R503. Reset: 0. -/
  lockRun : Nat
  /-- The last bits received, for the descrambler. Width: 58. Source: 10 R306. Reset: 0 (DESIGN CHOICE, log 8). -/
  rxScr : Nat
  /-- The bytes of the frame in progress at the receiver. Width: up to 1,536 bytes. Source: 10 R308. Reset: none. -/
  rxFrame : Option (List Byte)
  /-- The last bits sent, for the scrambler. Width: 58. Source: 10 R306. Reset: 0 (DESIGN CHOICE, log 8). -/
  txScr : Nat
  /-- The blocks of the frame last begun. Width: up to 193 blocks. Source: 10 R306, R308. Reset: none. -/
  tx : List Block
  /-- Blocks sent since the last FILL. Width: 12. Source: 10 R309. Reset: 0. -/
  sinceFill : Nat
  /-- CTRL, EVENT and HELLO frames that wait for the lane, oldest first. Width: list. Source: 09 R295. Reset: empty. -/
  txq : List OutFrame
  deriving DecidableEq, Repr

/-! ## Proof display (chapter 17) -/

/-- The timing block of a display mode with its rate and pacing (17 R519). -/
structure Timing where
  bpc : Nat
  hactive : Nat
  hfp : Nat
  hsync : Nat
  hbp : Nat
  vactive : Nat
  vfp : Nat
  vsync : Nat
  vbp : Nat
  pclk : Nat
  flags : Nat
  vtotalMax : Nat
  bg : Nat
  rate : Nat
  /-- 0 tearing effect, 1 fallback events. -/
  pacing : Nat
  deriving DecidableEq, Repr

/-- A registered product (04 R136). -/
structure Product where
  lane : Nat
  num : Nat
  first : Nat
  /-- First line of the next product of the lane, once registered. -/
  next : Option Nat
  /-- The job it belongs to (04 R160). -/
  job : Nat
  /-- Items in force for it, fixed at its arm line (04 R153). -/
  items : PMap
  /-- The evaluated strings: field and glyphs (05 R178). -/
  strings : List (Nat × List Nat)
  /-- Layers that print blank, and layers whose symbol surface is dropped (04 R158). -/
  blankLayers : List Nat
  armed : Bool
  blank : Bool
  rejected : Bool
  clipped : List Nat
  /-- Anchor of the integral window (06 R208). -/
  anchor : Option (Int × Int)
  zver : Nat
  deriving DecidableEq, Repr

/-- What a port shows after a proof flip (17 R521, R525, R527). -/
structure ProofView where
  /-- DISP.FLIP source: 0 live proof, 1 raster surface. -/
  source : Nat
  surface : Nat
  /-- The sampled product of PNL_LANE: lane and number (R521). -/
  sample : Option (Nat × Nat)
  /-- That product as it was sampled: its LIGHT binding and its evaluated strings (R521). -/
  prod : Option Product
  /-- The proof-path layer items, the panel items and the DSP items latched (R527). -/
  items : PMap
  /-- PNL_VTAB as latched (R220). -/
  vtab : List Nat
  /-- M and C of the conversion in force, empty for the built-in one (R523). -/
  conv : List Nat
  deriving DecidableEq, Repr

/-- One DisplayPort port, DP0 on T0 or DP1 on T1 (chapter 17). -/
structure DspPort where
  /-- DSP_STAT.STATE: 0 off, 1 idle, 2 training, 3 black, 4 running, 5 LINKLOST. Width: 3. Source: 17 R539. Reset: 0. -/
  st : Nat
  /-- DSP_STAT.RATE. Width: 2. Source: 17 R539. Reset: 0. -/
  rate : Nat
  /-- DSP_STAT.HPD. Width: 1. Source: 17 R539. Reset: 0. -/
  hpd : Bool
  /-- DSP_STAT.PACING. Width: 1. Source: 17 R539. Reset: 0. -/
  pacing : Nat
  /-- DSP_STAT.HALVED. Width: 1. Source: 17 R530, R539. Reset: 0. -/
  halved : Bool
  /-- DSP_STAT.TE_LOST. Width: 1. Source: 17 R528, R539. Reset: 0. -/
  teLost : Bool
  /-- DSP_STAT.PANIC. Width: 1. Source: 17 R531, R539. Reset: 0. -/
  panic : Bool
  /-- DSP_FRAME.FRAME. Width: 32. Source: 17 R526, R539. Reset: 0. -/
  frame : Nat
  /-- Tick at which the frame, or the first blanking of a timing, began; DSP_POS.LINE follows from it. Width: 64. Source: 17 R526, R539. Reset: 0. -/
  frameAt : Nat
  /-- Display line at that tick: 0, or VACTIVE where a timing begins in blanking. Width: 13. Source: 17 R533, R539. Reset: 0. -/
  lineBase : Nat
  /-- Place in the frame: 0 before its proof flip, 1 after it, 2 after the end of line VTOTAL - 1. Width: 2. Source: 17 R527 to R529. Reset: 2. -/
  phase : Nat
  /-- DSP_TE_EDGE and DSP_LINE_MATCH in force for the frame. Width: 1 + 13. Source: 17 R538. Reset: 0, 0. -/
  frameSet : Nat × Nat
  /-- DSP_LINE_MATCH already raised in this frame. Width: 1. Source: 17 R529. Reset: 0. -/
  matched : Bool
  /-- Sinks connected so far: HPD rises. Width: count. Source: 17 R535. Reset: 0. -/
  sink : Nat
  /-- DSP_UNDER.LINES, saturating. Width: 32. Source: 17 R532, R539. Reset: 0. -/
  under : Nat
  /-- DSP_FILLPIX.PIXELS, saturating. Width: 32. Source: 17 R532, R539. Reset: 0. -/
  fillpix : Nat
  /-- DSP_LINK.TRAINS, saturating. Width: 16. Source: 17 R539. Reset: 0. -/
  trains : Nat
  /-- DSP_LINK.LANES: 0 or 4. Width: 3. Source: 17 R539. Reset: 0. -/
  lanes : Nat
  /-- The timing in force. Width: one block. Source: 17 R519. Reset: none. -/
  timing : Option Timing
  /-- A mode change in progress: the new timing and the step reached: 1 frame completing, 2 and 3 black frames, 4 training, 5 first
  new blanking. Width: one. Source: 17 R533. Reset: none. -/
  change : Option (Timing × Nat)
  /-- Retraining for the previous timing after a failed mode change. Width: 1. Source: 17 R534. Reset: 0. -/
  fallback : Bool
  /-- What the port shows. Width: one. Source: 17 R527. Reset: live proof of nothing (DESIGN CHOICE, log 8). -/
  shown : ProofView
  /-- The pending items as the last proof flip found them. Width: PARM items. Source: 17 R527, R539. Reset: none. -/
  seen : PMap
  /-- Tick and blanking line of the accepted TE edge that releases the next frame. Width: one. Source: 17 R528. Reset: none. -/
  te : Option (Nat × Nat)
  /-- Accepted TE edges since the last frame while halved. Width: 1. Source: 17 R530. Reset: 0. -/
  teSkip : Nat
  /-- The last line of this frame that underran. Width: 13. Source: 17 R532. Reset: none. -/
  underSeen : Option Nat
  /-- Tick of the last LINKLOST entry or retraining. Width: 64. Source: 17 R535. Reset: 0. -/
  lostAt : Nat
  /-- The proof staging area: data received from other spans, keyed layer and row. Width: within 640 MiB. Source: 17 R524. Reset: empty. -/
  staging : List (Nat × Nat × List Byte)
  /-- The three codes with which the last frame's active lines ended, as sent. Width: 3 x 10. Source: 17 R532. Reset: none (0 each). -/
  last : List Nat
  /-- The three codes that fill the rest of the line that underran last, as sent. Width: 3 x 10. Source: 17 R532. Reset: none (0 each). -/
  fill : List Nat
  deriving DecidableEq, Repr

/-- A DISP.FLIP: its packet (0 once it has completed), the ports that have not latched it, the master port's first frame that
shows it, and what it selects (17 R527). -/
structure DispFlip where
  seq : Nat
  left : Nat
  frame : Nat
  source : Nat
  surface : Nat
  deriving DecidableEq, Repr

/-- A DISP.MODE in progress: its packet, its timing, the ports still changing, those that failed, and the master port's first
new frame (17 R533, R534). -/
structure DispMode where
  seq : Nat
  timing : Timing
  left : Nat
  failed : Nat
  frame : Nat
  deriving DecidableEq, Repr

/-! ## Heat and trim (chapter 18) -/

/-- One tile's heat block (18 R540 to R548, R565). -/
structure Thm where
  /-- The last four in-range conversions, newest first, 0.1 degC. Width: 4 x 16 signed. Source: 18 R540. Reset: empty. -/
  conv : List Int
  /-- THM_TEMP.CODE. Width: 16. Source: 18 R565. Reset: 0. -/
  code : Nat
  /-- THM_TEMP.TEMP, filtered. Width: 16 signed. Source: 18 R540, R565. Reset: 0. -/
  temp : Int
  /-- THM_MAX.MAX. Width: 16 signed. Source: 18 R565. Reset: 0x8000. -/
  max : Int
  /-- Consecutive conversions out of range. Width: 2. Source: 18 R542. Reset: 0. -/
  badRun : Nat
  /-- Consecutive conversions in range while the sensor is bad. Width: 7. Source: 18 R542. Reset: 0. -/
  goodRun : Nat
  /-- THM_STAT.SENSOR_BAD. Width: 1. Source: 18 R542, R565. Reset: 0. -/
  sensorBad : Bool
  /-- THM_STAT.WARN. Width: 1. Source: 18 R543, R565. Reset: 0. -/
  warn : Bool
  /-- THM_STAT.SHUTDOWN. Width: 1. Source: 18 R547, R565. Reset: 0. -/
  shut : Bool
  /-- THM_STAT.STEP. Width: 3. Source: 18 R544, R565. Reset: 0. -/
  step : Nat
  /-- THM_STAT.HELD. Width: 1. Source: 18 R546, R565. Reset: 0. -/
  held : Bool
  /-- THM_STAT.SHED: actions applied, bit i for action i + 1. Width: 4. Source: 18 R545, R565. Reset: 0. -/
  shed : Nat
  /-- Recorded saving of each action, 0.1 W, and the estimate and tick at its application. Width: 4. Source: 18 R545. Reset: 0. -/
  saving : Vector Nat 4
  /-- Estimate and tick at which each action was applied, until its saving is measured. Width: 4. Source: 18 R545. Reset: none. -/
  applied : Vector (Option (Nat × Nat)) 4
  /-- THM_POWER.LIMIT. Width: 16. Source: 18 R544, R565. Reset: 0x012C. -/
  limit : Nat
  /-- THM_POWER.EST. Width: 16. Source: 18 R545, R565. Reset: 0. -/
  est : Nat
  /-- THM_CNT.THROTTLE, saturating. Width: 16. Source: 18 R565. Reset: 0. -/
  cntThrottle : Nat
  /-- THM_CNT.SHUTDOWN, saturating. Width: 8. Source: 18 R565. Reset: 0. -/
  cntShut : Nat
  /-- THM_CNT.SENSOR, saturating. Width: 8. Source: 18 R565. Reset: 0. -/
  cntSensor : Nat
  /-- Start tick of the step interval timer; none: stopped. Width: 64. Source: 18 R544. Reset: none. -/
  timer : Option Nat
  /-- THM_STEP_T as the running interval took it, ms. Width: 10. Source: 18 R544, R563; 00 R14. Reset: 0. -/
  stepT : Nat
  deriving DecidableEq, Repr

/-- A trim set: the die temperature of its run and the values of each class (18 R554). -/
structure TrimSet where
  temp : Int
  values : List (Nat × List Int)
  deriving DecidableEq, Repr

/-- One tile's trim block (18 R553 to R566). -/
structure Trm where
  /-- TRM_STAT.PEND. Width: 4. Source: 18 R558, R566. Reset: 0. -/
  pend : Nat
  /-- TRM_STAT.RUNNING. Width: 4. Source: 18 R566. Reset: 0. -/
  running : Nat
  /-- TRM_STAT.FAIL. Width: 4. Source: 18 R557, R566. Reset: 0. -/
  fail : Nat
  /-- TRM_LAST.RUNS, saturating. Width: 16. Source: 18 R566. Reset: 0. -/
  runs : Nat
  /-- TRM_LAST.TEMP. Width: 16 signed. Source: 18 R566. Reset: 0. -/
  lastTemp : Int
  /-- TRM_ADC.RESID. Width: 16 signed. Source: 18 R560, R566. Reset: 0. -/
  resid : Int
  /-- TRM_SETS with the sets held. Width: 8 sets. Source: 18 R554, R566. Reset: none. -/
  sets : List TrimSet
  /-- TRM_DRAM(c), as 32-bit words. Width: 4 x 32. Source: 18 R561, R566. Reset: 0. -/
  dram : Vector Nat 4
  /-- Temperature at which the trim values were last applied. Width: 16 signed. Source: 18 R555. Reset: none. -/
  appliedTemp : Option Int
  /-- The values in force, keyed by class 0 to 2, and 16 + i for the encoder input i. Width: lists. Source: 18 R553. Reset: empty (DESIGN CHOICE, log 8: factory values are not given). -/
  inForce : List (Nat × List Int)
  /-- The corrections that wait for their boundary, keyed as inForce. Width: lists. Source: 18 R558. Reset: empty. -/
  waiting : List (Nat × List Int)
  /-- The classes of the run in progress and its packets; an automatic run carries none. Width: list. Source: 18 R557. Reset: none. -/
  run : Option (Nat × List Nat)
  /-- SVC.TRIM commands that wait for the run in progress: packet and classes. Width: list. Source: 18 R557. Reset: empty. -/
  queue : List (Nat × Nat)
  /-- The diode offset of the point trim with its THM_TREF. Width: 2 x 16 signed. Source: 18 R562. Reset: 0 (DESIGN CHOICE, log 8: factory offset). -/
  diode : Int × Int
  /-- THM_TREF, TRM_VREF and TRM_ADC_TOL as the run in progress took them. Width: 16 + 21 + 13. Source: 18 R563; 00 R14. Reset: 0. -/
  refs : Int × Nat × Nat
  deriving DecidableEq, Repr

/-! ## Boot, flash, tally (chapter 19) -/

/-- The header fields of a firmware image that its acceptance and use need (19 R574). -/
structure Image where
  fwver : Nat
  pclMin : Nat
  pclMax : Nat
  svn : Nat
  parts : Nat
  steps : Nat
  bytes : List Byte
  deriving DecidableEq, Repr

/-- One tile's boot registers and fused or running image data (19 R575 to R595). -/
structure Boot where
  /-- AON_BOOT.STAGE. Width: 4. Source: 19 R576, R595. Reset: 1. -/
  stage : Nat
  /-- AON_BOOT.CAUSE. Width: 8. Source: 19 R575, R595. Reset: 0. -/
  cause : Nat
  /-- AON_BOOT.SLOT: the slot running. Width: 1. Source: 19 R595. Reset: 0. -/
  slot : Nat
  /-- AON_BOOT.AONLOST. Width: 1. Source: 19 R586, R595. Reset: 0. -/
  aonlost : Bool
  /-- The image's compatibility range. Width: 2 x 16. Source: 11 R368, 19 R579. Reset: 0 (DESIGN CHOICE, log 8). -/
  pcl : Nat × Nat
  /-- The tile asked once more for its image. Width: 1. Source: 19 R577. Reset: 0. -/
  asked : Bool
  /-- The tile has reached READY since the last cold start. Width: 1. Source: 19 R592. Reset: 0. -/
  reached : Bool
  /-- PD_AON contents valid (VBAT never below its minimum). Width: 1. Source: 19 R586, R588. Reset: 0 (DESIGN CHOICE, log 8: first power-on). -/
  aonValid : Bool
  /-- PD_AON is supplied by VBAT. Width: 1. Source: 19 R569. Reset: 0. -/
  onBat : Bool
  /-- AON_VBAT.MV. Width: 16. Source: 19 R595. Reset: 0. -/
  vbat : Nat
  /-- AON_VBAT.LOW. Width: 1. Source: 19 R595. Reset: 0. -/
  vbatLow : Bool
  /-- AON_HOURS, 0.1 h, saturating. Width: 32. Source: 19 R595. Reset: 0. -/
  hours : Nat
  /-- Ticks with PD_CTL on not yet counted in hours. Width: 64. Source: 19 R584. Reset: 0. -/
  hoursRest : Nat
  /-- Thermal cycles, saturating. Width: 32. Source: 19 R584, R585. Reset: 0. -/
  cycles : Nat
  /-- The temperature was below TALLY_TC_LO since the last cycle. Width: 1. Source: 19 R585. Reset: 0. -/
  cycleArmed : Bool
  /-- Tally: throttle entries and shutdowns, saturating. Width: 2 x 32. Source: 19 R584. Reset: 0. -/
  tallyHeat : Nat × Nat
  /-- Tally lane totals, per lane: CHECK, FORMAT, BROKEN, entries to DOWN, saturating. Width: 10 x 4 x 32. Source: 19 R584. Reset: 0. -/
  tallyLane : Vector (Vector Nat 4) 10
  /-- Tally: cold starts, saturating. Width: 32. Source: 19 R584. Reset: 0. -/
  coldStarts : Nat
  /-- Tally nozzle fires, keyed by nozzle, saturating. Width: u40 each. Source: 19 R584. Reset: 0. -/
  fires : NMap Nat
  deriving DecidableEq, Repr

/-! ## Raster, delay and scan-out of one tile (chapters 3, 7, 9) -/

/-- A strip buffer of a stream: the strip, its own and partner verdicts (0 pass, a cause otherwise), its raw bytes
once verified, and what its deadline decided (03 R121 to R124). -/
structure StripBuf where
  strip : Nat
  decoding : Bool
  own : Option Nat
  partner : Option Nat
  data : List Byte
  /-- 0 undecided, 1 released, 2 void, 3 blank. -/
  fate : Nat
  /-- CODEC_MEND as it stood when the strip failed (03 R134). -/
  mend : Bool
  deriving DecidableEq, Repr

/-- A strip verdict that the partner has sent (03 R124). -/
structure Verdict where
  sid : Nat
  strip : Nat
  /-- 0 pass, else the cause. -/
  cause : Nat
  /-- It has arrived over the twin link. -/
  arrived : Bool
  deriving DecidableEq, Repr

/-- A stream of surface data in use on a tile (03 R122, R123). -/
structure Stream where
  sid : Nat
  lane : Nat
  layer : Nat
  proof : Bool
  /-- Descriptor address. -/
  surf : Nat
  /-- The packet that bound it, which keeps it while it runs (03 R109). -/
  seq : Nat
  bufs : List StripBuf
  deriving DecidableEq, Repr

/-- A row-line of the delay store (09 R285, R292). -/
structure RowLine where
  web : Nat
  /-- The u64 words: 22 levels each as a base-7 number, with VOIDMARK in bit 62 of word 0 (09 R285). -/
  words : List Nat
  /-- Nozzles of the row-line that an uncorrectable error made bad, counted from its first (09 R292). -/
  bad : List Nat
  deriving DecidableEq, Repr

/-- A firing record (07 R241). -/
structure NozRec where
  h1 : Bool
  h2 : Bool
  idle : Nat
  deriving DecidableEq, Repr

/-- The governor's record of one zone part (07 R246, R248). -/
structure GovPart where
  /-- Governed energies, newest first: line and E. -/
  e : List (Nat × Nat)
  lower : Nat
  drop : Nat
  lastLower : Option Nat
  lastDrop : Option Nat
  deriving DecidableEq, Repr

/-- A counter held by the lead (05 R181). -/
structure Counter where
  /-- cur. Width: 40. Source: 05 R181. Reset: 1 (CNT_VALUE of R196). -/
  cur : Nat
  /-- stopped. Width: 1. Source: 05 R181. Reset: 0. -/
  stopped : Bool
  /-- Local day number and shift code of the last evaluation. Width: 48. Source: 05 R181, R182. Reset: none. -/
  record : Option (Nat × List Nat)
  /-- Used since JOB.ARM, and since JOB.CHANGE. Width: 2. Source: 05 R182. Reset: 0. -/
  usedArm : Nat
  usedChange : Nat
  deriving DecidableEq, Repr

/-- The lens model of a span for a line (06 R199). -/
structure LensModel where
  lat : Nat
  ibase : Nat
  x0 : Int
  px : Nat
  jbase : Nat
  yoff : Nat
  py : Nat
  sk : Int
  deriving DecidableEq, Repr

/-- A per-line state record (11 R354). -/
structure LineRec where
  line : Nat
  cseq : Nat
  flags : Nat
  sig : Nat
  zver : Nat
  /-- Segments this tile left undelivered. -/
  undel : List Nat
  /-- Fired nozzles, keyed as NozRec, with the slot. -/
  fired : List (Nat × Nat)
  /-- Nozzles with an opportunity on the line. -/
  opp : List Nat
  /-- E of each zone part, keyed as GovPart. -/
  wsum : List (Nat × Nat)
  /-- The span's lens model of web line L. -/
  lmodel : Option LensModel
  /-- Counters that the job controller changed at L, on twin 0. -/
  cnt : List (Nat × Counter)
  deriving DecidableEq, Repr

/-- The result of stage 11 for one line: the slots of each segment, and how its frames went. -/
structure FiredLine where
  line : Nat
  /-- Stage 11 has run for every row of the line that this tile computes. -/
  done : Bool
  /-- Firing records of the rows run, as they stood before the line. -/
  recs : NMap NozRec
  /-- Nozzles whose level is not known, bad or under VOIDMARK, keyed as NozRec (09 R292, R299). -/
  unknown : List Nat
  /-- Segment and slots in ascending nozzle. -/
  segs : List (Nat × List Nat)
  /-- Segments whose frame was handed to a lane: segment, lane and the time its last bit leaves, 1/200 tick. -/
  sent : List (Nat × Nat × Nat)
  /-- Segments that went out as VOID, with the cause; 0 where the lane was down and nothing went out. -/
  voided : List (Nat × Nat)
  /-- Rows that ran stage 11 while held (11 R356). -/
  held : List Nat
  deriving DecidableEq, Repr

/-! ## One tile -/

/-- A slot table with its slot energies (07 R244). -/
structure SlotTbl where
  /-- Slot of (level, class) at index 3 * level + class. -/
  map : List Nat
  /-- Energies of slots 0 to 15, grains. -/
  energy : List Nat
  deriving DecidableEq, Repr

/-- A threshold array (07 R234). -/
structure ScreenArr where
  aw : Nat
  ah : Nat
  /-- Cells in storage order, each T1 to T6. -/
  cells : List (List Nat)
  deriving DecidableEq, Repr

/-- A view-map table (06 R204). -/
structure ViewMap where
  cx : Nat
  cy : Nat
  views : Nat
  /-- ENTRY words in storage order. -/
  entries : List Nat
  deriving DecidableEq, Repr

/-- A glyph of a glyph set (05 R189). -/
structure Glyph where
  w : Nat
  h : Nat
  adv : Nat
  bitmap : List Byte
  deriving DecidableEq, Repr

/-- What the commands that copy a block out of job memory wrote into the on-die stores of one tile (03 R616). -/
structure Die where
  /-- Glyph banks. Width: 2 x 1 MiB. Source: 05 R190. Reset: none loaded (DESIGN CHOICE, log 8). -/
  glyphs : Vector (List Glyph) 2
  /-- View-map slots. Width: 8. Source: 06 R204. Reset: none loaded (DESIGN CHOICE, log 8). -/
  viewmap : Vector (Option ViewMap) 8
  /-- Threshold slots. Width: 8. Source: 07 R234. Reset: the built-in array. -/
  screen : Vector ScreenArr 8
  /-- Slot tables in force but for changes still committed to a line, keyed by channel. Width: 12. Source: 07 R244. Reset: the level-to-slot table of R244. -/
  slots : NMap SlotTbl
  deriving DecidableEq, Repr

/-- The twin states (11 R347). -/
inductive TwinSt where
  | off | boot | resync | fill | paired | solo | withdrawn
  deriving DecidableEq, Repr

/-- One tile of the package. -/
structure TileState where
  /-- TIME of the tile less the package master's, in ticks. Width: signed. Source: 01 R41, R42. Reset: 0 (DESIGN CHOICE, log 8). -/
  skew : Int
  /-- Tick of the last comparison with the master. Width: 64. Source: 01 R42. Reset: none. -/
  alignAt : Option Nat
  /-- A tick of TIME to omit (-1) or to add (1) at the next tick. Width: 2 signed. Source: 01 R42. Reset: 0. -/
  slew : Int
  /-- The highest TIME the tile has counted to at a comparison, below which it never runs back. Width: 64. Source: 01 R41. Reset: 0. -/
  timeMin : Nat
  /-- The on-die stores. Width: one set. Source: 03 R616, 06 R204, 07 R234, R244. Reset: as loaded at a tile restart. -/
  die : Die
  /-- AON_PD_STAT.PD_ON. Width: 15. Source: 01 R52. Reset: 0x0001. -/
  pdOn : Nat
  /-- AON_PD_STAT.PD_BUSY. Width: 15. Source: 01 R52. Reset: 0. -/
  pdBusy : Nat
  /-- AON_PD_NEED.NEED. Width: 15. Source: 01 R53. Reset: 0x0001. -/
  pdNeed : Nat
  /-- SVC.POWER or DISP.POWER packets that wait for domains: packet, domains and the tick of the switching. Width: list. Source: 01 R49, 13 R454. Reset: empty. -/
  pdWait : List (Nat × Nat × Nat)
  /-- REFCLK and root PLL good. Width: 1. Source: 01 R40, 02 R86. Reset: 1. -/
  clockOk : Bool
  /-- TWN_STAT.STATE. Width: 3. Source: 11 R347, R389. Reset: BOOT. -/
  twin : TwinSt
  /-- TWN_STAT.PSTATE. Width: 4. Source: 11 R389. Reset: 0 (OFF). -/
  pstate : TwinSt
  /-- TWN_CAUSE.LAST. Width: 8. Source: 11 R349, R389. Reset: 0. -/
  cause : Nat
  /-- TWN_CAUSE.COUNT, saturating. Width: 8. Source: 11 R389. Reset: 0. -/
  withdrawals : Nat
  /-- TWN_SIG.SKIP, saturating. Width: 16. Source: 11 R358, R389. Reset: 0. -/
  sigSkip : Nat
  /-- TWN_SIG.MISMATCH, saturating. Width: 16. Source: 11 R358, R389. Reset: 0. -/
  sigMismatch : Nat
  /-- TWN_ASSAY.FAILED. Width: 4. Source: 11 R389. Reset: 0. -/
  assayFailed : Nat
  /-- TWN_ASSAY.PASS. Width: 4. Source: 11 R389. Reset: 0. -/
  assayPass : Nat
  /-- The last completed raster assay: none, or passed. Width: 1. Source: 11 R358, R364. Reset: none. -/
  lastAssay : Option Bool
  /-- Slice that holds the edge role. Width: 6. Source: 11 R364, 01 R23. Reset: 32 (DESIGN CHOICE, log 8: the 33rd slice). -/
  edge : Nat
  /-- A vector set runs, started at this tick. Width: 64. Source: 11 R364. Reset: none. -/
  assayRun : Option Nat
  /-- TWN_ASSAY_STRIKES in force for the set. Width: 5. Source: 11 R365, R388. Reset: 3. -/
  assayMax : Nat
  /-- Consecutive failed vector sets. Width: 5. Source: 11 R365. Reset: 0. -/
  strikes : Nat
  /-- Tick of the last heartbeat sent. Width: 64. Source: 11 R352. Reset: 0. -/
  hbSent : Nat
  /-- Tick of the last heartbeat received over the twin link. Width: 64. Source: 11 R352. Reset: 0. -/
  hbLink : Nat
  /-- Tick of the last heartbeat received over the fabric. Width: 64. Source: 11 R352. Reset: 0. -/
  hbFabric : Nat
  /-- TWN_HB_MISS as the last heartbeat received took it; 0 before one. Width: 8. Source: 11 R352, R388; 00 R14. Reset: 0. -/
  hbMiss : Nat
  /-- TWN_STAT.PORTFAULT. Width: 1. Source: 11 R376, R389. Reset: 0. -/
  portFault : Bool
  /-- TWN_PSEQ.PSEQ. Width: 32. Source: 11 R389. Reset: 0. -/
  pseq : Nat
  /-- Start line S of the present FILL or rejoin. Width: 48. Source: 11 R348, R367. Reset: none. -/
  startLine : Option Nat
  /-- The packet whose completion reports S. Width: one. Source: 11 R385. Reset: none. -/
  rejoinSeq : Option Nat
  /-- Tick at which the hold-off of the last entry to PAIRED ends, with TWN_REVERT 1 at that entry. Width: 64. Source: 11 R379, R388. Reset: none. -/
  pairedAt : Option Nat
  /-- First web line not yet begun (one above the last begun). Width: 48. Source: 01 R60. Reset: 0. -/
  begun : Nat
  /-- Last line accepted from a position message. Width: 48. Source: 01 R31, 02 R86. Reset: 0. -/
  posLine : Nat
  /-- CMAX of the last position message accepted. Width: 32. Source: 11 R360. Reset: 0. -/
  cmax : Nat
  /-- Commits held: CSEQ and effect line. Width: list. Source: 11 R359. Reset: empty. -/
  heldCommits : List (Nat × Nat)
  /-- Commits applied. Width: list of CSEQ. Source: 11 R360. Reset: empty. -/
  appliedCommits : List Nat
  /-- Job memory. Width: 2^40 bytes of address, usable 7, 14 or 28 GiB. Source: 03 R101. Reset: nothing listed; unlisted bytes read 0 (DESIGN CHOICE, log 2). -/
  mem : Mem
  /-- Streams of surface data. Width: list. Source: 03 R122. Reset: empty. -/
  streams : List Stream
  /-- Delay store, keyed 2^34 * row key + ring entry. Width: rings of 09 R286. Source: 09 R285. Reset: empty. -/
  delay : NMap RowLine
  /-- Row keys held in the on-die short store. Width: list. Source: 09 R287. Reset: empty. -/
  short : List Nat
  /-- Prefetch depth P. Width: 7. Source: 09 R290. Reset: 64. -/
  prefetch : Nat
  /-- SCAN_LEAD. Width: 32. Source: 09 R298. Reset: 0. -/
  scanLead : Nat
  /-- Firing records, keyed by nozzle. Width: u16 idle, two history bits. Source: 07 R241. Reset: h1 = h2 = 0, idle = 0. -/
  recs : NMap NozRec
  /-- Governor records, keyed by zone part. Width: 1,024 lines of E, two u32. Source: 07 R246, R248. Reset: 0. -/
  gov : NMap GovPart
  /-- Levels and states of the opening lines of coalesced pairs, keyed by row: line, fired, levels. Width: list. Source: 07 R252. Reset: empty. -/
  opening : List (Nat × Nat × Bool × List Nat)
  /-- NOZ_LOST per channel, saturating. Width: 12 x 32. Source: 07 R238, R239. Reset: 0. -/
  nozLost : Vector Nat 12
  /-- NOZ_CLIP per channel, saturating. Width: 12 x 32. Source: 07 R238, R239. Reset: 0. -/
  nozClip : Vector Nat 12
  /-- Web line of the last NOZZLE_UNCOVERED per nozzle. Width: 48. Source: 07 R239. Reset: none. -/
  uncovered : NMap (Option Nat)
  /-- Lines after stage 11 with their frames. Width: list, newest first. Source: 09 R294. Reset: empty. -/
  fired : List FiredLine
  /-- Own per-line records, newest first. Width: list. Source: 11 R354. Reset: empty. -/
  records : List LineRec
  /-- Partner records held, newest first. Width: list. Source: 11 R354, R356. Reset: empty. -/
  partner : List LineRec
  /-- First line of a missing partner record, while a hold runs. Width: 48. Source: 11 R356. Reset: none. -/
  missing : Option Nat
  /-- Strips that were decided VOID before the partner's verdict was known: stream, strip, lane and product. Width: list. Source: 03 R124. Reset: empty. -/
  unsettled : List (Nat × Nat × Nat × Nat)
  /-- Strip verdicts from the partner, on their way or waiting for their strip, oldest first. Width: list. Source: 03 R124. Reset: empty. -/
  verdicts : List Verdict
  /-- Firing lines whose partner record a segment's records wait for: line and segment, oldest first. Width: list. Source: 11 R355, R356. Reset: empty. -/
  deps : List (Nat × Nat)
  /-- Last firing line for which the rows not computed here took the partner's record. Width: 48. Source: 11 R355, R367. Reset: 0. -/
  taken : Nat
  /-- VOID counters per bar: LATE, ECC, STRIP, STATE, saturating, keyed 4 * bar + cause - 1. Width: 12 x 4 x 32. Source: 09 R299. Reset: 0. -/
  voidCnt : NMap Nat
  /-- Moves of bars between their lanes, oldest first: first line, bars, 1 to BAR_ALT or 0 to BAR_LANE. Width: list. Source: 09 R297, R302. Reset: empty. -/
  remaps : List (Nat × Nat × Bool)
  /-- TIME of the tile at which the last frame begun on each lane has left it, in 1/200 tick. Width: 10 x 72. Source: 09 R295, R298. Reset: 0. -/
  laneBusy : Vector Nat 10
  /-- The tile's event router. Width: block. Source: chapter 14. Reset: as Evr. -/
  evr : Evr
  /-- The tile's DRAM controller. Width: block. Source: chapter 15. Reset: as Memc. -/
  memc : Memc
  /-- The ten serial lanes. Width: 10. Source: chapter 16. Reset: as LaneHw. -/
  lanes : Vector LaneHw 10
  /-- Heat block. Width: block. Source: chapter 18. Reset: as Thm. -/
  thm : Thm
  /-- Trim block. Width: block. Source: chapter 18. Reset: as Trm. -/
  trm : Trm
  /-- Boot and AON block. Width: block. Source: chapter 19. Reset: as Boot. -/
  boot : Boot
  /-- The _HI partner latched by the last _LO read, keyed by register offset. Width: 32 each. Source: 02 R99, 05 R197, 15 R498. Reset: empty. -/
  latchHi : NMap Nat
  /-- MOT_FAULT. Width: 16. Source: 02 R99. Reset: 0. -/
  motFault : Nat
  deriving DecidableEq, Repr

/-! ## Queues and the host port (chapter 12) -/

/-- A queue pair (12 R394 to R399, R429). -/
structure QueuePair where
  session : Nat
  /-- SQ base address. Width: 64. Source: 12 R394. -/
  sqBase : Nat
  sqSize : Nat
  /-- QEN_QSTAT.SQHEAD. Width: 12. Source: 12 R395. Reset: 0. -/
  sqHead : Nat
  /-- Last tail accepted. Width: 12. Source: 12 R395. Reset: 0. -/
  sqTail : Nat
  /-- For each visible entry, the number of the doorbell write that made it visible. Width: list. Source: 12 R396. Reset: empty. -/
  vis : List Nat
  cqBase : Nat
  cqSize : Nat
  /-- Last head accepted. Width: 12. Source: 12 R397. Reset: 0. -/
  cqHead : Nat
  /-- QEN_QSTAT.CQTAIL. Width: 12. Source: 12 R397. Reset: 0. -/
  cqTail : Nat
  /-- QEN_QSTAT.PHASE. Width: 1. Source: 12 R397. Reset: 1. -/
  phase : Bool
  /-- QEN_QSTAT.FAULT. Width: 1. Source: 12 R399. Reset: 0. -/
  fault : Bool
  /-- The queue stopped fetching after a FETCH fault. Width: 1. Source: 12 R399. Reset: 0. -/
  stopped : Bool
  /-- The packet that deletes the pair, once deletion has begun. Width: one. Source: 12 R412. Reset: none. -/
  deleting : Option Nat
  /-- The open moderation window: start tick, its time limit and count limit, and its count. Width: one. Source: 12 R417, R428. Reset: none. -/
  win : Option (Nat × Nat × Nat × Nat)
  /-- CQ_HELD already raised for the present wait. Width: 1. Source: 12 R397. Reset: 0. -/
  held : Bool
  /-- PME sent in the present stay in D3hot. Width: 1. Source: 12 R419. Reset: 0. -/
  pmeSent : Bool
  deriving DecidableEq, Repr

/-- The states of a packet in the store (12 R404). -/
inductive PktSt where
  | queued | running | parked | done
  deriving DecidableEq, Repr

/-- What a dispatched packet waits for. -/
inductive Wait where
  | none
  /-- A host buffer read of len bytes at an address (03 R105). -/
  | dma (addr : Nat) (len : Nat)
  /-- Earlier memory writes of the spans, with the host data already read (03 R106, R107). -/
  | landed (spans : Nat) (upTo : Nat) (data : List Byte)
  /-- The registration of its target product (04 R155). -/
  | product
  /-- The commit of an effect line: CSEQ (01 R64). -/
  | commit (cseq : Nat)
  /-- A commit and then tiles in PAIRED or SOLO, or the start of printing (13 R440). -/
  | arm
  /-- The end of DRAINING (13 R443). -/
  | drain
  /-- The registration of the first product of a new job (04 R160). -/
  | change
  /-- The end of a pass, test, training, run, write, capture, update or other work named by the opcode. -/
  | work
  deriving DecidableEq, Repr

/-- A job-memory window of a session (12 R413). -/
structure Window where
  base : Nat
  len : Nat
  rights : Nat
  spans : Nat
  deriving DecidableEq, Repr

/-- A session (12 R410 to R415). -/
structure Session where
  /-- Class code: 0 SUPERVISOR, 1 OPERATOR, 2 JOB, 3 OBSERVER. Width: 2. Source: 12 R410. -/
  cls : Nat
  /-- Opcode group mask. Width: 16. Source: 12 R410. -/
  mask : Nat
  /-- Windows. Width: up to 16. Source: 12 R413. -/
  windows : List Window
  /-- STORE_MAX. Width: 12. Source: 12 R404. -/
  storeMax : Nat
  /-- RUN_MAX. Width: 8. Source: 12 R404. -/
  runMax : Nat
  /-- The packet that closes the session, once closing has begun. Width: one. Source: 12 R412. -/
  closing : Option Nat
  /-- Tick of the last PROT_DENIED. Width: 64. Source: 12 R414. -/
  denied : Option Nat
  deriving DecidableEq, Repr

/-- An entry of the packet store (12 R404). -/
structure StoreEntry where
  p : Packet
  session : Nat
  st : PktSt
  wait : Wait
  /-- Dispatch number, once dispatched. -/
  disp : Nat
  status : Nat
  r0 : Nat
  r1 : Nat
  /-- Tick of the decision, once done. -/
  decided : Nat
  /-- The completion has already been counted for moderation in D3 (R420). -/
  counted : Bool
  /-- The session's protection in force at its dispatch (12 R414, R415). -/
  rights : Option Session
  deriving DecidableEq, Repr

/-- A mirrored queue write on its way to T1 (12 R422). -/
inductive Mirror where
  | tail (q v : Nat)
  | head (q v : Nat)
  | config (q : Nat)
  | entry (q slot : Nat) (phase : Bool) (dw : List Nat)
  /-- A table entry of T0: address and data, and its mask bit above them. -/
  | msix (v : Nat) (value : Nat)
  deriving DecidableEq, Repr

/-- What T1's QEN block holds of one queue from the mirror (12 R422, R423). -/
structure MirrorQ where
  q : Nat
  tail : Nat
  head : Nat
  annTail : Nat
  entries : List (Nat × Bool × List Nat)
  deriving DecidableEq, Repr

/-- One PCIe endpoint (12 R390, R419 to R421, R430). -/
structure Port where
  /-- HIF_PM.LINK: 0 L0, 1 L0s, 2 L1, 3 L1.1, 4 L1.2, 5 down. Width: 4. Source: 12 R430. Reset: 5. -/
  link : Nat
  /-- Function power state: 0 D0, 3 D3hot, 4 D3cold (HIF_PM.DSTATE reads 0 or 3). Width: 3. Source: 12 R419, R430. Reset: 0. -/
  dstate : Nat
  /-- Bus mastering enabled. Width: 1. Source: 12 R420. Reset: 0 (PRESUMED, log 7: PCIe base specification). -/
  busMaster : Bool
  /-- MSI-X enabled. Width: 1. Source: 12 R420. Reset: 0 (PRESUMED, log 7: PCIe base specification). -/
  msixEn : Bool
  /-- MSI-X function mask. Width: 1. Source: 12 R418. Reset: 0 (PRESUMED, log 7: PCIe base specification). -/
  funcMask : Bool
  /-- PME_En. Width: 1. Source: 12 R419. Reset: 0 (PRESUMED, log 7: PCIe base specification). -/
  pmeEn : Bool
  /-- WAKE_L asserted. Width: 1. Source: 12 R419. Reset: 0. -/
  wakeL : Bool
  /-- Answer to the last configuration request: 1 retry status. Width: 1. Source: 19 R578. Reset: 0. -/
  crs : Bool
  /-- PME messages sent. Width: count. Source: 12 R419. Reset: 0. -/
  pme : Nat
  deriving DecidableEq, Repr

/-- The MSI-X table and the pending bits of one endpoint, in the QEN block of its tile (12 R391, R418, R429). -/
structure Msix where
  /-- Entries written, keyed by vector: message address and data. Width: 2,048 x 96. Source: 12 R429. Reset: 0 (PRESUMED, log 7: PCIe base specification). -/
  table : NMap Nat
  /-- Vectors whose mask bit is clear. Width: 2,048. Source: 12 R418. Reset: none: every vector masked (PRESUMED, log 7: PCIe base specification). -/
  unmasked : List Nat
  /-- Pending bit array. Width: 2,048. Source: 12 R418, R429. Reset: 0 (PRESUMED, log 7: PCIe base specification). -/
  pba : List Nat
  deriving DecidableEq, Repr

/-- The queue engine, the packet store and the two host ports (chapter 12). -/
structure Qen where
  /-- QEN_CTL.EN. Width: 1. Source: 12 R429. Reset: 0. -/
  en : Bool
  /-- QEN_CTL.REGLOCK. Width: 1. Source: 12 R393, R429. Reset: 0. -/
  reglock : Bool
  /-- QEN_STAT.READY. Width: 1. Source: 12 R429, 19 R576. Reset: 0. -/
  ready : Bool
  /-- QEN_ASQ_LO, QEN_ASQ_HI. Width: 64. Source: 12 R429. Reset: 0. -/
  asq : Nat
  /-- QEN_ACQ_LO, QEN_ACQ_HI. Width: 64. Source: 12 R429. Reset: 0. -/
  acq : Nat
  /-- QEN_ASIZE.ACQS. Width: 8. Source: 12 R429. Reset: 1. -/
  acqs : Nat
  /-- QEN_ASIZE.ASQS. Width: 8. Source: 12 R429. Reset: 1. -/
  asqs : Nat
  /-- QEN_STRAY of T0 and T1, saturating. Width: 2 x 32. Source: 12 R399, R429. Reset: 0. -/
  stray : Vector Nat 2
  /-- The queue pairs that exist. Width: 256. Source: 12 R394. Reset: none. -/
  pairs : Vector (Option QueuePair) 256
  /-- The packet store, in fetch order. Width: 4,096 entries. Source: 12 R404. Reset: empty. -/
  store : List StoreEntry
  /-- Sessions. Width: 256. Source: 12 R410. Reset: session 0 open as SUPERVISOR, no other. -/
  sessions : Vector (Option Session) 256
  /-- Doorbell writes accepted so far, for the fetch order of a session. Width: count. Source: 12 R396. Reset: 0. -/
  bells : Nat
  /-- Next fetch number. Width: count. Source: 12 R396. Reset: 1. -/
  nextSeq : Nat
  /-- Next dispatch number. Width: count. Source: 03 R106. Reset: 1. -/
  nextDisp : Nat
  /-- Queue of the present fetch turn and entries fetched in it. Width: 8 + 4. Source: 12 R405. Reset: 255, 8 (DESIGN CHOICE, log 8: the first turn is queue 0's). -/
  turn : Nat × Nat
  /-- Session last dispatched from, per class. Width: 4 x 8. Source: 12 R405. Reset: 255 (DESIGN CHOICE, log 8). -/
  dispSess : Vector Nat 4
  /-- Queue last dispatched from, per session. Width: 256 x 8. Source: 12 R405. Reset: 255 (DESIGN CHOICE, log 8). -/
  dispQueue : NMap Nat
  /-- The last ORDERED packet fetched and not yet posted is found in the store. Vectors that fell due and are not yet sent. Width: 2,048. Source: 12 R417, R419. Reset: empty. -/
  due : List Nat
  /-- The MSI-X tables and pending bits of T0 and T1. Width: 2. Source: 12 R391, R421. Reset: as Msix. -/
  msix : Vector Msix 2
  /-- MSI-X messages sent, newest first. Width: list. Source: 12 R417. Reset: empty. -/
  sentVec : List Nat
  /-- Mirrored writes in flight to T1. Width: list. Source: 12 R422. Reset: empty. -/
  mirror : List Mirror
  /-- T1's mirrored queue state. Width: list. Source: 12 R422. Reset: empty. -/
  mirrored : List MirrorQ
  /-- The endpoints of T0 and T1. Width: 2. Source: 12 R390. Reset: as Port. -/
  ports : Vector Port 2
  deriving DecidableEq, Repr

/-! ## Job, lanes, products (chapters 4, 13) -/

/-- Job states (13 R439). -/
inductive JobSt where
  | idle | armed | draining
  deriving DecidableEq, Repr

/-- A fence named by a pending flip (04 R157). -/
structure Fence where
  id : Nat
  /-- The packet that names it. -/
  seq : Nat
  session : Nat
  lane : Nat
  product : Nat
  /-- The signal line, once stamped. -/
  signal : Option Nat
  deriving DecidableEq, Repr

/-- A pending or committed change of a lane's bindings or mark inputs (04 R154 to R157, 05 R185). -/
structure LaneChange where
  /-- The packet that made it; 0 for none. -/
  seq : Nat
  session : Nat
  /-- Target product; none while NEXT is unresolved or for the next job. -/
  target : Option Nat
  nextJob : Bool
  fence : Option Nat
  /-- Layers named by a flip, for the miss policy. -/
  layers : List Nat
  /-- PARM items it sets, in order. -/
  items : List (Nat × Int)
  /-- Mark input it replaces: 0 none, 1 rules, 2 shifts, 3 lots, 4 names, 5 format string of field arg, 6 counter arg; with its content. -/
  mark : Nat
  arg : Nat
  body : List (List Nat)
  committed : Bool
  deriving DecidableEq, Repr

/-- One lane of products (04 R135, R136). -/
structure Lane where
  /-- Number of the next product registered. Width: 32. Source: 04 R136. Reset: 0. -/
  nextNum : Nat
  /-- Pending and committed changes, in the order the lead took them. Width: 64 pending. Source: 04 R156. Reset: empty. -/
  changes : List LaneChange
  /-- Shift code of the last evaluation. Width: 4 characters. Source: 05 R176. Reset: none. -/
  lastShift : Option (List Nat)
  /-- Strings of the last evaluation. Width: list. Source: 05 R193. Reset: empty. -/
  lastStrings : List (Nat × List Nat)
  deriving DecidableEq, Repr

/-- The settings that shape print and change at an effect line (01 R60, R61). -/
structure PrintSet where
  /-- PARM items in force. -/
  items : PMap
  /-- Slot tables, keyed by channel. -/
  slots : NMap SlotTbl
  /-- Nozzle map words, keyed by nozzle. -/
  noz : NMap Nat
  /-- Zone tables, keyed 256 * channel + global zone. -/
  zone : NMap (List Nat)
  /-- Zone table version (07 R233). -/
  zver : Nat
  /-- Head-temperature step per zone, 5 at rest (07 R250). -/
  ht : NMap Nat
  /-- Channels blanked by a carriage (02 R94). -/
  blankCh : Nat
  /-- Where the nozzles of nodes are absent: 17 * node + lane, or + 16 outside every lane (10 R332, R333). -/
  absent : List Nat
  /-- Nozzles reported failed under NOZ_AUTO, keyed by nozzle (07 R237). -/
  failed : NMap Nat
  /-- From this line every dot is level 0 (13 R443 ABORT). -/
  aborted : Bool
  deriving DecidableEq, Repr

/-- One change that takes effect at an effect line. -/
inductive Change where
  | parms (es : List (Nat × Int))
  | slots (ch : Nat) (t : SlotTbl)
  | noz (es : List (Nat × Nat))
  | zone (ver : Nat) (ts : List (Nat × List Nat))
  | ht (zone : Nat) (step : Nat)
  | carr (mask : Nat) (blank : Bool)
  /-- The active motion role returns to T0 (02 R86). -/
  | role
  | absent (key : Nat) (on : Bool)
  | failed (noz : Nat) (on : Bool)
  | disarm (abort : Bool)
  /-- Changes with an effect line and no print setting of their own: acquisition, start lines, arm lines, bands. -/
  | acquire
  | start (tile : Nat)
  | armLine (lane : Nat) (num : Nat)
  | leave (node : Nat)
  /-- A JOB.CHANGE to the job of a number (04 R160). -/
  | job (gen : Nat)
  deriving DecidableEq, Repr

/-- A commit of the job controller (11 R359). -/
structure Commit where
  cseq : Nat
  line : Nat
  fixed : Bool
  change : Change
  /-- The packet that completes when the commit is committed; 0 for none. -/
  seq : Nat
  /-- Tiles whose ACK is awaited. -/
  awaiting : List Nat
  /-- Tiles to which PREPARE is on its way. -/
  preparing : List Nat
  committed : Bool
  deriving DecidableEq, Repr

/-- A memory write on its way to one twin (03 R104). -/
structure Leg where
  twin : Nat
  /-- How far it came: 0 held, 1 on the tile written first, 2 on both. -/
  stage : Nat
  /-- The tile written first. -/
  first : Nat
  deriving DecidableEq, Repr

/-- A memory write dispatched and not yet landed everywhere (03 R105). -/
structure InFlight where
  wid : Nat
  disp : Nat
  session : Nat
  addr : Nat
  data : List Byte
  /-- Twins still to land on. -/
  twins : List Leg
  deriving DecidableEq, Repr

/-- A live range of a span (03 R109). -/
structure LiveRange where
  span : Nat
  base : Nat
  len : Nat
  /-- The descriptor or kernel-set address, or the destination of a compression. -/
  key : Nat
  /-- The packet that holds it until it completes; 0 for a binding. -/
  seq : Nat
  deriving DecidableEq, Repr

/-- A compression in progress (03 R128, R129). -/
structure Compress where
  seq : Nat
  writing : Bool
  /-- Output of every addressed span: span and bytes. -/
  outs : List (Nat × List Byte)
  deriving DecidableEq, Repr

/-- A job that a JOB.CHANGE replaced, while its products may still print (04 R160). -/
structure PastJob where
  gen : Nat
  /-- The change line C that ended it. -/
  stop : Nat
  items : PMap
  /-- The glyph bank it draws with (05 R190). -/
  bank : Nat
  deriving DecidableEq, Repr

/-- The job and everything that belongs to it (chapters 4, 13). -/
structure Job where
  /-- Job state. Width: 2. Source: 13 R439. Reset: IDLE. -/
  st : JobSt
  /-- L0 of the last JOB.ARM. Width: 48. Source: 13 R440. Reset: 0. -/
  l0 : Nat
  /-- Number of the running job: 1 more at every JOB.ARM and JOB.CHANGE. Width: count. Source: 04 R160. Reset: 0. -/
  gen : Nat
  /-- JOB.CHANGE pending: its packet. Width: one. Source: 13 R442. Reset: none. -/
  change : Option Nat
  /-- The new job's items while a change is pending. Width: list. Source: 04 R160. Reset: empty. -/
  changeItems : PMap
  /-- Change line C of the last JOB.CHANGE in this job. Width: 48. Source: 04 R160. Reset: none. -/
  changeLine : Option Nat
  /-- The jobs that changes have replaced since JOB.ARM, oldest first. Width: list. Source: 04 R160. Reset: empty. -/
  past : List PastJob
  /-- Line from which the standby glyph bank is to be active. Width: 48. Source: 05 R190. Reset: none. -/
  bankLine : Option Nat
  /-- JOB.DISARM: its packet, effect line and ABORT. Width: one. Source: 13 R443. Reset: none. -/
  disarm : Option (Nat × Nat × Bool)
  /-- JOB.ARM waiting for its completion: its packet. Width: one. Source: 13 R440. Reset: none. -/
  arming : Option Nat
  /-- Print compatibility level the package runs at. Width: 16. Source: 11 R368. Reset: 0 (DESIGN CHOICE, log 8). -/
  level : Nat
  /-- Excursion above JOB_RATE_MAX in progress. Width: 1. Source: 01 R25. Reset: 0. -/
  overrate : Bool
  /-- The sixteen lanes. Width: 16. Source: 04 R135. Reset: as Lane. -/
  lanes : Vector Lane 16
  /-- Products registered, oldest first. Width: list. Source: 04 R136. Reset: empty. -/
  products : List Product
  /-- Fences busy. Width: 4,096. Source: 04 R157. Reset: none. -/
  fences : List Fence
  /-- Token bucket of products: tokens x 250,000,000 with the tick of its last refill. Width: 64 tokens. Source: 02 R91. Reset: full (DESIGN CHOICE, log 8). -/
  bucket : Nat × Nat
  /-- Settings in force when nothing is pending. Width: PrintSet. Source: 01 R61. Reset: every item at its reset value. -/
  base : PrintSet
  /-- Values staged for the next job, one for each item set. Width: PARM items. Source: 13 R441. Reset: none. -/
  staged : List (Nat × Int)
  /-- Changes staged for the first product of a lane in the next job: lane and change. Width: within 64 a lane. Source: 13 R433. Reset: empty. -/
  nextJob : List (Nat × LaneChange)
  /-- Commits of this job, oldest first. Width: list. Source: 11 R359. Reset: empty. -/
  commits : List Commit
  /-- Next CSEQ. Width: 32. Source: 11 R359. Reset: 1. -/
  cseq : Nat
  /-- Changes that wait for the end of a handover before they are prepared: change, fixed line or 0, packet. Width: list. Source: 11 R380. Reset: empty. -/
  held : List (Change × Nat × Nat)
  /-- Product-boundary changes that wait for a product whose arm line is far enough: change and packet, 0 for none. Width: list. Source: 01 R61. Reset: empty. -/
  boundary : List (Change × Nat)
  /-- Segments that both tiles of a twin left undelivered, already handled: line and segment with the span. Width: list. Source: 09 R301. Reset: empty. -/
  undelivered : List (Nat × Nat × Nat)
  /-- MEM_RSV_SIZE in force, MiB. Width: 32. Source: 03 R102, R134. Reset: 4,096. -/
  rsv : Nat
  deriving DecidableEq, Repr

/-- Job memory traffic and on-die stores that every tile holds alike (chapters 3, 5, 6, 7). -/
structure Stores where
  /-- DRAM fitted per tile, GiB. Width: 8, 16 or 32. Source: 03 R101, 15 R475. Reset: 8 (DESIGN CHOICE, log 1). -/
  gib : Nat
  /-- The 16 GiB are two ranks of 16 Gb per channel. Width: 1. Source: 15 R475. Reset: 0 (DESIGN CHOICE, log 1). -/
  twoRank : Bool
  /-- Writes in flight. Width: list. Source: 03 R105. Reset: empty. -/
  inFlight : List InFlight
  /-- Next write number. Width: count. Source: 03 R105. Reset: 1. -/
  nextWid : Nat
  /-- Next stream number. Width: count. Source: 03 R122. Reset: 1. -/
  nextSid : Nat
  /-- Live ranges. Width: 256 a span. Source: 03 R109. Reset: none. -/
  live : List LiveRange
  /-- Compressions in progress. Width: list. Source: 03 R128. Reset: none. -/
  compress : List Compress
  /-- The active glyph bank. Width: 1. Source: 05 R190. Reset: 0 (DESIGN CHOICE, log 8). -/
  glyphBank : Nat
  /-- The standby glyph bank was loaded since the bank last became active. Width: 1. Source: 05 R190. Reset: 0. -/
  glyphLoaded : Bool
  /-- PNL_VTAB pending for the next proof flip. Width: 128 bytes. Source: 06 R220. Reset: empty (DESIGN CHOICE, log 8). -/
  vtab : List Nat
  deriving DecidableEq, Repr

/-! ## Marks and the calendar (chapter 5) -/

/-- A daylight rule (05 R172). -/
structure DstRule where
  fromYear : Nat
  toYear : Nat
  save : Nat
  basis : Nat
  sm : Nat
  sw : Nat
  sd : Nat
  em : Nat
  ew : Nat
  ed : Nat
  smin : Nat
  emin : Nat
  deriving DecidableEq, Repr

/-- A slew of a calendar in crystal periods (05 R170). -/
structure Slew where
  /-- The correction δ. -/
  delta : Int
  /-- What was left of it at a tick, under the rate in force since. -/
  left : Int
  since : Nat
  deriving DecidableEq, Repr

/-- The calendar of T0 or T1 (05 R165 to R170, R197). -/
structure Cal where
  /-- AON_CAL_STAT.SRC_OK. Width: 1. Source: 05 R197. Reset: 0. -/
  srcOk : Bool
  /-- Seconds. Width: 40. Source: 05 R165, R197. Reset: 0. -/
  sec : Nat
  /-- Sub-second count at its base tick. Width: 15. Source: 05 R165, R197. Reset: 0. -/
  sub : Nat
  /-- Tick at which sub was taken. Width: 64. Source: 05 R168. Reset: 0. -/
  tau : Nat
  /-- AON_CAL_STAT.VALID. Width: 1. Source: 05 R167, R197. Reset: 0. -/
  valid : Bool
  /-- A correction that waits for the next rollover, in crystal periods: AON_CAL_STAT.STEP_PEND. Width: one. Source: 05 R170, R197. Reset: none. -/
  step : Option Int
  /-- A slew in progress: AON_CAL_STAT.SLEWING. Width: one. Source: 05 R170, R197. Reset: none. -/
  slew : Option Slew
  deriving DecidableEq, Repr

/-- A second rollover of the calendar master, as the lead stamps it (05 R168, R176). -/
structure Stamp where
  sec : Nat
  sub : Nat
  tick : Nat
  /-- The active shift from this second on, with its local wall second. -/
  active : Option Nat
  wall : Option Nat
  deriving DecidableEq, Repr

/-- Marks, counters and calendar discipline held by the lead (chapter 5). -/
structure Marks where
  /-- The calendars of T0 and T1. Width: 2. Source: 05 R165. Reset: invalid, 0. -/
  cal : Vector Cal 2
  /-- Rollover stamps of the last 64 seconds, newest first. Width: 64. Source: 05 R168, R169. Reset: empty. -/
  taus : List Stamp
  /-- CAL_SRC in force. Width: 2. Source: 05 R169, R196. Reset: 1. -/
  src : Nat
  /-- CAL_SLEW and CAL_HOLD in force. Width: 2. Source: 05 R196. Reset: 500 and 10. -/
  slewPpm : Nat
  hold : Nat
  /-- Last announced second and the tick of its arrival. Width: one. Source: 05 R169. Reset: none. -/
  announced : Option (Nat × Nat)
  /-- Tick of the last announcement, or of CAL_SRC taking effect. Width: 64. Source: 05 R169. Reset: 0. -/
  heard : Nat
  /-- Announcements are absent, as reported. Width: 1. Source: 05 R169. Reset: 0. -/
  lost : Bool
  /-- dst of the present second, minutes. Width: 8. Source: 05 R173. Reset: 0. -/
  dst : Nat
  /-- Daylight rules. Width: 16. Source: 05 R172. Reset: none (DESIGN CHOICE, log 8). -/
  rules : List DstRule
  /-- Shift table: start minute and code. Width: 8. Source: 05 R176. Reset: none (DESIGN CHOICE, log 8). -/
  shifts : List (Nat × List Nat)
  /-- Local second at which the active shift became active, and its index. Width: one. Source: 05 R176. Reset: none. -/
  active : Option Nat
  /-- Local wall second of the last second rollover. Width: 48. Source: 05 R176. Reset: none. -/
  wall : Option Nat
  /-- Lot strings by index. Width: 16. Source: 05 R188. Reset: none (DESIGN CHOICE, log 8). -/
  lots : List (List Nat)
  /-- Month names. Width: 12. Source: 05 R188. Reset: JAN to DEC. -/
  names : List (List Nat)
  /-- Format strings of fields, keyed 16 * lane + field. Width: 256 x 64 bytes. Source: 05 R186. Reset: empty (DESIGN CHOICE, log 8). -/
  formats : NMap (List Nat)
  /-- The 64 counters. Width: 64. Source: 05 R181. Reset: as Counter. -/
  counters : Vector Counter 64
  /-- The PD_AON shadows of T0 and T1: counter states. Width: 2 x 64. Source: 05 R184. Reset: empty. -/
  shadow : Vector (NMap Counter) 2
  /-- Counters changed at recent arm lines, newest first: line, number, state. Width: 1,024. Source: 11 R354. Reset: empty. -/
  changed : List (Nat × Nat × Counter)
  /-- The shadows that are valid. Width: 2. Source: 05 R184. Reset: 1 each. -/
  shadowOk : Vector Bool 2
  deriving DecidableEq, Repr

/-! ## Motion (chapter 2) -/

/-- The glitch filter of one input (02 R68). -/
structure PinSt where
  /-- Raw level. -/
  raw : Bool
  /-- Tick of the last raw transition. -/
  since : Nat
  /-- Filtered level. -/
  filt : Bool
  deriving DecidableEq, Repr

/-- What a pair showed before the first change of its wires in a tick: its reading counts by the levels a tick ends with (02
R67). -/
structure WireSave where
  /-- The tick of that change. -/
  tick : Option Nat
  /-- Both wires read the same level. -/
  same : Bool
  /-- Tick since which the wires so read. -/
  since : Nat
  /-- The receiver output and its filter. -/
  rx : PinSt
  deriving DecidableEq, Repr

/-- One quadrature input (02 R67 to R73). -/
structure Enc where
  /-- Raw wire levels of pairs A, B, Z: P wires. Width: 3. Source: 02 R67. Reset: 0 (DESIGN CHOICE, log 8). -/
  wireP : Vector Bool 3
  /-- N wires. Width: 3. Source: 02 R67. Reset: 1 (DESIGN CHOICE, log 8: the pair reads 0 with no fault). -/
  wireN : Vector Bool 3
  /-- Tick since which both wires of a pair read the same, or opposite, levels. Width: 3 x 64. Source: 02 R67. Reset: 0. -/
  wireSince : Vector Nat 3
  /-- The reading of each pair before the wire changes of the present tick. Width: 3. Source: 02 R67. Reset: no change. -/
  wireSave : Vector WireSave 3
  /-- Wire fault in force, per pair. Width: 3. Source: 02 R67. Reset: 0. -/
  fault : Vector Bool 3
  /-- Receiver output and its filter, per pair. Width: 3. Source: 02 R67, R68. Reset: 0. -/
  rx : Vector PinSt 3
  /-- The 48-bit count. Width: 48. Source: 02 R69, R99. Reset: 0. -/
  count : Nat
  /-- Bad steps, saturating. Width: 16. Source: 02 R70, R99. Reset: 0. -/
  stepBad : Nat
  /-- Last step was in reverse. Width: 1. Source: 02 R71, R99. Reset: 0. -/
  rev : Bool
  /-- Expected index count E. Width: 48. Source: 02 R72. Reset: none until the first index. -/
  e : Option Nat
  /-- The packets whose re-phasing the next forward index does, 0 standing for the first index after power-on. Width: list. Source: 02 R72. Reset: [0] (the first index re-phases). -/
  rephase : List Nat
  /-- Count latched at the last index. Width: 48. Source: 02 R73. Reset: 0. -/
  latched : Nat
  /-- Tick of the last forward index. Width: 64. Source: 02 R73, 06 R215. Reset: none. -/
  indexAt : Option Nat
  /-- Deviation of the last index. Width: 48 signed. Source: 02 R72. Reset: 0. -/
  dev : Int
  /-- Tick of the last edge. Width: 64. Source: 02 R84, 18 R558. Reset: 0. -/
  edgeAt : Nat
  /-- ENC_WIRE_TIME-free line count of the last count change, for LENS_SILENT. Width: 48. Source: 06 R217. Reset: 0. -/
  changeLine : Nat
  deriving DecidableEq, Repr

/-- Modes of the pitch loop (02 R82 to R84). -/
inductive LoopMode where
  | off | acq | lock | coast | lost
  deriving DecidableEq, Repr

/-- The pitch loop (02 R77 to R84). -/
structure PLoop where
  mode : LoopMode
  /-- MOT_STAT.STILL. Width: 1. Source: 02 R84, R99. Reset: 1. -/
  still : Bool
  /-- p at the tick tBase, u48.44. Width: 92. Source: 02 R78. Reset: 0. -/
  p : Nat
  /-- f, s4.44. Width: 48 signed. Source: 02 R78. Reset: 0. -/
  f : Int
  /-- Tick of the last update or restart. Width: 64. Source: 02 R78. Reset: 0. -/
  tBase : Nat
  /-- p, f and tBase of the period before, for edges stamped before tBase. Width: 3. Source: 02 R78. Reset: 0. -/
  prev : Nat × Int × Nat
  /-- esum, s20.44. Width: 64 signed. Source: 02 R78. Reset: 0. -/
  esum : Int
  /-- n. Width: 16. Source: 02 R78. Reset: 0. -/
  n : Nat
  /-- C0. Width: 48. Source: 02 R77. Reset: 0. -/
  c0 : Nat
  /-- L0 of the loop. Width: 48. Source: 02 R77. Reset: 0. -/
  l0 : Nat
  /-- MOT_BW taken at the present update period. Width: 32. Source: 02 R79. Reset: 200. -/
  bw : Nat
  /-- Consecutive updates with |e| < 0.05 line. Width: 10. Source: 02 R83. Reset: 0. -/
  lockRun : Nat
  /-- Consecutive updates with |e| > 0.25 line. Width: 4. Source: 02 R83. Reset: 0. -/
  unlockRun : Nat
  /-- MOT_LOOP_ERR: mean error of the last update with edges, s20.44. Width: 64 signed. Source: 02 R99. Reset: 0. -/
  lastE : Int
  /-- Line at which coast began. Width: 48. Source: 02 R82. Reset: 0. -/
  coastLine : Nat
  /-- Tick of the last position edge. Width: 64. Source: 02 R84. Reset: 0. -/
  edgeAt : Nat
  /-- WEB_REVERSE raised for the present reversal. Width: 1. Source: 02 R71. Reset: 0. -/
  reversed : Bool
  /-- The source has reversed, and the loop position has not yet passed beyond the highest line issued. Width: 1. Source: 02 R71. Reset: 0. -/
  passing : Bool
  /-- The loop issued no line since it last started. Width: 1. Source: 02 R88, 07 R229. Reset: 1. -/
  fresh : Bool
  /-- After ENC_LOST: the line of the restart, and the first line at which products print again once PITCH_LOCK came. Width: 2 x 48. Source: 02 R83. Reset: none. -/
  dark : Option (Nat × Option Nat)
  /-- The loop was in lock when its coast began. Width: 1. Source: 02 R82. Reset: 0. -/
  wasLock : Bool
  deriving DecidableEq, Repr

/-- A compare unit (02 R87 to R89). -/
structure CmpUnit where
  /-- V. Width: 48. Source: 02 R87. Reset: 0. -/
  v : Nat
  /-- Armed. Width: 1. Source: 02 R87. Reset: 0. -/
  armed : Bool
  /-- Items in force: SRC, SPACING, ACTION, WIDTH, OUT, NODE, LANE, OFFSET are PARM items; settings that wait for their effect tick, oldest first: tick, items, packet. Width: list. Source: 02 R89. Reset: empty. -/
  pend : List (Nat × PMap × Nat)
  /-- The capture set: four counts and the current line. Width: 5 x 48. Source: 02 R88. Reset: 0 (DESIGN CHOICE, log 8). -/
  capture : List Nat
  deriving DecidableEq, Repr

/-- A reject and compare output (02 R95). -/
structure RejOut where
  /-- Pending pulses: pulse line, lane and product. Width: 256. Source: 02 R95. Reset: empty. -/
  queue : List (Nat × Nat × Nat)
  /-- Tick at which the reject pulse ends. Width: 64. Source: 02 R95. Reset: none. -/
  rejEnd : Option Nat
  /-- Tick at which the compare pulse ends. Width: 64. Source: 02 R88. Reset: none. -/
  cmpEnd : Option Nat
  deriving DecidableEq, Repr

/-- States of the registration loop (06 R214). -/
inductive LensSt where
  | idle | acquire | lock | lost | reacquire
  deriving DecidableEq, Repr

/-- The registration loop (06 R212 to R218). -/
structure Lens where
  /-- State. Width: 3. Source: 06 R214. Reset: IDLE. -/
  st : LensSt
  /-- aL, s32.32. Width: 64 signed. Source: 06 R212. Reset: 0. -/
  aL : Int
  /-- aR, s32.32. Width: 64 signed. Source: 06 R212. Reset: 0. -/
  aR : Int
  /-- r, s32.32. Width: 64 signed. Source: 06 R212. Reset: 0. -/
  r : Int
  /-- q, u0.32. Width: 32. Source: 06 R212. Reset: 0. -/
  q : Nat
  /-- cL0, cR0, cW0. Width: 3 x 48. Source: 06 R212. Reset: 0. -/
  ref : Vector Nat 3
  /-- References still to be taken: LENS_L, LENS_R, LENS_ROW. Width: 3. Source: 06 R215, R218. Reset: none. -/
  need : Nat
  /-- Consecutive good lines, bad lines, lines out of range, lines in range after a RANGE loss. Width: 4. Source: 06 R214, R217, R218. Reset: 0. -/
  good : Nat
  bad : Nat
  outRange : Nat
  inRange : Nat
  /-- Causes in force while LOST: bit 0 WIRE, 1 SLIP, 2 SILENT, 3 RANGE. Width: 4. Source: 06 R217. Reset: 0. -/
  causes : Nat
  /-- Inputs that had a WIRE, SLIP or SILENT cause. Width: 3. Source: 06 R218. Reset: 0. -/
  hurt : Nat
  /-- Line of entry to LOST, or of the start of acquisition. Width: 48. Source: 06 R215, R217. Reset: 0. -/
  entry : Nat
  /-- LENS_HOLD_EXPIRED, or LENS_ACQ_FAIL, raised since. Width: 2. Source: 06 R215, R217. Reset: 0. -/
  holdRaised : Bool
  acqRaised : Bool
  /-- A re-reference test failed: LOST until RAY.ACQUIRE. Width: 1. Source: 06 R218. Reset: 0. -/
  stuck : Bool
  /-- A slip or miss of LENS_ROW's index not yet reported. Width: 1. Source: 06 R217. Reset: 0. -/
  slip : Bool
  /-- Errors of the last line: mL - aL, mR - aR, e. Width: 3. Source: 06 R212, R222. Reset: 0. -/
  errs : Int × Int × Int
  /-- The effect line of an acquisition whose references are not all taken. Width: 48. Source: 06 R215. Reset: none. -/
  acquireAt : Option Nat
  /-- Tick from which an index counts as a reference. Width: 64. Source: 06 R215, R218. Reset: 0. -/
  refFrom : Nat
  /-- LENS_ACQ_LINES as the last RAY.ACQUIRE took it. Width: 25. Source: 06 R215, R225. Reset: 0. -/
  acqLines : Nat
  /-- The line by which LOCK is due. Width: 48. Source: 06 R215. Reset: none. -/
  acqBy : Option Nat
  /-- mW of the line before the present run of lines in range. Width: 64 signed. Source: 06 R218. Reset: 0. -/
  rowAt : Int
  deriving DecidableEq, Repr

/-- A line as issued (02 R80, 01 R30): number, fire timestamp in 1/256 tick, that of the line before in the same loop,
lens models by span, overspeed states by row, CMAX, and the loop and lens state at its issue. -/
structure IssuedLine where
  n : Nat
  fire : Nat
  prevFire : Option Nat
  models : List LensModel
  overs : List (Nat × Nat)
  cmax : Nat
  tick : Nat
  coast : Bool
  locked : Bool
  lensOk : Bool
  /-- Counts of LENS_L, LENS_R and LENS_ROW at its fire timestamp, once reached (06 R211). -/
  counts : Option (List Nat)
  deriving DecidableEq, Repr

/-- What one motion block of twin 0 holds of its own, beside what both see alike: its counts and E values, its loop, its
compare units and its outputs (02 R85). -/
structure MotBlock where
  /-- The quadrature inputs as this block counts them. -/
  enc : Vector Enc 4
  /-- The pitch loop. -/
  loop : PLoop
  /-- The compare units. -/
  cmp : Vector CmpUnit 16
  /-- The output queues and pulses. -/
  rej : Vector RejOut 4
  deriving DecidableEq, Repr

/-- Motion of twin 0: the active block's state and what both blocks see, and the other block, the shadow (chapter 2). -/
structure Motion where
  /-- The four quadrature inputs. Width: 4. Source: 02 R66. Reset: as Enc. -/
  enc : Vector Enc 4
  /-- Product-detect inputs. Width: 8. Source: 02 R90. Reset: 0 (DESIGN CHOICE, log 8). -/
  pd : Vector PinSt 8
  /-- Line of the previous accepted edge of each PD input. Width: 8 x 48. Source: 02 R90. Reset: none. -/
  pdLast : Vector (Option Nat) 8
  /-- Carriage lines. Width: 9, index 3g + k. Source: 02 R93. Reset: 0 (DESIGN CHOICE, log 8). -/
  carr : Vector PinSt 9
  /-- Filtered carriage codes. Width: 3 x 3. Source: 02 R93, R99. Reset: 0. -/
  carrCode : Vector Nat 3
  /-- Tick of the last raw change of each group's code. Width: 3 x 64. Source: 02 R93. Reset: 0. -/
  carrSince : Vector Nat 3
  /-- TE0, TE1. Width: 2. Source: 17 R528. Reset: 0 (DESIGN CHOICE, log 8). -/
  te : Vector PinSt 2
  /-- EVI0 to EVI3 of each tile, index 4t + i. Width: 32. Source: 14 R470. Reset: 0 (DESIGN CHOICE, log 8). -/
  evi : Vector PinSt 32
  /-- Absolute port: last accepted position, polled tick, offset captured at JOB.ARM, consecutive faulted frames. Width: 4. Source: 02 R74 to R76. Reset: none, 0, none, 0. -/
  absLast : Option Nat
  absAt : Nat
  absOff : Option Int
  absBad : Nat
  /-- A frame of the absolute port is being read. Width: 1. Source: 02 R74. Reset: 0. -/
  absWait : Bool
  /-- Tick at which the monoflop wait after the last SSI frame ends. Width: 64. Source: 02 R74. Reset: 0. -/
  absHold : Nat
  /-- The last change of the absolute position was in reverse. Width: 1. Source: 02 R71, R99. Reset: 0. -/
  absRev : Bool
  /-- The pitch loop. Width: block. Source: 02 R78. Reset: off. -/
  loop : PLoop
  /-- Last line issued. Width: 48. Source: 01 R44, 02 R99. Reset: 0. -/
  lastLine : Nat
  /-- Fire timestamp of the last line issued, 1/256 tick. Width: 72. Source: 02 R80. Reset: 0. -/
  lastFire : Nat
  /-- Current line: the highest whose fire timestamp has been reached. Width: 48. Source: 02 R88. Reset: 0. -/
  current : Nat
  /-- Lines issued, newest first. Width: list. Source: 02 R80. Reset: empty. -/
  issued : List IssuedLine
  /-- Compare units. Width: 16. Source: 02 R87. Reset: disarmed. -/
  cmp : Vector CmpUnit 16
  /-- Outputs REJ0 to REJ3. Width: 4. Source: 02 R95. Reset: empty, low. -/
  rej : Vector RejOut 4
  /-- LINE_STOP_REQ latched. Width: 1. Source: 02 R97. Reset: 0. -/
  stop : Bool
  /-- Overspeed state per row (0 NORMAL, 1 COALESCE, 2 BLANK), keyed 4 * channel + row. Width: 48 x 2. Source: 07 R251. Reset: NORMAL. -/
  overs : NMap Nat
  /-- Tile whose motion block is active. Width: 1. Source: 02 R85, R86. Reset: 0. -/
  active : Nat
  /-- The block of the tile that is not active, while its PD_MOTION is on. Width: one. Source: 02 R85. Reset: none. -/
  other : Option MotBlock
  /-- Tick at which T1's block took its last state copy, or came up with none. Width: 64. Source: 02 R85, R86. Reset: 0. -/
  copyAt : Nat
  /-- MOTION_MISMATCH count, saturating. Width: 32. Source: 02 R85. Reset: 0. -/
  mismatch : Nat
  /-- The registration loop. Width: block. Source: 06 R212. Reset: IDLE. -/
  lens : Lens
  deriving DecidableEq, Repr

/-! ## Colour (chapter 8) -/

/-- A Lab value in s8.8. -/
structure Lab where
  l : Int
  a : Int
  b : Int
  deriving DecidableEq, Repr

/-- Loop states of a channel (08 R270). -/
inductive ColSt where
  | off | opened | closed | paused
  deriving DecidableEq, Repr

/-- A capture in progress (08 R272): the packet of COLOUR.CLOSE, the first band that counts, the bands still needed, and the target
mode and host targets that the command took (08 R282). -/
structure Capture where
  seq : Nat
  first : Nat
  left : Nat
  mode : Nat
  tgt : List Lab
  deriving DecidableEq, Repr

/-- The colour state of one channel (08 R270 to R276). -/
structure ColCh where
  /-- State. Width: 2. Source: 08 R270. Reset: OFF. -/
  st : ColSt
  /-- Pause causes: bit 0 PAPER, 1 SENSOR, 2 CAL, 3 SENS. Width: 4. Source: 08 R271. Reset: 0. -/
  causes : Nat
  /-- First band that may feed an update after a pause or a close. Width: 32. Source: 08 R271, R272. Reset: 0. -/
  fromBand : Nat
  /-- Offsets, keyed 4 * zone + tone. Width: s32 each. Source: 08 R274. Reset: 0. -/
  off : NMap Int
  /-- Ink targets, keyed 4 * zone + tone. Width: Lab each. Source: 08 R272. Reset: none. -/
  tgt : NMap (Option Lab)
  /-- Base tables, keyed by zone. Width: 256 x u16. Source: 08 R275. Reset: identity. -/
  base : NMap (List Nat)
  /-- Sensitivity entries, keyed 4 * zone + tone, s8.24; none loaded. Width: list. Source: 08 R279. Reset: none. -/
  sens : Option (NMap (Option Lab))
  /-- COL_STEP_CLIP, saturating. Width: 32. Source: 08 R274. Reset: 0. -/
  clip : Nat
  /-- Capture in progress. Width: one. Source: 08 R272. Reset: none. -/
  capture : Option Capture
  /-- Last corrected Lab of each patch, keyed 4 * zone + tone. Width: Lab. Source: 08 R279. Reset: none. -/
  last : NMap (Option Lab)
  deriving DecidableEq, Repr

/-- One patch of a band: row, zone, and its accepted Lab or the cause of its discard. -/
structure Patch where
  row : Nat
  zone : Nat
  lab : Option Lab
  cause : Nat
  deriving DecidableEq, Repr

/-- A control band (08 R258 to R266). -/
structure Band where
  num : Nat
  lane : Nat
  prod : Nat
  first : Nat
  ph : Nat
  /-- Ink rows in order: channel, tone index and tone. -/
  rows : List (Nat × Nat × Nat)
  ver : Nat
  stale : Bool
  patches : List Patch
  missing : Bool
  complete : Bool
  /-- Discards found by tiles before the reports: row, zone, cause. -/
  flags : List (Nat × Nat × Nat)
  /-- COL_REPORT_TMO and COL_PAPER_TOL as the band took them (08 R282). -/
  tmo : Nat
  tol : Nat
  /-- The greatest difference from the targets by channel, in 0.01 units, as the band was logged (08 R279). -/
  worst : List Nat
  deriving DecidableEq, Repr

/-- An accepted calibration (08 R267 to R269). -/
structure Calib where
  tile : List Nat
  second : Nat
  gain : Lab
  offset : Lab
  resid : List Nat
  deriving DecidableEq, Repr

/-- COLOUR.CAL in progress (08 R268): its packet, the certified values and tile identifier, the readings so far, and COL_CAL_TOL
as it took it (08 R282). -/
structure CalRun where
  seq : Nat
  cert : List Lab
  tile : List Nat
  reads : List (Nat × Lab)
  tol : Nat
  deriving DecidableEq, Repr

/-- Colour hold (chapter 8). -/
structure Colour where
  /-- The twelve channels. Width: 12. Source: 08 R270. Reset: OFF. -/
  ch : Vector ColCh 12
  /-- Paper targets by zone. Width: Lab each. Source: 08 R272. Reset: none. -/
  paper : NMap (Option Lab)
  /-- Next band number. Width: 32. Source: 08 R258. Reset: 0. -/
  nextBand : Nat
  /-- End line of the last band. Width: 48. Source: 08 R258. Reset: 0. -/
  lastEnd : Nat
  /-- Bands in progress. Width: list. Source: 08 R258. Reset: empty. -/
  bands : List Band
  /-- The last 4,096 band records, newest first. Width: 4,096. Source: 08 R279. Reset: empty. -/
  log : List Band
  /-- The accepted calibration. Width: one. Source: 08 R267. Reset: none. -/
  calib : Option Calib
  /-- COLOUR.CAL in progress. Width: one. Source: 08 R268. Reset: none. -/
  cal : Option CalRun
  /-- Local day on which COLOUR_CAL_DUE was last raised. Width: 32. Source: 08 R269. Reset: none. -/
  dueDay : Option Nat
  /-- Last corrected Lab of each paper patch, by zone. Width: Lab. Source: 08 R279. Reset: none. -/
  paperLast : NMap (Option Lab)
  /-- COL_CAL_DAYS in force, and the local day on which it was taken. Width: 16 + 32. Source: 08 R269, R282. Reset: 90 and 0. -/
  calDays : Nat × Int
  /-- Bands numbered below this feed no update (a lead move, 08 R277). Width: 32. Source: 08 R277. Reset: 0. -/
  minBand : Nat
  /-- The patch centres go to the bar with the next band trigger: a COLOUR.SETUP takes effect there. Width: 1. Source: 08 R263, R279. Reset: 0. -/
  recentre : Bool
  deriving DecidableEq, Repr

/-! ## WyrelLink nodes (chapter 10) -/

/-- A pending entry of a hub segment (10 R319). -/
structure HubEntry where
  seq : Nat
  fire : Nat
  fph : Nat
  line : Bool
  voids : Nat
  crc : Nat
  slots : List Nat
  deriving DecidableEq, Repr

/-- A segment of a hub (10 R319, R340). -/
structure HubSeg where
  seg : Nat
  ncnt : Nat
  lastAcc : Nat
  table : List HubEntry
  deriving DecidableEq, Repr

/-- A WyrelLink node: what the lead knows of it, and the node's own registers, segments and servo (chapter 10). -/
structure Node where
  /-- Node ID. Width: 14. Source: 10 R312. -/
  id : Nat
  /-- Last HELLO. Width: R336. Source: 10 R336. -/
  hello : Hello
  /-- State as the lead knows it. Width: 3. Source: 10 R330. -/
  st : Nat
  /-- Lanes on which it was discovered: tile and lane. Width: list. Source: 02 R88, 10 R330. -/
  lanes : List (Nat × Nat)
  /-- Tick of the last valid STATUS. Width: 64. Source: 10 R333. -/
  statusAt : Option Nat
  /-- Last STATUS counters. Width: 5 x 32. Source: 10 R338. -/
  counters : List Nat
  /-- Segments the armed job addresses to it were written and READY was commanded. Width: 1. Source: 10 R331. -/
  asked : Bool
  /-- NODE_READY raised: tick and line. Width: 48. Source: 10 R331, R332. -/
  readyLine : Option Nat
  /-- LEAVE_LINE of a planned leave. Width: 48. Source: 10 R334. -/
  leave : Option Nat
  /-- Last ESEQ acted on, per source and code. Width: list. Source: 10 R339. -/
  eseq : List (Nat × Nat)
  /-- NODE_ID's configured value; NODE_STATE; NODE_LEAVE. Width: R340. Source: 10 R340. -/
  nodeId : Option Nat
  nodeSt : Nat
  leaveLo : Nat
  leaveHi : Nat
  /-- NODE_CNT(i): CHECK, LATE, MISSING, BOTHVOID, DIFFER, OVER, FAR, FORMAT. Width: 8 x 32. Source: 10 R340. -/
  cnt : Vector Nat 8
  /-- SEG_TAB words. Width: up to 2,048 x 32. Source: 10 R340. -/
  segTab : NMap Nat
  /-- Segments with LAST_ACC and their pending tables. Width: list. Source: 10 R319. -/
  segs : List HubSeg
  /-- What the hub fired, newest first: segment, sequence, fire ticks, phase, slots. Width: list. Source: 10 R319. -/
  fired : List (Nat × Nat × Nat × Nat × List Nat)
  /-- Answer to the last CTRL request. Width: R337. Source: 10 R337. -/
  answer : Option CtrlFrame
  /-- The highest LAST_ACC of the node's segments since its power-up. Width: 48. Source: 10 R321. Reset: 0. -/
  top : Nat
  /-- A write of NODE_LEAVE_HI has armed the leave. Width: 1. Source: 10 R340. Reset: 0. -/
  leaveSet : Bool
  /-- Frames that the hub has sent on: the port and the bytes, newest first. Width: list. Source: 10 R317. Reset: empty. -/
  out : List (HubPort × List Byte)
  /-- T_PATH and the hop delay of the last exchange. Width: 2 x 32. Source: 10 R330. -/
  tPath : Nat
  deriving DecidableEq, Repr

/-- The TIME servo and exchange of a hop (10 R323, R324, R326). -/
structure Servo where
  hop : Hop
  /-- rate, 1/256 tick per interval. Width: 64 signed. Source: 10 R324. Reset: 0. -/
  rate : Int
  /-- Last offset o and delay d. Width: 2 x 64 signed. Source: 10 R324. -/
  o : Int
  d : Int
  /-- Consecutive exchanges beyond 2 ticks, and within 1 tick. Width: 2. Source: 10 R326, R330. -/
  bad : Nat
  good : Nat
  /-- The exchange in progress: XSEQ, t1, t2, t3 as far as known. Width: 4. Source: 10 R323. -/
  xseq : Nat
  t1 : Option Nat
  t2 : Option Nat
  t3 : Option Nat
  /-- Tick of the last SYNC and of the last complete exchange. Width: 2 x 64. Source: 10 R322, R326. -/
  syncAt : Nat
  doneAt : Nat
  /-- WYL_TIME_INT as the last SYNC took it, ticks; 0 before one. Width: 19. Source: 10 R323, R346; 00 R14. -/
  interval : Nat
  aligned : Bool
  /-- Tick of the last HELLO sent on the hop. Width: 64. Source: 10 R330. Reset: 0. -/
  helloAt : Nat
  /-- Slew ordered over the next interval, 1/256 tick. Width: 64 signed. Source: 10 R324. -/
  slew : Int
  /-- TIME at which a tick was last left out. Width: 64. Source: 10 R324. Reset: none. -/
  heldAt : Option Nat
  deriving DecidableEq, Repr

/-- A CTRL request in flight (10 R337). -/
structure CtrlReq where
  seq : Nat
  f : CtrlFrame
  tries : Nat
  sentAt : Nat
  deriving DecidableEq, Repr

/-- The package's side of WyrelLink (chapter 10). -/
structure Link where
  /-- Nodes known. Width: 16,384. Source: 10 R329. Reset: none. -/
  nodes : List Node
  /-- LINK.NODES table: UID and ID. Width: 4,096. Source: 10 R329. Reset: empty. -/
  table : List (Nat × Nat)
  /-- TIME hops. Width: list. Source: 10 R322. Reset: none. -/
  servos : List Servo
  /-- CTRL requests in flight. Width: list. Source: 10 R337. Reset: none. -/
  ctrl : List CtrlReq
  /-- Next CTAG and ESEQ. Width: 2 x 16. Source: 10 R337, R339. Reset: 0. -/
  ctag : Nat
  eseq : Nat
  /-- WYL_NODE_ID and WYL_TIME_ROLE in force. Width: 14 + 1. Source: 10 R346. Reset: 0 and 1. -/
  nodeId : Nat
  role : Nat
  /-- TIME_PRESS_FAULT in force. Width: 1. Source: 10 R326. Reset: 0. -/
  pressFault : Bool
  /-- Frames handed to the lanes, newest first. Width: list. Source: 09 R294, chapter 10. Reset: empty. -/
  sent : List OutFrame
  /-- The last ESEQ acted on of each source and code of the EVENT frames that the package itself takes. Width: list. Source: 10 R339. Reset: empty. -/
  acted : List ((Nat × Nat) × Nat)
  deriving DecidableEq, Repr

/-! ## The lead, preserves and the package -/

/-- A tile's records of the lifetime tally as a journal record holds them (19 R584, R586). -/
structure TallyRec where
  hours : Nat
  cycles : Nat
  heat : Nat × Nat
  lanes : List (List Nat)
  coldStarts : Nat
  fires : NMap Nat
  deriving DecidableEq, Repr

/-- A tally record of the journal: every tile's records, and those the lead keeps (19 R584, R586). -/
structure TallyLog where
  tiles : List TallyRec
  mods : NMap Nat
  col : NMap Nat
  deriving DecidableEq, Repr

/-- The body of a preserve as far as the spec names its content (11 R371, 19 R580). -/
structure PresBody where
  items : PMap
  counters : List Counter
  cal : Cal
  colour : Colour
  nodes : List Node
  table : List (Nat × Nat)
  targets : List HostTgt
  /-- The event routers, tile by tile (section 11). -/
  evrs : List Evr
  /-- The tally shadow (section 12). -/
  tally : TallyLog
  deriving DecidableEq, Repr

/-- A preserve (11 R371). -/
structure Preserve where
  pseq : Nat
  epoch : Nat
  line : Nat
  time : Nat
  cseq : Nat
  cmdseq : Nat
  good : Bool
  body : PresBody
  deriving DecidableEq, Repr

/-- What PD_AON of a tile keeps of its trim: the sets, the diode offset and the THM_TREF used for it (18 R554, R562). -/
structure TrimKeep where
  sets : List TrimSet
  diode : Int × Int
  deriving DecidableEq, Repr

/-- A flash write in progress (19 R582). -/
structure FlashJob where
  /-- 0 image slot, 1 preserve, 2 tally, 3 trim sets, 4 calibration record. -/
  type : Nat
  seq : Nat
  tries : Nat
  pres : Option Preserve
  /-- The bytes of an image. -/
  image : List Byte
  tally : Option TallyLog
  /-- The content of a calibration record. -/
  calib : Option Calib
  /-- The trim sets, tile by tile. -/
  trims : Option (List TrimKeep)
  deriving DecidableEq, Repr

/-- A copy of the slot directory; `good`: its tag, version and CHECK hold (19 R573). -/
structure Dir where
  dseq : Nat
  active : Nat
  stateA : Nat
  stateB : Nat
  fwverA : Nat
  fwverB : Nat
  good : Bool
  deriving DecidableEq, Repr

/-- The header of a journal sector; `good`: its tag and both checks hold (19 R581). -/
structure JSector where
  type : Nat
  jseq : Nat
  part : Nat
  npart : Nat
  erases : Nat
  rlen : Nat
  good : Bool
  deriving DecidableEq, Repr

/-- A journal sector that holds no record. -/
def JSector.clear : JSector := { type := 0, jseq := 0, part := 0, npart := 0, erases := 0, rlen := 0, good := false }

/-- The boot flash (19 R571 to R573, R581). -/
structure Flash where
  /-- Owner tile. Width: 1. Source: 19 R571. Reset: 0. -/
  owner : Nat
  /-- The two copies of the slot directory. Width: 2 x R573. Source: 19 R572, R573. Reset: copy 0 with slot A ACTIVE, DSEQ 0, VALID, EMPTY, copy 1 not written (DESIGN CHOICE, log 1: the flash as delivered). -/
  dirs : Vector Dir 2
  /-- Images of slots A and B. Width: 2 x 16 MiB. Source: 19 R572. Reset: none (DESIGN CHOICE, log 1). -/
  slots : Vector (Option Image) 2
  /-- Capacity of the device in MiB. Width: natural number. Source: 19 R571. Reset: 256 (DESIGN CHOICE, log 1: the least that R571 allows). -/
  mib : Nat
  /-- Latest valid flash preserve. Width: one. Source: 11 R372. Reset: none (DESIGN CHOICE, log 1). -/
  preserve : Option Preserve
  /-- The tally record in force in the journal. Width: one. Source: 19 R581, R586. Reset: none (DESIGN CHOICE, log 1). -/
  tally : Option TallyLog
  /-- The calibration record in force in the journal. Width: one. Source: 08 R269, 19 R582. Reset: none (DESIGN CHOICE, log 1). -/
  calib : Option Calib
  /-- The trim sets in force in the journal, tile by tile. Width: one. Source: 18 R554, 19 R581. Reset: none (DESIGN CHOICE, log 1). -/
  trims : Option (List TrimKeep)
  /-- Highest record number of the journal. Width: 32. Source: 19 R581. Reset: 0 (DESIGN CHOICE, log 1). -/
  jseq : Nat
  /-- The headers of the journal's sectors. Width: list. Source: 19 R581. Reset: no record (DESIGN CHOICE, log 1). -/
  sectors : NMap JSector
  /-- Write pointer, in sectors of the journal. Width: 32. Source: 19 R582. Reset: 0 (DESIGN CHOICE, log 1). -/
  ptr : Nat
  /-- Writes in progress, first in, first out. Width: list. Source: 19 R582. Reset: empty. -/
  jobs : List FlashJob
  deriving DecidableEq, Repr

/-- The lead and its moves (chapter 11). -/
structure LeadSt where
  /-- Tile that holds the lead. Width: 1. Source: 01 R26, 11 R374. Reset: 0. -/
  tile : Nat
  /-- Lead epoch. Width: 16. Source: 11 R377. Reset: 1. -/
  epoch : Nat
  /-- A handover: tick H, giving tile, packet. Width: one. Source: 11 R380. Reset: none. -/
  handover : Option (Nat × Nat × Nat)
  /-- The next dispatch number and the epoch of the giving tile as of H. Width: count + 16. Source: 11 R380, R381. Reset: 0, 0. -/
  overlap : Nat × Nat
  /-- A takeover in progress: 0 none, 1 the host controller has not started on T1, 2 it runs and the port is not in L0. Width: 2. Source: 11 R374, R376. Reset: 0. -/
  cold : Nat
  /-- Next PSEQ. Width: 32. Source: 11 R371. Reset: 1. -/
  pseq : Nat
  /-- DRAM preserve slots of T1. Width: 2. Source: 11 R370. Reset: none. -/
  slots : Vector (Option Preserve) 2
  /-- Preserve sent and not yet received. Width: one. Source: 11 R370. Reset: none. -/
  sent : Option Preserve
  /-- Tick at which the standby's last valid preserve was received. Width: 64. Source: 11 R379. Reset: none. -/
  recvAt : Option Nat
  /-- Update state: 0 NONE, 1 STAGED, 2 ROLLING, 3 FAILED. Width: 2. Source: 19 R589, R595. Reset: 0. -/
  upd : Nat
  /-- Updates of tiles not yet PAIRED: packet, tile, and the tick at which UPD_TIMEOUT ends. Width: list. Source: 19 R591. Reset: empty. -/
  updating : List (Nat × Nat × Nat)
  /-- N0 follows the hubs' last accepted lines: the cold start found no flash preserve, and no line has been issued since. Width: 1. Source: 01 R45. Reset: 0. -/
  hubBase : Bool
  deriving DecidableEq, Repr

/-- The whole package. -/
structure State where
  /-- The part. Width: one of three. Source: 00 R1. Reset: GA-408 (DESIGN CHOICE, log 1). -/
  part : Part
  /-- TIME of the package master. Width: 64. Source: 01 R41. Reset: 0 (DESIGN CHOICE, log 8). -/
  time : BitVec 64
  /-- The tiles. Width: 8. Source: 01 R16. Reset: as TileState. -/
  tiles : Vector TileState 8
  /-- Twin links up. Width: 4. Source: 11 R353. Reset: 1. -/
  linkUp : Vector Bool 4
  /-- Fabric hops that failed. Width: 8. Source: 01 R32. Reset: none. -/
  hops : List Nat
  /-- The lead. Width: block. Source: chapter 11. Reset: as LeadSt. -/
  lead : LeadSt
  /-- Queues and host ports. Width: block. Source: chapter 12. Reset: as Qen. -/
  qen : Qen
  /-- The host delivery stage. Width: block. Source: 14 R463. Reset: as HostStage. -/
  evh : HostStage
  /-- Host memory as the device's writes leave it. Width: 2^64 bytes. Source: 12 R392. Reset: nothing written. -/
  host : Mem
  /-- The value returned by the last register read, or the answer of the last SMBus read. Width: 32. Source: 01 R51, 20 R613. Reset: 0 (DESIGN CHOICE, log 8). -/
  busRead : U32
  /-- The last SMBus command was NACKed. Width: 1. Source: 20 R613. Reset: 0. -/
  smbNack : Bool
  /-- SMB_ALERT_L is low. Width: 1. Source: 20 R613. Reset: 0. -/
  smbAlert : Bool
  /-- EXTEST in force with the boundary register's REJ0-3 and LINE_STOP_REQ cells. Width: 1 + 5. Source: 20 R612. Reset: none. -/
  extest : Option Nat
  /-- The job. Width: block. Source: chapters 4, 11, 13. Reset: as Job. -/
  job : Job
  /-- Job memory traffic and on-die stores. Width: block. Source: chapters 3, 5, 6, 7. Reset: as Stores. -/
  stores : Stores
  /-- Marks and the calendar. Width: block. Source: chapter 5. Reset: as Marks. -/
  marks : Marks
  /-- Motion. Width: block. Source: chapters 2, 6. Reset: as Motion. -/
  motion : Motion
  /-- Colour hold. Width: block. Source: chapter 8. Reset: as Colour. -/
  colour : Colour
  /-- WyrelLink. Width: block. Source: chapter 10. Reset: as Link. -/
  link : Link
  /-- Display ports DP0 and DP1. Width: 2. Source: chapter 17. Reset: as DspPort. -/
  dsp : Vector DspPort 2
  /-- DISP.FLIPs not yet latched by every port, oldest first. Width: list. Source: 17 R527. Reset: empty. -/
  dispFlip : List DispFlip
  /-- DISP.MODE running. Width: one. Source: 17 R533, R534. Reset: none. -/
  dispMode : Option DispMode
  /-- DISP.POWER off that waits for the ends of frames: its packet. Width: one. Source: 17 R535. Reset: none. -/
  dispOff : Option Nat
  /-- The last timing set since reset. Width: one. Source: 17 R535. Reset: none. -/
  dispLast : Option Timing
  /-- The flash. Width: block. Source: chapter 19. Reset: as Flash. -/
  flash : Flash
  /-- Head module hours, colour totals and other lead tallies: module UID and 0.1 h; per-channel updates and 0.1 h CLOSED. Width: 32 each. Source: 19 R584. Reset: 0. -/
  tallyMod : NMap Nat
  tallyCol : NMap Nat
  /-- Ticks not yet counted in the module hours, keyed 2 * UID, and in the CLOSED hours, keyed 2 * channel + 1. Width: 37 each. Source: 19 R584. Reset: 0. -/
  tallyRest : NMap Nat
  /-- The model's own counter that numbers free values. Width: count. Source: the model's (log 4). Reset: 0 (DESIGN CHOICE, log 4). -/
  free : Nat
  /-- Commands that wait, first in, first out. Width: list. Source: the model's. Reset: empty. -/
  pending : List Instr
  deriving DecidableEq, Repr

/-! ## Reset: the package right after the cold reset of R568 -/

/-- An event source at reset (14 R474). -/
def EvrSrc.reset : EvrSrc :=
  { en := false, kind := false, wakeEn := false, cores := 0, wake := 0x3F, pri := 0, hosts := 0, count := 0,
    active := false, pend := false }

/-- An event router at reset (14 R474). -/
def Evr.reset : Evr :=
  { en := false, baddone := 0, restored := false, logcnt := 0, loglost := 0, edge := Vector.replicate 4 0,
    filt := Vector.replicate 4 0xFA, cores := Vector.replicate 4 { cpri := 0, sleep := false, queue := [] },
    prigroup := Vector.replicate 8 0xFFFF_FFFF, srcs := Vector.replicate 192 EvrSrc.reset, log := [], rr := 3,
    passed := [], retained := false, shadow := [] }

/-- The host delivery stage at reset (14 R474). -/
def HostStage.reset : HostStage :=
  { targets := Vector.replicate 32 { en := false, sleep := false, vecn := 0, vec := 0, cpri := 0, queue := [] },
    rr := 31, offers := [], passed := [] }

/-- A DRAM controller at reset (15 R498). -/
def Memc.reset : Memc :=
  { rateA := 5, rateB := 3, set := 0, ranks := 0, rowbits := 0, st := 0, panic := Vector.replicate 3 none,
    panicLongs := Vector.replicate 3 0, panicFrom := Vector.replicate 3 0, pause := none, freqPend := false, trainPend := false,
    hash := #v[0x1_1111, 0x2_2222, 0x4_4444, 0x8_8888], tolDecl := Vector.replicate 3 none,
    panicT := Vector.replicate 3 0, ceCnt := 0, ueCnt := 0, ceAddr := 0, ueAddr := 0, ceLast := none, forced := 0,
    pauseMax := 0, moved := Vector.replicate 4 [], chq := Vector.replicate 4 [], waitq := Vector.replicate 6 [], turn := Vector.replicate 4 (0, 0), openRow := [], refreshed := [],
    trainDue := none, deferMs := 0, poison := [], scrub := (0, 0), scrubH := 0, hot := Vector.replicate 4 false }

/-- A lane at reset (16 R516). -/
def LaneHw.reset : LaneHw :=
  { st := 0, rate := 1, lock := false, rxslp := 0, txslp := 0, margin := false, fault := 0,
    disc := Vector.replicate 3 0, fillDel := 0, fillIns := 0, eyeW := 0, eyeH := 0, ctle := 0, txMain := 0,
    txPost := 0, txPre := 0, testErr := 0, testLoss := 0, testLocked := false, testDone := false, elastic := 32,
    action := none, test := none, outSince := none, downAt := none, waking := Vector.replicate 2 none,
    trainAt := none, fromLine := 0, heads := [], lockRun := 0, rxScr := 0, rxFrame := none, txScr := 0, tx := [], sinceFill := 0,
    txq := [] }

/-- A display port at reset (17 R539). -/
def DspPort.reset : DspPort :=
  { st := 0, rate := 0, hpd := false, pacing := 0, halved := false, teLost := false, panic := false, frame := 0,
    frameAt := 0, lineBase := 0, phase := 2, frameSet := (0, 0), matched := false, sink := 0, under := 0, fillpix := 0, trains := 0, lanes := 0, timing := none, change := none, fallback := false,
    shown := { source := 0, surface := 0, sample := none, prod := none, items := [], vtab := [], conv := [] }, seen := [], te := none, teSkip := 0,
    underSeen := none, lostAt := 0, staging := [], last := [], fill := [] }

/-- A heat block at reset (18 R565). -/
def Thm.reset : Thm :=
  { conv := [], code := 0, temp := 0, max := -32768, badRun := 0, goodRun := 0, sensorBad := false, warn := false,
    shut := false, step := 0, held := false, shed := 0, saving := Vector.replicate 4 0,
    applied := Vector.replicate 4 none, limit := 0x12C, est := 0, cntThrottle := 0, cntShut := 0, cntSensor := 0,
    timer := none, stepT := 0 }

/-- A trim block at reset (18 R566). -/
def Trm.reset : Trm :=
  { pend := 0, running := 0, fail := 0, runs := 0, lastTemp := 0, resid := 0, sets := [],
    dram := Vector.replicate 4 0, appliedTemp := none, inForce := [], waiting := [], run := none, queue := [],
    diode := (0, 0), refs := (0, 0, 0) }

/-- The boot and AON block at reset (19 R595). -/
def Boot.reset : Boot :=
  { stage := 1, cause := 0, slot := 0, aonlost := false, pcl := (0, 0), asked := false, reached := false,
    aonValid := false, onBat := false, vbat := 0, vbatLow := false, hours := 0, hoursRest := 0, cycles := 0,
    cycleArmed := false, tallyHeat := (0, 0), tallyLane := Vector.replicate 10 (Vector.replicate 4 0),
    coldStarts := 0, fires := [] }

/-- The array every threshold slot holds at reset (07 R234). -/
def ScreenArr.builtin : ScreenArr := { aw := 1, ah := 1, cells := [[683, 1365, 2048, 2730, 3413, 4095]] }

/-- The on-die stores at a tile restart (07 R234, R244). -/
def Die.reset : Die :=
  { glyphs := Vector.replicate 2 [], viewmap := Vector.replicate 8 none, screen := Vector.replicate 8 ScreenArr.builtin, slots := [] }

/-- A tile at reset: stage ROM, PD_AON alone on (19 R568, 01 R52). -/
def TileState.reset : TileState :=
  { skew := 0, alignAt := none, slew := 0, timeMin := 0, die := Die.reset, pdOn := 1, pdBusy := 0, pdNeed := 1, pdWait := [], clockOk := true, twin := .boot, pstate := .off,
    cause := 0, withdrawals := 0, sigSkip := 0, sigMismatch := 0, assayFailed := 0, assayPass := 0,
    lastAssay := none, edge := 32, assayRun := none, assayMax := 3, strikes := 0, hbSent := 0, hbLink := 0, hbFabric := 0, hbMiss := 0,
    portFault := false, pseq := 0, startLine := none, rejoinSeq := none, pairedAt := none, begun := 0, posLine := 0,
    cmax := 0, heldCommits := [], appliedCommits := [], mem := [], streams := [], delay := [], short := [],
    prefetch := 64, scanLead := 0, recs := [], gov := [], opening := [], nozLost := Vector.replicate 12 0,
    nozClip := Vector.replicate 12 0, uncovered := [], fired := [], records := [], partner := [], missing := none,
    unsettled := [], verdicts := [], deps := [], taken := 0, voidCnt := [], remaps := [], laneBusy := Vector.replicate 10 0, evr := Evr.reset,
    memc := Memc.reset, lanes := Vector.replicate 10 LaneHw.reset, thm := Thm.reset, trm := Trm.reset,
    boot := Boot.reset, latchHi := [], motFault := 0 }

/-- An endpoint at reset (12 R430; base-specification values of log 7). -/
def Port.reset : Port :=
  { link := 5, dstate := 0, busMaster := false, msixEn := false, funcMask := false, pmeEn := false, wakeL := false,
    crs := false, pme := 0 }

/-- Session 0, open as SUPERVISOR with every group and the whole of job memory (12 R411). -/
def Session.admin : Session :=
  { cls := 0, mask := 0xFFFE, windows := [{ base := 0, len := 2 ^ 40, rights := 3, spans := 0xF }], storeMax := 4096,
    runMax := 256, closing := none, denied := none }

/-- The MSI-X table of an endpoint at reset. -/
def Msix.reset : Msix := { table := [], unmasked := [], pba := [] }

/-- The queue engine at reset (12 R429). -/
def Qen.reset : Qen :=
  { en := false, reglock := false, ready := false, asq := 0, acq := 0, acqs := 1, asqs := 1, stray := Vector.replicate 2 0,
    pairs := Vector.replicate 256 none, store := [], sessions := (Vector.replicate 256 none).set 0 (some Session.admin),
    bells := 0, nextSeq := 1, nextDisp := 1, turn := (255, 8), dispSess := Vector.replicate 4 255, dispQueue := [],
    due := [], msix := Vector.replicate 2 Msix.reset, sentVec := [], mirror := [], mirrored := [],
    ports := Vector.replicate 2 Port.reset }

/-- Every print setting at its reset value. -/
def PrintSet.reset : PrintSet :=
  { items := [], slots := [], noz := [], zone := [], zver := 0, ht := [], blankCh := 0, absent := [], failed := [],
    aborted := false }

/-- A lane of products at reset (04 R136). -/
def Lane.reset : Lane := { nextNum := 0, changes := [], lastShift := none, lastStrings := [] }

/-- The job at reset (13 R439). -/
def Job.reset : Job :=
  { st := .idle, l0 := 0, gen := 0, change := none, changeItems := [], changeLine := none, past := [], bankLine := none, disarm := none,
    arming := none, level := 0, overrate := false, lanes := Vector.replicate 16 Lane.reset, products := [],
    fences := [], bucket := (64 * 250_000_000, 0), base := PrintSet.reset, staged := [], nextJob := [], commits := [],
    cseq := 1, held := [], boundary := [], undelivered := [], rsv := 4096 }

/-- The stores at reset (chapters 3, 5, 6, 7). -/
def Stores.reset : Stores :=
  { gib := 8, twoRank := false, inFlight := [], nextWid := 1, nextSid := 1, live := [], compress := [],
    glyphBank := 0, glyphLoaded := false, vtab := [] }

/-- A counter at reset (05 R181, R196). -/
def Counter.reset : Counter := { cur := 1, stopped := false, record := none, usedArm := 0, usedChange := 0 }

/-- A calendar that is not valid (05 R167). -/
def Cal.reset : Cal := { srcOk := false, sec := 0, sub := 0, tau := 0, valid := false, step := none, slew := none }

/-- The default month names, JAN to DEC (05 R188). -/
def Marks.monthNames : List (List Nat) :=
  [[74, 65, 78], [70, 69, 66], [77, 65, 82], [65, 80, 82], [77, 65, 89], [74, 85, 78], [74, 85, 76], [65, 85, 71],
   [83, 69, 80], [79, 67, 84], [78, 79, 86], [68, 69, 67]]

/-- The marks at reset (chapter 5). -/
def Marks.reset : Marks :=
  { cal := Vector.replicate 2 Cal.reset, taus := [], src := 1, slewPpm := 500, hold := 10,
    announced := none, heard := 0, lost := false, dst := 0, rules := [], shifts := [], active := none, wall := none, lots := [],
    names := Marks.monthNames, formats := [], counters := Vector.replicate 64 Counter.reset,
    shadow := Vector.replicate 2 [], changed := [], shadowOk := Vector.replicate 2 true }

/-- An input that reads 0 (log 8). -/
def PinSt.reset : PinSt := { raw := false, since := 0, filt := false }

/-- A quadrature input at reset (02 R67 to R73). -/
def Enc.reset : Enc :=
  { wireP := Vector.replicate 3 false, wireN := Vector.replicate 3 true, wireSince := Vector.replicate 3 0,
    wireSave := Vector.replicate 3 { tick := none, same := false, since := 0, rx := PinSt.reset }, fault := Vector.replicate 3 false, rx := Vector.replicate 3 PinSt.reset, count := 0, stepBad := 0, rev := false,
    e := none, rephase := [0], latched := 0, indexAt := none, dev := 0, edgeAt := 0, changeLine := 0 }

/-- The pitch loop at reset: off (02 R77). -/
def PLoop.reset : PLoop :=
  { mode := .off, still := true, p := 0, f := 0, tBase := 0, prev := (0, 0, 0), esum := 0, n := 0, c0 := 0, l0 := 0,
    bw := 200, lockRun := 0, unlockRun := 0, lastE := 0, coastLine := 0, edgeAt := 0, reversed := false, passing := false, fresh := true,
    dark := none, wasLock := false }

/-- The registration loop at reset: IDLE (06 R214). -/
def Lens.reset : Lens :=
  { st := .idle, aL := 0, aR := 0, r := 0, q := 0, ref := Vector.replicate 3 0, need := 0, good := 0, bad := 0,
    outRange := 0, inRange := 0, causes := 0, hurt := 0, entry := 0, holdRaised := false, acqRaised := false,
    stuck := false, slip := false, errs := (0, 0, 0), acquireAt := none, refFrom := 0, acqLines := 0, acqBy := none,
    rowAt := 0 }

/-- The motion block at reset (chapters 2, 6). -/
def Motion.reset : Motion :=
  { enc := Vector.replicate 4 Enc.reset, pd := Vector.replicate 8 PinSt.reset, pdLast := Vector.replicate 8 none,
    carr := Vector.replicate 9 PinSt.reset, carrCode := Vector.replicate 3 0, carrSince := Vector.replicate 3 0,
    te := Vector.replicate 2 PinSt.reset, evi := Vector.replicate 32 PinSt.reset, absLast := none,
    absAt := 0, absOff := none, absWait := false, absHold := 0, absRev := false, absBad := 0, loop := PLoop.reset, lastLine := 0, lastFire := 0, current := 0,
    issued := [],
    cmp := Vector.replicate 16 { v := 0, armed := false, pend := [], capture := [0, 0, 0, 0, 0] },
    rej := Vector.replicate 4 { queue := [], rejEnd := none, cmpEnd := none }, stop := false, overs := [], active := 0,
    other := none, copyAt := 0, mismatch := 0, lens := Lens.reset }

/-- A colour channel at reset: OFF (08 R270). -/
def ColCh.reset : ColCh :=
  { st := .off, causes := 0, fromBand := 0, off := [], tgt := [], base := [], sens := none, clip := 0,
    capture := none, last := [] }

/-- Colour hold at reset (chapter 8). -/
def Colour.reset : Colour :=
  { ch := Vector.replicate 12 ColCh.reset, paper := [], nextBand := 0, lastEnd := 0, bands := [], log := [],
    calib := none, cal := none, dueDay := none, paperLast := [], calDays := (90, 0), minBand := 0, recentre := false }

/-- WyrelLink at reset (10 R346). -/
def Link.reset : Link :=
  { nodes := [], table := [], servos := [], ctrl := [], ctag := 0, eseq := 0, nodeId := 0, role := 1,
    pressFault := false, sent := [], acted := [] }

/-- The flash as delivered (log 1). -/
def Flash.reset : Flash :=
  { owner := 0, dirs := #v[⟨0, 0, 1, 0, 0, 0, true⟩, ⟨0, 0, 0, 0, 0, 0, false⟩], slots := Vector.replicate 2 none, mib := 256,
    preserve := none, tally := none, calib := none, trims := none, jseq := 0, sectors := [], ptr := 0, jobs := [] }

/-- The lead at reset: T0, epoch 1 (11 R374, R377). -/
def LeadSt.reset : LeadSt :=
  { tile := 0, epoch := 1, handover := none, overlap := (0, 0), cold := 0, pseq := 1, slots := Vector.replicate 2 none, sent := none,
    recvAt := none, upd := 0, updating := [], hubBase := false }

/-- The package right after the cold reset of R568, as spec/ says; where it says nothing, as log 1, 2, 7 and 8 name. -/
def State.reset : State :=
  { part := .ga408, time := 0, tiles := Vector.replicate 8 TileState.reset, linkUp := Vector.replicate 4 true,
    hops := [], lead := LeadSt.reset, qen := Qen.reset, evh := HostStage.reset, host := [], busRead := 0,
    smbNack := false, smbAlert := false, extest := none, job := Job.reset, stores := Stores.reset,
    marks := Marks.reset, motion := Motion.reset, colour := Colour.reset, link := Link.reset,
    dsp := Vector.replicate 2 DspPort.reset, dispFlip := [], dispMode := none, dispOff := none, dispLast := none,
    flash := Flash.reset, tallyMod := [], tallyCol := [], tallyRest := [], free := 0, pending := [] }

end Sys2Proof.Machine
end

