-- ==== Sys2Proof/Machine/Flags.lean ====
section
/-! DEFINITION. The status codes of R456 and the event source numbers of R458, as the spec's tables list them. -/

namespace Sys2Proof.Machine

/-! ## Status codes (13 R456) -/

/-- ST_OK: Success. -/
abbrev St.ok : Nat := 0x0000
/-- ST_OK_DEGRADED: Proof-path taps cut (R149). -/
abbrev St.okDegraded : Nat := 0x0001
/-- ST_OK_CAL_DUE: Closed under an expired calibration (R269). -/
abbrev St.okCalDue : Nat := 0x0002
/-- ST_OK_STAGED: Value or command staged for the next job (R433, R441). -/
abbrev St.okStaged : Nat := 0x0003
/-- ST_OK_TRUNCATED: Report longer than the host buffer (R436). -/
abbrev St.okTruncated : Nat := 0x0004
/-- ST_OPCODE_BAD: Opcode not defined. -/
abbrev St.opcodeBad : Nat := 0x0100
/-- ST_FLAGS_BAD: Flags invalid (R403). -/
abbrev St.flagsBad : Nat := 0x0101
/-- ST_RSVD_SET: A reserved field or bit is non-zero. -/
abbrev St.rsvdSet : Nat := 0x0102
/-- ST_SESSION_BAD: Session field wrong, or session 0 or pair 0 forbidden. -/
abbrev St.sessionBad : Nat := 0x0103
/-- ST_QUEUE_ARG: Queue, window or limit out of range. -/
abbrev St.queueArg : Nat := 0x0104
/-- ST_ADDR_RANGE: Device address out of range (R102). -/
abbrev St.addrRange : Nat := 0x0110
/-- ST_MEM_OVERLAP: Compression source and destination overlap. -/
abbrev St.memOverlap : Nat := 0x0111
/-- ST_SURFACE_BAD: Descriptor or strip table invalid (R113). -/
abbrev St.surfaceBad : Nat := 0x0112
/-- ST_MEM_ARG: MEM parameter out of range (R127, R131). -/
abbrev St.memArg : Nat := 0x0113
/-- ST_LAYER_ARG: Lane, layer, plane, kernel or policy setting invalid. -/
abbrev St.layerArg : Nat := 0x0120
/-- ST_FENCE_UNKNOWN: No pending flip of the session names the fence. -/
abbrev St.fenceUnknown : Nat := 0x0121
/-- ST_MARK_FMT: Format string invalid. -/
abbrev St.markFmt : Nat := 0x0130
/-- ST_MARK_GLYPH: A printable glyph is undefined. -/
abbrev St.markGlyph : Nat := 0x0131
/-- ST_RULE_BAD: Daylight-rule table invalid. -/
abbrev St.ruleBad : Nat := 0x0132
/-- ST_MARK_ARG: Field, counter, shift, name, lot, expiry or calendar reference setting invalid. -/
abbrev St.markArg : Nat := 0x0133
/-- ST_GLYPH_BAD: Glyph set invalid. -/
abbrev St.glyphBad : Nat := 0x0134
/-- ST_RAY_ARG: Scene, window, lens, sensor or panel setting invalid. -/
abbrev St.rayArg : Nat := 0x0140
/-- ST_VIEWMAP_BAD: View-map table invalid. -/
abbrev St.viewmapBad : Nat := 0x0141
/-- ST_DROP_ARG: Row, interlace, channel or temperature setting invalid. -/
abbrev St.dropArg : Nat := 0x0150
/-- ST_SCREEN_BAD: Threshold array invalid. -/
abbrev St.screenBad : Nat := 0x0151
/-- ST_SLOT_BAD: Slot table or energies invalid. -/
abbrev St.slotBad : Nat := 0x0152
/-- ST_NOZMAP_BAD: Nozzle map entry invalid. -/
abbrev St.nozmapBad : Nat := 0x0153
/-- ST_ZONELUT_BAD: Zone table invalid. -/
abbrev St.zonelutBad : Nat := 0x0154
/-- ST_COLOUR_ARG: Band, tone, target, node or reference setting invalid. -/
abbrev St.colourArg : Nat := 0x0160
/-- ST_SENS_BAD: Sensitivity table invalid. -/
abbrev St.sensBad : Nat := 0x0161
/-- ST_SCAN_ARG: Bar, channel, node or lane setting invalid. -/
abbrev St.scanArg : Nat := 0x0170
/-- ST_NODE_ARG: Node ID, table entry or package setting invalid. -/
abbrev St.nodeArg : Nat := 0x0180
/-- ST_TWIN_ARG: No such tile fitted. -/
abbrev St.twinArg : Nat := 0x0190
/-- ST_JOB_ARG: Job definition inconsistent outside the rows of R440. -/
abbrev St.jobArg : Nat := 0x01A0
/-- ST_ENVELOPE: Outside the envelope (R2) or the span limits (R19). -/
abbrev St.envelope : Nat := 0x01A1
/-- ST_MOTION_ARG: Motion, compare, index or stop-request setting invalid. -/
abbrev St.motionArg : Nat := 0x01A2
/-- ST_DISP_ARG: Display mode, rate or source invalid. -/
abbrev St.dispArg : Nat := 0x01B0
/-- ST_PARM_ID: PARM ID not defined on this part. -/
abbrev St.parmId : Nat := 0x01C0
/-- ST_PARM_RANGE: Value outside the item's range. -/
abbrev St.parmRange : Nat := 0x01C1
/-- ST_PARM_RO: Item read-only. -/
abbrev St.parmRo : Nat := 0x01C2
/-- ST_SVC_ARG: Service setting invalid (R454). -/
abbrev St.svcArg : Nat := 0x01D0
/-- ST_DIAG_ARG: Register offset invalid (R455). -/
abbrev St.diagArg : Nat := 0x01E0
/-- ST_LANE_ARG: Lane, action, pattern or duration invalid. -/
abbrev St.laneArg : Nat := 0x01F0
/-- ST_SESSION_BUSY: Session already open. -/
abbrev St.sessionBusy : Nat := 0x0200
/-- ST_QUEUE_BUSY: Queue pair already exists. -/
abbrev St.queueBusy : Nat := 0x0201
/-- ST_STRIP_POOL: Strip pool exceeded. -/
abbrev St.stripPool : Nat := 0x0210
/-- ST_RSV_SHORT: Device-owned region too small. -/
abbrev St.rsvShort : Nat := 0x0211
/-- ST_LIVE_FULL: 256 live ranges in use. -/
abbrev St.liveFull : Nat := 0x0212
/-- ST_LBUF_SHORT: Line buffer too short. -/
abbrev St.lbufShort : Nat := 0x0220
/-- ST_FLIP_QUEUE_FULL: 64 pending commands on the lane. -/
abbrev St.flipQueueFull : Nat := 0x0221
/-- ST_FENCE_BUSY: Fence ID in use. -/
abbrev St.fenceBusy : Nat := 0x0222
/-- ST_GLYPH_SPACE: Glyph set too large, or standby bank in use. -/
abbrev St.glyphSpace : Nat := 0x0230
/-- ST_RAY_BUF: Brick buffer too small. -/
abbrev St.rayBuf : Nat := 0x0240
/-- ST_VIEWMAP_BUSY: View-map slot in use. -/
abbrev St.viewmapBusy : Nat := 0x0241
/-- ST_SCREEN_BUSY: Threshold slot in use. -/
abbrev St.screenBusy : Nat := 0x0250
/-- ST_SCAN_BUF: Short store or scan buffer insufficient. -/
abbrev St.scanBuf : Nat := 0x0270
/-- ST_DELAY_BW: Delay rate above 10.8 GB/s. -/
abbrev St.delayBw : Nat := 0x0271
/-- ST_LANE_SHORT: Lane load too high, or lane not trained. -/
abbrev St.laneShort : Nat := 0x0272
/-- ST_SESSION_CLOSED: Session closed or closing. -/
abbrev St.sessionClosed : Nat := 0x0300
/-- ST_QUEUE_STATE: Queue absent or being deleted. -/
abbrev St.queueState : Nat := 0x0301
/-- ST_MEM_LIVE: Destination overlaps a live range. -/
abbrev St.memLive : Nat := 0x0310
/-- ST_CHANGE_SCOPE: JOB.CHANGE beyond R161. -/
abbrev St.changeScope : Nat := 0x0320
/-- ST_CAL_STEP: Correction above CAL_STEP_MAX while armed. -/
abbrev St.calStep : Nat := 0x0330
/-- ST_CAL_INVALID: Calendar invalid and needed. -/
abbrev St.calInvalid : Nat := 0x0331
/-- ST_CAL_SOURCE: Correction refused under the selected source. -/
abbrev St.calSource : Nat := 0x0332
/-- ST_LENS_STATE: No LIGHT job armed, or sensor in wire fault. -/
abbrev St.lensState : Nat := 0x0340
/-- ST_DROP_STATE: Zone tables owned by the colour-hold loop. -/
abbrev St.dropState : Nat := 0x0350
/-- ST_COLOUR_STATE: Loop or job state forbids the command. -/
abbrev St.colourState : Nat := 0x0360
/-- ST_CAL_REQUIRED: No calibration accepted. -/
abbrev St.calRequired : Nat := 0x0361
/-- ST_LANE_DOWN: Named lane down. -/
abbrev St.laneDown : Nat := 0x0370
/-- ST_NODE_STATE: Node unknown or in a forbidding state. -/
abbrev St.nodeState : Nat := 0x0380
/-- ST_NODE_NAK: Node answered NAK. -/
abbrev St.nodeNak : Nat := 0x0381
/-- ST_TWIN_LAST: Partner not printing (R351), or a twin without a tile that can print at JOB.ARM (R440). -/
abbrev St.twinLast : Nat := 0x0390
/-- ST_TWIN_STATE: Tile or lead state forbids the command. -/
abbrev St.twinState : Nat := 0x0391
/-- ST_LEAD_CHANGED: Lead changed before the effect was committed. -/
abbrev St.leadChanged : Nat := 0x0392
/-- ST_TWIN_COMPAT: Image does not support the operating level. -/
abbrev St.twinCompat : Nat := 0x0393
/-- ST_JOB_STATE: Job state forbids the command (R439, R442). -/
abbrev St.jobState : Nat := 0x03A0
/-- ST_STOP_HELD: Stop condition persists (R449). -/
abbrev St.stopHeld : Nat := 0x03A1
/-- ST_DISP_STATE: Display state forbids the command (R451). -/
abbrev St.dispState : Nat := 0x03B0
/-- ST_DOMAIN_IN_USE: Domain needed for printing or for the lead (R50). -/
abbrev St.domainInUse : Nat := 0x03D0
/-- ST_UPDATE_STATE: No staged image, an update in progress for SVC.IMAGE, or another SVC.UPDATE running (R454). -/
abbrev St.updateState : Nat := 0x03D1
/-- ST_LANE_STATE: Lane in use or under test (R450). -/
abbrev St.laneState : Nat := 0x03F0
/-- ST_PROT_GROUP: Group not in the session's mask. -/
abbrev St.protGroup : Nat := 0x0400
/-- ST_PROT_CLASS: Opcode or mask not permitted to the class. -/
abbrev St.protClass : Nat := 0x0401
/-- ST_PROT_WINDOW: Byte outside the session's windows. -/
abbrev St.protWindow : Nat := 0x0402
/-- ST_PROT_FLAG: GLOBAL not permitted to the class. -/
abbrev St.protFlag : Nat := 0x0403
/-- ST_CHECK_FAIL: Strip failed verification. -/
abbrev St.checkFail : Nat := 0x0501
/-- ST_NO_SHRINK: Output not smaller than input; nothing stored. -/
abbrev St.noShrink : Nat := 0x0502
/-- ST_OUT_SPACE: Destination too small; nothing stored. -/
abbrev St.outSpace : Nat := 0x0503
/-- ST_MEM_UNCORR: Uncorrectable ECC error on read. -/
abbrev St.memUncorr : Nat := 0x0504
/-- ST_COPY_DIFFER: Two copies of a block differ, between the tiles of a twin or between spans (R616). -/
abbrev St.copyDiffer : Nat := 0x0505
/-- ST_CAL_RESIDUAL: Calibration fit refused. -/
abbrev St.calResidual : Nat := 0x0506
/-- ST_IMAGE_BAD: Firmware image header, hash or signature invalid. -/
abbrev St.imageBad : Nat := 0x0507
/-- ST_TEST_ERRORS: Lane test found errors (R450). -/
abbrev St.testErrors : Nat := 0x0508
/-- ST_FENCE_LATE: Signal line after the arm line. -/
abbrev St.fenceLate : Nat := 0x0601
/-- ST_FLIP_LATE: Target's arm line already begun. -/
abbrev St.flipLate : Nat := 0x0602
/-- ST_NODE_TIMEOUT: No node answer after three attempts. -/
abbrev St.nodeTimeout : Nat := 0x0680
/-- ST_DISP_TRAIN: DisplayPort link training did not complete. -/
abbrev St.dispTrain : Nat := 0x06B0
/-- ST_LANE_TRAIN: Lane training did not complete. -/
abbrev St.laneTrain : Nat := 0x06F0
/-- ST_HOST_DMA: Host buffer read failed. -/
abbrev St.hostDma : Nat := 0x0700
/-- ST_PRESERVE_FAIL: Flash preserve failed read-back. -/
abbrev St.preserveFail : Nat := 0x0790
/-- ST_FLASH_FAIL: Flash write or read-back failed. -/
abbrev St.flashFail : Nat := 0x07D0
/-- ST_DOMAIN_FAIL: Domain not ready in time. -/
abbrev St.domainFail : Nat := 0x07D1

/-! ## Event sources (14 R458) -/

/-- FABRIC_HOP_DOWN (chapter 1). -/
abbrev Ev.fabricHopDown : Nat := 8
/-- FABRIC_SPLIT (chapter 1). -/
abbrev Ev.fabricSplit : Nat := 9
/-- REFCLK_LOST (chapter 1). -/
abbrev Ev.refclkLost : Nat := 10
/-- PLL_UNLOCK (chapter 1). -/
abbrev Ev.pllUnlock : Nat := 11
/-- TIME_ALIGN_FAULT (chapter 1). -/
abbrev Ev.timeAlignFault : Nat := 12
/-- JOB_OVERRATE (chapter 1). -/
abbrev Ev.jobOverrate : Nat := 13
/-- ENC_WIRE_FAULT (R67): Input, pair, set or clear. -/
abbrev Ev.encWireFault : Nat := 16
/-- ENC_STEP_BAD (R70): Input, count. -/
abbrev Ev.encStepBad : Nat := 17
/-- ENC_INDEX_SLIP (R73): Input, d. -/
abbrev Ev.encIndexSlip : Nat := 18
/-- ENC_INDEX_MISS (R73): Input, E. -/
abbrev Ev.encIndexMiss : Nat := 19
/-- ENC_REPHASED (R72): Input, previous d. -/
abbrev Ev.encRephased : Nat := 20
/-- WEB_REVERSE (R71, R84): Count. -/
abbrev Ev.webReverse : Nat := 21
/-- WEB_STILL (R71, R84): Count. -/
abbrev Ev.webStill : Nat := 22
/-- PITCH_LOCK (R83): Line. -/
abbrev Ev.pitchLock : Nat := 23
/-- PITCH_UNLOCK (R83): Line. -/
abbrev Ev.pitchUnlock : Nat := 24
/-- ENC_COAST (R82): Line. -/
abbrev Ev.encCoast : Nat := 25
/-- ENC_LOST (R82): Line. -/
abbrev Ev.encLost : Nat := 26
/-- ABS_FAULT (R75, R76): Cause or deviation. -/
abbrev Ev.absFault : Nat := 27
/-- ABS_WARN (R75, R76): Cause or deviation. -/
abbrev Ev.absWarn : Nat := 28
/-- ABS_DEVIATE (R75, R76): Cause or deviation. -/
abbrev Ev.absDeviate : Nat := 29
/-- MOTION_MISMATCH (R85, R86): Line. -/
abbrev Ev.motionMismatch : Nat := 30
/-- MOTION_SOURCE_T1 (R85, R86): Line. -/
abbrev Ev.motionSourceT1 : Nat := 31
/-- COMPARE_SKIP (R87–R89): Unit, k or tick. -/
abbrev Ev.compareSkip : Nat := 32
/-- COMPARE_LATE (R87–R89): Unit, k or tick. -/
abbrev Ev.compareLate : Nat := 33
/-- CMP_HIT (R87–R89): Unit, k or tick. -/
abbrev Ev.cmpHit : Nat := 34
/-- PD_REPEAT (R90–R92): Input or lane, line. -/
abbrev Ev.pdRepeat : Nat := 35
/-- PD_RATE (R90–R92): Input or lane, line. -/
abbrev Ev.pdRate : Nat := 36
/-- PRODUCT_LATE (R90–R92): Input or lane, line. -/
abbrev Ev.productLate : Nat := 37
/-- CARRIAGE_CODE_BAD (R93, R94): Group, code. -/
abbrev Ev.carriageCodeBad : Nat := 38
/-- CARRIAGE_MOVED (R93, R94): Group, code. -/
abbrev Ev.carriageMoved : Nat := 39
/-- REJ_LATE (R96, R97): Output, product, source. -/
abbrev Ev.rejLate : Nat := 40
/-- REJ_QUEUE_FULL (R96, R97): Output, product, source. -/
abbrev Ev.rejQueueFull : Nat := 41
/-- LINE_STOP_SET (R96, R97): Output, product, source. -/
abbrev Ev.lineStopSet : Nat := 42
/-- LENS_LOCK (R214): Line. -/
abbrev Ev.lensLock : Nat := 43
/-- LENS_UNLOCK (R214): Line. -/
abbrev Ev.lensUnlock : Nat := 44
/-- LENS_ACQ_FAIL (R215): Line. -/
abbrev Ev.lensAcqFail : Nat := 45
/-- LENS_TRACK_LOST (R217): Cause, line. -/
abbrev Ev.lensTrackLost : Nat := 46
/-- LENS_HOLD_EXPIRED (R217): Line. -/
abbrev Ev.lensHoldExpired : Nat := 47
/-- LENS_TRACK_OK (R218): Line, state entered. -/
abbrev Ev.lensTrackOk : Nat := 48
/-- LENS_REACQ_FAIL (R218): Input, deviation in 1/256 pitch. -/
abbrev Ev.lensReacqFail : Nat := 49
/-- STRIP_CHECK_FAIL (A strip fails R121): Span, surface, strip, cause. -/
abbrev Ev.stripCheckFail : Nat := 56
/-- STRIP_VERDICT_LATE (The partner verdict is not known at the deadline (R124)): Span, surface, strip. -/
abbrev Ev.stripVerdictLate : Nat := 57
/-- STRIP_BLANKED (Affected lines computed blank (R124)): Span, first and last affected line. -/
abbrev Ev.stripBlanked : Nat := 58
/-- STRIP_MENDED (R126): Span, surface, strip. -/
abbrev Ev.stripMended : Nat := 59
/-- COMPRESS_PAUSED (R130): Span. -/
abbrev Ev.compressPaused : Nat := 60
/-- FENCE_MISSED (R158): Lane, product, fence. -/
abbrev Ev.fenceMissed : Nat := 64
/-- LAYER_BLANKED (R158): Lane, product, layer. -/
abbrev Ev.layerBlanked : Nat := 65
/-- LAYER_HELD (R158): Lane, product, layer. -/
abbrev Ev.layerHeld : Nat := 66
/-- FIELDS_FALLBACK (R158): Lane, product, layer. -/
abbrev Ev.fieldsFallback : Nat := 67
/-- PROOF_TAPS_CUT (R149): Lane, layer, taps used. -/
abbrev Ev.proofTapsCut : Nat := 68
/-- JOB_CHANGED (R160): Change line. -/
abbrev Ev.jobChanged : Nat := 69
/-- CAL_INVALID (R167): Tile. -/
abbrev Ev.calInvalid : Nat := 72
/-- CAL_STEPPED (R170): δ. -/
abbrev Ev.calStepped : Nat := 73
/-- CAL_SLEWING (R170): δ. -/
abbrev Ev.calSlewing : Nat := 74
/-- CAL_STEP_NEEDED (R170): δ. -/
abbrev Ev.calStepNeeded : Nat := 75
/-- CAL_DISCIPLINE_LOST (R169): Last announced second. -/
abbrev Ev.calDisciplineLost : Nat := 76
/-- DST_CHANGE (R173): New dst in minutes. -/
abbrev Ev.dstChange : Nat := 77
/-- SHIFT_CHANGE (R176): Lane, product, code. -/
abbrev Ev.shiftChange : Nat := 78
/-- COUNTER_RESET (R181, R182): Counter, lane, product. -/
abbrev Ev.counterReset : Nat := 79
/-- COUNTER_WRAP (R181, R182): Counter, lane, product. -/
abbrev Ev.counterWrap : Nat := 80
/-- COUNTER_LIMIT (R181, R182): Counter, lane, product. -/
abbrev Ev.counterLimit : Nat := 81
/-- COUNTER_GAP (R184): Counter, value resumed. -/
abbrev Ev.counterGap : Nat := 82
/-- FIELD_CLIPPED (R192): Lane, product, field. -/
abbrev Ev.fieldClipped : Nat := 83
/-- NOZZLE_FAILED (R237): Channel, row, nozzle. -/
abbrev Ev.nozzleFailed : Nat := 88
/-- NOZZLE_UNCOVERED (R238, R239): Channel, row, nozzle, line. -/
abbrev Ev.nozzleUncovered : Nat := 89
/-- GOV_LOWERED (R248): Channel, row, zone, line. -/
abbrev Ev.govLowered : Nat := 90
/-- GOV_DROPPED (R248): Channel, row, zone, line. -/
abbrev Ev.govDropped : Nat := 91
/-- HEAD_TEMP_STEP (R250): Channel, row, zone, step. -/
abbrev Ev.headTempStep : Nat := 92
/-- ZONE_REST (R250): Channel, row, zone, line. -/
abbrev Ev.zoneRest : Nat := 93
/-- ZONE_RESUME (R250): Channel, row, zone, line. -/
abbrev Ev.zoneResume : Nat := 94
/-- OVERSPEED1 (R251): Channel, row, line. -/
abbrev Ev.overspeed1 : Nat := 95
/-- OVERSPEED2 (R251): Channel, row, line. -/
abbrev Ev.overspeed2 : Nat := 96
/-- OVERSPEED_END (R251): Channel, row, line. -/
abbrev Ev.overspeedEnd : Nat := 97
/-- BAND_SKIPPED (R258): Lane, product. -/
abbrev Ev.bandSkipped : Nat := 100
/-- PATCH_MISSING (R265): Band, missing count. -/
abbrev Ev.patchMissing : Nat := 101
/-- COLOUR_UPDATE (R276): Band, version. -/
abbrev Ev.colourUpdate : Nat := 102
/-- COLOUR_OFF_LIMIT (R274): Channel, zone, tone. -/
abbrev Ev.colourOffLimit : Nat := 103
/-- COLOUR_PAUSED (R271): Channel, cause. -/
abbrev Ev.colourPaused : Nat := 104
/-- COLOUR_RESUMED (R271): Channel, cause. -/
abbrev Ev.colourResumed : Nat := 105
/-- COLOUR_CAL_DUE (R269): Days past expiry. -/
abbrev Ev.colourCalDue : Nat := 106
/-- LINE_UNDERRUN (R299): Node, SEG, line, cause. -/
abbrev Ev.lineUnderrun : Nat := 108
/-- SEG_UNDELIVERED (R301): Node, SEG, line. -/
abbrev Ev.segUndelivered : Nat := 109
/-- LANE_REMAPPED (R297, R302): Bar, lane from, lane to. -/
abbrev Ev.laneRemapped : Nat := 110
/-- NODE_UNKNOWN (R329): UID, ID. -/
abbrev Ev.nodeUnknown : Nat := 112
/-- NODE_ID_CONFLICT (R329): UID, ID. -/
abbrev Ev.nodeIdConflict : Nat := 113
/-- NODE_REFUSED (R318, R331): Node, cause. -/
abbrev Ev.nodeRefused : Nat := 114
/-- NODE_READY (R331): Node. -/
abbrev Ev.nodeReady : Nat := 115
/-- NODE_LEFT (R333, R334, R335): Node, cause, line. -/
abbrev Ev.nodeLeft : Nat := 116
/-- TIME_PRESS_FAULT (R326): Offset in 1/256 tick. -/
abbrev Ev.timePressFault : Nat := 117
/-- NODE_EVENT (R339): Node, code, data. -/
abbrev Ev.nodeEvent : Nat := 118
/-- TWIN_STATE (R348): Tile, old state, new state, cause, line. -/
abbrev Ev.twinState : Nat := 120
/-- TWIN_LINK_DOWN (R353): Twin. -/
abbrev Ev.twinLinkDown : Nat := 121
/-- SIG_MISMATCH (R358): Twin, line. -/
abbrev Ev.sigMismatch : Nat := 122
/-- TWIN_DIVERGED (R358): Twin, line. -/
abbrev Ev.twinDiverged : Nat := 123
/-- ASSAY_FAIL (R365): Tile, class, stage, slice. -/
abbrev Ev.assayFail : Nat := 124
/-- PRESERVE_BAD (R363): PSEQ, section. -/
abbrev Ev.preserveBad : Nat := 125
/-- ARM_MISSED (R362): Lane, product. -/
abbrev Ev.armMissed : Nat := 126
/-- SPAN_DARK (R351): Span, line. -/
abbrev Ev.spanDark : Nat := 127
/-- LEAD_TAKEOVER (R374, R380): Epoch, cause. -/
abbrev Ev.leadTakeover : Nat := 128
/-- LEAD_RETURNED (R374, R380): Epoch, cause. -/
abbrev Ev.leadReturned : Nat := 129
/-- HOST_PORT_FAULT (R376): Tile. -/
abbrev Ev.hostPortFault : Nat := 130
/-- QUEUE_FAULT (R399): Queue, cause: DOORBELL, CQHEAD or FETCH. -/
abbrev Ev.queueFault : Nat := 136
/-- CQ_HELD (R397): Queue. -/
abbrev Ev.cqHeld : Nat := 137
/-- PROT_DENIED (R414): Session, opcode, status. -/
abbrev Ev.protDenied : Nat := 138
/-- SESSION_CHANGE (R412, R415, SESSION.OPEN): Session, kind: open, close or protection. -/
abbrev Ev.sessionChange : Nat := 139
/-- JOB_STATE (R439): state, line. -/
abbrev Ev.jobState : Nat := 140
/-- MEMC_CE (R482): Device address, count. -/
abbrev Ev.memcCe : Nat := 144
/-- MEMC_UE (R483): Device address, port. -/
abbrev Ev.memcUe : Nat := 145
/-- MEMC_PANIC_LONG (R489): Port, ticks. -/
abbrev Ev.memcPanicLong : Nat := 146
/-- MEMC_PAUSE_FORCED (R494): Ticks past due. -/
abbrev Ev.memcPauseForced : Nat := 147
/-- MEMC_SET_CHANGED (R493): New set, rate. -/
abbrev Ev.memcSetChanged : Nat := 148
/-- MEMC_TRAIN_FAIL (R494): Channel, drift. -/
abbrev Ev.memcTrainFail : Nat := 149
/-- MEMC_SCRUB_DONE (R484): Correctable count, uncorrectable count. -/
abbrev Ev.memcScrubDone : Nat := 150
/-- MEMC_DRAM_HOT (R495): Channel, MR4 value, set or clear. -/
abbrev Ev.memcDramHot : Nat := 151
/-- LANE_UP (R503, R504): Lane, rate, eye width, eye height. -/
abbrev Ev.laneUp : Nat := 160
/-- LANE_DOWN (R504): Lane, cause. -/
abbrev Ev.laneDown : Nat := 161
/-- LANE_TRAIN_FAIL (R503): Lane, eye width, eye height. -/
abbrev Ev.laneTrainFail : Nat := 162
/-- LANE_MARGIN_LOW (R509): Lane, eye width, eye height. -/
abbrev Ev.laneMarginLow : Nat := 163
/-- LANE_ELASTIC (R502): Lane, 0 underflow or 1 overflow. -/
abbrev Ev.laneElastic : Nat := 164
/-- LANE_SLEEP (R506): Lane, direction, state. -/
abbrev Ev.laneSleep : Nat := 165
/-- LANE_WAKE (R506): Lane, direction, state. -/
abbrev Ev.laneWake : Nat := 166
/-- LANE_TEST_DONE (R513): Lane, errors, lock losses. -/
abbrev Ev.laneTestDone : Nat := 167
/-- DSP_BLANK_START (R529): Port, frame. -/
abbrev Ev.dspBlankStart : Nat := 176
/-- DSP_LINE_MATCH (R529): Port, frame. -/
abbrev Ev.dspLineMatch : Nat := 177
/-- DSP_FRAME_DONE (R529): Port, frame. -/
abbrev Ev.dspFrameDone : Nat := 178
/-- DSP_UNDERRUN (R532): Port, frame, line, pixel. -/
abbrev Ev.dspUnderrun : Nat := 179
/-- DSP_TE_LOST (R528): Port, frame. -/
abbrev Ev.dspTeLost : Nat := 180
/-- DSP_MODE_CHANGED (R533): Port, first frame. -/
abbrev Ev.dspModeChanged : Nat := 181
/-- DSP_LINK_LOST (R535): Port. -/
abbrev Ev.dspLinkLost : Nat := 182
/-- DSP_HOTPLUG (R535): Port. -/
abbrev Ev.dspHotplug : Nat := 183
/-- THERM_LEVEL (R543, R547): Level, set or clear, temperature. -/
abbrev Ev.thermLevel : Nat := 184
/-- THERM_SHED (R544, R546): Step, limit, actions applied, held flag. -/
abbrev Ev.thermShed : Nat := 185
/-- THERM_SENSOR_BAD (R542): Raw code, set or clear. -/
abbrev Ev.thermSensorBad : Nat := 186
/-- TRIM_DONE (R557): Classes completed, temperature. -/
abbrev Ev.trimDone : Nat := 187
/-- TRIM_FAIL (R557, R560, R562): Class, cause: OFF, MEASURE, RESIDUAL, VREF or TREF. -/
abbrev Ev.trimFail : Nat := 188
/-- BOOT_FAIL (R577, R591): Tile, stage, cause, slot. -/
abbrev Ev.bootFail : Nat := 189
/-- FLASH_FAIL (R582, R590): Flash offset, record type. -/
abbrev Ev.flashFail : Nat := 190
/-- VBAT_LOW (R588): VBAT in mV. -/
abbrev Ev.vbatLow : Nat := 191

end Sys2Proof.Machine
end

