-- ==== Sys2Proof/Machine/Operands.lean ====
section
/-! DEFINITION. The operand fields of a command packet (12 R400, R401; 13 R432, R433, R436) and the numbers of inputs. -/

namespace Sys2Proof

/-! ## Packet fields (12 R400, R401) -/

/-- Dword i of a packet. -/
def Packet.dw (p : Packet) (i : Nat) : Nat := ((p.w[i]?).getD 0).toNat
/-- Bits [h:l] of dword i. -/
def Packet.f (p : Packet) (i h l : Nat) : Nat := bits (p.dw i) h l
/-- The opcode. -/
def Packet.opcode (p : Packet) : Nat := p.f 0 15 0
/-- The tag. -/
def Packet.tag (p : Packet) : Nat := p.f 1 15 0
/-- The session field. -/
def Packet.session (p : Packet) : Nat := p.f 1 23 16
/-- FENCE_PRE. -/
def Packet.fencePre (p : Packet) : Bool := bit (p.dw 0) 16
/-- FENCE_POST. -/
def Packet.fencePost (p : Packet) : Bool := bit (p.dw 0) 17
/-- ORDERED. -/
def Packet.ordered (p : Packet) : Bool := bit (p.dw 0) 18
/-- GLOBAL. -/
def Packet.global (p : Packet) : Bool := bit (p.dw 0) 19
/-- URGENT. -/
def Packet.urgent (p : Packet) : Bool := bit (p.dw 0) 20
/-- NOTIFY. -/
def Packet.notify (p : Packet) : Bool := bit (p.dw 0) 21
/-- A host address in dwords i and i + 1 (13 R432). -/
def Packet.ha (p : Packet) (i : Nat) : Nat := p.dw i + 2 ^ 32 * p.dw (i + 1)
/-- A device address in dwords i and i + 1 (13 R432). -/
def Packet.da (p : Packet) (i : Nat) : Nat := p.dw i + 2 ^ 32 * p.f (i + 1) 7 0
/-- A signed dword. -/
def Packet.sdw (p : Packet) (i : Nat) : Int := sext 32 (p.dw i)

/-- The selector of a report, with 0 selecting everything (13 R436). -/
def Packet.selector (p : Packet) (n : Nat) : Nat := let v := bits (p.dw 5) (n - 1) 0; if v = 0 then 2 ^ n - 1 else v

/-! ## Product targets (13 R433) -/

/-- The lane of a TGT in DW2 and DW3. -/
def Packet.tgtLane (p : Packet) : Nat := p.f 2 3 0
/-- The mode of a TGT: 0 NEXT, 1 PRODUCT, 2 NEXTJOB. -/
def Packet.tgtMode (p : Packet) : Nat := p.f 2 5 4
/-- FENCED of a TGT. -/
def Packet.fenced (p : Packet) : Bool := bit (p.dw 2) 16
/-- The fence ID of a TGT. -/
def Packet.fenceId (p : Packet) : Nat := p.f 2 31 20
/-- The product number of a TGT. -/
def Packet.tgtProduct (p : Packet) : Nat := p.dw 3

/-! ## Numbers of inputs -/

/-- The number of a quadrature input (02 R98). -/
def Quad.num : Quad → Nat
  | .web => 0
  | .lensL => 1
  | .lensR => 2
  | .lensRow => 3

/-- The number of a pair. -/
def Pair.num : Pair → Nat
  | .a => 0
  | .b => 1
  | .z => 2

end Sys2Proof
end

