-- ==== Sys2Proof/Machine/Ops.lean ====
section
/-! DEFINITION. The named operations over the package: sparse tables, tiles, memory, and the occurrence of an event
(14 R460). Every chapter's meanings are written over these. -/

namespace Sys2Proof.Machine

/-- The outcome of a step of the package. -/
abbrev Out := Host.Outcome State Fault Refusal

/-! ## Sparse tables in canonical form: keys strictly rising, no entry equal to the default -/

/-- The value of a table at a key: the default where nothing is listed. -/
def NMap.get (d : α) : NMap α → Nat → α
  | [], _ => d
  | (a, x) :: r, k => if k = a then x else if k < a then d else NMap.get d r k

/-- A table with a key set to a value; setting the default removes the entry. -/
def NMap.set [DecidableEq α] (d : α) : NMap α → Nat → α → NMap α
  | [], k, v => if v = d then [] else [(k, v)]
  | (a, x) :: r, k, v =>
    if k < a then (if v = d then (a, x) :: r else (k, v) :: (a, x) :: r)
    else if k = a then (if v = d then r else (k, v) :: r)
    else (a, x) :: NMap.set d r k v

/-- A table with the value of a key changed by a function. -/
def NMap.upd [DecidableEq α] (d : α) (m : NMap α) (k : Nat) (f : α → α) : NMap α := NMap.set d m k (f (NMap.get d m k))

/-- Every key of the table is at or above a bound. -/
def NMap.above (b : Nat) : NMap α → Bool
  | [] => true
  | (a, _) :: _ => decide (b ≤ a)

/-- The canonical form of a table with a default. -/
def NMap.wf [DecidableEq α] (d : α) : NMap α → Bool
  | [] => true
  | (a, x) :: r => decide (x ≠ d) && NMap.above (a + 1) r && NMap.wf d r

/-! ## Vectors by a natural index -/

/-- The element at an index, or a default beyond the end. -/
def vget (v : Vector α n) (i : Nat) (d : α) : α := (v[i]?).getD d

/-- A vector with one element replaced; beyond the end nothing changes. -/
def vset (v : Vector α n) (i : Nat) (x : α) : Vector α n := v.setIfInBounds i x

/-- A vector with one element changed by a function. -/
def vupd (v : Vector α n) (i : Nat) (d : α) (f : α → α) : Vector α n := vset v i (f (vget v i d))

/-! ## Lists as sets -/

/-- A list with an element added at its end unless it is there. -/
def addNew [DecidableEq α] (l : List α) (x : α) : List α := if x ∈ l then l else l ++ [x]

/-- A list with every element but those that satisfy a test. -/
def dropIf (l : List α) (p : α → Bool) : List α := l.filter (fun x => !p x)

/-- A list with the elements that satisfy a test changed by a function. -/
def mapIf (l : List α) (p : α → Bool) (f : α → α) : List α := l.map (fun x => if p x then f x else x)

/-- A mask of the positions below n that satisfy a test. -/
def maskOf (n : Nat) (p : Nat → Bool) : Nat := (List.range n).foldl (fun m i => if p i then m + 2 ^ i else m) 0

/-- The set bits of a mask below n, ascending. -/
def bitsOf (n m : Nat) : List Nat := (List.range n).filter (fun i => bit m i)

/-! ## Tiles -/

/-- Tiles of a part (00 R1, 01 R16). -/
def Part.tiles : Part → Nat
  | .ga402 => 2
  | .ga404 => 4
  | .ga408 => 8

/-- Tiles of the package. -/
def State.nTiles (s : State) : Nat := s.part.tiles
/-- Twins, and so spans, of the package. -/
def State.nTwins (s : State) : Nat := s.part.tiles / 2

/-- Tile n of the package as an index. -/
def tileIx (n : Nat) : Tile := Fin.ofNat 8 n

/-- A tile of the package. -/
def State.tile (s : State) (t : Tile) : TileState := s.tiles.get t
/-- Tile n of the package. -/
def State.tileN (s : State) (n : Nat) : TileState := s.tile (tileIx n)

/-- The package with one tile replaced. -/
def State.setTile (s : State) (t : Tile) (x : TileState) : State := { s with tiles := s.tiles.set t.val x t.isLt }

/-- The package with one tile changed by a function. -/
def State.updTile (s : State) (t : Tile) (f : TileState → TileState) : State := s.setTile t (f (s.tile t))

/-- The package with tile n changed by a function. -/
def State.updTileN (s : State) (n : Nat) (f : TileState → TileState) : State := s.updTile (tileIx n) f

/-- A command of a tile: it stops where the part does not have the tile (01 R16). -/
def onTile (t : Tile) (s t' : State) : Out := if t.val < s.nTiles then .next t' else .fault .absentUnit

/-- A command of a twin: it stops where the part does not have the twin (01 R16). -/
def onTwin (k : Fin 4) (s t' : State) : Out := if k.val < s.nTwins then .next t' else .fault .absentUnit

/-- The tile numbers of the part. -/
def State.tileList (s : State) : List Nat := List.range s.nTiles

/-- The partner of a tile in its twin (01 R16). -/
def partnerOf (n : Nat) : Nat := if n % 2 = 0 then n + 1 else n - 1

/-- A tile prints: it is PAIRED or SOLO (11 R348). -/
def TileState.printing (x : TileState) : Bool := decide (x.twin = .paired ∨ x.twin = .solo)

/-- The tile that holds the lead (01 R26). -/
def State.leadTile (s : State) : Tile := tileIx s.lead.tile

/-- TIME as a natural number. -/
def State.now (s : State) : Nat := s.time.toNat

/-- TIME of a tile: it never runs back (01 R41, R42). -/
def State.tileNow (s : State) (t : Tile) : Nat := max ((s.now : Int) + (s.tile t).skew).toNat (s.tile t).timeMin

/-- A package with n ticks added to TIME. -/
def State.addTime (s : State) (n : Nat) : State := { s with time := s.time + BitVec.ofNat 64 n }

/-- The next free value's number, and the package with the counter advanced (log 4). -/
def State.nextFree (s : State) : State := { s with free := s.free + 1 }

/-! ## Memory -/

/-- One byte of a memory (log 2: a byte nothing has written reads 0). -/
def Mem.byte (m : Mem) (a : Nat) : Byte := NMap.get 0 m a
/-- n bytes of a memory. -/
def Mem.read (m : Mem) (a : Nat) : Nat → List Byte
  | 0 => []
  | n + 1 => Mem.byte m a :: Mem.read m (a + 1) n
/-- A memory with bytes written from an address on. -/
def Mem.write (m : Mem) (a : Nat) : List Byte → Mem
  | [] => m
  | b :: bs => Mem.write (NMap.set 0 m a b) (a + 1) bs
/-- A little-endian value of n bytes (00 R6). -/
def Mem.le (m : Mem) (a n : Nat) : Nat := leVal (Mem.read m a n)
/-- The canonical form of a memory. -/
def Mem.wf (m : Mem) : Bool := NMap.wf 0 m

/-- Host memory with bytes written by the device; addresses wrap at 2^64 (12 R390). -/
def State.hostWrite (s : State) (a : Nat) (bs : List Byte) : State := { s with host := Mem.write s.host (a % 2 ^ 64) bs }

/-! ## Events (14 R460, R461, R472) -/

/-- A domain of a tile is on and ready (01 R52). -/
def TileState.on (x : TileState) (d : Nat) : Bool := bit x.pdOn d

/-- The log with a record added, the oldest overwritten beyond 1,024 (14 R461). -/
def Evr.addLog (e : Evr) (r : LogRec) : Evr :=
  { e with log := (e.log ++ [r]).drop (e.log.length + 1 - 1024), logcnt := (e.logcnt + 1) % 2 ^ 32 }

/-- An occurrence at a source: PEND unless PEND or ACTIVE is set, and COUNT (14 R460). -/
def EvrSrc.occur (x : EvrSrc) : EvrSrc := { x with pend := x.pend || !x.active, count := satInc 16 x.count }

/-- An occurrence recorded by a running router (14 R460). -/
def Evr.occur (e : Evr) (r : LogRec) : Evr :=
  { Evr.addLog e r with srcs := vupd e.srcs r.src EvrSrc.reset EvrSrc.occur }

/-- An occurrence while PD_CTL is off: the pending shadow of PD_AON (14 R472). -/
def Evr.shadowOccur (e : Evr) (r : LogRec) : Evr :=
  if e.shadow.any (fun x => x.src == r.src) then
    { e with shadow := mapIf e.shadow (fun x => x.src == r.src) (fun x => { x with more := x.more + 1 }) }
  else { e with shadow := e.shadow ++ [{ src := r.src, first := r.time, more := 0, data := r.data }] }

/-- An occurrence at a tile, with its record; a source with WAKE_EN switches PD_CTL on (14 R472). -/
def TileState.occur (x : TileState) (r : LogRec) : TileState :=
  if x.on 1 then { x with evr := x.evr.occur r }
  else
    { x with
      evr := x.evr.shadowOccur r
      pdBusy := if (vget x.evr.srcs r.src EvrSrc.reset).wakeEn && x.evr.retained then x.pdBusy ||| 2 else x.pdBusy }

/-- An event raised at a tile's router with its data, stamped with a tick (14 R460). -/
def State.raiseAt (s : State) (t : Tile) (src : Nat) (tick : Nat) (data : List Nat) : State :=
  s.updTile t (fun x => x.occur { time := tick, line := s.motion.lastLine, src := src, tile := t.val, data := data })

/-- An event raised at a tile's router now (14 R460). -/
def State.raise (s : State) (t : Tile) (src : Nat) (data : List Nat) : State := s.raiseAt t src (s.tileNow t) data

/-- An event raised by tile n. -/
def State.raiseN (s : State) (n : Nat) (src : Nat) (data : List Nat) : State := s.raise (tileIx n) src data

/-- An event raised by the lead (14 R459). -/
def State.raiseLead (s : State) (src : Nat) (data : List Nat) : State := s.raise s.leadTile src data

/-- An event raised by the tile whose motion block is active (02 R100). -/
def State.raiseMot (s : State) (src : Nat) (data : List Nat) : State := s.raiseN s.motion.active src data

/-- A signed quantity of an event's data. -/
def evInt (i : Int) : Nat := wrapS 64 i

/-! ## Small lookups -/

/-- Fold a function over a list of states' indices. -/
def forEach (l : List α) (s : State) (f : State → α → State) : State := l.foldl f s

/-- Apply a change to the package only when a condition holds: a command that is not due changes nothing (log 3). -/
def whenDue (c : Bool) (s t : State) : State := if c then t else s

/-- Division rounded towards minus infinity. -/
def fdivI (a b : Int) : Int := a.fdiv b
/-- round(a / b), halves away from zero... kept for whole-number results: floor((2a + b) / 2b). -/
def roundDiv (a b : Int) : Int := (2 * a + b).fdiv (2 * b)

/-! ## Strip buffers (03 R122) -/

/-- A buffer whose strip waits for a codec engine. -/
def StripBuf.fresh (strip : Nat) : StripBuf := { strip := strip, decoding := false, own := none, partner := none, data := [], fate := 0, mend := false }
/-- A stream with nothing decoded: its surface's first strip is pending. -/
def Stream.cleared (st : Stream) : Stream := { st with bufs := [StripBuf.fresh 0] }

/-! ## Writes to the flash (19 R582) -/

/-- A flash write of a type for a packet, 0 for none, with nothing to write yet. -/
def FlashJob.of (type seq : Nat) : FlashJob :=
  { type := type, seq := seq, tries := 0, pres := none, image := [], tally := none, calib := none, trims := none }
/-- The package with one more flash write. -/
def State.flashWrite (s : State) (j : FlashJob) : State := { s with flash := { s.flash with jobs := s.flash.jobs ++ [j] } }

end Sys2Proof.Machine
end

