-- ==== Sys2Proof/Machine/Parm.lean ====
section
/-! DEFINITION. The PARM items (13 R437, R441, R452, R453): one table of every item of chapters 1 to 19 with its range,
reset value and boundary, and the PARM IDs by name. -/

namespace Sys2Proof.Machine

/-- A row of a PARM table: the name; block, first instance and number of instances; first item, number of items and their
step; range with further single values; reset value; the EFFECT code of R453. -/
structure ParmRow where
  name : String
  block : Nat
  inst : Nat
  insts : Nat
  item : Nat
  items : Nat
  step : Nat
  lo : Int
  hi : Int
  also : List Int
  reset : Int
  effect : Nat
  deriving DecidableEq, Repr

/-- A PARM ID from its block, instance and item (00 R13). -/
def parmId (block inst item : Nat) : Nat := block * 2 ^ 24 + inst * 2 ^ 16 + item

/-! ## PARM IDs by name -/

/-! Block 0x01 (12 R428). -/

/-- Q_VEC. -/
def Pid.qVec (i : Nat) : Nat := parmId 1 (0 + i) 1
/-- Q_MOD_CNT. -/
def Pid.qModCnt (i : Nat) : Nat := parmId 1 (0 + i) 2
/-- Q_MOD_TIME. -/
def Pid.qModTime (i : Nat) : Nat := parmId 1 (0 + i) 3
/-- Q_WAKE. -/
def Pid.qWake (i : Nat) : Nat := parmId 1 (0 + i) 4

/-! Block 0x02 (03 R134). -/

/-- MEM_RSV_SIZE. -/
def Pid.memRsvSize : Nat := parmId 2 0 1
/-- CODEC_MARGIN. -/
def Pid.codecMargin : Nat := parmId 2 1 1
/-- CODEC_MEND. -/
def Pid.codecMend : Nat := parmId 2 1 2
/-- CODEC_CMP_SHARE. -/
def Pid.codecCmpShare : Nat := parmId 2 1 3

/-! Block 0x03 (01 R24). -/

/-- JOB_WIDTH. -/
def Pid.jobWidth : Nat := parmId 3 0 1
/-- JOB_RATE_MAX. -/
def Pid.jobRateMax : Nat := parmId 3 0 2
/-- JOB_CHANNELS. -/
def Pid.jobChannels : Nat := parmId 3 0 3
/-- SPAN_START. -/
def Pid.spanStart (i : Nat) : Nat := parmId 3 (16 + i) 1
/-- SPAN_WIDTH. -/
def Pid.spanWidth (i : Nat) : Nat := parmId 3 (16 + i) 2

/-! Block 0x04 (04 R162). -/

/-- LEAD_DIST. -/
def Pid.leadDist : Nat := parmId 4 240 1
/-- LANE_X0. -/
def Pid.laneX0 (i : Nat) : Nat := parmId 4 (0 + i) 1
/-- LANE_W. -/
def Pid.laneW (i : Nat) : Nat := parmId 4 (0 + i) 2
/-- LANE_LEN. -/
def Pid.laneLen (i : Nat) : Nat := parmId 4 (0 + i) 3
/-- LYR_SURF. -/
def Pid.lyrSurf (i : Nat) : Nat := parmId 4 (16 + i) 1
/-- LYR_X. -/
def Pid.lyrX (i : Nat) : Nat := parmId 4 (16 + i) 2
/-- LYR_Y. -/
def Pid.lyrY (i : Nat) : Nat := parmId 4 (16 + i) 3
/-- LYR_CHMAP. -/
def Pid.lyrChmap (i : Nat) : Nat := parmId 4 (16 + i) 4
/-- LYR_COVPLANE. -/
def Pid.lyrCovplane (i : Nat) : Nat := parmId 4 (16 + i) 5
/-- LYR_ALPHA. -/
def Pid.lyrAlpha (i : Nat) : Nat := parmId 4 (16 + i) 6
/-- LYR_MODE. -/
def Pid.lyrMode (i : Nat) : Nat := parmId 4 (16 + i) 7
/-- LYR_INT_X. -/
def Pid.lyrIntX (i : Nat) : Nat := parmId 4 (16 + i) 8
/-- LYR_INT_Y. -/
def Pid.lyrIntY (i : Nat) : Nat := parmId 4 (16 + i) 9
/-- LYR_STEP_X. -/
def Pid.lyrStepX (i : Nat) : Nat := parmId 4 (16 + i) 10
/-- LYR_STEP_Y. -/
def Pid.lyrStepY (i : Nat) : Nat := parmId 4 (16 + i) 11
/-- LYR_PHASE_X. -/
def Pid.lyrPhaseX (i : Nat) : Nat := parmId 4 (16 + i) 12
/-- LYR_PHASE_Y. -/
def Pid.lyrPhaseY (i : Nat) : Nat := parmId 4 (16 + i) 13
/-- LYR_TAPS_H. -/
def Pid.lyrTapsH (i : Nat) : Nat := parmId 4 (16 + i) 14
/-- LYR_TAPS_V. -/
def Pid.lyrTapsV (i : Nat) : Nat := parmId 4 (16 + i) 15
/-- LYR_KERNEL. -/
def Pid.lyrKernel (i : Nat) : Nat := parmId 4 (16 + i) 16
/-- LYR_POLICY. -/
def Pid.lyrPolicy (i : Nat) : Nat := parmId 4 (16 + i) 17
/-- LYR_TAPS_CUT. -/
def Pid.lyrTapsCut (i : Nat) : Nat := parmId 4 (16 + i) 18

/-! Block 0x05 (05 R196). -/

/-- CAL_SRC. -/
def Pid.calSrc : Nat := parmId 5 64 1
/-- CAL_OFFSET. -/
def Pid.calOffset : Nat := parmId 5 64 2
/-- CAL_SLEW. -/
def Pid.calSlew : Nat := parmId 5 64 3
/-- CAL_STEP_MAX. -/
def Pid.calStepMax : Nat := parmId 5 64 4
/-- CAL_HOLD. -/
def Pid.calHold : Nat := parmId 5 64 5
/-- CNT_START. -/
def Pid.cntStart (i : Nat) : Nat := parmId 5 (0 + i) 1
/-- CNT_STEP. -/
def Pid.cntStep (i : Nat) : Nat := parmId 5 (0 + i) 2
/-- CNT_LIMIT. -/
def Pid.cntLimit (i : Nat) : Nat := parmId 5 (0 + i) 3
/-- CNT_ON_LIMIT. -/
def Pid.cntOnLimit (i : Nat) : Nat := parmId 5 (0 + i) 4
/-- CNT_RESET. -/
def Pid.cntReset (i : Nat) : Nat := parmId 5 (0 + i) 5
/-- CNT_DIGITS. -/
def Pid.cntDigits (i : Nat) : Nat := parmId 5 (0 + i) 6
/-- CNT_CHECK. -/
def Pid.cntCheck (i : Nat) : Nat := parmId 5 (0 + i) 7
/-- CNT_M11_TEN. -/
def Pid.cntM11Ten (i : Nat) : Nat := parmId 5 (0 + i) 8
/-- CNT_GAP. -/
def Pid.cntGap (i : Nat) : Nat := parmId 5 (0 + i) 9
/-- CNT_VALUE. -/
def Pid.cntValue (i : Nat) : Nat := parmId 5 (0 + i) 10
/-- FLD_TYPE. -/
def Pid.fldType (i k : Nat) : Nat := parmId 5 (128 + i) (1 + 256 * k)
/-- FLD_X. -/
def Pid.fldX (i k : Nat) : Nat := parmId 5 (128 + i) (2 + 256 * k)
/-- FLD_Y. -/
def Pid.fldY (i k : Nat) : Nat := parmId 5 (128 + i) (3 + 256 * k)
/-- FLD_ROT. -/
def Pid.fldRot (i k : Nat) : Nat := parmId 5 (128 + i) (4 + 256 * k)
/-- FLD_SCALE. -/
def Pid.fldScale (i k : Nat) : Nat := parmId 5 (128 + i) (5 + 256 * k)
/-- FLD_CHMASK. -/
def Pid.fldChmask (i k : Nat) : Nat := parmId 5 (128 + i) (6 + 256 * k)
/-- FLD_INK. -/
def Pid.fldInk (i k : Nat) : Nat := parmId 5 (128 + i) (7 + 256 * k)
/-- FLD_CNT. -/
def Pid.fldCnt (i k : Nat) : Nat := parmId 5 (128 + i) (8 + 256 * k)
/-- FLD_SHELF. -/
def Pid.fldShelf (i k : Nat) : Nat := parmId 5 (128 + i) (9 + 256 * k)
/-- FLD_SHELF_UNIT. -/
def Pid.fldShelfUnit (i k : Nat) : Nat := parmId 5 (128 + i) (10 + 256 * k)
/-- FLD_EXP_ROUND. -/
def Pid.fldExpRound (i k : Nat) : Nat := parmId 5 (128 + i) (11 + 256 * k)
/-- FLD_LOT. -/
def Pid.fldLot (i k : Nat) : Nat := parmId 5 (128 + i) (12 + 256 * k)

/-! Block 0x06 (06 R225). -/

/-- LENS_LATTICE. -/
def Pid.lensLattice : Nat := parmId 6 0 1
/-- LENS_PX_NOM. -/
def Pid.lensPxNom : Nat := parmId 6 0 2
/-- LENS_PY_NOM. -/
def Pid.lensPyNom : Nat := parmId 6 0 3
/-- LENS_SKEW. -/
def Pid.lensSkew : Nat := parmId 6 0 4
/-- LENS_XL. -/
def Pid.lensXl : Nat := parmId 6 0 5
/-- LENS_XR. -/
def Pid.lensXr : Nat := parmId 6 0 6
/-- LENS_XROW. -/
def Pid.lensXrow : Nat := parmId 6 0 7
/-- LENS_COLS. -/
def Pid.lensCols : Nat := parmId 6 0 8
/-- LENS_XRATIO. -/
def Pid.lensXratio : Nat := parmId 6 0 9
/-- LENS_ROW_CPR. -/
def Pid.lensRowCpr : Nat := parmId 6 0 10
/-- LENS_DIST. -/
def Pid.lensDist : Nat := parmId 6 0 11
/-- LENS_GX. -/
def Pid.lensGx : Nat := parmId 6 0 12
/-- LENS_GA. -/
def Pid.lensGa : Nat := parmId 6 0 13
/-- LENS_GB. -/
def Pid.lensGb : Nat := parmId 6 0 14
/-- LENS_HOLD. -/
def Pid.lensHold : Nat := parmId 6 0 15
/-- LENS_SILENT. -/
def Pid.lensSilent : Nat := parmId 6 0 16
/-- LENS_REACQ_TOL. -/
def Pid.lensReacqTol : Nat := parmId 6 0 17
/-- LENS_ACQ_LINES. -/
def Pid.lensAcqLines : Nat := parmId 6 0 18
/-- RAY_SCENE. -/
def Pid.rayScene (i : Nat) : Nat := parmId 6 (16 + i) 1
/-- RAY_VX. -/
def Pid.rayVx (i : Nat) : Nat := parmId 6 (16 + i) 2
/-- RAY_VY. -/
def Pid.rayVy (i : Nat) : Nat := parmId 6 (16 + i) 3
/-- RAY_C. -/
def Pid.rayC (i : Nat) : Nat := parmId 6 (16 + i) 4
/-- RAY_SCHMAP. -/
def Pid.raySchmap (i : Nat) : Nat := parmId 6 (16 + i) 5
/-- RAY_COVCH. -/
def Pid.rayCovch (i : Nat) : Nat := parmId 6 (16 + i) 6
/-- RAY_X. -/
def Pid.rayX (i : Nat) : Nat := parmId 6 (16 + i) 7
/-- RAY_Y. -/
def Pid.rayY (i : Nat) : Nat := parmId 6 (16 + i) 8
/-- RAY_W. -/
def Pid.rayW (i : Nat) : Nat := parmId 6 (16 + i) 9
/-- RAY_H. -/
def Pid.rayH (i : Nat) : Nat := parmId 6 (16 + i) 10
/-- RAY_VMAP. -/
def Pid.rayVmap (i : Nat) : Nat := parmId 6 (16 + i) 11
/-- PNL_LANE. -/
def Pid.pnlLane : Nat := parmId 6 64 1
/-- PNL_VIEWS. -/
def Pid.pnlViews : Nat := parmId 6 64 2
/-- PNL_PITCH. -/
def Pid.pnlPitch : Nat := parmId 6 64 3
/-- PNL_SLANT. -/
def Pid.pnlSlant : Nat := parmId 6 64 4
/-- PNL_OFFSET. -/
def Pid.pnlOffset : Nat := parmId 6 64 5
/-- PNL_BI0. -/
def Pid.pnlBi0 : Nat := parmId 6 64 6
/-- PNL_BJ0. -/
def Pid.pnlBj0 : Nat := parmId 6 64 7
/-- PNL_STEP_X. -/
def Pid.pnlStepX : Nat := parmId 6 64 8
/-- PNL_STEP_Y. -/
def Pid.pnlStepY : Nat := parmId 6 64 9

/-! Block 0x07 (07 R257). -/

/-- ROW_K. -/
def Pid.rowK (i : Nat) : Nat := parmId 7 (0 + i) 1
/-- SCR_SLOT. -/
def Pid.scrSlot (i : Nat) : Nat := parmId 7 (0 + i) 2
/-- SCR_OFFX. -/
def Pid.scrOffx (i : Nat) : Nat := parmId 7 (0 + i) 3
/-- SCR_OFFY. -/
def Pid.scrOffy (i : Nat) : Nat := parmId 7 (0 + i) 4
/-- SPIT_IDLE. -/
def Pid.spitIdle (i : Nat) : Nat := parmId 7 (0 + i) 5
/-- GOV_W. -/
def Pid.govW (i : Nat) : Nat := parmId 7 (0 + i) 6
/-- GOV_LIMIT. -/
def Pid.govLimit (i : Nat) : Nat := parmId 7 (0 + i) 7
/-- GOV_DROP_REJECT. -/
def Pid.govDropReject (i : Nat) : Nat := parmId 7 (0 + i) 8
/-- NOZ_AUTO. -/
def Pid.nozAuto (i : Nat) : Nat := parmId 7 (0 + i) 9
/-- HT_T1. -/
def Pid.htT1 (i : Nat) : Nat := parmId 7 (0 + i) 10
/-- HT_STEP. -/
def Pid.htStep (i : Nat) : Nat := parmId 7 (0 + i) 11
/-- HT_HYST. -/
def Pid.htHyst (i : Nat) : Nat := parmId 7 (0 + i) 12
/-- ROW_PHASE. -/
def Pid.rowPhase (i : Nat) : Nat := parmId 7 (16 + i) 1
/-- ROW_OFF. -/
def Pid.rowOff (i : Nat) : Nat := parmId 7 (16 + i) 2
/-- ROW_FMAX. -/
def Pid.rowFmax (i : Nat) : Nat := parmId 7 (16 + i) 3

/-! Block 0x08 (08 R282). -/

/-- COL_LANE. -/
def Pid.colLane : Nat := parmId 8 64 1
/-- COL_N. -/
def Pid.colN : Nat := parmId 8 64 2
/-- COL_BAND_Y. -/
def Pid.colBandY : Nat := parmId 8 64 3
/-- PATCH_H. -/
def Pid.patchH : Nat := parmId 8 64 4
/-- PATCH_W. -/
def Pid.patchW : Nat := parmId 8 64 5
/-- COL_NODE. -/
def Pid.colNode : Nat := parmId 8 64 6
/-- COL_SENSE_DIST. -/
def Pid.colSenseDist : Nat := parmId 8 64 7
/-- COL_REPORT_TMO. -/
def Pid.colReportTmo : Nat := parmId 8 64 8
/-- COL_PAPER_TOL. -/
def Pid.colPaperTol : Nat := parmId 8 64 9
/-- COL_DEAD. -/
def Pid.colDead : Nat := parmId 8 64 10
/-- COL_REF_BANDS. -/
def Pid.colRefBands : Nat := parmId 8 64 11
/-- COL_CAL_DAYS. -/
def Pid.colCalDays : Nat := parmId 8 64 12
/-- COL_CAL_TOL. -/
def Pid.colCalTol : Nat := parmId 8 64 13
/-- COL_TONES. -/
def Pid.colTones (i : Nat) : Nat := parmId 8 (0 + i) 1
/-- COL_TGT_1. -/
def Pid.colTgt1 (i : Nat) : Nat := parmId 8 (0 + i) 2
/-- COL_TGT_2. -/
def Pid.colTgt2 (i : Nat) : Nat := parmId 8 (0 + i) 3
/-- COL_TGT_3. -/
def Pid.colTgt3 (i : Nat) : Nat := parmId 8 (0 + i) 4
/-- COL_TGT_4. -/
def Pid.colTgt4 (i : Nat) : Nat := parmId 8 (0 + i) 5
/-- COL_TGT_MODE. -/
def Pid.colTgtMode (i : Nat) : Nat := parmId 8 (0 + i) 6
/-- COL_GAIN. -/
def Pid.colGain (i : Nat) : Nat := parmId 8 (0 + i) 7
/-- COL_STEP_MAX. -/
def Pid.colStepMax (i : Nat) : Nat := parmId 8 (0 + i) 8
/-- COL_OFF_MAX. -/
def Pid.colOffMax (i : Nat) : Nat := parmId 8 (0 + i) 9

/-! Block 0x09 (02 R98). -/

/-- ENC_FILT. -/
def Pid.encFilt (i : Nat) : Nat := parmId 9 (0 + i) 1
/-- ENC_WIRE_TIME. -/
def Pid.encWireTime (i : Nat) : Nat := parmId 9 (0 + i) 2
/-- ENC_CPR. -/
def Pid.encCpr (i : Nat) : Nat := parmId 9 (0 + i) 3
/-- ENC_IDX_TOL. -/
def Pid.encIdxTol (i : Nat) : Nat := parmId 9 (0 + i) 4
/-- ENC_DIR. -/
def Pid.encDir (i : Nat) : Nat := parmId 9 (0 + i) 5
/-- MOT_RATIO. -/
def Pid.motRatio : Nat := parmId 9 16 1
/-- MOT_BW. -/
def Pid.motBw : Nat := parmId 9 16 2
/-- MOT_ISSUE_AHEAD. -/
def Pid.motIssueAhead : Nat := parmId 9 16 3
/-- MOT_COAST. -/
def Pid.motCoast : Nat := parmId 9 16 4
/-- MOT_STILL. -/
def Pid.motStill : Nat := parmId 9 16 5
/-- ABS_MODE. -/
def Pid.absMode : Nat := parmId 9 32 1
/-- ABS_PROTO. -/
def Pid.absProto : Nat := parmId 9 32 2
/-- ABS_CLK_RATE. -/
def Pid.absClkRate : Nat := parmId 9 32 3
/-- ABS_BITS. -/
def Pid.absBits : Nat := parmId 9 32 4
/-- ABS_GRAY. -/
def Pid.absGray : Nat := parmId 9 32 5
/-- ABS_PERIOD. -/
def Pid.absPeriod : Nat := parmId 9 32 6
/-- ABS_TIMEOUT. -/
def Pid.absTimeout : Nat := parmId 9 32 7
/-- ABS_RATIO. -/
def Pid.absRatio : Nat := parmId 9 32 8
/-- ABS_TOL. -/
def Pid.absTol : Nat := parmId 9 32 9
/-- CMP_SRC. -/
def Pid.cmpSrc (i : Nat) : Nat := parmId 9 (48 + i) 1
/-- CMP_VALUE. -/
def Pid.cmpValue (i : Nat) : Nat := parmId 9 (48 + i) 2
/-- CMP_SPACING. -/
def Pid.cmpSpacing (i : Nat) : Nat := parmId 9 (48 + i) 3
/-- CMP_ACTION. -/
def Pid.cmpAction (i : Nat) : Nat := parmId 9 (48 + i) 4
/-- CMP_WIDTH. -/
def Pid.cmpWidth (i : Nat) : Nat := parmId 9 (48 + i) 5
/-- CMP_OUT. -/
def Pid.cmpOut (i : Nat) : Nat := parmId 9 (48 + i) 6
/-- CMP_NODE. -/
def Pid.cmpNode (i : Nat) : Nat := parmId 9 (48 + i) 7
/-- CMP_LANE. -/
def Pid.cmpLane (i : Nat) : Nat := parmId 9 (48 + i) 8
/-- CMP_OFFSET. -/
def Pid.cmpOffset (i : Nat) : Nat := parmId 9 (48 + i) 9
/-- PD_FILT. -/
def Pid.pdFilt (i : Nat) : Nat := parmId 9 (64 + i) 1
/-- PD_EDGE. -/
def Pid.pdEdge (i : Nat) : Nat := parmId 9 (64 + i) 2
/-- PD_OFFSET. -/
def Pid.pdOffset (i : Nat) : Nat := parmId 9 (64 + i) 3
/-- PD_MIN. -/
def Pid.pdMin (i : Nat) : Nat := parmId 9 (64 + i) 4
/-- PD_LANE. -/
def Pid.pdLane (i : Nat) : Nat := parmId 9 (64 + i) 5
/-- REJ_DIST. -/
def Pid.rejDist (i : Nat) : Nat := parmId 9 (80 + i) 1
/-- REJ_WIDTH. -/
def Pid.rejWidth (i : Nat) : Nat := parmId 9 (80 + i) 2
/-- REJ_LANES. -/
def Pid.rejLanes (i : Nat) : Nat := parmId 9 (80 + i) 3
/-- CARR_FILT. -/
def Pid.carrFilt (i : Nat) : Nat := parmId 9 (96 + i) 1
/-- CARR_CHANNELS. -/
def Pid.carrChannels (i : Nat) : Nat := parmId 9 (96 + i) 2
/-- MOT_STOP_SRC. -/
def Pid.motStopSrc : Nat := parmId 9 112 1

/-! Block 0x0A (09 R305, 10 R346, 16 R515). -/

/-- BAR_OFFSET. -/
def Pid.barOffset (i : Nat) : Nat := parmId 10 (0 + i) 1
/-- BAR_CH. -/
def Pid.barCh (i : Nat) : Nat := parmId 10 (0 + i) 2
/-- BAR_LANE. -/
def Pid.barLane (i : Nat) : Nat := parmId 10 (0 + i) 3
/-- BAR_ALT. -/
def Pid.barAlt (i : Nat) : Nat := parmId 10 (0 + i) 4
/-- BAR_NODE_. -/
def Pid.barNode (i k : Nat) : Nat := parmId 10 (0 + i) (16 + 1 * k)
/-- SCAN_RT_MODE. -/
def Pid.scanRtMode : Nat := parmId 10 16 1
/-- SCAN_WM. -/
def Pid.scanWm : Nat := parmId 10 16 2
/-- SCAN_AUTO_ALT. -/
def Pid.scanAutoAlt : Nat := parmId 10 16 3
/-- WYL_NODE_ID. -/
def Pid.wylNodeId : Nat := parmId 10 32 1
/-- WYL_TIME_ROLE. -/
def Pid.wylTimeRole : Nat := parmId 10 32 2
/-- WYL_TIME_INT. -/
def Pid.wylTimeInt : Nat := parmId 10 32 3
/-- LNK_RATE. -/
def Pid.lnkRate (i : Nat) : Nat := parmId 10 (64 + i) 1
/-- LNK_AUTO_RETRAIN. -/
def Pid.lnkAutoRetrain (i : Nat) : Nat := parmId 10 (64 + i) 2
/-- LNK_EYE_MIN_W. -/
def Pid.lnkEyeMinW (i : Nat) : Nat := parmId 10 (64 + i) 3
/-- LNK_EYE_MIN_H. -/
def Pid.lnkEyeMinH (i : Nat) : Nat := parmId 10 (64 + i) 4

/-! Block 0x0B (11 R388). -/

/-- TWN_MARGIN. -/
def Pid.twnMargin : Nat := parmId 11 0 1
/-- TWN_HB_MISS. -/
def Pid.twnHbMiss : Nat := parmId 11 0 2
/-- TWN_ASSAY_STRIKES. -/
def Pid.twnAssayStrikes : Nat := parmId 11 0 3
/-- TWN_DIVERGE_REJECT. -/
def Pid.twnDivergeReject : Nat := parmId 11 0 4
/-- TWN_REVERT. -/
def Pid.twnRevert : Nat := parmId 11 0 5
/-- TWN_HOLDOFF. -/
def Pid.twnHoldoff : Nat := parmId 11 0 6
/-- TWN_PRES_FLASH. -/
def Pid.twnPresFlash : Nat := parmId 11 0 7

/-! Block 0x0C (17 R538). -/

/-- DSP_RT_MODE. -/
def Pid.dspRtMode : Nat := parmId 12 0 1
/-- DSP_WM. -/
def Pid.dspWm : Nat := parmId 12 0 2
/-- DSP_TE_FILT. -/
def Pid.dspTeFilt : Nat := parmId 12 0 3
/-- DSP_TE_EDGE. -/
def Pid.dspTeEdge : Nat := parmId 12 0 4
/-- DSP_TE_DELAY. -/
def Pid.dspTeDelay : Nat := parmId 12 0 5
/-- DSP_LINE_MATCH. -/
def Pid.dspLineMatch : Nat := parmId 12 0 6
/-- DSP_CONV. -/
def Pid.dspConv : Nat := parmId 12 0 7
/-- DSP_SRC. -/
def Pid.dspSrc : Nat := parmId 12 0 8

/-! Block 0x0E (15 R496, 18 R563, 19 R594). -/

/-- MEMC_RATE_A. -/
def Pid.memcRateA (i : Nat) : Nat := parmId 14 (16 + i) 1
/-- MEMC_RATE_B. -/
def Pid.memcRateB (i : Nat) : Nat := parmId 14 (16 + i) 2
/-- MEMC_SET. -/
def Pid.memcSet (i : Nat) : Nat := parmId 14 (16 + i) 3
/-- MEMC_HASH_BA0. -/
def Pid.memcHashBa0 (i : Nat) : Nat := parmId 14 (16 + i) 4
/-- MEMC_HASH_BA1. -/
def Pid.memcHashBa1 (i : Nat) : Nat := parmId 14 (16 + i) 5
/-- MEMC_HASH_BG0. -/
def Pid.memcHashBg0 (i : Nat) : Nat := parmId 14 (16 + i) 6
/-- MEMC_HASH_BG1. -/
def Pid.memcHashBg1 (i : Nat) : Nat := parmId 14 (16 + i) 7
/-- MEMC_WT. -/
def Pid.memcWt (i : Nat) : Nat := parmId 14 (16 + i) 8
/-- MEMC_DW_WM. -/
def Pid.memcDwWm (i : Nat) : Nat := parmId 14 (16 + i) 9
/-- MEMC_RT_GUARD. -/
def Pid.memcRtGuard (i : Nat) : Nat := parmId 14 (16 + i) 10
/-- MEMC_TRAIN_INT. -/
def Pid.memcTrainInt (i : Nat) : Nat := parmId 14 (16 + i) 11
/-- MEMC_TRAIN_DEFER. -/
def Pid.memcTrainDefer (i : Nat) : Nat := parmId 14 (16 + i) 12
/-- MEMC_SCRUB. -/
def Pid.memcScrub (i : Nat) : Nat := parmId 14 (16 + i) 13
/-- THM_WARN. -/
def Pid.thmWarn (i : Nat) : Nat := parmId 14 (32 + i) 1
/-- THM_WARN_HYST. -/
def Pid.thmWarnHyst (i : Nat) : Nat := parmId 14 (32 + i) 2
/-- THM_THROT. -/
def Pid.thmThrot (i : Nat) : Nat := parmId 14 (32 + i) 3
/-- THM_THROT_HYST. -/
def Pid.thmThrotHyst (i : Nat) : Nat := parmId 14 (32 + i) 4
/-- THM_SHUT. -/
def Pid.thmShut (i : Nat) : Nat := parmId 14 (32 + i) 5
/-- THM_SHUT_HYST. -/
def Pid.thmShutHyst (i : Nat) : Nat := parmId 14 (32 + i) 6
/-- THM_PLIMIT. -/
def Pid.thmPlimit (i : Nat) : Nat := parmId 14 (32 + i) 7
/-- THM_STEP_W. -/
def Pid.thmStepW (i : Nat) : Nat := parmId 14 (32 + i) 8
/-- THM_STEP_T. -/
def Pid.thmStepT (i : Nat) : Nat := parmId 14 (32 + i) 9
/-- THM_TREF. -/
def Pid.thmTref (i : Nat) : Nat := parmId 14 (32 + i) 10
/-- THM_AUTO_RESTART. -/
def Pid.thmAutoRestart (i : Nat) : Nat := parmId 14 (32 + i) 11
/-- THM_AUTO_REJOIN. -/
def Pid.thmAutoRejoin (i : Nat) : Nat := parmId 14 (32 + i) 12
/-- TRM_DT. -/
def Pid.trmDt (i : Nat) : Nat := parmId 14 (48 + i) 1
/-- TRM_AUTO. -/
def Pid.trmAuto (i : Nat) : Nat := parmId 14 (48 + i) 2
/-- TRM_VREF. -/
def Pid.trmVref (i : Nat) : Nat := parmId 14 (48 + i) 3
/-- TRM_ADC_TOL. -/
def Pid.trmAdcTol (i : Nat) : Nat := parmId 14 (48 + i) 4
/-- TRM_EDGE_FREE. -/
def Pid.trmEdgeFree (i : Nat) : Nat := parmId 14 (48 + i) 5
/-- TALLY_TC_HI. -/
def Pid.tallyTcHi : Nat := parmId 14 64 1
/-- TALLY_TC_LO. -/
def Pid.tallyTcLo : Nat := parmId 14 64 2
/-- UPD_TIMEOUT. -/
def Pid.updTimeout : Nat := parmId 14 64 3
/-- VBAT_WARN. -/
def Pid.vbatWarn : Nat := parmId 14 64 4

/-! ## The tables -/

/-- Block 0x01 (12 R428). -/
def parmRows1 : List ParmRow :=
  [⟨"Q_VEC", 1, 0, 256, 1, 1, 1, 0, 2047, [], 0, 7⟩,
   ⟨"Q_MOD_CNT", 1, 0, 256, 2, 1, 1, 1, 256, [], 1, 7⟩,
   ⟨"Q_MOD_TIME", 1, 0, 256, 3, 1, 1, 250, 25000000, [], 12500, 7⟩,
   ⟨"Q_WAKE", 1, 0, 256, 4, 1, 1, 0, 1, [], 0, 7⟩]

/-- Block 0x02 (03 R134). -/
def parmRows2 : List ParmRow :=
  [⟨"MEM_RSV_SIZE", 2, 0, 1, 1, 1, 1, 1024, 27648, [], 4096, 7⟩,
   ⟨"CODEC_MARGIN", 2, 1, 1, 1, 1, 1, 8, 1024, [], 32, 5⟩,
   ⟨"CODEC_MEND", 2, 1, 1, 2, 1, 1, 0, 1, [], 1, 7⟩,
   ⟨"CODEC_CMP_SHARE", 2, 1, 1, 3, 1, 1, 0, 100, [], 100, 7⟩]

/-- Block 0x03 (01 R24). -/
def parmRows3 : List ParmRow :=
  [⟨"JOB_WIDTH", 3, 0, 1, 1, 1, 1, 256, 1048576, [0], 0, 5⟩,
   ⟨"JOB_RATE_MAX", 3, 0, 1, 2, 1, 1, 1, 118110, [0], 0, 5⟩,
   ⟨"JOB_CHANNELS", 3, 0, 1, 3, 1, 1, 0, 4095, [], 0, 5⟩,
   ⟨"SPAN_START", 3, 16, 4, 1, 1, 1, 0, 1048575, [], 0, 5⟩,
   ⟨"SPAN_WIDTH", 3, 16, 4, 2, 1, 1, 256, 32768, [0], 0, 5⟩]

/-- Block 0x04 (04 R162). -/
def parmRows4 : List ParmRow :=
  [⟨"LEAD_DIST", 4, 240, 1, 1, 1, 1, 64, 16384, [], 256, 5⟩,
   ⟨"LANE_X0", 4, 0, 16, 1, 1, 1, 0, 1048575, [], 0, 5⟩,
   ⟨"LANE_W", 4, 0, 16, 2, 1, 1, 0, 1048576, [], 0, 5⟩,
   ⟨"LANE_LEN", 4, 0, 16, 3, 1, 1, 1, 16777215, [], 1, 5⟩,
   ⟨"LYR_SURF", 4, 16, 128, 1, 1, 1, 0, 1099511627775, [], 0, 3⟩,
   ⟨"LYR_X", 4, 16, 128, 2, 1, 1, (-2147483648), 2147483647, [], 0, 3⟩,
   ⟨"LYR_Y", 4, 16, 128, 3, 1, 1, (-2147483648), 2147483647, [], 0, 3⟩,
   ⟨"LYR_CHMAP", 4, 16, 128, 4, 1, 1, 0, 1152921504606846975, [], 0, 3⟩,
   ⟨"LYR_COVPLANE", 4, 16, 128, 5, 1, 1, 0, 16, [], 0, 3⟩,
   ⟨"LYR_ALPHA", 4, 16, 128, 6, 1, 1, 0, 255, [], 255, 3⟩,
   ⟨"LYR_MODE", 4, 16, 128, 7, 1, 1, 0, 1, [], 0, 3⟩,
   ⟨"LYR_INT_X", 4, 16, 128, 8, 1, 1, 1, 16, [], 1, 3⟩,
   ⟨"LYR_INT_Y", 4, 16, 128, 9, 1, 1, 1, 16, [], 1, 3⟩,
   ⟨"LYR_STEP_X", 4, 16, 128, 10, 1, 1, 16384, 262144, [], 65536, 3⟩,
   ⟨"LYR_STEP_Y", 4, 16, 128, 11, 1, 1, 16384, 262144, [], 65536, 3⟩,
   ⟨"LYR_PHASE_X", 4, 16, 128, 12, 1, 1, 0, 4294967295, [], 0, 3⟩,
   ⟨"LYR_PHASE_Y", 4, 16, 128, 13, 1, 1, 0, 281474976645119, [], 0, 3⟩,
   ⟨"LYR_TAPS_H", 4, 16, 128, 14, 1, 1, 2, 8, [], 2, 3⟩,
   ⟨"LYR_TAPS_V", 4, 16, 128, 15, 1, 1, 2, 8, [], 2, 3⟩,
   ⟨"LYR_KERNEL", 4, 16, 128, 16, 1, 1, 0, 1099511627775, [], 0, 3⟩,
   ⟨"LYR_POLICY", 4, 16, 128, 17, 1, 1, 0, 2, [], 0, 3⟩,
   ⟨"LYR_TAPS_CUT", 4, 16, 128, 18, 1, 1, 0, 7, [], 0, 3⟩]

/-- Block 0x05 (05 R196). -/
def parmRows5 : List ParmRow :=
  [⟨"CAL_SRC", 5, 64, 1, 1, 1, 1, 0, 2, [], 1, 7⟩,
   ⟨"CAL_OFFSET", 5, 64, 1, 2, 1, 1, (-720), 840, [], 0, 3⟩,
   ⟨"CAL_SLEW", 5, 64, 1, 3, 1, 1, 10, 1000, [], 500, 7⟩,
   ⟨"CAL_STEP_MAX", 5, 64, 1, 4, 1, 1, 0, 3600, [], 2, 7⟩,
   ⟨"CAL_HOLD", 5, 64, 1, 5, 1, 1, 2, 3600, [], 10, 7⟩,
   ⟨"CNT_START", 5, 0, 64, 1, 1, 1, 0, 9999999999, [], 1, 3⟩,
   ⟨"CNT_STEP", 5, 0, 64, 2, 1, 1, (-2147483648), 2147483647, [], 1, 3⟩,
   ⟨"CNT_LIMIT", 5, 0, 64, 3, 1, 1, 0, 9999999999, [], 9999999, 3⟩,
   ⟨"CNT_ON_LIMIT", 5, 0, 64, 4, 1, 1, 0, 1, [], 0, 3⟩,
   ⟨"CNT_RESET", 5, 0, 64, 5, 1, 1, 0, 15, [], 0, 3⟩,
   ⟨"CNT_DIGITS", 5, 0, 64, 6, 1, 1, 1, 10, [], 7, 3⟩,
   ⟨"CNT_CHECK", 5, 0, 64, 7, 1, 1, 0, 2, [], 0, 3⟩,
   ⟨"CNT_M11_TEN", 5, 0, 64, 8, 1, 1, 0, 1, [], 0, 3⟩,
   ⟨"CNT_GAP", 5, 0, 64, 9, 1, 1, 0, 16777216, [], 1000, 7⟩,
   ⟨"CNT_VALUE", 5, 0, 64, 10, 1, 1, 0, 9999999999, [], 1, 3⟩,
   ⟨"FLD_TYPE", 5, 128, 16, 1, 16, 256, 0, 9, [], 0, 3⟩,
   ⟨"FLD_X", 5, 128, 16, 2, 16, 256, (-2147483648), 2147483647, [], 0, 3⟩,
   ⟨"FLD_Y", 5, 128, 16, 3, 16, 256, (-2147483648), 2147483647, [], 0, 3⟩,
   ⟨"FLD_ROT", 5, 128, 16, 4, 16, 256, 0, 3, [], 0, 3⟩,
   ⟨"FLD_SCALE", 5, 128, 16, 5, 16, 256, 1, 8, [], 1, 3⟩,
   ⟨"FLD_CHMASK", 5, 128, 16, 6, 16, 256, 0, 4095, [], 0, 3⟩,
   ⟨"FLD_INK", 5, 128, 16, 7, 16, 256, 0, 255, [], 255, 3⟩,
   ⟨"FLD_CNT", 5, 128, 16, 8, 16, 256, 0, 63, [], 0, 3⟩,
   ⟨"FLD_SHELF", 5, 128, 16, 9, 16, 256, 0, 9999, [], 0, 3⟩,
   ⟨"FLD_SHELF_UNIT", 5, 128, 16, 10, 16, 256, 0, 1, [], 0, 3⟩,
   ⟨"FLD_EXP_ROUND", 5, 128, 16, 11, 16, 256, 0, 1, [], 0, 3⟩,
   ⟨"FLD_LOT", 5, 128, 16, 12, 16, 256, 0, 15, [], 0, 3⟩]

/-- Block 0x06 (06 R225). -/
def parmRows6 : List ParmRow :=
  [⟨"LENS_LATTICE", 6, 0, 1, 1, 1, 1, 0, 2, [], 0, 5⟩,
   ⟨"LENS_PX_NOM", 6, 0, 1, 2, 1, 1, 8589934592, 4398046511104, [0], 0, 1⟩,
   ⟨"LENS_PY_NOM", 6, 0, 1, 3, 1, 1, 8589934592, 4398046511104, [0], 0, 1⟩,
   ⟨"LENS_SKEW", 6, 0, 1, 4, 1, 1, (-67108864), 67108864, [], 0, 1⟩,
   ⟨"LENS_XL", 6, 0, 1, 5, 1, 1, 0, 1048575, [], 0, 5⟩,
   ⟨"LENS_XR", 6, 0, 1, 6, 1, 1, 0, 1048575, [], 0, 5⟩,
   ⟨"LENS_XROW", 6, 0, 1, 7, 1, 1, 0, 1048575, [], 0, 5⟩,
   ⟨"LENS_COLS", 6, 0, 1, 8, 1, 1, 16, 1048576, [], 16, 5⟩,
   ⟨"LENS_XRATIO", 6, 0, 1, 9, 1, 1, 65536, 4294967296, [0], 0, 5⟩,
   ⟨"LENS_ROW_CPR", 6, 0, 1, 10, 1, 1, 16, 65535, [], 64, 5⟩,
   ⟨"LENS_DIST", 6, 0, 1, 11, 1, 1, 32, 65535, [0], 0, 5⟩,
   ⟨"LENS_GX", 6, 0, 1, 12, 1, 1, 65536, 1073741824, [], 16777216, 2⟩,
   ⟨"LENS_GA", 6, 0, 1, 13, 1, 1, 65536, 1073741824, [], 67108864, 2⟩,
   ⟨"LENS_GB", 6, 0, 1, 14, 1, 1, 256, 16777216, [], 262144, 2⟩,
   ⟨"LENS_HOLD", 6, 0, 1, 15, 1, 1, 0, 1048576, [], 4096, 2⟩,
   ⟨"LENS_SILENT", 6, 0, 1, 16, 1, 1, 16, 65535, [], 256, 2⟩,
   ⟨"LENS_REACQ_TOL", 6, 0, 1, 17, 1, 1, 1, 127, [], 64, 7⟩,
   ⟨"LENS_ACQ_LINES", 6, 0, 1, 18, 1, 1, 4096, 16777216, [], 1048576, 7⟩,
   ⟨"RAY_SCENE", 6, 16, 16, 1, 1, 1, 0, 1099511627775, [], 0, 3⟩,
   ⟨"RAY_VX", 6, 16, 16, 2, 1, 1, 1, 128, [], 1, 3⟩,
   ⟨"RAY_VY", 6, 16, 16, 3, 1, 1, 1, 16, [], 1, 3⟩,
   ⟨"RAY_C", 6, 16, 16, 4, 1, 1, 1, 8, [], 1, 3⟩,
   ⟨"RAY_SCHMAP", 6, 16, 16, 5, 1, 1, 0, 281474976710655, [], 0, 3⟩,
   ⟨"RAY_COVCH", 6, 16, 16, 6, 1, 1, 0, 8, [], 0, 3⟩,
   ⟨"RAY_X", 6, 16, 16, 7, 1, 1, 0, 1048575, [], 0, 3⟩,
   ⟨"RAY_Y", 6, 16, 16, 8, 1, 1, 0, 16777214, [], 0, 3⟩,
   ⟨"RAY_W", 6, 16, 16, 9, 1, 1, 1, 1048576, [], 1, 3⟩,
   ⟨"RAY_H", 6, 16, 16, 10, 1, 1, 1, 16777215, [], 1, 3⟩,
   ⟨"RAY_VMAP", 6, 16, 16, 11, 1, 1, 0, 7, [], 0, 3⟩,
   ⟨"PNL_LANE", 6, 64, 1, 1, 1, 1, 0, 15, [], 0, 6⟩]

/-- Block 0x06 (06 R225). -/
def parmRows6_30 : List ParmRow :=
  [⟨"PNL_VIEWS", 6, 64, 1, 2, 1, 1, 1, 128, [], 1, 6⟩,
   ⟨"PNL_PITCH", 6, 64, 1, 3, 1, 1, 16777216, 4278190080, [], 16777216, 6⟩,
   ⟨"PNL_SLANT", 6, 64, 1, 4, 1, 1, (-134217728), 134217728, [], 0, 6⟩,
   ⟨"PNL_OFFSET", 6, 64, 1, 5, 1, 1, 0, 4278190079, [], 0, 6⟩,
   ⟨"PNL_BI0", 6, 64, 1, 6, 1, 1, 0, 65535, [], 0, 6⟩,
   ⟨"PNL_BJ0", 6, 64, 1, 7, 1, 1, 0, 4294967295, [], 0, 6⟩,
   ⟨"PNL_STEP_X", 6, 64, 1, 8, 1, 1, 256, 1048576, [], 65536, 6⟩,
   ⟨"PNL_STEP_Y", 6, 64, 1, 9, 1, 1, 256, 1048576, [], 65536, 6⟩]

/-- Block 0x07 (07 R257). -/
def parmRows7 : List ParmRow :=
  [⟨"ROW_K", 7, 0, 12, 1, 1, 1, 1, 4, [], 1, 5⟩,
   ⟨"SCR_SLOT", 7, 0, 12, 2, 1, 1, 0, 7, [], 0, 1⟩,
   ⟨"SCR_OFFX", 7, 0, 12, 3, 1, 1, 0, 255, [], 0, 1⟩,
   ⟨"SCR_OFFY", 7, 0, 12, 4, 1, 1, 0, 255, [], 0, 1⟩,
   ⟨"SPIT_IDLE", 7, 0, 12, 5, 1, 1, 0, 65535, [], 0, 2⟩,
   ⟨"GOV_W", 7, 0, 12, 6, 1, 1, 16, 1024, [], 64, 2⟩,
   ⟨"GOV_LIMIT", 7, 0, 12, 7, 1, 1, 1, 4294967295, [], 4294967295, 2⟩,
   ⟨"GOV_DROP_REJECT", 7, 0, 12, 8, 1, 1, 0, 1, [], 1, 2⟩,
   ⟨"NOZ_AUTO", 7, 0, 12, 9, 1, 1, 0, 1, [], 0, 2⟩,
   ⟨"HT_T1", 7, 0, 12, 10, 1, 1, 200, 1200, [], 550, 2⟩,
   ⟨"HT_STEP", 7, 0, 12, 11, 1, 1, 5, 200, [], 30, 2⟩,
   ⟨"HT_HYST", 7, 0, 12, 12, 1, 1, 5, 100, [], 20, 2⟩,
   ⟨"ROW_PHASE", 7, 16, 48, 1, 1, 1, 0, 3, [255], 255, 5⟩,
   ⟨"ROW_OFF", 7, 16, 48, 2, 1, 1, 0, 281474976710655, [], 0, 5⟩,
   ⟨"ROW_FMAX", 7, 16, 48, 3, 1, 1, 1000, 200000, [], 200000, 5⟩]

/-- Block 0x08 (08 R282). -/
def parmRows8 : List ParmRow :=
  [⟨"COL_LANE", 8, 64, 1, 1, 1, 1, 0, 15, [], 0, 5⟩,
   ⟨"COL_N", 8, 64, 1, 2, 1, 1, 1, 65535, [], 100, 5⟩,
   ⟨"COL_BAND_Y", 8, 64, 1, 3, 1, 1, 0, 16777215, [], 0, 5⟩,
   ⟨"PATCH_H", 8, 64, 1, 4, 1, 1, 8, 256, [], 32, 5⟩,
   ⟨"PATCH_W", 8, 64, 1, 5, 1, 1, 16, 1024, [], 64, 5⟩,
   ⟨"COL_NODE", 8, 64, 1, 6, 1, 1, 0, 16383, [], 0, 5⟩,
   ⟨"COL_SENSE_DIST", 8, 64, 1, 7, 1, 1, 256, 16777215, [0], 0, 5⟩,
   ⟨"COL_REPORT_TMO", 8, 64, 1, 8, 1, 1, 64, 65535, [], 4096, 7⟩,
   ⟨"COL_PAPER_TOL", 8, 64, 1, 9, 1, 1, 64, 2560, [], 512, 7⟩,
   ⟨"COL_DEAD", 8, 64, 1, 10, 1, 1, 0, 1280, [], 64, 7⟩,
   ⟨"COL_REF_BANDS", 8, 64, 1, 11, 1, 1, 1, 64, [], 8, 7⟩,
   ⟨"COL_CAL_DAYS", 8, 64, 1, 12, 1, 1, 1, 3650, [], 90, 7⟩,
   ⟨"COL_CAL_TOL", 8, 64, 1, 13, 1, 1, 10, 500, [], 50, 7⟩,
   ⟨"COL_TONES", 8, 0, 12, 1, 1, 1, 0, 4294967295, [], 0, 7⟩,
   ⟨"COL_TGT_1", 8, 0, 12, 2, 1, 1, 0, 281474976710655, [], 0, 7⟩,
   ⟨"COL_TGT_2", 8, 0, 12, 3, 1, 1, 0, 281474976710655, [], 0, 7⟩,
   ⟨"COL_TGT_3", 8, 0, 12, 4, 1, 1, 0, 281474976710655, [], 0, 7⟩,
   ⟨"COL_TGT_4", 8, 0, 12, 5, 1, 1, 0, 281474976710655, [], 0, 7⟩,
   ⟨"COL_TGT_MODE", 8, 0, 12, 6, 1, 1, 0, 1, [], 1, 7⟩,
   ⟨"COL_GAIN", 8, 0, 12, 7, 1, 1, 1024, 49152, [], 16384, 7⟩,
   ⟨"COL_STEP_MAX", 8, 0, 12, 8, 1, 1, 1, 256, [], 16, 7⟩,
   ⟨"COL_OFF_MAX", 8, 0, 12, 9, 1, 1, 16, 1024, [], 256, 7⟩]

/-- Block 0x09 (02 R98). -/
def parmRows9 : List ParmRow :=
  [⟨"ENC_FILT", 9, 0, 4, 1, 1, 1, 0, 15, [], 2, 5⟩,
   ⟨"ENC_WIRE_TIME", 9, 0, 4, 2, 1, 1, 8, 65535, [], 64, 0⟩,
   ⟨"ENC_CPR", 9, 0, 4, 3, 1, 1, 16, 4294967295, [0], 0, 5⟩,
   ⟨"ENC_IDX_TOL", 9, 0, 4, 4, 1, 1, 0, 255, [], 2, 7⟩,
   ⟨"ENC_DIR", 9, 0, 4, 5, 1, 1, 0, 1, [], 0, 5⟩,
   ⟨"MOT_RATIO", 9, 16, 1, 1, 1, 1, 67108864, 17179869184, [0], 0, 5⟩,
   ⟨"MOT_BW", 9, 16, 1, 2, 1, 1, 50, 2000, [], 200, 7⟩,
   ⟨"MOT_ISSUE_AHEAD", 9, 16, 1, 3, 1, 1, 2500, 62500, [], 12500, 5⟩,
   ⟨"MOT_COAST", 9, 16, 1, 4, 1, 1, 0, 65535, [], 2048, 2⟩,
   ⟨"MOT_STILL", 9, 16, 1, 5, 1, 1, 25000, 25000000, [], 2500000, 0⟩,
   ⟨"ABS_MODE", 9, 32, 1, 1, 1, 1, 0, 2, [], 0, 5⟩,
   ⟨"ABS_PROTO", 9, 32, 1, 2, 1, 1, 0, 1, [], 0, 5⟩,
   ⟨"ABS_CLK_RATE", 9, 32, 1, 3, 1, 1, 100, 10000, [], 1000, 5⟩,
   ⟨"ABS_BITS", 9, 32, 1, 4, 1, 1, 8, 48, [], 25, 5⟩,
   ⟨"ABS_GRAY", 9, 32, 1, 5, 1, 1, 0, 1, [], 1, 5⟩,
   ⟨"ABS_PERIOD", 9, 32, 1, 6, 1, 1, 250, 250000, [], 2500, 5⟩,
   ⟨"ABS_TIMEOUT", 9, 32, 1, 7, 1, 1, 1, 64, [], 20, 5⟩,
   ⟨"ABS_RATIO", 9, 32, 1, 8, 1, 1, 67108864, 17179869184, [0], 0, 5⟩,
   ⟨"ABS_TOL", 9, 32, 1, 9, 1, 1, 4096, 16777216, [], 65536, 0⟩,
   ⟨"CMP_SRC", 9, 48, 16, 1, 1, 1, 0, 5, [], 0, 7⟩,
   ⟨"CMP_VALUE", 9, 48, 16, 2, 1, 1, 0, 281474976710655, [], 0, 7⟩,
   ⟨"CMP_SPACING", 9, 48, 16, 3, 1, 1, 0, 4294967295, [], 0, 7⟩,
   ⟨"CMP_ACTION", 9, 48, 16, 4, 1, 1, 0, 31, [], 0, 7⟩,
   ⟨"CMP_WIDTH", 9, 48, 16, 5, 1, 1, 1, 25000000, [], 250, 7⟩,
   ⟨"CMP_OUT", 9, 48, 16, 6, 1, 1, 0, 3, [], 0, 7⟩,
   ⟨"CMP_NODE", 9, 48, 16, 7, 1, 1, 0, 16383, [], 0, 7⟩,
   ⟨"CMP_LANE", 9, 48, 16, 8, 1, 1, 0, 15, [], 0, 7⟩,
   ⟨"CMP_OFFSET", 9, 48, 16, 9, 1, 1, 0, 4294967295, [], 0, 7⟩,
   ⟨"PD_FILT", 9, 64, 8, 1, 1, 1, 0, 65535, [], 250, 0⟩,
   ⟨"PD_EDGE", 9, 64, 8, 2, 1, 1, 0, 1, [], 0, 5⟩]

/-- Block 0x09 (02 R98). -/
def parmRows9_30 : List ParmRow :=
  [⟨"PD_OFFSET", 9, 64, 8, 3, 1, 1, 0, 4294967295, [], 0, 5⟩,
   ⟨"PD_MIN", 9, 64, 8, 4, 1, 1, 1, 4294967295, [], 256, 5⟩,
   ⟨"PD_LANE", 9, 64, 8, 5, 1, 1, 0, 15, [255], 255, 5⟩,
   ⟨"REJ_DIST", 9, 80, 4, 1, 1, 1, 0, 4294967295, [], 0, 5⟩,
   ⟨"REJ_WIDTH", 9, 80, 4, 2, 1, 1, 250, 25000000, [], 2500000, 7⟩,
   ⟨"REJ_LANES", 9, 80, 4, 3, 1, 1, 0, 65535, [], 0, 5⟩,
   ⟨"CARR_FILT", 9, 96, 3, 1, 1, 1, 0, 25000000, [], 250000, 0⟩,
   ⟨"CARR_CHANNELS", 9, 96, 3, 2, 1, 1, 0, 4095, [], 0, 5⟩,
   ⟨"MOT_STOP_SRC", 9, 112, 1, 1, 1, 1, 0, 31, [], 31, 0⟩]

/-- Block 0x0A (09 R305, 10 R346, 16 R515). -/
def parmRows10 : List ParmRow :=
  [⟨"BAR_OFFSET", 10, 0, 1, 1, 1, 1, 0, 0, [], 0, 5⟩,
   ⟨"BAR_OFFSET", 10, 1, 11, 1, 1, 1, 0, 141732, [], 0, 5⟩,
   ⟨"BAR_CH", 10, 0, 12, 2, 1, 1, 0, 4095, [], 0, 5⟩,
   ⟨"BAR_LANE", 10, 0, 12, 3, 1, 1, 0, 7, [], 0, 5⟩,
   ⟨"BAR_ALT", 10, 0, 12, 4, 1, 1, 0, 7, [255], 255, 5⟩,
   ⟨"BAR_NODE_", 10, 0, 12, 16, 4, 1, 0, 16383, [], 0, 5⟩,
   ⟨"SCAN_RT_MODE", 10, 16, 1, 1, 1, 1, 0, 1, [], 0, 5⟩,
   ⟨"SCAN_WM", 10, 16, 1, 2, 1, 1, 2, 62, [], 8, 2⟩,
   ⟨"SCAN_AUTO_ALT", 10, 16, 1, 3, 1, 1, 0, 1, [], 1, 2⟩,
   ⟨"WYL_NODE_ID", 10, 32, 1, 1, 1, 1, 0, 16383, [], 0, 7⟩,
   ⟨"WYL_TIME_ROLE", 10, 32, 1, 2, 1, 1, 0, 1, [], 1, 7⟩,
   ⟨"WYL_TIME_INT", 10, 32, 1, 3, 1, 1, 4096, 262144, [], 16384, 7⟩,
   ⟨"LNK_RATE", 10, 64, 128, 1, 1, 1, 0, 1, [], 1, 7⟩,
   ⟨"LNK_AUTO_RETRAIN", 10, 64, 128, 2, 1, 1, 0, 1, [], 1, 7⟩,
   ⟨"LNK_EYE_MIN_W", 10, 64, 128, 3, 1, 1, 16, 96, [], 38, 7⟩,
   ⟨"LNK_EYE_MIN_H", 10, 64, 128, 4, 1, 1, 10, 200, [], 40, 7⟩]

/-- Block 0x0B (11 R388). -/
def parmRows11 : List ParmRow :=
  [⟨"TWN_MARGIN", 11, 0, 1, 1, 1, 1, 2, 64, [], 4, 7⟩,
   ⟨"TWN_HB_MISS", 11, 0, 1, 2, 1, 1, 8, 1024, [], 64, 7⟩,
   ⟨"TWN_ASSAY_STRIKES", 11, 0, 1, 3, 1, 1, 1, 16, [], 3, 7⟩,
   ⟨"TWN_DIVERGE_REJECT", 11, 0, 1, 4, 1, 1, 0, 1, [], 1, 2⟩,
   ⟨"TWN_REVERT", 11, 0, 1, 5, 1, 1, 0, 1, [], 1, 7⟩,
   ⟨"TWN_HOLDOFF", 11, 0, 1, 6, 1, 1, 1, 3600, [], 60, 7⟩,
   ⟨"TWN_PRES_FLASH", 11, 0, 1, 7, 1, 1, 10, 60, [], 60, 7⟩]

/-- Block 0x0C (17 R538). -/
def parmRows12 : List ParmRow :=
  [⟨"DSP_RT_MODE", 12, 0, 1, 1, 1, 1, 0, 1, [], 0, 7⟩,
   ⟨"DSP_WM", 12, 0, 1, 2, 1, 1, 2, 14, [], 4, 0⟩,
   ⟨"DSP_TE_FILT", 12, 0, 1, 3, 1, 1, 0, 65535, [], 250, 0⟩,
   ⟨"DSP_TE_EDGE", 12, 0, 1, 4, 1, 1, 0, 1, [], 0, 7⟩,
   ⟨"DSP_TE_DELAY", 12, 0, 1, 5, 1, 1, 0, 255, [], 2, 6⟩,
   ⟨"DSP_LINE_MATCH", 12, 0, 1, 6, 1, 1, 0, 8191, [], 0, 7⟩,
   ⟨"DSP_CONV", 12, 0, 1, 7, 1, 1, 0, 1099511627775, [], 0, 6⟩,
   ⟨"DSP_SRC", 12, 0, 1, 8, 1, 1, 0, 255, [], 0, 6⟩]

/-- Block 0x0E (15 R496, 18 R563, 19 R594). -/
def parmRows14 : List ParmRow :=
  [⟨"MEMC_RATE_A", 14, 16, 8, 1, 1, 1, 3200, 8533, [], 8533, 7⟩,
   ⟨"MEMC_RATE_B", 14, 16, 8, 2, 1, 1, 3200, 8533, [], 6400, 7⟩,
   ⟨"MEMC_SET", 14, 16, 8, 3, 1, 1, 0, 1, [], 0, 7⟩,
   ⟨"MEMC_HASH_BA0", 14, 16, 8, 4, 1, 1, 0, 2097151, [], 69905, 7⟩,
   ⟨"MEMC_HASH_BA1", 14, 16, 8, 5, 1, 1, 0, 2097151, [], 139810, 7⟩,
   ⟨"MEMC_HASH_BG0", 14, 16, 8, 6, 1, 1, 0, 2097151, [], 279620, 7⟩,
   ⟨"MEMC_HASH_BG1", 14, 16, 8, 7, 1, 1, 0, 2097151, [], 559240, 7⟩,
   ⟨"MEMC_WT", 14, 16, 8, 8, 1, 1, 0, 16777215, [], 1204804, 0⟩,
   ⟨"MEMC_DW_WM", 14, 16, 8, 9, 1, 1, 16, 224, [], 64, 0⟩,
   ⟨"MEMC_RT_GUARD", 14, 16, 8, 10, 1, 1, 256, 16384, [], 1024, 7⟩,
   ⟨"MEMC_TRAIN_INT", 14, 16, 8, 11, 1, 1, 16, 256, [], 64, 7⟩,
   ⟨"MEMC_TRAIN_DEFER", 14, 16, 8, 12, 1, 1, 1, 64, [], 16, 7⟩,
   ⟨"MEMC_SCRUB", 14, 16, 8, 13, 1, 1, 0, 168, [], 24, 7⟩,
   ⟨"THM_WARN", 14, 32, 8, 1, 1, 1, 700, 950, [], 950, 7⟩,
   ⟨"THM_WARN_HYST", 14, 32, 8, 2, 1, 1, 10, 200, [], 50, 7⟩,
   ⟨"THM_THROT", 14, 32, 8, 3, 1, 1, 750, 1020, [], 1020, 7⟩,
   ⟨"THM_THROT_HYST", 14, 32, 8, 4, 1, 1, 10, 200, [], 40, 7⟩,
   ⟨"THM_SHUT", 14, 32, 8, 5, 1, 1, 900, 1120, [], 1120, 7⟩,
   ⟨"THM_SHUT_HYST", 14, 32, 8, 6, 1, 1, 50, 300, [], 100, 7⟩,
   ⟨"THM_PLIMIT", 14, 32, 8, 7, 1, 1, 100, 300, [], 300, 7⟩,
   ⟨"THM_STEP_W", 14, 32, 8, 8, 1, 1, 5, 50, [], 20, 7⟩,
   ⟨"THM_STEP_T", 14, 32, 8, 9, 1, 1, 10, 1000, [], 100, 7⟩,
   ⟨"THM_TREF", 14, 32, 8, 10, 1, 1, (-400), 1250, [-32768], (-32768), 7⟩,
   ⟨"THM_AUTO_RESTART", 14, 32, 8, 11, 1, 1, 0, 1, [], 0, 7⟩,
   ⟨"THM_AUTO_REJOIN", 14, 32, 8, 12, 1, 1, 0, 1, [], 1, 7⟩,
   ⟨"TRM_DT", 14, 48, 8, 1, 1, 1, 20, 250, [], 80, 7⟩,
   ⟨"TRM_AUTO", 14, 48, 8, 2, 1, 1, 0, 15, [], 15, 7⟩,
   ⟨"TRM_VREF", 14, 48, 8, 3, 1, 1, 1240000, 1260000, [], 1250000, 7⟩,
   ⟨"TRM_ADC_TOL", 14, 48, 8, 4, 1, 1, 100, 5000, [], 500, 7⟩,
   ⟨"TRM_EDGE_FREE", 14, 48, 8, 5, 1, 1, 16, 4096, [], 64, 7⟩]

/-- Block 0x0E (15 R496, 18 R563, 19 R594). -/
def parmRows14_30 : List ParmRow :=
  [⟨"TALLY_TC_HI", 14, 64, 1, 1, 1, 1, 500, 1000, [], 800, 7⟩,
   ⟨"TALLY_TC_LO", 14, 64, 1, 2, 1, 1, 0, 900, [], 400, 7⟩,
   ⟨"UPD_TIMEOUT", 14, 64, 1, 3, 1, 1, 10, 3600, [], 300, 7⟩,
   ⟨"VBAT_WARN", 14, 64, 1, 4, 1, 1, 2100, 3000, [], 2500, 7⟩]

/-- The rows of a block. -/
def parmRowsOf (block : Nat) : List ParmRow :=
  match block with
  | 1 => parmRows1
  | 2 => parmRows2
  | 3 => parmRows3
  | 4 => parmRows4
  | 5 => parmRows5
  | 6 => parmRows6 ++ parmRows6_30
  | 7 => parmRows7
  | 8 => parmRows8
  | 9 => parmRows9 ++ parmRows9_30
  | 10 => parmRows10
  | 11 => parmRows11
  | 12 => parmRows12
  | 14 => parmRows14 ++ parmRows14_30
  | _ => []

/-- Every row. -/
def parmAll : List ParmRow := [1, 2, 3, 4, 5, 6, 7, 8, 9, 10, 11, 12, 14].flatMap parmRowsOf

/-! ## Lookups -/

/-- Does a row describe a PARM ID? -/
def ParmRow.has (r : ParmRow) (pid : Nat) : Bool :=
  let b := pid / 2 ^ 24
  let i := pid / 2 ^ 16 % 256
  let k := pid % 2 ^ 16
  b == r.block && decide (r.inst ≤ i ∧ i < r.inst + r.insts) &&
    decide (r.item ≤ k ∧ (k - r.item) % r.step = 0 ∧ (k - r.item) / r.step < r.items)

/-- Instances that only a larger part has: spans, tiles and lanes of tiles (13 R432, R456). -/
def parmFitted (tiles : Nat) (pid : Nat) : Bool :=
  let b := pid / 2 ^ 24
  let i := pid / 2 ^ 16 % 256
  let k := pid % 2 ^ 16
  if b = 3 then i = 0 || decide (i - 0x10 < tiles / 2)
  else if b = 10 then
    if i ≥ 0x40 then decide ((i - 0x40) / 16 < tiles) && decide ((i - 0x40) % 16 < 10)
    else if i < 12 && k ≥ 0x10 then decide (k - 0x10 < tiles / 2) else true
  else if b = 14 && i ≠ 0x40 then decide (i % 16 < tiles) else true

/-- The row of a PARM ID. -/
def parmRow (pid : Nat) : Option ParmRow := (parmRowsOf (pid / 2 ^ 24)).find? (fun r => r.has pid)

/-- The row of a PARM ID that a part has. -/
def parmInfo (tiles pid : Nat) : Option ParmRow := if parmFitted tiles pid then parmRow pid else none

/-- Reset value of an item: that of its row; ROW_PHASE of row 0 is 0 (07 R257). -/
def parmReset (pid : Nat) : Int :=
  match parmRow pid with
  | some r => if r.block = 7 && r.inst = 0x10 && r.item = 1 && (pid / 2 ^ 16 % 256) % 4 = 0 then 0 else r.reset
  | none => 0

/-- The values a row accepts at dispatch (13 R441, R453): its range and single values, the steps and lists of its
table, and ascending tones (08 R282). Bounds that depend on other items are checked where their chapters check them. -/
def ParmRow.accepts (r : ParmRow) (v : Int) : Bool :=
  (decide (r.lo ≤ v ∧ v ≤ r.hi) || r.also.contains v) &&
  (if r.block = 2 && r.inst = 0 then decide (v % 256 = 0)
   else if r.block = 14 && r.inst = 0x10 && r.item ≤ 2 then [3200, 4267, 5500, 6400, 7500, 8533].contains v
   else if r.block = 14 && r.inst = 0x10 && r.item = 8 then
     (List.range 6).all (fun p => decide (bits v.toNat (4 * p + 3) (4 * p) ≠ 0))
   else if r.block = 5 && r.insts = 64 && r.item = 2 then decide (v ≠ 0)
   else true)

/-- The value of an item in a table of set items. -/
def PMap.item (m : PMap) (pid : Nat) : Int := NMap.get (parmReset pid) m pid
/-- A table with an item set. -/
def PMap.put (m : PMap) (pid : Nat) (v : Int) : PMap := NMap.set (parmReset pid) m pid v
/-- A table with several items set, in order. -/
def PMap.putAll (m : PMap) (es : PMap) : PMap := es.foldl (fun m e => PMap.put m e.1 e.2) m
/-- A list of settings with one more setting; a later setting of the same item replaces the earlier (00 R14). -/
def setting (l : List (Nat × Int)) (pid : Nat) (v : Int) : List (Nat × Int) := l.filter (fun e => e.1 != pid) ++ [(pid, v)]

/-- The value of an item in force outside any line: job-boundary items of the running job, the last value written
otherwise (13 R441). -/
def State.item (s : State) (pid : Nat) : Int := PMap.item s.job.base.items pid
/-- The same as a natural number. -/
def State.itemN (s : State) (pid : Nat) : Nat := (s.item pid).toNat

/-- The package with an item's value in force replaced. -/
def State.putItem (s : State) (pid : Nat) (v : Int) : State :=
  { s with job := { s.job with base := { s.job.base with items := PMap.put s.job.base.items pid v } } }

/-- Channels of the job's channel mask (01 R24). -/
def State.activeCh (s : State) : Nat := s.itemN Pid.jobChannels

end Sys2Proof.Machine
end

