-- ==== Sys2Proof/Machine/Post.lean ====
section
/-! DEFINITION. From a decided completion to the host: the packet store, moderation and vectors (12 R404, R416 to R420),
and reports (13 R436, R437). -/

namespace Sys2Proof.Machine

/-! ## Queues, sessions, ports -/

/-- A queue pair, if it exists. -/
def State.pair (s : State) (q : Nat) : Option QueuePair := vget s.qen.pairs q none
/-- The package with a queue pair replaced. -/
def State.setPair (s : State) (q : Nat) (x : Option QueuePair) : State :=
  { s with qen := { s.qen with pairs := vset s.qen.pairs q x } }
/-- The package with an existing queue pair changed by a function. -/
def State.updPair (s : State) (q : Nat) (f : QueuePair → QueuePair) : State := s.setPair q ((s.pair q).map f)
/-- A session, if it is open. -/
def State.session (s : State) (n : Nat) : Option Session := vget s.qen.sessions n none
/-- The package with a session replaced. -/
def State.setSession (s : State) (n : Nat) (x : Option Session) : State :=
  { s with qen := { s.qen with sessions := vset s.qen.sessions n x } }
/-- The package with the packet store replaced. -/
def State.setStore (s : State) (l : List StoreEntry) : State := { s with qen := { s.qen with store := l } }
/-- The endpoint of the tile that holds the lead (12 R391). -/
def State.port (s : State) : Port := vget s.qen.ports s.lead.tile Port.reset
/-- The package with an endpoint changed. -/
def State.updPort (s : State) (p : Nat) (f : Port → Port) : State :=
  { s with qen := { s.qen with ports := vupd s.qen.ports p Port.reset f } }
/-- The MSI-X table of the lead's endpoint. -/
def State.mx (s : State) : Msix := vget s.qen.msix s.lead.tile Msix.reset
/-- The package with the MSI-X table of an endpoint changed. -/
def State.updMx (s : State) (t : Nat) (f : Msix → Msix) : State := { s with qen := { s.qen with msix := vupd s.qen.msix t Msix.reset f } }
/-- The mirror to T1 of a queue write, sent while T0 holds the lead (12 R422). -/
def State.mirrorSend (s : State) (m : Mirror) : State :=
  if s.lead.tile = 0 then { s with qen := { s.qen with mirror := s.qen.mirror ++ [m] } } else s

/-! ## Vectors (12 R417 to R420) -/

/-- A vector falls due; q is the completion queue whose moderation made it fall due, if any (12 R419, R420). -/
def State.vecDue (s : State) (v : Nat) (q : Option Nat) : State :=
  let v := v % 2048
  let wake := match q with
    | some k => decide (s.itemN (Pid.qWake k) = 1)
    | none => false
  let s1 := if s.port.dstate = 3 then s.updMx s.lead.tile (fun m => { m with pba := addNew m.pba v })
    else { s with qen := { s.qen with due := addNew s.qen.due v } }
  match q with
  | none => s1
  | some k =>
    if wake && s.port.dstate = 3 && s.port.pmeEn && !((s.pair k).map (·.pmeSent)).getD true then
      (s1.updPort s.lead.tile (fun p => { p with pme := p.pme + 1 })).updPair k (fun x => { x with pmeSent := true })
    else if wake && s.port.dstate = 4 then s1.updPort s.lead.tile (fun p => { p with wakeL := true })
    else s1

/-- A completion queue's vector falls due and its window closes (12 R417). -/
def State.cqDue (s : State) (q : Nat) : State :=
  (s.updPair q (fun x => { x with win := none })).vecDue (s.itemN (Pid.qVec q)) (some q)

/-- A window of a queue whose time has come closes first (12 R417). -/
def State.closeExpired (s : State) (q : Nat) : State :=
  match (s.pair q).bind (·.win) with
  | some (t0, lim, _, _) => if t0 + lim ≤ s.now then s.cqDue q else s
  | none => s

/-- The open window counts one completion, or a window opens with it (12 R417). -/
def State.countOpen (s : State) (q : Nat) : State :=
  let s := s.closeExpired q
  let w := match (s.pair q).bind (·.win) with
    | some (t0, lim, cnt, k) => (t0, lim, cnt, k + 1)
    | none => (s.now, s.itemN (Pid.qModTime q), s.itemN (Pid.qModCnt q), 1)
  let s1 := s.updPair q (fun x => { x with win := some w })
  if w.2.2.1 ≤ w.2.2.2 then s1.cqDue q else s1

/-- A completion counted for moderation, with URGENT's immediate vector (12 R417). -/
def State.countNotify (s : State) (q : Nat) (urgent : Bool) : State :=
  let s1 := s.countOpen q
  if urgent then s1.cqDue q else s1

/-! ## Completions (12 R404, R416) -/

/-- The store entry of a packet. -/
def State.entry (s : State) (seq : Nat) : Option StoreEntry := s.qen.store.find? (fun e => e.p.seq == seq)
/-- The package with the entry of a packet changed. -/
def State.updEntry (s : State) (seq : Nat) (f : StoreEntry → StoreEntry) : State :=
  s.setStore (mapIf s.qen.store (fun e => e.p.seq == seq) f)

/-- The completion of an entry, decided. -/
def StoreEntry.decide (e : StoreEntry) (status r0 r1 now : Nat) (counted : Bool) : StoreEntry :=
  { e with st := .done, wait := .none, status := status, r0 := r0 % 2 ^ 32, r1 := r1 % 2 ^ 31, decided := now,
           counted := counted }

/-- A command that fails has no effect, so a fence that it named is free again (04 R157). -/
def State.freeFences (s : State) (seq : Nat) : State :=
  { s with job := { s.job with fences := s.job.fences.filter (fun f => f.seq != seq || f.signal.isSome) } }

/-- The completion of a packet is decided: its entry becomes DONE with status and results. In D3 a completion with
NOTIFY counts at once (12 R404, R420). -/
def State.complete (s : State) (seq status r0 r1 : Nat) : State :=
  match s.entry seq with
  | none => s
  | some e =>
    if e.st = .done then s
    else
      let counts := e.p.notify && decide (s.port.dstate ≠ 0)
      let s1 := s.updEntry seq (fun e => e.decide status r0 r1 s.now counts)
      if counts then s1.countNotify e.p.q e.p.urgent else s1

/-- Completion with a status and no results. -/
def State.done (s : State) (seq status : Nat) : State := s.complete seq status 0 0

/-- Result 0 of a line (01 R64). -/
def lineR0 (n : Nat) : Nat := n % 2 ^ 32
/-- Result 1 of a line (01 R64). -/
def lineR1 (n : Nat) : Nat := n / 2 ^ 32 % 2 ^ 16
/-- Completion with a line (01 R64). -/
def State.doneLine (s : State) (seq status n : Nat) : State := s.complete seq status (lineR0 n) (lineR1 n)

/-- The packet waits, PARKED (12 R404). -/
def State.park (s : State) (seq : Nat) (w : Wait) : State := s.updEntry seq (fun e => { e with st := .parked, wait := w })
/-- The packet executes on, RUNNING (12 R404). -/
def State.run (s : State) (seq : Nat) (w : Wait) : State := s.updEntry seq (fun e => { e with st := .running, wait := w })

/-! ## Reports (13 R436, R437) -/

/-- Zero bytes. -/
def zeros (n : Nat) : List Byte := List.replicate n 0
/-- Bytes padded with zeros to a multiple of 8. -/
def pad8 (bs : List Byte) : List Byte := bs ++ zeros ((8 - bs.length % 8) % 8)

/-- A report entry: ID, LEN, FMT and VALUE (13 R437). -/
def reportEntry (opc i : Nat) (vs : List Int) : List Byte :=
  let v := (Config.statusValue opc i vs).take 4096
  leBytes 4 (Config.statusId opc i) ++ leBytes 2 v.length ++ leBytes 1 (Config.statusFmt opc i) ++ [0] ++ pad8 v

/-- Entries of a report, numbered from i. -/
def reportEntries (opc : Nat) : Nat → List (List Int) → List Byte
  | _, [] => []
  | i, v :: vs => reportEntry opc i v ++ reportEntries opc (i + 1) vs

/-- A report: the header of R437 and a body. -/
def reportOf (opc time : Nat) (body : List Byte) : List Byte :=
  leBytes 2 opc ++ [1, 0] ++ leBytes 4 (16 + body.length) ++ leBytes 8 time ++ body

/-- A report written to host memory, min(length, size) bytes, and its completion (13 R436). -/
def State.report (s : State) (p : Packet) (body : List Byte) : State :=
  let r := reportOf p.opcode s.now body
  let len := p.dw 4
  let s1 := s.hostWrite (p.ha 2) (r.take len)
  s1.complete p.seq (if len < r.length then St.okTruncated else St.ok) r.length 0

/-- A report of status items: the quantities the spec lists, in its order, each an entry. -/
def State.reportQ (s : State) (p : Packet) (qs : List (List Int)) : State := s.report p (reportEntries p.opcode 0 qs)

/-- A quantity of a report. -/
def qn (n : Nat) : Int := n
/-- A truth value as a quantity. -/
def qb (b : Bool) : Int := if b then 1 else 0
/-- A byte count as a number. -/
def boolNat (b : Bool) : Nat := if b then 1 else 0

end Sys2Proof.Machine
end

