-- ==== Sys2Proof/Machine/Commit.lean ====
section
/-! DEFINITION. Effect lines (01 R60 to R64, R617) and the commits of the job controller (11 R359, R360). -/

namespace Sys2Proof.Machine

/-! ## Print settings -/

/-- The slot table at reset: level l in slot l, every energy 0 (07 R244). -/
def SlotTbl.reset : SlotTbl :=
  { map := (List.range 24).map (fun i => i / 3), energy := List.replicate 16 0 }

/-- The zone table at reset: the identity (07 R231). -/
def zoneIdentity : List Nat := (List.range 256).map (fun d => d * 16 + d / 16)

/-- A print setting with a change applied. -/
def PrintSet.apply (x : PrintSet) (c : Change) : PrintSet :=
  match c with
  | .parms es => { x with items := PMap.putAll x.items es }
  | .slots ch t => { x with slots := NMap.set SlotTbl.reset x.slots ch t }
  | .noz es => { x with noz := es.foldl (fun m e => NMap.set 0 m e.1 e.2) x.noz }
  | .zone ver ts => { x with zone := ts.foldl (fun m e => NMap.set zoneIdentity m e.1 e.2) x.zone, zver := ver }
  | .ht z st => { x with ht := NMap.set 0 x.ht z st }
  | .carr mask blank => { x with blankCh := if blank then x.blankCh ||| mask else x.blankCh &&& (0xFFF - mask) }
  | .role => x
  | .absent key on => { x with absent := if on then addNew x.absent key else x.absent.filter (· != key) }
  | .failed nz on => { x with failed := NMap.set 0 x.failed nz (boolNat on) }
  | .disarm abort => { x with aborted := x.aborted || abort }
  | .acquire => x
  | .start _ => x
  | .armLine _ _ => x
  | .job _ => x
  | .leave node => { x with absent := (List.range 17).foldl (fun l j => addNew l (17 * node + j)) x.absent }

/-- Insert a commit in the order of application: ascending effect line, then ascending CSEQ (01 R63, 11 R360). -/
def Commit.insert (c : Commit) : List Commit → List Commit
  | [] => [c]
  | d :: r => if c.line < d.line || (c.line == d.line && c.cseq < d.cseq) then c :: d :: r else d :: Commit.insert c r

/-- Commits in the order of application. -/
def commitOrder (l : List Commit) : List Commit := l.foldl (fun acc c => Commit.insert c acc) []

/-- The commits a tile applies at or before line n under CMAX: CSEQ at or below CMAX and effect line at or below n,
in the order of application (11 R360). -/
def State.commitsAt (s : State) (n cmax : Nat) : List Commit :=
  commitOrder (s.job.commits.filter (fun c => decide (c.cseq ≤ cmax ∧ c.line ≤ n ∧ c.line ≠ 0)))

/-- The print settings in force at a line under CMAX (11 R360). -/
def State.printUnder (s : State) (n cmax : Nat) : PrintSet :=
  (s.commitsAt n cmax).foldl (fun x c => x.apply c.change) s.job.base

/-- The issue record of a line. -/
def State.issuedAt (s : State) (n : Nat) : Option IssuedLine := s.motion.issued.find? (fun l => l.n == n)

/-- CMAX as of now for line n: the highest c such that every commit up to c is committed, or prepared for a line above n
(11 R360). -/
def State.cmaxFor (s : State) (n : Nat) : Nat :=
  let open_ := s.job.commits.filter (fun c => !(c.committed || decide (c.line > n)))
  match open_.map (·.cseq) with
  | [] => s.job.cseq - 1
  | c :: cs => cs.foldl min c - 1

/-- The CMAX of a line: of its position message, or as of now. -/
def State.cmaxAt (s : State) (n : Nat) : Nat := ((s.issuedAt n).map (·.cmax)).getD (s.cmaxFor n)

/-- The print settings in force at line n: under the CMAX of its position message once it is issued. -/
def State.printAt (s : State) (n : Nat) : PrintSet :=
  match s.issuedAt n with
  | some l => s.printUnder n l.cmax
  | none => s.printUnder n (s.cmaxFor n)

/-- An item's value at a line. -/
def State.itemAt (s : State) (n pid : Nat) : Int := PMap.item (s.printAt n).items pid
/-- An item's value at a line as a natural number. -/
def State.itemAtN (s : State) (n pid : Nat) : Nat := (s.itemAt n pid).toNat
/-- The value of an effect-line or line-boundary item at the last line issued (13 R441). -/
def State.itemNow (s : State) (pid : Nat) : Int := s.itemAt s.motion.lastLine pid
/-- The same as a natural number. -/
def State.itemNowN (s : State) (pid : Nat) : Nat := (s.itemNow pid).toNat

/-! ## Spans -/

/-- A job is armed: ARMED or DRAINING (13 R439). -/
def State.armed (s : State) : Bool := decide (s.job.st ≠ .idle)
/-- Start of a span's owned positions (01 R19). -/
def State.spanStart (s : State) (k : Nat) : Nat := s.itemN (Pid.spanStart k)
/-- Owned width of a span, 0 when unused (01 R19). -/
def State.spanWidth (s : State) (k : Nat) : Nat := s.itemN (Pid.spanWidth k)
/-- The used spans of the package (01 R19, R24). -/
def State.usedSpans (s : State) : List Nat := (List.range s.nTwins).filter (fun k => decide (s.spanWidth k ≠ 0))
/-- The tiles of used spans. -/
def State.usedTiles (s : State) : List Nat := s.usedSpans.flatMap (fun k => [2 * k, 2 * k + 1])

/-! ## Preparing and committing (11 R359) -/

/-- The twins a change touches. -/
def State.twinsOf (s : State) : Change → List Nat
  | .start t => [t / 2]
  | .role => [0]
  | _ => s.usedSpans

/-- The tiles to which PREPARE goes: PAIRED, SOLO, FILL and RESYNC of the twins touched. -/
def State.prepareTiles (s : State) (c : Change) : List Nat :=
  ((s.twinsOf c).flatMap (fun k => [2 * k, 2 * k + 1])).filter (fun t =>
    match (s.tileN t).twin with
    | .paired | .solo | .fill | .resync => true
    | _ => false)

/-- The affected tiles, whose ACK is awaited: PAIRED, SOLO or FILL. -/
def State.ackTiles (s : State) (c : Change) : List Nat :=
  (s.prepareTiles c).filter (fun t => decide ((s.tileN t).twin ≠ .resync))

/-- The first line not yet begun on any affected tile; with none, the first not yet issued. -/
def State.firstFree (s : State) (c : Change) : Nat :=
  match (s.ackTiles c).map (fun t => (s.tileN t).begun) with
  | [] => s.motion.lastLine + 1
  | b :: bs => bs.foldl max b

/-- A freely chosen effect line: the first line not yet begun plus TWN_MARGIN, and at least every freely chosen line
already prepared (11 R359). -/
def State.chooseLine (s : State) (c : Change) : Nat :=
  ((s.job.commits.filter (fun d => !d.fixed)).map (·.line)).foldl max (s.firstFree c + s.itemN Pid.twnMargin)

/-- A handover is in progress, so that no commit is prepared (11 R380). -/
def State.inHandover (s : State) : Bool :=
  match s.lead.handover with
  | some (h, _, _) => decide (h ≤ s.now ∧ s.now < h + 16000)
  | none => false

/-- A commit whose every ACK has arrived: it is committed and its packet completes with its line (11 R359, 01 R64). -/
def State.commitDone (s : State) (cseq : Nat) : State :=
  match s.job.commits.find? (fun c => c.cseq == cseq) with
  | none => s
  | some c =>
    let s1 := { s with job := { s.job with commits := mapIf s.job.commits (fun d => d.cseq == cseq) (fun d => { d with committed := true }) } }
    match s.entry c.seq with
    | some e => if e.wait = .commit cseq then s1.doneLine c.seq St.ok c.line else s1
    | none => s1

/-- A change is prepared: it takes the next CSEQ and its effect line, and PREPARE goes to its tiles. With no tile to
answer it is committed at once (11 R359). -/
def State.prepareNow (s : State) (c : Change) (fixed : Nat) (seq : Nat) : State :=
  let cs := s.job.cseq
  let e := if fixed = 0 then s.chooseLine c else fixed
  let cm : Commit :=
    { cseq := cs, line := e, fixed := decide (fixed ≠ 0), change := c, seq := seq, awaiting := s.ackTiles c,
      preparing := s.prepareTiles c, committed := false }
  let s1 := { s with job := { s.job with commits := s.job.commits ++ [cm], cseq := (cs + 1) % 2 ^ 32 } }
  if (s.ackTiles c).isEmpty then s1.commitDone cs else s1

/-- A change is prepared, or held until a handover ends (11 R380). -/
def State.prepare (s : State) (c : Change) (fixed : Nat) (seq : Nat) : State :=
  if s.inHandover then { s with job := { s.job with held := s.job.held ++ [(c, fixed, seq)] } }
  else s.prepareNow c fixed seq

/-- A change that came into force for good: a slot table also stands in the stores of every tile whose lanes' domain is on
(07 R244). -/
def State.settleChange (s : State) (c : Change) : State :=
  let s1 := { s with job := { s.job with base := s.job.base.apply c } }
  match c with
  | .slots ch t =>
    forEach (s.tileList.filter (fun t => (s.tileN t).on 8)) s1 (fun s i =>
      s.updTileN i (fun x => { x with die := { x.die with slots := NMap.set SlotTbl.reset x.die.slots ch t } }))
  | _ => s1

/-- A print-affecting change of a packet: committed at an effect line while a job is armed, and the packet waits for
the commit; in force at once and completed with no line otherwise (01 R60, R617). -/
def State.changeFor (s : State) (seq : Nat) (c : Change) : State :=
  if s.armed then
    let s1 := s.park seq (.commit s.job.cseq)
    s1.prepare c 0 seq
  else
    (s.settleChange c).done seq St.ok

/-- A change of the lead's own, with no packet. -/
def State.changeOwn (s : State) (c : Change) : State :=
  if s.armed then s.prepare c 0 0 else s.settleChange c

/-- PREPARE reaches a tile: it stores the change with its line; a tile in RESYNC returns no ACK (11 R359). -/
def State.prepareReceive (s : State) (t : Tile) (cseq : Nat) : State :=
  match s.job.commits.find? (fun c => c.cseq == cseq) with
  | none => s
  | some c =>
    if t.val ∈ c.preparing then
      let s1 := { s with job := { s.job with
        commits := mapIf s.job.commits (fun d => d.cseq == cseq) (fun d => { d with preparing := d.preparing.filter (· != t.val) }) } }
      s1.updTile t (fun x => { x with heldCommits := x.heldCommits.filter (fun h => h.1 != cseq) ++ [(cseq, c.line)] })
    else s

/-- An ACK reaches twin 0: once every ACK has arrived the commit is committed (11 R359). -/
def State.ackReceive (s : State) (t : Tile) (cseq : Nat) : State :=
  match s.job.commits.find? (fun c => c.cseq == cseq) with
  | none => s
  | some c =>
    if t.val ∈ c.awaiting && !(c.preparing.contains t.val) then
      let left := c.awaiting.filter (· != t.val)
      let s1 := { s with job := { s.job with
        commits := mapIf s.job.commits (fun d => d.cseq == cseq) (fun d => { d with awaiting := left }) } }
      if left.isEmpty then s1.commitDone cseq else s1
    else s

/-- ACKs are no longer awaited from a tile that left printing; what that completes is committed (11 R359). -/
def State.dropAcks (s : State) (t : Nat) : State :=
  s.job.commits.foldl (fun s c =>
    if c.awaiting.contains t then
      let left := c.awaiting.filter (· != t)
      let upd := fun (d : Commit) => { d with awaiting := left, preparing := d.preparing.filter (· != t) }
      let s1 := { s with job := { s.job with commits := mapIf s.job.commits (fun d => d.cseq == c.cseq) upd } }
      if left.isEmpty && !c.committed then s1.commitDone c.cseq else s1
    else s) s

/-- Line n is issued: each uncommitted freely chosen commit whose line it reached is prepared again with a new line, and
so is every later freely chosen one whose line now falls below that (11 R360). -/
def State.reprepare (s : State) (n : Nat) : State :=
  s.job.commits.foldl (fun s c =>
    let late := !c.committed && !c.fixed && decide (c.line ≤ n ∧ c.line ≠ 0)
    if late then
      let e := max (s.chooseLine c.change) (n + 1 + s.itemN Pid.twnMargin)
      let again := fun (d : Commit) => { d with line := e, committed := d.committed, preparing := s.prepareTiles d.change, awaiting := s.ackTiles d.change }
      { s with job := { s.job with commits := s.job.commits.map (fun d =>
          if d.cseq = c.cseq || (d.cseq > c.cseq && !d.fixed && !d.committed && decide (d.line < e)) then again d else d) } }
    else s) s

/-- Changes held over a handover are prepared in order at its end (11 R380). -/
def State.prepareHeld (s : State) : State :=
  let hs := s.job.held
  hs.foldl (fun s h =>
    let s1 := s.updEntry h.2.2 (fun e => match e.wait with
      | .commit _ => { e with wait := .commit s.job.cseq }
      | _ => e)
    s1.prepareNow h.1 h.2.1 h.2.2) { s with job := { s.job with held := [] } }

end Sys2Proof.Machine
end

