-- ==== Sys2Proof/Machine/Engine.lean ====
section
/-! DEFINITION. How the command engine carries out a dispatched packet (12 R404, R414; 13 R431, R435): the checks in
their order, the read of its host buffer, the wait for earlier memory writes, and its effect. -/

namespace Sys2Proof.Machine

/-- Bytes of job memory that a packet reads or writes, on every span of a mask (12 R414). -/
structure Access where
  spans : Nat
  base : Nat
  len : Nat
  write : Bool
  deriving DecidableEq, Repr

/-- What the command engine needs to know of an opcode (13 R431, R435). The functions take the package, the packet and,
where a host buffer is read, its bytes. -/
structure OpDef where
  /-- The opcode. -/
  code : Nat
  /-- The classes of its row: bit 0 S, 1 O, 2 J, 3 Ob. -/
  cls : Nat
  /-- The named bits of DW2 to DW15; further dwords have none. -/
  named : List Nat
  /-- A protection check of its own (13 R452), 0 to pass. -/
  prot : State → Packet → Nat
  /-- The job memory it touches. -/
  access : State → Packet → List Byte → List Access
  /-- Its own checks at dispatch: status, Result 0, Result 1. -/
  check : State → Packet → Nat × Nat × Nat
  /-- The host buffer it reads: address and length. -/
  read : State → Packet → Option (Nat × Nat)
  /-- The spans whose earlier memory writes it waits for (03 R107). -/
  waits : State → Packet → List Byte → Nat
  /-- What it makes live before it waits, with a status and results; status ST_OK goes on (03 R109). -/
  bind : State → Packet → List Byte → (Nat × Nat × Nat) × State
  /-- Its effect: it completes or parks the packet. -/
  act : State → Packet → List Byte → State
  /-- What it takes at dispatch, once its checks have passed (04 R157). -/
  hold : State → Packet → State := fun s _ => s

/-- No protection check of its own. -/
def noProt (_ : State) (_ : Packet) : Nat := 0
/-- No job memory touched. -/
def noAccess (_ : State) (_ : Packet) (_ : List Byte) : List Access := []
/-- No check of its own. -/
def noCheck (_ : State) (_ : Packet) : Nat × Nat × Nat := (St.ok, 0, 0)
/-- No host buffer read. -/
def noRead (_ : State) (_ : Packet) : Option (Nat × Nat) := none
/-- No wait for memory writes. -/
def noWaits (_ : State) (_ : Packet) (_ : List Byte) : Nat := 0

/-- Nothing made live. -/
def noBind (s : State) (_ : Packet) (_ : List Byte) : (Nat × Nat × Nat) × State := ((0, 0, 0), s)

/-- Every class. -/
def clsAll : Nat := 15
/-- S, O and J. -/
def clsSOJ : Nat := 7
/-- S and O. -/
def clsSO : Nat := 3
/-- S alone. -/
def clsS : Nat := 1

/-- Named bits of a report's dwords with its selector bits (13 R432). -/
def rptNamed (sel : Nat) : List Nat := [0xFFFF_FFFF, 0xFFFF_FFFF, 0xFFFF_FFFF, sel]

/-! ## Protection (12 R414) -/

/-- Do windows cover [pos, stop) of a span with a right? A window that holds pos moves pos to its end. -/
def covered (ws : List Window) (span bitn : Nat) : Nat → Nat → Nat → Bool
  | 0, pos, stop => decide (stop ≤ pos)
  | fuel + 1, pos, stop =>
    if stop ≤ pos then true
    else
      match ws.find? (fun w => bit w.spans span && bit w.rights bitn && decide (w.base ≤ pos ∧ pos < w.base + w.len)) with
      | some w => covered ws span bitn fuel (w.base + w.len) stop
      | none => false

/-- A session's windows admit an access. -/
def Session.admits (x : Session) (a : Access) : Bool :=
  (bitsOf 4 a.spans).all (fun k => covered x.windows k (if a.write then 1 else 0) (x.windows.length + 1) a.base (a.base + a.len))

/-- The protection that a packet runs under: its session's, as it was at the packet's dispatch (12 R414, R415). -/
def State.rights (s : State) (p : Packet) : Option Session :=
  match s.entry p.seq with
  | some e => if decide (e.disp = 0) then s.session p.session else e.rights
  | none => s.session p.session

/-- The checks of R414 against the protection in force at dispatch: 0, or the status of the first that fails. -/
def State.protCheck (s : State) (d : OpDef) (p : Packet) (as : List Access) : Nat :=
  match s.rights p with
  | none => St.sessionClosed
  | some x =>
    if !bit x.mask (p.opcode / 256) then St.protGroup
    else if !bit d.cls x.cls then St.protClass
    else if d.prot s p ≠ 0 then d.prot s p
    else if p.session = 0 || as.all x.admits then 0
    else St.protWindow

/-- A refusal by protection: PROT_DENIED at most once per session per second (12 R414). -/
def State.denied (s : State) (p : Packet) (status : Nat) : State :=
  match s.session p.session with
  | none => s
  | some x =>
    if (x.denied.map (fun t => decide (t + 250_000_000 ≤ s.now))).getD true then
      (s.setSession p.session (some { x with denied := some s.now })).raiseLead Ev.protDenied [p.session, p.opcode, status]
    else s

/-! ## Reserved bits (13 R431) -/

/-- The reserved bits of the parameter dwords are zero. -/
def rsvdOk (named : List Nat) (p : Packet) : Bool :=
  (List.range 14).all (fun i => decide (p.dw (i + 2) &&& (named.getD i 0) = p.dw (i + 2)))

/-! ## Memory writes in flight (03 R106, R107) -/

/-- Memory writes not yet landed everywhere: dispatch number, session and span mask. They are the writes in flight, and
the MEM.WRITE and MEM.COMPRESS packets still executing. -/
def State.openWrites (s : State) : List (Nat × Nat × Nat) :=
  s.stores.inFlight.map (fun w => (w.disp, w.session, maskOf 4 (fun k => w.twins.any (fun t => t.twin == k))))
    ++ (s.qen.store.filter (fun e => decide (e.st = .running) && (e.p.opcode == 0x0201 || e.p.opcode == 0x0204))).map
      (fun e => (e.disp, e.session, e.p.f 2 3 0))

/-- Has every write landed that a packet waits for: dispatched before it, on the spans of a mask; MEM.FENCE without
GLOBAL counts its own session alone (03 R106, R107)? -/
def State.landed (s : State) (p : Packet) (spans disp : Nat) : Bool :=
  let own := p.opcode == 0x0203 && !p.global
  s.openWrites.all (fun w =>
    !(decide (w.1 < disp) && decide (w.2.2 &&& spans ≠ 0) && (!own || w.2.1 == p.session)))

/-! ## Carrying out -/

/-- The dispatch number of a packet. -/
def State.dispOf (s : State) (seq : Nat) : Nat := ((s.entry seq).map (·.disp)).getD 0

/-- With the host data at hand: the windows of what the data names, the wait for earlier writes, the effect. -/
def OpDef.proceed (d : OpDef) (s : State) (p : Packet) (data : List Byte) : State :=
  let st := s.protCheck d p (d.access s p data)
  if st ≠ 0 then ((s.freeFences p.seq).done p.seq st).denied p st
  else
    let b := d.bind s p data
    let s := b.2
    let w := d.waits s p data
    if b.1.1 ≠ 0 then (s.freeFences p.seq).complete p.seq b.1.1 b.1.2.1 b.1.2.2
    else if w ≠ 0 && !s.landed p w (s.dispOf p.seq) then s.run p.seq (.landed w (s.dispOf p.seq) data)
    else d.act s p data

/-- A packet placed in the store as RUNNING with the next dispatch number (12 R404). -/
def State.place (s : State) (p : Packet) : State :=
  let e : StoreEntry :=
    { p := p, session := p.session, st := .running, wait := .work, disp := s.qen.nextDisp, status := 0, r0 := 0, r1 := 0,
      decided := 0, counted := false, rights := s.session p.session }
  let s1 := { s with qen := { s.qen with nextDisp := s.qen.nextDisp + 1 } }
  match s.entry p.seq with
  | none => s1.setStore (s.qen.store ++ [e])
  | some _ => s1.updEntry p.seq (fun x => { x with st := .running, wait := .work, disp := s.qen.nextDisp, rights := s.session p.session })

/-- A packet is past dispatch: RUNNING, PARKED or DONE (12 R404). -/
def State.begun (s : State) (seq : Nat) : Bool := ((s.entry seq).map (fun e => decide (e.st ≠ .queued))).getD false

/-- The dispatch of a packet placed in the store: the checks of R414, then reserved bits, then the opcode's own; then its
host buffer is read, or it proceeds (13 R435). -/
def OpDef.start (d : OpDef) (s : State) (p : Packet) : State :=
  let st := s.protCheck d p (d.access s p [])
  if st ≠ 0 then (s.done p.seq st).denied p st
  else if !rsvdOk d.named p then s.done p.seq St.rsvdSet
  else
    let c := d.check s p
    if c.1 ≠ St.ok then s.complete p.seq c.1 c.2.1 c.2.2
    else
      let s := d.hold s p
      match d.read s p with
      | some (a, n) => s.run p.seq (.dma a n)
      | none => d.proceed s p []

/-- The dispatch of a packet; one already dispatched is not dispatched again (12 R404; log 3). -/
def OpDef.dispatch (d : OpDef) (s : State) (p : Packet) : State := if s.begun p.seq then s else d.start (s.place p) p

/-- The host data of a packet arrives, or its read fails: the packet completes with ST_HOST_DMA and its queue stops with
QUEUE_FAULT, cause FETCH (12 R399). -/
def OpDef.hostData (d : OpDef) (s : State) (p : Packet) (data : Option (List Byte)) : State :=
  match data with
  | some bs => d.proceed s p bs
  | none =>
    (((s.freeFences p.seq).done p.seq St.hostDma).updPair p.q (fun x => { x with fault := true, stopped := true })).raiseLead Ev.queueFault [p.q, 2]

/-! ## Bytes of host tables -/

/-- A little-endian field of n bytes at offset o. -/
def fld (bs : List Byte) (o n : Nat) : Nat := leAt bs o n
/-- A signed little-endian field of n bytes. -/
def fldS (bs : List Byte) (o n : Nat) : Int := sext (8 * n) (leAt bs o n)
/-- Entries of n bytes each. -/
def chunks (n : Nat) (bs : List Byte) : Nat → List (List Byte)
  | 0 => []
  | k + 1 => bs.take n :: chunks n (bs.drop n) k

end Sys2Proof.Machine
end

