-- ==== Sys2Proof/Machine/Calendar.lean ====
section
/-! DEFINITION. The calendar, its discipline, local time, dates and shifts (05 R165 to R176, R196), with MARK.CLOCK. -/

namespace Sys2Proof.Machine

/-! ## Crystal periods (05 R165, R168) -/

/-- Crystal periods in a second. -/
def crystal : Nat := 32768
/-- Ticks in a second (01 R40). -/
def ticksPerSec : Nat := 250_000_000

/-- Crystal periods between two ticks, at the crystal's nominal rate; negative when the first lies later. -/
def periods (a b : Nat) : Int := if a ≤ b then ((b - a) * crystal / ticksPerSec : Nat) else -(((a - b) * crystal / ticksPerSec : Nat) : Int)

/-- Periods that a slew has added since its base tick by a tick, at a rate in ppm (05 R170). -/
def slewDone (ppm : Nat) (slew : Option Slew) (t : Nat) : Int :=
  match slew with
  | none => 0
  | some w =>
    let n := min w.left.natAbs ((t - w.since) * crystal * ppm / (ticksPerSec * 1_000_000))
    if w.left < 0 then -(n : Int) else n

/-- A slew with a tick as its base: what is left of it then. -/
def Slew.rebase (w : Slew) (ppm t : Nat) : Slew := { w with left := w.left - slewDone ppm (some w) t, since := t }
/-- A slew that starts. -/
def Slew.start (d : Int) (t : Nat) : Slew := { delta := d, left := d, since := t }

/-- The calendar count in crystal periods at a tick, from a stamp: second, sub-second count and tick. -/
def countFrom (ppm : Nat) (slew : Option Slew) (st : Nat × Nat × Nat) (t : Nat) : Int :=
  (st.1 * crystal + st.2.1 : Nat) + periods st.2.2 t + (slewDone ppm slew t - slewDone ppm slew st.2.2)

/-- The master calendar (05 R166). -/
def State.master (s : State) : Cal := vget s.marks.cal s.lead.tile Cal.reset
/-- The package with a calendar changed. -/
def State.updCal (s : State) (k : Nat) (f : Cal → Cal) : State :=
  { s with marks := { s.marks with cal := vupd s.marks.cal k Cal.reset f } }
/-- The package with its marks changed. -/
def State.updMarks (s : State) (f : Marks → Marks) : State := { s with marks := f s.marks }

/-- The sub-second count of a calendar at a tick: at most one below a second, until it rolls over (05 R165). -/
def State.subAt (s : State) (k t : Nat) : Nat :=
  let c := vget s.marks.cal k Cal.reset
  (clampI (countFrom s.marks.slewPpm c.slew (0, c.sub, c.tau) t) 0 (crystal - 1)).toNat

/-- A calendar's second and sub-second count at a tick as its own crystal runs on (05 R165, R166). -/
def State.calAt (s : State) (k t : Nat) : Nat × Nat :=
  let c := vget s.marks.cal k Cal.reset
  let n := (countFrom s.marks.slewPpm c.slew (c.sec, c.sub, c.tau) t).toNat
  (n / crystal % 2 ^ 40, n % crystal)
/-- What a calendar shows at a tick: the master's second turns at its rollover, the other one's by itself (05 R166, R168). -/
def State.calView (s : State) (k t : Nat) : Nat × Nat :=
  if k = s.lead.tile then (s.master.sec, s.subAt k t) else s.calAt k t
/-- A calendar with its counts brought up to now. -/
def State.calSettle (s : State) (k : Nat) : State :=
  let v := s.calAt k s.now
  s.updCal k (fun c => { c with sec := v.1, sub := v.2, tau := s.now, slew := c.slew.map (·.rebase s.marks.slewPpm s.now) })

/-- The newest stamp at or before a tick (05 R168). -/
def State.stampAt (s : State) (t : Nat) : Option Stamp := s.marks.taus.find? (fun x => decide (x.tick ≤ t))

/-- The master's count at a tick: from the calendar's own base, or for a tick before that from the newest stamp at or
before it, else from the oldest (05 R169). -/
def State.calCount (s : State) (t : Nat) : Int :=
  let c := s.master
  let st := if c.tau ≤ t then none else match s.stampAt t with
    | some x => some x
    | none => s.marks.taus.getLast?
  countFrom s.marks.slewPpm c.slew ((st.map (fun x => (x.sec, x.sub, x.tick))).getD (c.sec, c.sub, c.tau)) t

/-- The calendar second at a tick: that of the last rollover at or before it, which is the greatest S unless the calendar has
stepped back since (05 R168; log 126). -/
def State.calSecond (s : State) (t : Nat) : Nat := ((s.stampAt t).map (·.sec)).getD s.master.sec

/-! ## Corrections (05 R167, R169, R170) -/

/-- What R170 does with a correction: 0 step, 1 slew, 2 slew with CAL_STEP_NEEDED, 3 refuse. -/
def State.calDecide (s : State) (d : Int) (wyrel force : Bool) : Nat :=
  if !s.master.valid || !s.armed then 0
  else if d.natAbs ≤ s.itemN Pid.calStepMax * crystal then 1
  else if wyrel then 2
  else if force then 0
  else 3

/-- A correction would put the calendar below count 0 (05 R170). -/
def State.calBelow (s : State) (d : Int) : Bool := decide (((s.master.sec + 1) * crystal : Nat) + d < 0)

/-- The calendar with its base at this tick and nothing of a correction left to apply, but for what is given (05 R170). -/
def State.calReplace (s : State) (step : Option Int) (slew : Option Slew) : State :=
  let k := s.lead.tile
  s.updCal k (fun c => { c with sub := s.subAt k s.now, tau := s.now, step := step, slew := slew })

/-- A correction applied: it replaces every part of the previous one that has not been applied (05 R170). -/
def State.calCorrect (s : State) (d : Int) (wyrel force : Bool) : State :=
  let slewing := (s.calReplace none (some (Slew.start d s.now)))
  match s.calDecide d wyrel force with
  | 0 => s.calReplace (some d) none
  | 1 => slewing.raiseLead Ev.calSlewing [evInt d]
  | 2 => (slewing.raiseLead Ev.calStepNeeded [evInt d]).raiseLead Ev.calSlewing [evInt d]
  | _ => s

/-! ## Local time and daylight saving (05 R171 to R173) -/

/-- Number of the day from 2000-01-01 of a date of the Gregorian calendar (05 R174). -/
def daysTo (year month day : Nat) : Int :=
  let y : Int := if month ≤ 2 then (year : Int) - 1 else year
  let era := y.fdiv 400
  let yoe := y - era * 400
  let mp : Int := if month > 2 then (month : Int) - 3 else (month : Int) + 9
  let doy := (153 * mp + 2) / 5 + day - 1
  let doe := yoe * 365 + yoe / 4 - yoe / 100 + doy
  era * 146097 + doe - 730425

/-- A date as R174 computes it. -/
structure Date where
  year : Int
  month : Nat
  day : Nat
  wday : Nat
  ordinal : Nat
  deriving DecidableEq, Repr

/-- The date of a local day number (05 R174). -/
def dateOf (z : Int) : Date :=
  let n := z + 730425
  let era := n.fdiv 146097
  let doe := n - era * 146097
  let yoe := (doe - doe / 1460 + doe / 36524 - doe / 146096) / 365
  let doy := doe - (365 * yoe + yoe / 4 - yoe / 100)
  let mp := (5 * doy + 2) / 153
  let day := doy - (153 * mp + 2) / 5 + 1
  let month := if mp < 10 then mp + 3 else mp - 9
  let year := yoe + era * 400 + (if month ≤ 2 then 1 else 0)
  { year := year, month := month.toNat, day := day.toNat, wday := ((z + 5) % 7).toNat + 1,
    ordinal := (z - daysTo year.toNat 1 1 + 1).toNat }

/-- ISO year and week of a local day number (05 R174). -/
def isoOf (z : Int) : Int × Nat :=
  let th := dateOf (z - (dateOf z).wday + 4)
  (th.year, (th.ordinal - 1) / 7 + 1)

/-- Length of a month (05 R174). -/
def monthLen (year month : Nat) : Nat :=
  if month = 12 then 31 else (daysTo year (month + 1) 1 - daysTo year month 1).toNat

/-- Day number of a weekday of a month: the n-th, or the last for n = 5 (05 R172). -/
def nthDay (year month week wday : Nat) : Int :=
  let first := daysTo year month 1
  let d0 : Int := first + (((wday : Int) - ((first + 5) % 7 + 1)) % 7)
  if week ≤ 4 then d0 + 7 * ((week : Int) - 1)
  else
    let last := first + monthLen year month - 1
    d0 + 7 * ((last - d0) / 7)

/-- Start and end instants of a rule in a year under a standard offset in minutes (05 R173). -/
def DstRule.instants (r : DstRule) (year : Nat) (offset : Int) : Int × Int :=
  let b := if r.basis = 1 then 60 * offset else 0
  (nthDay year r.sm r.sw r.sd * 86400 + r.smin * 60 - b, nthDay year r.em r.ew r.ed * 86400 + r.emin * 60 - b)

/-- dst(S) in minutes (05 R173). -/
def dstOf (rules : List DstRule) (offset : Int) (sec : Nat) : Nat :=
  let y := (dateOf (((sec : Int) + 60 * offset).fdiv 86400)).year.toNat
  match rules.find? (fun r => decide (r.fromYear ≤ y ∧ y ≤ r.toYear)) with
  | none => 0
  | some r =>
    let (a, b) := r.instants y offset
    let on := if a < b then decide (a ≤ sec ∧ (sec : Int) < b) else decide ((sec : Int) < b ∨ a ≤ sec)
    if on then r.save else 0

/-- CAL_OFFSET in force. -/
def State.calOffset (s : State) : Int := s.item Pid.calOffset
/-- The local second count of a calendar second (05 R171). -/
def State.localSec (s : State) (sec : Nat) : Int := (sec : Int) + 60 * (s.calOffset + dstOf s.marks.rules s.calOffset sec)

/-- A daylight rule from its 16 bytes (05 R172). -/
def DstRule.ofBytes (b : List Nat) : DstRule :=
  let g := fun (i : Nat) => b.getD i 0
  { fromYear := g 0 + 256 * g 1, toYear := g 2 + 256 * g 3, save := g 4, basis := g 5, sm := g 6, sw := g 7, sd := g 8,
    em := g 9, ew := g 10, ed := g 11, smin := g 12 + 256 * g 13, emin := g 14 + 256 * g 15 }

/-- A rule's fields are in range, and its start and end never fall on one instant (05 R172). -/
def DstRule.ok (r : DstRule) : Bool :=
  decide (2000 ≤ r.fromYear ∧ r.fromYear ≤ 2199 ∧ r.fromYear ≤ r.toYear ∧ r.toYear ≤ 2199 ∧ 1 ≤ r.save ∧ r.save ≤ 180 ∧ r.basis ≤ 1
    ∧ 1 ≤ r.sm ∧ r.sm ≤ 12 ∧ 1 ≤ r.sw ∧ r.sw ≤ 5 ∧ 1 ≤ r.sd ∧ r.sd ≤ 7
    ∧ 1 ≤ r.em ∧ r.em ≤ 12 ∧ 1 ≤ r.ew ∧ r.ew ≤ 5 ∧ 1 ≤ r.ed ∧ r.ed ≤ 7 ∧ r.smin ≤ 1439 ∧ r.emin ≤ 1439) &&
  (List.range (r.toYear + 1 - r.fromYear)).all (fun i => let p := r.instants (r.fromYear + i) 0; decide (p.1 ≠ p.2))

/-- Year ranges do not overlap (05 R172). -/
def rulesApart : List DstRule → Bool
  | [] => true
  | r :: rs => rs.all (fun q => decide (r.toYear < q.fromYear ∨ q.toYear < r.fromYear)) && rulesApart rs

/-! ## Shifts (05 R176) -/

/-- The entry active at a second of the day by the table alone. -/
def shiftAt (shifts : List (Nat × List Nat)) (q : Nat) : Option Nat :=
  match shifts.length with
  | 0 => none
  | n + 1 => some (((List.range (n + 1)).filter (fun i => decide ((shifts.getD i (0, [])).1 ≤ q / 60))).foldl (fun _ i => i) n)

/-- The second of the day of a local second. -/
def dayOf (l : Int) : Nat := (l % 86400).toNat

/-- Is the start of an entry passed between two wall-clock seconds? -/
def startPassed (start : Nat) (a b : Int) : Bool :=
  decide ((a - 60 * start).fdiv 86400 < (b - 60 * start).fdiv 86400)

/-- The active shift at a wall second, after the one at the wall second before: a step back keeps it until the start of
the next entry is passed (05 R176). -/
def shiftNext (shifts : List (Nat × List Nat)) (active : Option Nat) (wall : Option Nat) (l : Int) : Option Nat :=
  let c := shiftAt shifts (dayOf l)
  match active, wall with
  | some i, some w =>
    let w : Int := w
    if l < w then some i
    else if shiftAt shifts (dayOf w) = some i then c
    else if startPassed (shifts.getD ((i + 1) % shifts.length) (0, [])).1 w l then c
    else some i
  | _, _ => c

/-- The active shift brought up to a wall second. -/
def Marks.shiftTo (m : Marks) (l : Int) : Marks := { m with active := shiftNext m.shifts m.active m.wall l, wall := some l.toNat }
/-- The code of the active shift. -/
def Marks.shiftCode (m : Marks) : List Nat := ((m.active.bind (fun i => m.shifts[i]?)).map (·.2)).getD []

/-! ## Rollover and invalidity (05 R166 to R170, R173) -/

/-- Items of the calendar come into force at a rollover: a slew goes on at the new rate from here, and SRC_OK is cleared and the
wait for announcements starts when CAL_SRC takes a new value (05 R169, R196, R197). -/
def State.calSettings (s : State) : State :=
  let src := s.itemN Pid.calSrc
  let same := decide (src = s.marks.src)
  let ppm := s.itemN Pid.calSlew
  let rebase := fun (k : Nat) (c : Cal) =>
    if ppm = s.marks.slewPpm then c else { c with sub := s.subAt k s.now, tau := s.now, slew := c.slew.map (·.rebase s.marks.slewPpm s.now) }
  let s1 := [0, 1].foldl (fun s k => s.updCal k (fun c => { rebase k c with srcOk := c.srcOk && same })) s
  s1.updMarks (fun m => { m with
    src := src, slewPpm := ppm, hold := s.itemN Pid.calHold
    heard := if same then m.heard else s.now, lost := m.lost && same })

/-- The calendar master's count at the rollover, with a step that waited applied (05 R168, R170). -/
def State.rollover (s : State) : State :=
  let k := s.lead.tile
  let c := s.master
  let n : Int := ((c.sec + 1) * crystal : Nat) + c.step.getD 0
  let sec := (n / crystal).toNat % 2 ^ 40
  let sub := (n % crystal).toNat
  let c' : Cal := { c with sec := sec, sub := sub, tau := s.now, valid := c.valid || c.step.isSome, step := none }
  let stamp : Stamp := { sec := sec, sub := sub, tick := s.now, active := none, wall := none }
  let s2 := (s.updCal k (fun _ => c')).updMarks (fun m => { m with taus := (stamp :: m.taus).take 64 })
  match c.step with
  | some d => s2.raiseLead Ev.calStepped [evInt d]
  | none => s2

/-- While T0 and T1 both run, the standby's calendar loads the master's counts (05 R166). -/
def State.calMirror (s : State) : State :=
  let k := 1 - s.lead.tile
  if (s.tileN k).on 1 && vget s.linkUp 0 false then
    let c := s.master
    s.updCal k (fun d => { d with sec := c.sec, sub := c.sub, tau := c.tau, valid := c.valid, step := none, slew := none })
  else s

/-- DST_CHANGE at the rollover at which dst changes, and the active shift, kept with the second's stamp (05 R173, R176). -/
def State.calLocal (s : State) : State :=
  let d := dstOf s.marks.rules s.calOffset s.master.sec
  let s1 := s.updMarks (fun m =>
    let m1 := m.shiftTo (s.localSec s.master.sec)
    { m1 with dst := d, taus := match m.taus with
      | x :: r => { x with active := m1.active, wall := m1.wall } :: r
      | [] => [] })
  if d ≠ s.marks.dst then s1.raiseLead Ev.dstChange [d] else s1

/-- The code of the shift active at a tick under the tables in force: after the one of the tick's second, or the last known (05
R176, R177). -/
def State.shiftOf (s : State) (t : Nat) (wall : Int) : List Nat :=
  let m := s.marks
  let from_ := match s.stampAt t with
    | some x => (x.active, x.wall)
    | none => (m.active, m.wall)
  ((Marks.shiftTo { m with active := from_.1, wall := from_.2 } wall)).shiftCode

/-- The calendar master rolls over a second (05 R168). -/
def State.calRollover (s : State) : State := (s.calSettings.rollover.calMirror).calLocal

/-- A calendar becomes invalid: it restarts at count 0 with its registers reset, and its tile's counter shadow is invalid with it
(05 R167, R184, R197). -/
def State.calInvalidate (s : State) (k : Nat) : State :=
  let s1 := (s.updCal k (fun _ => { Cal.reset with tau := s.now })).updMarks (fun m => { m with shadowOk := vset m.shadowOk k false })
  let s2 := if k = s.lead.tile then s1.updMarks (fun m => { m with taus := [], wall := none }) else s1
  s2.raiseLead Ev.calInvalid [k]

/-- No announcement for CAL_HOLD seconds under source 2, once for each absence (05 R169). -/
def State.calLost (s : State) : State :=
  if s.marks.src = 2 && !s.marks.lost && decide (s.marks.heard + s.marks.hold * ticksPerSec < s.now) then
    ((s.updMarks (fun m => { m with lost := true })).updCal s.lead.tile (fun c => { c with srcOk := false })).raiseLead
      Ev.calDisciplineLost [(s.marks.announced.map (·.1)).getD 0]
  else s

/-- A slew that has removed its whole correction ends (05 R170). -/
def State.calSlewed (s : State) : State :=
  let k := s.lead.tile
  match s.master.slew with
  | some w =>
    if slewDone s.marks.slewPpm (some w) s.now = w.left then
      (s.updCal k (fun c => { c with sub := s.subAt k s.now, tau := s.now, slew := none })).raiseLead Ev.calSlewing [evInt w.delta]
    else s
  | none => s

/-! ## MARK.CLOCK (05 R169, R170; 13 R447) -/

/-- The reference of a correction in crystal periods. -/
def clockRef (p : Packet) : Int := (p.da 3 * crystal + p.f 5 15 0 / 2 : Nat)
/-- The correction that a MARK.CLOCK carries: the reference less the calendar at the tick named. -/
def State.clockDelta (s : State) (p : Packet) : Int := clockRef p - s.calCount (p.ha 6)
/-- CORRECT. -/
def clockCorrect (p : Packet) : Bool := bit (p.dw 2) 0

/-- An OBSERVER may read the calendar, not correct it (13 R447). -/
def protMarkClock (s : State) (p : Packet) : Nat :=
  if clockCorrect p && decide (((s.session p.session).map (·.cls)).getD 0 = 3) then St.protClass else 0

/-- Checks of MARK.CLOCK. -/
def checkMarkClock (s : State) (p : Packet) : Nat × Nat × Nat :=
  let t := p.ha 6
  let far := decide (t + 64 * ticksPerSec < s.now ∨ s.now + 64 * ticksPerSec < t)
  let st :=
    if !clockCorrect p then St.ok
    else if s.marks.src ≠ 1 && s.master.valid then St.calSource
    else if far || s.calBelow (s.clockDelta p) then St.markArg
    else if s.calDecide (s.clockDelta p) false (bit (p.dw 2) 1) = 3 then St.calStep
    else St.ok
  (st, 0, 0)

/-- The 32-byte read-out (13 R447). -/
def State.clockRead (s : State) : List Byte :=
  leBytes 8 s.master.sec ++ leBytes 2 (s.subAt s.lead.tile s.now) ++ zeros 6 ++ leBytes 8 (((s.marks.taus.head?).map (·.tick)).getD s.master.tau) ++ leBytes 8 s.now

/-- MARK.CLOCK: the read-out, and the correction if any; under source 1 it makes SRC_OK 1 (05 R169, R170, R197). -/
def actMarkClock (s : State) (p : Packet) (_ : List Byte) : State :=
  let s1 := s.hostWrite (p.ha 8) s.clockRead
  let s2 := if clockCorrect p then
      (s1.calCorrect (s.clockDelta p) false (bit (p.dw 2) 1)).updCal s.lead.tile (fun c => { c with srcOk := c.srcOk || decide (s.marks.src = 1) })
    else s1
  s2.done p.seq St.ok

/-- MARK.CLOCK. -/
def opMarkClock : OpDef :=
  { code := 0x0501, cls := 11,
    named := [3, 0xFFFF_FFFF, 0xFF, 0xFFFF, 0xFFFF_FFFF, 0xFFFF_FFFF, 0xFFFF_FFFF, 0xFFFF_FFFF], prot := protMarkClock,
    access := noAccess, check := checkMarkClock, read := noRead, waits := noWaits, bind := noBind, act := actMarkClock }

/-! ## Meanings -/

/-- R169: MARK.CLOCK. -/
def execMarkClock (p : Packet) (s : State) : Out := .next (opMarkClock.dispatch s p)
/-- R169: announcements have failed for CAL_HOLD seconds. -/
def execCalDisciplineLost (s : State) : Out := .next s.calLost
/-- R167: a calendar becomes invalid. -/
def execCalInvalid (port : Fin 2) (s : State) : Out := .next (s.calInvalidate port.val)
/-- R170: a slew that has removed its whole correction ends. -/
def execCalSlewEnd (s : State) : Out := .next s.calSlewed

end Sys2Proof.Machine
end

