-- ==== Sys2Proof/Machine/Codec.lean ====
section
/-! DEFINITION. The strip codec: CRC-32C, the phrase dictionary, predictors, verification and the device's own encoder
(03 R110 to R121, R127). -/

namespace Sys2Proof.Machine

/-! ## CRC-32C (03 R119) -/

/-- One bit of the reflected Castagnoli division. -/
def crcBit (c : Nat) : Nat := if c % 2 = 1 then (c / 2) ^^^ 0x82F6_3B78 else c / 2
/-- Eight bits. -/
def crcByte (c : Nat) (b : Byte) : Nat :=
  crcBit (crcBit (crcBit (crcBit (crcBit (crcBit (crcBit (crcBit (c ^^^ b.toNat))))))))
/-- CRC-32C of bytes. -/
def crc32c (bs : List Byte) : Nat := (bs.foldl crcByte 0xFFFF_FFFF) ^^^ 0xFFFF_FFFF

/-! ## Descriptors (03 R110) -/

/-- A surface descriptor. -/
structure Desc where
  kind : Nat
  width : Nat
  height : Nat
  depth : Nat
  sheight : Nat
  scount : Nat
  stable : Nat
  deriving DecidableEq, Repr

/-- Lines of strip i (03 R112). -/
def Desc.lines (d : Desc) (i : Nat) : Nat := min d.height ((i + 1) * (d.sheight + 1)) - i * (d.sheight + 1)
/-- Raw length of strip i (03 R112). -/
def Desc.rawLen (d : Desc) (i : Nat) : Nat := d.lines i * d.depth * d.width
/-- The longest raw strip. -/
def Desc.maxRaw (d : Desc) : Nat := min d.height (d.sheight + 1) * d.depth * d.width
/-- The strip that holds a line of the surface. -/
def Desc.stripOf (d : Desc) (line : Nat) : Nat := line / (d.sheight + 1)

/-- The descriptor in 64 bytes, if its tags, ranges, SCOUNT, alignment and reserved bytes hold (03 R110, R113). -/
def descOf (b : List Byte) : Option Desc :=
  let d : Desc :=
    { kind := leAt b 3 1, width := leAt b 4 4, height := leAt b 8 4, depth := leAt b 12 2, sheight := leAt b 14 1,
      scount := leAt b 16 4, stable := leAt b 24 8 }
  if leAt b 0 2 = 0x4447 ∧ leAt b 2 1 = 1 ∧ d.kind ≤ 1 ∧ 1 ≤ d.width ∧ d.width ≤ 65536 ∧ 1 ≤ d.height ∧ 1 ≤ d.depth ∧
      d.depth ≤ (if d.kind = 0 then 16 else 2048) ∧ leAt b 15 1 = 0 ∧ d.scount = ceilDiv d.height (d.sheight + 1) ∧
      leAt b 20 4 = 0 ∧ d.stable % 16 = 0 ∧ d.stable < 2 ^ 40 ∧ leAt b 32 32 = 0 ∧ d.maxRaw ≤ 2 ^ 22 then some d
  else none

/-- The 64 bytes of a descriptor (03 R110). -/
def Desc.bytes (d : Desc) : List Byte :=
  leBytes 2 0x4447 ++ [1] ++ leBytes 1 d.kind ++ leBytes 4 d.width ++ leBytes 4 d.height ++ leBytes 2 d.depth
    ++ leBytes 1 d.sheight ++ [0] ++ leBytes 4 d.scount ++ leBytes 4 0 ++ leBytes 8 d.stable ++ List.replicate 32 0

/-! ## Predictors (03 R115) -/

/-- The predictor code of the byte at index i of a strip. -/
def predCode (d : Desc) (pred i : Nat) : Nat :=
  if d.kind = 0 then bits pred (2 * (i / d.width % d.depth) + 1) (2 * (i / d.width % d.depth)) else pred % 4

/-- The predicted value of the byte at index i, from the raw bytes before it. -/
def predVal (d : Desc) (pred i : Nat) (raw : Array Byte) : Byte :=
  let row := d.depth * d.width
  match predCode d pred i with
  | 1 =>
    if d.kind = 0 then (if i % d.width = 0 then 0 else raw.getD (i - 1) 0)
    else (if i / d.depth % d.width = 0 then 0 else raw.getD (i - d.depth) 0)
  | 2 => if i < row then 0 else raw.getD (i - row) 0
  | _ => 0

/-- Raw bytes from residuals. -/
def unpredict (d : Desc) (pred : Nat) (res : List Byte) : List Byte :=
  (res.foldl (fun (a : Array Byte) r => a.push (r + predVal d pred a.size a)) #[]).toList

/-- Residuals from raw bytes. -/
def predict (d : Desc) (pred : Nat) (raw : List Byte) : List Byte :=
  (raw.foldl (fun (a : Array Byte × List Byte) b => (a.1.push b, (b - predVal d pred a.1.size a.1) :: a.2)) (#[], [])).2.reverse

/-! ## The code stream (03 R116 to R118, R120) -/

/-- Bits needed for a number. -/
def bitLen (n : Nat) : Nat := ((List.range 17).find? (fun k => decide (n < 2 ^ k))).getD 17

/-- The decoder between two codes: the dictionary entries from 0x102 on, the previous string, the output reversed with
its length, and the bit position. -/
structure DecSt where
  dict : Array (List Byte)
  prev : Option (List Byte)
  out : List Byte
  len : Nat
  pos : Nat

/-- How a stream decoded: a cause of R121, or the output and the bit position after END. -/
inductive DecEnd where
  | fail (cause : Nat)
  | ok (out : List Byte) (pos : Nat)

/-- The decoder of R116 over a stream of nbits bits held in a number, with the raw length as its bound. -/
def lzwDecode (stream nbits rawLen : Nat) : Nat → DecSt → DecEnd
  | 0, _ => .fail 3
  | fuel + 1, st =>
    let next := 0x102 + st.dict.size
    let width := min 15 (max 9 (bitLen (next + 1)))
    if st.pos + width > nbits then .fail 3
    else
      let c := (stream >>> st.pos) % 2 ^ width
      let pos := st.pos + width
      if c = 0x101 then .ok st.out.reverse pos
      else if c = 0x100 then lzwDecode stream nbits rawLen fuel { st with dict := #[], prev := none, pos := pos }
      else
        let s? : Option (List Byte) :=
          match st.prev with
          | none => if c > 0xFF then none else some [BitVec.ofNat 8 c]
          | some p =>
            if c ≤ 0xFF then some [BitVec.ofNat 8 c]
            else if c < next then some (st.dict.getD (c - 0x102) [])
            else if c = next ∧ next < 0x8000 then some (p ++ p.take 1)
            else none
        match s? with
        | none => .fail 3
        | some s =>
          if st.len + s.length > rawLen then .fail 2
          else
            let dict := match st.prev with
              | some p => if next < 0x8000 then st.dict.push (p ++ s.take 1) else st.dict
              | none => st.dict
            lzwDecode stream nbits rawLen fuel { dict := dict, prev := some s, out := s.reverse ++ st.out, len := st.len + s.length, pos := pos }

/-- The encoder between two bytes: codes of strings by 256 × code + byte, the next entry, the number of the code in its
generation, the bits written and their count, and the code of the string matched so far. -/
structure EncSt where
  dict : List (Nat × Nat)
  next : Nat
  k : Nat
  acc : Nat
  pos : Nat
  cur : Option Nat

/-- A code written in the width of R117. -/
def EncSt.emit (e : EncSt) (code : Nat) : EncSt :=
  { e with acc := e.acc + code * 2 ^ e.pos, pos := e.pos + min 15 (bitLen (0x102 + e.k)), k := e.k + 1 }

/-- One residual taken by the greedy encoder: RESET follows the code that fills entry 0x7FFF (03 R120). -/
def EncSt.byte (e : EncSt) (b : Byte) : EncSt :=
  match e.cur with
  | none => { e with cur := some b.toNat }
  | some w =>
    match e.dict.lookup (256 * w + b.toNat) with
    | some c => { e with cur := some c }
    | none =>
      let e1 := e.emit w
      let e2 := { e1 with dict := (256 * w + b.toNat, e.next) :: e.dict, next := e.next + 1, cur := some b.toNat }
      if e.next = 0x7FFF then { e2.emit 0x100 with dict := [], next := 0x102, k := 0 } else e2

/-- The code stream of residuals, padded to a byte boundary (03 R118). -/
def lzwEncode (res : List Byte) : List Byte :=
  let e := res.foldl EncSt.byte { dict := [], next := 0x102, k := 0, acc := 0, pos := 0, cur := none }
  let e := match e.cur with
    | some w => e.emit w
    | none => e
  let e := e.emit 0x101
  leBytes (ceilDiv e.pos 8) e.acc

/-! ## Strips (03 R114, R118, R121) -/

/-- The header of strip i (03 R114). -/
def stripHeader (d : Desc) (pred i : Nat) : List Byte :=
  leBytes 2 0x5347 ++ [1] ++ leBytes 1 d.kind ++ leBytes 4 (i * (d.sheight + 1)) ++ leBytes 2 (d.lines i)
    ++ leBytes 2 d.depth ++ leBytes 4 d.width ++ leBytes 4 pred

/-- The predictor map of a strip keeps R114: no reserved code, no bits of planes the surface lacks. -/
def predOk (d : Desc) (pred : Nat) : Bool :=
  if d.kind = 0 then
    decide (pred < 2 ^ (2 * d.depth)) && (List.range d.depth).all (fun p => decide (bits pred (2 * p + 1) (2 * p) ≠ 3))
  else decide (pred < 3)

/-- Verification of strip i: cause 0 with the raw bytes, or the cause of a check of R121 that fails. ecc says that a read met
an uncorrectable error. Where several fail, ECC is reported before the others, and those in the order of the stream (DESIGN
CHOICE, log 124). -/
def verifyStrip (d : Desc) (i : Nat) (bs : List Byte) (ecc : Bool) : Nat × List Byte :=
  let pred := leAt bs 16 4
  if ecc then (6, [])
  else if !(bs.take 16 == (stripHeader d pred i).take 16) || !predOk d pred then (1, [])
  else if bs.length < 31 then (2, [])
  else
    let n := bs.length - 28
    let stream := leVal ((bs.drop 20).take n)
    let raw := leAt bs (20 + n) 4
    match lzwDecode stream (8 * n) (d.rawLen i) (8 * n / 9 + 1) { dict := #[], prev := none, out := [], len := 0, pos := 0 } with
    | .fail c => (c, [])
    | .ok res pos =>
      if ceilDiv pos 8 ≠ n ∨ res.length ≠ raw ∨ raw ≠ d.rawLen i then (2, [])
      else if stream >>> pos ≠ 0 then (4, [])
      else
        let out := unpredict d pred res
        if leAt bs (24 + n) 4 = crc32c out then (0, out) else (5, [])

/-- The stored form of strip i (03 R114 to R118). -/
def encodeStrip (d : Desc) (pred i : Nat) (raw : List Byte) : List Byte :=
  stripHeader d pred i ++ lzwEncode (predict d pred raw) ++ leBytes 4 raw.length ++ leBytes 4 (crc32c raw)

/-- An address raised to a multiple of 64. -/
def up64 (a : Nat) : Nat := (a + 63) / 64 * 64

/-- Strips laid out from an offset on: the table entries and the bytes, with zero padding before each strip (03 R127). -/
def layStrips (d : Desc) (pred dest : Nat) : Nat → Nat → Nat → List Byte → List Byte × List Byte
  | 0, _, _, _ => ([], [])
  | k + 1, i, off, raw =>
    let n := d.rawLen i
    let st := encodeStrip d pred i (raw.take n)
    let o := up64 (dest + off) - dest
    let (tab, body) := layStrips d pred dest k (i + 1) (o + st.length) (raw.drop n)
    (leBytes 8 (dest + o) ++ leBytes 4 st.length ++ leBytes 4 0 ++ tab, List.replicate (o - off) 0 ++ st ++ body)

/-- The whole output of a compression: descriptor, strip table, strips (03 R127). -/
def compressOut (kind width height depth sheight pred dest : Nat) (raw : List Byte) : List Byte :=
  let d : Desc :=
    { kind := kind, width := width, height := height, depth := depth, sheight := sheight,
      scount := ceilDiv height (sheight + 1), stable := dest + 64 }
  let (tab, body) := layStrips d pred dest d.scount 0 (64 + 16 * d.scount) raw
  d.bytes ++ tab ++ body

end Sys2Proof.Machine
end

