-- ==== Sys2Proof/Machine/JobMem.lean ====
section
/-! DEFINITION. Job memory: addresses, loads and their landing, live ranges, surfaces, and the MEM group (03 R101 to
R113, R127 to R131, R616). -/

namespace Sys2Proof.Machine

/-! ## Addresses (03 R101, R102) -/

/-- Usable bytes of a tile: seven eighths of the DRAM fitted (03 R101). -/
def State.usable (s : State) : Nat := s.stores.gib * 2 ^ 30 * 7 / 8
/-- JOBMEM_TOP (03 R102). -/
def State.jobTop (s : State) : Nat := s.usable - s.job.rsv * 2 ^ 20
/-- Does a block lie in job memory (03 R102)? -/
def State.inJob (s : State) (a n : Nat) : Bool := decide (a + n ≤ s.jobTop ∧ a + n ≤ 2 ^ 40)

/-- A tile takes job memory: it has neither withdrawn nor is off. -/
def TileState.takes (x : TileState) : Bool := decide (x.twin ≠ .withdrawn ∧ x.twin ≠ .off)
/-- A tile takes its partner's copy: it is in RESYNC and has no start line yet (11 R367). -/
def TileState.copying (x : TileState) : Bool := decide (x.twin = .resync ∧ x.startLine = none)
/-- The tile of a span that a load reaches first, and from which the span's copy is read: the first, or the second when the
first has withdrawn or still takes the second's copy (03 R104, 11 R367). -/
def State.spanTile (s : State) (k : Nat) : Nat :=
  if (s.tileN (2 * k)).takes && !(s.tileN (2 * k)).copying then 2 * k else 2 * k + 1
/-- Bytes of a span's job memory. -/
def State.spanRead (s : State) (k a n : Nat) : List Byte := Mem.read (s.tileN (s.spanTile k)).mem a n
/-- A read of a tile's memory meets an uncorrectable word (15 R483). -/
def TileState.uncorr (x : TileState) (a n : Nat) : Bool := x.memc.poison.any (fun w => overlap a n w 8)
/-- The span mask of the whole part. -/
def State.allSpans (s : State) : Nat := 2 ^ s.nTwins - 1
/-- A span mask is not 0 and names only spans of the part (03 R131, 13 R432). -/
def State.spansOk (s : State) (m : Nat) : Bool := decide (m ≠ 0 ∧ m &&& s.allSpans = m)

/-- The first address at which two byte lists differ. -/
def firstDiff (a : Nat) : List Byte → List Byte → Option Nat
  | x :: xs, y :: ys => if x = y then firstDiff (a + 1) xs ys else some a
  | _, _ => none

/-- The first device address at which the copies of a block on the spans of a mask differ (03 R616). -/
def State.copyDiffer (s : State) (spans a n : Nat) : Option Nat :=
  match bitsOf 4 spans with
  | [] => none
  | k :: ks =>
    let b := s.spanRead k a n
    (ks.filterMap (fun j => firstDiff a b (s.spanRead j a n))).foldl (fun m x => some (match m with | none => x | some y => min x y)) none

/-- Completion with ST_COPY_DIFFER and the address in DA form (03 R616). -/
def State.doneDiffer (s : State) (seq a : Nat) : State := s.complete seq St.copyDiffer (a % 2 ^ 32) (a / 2 ^ 32)

/-! ## Live ranges (03 R109) -/

/-- Does a block overlap a live range of a span of a mask? -/
def State.liveHit (s : State) (spans a n : Nat) : Bool :=
  s.stores.live.any (fun r => bit spans r.span && overlap a n r.base r.len)

/-- The live ranges of a span, a surface or kernel set counting once. -/
def State.liveCount (s : State) (k : Nat) : Nat :=
  ((s.stores.live.filter (fun r => r.span == k)).foldl (fun ks r => addNew ks r.key) []).length

/-- Would further keys on the spans of a mask make more than 256 live ranges (03 R109)? -/
def State.liveFull (s : State) (spans : Nat) (keys : List Nat) : Bool :=
  (bitsOf 4 spans).any (fun k =>
    let new := (keys.filter (fun a => !s.stores.live.any (fun r => r.span == k && r.key == a))).foldl addNew []
    !new.isEmpty && decide (s.liveCount k + new.length > 256))

/-- A live range added on the spans of a mask by a packet. -/
def State.liveAdd (s : State) (spans key base len seq : Nat) : State :=
  { s with stores := { s.stores with
      live := s.stores.live ++ (bitsOf 4 spans).map (fun k => { span := k, base := base, len := len, key := key, seq := seq }) } }

/-- The live ranges that a packet held are dropped. -/
def State.liveDrop (s : State) (seq : Nat) : State :=
  { s with stores := { s.stores with live := s.stores.live.filter (fun r => r.seq != seq) } }

/-! ## Surfaces (03 R110 to R113) -/

/-- The descriptor of a surface on a span, if it and its strip table pass R113. -/
def State.surface (s : State) (k a : Nat) : Option Desc :=
  if a % 64 ≠ 0 || !s.inJob a 64 then none
  else
    match descOf (s.spanRead k a 64) with
    | none => none
    | some d =>
      if !s.inJob d.stable (16 * d.scount) then none
      else
        let tab := chunks 16 (s.spanRead k d.stable (16 * d.scount)) d.scount
        if tab.all (fun e =>
            decide (fld e 0 8 % 64 = 0 ∧ fld e 0 8 < 2 ^ 40 ∧ 31 ≤ fld e 8 4 ∧ fld e 8 4 ≤ 2 * 2 ^ 22 + 28 ∧ fld e 12 4 = 0)
              && s.inJob (fld e 0 8) (fld e 8 4)) then some d
        else none

/-- Address and length of strip i of a surface on a tile (03 R111). -/
def TileState.stripAt (x : TileState) (d : Desc) (i : Nat) : Nat × Nat :=
  (Mem.le x.mem (d.stable + 16 * i) 8, Mem.le x.mem (d.stable + 16 * i + 8) 4)

/-- The verdict on strip i of a surface read from a tile's memory (03 R121). -/
def TileState.verify (x : TileState) (d : Desc) (i : Nat) : Nat × List Byte :=
  let (a, n) := x.stripAt d i
  verifyStrip d i (Mem.read x.mem a n) (x.uncorr a n)

/-- The live range of a surface on a span: from its lowest to its highest byte (03 R109). -/
def State.surfaceRange (s : State) (k a : Nat) (d : Desc) : Nat × Nat :=
  let x := s.tileN (s.spanTile k)
  let parts := (a, 64) :: (d.stable, 16 * d.scount) :: (List.range d.scount).map (fun i => x.stripAt d i)
  let lo := (parts.map (·.1)).foldl min a
  let hi := (parts.map (fun r => r.1 + r.2)).foldl max (a + 64)
  (lo, hi - lo)

/-- Bytes a stream of a surface reserves in the strip pool (03 R123). -/
def Desc.pool (d : Desc) : Nat := 2 * d.maxRaw

/-- A descriptor without the checks of R113, for a surface already bound. -/
def TileState.desc (x : TileState) (a : Nat) : Option Desc := descOf (Mem.read x.mem a 64)

/-- Bytes of the strip pool reserved on a tile (03 R123). -/
def TileState.poolUsed (x : TileState) : Nat :=
  (x.streams.map (fun st => ((x.desc st.surf).map Desc.pool).getD 0)).foldl (· + ·) 0

/-! ## Landing of writes (03 R104 to R106, 01 R34) -/

/-- A tile's memory with bytes written, when the tile takes loads; a poisoned word that the write wholly covers is good
again (15 R481, R483). -/
def State.tileWrite (s : State) (t a : Nat) (bs : List Byte) : State :=
  s.updTileN t (fun x =>
    if x.takes then
      { x with
        mem := Mem.write x.mem a bs
        memc := { x.memc with poison := x.memc.poison.filter (fun w => !decide (a ≤ w ∧ w + 8 ≤ a + bs.length)) } }
    else x)

/-- A tile of a twin takes its partner's copy, so that writes to its span are held (11 R367). -/
def State.resyncing (s : State) (k : Nat) : Bool := (s.tileN (2 * k)).copying || (s.tileN (2 * k + 1)).copying

/-- A load to a twin waits: the span's copy is taken, or an earlier load to it waits (03 R105, 11 R367). -/
def State.legHeld (s : State) (k : Nat) : Bool :=
  s.resyncing k || s.stores.inFlight.any (fun w => w.twins.any (fun g => g.twin == k && g.stage == 0))

/-- A load whose host data is read: it is written on the tile of each twin that it reaches first, or held, and stands in
flight until it has landed (03 R104, 11 R367). -/
def State.loadBegin (s : State) (p : Packet) (spans a : Nat) (bs : List Byte) : State :=
  let ks := bitsOf 4 spans
  let w : InFlight :=
    { wid := s.stores.nextWid, disp := s.dispOf p.seq, session := p.session, addr := a, data := bs,
      twins := ks.map (fun k => { twin := k, stage := if s.legHeld k then 0 else 1, first := s.spanTile k }) }
  let s1 := (w.twins.filter (fun g => g.stage == 1)).foldl (fun s g => s.tileWrite g.first a bs) s
  { s1 with stores := { s1.stores with inFlight := s1.stores.inFlight ++ [w], nextWid := s1.stores.nextWid + 1 } }

/-- A load's leg to a twin, if it is in flight there and no earlier load is still to be mirrored to that twin: the first
tile mirrors loads in the order in which it wrote them (03 R105). -/
def State.leg (s : State) (wid k : Nat) : Option (InFlight × Leg) :=
  match s.stores.inFlight.find? (fun w => w.wid == wid) with
  | none => none
  | some w =>
    match w.twins.find? (fun g => g.twin == k) with
    | none => none
    | some g =>
      if s.stores.inFlight.any (fun v => decide (v.wid < wid) && v.twins.any (fun h => decide (h.twin = k ∧ h.stage < 2))) then none
      else some (w, g)

/-- A load's leg to a twin, replaced; at the end it is dropped, and a load with no leg left has landed. -/
def State.legSet (s : State) (wid k : Nat) (g : Option Leg) : State :=
  let upd := fun (w : InFlight) =>
    match g with
    | some h => { w with twins := mapIf w.twins (fun t => t.twin == k) (fun _ => h) }
    | none => { w with twins := w.twins.filter (fun t => t.twin != k) }
  { s with stores := { s.stores with
      inFlight := (mapIf s.stores.inFlight (fun w => w.wid == wid) upd).filter (fun w => !w.twins.isEmpty) } }

/-- The second tile of a twin receives and writes a mirrored load: the partner of the tile written first (01 R34). -/
def State.mirrorLoad (s : State) (wid k : Nat) : State :=
  match s.leg wid k with
  | some (w, g) => if g.stage = 1 then (s.tileWrite (partnerOf g.first) w.addr w.data).legSet wid k (some { g with stage := 2 }) else s
  | none => s

/-- A load lands on both tiles of a twin; one held waits for the copy's end (03 R105, 11 R367). -/
def State.landLoad (s : State) (wid k : Nat) : State :=
  match s.leg wid k with
  | none => s
  | some (w, g) =>
    if g.stage = 0 && s.resyncing k then s
    else
      let first := if g.stage = 0 then s.spanTile k else g.first
      let s1 := if g.stage = 0 then s.tileWrite first w.addr w.data else s
      let s2 := if g.stage < 2 then s1.tileWrite (partnerOf first) w.addr w.data else s1
      s2.legSet wid k none

/-! ## MEM.WRITE -/

/-- Status of a block: out of range, or live (03 R102, R109). -/
def State.destStatus (s : State) (spans a n : Nat) : Nat :=
  if !s.inJob a n then St.addrRange else if s.liveHit spans a n then St.memLive else St.ok

/-- Checks of MEM.WRITE (03 R131). -/
def checkMemWrite (s : State) (p : Packet) : Nat × Nat × Nat :=
  if !s.spansOk (p.f 2 3 0) || p.dw 7 = 0 then (St.memArg, 0, 0)
  else (s.destStatus (p.f 2 3 0) (p.da 3) (p.dw 7), 0, 0)

/-- MEM.WRITE: the load begins and the packet completes, its host buffer being read (03 R104, R105). -/
def actMemWrite (s : State) (p : Packet) (bs : List Byte) : State :=
  (s.loadBegin p (p.f 2 3 0) (p.da 3) (bs.take (p.dw 7))).done p.seq St.ok

/-- MEM.WRITE. -/
def opMemWrite : OpDef :=
  { code := 0x0201, cls := clsSOJ, named := [0xF, 0xFFFF_FFFF, 0xFF, 0xFFFF_FFFF, 0xFFFF_FFFF, 0xFFFF_FFFF],
    prot := noProt, access := fun _ p _ => [{ spans := p.f 2 3 0, base := p.da 3, len := p.dw 7, write := true }],
    check := checkMemWrite, read := fun _ p => some (p.ha 5, p.dw 7), waits := noWaits, bind := noBind, act := actMemWrite }

/-! ## MEM.READ -/

/-- The span that a one-bit mask names. -/
def oneSpan (m : Nat) : Nat := ((bitsOf 4 m).head?).getD 0

/-- Checks of MEM.READ (03 R131). -/
def checkMemRead (s : State) (p : Packet) : Nat × Nat × Nat :=
  if !s.spansOk (p.f 2 3 0) || (bitsOf 4 (p.f 2 3 0)).length ≠ 1 || p.f 2 5 4 = 3 || p.dw 7 = 0 then (St.memArg, 0, 0)
  else if !s.inJob (p.da 3) (p.dw 7) then (St.addrRange, 0, 0)
  else (St.ok, 0, 0)

/-- MEM.READ: the data of one tile, or of both compared, in host memory (03 R131). -/
def actMemRead (s : State) (p : Packet) (_ : List Byte) : State :=
  let k := oneSpan (p.f 2 3 0)
  let a := p.da 3
  let n := p.dw 7
  let x := s.tileN (2 * k)
  let y := s.tileN (2 * k + 1)
  let sel := p.f 2 5 4
  let bx := Mem.read x.mem a n
  let by_ := Mem.read y.mem a n
  if (sel ≠ 1 && x.uncorr a n) || (sel ≠ 0 && y.uncorr a n) then s.done p.seq St.memUncorr
  else if sel = 2 then
    match firstDiff a bx by_ with
    | some d => s.doneDiffer p.seq d
    | none => (s.hostWrite (p.ha 5) bx).done p.seq St.ok
  else (s.hostWrite (p.ha 5) (if sel = 0 then bx else by_)).done p.seq St.ok

/-- MEM.READ. -/
def opMemRead : OpDef :=
  { code := 0x0202, cls := clsAll, named := [0x3F, 0xFFFF_FFFF, 0xFF, 0xFFFF_FFFF, 0xFFFF_FFFF, 0xFFFF_FFFF],
    prot := noProt, access := fun _ p _ => [{ spans := p.f 2 3 0, base := p.da 3, len := p.dw 7, write := false }],
    check := checkMemRead, read := noRead, waits := noWaits, bind := noBind, act := actMemRead }

/-! ## MEM.FENCE -/

/-- Checks of MEM.FENCE (03 R131). -/
def checkMemFence (s : State) (p : Packet) : Nat × Nat × Nat :=
  (if s.spansOk (p.f 2 3 0) then St.ok else St.memArg, 0, 0)

/-- MEM.FENCE: it completes once the earlier writes of its scope have landed (03 R106). -/
def opMemFence : OpDef :=
  { code := 0x0203, cls := clsSOJ, named := [0xF], prot := noProt, access := noAccess, check := checkMemFence,
    read := noRead, waits := fun _ p _ => p.f 2 3 0, bind := noBind, act := fun s p _ => s.done p.seq St.ok }

/-! ## MEM.COMPRESS (03 R127 to R130) -/

/-- Raw size of the source surface. -/
def compressRaw (p : Packet) : Nat := p.dw 4 * p.f 3 27 16 * (p.f 3 15 0 + 1)
/-- The parameters as a descriptor, for the checks of R110, R112 and R114. -/
def compressDesc (p : Packet) : Desc :=
  { kind := p.f 2 4 4, width := p.f 3 15 0 + 1, height := p.dw 4, depth := p.f 3 27 16, sheight := p.f 2 15 8,
    scount := ceilDiv (p.dw 4) (p.f 2 15 8 + 1), stable := p.da 8 + 64 }

/-- Checks of MEM.COMPRESS (03 R127, R131). -/
def checkMemCompress (s : State) (p : Packet) : Nat × Nat × Nat :=
  let d := compressDesc p
  if !s.spansOk (p.f 2 3 0) || d.height = 0 || d.depth = 0 || d.depth > (if d.kind = 0 then 16 else 2048) ||
      !predOk d (p.dw 5) || p.da 8 % 64 ≠ 0 || d.maxRaw > 2 ^ 22 || p.da 10 = 0 then (St.memArg, 0, 0)
  else if !s.inJob (p.da 6) (compressRaw p) || !s.inJob (p.da 8) (p.da 10) then (St.addrRange, 0, 0)
  else if overlap (p.da 6) (compressRaw p) (p.da 8) (p.da 10) then (St.memOverlap, 0, 0)
  else (if s.liveHit (p.f 2 3 0) (p.da 8) (p.da 10) then St.memLive else St.ok, 0, 0)

/-- MEM.COMPRESS: the sizing pass starts, and the destination is a live range until completion (03 R109, R128). -/
def actMemCompress (s : State) (p : Packet) (_ : List Byte) : State :=
  let s1 := s.liveAdd (p.f 2 3 0) (p.da 8) (p.da 8) (p.da 10) p.seq
  { s1 with stores := { s1.stores with compress := s1.stores.compress ++ [{ seq := p.seq, writing := false, outs := [] }] } }

/-- MEM.COMPRESS. -/
def opMemCompress : OpDef :=
  { code := 0x0204, cls := clsSOJ,
    named := [0xFF1F, 0x0FFF_FFFF, 0xFFFF_FFFF, 0xFFFF_FFFF, 0xFFFF_FFFF, 0xFF, 0xFFFF_FFFF, 0xFF, 0xFFFF_FFFF, 0xFF],
    prot := noProt,
    access := fun _ p _ =>
      [{ spans := p.f 2 3 0, base := p.da 6, len := (compressRaw p), write := false },
       { spans := p.f 2 3 0, base := p.da 8, len := p.da 10, write := true }],
    check := checkMemCompress, read := noRead, waits := noWaits, bind := noBind, act := actMemCompress }

/-- A 40-bit count with its span in the results (03 R128). -/
def countR1 (n k : Nat) : Nat := n / 2 ^ 32 % 256 + 256 * k

/-- The compression ends: its live range goes and its packet completes. -/
def State.compressEnd (s : State) (seq status r0 r1 : Nat) : State :=
  let s1 := { s with stores := { s.stores with compress := s.stores.compress.filter (fun c => c.seq != seq) } }
  (s1.liveDrop seq).complete seq status r0 r1

/-- The sizing pass ends: a stop, an uncorrectable read, or the writing pass begins (03 R128, R129). -/
def State.sizingDone (s : State) (p : Packet) : State :=
  let spans := bitsOf 4 (p.f 2 3 0)
  let raw := (compressRaw p)
  let cap := p.da 10
  if spans.any (fun k => (s.tileN (s.spanTile k)).uncorr (p.da 6) raw) then s.compressEnd p.seq St.memUncorr 0 0
  else
    let d := compressDesc p
    let outs := spans.map (fun k =>
      (k, compressOut d.kind d.width d.height d.depth d.sheight (p.dw 5) (p.da 8) (s.spanRead k (p.da 6) raw)))
    match outs.find? (fun o => decide (o.2.length ≥ min raw (cap + 1))) with
    | some o =>
      let n := min raw (cap + 1)
      s.compressEnd p.seq (if raw ≤ cap + 1 then St.noShrink else St.outSpace) (n % 2 ^ 32) (countR1 n o.1)
    | none =>
      { s with stores := { s.stores with
          compress := mapIf s.stores.compress (fun c => c.seq == p.seq) (fun c => { c with writing := true, outs := outs }) } }

/-- The writing pass ends: the same output on both tiles of each span, and the largest size with its span (03 R129). -/
def State.writingDone (s : State) (p : Packet) (outs : List (Nat × List Byte)) : State :=
  let s1 := outs.foldl (fun s o => (s.tileWrite (2 * o.1) (p.da 8) o.2).tileWrite (2 * o.1 + 1) (p.da 8) o.2) s
  let top := (outs.map (fun o => o.2.length)).foldl max 0
  let k := ((outs.find? (fun o => o.2.length == top)).map (·.1)).getD 0
  s1.compressEnd p.seq St.ok (top % 2 ^ 32) (countR1 top k)

/-- A compression stands still: CODEC_CMP_SHARE leaves it no engine cycles, or a tile that runs it sheds with action 2
(03 R128, R130, R134; 18 R545; log 124). -/
def State.compressHeld (s : State) (p : Packet) : Bool :=
  decide (s.itemN Pid.codecCmpShare = 0) || (bitsOf 4 (p.f 2 3 0)).any (fun k => bit (s.tileN (s.spanTile k)).thm.shed 1)

/-- A pass of MEM.COMPRESS ends, unless compression is paused (03 R128 to R130). -/
def State.compressPass (s : State) (seq : Nat) : State :=
  match s.stores.compress.find? (fun c => c.seq == seq), s.entry seq with
  | some c, some e =>
    if s.compressHeld e.p then s
    else if c.writing then s.writingDone e.p c.outs
    else s.sizingDone e.p
  | _, _ => s

/-! ## MEM.VERIFY -/

/-- Checks of MEM.VERIFY (03 R113, R131): a descriptor outside job memory is ST_ADDR_RANGE, as for every command that names a
byte there (03 R102). -/
def checkMemVerify (s : State) (p : Packet) : Nat × Nat × Nat :=
  if !s.spansOk (p.f 2 3 0) then (St.memArg, 0, 0)
  else if !s.inJob (p.da 3) 64 then (St.addrRange, 0, 0)
  else if (bitsOf 4 (p.f 2 3 0)).all (fun k => (s.surface k (p.da 3)).isSome) then (St.ok, 0, 0)
  else (St.surfaceBad, 0, 0)

/-- Strips of a surface that fail on a tile, with their causes. -/
def TileState.failedStrips (x : TileState) (d : Desc) : List (Nat × Nat) :=
  ((List.range d.scount).map (fun i => (i, (x.verify d i).1))).filter (fun r => r.2 != 0)

/-- MEM.VERIFY: every strip verified on both tiles of the spans; each failure is an event of its tile, and the count of
failed strips and the first are the results: a strip that fails in several copies counts once (03 R121, R131; log 124). -/
def actMemVerify (s : State) (p : Packet) (_ : List Byte) : State :=
  let a := p.da 3
  let fails : List (Nat × Nat × Nat) := (bitsOf 4 (p.f 2 3 0)).flatMap (fun k =>
    match s.surface k a with
    | none => []
    | some d => [2 * k, 2 * k + 1].flatMap (fun t =>
        if (s.tileN t).takes then ((s.tileN t).failedStrips d).map (fun r => (t, r.1, r.2)) else []))
  let s1 := fails.foldl (fun s f => s.raiseN f.1 Ev.stripCheckFail [f.1 / 2, a, f.2.1, f.2.2]) s
  let strips := fails.foldl (fun l f => addNew l f.2.1) []
  match strips with
  | [] => s1.done p.seq St.ok
  | i :: is => s1.complete p.seq St.checkFail strips.length (is.foldl min i)

/-- MEM.VERIFY. -/
def opMemVerify : OpDef :=
  { code := 0x0205, cls := clsAll, named := [0xF, 0xFFFF_FFFF, 0xFF], prot := noProt,
    access := fun s p _ => (bitsOf 4 (p.f 2 3 0)).flatMap (fun k =>
      let r := match s.surface k (p.da 3) with
        | some d => s.surfaceRange k (p.da 3) d
        | none => (p.da 3, 64)
      [{ spans := 2 ^ k, base := r.1, len := r.2, write := false }]),
    check := checkMemVerify, read := noRead, waits := noWaits, bind := noBind, act := actMemVerify }

/-! ## MEM.INFO (13 R444) -/

/-- The free strip pool of a tile in KiB. -/
def TileState.poolFree (x : TileState) : Nat := (16 * 2 ^ 20 - x.poolUsed) / 1024

/-- The 64 bytes of MEM.INFO (13 R444). -/
def State.memInfo (s : State) : List Byte :=
  (List.range 8).flatMap (fun t => leBytes 2 (if t < s.nTiles then s.jobTop / 2 ^ 20 else 0)) ++ leBytes 4 s.job.rsv ++ zeros 4
    ++ (List.range 8).flatMap (fun t => leBytes 4 (if t < s.nTiles then (s.tileN t).poolFree else 0)) ++ zeros 8

/-- MEM.INFO. -/
def opMemInfo : OpDef :=
  { code := 0x0206, cls := clsAll, named := [0xFFFF_FFFF, 0xFFFF_FFFF], prot := noProt, access := noAccess, check := noCheck,
    read := noRead, waits := noWaits, bind := noBind, act := fun s p _ => (s.hostWrite (p.ha 2) s.memInfo).done p.seq St.ok }

/-! ## Blocks copied into on-die stores (03 R616) -/

/-- A block read on every span of a mask: refused where the copies differ, else handed on with span 0's bytes. -/
def State.withBlock (s : State) (seq spans a n : Nat) (f : State → List Byte → State) : State :=
  match s.copyDiffer spans a n with
  | some d => s.doneDiffer seq d
  | none => f s (s.spanRead (((bitsOf 4 spans).head?).getD 0) a n)

/-- A block goes into the on-die stores of every tile whose domain that holds them is on (05 R190; 06 R204; 07 R234). -/
def State.onDie (s : State) (d : Nat) (f : Die → Die) : State :=
  forEach (s.tileList.filter (fun t => (s.tileN t).on d)) s (fun s t => s.updTileN t (fun x => { x with die := f x.die }))

/-! ## Meanings -/

/-- R104: MEM.WRITE. -/
def execMemWrite (p : Packet) (s : State) : Out := .next (opMemWrite.dispatch s p)
/-- R131: MEM.READ. -/
def execMemRead (p : Packet) (s : State) : Out := .next (opMemRead.dispatch s p)
/-- R106: MEM.FENCE. -/
def execMemFence (p : Packet) (s : State) : Out := .next (opMemFence.dispatch s p)
/-- R128: MEM.COMPRESS. -/
def execMemCompress (p : Packet) (s : State) : Out := .next (opMemCompress.dispatch s p)
/-- R131: MEM.VERIFY. -/
def execMemVerify (p : Packet) (s : State) : Out := .next (opMemVerify.dispatch s p)
/-- R444: MEM.INFO. -/
def execMemInfo (p : Packet) (s : State) : Out := .next (opMemInfo.dispatch s p)

/-- R105: a memory write lands on both tiles of a twin. -/
def execMemWriteLanded (wid : Nat) (twin : Fin 4) (s : State) : Out := onTwin twin s (s.landLoad wid twin.val)
/-- R34: the second tile of a twin writes a mirrored host load. -/
def execMirroredLoadReceive (wid : Nat) (twin : Fin 4) (s : State) : Out := onTwin twin s (s.mirrorLoad wid twin.val)
/-- R129: a pass of MEM.COMPRESS ends. -/
def execCompressPassDone (seq : Nat) (s : State) : Out := .next (s.compressPass seq)

end Sys2Proof.Machine
end

