-- ==== Sys2Proof/Machine/Product.lean ====
section
/-! DEFINITION. Lanes, products and their rejection, and commands that target products (04 R135 to R137, R153 to R157;
02 R91 to R97; 13 R433). -/

namespace Sys2Proof.Machine

/-! ## The stop request (02 R97) -/

/-- A stop source occurs: the output is latched when its bit of MOT_STOP_SRC is set, and going high raises
LINE_STOP_SET with the source (02 R97). -/
def State.stopSource (s : State) (b : Nat) : State :=
  if bit (s.itemN Pid.motStopSrc) b && !s.motion.stop then
    ({ s with motion := { s.motion with stop := true } }).raiseMot Ev.lineStopSet [b]
  else s

/-! ## Job items by job (04 R160) -/

/-- The job of a number, if a JOB.CHANGE has replaced it. -/
def State.pastJob (s : State) (gen : Nat) : Option PastJob := s.job.past.find? (fun e => e.gen == gen)
/-- The job items under which a job's products print: of the running job, or of one that a change has replaced. -/
def State.jobItems (s : State) (gen : Nat) : PMap := ((s.pastJob gen).map (·.items)).getD s.job.base.items
/-- The glyph bank of a job: the one in force when a change replaced it; of the running job the active bank, or the standby
one while it waits for its line (05 R190). -/
def State.jobBank (s : State) (gen : Nat) : Nat :=
  ((s.pastJob gen).map (·.bank)).getD (if s.job.bankLine.isSome then 1 - s.stores.glyphBank else s.stores.glyphBank)
/-- The commit of the change that ended a job does not reach a line: it is held, or not within the line's CMAX (11 R360). -/
def State.changeUnseen (s : State) (e : PastJob) (n : Nat) : Bool :=
  let mine := fun (c : Change) => c == .job (e.gen + 1)
  s.job.held.any (fun h => mine h.1) || s.job.commits.any (fun c => mine c.change && decide (s.cmaxAt n < c.cseq))
/-- The job that a line below its change line, or one that its change does not reach, belongs to (04 R160). -/
def State.pastAt (s : State) (n : Nat) : Option PastJob := s.job.past.find? (fun e => decide (n < e.stop) || s.changeUnseen e n)
/-- The items of the job to which a line belongs (04 R160). -/
def State.lineItems (s : State) (n : Nat) : PMap := ((s.pastAt n).map (·.items)).getD s.job.base.items
/-- The package as the geometry of a line sees it: the job items of the job to which the line belongs (04 R160). -/
def State.asOf (s : State) (n : Nat) : State :=
  { s with job := { s.job with base := { s.job.base with items := s.lineItems n } } }
/-- The job to which a product belongs by its first line (04 R160). -/
def State.jobOf (s : State) (first : Nat) : Nat := ((s.job.past.find? (fun e => decide (first < e.stop))).map (·.gen)).getD s.job.gen
/-- An item of a product's job. -/
def State.pItem (s : State) (p : Product) (pid : Nat) : Nat := (PMap.item (s.jobItems p.job) pid).toNat

/-! ## Lanes and products -/

/-- First position of a lane (04 R135). -/
def State.laneX0 (s : State) (j : Nat) : Nat := s.itemN (Pid.laneX0 j)
/-- Width of a lane, 0 when unused. -/
def State.laneW (s : State) (j : Nat) : Nat := s.itemN (Pid.laneW j)

/-- Last line of a product, exclusive (04 R136). -/
def State.prodEnd (s : State) (p : Product) : Nat :=
  let e := p.first + s.pItem p (Pid.laneLen p.lane)
  match p.next with
  | some f => min e f
  | none => e
/-- A product covers a line (04 R136). -/
def State.covers (s : State) (p : Product) (n : Nat) : Bool := decide (p.first ≤ n ∧ n < s.prodEnd p)
/-- The arm line of a product: its first line less LEAD_DIST (04 R153). -/
def State.armLine (s : State) (p : Product) : Nat := p.first - s.pItem p Pid.leadDist
/-- A product of a lane by its number. -/
def State.product (s : State) (lane num : Nat) : Option Product :=
  s.job.products.find? (fun p => p.lane == lane && p.num == num)
/-- The package with a product changed. -/
def State.updProduct (s : State) (lane num : Nat) (f : Product → Product) : State :=
  { s with job := { s.job with products := mapIf s.job.products (fun p => p.lane == lane && p.num == num) f } }
/-- The package with a lane changed. -/
def State.updLane (s : State) (j : Nat) (f : Lane → Lane) : State :=
  { s with job := { s.job with lanes := vupd s.job.lanes j Lane.reset f } }
/-- A lane. -/
def State.lane (s : State) (j : Nat) : Lane := vget s.job.lanes j Lane.reset

/-- The bar that carries a channel (09 R283). -/
def State.barOf (s : State) (c : Nat) : Option Nat := (List.range 12).find? (fun b => bit (s.itemN (Pid.barCh b)) c)
/-- BAR_OFF of a channel (09 R283). -/
def State.barOff (s : State) (c : Nat) : Nat := ((s.barOf c).map (fun b => s.itemN (Pid.barOffset b))).getD 0
/-- Rows of a channel that are used (07 R226). -/
def State.rowsOf (s : State) (c : Nat) : List Nat := (List.range 4).filter (fun r => decide (s.itemN (Pid.rowPhase (4 * c + r)) ≠ 255))
/-- Active channels and used rows, ascending: channel and row. -/
def State.rows (s : State) : List (Nat × Nat) := (bitsOf 12 s.activeCh).flatMap (fun c => (s.rowsOf c).map (fun r => (c, r)))
/-- D_r of a row: its lines of delay (09 R284). -/
def State.rowDelay (s : State) (c r : Nat) : Nat := s.barOff c + s.itemN (Pid.rowOff (4 * c + r)) / 2 ^ 16
/-- The greatest D_r. -/
def State.maxDelay (s : State) : Nat := (s.rows.map (fun x => s.rowDelay x.1 x.2)).foldl max 0

/-- A product is in flight: its last line has not been fired on every bar. -/
def State.inFlightProd (s : State) (p : Product) : Bool := decide (s.motion.lastLine < s.prodEnd p + s.maxDelay)

/-! ## Rejects (02 R95, R96) -/

/-- A reject queued on one output: late, full, or pending. -/
def State.rejQueue (s : State) (n lane num line : Nat) : State :=
  let q := (vget s.motion.rej n { queue := [], rejEnd := none, cmpEnd := none }).queue
  if line ≤ s.motion.lastLine then (s.raiseMot Ev.rejLate [n, num]).stopSource 3
  else if q.length ≥ 256 then (s.raiseMot Ev.rejQueueFull [n, num]).stopSource 2
  else
    { s with motion := { s.motion with
        rej := vupd s.motion.rej n { queue := [], rejEnd := none, cmpEnd := none } (fun o => { o with queue := o.queue ++ [(line, lane, num)] }) } }

/-- A product is rejected, once: a pulse is queued on every output whose REJ_LANES includes its lane (02 R95). -/
def State.reject (s : State) (lane num : Nat) : State :=
  match s.product lane num with
  | none => s
  | some p =>
    if p.rejected then s
    else
      let s1 := s.updProduct lane num (fun p => { p with rejected := true })
      ((List.range 4).filter (fun n => bit (s.itemN (Pid.rejLanes n)) lane)).foldl
        (fun s n => s.rejQueue n lane num (p.first + s.itemN (Pid.rejDist n))) s1

/-- Every product that satisfies a test is rejected. -/
def State.rejectIf (s : State) (f : Product → Bool) : State :=
  (s.job.products.filter f).foldl (fun s p => s.reject p.lane p.num) s

/-- Every product in flight is rejected. -/
def State.rejectFlight (s : State) : State := s.rejectIf s.inFlightProd

/-- A product has an owned position of a span (03 R125). -/
def State.prodInSpan (s : State) (p : Product) (k : Nat) : Bool :=
  overlap (s.laneX0 p.lane) (s.laneW p.lane) (s.spanStart k) (s.spanWidth k)

/-! ## Spans of a lane (13 R433) -/

/-- An item as the geometry of the next job will have it: the staged value, if any (13 R433, R441). -/
def State.stagedItem (s : State) (pid : Nat) : Int := (s.job.staged.lookup pid).getD (s.item pid)
/-- An item of the geometry that a target applies to (13 R433). -/
def State.geomItem (s : State) (next : Bool) (pid : Nat) : Nat :=
  if next || !s.armed then (s.stagedItem pid).toNat else s.itemN pid

/-- The spans whose owned positions a lane covers (13 R433). -/
def State.laneSpans (s : State) (next : Bool) (j : Nat) : Nat :=
  maskOf s.nTwins (fun k =>
    overlap (s.geomItem next (Pid.laneX0 j)) (s.geomItem next (Pid.laneW j)) (s.geomItem next (Pid.spanStart k))
      (s.geomItem next (Pid.spanWidth k)))

/-- The spans with a computed position that a lane covers: its own spans', and those it reaches only in a halo (01 R20; 04
R147). -/
def State.laneReach (s : State) (next : Bool) (j : Nat) : Nat :=
  maskOf s.nTwins (fun k =>
    let w := s.geomItem next (Pid.spanWidth k)
    decide (w ≠ 0) && overlap (s.geomItem next (Pid.laneX0 j)) (s.geomItem next (Pid.laneW j)) (s.geomItem next (Pid.spanStart k) - 64) (w + 128))

/-- The spans of a packet's target. -/
def State.tgtSpans (s : State) (p : Packet) : Nat := s.laneSpans (p.tgtMode == 2) p.tgtLane

/-- Checks of a target: mode, lane, and a fence only under PRODUCT; arg is the group's argument status (13 R433). -/
def checkTgt (fences : Bool) (arg : Nat) (s : State) (p : Packet) : Nat :=
  if !p.fenced && p.fenceId ≠ 0 then St.rsvdSet
  else if p.tgtMode ≠ 1 && p.tgtProduct ≠ 0 then St.rsvdSet
  else if p.tgtMode = 3 then arg
  else if s.geomItem (p.tgtMode == 2) (Pid.laneW p.tgtLane) = 0 then arg
  else if fences && p.fenced && p.tgtMode ≠ 1 then arg
  else St.ok

/-- Named bits of a TGT's first dword: with a fence, and without (13 R433). -/
def tgtFenced : Nat := 0xFFF1_003F
/-- Named bits of a TGT's first dword on an opcode without fences. -/
def tgtPlain : Nat := 0x3F

/-! ## Commands that target products (04 R155, R156; 13 R433) -/

/-- The first line not yet begun on any printing tile of the twins that a lane touches. -/
def State.laneFree (s : State) (j : Nat) : Nat :=
  let ts := ((bitsOf 4 (s.laneSpans false j)).flatMap (fun k => [2 * k, 2 * k + 1])).filter (fun t => (s.tileN t).printing)
  match ts.map (fun t => (s.tileN t).begun) with
  | [] => s.motion.lastLine + 1
  | b :: bs => bs.foldl max b

/-- Pending commands of a lane: not yet committed, with a fence not yet settled, or staged for the next job until the arm
line of its product (04 R156, 13 R433). -/
def State.pendingCount (s : State) (j : Nat) : Nat :=
  ((s.lane j).changes.filter (fun c => !c.committed || c.fence.isSome || c.nextJob)).length + (s.job.nextJob.filter (fun c => c.1 == j)).length

/-- A change of a lane with nothing in it but its packet. -/
def LaneChange.of (p : Packet) : LaneChange :=
  { seq := p.seq, session := p.session, target := if p.tgtMode = 1 then some p.tgtProduct else none,
    nextJob := decide (p.tgtMode = 2), fence := if p.fenced then some p.fenceId else none, layers := [], items := [],
    mark := 0, arg := 0, body := [], committed := false }

/-- A change committed for a registered product: its arm line is the effect line (04 R153, R155). -/
def State.commitTarget (s : State) (lane : Nat) (p : Product) (c : LaneChange) : State :=
  let s1 := s.updLane lane (fun l => { l with changes := l.changes.filter (fun d => d.seq != c.seq || d.seq == 0) ++ [{ c with target := some p.num, committed := true }] })
  let s2 := if c.seq = 0 then s1 else s1.park c.seq (.commit s.job.cseq)
  s2.prepare (.armLine lane p.num) (s.armLine p) c.seq

/-- A change that waits for the registration of its product. -/
def State.awaitProduct (s : State) (lane : Nat) (c : LaneChange) : State :=
  (s.updLane lane (fun l => { l with changes := l.changes ++ [c] })).park c.seq .product

/-- The fence that a packet names becomes busy (04 R157). -/
def State.takeFence (s : State) (p : Packet) : State :=
  if p.fenced then
    { s with job := { s.job with fences := s.job.fences ++
      [{ id := p.fenceId, seq := p.seq, session := p.session, lane := p.tgtLane, product := p.tgtProduct, signal := none }] } }
  else s

/-- A change for a target: staged, committed for a registered product, or parked until the product registers (04 R155,
R156; 13 R433). -/
def State.submit (s : State) (p : Packet) (c : LaneChange) : State :=
  let j := p.tgtLane
  if s.pendingCount j ≥ 64 then (s.freeFences p.seq).done p.seq St.flipQueueFull
  else if c.nextJob then
    ({ s with job := { s.job with nextJob := s.job.nextJob ++ [(j, { c with seq := 0 })] } }).done p.seq St.okStaged
  else
    match c.target with
    | some n =>
      match s.product j n with
      | some pr => if s.armLine pr < s.laneFree j then (s.freeFences p.seq).done p.seq St.flipLate else s.commitTarget j pr c
      | none => if s.armed && n < (s.lane j).nextNum then (s.freeFences p.seq).done p.seq St.flipLate else s.awaitProduct j c
    | none =>
      match s.job.products.find? (fun pr => pr.lane == j && decide (s.laneFree j + s.itemN Pid.twnMargin ≤ s.armLine pr)) with
      | some pr => s.commitTarget j pr c
      | none => s.awaitProduct j c

/-- The changes staged for the first product of a lane's next job are committed for it (13 R433). -/
def State.settleNextJob (s : State) (p : Product) : State :=
  let staged := (s.job.nextJob.filter (fun c => c.1 == p.lane)).map (·.2)
  let s1 := { s with job := { s.job with nextJob := s.job.nextJob.filter (fun c => c.1 != p.lane) } }
  staged.foldl (fun s c => s.commitTarget p.lane p c) s1

/-- The changes of a lane that its newly registered product settles: those staged for the first product of its job, those that
name it, and those for the next product when its arm line is far enough (04 R155, 13 R433). -/
def State.settleTargets (s : State) (p : Product) (firstOfJob : Bool) : State :=
  let j := p.lane
  let near := decide (s.laneFree j + s.itemN Pid.twnMargin ≤ s.armLine p)
  let s2 := if firstOfJob then s.settleNextJob p else s
  ((s2.lane j).changes.filter (fun c => !c.committed)).foldl (fun s c =>
    match c.target with
    | some n => if n = p.num then s.commitTarget j p c else s
    | none => if near then s.commitTarget j p c else s) s2

/-! ## Bindings in force (04 R154) -/

/-- Insert a change in the order of its target, later changes after earlier ones. -/
def LaneChange.insert (c : LaneChange) : List LaneChange → List LaneChange
  | [] => [c]
  | d :: r => if c.target.getD 0 < d.target.getD 0 then c :: d :: r else d :: LaneChange.insert c r

/-- The committed changes of a lane at or before a product, in order (04 R154, R156). -/
def State.changesFor (s : State) (j num : Nat) : List LaneChange :=
  (((s.lane j).changes.filter (fun c => c.committed && decide (c.target.getD 0 ≤ num)))).foldl (fun l c => LaneChange.insert c l) []

/-- The items in force for a product: its job's, with the changes of its lane at or before it (04 R154). -/
def State.bindItems (s : State) (p : Product) : PMap :=
  (s.changesFor p.lane p.num).foldl (fun m c => PMap.putAll m c.items) (s.jobItems p.job)

/-- The items of a lane of the running job after every change that is pending or committed. -/
def State.laneItemsNow (s : State) (j : Nat) : PMap := (s.lane j).changes.foldl (fun m c => PMap.putAll m c.items) s.job.base.items

/-- The items of a lane after every change, those staged for the next job among them. -/
def State.laneItemsAfter (s : State) (j : Nat) : PMap :=
  (s.job.nextJob.filter (fun c => c.1 == j)).foldl (fun m c => PMap.putAll m c.2.items) (s.laneItemsNow j)

/-! ## Registration (04 R136, 02 R90 to R92) -/

/-- The budget of products: a bucket of 64 tokens refilled at 4,096 a second; the answer says whether one was taken
(02 R91). -/
def State.takeToken (s : State) : Bool × State :=
  let (tok, last) := s.job.bucket
  let full := min (64 * 250_000_000) (tok + (s.now - last) * 4096)
  if full ≥ 250_000_000 then (true, { s with job := { s.job with bucket := (full - 250_000_000, s.now) } })
  else (false, { s with job := { s.job with bucket := (full, s.now) } })

/-- The line being computed: the highest begun on any printing tile (02 R92). -/
def State.computing (s : State) : Nat :=
  ((s.usedTiles.filter (fun t => (s.tileN t).printing)).map (fun t => (s.tileN t).begun - 1)).foldl max 0

/-- Products are registered: a job is armed, and a JOB.DISARM has not reached its effect line (02 R90, 13 R443). -/
def State.registers (s : State) (line : Nat) : Bool :=
  match s.job.disarm with
  | some (_, e, _) => decide (s.job.st ≠ .idle) && decide (e = 0 ∨ line < e)
  | none => decide (s.job.st = .armed)

/-- JOB.DISARM takes the line of its commit; once committed the state is DRAINING, and under ABORT every product with a
line at or after it is rejected (13 R439, R443). -/
def State.disarmSettle (s : State) : State :=
  match s.job.disarm with
  | none => s
  | some (seq, _, abort) =>
    match s.job.commits.find? (fun c => c.seq == seq && c.change == .disarm abort) with
    | none => s
    | some c =>
      let s1 := { s with job := { s.job with disarm := some (seq, c.line, abort) } }
      if c.committed && s.job.st = .armed then
        let s2 := ({ s1 with job := { s1.job with st := .draining } }).raiseLead Ev.jobState [2, c.line]
        if abort then s2.rejectIf (fun p => decide (c.line < s2.prodEnd p)) else s2
      else s1

/-- The items of a job with the job-boundary items of another table (04 R160; 13 R441). -/
def mergeJob (base new : PMap) : PMap :=
  (base.map (·.1) ++ new.map (·.1)).foldl (fun m k =>
    if (parmRow k).map (·.effect) = some 5 then PMap.put m k (PMap.item new k) else m) base

/-- The products that a change line passes on to the new job: those already registered with a first line at or after it; the
first of each lane takes what was staged for it (04 R160; 13 R433). -/
def State.passProducts (s : State) (first : Nat) : State :=
  let new := fun (p : Product) => decide (first ≤ p.first) && p.job + 1 == s.job.gen
  let s1 := { s with job := { s.job with products := mapIf s.job.products new (fun p => { p with job := s.job.gen }) } }
  (List.range 16).foldl (fun s j =>
    match s.job.products.find? (fun p => p.lane == j && p.job == s.job.gen) with
    | some p => if p.armed then s else s.settleNextJob p
    | none => s) s1

/-- A pending JOB.CHANGE takes effect at the first line C of the first product registered after it: the new items are in force
from there, a loaded glyph bank waits for C, and the change is committed with C as its effect line, which completes the
command (04 R160; 01 R60, R61, R64; 05 R190). -/
def State.changeJob (s : State) (first : Nat) : State :=
  match s.job.change with
  | none => s
  | some seq =>
    let j := s.job
    let gen := j.gen + 1
    let old : PastJob := { gen := j.gen, stop := first, items := j.base.items, bank := s.jobBank j.gen }
    let s1 := { s with job := { j with
      change := none, gen := gen, changeLine := some first, past := j.past ++ [old],
      bankLine := if j.bankLine.isNone && s.stores.glyphLoaded then some first else j.bankLine,
      base := { j.base with items := mergeJob j.base.items j.changeItems }, changeItems := [] } }
    ((((s1.park seq (.commit j.cseq)).prepare (.job gen) first seq).passProducts first).raiseLead Ev.jobChanged [first])

/-- A JOB.CHANGE is pending: its line is not known, or its commit is not committed (13 R442). -/
def State.changePending (s : State) : Bool :=
  let isJob := fun (c : Change) => match c with
    | .job _ => true
    | _ => false
  s.job.change.isSome || s.job.commits.any (fun c => isJob c.change && !c.committed) || s.job.held.any (fun h => isJob h.1)

/-- A JOB.CHANGE whose line no commit carries is undone with its command: the job it replaced runs on (11 R375). -/
def State.undoChange (s : State) (seq : Nat) : State :=
  let mine := fun (c : Change) => c == .job s.job.gen
  if s.job.commits.any (fun c => c.seq == seq && mine c.change && !c.committed) || s.job.held.any (fun h => h.2.2 == seq && mine h.1) then
    match s.job.past.getLast? with
    | none => s
    | some e =>
      let past := s.job.past.dropLast
      { s with job := { s.job with
        gen := e.gen, past := past, changeLine := (past.getLast?).map (·.stop), bankLine := none,
        base := { s.job.base with items := e.items }
        products := mapIf s.job.products (fun p => p.job == e.gen + 1) (fun p => { p with job := e.gen }) } }
  else s

/-- A line is issued: where a change line is reached, each tile's needed domains are the new job's (01 R53; 04 R160). -/
def State.changeReached (s : State) (n : Nat) (need : State → Nat → Nat) : State :=
  if s.job.past.any (fun e => e.stop == n) then forEach s.tileList s (fun s t => s.updTileN t (fun x => { x with pdNeed := need s t })) else s

/-! ## Product boundaries (01 R61) -/

/-- The effect line of a change at a product boundary: the first line of the first product whose arm line is at or above
the first line not yet begun plus TWN_MARGIN (01 R61). -/
def State.boundaryLine (s : State) (c : Change) : Option Nat :=
  let from_ := s.firstFree c + s.itemN Pid.twnMargin
  ((s.job.products.filter (fun p => decide (from_ ≤ s.armLine p))).map (·.first)).foldl
    (fun m f => some (match m with
      | none => f
      | some x => min x f)) none

/-- A change of zone tables. -/
def Change.isZone : Change → Bool
  | .zone _ _ => true
  | _ => false

/-- A zone table version has not reached its effect line, so that no further one is committed (08 R276). -/
def State.zoneBlocked (s : State) : Bool := s.job.commits.any (fun c => c.change.isZone && decide (s.motion.lastLine < c.line))

/-- One waiting change is prepared if it can be; the answer says whether it was. -/
def State.tryBoundary (s : State) (e : Change × Nat) : Bool × State :=
  if s.inHandover || (e.1.isZone && s.zoneBlocked) then (false, s)
  else match s.boundaryLine e.1 with
    | none => (false, s)
    | some n =>
      let s1 := if e.2 = 0 then s else s.park e.2 (.commit s.job.cseq)
      (true, s1.prepare e.1 n e.2)

/-- Every waiting product-boundary change that can be prepared is, in order (01 R61, 08 R276). -/
def State.settleBoundary (s : State) : State :=
  s.job.boundary.foldl (fun s e =>
    let r := s.tryBoundary e
    if r.1 then r.2 else { s with job := { s.job with boundary := s.job.boundary ++ [e] } }) { s with job := { s.job with boundary := [] } }

/-- A product-boundary change of a packet, or of the lead's own with packet 0 (01 R61, R617). -/
def State.changeBoundary (s : State) (seq : Nat) (c : Change) : State :=
  if s.armed then
    let s1 := if seq = 0 then s else s.park seq .product
    ({ s1 with job := { s1.job with boundary := s1.job.boundary ++ [(c, seq)] } }).settleBoundary
  else
    let s1 := s.settleChange c
    if seq = 0 then s1 else s1.done seq St.ok

/-- The nozzles of joining nodes enter a lane at a product whose arm line follows NODE_READY (10 R332). -/
def State.enterLane (s : State) (p : Product) : State :=
  (s.link.nodes.filter (fun x => (x.readyLine.map (fun l => decide (l < s.armLine p))).getD false)).foldl (fun s x =>
    let key := 17 * x.id + p.lane
    let due := s.job.commits.any (fun c => c.change == .absent key false)
    if (s.printAt (s.motion.lastLine + 1)).absent.contains key && !due then s.prepare (.absent key false) p.first 0 else s) s

/-- A registered product's arm-line commit, but for one that prints blank (11 R362; 04 R153). -/
def State.commitArm (s : State) (j num : Nat) : State :=
  match s.product j num with
  | some p => if p.blank then s else s.prepare (.armLine j num) (s.armLine p) 0
  | none => s

/-- A product is registered on a lane with its first line (04 R136, R160; 02 R91, R92). -/
def State.registerOn (s : State) (j first : Nat) : State :=
  let s := s.changeJob first
  let num := (s.lane j).nextNum
  let gen := s.jobOf first
  let firstOfJob := !(s.job.products.any (fun p => p.lane == j && p.job == gen))
  let p : Product :=
    { lane := j, num := num, first := first, next := none, job := gen, items := [], strings := [], blankLayers := [],
      armed := false, blank := false, rejected := false, clipped := [], anchor := none, zver := 0 }
  let prev := mapIf s.job.products (fun q => q.lane == j && q.next.isNone) (fun q => { q with next := some first })
  let (tok, s1) := s.takeToken
  let s2 := { s1 with job := { s1.job with products := prev ++ [p] } }
  let s3 := s2.updLane j (fun l => { l with nextNum := (num + 1) % 2 ^ 32 })
  let s4 := if tok then s3
    else ((s3.updProduct j num (fun p => { p with blank := true })).raiseMot Ev.pdRate [j, first]).reject j num
  let s5 := if s4.armLine p ≤ s4.computing && decide (s4.computing ≠ 0) then
      ((s4.updProduct j num (fun p => { p with blank := true })).raiseMot Ev.productLate [j, first]).reject j num
    else s4
  let s6 := match s5.job.disarm with
    | some (_, e, true) => if s5.job.st = JobSt.draining ∧ e < s5.prodEnd p then s5.reject j num else s5
    | _ => s5
  (((s6.commitArm j num).settleTargets p firstOfJob).settleBoundary).enterLane p

/-- Products whose last line has been fired are forgotten, but for the last two of each lane. -/
def State.pruneProducts (s : State) : State :=
  { s with job := { s.job with
      products := s.job.products.filter (fun p => s.inFlightProd p || decide (p.num + 2 ≥ (s.lane p.lane).nextNum)) } }

end Sys2Proof.Machine
end

