-- ==== Sys2Proof/Machine/Drop.lean ====
section
/-! DEFINITION. From level to drop: rows and nozzles, zones and tone, screening, missing nozzles, history classes, slots,
the energy governor, head temperature and overspeed, and the DROP group but for its zone tables (07 R226 to R257). -/

namespace Sys2Proof.Machine

/-! ## Rows and nozzles (07 R226 to R229) -/

/-- Key of a nozzle: channel, row and number. -/
def nozKey (c r g : Nat) : Nat := (4 * c + r) * 2 ^ 24 + g
/-- Key of an energy zone of a row. -/
def zoneKey (c r z : Nat) : Nat := (4 * c + r) * 2 ^ 16 + z
/-- ROW_K of a channel. -/
def State.rowK (s : State) (c : Nat) : Nat := s.itemN (Pid.rowK c)
/-- ROW_PHASE of a row. -/
def State.rowPhase (s : State) (c r : Nat) : Nat := s.itemN (Pid.rowPhase (4 * c + r))
/-- The rows of a channel with a phase, ascending. -/
def State.phaseRows (s : State) (c ph : Nat) : List Nat := (List.range 4).filter (fun r => s.rowPhase c r == ph)

/-- The nozzles of a row that a span owns within the print area: [first, last) (09 R285). -/
def State.nozRange (s : State) (k c r : Nat) : Nat × Nat :=
  let rs := s.phaseRows c (s.rowPhase c r)
  let m := max 1 rs.length
  let ix := (rs.findIdx? (· == r)).getD 0
  let a := s.spanStart k
  let b := min (a + s.spanWidth k) (s.itemN Pid.jobWidth)
  ((a + (m - 1 - ix)) / m, (b + (m - 1 - ix)) / m)

/-- The row and nozzle of the dot at a position of a web line (07 R227). -/
def State.nozzleAt (s : State) (c x n : Nat) : Option (Nat × Nat) :=
  let rs := s.phaseRows c (n % s.rowK c)
  (rs[x % rs.length]?).map (fun r => (r, x / rs.length))

/-- The position of a nozzle of a row (07 R227). -/
def State.nozzlePos (s : State) (c r g : Nat) : Nat :=
  let rs := s.phaseRows c (s.rowPhase c r)
  g * rs.length + (rs.findIdx? (· == r)).getD 0

/-- The nozzles of a row whose positions lie in [a, b), ascending. -/
def State.nozzlesIn (s : State) (c r a b : Nat) : List Nat :=
  let m := max 1 (s.phaseRows c (s.rowPhase c r)).length
  (List.range' (a / m - 1) (b / m + 2 - (a / m - 1))).filter (fun g => let x := s.nozzlePos c r g; decide (a ≤ x ∧ x < b))

/-- A firing line is an opportunity of a row: the web line it fires, if any (07 R228). -/
def State.oppLine (s : State) (c r l : Nat) : Option Nat :=
  let d := s.rowDelay c r
  if d ≤ l ∧ (l - d) % s.rowK c = s.rowPhase c r then some (l - d) else none

/-- The fire-time delay of a row on a firing line, in 1/256 tick (07 R229). -/
def State.fireDelay (s : State) (c r : Nat) (l : IssuedLine) : Nat :=
  match l.prevFire with
  | none => 0
  | some f0 => (s.itemN (Pid.rowOff (4 * c + r)) % 2 ^ 16 * (l.fire - f0)) / 2 ^ 16

/-! ## Zones and tone (07 R230 to R233) -/

/-- The zone of a span that covers a position of it (07 R230). -/
def zoneOf (start width x : Nat) : Nat :=
  ((List.range 64).find? (fun z => decide (start + z * width / 64 ≤ x ∧ x < start + (z + 1) * width / 64))).getD 63

/-- The global zone of a position: that of the span that owns it (07 R230). -/
def State.globalZone (s : State) (x : Nat) : Nat :=
  match s.usedSpans.find? (fun k => inIval x (s.spanStart k) (s.spanStart k + s.spanWidth k)) with
  | some k => 64 * k + zoneOf (s.spanStart k) (s.spanWidth k) x
  | none => 0

/-- A channel's table of a global zone. -/
def PrintSet.zoneTable (ps : PrintSet) (c z : Nat) : List Nat := NMap.get zoneIdentity ps.zone (256 * c + z)

/-- The tone of a composite value: the zone table, then the density trim (07 R232). -/
def toneOf (e : Nat) (trim : Int) : Nat := min 4095 (((e : Int) * (4096 + trim) + 2048) / 4096).toNat

/-- The nozzle map entry of a nozzle (07 R237). -/
def PrintSet.nozEntry (ps : PrintSet) (c r g : Nat) : Nat := NMap.get 0 ps.noz (nozKey c r g)
/-- TRIM of an entry. -/
def trimOf (e : Nat) : Int := sext 11 (bits e 10 0)

/-! ## Missing nozzles (07 R237, R238) -/

/-- The lane that covers a position, or 16. -/
def State.laneAt (s : State) (x : Nat) : Nat :=
  ((List.range 16).find? (fun j => decide (s.laneX0 j ≤ x ∧ x < s.laneX0 j + s.laneW j))).getD 16

/-- The node that carries a channel at a position: BAR_NODE of its bar for the span that owns it (09 R293). -/
def State.nodeAt (s : State) (c x : Nat) : Nat :=
  match s.barOf c, s.usedSpans.find? (fun k => inIval x (s.spanStart k) (s.spanStart k + s.spanWidth k)) with
  | some b, some k => s.itemN (Pid.barNode b k)
  | _, _ => 0

/-- The nozzle of the dot at a position of a web line is missing: by the map, its node, or its hub's report (07 R237). -/
def State.missing (s : State) (ps : PrintSet) (c x n : Nat) : Bool :=
  match s.nozzleAt c x n with
  | none => true
  | some (r, g) =>
    bit (ps.nozEntry c r g) 15 || ps.absent.contains (17 * s.nodeAt c x + s.laneAt x) ||
      (NMap.get 0 ps.failed (nozKey c r g) ≠ 0 && PMap.item ps.items (Pid.nozAuto c) == 1)

/-- Present: in the print area, and not missing (07 R238). -/
def State.present (s : State) (ps : PrintSet) (c n : Nat) (x : Int) : Bool :=
  decide (0 ≤ x ∧ x < s.itemN Pid.jobWidth) && !s.missing ps c x.toNat n

/-- Where the level of a missing nozzle's dot goes: positions with their shares, none when it is lost (07 R238). -/
def shares (present : Int → Bool) (n : Nat) (x : Int) (lv : Nat) : Option (List (Int × Nat)) :=
  let p : Int := if n % 2 = 0 then 1 else -1
  let try_ := fun (d : Int) =>
    let a := present (x + p * d)
    let b := present (x - p * d)
    if a && b then some [(x + p * d, (lv + 1) / 2), (x - p * d, lv / 2)]
    else if a then some [(x + p * d, lv)]
    else if b then some [(x - p * d, lv)]
    else none
  match try_ 1 with
  | some l => some l
  | none => try_ 2

/-- What stage 8 gives a position: its level, and what was clipped (07 R238). -/
def stage8 (present : Int → Bool) (n : Nat) (lv0 : Int → Nat) (x : Int) : Nat × Nat :=
  if !present x then (0, 0)
  else
    let add := ([x - 2, x - 1, x + 1, x + 2].map (fun y =>
      if lv0 y > 0 && !present y then
        (((shares present n y (lv0 y)).getD []).filter (fun e => decide (e.1 = x))).foldl (fun a e => a + e.2) 0
      else 0)).foldl (· + ·) 0
    let want := lv0 x + add
    (min 6 want, want - 6)

/-! ## Screening (07 R234, R235) -/

/-- The level of a tone under an array at a position of a web line (07 R235). -/
def ScreenArr.level (a : ScreenArr) (offx offy x n v : Nat) : Nat :=
  let cell := a.cells.getD (((n + offy) % a.ah) * a.aw + (x + offx) % a.aw) []
  (cell.filter (fun t => decide (t ≤ v))).length

/-- The thresholds of a 9-byte cell (07 R234). -/
def cellOf (b : List Byte) : List Nat := (List.range 6).map (fun k => leVal b / 2 ^ (12 * k) % 4096)

/-- A cell's thresholds obey the order rule. -/
def cellOk (t : List Nat) : Bool := decide (1 ≤ t.headD 0) && (t.zip (t.drop 1)).all (fun p => decide (p.1 ≤ p.2))

/-- A threshold array from its bytes, if valid (07 R234). -/
def screenOf (bs : List Byte) : Option ScreenArr :=
  let aw := fld bs 4 2
  let ah := fld bs 6 2
  let cells := (chunks 9 (bs.drop 16) (aw * ah)).map cellOf
  if decide (fld bs 0 2 = 0x4154 ∧ fld bs 2 1 = 1 ∧ fld bs 3 1 = 0 ∧ fld bs 8 8 = 0 ∧ 1 ≤ aw ∧ aw ≤ 256 ∧ 1 ≤ ah ∧ ah ≤ 256) && cells.all cellOk then
    some { aw := aw, ah := ah, cells := cells }
  else none

/-! ## Records, classes and slots (07 R241 to R244) -/

/-- A cleared firing record (07 R241). -/
def NozRec.clear : NozRec := { h1 := false, h2 := false, idle := 0 }

/-- The record after an opportunity (07 R241). -/
def NozRec.next (r : NozRec) (fired : Bool) : NozRec :=
  { h1 := fired, h2 := r.h1, idle := if fired then 0 else satInc 16 r.idle }

/-- History class: 0 for H0, 1 for H1, 2 for H2 (07 R243). -/
def NozRec.cls (r : NozRec) : Nat := if r.h1 then 2 else if r.h2 then 1 else 0

/-- The slot of a level and class (07 R244). -/
def SlotTbl.slot (t : SlotTbl) (l h : Nat) : Nat := t.map.getD (3 * l + h) 0
/-- The energy of a level and class. -/
def SlotTbl.cost (t : SlotTbl) (l h : Nat) : Nat := t.energy.getD (t.slot l h) 0

/-- The slot table of a channel. -/
def PrintSet.slotTbl (ps : PrintSet) (c : Nat) : SlotTbl := NMap.get SlotTbl.reset ps.slots c

/-! ## The energy governor (07 R245 to R248) -/

/-- A part of an energy zone at no energy (07 R246). -/
def GovPart.clear : GovPart := { e := [], lower := 0, drop := 0, lastLower := none, lastDrop := none }

/-- The limit of a part: its nozzles' share of GOV_LIMIT, reduced by the head-temperature step (07 R245). -/
def govLim (limit cnt step : Nat) : Nat := limit * cnt / 256 * (8 - step) / 8

/-- Energy of the earlier lines of the window (07 R246). -/
def GovPart.past (p : GovPart) (l w : Nat) : Nat :=
  ((p.e.filter (fun e => decide (l + 1 ≤ e.1 + w ∧ e.1 < l))).map (·.2)).foldl (· + ·) 0

/-- The governor at work: levels with classes, the line's energy, and dots lowered and dropped. -/
structure GovRun where
  dots : List (Nat × Nat)
  e : Nat
  lowered : List Nat
  dropped : List Nat
  deriving DecidableEq, Repr

/-- One pass: each dot in order that stands at a level goes to another, until the part fits (07 R247). kind: 0 spits,
1 lowering, 2 dropping. -/
def govPass (t : SlotTbl) (past lim from_ till kind : Nat) : List Nat → GovRun → GovRun
  | [], g => g
  | i :: r, g =>
    if past + g.e ≤ lim then g
    else
      let d := g.dots.getD i (0, 0)
      if d.1 ≠ from_ then govPass t past lim from_ till kind r g
      else
        let g' : GovRun :=
          { dots := g.dots.set i (till, d.2), e := g.e + t.cost till d.2 - t.cost from_ d.2,
            lowered := if kind = 1 then g.lowered ++ [i] else g.lowered, dropped := if kind = 2 then g.dropped ++ [i] else g.dropped }
        govPass t past lim from_ till kind r g'

/-- The governor on one part: spits from the highest index, levels 6 to 2 lowered from the lowest, then drops (07 R247). -/
def govern (t : SlotTbl) (past lim : Nat) (dots : List (Nat × Nat)) : GovRun :=
  let e := (dots.map (fun d => t.cost d.1 d.2)).foldl (· + ·) 0
  let up := List.range dots.length
  let down := up.reverse
  let g0 : GovRun := { dots := dots, e := e, lowered := [], dropped := [] }
  let g1 := govPass t past lim 7 0 0 down g0
  let g2 := [6, 5, 4, 3, 2].foldl (fun g l => govPass t past lim l (l - 1) 1 up g) g1
  govPass t past lim 1 0 2 down g2

/-! ## Head temperature (07 R250) -/

/-- The step that a temperature report gives, from the present step; 5 is rest (07 R250). -/
def headStep (t1 st hyst : Int) (temp : Int) : Nat → Nat → Nat
  | 0, cur => cur
  | n + 1, cur =>
    let thr := fun (k : Nat) => t1 + ((k : Int) - 1) * st
    if cur < 5 ∧ temp ≥ thr (cur + 1) then headStep t1 st hyst temp n (cur + 1)
    else if cur > 0 ∧ temp < thr cur - hyst then headStep t1 st hyst temp n (cur - 1)
    else cur

/-- The step of an energy zone after every change prepared. -/
def State.headNow (s : State) (key : Nat) : Nat :=
  NMap.get 0 ((s.job.commits.foldl (fun x c => x.apply c.change) s.job.base).ht) key

/-- A head temperature is reported for an energy zone: each change of step is committed at the next line boundary and
raised (07 R250). -/
def State.headTemp (s : State) (c r z : Nat) (temp : Int) : State :=
  let key := zoneKey c r z
  let cur := s.headNow key
  let nxt := headStep (s.itemNow (Pid.htT1 c)) (s.itemNow (Pid.htStep c)) (s.itemNow (Pid.htHyst c)) temp 5 cur
  if nxt = cur then s
  else
    let s1 := (s.changeOwn (.ht key nxt)).raiseLead Ev.headTempStep [c, r, z, nxt]
    if nxt = 5 then s1.raiseLead Ev.zoneRest [c, r, z, s.chooseLine (.ht key nxt)]
    else if cur = 5 then s1.raiseLead Ev.zoneResume [c, r, z, s.chooseLine (.ht key nxt)]
    else s1

/-! ## Overspeed (07 R251 to R253) -/

/-- The state after a line: 0 NORMAL, 1 COALESCE, 2 BLANK; rate is K * 2^44 times the firing rate in lines a tick, top the
row's maximum in the same measure (07 R251). -/
def overNext (st : Nat) (rate top : Int) : Nat :=
  if st = 0 then (if rate > 2 * top then 2 else if rate > top then 1 else 0)
  else if st = 1 then (if rate > 2 * top then 2 else if rate * 64 ≤ top * 63 then 0 else 1)
  else (if rate * 64 ≤ 2 * top * 63 then 1 else 2)

/-- The overspeed state of every row at the issue of line n, with its events; the states issued go with the line (07
R251, R253). -/
def State.overIssue (s : State) (n : Nat) : State :=
  s.rows.foldl (fun s x =>
    let key := 4 * x.1 + x.2
    let st := NMap.get 0 s.motion.overs key
    let rate := s.motion.loop.f * 250_000_000
    let top : Int := s.itemN (Pid.rowFmax key) * s.rowK x.1 * 2 ^ 44
    let nx := overNext st rate top
    let s1 := { s with motion := { s.motion with overs := NMap.set 0 s.motion.overs key nx } }
    let s2 := if st = 0 ∧ nx ≠ 0 then s1.raiseMot Ev.overspeed1 [x.1, x.2, n] else s1
    let s3 := if st ≠ 2 ∧ nx = 2 then (s2.raiseMot Ev.overspeed2 [x.1, x.2, n]).stopSource 0 else s2
    if st ≠ 0 ∧ nx = 0 then s3.raiseMot Ev.overspeedEnd [x.1, x.2, n] else s3) s

/-- What a row's firing line does: 0 fires normally, 1 fires nothing without a spit (an opening line that waits for its
closing line), 2 fires the pair's levels coalesced, 3 is blanked (07 R252). openFired says whether the pair's opening line
fired normally. -/
def pairAct (opening : Bool) (st : Nat) (openFired : Bool) : Nat :=
  if opening then (if st = 0 then 0 else if st = 2 then 3 else 1)
  else if st = 2 then 3
  else if openFired then 0
  else 2

/-- The coalesced level (07 R252). -/
def coalesce (a b : Nat) : Nat := if max a b = 0 then 0 else min 6 (max a b + 1)

/-! ## DROP.SCREEN (07 R234) -/

/-- A threshold slot is SCR_SLOT of a channel of an armed job, in force or in a committed change (07 R234). -/
def State.screenBusy (s : State) (slot : Nat) : Bool :=
  s.armed && (bitsOf 12 s.activeCh).any (fun c =>
    decide (s.itemNow (Pid.scrSlot c) = slot) || s.job.commits.any (fun d => d.committed && decide (s.motion.lastLine < d.line) && (match d.change with
      | .parms es => es.any (fun e => e.1 == Pid.scrSlot c && decide (e.2 = slot))
      | _ => false)))

/-- Bytes of a threshold array by its header. -/
def screenLen (h : List Byte) : Nat := 16 + 9 * (fld h 4 2 * fld h 6 2)

/-- DROP.SCREEN: the array goes into a slot of every tile (07 R234). -/
def actDropScreen (s : State) (p : Packet) (_ : List Byte) : State :=
  let a := p.da 3
  s.withBlock p.seq s.allSpans a 16 (fun s h =>
    if fld h 4 2 > 256 ∨ fld h 6 2 > 256 then s.done p.seq St.screenBad
    else if !s.inJob a (screenLen h) then s.done p.seq St.addrRange
    else s.withBlock p.seq s.allSpans a (screenLen h) (fun s bs =>
      match screenOf bs with
      | none => s.done p.seq St.screenBad
      | some x => (s.onDie 7 (fun d => { d with screen := vset d.screen (p.f 2 2 0) x })).done p.seq St.ok))

/-- DROP.SCREEN. -/
def opDropScreen : OpDef :=
  { code := 0x0701, cls := clsSOJ, named := [7, 0xFFFF_FFFF, 0xFF], prot := noProt,
    access := fun s p _ => [{ spans := s.allSpans, base := p.da 3, len := screenLen (s.spanRead 0 (p.da 3) 16), write := false }],
    check := fun s p =>
      if p.da 3 % 64 ≠ 0 then (St.screenBad, 0, 0)
      else if !s.inJob (p.da 3) 16 then (St.addrRange, 0, 0)
      else (if s.screenBusy (p.f 2 2 0) then St.screenBusy else St.ok, 0, 0),
    read := noRead, waits := fun s _ _ => s.allSpans, bind := noBind, act := actDropScreen }

/-! ## DROP.SLOTS (07 R244) -/

/-- The slot table and energies that a packet carries (13 R447). -/
def slotsOf (p : Packet) : SlotTbl :=
  let m := p.dw 3 + 2 ^ 32 * p.dw 4 + 2 ^ 64 * p.dw 5
  { map := (List.range 24).map (fun i => m / 2 ^ (4 * i) % 16),
    energy := (List.range 8).flatMap (fun i => [p.f (6 + i) 15 0, p.f (6 + i) 31 16]) }

/-- A slot table obeys R244. -/
def SlotTbl.ok (t : SlotTbl) : Bool :=
  (List.range 3).all (fun h => decide (t.slot 0 h = 0) && (List.range' 1 7).all (fun l => decide (t.slot l h ≠ 0)) &&
    (List.range' 1 5).all (fun l => decide (t.cost l h ≤ t.cost (l + 1) h))) && decide (t.energy.headD 0 = 0)

/-- DROP.SLOTS. -/
def opDropSlots : OpDef :=
  { code := 0x0702, cls := clsSOJ, named := 0xF :: List.replicate 11 0xFFFF_FFFF, prot := noProt, access := noAccess,
    check := fun _ p =>
      if p.f 2 3 0 > 11 ∨ (slotsOf p).energy.any (fun e => decide (e > 16383)) then (St.dropArg, 0, 0)
      else (if (slotsOf p).ok then St.ok else St.slotBad, 0, 0),
    read := noRead, waits := noWaits, bind := noBind, act := fun s p _ => s.changeFor p.seq (.slots (p.f 2 3 0) (slotsOf p)) }

/-! ## DROP.NOZZLES (07 R237) -/

/-- A nozzle map entry obeys R237. -/
def nozEntryOk (e : Nat) : Bool := decide (bits e 14 11 = 0 ∧ -512 ≤ trimOf e ∧ trimOf e ≤ 512)

/-- DROP.NOZZLES: the entries of a run of nozzles apply at the next line boundary (07 R237). -/
def actDropNozzles (s : State) (p : Packet) (_ : List Byte) : State :=
  let n := p.f 4 16 0
  s.withBlock p.seq s.allSpans (p.da 5) (2 * n) (fun s bs =>
    let es := (chunks 2 bs n).map leVal
    if es.all nozEntryOk then
      let ks := (es.zipIdx).filterMap (fun e =>
        if p.dw 3 + e.2 < 2 ^ 24 then some (nozKey (p.f 2 3 0) (p.f 2 5 4) (p.dw 3 + e.2), e.1) else none)
      s.changeFor p.seq (.noz ks)
    else s.done p.seq St.nozmapBad)

/-- DROP.NOZZLES. -/
def opDropNozzles : OpDef :=
  { code := 0x0703, cls := clsSOJ, named := [0x3F, 0xFFFF_FFFF, 0x1_FFFF, 0xFFFF_FFFF, 0xFF], prot := noProt,
    access := fun s p _ => [{ spans := s.allSpans, base := p.da 5, len := 2 * p.f 4 16 0, write := false }],
    check := fun s p =>
      if p.f 2 3 0 > 11 ∨ p.f 4 16 0 = 0 ∨ p.f 4 16 0 > 65536 then (St.dropArg, 0, 0)
      else (if s.inJob (p.da 5) (2 * p.f 4 16 0) then St.ok else St.addrRange, 0, 0),
    read := noRead, waits := fun s _ _ => s.allSpans, bind := noBind, act := actDropNozzles }

/-! ## DROP.STATUS (07 R254) -/

/-- The parts of a row that a tile governs: those of its zones that hold nozzles of its span (07 R245). -/
def State.zoneParts (s : State) (t c r : Nat) : List Nat :=
  let g := s.nozRange (t / 2) c r
  if g.2 ≤ g.1 then [] else List.range' (g.1 / 256) ((g.2 - 1) / 256 + 1 - g.1 / 256)

/-- What DROP.STATUS reports of a part: its counters, its step and its window sum (07 R254). -/
def State.partQuantities (s : State) (t c r z : Nat) : List Int :=
  let p := NMap.get GovPart.clear (s.tileN t).gov (zoneKey c r z)
  [qn t, qn c, qn r, qn z, qn p.lower, qn p.drop, qn (s.headNow (zoneKey c r z)),
   qn (p.past (s.motion.lastLine + 1) (s.itemNowN (Pid.govW c)))]

/-- What DROP.STATUS reports of channels: every part on each tile, rows and nozzle counters (07 R254). -/
def State.dropQuantities (s : State) (mask : Nat) : List (List Int) :=
  (bitsOf 12 mask).flatMap (fun c =>
    (s.tileList.flatMap (fun t =>
      let x := s.tileN t
      (s.rowsOf c).flatMap (fun r => (s.zoneParts t c r).map (s.partQuantities t c r)) ++
      [[qn t, qn c, qn (vget x.nozLost c 0), qn (vget x.nozClip c 0)]])) ++
    (s.rowsOf c).map (fun r => [qn c, qn r, qn (NMap.get 0 s.motion.overs (4 * c + r))]))

/-- DROP.STATUS. -/
def opDropStatus : OpDef :=
  { code := 0x0705, cls := clsAll, named := rptNamed 0xFFF, prot := noProt, access := noAccess, check := noCheck, read := noRead,
    waits := noWaits, bind := noBind, act := fun s p _ => s.reportQ p (s.dropQuantities (p.selector 12)) }

/-! ## What JOB.ARM checks (07 R226, R250) -/

/-- The rows and head-temperature settings of a job's channels: 0 or the status (07 R226, R250). -/
def State.armDrop (s : State) : Nat :=
  let bad := fun (c : Nat) =>
    let k := s.rowK c
    let phs := (List.range 4).map (s.rowPhase c)
    let used := fun (r : Nat) => decide (s.rowPhase c r ≠ 255)
    let gap := fun (r : Nat) => !used r && (List.range r).any used && (List.range 4).any (fun q => decide (r < q) && used q)
    (List.range k).any (fun ph => !phs.contains ph) || phs.any (fun ph => decide (ph ≠ 255 ∧ ph ≥ k)) ||
      (List.range 4).any gap || decide (s.item (Pid.htHyst c) ≥ s.item (Pid.htStep c))
  if (bitsOf 12 s.activeCh).any bad then St.dropArg else St.ok

/-! ## Meanings -/

/-- R234: DROP.SCREEN. -/
def execDropScreen (p : Packet) (s : State) : Out := .next (opDropScreen.dispatch s p)
/-- R244: DROP.SLOTS. -/
def execDropSlots (p : Packet) (s : State) : Out := .next (opDropSlots.dispatch s p)
/-- R237: DROP.NOZZLES. -/
def execDropNozzles (p : Packet) (s : State) : Out := .next (opDropNozzles.dispatch s p)
/-- R254: DROP.STATUS. -/
def execDropStatus (p : Packet) (s : State) : Out := .next (opDropStatus.dispatch s p)

end Sys2Proof.Machine
end

