-- ==== Sys2Proof/Machine/Fix.lean ====
section
/-! DEFINITION. Fixed-point arithmetic of 40 fraction bits, and the CIEDE2000 colour difference (08 R268, R278, R279).
The spec gives the difference as a real number; the model computes it with errors far below 0.01 and truncates it to
0.01 units (log 30). -/

namespace Sys2Proof.Machine

/-- The unit of the fixed-point numbers. -/
def fxOne : Int := 2 ^ 40
/-- Product. -/
def fxMul (a b : Int) : Int := (a * b).fdiv fxOne
/-- Quotient. -/
def fxDiv (a b : Int) : Int := if b = 0 then 0 else (a * fxOne).fdiv b
/-- A decimal of three places. -/
def fxMilli (n : Int) : Int := (n * fxOne).fdiv 1000
/-- The circle constant. -/
def fxPi : Int := 3454217652358
/-- An angle of whole degrees. -/
def fxDeg (d : Int) : Int := (d * fxPi).fdiv 180

/-- Integer square root, bit by bit from bit n - 1 of the root. -/
def isqrtFrom (n : Nat) : Nat → Nat → Nat
  | 0, r => r
  | k + 1, r => if (r + 2 ^ k) * (r + 2 ^ k) ≤ n then isqrtFrom n k (r + 2 ^ k) else isqrtFrom n k r
/-- The integer square root of a number below 2^192. -/
def isqrt (n : Nat) : Nat := isqrtFrom n 96 0
/-- Square root. -/
def fxSqrt (x : Int) : Int := isqrt (x * fxOne).toNat

/-- The Taylor sum of a sine or cosine: term t at index n, k terms left. -/
def trigSum (x2 : Int) : Nat → Int → Int → Int → Int
  | 0, _, _, acc => acc
  | k + 1, n, t, acc => trigSum x2 k (n + 2) (-(fxMul t x2).tdiv ((n + 1) * (n + 2))) (acc + t)

/-- An angle brought into (-pi, pi]. -/
def fxWrap (x : Int) : Int := x - 2 * fxPi * ((x + fxPi).fdiv (2 * fxPi))
/-- Sine. -/
def fxSin (x : Int) : Int := let y := fxWrap x; trigSum (fxMul y y) 20 1 y 0
/-- Cosine. -/
def fxCos (x : Int) : Int := let y := fxWrap x; trigSum (fxMul y y) 20 0 fxOne 0

/-- The arctangent series of a small argument. -/
def atanSum (x2 : Int) : Nat → Int → Int → Int → Int
  | 0, _, _, acc => acc
  | k + 1, n, t, acc => atanSum x2 k (n + 2) (-(fxMul t x2)) (acc + t.tdiv n)
/-- Half the angle: the tangent of half of atan x. -/
def atanHalf (x : Int) : Int := fxDiv x (fxOne + fxSqrt (fxOne + fxMul x x))
/-- Arctangent of an argument of size at most 1. -/
def fxAtan (x : Int) : Int := let y := atanHalf (atanHalf x); 4 * atanSum (fxMul y y) 20 1 y 0
/-- The hue angle of (a, b), in [0, 2 pi); 0 where both are 0. -/
def fxHue (a b : Int) : Int :=
  if a = 0 ∧ b = 0 then 0
  else
    let r :=
      if b.natAbs ≤ a.natAbs then (if a > 0 then fxAtan (fxDiv b a) else fxPi + fxAtan (fxDiv b a))
      else (if b > 0 then fxPi.fdiv 2 - fxAtan (fxDiv a b) else -(fxPi.fdiv 2) - fxAtan (fxDiv a b))
    if r < 0 then r + 2 * fxPi else r

/-- Repeated squaring. -/
def fxSquares : Nat → Int → Int
  | 0, x => x
  | k + 1, x => fxSquares k (fxMul x x)
/-- exp(-y) for y at or above 0. -/
def fxExpNeg (y : Int) : Int :=
  if y ≥ 28 * fxOne then 0
  else
    let z := -(y.fdiv 256)
    let t := fun (n : Nat) => (List.range n).foldl (fun (t : Int) (i : Nat) => (fxMul t z).tdiv (i + 1)) fxOne
    fxSquares 8 (((List.range 10).map t).foldl (· + ·) 0)

/-- sqrt(C^7 / (C^7 + 25^7)) (CIEDE2000). -/
def fxC7 (c : Int) : Int :=
  let c7 := (List.range 6).foldl (fun x _ => fxMul x c) c
  fxSqrt (fxDiv c7 (c7 + 6103515625 * fxOne))

/-- CIEDE2000 with kL = kC = kH = 1, of two colours in s8.8, in fixed point (08 R268). -/
def deltaE (x y : Lab) : Int :=
  let fx := fun (v : Int) => v * 2 ^ 32
  let sq := fun (v : Int) => fxMul v v
  let c1 := fxSqrt (sq (fx x.a) + sq (fx x.b))
  let c2 := fxSqrt (sq (fx y.a) + sq (fx y.b))
  let g := (fxOne - fxC7 ((c1 + c2).fdiv 2)).fdiv 2
  let a1 := fxMul (fxOne + g) (fx x.a)
  let a2 := fxMul (fxOne + g) (fx y.a)
  let d1 := fxSqrt (sq a1 + sq (fx x.b))
  let d2 := fxSqrt (sq a2 + sq (fx y.b))
  let h1 := fxHue a1 (fx x.b)
  let h2 := fxHue a2 (fx y.b)
  let grey := d1 = 0 ∨ d2 = 0
  let dh := if grey then 0 else if h2 - h1 > fxPi then h2 - h1 - 2 * fxPi else if h2 - h1 < -fxPi then h2 - h1 + 2 * fxPi else h2 - h1
  let dL := fx y.l - fx x.l
  let dC := d2 - d1
  let dH := 2 * fxMul (fxSqrt (fxMul d1 d2)) (fxSin (dh.fdiv 2))
  let lb := (fx x.l + fx y.l).fdiv 2
  let cb := (d1 + d2).fdiv 2
  let hs := h1 + h2
  let hb := if grey then hs else if (h1 - h2).natAbs ≤ fxPi.natAbs then hs.fdiv 2 else if hs < 2 * fxPi then (hs + 2 * fxPi).fdiv 2 else (hs - 2 * fxPi).fdiv 2
  let t := fxOne - fxMul (fxMilli 170) (fxCos (hb - fxDeg 30)) + fxMul (fxMilli 240) (fxCos (2 * hb)) + fxMul (fxMilli 320) (fxCos (3 * hb + fxDeg 6)) - fxMul (fxMilli 200) (fxCos (4 * hb - fxDeg 63))
  let u := fxDiv (hb - fxDeg 275) (fxDeg 25)
  let dth := fxMul (fxDeg 30) (fxExpNeg (sq u))
  let rc := 2 * fxC7 cb
  let l5 := sq (lb - 50 * fxOne)
  let sl := fxOne + fxDiv (fxMul (fxMilli 15) l5) (fxSqrt (20 * fxOne + l5))
  let sc := fxOne + fxMul (fxMilli 45) cb
  let sh := fxOne + fxMul (fxMul (fxMilli 15) cb) t
  let rt := -(fxMul (fxSin (2 * dth)) rc)
  let eL := fxDiv dL sl
  let eC := fxDiv dC sc
  let eH := fxDiv dH sh
  fxSqrt (sq eL + sq eC + sq eH + fxMul rt (fxMul eC eH))

/-- The difference in units of 0.01 (08 R279). -/
def deltaE100 (x y : Lab) : Nat := ((deltaE x y * 100).fdiv fxOne).toNat

end Sys2Proof.Machine
end

