-- ==== Sys2Proof/Machine/Phy.lean ====
section
/-! DEFINITION. WyrelLink on the wire: 64b/66b blocks and their scrambler, frames in blocks, FILL, and the sync headers by
which a receiver keeps block lock (10 R306 to R310). -/

namespace Sys2Proof.Machine

/-! ## The scrambler (10 R306) -/

/-- The bit that 1 + x^39 + x^58 adds, from the last 58 bits on the line, the latest in bit 0. -/
def scrTap (st : Nat) : Nat := (st / 2 ^ 38 + st / 2 ^ 57) % 2
/-- The last 58 bits on the line after one more. -/
def scrPush (st b : Nat) : Nat := (2 * st + b) % 2 ^ 58

/-- Payload bits, bit 0 first, as they go out on the line, with the register after them. -/
def scramble (st : Nat) (w : Nat) : Nat × Nat :=
  (List.range 64).foldl (fun a i => let b := (w / 2 ^ i + scrTap a.2) % 2; (a.1 + 2 ^ i * b, scrPush a.2 b)) (0, st)
/-- Bits of the line as the payload that they carry, with the register after them. -/
def descramble (st : Nat) (w : Nat) : Nat × Nat :=
  (List.range 64).foldl (fun a i => let b := w / 2 ^ i % 2; (a.1 + 2 ^ i * ((b + scrTap a.2) % 2), scrPush a.2 b)) (0, st)

/-! ## Frames in blocks (10 R308, R309) -/

/-- Blocks of a frame of some bytes. -/
def blockCount (len : Nat) : Nat := ceilDiv len 8
/-- The payloads of a frame: 8 bytes each, byte 0 in the low bits, zero past its length. -/
def payloads (bs : List Byte) : List Nat := (List.range (blockCount bs.length)).map (fun i => leVal ((bs.drop (8 * i)).take 8))
/-- Sync headers of the first block of a frame and of the others (10 R306). -/
def syncOf (i : Nat) : BitVec 2 := if i = 0 then 0b10 else 0b01
/-- A FILL frame (10 R309). -/
def fillBytes : List Byte := 0x0F :: List.replicate 7 0

/-- A frame as the blocks that cross the pin, with the scrambler after them (10 R306, R308). -/
def wireBlocks (st : Nat) (bs : List Byte) : List Block × Nat :=
  (payloads bs).zipIdx.foldl (fun a e =>
    let x := scramble a.2 e.1
    (a.1 ++ [{ sync := syncOf e.2, data := BitVec.ofNat 64 x.1 }], x.2)) ([], st)

/-! ## Receiving (10 R306 to R308) -/

/-- The sync header is 0b01 or 0b10. -/
def syncOk (b : Block) : Bool := b.sync == 0b01 || b.sync == 0b10

/-- A receiver has seen a block: the last 64 headers, and the descrambler, which follows the line. -/
def LaneHw.see (x : LaneHw) (b : Block) : LaneHw :=
  { x with
    heads := (syncOk b :: x.heads).take 64, rxScr := (descramble x.rxScr b.data.toNat).2
    lockRun := if x.lock then min 1024 (x.lockRun + 1) else 0 }
/-- The payload bytes of a block. -/
def LaneHw.payload (x : LaneHw) (b : Block) : List Byte := leBytes 8 (descramble x.rxScr b.data.toNat).1
/-- 64 consecutive valid headers (10 R307). -/
def LaneHw.locks (x : LaneHw) : Bool := decide (x.heads.length = 64) && x.heads.all (fun h => h)
/-- 16 of the last 64 headers are invalid (10 R307). -/
def LaneHw.loses (x : LaneHw) : Bool := decide (16 ≤ (x.heads.filter (fun h => !h)).length)

/-- The length in bytes of a frame from its first block: FILL, or LEN (10 R308 to R310). -/
def rxLen (bs : List Byte) : Nat := if leAt bs 0 1 = 15 then 8 else leAt bs 6 2
/-- A frame in progress has all of its blocks. -/
def rxWhole (bs : List Byte) : Bool := decide (blockCount (rxLen bs) ≤ blockCount bs.length)

/-! ## Slots in bytes (10 R313) -/

/-- The slot bytes of a LINE frame. -/
def slotBytes : List Nat → List Byte
  | [] => []
  | [a] => [BitVec.ofNat 8 a]
  | a :: b :: r => BitVec.ofNat 8 (a + 16 * b) :: slotBytes r

/-- The slots of n nozzles in the slot bytes of a LINE frame. -/
def slotsIn (bs : List Byte) (n : Nat) : List Nat :=
  (List.range n).map (fun i => leAt bs (i / 2) 1 / 16 ^ (i % 2) % 16)

end Sys2Proof.Machine
end

