-- ==== Sys2Proof/Machine/Frames.lean ====
section
/-! DEFINITION. Frames that the package sends: their bytes, the lanes that carry them, and the order in which they leave (10
R306 to R314, R328, R336, R337, R339; 09 R295, R298). -/

namespace Sys2Proof.Machine

/-! ## Lanes of a tile -/

/-- The power domain of a lane (01 R46). -/
def laneDomain (l : Nat) : Nat := if l < 4 then 11 else if l < 8 then 12 else 13
/-- A lane of a tile. -/
def TileState.lane (x : TileState) (l : Nat) : LaneHw := vget x.lanes l LaneHw.reset
/-- A lane is trained: it is UP (16 R503). -/
def TileState.laneUp (x : TileState) (l : Nat) : Bool := decide ((x.lane l).st = 2)
/-- Payload bits of a lane a tick (09 R298). -/
def TileState.laneBits (x : TileState) (l : Nat) : Nat := if (x.lane l).rate = 1 then 100 else 40
/-- A tile with a lane changed. -/
def TileState.updLane (x : TileState) (l : Nat) (f : LaneHw → LaneHw) : TileState := { x with lanes := vupd x.lanes l LaneHw.reset f }
/-- A lane of a tile. -/
def State.lnk (s : State) (t l : Nat) : LaneHw := (s.tileN t).lane l
/-- The package with a lane of a tile changed. -/
def State.updLnk (s : State) (t l : Nat) (f : LaneHw → LaneHw) : State := s.updTileN t (fun x => x.updLane l f)
/-- The power domain of a lane is on. -/
def State.lnkOn (s : State) (t l : Nat) : Bool := (s.tileN t).on (laneDomain l)

/-! ## The bytes of a frame (10 R310, R313, R314, R328, R336, R337, R339) -/

/-- A timestamp in 1/256 tick as its whole ticks and its phase. -/
def stampBytes (t : Nat) : List Byte := leBytes 8 (t / 256) ++ leBytes 1 (t % 256)
/-- The bytes of a frame between its header and its check, from its fields in the order of its table: a TIME stamp is one
field, in 1/256 tick, and an EVENT's data are its bytes. -/
def OutFrame.body (f : OutFrame) : List Byte :=
  let g := fun (i : Nat) => f.fields.getD i 0
  if f.type = 1 then
    leBytes 2 (g 0) ++ leBytes 6 (g 1) ++ leBytes 8 (g 2) ++ leBytes 1 (g 3) ++ zeros 1 ++ leBytes 2 (g 4) ++ slotBytes (f.fields.drop 5)
  else if f.type = 2 then
    leBytes 2 (g 0) ++ leBytes 6 (g 1) ++ leBytes 8 (g 2) ++ leBytes 1 (g 3) ++ leBytes 1 (g 4) ++ leBytes 2 (g 5)
  else if f.type = 3 then
    leBytes 1 (g 0) ++ leBytes 1 (g 1) ++ zeros 2 ++ stampBytes (g 2) ++ zeros 3 ++ stampBytes (if g 0 = 2 then g 3 else 0) ++ zeros 3
      ++ leBytes 5 (if g 0 = 3 then g 3 else 0) ++ zeros 3
  else if f.type = 4 then
    leBytes 2 (g 0) ++ leBytes 1 (g 1) ++ leBytes 1 (g 2) ++ leBytes 4 (g 3) ++ (f.fields.drop 4).flatMap (leBytes 4)
  else if f.type = 6 then
    let d := f.fields.drop 4
    leBytes 2 (g 0) ++ leBytes 2 (g 1) ++ leBytes 8 (g 2) ++ leBytes 1 (g 3) ++ leBytes 1 d.length ++ zeros 2
      ++ d.map (fun b => BitVec.ofNat 8 b) ++ zeros (4 * ceilDiv d.length 4 - d.length)
  else
    leBytes 1 (g 0) ++ leBytes 1 (g 1) ++ leBytes 2 (g 2) ++ leBytes 8 (g 3) ++ leBytes 2 (g 4) ++ leBytes 2 (g 5) ++ leBytes 1 (g 6)
      ++ leBytes 1 (g 7) ++ leBytes 2 (g 8) ++ leBytes 4 (g 9) ++ leBytes 4 (g 10) ++ leBytes 4 (g 11)

/-- LEN of a frame (10 R310). -/
def OutFrame.len (f : OutFrame) : Nat := f.body.length + 12

/-- The bytes of a frame: its header with the sending tile and the package's node ID, its fields, and CHECK (10 R310). -/
def OutFrame.bytes (f : OutFrame) (src : Nat) : List Byte :=
  let head := leBytes 1 f.type ++ leBytes 1 (0x10 + 2 * f.tile) ++ leBytes 2 f.node ++ leBytes 2 src ++ leBytes 2 f.len ++ f.body
  head ++ leBytes 4 (crc32c head)

/-! ## What leaves a lane (09 R295, R298; 10 R309; 16 R503, R506) -/

/-- A lane transmits: its domain is on, it trains, is UP or DOWN, and its transmitter is awake. -/
def TileState.laneSends (x : TileState) (l : Nat) : Bool :=
  let y := x.lane l
  x.on (laneDomain l) && decide (1 ≤ y.st ∧ y.st ≤ 3 ∧ y.txslp = 0)

/-- A FILL goes before a frame of some blocks, so that one goes in every 4,096 blocks (10 R309). -/
def LaneHw.fillFirst (x : LaneHw) (blocks : Nat) : Bool := decide (4096 ≤ x.sinceFill + blocks)

/-- 1/200 ticks that some blocks take on a lane. -/
def TileState.blockTime (x : TileState) (l n : Nat) : Nat := 64 * n * (200 / x.laneBits l)

/-- When the first bit of a frame of some bytes that is sent now leaves, 1/200 tick of the tile's TIME: after the frame that
the lane sends, and after a FILL where one is due (09 R295; 10 R309). -/
def State.sendStart (s : State) (t l bytes : Nat) : Nat :=
  let x := s.tileN t
  max (200 * s.tileNow (tileIx t)) (vget x.laneBusy l 0) + (if (x.lane l).fillFirst (blockCount bytes) then x.blockTime l 1 else 0)
/-- When the last bit of a frame of some bytes that is sent now has left (09 R298, R299). -/
def State.sendEnd (s : State) (t l bytes : Nat) : Nat := s.sendStart t l bytes + 8 * bytes * (200 / (s.tileN t).laneBits l)
/-- A lane of a tile can start a frame in this tick. -/
def State.laneOpen (s : State) (t l : Nat) : Bool := decide (vget (s.tileN t).laneBusy l 0 < 200 * (s.tileNow (tileIx t) + 1))

/-- A lane that has put frames of bytes on the line, a FILL first where one is due (10 R306 to R309). -/
def LaneHw.put (x : LaneHw) (bs : List Byte) : LaneHw :=
  let first := x.fillFirst (blockCount bs.length)
  let a := if first then wireBlocks x.txScr fillBytes else ([], x.txScr)
  let b := wireBlocks a.2 bs
  { x with tx := a.1 ++ b.1, txScr := b.2, sinceFill := if first then b.1.length else x.sinceFill + b.1.length }

/-- A lane that has sent a FILL (10 R309). -/
def LaneHw.putFill (x : LaneHw) : LaneHw :=
  let b := wireBlocks x.txScr fillBytes
  { x with tx := b.1, txScr := b.2, sinceFill := 0 }

/-- A frame leaves its lane now, or as soon as the lane is free (09 R295). -/
def State.transmit (s : State) (f : OutFrame) : State :=
  let free := s.sendStart f.tile f.lane f.len + (s.tileN f.tile).blockTime f.lane (blockCount f.len)
  s.updTileN f.tile (fun x => ({ x with laneBusy := vset x.laneBusy f.lane free }).updLane f.lane (fun y => y.put (f.bytes s.link.nodeId)))

/-- A frame is handed to a lane that carries frames: TIME, LINE and VOID leave next, the others when no LINE or VOID of the
lane waits (09 R295; 16 R503, R506). -/
def State.sendFrame (s : State) (f : OutFrame) : State :=
  let s1 := { s with link := { s.link with sent := f :: s.link.sent } }
  if !((s.tileN f.tile).laneSends f.lane && (s.tileN f.tile).laneUp f.lane) then s1
  else if f.type ≤ 3 then s1.transmit f
  else s1.updLnk f.tile f.lane (fun y => { y with txq := y.txq ++ [f] })

/-- When a TIME frame that is sent now leaves, 1/256 tick of the package's TIME (10 R323, R328). -/
def State.departAt (s : State) (t l : Nat) : Nat := 256 * s.now + (s.sendStart t l 48 - 200 * s.tileNow (tileIx t)) * 256 / 200

/-- The FILL that an idle lane has sent by a tick: block after block from where it was free (10 R309; 16 R503). -/
def State.fillLane (s : State) (t l : Nat) : State :=
  let x := s.tileN t
  let now := 200 * s.tileNow (tileIx t)
  let busy := max (vget x.laneBusy l 0) (now - 200)
  if now ≤ busy || !x.laneSends l then s
  else
    let n := ceilDiv (now - busy) (x.blockTime l 1)
    s.updTileN t (fun x => ({ x with laneBusy := vset x.laneBusy l (busy + x.blockTime l n) }).updLane l (fun y =>
      (List.range n).foldl (fun y _ => y.putFill) y))

/-- A lane that is free and has no LINE or VOID to send takes the next of its other frames (09 R295). -/
def State.drainLane (s : State) (t l : Nat) (waits : Bool) : State :=
  match (s.lnk t l).txq with
  | [] => s
  | f :: rest =>
    if waits || !s.laneOpen t l || !(s.tileN t).laneSends l then s
    else (s.updLnk t l (fun y => { y with txq := rest })).transmit f

/-! ## Nodes and the frames to them -/

/-- A node known to the lead (10 R329). -/
def State.node (s : State) (id : Nat) : Option Node := s.link.nodes.find? (fun n => n.id == id)
/-- The package with a known node changed. -/
def State.updNode (s : State) (id : Nat) (f : Node → Node) : State :=
  { s with link := { s.link with nodes := mapIf s.link.nodes (fun n => n.id == id) f } }

/-- The tile and lane by which the lead reaches a node: its own lane first (10 R330). -/
def State.nodeLane (s : State) (id : Nat) : Option (Nat × Nat) :=
  match s.node id with
  | none => none
  | some n => match n.lanes.find? (fun l => l.1 == s.lead.tile) with
    | some l => some l
    | none => n.lanes.head?

/-- An EVENT frame of the package: code, ESEQ, stamp and phase, and its data bytes; the ESEQ advances (10 R339). -/
def State.sendEvents (s : State) (lanes : List (Nat × Nat)) (node code stamp phase : Nat) (data : List Byte) : State :=
  let fs := [code, s.link.eseq, stamp, phase] ++ data.map (fun (b : Byte) => b.toNat)
  let s1 := lanes.foldl (fun s l => s.sendFrame { tile := l.1, lane := l.2, type := 6, node := node, fields := fs }) s
  { s1 with link := { s1.link with eseq := (s1.link.eseq + 1) % 2 ^ 16 } }

/-- An EVENT frame from the lead to a node. -/
def State.sendEvent (s : State) (node code stamp phase : Nat) (data : List Byte) : State :=
  s.sendEvents (s.nodeLane node).toList node code stamp phase data

/-- An EVENT frame to a node from every printing tile on whose lanes it was discovered (02 R88). -/
def State.sendEventAll (s : State) (node code stamp phase : Nat) (data : List Byte) : State :=
  let ls := match s.node node with
    | some n => n.lanes.filter (fun l => (s.tileN l.1).printing)
    | none => []
  s.sendEvents ls node code stamp phase data

/-- A CTRL WRITE of the lead's own to a node (10 R337). -/
def State.sendCtrl (s : State) (node addr : Nat) (data : List Nat) : State :=
  match s.nodeLane node with
  | none => s
  | some l =>
    let s1 := s.sendFrame { tile := l.1, lane := l.2, type := 4, node := node, fields := [s.link.ctag, 1, data.length, addr] ++ data }
    { s1 with link := { s1.link with ctag := (s1.link.ctag + 1) % 2 ^ 16 } }

/-- A node is READY (10 R330). -/
def State.nodeReady (s : State) (id : Nat) : Bool := ((s.node id).map (fun n => decide (n.st = 4))).getD false

end Sys2Proof.Machine
end

