-- ==== Sys2Proof/Machine/Colour.lean ====
section
/-! DEFINITION. Colour hold: control bands, measurement, calibration, loop states, the update law, the COLOUR group and
DROP.ZONELUT (08 R258 to R282; 07 R230 to R233). -/

namespace Sys2Proof.Machine

/-! ## Items and channels -/

/-- The package with the colour state changed. -/
def State.updColour (s : State) (f : Colour → Colour) : State := { s with colour := f s.colour }
/-- A channel's colour state. -/
def State.colCh (s : State) (c : Nat) : ColCh := vget s.colour.ch c ColCh.reset
/-- The package with a channel's colour state changed. -/
def State.updCh (s : State) (c : Nat) (f : ColCh → ColCh) : State :=
  s.updColour (fun x => { x with ch := vupd x.ch c ColCh.reset f })
/-- The tones of a COL_TONES value: its bytes but for the zeros (08 R282). -/
def tonesOf (v : Nat) : List Nat := ((List.range 4).map (fun i => v / 2 ^ (8 * i) % 256)).filter (· != 0)
/-- A COL_TONES value has its tones ascending and its zeros last (08 R282). -/
def tonesOk (v : Nat) : Bool :=
  let t := (List.range 4).map (fun i => v / 2 ^ (8 * i) % 256)
  (t.zip (t.drop 1)).all (fun p => decide (p.2 = 0 ∨ (p.1 ≠ 0 ∧ p.1 < p.2)))
/-- The tones of a channel. -/
def State.tones (s : State) (c : Nat) : List Nat := tonesOf (s.itemN (Pid.colTones c))
/-- A target of a channel as an item: L, a, b as s8.8 in 48 bits (08 R282). -/
def labOf (v : Nat) : Lab := { l := sext 16 (bits v 15 0), a := sext 16 (bits v 31 16), b := sext 16 (bits v 47 32) }
/-- COL_TGT_k of a channel, k from 0. -/
def State.hostTgt (s : State) (c k : Nat) : Lab := labOf (s.itemN (parmId 8 c (2 + k)))
/-- The channels that are not OFF, ascending. -/
def State.colUsed (s : State) : List Nat := (List.range 12).filter (fun c => decide ((s.colCh c).st ≠ .off))
/-- A loop that holds its tables: CLOSED or PAUSED. -/
def ColCh.holds (x : ColCh) : Bool := decide (x.st = .closed ∨ x.st = .paused)

/-! ## Bands (08 R258 to R262) -/

/-- The ink rows of a band: channel, tone index, tone (08 R259). -/
def bandRows (chs : List Nat) (tones : Nat → List Nat) : List (Nat × Nat × Nat) :=
  chs.flatMap (fun c => (tones c).zipIdx.map (fun e => (c, e.2, e.1)))
/-- Lines of a band of n ink rows (08 R259). -/
def bandLen (n ph : Nat) : Nat := (1 + n) * ph
/-- First line after a band. -/
def Band.stop (b : Band) : Nat := b.first + bandLen b.rows.length b.ph
/-- Rows of a band, the paper row among them. -/
def Band.rowCount (b : Band) : Nat := 1 + b.rows.length

/-- The centre of a zone of a span (08 R260). -/
def zoneCentre (start width z : Nat) : Nat := (start + z * width / 64 + (start + (z + 1) * width / 64)) / 2
/-- The patch centres are written to the bar; the registers they go to are the bar's own (08 R263, log 32). -/
def State.sendCentres (s : State) : State :=
  let zs := s.usedSpans.flatMap (fun k => (List.range 64).map (zoneCentre (s.spanStart k) (s.spanWidth k)))
  let rec go : Nat → List Nat → State → State
    | 0, _, s => s
    | n + 1, l, s => if l.isEmpty then s else go n (l.drop 16) ((s.sendCtrl (s.itemN Pid.colNode) (Config.freeNat s.free) (l.take 16)).nextFree)
  if s.colUsed.isEmpty then s else go 16 zs s

/-- A product's arm line is evaluated: it triggers a band, or the band is skipped (08 R258). Nothing is printed while
every channel is OFF (log 31). -/
def State.bandTrigger (s : State) (p : Product) : State :=
  if s.colUsed.isEmpty || decide (p.lane ≠ s.itemN Pid.colLane) || decide (p.num % max 1 (s.itemN Pid.colN) ≠ 0) then s
  else
    let s := if s.colour.recentre then (s.updColour (fun x => { x with recentre := false })).sendCentres else s
    let b : Band :=
      { num := s.colour.nextBand, lane := p.lane, prod := p.num, first := p.first + s.itemN Pid.colBandY, ph := s.itemN Pid.patchH,
        rows := bandRows s.colUsed s.tones, ver := 0, stale := false, patches := [], missing := false, complete := false,
        flags := [], tmo := s.itemN Pid.colReportTmo, tol := s.itemN Pid.colPaperTol, worst := [] }
    if b.first < s.colour.lastEnd then s.raiseLead Ev.bandSkipped [p.lane, p.num]
    else s.updColour (fun x => { x with nextBand := (x.nextBand + 1) % 2 ^ 32, lastEnd := b.stop, bands := x.bands ++ [b] })

/-- The patch of a zone covers a position: W positions around the centre (08 R260). -/
def patchCovers (centre w : Nat) (x : Int) : Bool := decide ((centre : Int) - w / 2 ≤ x ∧ x < (centre : Int) - w / 2 + w)

/-- The global zone whose patch area holds a position, if any (08 R260). -/
def State.patchZone (s : State) (x : Nat) : Option Nat :=
  match s.usedSpans.find? (fun k => inIval x (s.spanStart k) (s.spanStart k + s.spanWidth k)) with
  | none => none
  | some k => ((List.range 64).find? (fun z => patchCovers (zoneCentre (s.spanStart k) (s.spanWidth k) z) (s.itemN Pid.patchW) x)).map (64 * k + ·)

/-- The band that covers a web line. -/
def State.bandAt (s : State) (n : Nat) : Option Band := s.colour.bands.find? (fun b => decide (b.first ≤ n ∧ n < b.stop))
/-- The row of a band on a web line (08 R259). -/
def Band.rowAt (b : Band) (n : Nat) : Nat := (n - b.first) / max 1 b.ph
/-- The composite value of a row in a channel (08 R259). -/
def Band.value (b : Band) (row c : Nat) : Nat :=
  if row = 0 then 0
  else match b.rows[row - 1]? with
    | some (c', _, v) => if c' = c then v else 0
    | none => 0

/-- Flags that a printing tile found for a patch: 1 OVERLAP, 2 GOVERNED, 3 OVERSPEED, 4 REST, 5 UNDELIVERED (08 R266). -/
def State.bandFlag (s : State) (num row zone cause : Nat) : State :=
  s.updColour (fun x => { x with bands := mapIf x.bands (fun b => b.num == num) (fun b => { b with flags := addNew b.flags (row, zone, cause) }) })

/-- Is the band and node geometry refused, with some channels in use and their tones (08 R262)? -/
def State.bandRefused (s : State) (chs : List Nat) (tones : Nat → List Nat) : Bool :=
  if chs.isEmpty then false
  else
    let len : Nat := bandLen (bandRows chs tones).length (s.itemN Pid.patchH)
    let dist : Nat := s.itemN Pid.colSenseDist
    let bars : Nat := (((List.range 12).filter (fun b => decide (s.itemN (Pid.barCh b) &&& s.activeCh ≠ 0))).map (fun b => s.itemN (Pid.barOffset b))).foldl max 0
    let rows : Nat := (s.rows.map (fun x => s.itemN (Pid.rowOff (4 * x.1 + x.2)))).foldl max 0
    let narrow := fun (k : Nat) => (List.range 64).any (fun z =>
      decide ((z + 1) * s.spanWidth k / 64 - z * s.spanWidth k / 64 < s.itemN Pid.patchW))
    decide (len > 65535) || s.usedSpans.any narrow || decide (s.itemN Pid.colBandY < s.itemN (Pid.laneLen (s.itemN Pid.colLane))) ||
      decide (dist = 0 ∨ s.itemN Pid.colNode = 0) || decide (dist * 65536 < (bars + len + 256) * 65536 + rows)

/-- The node that JOB.ARM accepts as COL_NODE: its HELLO declares CIELAB reports. An unset COL_NODE names none (08 R262, R263). -/
def State.colNodeOk (s : State) : Bool :=
  decide (s.itemN Pid.colNode = 0) || ((s.node (s.itemN Pid.colNode)).map (fun n => bit n.hello.caps 0)).getD false

/-- JOB.ARM's check of colour: 0 or the status (08 R262, R263). -/
def State.armColour (s : State) : Nat := if s.bandRefused s.colUsed s.tones || !s.colNodeOk then St.colourArg else St.ok

/-- The measurement line of a row (08 R263). -/
def State.measureLine (s : State) (b : Band) (row : Nat) : Nat := b.first + row * b.ph + b.ph / 2 + s.itemN Pid.colSenseDist

/-- The issue of a measurement line sends the bar its EVENT frame (08 R263). -/
def State.measureIssue (s : State) (n fire : Nat) : State :=
  s.colour.bands.foldl (fun s b =>
    ((List.range b.rowCount).filter (fun r => s.measureLine b r == n)).foldl (fun s r =>
      s.sendEvent (s.itemN Pid.colNode) 2 (fire / 256) (fire % 256) (leBytes 4 b.num ++ leBytes 1 r)) s) s

/-! ## Correction (08 R267) -/

/-- Saturation to s16. -/
def sat16 (v : Int) : Int := clampI v (-32768) 32767
/-- One axis corrected by a gain of u2.14 and an offset of s8.8. -/
def corr (m g o : Int) : Int := sat16 (fdivI (m * g) (2 ^ 14) + o)
/-- The gains and offsets in force (08 R267). -/
def State.calGO (s : State) : Lab × Lab :=
  match s.colour.calib with
  | some c => (c.gain, c.offset)
  | none => ({ l := 0x4000, a := 0x4000, b := 0x4000 }, { l := 0, a := 0, b := 0 })
/-- A reading corrected by gains and offsets. -/
def Lab.correct (m g o : Lab) : Lab := { l := corr m.l g.l o.l, a := corr m.a g.a o.a, b := corr m.b g.b o.b }

/-! ## Pauses (08 R271) -/

/-- Pause causes as bits: 0 PAPER, 1 SENSOR, 2 CAL, 3 SENS. -/
def State.pauseCh (s : State) (c cause : Nat) : State :=
  let x := s.colCh c
  if !x.holds || bit x.causes cause then s
  else (s.updCh c (fun x => { x with st := .paused, causes := x.causes + 2 ^ cause })).raiseLead Ev.colourPaused [c, cause]
/-- A pause cause of a channel ends; with the last it returns to CLOSED, and the next band triggered feeds it. -/
def State.resumeCh (s : State) (c cause : Nat) : State :=
  let x := s.colCh c
  if !bit x.causes cause then s
  else
    let left := x.causes - 2 ^ cause
    let y : ColCh := if left = 0 then { x with st := .closed, causes := 0, fromBand := s.colour.nextBand } else { x with causes := left }
    (s.updCh c (fun _ => y)).raiseLead Ev.colourResumed [c, cause]
/-- A cause begins on every channel. -/
def State.pauseAll (s : State) (cause : Nat) : State := (List.range 12).foldl (fun s c => s.pauseCh c cause) s
/-- A cause ends on every channel. -/
def State.resumeAll (s : State) (cause : Nat) : State := (List.range 12).foldl (fun s c => s.resumeCh c cause) s
/-- COL_NODE left (08 R271). -/
def State.colourNodeLost (s : State) (node : Nat) : State := if node = s.itemN Pid.colNode ∧ node ≠ 0 then s.pauseAll 1 else s
/-- COL_NODE is READY again (08 R271). -/
def State.colourNodeBack (s : State) (node : Nat) : State := if node = s.itemN Pid.colNode ∧ node ≠ 0 then s.resumeAll 1 else s

/-! ## Means (08 R272) -/

/-- The mean of a list of integers, truncated. -/
def meanI (l : List Int) : Int := (l.foldl (· + ·) 0).tdiv (max 1 l.length)
/-- The mean of Lab values per axis, truncated to s8.8; none of an empty list. -/
def meanLab : List Lab → Option Lab
  | [] => none
  | l => some { l := meanI (l.map (·.l)), a := meanI (l.map (·.a)), b := meanI (l.map (·.b)) }

/-- The accepted values of a zone's patches in bands, of the row that f names in each. -/
def patchLabs (bands : List Band) (zone : Nat) (f : Band → Option Nat) : List Lab :=
  bands.filterMap (fun b => (f b).bind (fun r => (b.patches.find? (fun p => p.row == r && p.zone == zone)).bind (·.lab)))

/-- The row of a channel's tone in a band. -/
def Band.rowOf (b : Band) (c k : Nat) : Option Nat := (b.rows.findIdx? (fun r => r.1 == c && r.2.1 == k)).map (· + 1)

/-- Global zones of the used spans. -/
def State.colZones (s : State) : List Nat := s.usedSpans.flatMap (fun k => (List.range 64).map (64 * k + ·))

/-- Captured targets by zone: a zone's mean, else the mean over the other zones, else a free value (08 R272, log 33). -/
def capturedTargets (zones : List Nat) (fr : Nat) (zoneMean : Nat → Option Lab) : List (Nat × Lab) :=
  zones.map (fun z =>
    (z, match zoneMean z with
      | some v => v
      | none => match meanLab (zones.filterMap zoneMean) with
        | some v => v
        | none => { l := sat16 (Config.freeInt (fr + 3 * z)), a := sat16 (Config.freeInt (fr + 3 * z + 1)), b := sat16 (Config.freeInt (fr + 3 * z + 2)) }))

/-- Targets of a channel's tones after a capture over bands. -/
def State.captureTone (s : State) (bands : List Band) (x : Capture) (c k : Nat) : State :=
  let ts := if x.mode = 1 then capturedTargets s.colZones s.free (fun z => meanLab (patchLabs bands z (fun b => b.rowOf c k)))
    else s.colZones.map (fun z => (z, x.tgt.getD k (labOf 0)))
  let s1 := s.updCh c (fun x => { x with tgt := ts.foldl (fun m e => NMap.set none m (4 * e.1 + k) (some e.2)) x.tgt })
  { s1 with free := s1.free + 1024 }

/-- Paper targets after a capture over bands. -/
def State.capturePaper (s : State) (bands : List Band) : State :=
  let ts := capturedTargets s.colZones s.free (fun z => meanLab (patchLabs bands z (fun _ => some 0)))
  let s1 := s.updColour (fun x => { x with paper := ts.foldl (fun m e => NMap.set none m e.1 (some e.2)) x.paper })
  { s1 with free := s1.free + 1024 }

/-! ## Calibration in force (08 R269) -/

/-- The calendar second now. -/
def State.calNow (s : State) : Nat := s.calSecond s.now
/-- Days past the expiry of the calibration, once it has expired. -/
def State.calExpired (s : State) : Option Nat :=
  s.colour.calib.bind (fun c =>
    let e := c.second + s.colour.calDays.1 * 86400
    if e ≤ s.calNow then some ((s.calNow - e) / 86400) else none)
/-- The local day now (05 R173). -/
def State.localDay (s : State) : Int := fdivI (s.localSec s.calNow) 86400

/-! ## The end of a capture (08 R272) -/

/-- A capture of a channel ends with a band: targets are taken, and the channel is CLOSED, or PAUSED under the causes
already present (log 34). -/
def State.captureEnd (s : State) (bands : List Band) (x : Capture) (c : Nat) : State :=
  let s1 := (List.range (s.tones c).length).foldl (fun s k => s.captureTone bands x c k) s
  let s2 := s1.updCh c (fun x => { x with st := .closed, causes := 0, capture := none, fromBand := 0 })
  let s3 := if s2.nodeReady (s2.itemN Pid.colNode) then s2 else s2.pauseCh c 1
  if s3.colour.cal.isSome then s3.pauseCh c 2 else s3

/-- The complete bands of this job that a capture counts (08 R272). -/
def State.captureBands (s : State) (x : Capture) : List Band :=
  s.colour.log.filter (fun d => decide (x.first ≤ d.num ∧ s.job.l0 ≤ d.first))

/-- The captures that need no further band, each with its channels. -/
def State.captureEnds (s : State) : List (Capture × List Nat) :=
  let all := (List.range 12).filterMap (fun c => ((s.colCh c).capture.filter (fun x => x.left == 0)).map (fun x => (x, c)))
  (all.foldl (fun ks e => addNew ks e.1) []).map (fun x => (x, (all.filter (fun e => e.1 == x)).map (·.2)))

/-- One complete band counts for every capture it belongs to; every capture that it ends closes its channels and completes its
command with the band (08 R272). -/
def State.captureBand (s : State) (b : Band) : State :=
  let s1 := (List.range 12).foldl (fun s c => s.updCh c (fun x => { x with
    capture := x.capture.map (fun k => if k.first ≤ b.num then { k with left := k.left - 1 } else k) })) s
  s1.captureEnds.foldl (fun s e =>
    let bands := s.captureBands e.1
    let s2 := e.2.foldl (fun s c => s.captureEnd bands e.1 c) (s.capturePaper bands)
    s2.complete e.1.seq (if s2.calExpired.isSome then St.okCalDue else St.ok) b.num 0) s1

/-- A capture that can no longer end completes with ST_COLOUR_STATE (log 37). -/
def State.captureDrop (s : State) (c : Nat) : State :=
  match (s.colCh c).capture with
  | none => s
  | some k =>
    let s1 := (List.range 12).foldl (fun s c => s.updCh c (fun x => if x.capture.any (fun y => y.seq == k.seq) then { x with capture := none } else x)) s
    s1.done k.seq St.colourState

/-! ## Paper (08 R271) -/

/-- Insert in ascending order. -/
def insertNat (x : Nat) : List Nat → List Nat
  | [] => [x]
  | y :: r => if x ≤ y then x :: y :: r else y :: insertNat x r
/-- A list in ascending order. -/
def sortNat (l : List Nat) : List Nat := l.foldr insertNat []

/-- Squared Euclidean distance of two colours. -/
def labDist2 (x y : Lab) : Nat := ((x.l - y.l) ^ 2 + (x.a - y.a) ^ 2 + (x.b - y.b) ^ 2).toNat

/-- Is the median of the distances, given as squares in order, above a tolerance? With an even count it is the mean of
the two middle distances (log 35). -/
def medianAbove (d : List Nat) (tol : Nat) : Bool :=
  let n := d.length
  if n % 2 = 1 then decide (d.getD (n / 2) 0 > tol * tol)
  else
    -- sqrt a + sqrt b > 2 tol, squared twice
    let a := d.getD (n / 2 - 1) 0
    let b := d.getD (n / 2) 0
    let m : Int := 4 * tol * tol - a - b
    decide (m < 0 ∨ (4 * a * b : Int) > m * m)

/-- A complete band judges the paper: PAPER begins or ends (08 R271). -/
def State.paperBand (s : State) (b : Band) : State :=
  let ds := b.patches.filterMap (fun p =>
    if p.row = 0 then p.lab.bind (fun v => (NMap.get none s.colour.paper p.zone).map (labDist2 v)) else none)
  if ds.isEmpty then s
  else if medianAbove (sortNat ds) b.tol then s.pauseAll 0
  else s.resumeAll 0

/-! ## The update law (08 R273 to R276) -/

/-- dv of R274 before the bounds: error and slope. -/
def stepOf (e sl : Lab) (dead gain : Nat) : Int :=
  if e.l * e.l + e.a * e.a + e.b * e.b ≥ (dead * dead : Nat) then
    let num := sl.l * e.l + sl.a * e.a + sl.b * e.b
    let den := fdivI (sl.l * sl.l + sl.a * sl.a + sl.b * sl.b) (2 ^ 16)
    fdivI (-((num * 2 ^ 16).tdiv den) * gain) (2 ^ 16)
  else 0

/-- A value bounded in size: the bounded value, and whether the bound acted (08 R274). -/
def boundI (v : Int) (lim : Int) : Int × Bool := if v > lim then (lim, true) else if v < -lim then (-lim, true) else (v, false)

/-- One accepted patch moves its offset; the answer lists zones whose COLOUR_OFF_LIMIT was raised (08 R274). -/
def State.patchStep (s : State) (c z k : Nat) (lab : Lab) (lim : List Nat) : State × List Nat :=
  let x := s.colCh c
  match NMap.get none x.tgt (4 * z + k), x.sens.bind (fun m => NMap.get none m (4 * z + k)) with
  | some t, some sl =>
    let dv := stepOf { l := lab.l - t.l, a := lab.a - t.a, b := lab.b - t.b } sl (s.itemN Pid.colDead) (s.itemN (Pid.colGain c))
    let (dv, clipped) := boundI dv (s.itemN (Pid.colStepMax c) * 2 ^ 16 : Nat)
    let (off, limited) := boundI (NMap.get 0 x.off (4 * z + k) + dv) (s.itemN (Pid.colOffMax c) * 2 ^ 16 : Nat)
    let s1 := s.updCh c (fun x => { x with
      off := NMap.set 0 x.off (4 * z + k) off
      clip := if clipped then satInc 32 x.clip else x.clip })
    if limited && !lim.contains z then (s1.raiseLead Ev.colourOffLimit [c, z, k], z :: lim) else (s1, lim)
  | _, _ => (s, lim)

/-- The offset at an entry by the knots of tones and offsets, ascending, from the knot (d0, o0) on (08 R275). -/
def knotOff (d : Nat) : Nat → Int → List (Nat × Int) → Int
  | _, o0, [] => o0
  | d0, o0, (d1, o1) :: r =>
    if d < d1 then o0 + ((o1 - o0) * ((d - d0 : Nat) : Int)).tdiv ((d1 - d0 : Nat) : Int) else knotOff d d1 o1 r

/-- The entries of a zone table from d on, with the entry before (08 R275). -/
def buildFrom (ks : List (Nat × Int)) : Nat → Nat → List Nat → List Nat
  | _, _, [] => []
  | d, prev, b :: r =>
    let v := (clampI ((b : Int) + fdivI (knotOff d 0 0 ks + 0x8000) (2 ^ 16)) 0 4095).toNat
    let e := if d = 0 then 0 else max v prev
    e :: buildFrom ks (d + 1) (if d = 0 then v else e) r

/-- The zone table of a base table and knots (08 R275). -/
def buildTable (base : List Nat) (ks : List (Nat × Int)) : List Nat := buildFrom ks 0 0 base

/-- The knots of a channel's zone. -/
def State.knots (s : State) (c z : Nat) : List (Nat × Int) := (s.tones c).zipIdx.map (fun e => (e.1, NMap.get 0 (s.colCh c).off (4 * z + e.2)))
/-- The table of a channel's zone by its base and offsets. -/
def State.zoneBuilt (s : State) (c z : Nat) : List Nat := buildTable (NMap.get zoneIdentity (s.colCh c).base z) (s.knots c z)

/-- The last zone table version committed or waiting. -/
def State.lastVer (s : State) : Nat :=
  let v := fun (d : Nat) (c : Change) => match c with
    | .zone n _ => n
    | _ => d
  (s.job.boundary.map (·.1)).foldl v ((s.job.commits.map (·.change)).foldl v s.job.base.zver)
/-- The next version. -/
def State.nextVer (s : State) : Nat := (s.lastVer + 1) % 2 ^ 16

/-- A band is STALE: its lines carry two versions, or a newer version has been committed (08 R273). -/
def State.bandStale (s : State) (b : Band) (ver : Nat) : Bool :=
  decide ((s.printAt (b.stop - 1)).zver ≠ ver) ||
    s.job.commits.any (fun c => c.change.isZone && c.committed && decide (b.stop ≤ c.line))

/-- The channels a band feeds (08 R273, R277). -/
def State.fedBy (s : State) (b : Band) : List Nat :=
  (List.range 12).filter (fun c =>
    let x := s.colCh c
    decide (x.st = .closed ∧ x.fromBand ≤ b.num ∧ s.colour.minBand ≤ b.num))

/-- A band feeds an update: offsets move, changed tables are built, and one version is committed at the product boundary
of R61 (08 R274 to R276). -/
def State.bandUpdate (s : State) (b : Band) : State :=
  let fed := s.fedBy b
  let items := (b.rows.zipIdx).flatMap (fun r =>
    if fed.contains r.1.1 then s.colZones.filterMap (fun z =>
      ((b.patches.find? (fun p => p.row == r.2 + 1 && p.zone == z)).bind (·.lab)).map (fun v => (r.1.1, z, r.1.2.1, v))) else [])
  if items.isEmpty then s
  else
    let (s1, _) := items.foldl (fun (acc : State × List Nat) i => acc.1.patchStep i.1 i.2.1 i.2.2.1 i.2.2.2 acc.2) (s, [])
    let ts := fed.flatMap (fun c => s1.colZones.map (fun z => (256 * c + z, s1.zoneBuilt c z)))
    let changed := ts.filter (fun t => decide (s.zoneBuilt (t.1 / 256) (t.1 % 256) ≠ t.2))
    let ver := s1.nextVer
    let s2 := (s1.changeBoundary 0 (.zone ver changed)).raiseLead Ev.colourUpdate [b.num, ver]
    { s2 with tallyCol := fed.foldl (fun m c => NMap.upd 0 m (2 * c) (satInc 32)) s2.tallyCol }

/-! ## Reports (08 R264 to R266) -/

/-- The patches of a band: rows by zones. -/
def State.bandPatches (s : State) (b : Band) : Nat := b.rowCount * s.colZones.length

/-- Latest values of the patches of a band (08 R279). -/
def State.noteLast (s : State) (b : Band) : State :=
  b.patches.foldl (fun s p =>
    match p.lab with
    | none => s
    | some v =>
      if p.row = 0 then s.updColour (fun x => { x with paperLast := NMap.set none x.paperLast p.zone (some v) })
      else match b.rows[p.row - 1]? with
        | some (c, k, _) => s.updCh c (fun x => { x with last := NMap.set none x.last (4 * p.zone + k) (some v) })
        | none => s) s

/-- The greatest difference of a channel's patches of a band from their targets. -/
def State.bandMax (s : State) (b : Band) (c : Nat) : Nat :=
  (b.patches.map (fun p =>
    match p.lab, b.rows[p.row - 1]? with
    | some v, some (c', k, _) =>
      if p.row ≠ 0 ∧ c' = c then ((NMap.get none (s.colCh c).tgt (4 * p.zone + k)).map (deltaE100 v)).getD 0 else 0
    | _, _ => 0)).foldl max 0

/-- A complete band: it is logged, counts for captures, judges the paper, and feeds an update unless STALE (08 R266,
R271 to R273). -/
def State.bandDone (s : State) (b : Band) : State :=
  let ver := (s.printAt b.first).zver
  let b := { b with complete := true, ver := ver, stale := s.bandStale b ver, worst := (List.range 12).map (s.bandMax b) }
  let s1 := s.updColour (fun x => { x with bands := x.bands.filter (fun d => d.num != b.num), log := (b :: x.log).take 4096 })
  let s2 := ((s1.noteLast b).paperBand b)
  let s3 := if b.stale then s2 else s2.bandUpdate b
  s3.captureBand b

/-- Patches of a band are decided; the band may be complete. -/
def State.addPatches (s : State) (b : Band) (ps : List Patch) : State :=
  let b := { b with patches := b.patches ++ ps }
  if s.bandPatches b ≤ b.patches.length then s.bandDone b
  else s.updColour (fun x => { x with bands := mapIf x.bands (fun d => d.num == b.num) (fun _ => b) })

/-- The cause that discards a patch, 0 for none: the tiles' flags, then the reading's own (08 R266). -/
def Band.causeOf (b : Band) (row zone own : Nat) : Nat :=
  match b.flags.find? (fun f => f.1 == row && f.2.1 == zone && (row != 0 || f.2.2 == 1 || f.2.2 == 5)) with
  | some f => f.2.2
  | none => own

/-- A report is usable: VALID, not SATURATED, APERTURE filled (08 R265). -/
def readingOk (r : ColourReport) : Bool := r.flags % 8 == 1
/-- The reading of a report. -/
def reportLab (r : ColourReport) : Lab := { l := r.l, a := r.a, b := r.b }

/-- A report of a band patch: the first for its patch is kept if it comes by its deadline line (08 R265). -/
def State.bandReport (s : State) (r : ColourReport) : State :=
  match s.colour.bands.find? (fun b => b.num == r.band) with
  | none => s
  | some b =>
    if b.rowCount ≤ r.row || !s.colZones.contains r.zone || b.patches.any (fun p => p.row == r.row && p.zone == r.zone) ||
      decide (s.measureLine b r.row + b.tmo < s.motion.lastLine) then s
    else
      let cause := b.causeOf r.row r.zone (if readingOk r then 0 else 6)
      let go := s.calGO
      s.addPatches b [{ row := r.row, zone := r.zone, cause := cause, lab := if cause = 0 then some ((reportLab r).correct go.1 go.2) else none }]

/-- The report deadline of a row passes: its patches without a report are MISSING, and PATCH_MISSING is raised once per
band (08 R265). -/
def State.reportTimeout (s : State) (band row : Nat) : State :=
  match s.colour.bands.find? (fun b => b.num == band) with
  | none => s
  | some b =>
    let gone := s.colZones.filter (fun z => !b.patches.any (fun p => p.row == row && p.zone == z))
    if b.rowCount ≤ row || gone.isEmpty || decide (s.motion.lastLine ≤ s.measureLine b row + b.tmo) then s
    else
      let s1 := if b.missing then s else s.raiseLead Ev.patchMissing [band, gone.length]
      s1.addPatches { b with missing := true } (gone.map (fun z => { row := row, zone := z, lab := none, cause := b.causeOf row z 7 }))

/-! ## Calibration (08 R268, R269) -/

/-- The fit of one axis: gain and offset codes that minimise the squared error of y by x, with x and y in s8.8. Equal
readings fix no gain: it is a free value (log 36). -/
def fitAxis (fr : Nat) (xs ys : List Int) : Int × Int :=
  let n : Int := xs.length
  let sx := xs.foldl (· + ·) 0
  let sy := ys.foldl (· + ·) 0
  let sxx := (xs.map (fun x => x * x)).foldl (· + ·) 0
  let sxy := ((xs.zip ys).map (fun p => p.1 * p.2)).foldl (· + ·) 0
  let d := n * sxx - sx * sx
  if d = 0 then (Config.freeInt fr, Config.freeInt (fr + 1))
  else (roundDiv ((n * sxy - sx * sy) * 2 ^ 14) d, roundDiv (sy * sxx - sx * sxy) d)

/-- A gain code within [0.90, 1.10] and an offset within 5.0 (08 R268). -/
def fitOk (g o : Int) : Bool := decide (9 * 2 ^ 14 ≤ 10 * g ∧ 10 * g ≤ 11 * 2 ^ 14 ∧ -1280 ≤ o ∧ o ≤ 1280)

/-- Every patch of the tile is read: the fit is accepted and stored, or refused; CAL ends (08 R268, R269, R271). -/
def State.calFit (s : State) (r : CalRun) : State :=
  let cert := r.cert
  let ms := (List.range cert.length).map (fun i => (r.reads.lookup i).getD { l := 0, a := 0, b := 0 })
  let fl := fitAxis s.free (ms.map (·.l)) (cert.map (·.l))
  let fa := fitAxis (s.free + 2) (ms.map (·.a)) (cert.map (·.a))
  let fb := fitAxis (s.free + 4) (ms.map (·.b)) (cert.map (·.b))
  let g : Lab := { l := fl.1, a := fa.1, b := fb.1 }
  let o : Lab := { l := fl.2, a := fa.2, b := fb.2 }
  let res := (ms.zip cert).map (fun p => deltaE (p.1.correct g o) p.2)
  let worst := res.foldl max 0
  let code := ((worst * 100).fdiv fxOne).toNat
  let ok := fitOk fl.1 fl.2 && fitOk fa.1 fa.2 && fitOk fb.1 fb.2 && decide (worst * 100 ≤ r.tol * fxOne)
  let s1 := { s.updColour (fun x => { x with cal := none }) with free := s.free + 6 }
  let s2 := if ok then
      let c : Calib := { tile := r.tile, second := s.calNow, gain := g, offset := o, resid := res.map (fun r => ((r * 100).fdiv fxOne).toNat) }
      (s1.updColour (fun x => { x with calib := some c, dueDay := none })).flashWrite { FlashJob.of 4 0 with calib := some c }
    else s1
  (s2.resumeAll 2).complete r.seq (if ok then St.ok else St.calResidual) code 0

/-- A reading of the reference tile (08 R264, R268). -/
def State.calReport (s : State) (r : ColourReport) : State :=
  match s.colour.cal with
  | none => s
  | some c =>
    if !readingOk r || c.cert.length ≤ r.row || c.reads.any (fun e => e.1 == r.row) || r.zone != 0xFFFF then s
    else
      let c1 := { c with reads := c.reads ++ [(r.row, reportLab r)] }
      let s1 := s.updColour (fun x => { x with cal := some c1 })
      if c1.reads.length = c1.cert.length then s1.calFit c1 else s1

/-- A colour report reaches the lead (08 R265). -/
def State.colourReport (s : State) (r : ColourReport) : State :=
  if r.flags ≥ 8 then s else if r.band = 0xFFFF_FFFF then s.calReport r else s.bandReport r

/-- An expired calibration is reported at expiry and at each local midnight after it (08 R269). -/
def State.calDue (s : State) : State :=
  match s.calExpired with
  | none => s
  | some d =>
    if s.colour.dueDay = some s.localDay.toNat then s
    else (s.updColour (fun x => { x with dueDay := some s.localDay.toNat })).raiseLead Ev.colourCalDue [d]

/-- COL_CAL_DAYS is taken at each local midnight (08 R282). -/
def State.colourDay (s : State) : State :=
  if s.colour.calDays.2 = s.localDay then s
  else s.updColour (fun x => { x with calDays := (s.itemN Pid.colCalDays, s.localDay) })

/-! ## COLOUR.SETUP (08 R262, R279) -/

/-- Tones of channels as a command would leave them. -/
def State.tonesWith (s : State) (mask v : Nat) (c : Nat) : List Nat := if bit mask c then tonesOf v else s.tones c
/-- Channels in use as COLOUR.SETUP would leave them. -/
def State.usedWith (s : State) (mask v : Nat) : List Nat :=
  (List.range 12).filter (fun c => if bit mask c then !(tonesOf v).isEmpty else decide ((s.colCh c).st ≠ .off))

/-- Checks of COLOUR.SETUP. -/
def checkColourSetup (s : State) (p : Packet) : Nat × Nat × Nat :=
  let m := p.f 2 11 0
  if m = 0 ∨ !tonesOk (p.dw 3) then (St.colourArg, 0, 0)
  else if (bitsOf 12 m).any (fun c => (s.colCh c).holds) then (St.colourState, 0, 0)
  else (if s.bandRefused (s.usedWith m (p.dw 3)) (s.tonesWith m (p.dw 3)) then St.colourArg else St.ok, 0, 0)

/-- COLOUR.SETUP: tones, targets and mode of the channels; tones make a channel OPEN, none OFF. It takes effect at the next band
trigger, which sends the patch centres (08 R263, R270, R279). -/
def actColourSetup (s : State) (p : Packet) (bs : List Byte) : State :=
  let es := chunks 8 bs (tonesOf (p.dw 3)).length
  if es.any (fun e => decide (fld e 6 2 ≠ 0)) then s.done p.seq St.colourArg
  else
    let off := (tonesOf (p.dw 3)).isEmpty
    let one := fun (s : State) (c : Nat) =>
      let s1 := (s.putItem (Pid.colTones c) (p.dw 3)).putItem (Pid.colTgtMode c) (p.f 4 0 0)
      let s2 := es.zipIdx.foldl (fun s e => s.putItem (parmId 8 c (2 + e.2)) (fld e.1 0 6)) s1
      (if off then s2.captureDrop c else s2).updCh c (fun x => { x with st := if off then .off else .opened })
    (((bitsOf 12 (p.f 2 11 0)).foldl one s).updColour (fun x => { x with recentre := true })).done p.seq St.ok

/-- COLOUR.SETUP. -/
def opColourSetup : OpDef :=
  { code := 0x0801, cls := clsSOJ, named := [0xFFF, 0xFFFF_FFFF, 1, 0xFFFF_FFFF, 0xFFFF_FFFF], prot := noProt, access := noAccess,
    check := checkColourSetup, read := fun _ p => if (tonesOf (p.dw 3)).isEmpty then none else some (p.ha 5, 8 * (tonesOf (p.dw 3)).length),
    waits := noWaits, bind := noBind, act := actColourSetup }

/-! ## COLOUR.SENS (08 R271, R279) -/

/-- Entries of a sensitivity table: 64 zones of each span, its tones. -/
def sensCount (h : List Byte) : Nat := 64 * fld h 5 1 * fld h 4 1
/-- Bytes of a sensitivity table by its header. -/
def sensLen (h : List Byte) : Nat := 16 + 12 * sensCount h
/-- An entry: SL, Sa, Sb as s8.24. -/
def sensEntry (e : List Byte) : Lab := { l := fldS e 0 4, a := fldS e 4 4, b := fldS e 8 4 }
/-- An entry obeys R279: components within 1.0, square sum at least 2^28. -/
def sensEntryOk (v : Lab) : Bool :=
  let one : Int := 2 ^ 24
  decide (v.l.natAbs ≤ one.natAbs ∧ v.a.natAbs ≤ one.natAbs ∧ v.b.natAbs ≤ one.natAbs ∧ v.l * v.l + v.a * v.a + v.b * v.b ≥ 2 ^ 28)

/-- The sensitivity table of a channel from its bytes, if valid: spans are the used spans in order (08 R279). -/
def State.sensOf (s : State) (c : Nat) (bs : List Byte) : Option (NMap (Option Lab)) :=
  let k := fld bs 4 1
  let es := (chunks 12 (bs.drop 16) (sensCount bs)).map sensEntry
  if decide (fld bs 0 2 = 0x4E53 ∧ fld bs 2 1 = 1 ∧ fld bs 3 1 = c ∧ fld bs 6 8 = 0 ∧ fld bs 14 2 = 0 ∧ k = (s.tones c).length ∧ fld bs 5 1 = s.nTwins)
    && es.all sensEntryOk then
    some (es.zipIdx.foldl (fun m e => NMap.set none m (4 * (e.2 / max 1 k) + e.2 % max 1 k) (some e.1)) [])
  else none

/-- COLOUR.SENS: the table is loaded or refused; SENS ends (08 R271, R279). -/
def actColourSens (s : State) (p : Packet) (_ : List Byte) : State :=
  let a := p.da 3
  let c := p.f 2 3 0
  let s1 := s.resumeCh c 3
  s1.withBlock p.seq 1 a 16 (fun s h =>
    if !s.inJob a (sensLen h) then s.done p.seq St.addrRange
    else s.withBlock p.seq 1 a (sensLen h) (fun s bs =>
      match s.sensOf c bs with
      | none => s.done p.seq St.sensBad
      | some m => (s.updCh c (fun x => { x with sens := some m })).done p.seq St.ok))

/-- COLOUR.SENS. -/
def opColourSens : OpDef :=
  { code := 0x0802, cls := clsSOJ, named := [0xF, 0xFFFF_FFFF, 0xFF], prot := noProt,
    access := fun s p _ => [{ spans := 1, base := p.da 3, len := sensLen (s.spanRead 0 (p.da 3) 16), write := false }],
    check := fun s p =>
      if p.f 2 3 0 > 11 then (St.colourArg, 0, 0)
      else if p.da 3 % 64 ≠ 0 then (St.sensBad, 0, 0)
      else (if s.inJob (p.da 3) 16 then St.ok else St.addrRange, 0, 0),
    read := noRead, waits := fun _ _ _ => 1, bind := fun s p _ => ((0, 0, 0), s.pauseCh (p.f 2 3 0) 3), act := actColourSens }

/-! ## COLOUR.CLOSE, COLOUR.OPEN (08 R270, R272) -/

/-- A channel's sensitivity table covers its tones in every zone. -/
def State.sensCovers (s : State) (c : Nat) : Bool :=
  match (s.colCh c).sens with
  | none => false
  | some m => s.colZones.all (fun z => (List.range (s.tones c).length).all (fun k => (NMap.get none m (4 * z + k)).isSome))

/-- Checks of COLOUR.CLOSE. -/
def checkColourClose (s : State) (p : Packet) : Nat × Nat × Nat :=
  let cs := bitsOf 12 (p.f 2 11 0)
  if cs.isEmpty then (St.colourArg, 0, 0)
  else if !s.armed || cs.any (fun c => decide ((s.colCh c).st = .off) || !s.sensCovers c || (s.colCh c).capture.isSome) then (St.colourState, 0, 0)
  else (if s.colour.calib.isNone then St.calRequired else St.ok, 0, 0)

/-- COLOUR.CLOSE: the channels capture from the next COL_REF_BANDS complete bands (08 R272). -/
def actColourClose (s : State) (p : Packet) (_ : List Byte) : State :=
  let k := fun (c : Nat) => (Capture.mk p.seq s.colour.nextBand (s.itemN Pid.colRefBands) (s.itemN (Pid.colTgtMode c))
    ((List.range 4).map (s.hostTgt c)))
  ((bitsOf 12 (p.f 2 11 0)).foldl (fun s c =>
    s.updCh c (fun x => { x with st := .opened, causes := 0, capture := some (k c) })) s).park p.seq .work

/-- COLOUR.CLOSE. -/
def opColourClose : OpDef :=
  { code := 0x0803, cls := clsSOJ, named := [0xFFF], prot := noProt, access := noAccess, check := checkColourClose, read := noRead,
    waits := noWaits, bind := noBind, act := actColourClose }

/-- COLOUR.OPEN. -/
def opColourOpen : OpDef :=
  { code := 0x0804, cls := clsSOJ, named := [0xFFF], prot := noProt, access := noAccess,
    check := fun s p =>
      let cs := bitsOf 12 (p.f 2 11 0)
      if cs.isEmpty then (St.colourArg, 0, 0)
      else (if cs.any (fun c => decide ((s.colCh c).st = .off) || (s.colCh c).capture.isSome) then St.colourState else St.ok, 0, 0),
    read := noRead, waits := noWaits, bind := noBind,
    act := fun s p _ =>
      ((bitsOf 12 (p.f 2 11 0)).foldl (fun s c => s.updCh c (fun x => { x with st := .opened, causes := 0 })) s).done p.seq St.ok }

/-! ## COLOUR.CAL (08 R268) -/

/-- Bytes of a certified block by its header. -/
def certLen (h : List Byte) : Nat := 16 + 8 * fld h 3 1
/-- The certified values of a block, if it is valid and every axis spans at least 20.0. -/
def certOf (bs : List Byte) : Option (List Lab) :=
  let n := fld bs 3 1
  let es := chunks 8 (bs.drop 16) n
  let ls : List Lab := es.map (fun e => { l := fldS e 0 2, a := fldS e 2 2, b := fldS e 4 2 })
  let spans := fun (f : Lab → Int) => decide ((ls.map f).foldl max (-32768) - (ls.map f).foldl min 32767 ≥ 5120)
  if decide (fld bs 0 2 = 0x5443 ∧ fld bs 2 1 = 1 ∧ 3 ≤ n ∧ n ≤ 16) && es.all (fun e => decide (fld e 6 2 = 0)) && spans (·.l) && spans (·.a) && spans (·.b) then
    some ls else none

/-- COLOUR.CAL: CAL begins, and the bar is asked for every patch (08 R268, R271). -/
def actColourCal (s : State) (p : Packet) (_ : List Byte) : State :=
  let a := p.da 2
  s.withBlock p.seq 1 a 16 (fun s h =>
    if s.colour.cal.isSome || !s.nodeReady (s.itemN Pid.colNode) then s.done p.seq St.colourState
    else if !s.inJob a (certLen h) then s.done p.seq St.addrRange
    else s.withBlock p.seq 1 a (certLen h) (fun s bs =>
      match certOf bs with
      | none => s.done p.seq St.colourArg
      | some ls =>
        let run : CalRun := { seq := p.seq, cert := ls, tile := ((bs.drop 4).take 12).map (·.toNat), reads := [], tol := s.itemN Pid.colCalTol }
        let s1 := (s.updColour (fun x => { x with cal := some run })).pauseAll 2
        let s2 := (List.range ls.length).foldl (fun s i => s.sendEvent (s.itemN Pid.colNode) 2 s.now 0 (leBytes 4 0xFFFF_FFFF ++ leBytes 1 i)) s1
        s2.run p.seq .work))

/-- COLOUR.CAL. -/
def opColourCal : OpDef :=
  { code := 0x0805, cls := clsSO, named := [0xFFFF_FFFF, 0xFF], prot := noProt,
    access := fun s p _ => [{ spans := 1, base := p.da 2, len := certLen (s.spanRead 0 (p.da 2) 16), write := false }],
    check := fun s p =>
      if p.da 2 % 64 ≠ 0 then (St.colourArg, 0, 0)
      else if !s.inJob (p.da 2) 16 then (St.addrRange, 0, 0)
      else (if s.colour.cal.isSome || !s.nodeReady (s.itemN Pid.colNode) then St.colourState else St.ok, 0, 0),
    read := noRead, waits := fun _ _ _ => 1, bind := noBind, act := actColourCal }

/-! ## COLOUR.RESET and DROP.ZONELUT (08 R276, 07 R233) -/

/-- COLOUR.RESET: offsets zero, and the base tables are committed (08 R276). -/
def actColourReset (s : State) (p : Packet) (_ : List Byte) : State :=
  let cs := bitsOf 12 (p.f 2 11 0)
  let s1 := cs.foldl (fun s c => s.updCh c (fun x => { x with off := [] })) s
  s1.changeBoundary p.seq (.zone s1.nextVer (cs.flatMap (fun c => s1.colZones.map (fun z => (256 * c + z, s1.zoneBuilt c z)))))

/-- COLOUR.RESET. -/
def opColourReset : OpDef :=
  { code := 0x0806, cls := clsSOJ, named := [0xFFF], prot := noProt, access := noAccess,
    check := fun s p =>
      let cs := bitsOf 12 (p.f 2 11 0)
      if cs.isEmpty then (St.colourArg, 0, 0) else (if cs.any (fun c => (s.colCh c).holds) then St.colourState else St.ok, 0, 0),
    read := noRead, waits := noWaits, bind := noBind, act := actColourReset }

/-- A zone table obeys R231. -/
def zoneOk (t : List Nat) : Bool := t.all (fun e => decide (e ≤ 4095)) && decide (t.headD 0 = 0)

/-- DROP.ZONELUT: base tables loaded, offsets zeroed, the channel's base tables committed unmodified (07 R233, 08 R276). -/
def actDropZonelut (s : State) (p : Packet) (_ : List Byte) : State :=
  let c := p.f 2 3 0
  let n := p.f 3 16 8
  s.withBlock p.seq s.allSpans (p.da 4) (512 * n) (fun s bs =>
    let ts := ((chunks 512 bs n).map (fun b => (chunks 2 b 256).map leVal)).zipIdx.map (fun e => (p.f 3 7 0 + e.2, e.1))
    if !ts.all (fun t => zoneOk t.2) then s.done p.seq St.zonelutBad
    else if (s.colCh c).holds then s.done p.seq St.dropState
    else
      let s1 := s.updCh c (fun x => { x with off := [], base := ts.foldl (fun m t => NMap.set zoneIdentity m t.1 t.2) x.base })
      let zs := ts.map (·.1) ++ s1.colZones.filter (fun z => !ts.any (fun t => t.1 == z))
      s1.changeBoundary p.seq (.zone s1.nextVer (zs.map (fun z => (256 * c + z, NMap.get zoneIdentity (s1.colCh c).base z)))))

/-- DROP.ZONELUT. -/
def opDropZonelut : OpDef :=
  { code := 0x0704, cls := clsSOJ, named := [0xF, 0x1_FFFF, 0xFFFF_FFFF, 0xFF], prot := noProt,
    access := fun s p _ => [{ spans := s.allSpans, base := p.da 4, len := 512 * p.f 3 16 8, write := false }],
    check := fun s p =>
      if p.f 2 3 0 > 11 ∨ p.f 3 16 8 = 0 ∨ p.f 3 7 0 + p.f 3 16 8 > 256 then (St.dropArg, 0, 0)
      else if (s.colCh (p.f 2 3 0)).holds then (St.dropState, 0, 0)
      else (if s.inJob (p.da 4) (512 * p.f 3 16 8) then St.ok else St.addrRange, 0, 0),
    read := noRead, waits := fun s _ _ => s.allSpans, bind := noBind, act := actDropZonelut }

/-! ## Reports (08 R279) -/

/-- A loop state's number. -/
def ColSt.num : ColSt → Nat
  | .off => 0
  | .opened => 1
  | .closed => 2
  | .paused => 3

/-- The axes of a colour as quantities. -/
def Lab.qs (v : Lab) : List Int := [v.l, v.a, v.b]

/-- What COLOUR.STATUS reports of channels (08 R279). -/
def State.colourQuantities (s : State) (mask : Nat) : List (List Int) :=
  (bitsOf 12 mask).flatMap (fun c =>
    let x := s.colCh c
    [[qn c, qn x.st.num, qn x.causes, qn x.clip]] ++
    x.off.map (fun e => [qn c, qn e.1, e.2]) ++
    x.tgt.filterMap (fun e => e.2.map (fun v => [qn c, qn e.1] ++ v.qs)) ++
    x.last.filterMap (fun e => e.2.map (fun v => [qn c, qn e.1] ++ v.qs ++ ((NMap.get none x.tgt e.1).map (fun t => [qn (deltaE100 v t)])).getD []))) ++
  s.colour.paper.filterMap (fun e => e.2.map (fun v => [qn e.1] ++ v.qs)) ++
  s.colour.paperLast.filterMap (fun e => e.2.map (fun v => [qn e.1] ++ v.qs ++ ((NMap.get none s.colour.paper e.1).map (fun t => [qn (deltaE100 v t)])).getD [])) ++
  (s.colour.calib.map (fun c => [c.tile.map qn, [qn c.second], c.gain.qs, c.offset.qs, c.resid.map qn])).getD []

/-- COLOUR.STATUS. -/
def opColourStatus : OpDef :=
  { code := 0x0807, cls := clsAll, named := rptNamed 0xFFF, prot := noProt, access := noAccess, check := noCheck, read := noRead,
    waits := noWaits, bind := noBind, act := fun s p _ => s.reportQ p (s.colourQuantities (p.selector 12)) }

/-- A band record of COLOUR.LOG (08 R279). -/
def Band.record (b : Band) : List Int :=
  [qn b.num, qn b.first, qn b.ver, qb b.stale] ++ (b.patches.filter (fun p => p.lab.isNone)).flatMap (fun p => [qn p.row, qn p.zone, qn p.cause]) ++
    b.worst.map qn

/-- COLOUR.LOG. -/
def opColourLog : OpDef :=
  { code := 0x0808, cls := clsAll, named := rptNamed 0, prot := noProt, access := noAccess, check := noCheck, read := noRead,
    waits := noWaits, bind := noBind, act := fun s p _ => s.reportQ p (s.colour.log.map Band.record) }

/-! ## The job (08 R258, R270) -/

/-- JOB.ARM: bands count from 0, and channels not OFF are OPEN (08 R258, R270). -/
def State.colourArm (s : State) : State :=
  (s.updColour (fun x => { x with
    nextBand := 0, lastEnd := 0, bands := [], minBand := 0, recentre := false
    ch := x.ch.map (fun c => if c.st = .off then c else { c with st := .opened, causes := 0, capture := none }) })).sendCentres

/-- The end of a job: captures that cannot end complete with ST_COLOUR_STATE (log 37). -/
def State.colourDrain (s : State) : State :=
  let seqs := (List.range 12).filterMap (fun c => (s.colCh c).capture.map (·.seq))
  let s1 := s.updColour (fun x => { x with bands := [], ch := x.ch.map (fun c => { c with capture := none }) })
  (seqs.foldl addNew []).foldl (fun s q => s.done q St.colourState) s1

/-! ## Meanings -/

/-- R279: COLOUR.SETUP. -/
def execColourSetup (p : Packet) (s : State) : Out := .next (opColourSetup.dispatch s p)
/-- R279: COLOUR.SENS. -/
def execColourSens (p : Packet) (s : State) : Out := .next (opColourSens.dispatch s p)
/-- R272: COLOUR.CLOSE. -/
def execColourClose (p : Packet) (s : State) : Out := .next (opColourClose.dispatch s p)
/-- R270: COLOUR.OPEN. -/
def execColourOpen (p : Packet) (s : State) : Out := .next (opColourOpen.dispatch s p)
/-- R268: COLOUR.CAL. -/
def execColourCal (p : Packet) (s : State) : Out := .next (opColourCal.dispatch s p)
/-- R276: COLOUR.RESET. -/
def execColourReset (p : Packet) (s : State) : Out := .next (opColourReset.dispatch s p)
/-- R279: COLOUR.STATUS. -/
def execColourStatus (p : Packet) (s : State) : Out := .next (opColourStatus.dispatch s p)
/-- R279: COLOUR.LOG. -/
def execColourLog (p : Packet) (s : State) : Out := .next (opColourLog.dispatch s p)
/-- R233: DROP.ZONELUT. -/
def execDropZonelut (p : Packet) (s : State) : Out := .next (opDropZonelut.dispatch s p)
/-- R265: the report deadline of a row passes. -/
def execPatchReportTimeout (band row : Nat) (s : State) : Out := .next (s.reportTimeout band row)
/-- R265: a colour report reaches the lead. -/
def execColourReportReceive (r : ColourReport) (s : State) : Out := .next (s.colourReport r)
/-- R269: an expired calibration is reported. -/
def execColourCalDue (s : State) : Out := .next s.calDue

end Sys2Proof.Machine
end

