-- ==== Sys2Proof/Machine/Layer.lean ====
section
/-! DEFINITION. The LAYER group: layer settings, scalers, blending, line buffers, flips and fences (04 R138 to R159,
R162; 13 R445, R446). -/

namespace Sys2Proof.Machine

/-! ## Layer items (04 R162) -/

/-- The index of layer l of lane j: 4j + l on the print path, 64 more on the proof path. -/
def lyrIx (proof : Bool) (j l : Nat) : Nat := (if proof then 64 else 0) + 4 * j + l
/-- Item k of a layer in a table of items. -/
def PMap.lyr (m : PMap) (i k : Nat) : Int := PMap.item m (parmId 4 (0x10 + i) k)
/-- The same as a natural number. -/
def PMap.lyrN (m : PMap) (i k : Nat) : Nat := (m.lyr i k).toNat
/-- The 5-bit field of a channel in LYR_CHMAP: 0 not covered, plane + 1 (04 R139). -/
def chField (map c : Nat) : Nat := bits map (5 * c + 4) (5 * c)

/-! ## Kernels (04 R144, R145) -/

/-- The built-in kernel set (04 R145). -/
def builtinCoef (t ph k : Nat) : Int :=
  let m := if t = 2 then 0 else (t - 1) / 2
  if k = m then 16384 - 256 * (ph : Int) else if k = m + 1 then 256 * (ph : Int) else 0

/-- Offset of the first coefficient of T in a kernel set, in coefficients. -/
def kernelOff (t : Nat) : Nat := 64 * ((List.range t).filter (fun u => decide (2 ≤ u))).foldl (· + ·) 0

/-- The coefficient of a stored kernel set of 4,480 bytes (04 R145). -/
def storedCoef (bs : List Byte) (t ph k : Nat) : Int := fldS bs (2 * (kernelOff t + ph * t + k)) 2

/-- Every phase row of a kernel set sums to 16,384 (04 R145). -/
def kernelOk (bs : List Byte) : Bool :=
  (List.range 7).all (fun i => (List.range 64).all (fun ph =>
    decide (((List.range (i + 2)).map (fun k => storedCoef bs (i + 2) ph k)).foldl (· + ·) 0 = 16384)))

/-- One pass of a scaler at a source coordinate in u32.16 (04 R144). -/
def scalePass (coef : Nat → Nat → Nat → Int) (t sx limit : Nat) (sample : Nat → Nat) : Nat :=
  let i : Int := (sx / 2 ^ 16 : Nat)
  let ph := sx / 2 ^ 10 % 64
  let acc := (List.range t).foldl (fun (acc : Int) (k : Nat) =>
    let idx := clampI (i - ((t - 1) / 2 : Nat) + (k : Int)) 0 (limit - 1)
    acc + coef t ph k * sample idx.toNat) 0
  (clampI ((acc + 8192) >>> 14) 0 255).toNat

/-! ## Scalers (04 R142, R143) -/

/-- Where a dot of a layer reads its surface: integer mode gives one sample, fractional mode a coordinate pair. -/
inductive LyrAt where
  | outside
  | sample (x y : Nat)
  | frac (sx sy : Nat)
  deriving DecidableEq, Repr

/-- The place of a dot in a layer's surface, at its offsets from the layer's corner (04 R142, R143). -/
def PMap.lyrPlace (m : PMap) (i : Nat) (d : Desc) (xr yr : Int) : LyrAt :=
  if xr < 0 ∨ yr < 0 then .outside
  else if m.lyr i 7 = 0 then
    let x := xr.toNat / m.lyrN i 8
    let y := yr.toNat / m.lyrN i 9
    if x < d.width ∧ y < d.height then .sample x y else .outside
  else
    let sx := m.lyrN i 12 + xr.toNat * m.lyrN i 10
    let sy := m.lyrN i 13 + yr.toNat * m.lyrN i 11
    if sx < d.width * 2 ^ 16 ∧ sy < d.height * 2 ^ 16 then .frac sx sy else .outside

/-- The scaled sample of a plane at a place (04 R142 to R144). -/
def PMap.lyrSample (m : PMap) (i : Nat) (d : Desc) (coef : Nat → Nat → Nat → Int) (at_ : LyrAt)
    (raw : Nat → Nat → Nat → Nat) (plane : Nat) : Nat :=
  match at_ with
  | .outside => 0
  | .sample x y => raw plane x y
  | .frac sx sy =>
    scalePass coef (m.lyrN i 15) sy d.height (fun y => scalePass coef (m.lyrN i 14) sx d.width (fun x => raw plane x y))

/-- The source lines that a line of a layer reads, lowest and highest, at an offset below the layer's corner
(04 R142, R144). -/
def PMap.lyrRows (m : PMap) (i : Nat) (d : Desc) (yr : Int) : Option (Nat × Nat) :=
  if yr < 0 then none
  else if m.lyr i 7 = 0 then
    let y := yr.toNat / m.lyrN i 9
    if y < d.height then some (y, y) else none
  else
    let sy := m.lyrN i 13 + yr.toNat * m.lyrN i 11
    if sy < d.height * 2 ^ 16 then
      let t := m.lyrN i 15
      let y : Int := (sy / 2 ^ 16 : Nat)
      let lo := clampI (y - ((t - 1) / 2 : Nat)) 0 (d.height - 1)
      let hi := clampI (y - ((t - 1) / 2 : Nat) + (t - 1 : Nat)) 0 (d.height - 1)
      some (lo.toNat, hi.toNat)
    else none

/-! ## Blending (04 R150, R151) -/

/-- The rounded division by 255 of R150 and R151. -/
def div255 (t : Nat) : Nat := (t + t / 256) / 256
/-- The coverage after opacity (04 R151). -/
def opacity (aLayer alpha : Nat) : Nat := div255 (aLayer * alpha + 128)
/-- The composite after a layer that covers the channel (04 R150). -/
def blend (a s d : Nat) : Nat := div255 (a * s + (255 - a) * d + 128)

/-! ## Line buffers (04 R147 to R149) -/

/-- LBUF_PRINT. -/
def lbufPrint : Nat := 4194304
/-- LBUF_PROOF. -/
def lbufProof : Nat := 1048576

/-- Distinct planes that a layer reads for the active channels, with its coverage plane (04 R147). -/
def PMap.lyrPlanes (m : PMap) (i active : Nat) : Nat :=
  let ps := ((bitsOf 12 active).map (fun c => chField (m.lyrN i 4) c)).filter (· != 0)
  let cov := m.lyrN i 5
  ((if cov = 0 then ps else ps ++ [cov]).foldl addNew []).length

/-- Bytes of line buffer a layer needs over wc computed positions (04 R147). -/
def PMap.lbufNeed (m : PMap) (i active wc : Nat) (d : Desc) : Nat :=
  let p := m.lyrPlanes i active
  if m.lyr i 7 = 0 then 2 * p * min d.width (ceilDiv wc (m.lyrN i 8) + 1)
  else (m.lyrN i 15 + 1) * p * min d.width (ceilDiv (wc * m.lyrN i 10) (2 ^ 16) + m.lyrN i 14 + 1)

/-- Computed positions of span k that a lane covers (01 R20, 04 R147). -/
def PMap.laneComputed (m : PMap) (k j : Nat) : Nat :=
  let s0 := (PMap.item m (Pid.spanStart k)).toNat
  let e0 := s0 + (PMap.item m (Pid.spanWidth k)).toNat
  let x0 := (PMap.item m (Pid.laneX0 j)).toNat
  let x1 := x0 + (PMap.item m (Pid.laneW j)).toNat
  min x1 (e0 + 64) - max x0 (s0 - 64)

/-- The panel's active width in pixels (17 R519): of the timing in force, the larger where the ports differ, and 0 where neither
has one (DESIGN CHOICE, log 125). -/
def State.panelWidth (s : State) : Nat :=
  max (((vget s.dsp 0 DspPort.reset).timing.map (·.hactive)).getD 0) (((vget s.dsp 1 DspPort.reset).timing.map (·.hactive)).getD 0)

/-- The descriptor of a layer's surface on a span, if one is bound. -/
def State.lyrDesc (s : State) (m : PMap) (i k : Nat) : Option Desc :=
  if m.lyr i 1 = 0 then none else (s.tileN (s.spanTile k)).desc (m.lyrN i 1)

/-- The span whose job memory supplies layer l of the proof path (17 R524). -/
def State.proofSpan (s : State) (l : Nat) : Nat := bits (s.itemN Pid.dspSrc) (2 * l + 1) (2 * l)

/-- Line-buffer bytes of a path with each lane's items as given: of the tiles of span k on the print path, of the lead tiles on
the proof path (04 R147). -/
def State.lbufSum (s : State) (items : Nat → PMap) (proof : Bool) (k : Nat) : Nat :=
  ((List.range 16).flatMap (fun j => [0, 2, 3].map (fun l =>
    let m := items j
    let active := (PMap.item m Pid.jobChannels).toNat
    match s.lyrDesc m (lyrIx proof j l) (if proof then s.proofSpan l else k) with
    | some d => m.lbufNeed (lyrIx proof j l) active (if proof then s.panelWidth else m.laneComputed k j) d
    | none => 0))).foldl (· + ·) 0

/-- The line-buffer need of a job that another replaces, until its last product has been computed (04 R161). -/
def State.oldNeed (s : State) (k : Nat) : Nat :=
  if s.job.change.isSome then s.lbufSum s.laneItemsNow false k
  else if s.job.products.any (fun p => p.job != s.job.gen && decide (s.computing < s.prodEnd p - 1)) then
    s.lbufSum (fun j =>
      match (s.job.products.filter (fun p => p.lane == j && p.job != s.job.gen)).getLast? with
      | some p => if p.armed then p.items else s.bindItems p
      | none => []) false k
  else 0

/-! ## Checks of a binding (04 R139, R140, R145, R158; 03 R113) -/

/-- A kernel set on every span of a mask: in range and aligned, valid, and alike on every span (04 R145, 03 R616). -/
def State.kernelCheck (s : State) (spans a : Nat) : Nat × Nat × Nat :=
  if a = 0 then (St.ok, 0, 0)
  else if a % 64 ≠ 0 then (St.layerArg, 0, 0)
  else if !s.inJob a 4480 then (St.addrRange, 0, 0)
  else match s.copyDiffer spans a 4480 with
    | some d => (St.copyDiffer, d % 2 ^ 32, d / 2 ^ 32)
    | none => if (bitsOf 4 spans).all (fun k => kernelOk (s.spanRead k a 4480)) then (St.ok, 0, 0) else (St.layerArg, 0, 0)

/-- A raster layer's surface against its settings on one span: SURFACE_BAD, LAYER_ARG, or fine (04 R139, R143). -/
def State.lyrSurfCheck (s : State) (m : PMap) (i k : Nat) : Nat :=
  match s.surface k (m.lyrN i 1) with
  | none => St.surfaceBad
  | some d =>
    if d.kind ≠ 0 then St.layerArg
    else if (List.range 12).any (fun c => decide (chField (m.lyrN i 4) c > d.depth)) || decide (m.lyrN i 5 > d.depth) then St.layerArg
    else if m.lyrN i 12 ≥ d.width * 2 ^ 16 || m.lyrN i 13 ≥ d.height * 2 ^ 16 then St.layerArg
    else St.ok

/-- The settings of layer l are valid, its kernel set on the spans of one mask and its surface on those of another (04 R139, R140,
R145, R158). -/
def State.lyrCheck (s : State) (m : PMap) (i l spans surf : Nat) : Nat × Nat × Nat :=
  if l = 1 && (List.range 12).any (fun c => decide (chField (m.lyrN i 4) c > 1)) then (St.layerArg, 0, 0)
  else if l ≠ 2 && m.lyr i 17 = 2 then (St.layerArg, 0, 0)
  else
    let kc := s.kernelCheck spans (m.lyrN i 16)
    if kc.1 ≠ St.ok then kc
    else if l = 1 || m.lyr i 1 = 0 then (St.ok, 0, 0)
    else
      match ((bitsOf 4 surf).map (fun k => s.lyrSurfCheck m i k)).find? (· != St.ok) with
      | some st => (st, 0, 0)
      | none => (St.ok, 0, 0)

/-- A stream of a newly bound surface on a tile: its first strip is pending (03 R122). -/
def Stream.fresh (sid lane layer : Nat) (proof : Bool) (surf seq : Nat) : Stream :=
  { sid := sid, lane := lane, layer := layer, proof := proof, surf := surf, seq := seq, bufs := [StripBuf.fresh 0] }

/-- A tile holds a stream of a surface for a layer of a lane and path. -/
def TileState.holds (x : TileState) (lane layer : Nat) (proof : Bool) (surf : Nat) : Bool :=
  x.streams.any (fun st => st.lane == lane && st.layer == layer && st.proof == proof && st.surf == surf)

/-- A stream added by a packet on both tiles of each span of a mask; a surface bound again in the same place keeps the stream it
has (03 R122, R123). -/
def State.addStream (s : State) (spans lane layer : Nat) (proof : Bool) (surf seq : Nat) : State :=
  let st := Stream.fresh s.stores.nextSid lane layer proof surf seq
  let s1 := ((bitsOf 4 spans).flatMap (fun k => [2 * k, 2 * k + 1])).foldl (fun s t => s.updTileN t (fun x =>
    if x.holds lane layer proof surf then
      { x with streams := mapIf x.streams (fun y => y.lane == lane && y.layer == layer && y.proof == proof && y.surf == surf) (fun y => { y with seq := seq }) }
    else { x with streams := x.streams ++ [st] })) s
  { s1 with stores := { s1.stores with nextSid := s1.stores.nextSid + 1 } }

/-! ## What stays live (03 R109, R122) -/

/-- Some tile that prints, or fills, has not yet begun the last line of a product. -/
def State.computes (s : State) (p : Product) : Bool :=
  s.tileList.any (fun t => let x := s.tileN t; (x.printing || x.twin == .fill) && decide (x.begun < s.prodEnd p))

/-- Every table of items in which a binding may stand: in force, of the job before, of products with lines to compute, of
the display. -/
def State.itemTables (s : State) : List (List (Nat × Int)) :=
  [s.job.base.items, s.job.changeItems, s.job.staged] ++ s.job.past.map (·.items) ++ (s.job.products.filter s.computes).map (·.items)
    ++ (s.job.lanes.toList.flatMap (fun l => l.changes.map (·.items))) ++ s.job.nextJob.map (fun c => c.2.items)
    ++ s.dsp.toList.map (fun d => d.shown.items)

/-- The address of a surface, kernel set or scene is named by some binding. -/
def State.referenced (s : State) (a : Nat) : Bool :=
  s.itemTables.any (fun t => t.any (fun e =>
    decide (e.2 = (a : Int)) && ((e.1 / 2 ^ 24 == 4 && (e.1 % 2 ^ 16 == 1 || e.1 % 2 ^ 16 == 16)) || (e.1 / 2 ^ 24 == 6 && e.1 % 2 ^ 16 == 1)))) ||
  s.dsp.toList.any (fun d => d.shown.source == 1 && d.shown.surface == a) || s.dispFlip.any (fun f => f.source == 1 && f.surface == a)

/-- A surface stands in a binding of a layer of a lane and path. -/
def State.streamUsed (s : State) (st : Stream) : Bool :=
  let pid := if st.layer = 1 then Pid.rayScene st.lane else parmId 4 (0x10 + lyrIx st.proof st.lane st.layer) 1
  s.itemTables.any (fun t => t.any (fun e => e.1 == pid && decide (e.2 = (st.surf : Int))))

/-- A packet is carried out: RUNNING (12 R404). -/
def State.running (s : State) (seq : Nat) : Bool := ((s.entry seq).map (fun e => decide (e.st = .running))).getD false

/-- Live ranges and streams that no binding names any more end; those of a command that still runs stay (03 R109). -/
def State.pruneLive (s : State) : State :=
  let s1 := { s with stores := { s.stores with live := s.stores.live.filter (fun r => s.running r.seq || s.referenced r.key) } }
  s1.tileList.foldl (fun s t => s.updTileN t (fun x => { x with streams := x.streams.filter (fun st => s1.running st.seq || s1.streamUsed st) })) s1

/-- The strip pool has room for new surfaces of a lane's layers on every span of a mask: layer and surface (03 R123). -/
def State.poolFits (s : State) (spans lane : Nat) (proof : Bool) (surfs : List (Nat × Nat)) : Bool :=
  (bitsOf 4 spans).all (fun k =>
    let x := s.tileN (s.spanTile k)
    let new := surfs.filter (fun e => !x.holds lane e.1 proof e.2)
    decide (x.poolUsed + (new.map (fun e => ((x.desc e.2).map Desc.pool).getD 0)).foldl (· + ·) 0 ≤ 16 * 2 ^ 20))

/-- A surface of a layer becomes live on the spans of a mask, with a stream on the spans of another: those and every further one
whose halo the lane reaches (03 R109, R122; 04 R152). -/
def State.bindSurface (s : State) (seq spans reach lane : Nat) (proof : Bool) (e : Nat × Nat) : State :=
  let s1 := (bitsOf 4 spans).foldl (fun s k =>
    match s.surface k e.2 with
    | some d => let r := s.surfaceRange k e.2 d; s.liveAdd (2 ^ k) e.2 r.1 r.2 seq
    | none => s) s
  s1.addStream reach lane e.1 proof e.2 seq

/-- The spans whose memory supplies a layer's surface: of a packet's lane on the print path, the one that DSP_SRC names on the
proof path (13 R433; 17 R524). -/
def State.surfSpans (s : State) (p : Packet) (proof : Bool) (l : Nat) : Nat := if proof then 2 ^ s.proofSpan l else s.tgtSpans p

/-- The checks and the binding of changed layers: arguments, surfaces, line buffer, strip pool and live ranges. m holds
the items that the layers will have; named lists the layers changed, and surfs those whose surface the command binds. The line
buffer and the pool are those of every tile with a computed position of the lane (04 R148). -/
def State.bindLayers (s : State) (p : Packet) (proof : Bool) (m : PMap) (named surfs kernels : List Nat) :
    (Nat × Nat × Nat) × State :=
  let j := p.tgtLane
  let spans := s.tgtSpans p
  let reach := spans ||| s.laneReach (p.tgtMode == 2) j
  let bad := (named.map (fun l => s.lyrCheck m (lyrIx proof j l) l spans (s.surfSpans p proof l))).find? (fun r => r.1 != St.ok)
  let items := fun i => if i = j then m else s.laneItemsAfter i
  let binds := (surfs.map (fun l => (l, m.lyrN (lyrIx proof j l) 1))).filter (fun e => e.2 != 0)
  let kers := ((kernels.map (fun l => m.lyrN (lyrIx proof j l) 16)).filter (· != 0)).foldl addNew []
  let here := fun (l : Nat) => if proof then s.surfSpans p true l else reach
  match bad with
  | some r => (r, s)
  | none =>
    if !proof && (bitsOf 4 reach).any (fun k => decide (s.lbufSum items proof k + s.oldNeed k > lbufPrint)) then ((St.lbufShort, 0, 0), s)
    else if !(List.range 4).all (fun k => s.poolFits (2 ^ k) j proof (binds.filter (fun e => bit (here e.1) k))) then ((St.stripPool, 0, 0), s)
    else if (List.range 4).any (fun k => s.liveFull (2 ^ k)
        ((binds.filter (fun e => bit (s.surfSpans p proof e.1) k)).map (·.2) ++ (if bit spans k then kers else []))) then ((St.liveFull, 0, 0), s)
    else
      let s1 := binds.foldl (fun s e => s.bindSurface p.seq (s.surfSpans p proof e.1) (here e.1) j proof e) s
      ((St.ok, 0, 0), kers.foldl (fun s a => s.liveAdd spans a a 4480 p.seq) s1)

/-- The kernel sets that some settings bind, checked again on a packet's spans when its command takes effect, the memory writes
before it having landed (04 R145; 03 R616). -/
def State.kernelsNow (s : State) (p : Packet) (es : List (Nat × Int)) : Nat × Nat × Nat :=
  let ks := (es.filter (fun e => e.1 % 2 ^ 16 == 16)).map (fun e => e.2.toNat)
  ((ks.map (s.kernelCheck (s.tgtSpans p))).find? (fun r => r.1 != St.ok)).getD (St.ok, 0, 0)

/-! ## LAYER.SET (13 R445) -/

/-- The layers of a mask. -/
def layersOf (m : Nat) : List Nat := bitsOf 4 m

/-- Checks of LAYER.SET at dispatch. -/
def checkLayerSet (s : State) (p : Packet) : Nat × Nat × Nat :=
  let t := checkTgt false St.layerArg s p
  if t ≠ St.ok then (t, 0, 0)
  else if p.f 4 3 0 = 0 || p.f 7 5 0 = 0 || p.f 7 5 0 > 32 then (St.layerArg, 0, 0)
  else (St.ok, 0, 0)

/-- One entry of an item list for a set of layers: its settings, if the entry is valid (13 R445, 04 R140). -/
def setEntry (proof : Bool) (j : Nat) (ls : List Nat) (e : List Byte) : Option (List (Nat × Int)) :=
  let k := fld e 0 2
  let v := fldS e 4 8
  if k < 1 ∨ k > 17 ∨ fld e 2 2 ≠ 0 then none
  else if ls.contains 1 && !(k == 4 || k == 6 || k == 17) then none
  else if (ls.map (fun l => (parmRow (parmId 4 (0x10 + lyrIx proof j l) k)).map (fun r => r.accepts v))).all (· == some true) then
    some (ls.map (fun l => (parmId 4 (0x10 + lyrIx proof j l) k, v)))
  else none

/-- The settings of an item list, if every entry is valid (13 R445). -/
def setItems (p : Packet) (bs : List Byte) : Option (List (Nat × Int)) :=
  let es := (chunks 12 bs (p.f 7 5 0)).map (setEntry (bit (p.dw 4) 8) p.tgtLane (layersOf (p.f 4 3 0)))
  if es.all (·.isSome) then some (es.flatMap (fun e => e.getD [])) else none

/-- The items a path's layers will hold with further settings. -/
def State.itemsWith (s : State) (proof : Bool) (j : Nat) (es : List (Nat × Int)) : PMap :=
  PMap.putAll (if proof then s.job.base.items else s.laneItemsAfter j) es

/-- The greatest tap count from 2 to 8 with which the proof path fits, for the layers named (04 R149). -/
def State.proofTaps (s : State) (j : Nat) (m : PMap) (ls : List Nat) : Option Nat :=
  let cut := fun (t : Nat) => ls.foldl (fun m l =>
    let i := lyrIx true j l
    PMap.put (PMap.put m (parmId 4 (0x10 + i) 14) (min (m.lyrN i 14) t : Nat)) (parmId 4 (0x10 + i) 15) (min (m.lyrN i 15) t : Nat)) m
  ([8, 7, 6, 5, 4, 3, 2].find? (fun t =>
    decide (s.lbufSum (fun i => if i = j then cut t else s.job.base.items) true 0 ≤ lbufProof)))

/-- The binding step of LAYER.SET: item list, then every check of the layers it names. -/
def bindLayerSet (s : State) (p : Packet) (bs : List Byte) : (Nat × Nat × Nat) × State :=
  match setItems p bs with
  | none => ((St.layerArg, 0, 0), s)
  | some es =>
    let proof := bit (p.dw 4) 8
    let ls := layersOf (p.f 4 3 0)
    let has := fun (k : Nat) => es.any (fun e => decide (e.1 % 2 ^ 16 = k))
    let m := s.itemsWith proof p.tgtLane es
    if proof && (s.proofTaps p.tgtLane m ls).isNone then ((St.lbufShort, 0, 0), s)
    else s.bindLayers p proof m ls (if has 1 then ls else []) (if has 16 then ls else [])

/-- LAYER.SET: on the print path a change of its target; on the proof path the values wait for the next proof frame, with
taps cut where the line buffer needs it. LYR_TAPS_CUT returns to 0 only with a LAYER.SET that sets the taps anew (04 R149,
R154, R155). -/
def actLayerSet (s : State) (p : Packet) (bs : List Byte) : State :=
  let es := (setItems p bs).getD []
  let ls := layersOf (p.f 4 3 0)
  let j := p.tgtLane
  let kc := s.kernelsNow p es
  if kc.1 ≠ St.ok then (s.complete p.seq kc.1 kc.2.1 kc.2.2).pruneLive
  else if !bit (p.dw 4) 8 then (s.submit p { LaneChange.of p with layers := ls, items := es }).pruneLive
  else
    let m := s.itemsWith true j es
    let t := (s.proofTaps j m ls).getD 2
    let cutL := ls.filter (fun l => decide (m.lyrN (lyrIx true j l) 14 > t ∨ m.lyrN (lyrIx true j l) 15 > t))
    let put := fun (m : PMap) (l : Nat) =>
      let i := lyrIx true j l
      let c := cutL.contains l
      let m1 := PMap.put (PMap.put m (parmId 4 (0x10 + i) 14) (min (m.lyrN i 14) t : Nat)) (parmId 4 (0x10 + i) 15) (min (m.lyrN i 15) t : Nat)
      let named := es.any (fun e => e.1 == parmId 4 (0x10 + i) 14 || e.1 == parmId 4 (0x10 + i) 15)
      if c then PMap.put m1 (parmId 4 (0x10 + i) 18) t else if named then PMap.put m1 (parmId 4 (0x10 + i) 18) 0 else m1
    let s1 := { s with job := { s.job with base := { s.job.base with items := ls.foldl put m } } }
    let s2 := cutL.foldl (fun s l => s.raiseLead Ev.proofTapsCut [j, l, t]) s1
    (s2.done p.seq (if cutL.isEmpty then St.ok else St.okDegraded)).pruneLive

/-- Job memory a layer command reads: the live range of each surface it binds on the spans of its lane (12 R414). -/
def State.surfAccess (s : State) (spans : Nat) (surfs kernels : List Nat) : List Access :=
  surfs.flatMap (fun a => (bitsOf 4 spans).map (fun k =>
    let r := match s.surface k a with
      | some d => s.surfaceRange k a d
      | none => (a, 64)
    { spans := 2 ^ k, base := r.1, len := r.2, write := false })) ++
  kernels.map (fun a => { spans := spans, base := a, len := 4480, write := false })

/-- Values of item k among settings, but 0. -/
def valuesOf (k : Nat) (es : List (Nat × Int)) : List Nat :=
  ((es.filter (fun e => decide (e.1 % 2 ^ 16 = k ∧ e.2 ≠ 0))).map (fun e => e.2.toNat)).foldl addNew []

/-- LAYER.SET. -/
def opLayerSet : OpDef :=
  { code := 0x0401, cls := clsSOJ, named := [tgtPlain, 0xFFFF_FFFF, 0x10F, 0xFFFF_FFFF, 0xFFFF_FFFF, 0x3F], prot := noProt,
    access := fun s p bs => let es := (setItems p bs).getD []; s.surfAccess (s.tgtSpans p) (valuesOf 1 es) (valuesOf 16 es),
    check := checkLayerSet, read := fun _ p => some (p.ha 5, 12 * p.f 7 5 0),
    waits := fun s p bs =>
      let es := (setItems p bs).getD []
      if (valuesOf 1 es).isEmpty && (valuesOf 16 es).isEmpty then 0 else s.tgtSpans p,
    bind := bindLayerSet, act := actLayerSet }

/-! ## LAYER.FLIP (04 R154 to R157, 13 R445) -/

/-- A fence ID is busy: a flip names it, from its dispatch, and neither signal nor miss has settled it (04 R157). -/
def State.fenceBusy (s : State) (id : Nat) : Bool := s.job.fences.any (fun f => f.id == id && f.signal.isNone)

/-- Checks of LAYER.FLIP at dispatch. -/
def checkLayerFlip (s : State) (p : Packet) : Nat × Nat × Nat :=
  let t := checkTgt true St.layerArg s p
  if t ≠ St.ok then (t, 0, 0)
  else if p.f 4 3 0 = 0 || bit (p.dw 4) 1 then (St.layerArg, 0, 0)
  else if p.fenced && s.fenceBusy p.fenceId then (St.fenceBusy, 0, 0)
  else (St.ok, 0, 0)

/-- The settings of a flip table (13 R445). -/
def flipItems (p : Packet) (bs : List Byte) : List (Nat × Int) :=
  let ls := layersOf (p.f 4 3 0)
  ((ls.zip (chunks 16 bs ls.length)).flatMap (fun e =>
    let i := 0x10 + lyrIx false p.tgtLane e.1
    (parmId 4 i 1, (fld e.2 0 8 : Int)) ::
      (if bit (p.dw 4) 4 then [(parmId 4 i 2, fldS e.2 8 4), (parmId 4 i 3, fldS e.2 12 4)] else [])))

/-- The binding step of LAYER.FLIP. LIGHT has no surface: an entry for it stores its values, which nothing reads, and binds none
(04 R140; DESIGN CHOICE, log 125). -/
def bindLayerFlip (s : State) (p : Packet) (bs : List Byte) : (Nat × Nat × Nat) × State :=
  let es := flipItems p bs
  if es.any (fun e => decide (e.1 % 2 ^ 16 = 1 ∧ e.2 ≥ 2 ^ 40)) then ((St.layerArg, 0, 0), s)
  else
    let ls := layersOf (p.f 4 3 0)
    s.bindLayers p false (s.itemsWith false p.tgtLane es) ls (ls.filter (· != 1)) []

/-- LAYER.FLIP: the named layers change for one target, with a fence if named (04 R154, R157). -/
def actLayerFlip (s : State) (p : Packet) (bs : List Byte) : State :=
  (s.submit p { LaneChange.of p with layers := layersOf (p.f 4 3 0), items := flipItems p bs }).pruneLive

/-- LAYER.FLIP. -/
def opLayerFlip : OpDef :=
  { code := 0x0402, cls := clsSOJ, named := [tgtFenced, 0xFFFF_FFFF, 0x1F, 0xFFFF_FFFF, 0xFFFF_FFFF], prot := noProt,
    access := fun s p bs =>
      s.surfAccess (s.tgtSpans p) (valuesOf 1 ((flipItems p bs).filter (fun e => e.1 != parmId 4 (0x11 + 4 * p.tgtLane) 1))) [],
    check := checkLayerFlip, read := fun _ p => some (p.ha 5, 16 * (layersOf (p.f 4 3 0)).length),
    waits := fun s p _ => s.tgtSpans p, bind := bindLayerFlip, act := actLayerFlip, hold := State.takeFence }

/-! ## LAYER.SIGNAL (04 R157, R159; 13 R446) -/

/-- The fence that a signal of a session may settle: a busy one, or one already missed (signal line 0). -/
def State.fenceFor (s : State) (id session : Nat) : Option Fence :=
  let mine := s.job.fences.filter (fun f => f.id == id && (f.session == session || session == 0))
  match mine.find? (fun f => f.signal.isNone) with
  | some f => some f
  | none => mine.find? (fun f => f.signal == some 0)

/-- Checks of LAYER.SIGNAL (04 R157, 13 R446). -/
def checkLayerSignal (s : State) (p : Packet) : Nat × Nat × Nat :=
  (if (s.fenceFor (p.f 2 11 0) p.session).isSome then St.ok else St.fenceUnknown, 0, 0)

/-- LAYER.SIGNAL: the fence takes its signal line; after the arm line it is late (04 R157, R159). -/
def actLayerSignal (s : State) (p : Packet) (_ : List Byte) : State :=
  match s.fenceFor (p.f 2 11 0) p.session with
  | none => s.done p.seq St.fenceUnknown
  | some f =>
    let n := s.laneFree f.lane
    let same := fun (g : Fence) => g.id == f.id && g.lane == f.lane && g.product == f.product && g.signal == f.signal
    let late := f.signal == some 0 || (match s.product f.lane f.product with
      | some pr => decide (n > s.armLine pr)
      | none => false)
    let fs := if f.signal = some 0 then s.job.fences.filter (fun g => !same g)
      else mapIf s.job.fences same (fun g => { g with signal := some n })
    ({ s with job := { s.job with fences := fs } }).doneLine p.seq (if late then St.fenceLate else St.ok) n

/-- LAYER.SIGNAL. -/
def opLayerSignal : OpDef :=
  { code := 0x0403, cls := clsSOJ, named := [0xFFF], prot := noProt, access := noAccess, check := checkLayerSignal, read := noRead,
    waits := fun s p _ => ((s.fenceFor (p.f 2 11 0) p.session).map (fun f => s.laneSpans false f.lane)).getD 0,
    bind := noBind, act := actLayerSignal }

/-! ## Fences at the arm line (04 R157 to R159) -/

/-- A layer's items taken from those of another table: the 17 settings of layer l of lane j. -/
def PMap.takeLayer (m from_ : PMap) (j l : Nat) : PMap :=
  let ks := (List.range 17).map (fun k => parmId 4 (0x10 + lyrIx false j l) (k + 1)) ++
    (if l = 1 then (List.range 11).map (fun k => parmId 6 (0x10 + j) (k + 1)) else [])
  ks.foldl (fun m k => PMap.put m k (PMap.item from_ k)) m

/-- A missed fence applies a layer's policy to the product (04 R158). -/
def State.missLayer (s : State) (j num l : Nat) (prev : PMap) : State :=
  match s.product j num with
  | none => s
  | some p =>
    let pol := p.items.lyrN (lyrIx false j l) 17
    if pol = 0 then
      ((s.updProduct j num (fun p => { p with blankLayers := addNew p.blankLayers l })).raiseLead Ev.layerBlanked [j, num, l]).reject j num
    else if pol = 1 then
      (s.updProduct j num (fun p => { p with items := p.items.takeLayer prev j l })).raiseLead Ev.layerHeld [j, num, l]
    else
      (s.updProduct j num (fun p => { p with blankLayers := addNew p.blankLayers (l + 8) })).raiseLead Ev.fieldsFallback [j, num, l]

/-- The outcome of one fenced change for a product: kept when its signal line is at or before the arm line; else missed,
and the change never applies (04 R157 to R159). -/
def State.settleFence (s : State) (j num arm : Nat) (prev : PMap) (c : LaneChange) : State :=
  match c.fence with
  | none => s
  | some id =>
    let mine := fun (f : Fence) => f.id == id && f.lane == j && f.product == num
    let sig := (s.job.fences.find? mine).bind (·.signal)
    let inTime := match sig with
      | some n => decide (n ≠ 0 ∧ n ≤ arm)
      | none => false
    let settled := fun (d : LaneChange) => d.fence == some id && d.target == some num
    if inTime then
      let s1 := { s with job := { s.job with fences := s.job.fences.filter (fun f => !mine f) } }
      s1.updLane j (fun l => { l with changes := mapIf l.changes settled (fun d => { d with fence := none }) })
    else
      let fs := if sig.isSome then s.job.fences.filter (fun f => !mine f) else mapIf s.job.fences mine (fun f => { f with signal := some 0 })
      let s1 := { s with job := { s.job with fences := fs } }
      let s2 := s1.updLane j (fun l => { l with changes := l.changes.filter (fun d => !settled d) })
      let s3 := s2.raiseLead Ev.fenceMissed [j, num, id]
      c.layers.foldl (fun s l => s.missLayer j num l prev) s3

/-! ## JOB.ARM row 4 (04 R135, R145, R148) -/

/-- Lanes in use overlap across the web or reach beyond the print area (04 R135). -/
def PMap.lanesBad (m : PMap) : Bool :=
  let w := (PMap.item m Pid.jobWidth).toNat
  let ln := fun (j : Nat) => ((PMap.item m (Pid.laneX0 j)).toNat, (PMap.item m (Pid.laneW j)).toNat)
  let used := (List.range 16).filter (fun j => decide ((ln j).2 ≠ 0))
  used.any (fun j => decide ((ln j).1 + (ln j).2 > w)) ||
  used.any (fun j => used.any (fun i => decide (i < j) && overlap (ln i).1 (ln i).2 (ln j).1 (ln j).2))

/-- The kernel sets that the job's layers name, each with the spans of its layer's lane (04 R145; 03 R616). -/
def State.jobKernels (s : State) : List (Nat × Nat) :=
  ((List.range 64).map (fun i => (s.laneSpans true (i / 4), s.job.base.items.lyrN i 16))).filter (fun e => e.2 != 0)

/-- Row 4 of JOB.ARM: status and tile, 8 for none. extra is the line-buffer need of an old job by span (04 R161). -/
def State.armLayers (s : State) (extra : Nat → Nat) : Nat × Nat :=
  if s.job.base.items.lanesBad then (St.layerArg, 8)
  else
    match (s.jobKernels.map (fun e => s.kernelCheck e.1 e.2)).find? (fun r => r.1 != St.ok) with
    | some r => (r.1, 8)
    | none =>
      match s.usedSpans.find? (fun k => decide (s.lbufSum s.laneItemsAfter false k + extra k > lbufPrint)) with
      | some k => (St.lbufShort, 2 * k)
      | none => (St.ok, 8)

/-! ## LAYER.STATUS -/

/-- What LAYER.STATUS reports of a lane: the bindings last armed and pending, the pending commands and the fences (13
R438, R445). -/
def State.layerQuantities (s : State) (j : Nat) : List (List Int) :=
  let cur := (((s.job.products.filter (fun p => p.lane == j && p.armed)).getLast?).map (·.items)).getD s.job.base.items
  [[qn j], (List.range 4).flatMap (fun l => (List.range 17).map (fun k => cur.lyr (lyrIx false j l) (k + 1))),
   (List.range 4).flatMap (fun l => (List.range 17).map (fun k => (s.laneItemsAfter j).lyr (lyrIx false j l) (k + 1))),
   (List.range 4).flatMap (fun l => (List.range 18).map (fun k => s.job.base.items.lyr (lyrIx true j l) (k + 1))),
   [qn (s.pendingCount j)], (s.job.fences.filter (fun f => f.lane == j)).flatMap (fun f => [qn f.id, qn f.session, qn f.product, qn (f.signal.getD 0)])]

/-- LAYER.STATUS. -/
def opLayerStatus : OpDef :=
  { code := 0x0404, cls := clsAll, named := rptNamed 0xFFFF, prot := noProt, access := noAccess, check := noCheck, read := noRead,
    waits := noWaits, bind := noBind, act := fun s p _ => s.reportQ p ((bitsOf 16 (p.selector 16)).flatMap s.layerQuantities) }

/-! ## Meanings -/

/-- R154: LAYER.SET. -/
def execLayerSet (p : Packet) (s : State) : Out := .next (opLayerSet.dispatch s p)
/-- R155: LAYER.FLIP. -/
def execLayerFlip (p : Packet) (s : State) : Out := .next (opLayerFlip.dispatch s p)
/-- R157: LAYER.SIGNAL. -/
def execLayerSignal (p : Packet) (s : State) : Out := .next (opLayerSignal.dispatch s p)
/-- R445: LAYER.STATUS. -/
def execLayerStatus (p : Packet) (s : State) : Out := .next (opLayerStatus.dispatch s p)

end Sys2Proof.Machine
end

