-- ==== Sys2Proof/Machine/Marks.lean ====
section
/-! DEFINITION. Marks: counters, fields and format strings, glyph sets and their drawing, evaluation at the arm line, and
the MARK group (05 R175 to R193; 13 R447). -/

namespace Sys2Proof.Machine

/-! ## Format strings (05 R186, R187) -/

/-- A piece of a format string: a glyph, or a token by its letter. -/
inductive Tok where
  | glyph (g : Nat)
  | tok (c : Nat)
  deriving DecidableEq, Repr

/-- The value of a hex digit character. -/
def hexVal (c : Nat) : Option Nat :=
  if 48 ≤ c ∧ c ≤ 57 then some (c - 48)
  else if 65 ≤ c ∧ c ≤ 70 then some (c - 55)
  else if 97 ≤ c ∧ c ≤ 102 then some (c - 87)
  else none

/-- The tokens of a string; none where it breaks the format: the fuel is its length. -/
def tokens : Nat → List Nat → Option (List Tok)
  | _, [] => some []
  | 0, _ :: _ => none
  | n + 1, c :: r =>
    if c < 0x20 ∨ 0x7E < c then none
    else if c ≠ 0x25 then (tokens n r).map (Tok.glyph c :: ·)
    else match r with
      | 0x25 :: r' => (tokens n r').map (Tok.glyph 0x25 :: ·)
      | 0x7B :: a :: b :: d :: 0x7D :: r' =>
        match hexVal a, hexVal b, hexVal d with
        | some x, some y, some z => (tokens n r').map (Tok.glyph (256 * x + 16 * y + z) :: ·)
        | _, _, _ => none
      | k :: r' => if k = 0x7B then none else (tokens n r').map (Tok.tok k :: ·)
      | [] => none

/-- Tokens of a format string. -/
def toksOf (cs : List Nat) : Option (List Tok) := tokens cs.length cs

/-- Letters of the tokens that a type permits (05 R186). -/
def tokAllowed (type chk c : Nat) : Bool :=
  if c = 89 ∨ c = 121 then decide (2 ≤ type ∧ type ≤ 4)
  else if c = 109 ∨ c = 100 ∨ c = 98 then decide (type = 2 ∨ type = 3)
  else if c = 106 then decide (2 ≤ type ∧ type ≤ 4)
  else if c = 71 ∨ c = 103 ∨ c = 86 ∨ c = 117 then decide (type = 2 ∨ type = 3 ∨ type = 5)
  else if c = 72 ∨ c = 77 ∨ c = 83 then decide (type = 7)
  else if c = 115 then decide (type = 6)
  else if c = 67 then decide (type = 8)
  else if c = 75 then decide (type = 8 ∧ chk ≠ 0)
  else if c = 76 then decide (type = 9)
  else false

/-- The widest value of a token (05 R187). -/
def tokWidth : Tok → Nat
  | .glyph _ => 1
  | .tok c =>
    if c = 89 ∨ c = 71 then 4 else if c = 106 then 3 else if c = 117 ∨ c = 75 then 1 else if c = 98 then 8
    else if c = 115 then 4 else if c = 67 then 10 else if c = 76 then 32 else 2

/-- A string is valid for a field of a type (05 R187). -/
def fmtOk (type chk : Nat) (cs : List Nat) : Bool :=
  match toksOf cs with
  | none => false
  | some ts =>
    ts.all (fun t => match t with
      | .glyph _ => true
      | .tok c => tokAllowed type chk c) && decide ((ts.map tokWidth).foldl (· + ·) 0 ≤ 64)

/-! ## Items of fields and counters (05 R196) -/

/-- Item k of field f of lane j. -/
def PMap.fldItem (m : PMap) (j f k : Nat) : Int := PMap.item m (parmId 5 (0x80 + j) (256 * f + k))
/-- The same as a natural number. -/
def PMap.fldItemN (m : PMap) (j f k : Nat) : Nat := (m.fldItem j f k).toNat
/-- Item k of a counter. -/
def PMap.cntItem (m : PMap) (c k : Nat) : Int := PMap.item m (parmId 5 c k)

/-- An item of the package's own: a counter's or the calendar's, in force for every lane from an arm line on (05 R185). -/
def packageItem (pid : Nat) : Bool := decide (pid / 2 ^ 24 = 5 ∧ pid / 2 ^ 16 % 256 < 0x80)

/-! ## Check digits and counters (05 R181 to R183) -/

/-- Weighted sum of the n lowest decimal digits: position i of the weights from the right. -/
def digitSum (w : Nat → Nat) (i : Nat) : Nat → Nat → Nat
  | 0, _ => 0
  | n + 1, v => w i * (v % 10) + digitSum w (i + 1) n (v / 10)
/-- The mod-10 check digit (05 R183). -/
def mod10 (n v : Nat) : Nat := (10 - digitSum (fun i => if i % 2 = 0 then 3 else 1) 0 n v % 10) % 10
/-- The mod-11 check digit, 0 to 10 (05 R183). -/
def mod11 (n v : Nat) : Nat := (11 - digitSum (fun i => 2 + i % 6) 0 n v % 11) % 11

/-- Some value from v on by step within the limit has an acceptable check digit (05 R181). -/
def anyAcceptable (digits : Nat) (step limit : Int) : Nat → Int → Bool
  | 0, _ => false
  | n + 1, v =>
    if (step > 0 ∧ v > limit) ∨ (step < 0 ∧ v < limit) then false
    else if mod11 digits v.toNat ≠ 10 then true
    else anyAcceptable digits step limit n (v + step)

/-- The settings of a counter are valid; setValue says whether CNT_VALUE is written too (05 R181, R196). -/
def counterOk (m : PMap) (c : Nat) (setValue : Bool) : Bool :=
  let g := fun (k : Nat) => PMap.cntItem m c k
  let top : Int := 10 ^ (g 6).toNat
  decide (1 ≤ g 6 ∧ g 6 ≤ 10 ∧ g 2 ≠ 0 ∧ -(2 ^ 31) ≤ g 2 ∧ g 2 < 2 ^ 31 ∧ 0 ≤ g 1 ∧ g 1 < top ∧ 0 ≤ g 3 ∧ g 3 < top
    ∧ g 7 ≤ 2 ∧ g 9 ≤ 2 ^ 24 ∧ ¬(g 2 > 0 ∧ g 1 > g 3) ∧ ¬(g 2 < 0 ∧ g 1 < g 3)) &&
  (!setValue || decide (g 10 < top)) &&
  (!decide (g 7 = 2 ∧ g 8 = 1) || anyAcceptable (g 6).toNat (g 2) (g 3) (10 ^ 10 + 1) (g 1))

/-- A counter's use in progress: the counter and the events it raised. -/
structure CntRun where
  c : Counter
  evs : List Nat
  deriving DecidableEq, Repr

/-- advance() (05 R181). -/
def Counter.advance (c : Counter) (start step limit : Int) (stop : Bool) : CntRun :=
  let nxt : Int := (c.cur : Int) + step
  if (step > 0 ∧ nxt > limit) ∨ (step < 0 ∧ nxt < limit) then
    if stop then { c := { c with stopped := true }, evs := [Ev.counterLimit] }
    else { c := { c with cur := start.toNat }, evs := [Ev.counterWrap] }
  else { c := { c with cur := nxt.toNat }, evs := [] }

/-- The skip of values whose mod-11 check digit is 10 (05 R181). -/
def Counter.skip (digits : Nat) (start step limit : Int) (stop : Bool) : Nat → Counter → List Nat → CntRun
  | 0, c, evs => { c := c, evs := evs }
  | n + 1, c, evs =>
    if !c.stopped && mod11 digits c.cur == 10 then
      let r := c.advance start step limit stop
      Counter.skip digits start step limit stop n r.c (evs ++ r.evs)
    else { c := c, evs := evs }

/-- reset_due(c): the day, the shift, JOB.ARM and JOB.CHANGE, as enabled (05 R182). -/
def Counter.resetDue (c : Counter) (mask : Nat) (day : Nat) (shift : List Nat) (newJob : Option Nat) : Bool :=
  (bit mask 0 && (c.record.map (fun r => decide (r.1 ≠ day))).getD false) ||
  (bit mask 1 && (c.record.map (fun r => decide (r.2 ≠ shift))).getD false) ||
  (bit mask 2 && c.usedArm == 0) ||
  (bit mask 3 && (newJob.map (fun g => decide (c.usedChange ≠ g))).getD false)

/-- The use of a counter by a product: the value taken, if any, with the counter and its events (05 R181, R182). -/
def Counter.use (c : Counter) (m : PMap) (k day : Nat) (shift : List Nat) (newJob : Option Nat) : Option Nat × CntRun :=
  let g := fun (i : Nat) => PMap.cntItem m k i
  let stop := decide (g 4 = 1)
  let due := c.resetDue (g 5).toNat day shift newJob
  let c0 : Counter := if due then { c with cur := (g 1).toNat, stopped := false } else c
  let e0 := if due then [Ev.counterReset] else []
  let r1 := if !c0.stopped && decide (g 7 = 2 ∧ g 8 = 1) then Counter.skip (g 6).toNat (g 1) (g 2) (g 3) stop (10 ^ 10 + 10 ^ 10 + 2) c0 e0
    else { c := c0, evs := e0 }
  let rec_ : Counter → Counter := fun x =>
    { x with record := some (day, shift), usedArm := 1, usedChange := newJob.getD x.usedChange }
  if r1.c.stopped then (none, { c := rec_ r1.c, evs := r1.evs })
  else
    let r2 := r1.c.advance (g 1) (g 2) (g 3) stop
    (some r1.c.cur, { c := rec_ r2.c, evs := r1.evs ++ r2.evs })

/-! ## Glyph sets (05 R189, R190) -/

/-- Total size of a glyph set by its header. -/
def glyphSize (h : List Byte) : Nat := 16 + 8 * fld h 4 2 + fld h 8 4

/-- The header of a set is valid (05 R189). -/
def glyphHeader (h : List Byte) : Bool :=
  decide (fld h 0 2 = 0x4747 ∧ fld h 2 1 = 1 ∧ fld h 3 1 = 0 ∧ 1 ≤ fld h 4 2 ∧ fld h 4 2 ≤ 4096 ∧ fld h 6 2 = 0 ∧ fld h 12 4 = 0)

/-- A table entry of a set as a glyph, if it is valid: an undefined glyph has width 0 (05 R189). -/
def glyphOf (e bits_ : List Byte) : Option Glyph :=
  let w := fld e 0 1
  let h := fld e 1 1
  let off := fld e 4 4
  let n := h * ceilDiv w 8
  if fld e 3 1 ≠ 0 then none
  else if w = 0 then some { w := 0, h := 0, adv := fld e 2 1, bitmap := [] }
  else if h = 0 ∨ off + n > bits_.length then none
  else some { w := w, h := h, adv := fld e 2 1, bitmap := (bits_.drop off).take n }

/-- The glyphs of a whole set, if it is valid (05 R189). -/
def glyphSet (bs : List Byte) : Option (List Glyph) :=
  if !glyphHeader bs then none
  else
    let n := fld bs 4 2
    let area := (bs.drop (16 + 8 * n)).take (fld bs 8 4)
    let gs := (chunks 8 (bs.drop 16) n).map (fun e => glyphOf e area)
    if gs.all (·.isSome) then some (gs.map (fun g => g.getD { w := 0, h := 0, adv := 0, bitmap := [] })) else none

/-- A glyph is defined in a set. -/
def glyphDef (gs : List Glyph) (g : Nat) : Bool := ((gs[g]?).map (fun x => decide (x.w ≠ 0))).getD false

/-- The set that a bank holds, as the first tile that holds one has it (05 R190). -/
def State.bankGlyphs (s : State) (b : Nat) : List Glyph :=
  (s.tileList.findSome? (fun t => let g := vget (s.tileN t).die.glyphs b []; if g.isEmpty then none else some g)).getD []
/-- The bank that the next JOB.ARM or JOB.CHANGE makes active (05 R190). -/
def State.nextBank (s : State) : Nat := if s.stores.glyphLoaded then 1 - s.stores.glyphBank else s.stores.glyphBank
/-- The set that will be active for a target (05 R191). -/
def State.glyphsFor (s : State) (nextJob : Bool) : List Glyph :=
  s.bankGlyphs (if nextJob || !s.armed || s.job.change.isSome then s.nextBank else s.jobBank s.job.gen)

/-! ## Fields in force and pending (05 R188, R191) -/

/-- The inputs of evaluation that a check looks at: items by lane, format strings, names, shifts and lots. -/
structure MarkView where
  lane : Nat
  items : PMap
  fmts : NMap (List Nat)
  deriving DecidableEq, Repr

/-- A lane's changes and those staged for the next job, in order. -/
def State.laneQueue (s : State) (j : Nat) : List LaneChange :=
  (s.lane j).changes ++ (s.job.nextJob.filter (fun c => c.1 == j)).map (·.2)

/-- The views of a lane: in force, and after each of its changes. -/
def State.markViews (s : State) (j : Nat) : List MarkView :=
  let v0 : MarkView := { lane := j, items := s.job.base.items, fmts := s.marks.formats }
  let f := fun (acc : List MarkView × MarkView) (c : LaneChange) =>
    let v := acc.2
    let v' := { v with
      items := PMap.putAll v.items c.items,
      fmts := if c.mark = 5 then NMap.set [] v.fmts (16 * j + c.arg) (c.body.headD []) else v.fmts }
    (acc.1 ++ [v'], v')
  ((s.laneQueue j).foldl f ([v0], v0)).1

/-- Pending tables of a kind on a lane, or on every lane. -/
def State.pendingTables (s : State) (lanes : List Nat) (mark : Nat) : List (List (List Nat)) :=
  lanes.flatMap (fun j => ((s.laneQueue j).filter (fun c => c.mark == mark)).map (·.body))

/-- The sixteen lanes. -/
def lanes16 : List Nat := List.range 16

/-- Lots that a field of a lane may name: in force, or pending on the lane. -/
def State.lotDefined (s : State) (j i : Nat) : Bool :=
  decide (i < s.marks.lots.length) || (s.pendingTables [j] 3).any (fun l => decide (i < l.length))

/-- Every view of every lane. -/
def State.allViews (s : State) : List MarkView := lanes16.flatMap s.markViews

/-- Glyphs that a field of a view can print, but for those of names, shifts and lots (05 R191). -/
def MarkView.literals (v : MarkView) (f : Nat) : List Nat :=
  match toksOf (NMap.get [] v.fmts (16 * v.lane + f)) with
  | none => []
  | some ts =>
    let c := v.items.fldItemN v.lane f 8
    let x := decide (PMap.cntItem v.items c 7 = 2 ∧ PMap.cntItem v.items c 8 = 0)
    ts.flatMap (fun t => match t with
      | .glyph g => [g]
      | .tok k => if k = 98 ∨ k = 115 ∨ k = 76 then [] else List.range' 48 10 ++ (if k = 75 && x then [0x58] else []))

/-- Does a field of a view use a token? -/
def MarkView.uses (v : MarkView) (f k : Nat) : Bool :=
  match toksOf (NMap.get [] v.fmts (16 * v.lane + f)) with
  | none => false
  | some ts => ts.contains (.tok k)

/-- Fields of a view that are not off. -/
def MarkView.fields (v : MarkView) : List Nat := (List.range 16).filter (fun f => decide (v.items.fldItem v.lane f 1 ≠ 0))

/-- Every glyph a field of a view can print is defined: with tables of names, shifts and lots (05 R191). -/
def MarkView.glyphsOk (v : MarkView) (f : Nat) (gs : List Glyph) (names shifts lots : List (List Nat)) : Bool :=
  let extra := (if v.uses f 98 then names.flatten else []) ++ (if v.uses f 115 then shifts.flatten else []) ++
    (if v.uses f 76 then lots.flatten else [])
  (v.literals f ++ extra).all (glyphDef gs)

/-- Names in force and pending. -/
def State.namesAll (s : State) : List (List Nat) := s.marks.names ++ (s.pendingTables lanes16 4).flatten
/-- Shift codes in force and pending. -/
def State.shiftsAll (s : State) : List (List Nat) :=
  s.marks.shifts.map (·.2) ++ ((s.pendingTables lanes16 2).flatten).map (fun e => e.drop 1)
/-- Lot strings of an index in force and pending. -/
def State.lotsAt (s : State) (i : Nat) : List (List Nat) := (s.marks.lots :: s.pendingTables lanes16 3).filterMap (fun l => l[i]?)

/-- A field of a view against the set that will be active and everything in force and pending. -/
def State.fieldGlyphs (s : State) (gs : List Glyph) (v : MarkView) (f : Nat) : Bool :=
  v.glyphsOk f gs s.namesAll s.shiftsAll (s.lotsAt (v.items.fldItemN v.lane f 12))

/-! ## Dates of a field (05 R175) -/

/-- Day number of 2199-12-31. -/
def lastDay : Int := daysTo 2199 12 31

/-- The expiry of a field from a local day number (05 R175). -/
def expiry (z : Int) (shelf unit round : Nat) : Int :=
  let e :=
    if unit = 0 then z + shelf
    else
      let d := dateOf z
      let mm := d.month - 1 + shelf
      let y := d.year.toNat + mm / 12
      let mo := mm % 12 + 1
      daysTo y mo (min d.day (monthLen y mo))
  if round = 1 then
    let d := dateOf e
    daysTo d.year.toNat d.month (monthLen d.year.toNat d.month)
  else e

/-- The date that a field's date tokens print. -/
def PMap.fieldDay (m : PMap) (j f : Nat) (z : Int) : Int :=
  if m.fldItem j f 1 = 3 then expiry z (m.fldItemN j f 9) (m.fldItemN j f 10) (m.fldItemN j f 11) else z

/-! ## Evaluation (05 R177 to R180) -/

/-- n decimal digits of a value as glyphs, zero-padded. -/
def digits : Nat → Nat → List Nat
  | 0, _ => []
  | n + 1, v => digits n (v / 10) ++ [48 + v % 10]

/-- What the evaluation of a product knows: the wall clock, the day, the shift, and the counter values taken. -/
structure EvalAt where
  wall : Int
  z : Int
  shift : List Nat
  values : List (Nat × Option Nat)
  deriving DecidableEq, Repr

/-- The check digit's glyph; the field was bound with a check, and one without prints a free glyph (05 R183). -/
def checkGlyph (m : PMap) (c v fr : Nat) : Nat :=
  let n := (PMap.cntItem m c 6).toNat
  if PMap.cntItem m c 7 = 1 then 48 + mod10 n v
  else if PMap.cntItem m c 7 = 2 then (let k := mod11 n v; if k = 10 then 0x58 else 48 + k)
  else Config.freeNat fr % 4096

/-- The glyphs of a token (05 R186). -/
def State.tokGlyphs (s : State) (m : PMap) (j f : Nat) (e : EvalAt) : Tok → List Nat
  | .glyph g => [g]
  | .tok k =>
    let z := m.fieldDay j f e.z
    let d := dateOf z
    let q := dayOf e.wall
    let c := m.fldItemN j f 8
    let v := (((e.values.lookup c).getD none)).getD 0
    let y := d.year.toNat
    let iy := (isoOf z).1.toNat
    if k = 89 then digits 4 y else if k = 121 then digits 2 y
    else if k = 109 then digits 2 d.month else if k = 100 then digits 2 d.day
    else if k = 98 then (s.marks.names.getD (d.month - 1) [])
    else if k = 106 then digits 3 d.ordinal
    else if k = 71 then digits 4 iy else if k = 103 then digits 2 iy
    else if k = 86 then digits 2 (isoOf z).2 else if k = 117 then digits 1 d.wday
    else if k = 72 then digits 2 (q / 3600) else if k = 77 then digits 2 (q / 60 % 60) else if k = 83 then digits 2 (q % 60)
    else if k = 115 then e.shift
    else if k = 67 then digits (PMap.cntItem s.job.base.items c 6).toNat v
    else if k = 75 then [checkGlyph s.job.base.items c v s.free]
    else if k = 76 then s.marks.lots.getD (m.fldItemN j f 12) []
    else []

/-- The fields of a product that cannot be drawn: a stopped counter, or a date beyond 2199 (05 R175, R181). -/
def fieldBad (m : PMap) (j f : Nat) (e : EvalAt) : Bool :=
  let ty := m.fldItem j f 1
  (ty == 8 && ((e.values.lookup (m.fldItemN j f 8)).map (·.isNone)).getD false) ||
  (decide (2 ≤ ty ∧ ty ≤ 5) && decide (m.fieldDay j f e.z > lastDay))

/-- A counter used by a product: its value, its new state in the package and in both PD_AON shadows, and its events
(05 R181, R184). -/
def State.useCounter (s : State) (p : Product) (day : Nat) (shift : List Nat) (c : Nat) : Option Nat × State :=
  let newJob := if s.job.past.any (fun e => decide (e.gen < p.job)) then some p.job else none
  let (v, r) := (vget s.marks.counters c Counter.reset).use s.job.base.items c day shift newJob
  let s1 := s.updMarks (fun m => { m with
    counters := vset m.counters c r.c, shadow := m.shadow.map (fun x => NMap.set Counter.reset x c r.c) })
  (v, r.evs.foldl (fun s e => s.raiseLead e [c, p.lane, p.num]) s1)

/-- The counters that a product's fields use, ascending by field. -/
def PMap.countersOf (m : PMap) (j : Nat) (fs : List Nat) : List Nat :=
  (fs.filter (fun f => decide (m.fldItem j f 1 = 8))).foldl (fun l f => addNew l (m.fldItemN j f 8)) []

/-- The mark changes that apply from a product's evaluation: tables, format strings, counters, and the items of the
package's own (05 R185). -/
def State.applyMark (s : State) (j : Nat) (c : LaneChange) : State :=
  let es := c.items.filter (fun e => packageItem e.1)
  let s1 := { s with job := { s.job with
    base := { s.job.base with items := PMap.putAll s.job.base.items es }, changeItems := PMap.putAll s.job.changeItems es
    past := s.job.past.map (fun e => { e with items := PMap.putAll e.items es }) } }
  match c.mark with
  | 1 => s1.updMarks (fun m => { m with rules := c.body.map DstRule.ofBytes })
  | 2 => s1.updMarks (fun m => { m with shifts := c.body.map (fun e => (e.headD 0, e.drop 1)), active := none, wall := none
                                        taus := m.taus.map (fun x => { x with active := none, wall := none }) })
  | 3 => s1.updMarks (fun m => { m with lots := c.body })
  | 4 => s1.updMarks (fun m => { m with names := c.body })
  | 5 => s1.updMarks (fun m => { m with formats := NMap.set [] m.formats (16 * j + c.arg) (c.body.headD []) })
  | 6 =>
    let b := c.body.headD []
    s1.updMarks (fun m => { m with
      counters := vupd m.counters c.arg Counter.reset (fun x =>
        { x with cur := if b.headD 0 = 1 then b.getD 1 0 else x.cur, stopped := false, record := none }) })
  | _ => s1

/-- The tick at which a product is evaluated: that at which its arm line issues (05 R177). -/
def State.evalTick (s : State) (arm : Nat) : Nat := ((s.issuedAt arm).map (·.tick)).getD s.now

/-- A product's fields evaluated under its items: its strings, with SHIFT_CHANGE and the rejection of a field that cannot
be drawn (05 R175 to R181). -/
def State.evaluate (s : State) (p : Product) (m : PMap) (arm : Nat) : State :=
  let j := p.lane
  let t := s.evalTick arm
  let wall := s.localSec (s.calSecond t)
  let shift := s.shiftOf t wall
  let z := wall.fdiv 86400
  let fs := (List.range 16).filter (fun f => decide (m.fldItem j f 1 ≠ 0))
  let last := (s.lane j).lastShift
  let s2 := if last.isSome && last ≠ some shift then s.raiseLead Ev.shiftChange ([j, p.num] ++ shift) else s
  let step := fun (a : List (Nat × Option Nat) × State) (c : Nat) =>
    let r := a.2.useCounter p z.toNat shift c
    (a.1 ++ [(c, r.1)], r.2)
  let (vals, s2') := (m.countersOf j fs).foldl step ([], s2)
  let s3 := s2'.updMarks (fun k => { k with
    changed := ((m.countersOf j fs).reverse.map (fun c => (arm, c, vget k.counters c Counter.reset)) ++ k.changed).take 1024 })
  let e : EvalAt := { wall := wall, z := z, shift := shift, values := vals }
  let strs := (fs.filter (fun f => !fieldBad m j f e)).map (fun f =>
    (f, ((toksOf (NMap.get [] s3.marks.formats (16 * j + f))).getD []).flatMap (s3.tokGlyphs m j f e)))
  let s4 := (s3.updProduct j p.num (fun q => { q with strings := strs })).nextFree
  let s5 := s4.updLane j (fun l => { l with lastShift := some shift, lastStrings := strs })
  if fs.any (fun f => fieldBad m j f e) then s5.reject j p.num else s5

/-! ## Drawing (05 R192) -/

/-- Glyphs of a string with their pens in unscaled dots. -/
def pens (gs : List Glyph) (pen : Nat) : List Nat → List (Nat × Glyph)
  | [] => []
  | g :: r =>
    let x := gs.getD g { w := 0, h := 0, adv := 0, bitmap := [] }
    (pen, x) :: pens gs (pen + x.adv) r

/-- The ink bit of a glyph's dot. -/
def Glyph.dot (g : Glyph) (x y : Nat) : Bool :=
  decide (x < g.w ∧ y < g.h) && ((g.bitmap[y * ceilDiv g.w 8 + x / 8]?).map (fun b => bit b.toNat (7 - x % 8))).getD false

/-- An offset turned clockwise by 90r degrees about the origin dot: positions to the right, lines downward. -/
def turn (r : Nat) (x y : Int) : Int × Int :=
  if r = 1 then (-y, x) else if r = 2 then (-x, -y) else if r = 3 then (y, -x) else (x, y)

/-- A string's ink at an offset from its field's origin. -/
def stringDot (gs : List Glyph) (str : List Nat) (scale r : Nat) (dx dy : Int) : Bool :=
  let u := turn ((4 - r) % 4) dx dy
  if u.1 < 0 ∨ u.2 < 0 then false
  else
    let gx := u.1.toNat / scale
    let gy := u.2.toNat / scale
    (pens gs 0 str).any (fun p => decide (p.1 ≤ gx) && p.2.dot (gx - p.1) gy)

/-- The field pixel at a product coordinate in a channel: the ink of the highest field drawn there (05 R192). -/
def markDot (p : Product) (m : PMap) (gs : List Glyph) (ch : Nat) (x y : Int) : Option Nat :=
  let hit := fun (e : Nat × List Nat) =>
    bit (m.fldItemN p.lane e.1 6) ch &&
      stringDot gs e.2 (m.fldItemN p.lane e.1 5) (m.fldItemN p.lane e.1 4) (x - m.fldItem p.lane e.1 2) (y - m.fldItem p.lane e.1 3)
  ((p.strings.filter hit).getLast?).map (fun e => m.fldItemN p.lane e.1 7)

/-- Product coordinates of a string's ink. -/
def PMap.inkAt (m : PMap) (j : Nat) (gs : List Glyph) (e : Nat × List Nat) : List (Int × Int) :=
  let sc := m.fldItemN j e.1 5
  (pens gs 0 e.2).flatMap (fun p =>
    (List.range p.2.h).flatMap (fun gy => (List.range p.2.w).flatMap (fun gx =>
      if p.2.dot gx gy then
        (List.range sc).flatMap (fun a => (List.range sc).map (fun b =>
          let u := turn (m.fldItemN j e.1 4) (((p.1 + gx) * sc + a : Nat) : Int) ((gy * sc + b : Nat) : Int)
          (m.fldItem j e.1 2 + u.1, m.fldItem j e.1 3 + u.2)))
      else [])))

/-- The fields of a product clipped by its positions and lines that have not been named yet: each is FIELD_CLIPPED once, if it
has a pixel in some channel (05 R192). -/
def State.clipFields (s : State) (lane num : Nat) : State :=
  match s.product lane num with
  | none => s
  | some p =>
    let gs := s.bankGlyphs (s.jobBank p.job)
    let w : Int := s.laneW lane
    let h : Int := s.prodEnd p - p.first
    let bad := (p.strings.filter (fun e => !p.clipped.contains e.1 &&
      (List.range 12).any (fun c => bit (p.items.fldItemN lane e.1 6) c && decide (chField (p.items.lyrN (lyrIx false lane 2) 4) c ≠ 0)) &&
      (p.items.inkAt lane gs e).any (fun c => decide (c.1 < 0 ∨ w ≤ c.1 ∨ c.2 < 0 ∨ h ≤ c.2)))).map (·.1)
    bad.foldl (fun s f => (s.updProduct lane num (fun q => { q with clipped := q.clipped ++ [f] })).raiseLead Ev.fieldClipped [lane, num, f]) s

/-! ## Commands -/

/-- Checks of a target in the MARK group. -/
def checkMark (s : State) (p : Packet) : Nat × Nat × Nat := (checkTgt false St.markArg s p, 0, 0)

/-- A change of one mark table. -/
def markChange (p : Packet) (mark arg : Nat) (body : List (List Nat)) (items : List (Nat × Int)) : LaneChange :=
  { LaneChange.of p with mark := mark, arg := arg, body := body, items := items }

/-- Bytes as numbers. -/
def nats (bs : List Byte) : List Nat := bs.map (·.toNat)

/-- A binding step that checks only: a status from the host data. -/
def bindCheck (f : State → Packet → List Byte → Nat) (s : State) (p : Packet) (bs : List Byte) : (Nat × Nat × Nat) × State :=
  ((f s p bs, 0, 0), s)

/-- The daylight rules of a packet's host data. -/
def ruleBodies (p : Packet) (bs : List Byte) : List (List Nat) := (chunks 16 bs (p.f 4 4 0)).map nats

/-- MARK.RULES (05 R172). -/
def opMarkRules : OpDef :=
  { code := 0x0502, cls := clsSO, named := [tgtPlain, 0xFFFF_FFFF, 0x1F, 0xFFFF_FFFF, 0xFFFF_FFFF], prot := noProt,
    access := noAccess,
    check := fun s p => if p.f 4 4 0 > 16 then (St.markArg, 0, 0) else checkMark s p,
    read := fun _ p => if p.f 4 4 0 = 0 then none else some (p.ha 5, 16 * p.f 4 4 0), waits := noWaits,
    bind := bindCheck (fun _ p bs =>
      let rs := (ruleBodies p bs).map DstRule.ofBytes
      if rs.all DstRule.ok && rulesApart rs then St.ok else St.ruleBad),
    act := fun s p bs => s.submit p (markChange p 1 0 (ruleBodies p bs) []) }

/-- A name of 1 to n characters, NUL-padded to the end of its bytes: the characters, if valid. -/
def padded (bs : List Nat) : Option (List Nat) :=
  let cs := bs.takeWhile (· != 0)
  if cs.isEmpty || (bs.drop cs.length).any (· != 0) || cs.any (fun c => decide (c < 0x20 ∨ 0x7E < c)) then none else some cs

/-- The shift table of a packet's host data: start and code of each entry, if valid (05 R176, 13 R447). -/
def shiftBodies (p : Packet) (bs : List Byte) : Option (List (List Nat)) :=
  let es := (chunks 8 bs (p.f 4 3 0)).map (fun e =>
    match padded (nats ((e.drop 4).take 4)) with
    | some cs => if fld e 0 2 ≤ 1439 ∧ fld e 2 2 = 0 then some (fld e 0 2 :: cs) else none
    | none => none)
  let ts := es.map (fun e => e.getD [])
  let starts := ts.map (fun e => e.headD 0)
  if es.all (·.isSome) && (starts.zip (starts.drop 1)).all (fun x => decide (x.1 < x.2)) then some ts else none

/-- Every field, in force or pending, that uses a token has the glyphs of new strings. -/
def State.tableGlyphs (s : State) (p : Packet) (k : Nat) (strs : Nat → List (List Nat)) : Bool :=
  let gs := s.glyphsFor (p.tgtMode == 2)
  s.allViews.all (fun v => v.fields.all (fun f =>
    !v.uses f k || ((strs (v.items.fldItemN v.lane f 12)).flatten).all (glyphDef gs)))

/-- MARK.SHIFTS (05 R176). -/
def opMarkShifts : OpDef :=
  { code := 0x0503, cls := clsSO, named := [tgtPlain, 0xFFFF_FFFF, 0xF, 0xFFFF_FFFF, 0xFFFF_FFFF], prot := noProt,
    access := noAccess,
    check := fun s p => if p.f 4 3 0 = 0 ∨ p.f 4 3 0 > 8 then (St.markArg, 0, 0) else checkMark s p,
    read := fun _ p => some (p.ha 5, 8 * p.f 4 3 0), waits := noWaits,
    bind := bindCheck (fun s p bs =>
      match shiftBodies p bs with
      | none => St.markArg
      | some ts => if s.tableGlyphs p 115 (fun _ => ts.map (fun e => e.drop 1)) then St.ok else St.markGlyph),
    act := fun s p bs => s.submit p (markChange p 2 0 ((shiftBodies p bs).getD []) []) }

/-- The strings of a table of n entries with a length byte, 3 reserved bytes and max characters, if valid (13 R447). -/
def lenTable (size max n : Nat) (bs : List Byte) : Option (List (List Nat)) :=
  let es := (chunks size bs n).map (fun e =>
    let k := fld e 0 1
    let cs := nats ((e.drop 4).take k)
    if 1 ≤ k ∧ k ≤ max ∧ fld e 1 3 = 0 ∧ cs.all (fun c => decide (0x20 ≤ c ∧ c ≤ 0x7E)) then some cs else none)
  if es.all (·.isSome) then some (es.map (fun e => e.getD [])) else none

/-- MARK.LOT (05 R188). -/
def opMarkLot : OpDef :=
  { code := 0x0507, cls := clsSOJ, named := [tgtPlain, 0xFFFF_FFFF, 0x1F, 0xFFFF_FFFF, 0xFFFF_FFFF], prot := noProt,
    access := noAccess,
    check := fun s p => if p.f 4 4 0 = 0 ∨ p.f 4 4 0 > 16 then (St.markArg, 0, 0) else checkMark s p,
    read := fun _ p => some (p.ha 5, 36 * p.f 4 4 0), waits := noWaits,
    bind := bindCheck (fun s p bs =>
      match lenTable 36 32 (p.f 4 4 0) bs with
      | none => St.markArg
      | some ts =>
        if s.allViews.any (fun v => v.fields.any (fun f =>
            decide (v.items.fldItem v.lane f 1 = 9 ∧ ts.length ≤ v.items.fldItemN v.lane f 12))) then St.markArg
        else if s.tableGlyphs p 76 (fun i => (ts[i]?).toList) then St.ok else St.markGlyph),
    act := fun s p bs => s.submit p (markChange p 3 0 ((lenTable 36 32 (p.f 4 4 0) bs).getD []) []) }

/-- MARK.NAMES (05 R188). -/
def opMarkNames : OpDef :=
  { code := 0x0509, cls := clsSOJ, named := [tgtPlain, 0xFFFF_FFFF, 0xFFFF_FFFF, 0xFFFF_FFFF], prot := noProt,
    access := noAccess, check := checkMark, read := fun _ p => some (p.ha 4, 144), waits := noWaits,
    bind := bindCheck (fun s p bs =>
      match lenTable 12 8 12 bs with
      | none => St.markArg
      | some ts => if s.tableGlyphs p 98 (fun _ => ts) then St.ok else St.markGlyph),
    act := fun s p bs => s.submit p (markChange p 4 0 ((lenTable 12 8 12 bs).getD []) []) }

/-! ### MARK.FIELD (05 R186 to R188, R191) -/

/-- The settings of a MARK.FIELD, items 1 to 12 of the field (13 R447). -/
def fieldItems (p : Packet) : List (Nat × Int) :=
  let id := fun (k : Nat) => parmId 5 (0x80 + p.tgtLane) (256 * p.f 4 3 0 + k)
  [(id 1, (p.f 5 3 0 : Int)), (id 2, p.sdw 6), (id 3, p.sdw 7), (id 4, p.f 5 5 4), (id 5, (p.f 5 10 8 + 1 : Nat)), (id 6, p.f 5 23 12),
   (id 7, p.f 8 7 0), (id 8, p.f 8 13 8), (id 9, p.f 9 13 0), (id 10, p.f 8 20 20), (id 11, p.f 8 21 21), (id 12, p.f 8 19 16)]

/-- A field under its items and string: the status of its binding (05 R175, R186 to R188, R191). -/
def State.fieldBind (s : State) (nextJob : Bool) (v : MarkView) (f : Nat) : Nat :=
  let ty := v.items.fldItemN v.lane f 1
  let chk := (PMap.cntItem v.items (v.items.fldItemN v.lane f 8) 7).toNat
  let z := (s.localSec (s.calSecond s.now)).fdiv 86400
  if ty = 0 then St.ok
  else if !fmtOk ty chk (NMap.get [] v.fmts (16 * v.lane + f)) then St.markFmt
  else if ty = 9 && !s.lotDefined v.lane (v.items.fldItemN v.lane f 12) then St.markArg
  else if ty = 3 && decide (v.items.fieldDay v.lane f z > lastDay) then St.markArg
  else if !s.fieldGlyphs (s.glyphsFor nextJob) v f then St.markGlyph
  else St.ok

/-- The view of a lane after its changes and a further one. -/
def State.viewAfter (s : State) (j : Nat) (items : List (Nat × Int)) (fmt : Option (Nat × List Nat)) : MarkView :=
  let v := ((s.markViews j).getLast?).getD { lane := j, items := s.job.base.items, fmts := s.marks.formats }
  { v with items := PMap.putAll v.items items, fmts := match fmt with
      | some (f, cs) => NMap.set [] v.fmts (16 * j + f) cs
      | none => v.fmts }

/-- Checks of MARK.FIELD at dispatch. -/
def checkMarkField (s : State) (p : Packet) : Nat × Nat × Nat :=
  let bad := decide (p.f 5 3 0 > 9 ∨ p.f 12 6 0 = 0 ∨ p.f 12 6 0 > 64 ∨ p.f 9 13 0 > (if p.f 8 20 20 = 0 then 9999 else 600))
  if bad then (St.markArg, 0, 0) else checkMark s p

/-- MARK.FIELD. -/
def opMarkField : OpDef :=
  { code := 0x0505, cls := clsSOJ,
    named := [tgtPlain, 0xFFFF_FFFF, 0xF, 0x00FF_F73F, 0xFFFF_FFFF, 0xFFFF_FFFF, 0x003F_3FFF, 0x3FFF, 0xFFFF_FFFF, 0xFFFF_FFFF, 0x7F],
    prot := noProt, access := noAccess, check := checkMarkField, read := fun _ p => some (p.ha 10, p.f 12 6 0),
    waits := noWaits,
    bind := bindCheck (fun s p bs =>
      s.fieldBind (p.tgtMode == 2) (s.viewAfter p.tgtLane (fieldItems p) (some (p.f 4 3 0, nats bs))) (p.f 4 3 0)),
    act := fun s p bs => s.submit p (markChange p 5 (p.f 4 3 0) [nats bs] (fieldItems p)) }

/-! ### MARK.COUNTER (05 R181, R185) -/

/-- The settings of a MARK.COUNTER (13 R447). -/
def counterItems (p : Packet) : List (Nat × Int) :=
  let id := fun (k : Nat) => parmId 5 (p.f 4 5 0) k
  [(id 1, ((p.dw 5 + 2 ^ 32 * p.f 11 7 0 : Nat) : Int)), (id 2, p.sdw 6), (id 3, (p.dw 7 + 2 ^ 32 * p.f 11 15 8 : Nat)),
   (id 4, p.f 9 7 7), (id 5, p.f 9 11 8), (id 6, p.f 9 3 0), (id 7, p.f 9 5 4), (id 8, p.f 9 6 6), (id 9, p.f 10 24 0)] ++
  (if bit (p.dw 4) 16 then [(id 10, ((p.dw 8 + 2 ^ 32 * p.f 11 23 16 : Nat) : Int))] else [])

/-- Checks of MARK.COUNTER. -/
def checkMarkCounter (s : State) (p : Packet) : Nat × Nat × Nat :=
  let t := checkTgt false St.markArg s p
  if t ≠ St.ok then (t, 0, 0)
  else (if counterOk (PMap.putAll s.job.base.items (counterItems p)) (p.f 4 5 0) (bit (p.dw 4) 16) then St.ok else St.markArg, 0, 0)

/-- MARK.COUNTER. -/
def opMarkCounter : OpDef :=
  { code := 0x0506, cls := clsSOJ,
    named := [tgtPlain, 0xFFFF_FFFF, 0x1_003F, 0xFFFF_FFFF, 0xFFFF_FFFF, 0xFFFF_FFFF, 0xFFFF_FFFF, 0xFFF, 0x1FF_FFFF, 0xFF_FFFF],
    prot := noProt, access := noAccess, check := checkMarkCounter, read := noRead, waits := noWaits, bind := noBind,
    act := fun s p _ => s.submit p (markChange p 6 (p.f 4 5 0)
      [[boolNat (bit (p.dw 4) 16), p.dw 8 + 2 ^ 32 * p.f 11 23 16]] (counterItems p)) }

/-! ### MARK.GLYPHS (05 R189, R190; 03 R616) -/

/-- The glyph set's size by the header that a span holds now. -/
def State.glyphLen (s : State) (p : Packet) : Nat := max 16 (glyphSize (s.spanRead 0 (p.da 2) 16))

/-- Checks of MARK.GLYPHS at dispatch. A JOB.CHANGE uses the standby bank until that has become active at its change line (05
R190; log 125). -/
def checkMarkGlyphs (s : State) (p : Packet) : Nat × Nat × Nat :=
  if p.da 2 % 64 ≠ 0 then (St.glyphBad, 0, 0)
  else if !s.inJob (p.da 2) 16 then (St.addrRange, 0, 0)
  else if (s.job.change.isSome || s.job.bankLine.isSome) && s.stores.glyphLoaded then (St.glyphSpace, 0, 0)
  else (St.ok, 0, 0)

/-- MARK.GLYPHS: the set goes to the standby bank of every tile (05 R190). -/
def actMarkGlyphs (s : State) (p : Packet) (_ : List Byte) : State :=
  let a := p.da 2
  s.withBlock p.seq s.allSpans a 16 (fun s h =>
    if !glyphHeader h then s.done p.seq St.glyphBad
    else if glyphSize h > 2 ^ 20 then s.done p.seq St.glyphSpace
    else if !s.inJob a (glyphSize h) then s.done p.seq St.addrRange
    else s.withBlock p.seq s.allSpans a (glyphSize h) (fun s bs =>
      match glyphSet bs with
      | none => s.done p.seq St.glyphBad
      | some gs =>
        let s1 := s.onDie 6 (fun d => { d with glyphs := vset d.glyphs (1 - s.stores.glyphBank) gs })
        ({ s1 with stores := { s1.stores with glyphLoaded := true } }).done p.seq St.ok))

/-- MARK.GLYPHS. -/
def opMarkGlyphs : OpDef :=
  { code := 0x0504, cls := clsSOJ, named := [0xFFFF_FFFF, 0xFF], prot := noProt,
    access := fun s p _ => [{ spans := s.allSpans, base := p.da 2, len := s.glyphLen p, write := false }],
    check := checkMarkGlyphs, read := noRead, waits := fun s _ _ => s.allSpans, bind := noBind, act := actMarkGlyphs }

/-- The banks swap if the standby bank was loaded (05 R190). -/
def State.swapGlyphs (s : State) : State :=
  if s.stores.glyphLoaded then { s with stores := { s.stores with glyphBank := 1 - s.stores.glyphBank, glyphLoaded := false } } else s

/-! ### MARK.STATUS (05 R193) -/

/-- Counter states, calendar state and the last strings of lanes (05 R193, 13 R438). -/
def State.markQuantities (s : State) (lanes : Nat) : List (List Int) :=
  (List.range 64).map (fun c =>
    let x := vget s.marks.counters c Counter.reset
    [qn c, qn x.cur, qb x.stopped, qn ((x.record.map (·.1)).getD 0)] ++ ((x.record.map (·.2)).getD []).map qn) ++
  [[qn s.master.sec, qn (s.subAt s.lead.tile s.now), qb s.master.valid, qb s.master.srcOk, qb s.master.step.isSome,
    qb s.master.slew.isSome, qn s.marks.dst]] ++
  (bitsOf 16 lanes).map (fun j => qn j :: (s.lane j).lastStrings.flatMap (fun e => qn e.1 :: e.2.map qn))

/-- MARK.STATUS. -/
def opMarkStatus : OpDef :=
  { code := 0x0508, cls := clsAll, named := rptNamed 0xFFFF, prot := noProt, access := noAccess, check := noCheck,
    read := noRead, waits := noWaits, bind := noBind, act := fun s p _ => s.reportQ p (s.markQuantities (p.selector 16)) }

/-! ## What JOB.ARM and JOB.CHANGE repeat (05 R167, R180, R188, R191) -/

/-- The views of lanes as the next job will find them: every staged change, under the items given. -/
def State.nextViews (s : State) (m : PMap) : List MarkView :=
  lanes16.map (fun j =>
    let v := s.viewAfter j [] none
    { v with items := (s.laneQueue j).foldl (fun m c => PMap.putAll m c.items) m })

/-- A field needs the calendar: it reads it, or its counter resets on date or shift (05 R167). -/
def MarkView.readsCalendar (v : MarkView) (f : Nat) : Bool :=
  let ty := v.items.fldItem v.lane f 1
  decide (2 ≤ ty ∧ ty ≤ 7) || (ty == 8 && decide ((PMap.cntItem v.items (v.items.fldItemN v.lane f 8) 5).toNat % 4 ≠ 0))

/-- The marks of a job about to begin: 0, or the status of the first check that fails (05 R167, R180, R188, R191). -/
def State.armMarks (s : State) (m : PMap) : Nat :=
  let vs := (s.nextViews m).filter (fun v => decide (PMap.item m (Pid.laneW v.lane) ≠ 0))
  let some_ := fun (f : MarkView → Nat → Bool) => vs.any (fun v => v.fields.any (f v))
  if some_ MarkView.readsCalendar && !s.master.valid then St.calInvalid
  else if some_ (fun _ _ => true) && decide (PMap.item m Pid.motIssueAhead < 5000) then St.markArg
  else if some_ (fun v f => v.items.fldItem v.lane f 1 == 9 && !s.lotDefined v.lane (v.items.fldItemN v.lane f 12)) then St.markArg
  else if some_ (fun v f => !s.fieldGlyphs (s.bankGlyphs s.nextBank) v f) then St.markGlyph
  else St.ok

/-! ## Meanings -/

/-- R172: MARK.RULES. -/
def execMarkRules (p : Packet) (s : State) : Out := .next (opMarkRules.dispatch s p)
/-- R176: MARK.SHIFTS. -/
def execMarkShifts (p : Packet) (s : State) : Out := .next (opMarkShifts.dispatch s p)
/-- R190: MARK.GLYPHS. -/
def execMarkGlyphs (p : Packet) (s : State) : Out := .next (opMarkGlyphs.dispatch s p)
/-- R186: MARK.FIELD. -/
def execMarkField (p : Packet) (s : State) : Out := .next (opMarkField.dispatch s p)
/-- R181: MARK.COUNTER. -/
def execMarkCounter (p : Packet) (s : State) : Out := .next (opMarkCounter.dispatch s p)
/-- R188: MARK.LOT. -/
def execMarkLot (p : Packet) (s : State) : Out := .next (opMarkLot.dispatch s p)
/-- R193: MARK.STATUS. -/
def execMarkStatus (p : Packet) (s : State) : Out := .next (opMarkStatus.dispatch s p)
/-- R188: MARK.NAMES. -/
def execMarkNames (p : Packet) (s : State) : Out := .next (opMarkNames.dispatch s p)

end Sys2Proof.Machine
end

