-- ==== Sys2Proof/Machine/Scan.lean ====
section
/-! DEFINITION. Bars, the delay store, segments and their frames' sizes, lane loads and the scan-out lead (09 R283 to
R298), the checks of JOB.ARM on them, LINK.SCAN and LINK.REMAP. -/

namespace Sys2Proof.Machine

/-! ## Nozzles and segments of a row on a span (09 R285, R293) -/

/-- Key of a row. -/
def rowKey (c r : Nat) : Nat := 4 * c + r

/-- The nozzles of a row-line: N_r (09 R285). -/
def State.rowNoz (s : State) (k c r : Nat) : Nat := (s.nozRange k c r).2 - (s.nozRange k c r).1
/-- The words of a row-line: W_r (09 R285). -/
def State.rowWords (s : State) (k c r : Nat) : Nat := ceilDiv (s.rowNoz k c r) 22
/-- The ring entries of a row: E_r (09 R286). -/
def State.rowEntries (s : State) (c r : Nat) : Nat := ceilDiv (s.rowDelay c r + 4) (s.rowK c)

/-- The 22 levels of a word as a base-7 number (09 R285). -/
def packLevels (lv : List Nat) : Nat := lv.foldr (fun l n => l + 7 * n) 0

/-- VOIDMARK of word 0 (09 R285, R299). -/
def voidMark : Nat := 2 ^ 62
/-- The words of a row-line of n words: 22 levels each, with VOIDMARK (09 R285). -/
def packRow (void : Bool) (n : Nat) (lv : List Nat) : List Nat :=
  (List.range n).map (fun w => packLevels ((lv.drop (22 * w)).take 22) + (if void ∧ w = 0 then voidMark else 0))
/-- The row-line carries VOIDMARK. -/
def RowLine.void (rl : RowLine) : Bool := bit (rl.words.headD 0) 62
/-- The level of a row-line's nozzle i (09 R285). -/
def RowLine.level (rl : RowLine) (i : Nat) : Nat := rl.words.getD (i / 22) 0 % voidMark / 7 ^ (i % 22) % 7
/-- The nozzles of a row-line whose levels lie in a granule, the row-line standing at an address: 22 to a word of 8 bytes
(09 R285, R292). -/
def RowLine.inGranule (rl : RowLine) (base g : Nat) : List Nat :=
  ((List.range rl.words.length).filter (fun w => (base + 8 * w) / 64 == g)).flatMap (fun w => List.range' (22 * w) 22)

/-- The segments of a row on a span: SEG, first nozzle and number of nozzles (09 R293). -/
def State.segsOf (s : State) (k c r : Nat) : List (Nat × Nat × Nat) :=
  let g := s.nozRange k c r
  if g.2 ≤ g.1 then []
  else
    let s0 := g.1 / 1024
    (List.range ((g.2 - 1) / 1024 + 1 - s0)).map (fun i =>
      let lo := max g.1 (1024 * (s0 + i))
      (1024 * c + 256 * r + i, lo, min g.2 (1024 * (s0 + i + 1)) - lo))

/-- The channel of a SEG. -/
def segCh (seg : Nat) : Nat := bits seg 13 10
/-- The row of a SEG. -/
def segRow (seg : Nat) : Nat := bits seg 9 8

/-- A segment of a span by its SEG. -/
def State.segOf (s : State) (k seg : Nat) : Option (Nat × Nat × Nat) :=
  (s.segsOf k (segCh seg) (segRow seg)).find? (fun x => x.1 == seg)

/-- Bytes of a LINE frame of n nozzles (09 R296). -/
def frameBytes (n : Nat) : Nat := 32 + ceilDiv n 2

/-- The rows of a bar, ascending channel and row. -/
def State.barRows (s : State) (b : Nat) : List (Nat × Nat) := s.rows.filter (fun x => decide (s.barOf x.1 = some b))

/-- The bars that carry an active channel. -/
def State.usedBars (s : State) : List Nat := (List.range 12).filter (fun b => decide (s.itemN (Pid.barCh b) &&& s.activeCh ≠ 0))

/-! ## The delay store (09 R286 to R291) -/

/-- A row of a span's delay store with where it lies. -/
structure Placed where
  c : Nat
  r : Nat
  d : Nat
  words : Nat
  ring : Nat
  short : Bool
  deriving DecidableEq, Repr

/-- Order of placement: ascending delay, channel, row (09 R287). -/
def placeBefore (a b : Nat × Nat × Nat) : Bool :=
  decide (a.1 < b.1 ∨ (a.1 = b.1 ∧ (a.2.1 < b.2.1 ∨ (a.2.1 = b.2.1 ∧ a.2.2 < b.2.2))))

/-- Insertion in the order of placement. -/
def placeInsert (x : Nat × Nat × Nat) : List (Nat × Nat × Nat) → List (Nat × Nat × Nat)
  | [] => [x]
  | y :: r => if placeBefore x y then x :: y :: r else y :: placeInsert x r

/-- Each row takes the short store while its ring still fits (09 R287). -/
def State.placeRows (s : State) (k : Nat) : Nat → List (Nat × Nat × Nat) → List Placed
  | _, [] => []
  | left, (d, c, r) :: rest =>
    let ring := s.rowEntries c r * s.rowWords k c r * 8
    let fits := decide (ring ≤ left)
    { c := c, r := r, d := d, words := s.rowWords k c r, ring := ring, short := fits } ::
      s.placeRows k (if fits then left - ring else left) rest

/-- The placement of a span's rows in the short store of 4,194,304 bytes and in DRAM (09 R287). -/
def State.placement (s : State) (k : Nat) : List Placed :=
  s.placeRows k 4194304 ((s.rows.map (fun x => (s.rowDelay x.1 x.2, x.1, x.2))).foldl (fun l x => placeInsert x l) [])

/-- Where a row's ring begins in the short store: the rows lie in the order of placement (09 R287; log 128). -/
def shortBase (ps : List Placed) (c r : Nat) : Nat :=
  (((ps.filter (·.short)).takeWhile (fun x => x.c != c || x.r != r)).map (·.ring)).foldl (· + ·) 0

/-- The rows of a placement whose rings lie in DRAM. -/
def inDram (ps : List Placed) : List Placed := ps.filter (fun x => !x.short)

/-- B_line (09 R290). -/
def bLine (ps : List Placed) : Nat := ((inDram ps).map (fun x => 8 * x.words)).foldl (· + ·) 0
/-- The prefetch depth P (09 R290). -/
def prefetchOf (ps : List Placed) : Nat := if bLine ps = 0 then 64 else min 64 (2097152 / bLine ps)
/-- Twelve times the delay rate of a tile, bytes a second (09 R289). -/
def State.delayRate12 (s : State) (ps : List Placed) : Nat :=
  ((inDram ps).map (fun x => 8 * x.words * s.itemN Pid.jobRateMax * (12 / s.rowK x.c))).foldl (· + ·) 0
/-- The device-owned need of a tile, bytes (09 R288). -/
def State.deviceNeed (s : State) (t : Nat) : Nat :=
  let rings := if s.spanWidth (t / 2) = 0 then 0
    else ((inDram (s.placement (t / 2))).map (fun x => up64' x.ring)).foldl (· + ·) 0
  rings + 320 * 2 ^ 20 + (if t < 2 then 640 * 2 ^ 20 else 0)
where
  up64' (n : Nat) : Nat := ceilDiv n 64 * 64

/-! ## Lanes of bars (09 R295 to R297) -/

/-- A bar of a tile is moved to BAR_ALT for a line. -/
def TileState.onAlt (x : TileState) (b n : Nat) : Bool :=
  (x.remaps.filter (fun m => decide (m.1 ≤ n) && bit m.2.1 b)).getLast?.map (·.2.2) |>.getD false

/-- The lane of a bar on a tile for a line (09 R295, R297). -/
def State.barLaneOf (s : State) (t b n : Nat) : Nat :=
  let alt := s.itemN (Pid.barAlt b)
  if (s.tileN t).onAlt b n ∧ alt ≠ 255 then alt else s.itemN (Pid.barLane b)

/-- Twelve times the LINE load that a lane may carry, bits a second (09 R296). -/
def TileState.laneLimit12 (x : TileState) (l : Nat) : Nat := if (x.lane l).rate = 1 then 12 * 24_500_000_000 else 12 * 9_800_000_000

/-- Bytes of the frames of a row on a span for one opportunity. -/
def State.rowBytes (s : State) (k c r : Nat) : Nat := ((s.segsOf k c r).map (fun x => frameBytes x.2.2)).foldl (· + ·) 0

/-- Twelve times the LINE load of a lane of a tile when bars lie as given, bits a second (09 R296). -/
def State.laneLoad12 (s : State) (t l : Nat) (laneOf : Nat → Nat) : Nat :=
  (((s.usedBars.filter (fun b => laneOf b == l)).flatMap s.barRows).map (fun x =>
    s.rowBytes (t / 2) x.1 x.2 * 8 * s.itemN Pid.jobRateMax * (12 / s.rowK x.1))).foldl (· + ·) 0

/-- A lane would be over its limit when bars lie as given (09 R296). -/
def State.laneOver (s : State) (t l : Nat) (laneOf : Nat → Nat) : Bool :=
  decide ((s.tileN t).laneLimit12 l < s.laneLoad12 t l laneOf)

/-! ## Lead time (09 R298) -/

/-- Bytes of a lane's busiest firing line: opportunities repeat every 12 lines. -/
def State.busiest (s : State) (t l n : Nat) : Nat :=
  let rows := (s.usedBars.filter (fun b => s.barLaneOf t b n == l)).flatMap s.barRows
  ((List.range 12).map (fun q =>
    ((rows.filter (fun x => decide ((q + 12 * 141_760 - s.rowDelay x.1 x.2) % s.rowK x.1 = s.rowPhase x.1 x.2))).map
      (fun x => s.rowBytes (t / 2) x.1 x.2)).foldl (· + ·) 0)).foldl max 0

/-- A node enters the lead-time sum: it is in CONFIG or READY (09 R298). -/
def State.nodeCounts (s : State) (id : Nat) : Bool := ((s.node id).map (fun n => decide (n.st = 3 ∨ n.st = 4))).getD false

/-- T_path and HUB_LEAD of a node, with what a node under check declares in place of what is known. -/
def State.nodeLead (s : State) (id : Nat) : Nat := ((s.node id).map (fun n => n.hello.hubLead + n.hello.tPath)).getD 0

/-- SCAN_LEAD of a tile when the nodes of a test add their path and lead (09 R298). -/
def State.scanLeadBy (s : State) (t n : Nat) (counts : Nat → Bool) : Nat :=
  let k := t / 2
  if s.spanWidth k = 0 then 0
  else
    let comp := ceilDiv (s.spanWidth k * (bitsOf 12 s.activeCh).length) 128 + 512
    comp + ((List.range 8).map (fun l =>
      let bars := s.usedBars.filter (fun b => s.barLaneOf t b n == l)
      if bars.isEmpty then 0
      else
        ceilDiv (8 * s.busiest t l n) ((s.tileN t).laneBits l) +
          ((bars.map (fun b => s.itemN (Pid.barNode b k))).filter counts |>.map s.nodeLead).foldl max 0)).foldl max 0

/-- SCAN_LEAD of a tile (09 R298). -/
def State.scanLeadOf (s : State) (t : Nat) : Nat := s.scanLeadBy t (s.motion.lastLine + 1) s.nodeCounts

/-! ## What JOB.ARM checks (09 R283, R287 to R290, R296, R305; 13 R440 rows 9 to 13) -/

/-- Segments that the job addresses to a node. -/
def State.nodeSegs (s : State) (id : Nat) : Nat :=
  (s.usedSpans.flatMap (fun k => (s.usedBars.filter (fun b => s.itemN (Pid.barNode b k) == id)).flatMap (fun b =>
    (s.barRows b).map (fun x => (s.segsOf k x.1 x.2).length)))).foldl (· + ·) 0

/-- The segment capacity that a node declares (10 R336). -/
def segCap (caps : Nat) : Nat := if bit caps 1 then 256 * 2 ^ bits caps 5 4 else 0

/-- Row 9: bars, channels, nodes and lanes are consistent (09 R283, R305). -/
def State.armScanArg (s : State) : Bool :=
  let carriers := fun (c : Nat) => (List.range 12).filter (fun b => bit (s.itemN (Pid.barCh b)) c)
  (bitsOf 12 s.activeCh).all (fun c => (carriers c).length == 1)
    && decide (s.itemN (Pid.barOffset 0) = 0)
    && (List.range 12).all (fun b => decide (s.itemN (Pid.barAlt b) ≠ s.itemN (Pid.barLane b)))
    && s.usedBars.all (fun b =>
      let ns := s.usedSpans.map (fun k => s.itemN (Pid.barNode b k))
      ns.all (· != 0) && decide ns.Nodup)
    && s.link.nodes.all (fun n => !(decide (n.st = 3 ∨ n.st = 4)) || decide (s.nodeSegs n.id ≤ segCap n.hello.caps) || decide (s.nodeSegs n.id = 0))

/-- The first tile of the used spans for which a test holds. -/
def State.firstTile (s : State) (p : Nat → Bool) : Option Nat := s.usedTiles.find? p

/-- Rows 9 to 13 of JOB.ARM: row, status and tile, 8 for none; row 0 where every check passes. -/
def State.armScan (s : State) : Nat × Nat × Nat :=
  if !s.armScanArg then (9, St.scanArg, 8)
  else
    match s.firstTile (fun t => let ps := s.placement (t / 2); (inDram ps).any (fun x => decide (x.d < 72)) || decide (prefetchOf ps < 8)) with
    | some t => (10, St.scanBuf, t)
    | none =>
      match s.firstTile (fun t => decide (12 * 10_800_000_000 < s.delayRate12 (s.placement (t / 2)))) with
      | some t => (11, St.delayBw, t)
      | none =>
        let n := s.motion.lastLine + 1
        match s.firstTile (fun t =>
          s.usedBars.any (fun b => !(s.tileN t).laneUp (s.itemN (Pid.barLane b)))
            || (List.range 8).any (fun l => s.laneOver t l (fun b => s.barLaneOf t b n))) with
        | some t => (12, St.laneShort, t)
        | none =>
          match s.tileList.find? (fun t => decide (s.itemN Pid.memRsvSize * 2 ^ 20 < s.deviceNeed t)) with
          | some t => (13, St.rsvShort, t)
          | none => (0, St.ok, 8)

/-- What JOB.ARM sets of the scan-out on every tile: placement, P, SCAN_LEAD, an empty delay store, and the tolerance
that the port declares (09 R287, R290, R291, R298). -/
def State.scanArm (s : State) : State :=
  forEach s.tileList s (fun s t =>
    let ps := if s.spanWidth (t / 2) = 0 then [] else s.placement (t / 2)
    let p := prefetchOf ps
    let lead := s.scanLeadOf t
    let tol := if s.item Pid.scanRtMode = 1 then some ((p - 2) * 250_000_000 / max 1 (s.itemN Pid.jobRateMax)) else none
    s.updTileN t (fun x => { x with
      delay := [], short := (ps.filter (·.short)).map (fun y => rowKey y.c y.r), prefetch := p, scanLead := lead, fired := [],
      remaps := (List.range 12).filterMap (fun b => if x.onAlt b (s.motion.lastLine + 1) then some (0, 2 ^ b, true) else none)
      lanes := x.lanes.map (fun l => { l with fromLine := 0 })
      memc := { x.memc with tolDecl := vset x.memc.tolDecl 0 tol } }))

/-! ## Moves of bars (09 R297, R302) -/

/-- A bar moves on a tile from the next line boundary, with LANE_REMAPPED (09 R297). -/
def State.moveBar (s : State) (t b : Nat) (alt : Bool) : State :=
  let n := s.motion.lastLine + 1
  let frm := s.barLaneOf t b n
  let s1 := s.updTileN t (fun x => { x with remaps := x.remaps ++ [(n, 2 ^ b, alt)] })
  let till := s1.barLaneOf t b n
  if till = frm then s else s1.raiseN t Ev.laneRemapped [b, frm, till]

/-- A bar lane of a tile went down: each bar on it moves to its trained alternate where SCAN_AUTO_ALT is 1 and the load
allows it (09 R297). -/
def State.laneLost (s : State) (t l : Nat) : State :=
  let n := s.motion.lastLine + 1
  if !s.armed || decide (s.itemNow Pid.scanAutoAlt ≠ 1) then s
  else
    forEach (s.usedBars.filter (fun b => s.barLaneOf t b n == l)) s (fun s b =>
      let alt := s.itemN (Pid.barAlt b)
      if alt = 255 || alt = l || !(s.tileN t).laneUp alt || s.laneOver t alt (fun x => if x = b then alt else s.barLaneOf t x n) then s
      else s.moveBar t b true)

/-- The tiles of LINK.REMAP's mask. -/
def remapTiles (p : Packet) : List Nat := bitsOf 8 (p.dw 3)
/-- The bars of LINK.REMAP's mask. -/
def remapBars (p : Packet) : List Nat := bitsOf 12 (p.dw 2)
/-- Where LINK.REMAP puts a bar. -/
def State.remapTo (s : State) (p : Packet) (b : Nat) : Nat := if bit (p.dw 4) 0 then s.itemN (Pid.barAlt b) else s.itemN (Pid.barLane b)

/-- Checks of LINK.REMAP (09 R297, R302). -/
def checkLinkRemap (s : State) (p : Packet) : Nat × Nat × Nat :=
  let n := s.motion.lastLine + 1
  let ts := remapTiles p
  let bs := remapBars p
  let till := s.remapTo p
  if ts.any (fun t => decide (s.nTiles ≤ t)) || bs.any (fun b => till b == 255) then (St.scanArg, 0, 0)
  else if ts.any (fun t => bs.any (fun b => decide (((s.tileN t).lane (till b)).st = 3))) then (St.laneDown, 0, 0)
  else if ts.any (fun t => bs.any (fun b => !(s.tileN t).laneUp (till b))
      || (s.armed && (List.range 8).any (fun l => s.laneOver t l (fun b => if b ∈ bs then till b else s.barLaneOf t b n)))) then (St.laneShort, 0, 0)
  else (St.ok, 0, 0)

/-- LINK.REMAP: the named bars of the named tiles move from the next line boundary (09 R302). -/
def actLinkRemap (s : State) (p : Packet) (_ : List Byte) : State :=
  (forEach (remapTiles p) s (fun s t => forEach (remapBars p) s (fun s b => s.moveBar t b (bit (p.dw 4) 0)))).done p.seq St.ok

/-- LINK.REMAP. -/
def opLinkRemap : OpDef :=
  { code := 0x0A11, cls := clsSO, named := [0xFFF, 0xFF, 1], prot := noProt, access := noAccess, check := checkLinkRemap,
    read := noRead, waits := noWaits, bind := noBind, act := actLinkRemap }

/-! ## LINK.SCAN (09 R302) -/

/-- What LINK.SCAN reports of a tile: placement, P, delay rate, lane loads, SCAN_LEAD, PANIC time, cause counters. -/
def State.scanQuantities (s : State) (t : Nat) : List Int :=
  let x := s.tileN t
  let ps := if s.spanWidth (t / 2) = 0 then [] else s.placement (t / 2)
  [qn t] ++ ps.flatMap (fun y => [qn (rowKey y.c y.r), qn y.d, qn y.ring, qb y.short])
    ++ [qn x.prefetch, qn (s.delayRate12 ps / 12)]
    ++ (List.range 8).map (fun l => qn (s.laneLoad12 t l (fun b => s.barLaneOf t b s.motion.lastLine) / 12))
    ++ [qn x.scanLead, qn (min (2 ^ 32 - 1) (vget x.memc.panicT 0 0 + ((vget x.memc.panic 0 none).map (fun _ => s.now - vget x.memc.panicFrom 0 0)).getD 0))]
    ++ (List.range 48).map (fun i => qn (NMap.get 0 x.voidCnt i))

/-- LINK.SCAN. -/
def opLinkScan : OpDef :=
  { code := 0x0A10, cls := clsAll, named := rptNamed 0xFF, prot := noProt, access := noAccess, check := noCheck,
    read := noRead, waits := noWaits, bind := noBind,
    act := fun s p _ => s.reportQ p (((bitsOf 8 (p.selector 8)).filter (· < s.nTiles)).map s.scanQuantities) }

/-! ## Meanings -/

/-- R302: LINK.SCAN. -/
def execLinkScan (p : Packet) (s : State) : Out := .next (opLinkScan.dispatch s p)
/-- R297: LINK.REMAP. -/
def execLinkRemap (p : Packet) (s : State) : Out := .next (opLinkRemap.dispatch s p)

end Sys2Proof.Machine
end

