-- ==== Sys2Proof/Machine/Memc.lean ====
section
/-! DEFINITION. The DRAM controller of a tile (chapter 15): the address map, requests and their errors, refresh, pauses,
tolerances and PANIC, and the scan buffer's fetches (09 R290 to R292). -/

namespace Sys2Proof.Machine

/-- The package with a DRAM controller changed. -/
def State.updMemc (s : State) (t : Nat) (f : Memc → Memc) : State := s.updTileN t (fun x => { x with memc := f x.memc })
/-- The DRAM controller of a tile. -/
def State.memc (s : State) (t : Nat) : Memc := (s.tileN t).memc

/-! ## Configuration and power-on (15 R475 to R477, R496) -/

/-- The code of a data rate (15 R498). -/
def rateCode (mts : Nat) : Nat := ([3200, 4267, 5500, 6400, 7500, 8533].findIdx? (· == mts)).getD 0
/-- The data rate of a code. -/
def rateOf (code : Nat) : Nat := [3200, 4267, 5500, 6400, 7500, 8533].getD code 0
/-- MEMC_HASH masks as the items give them (15 R496). -/
def State.hashItems (s : State) (t : Nat) : Vector Nat 4 :=
  #v[s.itemN (Pid.memcHashBa0 t), s.itemN (Pid.memcHashBa1 t), s.itemN (Pid.memcHashBg0 t), s.itemN (Pid.memcHashBg1 t)]
/-- Ranks of the fitted configuration (15 R475). -/
def State.memRanks (s : State) : Nat := if s.stores.gib = 32 ∨ (s.stores.gib = 16 ∧ s.stores.twoRank) then 2 else 1
/-- Row bits of the fitted configuration: devices of 16 Gb have 65,536 rows per bank, those of 32 Gb 131,072 (15 R475). -/
def State.memRows (s : State) : Nat := if s.stores.gib = 8 ∨ (s.stores.gib = 16 ∧ s.stores.twoRank) then 16 else 17
/-- Physical address bits N of the fitted configuration (15 R475). -/
def State.physBits (s : State) : Nat := if s.stores.gib = 8 then 33 else if s.stores.gib = 16 then 34 else 35

/-- A controller after its power-on and training, with the items that take effect there (15 R477, R496). -/
def State.memcOn (s : State) (t : Nat) : Memc :=
  { Memc.reset with
    rateA := rateCode (s.itemN (Pid.memcRateA t)), rateB := rateCode (s.itemN (Pid.memcRateB t)), hash := s.hashItems t
    ranks := s.memRanks - 1, rowbits := s.memRows, st := 2
    freqPend := decide (s.itemN (Pid.memcSet t) ≠ 0), scrubH := s.itemN (Pid.memcScrub t), trainDue := some (s.now + 250_000 * s.itemN (Pid.memcTrainInt t)) }

/-! ## The address map (15 R478 to R480) -/

/-- The physical address of a device address (15 R478). -/
def physAddr (da : Nat) : Nat := (8 * (da / 64 / 7) + da / 64 % 7) * 64 + da % 64
/-- The physical address of the check byte of the word of a device address (15 R478). -/
def checkAddr (da : Nat) : Nat := (8 * (da / 64 / 7) + 7) * 64 + 8 * (da / 64 % 7) + da % 64 / 8
/-- The parity of a number's bits. -/
def parity (n : Nat) : Nat := ((List.range 36).filter (fun i => bit n i)).length % 2
/-- Channel, bank (BG1 BG0 BA1 BA0), row and rank of a device address (15 R479, R480). -/
def Memc.place (m : Memc) (da : Nat) : Nat × Nat × Nat × Nat :=
  let pa := physAddr da
  let b := maskOf 4 (fun i => decide (parity (vget m.hash i 0 &&& pa / 2 ^ 13) = 1))
  (pa / 2 ^ 9 % 4, b, pa / 2 ^ 17 % 2 ^ m.rowbits, if m.ranks = 1 then pa / 2 ^ (17 + m.rowbits) % 2 else 0)
/-- A hash mask keeps the rule of R480: its own base bit, none of the others, and no bit beyond the rows. -/
def hashOk (n ranks : Nat) (i mask : Nat) : Bool :=
  let top := if ranks = 2 then n - 2 else n - 1
  bit mask i && (List.range 4).all (fun j => j == i || !bit mask j) && decide (mask < 2 ^ 21)
    && (List.range 21).all (fun j => !bit mask j || decide (13 + j ≤ top))

/-! ## PANIC and tolerance (15 R488 to R490; 09 R291; 17 R531) -/

/-- A port takes or drops PANIC; the ticks held accumulate (15 R489). -/
def Memc.setPanic (m : Memc) (now p : Nat) (on : Bool) : Memc :=
  match vget m.panic p none with
  | none => if on then { m with panic := vset m.panic p (some now), panicLongs := vset m.panicLongs p 0, panicFrom := vset m.panicFrom p now } else m
  | some _ =>
    if on then m
    else { m with
      panic := vset m.panic p none, panicLongs := vset m.panicLongs p 0
      panicT := vupd m.panicT p 0 (fun x => satAdd 32 x (now - vget m.panicFrom p 0)) }

/-- The ticks a port has held PANIC (15 R498). -/
def Memc.panicTicks (m : Memc) (now p : Nat) : Nat :=
  satAdd 32 (vget m.panicT p 0) (((vget m.panic p none).map (fun _ => now - vget m.panicFrom p 0)).getD 0)

/-- The requests of a port outstanding: those that wait for the arbiter and those in the channel queues. -/
def Memc.reqsOf (m : Memc) (p : Nat) : List DramReq := (m.chq.toList.flatten).filter (fun r => decide (r.port = p)) ++ vget m.waitq p []
/-- The requests of the SCAN port outstanding. -/
def Memc.scanReqs (m : Memc) : List DramReq := m.reqsOf 0
/-- Free bytes of the write buffer of 262,144 bytes (15 R487). -/
def Memc.dwFree (m : Memc) : Nat := 262_144 - ((m.reqsOf 1).map (·.bytes)).foldl (· + ·) 0

/-- Firing lines ahead of the last one through stage 11 whose row-lines are all fetched (09 R291). -/
def State.fetchedAhead (s : State) (t : Nat) : Nat :=
  let x := s.tileN t
  let at_ := ((x.fired.head?).map (·.line)).getD s.motion.lastLine
  let lines := (x.memc.scanReqs.filterMap (·.rowLine)).map (fun r => r.2.2.2)
  match lines with
  | [] => s.motion.lastLine + x.prefetch - 1 - at_
  | l :: ls => ls.foldl min l - 1 - at_

/-- The line interval in whole ticks at JOB_RATE_MAX's R (09 R289, R291). -/
def State.lineTicks (s : State) : Nat := if s.itemN Pid.jobRateMax = 0 then 0 else 250_000_000 / s.itemN Pid.jobRateMax

/-- A display line in whole ticks (17 R531). -/
def Timing.lineTicks (m : Timing) : Nat := if m.pclk = 0 then 0 else (m.hactive + m.hfp + m.hsync + m.hbp) * 250_000 / m.pclk
/-- Lines of a frame. -/
def Timing.vtotal (m : Timing) : Nat := m.vactive + m.vfp + m.vsync + m.vbp
/-- Pixels of a line. -/
def Timing.htotal (m : Timing) : Nat := m.hactive + m.hfp + m.hsync + m.hbp
/-- The display line being sent at a tick (17 R526, R539). -/
def DspPort.lineAt (d : DspPort) (now : Nat) : Nat :=
  match d.timing with
  | none => 0
  | some m => d.lineBase + (if m.htotal = 0 then 0 else (now - d.frameAt) * m.pclk / (m.htotal * 250_000))

/-- The live tolerance of a real-time port: 0 SCAN, 1 DWRITE, 2 PROOF (15 R490, 17 R531). The proof's output buffer stays
full in this model (log 43). -/
def State.tolerance (s : State) (t p : Nat) : Nat :=
  let m := s.memc t
  let free := 0xFFFF_FFFF
  if p = 0 then
    if !s.armed then free
    else match vget m.tolDecl 0 none with
      | some d => d - ((m.scanReqs.map (fun r => s.now - r.at_)).foldl max 0)
      | none => min free ((s.fetchedAhead t - 1) * s.lineTicks)
  else if p = 1 then
    if !s.armed then free
    else
      let rate := s.delayRate12 (s.placement (t / 2)) / 12
      if rate = 0 then free else min free (m.dwFree * 250_000_000 / rate)
  else if t < 2 then
    let d := vget s.dsp t DspPort.reset
    match d.timing, decide (d.st = 4) with
    | some m1, true =>
      let base := match vget m.tolDecl 2 none with
        | some x => x
        | none => 15 * m1.lineTicks
      base + (if d.lineAt s.now ≥ m1.vactive then (m1.vtotal - d.lineAt s.now) * m1.lineTicks else 0)
    | _, _ => free
  else free

/-- SCAN's PANIC as its mode orders it: in watermark mode, while fewer than SCAN_WM firing lines ahead of the one in stage 11
are fully fetched (09 R291). -/
def State.scanPanic (s : State) (t : Nat) : State :=
  let want := s.armed && decide (s.itemN Pid.scanRtMode = 0) && decide (s.spanWidth (t / 2) ≠ 0)
    && decide (s.fetchedAhead t < s.itemAtN s.motion.lastLine Pid.scanWm)
  s.updMemc t (fun m => m.setPanic s.now 0 want)

/-- DWRITE's PANIC: while its write buffer has less than MEMC_DW_WM KiB free (15 R489). -/
def State.dwritePanic (s : State) (t : Nat) : State :=
  s.updMemc t (fun m => m.setPanic s.now 1 (decide (m.dwFree < 1024 * s.itemN (Pid.memcDwWm t))))

/-- The PANIC of both of a tile's scan-out ports is judged anew (15 R489). -/
def State.scanPorts (s : State) (t : Nat) : State := (s.scanPanic t).dwritePanic t

/-! ## The arbiter (15 R487, R488) -/

/-- Requests that a channel queue holds (15 R485). -/
def queueDepth : Nat := 32

/-- A port's oldest request that waits for a channel. -/
def Memc.readyFor (m : Memc) (ch p : Nat) : Option DramReq := (vget m.waitq p []).find? (fun r => (m.place r.da).1 == ch)

/-- The port that a channel's round-robin serves, and its admissions with this one: the port whose turn it is while it has
fewer than MEMC_WT admissions, else the next in number with a request (15 R488, R496). -/
def Memc.rotate (m : Memc) (wt ch : Nat) : Option (Nat × Nat) :=
  let cur := vget m.turn ch (0, 0)
  if (m.readyFor ch cur.1).isSome && decide (cur.2 < wt / 16 ^ cur.1 % 16) then some (cur.1, cur.2 + 1)
  else (((List.range 6).map (fun i => (cur.1 + 1 + i) % 6)).find? (fun p => (m.readyFor ch p).isSome)).map (fun p => (p, 1))

/-- A request leaves its port for a channel queue. -/
def Memc.admitReq (m : Memc) (ch p : Nat) (r : DramReq) : Memc :=
  { m with chq := vupd m.chq ch [] (fun q => q ++ [r]), waitq := vupd m.waitq p [] (fun l => l.erase r) }

/-- One NOCCLK cycle of the arbiter at a channel: at most one request enters a queue that has room, of the ports that hold
PANIC in the order SCAN, DWRITE, PROOF, else of the port that the round-robin serves (15 R488). -/
def Memc.grant (m : Memc) (wt ch : Nat) : Memc :=
  if queueDepth ≤ (vget m.chq ch []).length then m
  else
    match (List.range 3).find? (fun p => (vget m.panic p none).isSome && (m.readyFor ch p).isSome) with
    | some p => ((m.readyFor ch p).map (m.admitReq ch p)).getD m
    | none =>
      match m.rotate wt ch with
      | some (p, k) => ((m.readyFor ch p).map (fun r => { m.admitReq ch p r with turn := vset m.turn ch (p, k) })).getD m
      | none => m

/-- A tick of the controller's arbiter: three NOCCLK cycles over the four channels, none in a pause (00 R5; 15 R488, R491, R493). -/
def Memc.arbitrate (m : Memc) (wt : Nat) : Memc :=
  if m.pause.isSome || m.waitq.toList.all (·.isEmpty) then m
  else (List.range 3).foldl (fun m _ => (List.range 4).foldl (fun m ch => m.grant wt ch) m) m

/-- One tick of a running controller: PANIC is judged, the arbiter admits, and a scrub pass begins where none runs (15 R484,
R488 to R490). -/
def State.memcTick (s : State) (t : Nat) : State :=
  if (s.memc t).st ≠ 2 then s
  else
    let s1 := s.scanPorts t
    s1.updMemc t (fun m => { m.arbitrate (s.itemN (Pid.memcWt t)) with scrubH := if m.scrubH = 0 then s.itemN (Pid.memcScrub t) else m.scrubH })

/-! ## Requests (15 R482, R483, R485; 09 R290, R292) -/

/-- A request waits at its port for the arbiter (15 R487). -/
def State.dramRequest (s : State) (t : Nat) (r : DramReq) : State :=
  s.updMemc t (fun m => { m with waitq := vupd m.waitq r.port [] (fun l => l ++ [r]) })

/-- The device address of a row-line of a DRAM ring, which begins on a 64-byte boundary (09 R286, R287). -/
def State.ringLine (s : State) (t c r web : Nat) : Nat :=
  64 * Config.ringBase t (rowKey c r) + web / s.rowK c % max 1 (s.rowEntries c r) * 8 * s.rowWords (t / 2) c r

/-- The granules of some bytes at an address: the address and bytes of each part. -/
def granules (da n : Nat) : List (Nat × Nat) :=
  if n = 0 then []
  else (List.range' (da / 64) ((da + n - 1) / 64 + 1 - da / 64)).map (fun g =>
    let lo := max da (64 * g)
    (lo, min (da + n) (64 * g + 64) - lo))

/-- The requests of a row-line, granule by granule, to be written or to be fetched for a firing line (09 R286, R290; 15 R478,
R481; log 128). -/
def State.lineReqs (s : State) (t port c r web : Nat) (fetch : Option Nat) : List DramReq :=
  let base := s.ringLine t c r web
  (granules base (8 * s.rowWords (t / 2) c r)).map (fun g =>
    { port := port, da := g.1, bytes := g.2, at_ := s.now, rowLine := fetch.map (fun line => (rowKey c r, web, base, line)) })

/-- Stage 10 writes a row-line of a DRAM row (09 R286; 15 R487, R489). -/
def State.writeLine (s : State) (t c r web : Nat) : State :=
  if (s.tileN t).short.contains (rowKey c r) then s
  else (((s.asOf web).lineReqs t 1 c r web none).foldl (fun s q => s.dramRequest t q) s).dwritePanic t

/-- The fetches of a firing line: every DRAM row-line that stage 11 reads for it, in ascending bar, channel and row
(09 R290). -/
def State.fetchLine (s : State) (t line : Nat) : State :=
  let ps := inDram (s.placement (t / 2))
  let rows := (List.range 12).flatMap (fun b => (s.barRows b).flatMap (fun x => ps.filter (fun p => p.c == x.1 && p.r == x.2)))
  (rows.foldl (fun s p =>
    let web := line - s.rowDelay p.c p.r
    let k := s.rowK p.c
    if web % k = (s.itemN (Pid.rowPhase (4 * p.c + p.r))) % k && s.rowDelay p.c p.r ≤ line then
      (s.lineReqs t 0 p.c p.r web (some line)).foldl (fun s q => s.dramRequest t q) s
    else s) s).scanPanic t

/-- The key of a row-line in a tile's delay store: 2^34 * row key + ring entry. -/
def delayKey (row entry : Nat) : Nat := 2 ^ 34 * row + entry

/-- A row-line of the delay store takes bad nozzles (09 R292). -/
def TileState.spoil (x : TileState) (key web : Nat) (nozzles : RowLine → List Nat) : TileState :=
  { x with delay := x.delay.map (fun d => if d.1 = key && d.2.web = web then (d.1, { d.2 with bad := (nozzles d.2).foldl addNew d.2.bad }) else d) }

/-- A granule of a row-line fetched with an uncorrectable error: the nozzles whose levels lie in it are bad (09 R292). -/
def State.markBad (s : State) (t : Nat) (r : DramReq) : State :=
  match r.rowLine with
  | none => s
  | some (row, web, base, _) =>
    s.updTileN t (fun x => x.spoil (delayKey row (web / s.rowK (row / 4) % max 1 (s.rowEntries (row / 4) (row % 4)))) web (fun rl => rl.inGranule base (r.da / 64)))

/-- Granules of the short store read with an uncorrectable error when stage 11 reads the row-lines of a firing line (09
R292). -/
def State.shortBad (s : State) (t line : Nat) (gs : List Nat) : State :=
  let g := s.asOf line
  let ps := g.placement (t / 2)
  (ps.filter (·.short)).foldl (fun s p =>
    let web := line - g.rowDelay p.c p.r
    let e := web / g.rowK p.c % max 1 (g.rowEntries p.c p.r)
    s.updTileN t (fun x => x.spoil (delayKey (rowKey p.c p.r) e) web (fun rl => gs.flatMap (rl.inGranule (shortBase ps p.c p.r + e * 8 * p.words))))) s

/-- A correctable error (15 R482). -/
def State.memCe (s : State) (t port da : Nat) : State :=
  let m := s.memc t
  let due := match m.ceLast with
    | none => true
    | some a => decide (a + 250_000_000 ≤ s.now)
  let s1 := s.updMemc t (fun m => { m with
    ceCnt := satInc 32 m.ceCnt, ceAddr := da % 2 ^ 40 / 8 * 8, ceLast := if due then some s.now else m.ceLast
    scrub := if port = 5 then (m.scrub.1 + 1, m.scrub.2) else m.scrub })
  if due then s1.raiseN t Ev.memcCe [da, satInc 32 m.ceCnt] else s1

/-- An uncorrectable error: the word stays poisoned until it is written; a write that meets it poisons every word of its
granule that it does not cover (15 R481, R483). -/
def State.memUe (s : State) (t : Nat) (r : DramReq) (da : Nat) : State :=
  let word := da % 2 ^ 40 / 8 * 8
  let words := if r.port = 1 then ((List.range 8).map (fun i => r.da / 64 * 64 + 8 * i)).filter (fun a => decide (a < r.da ∨ r.da + r.bytes ≤ a)) else [word]
  (s.updMemc t (fun m => { m with
    ueCnt := satInc 32 m.ueCnt, ueAddr := word, poison := words.foldl addNew m.poison
    scrub := if r.port = 5 then (m.scrub.1, m.scrub.2 + 1) else m.scrub })).raiseN t Ev.memcUe [da, r.port]

/-- A write has gone to DRAM: the words that it covers hold its data (15 R481). -/
def Memc.written (m : Memc) (r : DramReq) : Memc :=
  if r.port = 1 then { m with poison := m.poison.filter (fun a => decide (a < r.da ∨ r.da + r.bytes ≤ a)) } else m

/-- How a request ends: a fetch of a granule that holds a poisoned word meets an uncorrectable error (15 R481). -/
def Memc.endOf (m : Memc) (r : DramReq) (e : DramEnd) : DramEnd :=
  match m.poison.find? (fun a => a / 64 == r.da / 64), e with
  | some a, .clean => if r.port = 0 then .uncorrectable a else e
  | some a, .corrected _ => if r.port = 0 then .uncorrectable a else e
  | _, e => e

/-- DRAM_REQUEST_COMPLETE: the request at the head of a channel's queue, or one of the control cores, which are not
queued here (log 43), returns or completes (15 R481 to R483, R485). -/
def State.dramDone (s : State) (t ch : Nat) (e : DramEnd) : State :=
  let m := s.memc t
  if m.st ≠ 2 then s
  else
    let q := vget m.chq ch []
    let own := match e with
      | .clean => 0
      | .corrected a => a
      | .uncorrectable a => a
    let r : DramReq := q.headD { port := 5, da := own, bytes := 8, at_ := s.now, rowLine := none }
    let pl := m.place r.da
    let s1 := s.updMemc t (fun m => { m with
      chq := vset m.chq ch (q.drop 1), openRow := NMap.set 0 m.openRow (16 * ch + pl.2.1) (pl.2.2.1 + 1)
      moved := vupd m.moved ch [] (fun l => (s.now, 64) :: l.filter (fun x => decide (s.now < x.1 + 1_000_000))) })
    let s2 := match m.endOf r e with
      | .clean => s1
      | .corrected a => s1.memCe t r.port a
      | .uncorrectable a => (s1.memUe t r a).markBad t r
    (s2.updMemc t (fun m => m.written r)).scanPorts t

/-- MEMC_BW of a channel: bytes moved over the last 1,000,000 ticks, in MB/s (15 R498). -/
def State.memBw (s : State) (t ch : Nat) : Nat :=
  (((vget (s.memc t).moved ch []).filter (fun x => decide (s.now < x.1 + 1_000_000))).map (·.2)).foldl (· + ·) 0 / 4000

/-! ## Refresh, precharge, scrub (15 R484, R485, R495) -/

/-- DRAM_REFRESH_DUE: a per-bank refresh, between requests; the bank's row is closed (15 R485). -/
def State.dramRefresh (s : State) (t ch bank : Nat) : State :=
  whenDue (decide ((s.memc t).st = 2) && (s.memc t).pause.isNone) s
    (s.updMemc t (fun m => { m with
      refreshed := NMap.upd 0 m.refreshed (16 * ch + bank) (· + 1), openRow := NMap.set 0 m.openRow (16 * ch + bank) 0 }))

/-- BANK_IDLE_PRECHARGE: no queued request to the bank for 64 NOCCLK cycles (15 R485). -/
def State.bankIdle (s : State) (t ch bank : Nat) : State :=
  let m := s.memc t
  whenDue (decide (m.st = 2) && (vget m.chq ch []).all (fun r => decide ((m.place r.da).2.1 ≠ bank))) s
    (s.updMemc t (fun m => { m with openRow := NMap.set 0 m.openRow (16 * ch + bank) 0 }))

/-- MEMC_SCRUB_DONE: a patrol pass ends with its counts, and MEMC_SCRUB takes effect at the next (15 R484, R496; 00 R14). -/
def State.scrubDone (s : State) (t : Nat) : State :=
  let m := s.memc t
  whenDue (decide (m.st = 2 ∧ m.scrubH ≠ 0)) s
    ((s.updMemc t (fun m => { m with scrub := (0, 0), scrubH := s.itemN (Pid.memcScrub t) })).raiseN t Ev.memcScrubDone [m.scrub.1, m.scrub.2])

/-- MEMC_DRAM_HOT: MR4 leaves or returns within the range (15 R495). -/
def State.dramHot (s : State) (t ch mr4 : Nat) (hot : Bool) : State :=
  whenDue (decide ((s.memc t).st = 2) && vget (s.memc t).hot ch false != hot) s
    ((s.updMemc t (fun m => { m with hot := vset m.hot ch hot })).raiseN t Ev.memcDramHot [ch, mr4, boolNat hot])

/-- MEMC_PANIC_LONG: 25,000 further ticks of PANIC (15 R489). -/
def State.panicLong (s : State) (t p : Nat) : State :=
  let m := s.memc t
  match vget m.panic p none with
  | none => s
  | some t0 =>
    let n := vget m.panicLongs p 0
    whenDue (decide (t0 + 25_000 * (n + 1) ≤ s.now)) s
      ((s.updMemc t (fun m => { m with panicLongs := vset m.panicLongs p (n + 1) })).raiseN t Ev.memcPanicLong [p, 25_000 * (n + 1)])

/-! ## Pauses (15 R491 to R494) -/

/-- The length of a pause, in ticks: kind 0 frequency change, 1 retraining (15 R492). -/
def pauseLen (kind : Nat) : Nat := if kind = 0 then 1500 else 100

/-- DRAM_PAUSE_START: every real-time port tolerates the pause and the guard; a frequency change comes first (15 R491,
R492). -/
def State.pauseStart (s : State) (t : Nat) : State :=
  let m := s.memc t
  let kind := if m.freqPend then 0 else 1
  let ok := (List.range 3).all (fun p => decide (pauseLen kind + s.itemN (Pid.memcRtGuard t) ≤ s.tolerance t p))
  whenDue (decide (m.st = 2) && m.pause.isNone && (m.freqPend || m.trainPend) && ok) s (s.updMemc t (fun m => { m with pause := some (kind, s.now) }))

/-- A pause ends: its length counts, and the next retraining falls due (15 R492). -/
def State.pauseEnd (s : State) (t start : Nat) : State :=
  s.updMemc t (fun m => { m with
    pause := none, pauseMax := max m.pauseMax (min 0xFFFF (s.now - start)), trainPend := false
    trainDue := some (s.now + 250_000 * s.itemN (Pid.memcTrainInt t)) })

/-- MEMC_SET_CHANGED: the frequency change ends on the other set (15 R493). -/
def State.setChanged (s : State) (t : Nat) : State :=
  let m := s.memc t
  match m.pause with
  | some (0, a) =>
    let set := 1 - m.set
    ((s.pauseEnd t a).updMemc t (fun m => { m with set := set, freqPend := decide (s.itemN (Pid.memcSet t) ≠ set) })).raiseN t Ev.memcSetChanged
      [set, rateOf (if set = 0 then m.rateA else m.rateB)]
  | _ => s

/-- DRAM_RETRAIN_DUE (15 R492). -/
def State.retrainDue (s : State) (t : Nat) : State :=
  let m := s.memc t
  whenDue (decide (m.st = 2) && !m.trainPend && (m.trainDue.map (fun a => decide (a ≤ s.now))).getD false) s
    (s.updMemc t (fun m => { m with trainPend := true, deferMs := s.itemN (Pid.memcTrainDefer t) }))

/-- MEMC_PAUSE_FORCED: a retraining deferred for MEMC_TRAIN_DEFER runs whatever the tolerances (15 R494). -/
def State.pauseForced (s : State) (t : Nat) : State :=
  let m := s.memc t
  match m.trainDue with
  | none => s
  | some a =>
    whenDue (m.trainPend && m.pause.isNone && decide (a + 250_000 * m.deferMs ≤ s.now)) s
      ((s.updMemc t (fun m => { m with pause := some (1, s.now), forced := satInc 16 m.forced })).raiseN t Ev.memcPauseForced [s.now - a])

/-- The end of a retraining pause: MEMC_TRAIN_FAIL for a drift beyond one step (15 R494). -/
def State.retrained (s : State) (t : Nat) (drift : Option (Fin 4 × Int)) : State :=
  match (s.memc t).pause with
  | some (1, a) =>
    let s1 := s.pauseEnd t a
    match drift with
    | some (ch, d) => s1.raiseN t Ev.memcTrainFail [ch.val, evInt d]
    | none => s1
  | _ => s

/-! ## Clears (15 R498) -/

/-- A write of a MEMC_CLR bit to a block whose domain is on (01 R51). -/
def State.memcClr (s : State) (t : Nat) (f : Memc → Memc) : State := if (s.tileN t).on 10 then s.updMemc t f else s

/-- MEMC_CLR.CE. -/
def Memc.clrCe (m : Memc) : Memc := { m with ceCnt := 0, ceAddr := 0, ceLast := none }
/-- MEMC_CLR.UE. -/
def Memc.clrUe (m : Memc) : Memc := { m with ueCnt := 0, ueAddr := 0 }
/-- MEMC_CLR.PANIC at a tick: a PANIC in force counts afresh. -/
def Memc.clrPanic (now : Nat) (m : Memc) : Memc :=
  { m with panicT := Vector.replicate 3 0, panicFrom := Vector.replicate 3 now }
/-- MEMC_CLR.PAUSE. -/
def Memc.clrPause (m : Memc) : Memc := { m with forced := 0, pauseMax := 0 }

/-! ## Meanings -/

/-- R483: DRAM_REQUEST_COMPLETE. -/
def execDramRequestComplete (t : Tile) (ch : Fin 4) (e : DramEnd) (s : State) : Out := onTile t s (s.dramDone t.val ch.val e)
/-- R485: DRAM_REFRESH_DUE. -/
def execDramRefreshDue (t : Tile) (ch : Fin 4) (bank : Fin 16) (s : State) : Out := onTile t s (s.dramRefresh t.val ch.val bank.val)
/-- R485: BANK_IDLE_PRECHARGE. -/
def execBankIdlePrecharge (t : Tile) (ch : Fin 4) (bank : Fin 16) (s : State) : Out := onTile t s (s.bankIdle t.val ch.val bank.val)
/-- R491: DRAM_PAUSE_START. -/
def execDramPauseStart (t : Tile) (s : State) : Out := onTile t s (s.pauseStart t.val)
/-- R493: MEMC_SET_CHANGED. -/
def execMemcSetChanged (t : Tile) (s : State) : Out := onTile t s (s.setChanged t.val)
/-- R492: DRAM_RETRAIN_DUE. -/
def execDramRetrainDue (t : Tile) (s : State) : Out := onTile t s (s.retrainDue t.val)
/-- R494: MEMC_PAUSE_FORCED. -/
def execMemcPauseForced (t : Tile) (s : State) : Out := onTile t s (s.pauseForced t.val)
/-- R489: MEMC_PANIC_LONG. -/
def execMemcPanicLong (t : Tile) (port : Fin 3) (s : State) : Out := onTile t s (s.panicLong t.val port.val)
/-- R484: MEMC_SCRUB_DONE. -/
def execMemcScrubDone (t : Tile) (s : State) : Out := onTile t s (s.scrubDone t.val)
/-- R495: MEMC_DRAM_HOT. -/
def execMemcDramHot (t : Tile) (ch : Fin 4) (mr4 : Nat) (hot : Bool) (s : State) : Out := onTile t s (s.dramHot t.val ch.val mr4 hot)
/-- R482: MEMC_CLR_CE. -/
def execMemcClrCe (t : Tile) (s : State) : Out := onTile t s (s.memcClr t.val Memc.clrCe)
/-- R498: MEMC_CLR_UE. -/
def execMemcClrUe (t : Tile) (s : State) : Out := onTile t s (s.memcClr t.val Memc.clrUe)
/-- R498: MEMC_CLR_PANIC. -/
def execMemcClrPanic (t : Tile) (s : State) : Out := onTile t s (s.memcClr t.val (Memc.clrPanic s.now))
/-- R498: MEMC_CLR_PAUSE. -/
def execMemcClrPause (t : Tile) (s : State) : Out := onTile t s (s.memcClr t.val Memc.clrPause)

end Sys2Proof.Machine
end

