-- ==== Sys2Proof/Machine/Lanes.lean ====
section
/-! DEFINITION. Serial lanes: states, training, sleep, rate matching and tests (16 R499 to R516), block lock and the
checks of received frames (10 R306 to R311), LINK.LANE and LINK.TEST. -/

namespace Sys2Proof.Machine

/-- The lanes of a power domain. -/
def domainLanes (d : Nat) : List Nat := (List.range 10).filter (fun l => laneDomain l == d)

/-- An item of a lane (16 R515). -/
def State.lnkItem (s : State) (t l k : Nat) : Nat := s.itemN (parmId 10 (0x40 + 16 * t + l) k)

/-- A lane total of the lifetime tally: 0 CHECK, 1 FORMAT, 2 BROKEN, 3 entries to DOWN (19 R584). -/
def State.tallyLane (s : State) (t l k : Nat) : State :=
  s.updTileN t (fun x => { x with boot := { x.boot with
    tallyLane := vupd x.boot.tallyLane l (Vector.replicate 4 0) (fun v => vupd v k 0 (satInc 32)) } })

/-! ## Block lock and training (10 R307, 16 R503) -/

/-- A lane's receiver takes blocks: it trains, is UP or DOWN, and is awake or waking (16 R503, R506). -/
def LaneHw.receives (x : LaneHw) : Bool := decide (1 ≤ x.st ∧ x.st ≤ 3) && (decide (x.rxslp = 0) || (vget x.waking 1 none).isSome)

/-- Block lock is acquired: the elastic buffer is centred (10 R307, 16 R501). -/
def State.lockAcquired (s : State) (t l : Nat) : State :=
  let x := s.lnk t l
  whenDue (s.lnkOn t l && !x.lock && x.receives) s
    (s.updLnk t l (fun x => { x with lock := true, lockRun := 0, elastic := 32, outSince := none }))

/-- A discard is counted by its cause, on the lane and in the tally (10 R311, 16 R516, 19 R584). -/
def State.discard (s : State) (t l k : Nat) : State :=
  (s.updLnk t l (fun x => { x with disc := vupd x.disc k 0 (satInc 32) })).tallyLane t l k

/-- Block lock is lost: a frame in progress is discarded as BROKEN (10 R307). -/
def State.lockLost (s : State) (t l : Nat) : State :=
  let x := s.lnk t l
  let s1 := s.updLnk t l (fun x => { x with lock := false, lockRun := 0, rxFrame := none, outSince := if x.st = 2 then some s.now else none })
  whenDue (s.lnkOn t l && x.lock) s (if x.rxFrame.isSome && decide (x.st = 2) then s1.discard t l 2 else s1)

/-- A lane starts training at its rate (16 R503, R515). -/
def State.trainLane (s : State) (t l : Nat) : State :=
  s.updLnk t l (fun x => { x with
    st := 1, trainAt := some s.now, rate := s.lnkItem t l 1, rxslp := 0, txslp := 0, waking := Vector.replicate 2 none,
    txq := [], tx := [], rxFrame := none, outSince := none, downAt := none, margin := false })

/-- The LINK.LANE action of a lane ends with a status (16 R507). -/
def State.endAction (s : State) (t l status : Nat) : State :=
  match (s.lnk t l).action with
  | some (seq, _) => (s.updLnk t l (fun x => { x with action := none })).done seq status
  | none => s

/-- The line from which a lane that is UP again carries frames (16 R505). -/
def State.laneFrom (s : State) : Nat := if s.armed then s.motion.lastLine + 1 else 0

/-- LANE_TRAINING_DONE: block lock for 1,024 consecutive blocks and a good eye, and the lane is UP (16 R503, R508, R509). -/
def State.trained (s : State) (t l : Nat) (e : Eye) : State :=
  let x := s.lnk t l
  let good := decide (s.lnkItem t l 3 ≤ e.width ∧ s.lnkItem t l 4 ≤ e.height)
  if !s.lnkOn t l || x.trainAt.isNone || !x.lock || decide (x.lockRun < 1024) || !good then s
  else
    let s1 := s.updLnk t l (fun x => { x with
      st := 2, trainAt := none, downAt := none, outSince := none, margin := false, eyeW := e.width % 2 ^ 8, eyeH := e.height % 2 ^ 16,
      ctle := e.ctle % 16, txMain := e.txMain % 64, txPost := e.txPost % 32, txPre := e.txPre % 16, fromLine := s.laneFrom })
    (s1.raiseN t Ev.laneUp [l, x.rate, e.width, e.height]).endAction t l St.ok

/-- LNK_AUTO_RETRAIN at an entry to DOWN: the tick from which retraining counts (16 R504, R515). -/
def State.retrainFrom (s : State) (t l : Nat) : Option Nat := if s.lnkItem t l 2 = 1 then some s.now else none

/-- LANE_TRAIN_FAIL: 10 ms without passing leaves the lane DOWN (16 R503). -/
def State.trainFailed (s : State) (t l : Nat) (e : Eye) : State :=
  let x := s.lnk t l
  match x.trainAt with
  | none => s
  | some t0 =>
    if !s.lnkOn t l || decide (s.now < t0 + 2_500_000) then s
    else
      let entry := decide (x.st = 1)
      let s1 := s.updLnk t l (fun x => { x with
        st := 3, trainAt := none, fault := x.fault ||| 4, eyeW := e.width % 2 ^ 8, eyeH := e.height % 2 ^ 16,
        downAt := if entry then s.retrainFrom t l else x.downAt })
      let s2 := if entry then s1.tallyLane t l 3 else s1
      (s2.raiseN t Ev.laneTrainFail [l, e.width, e.height]).endAction t l St.laneTrain

/-- A segment of a line after stage 11 has neither been sent nor gone out as VOID. -/
def FiredLine.open (f : FiredLine) : Bool :=
  f.segs.any (fun g => !f.sent.any (fun x => x.1 == g.1) && !f.voided.any (fun x => x.1 == g.1))

/-- Frames of a lane that have not left it are undelivered (09 R297, R301). -/
def State.loseQueued (s : State) (t l : Nat) : State :=
  let lost := fun (f : FiredLine) => f.sent.filter (fun y => decide (y.2.1 = l ∧ 200 * s.tileNow (tileIx t) < y.2.2))
  s.updTileN t (fun x => { x with
    records := x.records.map (fun r => match x.fired.find? (fun f => f.line == r.line) with
      | some f => { r with undel := (lost f).foldl (fun u y => addNew u y.1) r.undel }
      | none => r)
    fired := x.fired.map (fun f => { f with sent := f.sent.filter (fun y => !(lost f).contains y), voided := f.voided ++ (lost f).map (fun y => (y.1, 0)) })
    laneBusy := vset x.laneBusy l 0 })

/-- LANE_DOWN, cause 0 LOCK, 1 DRIVER, 2 REF: the lane stops, its queued frames are lost and its bars move (16 R500,
R504; 09 R297). -/
def State.laneDown (s : State) (t l cause : Nat) : State :=
  let x := s.lnk t l
  let held := match x.outSince with
    | some a => decide (a + 1000 < s.now) && !x.lock
    | none => false
  if !s.lnkOn t l || decide (x.st ≠ 2) || (decide (cause = 0) && !held) then s
  else
    let s1 := s.updLnk t l (fun x => { x with
      st := 3, downAt := s.retrainFrom t l, outSince := none, txq := [], tx := [], rxFrame := none, rxslp := 0, txslp := 0, waking := Vector.replicate 2 none,
      fault := if cause = 0 then x.fault ||| 1 else if cause = 1 then x.fault ||| 2 else x.fault })
    let s2 := (((s1.tallyLane t l 3).raiseN t Ev.laneDown [l, cause]).endAction t l St.laneState).loseQueued t l
    if l < 8 then s2.laneLost t l else s2

/-- LANE_RETRAIN_TIMER: a DOWN lane retrains every 100 ms (16 R504). -/
def State.retrainTimer (s : State) (t l : Nat) : State :=
  let x := s.lnk t l
  match x.downAt with
  | some a =>
    whenDue (s.lnkOn t l && decide (x.st = 3) && x.trainAt.isNone && decide (a + 25_000_000 ≤ s.now)) s
      (s.updLnk t l (fun x => { x with downAt := some s.now, trainAt := some s.now, rate := s.lnkItem t l 1 }))
  | none => s

/-! ## Received frames (10 R308 to R311; 16 R501, R502) -/

/-- LEN of a frame as its type and fields give it; 0 for a reserved type (10 R310). -/
def frameLen (bs : List Byte) : Nat :=
  let ty := fld bs 0 1
  if ty = 1 then (let n := fld bs 26 2; if 1 ≤ n ∧ n ≤ 1024 then frameBytes n else 0)
  else if ty = 2 then 32
  else if ty = 3 then 48
  else if ty = 4 then
    let op := fld bs 10 1
    let n := fld bs 11 1
    if op = 0 || op = 3 then 20
    else if op = 4 then 24
    else if (op = 1 || op = 2) && decide (1 ≤ n ∧ n ≤ 64) then 20 + 4 * n
    else 0
  else if ty = 5 then (let n := fld bs 10 1 + fld bs 11 1; if n ≤ 373 then 44 + 4 * n else 0)
  else if ty = 6 then (let n := fld bs 21 1; if n ≤ 64 then 28 + 4 * ceilDiv n 4 else 0)
  else if ty = 7 then 44
  else 0

/-- What a receiver makes of a frame: none to accept, or 0 CHECK, 1 FORMAT, 2 BROKEN (10 R311). -/
def frameFault : RxFrame → Option Nat
  | .broken => some 2
  | .bytes bs =>
    if fld bs 0 1 = 15 then (if decide (8 ≤ bs.length) && (bs.take 8).drop 1 == List.replicate 7 0 then none else some 1)
    else
      let len := fld bs 6 2
      if bs.length < 8 || bs.length < len then some 2
      else if len < 12 then some 1
      else if crc32c (bs.take (len - 4)) ≠ fld bs (len - 4) 4 then some 0
      else if bits (fld bs 1 1) 7 4 ≠ 1 || decide (frameLen bs ≠ len) then some 1
      else none

/-- A frame is FILL (10 R309). -/
def isFill : RxFrame → Bool
  | .broken => false
  | .bytes bs => frameFault (.bytes bs) == none && fld bs 0 1 == 15

/-- A frame that has ended at a lane's receiver: the elastic buffer moves by a free drift of the two clocks; empty or full, it
loses the frame and is recentred; else a FILL is deleted or inserted by its level, and the frame is checked; the bytes of a
frame accepted (10 R309, R311; 16 R501, R502). -/
def State.rxEnded (s : State) (t l : Nat) (f : RxFrame) : State × Option (List Byte) :=
  let x := s.lnk t l
  let e := (clampI ((x.elastic : Int) + Config.freeInt s.free) 0 64).toNat
  let s0 := s.nextFree
  if e = 0 ∨ e = 64 then
    (((s0.updLnk t l (fun x => { x with elastic := 32, fault := x.fault ||| 8 })).discard t l 2).raiseN t Ev.laneElastic [l, boolNat (e == 64)], none)
  else
    let s1 := s0.updLnk t l (fun x =>
      if isFill f && decide (40 < e) then { x with elastic := e - 1, fillDel := (x.fillDel + 1) % 2 ^ 32 }
      else if e < 24 then { x with elastic := e + 1, fillIns := (x.fillIns + 1) % 2 ^ 32 }
      else { x with elastic := e })
    match frameFault f, f with
    | some k, _ => (s1.discard t l k, none)
    | none, .bytes bs => (s1, some bs)
    | none, .broken => (s1, none)

/-! ## Sleep (16 R506, R507) -/

/-- Time that a direction takes to wake from a level, ticks (16 R506). -/
def wakeTime (rx : Bool) (level : Nat) : Nat :=
  if rx then (if level = 1 then 500 else 20_000) else (if level = 1 then 250 else 10_000)

/-- LANE_WAKE: a direction is awake after its wake time, a receiver with block lock (16 R506). -/
def State.laneAwake (s : State) (t l : Nat) (rx : Bool) : State :=
  let x := s.lnk t l
  let d := if rx then 1 else 0
  let level := if rx then x.rxslp else x.txslp
  match vget x.waking d none with
  | none => s
  | some a =>
    if !s.lnkOn t l || decide (x.st ≠ 2) || decide (s.now < a + wakeTime rx level) || (rx && !x.lock) then s
    else
      let s1 := s.updLnk t l (fun x => { x with
        waking := vset x.waking d none, rxslp := if rx then 0 else x.rxslp, txslp := if rx then x.txslp else 0 })
      let s2 := s1.raiseN t Ev.laneWake [l, d, 0]
      if (s2.lnk t l).waking.toList.all (·.isNone) then s2.endAction t l St.ok else s2

/-! ## LINK.LANE and LINK.TEST (16 R503 to R513, 13 R450) -/

/-- A reach lane is in use: a node is known on it, or the package is a slave and the hop towards the press master runs. -/
def State.reachInUse (s : State) (t l : Nat) : Bool :=
  decide (8 ≤ l) && (s.link.nodes.any (fun n => n.lanes.contains (t, l) && decide (2 ≤ n.st))
    || (decide (s.link.role = 0 ∧ t < 2) && s.link.servos.any (fun v => v.hop == .up)))

/-- A lane carries a bar of the armed job. -/
def State.laneCarries (s : State) (t l : Nat) : Bool :=
  s.armed && decide (s.spanWidth (t / 2) ≠ 0) && s.usedBars.any (fun b => s.barLaneOf t b (s.motion.lastLine + 1) == l)

/-- The tile of a LINK.LANE or LINK.TEST. -/
def lnkTile (p : Packet) : Nat := p.f 2 2 0
/-- The lane of a LINK.LANE or LINK.TEST. -/
def lnkLane (p : Packet) : Nat := p.f 2 11 8

/-- What both commands check of their lane (13 R450, 16 R506, R507). -/
def State.lnkCheck (s : State) (p : Packet) (argOk : Bool) : Nat :=
  let t := lnkTile p
  let l := lnkLane p
  if s.nTiles ≤ t || 9 < l || !argOk then St.laneArg
  else if !s.lnkOn t l || s.laneCarries t l || s.reachInUse t l || (s.lnk t l).test.isSome || (s.lnk t l).action.isSome then St.laneState
  else St.ok

/-- Checks of LINK.LANE. -/
def checkLinkLane (s : State) (p : Packet) : Nat × Nat × Nat :=
  let a := p.f 3 2 0
  let c := s.lnkCheck p (a ≤ 4)
  if c ≠ St.ok then (c, 0, 0)
  else if (a = 1 ∨ a = 2) ∧ (s.lnk (lnkTile p) (lnkLane p)).st ≠ 2 then (St.laneState, 0, 0)
  else (St.ok, 0, 0)

/-- LINK.LANE: 0 train, 1 sleep transmit, 2 sleep receive, 3 wake, 4 off (16 R503, R506, R507). -/
def actLinkLane (s : State) (p : Packet) (_ : List Byte) : State :=
  let t := lnkTile p
  let l := lnkLane p
  let a := p.f 3 2 0
  let x := s.lnk t l
  if a = 0 then
    let s1 := (s.putItem (Pid.lnkRate (16 * t + l)) (p.f 4 0 0)).trainLane t l
    (s1.updLnk t l (fun x => { x with action := some (p.seq, 0) })).run p.seq .work
  else if a = 1 then
    ((s.updLnk t l (fun x => { x with txslp := min 2 (x.txslp + 1) })).raiseN t Ev.laneSleep [l, 0, min 2 (x.txslp + 1)]).done p.seq St.ok
  else if a = 2 then
    ((s.updLnk t l (fun x => { x with rxslp := min 2 (x.rxslp + 1), lock := false, lockRun := 0, rxFrame := none, heads := [], outSince := none })).raiseN t Ev.laneSleep [l, 1, min 2 (x.rxslp + 1)]).done p.seq St.ok
  else if a = 3 then
    if x.txslp = 0 ∧ x.rxslp = 0 then s.done p.seq St.ok
    else
      let w := fun (level : Nat) => if level = 0 then none else some s.now
      (s.updLnk t l (fun x => { x with action := some (p.seq, 3), waking := #v[w x.txslp, w x.rxslp] })).run p.seq .work
  else
    (s.updLnk t l (fun x => { x with
      st := 0, lock := false, lockRun := 0, txq := [], tx := [], rxFrame := none, heads := [], rxslp := 0, txslp := 0, trainAt := none, downAt := none, outSince := none,
      waking := Vector.replicate 2 none })).done p.seq St.ok

/-- LINK.LANE. -/
def opLinkLane : OpDef :=
  { code := 0x0A20, cls := clsSO, named := [0xF07, 7, 1], prot := noProt, access := noAccess, check := checkLinkLane,
    read := noRead, waits := noWaits, bind := noBind, act := actLinkLane }

/-- Checks of LINK.TEST. -/
def checkLinkTest (s : State) (p : Packet) : Nat × Nat × Nat :=
  let ok := decide (p.f 3 2 0 ≤ 6 ∧ p.f 3 5 4 ≤ 2 ∧ 1 ≤ p.dw 4 ∧ p.dw 4 ≤ 3_600_000)
  let c := s.lnkCheck p ok
  if c ≠ St.ok then (c, 0, 0)
  else if (s.lnk (lnkTile p) (lnkLane p)).st = 1 then (St.laneState, 0, 0)
  else (St.ok, 0, 0)

/-- LINK.TEST: the lane goes to TEST and its pattern runs (16 R510, R513). -/
def actLinkTest (s : State) (p : Packet) (_ : List Byte) : State :=
  let x : LaneTest :=
    { seq := p.seq, pattern := p.f 3 2 0, loopback := p.f 3 5 4, one := bit (p.dw 3) 8, burst := bit (p.dw 3) 9, duration := p.dw 4,
      user := p.ha 5, start := s.now, injected := false }
  (s.updLnk (lnkTile p) (lnkLane p) (fun y => { y with
    st := 4, lock := false, lockRun := 0, txq := [], tx := [], rxFrame := none, heads := [], rxslp := 0, txslp := 0, trainAt := none, downAt := none, outSince := none, testErr := 0, testLoss := 0,
    testLocked := false, test := some x })).run p.seq .work

/-- LINK.TEST. -/
def opLinkTest : OpDef :=
  { code := 0x0A21, cls := clsSO, named := [0xF07, 0x337, 0xFFFF_FFFF, 0xFFFF_FFFF, 0xFFFF_FFFF], prot := noProt,
    access := noAccess, check := checkLinkTest, read := noRead, waits := noWaits, bind := noBind, act := actLinkTest }

/-- LANE_TEST_INJECT: 1 ms after the start, once, one bit or 16 bits are inverted (16 R512). -/
def State.testInject (s : State) (t l : Nat) : State :=
  match (s.lnk t l).test with
  | none => s
  | some x =>
    whenDue ((x.one || x.burst) && !x.injected && decide (x.start + 250_000 ≤ s.now)) s
      (s.updLnk t l (fun y => { y with test := some { x with injected := true } }))

/-- The error count that a test reports, from what its checker counted (16 R511, R513). -/
def testErrors (x : LaneTest) (errors losses : Nat) (locked : Bool) : Nat :=
  if x.loopback = 2 then 0
  else if losses ≠ 0 || !locked then 0xFFFF_FFFF
  else if x.pattern = 5 then 0
  else min errors 0xFFFF_FFFF

/-- LANE_TEST_DONE: the test ends after its duration, and the lane trains (16 R503, R511, R513). -/
def State.testDone (s : State) (t l errors losses : Nat) (locked : Bool) : State :=
  match (s.lnk t l).test with
  | none => s
  | some x =>
    if s.now < x.start + 250_000 * x.duration then s
    else
      let n := testErrors x errors losses locked
      let far := decide (x.loopback = 2)
      let s1 := (s.trainLane t l).updLnk t l (fun y => { y with
        test := none, testDone := true, testLocked := locked && !far, testErr := if far then 0 else min errors 0xFFFF_FFFF,
        testLoss := if far then 0 else min losses 0xFFFF })
      (s1.raiseN t Ev.laneTestDone [l, n, losses]).complete x.seq (if n = 0 then St.ok else St.testErrors) n x.duration

/-! ## Register clears (16 R516) -/

/-- LNK_CLR.CNT (16 R516). -/
def State.lnkClrCnt (s : State) (t l : Nat) : State :=
  whenDue (s.lnkOn t l) s (s.updLnk t l (fun x => { x with disc := Vector.replicate 3 0, fillDel := 0, fillIns := 0 }))

/-- LNK_CLR.TEST, ignored while a test runs (16 R516). -/
def State.lnkClrTest (s : State) (t l : Nat) : State :=
  whenDue (s.lnkOn t l && (s.lnk t l).test.isNone) s (s.updLnk t l (fun x => { x with testErr := 0, testLoss := 0 }))

/-! ## Meanings -/

/-- R507: LINK.LANE. -/
def execLinkLane (p : Packet) (s : State) : Out := .next (opLinkLane.dispatch s p)
/-- R510: LINK.TEST. -/
def execLinkTest (p : Packet) (s : State) : Out := .next (opLinkTest.dispatch s p)
/-- R503: LANE_TRAINING_DONE. -/
def execLaneTrainingDone (t : Tile) (l : Fin 10) (e : Eye) (s : State) : Out := onTile t s (s.trained t.val l.val e)
/-- R503: LANE_TRAIN_FAIL. -/
def execLaneTrainFail (t : Tile) (l : Fin 10) (e : Eye) (s : State) : Out := onTile t s (s.trainFailed t.val l.val e)
/-- R504: LANE_RETRAIN_TIMER. -/
def execLaneRetrainTimer (t : Tile) (l : Fin 10) (s : State) : Out := onTile t s (s.retrainTimer t.val l.val)
/-- R512: LANE_TEST_INJECT. -/
def execLaneTestInject (t : Tile) (l : Fin 10) (s : State) : Out := onTile t s (s.testInject t.val l.val)
/-- R516: LNK_CLR_CNT. -/
def execLnkClrCnt (t : Tile) (l : Fin 10) (s : State) : Out := onTile t s (s.lnkClrCnt t.val l.val)
/-- R516: LNK_CLR_TEST. -/
def execLnkClrTest (t : Tile) (l : Fin 10) (s : State) : Out := onTile t s (s.lnkClrTest t.val l.val)

end Sys2Proof.Machine
end

