-- ==== Sys2Proof/Machine/Ray.lean ====
section
/-! DEFINITION. The ray engine: lens models, the mapping of dots to views, view-map tables, scene bindings, the
registration loop, the proof panel, and the RAY group (06 R198 to R225; 13 R448). -/

namespace Sys2Proof.Machine

/-! ## The lens model (06 R199 to R203) -/

/-- Inputs of R201 for one dot: span-local position, lines of the product below RAY_Y, and nominal row pitch. -/
structure RayDot where
  xl : Nat
  yr : Int
  pyNom : Nat
  deriving DecidableEq, Repr

/-- What R201 and R202 give for a dot: column, row (global, or the brick row for lenticular films) and cell. -/
structure RayHit where
  i : Int
  j : Int
  cu : Nat
  cv : Nat
  deriving DecidableEq, Repr

/-- From dot to lens and cell (06 R201 to R203). -/
def LensModel.map (m : LensModel) (cx cy : Nat) (d : RayDot) : RayHit :=
  let x : Int := d.xl * 2 ^ 32 + 0x8000_0000
  let dy := m.yoff + (m.sk * x) / 2 ^ 32
  let jr := fdivI dy m.py
  let ry := dy - jr * m.py
  let fv := (ry * 2 ^ 32) / m.py
  let cv := if m.lat = 2 then 0 else ((fv * cy) / 2 ^ 32).toNat
  let jFilm : Int := m.jbase + jr
  let j := if m.lat = 2 then fdivI (d.yr * 2 ^ 32 + 0x8000_0000) d.pyNom else jFilm
  let xs0 := x - m.x0
  let xs := if m.lat = 1 && decide (jFilm % 2 = 1) then xs0 - (m.px / 2 : Nat) else xs0
  let ir := fdivI xs m.px
  let rx := xs - ir * m.px
  let fu := (rx * 2 ^ 32) / m.px
  { i := (m.ibase : Int) + ir, j := j, cu := ((fu * cx) / 2 ^ 32).toNat, cv := cv }

/-- An entry of a view-map table (06 R204). -/
structure VEntry where
  dark : Bool
  two : Bool
  w : Nat
  vb : Nat
  va : Nat
  deriving DecidableEq, Repr

/-- The fields of an ENTRY word. -/
def vEntry (n : Nat) : VEntry := { dark := bit n 25, two := bit n 24, w := bits n 23 16, vb := bits n 15 8, va := bits n 7 0 }

/-- An ENTRY word obeys the bit rules, for tables of so many views (06 R204). -/
def vEntryOk (views n : Nat) : Bool :=
  let e := vEntry n
  decide (bits n 31 26 = 0 ∧ e.va < views ∧ e.vb < views ∧ (e.dark → e.va = 0)) &&
    (if e.two then decide (1 ≤ e.w) else decide (e.w = 0 ∧ e.vb = 0))

/-- A view-map table from its bytes, if valid (06 R204). -/
def viewMapOf (bs : List Byte) : Option ViewMap :=
  let cx := fld bs 4 1
  let cy := fld bs 5 1
  let views := fld bs 6 2
  let es := (chunks 4 (bs.drop 16) (cx * cy)).map leVal
  if decide (fld bs 0 2 = 0x4D56 ∧ fld bs 2 1 = 1 ∧ fld bs 3 1 = 0 ∧ 1 ≤ cx ∧ cx ≤ 32 ∧ 1 ≤ cy ∧ cy ≤ 32 ∧ 1 ≤ views ∧ views ≤ 256
      ∧ fld bs 8 8 = 0) && es.all (vEntryOk views) then
    some { cx := cx, cy := cy, views := views, entries := es }
  else none

/-- The table that a slot holds, as the first tile that holds one has it (06 R204). -/
def State.slotMap (s : State) (k : Nat) : Option ViewMap :=
  s.tileList.findSome? (fun t => vget (s.tileN t).die.viewmap k none)

/-- The two-view rule (06 R205). -/
def twoView (e : VEntry) (byte : Nat → Nat) : Nat :=
  if e.two then
    let t := (255 - e.w) * byte e.va + e.w * byte e.vb + 128
    (t + t / 256) / 256
  else byte e.va

/-! ## Bindings (06 R206 to R209) -/

/-- The items of the LIGHT binding of a lane: item k of R225. -/
def PMap.ray (m : PMap) (j k : Nat) : Nat := (PMap.item m (parmId 6 (0x10 + j) k)).toNat
/-- The scene channel field of a print channel, 0 none. -/
def PMap.schField (m : PMap) (j c : Nat) : Nat := bits (m.ray j 5) (4 * c + 3) (4 * c)

/-- The tables of items of a lane: in force, of its products, and after each change. -/
def State.laneTables (s : State) (j : Nat) : List PMap :=
  let cs := (s.lane j).changes ++ (s.job.nextJob.filter (fun c => c.1 == j)).map (·.2)
  let f := fun (a : List PMap × PMap) (c : LaneChange) => let m := PMap.putAll a.2 c.items; (a.1 ++ [m], m)
  (s.job.products.filter (fun p => p.lane == j && p.armed)).map (·.items) ++ (cs.foldl f ([s.job.base.items], s.job.base.items)).1

/-- A lane uses LIGHT: a scene is bound, in force or pending. -/
def State.laneLight (s : State) (j : Nat) : Bool := (s.laneTables j).any (fun m => decide (m.ray j 1 ≠ 0))
/-- Some lane uses LIGHT. -/
def State.lightUsed (s : State) : Bool := (List.range 16).any (fun j => decide (s.laneW j ≠ 0) && s.laneLight j)

/-- Positions of a window of lane j among the computed positions of span k (06 R209). -/
def windowWidth (g : Nat → Nat) (m : PMap) (k j : Nat) : Nat :=
  let c0 : Int := (g (Pid.spanStart k) : Int) - 64
  let c1 : Int := g (Pid.spanStart k) + g (Pid.spanWidth k) + 64
  let x0 : Int := g (Pid.laneX0 j) + m.ray j 7
  let x1 : Int := x0 + m.ray j 9
  if g (Pid.spanWidth k) = 0 then 0 else (min x1 c1 - max x0 c0).toNat

/-- Bytes of brick buffer that a binding needs over Ww positions, under lens settings (06 R209). -/
def brickNeed (px py : Nat) (skew : Int) (lat ww depth : Nat) : Nat :=
  let pxm := px * 49 / 50
  let pym := py * 49 / 50
  if ww = 0 || pxm = 0 || pym = 0 then 0
  else
    let cols := ceilDiv (ww * 2 ^ 32) pxm + 2
    let rows := if lat = 2 then 3 else skew.natAbs * ww / pym + 3
    rows * cols * depth

/-- Brick buffer of the print path. -/
def brickPrint : Nat := 4194304
/-- Brick buffer of the proof. -/
def brickProof : Nat := 1048576

/-- DEPTH of a binding. -/
def PMap.rayDepth (m : PMap) (j : Nat) : Nat := m.ray j 2 * m.ray j 3 * m.ray j 4

/-- The brick buffer need of span k: over lanes, the largest need among the tables given for each (06 R209). -/
def brickSum (g : Nat → Nat) (lens : PMap) (tables : Nat → List PMap) (k : Nat) : Nat :=
  let px := (PMap.item lens Pid.lensPxNom).toNat
  let py := (PMap.item lens Pid.lensPyNom).toNat
  let lat := g Pid.lensLattice
  ((List.range 16).map (fun j =>
    (((tables j).filter (fun m => decide (m.ray j 1 ≠ 0))).map (fun m =>
      brickNeed px py (PMap.item lens Pid.lensSkew) lat (windowWidth g m k j) (m.rayDepth j))).foldl max 0)).foldl (· + ·) 0

/-- Lens settings after every pending effect-line change. -/
def State.lensAfter (s : State) : PMap := (s.job.commits.foldl (fun x c => x.apply c.change) s.job.base).items

/-- The brick buffer overflows on some used span with lens settings, and a further table for one lane. -/
def State.brickOver (s : State) (next : Bool) (lens : PMap) (extra : Option (Nat × PMap)) : Option Nat :=
  let tables := fun j => s.laneTables j ++ (match extra with
    | some (l, m) => if l = j then [m] else []
    | none => [])
  (List.range s.nTwins).find? (fun k => decide (brickSum (s.geomItem next) lens tables k > brickPrint))

/-! ## The registration loop (06 R210 to R218) -/

/-- Inputs that a lattice uses: LENS_L, LENS_R, and LENS_ROW but for lenticular films. -/
def lensInputs (lat : Nat) : List Nat := if lat = 2 then [1, 2] else [1, 2, 3]

/-- The settings of the loop at a line. -/
structure LensCfg where
  lat : Nat
  pxNom : Nat
  pyNom : Nat
  skew : Int
  xl : Nat
  xr : Nat
  xrow : Nat
  cols : Nat
  xratio : Nat
  rowCpr : Nat
  dist : Nat
  gx : Nat
  ga : Nat
  gb : Nat
  hold : Nat
  silent : Nat
  tol : Nat
  acqLines : Nat
  deriving DecidableEq, Repr

/-- Settings of the loop from a table of items (06 R225). -/
def LensCfg.of (m : PMap) : LensCfg :=
  let g := fun k => (PMap.item m (parmId 6 0 k)).toNat
  { lat := g 1, pxNom := g 2, pyNom := g 3, skew := PMap.item m Pid.lensSkew, xl := g 5, xr := g 6, xrow := g 7, cols := g 8,
    xratio := g 9, rowCpr := g 10, dist := g 11, gx := g 12, ga := g 13, gb := g 14, hold := g 15, silent := g 16,
    tol := g 17, acqLines := g 18 }

/-- The settings of the loop in force at a line. -/
def State.lensCfg (s : State) (n : Nat) : LensCfg := LensCfg.of (s.printAt n).items

/-- LIGHT can be mapped: the nominal pitches, the ratio and the distance are set (06 R225). -/
def LensCfg.set (c : LensCfg) : Bool := decide (c.pxNom ≠ 0 ∧ c.pyNom ≠ 0 ∧ c.xratio ≠ 0 ∧ 32 ≤ c.dist)

/-- The column pitch of the state, unclamped (06 R213). -/
def Lens.pxr (l : Lens) (c : LensCfg) : Int := (wrapI 64 (l.aR - l.aL)).tdiv c.cols
/-- The row pitch of the state, unclamped; where q is 0 the quotient is not stated and a free value (06 R213, log 4). -/
def Lens.pyr (l : Lens) (fr : Nat) : Int := if l.q = 0 then Config.freeNat fr else ((2 ^ 64 / l.q : Nat) : Int)
/-- The column pitch of the models. -/
def Lens.px (l : Lens) (c : LensCfg) : Int := clampI (l.pxr c) (c.pxNom * 49 / 50 : Nat) (c.pxNom * 51 / 50 : Nat)
/-- The row pitch of the models. -/
def Lens.py (l : Lens) (c : LensCfg) (fr : Nat) : Int := clampI (l.pyr fr) (c.pyNom * 49 / 50 : Nat) (c.pyNom * 51 / 50 : Nat)

/-- A pitch is within 2% of nominal. -/
def pitchOk (v : Int) (nom : Nat) : Bool := decide (((nom * 49 / 50 : Nat) : Int) ≤ v ∧ v ≤ ((nom * 51 / 50 : Nat) : Int))

/-- The model of the span whose first computed position is c0 (06 R213). -/
def Lens.model (l : Lens) (c : LensCfg) (fr : Nat) (c0 : Int) : LensModel :=
  let px := l.px c
  let py := l.py c fr
  let rel := c0 * 2 ^ 32 - l.aL
  let kc := fdivI rel px
  let jr := l.r / 2 ^ 32
  let f := l.r % 2 ^ 32
  let yr := (f * py) / 2 ^ 32 + c.skew * (c0 - c.xrow)
  let ja := fdivI yr py
  { lat := c.lat, ibase := ((0x0100_0000 + kc) % 2 ^ 32).toNat, x0 := l.aL + kc * px - c0 * 2 ^ 32, px := px.toNat,
    jbase := ((0x0100_0000 + jr + ja) % 2 ^ 32).toNat, yoff := (yr - ja * py).toNat, py := py.toNat, sk := c.skew }

/-- The signed 48-bit difference of two counts. -/
def s48 (a b : Nat) : Int := sext 48 ((a + 2 ^ 48 - b % 2 ^ 48) % 2 ^ 48)

/-- The positions and the row coordinate that a line's counts of LENS_L, LENS_R and LENS_ROW measure (06 R212). -/
def Lens.measure (l : Lens) (c : LensCfg) (counts : List Nat) : Int × Int × Int :=
  let d := fun (i : Nat) => s48 (counts.getD i 0) (vget l.ref i 0)
  (wrapI 64 (c.xl * 2 ^ 32 + d 0 * c.xratio), wrapI 64 (c.xr * 2 ^ 32 + d 1 * c.xratio),
    if c.lat = 2 then 0 else (wrapI 64 (d 2 * 2 ^ 32)).tdiv c.rowCpr)

/-- The row pitch over 64 lines in which the row coordinate rose by so much is in range (06 R213, R218; log 127). -/
def LensCfg.rowOk (c : LensCfg) (rise : Int) : Bool :=
  c.lat = 2 || (decide (0 < rise) && pitchOk (2 ^ 70 / rise) c.pyNom)

/-- The run of lines in range that a RANGE loss waits for, after a line with the column pitch in range or not, and the row
coordinate before it: a run of 64 lines whose row pitch is out of range begins again (06 R218; log 127). -/
def Lens.rangeRun (l : Lens) (c : LensCfg) (colOk : Bool) (mW : Int) : Nat × Int :=
  if !(decide (l.st = .lost ∨ l.st = .reacquire) && colOk) then (0, mW)
  else if l.inRange + 1 = 64 ∧ !c.rowOk (mW - l.rowAt) then (0, mW)
  else (l.inRange + 1, l.rowAt)

/-- The loop's update for one issued line with the counts of LENS_L, LENS_R and LENS_ROW (06 R212, R214, R217). -/
def Lens.step (l : Lens) (c : LensCfg) (fr : Nat) (counts : List Nat) : Lens :=
  let (mL, mR, mW) := l.measure c counts
  let r1 := wrapI 64 (l.r + l.q)
  let e : Int := if c.lat = 2 then 0 else wrapI 64 (mW - r1)
  let eL := wrapI 64 (mL - l.aL)
  let eR := wrapI 64 (mR - l.aR)
  let on := decide (l.st = .acquire ∨ l.st = .lock)
  let l1 : Lens := if on then
      { l with
        aL := wrapI 64 (l.aL + (eL * c.gx) / 2 ^ 32), aR := wrapI 64 (l.aR + (eR * c.gx) / 2 ^ 32),
        r := wrapI 64 (r1 + (e * c.ga) / 2 ^ 32), q := (((l.q : Int) + (e * c.gb) / 2 ^ 32) % 2 ^ 32).toNat }
    else { l with r := r1 }
  let eLines := ((e.natAbs : Int) * l1.py c fr) / 2 ^ 32
  let small := decide (eL.natAbs < 2 ^ 29 ∧ eR.natAbs < 2 ^ 29 ∧ eLines < 2 ^ 29)
  let large := decide (eL.natAbs > 2 ^ 31 ∨ eR.natAbs > 2 ^ 31 ∨ eLines > 2 ^ 31)
  let inR := pitchOk (l1.pxr c) c.pxNom && (c.lat = 2 || pitchOk (l1.pyr fr) c.pyNom)
  let run := l.rangeRun c (pitchOk ((wrapI 64 (mR - mL)).tdiv c.cols) c.pxNom) mW
  { l1 with
    good := if l.st = .acquire ∧ small then l.good + 1 else 0, bad := if l.st = .lock ∧ large then l.bad + 1 else 0,
    outRange := if on && !inR then l.outRange + 1 else 0, inRange := run.1, rowAt := run.2, errs := (eL, eR, e) }

/-- The counts that the loop takes for line n: those at the fire timestamp of line n - LENS_DIST once it is past, else the
latest (06 R211). -/
def State.lensCounts (s : State) (n dist : Nat) : List Nat :=
  match (if dist ≤ n then s.issuedAt (n - dist) else none).bind (·.counts) with
  | some cs => cs
  | none => [1, 2, 3].map (fun i => (vget s.motion.enc i Enc.reset).count)

/-- The package with its registration loop changed. -/
def State.updLens (s : State) (f : Lens → Lens) : State := { s with motion := { s.motion with lens := f s.motion.lens } }

/-- The loop as JOB.ARM leaves it: IDLE at the nominal model (06 R214). -/
def Lens.armed (c : LensCfg) : Lens :=
  { Lens.reset with
    aL := c.xl * 2 ^ 32, aR := c.xl * 2 ^ 32 + c.cols * c.pxNom, q := if c.pyNom = 0 then 0 else 2 ^ 64 / c.pyNom % 2 ^ 32 }

/-- Products with LIGHT print on a line issued in this state (06 R214). -/
def Lens.prints (l : Lens) (hold n : Nat) : Bool :=
  match l.st with
  | .lock => true
  | .lost | .reacquire => decide (n ≤ l.entry + hold)
  | _ => false

/-- A product's window covers a line (06 R208). -/
def Product.windowLine (p : Product) (n : Nat) : Bool :=
  decide (p.items.ray p.lane 1 ≠ 0 ∧ p.first + p.items.ray p.lane 8 ≤ n ∧ n < p.first + p.items.ray p.lane 8 + p.items.ray p.lane 10)

/-- The effect line of RAY.ACQUIRE: every input that the lattice uses takes its next index as its reference, and
LENS_ACQ_LINES comes into force (06 R215, R225). -/
def Lens.acquire (l : Lens) (c : LensCfg) (n now : Nat) : Lens :=
  { l with need := maskOf 3 (fun i => (lensInputs c.lat).contains (i + 1)), acquireAt := some n, stuck := false, slip := false,
           refFrom := now, acqLines := c.acqLines, acqBy := none }

/-- The models of line n for every span of the part, and the loop's state after it; no model where the nominal settings are
unset (06 R200, R212, R213). -/
def State.lensIssue (s : State) (n : Nat) : List LensModel × State :=
  let c := s.lensCfg n
  let acq := (s.commitsAt n (s.cmaxFor n)).any (fun d => d.change == .acquire && d.line == n)
  let l0 := s.motion.lens
  let l := (if acq then l0.acquire c n s.now else l0).step c s.free (s.lensCounts n c.dist)
  let ms := if c.set then (List.range s.nTwins).map (fun k => l.model c s.free ((s.spanStart k : Int) - 64)) else []
  (ms, (s.updLens (fun _ => l)).nextFree)

/-- Products with LIGHT whose window covers line n are rejected when its state does not print them (06 R214). -/
def State.lensReject (s : State) (n : Nat) : State :=
  if (s.lensCfg n).set && s.motion.lens.prints (s.lensCfg n).hold n then s
  else s.rejectIf (fun p => p.armed && p.windowLine n)

/-- The span that owns a position. -/
def State.ownerOf (s : State) (x : Nat) : Nat :=
  ((s.usedSpans.find? (fun k => decide (s.spanStart k ≤ x ∧ x < s.spanStart k + s.spanWidth k)))).getD 0

/-- The anchors of the windows whose anchor line is n, from the models of that line (06 R208). -/
def State.anchorsAt (s : State) (n : Nat) (ms : List LensModel) : State :=
  (s.job.products.filter (fun p => p.armed && decide (p.items.ray p.lane 1 ≠ 0 ∧ p.first + p.items.ray p.lane 8 = n))).foldl (fun s p =>
    let x := s.laneX0 p.lane + p.items.ray p.lane 7
    let k := s.ownerOf x
    match ms[k]?, s.slotMap (p.items.ray p.lane 11) with
    | some m, some v =>
      let h := m.map v.cx v.cy { xl := x + 64 - s.spanStart k, yr := 0, pyNom := (s.lensCfg n).pyNom }
      let jA := if m.lat = 1 then h.j - h.j % 2 else h.j
      s.updProduct p.lane p.num (fun q => { q with anchor := some (h.i, jA) })
    | _, _ => s) s

/-! ### Events of the loop -/

/-- The line of the loop's events: the last issued. -/
def State.lensLine (s : State) : Nat := s.motion.lastLine

/-- 1,024 good lines in ACQUIRE: LOCK (06 R214). -/
def State.lensLocked (s : State) : State :=
  if s.motion.lens.st = .acquire ∧ s.motion.lens.good ≥ 1024 then
    (s.updLens (fun l => { l with st := .lock, good := 0, bad := 0, acqBy := none })).raiseMot Ev.lensLock [s.lensLine]
  else s

/-- 16 bad lines in LOCK: back to ACQUIRE (06 R214). -/
def State.lensUnlocked (s : State) : State :=
  if s.motion.lens.st = .lock ∧ s.motion.lens.bad ≥ 16 then
    (s.updLens (fun l => { l with st := .acquire, good := 0, bad := 0 })).raiseMot Ev.lensUnlock [s.lensLine]
  else s

/-- A lens input has a wire fault on its A or B pair. -/
def State.lensWire (s : State) (i : Nat) : Bool :=
  let e := vget s.motion.enc i Enc.reset
  vget e.fault 0 false || vget e.fault 1 false

/-- A cause of R217 holds now: 0 WIRE, 1 SLIP, 2 SILENT, 3 RANGE. -/
def State.lensCause (s : State) (cause : Nat) : Bool :=
  let c := s.lensCfg s.lensLine
  let l := s.motion.lens
  match cause with
  | 0 => (lensInputs c.lat).any s.lensWire
  | 1 => decide (c.lat ≠ 2) && l.slip
  | 2 => decide (c.lat ≠ 2 ∧ (vget s.motion.enc 3 Enc.reset).changeLine + c.silent ≤ s.lensLine)
  | 3 => decide (l.outRange ≥ 16)
  | _ => false

/-- The inputs that a cause concerns, as a mask over LENS_L, LENS_R and LENS_ROW. -/
def State.causeInputs (s : State) (cause : Nat) : Nat :=
  if cause = 0 then maskOf 3 (fun i => (lensInputs (s.lensCfg s.lensLine).lat).contains (i + 1) && s.lensWire (i + 1))
  else if cause = 3 then 0 else 4

/-- A cause on an input the lattice uses: it is reported, with every further input that has it, and the loop enters LOST once
(06 R217). References that an acquisition still waits for stay wanted. -/
def State.lensLost (s : State) (cause : Nat) : State :=
  let l := s.motion.lens
  let inputs := s.causeInputs cause
  let fresh := !bit l.causes cause || (cause == 0 && inputs &&& l.hurt != inputs)
  if cause < 4 ∧ s.lensCause cause ∧ fresh then
    let first := decide (l.st ≠ .lost ∧ l.st ≠ .reacquire)
    let hurt := (l.hurt * boolNat (!first)) ||| inputs
    (s.updLens (fun l => { l with
      st := .lost, causes := l.causes ||| 2 ^ cause, hurt := hurt, entry := if first then s.lensLine else l.entry,
      holdRaised := l.holdRaised && !first, slip := l.slip && decide (cause ≠ 1), need := if l.acquireAt.isSome then l.need else 0,
      inRange := 0 })).raiseMot Ev.lensTrackLost [cause, s.lensLine]
  else s

/-- LENS_HOLD lines after the loss (06 R217). -/
def State.lensExpired (s : State) : State :=
  let l := s.motion.lens
  if (l.st = .lost ∨ l.st = .reacquire) ∧ !l.holdRaised ∧ l.entry + (s.lensCfg s.lensLine).hold ≤ s.lensLine then
    (s.updLens (fun l => { l with holdRaised := true })).raiseMot Ev.lensHoldExpired [s.lensLine]
  else s

/-- Track regained: LOCK, or ACQUIRE after a longer loss (06 R218). -/
def State.lensTrackOk (s : State) : State :=
  let short := decide (s.lensLine ≤ s.motion.lens.entry + (s.lensCfg s.lensLine).hold)
  (s.updLens (fun l => { l with
    st := if short then .lock else .acquire, hurt := 0, good := 0, bad := 0, outRange := 0,
    entry := if short then l.entry else s.lensLine, acqBy := if short then none else l.acqBy })).raiseMot Ev.lensTrackOk [s.lensLine, if short then 1 else 0]

/-- A cause in force while LOST has ended (06 R218). -/
def State.causeEnded (s : State) (cause : Nat) : Bool :=
  let c := s.lensCfg s.lensLine
  match cause with
  | 0 => !s.lensCause 0
  | 1 => true
  | 2 => decide (s.lensLine < (vget s.motion.enc 3 Enc.reset).changeLine + c.silent)
  | _ => decide (s.motion.lens.inRange ≥ 64)

/-- Every cause has ended: REACQUIRE, with the inputs that were hurt to be referenced again, but while an acquisition takes
references of its own (06 R215, R218). -/
def State.lensReacquire (s : State) : State :=
  let l := s.motion.lens
  if l.st = .lost ∧ !l.stuck ∧ l.acquireAt.isNone ∧ (bitsOf 4 l.causes).all s.causeEnded then
    let s1 := s.updLens (fun l => { l with st := .reacquire, causes := 0, need := l.hurt, refFrom := s.now })
    if l.hurt = 0 then s1.lensTrackOk else s1
  else s

/-- round(a / b) for a positive b. -/
def roundI (a b : Int) : Int := fdivI (2 * a + b) (2 * b)

/-- A test of R218: the whole number nearest to a / b, and whether the deviation is within the tolerance; with the
deviation in 1/256 pitch. -/
def reacqTest (a b : Int) (tol : Nat) : Int × Bool × Int :=
  let k := roundI a b
  let dev := a - k * b
  (k, decide ((dev.natAbs : Int) * 256 ≤ tol * b), (dev * 256).tdiv b)

/-- All references of an acquisition are taken: the loop starts in ACQUIRE, or in LOST where the sensors' spacing is out
of range (06 R215). -/
def State.lensAcquired (s : State) : State :=
  let c := s.lensCfg s.lensLine
  let px := (((c.xr : Int) - c.xl) * 2 ^ 32).tdiv c.cols
  let s1 := s.updLens (fun l => { l with
    q := if c.pyNom = 0 then 0 else 2 ^ 64 / c.pyNom % 2 ^ 32, acquireAt := none, good := 0, bad := 0, outRange := 0, inRange := 0,
    causes := 0, hurt := 0, entry := s.lensLine, acqRaised := false, holdRaised := false, acqBy := some (s.lensLine + l.acqLines) })
  if pitchOk px c.pxNom then s1.updLens (fun l => { l with st := .acquire })
  else (s1.updLens (fun l => { l with st := .lost, causes := 8 })).raiseMot Ev.lensTrackLost [3, s.lensLine]

/-- A forward index of a lens input is taken as its reference, in acquisition or reacquisition (06 R215, R218). -/
def State.lensIndex (s : State) (i : Nat) : State :=
  let c := s.lensCfg s.lensLine
  let l := s.motion.lens
  let b := i - 1
  let e := vget s.motion.enc i Enc.reset
  let cnt := e.latched
  let left := l.need &&& (7 - 2 ^ b)
  if i = 0 ∨ !bit l.need b ∨ !e.indexAt.any (fun a => decide (l.refFrom ≤ a)) then s
  else if l.acquireAt.isSome then
    let l1 : Lens := { l with need := left, ref := vset l.ref b cnt }
    let l2 : Lens := if i = 1 then { l1 with aL := c.xl * 2 ^ 32 } else if i = 2 then { l1 with aR := c.xr * 2 ^ 32 } else { l1 with r := 0 }
    let s1 := s.updLens (fun _ => l2)
    if left = 0 then s1.lensAcquired else s1
  else if l.st = .reacquire then
    let px := l.px c
    let t := if i = 1 then reacqTest (c.xl * 2 ^ 32 - l.aL) px c.tol
      else if i = 2 then reacqTest (c.xr * 2 ^ 32 - l.aR) px c.tol
      else reacqTest l.r (2 ^ 32) c.tol
    if !t.2.1 then
      (s.updLens (fun l => { l with st := .lost, stuck := true, need := 0 })).raiseMot Ev.lensReacqFail [i, evInt t.2.2]
    else
      let l1 : Lens := { l with need := left }
      let l2 : Lens := if i = 1 then { l1 with aL := c.xl * 2 ^ 32 - t.1 * px, ref := vset l.ref b cnt }
        else if i = 2 then { l1 with aR := c.xr * 2 ^ 32 - t.1 * px, ref := vset l.ref b cnt }
        else { l1 with ref := vset l.ref b (wrapS 48 ((cnt : Int) - t.1 * c.rowCpr)) }
      let s1 := s.updLens (fun _ => l2)
      if left = 0 then s1.lensTrackOk else s1
  else s

/-- No lock within LENS_ACQ_LINES lines (06 R215). -/
def State.lensAcqFailed (s : State) : State :=
  let l := s.motion.lens
  if l.st = .acquire ∧ !l.acqRaised ∧ l.acqBy.any (fun n => decide (n ≤ s.lensLine)) then
    (s.updLens (fun l => { l with acqRaised := true })).raiseMot Ev.lensAcqFail [s.lensLine]
  else s

/-! ## The proof panel (06 R219, R220) -/

/-- What R219 gives for a subpixel: the two-view entry and the brick. -/
def panelHit (m : PMap) (vtab : List Nat) (xp yp k : Nat) : VEntry × Nat × Nat :=
  let g := fun i => PMap.item m (parmId 6 0x40 i)
  let n := fun i => (g i).toNat
  let ph : Int := ((3 * xp + k : Nat) : Int) * 2 ^ 24 + g 5 - yp * g 4
  let pm := (ph % g 3).toNat
  let vf := pm * n 2 * 256 / n 3
  let qv := vf / 256 % 256
  ({ dark := false, two := true, w := vf % 256, va := vtab.getD qv 0, vb := vtab.getD ((qv + 1) % n 2) 0 },
   n 6 + xp * n 8 / 2 ^ 16, n 7 + yp * n 9 / 2 ^ 16)

/-! ## RAY.BIND (06 R206, R207; 13 R447) -/

/-- The settings of a RAY.BIND: items 1 to 11 of its lane. -/
def bindItemsOf (p : Packet) : List (Nat × Int) :=
  let id := fun k => parmId 6 (0x10 + p.tgtLane) k
  [(id 1, (p.da 4 : Int)), (id 2, p.f 6 7 0), (id 3, p.f 6 15 8), (id 4, p.f 6 19 16), (id 5, ((p.ha 7 : Nat) : Int)), (id 6, p.f 6 23 20),
   (id 7, p.dw 9), (id 8, p.dw 10), (id 9, p.dw 11), (id 10, p.dw 12), (id 11, p.f 6 26 24)]

/-- Every setting is in the range of its item. -/
def rangesOk (es : List (Nat × Int)) : Bool :=
  es.all (fun e => ((parmRow e.1).map (fun r => r.accepts e.2)).getD false)

/-- The scene of a binding on one span: SURFACE_BAD, RAY_ARG or fine (06 R198, R207). -/
def State.sceneCheck (s : State) (m : PMap) (j k : Nat) : Nat :=
  match s.surface k (m.ray j 1) with
  | none => St.surfaceBad
  | some d => if d.kind ≠ 1 || d.depth ≠ m.rayDepth j then St.rayArg else St.ok

/-- The window and the scene channels of a binding obey R207, in the geometry given. -/
def State.windowArgs (s : State) (next : Bool) (m : PMap) (j : Nat) : Bool :=
  let g := s.geomItem next
  let c := m.ray j 4
  let chmap := m.lyrN (lyrIx false j 1) 4
  decide (m.ray j 6 ≤ c ∧ m.ray j 7 + m.ray j 9 ≤ g (Pid.laneW j) ∧ m.ray j 8 + m.ray j 10 ≤ g (Pid.laneLen j)) &&
    (List.range 12).all (fun ch => decide (m.schField j ch ≤ c) && !(decide (chField chmap ch = 1 ∧ m.schField j ch = 0)))

/-- A view grid obeys R198 for the lattice. -/
def gridOk (lat vx vy : Nat) : Bool := if lat = 2 then decide (vy = 1) else decide (vx ≤ 16)

/-- A binding obeys R198 and R207 but for its scene, in the geometry given; with no scene there is no slot to hold against the
grid (log 127). -/
def State.bindArgs (s : State) (next : Bool) (m : PMap) (j : Nat) : Bool :=
  let lat := s.geomItem next Pid.lensLattice
  let grid := m.ray j 2 * m.ray j 3
  let slotOk := match s.slotMap (m.ray j 11) with
    | none => false
    | some v => (lat != 2 || v.cy == 1) && v.views == grid
  s.windowArgs next m j && gridOk lat (m.ray j 2) (m.ray j 3) && (decide (m.ray j 1 = 0) || slotOk)

/-- Checks of RAY.BIND at dispatch. -/
def checkRayBind (s : State) (p : Packet) : Nat × Nat × Nat :=
  let t := checkTgt true St.rayArg s p
  if t ≠ St.ok then (t, 0, 0)
  else if p.fenced && s.fenceBusy p.fenceId then (St.fenceBusy, 0, 0)
  else if !rangesOk (bindItemsOf p) then (St.rayArg, 0, 0)
  else (St.ok, 0, 0)

/-- The binding of a lane's LIGHT: the scene, the brick buffer, and for a scene bound afresh the strip pool and the live
ranges. -/
def bindRayWith (fresh : Bool) (s : State) (p : Packet) : (Nat × Nat × Nat) × State :=
  let j := p.tgtLane
  let next := p.tgtMode == 2
  let m := PMap.putAll (s.laneItemsAfter j) (bindItemsOf p)
  let spans := s.tgtSpans p
  let a := p.da 4
  let bad := ((bitsOf 4 spans).map (fun k => s.sceneCheck m j k)).find? (· != St.ok)
  if !s.bindArgs next m j then ((St.rayArg, 0, 0), s)
  else if a = 0 then ((St.ok, 0, 0), s)
  else match bad with
    | some st => ((st, 0, 0), s)
    | none =>
      if (s.brickOver next s.lensAfter (some (j, m))).isSome then ((St.rayBuf, 0, 0), s)
      else if !fresh then ((St.ok, 0, 0), s)
      else
        let reach := spans ||| s.laneReach next j
        if !s.poolFits reach j false [(1, a)] then ((St.stripPool, 0, 0), s)
        else if s.liveFull spans [a] then ((St.liveFull, 0, 0), s)
        else ((St.ok, 0, 0), s.bindSurface p.seq spans reach j false (1, a))

/-- The binding step of RAY.BIND. -/
def bindRayBind (s : State) (p : Packet) (_ : List Byte) : (Nat × Nat × Nat) × State := bindRayWith true s p

/-- RAY.BIND (06 R206). -/
def opRayBind : OpDef :=
  { code := 0x0601, cls := clsSOJ,
    named := [tgtFenced, 0xFFFF_FFFF, 0xFFFF_FFFF, 0xFF, 0x07FF_FFFF, 0xFFFF_FFFF, 0xFFFF, 0xFFFF_FFFF, 0xFFFF_FFFF, 0xFFFF_FFFF, 0xFFFF_FFFF],
    prot := noProt, access := fun s p _ => s.surfAccess (s.tgtSpans p) (if p.da 4 = 0 then [] else [p.da 4]) [],
    check := checkRayBind, read := noRead, waits := fun s p _ => if p.da 4 = 0 then 0 else s.tgtSpans p, bind := bindRayBind,
    act := fun s p _ => (s.submit p { LaneChange.of p with layers := [1], items := bindItemsOf p }).pruneLive,
    hold := State.takeFence }

/-! ## RAY.LENS, RAY.ACQUIRE -/

/-- The settings of a RAY.LENS by its set mask. -/
def lensItemsOf (p : Packet) : List (Nat × Int) :=
  (if bit (p.dw 2) 0 then [(Pid.lensPxNom, ((p.dw 3 + 2 ^ 32 * p.f 4 15 0 : Nat) : Int))] else []) ++
  (if bit (p.dw 2) 1 then [(Pid.lensPyNom, ((p.dw 5 + 2 ^ 32 * p.f 6 15 0 : Nat) : Int))] else []) ++
  (if bit (p.dw 2) 2 then [(Pid.lensSkew, p.sdw 7)] else [])

/-- Checks of RAY.LENS (06 R209). -/
def checkRayLens (s : State) (p : Packet) : Nat × Nat × Nat :=
  if !rangesOk (lensItemsOf p) then (St.rayArg, 0, 0)
  else (if (s.brickOver false (PMap.putAll s.lensAfter (lensItemsOf p)) none).isSome then St.rayBuf else St.ok, 0, 0)

/-- RAY.LENS: an effect-line change of the nominal pitches and the skew (06 R222). -/
def opRayLens : OpDef :=
  { code := 0x0602, cls := clsSOJ, named := [7, 0xFFFF_FFFF, 0xFFFF, 0xFFFF_FFFF, 0xFFFF, 0xFFFF_FFFF], prot := noProt,
    access := noAccess, check := checkRayLens, read := noRead, waits := noWaits, bind := noBind,
    act := fun s p _ => s.changeFor p.seq (.parms (lensItemsOf p)) }

/-- Checks of RAY.ACQUIRE (06 R215). -/
def checkRayAcquire (s : State) (_ : Packet) : Nat × Nat × Nat :=
  let lat := s.itemN Pid.lensLattice
  let wire := (lensInputs lat).any (fun i => (vget s.motion.enc i Enc.reset).fault.toList.any id)
  (if !s.armed || !s.lightUsed || wire then St.lensState else St.ok, 0, 0)

/-- RAY.ACQUIRE: acquisition starts at an effect line (06 R215). -/
def opRayAcquire : OpDef :=
  { code := 0x0603, cls := clsSOJ, named := [], prot := noProt, access := noAccess, check := checkRayAcquire, read := noRead,
    waits := noWaits, bind := noBind, act := fun s p _ => s.changeFor p.seq .acquire }

/-! ## RAY.VIEWMAP (06 R204) -/

/-- A slot is named by a binding in force or pending (06 R204). -/
def State.slotBusy (s : State) (slot : Nat) : Bool :=
  (List.range 16).any (fun j => (s.laneTables j).any (fun m => decide (m.ray j 1 ≠ 0 ∧ m.ray j 11 = slot)))

/-- Bytes of a view-map table by its header. -/
def viewMapLen (h : List Byte) : Nat := 16 + 4 * (fld h 4 1 * fld h 5 1)

/-- Checks of RAY.VIEWMAP. -/
def checkRayViewmap (s : State) (p : Packet) : Nat × Nat × Nat :=
  if p.da 3 % 64 ≠ 0 then (St.viewmapBad, 0, 0)
  else if !s.inJob (p.da 3) 16 then (St.addrRange, 0, 0)
  else (if s.slotBusy (p.f 2 2 0) then St.viewmapBusy else St.ok, 0, 0)

/-- RAY.VIEWMAP: the table goes into a slot of every tile (06 R204). -/
def actRayViewmap (s : State) (p : Packet) (_ : List Byte) : State :=
  let a := p.da 3
  s.withBlock p.seq s.allSpans a 16 (fun s h =>
    if fld h 4 1 > 32 ∨ fld h 5 1 > 32 then s.done p.seq St.viewmapBad
    else if !s.inJob a (viewMapLen h) then s.done p.seq St.addrRange
    else s.withBlock p.seq s.allSpans a (viewMapLen h) (fun s bs =>
      match viewMapOf bs with
      | none => s.done p.seq St.viewmapBad
      | some v => (s.onDie 5 (fun d => { d with viewmap := vset d.viewmap (p.f 2 2 0) (some v) })).done p.seq St.ok))

/-- RAY.VIEWMAP. -/
def opRayViewmap : OpDef :=
  { code := 0x0604, cls := clsSOJ, named := [7, 0xFFFF_FFFF, 0xFF], prot := noProt,
    access := fun s p _ => [{ spans := s.allSpans, base := p.da 3, len := viewMapLen (s.spanRead 0 (p.da 3) 16), write := false }],
    check := checkRayViewmap, read := noRead, waits := fun s _ _ => s.allSpans, bind := noBind, act := actRayViewmap }

/-! ## RAY.STATUS, RAY.PANEL -/

/-- The state as a number: IDLE, ACQUIRE, LOCK, LOST, REACQUIRE. -/
def LensSt.num : LensSt → Nat
  | .idle => 0
  | .acquire => 1
  | .lock => 2
  | .lost => 3
  | .reacquire => 4

/-- What RAY.STATUS reports: the loop, its errors and the last models of the spans selected (06 R222). -/
def State.rayQuantities (s : State) (spans : Nat) : List (List Int) :=
  let l := s.motion.lens
  let ms := ((s.motion.issued.head?).map (·.models)).getD []
  [[qn l.st.num], [l.aL, l.aR, l.r, qn l.q], [l.errs.1, l.errs.2.1, l.errs.2.2]] ++
  (bitsOf 4 spans).filterMap (fun k => (ms[k]?).map (fun m =>
    [qn k, qn m.lat, qn m.ibase, m.x0, qn m.px, qn m.jbase, qn m.yoff, qn m.py, m.sk]))

/-- RAY.STATUS. -/
def opRayStatus : OpDef :=
  { code := 0x0605, cls := clsAll, named := rptNamed 0xF, prot := noProt, access := noAccess, check := noCheck, read := noRead,
    waits := noWaits, bind := noBind, act := fun s p _ => s.reportQ p (s.rayQuantities (p.selector 4)) }

/-- The settings of a panel block (13 R448). -/
def panelItems (bs : List Byte) : List (Nat × Int) :=
  [(Pid.pnlLane, (fld bs 4 1 : Int)), (Pid.pnlViews, fld bs 5 1), (Pid.pnlPitch, fld bs 8 4), (Pid.pnlSlant, fldS bs 12 4),
   (Pid.pnlOffset, fld bs 16 4), (Pid.pnlBi0, fld bs 20 2), (Pid.pnlBj0, fld bs 24 4), (Pid.pnlStepX, fld bs 28 4), (Pid.pnlStepY, fld bs 32 4)]

/-- The binding of a lane's most recently armed product, else that of the job (06 R219, 17 R521). -/
def State.panelBinding (s : State) (j : Nat) : PMap :=
  (((s.job.products.filter (fun p => p.lane == j && p.armed)).getLast?).map (·.items)).getD s.job.base.items

/-- The status of a panel block with its table (06 R220, 13 R448). -/
def State.panelCheck (s : State) (bs vtab : List Byte) : Nat :=
  let m := s.panelBinding (fld bs 4 1)
  let j := fld bs 4 1
  let views := m.ray j 2 * m.ray j 3
  let res := fld bs 3 1 + fld bs 6 2 + fld bs 22 2 + ((bs.drop 36).take 28).foldl (fun a b => a + b.toNat) 0
  if fld bs 0 2 ≠ 0x4E50 ∨ fld bs 2 1 ≠ 1 ∨ res ≠ 0 ∨ !rangesOk (panelItems bs) ∨ fld bs 8 4 ≤ fld bs 16 4 then St.rayArg
  else if m.ray j 1 = 0 ∨ vtab.any (fun b => decide (views ≤ b.toNat)) then St.rayArg
  else if 3 * (ceilDiv (s.panelWidth * fld bs 28 4) (2 ^ 16) + 2) * m.rayDepth j > brickProof then St.rayBuf
  else St.ok

/-- RAY.PANEL: the panel settings and the view table wait for the next proof flip (06 R220). -/
def actRayPanel (s : State) (p : Packet) (_ : List Byte) : State :=
  let bs := s.spanRead 0 (p.da 2) 64
  let vt := s.spanRead 0 (p.da 2 + 64) (fld bs 5 1)
  if !s.inJob (p.da 2) (64 + fld bs 5 1) then s.done p.seq St.addrRange
  else
    let st := s.panelCheck bs vt
    if st ≠ St.ok then s.done p.seq st
    else
      let s1 := (panelItems bs).foldl (fun s e => s.putItem e.1 e.2) s
      ({ s1 with stores := { s1.stores with vtab := vt.map (fun (b : Byte) => b.toNat) } }).done p.seq St.ok

/-- RAY.PANEL. -/
def opRayPanel : OpDef :=
  { code := 0x0606, cls := clsSOJ, named := [0xFFFF_FFFF, 0xFF], prot := noProt,
    access := fun s p _ => [{ spans := 1, base := p.da 2, len := 64 + fld (s.spanRead 0 (p.da 2) 64) 5 1, write := false }],
    check := fun s p => if p.da 2 % 64 ≠ 0 then (St.rayArg, 0, 0) else (if s.inJob (p.da 2) 64 then St.ok else St.addrRange, 0, 0),
    read := noRead, waits := noWaits, bind := noBind, act := actRayPanel }

/-! ## What JOB.ARM checks (06 R209, R211, R225) -/

/-- The sensors of the loop lie in the print width as R225 has it. -/
def LensCfg.placed (c : LensCfg) (width : Nat) : Bool :=
  decide (c.xl + 1 ≤ width ∧ c.xl + 1024 ≤ c.xr ∧ c.xr + 1 ≤ width ∧ c.xrow + 1 ≤ width)

/-- The binding of a lane of a job about to begin passes R207 again, on the spans that its scene reaches. -/
def State.armBinding (s : State) (m : PMap) (j : Nat) : Bool :=
  m.ray j 1 = 0 || (s.bindArgs true m j && (bitsOf 4 (s.laneSpans true j)).all (fun k => s.sceneCheck m j k == St.ok))

/-- The ray checks of a job about to begin: status and tile, 8 for none (06 R207, R209, R211, R225). -/
def State.armRay (s : State) : Nat × Nat :=
  let m := s.job.base.items
  let c := LensCfg.of m
  if !s.lightUsed then (St.ok, 8)
  else if !c.set || !c.placed (s.geomItem true Pid.jobWidth) then (St.rayArg, 8)
  else if (List.range 16).any (fun j => decide (s.laneW j ≠ 0) && !s.armBinding m j) then (St.rayArg, 8)
  else match s.brickOver true m none with
    | some k => (St.rayBuf, 2 * k)
    | none => (St.ok, 8)

/-! ## Meanings -/

/-- R206: RAY.BIND. -/
def execRayBind (p : Packet) (s : State) : Out := .next (opRayBind.dispatch s p)
/-- R222: RAY.LENS. -/
def execRayLens (p : Packet) (s : State) : Out := .next (opRayLens.dispatch s p)
/-- R215: RAY.ACQUIRE. -/
def execRayAcquire (p : Packet) (s : State) : Out := .next (opRayAcquire.dispatch s p)
/-- R204: RAY.VIEWMAP. -/
def execRayViewmap (p : Packet) (s : State) : Out := .next (opRayViewmap.dispatch s p)
/-- R222: RAY.STATUS. -/
def execRayStatus (p : Packet) (s : State) : Out := .next (opRayStatus.dispatch s p)
/-- R220: RAY.PANEL. -/
def execRayPanel (p : Packet) (s : State) : Out := .next (opRayPanel.dispatch s p)
/-- R214: the registration loop locks. -/
def execLensLock (s : State) : Out := .next s.lensLocked
/-- R214: the loop returns to ACQUIRE. -/
def execLensUnlock (s : State) : Out := .next s.lensUnlocked
/-- R217: the loop enters LOST. -/
def execLensTrackLost (cause : Nat) (s : State) : Out := .next (s.lensLost cause)
/-- R217: LENS_HOLD lines have passed since the loss. -/
def execLensHoldExpired (s : State) : Out := .next s.lensExpired
/-- R218: every cause has ended. -/
def execLensReacquireEnter (s : State) : Out := .next s.lensReacquire
/-- R218: a lens input's index is taken as its reference. -/
def execLensReferenceIndex (i : Quad) (s : State) : Out := .next (s.lensIndex i.num)
/-- R215: no lock within LENS_ACQ_LINES. -/
def execLensAcqFail (s : State) : Out := .next s.lensAcqFailed

end Sys2Proof.Machine
end

