-- ==== Sys2Proof/Machine/Motion.lean ====
section
/-! DEFINITION. The motion block of twin 0: inputs and their filters, counts, index pulses, the absolute port, the pitch
loop and line issue, compare units, product detects, carriage groups, rejects and the stop request (02 R66 to R100, R449). -/

namespace Sys2Proof.Machine

/-! ## The block and its tiles (02 R66, R85, R86) -/

/-- The package with its motion block changed. -/
def State.updMot (s : State) (f : Motion → Motion) : State := { s with motion := f s.motion }
/-- The package with its pitch loop changed. -/
def State.updLoop (s : State) (f : PLoop → PLoop) : State := s.updMot (fun m => { m with loop := f m.loop })
/-- PD_MOTION of a tile of twin 0 is on. -/
def State.motionOn (s : State) (t : Nat) : Bool := (s.tileN t).on 14
/-- Some motion block runs. -/
def State.motionRuns (s : State) : Bool := s.motionOn 0 || s.motionOn 1
/-- A motion block is able (02 R86). -/
def State.motionAble (s : State) (t : Nat) : Bool :=
  s.motionOn t && (s.tileN t).clockOk && decide ((s.tileN t).twin ≠ .boot) && decide ((s.tileN t).twin ≠ .off)
    && decide ((s.tileN t).skew.natAbs ≤ 2)
/-- Bits of MOT_FAULT set on every tile whose motion block runs (02 R99). -/
def State.motFault (s : State) (bits : Nat) : State :=
  [0, 1].foldl (fun s t => if s.motionOn t then s.updTileN t (fun x => { x with motFault := x.motFault ||| bits }) else s) s

/-- An event that each running motion block detects on the inputs and settings that both tiles of twin 0 share: it goes to the
router of its own tile (02 R66, R67, R85, R87, R100). -/
def State.raiseBlocks (s : State) (src : Nat) (data : List Nat) : State :=
  [0, 1].foldl (fun s t => if s.motionOn t then s.raiseN t src data else s) s

/-- What the active block holds of its own (02 R85). -/
def Motion.block (m : Motion) : MotBlock := { enc := m.enc, loop := m.loop, cmp := m.cmp, rej := m.rej }
/-- The motion with a block in the place of the active one. -/
def Motion.load (m : Motion) (b : MotBlock) : Motion := { m with enc := b.enc, loop := b.loop, cmp := b.cmp, rej := b.rej }
/-- The block of a tile of twin 0 (02 R85). -/
def Motion.blockOf (m : Motion) (t : Nat) : MotBlock := if t = m.active then m.block else m.other.getD m.block

/-- What both blocks do on the inputs and settings they share: the effects are those of the active block, and of the other
block only its own state changes (02 R85). -/
def State.onBoth (s : State) (f : State → State) : State :=
  match s.motion.other with
  | none => f s
  | some b =>
    let r := f (s.updMot (fun m => m.load b))
    (f s).updMot (fun m => { m with other := some r.motion.block })

/-- A block with the state copied from another: the loop, the counts, the E values, the compare state and the reject queues
(02 R85). -/
def MotBlock.copy (b c : MotBlock) : MotBlock :=
  { enc := b.enc.zipWith (fun e d => { e with count := d.count, e := d.e }) c.enc
    loop := c.loop, cmp := c.cmp
    rej := b.rej.zipWith (fun o p => { o with queue := p.queue }) c.rej }

/-- The other block loads the state of the active one (02 R85, R86). -/
def Motion.copied (m : Motion) (now : Nat) : Motion :=
  { m with other := m.other.map (fun b => b.copy m.block), copyAt := now }

/-- An input as its block comes up with PD_MOTION: its count at 0, no index seen, the levels as the wires show them; packets
that wait for a re-phasing still do (02 R69, R72). -/
def Enc.powerUp (e : Enc) (now : Nat) : Enc :=
  { Enc.reset with
    wireP := e.wireP, wireN := e.wireN, wireSince := Vector.replicate 3 now
    rx := e.rx.map (fun p => { p with filt := p.raw }), rephase := 0 :: e.rephase.filter (· != 0) }

/-- A block as PD_MOTION comes up: its counts at 0, its loop off, its units disarmed, its queues empty (02 R69, R87; 00
R11). -/
def MotBlock.powerUp (b : MotBlock) (now : Nat) : MotBlock :=
  { enc := b.enc.map (fun e => e.powerUp now), loop := PLoop.reset
    cmp := b.cmp.map (fun c => { c with v := 0, armed := false, capture := [0, 0, 0, 0, 0] })
    rej := Vector.replicate 4 { queue := [], rejEnd := none, cmpEnd := none } }

/-! ## Filters (02 R68) -/

/-- The filtered level takes the raw level: it has stayed from its transition for F ticks (02 R68). -/
def PinSt.due (p : PinSt) (f now : Nat) : Bool := p.raw != p.filt && decide (p.since + f + 1 ≤ now)
/-- The filter has taken the raw level. -/
def PinSt.take (p : PinSt) : PinSt := { p with filt := p.raw }
/-- The level the filter gives now. -/
def PinSt.level (p : PinSt) (f now : Nat) : Bool := if p.due f now then p.raw else p.filt
/-- A raw transition: what the filter had already passed is kept, and the new level starts its own count (02 R68). -/
def PinSt.change (p : PinSt) (f now : Nat) (level : Bool) : PinSt :=
  let p := if p.due f now then p.take else p
  if p.raw = level then p else { p with raw := level, since := now }

/-! ## Wires (02 R67) -/

/-- An input. -/
def State.enc (s : State) (i : Nat) : Enc := vget s.motion.enc i Enc.reset
/-- The package with an input changed. -/
def State.updEnc (s : State) (i : Nat) (f : Enc → Enc) : State := s.updMot (fun m => { m with enc := vupd m.enc i Enc.reset f })
/-- A pair's wires read the same level. -/
def Enc.same (e : Enc) (j : Nat) : Bool := vget e.wireP j false == vget e.wireN j false
/-- The receiver follows its wires when they differ and no fault holds it (02 R67). -/
def Enc.follow (e : Enc) (j now : Nat) : Enc :=
  if e.same j || vget e.fault j false then e
  else { e with rx := vupd e.rx j PinSt.reset (fun p => let l := vget e.wireP j false; if p.raw = l then p else { p with raw := l, since := now }) }

/-- A wire of a pair takes a level. What the pair reads is what its wires show at the end of the tick: changes within one
tick count as one (02 R67). -/
def Enc.wire (e : Enc) (j : Nat) (neg level : Bool) (filt now : Nat) : Enc :=
  let e := if j = 2 then { e with rx := vupd e.rx 2 PinSt.reset (fun p => if p.due filt now then p.take else p) } else e
  let old := vget e.wireSave j { tick := none, same := false, since := 0, rx := PinSt.reset }
  let sv : WireSave := if old.tick = some now then old else
    { tick := some now, same := e.same j, since := vget e.wireSince j 0, rx := vget e.rx j PinSt.reset }
  let e := if neg then { e with wireN := vset e.wireN j level } else { e with wireP := vset e.wireP j level }
  let e := { e with
    wireSave := vset e.wireSave j sv, wireSince := vset e.wireSince j (if e.same j = sv.same then sv.since else now)
    rx := vset e.rx j sv.rx }
  e.follow j now

/-- A raw input level changes (02 R68; 02 R93; 14 R470; 17 R528). -/
def State.rawTransition (s : State) (p : Pin) (level : Bool) : State :=
  let now := s.now
  match p with
  | .wire i j neg => s.onBoth (fun s => s.updEnc i.num (fun e => e.wire j.num neg level (s.itemN (Pid.encFilt i.num)) now))
  | .pd n => s.updMot (fun m => { m with pd := vupd m.pd n.val PinSt.reset (fun x => x.change (s.itemN (Pid.pdFilt n.val)) now level) })
  | .carr g k =>
    let old := vget s.motion.carr (3 * g.val + k.val) PinSt.reset
    if old.raw = level then s
    else s.updMot (fun m => { m with
      carr := vset m.carr (3 * g.val + k.val) { old with raw := level, since := now, filt := level }
      carrSince := vset m.carrSince g.val now })
  | .evi t n =>
    let f := vget (s.tile t).evr.filt n.val 0xFA
    s.updMot (fun m => { m with evi := vupd m.evi (4 * t.val + n.val) PinSt.reset (fun x => x.change f now level) })
  | .te n => s.updMot (fun m => { m with te := vupd m.te n.val PinSt.reset (fun x => x.change (s.itemN Pid.dspTeFilt) now level) })

/-! ## The pitch loop (02 R77 to R84) -/

/-- kp of R79 for a bandwidth in Hz. -/
def loopKp (bw : Nat) : Int :=
  roundDiv ((4 * 7071 * 314159265358979323846 * bw * 1024 * 2 ^ 32 : Nat) : Int) ((10 ^ 29 * 20582 : Nat) : Int)
/-- ki of R79 for a bandwidth in Hz. -/
def loopKi (bw : Nat) : Int :=
  roundDiv (((2 * 314159265358979323846 * bw * 10 ^ 4 * 1024) ^ 2 * 2 ^ 48 : Nat) : Int) (((10 ^ 29 * 20582) ^ 2 * 256 : Nat) : Int)

/-- p at a tick, by the state of its update period (02 R78). -/
def PLoop.pAt (l : PLoop) (t : Nat) : Int :=
  if l.tBase ≤ t then (l.p : Int) + l.f * ((t - l.tBase : Nat) : Int)
  else (l.prev.1 : Int) + l.prev.2.1 * ((t : Int) - l.prev.2.2)

/-- The loop tracks: acquisition or lock. -/
def PLoop.tracks (l : PLoop) : Bool := decide (l.mode = .acq ∨ l.mode = .lock)

/-- The absolute port is the position source (02 R76). -/
def State.absSource (s : State) : Bool := decide (s.item Pid.absMode = 2)
/-- Lines per count of the position source, u32.32 (02 R77). -/
def State.motRatio (s : State) : Nat := if s.absSource then s.itemN Pid.absRatio else s.itemN Pid.motRatio
/-- The present count of the position source (02 R77, R87). -/
def State.srcCount (s : State) : Nat := if s.absSource then s.motion.absLast.getD 0 else (s.enc 0).count
/-- The next free line number: one above the last issued, or N0 of a cold start (01 R45). -/
def State.nextLine (s : State) : Nat :=
  if s.motion.lastLine ≠ 0 then s.motion.lastLine + 1
  else match s.flash.preserve with
    | some p => p.line / 2 ^ 24 * 2 ^ 24 + 2 ^ 25
    | none => ((s.link.nodes.filter (fun n => n.lanes ≠ [])).map (fun n => n.hello.lastAcc * 2 ^ 16 + 0xFFFF)).foldl max 0 + 2 ^ 25

/-- The loop starts from the present count and the next free line, in acquisition (02 R77, R83). -/
def State.loopStart (s : State) : State :=
  s.updLoop (fun l => { l with
    mode := .acq, p := s.nextLine * 2 ^ 44, f := 0, tBase := s.now, prev := (s.nextLine * 2 ^ 44, 0, s.now), esum := 0, n := 0,
    c0 := s.srcCount, l0 := s.nextLine, lockRun := 0, unlockRun := 0, fresh := true, wasLock := false, passing := false })

/-- The active role passes to a tile, whose block goes on from its own state; the block that gives it up goes on as the
shadow while its PD_MOTION is on. During a job a block that never loaded a state starts its loop afresh (02 R85, R86; log 121). -/
def State.roleTo (s : State) (a : Nat) : State :=
  let s1 := s.updMot (fun m =>
    { m.load (m.other.getD m.block) with active := a, other := if s.motionOn (1 - a) then some m.block else none, copyAt := s.now })
  if s1.armed && decide (s1.motion.loop.mode = .off) then s1.loopStart else s1

/-- The active role passes to T1, which raises MOTION_SOURCE_T1 (02 R86). -/
def State.roleToT1 (s : State) : State := (s.roleTo 1).raiseN 1 Ev.motionSourceT1 [s.motion.lastLine]

/-- The active role passes to the other block when its holder is not able and the other is (02 R86). -/
def State.motionRole (s : State) : State :=
  let a := s.motion.active
  if !s.motionAble a && s.motionAble (1 - a) then (if a = 0 then s.roleToT1 else s.roleTo 0) else s

/-- A count c of the source, stamped t, adds its error (02 R78). -/
def PLoop.edge (l : PLoop) (ratio c t : Nat) : PLoop :=
  if !l.tracks then l
  else
    let m : Int := (l.l0 : Int) * 2 ^ 44 + s48 c l.c0 * ratio * 2 ^ 12
    let e1 := clampI (m - l.pAt t) (-(2 ^ 44)) (2 ^ 44 - 1)
    let l := if l.still then { l with still := false, mode := .acq, lockRun := 0, unlockRun := 0 } else l
    { l with esum := l.esum + e1, n := l.n + 1 }

/-- A step of the position source: its error, its time, and its direction (02 R71, R78, R84). -/
def State.sourceStep (s : State) (c t : Nat) (back moved : Bool) : State :=
  let s1 := s.updLoop (fun l =>
    let l := if moved then { l with edgeAt := t } else l
    if moved || !l.still then l.edge s.motRatio c t else l)
  if moved && back && !s.motion.loop.reversed then (s1.updLoop (fun l => { l with reversed := true, passing := true })).raiseMot Ev.webReverse [c]
  else if moved && !back then s1.updLoop (fun l => { l with reversed := false })
  else s1

/-- One update of the loop, at the end of its period (02 R78, R79, R83). -/
def PLoop.update (l : PLoop) (bw : Nat) : PLoop :=
  let p1 : Int := l.p + l.f * 256
  let prev := (l.p, l.f, l.tBase)
  if l.tracks && l.n ≠ 0 then
    let bw := if l.mode = .acq then 4 * bw else bw
    let e := l.esum.tdiv l.n
    let p2 := p1 + fdivI (loopKp bw * e) (2 ^ 32)
    let f2 := wrapI 48 (l.f + fdivI (loopKi bw * e) (2 ^ 48))
    { l with
      p := (p2 % 2 ^ 92).toNat, f := f2, tBase := l.tBase + 256, prev := prev, esum := 0, n := 0, bw := bw, lastE := e
      lockRun := if l.mode = .acq ∧ 20 * e.natAbs < 2 ^ 44 then l.lockRun + 1 else 0
      unlockRun := if l.mode = .lock ∧ 4 * e.natAbs > 2 ^ 44 then l.unlockRun + 1 else 0 }
  else { l with p := (p1 % 2 ^ 92).toNat, tBase := l.tBase + 256, prev := prev, esum := 0, n := 0 }

/-- PITCH_LOOP_UPDATE: due 256 ticks after the last (02 R78). -/
def State.loopUpdate (s : State) : State :=
  whenDue (s.motionRuns && decide (s.motion.loop.mode ≠ .off ∧ s.motion.loop.tBase + 256 ≤ s.now)) s
    (s.updLoop (fun l => l.update (s.itemN Pid.motBw)))

/-- PITCH_LOCK: 1,024 small errors in a row; products print again from the next line (02 R83). -/
def State.pitchLock (s : State) : State :=
  let l := s.motion.loop
  whenDue (decide (l.mode = .acq ∧ 1024 ≤ l.lockRun)) s
    ((s.updLoop (fun l => { l with
      mode := .lock, unlockRun := 0
      dark := l.dark.map (fun d => (d.1, some (d.2.getD (s.motion.lastLine + 1)))) })).raiseMot Ev.pitchLock [s.motion.lastLine])

/-- PITCH_UNLOCK: 16 large errors in a row (02 R83). -/
def State.pitchUnlock (s : State) : State :=
  let l := s.motion.loop
  whenDue (decide (l.mode = .lock ∧ 16 ≤ l.unlockRun)) s
    ((s.updLoop (fun l => { l with mode := .acq, lockRun := 0 })).raiseMot Ev.pitchUnlock [s.motion.lastLine])

/-- WEB_STILL: no position edge for MOT_STILL ticks (02 R84). -/
def State.webStill (s : State) : State :=
  let l := s.motion.loop
  whenDue (l.tracks && !l.still && decide (l.edgeAt + s.itemN Pid.motStill < s.now)) s
    ((s.updLoop (fun l => { l with
      p := (l.pAt s.now % 2 ^ 92).toNat, f := 0, still := true, mode := .acq, esum := 0, n := 0, lockRun := 0, unlockRun := 0 })).raiseMot Ev.webStill
      [s.srcCount])

/-- The position source fails: the loop coasts (02 R82). -/
def State.coast (s : State) : State :=
  let l := s.motion.loop
  if l.tracks then
    (s.updLoop (fun l => { l with
      mode := .coast, wasLock := decide (l.mode = .lock), coastLine := s.motion.lastLine, esum := 0, n := 0 })).raiseMot Ev.encCoast [s.motion.lastLine]
  else s

/-- The position source is good again: a coast resumes tracking, a lost loop starts afresh (02 R82, R83). -/
def State.sourceBack (s : State) : State :=
  match s.motion.loop.mode with
  | .coast => s.updLoop (fun l => { l with mode := if l.wasLock then .lock else .acq, edgeAt := s.now, lockRun := 0, unlockRun := 0 })
  | .lost => (s.loopStart).updLoop (fun l => { l with dark := some (s.nextLine, none) })
  | _ => s

/-- ENC_LOST: a coast reached MOT_COAST lines (02 R82, R97). -/
def State.encLost (s : State) : State :=
  whenDue (decide (s.motion.loop.mode = .coast ∧ s.motion.loop.coastLine + s.itemNowN Pid.motCoast ≤ s.motion.lastLine)) s
    (((s.updLoop (fun l => { l with mode := .lost })).raiseMot Ev.encLost [s.motion.lastLine]).stopSource 1).rejectFlight

/-! ## Wire faults (02 R67, R82) -/

/-- ENC_WIRE_FAULT: equal levels for ENC_WIRE_TIME ticks declare the fault, opposite ones clear it (02 R67). -/
def State.wireFault (s : State) (i j : Nat) : State :=
  let e := s.enc i
  let f := vget e.fault j false
  let src := i = 0 ∧ j < 2 ∧ !s.absSource
  if !s.motionRuns || e.same j == f || decide (s.now < vget e.wireSince j 0 + s.itemN (Pid.encWireTime i)) then s
  else
    let e1 := { e with
      fault := vset e.fault j (!f)
      wireSave := vupd e.wireSave j { tick := none, same := false, since := 0, rx := PinSt.reset } (fun w => { w with tick := none }) }
    let s1 := (s.updEnc i (fun _ => if f then e1.follow j s.now else e1)).raiseBlocks Ev.encWireFault [i, j, boolNat (!f)]
    if f then
      (if src ∧ !(vget e1.fault 0 false || vget e1.fault 1 false) then s1.sourceBack else s1)
    else
      let s2 := s1.motFault (2 ^ (4 + 3 * i + j))
      if src then s2.coast else s2

/-! ## The current line (02 R88) -/

/-- The current line at a tick: the highest whose fire timestamp has been reached, L0 - 1 while the loop has issued none
since it started (02 R88). -/
def State.currentAt (s : State) (t : Nat) : Nat :=
  let l := s.motion.loop
  let c := ((s.motion.issued.filter (fun x => decide (x.fire / 256 ≤ t))).map (·.n)).foldl max 0
  if l.mode ≠ .off ∧ c < l.l0 then l.l0 - 1 else c

/-! ## Registration and compare hits (02 R87 to R91) -/

/-- A product is registered on a lane, and the product before it is clipped (04 R136, R160; 05 R192). -/
def State.registerProduct (s : State) (lane first : Nat) : State :=
  let s1 := s.registerOn lane first
  let s2 := s1
  let num := (s2.lane lane).nextNum
  let s3 := if s2.link.role = 1 ∧ num ≠ (s.lane lane).nextNum then
      (s2.link.nodes.filter (fun x => decide (x.hello.kind = 1))).foldl (fun s x => s.sendEventAll x.id 5 s.now 0 (leBytes 1 lane ++ leBytes 4 (num - 1) ++ leBytes 6 first ++ zeros 1)) s2
    else s2
  if 2 ≤ num then s3.clipFields lane (num - 2) else s3

/-- An output pulse of the compare units, merged by OR with what runs (02 R88, R95). -/
def later (a : Option Nat) (t : Nat) : Option Nat := some (max t (a.getD 0))

/-- An unused output. -/
def RejOut.clear : RejOut := { queue := [], rejEnd := none, cmpEnd := none }

/-- The actions of a hit at a tick (02 R88). -/
def State.hitActions (s : State) (u tick : Nat) : State :=
  let a := s.itemN (Pid.cmpAction u)
  let cur := s.currentAt tick
  let s1 := if bit a 0 then s.updMot (fun m => { m with
      rej := vupd m.rej (s.itemN (Pid.cmpOut u)) RejOut.clear (fun o => { o with cmpEnd := later o.cmpEnd (tick + s.itemN (Pid.cmpWidth u)) }) }) else s
  let s2 := if bit a 1 then s1.raiseBlocks Ev.cmpHit [u, tick] else s1
  let s3 := if bit a 2 then s2.sendEventAll (s.itemN (Pid.cmpNode u)) 1 tick 0 (leBytes 1 u ++ leBytes 6 cur) else s2
  let s4 := if bit a 3 then s3.updMot (fun m => { m with
      cmp := vupd m.cmp u { v := 0, armed := false, pend := [], capture := [] } (fun c => { c with capture := (List.range 4).map (fun i => (s.enc i).count) ++ [cur] }) }) else s3
  if bit a 4 && s4.registers cur then s4.registerProduct (s.itemN (Pid.cmpLane u)) (cur + s.itemN (Pid.cmpOffset u)) else s4

/-- A compare unit. -/
def State.cmp (s : State) (u : Nat) : CmpUnit := vget s.motion.cmp u { v := 0, armed := false, pend := [], capture := [] }
/-- The package with a compare unit changed. -/
def State.updCmp (s : State) (u : Nat) (f : CmpUnit → CmpUnit) : State :=
  s.updMot (fun m => { m with cmp := vupd m.cmp u { v := 0, armed := false, pend := [], capture := [] } f })

/-- A unit hits: V advances, or it disarms, and its actions are done (02 R87, R88). -/
def State.hit (s : State) (u tick : Nat) : State :=
  let sp := s.itemN (Pid.cmpSpacing u)
  (s.updCmp u (fun c => if sp = 0 then { c with armed := false } else { c with v := (c.v + sp) % 2 ^ 48 })).hitActions u tick

/-- The hits of a unit from a tick on, one a tick while d stays at or above 0 (02 R87). -/
def State.hits (s : State) (u p : Nat) : Nat → Nat → State
  | 0, _ => s
  | k + 1, tick => if (s.cmp u).armed && decide (0 ≤ s48 p (s.cmp u).v) then State.hits (s.hit u tick) u p k (tick + 1) else s

/-- Every unit on a source sees its present value (02 R87). -/
def State.compareAll (s : State) (src p : Nat) : State :=
  ((List.range 16).filter (fun u => decide (s.itemN (Pid.cmpSrc u) = src))).foldl (fun s u =>
    let d := (s48 p (s.cmp u).v).toNat
    s.hits u p (d / max 1 (s.itemN (Pid.cmpSpacing u)) + 1) s.now) s

/-- The present value of a source (02 R87). -/
def State.srcValue (s : State) (src : Nat) : Nat :=
  if src = 1 then s.srcCount else if src = 5 then s.motion.current else (s.enc (src - 1)).count

/-! ## Encoder edges (02 R69 to R71) -/

/-- The count after a step of the pair that changed, as decoded x4; levels are those after the step (02 R69). -/
def stepUp (aChanged a b dir : Bool) : Bool := (if aChanged then a != b else a == b) != dir

/-- ENC_EDGE: the filtered levels of A and B take their due change; the earlier raw transition first (02 R68 to R71). -/
def State.encEdge (s : State) (i : Nat) : State :=
  let e := s.enc i
  let f := s.itemN (Pid.encFilt i)
  let a := vget e.rx 0 PinSt.reset
  let b := vget e.rx 1 PinSt.reset
  let da := a.due f s.now
  let db := b.due f s.now
  if !s.motionRuns || (!da && !db) then s
  else
    let doA := da && (!db || decide (a.since ≤ b.since))
    let doB := db && (!da || decide (b.since ≤ a.since))
    let a' := if doA then a.take else a
    let b' := if doB then b.take else b
    let t := if doA then a.since else b.since
    let e := { e with rx := vset (vset e.rx 0 a') 1 b' }
    if vget e.fault 0 false || vget e.fault 1 false then s.updEnc i (fun _ => e)
    else if doA && doB then
      (((s.updEnc i (fun _ => { e with stepBad := satInc 16 e.stepBad })).motFault 1).raiseBlocks Ev.encStepBad [i, e.count])
    else
      let up := stepUp doA a'.filt b'.filt (decide (s.item (Pid.encDir i) = 1))
      let c := if up then (e.count + 1) % 2 ^ 48 else (e.count + 2 ^ 48 - 1) % 2 ^ 48
      let s1 := s.updEnc i (fun _ => { e with count := c, rev := !up, edgeAt := t, changeLine := s.motion.lastLine })
      let s2 := if i = 0 then (if s.absSource then s1 else s1.sourceStep c t (!up) true)
        else s1.updMot (fun m => { m with issued := m.issued.map (fun l =>
          if decide (t ≤ l.fire / 256) then { l with counts := l.counts.map (fun cs => cs.set (i - 1) c) } else l) })
      if i = 0 && s.absSource then s2 else s2.compareAll (i + 1) c

/-! ## Index pulses (02 R72, R73) -/

/-- The packets of MOTION.REPHASE whose every input has been re-phased complete with the current line (13 R449 table). -/
def State.rephased (s : State) (seqs : List Nat) : State :=
  seqs.foldl (fun s q =>
    if q = 0 || (List.range 4).any (fun i => (s.enc i).rephase.contains q) then s else s.doneLine q St.ok (s.currentAt s.now)) s

/-- The effect of a forward index on an input (02 R72, R73). -/
def State.indexAt (s : State) (i : Nat) : State :=
  let e := s.enc i
  let cpr := s.itemN (Pid.encCpr i)
  if !e.rephase.isEmpty || e.e.isNone then
    ((s.updEnc i (fun e => { e with e := some e.count, latched := e.count, indexAt := some s.now, rephase := [] })).raiseBlocks Ev.encRephased [i, evInt e.dev]).rephased e.rephase
  else
    let nx := (e.e.getD 0 + cpr) % 2 ^ 48
    let d := s48 e.count nx
    let s1 := s.updEnc i (fun e => { e with e := some nx, latched := e.count, indexAt := some s.now, dev := d })
    if d.natAbs ≤ s.itemN (Pid.encIdxTol i) then s1
    else
      let s2 := (s1.motFault 2).raiseBlocks Ev.encIndexSlip [i, evInt d]
      if i = 3 then s2.updLens (fun l => { l with slip := true }) else s2

/-- ENC_INDEX: the filtered Z level rises while the input runs forward (02 R72, R73). -/
def State.encIndex (s : State) (i : Nat) : State :=
  let e := s.enc i
  let z := vget e.rx 2 PinSt.reset
  if !s.motionRuns || !z.due (s.itemN (Pid.encFilt i)) s.now then s
  else
    let s1 := s.updEnc i (fun e => { e with rx := vset e.rx 2 z.take })
    if !z.raw || e.rev || vget e.fault 2 false then s1
    else if s.item (Pid.encCpr i) = 0 then s1.updEnc i (fun e => { e with latched := e.count, indexAt := some s.now })
    else s1.indexAt i

/-- The count passed the end of the tolerance window of the expected index with no index in it (02 R73). -/
def State.indexMissed (s : State) (i : Nat) : State :=
  let e := s.enc i
  let nx := (e.e.getD 0 + s.itemN (Pid.encCpr i)) % 2 ^ 48
  if !s.motionRuns || e.e.isNone || !e.rephase.isEmpty || vget e.fault 2 false || decide (s.item (Pid.encCpr i) = 0) ||
    decide (s48 e.count nx < s.itemN (Pid.encIdxTol i) + 1) then s
  else
    let s1 := (((s.updEnc i (fun e => { e with e := some nx })).motFault 2).raiseBlocks Ev.encIndexMiss [i, nx])
    if i = 3 then s1.updLens (fun l => { l with slip := true }) else s1

/-- ENC_INDEX_MISS: an index that is due in the same tick has arrived first (01 R58; 02 R73). -/
def State.encIndexMiss (s : State) (i : Nat) : State := (s.encIndex i).indexMissed i

/-! ## The absolute port (02 R74 to R76) -/

/-- ABS_POLL: a frame starts ABS_PERIOD after the last, not within the monoflop wait of an SSI encoder (02 R74). -/
def State.absPoll (s : State) : State :=
  whenDue (s.motionRuns && decide (s.item Pid.absMode ≠ 0 ∧ s.motion.absAt + s.itemN Pid.absPeriod ≤ s.now ∧ s.motion.absHold ≤ s.now)) s
    (s.updMot (fun m => { m with absAt := s.now, absWait := true }))

/-- The binary value of a Gray code of n bits. -/
def grayDecode (n v : Nat) : Nat := (List.range n).foldl (fun x i => x ^^^ (v >>> (i + 1))) v

/-- The remainder of n bits, most significant first, by x^6 + x + 1 (02 R74). -/
def crc6 (bs : List Bool) : Nat :=
  bs.foldl (fun c b => let top := bit c 5 != b; let c := c * 2 % 64; if top then c ^^^ 3 else c) 0

/-- The bits of a value, most significant first. -/
def msbBits (n v : Nat) : List Bool := (List.range n).map (fun i => bit v (n - 1 - i))

/-- A faulted frame: it is discarded, and the third in a row in SOURCE mode is a fault of the source (02 R75, R76). -/
def State.absFault (s : State) (cause : Nat) : State :=
  let s1 := ((s.updMot (fun m => { m with absWait := false, absBad := m.absBad + 1 })).motFault 8).raiseMot Ev.absFault [cause]
  if s.absSource && decide (s.motion.absBad + 1 = 3) then s1.coast else s1

/-- A position of the absolute port less the loop's, in .44 lines (02 R76). -/
def State.absOver (s : State) (pos : Nat) : Int := (pos * s.itemN Pid.absRatio * 2 ^ 12 : Nat) - s.motion.loop.pAt s.motion.absAt

/-- The deviation of the scaled position from the loop's, against the offset of the job; .44 lines. Where JOB.ARM found no
position of the port, the first frame after it gives the offset (02 R76, log 24). -/
def State.absCheck (s : State) (pos : Nat) : State :=
  match s.motion.absOff with
  | none => s.updMot (fun m => { m with absOff := some (s.absOver pos) })
  | some o =>
    let d := s.absOver pos - o
    if d.natAbs > s.itemN Pid.absTol * 2 ^ 28 then s.raiseMot Ev.absDeviate [evInt (fdivI d (2 ^ 28))] else s

/-- An accepted frame, used by ABS_MODE; the first of a job in SOURCE mode gives C0 (02 R76, R77; log 24). -/
def State.absAccept (s : State) (pos : Nat) : State :=
  let old := s.motion.absLast
  let bad := s.motion.absBad
  let s1 := s.updMot (fun m => { m with absLast := some pos, absBad := 0, absWait := false })
  if s.absSource then
    let s2 := (if 3 ≤ bad then s1.sourceBack else s1).updLoop (fun l => if old.isNone then { l with c0 := pos } else l)
    let d := s48 pos (old.getD pos)
    let s3 := (s2.updMot (fun m => { m with absRev := if d = 0 then m.absRev else decide (d < 0) })).sourceStep pos s.motion.absAt (decide (d < 0)) (decide (d ≠ 0))
    if d = 0 then s3 else s3.compareAll 1 pos
  else if s.motion.loop.mode = .off then s1
  else s1.absCheck pos

/-- ABS_FRAME_RECEIVED: the checks of R75, then R76; err and warn are the bits as received, active low. Gray code and the
monoflop wait are SSI's (02 R74). The causes 1 CRC, 2 error bit, 3 start bit and 4 SSI jump, and the position as ABS_WARN's
data, are the model's (log 120). -/
def State.absFrame (s : State) (raw : Nat) (err warn : Bool) (crc : Nat) : State :=
  let n := s.itemN Pid.absBits
  let v := raw % 2 ^ n
  if !s.motion.absWait then s
  else if s.item Pid.absProto = 1 then
    if crc ≠ 63 - crc6 (msbBits n v ++ [err, warn]) then s.absFault 1
    else if !err then s.absFault 2
    else (if warn then s else s.raiseMot Ev.absWarn [v]).absAccept v
  else
    let pos := if s.item Pid.absGray = 1 then grayDecode n v else v
    let s := s.updMot (fun m => { m with absHold := s.now + 250 * s.itemN Pid.absTimeout })
    let jump := match s.motion.absLast with
      | some l => decide ((sext n (pos + 2 ^ n - l % 2 ^ n)).natAbs > 2 ^ (n - 2))
      | none => false
    if jump then s.absFault 4 else s.absAccept pos

/-- ABS_TIMEOUT: no BiSS-C start bit within ABS_TIMEOUT (02 R75). -/
def State.absTimeout (s : State) : State :=
  whenDue (s.motion.absWait && decide (s.item Pid.absProto = 1) && decide (s.motion.absAt + 250 * s.itemN Pid.absTimeout < s.now)) s (s.absFault 3)

/-! ## Issuing a line (02 R80, R82, R83; 01 R25) -/

/-- The line to be issued next. -/
def State.issueNext (s : State) : Nat := if s.motion.loop.fresh then s.motion.loop.l0 else s.motion.lastLine + 1

/-- The predicted fire timestamp of a line, 1/256 tick (02 R80). -/
def State.predict (s : State) (n : Nat) : Int :=
  let l := s.motion.loop
  (s.now : Int) * 256 + fdivI (((n : Int) * 2 ^ 44 - l.pAt s.now) * 256) l.f

/-- After a reversal the loop position has passed beyond the highest line issued (02 R71). -/
def State.passed (s : State) : Bool :=
  !s.motion.loop.passing || decide ((s.motion.lastLine : Int) * 2 ^ 44 < s.motion.loop.pAt s.now)

/-- Line issue is due: an able active block, a loop that runs forward beyond the lines issued, and a fire timestamp less than
MOT_ISSUE_AHEAD away; a slave package issues none of its own (02 R71, R80, R82, R84; 10 R341). -/
def State.issueDue (s : State) : Bool :=
  let l := s.motion.loop
  decide (s.link.role = 1) && s.motionAble s.motion.active && decide (l.mode ≠ .off ∧ l.mode ≠ .lost ∧ 0 < l.f) && !l.reversed && s.passed &&
    decide (s.predict s.issueNext < ((s.now + s.itemN Pid.motIssueAhead : Nat) : Int) * 256)

/-- The domains that a job needs on a tile of a used span (01 R48). -/
def State.jobDomains (s : State) (t : Nat) : Nat :=
  let used := decide (s.spanWidth (t / 2) ≠ 0)
  let light := s.lightUsed
  let lanes := s.usedBars.flatMap (fun b => [s.itemN (Pid.barLane b), s.itemN (Pid.barAlt b)])
  let need := fun (d : Nat) =>
    if d = 0 then true
    else if d = 5 then used && light
    else if d = 12 then used && lanes.any (fun l => decide (4 ≤ l ∧ l < 8))
    else if d = 13 then used && (s.reachInUse t 8 || s.reachInUse t 9)
    else if d = 14 then used && decide (t < 2)
    else used && [1, 4, 6, 7, 8, 10, 11].contains d
  maskOf 15 need

/-- JOB_OVERRATE, once per excursion, by the JOB_RATE_MAX of the job to which the line belongs (01 R25; 04 R160). -/
def State.overrate (s : State) (n : Nat) : State :=
  let r := s.motion.loop.f * 250_000_000
  let m : Int := PMap.item (s.lineItems n) Pid.jobRateMax * 2 ^ 44
  if 100 * r > 101 * m then
    (if s.job.overrate then s
      else ({ s with job := { s.job with overrate := true } }).raiseMot Ev.jobOverrate [n, (fdivI r (2 ^ 44)).toNat])
  else if r ≤ m then { s with job := { s.job with overrate := false } } else s

/-- The fire timestamp that T1's shadow gives a line, by its own loop and the TIME of its tile; none while its loop does not
run forward (02 R80, R85). -/
def State.shadowFire (s : State) (n : Nat) : Option Int :=
  match s.motion.other with
  | some b =>
    if s.motion.active = 0 ∧ b.loop.mode ≠ .off ∧ b.loop.mode ≠ .lost ∧ 0 < b.loop.f then
      some (max (((s.updMot (fun m => m.load b)).predict n) + 256 * ((s.tileN 1).skew - (s.tileN 0).skew)) (s.motion.lastFire + 1))
    else none
  | none => none

/-- The shadow's own fire timestamp differs by more than a tick (02 R85). -/
def State.motionCompare (s : State) (n fire : Nat) (own : Option Int) : State :=
  match own with
  | some x =>
    if decide (256 < (x - fire).natAbs) then
      (s.updMot (fun m => { m with mismatch := satInc 32 m.mismatch })).raiseN 1 Ev.motionMismatch [n]
    else s
  | none => s

/-- The active role returns to T0 at the issue of the line that its commit names (02 R86). -/
def State.roleReturn (s : State) (n : Nat) : State :=
  if s.motion.active = 1 && s.motionAble 0 && s.job.commits.any (fun c => c.change == Change.role && c.committed && c.line == n) then
    (s.updMot (fun m => m.copied s.now)).roleTo 0
  else s

/-- What is rejected at the issue of line n: products on a coasted line, on a line outside lock, or on a line with a
blanked channel (02 R82, R83, R94). -/
def State.issueReject (s : State) (n : Nat) (locked : Bool) : State :=
  if !locked || decide ((s.printAt n).blankCh &&& s.activeCh ≠ 0) then s.rejectIf (fun p => s.covers p n) else s

/-- The lens models of a line in a slave package: those of the position it was sent (10 R341). -/
def State.lensGiven (s : State) (n : Nat) : List LensModel × State :=
  let c := s.lensCfg n
  if !c.set then ([], s)
  else ((List.range s.nTwins).map (fun k => s.motion.lens.model c s.free ((s.spanStart k : Int) - 64)), s.nextFree)

/-- The position of a line to every slave package, from the press master (10 R341). -/
def State.sendPosition (s : State) (n fire : Nat) : State :=
  if s.link.role ≠ 1 then s
  else
    let l := s.motion.lens
    let rate := (fdivI (s.motion.loop.f * 250_000_000) (2 ^ 44)).toNat
    (s.link.nodes.filter (fun x => decide (x.hello.kind = 1))).foldl (fun s x =>
      s.sendEventAll x.id 4 (fire / 256) (fire % 256) (leBytes 6 n ++ stampBytes fire ++ leBytes 4 rate
        ++ leBytes 8 (wrapS 64 l.aL) ++ leBytes 8 (wrapS 64 l.aR) ++ leBytes 8 (wrapS 64 l.r) ++ leBytes 4 l.q ++ zeros 1)) s

/-- A line goes out with its final timestamp, lens models, overspeed states and CMAX (02 R80, 11 R360). -/
def State.issueCore (s : State) (n fire : Nat) : State :=
  let l := s.motion.loop
  let own := s.shadowFire n
  let s1 := (((s.reprepare n).disarmSettle).roleReturn n).updMot (fun m => { m with lastLine := n })
  let s2 := (s1.overrate n).overIssue n
  let (ms, s3) := if s.link.role = 1 then s2.lensIssue n else s2.lensGiven n
  let li : IssuedLine :=
    { n := n, fire := fire, prevFire := if l.fresh then none else some s.motion.lastFire, models := ms, overs := s3.motion.overs,
      cmax := s3.cmaxFor n, tick := s.now, coast := decide (l.mode = .coast), locked := decide (l.mode = .lock),
      lensOk := (s3.lensCfg n).set && s3.motion.lens.prints (s3.lensCfg n).hold n, counts := none }
  let s4 := (s3.updMot (fun m => { m with lastFire := fire, issued := (li :: m.issued).take 65536 })).onBoth (fun s =>
    s.updLoop (fun l => { l with fresh := false, passing := false }))
  let s5 := ((s4.issueReject n (decide (l.mode = .lock))).lensReject n).anchorsAt n ms
  (((((((s5.changeReached n (fun s t => (s.asOf n).jobDomains t)).measureIssue n fire).sendPosition n fire).motionCompare n fire own).settleBoundary).pruneProducts).pruneLive)

/-- The fire timestamp of the next line: the predicted one, above that of the line before (02 R80). -/
def State.issueFire (s : State) : Nat :=
  let pr := (s.predict s.issueNext).toNat
  if pr ≤ s.motion.lastFire then s.motion.lastFire + 1 else pr

/-! ## Fire timestamps, pulses (02 R87, R95) -/

/-- The next line whose fire timestamp has been reached. -/
def State.reachedLine (s : State) : Option IssuedLine :=
  (s.motion.issued.filter (fun l => decide (s.motion.current < l.n ∧ l.fire / 256 ≤ s.now))).foldl (fun m l =>
    match m with
    | none => some l
    | some x => if l.n < x.n then some l else some x) none

/-- Reject pulses of a line start and leave their queue (02 R95). -/
def State.startPulses (s : State) (n : Nat) : State :=
  (List.range 4).foldl (fun s o =>
    let q := (vget s.motion.rej o RejOut.clear).queue
    if q.any (fun e => e.1 == n) then
      s.updMot (fun m => { m with rej := vupd m.rej o RejOut.clear (fun x =>
        { x with queue := x.queue.filter (fun e => e.1 != n), rejEnd := later x.rejEnd (s.now + s.itemN (Pid.rejWidth o)) }) })
    else s) s

/-- FIRE_TIMESTAMP_REACHED: the current line advances (02 R87, R88, R95; 06 R211). -/
def State.fireReached (s : State) : State :=
  match s.reachedLine with
  | none => s
  | some l =>
    let cs := [1, 2, 3].map (fun i => (s.enc i).count)
    let s1 := s.updMot (fun m => { m with current := l.n, issued := mapIf m.issued (fun x => x.n == l.n) (fun x => { x with counts := some cs }) })
    (s1.startPulses l.n).compareAll 5 l.n

/-- OUTPUT_PULSE_END: a pulse whose width has passed ends (02 R95). -/
def State.pulseEnd (s : State) (o : Nat) : State :=
  let cut := fun (e : Option Nat) => e.filter (fun t => decide (s.now < t))
  s.updMot (fun m => { m with rej := vupd m.rej o RejOut.clear (fun x => { x with rejEnd := cut x.rejEnd, cmpEnd := cut x.cmpEnd }) })

/-- The level of an output as the package drives it (02 R66, R95; 20 R612). -/
def State.outLevel (s : State) (o : Nat) : Bool :=
  match s.extest with
  | some pins => bit pins o
  | none =>
    let x := vget s.motion.rej o RejOut.clear
    s.motionOn s.motion.active && (x.rejEnd.isSome || x.cmpEnd.isSome)
/-- LINE_STOP_REQ as the package drives it (02 R66, R97). -/
def State.stopLevel (s : State) : Bool :=
  match s.extest with
  | some pins => bit pins 4
  | none => s.motionOn s.motion.active && s.motion.stop

/-! ## The other tile's block (02 R85, R86) -/

/-- MOTION_STATE_COPY_RECEIVE: T1's shadow loads the state copied from T0 (02 R85). -/
def State.motionCopy (s : State) : State :=
  whenDue (decide (s.motion.active = 0) && s.motionAble 0 && s.motionOn 1 && vget s.linkUp 0 true) s (s.updMot (fun m => m.copied s.now))

/-- MOTION_SOURCE_T1: T0 withdrew while T1 prints, T0's block is not able, or no copy came for 1,024 ticks, a copy of the last
tick counting as come (01 R58; 02 R86). -/
def State.motionT1 (s : State) : State :=
  let silent := decide (s.motion.copyAt + 1024 < s.now)
  let left := decide ((s.tileN 0).twin = .withdrawn ∨ (s.tileN 0).twin = .off) && (s.tileN 1).printing
  whenDue (decide (s.motion.active = 0) && s.motionAble 1 && (left || !s.motionAble 0 || silent)) s s.roleToT1

/-- T0 has rejoined: its block loads T1's state, and the lead returns the active role to it at an effect line; at once while no
job is armed (02 R86; 01 R617). -/
def State.roleBack (s : State) : State :=
  if s.motion.active = 1 && s.motionAble 0 then
    let s1 := s.updMot (fun m => m.copied s.now)
    if s1.armed then s1.changeOwn .role else s1.roleTo 0
  else s

/-- PD_MOTION of a tile comes up: its block starts anew, as the active one where the other tile's block does not run (02 R69,
R72, R86). While a job is armed, a block that comes up alone starts its loop afresh (log 121). -/
def State.motionUp (s : State) (t : Nat) : State :=
  if 1 < t then s
  else if t = s.motion.active then
    let s1 := s.updMot (fun m => m.load (m.block.powerUp s.now))
    (if s1.armed then s1.loopStart else s1).motionRole
  else (s.updMot (fun m => { m with other := some (m.block.powerUp s.now), copyAt := s.now })).motionRole

/-- PD_MOTION of a tile is off: its block is gone (00 R11; 01 R46). -/
def State.motionDown (s : State) (t : Nat) : State :=
  if t < 2 ∧ t ≠ s.motion.active then s.updMot (fun m => { m with other := none }) else s

/-! ## Compare settings (02 R89) -/

/-- The items of a compare unit set at an effect tick. -/
def cmpItems (u : Nat) (p : Packet) : PMap :=
  [(Pid.cmpSrc u, ((p.f 2 6 4 : Nat) : Int)), (Pid.cmpValue u, (p.dw 3 + 2 ^ 32 * p.f 4 15 0 : Nat)), (Pid.cmpSpacing u, (p.dw 5 : Nat)),
   (Pid.cmpAction u, (p.f 2 12 8 : Nat)), (Pid.cmpWidth u, (p.dw 6 : Nat)), (Pid.cmpOut u, (p.f 2 17 16 : Nat)),
   (Pid.cmpNode u, (p.f 7 13 0 : Nat)), (Pid.cmpLane u, (p.f 2 23 20 : Nat)), (Pid.cmpOffset u, (p.dw 8 : Nat))]

/-- Settings of a unit accepted for an effect tick 2,048 ticks on; the packet completes with the tick (02 R89). -/
def State.cmpAccept (s : State) (u : Nat) (es : PMap) (seq : Nat) : State :=
  let t := s.now + 2048
  (s.onBoth (fun s => s.updCmp u (fun c => { c with pend := c.pend ++ [(t, es, seq)] }))).complete seq St.ok (t % 2 ^ 32) (t / 2 ^ 32 % 2 ^ 31)

/-- One setting is applied: the unit arms, then skipped or late hits are handled (02 R87, R89). -/
def State.cmpApplyNow (s : State) (u tick : Nat) (es : PMap) : State :=
  let s1 := es.foldl (fun s e => s.putItem e.1 e.2) s
  let src := s1.itemN (Pid.cmpSrc u)
  let s2 := s1.updCmp u (fun c => { c with
    v := match es.lookup (Pid.cmpValue u) with
      | some v => (v % 2 ^ 48).toNat
      | none => c.v
    armed := match es.lookup (Pid.cmpSrc u), es.lookup (Pid.cmpValue u) with
      | some k, _ => decide (k ≠ 0)
      | none, some _ => true
      | none, none => c.armed })
  let d := s48 (s2.srcValue src) (s2.cmp u).v
  let sp := s2.itemN (Pid.cmpSpacing u)
  if !(s2.cmp u).armed || decide (src = 0 ∨ d < 0) then s2
  else if sp ≠ 0 then
    let k := d.toNat / sp + 1
    (s2.updCmp u (fun c => { c with v := (c.v + k * sp) % 2 ^ 48 })).raiseBlocks Ev.compareSkip [u, k]
  else (s2.raiseBlocks Ev.compareLate [u, tick + 1]).hit u (tick + 1)

/-- COMPARE_APPLY: the first setting of a unit whose effect tick has come (02 R89). -/
def State.compareApply (s : State) (u : Nat) : State :=
  match (s.cmp u).pend with
  | (t, es, _) :: r => whenDue (decide (t ≤ s.now)) s ((s.updCmp u (fun c => { c with pend := r })).cmpApplyNow u t es)
  | [] => s

/-! ## Product detect (02 R90) -/

/-- PD_EDGE: a filtered level change; an active edge registers a product (02 R90). -/
def State.pdEdge (s : State) (i : Nat) : State :=
  let x := vget s.motion.pd i PinSt.reset
  if !s.motionRuns || !x.due (s.itemN (Pid.pdFilt i)) s.now then s
  else
    let s1 := s.updMot (fun m => { m with pd := vset m.pd i x.take })
    let lane := s.itemN (Pid.pdLane i)
    let line := s.currentAt x.since
    let active := x.raw != decide (s.item (Pid.pdEdge i) = 1)
    if !active || decide (lane = 255) || !s.registers line then s1
    else
      let repeated := match vget s.motion.pdLast i none with
        | some l => decide (l ≤ line ∧ line < l + s.itemN (Pid.pdMin i))
        | none => false
      if repeated then s1.raiseMot Ev.pdRepeat [i, line]
      else (s1.updMot (fun m => { m with pdLast := vset m.pdLast i (some line) })).registerProduct lane (line + s.itemN (Pid.pdOffset i))

/-! ## Carriages (02 R93, R94) -/

/-- The raw code of a group: PRINT, CLEAR, CAP in bits 2 to 0. -/
def State.carrRaw (s : State) (g : Nat) : Nat := maskOf 3 (fun k => (vget s.motion.carr (3 * g + k) PinSt.reset).raw)
/-- Channels that a carriage group keeps from print. -/
def State.carrAway (s : State) : Nat :=
  (List.range 3).foldl (fun m g => if vget s.motion.carrCode g 0 = 4 then m else m ||| s.itemN (Pid.carrChannels g)) 0

/-- A group leaves print during a job: its channels blank from the next line boundary, also beyond a resume already committed;
a resume of them that still waits for its product is given up (02 R94). -/
def State.carrLeave (s : State) (g code : Nat) : State :=
  let m := s.itemN (Pid.carrChannels g)
  if !s.armed then s
  else
    let keep := fun (b : Change × Nat) => match b.1 with
      | .carr k false => if k &&& (0xFFF - m) = 0 then none else some (Change.carr (k &&& (0xFFF - m)) false, b.2)
      | _ => some b
    let s0 : State := { s with job := { s.job with boundary := s.job.boundary.filterMap keep } }
    let resumes := fun (c : Commit) => match c.change with
      | .carr k false => decide (k &&& m ≠ 0)
      | _ => false
    let again := (s0.job.commits.filter (fun c => resumes c && decide (s.motion.lastLine < c.line))).map (·.line)
    let s1 := if m = 0 then s0 else s0.changeOwn (.carr m true)
    (again.foldl (fun s e => s.prepare (.carr m true) e 0) s1).raiseMot Ev.carriageMoved [g, code]

/-- CARRIAGE_CODE_CHANGE: a code stable for CARR_FILT ticks takes its new value. Channels that no other group away lists resume
with its return (02 R93, R94). -/
def State.carrChange (s : State) (g : Nat) : State :=
  let old := vget s.motion.carrCode g 0
  let code := s.carrRaw g
  if !s.motionRuns || code = old || decide (s.now < vget s.motion.carrSince g 0 + s.itemN (Pid.carrFilt g) + 1) then s
  else
    let s1 := s.updMot (fun m => { m with carrCode := vset m.carrCode g code })
    let bad := (bitsOf 3 code).length ≥ 2
    let s2 := if bad then (s1.motFault 4).raiseBlocks Ev.carriageCodeBad [g, code] else s1
    let back := s.itemN (Pid.carrChannels g) &&& (0xFFF - s2.carrAway)
    if old = 4 then s2.carrLeave g code
    else if code = 4 ∧ s.armed ∧ back ≠ 0 then s2.changeBoundary 0 (.carr back false)
    else s2

/-! ## What JOB.ARM checks and starts (02 R77, R92, R94, R95, R98) -/

/-- Row 3 of JOB.ARM but for the scan-out lead times: 0 or the status (13 R440). R92's distance is tested of inputs with a lane
and of armed units that start products, R95's of outputs' lanes in use (log 122). -/
def State.armMotion (s : State) : Nat :=
  let lead := s.itemN Pid.leadDist + 64
  let pd := (List.range 8).any (fun i => decide (s.itemN (Pid.pdLane i) ≠ 255 ∧ s.itemN (Pid.pdOffset i) < lead))
  let cmp := (List.range 16).any (fun u => bit (s.itemN (Pid.cmpAction u)) 4 && decide (s.itemN (Pid.cmpSrc u) ≠ 0 ∧ s.itemN (Pid.cmpOffset u) < lead))
  let rej := (List.range 4).any (fun n => (bitsOf 16 (s.itemN (Pid.rejLanes n))).any (fun j =>
    decide (s.laneW j ≠ 0 ∧ s.itemN (Pid.rejDist n) < ((bitsOf 12 s.activeCh).map s.barOff).foldl max 0 + s.itemN (Pid.laneLen j) + 256)))
  if pd || cmp || rej || decide (s.motRatio = 0) then St.motionArg else St.ok

/-- The motion block at JOB.ARM: the loop starts, the record of issued lines is new, rows are NORMAL, the offset of CHECK is
captured where the port holds a position of its last two periods, and channels of a carriage that is away are blanked (02 R76,
R77, R94; 07 R251; log 24). -/
def State.motionArm (s : State) : State :=
  let still := decide (s.motion.loop.edgeAt = 0 ∨ s.motion.loop.edgeAt + s.itemN Pid.motStill ≤ s.now)
  let held := decide (s.item Pid.absMode ≠ 0 ∧ s.now < s.motion.absAt + 2 * s.itemN Pid.absPeriod)
  let s1 := s.updMot (fun m => { m with
    issued := [], current := s.nextLine - 1, overs := [], absOff := none, absLast := if held then m.absLast else none
    pdLast := Vector.replicate 8 none })
  let s2 := s1.onBoth (fun s => s.loopStart.updLoop (fun l => { l with still := still, dark := none }))
  let s3 := s2.updMot (fun m => { m with absOff := if s.item Pid.absMode = 1 then m.absLast.map s2.absOver else none })
  let fault := if s.absSource then decide (3 ≤ s.motion.absBad) else vget (s.enc 0).fault 0 false || vget (s.enc 0).fault 1 false
  let s4 := if fault then s3.onBoth State.coast else s3
  let s5 : State := { s4 with job := { s4.job with base := { s4.job.base with blankCh := s4.carrAway } } }
  (List.range 3).foldl (fun s g =>
    if vget s.motion.carrCode g 0 ≠ 4 ∧ s.itemN (Pid.carrChannels g) ≠ 0 then s.raiseMot Ev.carriageMoved [g, vget s.motion.carrCode g 0] else s) s5

/-- A product prints on a line: not in the dark stretch after ENC_LOST (02 R83). -/
def State.loopPrints (s : State) (p : Product) (n : Nat) : Bool :=
  match s.motion.loop.dark with
  | none => true
  | some (d, resume) => decide (n < d) || (resume.map (fun r => decide (r ≤ p.first))).getD false

/-! ## The MOTION group (13 R449) -/

/-- MOTION.REPHASE: the named inputs re-phase at their next forward index (02 R72). -/
def opMotionRephase : OpDef :=
  { code := 0x0901, cls := clsSO, named := [0xF], prot := noProt, access := noAccess,
    check := fun s p =>
      (if p.f 2 3 0 = 0 ∨ (bitsOf 4 (p.f 2 3 0)).any (fun i => decide (s.item (Pid.encCpr i) = 0)) then St.motionArg else St.ok, 0, 0),
    read := noRead, waits := noWaits, bind := noBind,
    act := fun s p _ => (s.onBoth (fun s => (bitsOf 4 (p.f 2 3 0)).foldl (fun s i => s.updEnc i (fun e => { e with rephase := e.rephase ++ [p.seq] })) s)).park p.seq .work }

/-- MOTION.COMPARE: a unit is set and armed at an effect tick (02 R89). -/
def opMotionCompare : OpDef :=
  { code := 0x0902, cls := clsSO, named := [0x00F3_1F7F, 0xFFFF_FFFF, 0xFFFF, 0xFFFF_FFFF, 0xFFFF_FFFF, 0x3FFF, 0xFFFF_FFFF], prot := noProt,
    access := noAccess, check := fun _ p => (if rangesOk (cmpItems (p.f 2 3 0) p) then St.ok else St.motionArg, 0, 0),
    read := noRead, waits := noWaits, bind := noBind, act := fun s p _ => s.cmpAccept (p.f 2 3 0) (cmpItems (p.f 2 3 0) p) p.seq }

/-- A mode's number. -/
def LoopMode.num : LoopMode → Nat
  | .off => 0
  | .acq => 1
  | .lock => 2
  | .coast => 3
  | .lost => 4

/-- What MOTION.STATUS reports: the loop, the inputs, the outputs and the compare units with their capture sets. -/
def State.motionQuantities (s : State) : List (List Int) :=
  let l := s.motion.loop
  [[qn l.mode.num, qb l.still, qn l.p, l.f, l.lastE, qn s.motion.lastLine, qn (s.currentAt s.now), qn s.motion.active, qb s.motion.stop,
    qn s.motion.mismatch]] ++
  (List.range 4).map (fun i => let e := s.enc i; [qn e.count, qn e.stepBad, qb e.rev, qn (e.e.getD 0), qn e.latched, e.dev]) ++
  [[qn (s.motion.absLast.getD 0), qn s.motion.absBad]] ++
  (List.range 3).map (fun g => [qn (vget s.motion.carrCode g 0)]) ++
  (List.range 4).map (fun o => [qn (vget s.motion.rej o RejOut.clear).queue.length, qb (s.outLevel o)]) ++
  (List.range 16).map (fun u => [qn (s.cmp u).v, qb (s.cmp u).armed] ++ (s.cmp u).capture.map qn)

/-- MOTION.STATUS. -/
def opMotionStatus : OpDef :=
  { code := 0x0903, cls := clsAll, named := rptNamed 0, prot := noProt, access := noAccess, check := noCheck, read := noRead,
    waits := noWaits, bind := noBind, act := fun s p _ => s.reportQ p s.motionQuantities }

/-- An enabled stop source persists (02 R97). -/
def State.stopPersists (s : State) : Bool :=
  let m := s.itemN Pid.motStopSrc
  (bit m 0 && s.rows.any (fun x => decide (NMap.get 0 s.motion.overs (4 * x.1 + x.2) = 2))) ||
    (bit m 1 && decide (s.motion.loop.mode = .lost)) ||
    (bit m 2 && (List.range 4).any (fun o => decide (256 ≤ (vget s.motion.rej o RejOut.clear).queue.length)))

/-- MOTION.STOPREQ: the output is latched, or released when no enabled source persists (02 R97, 13 R449). -/
def opMotionStopreq : OpDef :=
  { code := 0x0904, cls := clsSO, named := [3], prot := noProt, access := noAccess,
    check := fun _ p => (if p.f 2 1 0 = 1 ∨ p.f 2 1 0 = 2 then St.ok else St.motionArg, 0, 0), read := noRead, waits := noWaits,
    bind := noBind,
    act := fun s p _ =>
      if p.f 2 1 0 = 1 then (s.stopSource 4).done p.seq St.ok
      else if s.stopPersists then s.done p.seq St.stopHeld
      else (s.updMot (fun m => { m with stop := false })).done p.seq St.ok }

/-! ## Meanings -/

/-- R72: MOTION.REPHASE. -/
def execMotionRephase (p : Packet) (s : State) : Out := .next (opMotionRephase.dispatch s p)
/-- R89: MOTION.COMPARE. -/
def execMotionCompare (p : Packet) (s : State) : Out := .next (opMotionCompare.dispatch s p)
/-- R436: MOTION.STATUS. -/
def execMotionStatus (p : Packet) (s : State) : Out := .next (opMotionStatus.dispatch s p)
/-- R97: MOTION.STOPREQ. -/
def execMotionStopreq (p : Packet) (s : State) : Out := .next (opMotionStopreq.dispatch s p)
/-- R69: a filtered quadrature step. -/
def execEncEdge (i : Quad) (s : State) : Out := .next (s.onBoth (fun s => s.encEdge i.num))
/-- R67: a wire fault is declared or clears. -/
def execEncWireFault (i : Quad) (j : Pair) (s : State) : Out := .next (s.onBoth (fun s => s.wireFault i.num j.num))
/-- R73: a forward index pulse. -/
def execEncIndex (i : Quad) (s : State) : Out := .next (s.onBoth (fun s => s.encIndex i.num))
/-- R73: an expected index is missed. -/
def execEncIndexMiss (i : Quad) (s : State) : Out := .next (s.onBoth (fun s => s.encIndexMiss i.num))
/-- R74: a frame of the absolute encoder is clocked. -/
def execAbsPoll (s : State) : Out := .next s.absPoll
/-- R76: an absolute frame is checked and used. -/
def execAbsFrameReceived (raw : Nat) (err warn : Bool) (crc : Nat) (s : State) : Out := .next (s.onBoth (fun s => s.absFrame raw err warn crc))
/-- R75: a missing start bit discards the frame. -/
def execAbsTimeout (s : State) : Out := .next (s.onBoth (fun s => s.absTimeout))
/-- R78: the pitch loop updates. -/
def execPitchLoopUpdate (s : State) : Out := .next (s.onBoth (fun s => s.loopUpdate))
/-- R83: the loop enters lock. -/
def execPitchLock (s : State) : Out := .next (s.onBoth (fun s => s.pitchLock))
/-- R83: the loop leaves lock. -/
def execPitchUnlock (s : State) : Out := .next (s.onBoth (fun s => s.pitchUnlock))
/-- R84: the web is still. -/
def execWebStill (s : State) : Out := .next (s.onBoth (fun s => s.webStill))
/-- R82: a coast reaches MOT_COAST lines. -/
def execEncLost (s : State) : Out := .next (s.onBoth (fun s => s.encLost))
/-- R85: T1's shadow loads the copied state. -/
def execMotionStateCopyReceive (s : State) : Out := .next s.motionCopy
/-- R86: the active role moves to T1. -/
def execMotionSourceT1 (s : State) : Out := .next s.motionT1
/-- R87: a fire timestamp is reached. -/
def execFireTimestampReached (s : State) : Out := .next (s.onBoth (fun s => s.fireReached))
/-- R95: the width timer of a pulse expires. -/
def execOutputPulseEnd (o : Fin 4) (s : State) : Out := .next (s.onBoth (fun s => s.pulseEnd o.val))
/-- R89: a compare setting is applied at its effect tick. -/
def execCompareApply (u : Fin 16) (s : State) : Out := .next (s.onBoth (fun s => s.compareApply u.val))
/-- R90: a filtered product-detect edge. -/
def execPdEdge (i : Fin 8) (s : State) : Out := .next (s.pdEdge i.val)
/-- R93: a stable carriage code takes its new value. -/
def execCarriageCodeChange (g : Fin 3) (s : State) : Out := .next (s.carrChange g.val)

end Sys2Proof.Machine
end

