-- ==== Sys2Proof/Machine/Evr.lean ====
section
/-! DEFINITION. The event router: priorities and bands, selection, targets, commit and delivery, event inputs, software
sources, retention (14 R457 to R474). -/

namespace Sys2Proof.Machine

/-! ## Tiles' routers -/

/-- The package with the router of tile n changed. -/
def State.updEvr (s : State) (t : Nat) (f : Evr → Evr) : State := s.updTileN t (fun x => { x with evr := f x.evr })
/-- A source of a tile. -/
def State.src (s : State) (t src : Nat) : EvrSrc := vget (s.tileN t).evr.srcs src EvrSrc.reset
/-- The package with a source changed. -/
def State.updSrc (s : State) (t src : Nat) (f : EvrSrc → EvrSrc) : State :=
  s.updEvr t (fun e => { e with srcs := vupd e.srcs src EvrSrc.reset f })
/-- A source number that has a name (14 R458). -/
def srcUsed (n : Nat) : Bool :=
  decide (n < 14) || inIval n 16 50 || inIval n 56 61 || inIval n 64 70 || inIval n 72 84 || inIval n 88 98
    || inIval n 100 107 || inIval n 108 111 || inIval n 112 119 || inIval n 120 131 || inIval n 136 141
    || inIval n 144 152 || inIval n 160 168 || inIval n 176 192

/-! ## Priorities (14 R462) -/

/-- The band of a priority under a band map (14 R462). -/
def band (map : Vector Nat 8) (p : Nat) : Nat :=
  ((List.range p).filter (fun i => bit (vget map ((i + 1) / 32) 0) ((i + 1) % 32))).length

/-- A candidate for delivery: tile, source and priority. -/
structure Offer where
  tile : Nat
  src : Nat
  pri : Nat
  deriving DecidableEq, Repr

/-- The order of selection: higher band, higher priority, lower source, lower tile (14 R463). -/
def Offer.before (map : Vector Nat 8) (a b : Offer) : Bool :=
  let x := band map a.pri
  let y := band map b.pri
  decide (x > y ∨ (x = y ∧ (a.pri > b.pri ∨ (a.pri = b.pri ∧ (a.src < b.src ∨ (a.src = b.src ∧ a.tile < b.tile))))))

/-- Insertion in the order of selection. -/
def Offer.insert (map : Vector Nat 8) (x : Offer) : List Offer → List Offer
  | [] => [x]
  | y :: r => if x.before map y then x :: y :: r else y :: Offer.insert map x r

/-- Candidates in the order of selection. -/
def offerOrder (map : Vector Nat 8) (l : List Offer) : List Offer := l.foldl (fun acc x => Offer.insert map x acc) []

/-- A source is a candidate: EN, PEND and not ACTIVE (14 R463). -/
def EvrSrc.ready (x : EvrSrc) : Bool := x.en && x.pend && !x.active

/-- The candidates of a tile of one kind. -/
def State.candidates (s : State) (t : Nat) (cores : Bool) : List Offer :=
  ((List.range 192).filter (fun n => (s.src t n).ready && (s.src t n).kind == cores)).map (fun n =>
    { tile := t, src := n, pri := (s.src t n).pri })

/-! ## Targets (14 R464, R465, R468) -/

/-- A target as arbitration sees it: number, EN, SLEEP, CPRI, room in its take queue. -/
structure Target where
  num : Nat
  en : Bool
  sleep : Bool
  cpri : Nat
  room : Bool
  deriving DecidableEq, Repr

/-- Host target h, or control core n − 32 of a tile; cores have no EN bit. -/
def State.target (s : State) (t n : Nat) : Target :=
  if n < 32 then
    let x := vget s.evh.targets n { en := false, sleep := false, vecn := 0, vec := 0, cpri := 0, queue := [] }
    { num := n, en := x.en, sleep := x.sleep, cpri := x.cpri, room := decide (x.queue.length < 16) }
  else
    let x := vget (s.tileN t).evr.cores (n - 32) { cpri := 0, sleep := false, queue := [] }
    { num := n, en := (s.tileN t).on 1, sleep := x.sleep, cpri := x.cpri, room := decide (x.queue.length < 16) }

/-- A target of the source's set is eligible (14 R464). -/
def Target.eligible (x : Target) (map : Vector Nat 8) (pri : Nat) : Bool :=
  x.en && x.room && ((decide (x.cpri = 0 ∧ 1 ≤ pri)) || decide (band map x.cpri < band map pri))

/-- The targets of a source's set. -/
def State.targetSet (s : State) (o : Offer) : List Target :=
  let x := s.src o.tile o.src
  if x.kind then (bitsOf 4 x.cores).map (fun c => s.target o.tile (32 + c)) else (bitsOf 32 x.hosts).map (fun h => s.target o.tile h)

/-- Ties go to the first tied target after the last one chosen, wrapping (14 R465). -/
def afterLast (last n : Nat) (l : List Nat) : Option Nat :=
  match l.find? (fun x => decide (last < x)) with
  | some x => some x
  | none => if n = 0 then none else l.head?

/-- The target a source is delivered to, if any, with the last target chosen before (14 R465, R468). -/
def State.chooseTarget (s : State) (map : Vector Nat 8) (last : Nat) (o : Offer) : Option Nat :=
  let el := (s.targetSet o).filter (fun x => x.eligible map o.pri)
  let awake := el.filter (fun x => !x.sleep)
  if !awake.isEmpty then
    let low := (awake.map (·.cpri)).foldl min 256
    afterLast last 1 ((awake.filter (fun x => x.cpri == low)).map (·.num))
  else if el.isEmpty then none
  else
    let w := (s.src o.tile o.src).wake
    if 35 < w then none
    else
      let x := s.target o.tile w
      if x.en && x.room then some w else none

/-- The commit of a delivery: the take queue, PEND, ACTIVE, CPRI, and the message of a host target (14 R466). -/
def State.deliver (s : State) (map : Vector Nat 8) (o : Offer) (n : Nat) : State :=
  let e : TakeEntry := { tile := o.tile, pri := o.pri, src := o.src }
  let s1 := s.updSrc o.tile o.src (fun x => { x with pend := false, active := true })
  if n < 32 then
    let x := vget s.evh.targets n { en := false, sleep := false, vecn := 0, vec := 0, cpri := 0, queue := [] }
    let s2 : State := { s1 with evh := { s1.evh with
      targets := vset s1.evh.targets n { x with queue := x.queue ++ [e], cpri := max x.cpri o.pri } } }
    s2.vecDue ((x.vec + min (band map o.pri) (2 ^ x.vecn - 1)) % 2048) none
  else
    s1.updEvr o.tile (fun v => { v with
      cores := vupd v.cores (n - 32) { cpri := 0, sleep := false, queue := [] } (fun c => { c with queue := c.queue ++ [e], cpri := max c.cpri o.pri }) })

/-- The first candidate that finds a target, with those passed over before it. -/
def State.firstDeliverable (s : State) (map : Vector Nat 8) (last : Nat) : List Offer → List Offer × Option (Offer × Nat)
  | [] => ([], none)
  | o :: r =>
    match s.chooseTarget map last o with
    | some n => ([], some (o, n))
    | none => let x := s.firstDeliverable map last r; (o :: x.1, x.2)

/-- The band map of the lead (14 R462). -/
def State.leadMap (s : State) : Vector Nat 8 := (s.tile s.leadTile).evr.prigroup

/-- EVR_COMMIT of a tile's router: its core-bound sources (14 R463 to R466). -/
def State.commitCore (s : State) (t : Nat) : State :=
  let e := (s.tileN t).evr
  if !(s.tileN t).on 1 || !e.en then s
  else
    let cs := offerOrder e.prigroup ((s.candidates t true).filter (fun o => !(e.passed.contains o.src)))
    let f := s.firstDeliverable e.prigroup (32 + e.rr) cs
    let s1 := s.updEvr t (fun v => { v with passed := v.passed ++ f.1.map (·.src) })
    match f.2 with
    | some (o, n) => (s1.deliver e.prigroup o n).updEvr t (fun v => if 32 ≤ n then { v with rr := n - 32 } else v)
    | none => s1

/-- EVR_OFFER_RECEIVE: the tile's selected host-bound source reaches the lead's host stage (14 R463). -/
def State.offerReceive (s : State) (t : Nat) : State :=
  let e := (s.tileN t).evr
  if !(s.tileN t).on 1 || !e.en then s
  else
    let cs := (s.candidates t false).filter (fun o => !(s.evh.offers.contains (t, o.src)) && !(s.evh.passed.contains (t, o.src)))
    match (offerOrder e.prigroup cs).head? with
    | some o => { s with evh := { s.evh with offers := s.evh.offers ++ [(t, o.src)] } }
    | none => s

/-- EVR_COMMIT of the host stage: the offers of every tile under the lead's map (14 R463 to R466). -/
def State.commitHost (s : State) : State :=
  let map := s.leadMap
  if !(s.tile s.leadTile).on 1 || decide (s.lead.cold = 1) then s
  else
    let live := s.evh.offers.filter (fun o => (s.src o.1 o.2).ready && !(s.src o.1 o.2).kind && (s.tileN o.1).evr.en)
    let cs := offerOrder map (live.map (fun o => { tile := o.1, src := o.2, pri := (s.src o.1 o.2).pri }))
    let f := s.firstDeliverable map s.evh.rr cs
    let overs := f.1.map (fun o => (o.tile, o.src))
    let s1 : State := { s with evh := { s.evh with offers := live.filter (fun o => !overs.contains o), passed := s.evh.passed ++ overs } }
    match f.2 with
    | some (o, n) =>
      let s2 := s1.deliver map o n
      { s2 with evh := { s2.evh with offers := s2.evh.offers.filter (· != (o.tile, o.src)), rr := if n < 32 then n else s2.evh.rr } }
    | none => s1

/-- EVR_COMMIT of a tile's router, or of the host stage. -/
def State.evrCommit (s : State) (stage : Option Tile) : State :=
  match stage with
  | some t => s.commitCore t.val
  | none => s.commitHost

/-- EVR_RECONSIDER: sources passed over are tried again (14 R469). -/
def State.evrReconsider (s : State) (stage : Option Tile) : State :=
  match stage with
  | some t => s.updEvr t.val (fun e => { e with passed := [] })
  | none => { s with evh := { s.evh with passed := [], offers := s.evh.offers ++ s.evh.passed.filter (fun o => !s.evh.offers.contains o) } }

/-! ## Take and DONE (14 R467, R473, R474) -/

/-- The value a TAKE register reads for a queue's oldest entry. -/
def takeValue (q : List TakeEntry) : Nat :=
  match q with
  | [] => 0x8000_0000
  | e :: _ => 2 ^ 24 * e.tile + 2 ^ 8 * e.pri + e.src

/-- The package with the value a register read returned. -/
def State.returns (s : State) (v : Nat) : State := { s with busRead := BitVec.ofNat 32 v }

/-- A host target at its reset value. -/
def HostTgt.clear : HostTgt := { en := false, sleep := false, vecn := 0, vec := 0, cpri := 0, queue := [] }
/-- Host target h. -/
def State.hostTarget (s : State) (h : Nat) : HostTgt := vget s.evh.targets h HostTgt.clear
/-- The package with a host target changed. -/
def State.updHost (s : State) (h : Nat) (f : HostTgt → HostTgt) : State :=
  { s with evh := { s.evh with targets := vupd s.evh.targets h HostTgt.clear f } }
/-- The package with a core target of a tile changed. -/
def State.updCore (s : State) (t c : Nat) (f : CoreTgt → CoreTgt) : State :=
  s.updEvr t (fun v => { v with cores := vupd v.cores c { cpri := 0, sleep := false, queue := [] } f })

/-- The other tile of twin 0 is the standby lead (01 R27). -/
def State.standby (s : State) : Nat := 1 - s.lead.tile

/-- EVR_HT_TAKE_READ: on the lead a read pops the oldest entry; the standby lead reads the mirror, other tiles 0 (14 R467,
R473). -/
def State.htTake (s : State) (t h : Nat) : State :=
  let q := (s.hostTarget h).queue
  if !(s.tileN t).on 1 then s.returns 0xFFFF_FFFF
  else if t = s.lead.tile then (s.updHost h (fun x => { x with queue := x.queue.drop 1 })).returns (takeValue q)
  else if t = s.standby then s.returns (takeValue q)
  else s.returns 0

/-- A DONE write for a source: ACTIVE clears, or BADDONE counts (14 R467). -/
def State.doneSrc (s : State) (at_ t src : Nat) (cpri : State → State) : State :=
  if t < s.nTiles && decide (src < 192) && (s.src t src).active then cpri (s.updSrc t src (fun x => { x with active := false }))
  else s.updEvr at_ (fun e => { e with baddone := satInc 16 e.baddone })

/-- EVR_HT_DONE_WRITE, live on the lead (14 R467, R473). -/
def State.htDone (s : State) (t h : Nat) (v : Nat) : State :=
  if !(s.tileN t).on 1 || decide (t ≠ s.lead.tile) then s
  else s.doneSrc t (bits v 10 8) (bits v 7 0) (fun s => if bit v 16 then s.updHost h (fun x => { x with cpri := bits v 31 24 }) else s)

/-- EVR_CORE_TAKE_READ by the core itself (14 R467, R474). -/
def State.coreTake (s : State) (t c : Nat) : State :=
  if !(s.tileN t).on 1 then s
  else
    let q := (vget (s.tileN t).evr.cores c { cpri := 0, sleep := false, queue := [] }).queue
    (s.updCore t c (fun x => { x with queue := x.queue.drop 1 })).returns (takeValue q)

/-- EVR_CORE_DONE_WRITE; the tile field is ignored (14 R467, R474). -/
def State.coreDone (s : State) (t c : Nat) (v : Nat) : State :=
  if !(s.tileN t).on 1 then s
  else s.doneSrc t t (bits v 7 0) (fun s => if bit v 16 then s.updCore t c (fun x => { x with cpri := bits v 31 24 }) else s)

/-- EVR_SRC_PEND_CLEAR (14 R474). -/
def State.pendClear (s : State) (t src : Nat) : State :=
  let s1 := (s.updSrc t src (fun x => { x with pend := false })).updEvr t (fun e => { e with passed := e.passed.filter (· != src) })
  whenDue ((s.tileN t).on 1) s { s1 with evh := { s1.evh with passed := s1.evh.passed.filter (· != (t, src)) } }
/-- EVR_SRC_CLRCNT (14 R474). -/
def State.clrCount (s : State) (t src : Nat) : State :=
  whenDue ((s.tileN t).on 1) s (s.updSrc t src (fun x => { x with count := 0 }))

/-! ## Occurrences from inputs and software (14 R459, R460, R470, R471) -/

/-- EVENT_OCCURRENCE: an unused source never asserts (14 R459, R460). -/
def State.occurrence (s : State) (t : Tile) (src : Nat) (data : List Nat) : State := whenDue (srcUsed src) s (s.raise t src data)

/-- EVR_SWSET_WRITE: a software source for each bit set (14 R471). -/
def State.swset (s : State) (t : Tile) (v : Nat) : State :=
  if !(s.tile t).on 1 then s else (bitsOf 4 v).foldl (fun s i => s.raise t (4 + i) []) s

/-- EVI_EDGE: a filtered edge, or a high level (14 R470). -/
def State.eviEdge (s : State) (t : Tile) (i : Nat) : State :=
  let e := (s.tile t).evr
  let k := 4 * t.val + i
  let x := vget s.motion.evi k PinSt.reset
  let due := x.due (vget e.filt i 0) s.now
  let x1 := if due then x.take else x
  let s1 := s.updMot (fun m => { m with evi := vset m.evi k x1 })
  let mode := vget e.edge i 0
  let src := s.src t.val i
  if mode = 3 then
    if x1.filt && !src.pend && !src.active then s1.raise t i [] else s1
  else if due && (decide (mode = 2) || (decide (mode = 0) && x1.filt) || (decide (mode = 1) && !x1.filt)) then s1.raiseAt t i x.since []
  else s1

/-! ## Retention (14 R472) -/

/-- The router's fields and queues are saved as PD_CTL is switched off; the log lies in PD_CTL and is not (14 R461, R472). -/
def Evr.retain (e : Evr) : Evr := { e with retained := true, log := [] }

/-- A router with the configuration of another: every RW and RWL field, none of its occurrences or queues (19 R580). -/
def Evr.configure (e p : Evr) : Evr :=
  { e with
    en := p.en, edge := p.edge, filt := p.filt, prigroup := p.prigroup
    cores := Vector.ofFn (fun i => { p.cores.get i with queue := (e.cores.get i).queue })
    srcs := Vector.ofFn (fun i =>
      let x := e.srcs.get i
      { p.srcs.get i with count := x.count, active := x.active, pend := x.pend }) }

/-- PD_CTL is ready: the state is restored, the shadow merges into PEND with one record per source (14 R472). -/
def State.evrRestore (s : State) (t : Nat) : State :=
  s.updEvr t (fun e =>
    if !e.retained then { e with shadow := [] }
    else
      let e1 := e.shadow.foldl (fun e x =>
        let r : LogRec := { time := x.first, line := s.motion.lastLine, src := x.src, tile := t, data := x.data }
        { e.addLog r with
          srcs := vupd e.srcs x.src EvrSrc.reset (fun y => { y with pend := y.pend || !y.active })
          loglost := satAdd 32 e.loglost x.more }) e
      { e1 with retained := false, shadow := [], restored := true })

/-! ## Meanings -/

/-- R460: EVENT_OCCURRENCE. -/
def execEventOccurrence (t : Tile) (src : Nat) (data : List Nat) (s : State) : Out := onTile t s (s.occurrence t src data)
/-- R466: EVR_COMMIT. -/
def execEvrCommit (stage : Option Tile) (s : State) : Out := onTile (stage.getD 0) s (s.evrCommit stage)
/-- R463: EVR_OFFER_RECEIVE. -/
def execEvrOfferReceive (t : Tile) (s : State) : Out := onTile t s (s.offerReceive t.val)
/-- R469: EVR_RECONSIDER. -/
def execEvrReconsider (stage : Option Tile) (s : State) : Out := onTile (stage.getD 0) s (s.evrReconsider stage)
/-- R470: EVI_EDGE. -/
def execEviEdge (t : Tile) (i : Fin 4) (s : State) : Out := onTile t s (s.eviEdge t i.val)
/-- R471: EVR_SWSET_WRITE. -/
def execEvrSwsetWrite (t : Tile) (v : U32) (s : State) : Out := onTile t s (s.swset t v.toNat)
/-- R467: EVR_HT_TAKE_READ. -/
def execEvrHtTakeRead (t : Tile) (h : Fin 32) (s : State) : Out := onTile t s (s.htTake t.val h.val)
/-- R467: EVR_HT_DONE_WRITE. -/
def execEvrHtDoneWrite (t : Tile) (h : Fin 32) (v : U32) (s : State) : Out := onTile t s (s.htDone t.val h.val v.toNat)
/-- R474: EVR_CORE_TAKE_READ. -/
def execEvrCoreTakeRead (t : Tile) (c : Fin 4) (s : State) : Out := onTile t s (s.coreTake t.val c.val)
/-- R467: EVR_CORE_DONE_WRITE. -/
def execEvrCoreDoneWrite (t : Tile) (c : Fin 4) (v : U32) (s : State) : Out := onTile t s (s.coreDone t.val c.val v.toNat)
/-- R474: EVR_SRC_PEND_CLEAR. -/
def execEvrSrcPendClear (t : Tile) (src : Fin 192) (s : State) : Out := onTile t s (s.pendClear t.val src.val)
/-- R474: EVR_SRC_CLRCNT. -/
def execEvrSrcClrcnt (t : Tile) (src : Fin 192) (s : State) : Out := onTile t s (s.clrCount t.val src.val)

end Sys2Proof.Machine
end

