-- ==== Sys2Proof/Machine/Panel.lean ====
section
/-! DEFINITION. The DisplayPort ports (chapter 17): frames and the proof flip, pacing, mode changes, link training
and link loss, and the conversion of a panel subpixel. The pixels, the proof flip's command and underruns stand in Pixel.lean, the DISP group in
Disp.lean. -/

namespace Sys2Proof.Machine

/-! ## The timing block (17 R518 to R520) -/

/-- Payload of a link rate in bit/s: UHBR10, UHBR13.5, UHBR20, HBR3 (17 R518). -/
def dispPayload (rate : Nat) : Nat := [38_790_000_000, 52_360_000_000, 77_580_000_000, 25_920_000_000].getD rate 0

/-- The timing of a block of 32 bytes with the rate and the pacing of its command (17 R519). -/
def timingOf (b : List Byte) (rate pacing : Nat) : Timing :=
  { bpc := fld b 3 1, hactive := fld b 4 2, hfp := fld b 6 2, hsync := fld b 8 2, hbp := fld b 10 2, vactive := fld b 12 2,
    vfp := fld b 14 2, vsync := fld b 16 2, vbp := fld b 18 2, pclk := fld b 20 4, flags := fld b 24 1, vtotalMax := fld b 26 2,
    bg := fld b 28 4, rate := rate, pacing := pacing }

/-- The tags and reserved bits of a timing block hold (17 R519). -/
def timingTags (b : List Byte) : Bool :=
  decide (fld b 0 2 = 0x4454 ∧ fld b 2 1 = 1 ∧ fld b 24 1 < 4 ∧ fld b 25 1 = 0 ∧ fld b 28 4 < 2 ^ 30)

/-- Every field of a timing is in its range (17 R519). -/
def Timing.inRange (m : Timing) : Bool :=
  decide ((m.bpc = 8 ∨ m.bpc = 10) ∧ 640 ≤ m.hactive ∧ m.hactive ≤ 7680 ∧ m.hactive % 8 = 0 ∧ 480 ≤ m.vactive ∧ m.vactive ≤ 4320)
    && [m.hfp, m.hsync, m.hbp].all (fun v => decide (8 ≤ v ∧ v ≤ 1024)) && [m.vfp, m.vsync, m.vbp].all (fun v => decide (1 ≤ v ∧ v ≤ 255))
    && decide (25_000 ≤ m.pclk ∧ m.pclk ≤ 2_400_000 ∧ m.vtotal ≤ m.vtotalMax ∧ m.vtotalMax ≤ 8191)

/-- The sink of a port supports Adaptive-Sync: its DPCD says so, which nothing in the package's state shows (17 R518; log 47). -/
def DspPort.adaptive (d : DspPort) (p : Nat) : Bool := Config.adaptiveSync p d.sink

/-- A timing that R520 accepts for the sinks given; the refresh clause is the formula as written (log 48). -/
def Timing.accepted (m : Timing) (adaptive : Bool) : Bool :=
  m.inRange && decide (m.pclk * 1000 * 3 * m.bpc ≤ dispPayload m.rate) && decide (m.htotal * m.vtotal * 60 * 100 ≤ m.pclk * 1000 * 101)
    && (decide (m.vtotalMax = m.vtotal) || adaptive) && !(decide (m.pacing = 0) && decide (m.vtotalMax = m.vtotal))

/-! ## What a subpixel sends (17 R522, R523, R525, R532) -/

/-- The built-in conversion: M then C, as the block lists them (17 R523). -/
def convBuiltin : List Nat :=
  (List.range 36).map (fun i => if i % 12 = i / 12 || i % 12 = 3 then 4095 else 0)
    ++ (List.range 771).map (fun i => 1023 - 1023 * (i % 257) / 256)

/-- M and C of a conversion block, if its tags and ranges hold (17 R523). -/
def convOf (b : List Byte) : Option (List Nat) :=
  let vs := (List.range 36).map (fun i => fld b (16 + 2 * i) 2) ++ (List.range 771).map (fun i => fld b (88 + 2 * i) 2)
  if fld b 0 2 = 0x4343 ∧ fld b 2 1 = 1 ∧ ((b.drop 3).take 13).all (· == 0) ∧ (vs.take 36).all (fun v => decide (v ≤ 4095))
      ∧ (vs.drop 36).all (fun v => decide (v ≤ 1023)) then some vs else none

/-- The 10-bit code of subpixel k from the composites of the twelve channels (17 R522). -/
def dspCode (conv : List Nat) (d : Nat → Nat) (k : Nat) : Nat :=
  let tab := if conv.isEmpty then convBuiltin else conv
  let acc := (List.range 12).foldl (fun a c => a + tab.getD (12 * k + c) 0 * d c) 128
  let dens := min 4095 (acc / 256)
  let c := fun (i : Nat) => tab.getD (36 + 257 * k + i) 0
  (c (dens / 16) * (16 - dens % 16) + c (dens / 16 + 1) * (dens % 16) + 8) / 16

/-- The code as it is sent with a number of bits per component (17 R522). -/
def sendCode (bpc out : Nat) : Nat := if bpc = 8 then out / 4 else out

/-- The 10-bit code of a surface sample (17 R525). -/
def rasterCode (v : Nat) : Nat := v * 4 + v / 64

/-- Component k of the background colour (17 R519). -/
def bgCode (bg k : Nat) : Nat := bits bg (29 - 10 * k) (20 - 10 * k)

/-- What fills the rest of a line that underran: the background, or on the GA-408 the last pixel sent (17 R532). -/
def fillCode (part : Part) (bg last k : Nat) : Nat := if part = .ga408 then last else bgCode bg k

/-! ## Ports -/

/-- A port. -/
def State.dport (s : State) (p : Nat) : DspPort := vget s.dsp p DspPort.reset
/-- The package with a port changed. -/
def State.updDport (s : State) (p : Nat) (f : DspPort → DspPort) : State :=
  { s with dsp := vupd s.dsp p DspPort.reset f }
/-- A port sends frames: running, or black in a mode change. -/
def DspPort.sends (d : DspPort) : Bool := decide (d.st = 3 ∨ d.st = 4)
/-- The port's block is powered (01 R46). -/
def State.dispPd (s : State) (p : Nat) : Bool := (s.tileN p).on 9

/-- Flips that every running port has latched complete with the master port's first frame that shows them (17 R527). -/
def State.flipSettle (s : State) : State :=
  let running := maskOf 2 (fun p => (s.dport p).sends)
  let done := s.dispFlip.filter (fun f => decide (f.seq ≠ 0 ∧ f.left &&& running = 0))
  let s1 := done.foldl (fun s f => s.complete f.seq St.ok f.frame 0) s
  let rest := mapIf s1.dispFlip (fun f => decide (f.left &&& running = 0)) (fun f => { f with seq := 0 })
  { s1 with dispFlip := rest.filter (fun f => decide (f.left ≠ 0)) }

/-- A port has finished its part of DISP.MODE: done, or failed (17 R533, R534). -/
def State.modePort (s : State) (p : Nat) (failed : Bool) : State :=
  match s.dispMode with
  | none => s
  | some m =>
    if !bit m.left p then s
    else
      let m1 : DispMode :=
        { m with left := clearMask m.left p, failed := if failed then m.failed ||| 2 ^ p else m.failed,
                 frame := if p = s.lead.tile && !failed then (s.dport p).frame else m.frame }
      if m1.left ≠ 0 then { s with dispMode := some m1 }
      else
        let s1 := { s with dispMode := none, dispLast := if m1.failed = 0 then some m1.timing else s.dispLast }
        if m1.failed = 0 then s1.complete m.seq St.ok m1.frame 0 else s1.complete m.seq St.dispTrain m1.frame m1.failed
where
  /-- A mask without a bit. -/
  clearMask (m p : Nat) : Nat := if bit m p then m - 2 ^ p else m

/-- A port begins main-link training for a timing (17 R533 to R535). -/
def DspPort.train (d : DspPort) (m : Timing) : DspPort :=
  { d with st := 2, trains := satInc 16 d.trains, lanes := 0, timing := some m, rate := m.rate, pacing := m.pacing, panic := false }

/-- A port begins training for the mode in force, or stays idle where none was set (17 R535). -/
def State.trainMode (s : State) (p : Nat) : State :=
  match s.dispLast with
  | some m => s.updDport p (fun d => d.train m)
  | none => s.updDport p (fun d => { d with st := 1 })

/-- A port starts under DISP.POWER: it trains where its HPD is high (17 R535). -/
def State.portStart (s : State) (p : Nat) : State :=
  if (s.dport p).st ≠ 0 then s
  else
    let s1 := s.updDport p (fun d => { d with st := 1 })
    if (s1.dport p).hpd then s1.trainMode p else s1

/-- A port stops: its part of a mode change and its flips end with it (17 R535, R536; log 49). -/
def State.portStop (s : State) (p : Nat) : State :=
  let s1 := { s with dsp := vupd s.dsp p DspPort.reset (fun d => { DspPort.reset with hpd := d.hpd, sink := d.sink }) }
  (s1.modePort p true).flipSettle

/-- A timing begins in vertical blanking, so that its first frame is whole (17 R533). -/
def DspPort.begin (d : DspPort) (m : Timing) (now : Nat) : DspPort :=
  { d with timing := some m, rate := m.rate, pacing := m.pacing, lanes := 4, frameAt := now, lineBase := m.vactive, phase := 0,
           te := none, teSkip := 0, teLost := false, underSeen := none, matched := true }

/-! ## The proof flip (17 R521, R523, R524, R527) -/

/-- The spans that a DSP_SRC value names all exist (17 R524). -/
def State.srcOk (s : State) (v : Nat) : Bool := (List.range 4).all (fun l => decide (bits v (2 * l + 1) (2 * l) < s.nTwins))

/-- The conversion a DSP_CONV value selects on a tile, if its block is good (17 R523). -/
def State.convAt (s : State) (t a : Nat) : Option (List Nat) :=
  if a = 0 then some []
  else if a % 64 ≠ 0 || !s.inJob a 1630 || (s.tileN t).uncorr a 1630 then none
  else convOf (Mem.read (s.tileN t).mem a 1630)

/-- The most recently armed product of a lane (17 R521). -/
def State.sampled (s : State) (j : Nat) : Option Product := (s.job.products.filter (fun p => p.lane == j && p.armed)).getLast?

/-- Its lane and number. -/
def State.sampleOf (s : State) (j : Nat) : Option (Nat × Nat) := (s.sampled j).map (fun p => (p.lane, p.num))

/-- What a port latches at its proof flip (17 R527): a refused DSP_CONV or DSP_SRC leaves the value in force. -/
def State.latchView (s : State) (p : Nat) : ProofView :=
  let d := s.dport p
  let base := s.job.base.items
  let old := d.shown
  let conv : Option (List Nat) := s.convAt p (PMap.item base Pid.dspConv).toNat
  let items := if conv.isSome then base else PMap.put base Pid.dspConv (PMap.item old.items Pid.dspConv)
  let items := if s.srcOk (PMap.item base Pid.dspSrc).toNat then items else PMap.put items Pid.dspSrc (PMap.item old.items Pid.dspSrc)
  let flip := (s.dispFlip.filter (fun f => bit f.left p)).getLast?
  { source := (flip.map (·.source)).getD old.source, surface := (flip.map (·.surface)).getD old.surface,
    sample := s.sampleOf (PMap.item items Pid.pnlLane).toNat,
    prod := s.sampled (PMap.item items Pid.pnlLane).toNat, items := items, vtab := s.stores.vtab, conv := conv.getD old.conv }

/-- A refused conversion or source is reported once per value (17 R523, R524, R537). -/
def State.flipEvents (s : State) (p : Nat) : State :=
  let d := s.dport p
  let base := s.job.base.items
  let fresh := fun (pid : Nat) => PMap.item d.seen pid != PMap.item base pid
  let s1 := if fresh Pid.dspConv && (s.convAt p (PMap.item base Pid.dspConv).toNat).isNone then
    s.raiseN p Ev.dspModeChanged [0xFFFF_FFFF, Config.dspCause 0] else s
  if fresh Pid.dspSrc && !s.srcOk (PMap.item base Pid.dspSrc).toNat then
    s1.raiseN p Ev.dspModeChanged [0xFFFF_FFFF, Config.dspCause 1] else s1

/-- The latch of a proof flip, and the flips that complete with it (17 R527). -/
def State.latch (s : State) (p : Nat) : State :=
  let v := s.latchView p
  let s1 := s.flipEvents p
  let keep := (s.dport p).shown == v
  let s2 := s1.updDport p (fun d => { d with shown := v, seen := s.job.base.items, staging := if keep then d.staging else [] })
  let s3 := { s2 with dispFlip := mapIf s2.dispFlip (fun f => bit f.left p) (fun f =>
    { f with left := f.left - 2 ^ p, frame := if p = s.lead.tile || f.frame = 0 then ((s.dport p).frame + 1) % 2 ^ 32 else f.frame }) }
  s3.flipSettle

/-! ## Frames (17 R526, R528 to R530, R533) -/

/-- Lines of the frame in progress where no TE edge ends it: extended while the rate is halved (17 R530). -/
def DspPort.frameLines (d : DspPort) (m : Timing) : Nat := if d.halved then min (2 * m.vtotal) m.vtotalMax else m.vtotal

/-- The line at which the next frame may start, if something releases it (17 R528, R530): under TE pacing the later of the
nominal end of blanking and DSP_TE_DELAY lines after the edge's line. -/
def DspPort.release (d : DspPort) (m : Timing) : Option Nat :=
  if m.pacing = 1 || d.teLost then some (d.frameLines m)
  else
    match d.te with
    | some (_, l) => some (max m.vtotal (l + (PMap.item d.shown.items Pid.dspTeDelay).toNat))
    | none => if d.teSkip = 1 then some m.vtotalMax else none

/-- Line 0 of a frame (17 R526): the items of the frame and the halving come into force. -/
def State.startFrame (s : State) (p : Nat) : State :=
  let s1 := s.updDport p (fun d =>
    { d with
      frame := (d.frame + 1) % 2 ^ 32, frameAt := s.now, lineBase := 0, phase := 0, te := none, underSeen := none, matched := false,
      halved := bit (s.tileN p).thm.shed 0, frameSet := (s.itemN Pid.dspTeEdge, s.itemN Pid.dspLineMatch), panic := false })
  s1.updMemc (tileIx p) (fun m => m.setPanic s.now 2 false)

/-- The frame in progress has ended and another may start. -/
def DspPort.between (d : DspPort) : Bool :=
  d.sends && d.phase == 2 && (match d.change with | some (_, st) => st != 5 | none => true)

/-- DSP_FRAME_START (17 R526, R528). -/
def State.frameStart (s : State) (p : Nat) : State :=
  let d := s.dport p
  match d.timing with
  | none => s
  | some m =>
    match d.release m with
    | some l => whenDue (d.between && decide (l ≤ d.lineAt s.now)) s (s.startFrame p)
    | none => s

/-- DSP_TE_LOST: blanking reached VTOTAL_MAX lines with no edge (17 R528). -/
def State.teLost (s : State) (p : Nat) : State :=
  let d := s.dport p
  match d.timing with
  | none => s
  | some m =>
    whenDue (d.between && (d.release m).isNone && decide (m.vtotalMax ≤ d.lineAt s.now)) s
      (let s1 := (s.startFrame p).updDport p (fun d => { d with teLost := true })
       s1.raiseN p Ev.dspTeLost [p, (s1.dport p).frame])

/-- DSP_LINE_MATCH (17 R529). -/
def State.lineMatch (s : State) (p : Nat) : State :=
  let d := s.dport p
  whenDue (d.sends && !d.matched && decide (d.frameSet.2 ≤ d.lineAt s.now)) s
    ((s.updDport p (fun d => { d with matched := true })).raiseN p Ev.dspLineMatch [p, d.frame])

/-- The display is off once no port sends a frame any more: the domains go and DISP.POWER completes (17 R535). -/
def State.dispOffDue (s : State) : Bool := s.dispOff.isSome && !(s.dsp.toList.any DspPort.sends)

/-- What the end of a frame does to a mode change or a stop (17 R533, R535). -/
def State.frameEnded (s : State) (p : Nat) : State :=
  let d := s.dport p
  if s.dispOff.isSome then s.portStop p
  else
    match d.change with
    | some (m, 1) => s.updDport p (fun d => { d with st := 3, change := some (m, 2) })
    | some (m, 2) => s.updDport p (fun d => { d with change := some (m, 3) })
    | some (m, 3) =>
      if m.rate = d.rate then s.updDport p (fun d => { d.begin m s.now with change := some (m, 5) })
      else s.updDport p (fun d => { d with st := 2, trains := satInc 16 d.trains, lanes := 0, change := some (m, 4) })
    | _ => s

/-- DSP_FRAME_DONE: the end of line VTOTAL - 1 (17 R529). The first blanking of a new timing ends no frame. -/
def State.frameDone (s : State) (p : Nat) : State :=
  let d := s.dport p
  match d.timing with
  | none => s
  | some m =>
    whenDue (d.sends && d.phase == 1 && decide (m.vtotal ≤ d.lineAt s.now) && (match d.change with | some (_, st) => st != 5 | none => true)) s
      (let s1 := s.updDport p (fun d => { d with phase := 2 })
       (if d.lineBase = 0 then s1.raiseN p Ev.dspFrameDone [p, d.frame] else s1).frameEnded p)

/-- DSP_TE_EDGE: a filtered edge in blanking releases the next frame; while the rate is halved every second one does
(17 R528, R530). -/
def State.teEdge (s : State) (p : Nat) : State :=
  let x := vget s.motion.te p PinSt.reset
  let d := s.dport p
  let x1 := x.take
  let line := d.lineAt x.since
  let active := (d.timing.map (·.vactive)).getD 0
  let accepted := d.sends && d.pacing == 0 && (x1.filt != decide (d.frameSet.1 = 1)) && decide (active ≤ line) && d.te.isNone
  let skip := d.halved && d.teSkip == 0 && !d.teLost
  whenDue (x.due (s.itemN Pid.dspTeFilt) s.now) s
    (let s1 := { s with motion := { s.motion with te := vset s.motion.te p x1 } }
     if !accepted then s1
     else if skip then s1.updDport p (fun d => { d with teSkip := 1 })
     else s1.updDport p (fun d => { d with te := some (x.since, line), teSkip := 0, teLost := false }))

/-! ## Proof data from other spans (17 R524) -/

/-- PROOF_DATA_RECEIVE: a lead tile stages what another span sent for a layer that DSP_SRC takes from there. -/
def State.proofData (s : State) (p layer row : Nat) (data : List Byte) : State :=
  let d := s.dport p
  whenDue (s.dispPd p && decide (bits (PMap.item d.shown.items Pid.dspSrc).toNat (2 * layer + 1) (2 * layer) ≠ 0)) s
    (s.updDport p (fun d => { d with staging := d.staging.filter (fun e => !(e.1 == layer && e.2.1 == row)) ++ [(layer, row, data)] }))

/-! ## Hot plug, link loss, training (17 R533 to R535) -/

/-- DSP_HOTPLUG: an HPD rise. -/
def State.hotplug (s : State) (p : Nat) : State :=
  let d := s.dport p
  whenDue (!d.hpd) s
    (let s1 := s.updDport p (fun d => { d with hpd := true, sink := d.sink + 1 })
     if !s.dispPd p then s1
     else (if d.st = 0 then s1 else s1.trainMode p).raiseN p Ev.dspHotplug [p])

/-- A port loses its link: its part of a mode change has failed, and no flip waits for it (17 R533, R535; log 49). -/
def State.linkGone (s : State) (p : Nat) : State :=
  let s1 := s.updDport p (fun d => { d with st := 5, lanes := 0, change := none, fallback := false, lostAt := s.now, panic := false })
  (s1.modePort p true).flipSettle

/-- DSP_LINK_LOST: an HPD fall, or a link loss that the sink reports (17 R535). -/
def State.linkLost (s : State) (p : Nat) (fell : Bool) : State :=
  let d := s.dport p
  whenDue (if fell then d.hpd else d.sends && d.hpd) s
    (let s1 := if fell then s.updDport p (fun d => { d with hpd := false }) else s
     if !s.dispPd p then s1
     else (if 2 ≤ d.st then s1.linkGone p else s1).raiseN p Ev.dspLinkLost [p])

/-- DSP_RETRAIN_TIMER: a LINKLOST port with HPD high retrains every 100 ms (17 R535). -/
def State.dspRetrain (s : State) (p : Nat) : State :=
  let d := s.dport p
  whenDue (decide (d.st = 5) && d.hpd && decide (d.lostAt + 25_000_000 ≤ s.now)) s
    ((s.trainMode p).updDport p (fun d => { d with lostAt := s.now }))

/-- DSP_LINK_TRAINING_END: success starts the timing in blanking; a failure in a mode change returns the port to its
previous timing after a retraining, and a second one makes it LINKLOST (17 R534). -/
def State.dspTrained (s : State) (p : Nat) (ok : Bool) : State :=
  let d := s.dport p
  whenDue (decide (d.st = 2)) s
    (match d.change with
     | some (m, _) =>
       if ok then s.updDport p (fun d => { d.begin m s.now with st := 3, change := some (m, 5) })
       else
         match d.timing with
         | some old => s.updDport p (fun d => { d.train old with change := none, fallback := true })
         | none => (s.updDport p (fun d => { d with st := 1, change := none })).modePort p true
     | none =>
       if ok then
         let s1 := match d.timing with
           | some m => s.updDport p (fun d => { d.begin m s.now with st := 4, fallback := false })
           | none => s.updDport p (fun d => { d with st := 1, fallback := false })
         if d.fallback then s1.modePort p true else s1
       else s.linkGone p)

/-- DSP_MODE_CHANGED: the first frame in the new timing starts (17 R533). -/
def State.modeChanged (s : State) (p : Nat) : State :=
  let d := s.dport p
  match d.change with
  | some (m, 5) =>
    whenDue (d.sends && d.phase == 1 && decide (m.vtotal ≤ d.lineAt s.now)) s
      (let s1 := (s.startFrame p).updDport p (fun d => { d with st := 4, change := none })
       ((s1.raiseN p Ev.dspModeChanged [p, (s1.dport p).frame]).modePort p false).flipSettle)
  | _ => s

/-! ## Register clears (17 R539) -/

/-- DSP_CLR.TRAINS. -/
def State.dspClrTrains (s : State) (p : Nat) : State := whenDue (s.dispPd p) s (s.updDport p (fun d => { d with trains := 0 }))
/-- DSP_CLR.UNDER. -/
def State.dspClrUnder (s : State) (p : Nat) : State :=
  whenDue (s.dispPd p) s (s.updDport p (fun d => { d with under := 0, fillpix := 0 }))

/-! ## Meanings -/

/-- R526: DSP_FRAME_START. -/
def execDspFrameStart (port : Fin 2) (s : State) : Out := .next (s.frameStart port.val)
/-- R529: DSP_LINE_MATCH. -/
def execDspLineMatch (port : Fin 2) (s : State) : Out := .next (s.lineMatch port.val)
/-- R528: DSP_TE_EDGE. -/
def execDspTeEdge (port : Fin 2) (s : State) : Out := .next (s.teEdge port.val)
/-- R528: DSP_TE_LOST. -/
def execDspTeLost (port : Fin 2) (s : State) : Out := .next (s.teLost port.val)
/-- R524: PROOF_DATA_RECEIVE. -/
def execProofDataReceive (port : Fin 2) (layer : Fin 4) (row : Nat) (data : List Byte) (s : State) : Out :=
  .next (s.proofData port.val layer.val row data)
/-- R535: DSP_HOTPLUG. -/
def execDspHotplug (port : Fin 2) (s : State) : Out := .next (s.hotplug port.val)
/-- R535: DSP_RETRAIN_TIMER. -/
def execDspRetrainTimer (port : Fin 2) (s : State) : Out := .next (s.dspRetrain port.val)
/-- R533: DSP_MODE_CHANGED. -/
def execDspModeChanged (port : Fin 2) (s : State) : Out := .next (s.modeChanged port.val)
/-- R534: DSP_LINK_TRAINING_END. -/
def execDspLinkTrainingEnd (port : Fin 2) (ok : Bool) (s : State) : Out := .next (s.dspTrained port.val ok)
/-- R539: DSP_CLR_TRAINS. -/
def execDspClrTrains (port : Fin 2) (s : State) : Out := .next (s.dspClrTrains port.val)
/-- R539: DSP_CLR_UNDER. -/
def execDspClrUnder (port : Fin 2) (s : State) : Out := .next (s.dspClrUnder port.val)

end Sys2Proof.Machine
end

