-- ==== Sys2Proof/Machine/Session.lean ====
section
/-! DEFINITION. The SESSION group: sessions, their protection and their queue pairs (12 R410 to R415, R425; 13 SESSION). -/

namespace Sys2Proof.Machine

/-- The ceiling mask of a class (12 R410). -/
def ceiling (cls : Nat) : Nat := if cls = 0 then 0xFFFE else 0xBFFC

/-- A mask stays within its class's ceiling. -/
def maskOk (cls mask : Nat) : Bool := decide (mask &&& ceiling cls = mask)

/-- A window entry of 16 bytes (12 R413). -/
def windowOf (b : List Byte) : Window := { base := fld b 0 8, len := fld b 8 5, rights := fld b 13 1, spans := fld b 14 2 }

/-- A window keeps the table of R413: aligned, a non-zero multiple of 64, within 40 bits, reserved bits zero. -/
def windowOk (w : Window) : Bool :=
  decide (w.base % 64 = 0 ∧ w.base < 2 ^ 40 ∧ w.len ≠ 0 ∧ w.len % 64 = 0 ∧ w.base + w.len ≤ 2 ^ 40 ∧ w.rights < 4 ∧ w.spans < 16)

/-- The windows of a table of n entries, if every one is valid (12 R413). -/
def windowsOf (n : Nat) (bs : List Byte) : Option (List Window) :=
  let ws := (chunks 16 bs n).map windowOf
  if ws.all windowOk then some ws else none

/-- The read of a window table of DW7[4:0] entries at DW5 and DW6. -/
def readWindows (_ : State) (p : Packet) : Option (Nat × Nat) :=
  if p.f 7 4 0 = 0 then none else some (p.ha 5, 16 * p.f 7 4 0)

/-- Checks of SESSION.OPEN (12 R411, R425). -/
def checkSessionOpen (s : State) (p : Packet) : Nat × Nat × Nat :=
  let n := p.f 2 7 0
  if n = 0 then (St.sessionBad, 0, 0)
  else if (s.session n).isSome then (St.sessionBusy, 0, 0)
  else if p.f 2 9 8 = 0 || !maskOk (p.f 2 9 8) (p.f 3 15 0) then (St.protClass, 0, 0)
  else if p.f 4 11 0 < 1 || p.f 4 11 0 > 4032 || p.f 4 23 16 < 1 || p.f 4 23 16 > 184 || p.f 7 4 0 > 16 then (St.queueArg, 0, 0)
  else (St.ok, 0, 0)

/-- SESSION.OPEN: the session opens with its class, mask, windows and limits (12 R425). -/
def actSessionOpen (s : State) (p : Packet) (bs : List Byte) : State :=
  match windowsOf (p.f 7 4 0) bs with
  | none => s.done p.seq St.queueArg
  | some ws =>
    let n := p.f 2 7 0
    if (s.session n).isSome then s.done p.seq St.sessionBusy
    else
      let x : Session :=
        { cls := p.f 2 9 8, mask := p.f 3 15 0, windows := ws, storeMax := p.f 4 11 0, runMax := p.f 4 23 16,
          closing := none, denied := none }
      ((s.setSession n (some x)).raiseLead Ev.sessionChange [n, 0]).done p.seq St.ok

/-- SESSION.OPEN. -/
def opSessionOpen : OpDef :=
  { code := 0x0101, cls := clsS, named := [0x3FF, 0xFFFF, 0x00FF_0FFF, 0xFFFF_FFFF, 0xFFFF_FFFF, 0x1F], prot := noProt,
    access := noAccess, check := checkSessionOpen, read := readWindows, waits := noWaits, bind := noBind, act := actSessionOpen }

/-- A session changed or closed by a command: session 0 is always open, and no command changes it (12 R410). -/
def State.changeSession (s : State) (n : Nat) (f : Session → Option Session) : State :=
  if n = 0 then s else s.setSession n ((s.session n).bind f)

/-- QUEUED packets that satisfy a test complete with ST_SESSION_CLOSED and take no effect (12 R412). -/
def State.closeQueued (s : State) (sel : StoreEntry → Bool) : State :=
  (s.qen.store.filter (fun e => decide (e.st = .queued) && sel e)).foldl (fun s e => s.done e.p.seq St.sessionClosed) s

/-- A pair whose deletion has begun goes once every packet of it is posted, and its SESSION.QDELETE completes. -/
def State.settlePair (s : State) (q : Nat) : State :=
  match (s.pair q).bind (·.deleting) with
  | some seq => if s.qen.store.any (fun e => e.p.q == q) then s else (s.setPair q none).done seq St.ok
  | none => s

/-- A closing session goes with its queues once every packet of them is posted, and its SESSION.CLOSE completes. -/
def State.settleSession (s : State) (n : Nat) : State :=
  match (s.session n).bind (·.closing) with
  | some seq =>
    if s.qen.store.any (fun e => e.session == n) then s
    else
      let drop := fun (x : Option QueuePair) => x.filter (fun q => q.session != n)
      ((({ s with qen := { s.qen with pairs := s.qen.pairs.map drop } }).changeSession n (fun _ => none)).raiseLead
        Ev.sessionChange [n, 1]).done seq St.ok
  | none => s

/-- Deletions that the posting of a packet of queue q of session n may complete (12 R412). -/
def State.settle (s : State) (q n : Nat) : State := (s.settlePair q).settleSession n

/-- Checks of SESSION.CLOSE (12 R412). -/
def checkSessionClose (s : State) (p : Packet) : Nat × Nat × Nat :=
  let n := p.f 2 7 0
  if n = 0 then (St.sessionBad, 0, 0)
  else match s.session n with
    | none => (St.sessionClosed, 0, 0)
    | some x => if x.closing.isSome then (St.sessionClosed, 0, 0) else (St.ok, 0, 0)

/-- SESSION.CLOSE: fetching stops, QUEUED packets complete, and the queues go when every packet is posted (12 R412). -/
def actSessionClose (s : State) (p : Packet) (_ : List Byte) : State :=
  let n := p.f 2 7 0
  let s1 := s.changeSession n (fun x => some { x with closing := some p.seq })
  (s1.closeQueued (fun e => e.session == n)).settleSession n

/-- SESSION.CLOSE. -/
def opSessionClose : OpDef :=
  { code := 0x0102, cls := clsS, named := [0xFF], prot := noProt, access := noAccess, check := checkSessionClose,
    read := noRead, waits := noWaits, bind := noBind, act := actSessionClose }

/-- Checks of SESSION.PROT (12 R415, R425). -/
def checkSessionProt (s : State) (p : Packet) : Nat × Nat × Nat :=
  let n := p.f 2 7 0
  if n = 0 then (St.sessionBad, 0, 0)
  else match s.session n with
    | none => (St.sessionClosed, 0, 0)
    | some x =>
      if x.closing.isSome then (St.sessionClosed, 0, 0)
      else if !maskOk x.cls (p.f 3 15 0) then (St.protClass, 0, 0)
      else if p.f 7 4 0 > 16 then (St.queueArg, 0, 0)
      else (St.ok, 0, 0)

/-- SESSION.PROT: mask and windows replaced as one change (12 R415). -/
def actSessionProt (s : State) (p : Packet) (bs : List Byte) : State :=
  match windowsOf (p.f 7 4 0) bs with
  | none => s.done p.seq St.queueArg
  | some ws =>
    let n := p.f 2 7 0
    ((s.changeSession n (fun x => some { x with mask := p.f 3 15 0, windows := ws })).raiseLead
      Ev.sessionChange [n, 2]).done p.seq St.ok

/-- SESSION.PROT. -/
def opSessionProt : OpDef :=
  { code := 0x0103, cls := clsS, named := [0xFF, 0xFFFF, 0, 0xFFFF_FFFF, 0xFFFF_FFFF, 0x1F], prot := noProt,
    access := noAccess, check := checkSessionProt, read := readWindows, waits := noWaits, bind := noBind, act := actSessionProt }

/-- Checks of SESSION.QUEUE (12 R394, R411, R429). -/
def checkSessionQueue (s : State) (p : Packet) : Nat × Nat × Nat :=
  let q := p.f 2 7 0
  match s.session (p.f 2 15 8) with
  | none => (St.sessionClosed, 0, 0)
  | some x =>
    if x.closing.isSome then (St.sessionClosed, 0, 0)
    else if q = 0 then (St.queueArg, 0, 0)
    else if (s.pair q).isSome then (St.queueBusy, 0, 0)
    else if p.ha 3 % 4096 ≠ 0 || p.ha 5 % 4096 ≠ 0 || p.f 7 11 0 = 0 || p.f 7 27 16 = 0 || p.f 9 8 0 < 1 || p.f 9 8 0 > 256
      || p.dw 10 < 250 || p.dw 10 > 25_000_000 then (St.queueArg, 0, 0)
    else (St.ok, 0, 0)

/-- A new queue pair: empty, phase 1 (12 R394, R395, R397). -/
def QueuePair.fresh (session sqBase sqSize cqBase cqSize : Nat) : QueuePair :=
  { session := session, sqBase := sqBase, sqSize := sqSize, sqHead := 0, sqTail := 0, vis := [], cqBase := cqBase,
    cqSize := cqSize, cqHead := 0, cqTail := 0, phase := true, fault := false, stopped := false, deleting := none,
    win := none, held := false, pmeSent := false }

/-- SESSION.QUEUE: the pair exists and its items hold the values of the command (12 R411, R428). -/
def actSessionQueue (s : State) (p : Packet) (_ : List Byte) : State :=
  let q := p.f 2 7 0
  let s1 := s.setPair q (some (QueuePair.fresh (p.f 2 15 8) (p.ha 3) (p.f 7 11 0 + 1) (p.ha 5) (p.f 7 27 16 + 1)))
  let s2 := (((s1.putItem (Pid.qVec q) (p.f 8 10 0)).putItem (Pid.qModCnt q) (p.f 9 8 0)).putItem (Pid.qModTime q)
    (p.dw 10)).putItem (Pid.qWake q) (p.f 11 0 0)
  (s2.mirrorSend (.config q)).done p.seq St.ok

/-- SESSION.QUEUE. -/
def opSessionQueue : OpDef :=
  { code := 0x0104, cls := clsS,
    named := [0xFFFF, 0xFFFF_FFFF, 0xFFFF_FFFF, 0xFFFF_FFFF, 0xFFFF_FFFF, 0x0FFF_0FFF, 0x7FF, 0x1FF, 0xFFFF_FFFF, 1],
    prot := noProt, access := noAccess, check := checkSessionQueue, read := noRead, waits := noWaits, bind := noBind,
    act := actSessionQueue }

/-- Checks of SESSION.QDELETE (12 R412, R425). -/
def checkSessionQdelete (s : State) (p : Packet) : Nat × Nat × Nat :=
  let q := p.f 2 7 0
  if q = 0 then (St.sessionBad, 0, 0)
  else match s.pair q with
    | none => (St.queueState, 0, 0)
    | some x => if x.deleting.isSome then (St.queueState, 0, 0) else (St.ok, 0, 0)

/-- SESSION.QDELETE: fetching stops, QUEUED packets complete, and the pair goes when every packet is posted (12 R412). -/
def actSessionQdelete (s : State) (p : Packet) (_ : List Byte) : State :=
  let q := p.f 2 7 0
  let s1 := s.updPair q (fun x => { x with deleting := some p.seq })
  (s1.closeQueued (fun e => e.p.q == q)).settlePair q

/-- SESSION.QDELETE. -/
def opSessionQdelete : OpDef :=
  { code := 0x0105, cls := clsS, named := [0xFF], prot := noProt, access := noAccess, check := checkSessionQdelete,
    read := noRead, waits := noWaits, bind := noBind, act := actSessionQdelete }

/-- What SESSION.INFO reports of a session: number, class, protection, queues, store use (12 R425). -/
def State.sessionQuantities (s : State) (n : Nat) : List Int :=
  match s.session n with
  | none => []
  | some x =>
    [qn n, qn x.cls, qn x.mask] ++ x.windows.flatMap (fun w => [qn w.base, qn w.len, qn w.rights, qn w.spans])
      ++ ((List.range 256).filter (fun q => decide ((s.pair q).map (·.session) = some n))).map qn
      ++ [qn x.storeMax, qn x.runMax, qn ((s.qen.store.filter (fun e => e.session == n)).length)]

/-- SESSION.INFO: the report of every open session (12 R425). -/
def actSessionInfo (s : State) (p : Packet) (_ : List Byte) : State :=
  s.reportQ p (((List.range 256).filter (fun n => (s.session n).isSome)).map s.sessionQuantities)

/-- SESSION.INFO. -/
def opSessionInfo : OpDef :=
  { code := 0x0106, cls := clsS, named := rptNamed 0, prot := noProt, access := noAccess, check := noCheck,
    read := noRead, waits := noWaits, bind := noBind, act := actSessionInfo }

/-! ## Meanings -/

/-- R425: SESSION.OPEN. -/
def execSessionOpen (p : Packet) (s : State) : Out := .next (opSessionOpen.dispatch s p)
/-- R412: SESSION.CLOSE. -/
def execSessionClose (p : Packet) (s : State) : Out := .next (opSessionClose.dispatch s p)
/-- R415: SESSION.PROT. -/
def execSessionProt (p : Packet) (s : State) : Out := .next (opSessionProt.dispatch s p)
/-- R411: SESSION.QUEUE. -/
def execSessionQueue (p : Packet) (s : State) : Out := .next (opSessionQueue.dispatch s p)
/-- R412: SESSION.QDELETE. -/
def execSessionQdelete (p : Packet) (s : State) : Out := .next (opSessionQdelete.dispatch s p)
/-- R425: SESSION.INFO. -/
def execSessionInfo (p : Packet) (s : State) : Out := .next (opSessionInfo.dispatch s p)

end Sys2Proof.Machine
end

