-- ==== Sys2Proof/Machine/Queue.lean ====
section
/-! DEFINITION. The host port and the rings: doorbells, posting, vectors, power states, the mirror to T1 and the recovery
of the rings after a takeover (12 R390 to R399, R416 to R424, R429). -/

namespace Sys2Proof.Machine

/-! ## The lead's command engine -/

/-- PD_CMD of a tile is on. -/
def State.cmdOn (s : State) (t : Nat) : Bool := (s.tileN t).on 2
/-- The command engine of the lead runs: its tile's PD_CMD is on and the host controller has its port (11 R374). -/
def State.engineOn (s : State) : Bool := s.cmdOn s.lead.tile && decide (s.lead.cold = 0)
/-- The lead's port can write host memory and read it: D0 with bus mastering (12 R420). -/
def State.portReady (s : State) : Bool :=
  s.engineOn && (s.tileN s.lead.tile).on 3 && decide (s.port.dstate = 0) && s.port.busMaster && decide (s.port.link ≠ 5)
/-- A write to an RWL field takes effect (12 R393). -/
def State.rwlOpen (s : State) : Bool := !s.qen.reglock

/-! ## Doorbells (12 R395, R397, R399, R424) -/

/-- QEN_STRAY of a tile counts (12 R399). -/
def State.strayBell (s : State) (t : Nat) : State := { s with qen := { s.qen with stray := vupd s.qen.stray t 0 (satInc 32) } }

/-- A doorbell written to a tile reaches the lead's engine: on the lead, or forwarded by the giving tile (12 R424). -/
def State.bellReaches (s : State) (t : Nat) : Bool :=
  t == s.lead.tile ||
  (match s.lead.handover with
    | some (h, g, _) => t == g && decide (h ≤ s.now ∧ s.now < h + 16000)
    | none => false)

/-- A doorbell write: an engine that is off ignores it, a tile without the lead counts it as stray (12 R399, R424). -/
def State.bell (s : State) (t q : Nat) (f : QueuePair → State) : State :=
  if 2 ≤ t || !s.cmdOn t then s
  else if !s.bellReaches t then s.strayBell t
  else if s.lead.cold = 1 then s
  else match s.pair q with
    | none => s.strayBell t
    | some x => f x

/-- QEN_SQ_TAIL_WRITE (12 R395, R396, R399). -/
def State.sqTail (s : State) (t q v : Nat) : State :=
  s.bell t q (fun x =>
    let n := v % 4096
    if x.sqSize ≤ n then s.raiseLead Ev.queueFault [q, 0]
    else
      let new := (n + x.sqSize - x.sqTail) % x.sqSize
      let s1 := s.setPair q (some { x with sqTail := n, vis := x.vis ++ List.replicate new s.qen.bells })
      ({ s1 with qen := { s1.qen with bells := s1.qen.bells + 1 } }).mirrorSend (.tail q n))

/-- QEN_CQ_HEAD_WRITE (12 R397, R399). -/
def State.cqHead (s : State) (t q v : Nat) : State :=
  s.bell t q (fun x =>
    let n := v % 4096
    if x.cqSize ≤ n then s.raiseLead Ev.queueFault [q, 0]
    else if (x.cqTail + x.cqSize - x.cqHead) % x.cqSize < (n + x.cqSize - x.cqHead) % x.cqSize then s.raiseLead Ev.queueFault [q, 1]
    else (s.setPair q (some { x with cqHead := n, held := if n = x.cqHead then x.held else false })).mirrorSend (.head q n))

/-- QEN_CTL.EN takes the value 1: the admin settings are read and pair 0 starts (12 R394, R429). -/
def State.enStart (s : State) : State :=
  let s1 : State := { s with qen := { s.qen with en := true } }
  match s.pair 0 with
  | some _ => s1
  | none => (s1.setPair 0 (some (QueuePair.fresh 0 s.qen.asq (max s.qen.asqs 1 + 1) s.qen.acq (max s.qen.acqs 1 + 1)))).mirrorSend (.config 0)

/-- QEN_CTL.EN takes the value 0: fetching stops; queues and store stay (12 R429). -/
def State.enStop (s : State) : State := { s with qen := { s.qen with en := false } }

/-- A write to a field of the lead's QEN_CTL has effect: the tile holds the lead, its block is on, the field is open. -/
def State.ctlOpen (s : State) (t : Nat) : Bool := decide (t = s.lead.tile) && s.cmdOn t && s.rwlOpen

/-- QEN_CTL_EN_SET on the lead tile (12 R393, R394). -/
def State.enSet (s : State) (t : Nat) : State := if s.ctlOpen t then s.enStart else s

/-- QEN_CTL_EN_CLEAR on the lead tile (12 R393, R429). -/
def State.enClear (s : State) (t : Nat) : State := if s.ctlOpen t then s.enStop else s

/-! ## Posting (12 R397, R398, R408, R416) -/

/-- The 16 bytes of a completion entry (12 R416). -/
def completionBytes (e : StoreEntry) (sqHead epoch : Nat) (phase : Bool) : List Byte :=
  leBytes 2 e.p.tag ++ leBytes 2 e.status ++ leBytes 2 epoch ++ leBytes 2 sqHead ++ leBytes 4 e.r0 ++
    leBytes 4 (e.r1 % 2 ^ 31 + (if phase then 2 ^ 31 else 0))

/-- A DONE entry may be posted: it is not ORDERED, or no ORDERED packet fetched earlier from its SQ is unposted (12 R408). -/
def State.postable (s : State) (e : StoreEntry) : Bool :=
  !e.p.ordered || !s.qen.store.any (fun d => d.p.q == e.p.q && d.p.ordered && decide (d.p.seq < e.p.seq))

/-- The earlier decided of two entries. -/
def earlier (a : Option StoreEntry) (b : StoreEntry) : Option StoreEntry :=
  match a with
  | none => some b
  | some x => if b.decided < x.decided then some b else some x

/-- The next completion of a queue to post: the earliest decided that may be posted. -/
def State.nextPost (s : State) (q : Nat) : Option StoreEntry :=
  (s.qen.store.filter (fun e => decide (e.st = .done) && e.p.q == q && s.postable e)).foldl earlier none

/-- The CQ has room (12 R397). -/
def QueuePair.room (x : QueuePair) : Bool := decide ((x.cqTail + 1) % x.cqSize ≠ x.cqHead)

/-- A CQ after one more entry. -/
def QueuePair.posted (x : QueuePair) : QueuePair :=
  let last := decide (x.cqTail + 1 = x.cqSize)
  { x with cqTail := if last then 0 else x.cqTail + 1, phase := x.phase != last }

/-- An entry written to the next slot of a CQ with an epoch, and announced to T1 before (12 R397, R398, R422). -/
def State.writeEntry (s : State) (q : Nat) (x : QueuePair) (e : StoreEntry) (epoch : Nat) : State :=
  let s0 := s.mirrorSend (.entry q x.cqTail x.phase [e.p.tag + 2 ^ 16 * e.status, epoch + 2 ^ 16 * x.sqHead, e.r0, e.r1])
  (s0.hostWrite (x.cqBase + 16 * x.cqTail) (completionBytes e x.sqHead epoch x.phase)).setPair q (some x.posted)

/-- The giving tile of a handover also posts a command that was in execution at H: within the overlap, while its own port can
write (11 R380, R381; 12 R424). -/
def State.postedTwice (s : State) (e : StoreEntry) : Bool :=
  match s.lead.handover with
  | none => false
  | some (_, g, _) =>
    let p := vget s.qen.ports g Port.reset
    s.inHandover && decide (e.disp ≠ 0 ∧ e.disp < s.lead.overlap.1) && s.cmdOn g && (s.tileN g).on 3 && decide (p.dstate = 0 ∧ p.link ≠ 5) && p.busMaster

/-- One completion of a queue is posted; in the overlap of a handover a second copy with the giving tile's epoch takes the next
slot, if there is one (12 R397, R398, R416, R417, R424). -/
def State.postOne (s : State) (q : Nat) (x : QueuePair) (e : StoreEntry) : State :=
  let s1 := s.writeEntry q x e s.lead.epoch
  let s2 := if s.postedTwice e && x.posted.room then s1.writeEntry q x.posted e s.lead.overlap.2 else s1
  let s3 := s2.setStore (s2.qen.store.filter (fun d => d.p.seq != e.p.seq))
  let s4 := if e.p.notify && !e.counted then s3.countNotify q e.p.urgent else s3
  s4.settle q e.session

/-- COMPLETION_POST: a decided completion is written once there is room; else it is held (12 R397, R398). -/
def State.post (s : State) (q : Nat) : State :=
  match s.pair q, s.nextPost q with
  | some x, some e =>
    if !s.portReady then s
    else if x.room then s.postOne q x e
    else if x.held then s
    else (s.setPair q (some { x with held := true })).raiseLead Ev.cqHeld [q]
  | _, _ => s

/-- Every completion that can be posted, in the order of decision (12 R420). -/
def State.postAll (s : State) : Nat → State
  | 0 => s
  | fuel + 1 =>
    let ready := s.qen.store.filter (fun e => decide (e.st = .done) && s.postable e && ((s.pair e.p.q).map QueuePair.room).getD false)
    match ready.foldl earlier none with
    | none => s
    | some e => (s.post e.p.q).postAll fuel

/-! ## Vectors (12 R417 to R420) -/

/-- The message of a vector can leave: MSI-X is enabled, and neither the function nor the vector is masked. -/
def State.vecOpen (s : State) (v : Nat) : Bool := s.port.msixEn && !s.port.funcMask && s.mx.unmasked.contains v

/-- A vector that fell due leaves, or sets its PBA bit while masked (12 R418, R419). -/
def State.sendVec (s : State) (v : Nat) : State :=
  if !s.qen.due.contains v || !s.portReady then s
  else
    let s1 : State := { s with qen := { s.qen with due := s.qen.due.filter (· != v) } }
    if s.vecOpen v then
      let s2 := s1.updPort s.lead.tile (fun p => { p with link := 0 })
      { s2 with qen := { s2.qen with sentVec := v :: s2.qen.sentVec } }
    else s1.updMx s.lead.tile (fun m => { m with pba := addNew m.pba v })

/-- PBA bits whose vectors are no longer masked fall due (12 R418). -/
def State.pbaRelease (s : State) : State :=
  let open_ := s.mx.pba.filter s.vecOpen
  let s1 := s.updMx s.lead.tile (fun m => { m with pba := m.pba.filter (fun v => !open_.contains v) })
  { s1 with qen := { s1.qen with due := open_.foldl addNew s.qen.due } }

/-- MSIX_MASK_CLEAR of a vector or of the function; the messages held meanwhile are sent (12 R418). -/
def State.maskClear (s : State) (v : Option Nat) : State :=
  let s1 : State := match v with
    | some v => s.updMx s.lead.tile (fun m => { m with unmasked := addNew m.unmasked v })
    | none => s.updPort s.lead.tile (fun p => { p with funcMask := false })
  let s2 := s1.pbaRelease
  (s2.qen.due.filter (fun v => !s1.qen.due.contains v)).foldl (fun s v => s.sendVec v) s2

/-- MODERATION_WINDOW_EXPIRY (12 R417). -/
def State.windowExpiry (s : State) (q : Nat) : State := s.closeExpired q

/-! ## Power states of the port (12 R419 to R421, R430; 19 R578) -/

/-- PCIE_D3HOT_ENTRY: each CQ may send one PME in this stay (12 R419). -/
def State.d3hot (s : State) (p : Nat) : State :=
  let s1 := s.updPort p (fun x => { x with dstate := 3 })
  if p = s.lead.tile then { s1 with qen := { s1.qen with pairs := s1.qen.pairs.map (fun x => x.map (fun y => { y with pmeSent := false })) } } else s1

/-- PCIE_D3COLD_ENTRY (12 R419). -/
def State.d3cold (s : State) (p : Nat) : State := s.updPort p (fun x => { x with dstate := 4 })

/-- PCIE_D0_RETURN with bus mastering and MSI-X enabled: DONE completions in order, then every held vector once (12 R420). -/
def State.d0Return (s : State) (p : Nat) : State :=
  let s1 := s.updPort p (fun x => { x with dstate := 0, busMaster := true, msixEn := true, wakeL := false })
  if p ≠ s.lead.tile then s1
  else
    let s2 := (s1.postAll s1.qen.store.length).pbaRelease
    s2.qen.due.foldl (fun s v => s.sendVec v) s2

/-- PCIE_PERST: the endpoint, its configuration space and the HIF block are reset (12 R421, 19 R570). -/
def State.perst (s : State) (p : Nat) : State := s.updPort p (fun _ => Port.reset)

/-- PCIE_CONFIG_REQUEST: retry status until the tile reaches HOST (19 R578). -/
def State.configRequest (s : State) (p : Nat) : State :=
  s.updPort p (fun x => { x with crs := decide ((s.tileN p).boot.stage < 7 ∨ (s.tileN p).boot.stage = 15) })

/-! ## The mirror and the recovery of the rings (12 R422, R423; 11 R375) -/

/-- Mirrored state of a queue on T1. -/
def State.mirrorOf (s : State) (q : Nat) : MirrorQ :=
  (s.qen.mirrored.find? (fun m => m.q == q)).getD { q := q, tail := 0, head := 0, annTail := 0, entries := [] }

/-- T1's record of a queue replaced. -/
def State.setMirror (s : State) (m : MirrorQ) : State :=
  { s with qen := { s.qen with mirrored := s.qen.mirrored.filter (fun x => x.q != m.q) ++ [m] } }

/-- Entries of a record that a new CQ head has consumed leave it. -/
def MirrorQ.consume (m : MirrorQ) (size h : Nat) : MirrorQ :=
  let freed := (h + size - m.head) % size
  { m with head := h, entries := m.entries.filter (fun e => decide (freed ≤ (e.1 + size - m.head) % size)) }

/-- A table entry written: message address and data, and its mask bit. -/
def Msix.put (m : Msix) (v e : Nat) (masked : Bool) : Msix :=
  { m with table := NMap.set 0 m.table v e, unmasked := if masked then m.unmasked.filter (· != v) else addNew m.unmasked v }

/-- QUEUE_MIRROR_RECEIVE: the oldest mirrored write reaches T1 (12 R422). -/
def State.mirrorReceive (s : State) : State :=
  match s.qen.mirror with
  | [] => s
  | m :: r =>
    let s1 : State := { s with qen := { s.qen with mirror := r } }
    match m with
    | .tail q v => s1.setMirror { s.mirrorOf q with tail := v }
    | .head q v => s1.setMirror ((s.mirrorOf q).consume (((s.pair q).map (·.cqSize)).getD 4096) v)
    | .config q => s1.setMirror { q := q, tail := 0, head := 0, annTail := 0, entries := [] }
    | .entry q slot phase dw =>
      let x := s.mirrorOf q
      let size := ((s.pair q).map (·.cqSize)).getD 4096
      s1.setMirror { x with annTail := (slot + 1) % size, entries := x.entries ++ [(slot, phase, dw)] }
    | .msix v e => s1.updMx 1 (fun m => m.put v (e % 2 ^ 96) (bit e 96))

/-- Every mirrored write sent reaches T1. -/
def State.mirrorDrain (s : State) : State := s.qen.mirror.foldl (fun s _ => s.mirrorReceive) s

/-- Entries of a queue from the last mirrored head to the announced tail are rewritten with the new epoch (12 R423). -/
def State.rewriteRing (s : State) (m : MirrorQ) : State :=
  match s.pair m.q with
  | none => s
  | some x => m.entries.foldl (fun s e =>
      let dw := e.2.2
      s.hostWrite (x.cqBase + 16 * e.1) (leBytes 4 (dw.getD 0 0) ++ leBytes 2 s.lead.epoch ++ leBytes 2 (dw.getD 1 0 / 2 ^ 16) ++ leBytes 4 (dw.getD 2 0)
        ++ leBytes 4 (dw.getD 3 0 % 2 ^ 31 + (if e.2.1 then 2 ^ 31 else 0)))) s

/-- A command's pending effects are withdrawn: nothing of it that is not committed takes effect (11 R375). -/
def State.cancel (s : State) (seq : Nat) : State :=
  let u := (s.undoChange seq).freeFences seq
  let j := u.job
  { u with
    job := { j with
      lanes := j.lanes.map (fun l => { l with changes := l.changes.filter (fun c => c.seq != seq || c.committed) })
      commits := j.commits.filter (fun c => c.seq != seq || c.committed)
      boundary := j.boundary.filter (fun b => b.2 != seq)
      held := j.held.filter (fun h => h.2.2 != seq)
      change := if j.change = some seq then none else j.change
      arming := if j.arming = some seq then none else j.arming }
    stores := { u.stores with
      compress := u.stores.compress.filter (fun c => c.seq != seq)
      inFlight := u.stores.inFlight.filter (fun w => !u.qen.store.any (fun e => e.p.seq == seq && e.disp == w.disp))
      live := u.stores.live.filter (fun r => r.seq != seq) }
    link := { u.link with ctrl := u.link.ctrl.filter (fun c => c.seq != seq) } }

/-- A command dispatched before the takeover: its committed effect completes it, else it completes with ST_LEAD_CHANGED
(11 R375). -/
def State.resumeEntry (s : State) (e : StoreEntry) : State :=
  let com := s.job.commits.find? (fun c => c.seq == e.p.seq && c.committed)
  match e.st, com with
  | .running, some c => s.doneLine e.p.seq St.ok c.line
  | .parked, some c => s.doneLine e.p.seq St.ok c.line
  | .running, none => (s.cancel e.p.seq).done e.p.seq St.leadChanged
  | .parked, none => (s.cancel e.p.seq).done e.p.seq St.leadChanged
  | _, _ => s

/-- The queues resume on T1: rings recovered, fetched commands handled by their records (12 R423, 11 R375). -/
def State.resumeQueues (s : State) : State :=
  let s1 := s.mirrorDrain
  let s2 := s1.qen.mirrored.foldl (fun s m => s.rewriteRing m) s1
  let s3 := s2.qen.store.foldl (fun s e => s.resumeEntry e) s2
  -- host targets whose take queue is not empty are signalled once more (14 R473)
  let s4 := (List.range 32).foldl (fun s h =>
    let x := s.hostTarget h
    match x.queue.getLast? with
    | some e => s.vecDue ((x.vec + min (band s.leadMap e.pri) (2 ^ x.vecn - 1)) % 2048) none
    | none => s) s3
  { s4 with lead := { s4.lead with cold := 0 }, qen := { s4.qen with ready := true } }

/-! ## Meanings -/

/-- R395: QEN_SQ_TAIL_WRITE. -/
def execQenSqTailWrite (t : Tile) (q : Fin 256) (v : U32) (s : State) : Out := onTile t s (s.sqTail t.val q.val v.toNat)
/-- R397: QEN_CQ_HEAD_WRITE. -/
def execQenCqHeadWrite (t : Tile) (q : Fin 256) (v : U32) (s : State) : Out := onTile t s (s.cqHead t.val q.val v.toNat)
/-- R394: QEN_CTL_EN_SET. -/
def execQenCtlEnSet (t : Tile) (s : State) : Out := onTile t s (s.enSet t.val)
/-- R429: QEN_CTL_EN_CLEAR. -/
def execQenCtlEnClear (t : Tile) (s : State) : Out := onTile t s (s.enClear t.val)
/-- R398: COMPLETION_POST. -/
def execCompletionPost (q : Fin 256) (s : State) : Out := .next (s.post q.val)
/-- R417: MODERATION_WINDOW_EXPIRY. -/
def execModerationWindowExpiry (q : Fin 256) (s : State) : Out := .next (s.windowExpiry q.val)
/-- R419: MSIX_VECTOR_SEND. -/
def execMsixVectorSend (v : Fin 2048) (s : State) : Out := .next (s.sendVec v.val)
/-- R419: PCIE_D3HOT_ENTRY. -/
def execPcieD3hotEntry (port : Fin 2) (s : State) : Out := .next (s.d3hot port.val)
/-- R419: PCIE_D3COLD_ENTRY. -/
def execPcieD3coldEntry (port : Fin 2) (s : State) : Out := .next (s.d3cold port.val)
/-- R420: PCIE_D0_RETURN. -/
def execPcieD0Return (port : Fin 2) (s : State) : Out := .next (s.d0Return port.val)
/-- R421: PCIE_PERST. -/
def execPciePerst (port : Fin 2) (s : State) : Out := .next (s.perst port.val)
/-- R578: PCIE_CONFIG_REQUEST. -/
def execPcieConfigRequest (port : Fin 2) (s : State) : Out := .next (s.configRequest port.val)
/-- R422: QUEUE_MIRROR_RECEIVE. -/
def execQueueMirrorReceive (s : State) : Out := .next s.mirrorReceive
/-- R418: MSIX_MASK_CLEAR. -/
def execMsixMaskClear (v : Option (Fin 2048)) (s : State) : Out := .next (s.maskClear (v.map (·.val)))

end Sys2Proof.Machine
end

