-- ==== Sys2Proof/Machine/Twin.lean ====
section
/-! DEFINITION. A tile within its twin: twin states, withdrawal, dark spans (11 R347 to R351), the tiles that JOB.ARM
waits for (13 R440), the lead and its moves (11 R373 to R381), preserves (11 R370 to R372), heartbeats and clocks. -/

namespace Sys2Proof.Machine

/-! ## Twin states (11 R347, R348) -/

/-- The code of a twin state (11 R347). -/
def TwinSt.num : TwinSt → Nat
  | .off => 0
  | .boot => 1
  | .resync => 2
  | .fill => 3
  | .paired => 4
  | .solo => 5
  | .withdrawn => 6

/-- The tile at the end of the hold-off after an entry to PAIRED, with TWN_REVERT 1 at that entry (11 R379, R388). -/
def State.holdoffEnd (s : State) : Option Nat :=
  if s.itemN Pid.twnRevert = 1 then some (s.now + 250_000_000 * s.itemN Pid.twnHoldoff) else none

/-- A transition of a tile, raised with its line by the tile that sees it; the partner sees it, but learns of a withdrawal by
PARTNER_WITHDRAW_RECEIVE. T0's return to PAIRED brings the motion role back to it (02 R86; 11 R348, R350, R387). -/
def State.setTwinBy (s : State) (seen t : Nat) (new : TwinSt) (cause line : Nat) : State :=
  let old := (s.tileN t).twin
  if old = new then s
  else
    let s1 := s.updTileN t (fun x => { x with twin := new, pairedAt := if new = .paired then s.holdoffEnd else none })
    let s2 := if new = .withdrawn then s1 else s1.updTileN (partnerOf t) (fun x => { x with pstate := new })
    let s3 := s2.raiseN seen Ev.twinState [t, old.num, new.num, cause, line]
    if t = 0 ∧ new = .paired then s3.roleBack else s3

/-- A transition of a tile that the tile itself raises. -/
def State.setTwin (s : State) (t : Nat) (new : TwinSt) (cause line : Nat) : State := s.setTwinBy t t new cause line

/-- A tile sends frames, or will: PAIRED, SOLO or FILL (11 R351). -/
def TileState.carries (x : TileState) : Bool := decide (x.twin = .paired ∨ x.twin = .solo ∨ x.twin = .fill)

/-- A used span of an armed job whose twin has no tile in PAIRED, SOLO or FILL (11 R351). -/
def State.spanDark (s : State) (k : Nat) : Bool :=
  s.armed && s.usedSpans.contains k && !(s.tileN (2 * k)).carries && !(s.tileN (2 * k + 1)).carries

/-- A product has a row that fires on a line of [lo, hi] (09 R283). -/
def State.firesIn (s : State) (p : Product) (lo hi : Nat) : Bool :=
  s.rows.any (fun r => let d := s.rowDelay r.1 r.2; decide (p.first + d ≤ hi ∧ lo < s.prodEnd p + d))

/-- Products with a dot of a dark span on the firing lines lo to hi are rejected (11 R351). -/
def State.rejectDark (s : State) (k lo hi : Nat) : State :=
  if lo ≤ hi then s.rejectIf (fun p => s.prodInSpan p k && s.firesIn p lo hi) else s

/-- SPAN_DARK where a withdrawal leaves the span without a tile (11 R351). -/
def State.checkDark (s : State) (k line : Nat) : State :=
  if s.spanDark k then (s.raiseLead Ev.spanDark [k, line]).rejectDark k line s.motion.lastLine else s

/-- The motion role follows a withdrawal of T0 while T1 prints: T0 sends its last state copy with it (02 R86). -/
def State.motionAfter (s : State) (t : Nat) : State :=
  if decide (t = 0 ∧ s.motion.active = 0) && (s.tileN 1).printing && s.motionAble 1 then (s.updMot (fun m => m.copied s.now)).roleToT1
  else s.motionRole

/-- A tile withdraws from the first line not yet begun, whatever its state but OFF; the tile that sees it raises it (11 R348
to R350). -/
def State.withdrawBy (s : State) (seen t cause : Nat) : State :=
  let x := s.tileN t
  if x.twin = .off ∨ x.twin = .withdrawn then s
  else
    let s1 := (s.setTwinBy seen t .withdrawn cause x.begun).updTileN t (fun x => { x with
      cause := cause, withdrawals := satInc 8 x.withdrawals, startLine := none, missing := none, rejoinSeq := none })
    let s2 := match x.rejoinSeq with
      | some seq => s1.done seq St.twinState
      | none => s1
    (((s2.dropAcks t).disarmSettle).checkDark (t / 2) x.begun).motionAfter t

/-- A tile withdraws and raises it itself. -/
def State.withdraw (s : State) (t cause : Nat) : State := s.withdrawBy t t cause

/-- PARTNER_WITHDRAW_RECEIVE: the partner goes to SOLO at the same line; a tile in FILL stays (11 R348, R350). -/
def State.partnerWithdrew (s : State) (t : Nat) : State :=
  let p := s.tileN (partnerOf t)
  let x := s.tileN t
  whenDue (decide (p.twin = .withdrawn ∧ x.pstate ≠ .withdrawn)) s
    (let s1 := s.updTileN t (fun x => { x with pstate := .withdrawn })
     if x.twin = .paired then s1.setTwin t .solo 0 p.begun else s1)

/-- A tile of a twin with its partner neither PAIRED nor SOLO: a command may not withdraw it (11 R351). -/
def State.lastOfTwin (s : State) (t : Nat) : Bool := !(s.tileN (partnerOf t)).printing

/-- A tile that a withdrawal would take out of a state. -/
def TileState.withdrawable (x : TileState) : Bool := decide (x.twin ≠ .off ∧ x.twin ≠ .withdrawn)

/-! ## The tiles that JOB.ARM needs (11 R348, 13 R440) -/

/-- A tile in BOOT that has ended its boot, with its clocks good since (01 R40). -/
def TileState.booted (x : TileState) : Bool := decide (x.twin = .boot ∧ x.boot.stage = 8) && x.clockOk
/-- A tile that has ended its boot in FAILED, or lost its clocks and waits for a restart (19 R576; 01 R40). -/
def TileState.failed (x : TileState) : Bool := decide (x.boot.stage = 15) || !x.clockOk

/-- The commits of the job that a tile takes over as it starts to print. -/
def State.takeCommits (s : State) (t : Nat) : State :=
  s.updTileN t (fun x => { x with heldCommits := s.job.commits.map (fun c => (c.cseq, c.line)), startLine := none })

/-- A tile enters PAIRED or SOLO at JOB.ARM. -/
def State.armTile (s : State) (t : Nat) (st : TwinSt) : State := (s.setTwin t st 0 s.job.l0).takeCommits t

/-- A twin at JOB.ARM: both booted, both PAIRED; one booted and the other OFF, WITHDRAWN or FAILED, SOLO; while one
still boots, it waits (11 R348). -/
def State.armTwin (s : State) (k : Nat) : State :=
  let a := s.tileN (2 * k)
  let b := s.tileN (2 * k + 1)
  let up := fun (x : TileState) => x.booted || x.carries
  let gone := fun (x : TileState) => decide (x.twin = .off ∨ x.twin = .withdrawn) || x.failed
  let s1 :=
    if up a && up b then (if a.booted || b.booted || decide (a.twin = .fill ∨ b.twin = .fill) then (s.armTile (2 * k) .paired).armTile (2 * k + 1) .paired else s)
    else if a.booted && gone b then s.armTile (2 * k) .solo
    else if b.booted && gone a then s.armTile (2 * k + 1) .solo
    else s
  s1

/-- Every twin of the package takes its states while JOB.ARM waits (11 R348). -/
def State.armTwins (s : State) : State := if s.job.arming.isSome then (List.range s.nTwins).foldl (fun s k => s.armTwin k) s else s

/-- JOB.ARM completes once L0 is committed and every tile it waits for is PAIRED or SOLO (13 R440). -/
def State.armSettle (s : State) : State :=
  match s.job.arming with
  | none => s
  | some seq =>
    let settled := s.usedTiles.all (fun t => let x := s.tileN t; x.printing || x.failed || decide (x.twin = .withdrawn ∨ x.twin = .off))
    if settled && s.job.commits.any (fun c => c.seq == seq && c.committed) then
      ({ s with job := { s.job with arming := none } }).doneLine seq St.ok s.job.l0
    else s

/-- COMMIT_PREPARE_RECEIVE. -/
def State.commitPrepared (s : State) (t : Tile) (cseq : Nat) : State := s.prepareReceive t cseq
/-- COMMIT_ACK_RECEIVE. -/
def State.commitAcked (s : State) (t : Tile) (cseq : Nat) : State := ((s.ackReceive t cseq).disarmSettle).armSettle

/-! ## The lead (11 R373 to R381) -/

/-- The epoch after another: 0xFFFF wraps to 1 (11 R377). -/
def nextEpoch (e : Nat) : Nat := if e ≥ 0xFFFF then 1 else e + 1

/-- A tile of twin 0 can take the lead: its firmware runs and its image prints, or no job needs it to (11 R369, R382). -/
def State.canLead (s : State) (t : Nat) : Bool :=
  let x := s.tileN t
  x.clockOk && decide (x.boot.stage = 8) && x.on 1 && x.on 2 && (x.printing || (x.booted && !s.armed))

/-- The lead moves to a tile with a new epoch; bands in progress feed no update (11 R377, 08 R277), and the flash and
the calendar mastership follow: the new lead's calendar goes on from its last loaded state (19 R571, 05 R166). -/
def State.moveLead (s : State) (t : Nat) : State :=
  let u := s.calSettle t
  { u with
    lead := { u.lead with tile := t, epoch := nextEpoch u.lead.epoch, handover := none, sent := none, recvAt := none }
    colour := { u.colour with minBand := u.colour.nextBand }
    flash := { u.flash with owner := t } }

/-- T1 takes the lead: the job controller at once, the host controller by a cold start (11 R374). -/
def State.takeover (s : State) (reason : Nat) : State :=
  let s1 := s.moveLead 1
  let s2 := { s1 with lead := { s1.lead with cold := 1 }, qen := { s1.qen with ready := false }, flash := { s1.flash with jobs := [] } }
  s2.raiseLead Ev.leadTakeover [s2.lead.epoch, Config.leadCause reason]

/-- The tile fails that holds the lead: in the overlap of a handover the giving tile keeps it with a new epoch; else T1
takes it from T0 if it can (11 R373, R374, R381). -/
def State.leadFails (s : State) (t reason : Nat) : State :=
  if s.lead.tile ≠ t then s
  else
    match s.lead.handover with
    | some (_, g, _) => if s.inHandover && s.canLead g then (s.moveLead g).prepareHeld.settleBoundary.disarmSettle else s
    | none => if t = 0 && s.canLead 1 then s.takeover reason else s

/-- The host functions resume on the new lead once its port is in L0 (11 R374 to R376). -/
def State.resumeHost (s : State) : State :=
  (s.updTileN s.lead.tile (fun x => { x with portFault := false })).resumeQueues

/-- HOST_CONTROLLER_COLD_START_DONE: the host controller runs on T1; the port reaches L0, or HOST_PORT_FAULT (11 R374,
R376). -/
def State.coldStarted (s : State) : State :=
  let t := s.lead.tile
  if s.lead.cold ≠ 1 then s
  else if s.port.link < 5 && (s.tileN t).on 3 then (s.updPort t (fun p => { p with link := 0 })).resumeHost
  else
    (({ s with lead := { s.lead with cold := 2 } }).updTileN t (fun x => { x with portFault := true })).raiseLead Ev.hostPortFault [t]

/-- HOST_PORT_RETRY: every 1 s a faulty port is trained again (11 R376). -/
def State.portRetry (s : State) (ok : Bool) : State :=
  whenDue (decide (s.lead.cold = 2) && ok) s ((s.updPort s.lead.tile (fun p => { p with link := 0 })).resumeHost)

/-- PCIE_LINK_STATE_CHANGE: a link enters or leaves L0s, L1 or its substates, or goes down or up (12 R419). -/
def State.linkState (s : State) (p st : Nat) : State :=
  let s1 := s.updPort p (fun x => { x with link := st })
  if s.lead.cold = 2 && p = s.lead.tile && st = 0 then s1.resumeHost else s1

/-- The conditions of a handover (11 R379): the receiving tile PAIRED, its port in L0, a preserve within 10 ms. -/
def State.handoverOk (s : State) : Bool :=
  let r := s.standby
  s.lead.handover.isNone && decide (s.lead.cold = 0) && decide ((s.tileN r).twin = .paired) && decide ((vget s.qen.ports r Port.reset).link = 0)
    && (s.lead.recvAt.map (fun a => decide (s.now ≤ a + 2_500_000))).getD false

/-- The handover at H: the receiving tile takes the lead with the next epoch, and no commit is prepared for 16,000 ticks; T0 first
loads T1's calendar (11 R380; 05 R166). -/
def State.handover (s : State) (seq : Nat) : State :=
  let g := s.lead.tile
  let back := if g = 1 then s.updCal 0 (fun _ => { s.master with sub := s.subAt 1 s.now, tau := s.now }) else s
  let s1 := back.moveLead (1 - g)
  { s1 with lead := { s1.lead with handover := some (s.now, g, seq), overlap := (s.qen.nextDisp, s.lead.epoch) } }

/-- TAKEBACK_START: the hold-off after T0's entry to PAIRED has ended (11 R379). -/
def State.takeback (s : State) : State :=
  whenDue (decide (s.lead.tile = 1) && s.handoverOk && ((s.tileN 0).pairedAt.map (fun a => decide (a ≤ s.now))).getD false) s (s.handover 0)

/-- HANDOVER_END: at H + 16,000 the giving tile becomes standby lead; held commits are prepared (11 R380). -/
def State.handoverEnd (s : State) : State :=
  match s.lead.handover with
  | some (h, _, seq) =>
    whenDue (decide (h + 16000 ≤ s.now)) s
      ((({ s with lead := { s.lead with handover := none } }).raiseLead Ev.leadReturned
        [s.lead.epoch, Config.leadCause (if seq = 0 then 7 else 6)]).prepareHeld.settleBoundary.disarmSettle)
  | none => s

/-! ## Preserves (11 R370 to R372) -/

/-- A tile's records of the tally. -/
def TileState.tallyRec (x : TileState) : TallyRec :=
  { hours := x.boot.hours, cycles := x.boot.cycles, heat := x.boot.tallyHeat, lanes := x.boot.tallyLane.toList.map (·.toList),
    coldStarts := x.boot.coldStarts, fires := x.boot.fires }

/-- The tally as a journal record holds it (19 R586). -/
def State.tallyLog (s : State) : TallyLog :=
  { tiles := s.tileList.map (fun t => (s.tileN t).tallyRec), mods := s.tallyMod, col := s.tallyCol }

/-- What a preserve holds as of now (11 R371). -/
def State.presBody (s : State) : PresBody :=
  { items := PMap.putAll s.job.base.items s.job.staged, counters := s.marks.counters.toList,
    cal := vget s.marks.cal s.lead.tile Cal.reset, colour := s.colour, nodes := s.link.nodes, table := s.link.table,
    targets := s.evh.targets.toList, evrs := s.tileList.map (fun t => (s.tileN t).evr), tally := s.tallyLog }

/-- The highest CSEQ committed. -/
def State.cseqCommitted (s : State) : Nat := ((s.job.commits.filter (·.committed)).map (·.cseq)).foldl max 0

/-- A preserve as of now, with the next PSEQ (11 R371). -/
def State.capture (s : State) : Preserve :=
  { pseq := s.lead.pseq, epoch := s.lead.epoch, line := s.motion.lastLine, time := s.now, cseq := s.cseqCommitted,
    cmdseq := s.qen.nextSeq - 1, good := true, body := s.presBody }

/-- The package with one more preserve captured. -/
def State.captured (s : State) : State :=
  ({ s with lead := { s.lead with pseq := (s.lead.pseq + 1) % 2 ^ 32 } }).updTileN s.lead.tile (fun x => { x with pseq := s.lead.pseq })

/-- The host controller runs on the lead. -/
def State.hostRuns (s : State) : Bool := decide (s.lead.cold = 0) && decide ((s.tileN s.lead.tile).boot.stage = 8) && (s.tileN s.lead.tile).on 2

/-- PRESERVE_CAPTURE: every 10 ms a preserve goes to the standby lead's DRAM (11 R370). -/
def State.preserveCapture (s : State) : State :=
  whenDue (s.hostRuns && (s.tileN s.standby).on 10) s
    (let s1 := s.captured
     { s1 with lead := { s1.lead with sent := some s.capture } })

/-- The slot that does not hold the latest valid preserve (11 R370). -/
def LeadSt.oldSlot (l : LeadSt) : Nat :=
  match vget l.slots 0 none, vget l.slots 1 none with
  | some a, some b => if a.pseq ≤ b.pseq then 0 else 1
  | some _, none => 1
  | none, _ => 0

/-- A class of TWN_ASSAY passes or fails: 0 pipelines, 1 timebase, 2 twin link, 3 preserve (11 R389). -/
def TileState.assay (x : TileState) (c : Nat) (ok : Bool) : TileState :=
  { x with
    assayPass := if ok then x.assayPass ||| 2 ^ c else x.assayPass &&& (15 - 2 ^ c)
    assayFailed := if ok then x.assayFailed else x.assayFailed ||| 2 ^ c }

/-- The header of a preserve with its kind, section count and total length (11 R371). -/
def Preserve.header (p : Preserve) (kind nsect len : Nat) : List Byte :=
  let h := leBytes 2 0x5250 ++ [1, BitVec.ofNat 8 kind] ++ leBytes 4 p.pseq ++ leBytes 2 p.epoch ++ leBytes 2 0 ++ leBytes 4 len
    ++ leBytes 6 p.line ++ leBytes 2 0 ++ leBytes 8 p.time ++ leBytes 4 p.cseq ++ leBytes 4 p.cmdseq ++ leBytes 2 nsect ++ leBytes 18 0
  h ++ leBytes 4 (crc32c h)

/-- The first of n sections that fails: its type, or 0 where the bytes do not hold a section header or go on after the last
(11 R371). -/
def badSection : Nat → List Byte → Option Nat
  | 0, bs => if bs.isEmpty then none else some 0
  | n + 1, bs =>
    let len := leAt bs 4 4
    let body := (bs.drop 16).take len
    if bs.length < 16 then some 0
    else if body.length = len ∧ leAt bs 12 4 = crc32c body then badSection n (bs.drop (16 + len))
    else some (leAt bs 0 2)

/-- What fails in the bytes of a preserve received: 0 its header, else a section's type (11 R372; log 130). -/
def Preserve.bad (p : Preserve) (kind : Nat) (bs : List Byte) : Option Nat :=
  let nsect := leAt bs 40 2
  if bs.take 64 = p.header kind nsect bs.length then badSection nsect (bs.drop 64) else some 0

/-- PRESERVE_RECEIVE: the standby keeps a valid preserve, and reports a bad one with its section (11 R363, R372). -/
def State.preserveReceive (s : State) (data : List Byte) : State :=
  let b := s.standby
  match s.lead.sent with
  | none => s
  | some p =>
    let s1 := { s with lead := { s.lead with sent := none } }
    match p.bad s.lead.oldSlot data with
    | none =>
      let s2 := { s1 with lead := { s1.lead with slots := vset s1.lead.slots s1.lead.oldSlot (some p), recvAt := some s.now } }
      s2.updTileN b (fun x => ({ x with pseq := p.pseq }).assay 3 true)
    | some sec => (s1.updTileN b (fun x => x.assay 3 false)).raiseLead Ev.preserveBad [p.pseq, sec]

/-- A preserve is written to the flash journal, for a packet or for none (11 R370, 19 R582). -/
def State.presToFlash (s : State) (seq : Nat) : State :=
  let s1 := s.captured
  s1.flashWrite { FlashJob.of 1 seq with pres := some s.capture }

/-- PRESERVE_FLASH_WRITE: every TWN_PRES_FLASH seconds (11 R370). -/
def State.preserveFlash (s : State) : State := whenDue s.hostRuns s (s.presToFlash 0)

/-! ## Assay (11 R363 to R365) -/

/-- The raster domains of a tile are on. -/
def TileState.rasterOn (x : TileState) : Bool := x.on 6 && x.on 7 && x.on 8

/-- ASSAY_SET_START: the edge role moves to the next of the 33 slices (11 R364). -/
def State.assayStart (s : State) (t : Nat) : State :=
  let x := s.tileN t
  whenDue (x.rasterOn && x.assayRun.isNone) s (s.updTileN t (fun x => { x with edge := (x.edge + 1) % 33, assayRun := some s.now, assayMax := s.itemN Pid.twnAssayStrikes }))

/-- ASSAY_SET_END: the result becomes the last raster assay; strikes may withdraw the tile (11 R364, R365). -/
def State.assayEnd (s : State) (t : Nat) (pass : Bool) (stage : Nat) : State :=
  let x := s.tileN t
  let p := s.tileN (partnerOf t)
  if !x.rasterOn || x.assayRun.isNone then s
  else
    let s1 := s.updTileN t (fun x => { x with
      assayRun := none, lastAssay := some pass, strikes := if pass then 0 else x.strikes + 1 }.assay 0 pass)
    if pass then s1
    else
      let s2 := s1.raiseN t Ev.assayFail [t, 0, stage, x.edge]
      if decide (x.assayMax ≤ x.strikes + 1) && decide (p.lastAssay = some true) && decide (p.twin = .paired) then s2.withdraw t 2 else s2

/-! ## Clocks (01 R40, R42; 11 R349, R373) -/

/-- REFCLK_LOST and PLL_UNLOCK: the tile withdraws, and the lead moves if it holds it. Their data, the tile, is the model's (01
R40, log 120). -/
def State.clockLost (s : State) (t ev reason : Nat) : State :=
  whenDue (s.tileN t).clockOk s
    (((((s.updTileN t (fun x => { x with clockOk := false })).raiseN t ev [t]).withdraw t 3).motionRole).leadFails t reason)

/-- WATCHDOG_EXPIRY (11 R349, R373). -/
def State.watchdog (s : State) (t : Nat) : State := whenDue ((s.tileN t).on 1) s ((s.withdraw t 10).leadFails t 3)

/-- The slew of one tick towards the master (01 R42). -/
def slewOf (d : Int) : Int := if 0 < d then -1 else if d < 0 then 1 else 0

/-- TIME_ALIGN_CHECK: every 1,024 ticks a tile measures its TIME against the master's; its next tick is omitted or added to
correct a difference, and one beyond 2 ticks withdraws it. TIME that fell back between two comparisons holds until it has
caught up. The data of TIME_ALIGN_FAULT, tile and difference, is the model's (01 R41, R42; log 120). -/
def State.alignCheck (s : State) (t : Nat) (diff : Int) : State :=
  let x := s.tileN t
  if decide (t = 0) || (x.alignAt.map (fun a => decide (s.now < a + 1024))).getD false then s
  else
    let ok := decide (diff.natAbs ≤ 2)
    let s1 := s.updTileN t (fun x => { x with
      skew := diff, timeMin := s.tileNow (tileIx t), alignAt := some s.now, slew := slewOf diff }.assay 1 ok)
    if ok then s1 else ((s1.raiseN t Ev.timeAlignFault [t, wrapS 64 diff]).withdraw t 4).motionRole

/-! ## The fabric (01 R29, R32) -/

/-- A tile still reaches T0 over the ring: hop i joins tile i and the next. -/
def State.reaches0 (s : State) (t : Nat) : Bool :=
  (List.range t).all (fun h => !s.hops.contains h) || ((List.range s.nTiles).filter (fun h => decide (t ≤ h))).all (fun h => !s.hops.contains h)

/-- FABRIC_HOP_DOWN: the first failed hop reroutes, the second splits the ring. The lead raises both events; a hop that splits
the ring raises FABRIC_SPLIT alone, with its number (01 R32, log 120). -/
def State.hopDown (s : State) (h : Nat) : State :=
  if s.hops.contains h || decide (s.nTiles ≤ h) then s
  else
    let s1 := { s with hops := s.hops ++ [h] }
    if s1.hops.length = 1 then s1.raiseLead Ev.fabricHopDown [h]
    else
      let s2 := (s.tileList.filter (fun t => !s1.reaches0 t)).foldl (fun s t => s.withdraw t 5) s1
      s2.raiseLead Ev.fabricSplit [h]

/-! ## Heartbeats (11 R352) -/

/-- HEARTBEAT_SEND: every 4,096 ticks, over the twin link and over the fabric; one that arrives over the twin link passes its
assay (11 R352, R363). -/
def State.heartbeat (s : State) (t : Nat) : State :=
  let x := s.tileN t
  let p := partnerOf t
  let link := vget s.linkUp (t / 2) true && x.on 8
  whenDue (x.on 1 && x.clockOk && decide (x.hbSent + 4096 ≤ s.now)) s
    ((s.updTileN t (fun x => { x with hbSent := s.now })).updTileN p (fun y => { y with
      hbLink := if link then s.now else y.hbLink
      hbFabric := if s.reaches0 t = s.reaches0 p then s.now else y.hbFabric
      hbMiss := s.itemN Pid.twnHbMiss
      assayPass := if link then y.assayPass ||| 4 else y.assayPass }))

/-! ## Meanings -/

/-- R359: COMMIT_PREPARE_RECEIVE. -/
def execCommitPrepareReceive (t : Tile) (cseq : Nat) (s : State) : Out := onTile t s (s.commitPrepared t cseq)
/-- R359: COMMIT_ACK_RECEIVE. -/
def execCommitAckReceive (t : Tile) (cseq : Nat) (s : State) : Out := onTile t s (s.commitAcked t cseq)
/-- R374: HOST_CONTROLLER_COLD_START_DONE. -/
def execHostControllerColdStartDone (s : State) : Out := .next s.coldStarted
/-- R376: HOST_PORT_RETRY. -/
def execHostPortRetry (ok : Bool) (s : State) : Out := .next (s.portRetry ok)
/-- R419: PCIE_LINK_STATE_CHANGE. -/
def execPcieLinkStateChange (port : Fin 2) (st : Fin 6) (s : State) : Out := .next (s.linkState port.val st.val)
/-- R379: TAKEBACK_START. -/
def execTakebackStart (s : State) : Out := .next s.takeback
/-- R380: HANDOVER_END. -/
def execHandoverEnd (s : State) : Out := .next s.handoverEnd
/-- R370: PRESERVE_CAPTURE. -/
def execPreserveCapture (s : State) : Out := .next s.preserveCapture
/-- R370: PRESERVE_FLASH_WRITE. -/
def execPreserveFlashWrite (s : State) : Out := .next s.preserveFlash
/-- R372: PRESERVE_RECEIVE. -/
def execPreserveReceive (data : List Byte) (s : State) : Out := .next (s.preserveReceive data)
/-- R364: ASSAY_SET_START. -/
def execAssaySetStart (t : Tile) (s : State) : Out := onTile t s (s.assayStart t.val)
/-- R365: ASSAY_SET_END. -/
def execAssaySetEnd (t : Tile) (pass : Bool) (stage : Nat) (s : State) : Out := onTile t s (s.assayEnd t.val pass stage)
/-- R40: REFCLK_LOST. -/
def execRefclkLost (t : Tile) (s : State) : Out := onTile t s (s.clockLost t.val Ev.refclkLost 1)
/-- R40: PLL_UNLOCK. -/
def execPllUnlock (t : Tile) (s : State) : Out := onTile t s (s.clockLost t.val Ev.pllUnlock 2)
/-- R349: WATCHDOG_EXPIRY. -/
def execWatchdogExpiry (t : Tile) (s : State) : Out := onTile t s (s.watchdog t.val)
/-- R42: TIME_ALIGN_CHECK. -/
def execTimeAlignCheck (t : Tile) (diff : Int) (s : State) : Out := onTile t s (s.alignCheck t.val diff)
/-- R32: FABRIC_HOP_DOWN. -/
def execFabricHopDown (hop : Fin 8) (s : State) : Out := onTile hop s (s.hopDown hop.val)
/-- R352: HEARTBEAT_SEND. -/
def execHeartbeatSend (t : Tile) (s : State) : Out := onTile t s (s.heartbeat t.val)

end Sys2Proof.Machine
end

