-- ==== Sys2Proof/Machine/Power.lean ====
section
/-! DEFINITION. Power domains (01 R46 to R53, 13 R454), the boot of a tile (19 R576 to R580), the restart and the rejoin of a
tile (11 R367, R383), and the cold reset (19 R568). -/

namespace Sys2Proof.Machine

/-! ## Domains (01 R46 to R50) -/

/-- Every domain of a tile. -/
def pdAll : Nat := 0x7FFF
/-- The domains bonded on a tile (01 R46, R47). -/
def bonded (t : Nat) : Nat := if t < 2 then pdAll else 0x3DF7
/-- The proof display is on: some port runs (17 R535). -/
def State.dispOn (s : State) : Bool := (s.dsp.toList).any (fun d => decide (d.st ≠ 0))

/-- The domains the lead needs on its tile (01 R48). -/
def State.leadDomains (s : State) (t : Nat) : Nat :=
  if s.lead.tile = t then 2 ||| 4 ||| 8 ||| (if s.dispOn then 0x200 else 0) else if s.dispOn && t < 2 then 0x200 else 0

/-- The domains of a mask that the tile needs for printing. -/
def State.printNeeds (s : State) (t mask : Nat) : Nat := if s.armed then mask &&& s.jobDomains t &&& (pdAll - 1) else 0

/-- A tile leaves every lane of a domain. -/
def TileState.dropLanes (x : TileState) (d : Nat) : TileState :=
  { x with lanes := (domainLanes d).foldl (fun v l => vset v l LaneHw.reset) x.lanes }

/-- What a domain holds is lost as it is switched off; the event router's state is retained (00 R11, 14 R472, 15 R477). -/
def TileState.lose (x : TileState) (d : Nat) : TileState :=
  match d with
  | 1 => { x with evr := x.evr.retain }
  | 4 => { x with streams := x.streams.map (·.cleared), unsettled := [], verdicts := [] }
  | 5 => { x with die := { x.die with viewmap := Die.reset.viewmap } }
  | 6 => { x with die := { x.die with glyphs := Die.reset.glyphs } }
  | 7 => { x with assayRun := none, die := { x.die with screen := Die.reset.screen } }
  | 8 => { x with die := { x.die with slots := [] }, delay := [], fired := [], records := [], partner := [], recs := [], gov := [], opening := [], missing := none,
                  unsettled := [], verdicts := [], deps := [], taken := 0, laneBusy := Vector.replicate 10 0, voidCnt := [], sigSkip := 0, sigMismatch := 0, assayPass := 0, assayFailed := 0 }
  | 10 => { x with mem := [], memc := Memc.reset, streams := x.streams.map (·.cleared), boot := { x.boot with fires := [] },
                   latchHi := x.latchHi.filter (fun e => e.1 / 0x40000 != 4) }
  | 11 => x.dropLanes 11
  | 12 => x.dropLanes 12
  | 13 => x.dropLanes 13
  | 14 => { x with motFault := 0, latchHi := x.latchHi.filter (fun e => e.1 / 0x40000 != 3) }
  | _ => x

/-- A mask without a domain. -/
def clearBit (m d : Nat) : Nat := if bit m d then m - 2 ^ d else m

/-- What the command engine of a tile holds is lost with PD_CMD: its QEN_STRAY and its MSI-X table, and every queue and QEN field
where no other tile has taken the lead; what the endpoints hold stays (00 R11; 12 R421, R429). -/
def State.cmdLost (s : State) (t : Nat) : State :=
  let q := { s.qen with stray := if t < 2 then vset s.qen.stray t 0 else s.qen.stray, msix := if t < 2 then vset s.qen.msix t Msix.reset else s.qen.msix }
  { s with qen := if s.lead.tile = t then
      { Qen.reset with stray := q.stray, ports := q.ports, msix := q.msix, sentVec := q.sentVec, nextSeq := q.nextSeq, nextDisp := q.nextDisp }
    else q }

/-- One domain of a tile switched off. -/
def State.domOff (s : State) (t d : Nat) : State :=
  let x := s.tileN t
  if !x.on d then s.updTileN t (fun x => { x with pdBusy := clearBit x.pdBusy d })
  else
    let s1 := s.updTileN t (fun x => { x.lose d with pdOn := clearBit x.pdOn d, pdBusy := clearBit x.pdBusy d })
    if d = 2 then s1.cmdLost t
    else if d = 3 then s1.updPort t (fun _ => Port.reset)
    else if d = 14 then s1.motionDown t
    else if d = 9 then s1.portStop t
    else if d = 10 && t = 1 then { s1 with lead := { s1.lead with slots := Vector.replicate 2 none } }
    else s1

/-- Domains of a tile switched off: a tile that needs one for printing withdraws first; one whose PD_CTL goes is OFF; a
lead whose domains drop fails (01 R50; 11 R347, R373). -/
def State.domsOff (s : State) (t mask : Nat) : State :=
  let x := s.tileN t
  let s1 := if s.printNeeds t mask ≠ 0 && x.withdrawable then s.withdraw t 1 else s
  let s2 := if bit mask 1 && x.on 1 then s1.setTwin t .off 0 x.begun else s1
  let s3 := if s.lead.tile = t && mask &&& 14 ≠ 0 then s2.leadFails t 4 else s2
  let s4 := (bitsOf 15 mask).foldl (fun s d => if d = 0 then s else s.domOff t d) s3
  s4.motionRole

/-- A domain of a tile starts to switch on (01 R49). -/
def State.domOn (s : State) (t d : Nat) : State :=
  if (s.tileN t).on d then s else s.updTileN t (fun x => { x with pdBusy := x.pdBusy ||| 2 ^ d })

/-- The lanes of a domain that the bar settings name start training (01 R49, 19 R576). -/
def State.trainNamed (s : State) (t d : Nat) : State :=
  let named := s.usedBars.flatMap (fun b => [s.itemN (Pid.barLane b), s.itemN (Pid.barAlt b)])
  ((domainLanes d).filter (fun l => named.contains l)).foldl (fun s l => s.trainLane t l) s

/-- A domain is ready: what its hardware does as it comes up (14 R472, 15 R477, 19 R576). -/
def State.domUp (s : State) (t d : Nat) : State :=
  let s1 := s.updTileN t (fun x => { x with pdOn := x.pdOn ||| 2 ^ d, pdBusy := clearBit x.pdBusy d })
  match d with
  | 1 =>
    let s2 := s1.evrRestore t
    if (s2.tileN t).twin = .off then
      (s2.setTwin t .boot 0 (s2.tileN t).begun).updTileN t (fun x => { x with boot := { x.boot with stage := 1, cause := 0, asked := false } })
    else s2
  | 9 =>
    let byDisp := (s.tileN t).pdWait.any (fun w => bit w.2.1 9 && ((s.entry w.1).map (fun e => e.p.opcode == 0x0C02)).getD false)
    if byDisp then s1.portStart t else s1
  | 10 => s1.updTileN t (fun x => { x with memc := s1.memcOn t })
  | 11 => s1.trainNamed t 11
  | 12 => s1.trainNamed t 12
  | 13 => s1.trainNamed t 13
  | 14 => s1.motionUp t
  | _ => s1

/-- Packets that waited for domains of a tile, all of them on now, complete unless another tile still holds them. -/
def State.domSettle (s : State) (t : Nat) : State :=
  let x := s.tileN t
  let done := x.pdWait.filter (fun w => decide (w.2.1 &&& x.pdOn = w.2.1))
  let s1 := s.updTileN t (fun x => { x with pdWait := x.pdWait.filter (fun w => !decide (w.2.1 &&& x.pdOn = w.2.1)) })
  done.foldl (fun s w =>
    if s.tileList.any (fun u => (s.tileN u).pdWait.any (fun v => v.1 == w.1)) then s else s.done w.1 St.ok) s1

/-- The ticks within which a domain must be ready (01 R49; a lane domain with its training, 16 R503). -/
def domBound (d : Nat) : Nat := if d = 10 then 750_000 else if 11 ≤ d ∧ d ≤ 13 then 12_500 + 2_500_000 else 12_500

/-- Domains of a tile that are not ready in their time stay off, and their packet completes with ST_DOMAIN_FAIL; every other
domain it names is left switched (01 R49; 13 R454). -/
def State.domLate (s : State) (t : Nat) : State :=
  let late := fun (w : Nat × Nat × Nat) => (bitsOf 15 w.2.1).filter (fun d => !(s.tileN t).on d && decide (w.2.2 + domBound d < s.now))
  ((s.tileN t).pdWait.filter (fun w => !(late w).isEmpty)).foldl (fun s w =>
    (s.updTileN t (fun x => { x with
      pdWait := x.pdWait.filter (fun v => v.1 != w.1), pdBusy := (late w).foldl clearBit x.pdBusy })).done w.1 St.domainFail) s

/-! ## SVC.POWER (13 R454) -/

/-- A tile named in DW2. -/
def tileArg (p : Packet) : Nat := p.f 2 2 0

/-- Checks of SVC.POWER. -/
def checkSvcPower (s : State) (p : Packet) : Nat × Nat × Nat :=
  let t := tileArg p
  let on := p.f 3 14 0
  let off := p.f 4 14 0
  let needs := s.printNeeds t off ≠ 0 && (s.tileN t).carries && s.lastOfTwin t
  if t < s.nTiles && (on &&& off ≠ 0 || bit off 0 || on &&& bonded t ≠ on) then (St.svcArg, 0, 0)
  else if s.nTiles ≤ t then (St.twinArg, 0, 0)
  else if needs || off &&& s.leadDomains t ≠ 0 then (St.domainInUse, 0, 0)
  else (St.ok, 0, 0)

/-- SVC.POWER: domains off at once, domains on until they are ready. -/
def actSvcPower (s : State) (p : Packet) (_ : List Byte) : State :=
  let t := tileArg p
  let s1 := s.domsOff t (p.f 4 14 0)
  let wait := maskOf 15 (fun d => bit (p.f 3 14 0) d && !(s1.tileN t).on d)
  let s2 := (bitsOf 15 wait).foldl (fun s d => s.domOn t d) s1
  if wait = 0 then s2.done p.seq St.ok
  else (s2.updTileN t (fun x => { x with pdWait := x.pdWait ++ [(p.seq, wait, s.now)] })).park p.seq .work

/-- SVC.POWER. -/
def opSvcPower : OpDef :=
  { code := 0x0E01, cls := clsS, named := [7, 0x7FFF, 0x7FFF], prot := noProt, access := noAccess, check := checkSvcPower,
    read := noRead, waits := noWaits, bind := noBind, act := actSvcPower }

/-! ## Restart and rejoin (11 R367, R383) -/

/-- A tile power-cycles every domain but PD_AON and boots, on a slot; its TWN registers but the kept ones are reset (00 R11,
11 R383, R389; 14 R472; 17 R536). -/
def State.restartTile (s : State) (t slot : Nat) : State :=
  let s1 := s.setTwin t .boot 0 (s.tileN t).begun
  let s2 := (List.range 14).foldl (fun s i => s.domOff t (i + 1)) s1
  s2.updTileN t (fun x => { x with
    die := Die.reset, evr := Evr.reset, clockOk := true, skew := 0, slew := 0, alignAt := none, sigSkip := 0, sigMismatch := 0, assayFailed := 0, assayPass := 0, lastAssay := none, edge := 32,
    assayRun := none, strikes := 0, portFault := false, pseq := 0, startLine := none, missing := none, deps := [], posLine := 0, cmax := 0, pdWait := [],
    heldCommits := [], appliedCommits := [], latchHi := []
    boot := { x.boot with stage := 1, cause := 0, slot := slot, asked := false } })

/-- A tile starts to take its partner's copy (11 R367). -/
def State.startResync (s : State) (t : Nat) : State :=
  (s.setTwin t .resync 0 (s.tileN t).begun).updTileN t (fun x => { x with startLine := none, missing := none, deps := [] })

/-- The packet of a rejoin waits for the start line. -/
def State.rejoinFor (s : State) (t seq : Nat) : State :=
  (s.park seq .work).updTileN t (fun x => { x with rejoinSeq := some seq })

/-- Neither tile of a twin prints since both withdrew with cause TIME, and the package is in alignment again: a tile rejoins
with what it holds itself (01 R43; 10 R326; log 129). -/
def State.timeAlone (s : State) (t : Nat) : Bool :=
  let y := s.tileN (partnerOf t)
  decide ((s.tileN t).cause = 4 ∧ y.twin = .withdrawn ∧ y.cause = 4 ∧ s.link.role = 0) && !s.link.pressFault

/-- A tile that may start a rejoin: WITHDRAWN, its partner printing over a link that is up, or both withdrawn for TIME; its
clock good and its domains on (11 R367; 01 R40, R43). -/
def State.canRejoin (s : State) (t : Nat) : Bool :=
  let x := s.tileN t
  decide (x.twin = .withdrawn) && x.clockOk && decide (x.boot.stage = 8)
    && (((s.tileN (partnerOf t)).printing && vget s.linkUp (t / 2) true) || s.timeAlone t)
    && decide (x.pdOn &&& 0x0DD2 = 0x0DD2)

/-- The image of a tile excludes the operating level (11 R368). -/
def State.excludes (s : State) (t : Nat) : Bool :=
  let r := (s.tileN t).boot.pcl
  !decide (r.1 ≤ s.job.level ∧ s.job.level ≤ r.2)

/-- Heat, or the sensor, forbids PD_CTL at power-on (18 R547). -/
def State.heatForbids (s : State) (t : Nat) : Bool :=
  let x := (s.tileN t).thm
  x.sensorBad || decide (s.item (Pid.thmShut t) - s.item (Pid.thmShutHyst t) ≤ x.temp ∧ x.conv ≠ [])

/-- A tile withdrawn with cause THERMAL starts its rejoin by itself once its step is 0 again and its domains are on (18
R548). -/
def State.thermalRejoin (s : State) (t : Nat) : State :=
  let x := s.tileN t
  if decide (x.cause = 7 ∧ x.thm.step = 0) && !x.thm.shut && decide (s.itemN (Pid.thmAutoRejoin t) = 1) && s.canRejoin t && !s.excludes t then
    s.startResync t
  else s

/-- DOMAIN_READY: a domain switching on becomes ready; PD_CTL is not switched on while heat forbids it (01 R49, 18
R547). -/
def State.domainReady (s : State) (t d : Nat) : State :=
  whenDue (bit (s.tileN t).pdBusy d && !(d == 1 && s.heatForbids t)) s (((s.domUp t d).domSettle t).thermalRejoin t)

/-- What a tile takes from its partner at the end of the copy (11 R367). -/
def TileState.copyFrom (x y : TileState) : TileState :=
  { x with
    mem := y.mem, die := y.die, memc := { x.memc with poison := y.memc.poison }, recs := y.recs, gov := y.gov, opening := y.opening, delay := [], short := y.short,
    prefetch := y.prefetch, streams := y.streams.map (·.cleared), heldCommits := y.heldCommits,
    appliedCommits := y.appliedCommits, begun := y.begun, unsettled := [], verdicts := [], deps := [], fired := [],
    taken := ((y.fired.head?).map (·.line)).getD y.taken, records := [], partner := [], pdNeed := y.pdNeed,
    scanLead := x.scanLead }

/-- What a tile that rejoins on its own goes on from: its memory and tables, no line begun (01 R43). -/
def TileState.resumeAlone (x : TileState) (last : Nat) : TileState :=
  { x with streams := x.streams.map (·.cleared), begun := last + 1, unsettled := [], verdicts := [], deps := [], fired := [], taken := last,
           records := [], partner := [], delay := [] }

/-- RESYNC_COPY_DONE: the partner's copy ends, or is not needed where both tiles withdrew for TIME, and the lead commits the start line; with no job armed the tile waits in
FILL for JOB.ARM (11 R348, R367). -/
def State.copyDone (s : State) (t : Nat) : State :=
  let x := s.tileN t
  let y := s.tileN (partnerOf t)
  let copy := y.printing && vget s.linkUp (t / 2) true
  if !x.copying || !(copy || s.timeAlone t) then s
  else
    let s1 := s.updTileN t (fun x => { (if copy then x.copyFrom y else x.resumeAlone s.motion.lastLine) with startLine := some 0, rejoinSeq := none })
    let seq := x.rejoinSeq.getD 0
    if s1.armed then
      let s2 := if seq = 0 then s1 else s1.park seq (.commit s1.job.cseq)
      s2.prepare (.start t) 0 seq
    else
      let n := s1.motion.lastLine + 1
      ((s1.setTwin t .fill 0 n).updTileN t (fun x => { x with startLine := some n })).doneLine seq St.ok n

/-! ## Boot (19 R576 to R580) -/

/-- The package with the boot registers of a tile changed. -/
def State.updBoot (s : State) (t : Nat) (f : Boot → Boot) : State := s.updTileN t (fun x => { x with boot := f x.boot })

/-- The directory copy in force: the valid one with the higher DSEQ (19 R573). -/
def Flash.dirAt (f : Flash) : Nat :=
  let a := f.dirs.get 0
  let b := f.dirs.get 1
  if b.good && (!a.good || decide (a.dseq < b.dseq)) then 1 else 0
/-- The directory in force. -/
def Flash.dir (f : Flash) : Dir := if f.dirAt = 0 then f.dirs.get 0 else f.dirs.get 1
/-- The ACTIVE slot. -/
def Flash.active (f : Flash) : Nat := f.dir.active
/-- The state of a flash slot (19 R573). -/
def Flash.stateOf (f : Flash) (slot : Nat) : Nat := if slot = 0 then f.dir.stateA else f.dir.stateB
/-- FWVER of a slot's header, 0 where it holds no image. -/
def Flash.fwver (f : Flash) (slot : Nat) : Nat := ((vget f.slots slot none).map (·.fwver)).getD 0
/-- The directory written: the copy that is not in force takes it with the next DSEQ and the headers' FWVER (19 R573). -/
def Flash.writeDir (f : Flash) (g : Dir → Dir) : Flash :=
  { f with dirs := vset f.dirs (1 - f.dirAt) { g f.dir with
      dseq := (f.dir.dseq + 1) % 2 ^ 32, fwverA := f.fwver 0, fwverB := f.fwver 1, good := true } }
/-- The directory written with a slot's state. -/
def Flash.setState (f : Flash) (slot st : Nat) : Flash :=
  f.writeDir (fun d => if slot = 0 then { d with stateA := st } else { d with stateB := st })
/-- The directory written with another slot ACTIVE and both VALID (19 R592). -/
def Flash.activate (f : Flash) (slot : Nat) : Flash := f.writeDir (fun d => { d with active := slot, stateA := 1, stateB := 1 })

/-- A restart on the ACTIVE slot after a failed update: the slot is BAD, BOOT_FAIL is raised, and the command completes
(19 R591). -/
def State.updateFails (s : State) (t cause : Nat) : State :=
  match s.lead.updating.find? (fun u => u.2.1 == t) with
  | none => s
  | some (seq, _, _) =>
    let x := s.tileN t
    let f := s.flash.setState (1 - s.flash.active) 3
    let s1 := { s with flash := f, lead := { s.lead with upd := 3, updating := s.lead.updating.filter (fun u => u.2.1 != t) } }
    let s2 := (s1.raiseLead Ev.bootFail [t, x.boot.stage, cause, x.boot.slot]).done seq (if cause = 8 then St.twinCompat else St.twinState)
    let s3 := s2.updTileN t (fun x => { x with rejoinSeq := none })
    (if (s3.tileN t).withdrawable then s3.withdraw t 8 else s3).restartTile t s.flash.active

/-- A tile enters FAILED: the lead reports it, and what waits for it goes on (19 R577; 13 R440). -/
def State.bootFails (s : State) (t cause : Nat) : State :=
  let x := s.tileN t
  if s.lead.updating.any (fun u => u.2.1 == t) then (s.updBoot t (fun b => { b with stage := 15, cause := cause })).updateFails t cause
  else
    let s1 := (s.updBoot t (fun b => { b with stage := 15, cause := cause })).raiseLead Ev.bootFail [t, x.boot.stage, cause, x.boot.slot]
    let s2 := match x.rejoinSeq with
      | some seq => (s1.updTileN t (fun x => { x with rejoinSeq := none })).done seq (if cause = 8 then St.twinCompat else St.twinState)
      | none => s1
    (s2.armTwins).armSettle

/-- Every tile that has reached READY since the cold start runs a slot. -/
def State.allRun (s : State) (slot : Nat) : Bool :=
  s.tileList.all (fun t => !(s.tileN t).boot.reached || (s.tileN t).boot.slot == slot)

/-- The end of an update: the staged slot becomes ACTIVE, or the package is back on it (19 R592). -/
def State.updateSettle (s : State) : State :=
  let other := 1 - s.flash.active
  if !s.lead.updating.isEmpty then s
  else if s.lead.upd = 2 && s.allRun other then
    { s with flash := s.flash.activate other, lead := { s.lead with upd := 0 } }
  else if s.lead.upd = 3 && s.allRun s.flash.active then { s with lead := { s.lead with upd := 0 } }
  else s

/-- A tile has reached PAIRED: its update, if any, has succeeded (19 R591). -/
def State.updatePaired (s : State) (t : Nat) : State :=
  ({ s with lead := { s.lead with updating := s.lead.updating.filter (fun u => u.2.1 != t) } }).updateSettle

/-- A tile reaches READY: twin state BOOT; it resyncs where its partner prints an armed job, and prints where JOB.ARM
waits for it (11 R348, 19 R576, R592). -/
def State.bootReady (s : State) (t : Nat) : State :=
  let s1 := (s.updBoot t (fun b => { b with stage := 8, reached := true, aonValid := true })).updTileN t (fun x => { x with
    hbSent := s.now, hbLink := s.now, hbFabric := s.now, hbMiss := s.itemN Pid.twnHbMiss })
  let s2 := s1.updTileN (partnerOf t) (fun x => { x with hbLink := s.now, hbFabric := s.now, hbMiss := s.itemN Pid.twnHbMiss })
  let x := s2.tileN t
  let y := s2.tileN (partnerOf t)
  let s3 :=
    if x.twin ≠ .boot then s2
    else if s2.armed && y.carries && (s2.job.arming.isNone || decide (y.twin = .solo)) then s2.startResync t
    else match x.rejoinSeq with
      | some seq => (s2.updTileN t (fun x => { x with rejoinSeq := none })).done seq St.ok
      | none => s2
  ((s3.armTwins).armSettle).updateSettle

/-- The domains that come up with a boot stage's end: PD_CTL after ROM; the rest but lanes, host and display after
MEMTRAIN; lanes with it, for LANES; the host port at HOST (19 R576; log 45). -/
def State.bootOn (s : State) (t mask : Nat) : State :=
  (bitsOf 15 (mask &&& bonded t)).foldl (fun s d => if (s.tileN t).on d then s else s.domUp t d) s

/-- The image of a tile is accepted: its compatibility range (19 R574, R577). -/
def State.imageDone (s : State) (t : Nat) : State :=
  let img := vget s.flash.slots (s.tileN t).boot.slot none
  s.updBoot t (fun b => { b with stage := 3, pcl := match img with
    | some i => (i.pclMin, i.pclMax)
    | none => b.pcl })

/-- A tile has reached PAIR in this boot (19 R579). -/
def TileState.reachedPair (x : TileState) : Bool := decide (5 ≤ x.boot.stage ∧ x.boot.stage ≤ 8)

/-- A tile leaves PAIR: the operating level after a cold start, its range, its next stage (19 R576, R579). -/
def State.pairDone (s : State) (t : Nat) : State :=
  let cold := s.tileList.all (fun u => !(s.tileN u).boot.reached)
  let maxes := (s.tileList.filter (fun u => (s.tileN u).reachedPair)).map (fun u => (s.tileN u).boot.pcl.2)
  let s1 := if cold then { s with job := { s.job with level := maxes.foldl min (s.tileN t).boot.pcl.2 } } else s
  let s2 := if (s1.tileN (partnerOf t)).reachedPair then { s1 with linkUp := vset s1.linkUp (t / 2) true } else s1
  if s2.excludes t then s2.bootFails t 8
  else if t = s2.lead.tile && cold then s2.updBoot t (fun b => { b with stage := 6 })
  else if t < 2 then s2.updBoot t (fun b => { b with stage := 7 })
  else s2.bootReady t

/-- The calendars at power-up: the lead takes T0's if valid, else T1's, and loads the other (05 R167). -/
def State.calPowerUp (s : State) : State :=
  let u := (s.calSettle 0).calSettle 1
  let a := vget u.marks.cal 0 Cal.reset
  let b := vget u.marks.cal 1 Cal.reset
  let c := if a.valid then a else b
  if a.valid || b.valid then { u with marks := { u.marks with cal := Vector.replicate 2 c } } else u

/-- A counter resumed from a flash preserve: CNT_GAP steps on (05 R184). -/
def State.gapCounter (s : State) (c : Nat) (x : Counter) : Counter :=
  let m := s.job.base.items
  let g := fun (pid : Nat → Nat) => PMap.item m (pid c)
  let stop := decide (g Pid.cntOnLimit = 1)
  (List.range (g Pid.cntGap).toNat).foldl (fun y _ =>
    if y.stopped then y else (y.advance (g Pid.cntStart) (g Pid.cntStep) (g Pid.cntLimit) stop).c) x

/-- Counters at a cold start: from the shadow of the tile that takes the lead, else from the preserve with a gap, whose advances
the shadows take too (05 R184). -/
def State.restoreCounters (s : State) : State :=
  let k := s.lead.tile
  if (s.tileN k).boot.aonValid && vget s.marks.shadowOk k true then
    let sh := vget s.marks.shadow k []
    { s with marks := { s.marks with counters := Vector.ofFn (n := 64) (fun i => NMap.get Counter.reset sh i.val) } }
  else match s.flash.preserve with
    | none => s
    | some p =>
      (List.range 64).foldl (fun s c =>
        let y := s.gapCounter c (p.body.counters.getD c Counter.reset)
        (s.updMarks (fun m => { m with
          counters := vset m.counters c y, shadow := m.shadow.map (fun x => NMap.set Counter.reset x c y), shadowOk := Vector.replicate 2 true })).raiseLead
          Ev.counterGap [c, y.cur]) s

/-- Colour state at a cold start: offsets, base tables, targets and calibration restored, every channel OPEN (19 R580). -/
def Colour.restore (c p : Colour) : Colour :=
  { c with
    paper := p.paper, calib := p.calib, calDays := p.calDays
    ch := Vector.ofFn (n := 12) (fun i => let y := vget p.ch i.val ColCh.reset; { ColCh.reset with st := .opened, off := y.off, tgt := y.tgt, base := y.base }) }

/-- The later of two calibrations (08 R269). -/
def Calib.later (a b : Option Calib) : Option Calib :=
  match a, b with
  | some x, some y => if y.second ≤ x.second then some x else some y
  | some x, none => some x
  | none, y => y

/-- Counts of PD_AON that were lost resume from a record of the tally; they only ever grow (19 R586). -/
def Boot.resume (b : Boot) (r : TallyRec) : Boot :=
  { b with
    hours := max b.hours r.hours, cycles := max b.cycles r.cycles, coldStarts := max b.coldStarts r.coldStarts
    tallyHeat := (max b.tallyHeat.1 r.heat.1, max b.tallyHeat.2 r.heat.2)
    tallyLane := Vector.ofFn (n := 10) (fun i => Vector.ofFn (n := 4) (fun j =>
      max ((b.tallyLane.get i).get j) ((r.lanes.getD i.val []).getD j.val 0))) }
/-- The lead's records of the tally, each the larger of two. -/
def tallyMax (m p : NMap Nat) : NMap Nat := p.foldl (fun m e => NMap.set 0 m e.1 (max (NMap.get 0 m e.1) e.2)) m
/-- The tally shadow of a preserve: the lead's records, and the counts of the tiles whose own are lost (19 R580, R584). -/
def State.restoreTally (s : State) (p : TallyLog) : State :=
  let s1 := { s with tallyMod := tallyMax s.tallyMod p.mods, tallyCol := tallyMax s.tallyCol p.col }
  s1.tileList.foldl (fun s t => match p.tiles[t]? with
    | some r => s.updBoot t (fun b => if b.aonlost then b.resume { r with coldStarts := satInc 32 r.coldStarts } else b)
    | none => s) s1
/-- The event routers' configuration of a preserve (19 R580). -/
def State.restoreEvr (s : State) (l : List Evr) : State :=
  s.tileList.foldl (fun s t => match l[t]? with
    | some e => s.updEvr t (fun x => x.configure e)
    | none => s) s

/-- RESTORE on the lead: the latest flash preserve by its sections, counters, calendars, line numbers (19 R580; 01 R45; 05
R167, R184). -/
def State.restore (s : State) : State :=
  let s1 := match s.flash.preserve with
    | none => s
    | some p =>
      { ((s.restoreTally p.body.tally).restoreEvr p.body.evrs) with
        job := { s.job with base := { s.job.base with items := p.body.items }, st := .idle }
        link := { s.link with table := p.body.table }
        evh := { s.evh with targets := Vector.ofFn (n := 32) (fun i => { (p.body.targets.getD i.val HostTgt.clear) with queue := [] }) }
        colour := s.colour.restore p.body.colour
        lead := { s.lead with
          pseq := (p.pseq + 1) % 2 ^ 32
          epoch := if (s.tileN s.lead.tile).boot.aonValid then s.lead.epoch else nextEpoch p.epoch } }
  let s1c := s1.updColour (fun x => { x with calib := Calib.later s1.flash.calib x.calib })
  let s2 := (s1c.restoreCounters).calPowerUp.calSettings
  let n0 := s2.nextLine
  { s2 with motion := { s2.motion with lastLine := n0 - 1 }, lead := { s2.lead with hubBase := s2.flash.preserve.isNone } }

/-- A boot stage passes (19 R576). -/
def State.bootPass (s : State) (t : Nat) : State :=
  match (s.tileN t).boot.stage with
  | 1 => if s.heatForbids t then s else (s.bootOn t 2).updBoot t (fun b => { b with stage := 2 })
  | 2 => if t = s.flash.owner then s.imageDone t else s
  | 3 => (s.bootOn t 0x7DF4).updBoot t (fun b => { b with stage := 4 })
  | 4 => s.updBoot t (fun b => { b with stage := 5 })
  | 5 => if (s.tileN (partnerOf t)).reachedPair then s.pairDone t else s
  | 6 => s.restore.updBoot t (fun b => { b with stage := 7 })
  | 7 =>
    let s1 := s.bootOn t 8
    let s2 := if t = s1.lead.tile then { s1 with qen := { s1.qen with ready := true } } else s1
    s2.bootReady t
  | _ => s

/-- A boot stage fails: the tile that reads the flash tries the other slot once if it is VALID (19 R577). -/
def State.bootStageFails (s : State) (t cause : Nat) : State :=
  let x := s.tileN t
  let other := 1 - x.boot.slot
  if x.boot.stage = 2 && t = s.flash.owner && !x.boot.asked && s.flash.stateOf other = 1 && !s.lead.updating.any (fun u => u.2.1 == t) then
    s.updBoot t (fun b => { b with slot := other, asked := true })
  else if x.boot.stage = 2 && t ≠ s.flash.owner then s
  else if 1 ≤ x.boot.stage && x.boot.stage ≤ 7 then s.bootFails t cause
  else s

/-- BOOT: the end of a tile's boot stage (19 R576, R577). -/
def State.bootEnd (s : State) (t : Nat) (e : StageEnd) : State :=
  match e with
  | .pass => s.bootPass t
  | .fail c => s.bootStageFails t c

/-- IMAGE_RECEIVE: a tile that does not read the flash checks the image it received; it asks once more after a first
failure (19 R577). -/
def State.imageReceive (s : State) (t : Nat) (e : StageEnd) : State :=
  let x := s.tileN t
  let src := (s.tileN s.flash.owner).boot.stage
  whenDue (decide (x.boot.stage = 2 ∧ t ≠ s.flash.owner ∧ 3 ≤ src ∧ src ≤ 8)) s
    (match e with
     | .pass => s.imageDone t
     | .fail c => if x.boot.asked then s.bootFails t c else s.updBoot t (fun b => { b with asked := true }))

/-- BOOT_IMAGE_TIMEOUT: T0 not through IMAGE within 200 ms; T1 claims the flash and takes the lead (19 R577, 11 R377). -/
def State.imageTimeout (s : State) : State :=
  let a := (s.tileN 0).boot.stage
  whenDue (decide (s.lead.tile = 0 ∧ (a ≤ 2 ∨ a = 15)) && !(s.tileN 0).boot.reached) s
    (let s1 := s.moveLead 1
     s1.updBoot 1 (fun b => { b with slot := s1.flash.active, asked := false }))

/-- PAIR_TIMEOUT: a tile whose partner has not reached PAIR within 500 ms goes on alone (19 R579). -/
def State.pairTimeout (s : State) (t : Nat) : State := whenDue (decide ((s.tileN t).boot.stage = 5)) s (s.pairDone t)

/-! ## Cold reset (19 R568, R580, R586, R592) -/

/-- What PD_AON keeps of a tile's trim (18 R554, R562). -/
def Trm.keep (x : Trm) : TrimKeep := { sets := x.sets, diode := x.diode }

/-- A tile at a cold reset: what PD_AON keeps; its counts and trim sets resumed from the journal where they were lost (18 R554;
19 R582, R586). -/
def State.coldTile (s : State) (t : Nat) : TileState :=
  let b := (s.tileN t).boot
  let r := s.flash.tally.bind (fun l => l.tiles[t]?)
  let lost := !b.aonValid
  let none_ : Boot := { b with hours := 0, cycles := 0, tallyHeat := (0, 0), coldStarts := 0, tallyLane := Boot.reset.tallyLane }
  let b1 : Boot := if lost then (r.map none_.resume).getD none_ else b
  let trim := if lost then s.flash.trims.bind (fun l => l[t]?) else some (s.tileN t).trm.keep
  { TileState.reset with
    boot := { b1 with
      stage := 1, cause := 0, slot := s.flash.active, asked := false, reached := false, aonlost := lost, pcl := b.pcl, hoursRest := 0,
      coldStarts := satInc 32 b1.coldStarts, fires := (r.map (·.fires)).getD [] }
    thm := { Thm.reset with conv := [] }
    trm := (trim.map (fun k => { Trm.reset with sets := k.sets, diode := k.diode })).getD Trm.reset }

/-- The motion block at a cold reset: the inputs' levels stay, everything else is reset. -/
def Motion.cold (m : Motion) (r : Motion) : Motion :=
  { r with
    pd := m.pd, carr := m.carr, te := m.te, evi := m.evi
    enc := Vector.ofFn (n := 4) (fun i =>
      let e := m.enc.get i
      { r.enc.get i with wireP := e.wireP, wireN := e.wireN, wireSince := e.wireSince, rx := e.rx }) }

/-- A node as the lead knows it after a cold reset: not discovered; the node itself is unaffected. -/
def Node.forget (n : Node) : Node := { n with st := 0, lanes := [], asked := false, readyLine := none, leave := none }

/-- COLD_RESET: an assertion of SYS_RST_L (19 R568). PD_AON, the flash, the far ends and the inputs' levels stay; TIME
counts on (log 46). -/
def State.coldReset (s : State) : State :=
  { State.reset with
    part := s.part, time := s.time, tiles := Vector.ofFn (fun i => s.coldTile i.val)
    lead := { LeadSt.reset with
      epoch := nextEpoch s.lead.epoch
      upd := if s.flash.stateOf 0 = 2 || s.flash.stateOf 1 = 2 then 1 else 0 }
    host := s.host, busRead := s.busRead, smbNack := s.smbNack
    stores := { Stores.reset with gib := s.stores.gib, twoRank := s.stores.twoRank }
    marks := { Marks.reset with cal := s.marks.cal, src := s.marks.src, slewPpm := s.marks.slewPpm, shadow := s.marks.shadow, shadowOk := s.marks.shadowOk }
    motion := s.motion.cold State.reset.motion
    link := { Link.reset with nodes := s.link.nodes.map Node.forget }
    dsp := s.dsp.map (fun d => { DspPort.reset with hpd := d.hpd, sink := d.sink })
    flash := { s.flash with owner := 0, jobs := [] }
    tallyMod := (s.flash.tally.map (·.mods)).getD [], tallyCol := (s.flash.tally.map (·.col)).getD []
    free := s.free, pending := s.pending }

/-! ## Meanings -/

/-- R454: SVC.POWER. -/
def execSvcPower (p : Packet) (s : State) : Out := .next (opSvcPower.dispatch s p)
/-- R49: DOMAIN_READY. -/
def execDomainReady (t : Tile) (d : Fin 15) (s : State) : Out := onTile t s (s.domainReady t.val d.val)
/-- R367: RESYNC_COPY_DONE. -/
def execResyncCopyDone (t : Tile) (s : State) : Out := onTile t s (s.copyDone t.val)
/-- R568: COLD_RESET. -/
def execColdReset (s : State) : Out := .next s.coldReset
/-- R576: BOOT. -/
def execBoot (t : Tile) (e : StageEnd) (s : State) : Out := onTile t s (s.bootEnd t.val e)
/-- R577: IMAGE_RECEIVE. -/
def execImageReceive (t : Tile) (e : StageEnd) (s : State) : Out := onTile t s (s.imageReceive t.val e)
/-- R577: BOOT_IMAGE_TIMEOUT. -/
def execBootImageTimeout (s : State) : Out := .next s.imageTimeout
/-- R579: PAIR_TIMEOUT. -/
def execPairTimeout (t : Tile) (s : State) : Out := onTile t s (s.pairTimeout t.val)

end Sys2Proof.Machine
end

