-- ==== Sys2Proof/Machine/Strip.lean ====
section
/-! DEFINITION. Strips of surface data on their way to the raster: which lines read a strip, its decoding and verdicts, its
deadline and its mending (03 R121 to R126). -/

namespace Sys2Proof.Machine

/-- Positions that span k computes: its own and 64 on either side, within the print area (01 R20). -/
def State.computed (s : State) (k : Nat) : Nat × Nat :=
  (s.spanStart k - 64, min (s.spanStart k + s.spanWidth k + 64) (s.itemN Pid.jobWidth))

/-- The items under which a product prints, or would print as bound so far (04 R153, R154). -/
def State.prodItems (s : State) (p : Product) : PMap := if p.armed then p.items else s.bindItems p

/-! ## Which lines read a strip (03 R122, R125) -/

/-- The surface of a layer of a lane under some items: a raster layer's, or LIGHT's scene; 0 for none. -/
def PMap.layerSurf (m : PMap) (j l : Nat) : Nat := if l = 1 then m.ray j 1 else m.lyrN (lyrIx false j l) 1

/-- A product reads a stream on span k: it binds the stream's surface in its layer, and has computed positions there. -/
def State.readsStream (s : State) (k : Nat) (st : Stream) (p : Product) : Bool :=
  let c := s.computed k
  !st.proof && p.lane == st.lane && !p.blank && decide ((s.prodItems p).layerSurf p.lane st.layer = st.surf ∧ st.surf ≠ 0)
    && overlap (s.laneX0 p.lane) (s.laneW p.lane) c.1 (c.2 - c.1)

/-- The lens rows of a scene that a line of a product reads, estimated at the nominal row pitch (06 R201, R202; log 60). -/
def PMap.sceneRow (m : PMap) (j : Nat) (pyNom yr : Nat) : Option Nat :=
  let y := yr - m.ray j 8
  if m.ray j 8 ≤ yr ∧ yr < m.ray j 8 + m.ray j 10 ∧ pyNom ≠ 0 then some ((y * 2 ^ 32 + 2 ^ 31) / pyNom) else none

/-- The strips that a line of a product reads from a surface, lowest and highest. -/
def State.stripsOn (s : State) (st : Stream) (d : Desc) (p : Product) (n : Nat) : Option (Nat × Nat) :=
  let m := s.prodItems p
  if st.layer = 1 then
    match m.sceneRow p.lane (s.lensCfg n).pyNom (n - p.first) with
    | some r => if r < d.height then some (d.stripOf r, d.stripOf r) else none
    | none => none
  else
    let i := lyrIx false p.lane st.layer
    (m.lyrRows i d ((n : Int) - p.first - m.lyr i 3)).map (fun r => (d.stripOf r.1, d.stripOf r.2))

/-- The lines of a product that read a strip. -/
def State.stripReaders (s : State) (st : Stream) (d : Desc) (p : Product) (strip : Nat) : List Nat :=
  (List.range' p.first (s.prodEnd p - p.first)).filter (fun n =>
    ((s.stripsOn st d p n).map (fun r => decide (r.1 ≤ strip ∧ strip ≤ r.2))).getD false)

/-- The next product that reads a strip on a tile, with its lines not yet begun that do (03 R122, R125). -/
def State.nextRead (s : State) (t : Nat) (st : Stream) (strip : Nat) : Option (Product × List Nat) :=
  match (s.tileN t).desc st.surf with
  | none => none
  | some d =>
    (s.job.products.filterMap (fun p =>
      if s.readsStream (t / 2) st p then
        match (s.stripReaders st d p strip).filter (fun n => decide ((s.tileN t).begun ≤ n)) with
        | [] => none
        | ls => some (p, ls)
      else none)).foldl (fun m e => match m with
        | none => some e
        | some b => if e.1.first < b.1.first then some e else some b) none

/-- The deadline of a strip on a tile: CODEC_MARGIN lines before the first line that reads it (03 R122). -/
def State.stripDue (s : State) (t : Nat) (st : Stream) (strip : Nat) : Option Nat :=
  match s.nextRead t st strip with
  | some (_, n :: _) => some (n - s.itemN Pid.codecMargin)
  | _ => none

/-! ## Buffers of streams (03 R122) -/

/-- The stream of a tile with a number. -/
def TileState.stream (x : TileState) (sid : Nat) : Option Stream := x.streams.find? (fun st => st.sid == sid)
/-- The buffer of a stream that holds a strip. -/
def Stream.buf (st : Stream) (strip : Nat) : Option StripBuf := st.bufs.find? (fun b => b.strip == strip)
/-- The buffer of a strip of a stream of a tile. -/
def TileState.strip (x : TileState) (sid strip : Nat) : Option StripBuf := (x.stream sid).bind (fun st => st.buf strip)
/-- A tile with one of its streams changed. -/
def State.updStream (s : State) (t sid : Nat) (f : Stream → Stream) : State :=
  s.updTileN t (fun x => { x with streams := mapIf x.streams (fun st => st.sid == sid) f })
/-- A tile with the buffer of a strip changed. -/
def State.updStrip (s : State) (t sid strip : Nat) (f : StripBuf → StripBuf) : State :=
  s.updStream t sid (fun st => { st with bufs := mapIf st.bufs (fun b => b.strip == strip) f })

/-- A buffer holds its strip for decoding or reading: one given up as LATE is free (03 R122, R124). -/
def StripBuf.occupies (b : StripBuf) : Bool := b.own != some 7

/-- The next strip of a stream takes a free buffer: two at most, the surface's strips in turn (03 R122). -/
def Stream.refill (st : Stream) (scount : Nat) : Stream :=
  match st.bufs.getLast? with
  | some b =>
    if (st.bufs.filter (·.occupies)).length < 2 ∧ 1 < scount then { st with bufs := st.bufs ++ [StripBuf.fresh ((b.strip + 1) % scount)] } else st
  | none => { st with bufs := [StripBuf.fresh 0] }

/-- Engines of a tile that decode a strip: two serve all streams (03 R122). -/
def TileState.decoding (x : TileState) : Nat := (x.streams.flatMap (fun st => st.bufs.filter (·.decoding))).length

/-- The pending strip with the earliest deadline, with its deadline: a strip that no line awaits comes last (03 R122). -/
def State.pendingStrip (s : State) (t : Nat) : Option (Nat × Nat × Option Nat) :=
  let early := fun (a b : Option Nat) => match a, b with
    | some x, some y => decide (x < y)
    | some _, none => true
    | none, _ => false
  ((s.tileN t).streams.flatMap (fun st => (st.bufs.filter (fun b => !b.decoding && b.own.isNone && b.fate == 0)).map (fun b =>
    (st.sid, b.strip, s.stripDue t st b.strip)))).foldl (fun m e => match m with
      | none => some e
      | some b => if early e.2.2 b.2.2 then some e else some b) none

/-- STRIP_DECODE_START: a free engine takes the pending strip of earliest deadline; a codec held minimal by shedding starts
no strip earlier than four CODEC_MARGINs before its deadline (03 R122; 18 R545). -/
def State.decodeStart (s : State) (t : Nat) : State :=
  let x := s.tileN t
  match s.pendingStrip t with
  | none => s
  | some (sid, strip, due) =>
    let early := bit x.thm.shed 1 && (due.map (fun d => decide (s.motion.lastLine + 4 * s.itemN Pid.codecMargin < d))).getD true
    whenDue (x.on 4 && decide (x.decoding < 2) && !early) s (s.updStrip t sid strip (fun b => { b with decoding := true }))

/-! ## Verdicts (03 R121, R124) -/

/-- The data of STRIP_CHECK_FAIL: span, surface, strip, cause (03 R133). -/
def State.stripFails (s : State) (t surf strip cause : Nat) : State :=
  if cause = 0 then s else s.raiseN t Ev.stripCheckFail [t / 2, surf, strip, cause]

/-- A verdict goes to the partner over the twin link (03 R124). -/
def State.sendVerdict (s : State) (t sid strip cause : Nat) : State :=
  if !vget s.linkUp (t / 2) true then s
  else s.updTileN (partnerOf t) (fun x => { x with
    verdicts := x.verdicts ++ [{ sid := sid, strip := strip, cause := cause, arrived := false }] })

/-- A tile's own verdict on a strip: its event if it fails, with CODEC_MEND as it now stands, and its message to the partner
(03 R121, R124, R134). -/
def State.verdict (s : State) (t sid surf strip cause : Nat) (data : List Byte) : State :=
  let s1 := s.updStrip t sid strip (fun b => { b with
    decoding := false, own := some cause, data := data, mend := decide (cause ≠ 0 ∧ s.itemN Pid.codecMend = 1) })
  (s1.stripFails t surf strip cause).sendVerdict t sid strip cause

/-- STRIP_VERIFIED: a decoded strip has its verdict, and the next strip is pending (03 R121, R122). -/
def State.stripVerified (s : State) (t sid strip : Nat) : State :=
  let x := s.tileN t
  match x.stream sid with
  | none => s
  | some st =>
    match st.buf strip, x.desc st.surf with
    | some b, some d =>
      let v := x.verify d strip
      whenDue (x.on 4 && b.decoding && b.own.isNone) s ((s.verdict t sid st.surf strip v.1 v.2).updStream t sid (fun st => st.refill d.scount))
    | _, _ => s

/-- What a tile does with a strip, from its own verdict, whether its partner carries the span, and the partner's verdict
if known: 1 released, 2 void, 3 blank (03 R124). -/
def stripFate (own : Nat) (partnerCarries : Bool) (partner : Option Nat) : Nat :=
  if own = 0 then 1
  else if !partnerCarries then 3
  else match partner with
    | some 0 => 2
    | some _ => 3
    | none => 2

/-- The products of every lane with one of some lines in their range and an owned position of a tile's span (03 R125). -/
def State.affected (s : State) (t : Nat) (ls : List Nat) : List Product :=
  s.job.products.filter (fun p => s.prodInSpan p (t / 2) && ls.any (s.covers p))

/-- Products whose rejection waits for the partner's verdict on a strip (03 R124). -/
def State.unsettle (s : State) (t sid strip : Nat) (ps : List Product) : State :=
  s.updTileN t (fun x => { x with unsettled := ps.foldl (fun l p => addNew l (sid, strip, p.lane, p.num)) x.unsettled })

/-- The partner's verdict on a strip of a buffer, if it has arrived (03 R124). -/
def TileState.partnerVerdict (x : TileState) (sid : Nat) (b : StripBuf) : Option Nat :=
  match b.partner with
  | some c => some c
  | none => (x.verdicts.find? (fun v => v.arrived && v.sid == sid && v.strip == b.strip)).map (·.cause)

/-- A strip is decided for the lines that read it: it is released, void, or blank with STRIP_BLANKED and the affected products
rejected; a void decided before the partner's verdict is noted (03 R124, R125). -/
def State.decideStrip (s : State) (t : Nat) (st : Stream) (strip : Nat) (b : StripBuf) (ls : List Nat) : State :=
  let own := b.own.getD 7
  let pv := (s.tileN t).partnerVerdict st.sid b
  let fate := stripFate own (s.tileN (partnerOf t)).carries pv
  let s1 := if b.own.isNone then s.verdict t st.sid st.surf strip 7 [] else s
  let s2 := (s1.updStrip t st.sid strip (fun b => { b with partner := pv, fate := fate })).updTileN t (fun x => { x with
    verdicts := x.verdicts.filter (fun v => !(v.arrived && v.sid == st.sid && v.strip == strip)) })
  if fate = 3 then
    (s.affected t ls).foldl (fun s p => s.reject p.lane p.num) (s2.raiseN t Ev.stripBlanked [t / 2, ls.headD 0, ls.getLastD 0])
  else if fate = 2 && pv.isNone then
    (s2.raiseN t Ev.stripVerdictLate [t / 2, st.surf, strip]).unsettle t st.sid strip (s.affected t ls)
  else s2

/-- A strip with a buffer to carry its fate: one that no buffer holds is given one, already late (03 R124). -/
def State.withBuf (s : State) (t sid strip : Nat) : State :=
  s.updStream t sid (fun st => if (st.buf strip).isSome then st else { st with bufs := st.bufs ++ [StripBuf.fresh strip] })

/-- STRIP_DEADLINE: verification not complete by the deadline is a fail with cause LATE, and the stream goes on with its next
strip. What arrives in the deadline's line counts, so where that could still change the outcome the line ends first (03
R124; 01 R58). -/
def State.stripDeadline (s : State) (t sid strip : Nat) : State :=
  let x := s.tileN t
  match x.stream sid with
  | none => s
  | some st =>
    match x.desc st.surf, s.nextRead t st strip with
    | some d, some (_, lo :: ls) =>
      let b := (st.buf strip).getD (StripBuf.fresh strip)
      let line := lo - s.itemN Pid.codecMargin
      let sure := b.own == some 0 || (b.own.isSome && ((x.partnerVerdict sid b).isSome || !(s.tileN (partnerOf t)).carries))
      let due := decide (b.fate = 0) && decide (if sure then line ≤ s.motion.lastLine else line < s.motion.lastLine)
      whenDue due s (((s.withBuf t sid strip).decideStrip t st strip b (lo :: ls)).updStream t sid (fun st => st.refill d.scount))
    | _, _ => s

/-- STRIP_VERDICT_RECEIVE: the partner's oldest verdict on a strip arrives over the twin link; a fail rejects the products whose
lines were already decided void, and one for a strip not yet under way waits for it (03 R124). -/
def State.verdictReceive (s : State) (t sid strip : Nat) : State :=
  let x := s.tileN t
  let this := fun (v : Verdict) => !v.arrived && v.sid == sid && v.strip == strip
  match x.verdicts.find? this with
  | none => s
  | some v =>
    if !vget s.linkUp (t / 2) true || !(s.tileN (partnerOf t)).carries then s
    else
      let mine := x.unsettled.filter (fun u => u.1 == sid && u.2.1 == strip)
      let open_ := ((x.strip sid strip).map (fun b => b.partner.isNone)).getD false
      let s1 := s.updTileN t (fun x => { x with verdicts := x.verdicts.erase v })
      if !mine.isEmpty then
        let s2 := (s1.updStrip t sid strip (fun b => { b with partner := some v.cause })).updTileN t (fun x => { x with
          unsettled := x.unsettled.filter (fun u => !(u.1 == sid && u.2.1 == strip)) })
        if v.cause = 0 then s2 else mine.foldl (fun s u => s.reject u.2.2.1 u.2.2.2) s2
      else if open_ then s1.updStrip t sid strip (fun b => { b with partner := some v.cause })
      else s1.updTileN t (fun x => { x with verdicts := x.verdicts ++ [{ v with arrived := true }] })

/-- STRIP_MENDED: a strip that failed under CODEC_MEND 1 and passed at the partner is copied over and verified again;
a successful mend is reported (03 R126). -/
def State.stripMend (s : State) (t sid strip : Nat) : State :=
  let q := s.tileN (partnerOf t)
  match (s.tileN t).stream sid with
  | none => s
  | some st =>
    match st.buf strip, q.desc st.surf with
    | some b, some d =>
      let due := b.mend && vget s.linkUp (t / 2) true && q.takes
        && (b.own.map (fun c => decide (c ≠ 0))).getD false && b.partner == some 0
      let loc := q.stripAt d strip
      let s1 := s.tileWrite t loc.1 (Mem.read q.mem loc.1 loc.2)
      let v := (s1.tileN t).verify d strip
      let s2 := s1.updStrip t sid strip (fun b => { b with
        own := some v.1, data := v.2, mend := decide (v.1 ≠ 0 ∧ s.itemN Pid.codecMend = 1) })
      whenDue due s (if v.1 = 0 then s2.raiseN t Ev.stripMended [t / 2, st.surf, strip] else s2.stripFails t st.surf strip v.1)
    | _, _ => s

/-! ## Strips as a line reads them -/

/-- A strip that a line of a product reads is past its deadline: one still undecided is decided now, LATE where it has not been
verified (03 R124, R126; log 61). The products that the line's fate touches go with it (03 R125). -/
def State.readStrip (s : State) (t sid strip : Nat) (p : Product) (n : Nat) : State :=
  let x := s.tileN t
  match x.stream sid with
  | none => s
  | some st =>
    match x.desc st.surf with
    | none => s
    | some d =>
      let b := (st.buf strip).getD (StripBuf.fresh strip)
      let ls := (s.stripReaders st d p strip).filter (fun l => decide (n ≤ l))
      let s1 := if b.fate ≠ 0 then s
        else ((s.withBuf t sid strip).decideStrip t st strip b ls).updStream t sid (fun st => st.refill d.scount)
      match (s1.tileN t).strip sid strip with
      | some c =>
        if c.fate = 3 then (s1.affected t [n]).foldl (fun s q => s.reject q.lane q.num) s1
        else if c.fate = 2 && c.partner.isNone then s1.unsettle t sid strip (s1.affected t [n])
        else s1
      | none => s1

/-- The strips that a tile reads on a web line: stream, strip and product. -/
def State.lineStrips (s : State) (t n : Nat) : List (Nat × Nat × Product) :=
  (s.tileN t).streams.flatMap (fun st =>
    match (s.tileN t).desc st.surf with
    | none => []
    | some d =>
      (s.job.products.filter (fun p => s.covers p n && s.readsStream (t / 2) st p)).flatMap (fun p =>
        match s.stripsOn st d p n with
        | some (lo, hi) => (List.range' lo (hi + 1 - lo)).map (fun i => (st.sid, i, p))
        | none => []))

/-- A strip has served a line of a product: its last line in the product has been read, or the product's reading has passed it
by; at the product's end every strip has, but for the surface's first where it waits for the next product (03 R122). -/
def State.stripServed (s : State) (st : Stream) (d : Desc) (p : Product) (n : Nat) (b : StripBuf) : Bool :=
  if n + 1 = s.prodEnd p then !(b.strip == 0 && b.fate == 0)
  else
    let lo := ((s.stripsOn st d p n).map (·.1)).getD 0
    (s.stripReaders st d p b.strip).all (fun l => decide (l ≤ n)) && (b.fate != 0 || decide (b.strip < lo))

/-- After a line: strips that have served leave their buffers, and the next strip is pending; at the product's end the surface
starts again (03 R122). -/
def State.stripsRead (s : State) (t n : Nat) : State :=
  (s.tileN t).streams.foldl (fun s st =>
    match (s.tileN t).desc st.surf, s.job.products.find? (fun p => s.covers p n && s.readsStream (t / 2) st p) with
    | some d, some p =>
      s.updStream t st.sid (fun st =>
        let left := st.bufs.filter (fun b => !s.stripServed st d p n b)
        let next := if n + 1 = s.prodEnd p then 0 else ((st.bufs.getLast?).map (fun b => (b.strip + 1) % max 1 d.scount)).getD 0
        if left.length = st.bufs.length then st
        else if left.isEmpty then { st with bufs := [StripBuf.fresh next] }
        else ({ st with bufs := left }).refill d.scount)
    | _, _ => s) s

/-! ## Meanings -/

/-- R122: STRIP_DECODE_START. -/
def execStripDecodeStart (t : Tile) (s : State) : Out := onTile t s (s.decodeStart t.val)
/-- R121: STRIP_VERIFIED. -/
def execStripVerified (t : Tile) (sid strip : Nat) (s : State) : Out := onTile t s (s.stripVerified t.val sid strip)
/-- R124: STRIP_VERDICT_RECEIVE. -/
def execStripVerdictReceive (t : Tile) (sid strip : Nat) (s : State) : Out := onTile t s (s.verdictReceive t.val sid strip)
/-- R124: STRIP_DEADLINE. -/
def execStripDeadline (t : Tile) (sid strip : Nat) (s : State) : Out := onTile t s (s.stripDeadline t.val sid strip)
/-- R126: STRIP_MENDED. -/
def execStripMended (t : Tile) (sid strip : Nat) (s : State) : Out := onTile t s (s.stripMend t.val sid strip)

end Sys2Proof.Machine
end

