-- ==== Sys2Proof/Machine/Compose.lean ====
section
/-! DEFINITION. A web line on a tile, stages 1 to 10: the layers of each dot, the composite, tone, screening, missing
nozzles and the delay store (01 R20, R60; 04 R137 to R151; 05 R192; 06 R201 to R208; 07 R227 to R239; 08 R259 to R261; 09
R285, R286; 03 R124). -/

namespace Sys2Proof.Machine

/-! ## What a line reads from its surfaces -/

/-- Decoded strips that a line reads, keyed by stream and strip. -/
abbrev StripData := List ((Nat × Nat) × List Byte)

/-- The released strips of a tile: their raw bytes. -/
def TileState.released (x : TileState) : StripData :=
  x.streams.flatMap (fun st => (st.bufs.filter (fun b => b.fate == 1)).map (fun b => ((st.sid, b.strip), b.data)))

/-- A raw byte of a surface at an offset within the line of the surface (03 R112). -/
def rawByte (data : StripData) (st : Stream) (d : Desc) (line off : Nat) : Nat :=
  let strip := d.stripOf line
  (((data.lookup (st.sid, strip)).getD [])[(line - strip * (d.sheight + 1)) * d.depth * d.width + off]?).map (fun (b : Byte) => b.toNat) |>.getD 0

/-- Sample x of plane p of a line of a raster surface (03 R112). -/
def rasterSample (data : StripData) (st : Stream) (d : Desc) (plane x y : Nat) : Nat := rawByte data st d y (plane * d.width + x)

/-- The stream of a tile through which a product reads a layer: the latest of that binding. -/
def State.streamFor (s : State) (t : Nat) (p : Product) (l : Nat) : Option Stream :=
  ((s.tileN t).streams.filter (fun st => st.layer == l && s.readsStream (t / 2) st p)).getLast?

/-! ## Layers of a dot (04 R138 to R146) -/

/-- A kernel set's coefficients on a tile: those stored at an address, or the built-in ones (04 R145). -/
def TileState.kernel (x : TileState) (a : Nat) : Nat → Nat → Nat → Int :=
  if a = 0 then builtinCoef else let bs := Mem.read x.mem a 4480; fun t ph k => storedCoef bs t ph k

/-- A raster layer's ink value and coverage at a dot of a product for a channel field, where the layer covers it. -/
def State.rasterDot (s : State) (data : StripData) (t : Nat) (p : Product) (l field x n : Nat) : Nat × Nat :=
  let m := s.prodItems p
  let i := lyrIx false p.lane l
  match s.streamFor t p l with
  | none => (0, 0)
  | some st =>
    match (s.tileN t).desc st.surf with
    | none => (0, 0)
    | some d =>
      let at_ := m.lyrPlace i d ((x : Int) - s.laneX0 p.lane - m.lyr i 2) ((n : Int) - p.first - m.lyr i 3)
      let get := m.lyrSample i d ((s.tileN t).kernel (m.lyrN i 16)) at_ (rasterSample data st d)
      if at_ = .outside then (0, 0) else (get (field - 1), if m.lyrN i 5 = 0 then 255 else get (m.lyrN i 5 - 1))

/-- LIGHT's ink value and coverage at a dot of a product for a print channel (06 R201 to R208). -/
def State.lightDot (s : State) (data : StripData) (t : Nat) (p : Product) (models : List LensModel) (ch x n : Nat) : Nat × Nat :=
  let m := s.prodItems p
  let j := p.lane
  let x' := x - s.laneX0 j
  let y' := n - p.first
  let own := s.ownerOf x
  let inside := decide (m.ray j 7 ≤ x' ∧ x' < m.ray j 7 + m.ray j 9 ∧ m.ray j 8 ≤ y' ∧ y' < m.ray j 8 + m.ray j 10)
  match s.streamFor t p 1, models[own]?, vget (s.tileN t).die.viewmap (m.ray j 11) none with
  | some st, some lm, some v =>
    match (s.tileN t).desc st.surf with
    | none => (0, 0)
    | some d =>
      let h := lm.map v.cx v.cy { xl := x + 64 - s.spanStart own, yr := (y' : Int) - m.ray j 8, pyNom := (s.lensCfg n).pyNom }
      let a := p.anchor.getD (0, 0)
      let bi := wrapI 32 (h.i - a.1)
      let bj := if lm.lat = 2 then h.j else wrapI 32 (h.j - a.2)
      let e := vEntry (v.entries.getD (h.cv * v.cx + h.cu) 0)
      if !inside || e.dark || decide (bi < 0 ∨ (d.width : Int) ≤ bi ∨ bj < 0 ∨ (d.height : Int) ≤ bj) then (0, 0)
      else
        let c := m.ray j 4
        let get := fun (k : Nat) => twoView e (fun view => rawByte data st d bj.toNat (bi.toNat * d.depth + view * c + k))
        (get (m.schField j ch - 1), if m.ray j 6 = 0 then 255 else get (m.ray j 6 - 1))
  | _, _, _ => (0, 0)

/-- The ink value and coverage of a layer at a dot of a product for a channel, none where the layer does not cover the
channel (04 R138 to R141, R158; 05 R192). -/
def State.layerDot (s : State) (data : StripData) (t : Nat) (p : Product) (models : List LensModel) (ch x n l : Nat) : Option (Nat × Nat) :=
  let m := s.prodItems p
  let field := chField (m.lyrN (lyrIx false p.lane l) 4) ch
  let gs := vget (s.tileN t).die.glyphs (s.jobBank p.job) []
  let mark := if l = 2 then markDot p m gs ch ((x : Int) - s.laneX0 p.lane) ((n : Int) - p.first) else none
  if p.blankLayers.contains l || field = 0 then none
  else match mark with
    | some ink => some (ink, 255)
    | none =>
      some (if p.blankLayers.contains (l + 8) then (0, 0)
        else if l = 1 then s.lightDot data t p models ch x n
        else s.rasterDot data t p l field x n)

/-- The composite of a product's dot in a channel (04 R137, R150, R151). -/
def State.composite (s : State) (data : StripData) (t : Nat) (p : Product) (models : List LensModel) (ch x n : Nat) : Nat :=
  if p.blank || !s.loopPrints p n then 0
  else
    [0, 1, 2, 3].foldl (fun d l =>
      match s.layerDot data t p models ch x n l with
      | some (ink, a) => blend (opacity a ((s.prodItems p).lyrN (lyrIx false p.lane l) 6)) ink d
      | none => d) 0

/-- The product that holds a position on a web line (04 R136). -/
def State.prodAt (s : State) (x n : Nat) : Option Product :=
  s.job.products.find? (fun p => p.lane == s.laneAt x && s.covers p n)

/-- The value that enters stage 6 at a dot: a product's composite, a band's, or 0 (04 R137; 08 R259 to R261). -/
def State.stage6 (s : State) (data : StripData) (t : Nat) (models : List LensModel) (ch x n : Nat) : Nat :=
  match s.prodAt x n with
  | some p => s.composite data t p models ch x n
  | none =>
    match s.bandAt n, s.patchZone x with
    | some b, some _ => b.value (b.rowAt n) ch
    | _, _ => 0

/-- The zone tables at a dot: of the product's version, fixed at its arm line, or those in force on the line (07 R233). -/
def State.zonesAt (s : State) (x n : Nat) : PrintSet :=
  match s.prodAt x n with
  | some p => s.printUnder p.first (s.cmaxAt (s.armLine p))
  | none => s.printAt n

/-- The level of a dot before stage 8 (07 R230 to R235; 02 R94; 13 R443). -/
def State.level0 (s : State) (data : StripData) (t : Nat) (models : List LensModel) (ch x n : Nat) : Nat :=
  let ps := s.printAt n
  if ps.aborted || bit ps.blankCh ch then 0
  else
    let e := ((s.zonesAt x n).zoneTable ch (s.globalZone x)).getD (s.stage6 data t models ch x n) 0
    let trim := match s.nozzleAt ch x n with
      | some (r, g) => if s.missing ps ch x n then 0 else trimOf (ps.nozEntry ch r g)
      | none => 0
    let g := fun (k : Nat) => (PMap.item ps.items (parmId 7 ch k)).toNat
    (vget (s.tileN t).die.screen (g 2) ScreenArr.builtin).level (g 3) (g 4) x n (toneOf e trim)

/-- The levels before stage 8 of the positions that a tile computes, by position (01 R20). -/
def State.lineLevels (s : State) (data : StripData) (t : Nat) (models : List LensModel) (ch n : Nat) : NMap Nat :=
  let c := s.computed (t / 2)
  (List.range' c.1 (c.2 - c.1)).foldl (fun m x => NMap.set 0 m x (s.level0 data t models ch x n)) []

/-- A level by position, 0 where nothing is computed. -/
def levelAt (m : NMap Nat) (x : Int) : Nat := if x < 0 then 0 else NMap.get 0 m x.toNat

/-! ## Stage 8's counters (07 R238, R239) -/

/-- Nozzles of a line whose level is lost, and the drops clipped. -/
def State.lineLost (s : State) (lv : NMap Nat) (t ch n : Nat) : List Nat × Nat :=
  let ps := s.printAt n
  let present := s.present ps ch n
  let c := s.computed (t / 2)
  let xs := List.range' c.1 (c.2 - c.1)
  let lost := xs.filter (fun x => decide (NMap.get 0 lv x ≠ 0) && !present x && (shares present n x (NMap.get 0 lv x)).isNone)
  (lost, (xs.map (fun (x : Nat) => (stage8 present n (levelAt lv) x).2)).foldl (· + ·) 0)

/-- NOZZLE_UNCOVERED, at most once for a nozzle in 65,536 web lines (07 R239). -/
def State.uncoveredAt (s : State) (t ch n x : Nat) : State :=
  match (s.asOf n).nozzleAt ch x n with
  | none => s
  | some (r, g) =>
    let key := nozKey ch r g
    let last := NMap.get none (s.tileN t).uncovered key
    if (last.map (fun a => decide (n < a + 65536))).getD false then s
    else (s.updTileN t (fun y => { y with uncovered := NMap.set none y.uncovered key (some n) })).raiseN t Ev.nozzleUncovered [ch, r, g, n]

/-- What stage 8 counts on a line of a channel (07 R238, R239). -/
def State.countLost (s : State) (t ch n : Nat) (l : List Nat × Nat) : State :=
  let s1 := s.updTileN t (fun x => { x with
    nozLost := vupd x.nozLost ch 0 (fun v => satAdd 32 v l.1.length), nozClip := vupd x.nozClip ch 0 (fun v => satAdd 32 v l.2) })
  l.1.foldl (fun s x => s.uncoveredAt t ch n x) s1

/-! ## The delay store (09 R285, R286, R299) -/

/-- A row-line that nothing has been written to. -/
def RowLine.clear : RowLine := { web := 0, words := [], bad := [] }

/-- The entry of the delay store that holds a web line of a row. -/
def State.delayAt (s : State) (c r web : Nat) : Nat := delayKey (rowKey c r) (web / s.rowK c % max 1 (s.rowEntries c r))

/-- The levels of a row's nozzles on a web line, as stage 9 hands them on: of a blank line 0, of a void one free (03 R124,
log 4). -/
def State.rowLevels (s : State) (lv : NMap Nat) (t c r n : Nat) (blank void : Bool) (fr : Nat) : List Nat :=
  let g := s.nozRange (t / 2) c r
  let present := s.present (s.printAt n) c n
  (List.range' g.1 (g.2 - g.1)).map (fun i =>
    if blank then 0 else if void then Config.freeNat (fr + i) % 7 else (stage8 present n (levelAt lv) (s.nozzlePos c r i)).1)

/-- Stage 10: the row-lines of a web line go into the delay store, those of DRAM rows through the write buffer (09 R286; 15
R487). -/
def State.storeRows (s : State) (t ch n : Nat) (lv : NMap Nat) (blank void : Bool) : State :=
  let g := s.asOf n
  (g.phaseRows ch (n % g.rowK ch)).foldl (fun s r =>
    let rl : RowLine := { web := n, words := packRow void (g.rowWords (t / 2) ch r) (g.rowLevels lv t ch r n blank void s.free), bad := [] }
    ((s.updTileN t (fun x => { x with delay := NMap.set RowLine.clear x.delay (g.delayAt ch r n) rl })).nextFree).writeLine t ch r n) s

/-- A patch dot that lies within a product: the patch is discarded with cause OVERLAP (08 R261). -/
def State.patchOverlap (s : State) (t n : Nat) : State :=
  let g := s.asOf n
  match g.bandAt n with
  | none => s
  | some b =>
    (List.range' (g.spanStart (t / 2)) (g.spanWidth (t / 2))).foldl (fun s x =>
      match g.patchZone x, g.prodAt x n with
      | some z, some _ => s.bandFlag b.num (b.rowAt n) z 1
      | _, _ => s) s

/-- Stages 1 to 10 of a web line on a tile: the strips it reads are settled, every channel is composed and stored (01 R36,
R60; 03 R124). -/
def State.composeLine (s : State) (t n : Nat) : State :=
  let reads := (s.asOf n).lineStrips t n
  let s1 := reads.foldl (fun s e => s.readStrip t e.1 e.2.1 e.2.2 n) s
  let x := s1.tileN t
  let fate := fun (k : Nat) => reads.any (fun e => ((x.strip e.1 e.2.1).map (fun b => decide (b.fate = k))).getD false)
  let g := s1.asOf n
  let models := ((s1.issuedAt n).map (·.models)).getD []
  let s2 := (bitsOf 12 g.activeCh).foldl (fun s ch =>
    let lv := g.lineLevels x.released t models ch n
    (s.countLost t ch n (g.lineLost lv t ch n)).storeRows t ch n lv (fate 3) (fate 2)) s1
  (s2.patchOverlap t n).stripsRead t n

/-! ## LINE_COMPUTE (01 R60 to R63; 11 R348, R360, R367) -/

/-- A tile begins web line n next: issued, accepted from a position message, no earlier line left (01 R31, R60). -/
def State.lineDue (s : State) (t n : Nat) : Bool :=
  let x := s.tileN t
  (s.issuedAt n).isSome && decide (x.begun ≤ n ∧ n ≤ x.posLine) && s.motion.issued.all (fun l => decide (l.n < x.begun ∨ n ≤ l.n))
    && (x.carries || (decide (x.twin = .resync) && x.startLine.isSome)) && x.on 6 && x.on 7 && x.on 8

/-- A tile in RESYNC enters FILL at its start line (11 R348, R367). -/
def State.startFill (s : State) (t n : Nat) : State :=
  let x := s.tileN t
  match (s.commitsAt n (s.cmaxAt n)).find? (fun c => c.change == .start t && !x.appliedCommits.contains c.cseq) with
  | some c =>
    if x.twin = .resync ∧ x.startLine.isSome then
      ((s.setTwin t .fill 0 c.line).updTileN t (fun x => { x with startLine := some c.line })).motionRole
    else s
  | none => s

/-- The commits due on line n are applied (11 R360). -/
def State.applyCommits (s : State) (t n : Nat) : State :=
  let cs := (s.commitsAt n (s.cmaxAt n)).map (·.cseq)
  s.updTileN t (fun x => { x with
    appliedCommits := cs.foldl addNew x.appliedCommits, heldCommits := x.heldCommits.filter (fun h => !cs.contains h.1), begun := n + 1 })

/-- The standby glyph bank becomes active once every printing tile has begun its line (05 R190). -/
def State.bankReached (s : State) : State :=
  match s.job.bankLine with
  | none => s
  | some c =>
    if s.usedTiles.all (fun t => !(s.tileN t).carries || decide (c < (s.tileN t).begun)) then
      { s with job := { s.job with bankLine := none }, stores := { s.stores with glyphBank := 1 - s.stores.glyphBank, glyphLoaded := false } }
    else s

/-- LINE_COMPUTE: a tile begins a web line, with the commits due on it, and a glyph bank that waits for it (05 R190). -/
def State.lineCompute (s : State) (t n : Nat) : State :=
  if !s.lineDue t n then s
  else
    let s1 := (s.startFill t n).applyCommits t n
    (if (s1.tileN t).carries then s1.composeLine t n else s1).bankReached

/-! ## POSITION_MESSAGE_RECEIVE (01 R31; 11 R361) -/

/-- A commit at or below CMAX that a tile neither holds nor has applied (11 R361). -/
def State.commitMissing (s : State) (t cmax : Nat) : Bool :=
  let x := s.tileN t
  s.job.commits.any (fun c => decide (c.cseq ≤ cmax) && (s.twinsOf c.change).contains (t / 2)
    && !x.appliedCommits.contains c.cseq && !x.heldCommits.any (fun h => h.1 == c.cseq))

/-- POSITION_MESSAGE_RECEIVE: a position above the last is accepted; a printing tile that lacks a commit within CMAX
withdraws (01 R31; 11 R361). -/
def State.positionReceive (s : State) (t n : Nat) : State :=
  let x := s.tileN t
  match s.issuedAt n with
  | none => s
  | some l =>
    if n ≤ x.posLine || x.twin = .off || !s.reaches0 t then s
    else
      let s1 := s.updTileN t (fun x => { x with posLine := n, cmax := l.cmax })
      if x.carries && s1.commitMissing t l.cmax then s1.withdraw t 6 else s1

/-! ## Meanings -/

/-- R60: LINE_COMPUTE. -/
def execLineCompute (t : Tile) (n : Nat) (s : State) : Out := onTile t s (s.lineCompute t.val n)
/-- R31: POSITION_MESSAGE_RECEIVE. -/
def execPositionMessageReceive (t : Tile) (n : Nat) (s : State) : Out := onTile t s (s.positionReceive t.val n)

end Sys2Proof.Machine
end

