-- ==== Sys2Proof/Machine/Arm.lean ====
section
/-! DEFINITION. ARM_LINE_EVALUATION: what the lead fixes for a product at its arm line, and products that miss it (04 R153, R154,
R158; 05 R177 to R180; 07 R233; 08 R258; 11 R362). -/

namespace Sys2Proof.Machine

/-- A change's fence is in time for an arm line (04 R157). -/
def State.fenceOk (s : State) (lane num arm : Nat) (c : LaneChange) : Bool :=
  match c.fence with
  | none => true
  | some id =>
    match (s.job.fences.find? (fun f => f.id == id && f.lane == lane && f.product == num)).bind (·.signal) with
    | some n => decide (n ≠ 0 ∧ n ≤ arm)
    | none => false

/-- Items in force under some of a lane's changes (04 R154). -/
def State.itemsUnder (s : State) (p : Product) (use : LaneChange → Bool) : PMap :=
  ((s.changesFor p.lane p.num).filter use).foldl (fun m c => PMap.putAll m c.items) (s.jobItems p.job)

/-- The items that the product before used on its lane, or what is in force before this product (04 R158). -/
def State.itemsBefore (s : State) (p : Product) : PMap :=
  match s.job.products.find? (fun q => q.lane == p.lane && q.num + 1 == p.num && q.armed) with
  | some q => q.items
  | none => s.itemsUnder p (fun c => decide (c.target.getD 0 < p.num))

/-- The lead's job controller runs: it does arm-line work (11 R369). -/
def State.jobControls (s : State) : Bool :=
  let x := s.tileN s.lead.tile
  x.clockOk && x.on 1 && decide (x.boot.stage = 8) && !s.inHandover

/-- A product is the next to be evaluated: its arm line has been issued, and none of a lower arm line, or of the same on a lower
lane, waits (05 R177). -/
def State.armDue (s : State) (p : Product) : Bool :=
  let a := s.armLine p
  s.jobControls && s.armed && !p.armed && decide (a ≤ s.motion.lastLine)
    && s.job.products.all (fun q => q.armed || decide (a < s.armLine q ∨ (a = s.armLine q ∧ (p.lane < q.lane ∨ (p.lane = q.lane ∧ p.num ≤ q.num)))))

/-- A product's arm-line commit is not within CMAX of its arm line, or a tile has begun that line (11 R362; 05 R180). -/
def State.armLate (s : State) (p : Product) : Bool :=
  let a := s.armLine p
  let mine := fun (c : Change) => c == .armLine p.lane p.num
  let tiles := (bitsOf 4 (s.laneSpans false p.lane)).flatMap (fun k => [2 * k, 2 * k + 1])
  s.job.commits.any (fun c => mine c.change && decide (s.cmaxAt a < c.cseq)) || s.job.held.any (fun h => mine h.1)
    || tiles.any (fun t => (s.tileN t).carries && decide (a < (s.tileN t).begun))

/-- What a committed change sets for the package has been applied: its binding items stay (05 R185). -/
def LaneChange.used (c : LaneChange) : LaneChange := { c with mark := 0, body := [], items := c.items.filter (fun e => !packageItem e.1) }

/-- The changes of a lane that hold for a product and every later one, as one (04 R154). -/
def State.mergeChanges (s : State) (p : Product) : State :=
  let old := fun (c : LaneChange) => c.committed && c.fence.isNone && decide (c.target.getD 0 ≤ p.num)
  let es := ((s.changesFor p.lane p.num).filter old).flatMap (·.items)
  let one : LaneChange :=
    { seq := 0, session := 0, target := some p.num, nextJob := false, fence := none, layers := [], items := es.foldl (fun m e => m.filter (fun d => d.1 != e.1) ++ [e]) [],
      mark := 0, arg := 0, body := [], committed := true }
  s.updLane p.lane (fun l => { l with changes := one :: l.changes.filter (fun c => !old c) })

/-- The mark changes of a product's lane that have not been applied are, in their order (05 R185). -/
def State.applyMarks (s : State) (p : Product) : State :=
  let s1 := (s.changesFor p.lane p.num).foldl (fun s c => s.applyMark p.lane c) s
  s1.updLane p.lane (fun l => { l with changes := mapIf l.changes (fun c => c.committed && decide (c.target.getD 0 ≤ p.num)) LaneChange.used })

/-- The counter part of a change: what holds for every lane from its arm line on (05 R185). -/
def LaneChange.counters (c : LaneChange) : LaneChange :=
  { c with mark := if c.mark = 6 then 6 else 0, items := c.items.filter (fun e => packageItem e.1) }
/-- The same change without that part. -/
def LaneChange.rest (c : LaneChange) : LaneChange :=
  { c with mark := if c.mark = 6 then 0 else c.mark, items := c.items.filter (fun e => !packageItem e.1) }

/-- The counter changes of every product with an arm line are applied, before the first of them is evaluated, in the order of
their lanes (05 R177, R185). -/
def State.applyCounters (s : State) (a : Nat) : State :=
  (List.range 16).foldl (fun s j =>
    match s.job.products.find? (fun q => q.lane == j && !q.armed && s.armLine q == a && !s.armLate q) with
    | none => s
    | some q =>
      let s1 := (s.changesFor j q.num).foldl (fun s c => s.applyMark j c.counters) s
      s1.updLane j (fun l => { l with changes := mapIf l.changes (fun c => c.committed && decide (c.target.getD 0 ≤ q.num)) LaneChange.rest })) s

/-- The product has its bindings, and its zone tables' version (04 R153; 07 R233). -/
def State.armProduct (s : State) (p : Product) (m : PMap) : State :=
  let v := (s.printUnder p.first (s.cmaxAt (s.armLine p))).zver
  s.updProduct p.lane p.num (fun q => { q with armed := true, items := m, zver := v })

/-- A product whose arm-line commit comes too late: bindings already in force, no fields, rejected with ARM_MISSED; one that
prints blank is only fixed (02 R92; 05 R179; 11 R362). -/
def State.armMissed (s : State) (p : Product) : State :=
  let a := s.armLine p
  let m := s.itemsUnder p (fun c => decide (c.target.getD 0 < p.num))
  let late := (s.changesFor p.lane p.num).filter (fun c => c.target == some p.num && !s.fenceOk p.lane p.num a c)
  let s1 := late.foldl (fun s c => s.settleFence p.lane p.num a m { c with layers := [] }) (s.armProduct p m)
  let s1 := s1.updLane p.lane (fun l => { l with changes := mapIf l.changes (fun c => decide (c.target.getD 0 ≤ p.num)) (fun c => { c with nextJob := false }) })
  if p.blank then s1 else (s1.raiseLead Ev.armMissed [p.lane, p.num]).reject p.lane p.num

/-- A product's arm line: fences, bindings, mark changes, fields and band (04 R153 to R158; 05 R177 to R192; 08 R258). -/
def State.armEvaluate (s : State) (p : Product) : State :=
  let a := s.armLine p
  let u := s.applyCounters a
  let cs := u.changesFor p.lane p.num
  let prev := u.itemsBefore p
  let ok := u.fenceOk p.lane p.num a
  let s1 := u.armProduct p (u.itemsUnder p ok)
  let s2 := (cs.filter (fun c => c.fence.isSome && c.target == some p.num)).foldl (fun u c => u.settleFence p.lane p.num a prev c) s1
  let s3 := (s2.applyMarks p).mergeChanges p
  let s4 := match s3.product p.lane p.num with
    | some q => if p.blank then s3 else s3.evaluate q q.items a
    | none => s3
  (s4.clipFields p.lane p.num).bandTrigger p

/-- ARM_LINE_EVALUATION. -/
def State.armLineEval (s : State) (lane num : Nat) : State :=
  match s.product lane num with
  | none => s
  | some p => if !s.armDue p then s else if s.armLate p then s.armMissed p else s.armEvaluate p

/-! ## Meanings -/

/-- R153: ARM_LINE_EVALUATION. -/
def execArmLineEvaluation (lane : Fin 16) (num : Nat) (s : State) : Out := .next (s.armLineEval lane.val num)

end Sys2Proof.Machine
end

