-- ==== Sys2Proof/Machine/Disp.lean ====
section
/-! DEFINITION. The DISP group (17 R519 to R536; 13 R451). -/

namespace Sys2Proof.Machine

/-- PD_DISP is off on both lead tiles (13 R451). -/
def State.dispDark (s : State) : Bool := !s.dispPd 0 && !s.dispPd 1

/-- The ports that take part in a mode change: powered, with HPD high (17 R517, R533). -/
def State.modePorts (s : State) : List Nat := [0, 1].filter (fun p => s.dispPd p && (s.dport p).hpd)

/-! ## DISP.MODE (17 R519, R520, R533) -/

/-- Another DISP.MODE has been dispatched and is not complete: it changes the mode, or still reads its timing block. -/
def State.modeOpen (s : State) (seq : Nat) : Bool :=
  s.dispMode.isSome ||
    s.qen.store.any (fun e => decide (e.p.opcode = 0x0C01 ∧ e.p.seq ≠ seq ∧ (e.st = .running ∨ e.st = .parked)))

/-- Checks of DISP.MODE before its timing block is read (13 R451). -/
def checkDispMode (s : State) (p : Packet) : Nat × Nat × Nat :=
  if s.dispDark || s.modeOpen p.seq then (St.dispState, 0, 0) else (St.ok, 0, 0)

/-- The package as if both ports had a timing, for the tests that use the panel's width (17 R520). -/
def State.withPanel (s : State) (m : Timing) : State := { s with dsp := s.dsp.map (fun d => { d with timing := some m }) }

/-- The brick buffer of the proof is too small (06 R220). -/
def State.panelOver (s : State) : Bool :=
  let j := s.itemN Pid.pnlLane
  let m := s.panelBinding j
  m.ray j 1 != 0 && decide (3 * (ceilDiv (s.panelWidth * s.itemN Pid.pnlStepX) (2 ^ 16) + 2) * m.rayDepth j > brickProof)

/-- The status of a timing block (17 R520). -/
def State.timingStatus (s : State) (bs : List Byte) (m : Timing) : Nat :=
  let sinks := s.modePorts.all (fun p => (s.dport p).adaptive p)
  if !timingTags bs || !m.accepted sinks then St.dispArg
  else if (s.withPanel m).lbufSum (fun _ => s.job.base.items) true 0 > lbufProof then St.lbufShort
  else if (s.withPanel m).panelOver then St.rayBuf
  else St.ok

/-- A port enters the change: a frame in progress completes first; a port without one trains at once (17 R533). -/
def DspPort.enterChange (d : DspPort) (m : Timing) : DspPort :=
  if d.st = 4 then { d with change := some (m, 1) }
  else { d with st := 2, trains := satInc 16 d.trains, lanes := 0, change := some (m, 4) }

/-- The tolerance that the PROOF port declares at DISP.MODE (17 R531). -/
def State.declareProof (s : State) (m : Timing) : State :=
  let decl := if s.item Pid.dspRtMode = 1 then some (14 * m.lineTicks) else none
  [0, 1].foldl (fun s t => s.updMemc (tileIx t) (fun c => { c with tolDecl := vset c.tolDecl 2 decl })) s

/-- DISP.MODE: every port with HPD high starts the change; with none the mode is set and nothing changes (17 R533; log 51). -/
def actDispMode (s : State) (p : Packet) (bs : List Byte) : State :=
  let m := timingOf bs (p.f 4 1 0) (p.f 4 4 4)
  let st := s.timingStatus bs m
  let ports := s.modePorts
  let frame := (s.dport s.lead.tile).frame
  if st ≠ St.ok then s.done p.seq st
  else if s.dispMode.isSome then s.done p.seq St.dispState
  else if ports.isEmpty then ({ s.declareProof m with dispLast := some m }).complete p.seq St.ok frame 0
  else
    let mode : DispMode := { seq := p.seq, timing := m, left := maskOf 2 (fun q => ports.contains q), failed := 0, frame := frame }
    let s1 := ports.foldl (fun s q => s.updDport q (fun d => d.enterChange m)) ({ s.declareProof m with dispMode := some mode })
    s1.park p.seq .work

/-- DISP.MODE. -/
def opDispMode : OpDef :=
  { code := 0x0C01, cls := clsSOJ, named := [0xFFFF_FFFF, 0xFFFF_FFFF, 0x13], prot := noProt, access := noAccess,
    check := checkDispMode, read := fun _ p => some (p.ha 2, 32), waits := noWaits, bind := noBind, act := actDispMode }

/-! ## DISP.POWER (17 R535; 01 R49) -/

/-- Checks of DISP.POWER. -/
def checkDispPower (s : State) (p : Packet) : Nat × Nat × Nat :=
  if p.f 2 0 0 = 0 && s.dispDark then (St.dispState, 0, 0) else (St.ok, 0, 0)

/-- PD_DISP goes on both lead tiles and the DISP.POWER that waited completes (17 R535). -/
def State.dispOffNow (s : State) : State :=
  let seq := s.dispOff.getD 0
  let s1 := ({ s with dispOff := none }.domsOff 0 0x200).domsOff 1 0x200
  let s2 := s1.dispFlip.foldl (fun s f => s.done f.seq St.dispState) s1
  ({ s2 with dispFlip := [] }).done seq St.ok

/-- PD_DISP goes once no port sends a frame any more. -/
def State.dispOffSettle (s : State) : State := if s.dispOffDue then s.dispOffNow else s

/-- DISP.POWER on: PD_DISP of T0 and T1, and the ports start as it becomes ready; ports already powered start at once. -/
def State.dispPowerOn (s : State) (p : Packet) : State :=
  let dark := [0, 1].filter (fun t => !s.dispPd t)
  let s1 := ([0, 1].filter s.dispPd).foldl (fun s t => s.portStart t) s
  let s2 := dark.foldl (fun s t => (s.domOn t 9).updTileN t (fun x => { x with pdWait := x.pdWait ++ [(p.seq, 0x200, s.now)] })) s1
  if dark.isEmpty then s2.done p.seq St.ok else s2.park p.seq .work

/-- DISP.POWER off: both ports stop after the frame in progress (17 R535). -/
def State.dispPowerOff (s : State) (p : Packet) : State :=
  let first := match s.dispOff with
    | some q => s.done q St.ok
    | none => s
  let s1 := { first with dispOff := some p.seq }.park p.seq .work
  ([0, 1].foldl (fun s q => if (s.dport q).sends then s else s.portStop q) s1).dispOffSettle

/-- DISP.POWER. -/
def actDispPower (s : State) (p : Packet) (_ : List Byte) : State :=
  if p.f 2 0 0 = 1 then s.dispPowerOn p else s.dispPowerOff p

/-- DISP.POWER. -/
def opDispPower : OpDef :=
  { code := 0x0C02, cls := clsSOJ, named := [1], prot := noProt, access := noAccess, check := checkDispPower, read := noRead,
    waits := noWaits, bind := noBind, act := actDispPower }

/-! ## DISP.FLIP (17 R525, R527) -/

/-- Checks of DISP.FLIP: source 1 names a KIND 0 surface of 3 planes on span 0. -/
def checkDispFlip (s : State) (p : Packet) : Nat × Nat × Nat :=
  if s.dispDark then (St.dispState, 0, 0)
  else if p.f 2 0 0 = 0 then (St.ok, 0, 0)
  else match s.surface 0 (p.da 3) with
    | none => (St.surfaceBad, 0, 0)
    | some d => if d.kind ≠ 0 ∨ d.depth ≠ 3 then (St.dispArg, 0, 0) else (St.ok, 0, 0)

/-- DISP.FLIP: pending until the ports latch it; with no port running it completes at once (17 R527; log 51). -/
def actDispFlip (s : State) (p : Packet) (_ : List Byte) : State :=
  let f : DispFlip :=
    { seq := p.seq, left := 3, frame := ((s.dport s.lead.tile).frame + 1) % 2 ^ 32, source := p.f 2 0 0, surface := p.da 3 }
  ({ s with dispFlip := s.dispFlip ++ [f] }.park p.seq .work).flipSettle

/-- DISP.FLIP. -/
def opDispFlip : OpDef :=
  { code := 0x0C03, cls := clsSOJ, named := [1, 0xFFFF_FFFF, 0xFF], prot := noProt,
    access := fun s p _ => if p.f 2 0 0 = 0 then [] else
      match s.surface 0 (p.da 3) with
      | some d => let r := s.surfaceRange 0 (p.da 3) d; [{ spans := 1, base := r.1, len := r.2, write := false }]
      | none => [{ spans := 1, base := p.da 3, len := 64, write := false }],
    check := checkDispFlip, read := noRead, waits := noWaits, bind := noBind, act := actDispFlip }

/-! ## DISP.STATUS (13 R436) -/

/-- A change of the proof waits for a flip of the port (17 R527, R539). -/
def State.flipPend (s : State) (p : Nat) : Bool :=
  let d := s.dport p
  s.dispFlip.any (fun f => bit f.left p) || s.stores.vtab != d.shown.vtab ||
    (d.seen ++ s.job.base.items).any (fun e =>
      let proof := e.1 / 2 ^ 24 == 4 && decide (0x50 ≤ e.1 / 2 ^ 16 % 256 ∧ e.1 / 2 ^ 16 % 256 < 0x90)
      (proof || ((parmRow e.1).map (fun r => r.effect == 6)).getD false) && PMap.item d.seen e.1 != PMap.item s.job.base.items e.1)

/-- What DISP.STATUS reports of a port: the values of its registers and its timing. -/
def State.portQuantities (s : State) (p : Nat) : List Int :=
  let d := s.dport p
  [qn p, qn d.st, qn d.rate, qb d.hpd, qn d.pacing, qb d.halved, qb d.teLost, qb d.panic, qb (s.flipPend p), qn d.frame,
   qn (d.lineAt s.now), qn d.under, qn d.fillpix, qn d.trains, qn d.lanes]
    ++ (match d.timing with
      | some m => [qn m.hactive, qn m.vactive, qn m.htotal, qn m.vtotal, qn m.pclk, qn m.bpc, qn m.vtotalMax]
      | none => [])

/-- DISP.STATUS. -/
def opDispStatus : OpDef :=
  { code := 0x0C04, cls := clsAll, named := rptNamed 0, prot := noProt, access := noAccess, check := noCheck, read := noRead,
    waits := noWaits, bind := noBind, act := fun s p _ => s.reportQ p ([0, 1].map s.portQuantities) }

/-! ## Meanings -/

/-- R533: DISP.MODE. -/
def execDispMode (p : Packet) (s : State) : Out := .next (opDispMode.dispatch s p)
/-- R535: DISP.POWER. -/
def execDispPower (p : Packet) (s : State) : Out := .next (opDispPower.dispatch s p)
/-- R527: DISP.FLIP. -/
def execDispFlip (p : Packet) (s : State) : Out := .next (opDispFlip.dispatch s p)
/-- R436: DISP.STATUS. -/
def execDispStatus (p : Packet) (s : State) : Out := .next (opDispStatus.dispatch s p)
/-- R529: DSP_FRAME_DONE; the last frame before a power-off ends the display. -/
def execDspFrameDone (port : Fin 2) (s : State) : Out := .next (s.frameDone port.val).dispOffSettle
/-- R535: DSP_LINK_LOST; a port that loses its link no longer holds a power-off. -/
def execDspLinkLost (port : Fin 2) (hpdFell : Bool) (s : State) : Out := .next (s.linkLost port.val hpdFell).dispOffSettle

end Sys2Proof.Machine
end

