-- ==== Sys2Proof/Machine/Heat.lean ====
section
/-! DEFINITION. Heat and trim of each tile: conversions, levels, throttle steps and shedding, shutdown, trim runs, and what
brings a correction into force (18 R540 to R566; 16 R508, R509; 19 R585; 20 R613). -/

namespace Sys2Proof.Machine

/-- The package with the heat block of a tile changed. -/
def State.updThm (s : State) (t : Nat) (f : Thm → Thm) : State := s.updTileN t (fun x => { x with thm := f x.thm })
/-- The package with the trim block of a tile changed. -/
def State.updTrm (s : State) (t : Nat) (f : Trm → Trm) : State := s.updTileN t (fun x => { x with trm := f x.trm })
/-- The heat block of a tile. -/
def State.thm (s : State) (t : Nat) : Thm := (s.tileN t).thm
/-- The trim block of a tile. -/
def State.trm (s : State) (t : Nat) : Trm := (s.tileN t).trm

/-! ## Temperatures (18 R540, R542) -/

/-- The filtered temperature of the last conversions: their mean, truncated towards zero (18 R540). -/
def meanTemp (l : List Int) : Int := (l.foldl (· + ·) 0).tdiv (max 1 l.length)
/-- A conversion is in range (18 R542). -/
def tempOk (temp : Int) (valid : Bool) : Bool := valid && decide (-550 ≤ temp ∧ temp ≤ 1500)

/-- A conversion in range: filtered and highest temperatures (18 R540, R565). -/
def Thm.take (x : Thm) (code : Nat) (temp : Int) : Thm :=
  let l := (temp :: x.conv).take 4
  { x with conv := l, code := code % 2 ^ 16, temp := meanTemp l, max := (if x.max < meanTemp l then meanTemp l else x.max), badRun := 0, goodRun := min 100 (x.goodRun + 1) }
/-- A conversion out of range. -/
def Thm.miss (x : Thm) (code : Nat) : Thm := { x with code := code % 2 ^ 16, badRun := min 3 (x.badRun + 1), goodRun := 0 }

/-- The conversion recorded: three out of range in a row make the sensor bad, a hundred in range end it (18 R542). -/
def State.convert (s : State) (t code : Nat) (temp : Int) (ok : Bool) : State :=
  let s1 := s.updThm t (fun x => if ok then x.take code temp else x.miss code)
  let x := s1.thm t
  if !x.sensorBad && decide (x.badRun = 3) then
    (s1.updThm t (fun x => { x with sensorBad := true, goodRun := 0, cntSensor := satInc 8 x.cntSensor })).raiseN t Ev.thermSensorBad [code, 1]
  else if x.sensorBad && decide (x.goodRun = 100) then
    (s1.updThm t (fun x => { x with sensorBad := false })).raiseN t Ev.thermSensorBad [code, 0]
  else s1

/-- The filtered temperature reaches a threshold; a bad sensor counts as above them all (18 R542). -/
def Thm.reaches (x : Thm) (limit : Int) : Bool := x.sensorBad || (decide (limit ≤ x.temp) && !x.conv.isEmpty)
/-- The filtered temperature is below a threshold. -/
def Thm.below (x : Thm) (limit : Int) : Bool := !x.sensorBad && decide (x.temp < limit)

/-- A level changes: 0 warning, 1 throttle, 2 shutdown (18 R543). -/
def State.thermLevel (s : State) (t level : Nat) (set : Bool) : State :=
  s.raiseN t Ev.thermLevel [level, boolNat set, evInt (s.thm t).temp]

/-- SMB_ALERT_L follows a change of WARN or SHUTDOWN on any tile (20 R613). -/
def State.smbAlertSet (s : State) : State :=
  { s with smbAlert := s.tileList.any (fun t => (s.thm t).warn || (s.thm t).shut) }

/-- The warning level (18 R543). -/
def State.warnLevel (s : State) (t : Nat) : State :=
  let x := s.thm t
  let w := s.item (Pid.thmWarn t)
  if !x.warn && x.reaches w then ((s.updThm t (fun x => { x with warn := true })).thermLevel t 0 true).smbAlertSet
  else if x.warn && x.below (w - s.item (Pid.thmWarnHyst t)) then
    ((s.updThm t (fun x => { x with warn := false })).thermLevel t 0 false).smbAlertSet
  else s

/-! ## Shedding (18 R544 to R548) -/

/-- The domains that the fourth action switches off: codec, ray, composer, screen, scan and the lanes (18 R545). -/
def shedDomains : Nat := 0x39F0
/-- Nominal savings of the first three actions, 0.1 W (18 R545). -/
def nominalSaving (i : Nat) : Nat := [5, 7, 8].getD i 0
/-- The saving of an applied action: what was measured, else the nominal one. -/
def Thm.savingOf (x : Thm) (i : Nat) : Nat := if (vget x.applied i none).isSome then nominalSaving i else vget x.saving i 0
/-- An action that a tile can take: the first is for T0 and T1 alone (18 R545). -/
def canShed (t i : Nat) : Bool := decide (i ≠ 0 ∨ t < 2)

/-- The shortest prefix of the first three actions that brings the estimate to the limit: the actions applied and the
estimate they leave (18 R545). -/
def shedUp (t limit : Nat) : List Nat → Nat → Nat → Nat × Nat
  | [], shed, est => (shed, est)
  | i :: is, shed, est =>
    if est ≤ limit then (shed, est)
    else if bit shed i || !canShed t i then shedUp t limit is shed est
    else shedUp t limit is (shed + 2 ^ i) (est - nominalSaving i)

/-- The actions released in reverse order, each whose saving is no longer needed (18 R548). -/
def shedDown (saving : Nat → Nat) (limit : Nat) : List Nat → Nat → Nat → Nat
  | [], shed, _ => shed
  | i :: is, shed, est =>
    if !bit shed i then shedDown saving limit is shed est
    else if est + saving i ≤ limit then shedDown saving limit is (shed - 2 ^ i) (est + saving i)
    else shed

/-- A tile will need the fourth action at the conversion of this tick: its interval ends now at a third step (18 R546). -/
def State.needsFour (s : State) (t : Nat) : Bool :=
  let x := s.thm t
  let ends := (x.timer.map (fun a => decide (a + 250_000 * x.stepT ≤ s.now))).getD false
  let limit := s.itemN (Pid.thmPlimit t) - 4 * s.itemN (Pid.thmStepW t)
  ends && decide (x.step = 3) && x.reaches (s.item (Pid.thmThrot t)) && decide (limit < (shedUp t limit [0, 1, 2] x.shed x.est).2)

/-- The fourth action may be taken: the partner is PAIRED with its own step below 4, and the first tile yields to a
partner that needs it at the same conversion (18 R546). -/
def State.mayFour (s : State) (t : Nat) : Bool :=
  let u := partnerOf t
  decide ((s.tileN u).twin = .paired ∧ (s.thm u).step < 4) && (s.tileN t).withdrawable && !(decide (t % 2 = 0) && s.needsFour u)

/-- Actions newly applied note the estimate and the tick; compression of the tile's span pauses with the second (03 R130,
R133; 18 R545). -/
def State.shedNote (s : State) (t old : Nat) : State :=
  let x := s.thm t
  let fresh := fun (i : Nat) => bit x.shed i && !bit old i
  let held := s.stores.compress.any (fun c => ((s.entry c.seq).map (fun e => bit (e.p.f 2 3 0) (t / 2))).getD false)
  let s1 := s.updThm t (fun x => { x with
    applied := Vector.ofFn (fun (i : Fin 4) => if fresh i.val then some (x.est, s.now) else if bit x.shed i.val then vget x.applied i.val none else none) })
  if fresh 1 && held then s1.raiseN t Ev.compressPaused [t / 2] else s1

/-- A change of the throttle step: the limit, the actions applied or released, a withdrawal or a hold, and THERM_SHED (18
R544 to R548). -/
def State.setStep (s : State) (t new : Nat) : State :=
  let x := s.thm t
  let limit := s.itemN (Pid.thmPlimit t) - new * s.itemN (Pid.thmStepW t)
  let out := decide ((s.tileN t).twin = .withdrawn ∧ (s.tileN t).cause = 7)
  let up := shedUp t limit [0, 1, 2] x.shed x.est
  let want := decide (new ≠ 0) && !bit x.shed 3 && decide (limit < up.2)
  let four := want && s.mayFour t
  let shed :=
    if new = 0 then 0
    else if new < x.step && decide (x.est ≤ limit) then (if out then x.shed else shedDown x.savingOf limit [2, 1, 0] x.shed x.est)
    else up.1 + (if four then 8 else 0)
  let held := want && !four && !out
  let s1 := s.updThm t (fun x => { x with
    step := new, limit := limit, shed := shed, held := held, timer := if new = 0 then none else some s.now, stepT := s.itemN (Pid.thmStepT t)
    cntThrottle := if x.step = 0 then satInc 16 x.cntThrottle else x.cntThrottle })
  let s2 := if x.step = 0 then (s1.updBoot t (fun b => { b with tallyHeat := (satInc 32 b.tallyHeat.1, b.tallyHeat.2) })).thermLevel t 1 true
    else if new = 0 then s1.thermLevel t 1 false else s1
  let s3 := (s2.shedNote t x.shed).raiseN t Ev.thermShed [new, limit, shed, boolNat held]
  if four then (s3.withdraw t 7).domsOff t shedDomains else s3

/-- The step returns to 0: with THM_AUTO_REJOIN a thermal withdrawal ends, its domains coming on first (18 R548). -/
def State.stepZero (s : State) (t : Nat) : State :=
  let x := s.tileN t
  if decide (x.twin = .withdrawn ∧ x.cause = 7) && !x.thm.shut && decide (s.itemN (Pid.thmAutoRejoin t) = 1) then
    let want := (shedDomains &&& 0x0DD0 ||| (s.jobDomains t &&& shedDomains)) &&& bonded t
    ((bitsOf 15 want).foldl (fun s d => s.domOn t d) s).thermalRejoin t
  else s

/-- The throttle threshold is reached at step 0 (18 R544). -/
def State.throttle (s : State) (t : Nat) : State :=
  if decide ((s.thm t).step = 0) && (s.thm t).reaches (s.item (Pid.thmThrot t)) then s.setStep t 1 else s

/-- THROTTLE_STEP_INTERVAL: the conversion that ends an interval (18 R544). -/
def State.stepInterval (s : State) (t : Nat) : State :=
  let x := s.thm t
  match x.timer with
  | none => s
  | some a =>
    let th := s.item (Pid.thmThrot t)
    if s.now < a + 250_000 * x.stepT ∨ x.step = 0 then s
    else if x.reaches th && decide (x.step < 4) then s.setStep t (x.step + 1)
    else if x.below (th - s.item (Pid.thmThrotHyst t)) then
      let s1 := s.setStep t (x.step - 1)
      if x.step = 1 then s1.stepZero t else s1
    else s.updThm t (fun x => { x with timer := some s.now, stepT := s.itemN (Pid.thmStepT t) })

/-- SHED_SAVING_MEASURED: the drop in estimate over the 10 ms after an action is its saving (18 R545). -/
def State.shedSaving (s : State) (t i : Nat) : State :=
  match vget (s.thm t).applied i none with
  | none => s
  | some (est, a) =>
    whenDue (decide (a + 2_500_000 ≤ s.now)) s
      (s.updThm t (fun x => { x with saving := vset x.saving i (est - x.est), applied := vset x.applied i none }))

/-! ## Trim (18 R553 to R562) -/

/-- The keys of the values of a class: one for each encoder input (18 R553). -/
def trimKeys (c : Nat) : List Nat := if c = 3 then [16, 17, 18, 19] else [c]
/-- A class's correction that waits for its boundary; a newer one replaces it (18 R558). -/
def Trm.await (x : Trm) (c : Nat) (vs : List Int) : Trm :=
  { x with pend := x.pend ||| 2 ^ c, waiting := x.waiting.filter (fun w => !(trimKeys c).contains w.1) ++ (trimKeys c).map (fun k => (k, vs)) }
/-- Waiting corrections under some keys come into force (18 R553, R558). -/
def Trm.force (x : Trm) (c : Nat) (keys : List Nat) : Trm :=
  let now := x.waiting.filter (fun w => keys.contains w.1)
  let left := x.waiting.filter (fun w => !keys.contains w.1)
  { x with
    inForce := x.inForce.filter (fun w => !(now.any (fun n => n.1 == w.1))) ++ now, waiting := left
    pend := if left.any (fun w => (trimKeys c).contains w.1) then x.pend else x.pend &&& (15 - 2 ^ c) }
/-- The boundary of a class on a tile. -/
def State.trimBoundary (s : State) (t c : Nat) : State := s.updTrm t (fun x => x.force c (trimKeys c))

/-- The neighbour of a temperature among sets that hold a class: the nearest at or below, or at or above. -/
def neighbour (sets : List TrimSet) (below : Bool) (temp : Int) : Option TrimSet :=
  (sets.filter (fun a => if below then decide (a.temp ≤ temp) else decide (temp ≤ a.temp))).foldl (fun b a =>
    match b with
    | none => some a
    | some c => if (if below then decide (c.temp < a.temp) else decide (a.temp < c.temp)) then some a else b) none
/-- The values of a class in a set. -/
def TrimSet.of (a : TrimSet) (c : Nat) : List Int := ((a.values.find? (fun v => v.1 == c)).map (·.2)).getD []
/-- Interpolation between neighbouring sets, truncated towards zero (18 R555). -/
def trimAt (sets : List TrimSet) (c : Nat) (temp : Int) : Option (List Int) :=
  let l := sets.filter (fun a => a.values.any (fun v => v.1 == c))
  match neighbour l true temp, neighbour l false temp with
  | some a, some b =>
    if a.temp = b.temp then some (a.of c)
    else some (List.zipWith (fun va vb => va + ((vb - va) * (temp - a.temp)).tdiv (b.temp - a.temp)) (a.of c) (b.of c))
  | some a, none => some (a.of c)
  | none, some b => some (b.of c)
  | none, none => none

/-- The values follow the die temperature once it has moved 1.0 degC since they were last applied (18 R555). -/
def Trm.follow (x : Trm) (temp : Int) : Trm :=
  let moved := (x.appliedTemp.map (fun a => decide (a + 10 ≤ temp ∨ temp + 10 ≤ a))).getD true
  if x.sets.isEmpty || !moved then x
  else (List.range 4).foldl (fun x c => match trimAt x.sets c temp with
    | some vs => x.await c vs
    | none => x) { x with appliedTemp := some temp }

/-- A trim run of some classes starts on a tile, for its packets, under the ADC items of that moment (18 R556, R563; 00 R14). -/
def State.trimStart (s : State) (t classes : Nat) (seqs : List Nat) : State :=
  s.updTrm t (fun x => { x with
    run := some (classes, seqs), running := classes
    refs := (s.item (Pid.thmTref t), s.itemN (Pid.trmVref t), s.itemN (Pid.trmAdcTol t)) })
/-- A conversion far enough from the last run's temperature starts a run of TRM_AUTO (18 R556). -/
def State.trimAuto (s : State) (t : Nat) : State :=
  let x := s.trm t
  let d := (s.thm t).temp - x.lastTemp
  let auto := s.itemN (Pid.trmAuto t)
  if x.run.isNone && decide (auto ≠ 0) && decide (s.item (Pid.trmDt t) < d ∨ d < -s.item (Pid.trmDt t)) then s.trimStart t auto [] else s

/-- A packet of SVC.TRIM is done with a tile: it completes when no tile runs or queues it, with the classes gathered in its
entry (18 R557). -/
def State.trimSettle (s : State) (seq : Nat) : State :=
  let busy := s.tileList.any (fun t =>
    (((s.trm t).run.map (fun r => r.2.contains seq)).getD false) || (s.trm t).queue.any (fun q => q.1 == seq))
  if busy then s else s.complete seq St.ok (((s.entry seq).map (·.r0)).getD 0) 0

/-- A run ends on a tile with the classes it completed: its packets and those that waited gather them, and the next run
starts (18 R557). -/
def State.trimEnd (s : State) (t done : Nat) : State :=
  let x := s.trm t
  let seqs := (x.run.map (·.2)).getD []
  let note := fun (s : State) (seq : Nat) => s.updEntry seq (fun e => { e with r0 := e.r0 ||| done })
  let s1 := (seqs ++ x.queue.map (·.1)).foldl note s
  let s2 := s1.updTrm t (fun x => { x with run := none, running := 0 })
  let s3 := match x.queue with
    | [] => s2
    | q :: qs => (s2.updTrm t (fun x => { x with queue := qs })).trimStart t q.2 [q.1]
  seqs.foldl (fun s seq => s.trimSettle seq) s3

/-- A run in progress, and those that wait, are abandoned at a shutdown (18 R557). -/
def State.trimAbandon (s : State) (t : Nat) : State :=
  let x := s.trm t
  let seqs := (x.run.map (·.2)).getD [] ++ x.queue.map (·.1)
  let s1 := s.updTrm t (fun x => { x with run := none, running := 0, queue := [] })
  seqs.foldl (fun s seq => s.trimSettle seq) s1

/-- The unit of a class is on (18 R553, R557). -/
def State.trimUnit (s : State) (t c : Nat) : Bool :=
  let x := s.tileN t
  if c = 0 then x.on 11 || x.on 12 || x.on 13
  else if c = 1 then x.on 10 && decide (x.memc.st = 2)
  else if c = 2 then true
  else decide (t < 2) && x.on 14

/-- Why a class of a run failed: causes OFF 0, MEASURE 1, RESIDUAL 2, VREF 3, TREF 4 in the order of the spec's list (18 R557,
R560, R562, R564). -/
def State.trimFault (s : State) (t c : Nat) (r : TrimResult) : Option Nat :=
  let (tref, vref, tol) := (s.trm t).refs
  let off := tref - (s.thm t).temp
  if !s.trimUnit t c then some 0
  else match r.failed.find? (fun f => f.1 == c) with
    | some f => some f.2
    | none =>
      if c ≠ 2 then none
      else if 100 * r.vref < 98 * vref ∨ 102 * vref < 100 * r.vref then some 3
      else if r.resid.natAbs > tol then some 2
      else if tref ≠ -32768 ∧ off.natAbs > 50 then some 4
      else none

/-- The results of a run stored in a set: the one within TRM_DT / 2, else a new one, else the closest (18 R554). -/
def Trm.store (x : Trm) (dt : Nat) (temp : Int) (vs : List (Nat × List Int)) : Trm :=
  let dist := fun (a : TrimSet) => (a.temp - temp).natAbs
  let best := x.sets.zipIdx.foldl (fun (b : Option (TrimSet × Nat)) a => match b with
    | none => some a
    | some c => if dist a.1 < dist c.1 then some a else b) none
  let put := fun (old : List (Nat × List Int)) => old.filter (fun v => !(vs.any (fun w => w.1 == v.1))) ++ vs
  match best with
  | some (a, i) =>
    if 2 * dist a ≤ dt || decide (8 ≤ x.sets.length) then { x with sets := x.sets.set i { temp := temp, values := put a.values } }
    else { x with sets := x.sets ++ [{ temp := temp, values := vs }] }
  | none => { x with sets := [{ temp := temp, values := vs }] }

/-- The eye of an UP, awake lane measured by a trim run (16 R509). -/
def State.trimEye (s : State) (t l : Nat) (e : Eye) : State :=
  let x := s.lnk t l
  if !s.lnkOn t l || decide (x.st ≠ 2 ∨ x.rxslp ≠ 0 ∨ x.txslp ≠ 0) then s
  else
    let low := decide (e.width < s.lnkItem t l 3 ∨ e.height < s.lnkItem t l 4)
    let s1 := s.updLnk t l (fun x => { x with
      eyeW := e.width % 2 ^ 8, eyeH := e.height % 2 ^ 16, ctle := e.ctle % 16, txMain := e.txMain % 64, txPost := e.txPost % 32,
      txPre := e.txPre % 16, margin := low })
    if low then s1.raiseN t Ev.laneMarginLow [l, e.width, e.height] else s1

/-- The trim sets of every tile go to the flash journal (18 R554; 19 R582). -/
def State.trimRecord (s : State) : State :=
  if s.hostRuns then s.flashWrite { FlashJob.of 3 0 with trims := some (s.tileList.map (fun t => (s.trm t).keep)) } else s

/-- TRIM_DONE: the run ends; failed classes keep their values, the rest are stored and wait for their boundaries (18 R554,
R557, R560 to R562; 16 R509). -/
def State.trimDone (s : State) (t : Nat) (r : TrimResult) : State :=
  match (s.trm t).run with
  | none => s
  | some (classes, _) =>
    let temp := (s.thm t).temp
    let cs := bitsOf 4 classes
    let bad := cs.filterMap (fun c => (s.trimFault t c r).map (fun k => (c, k)))
    let good := cs.filter (fun c => !(bad.any (fun b => b.1 == c)))
    let vs := good.map (fun c => (c, ((r.values.find? (fun v => v.1 == c)).map (·.2)).getD []))
    let tref := (s.trm t).refs.1
    let factory := bad.any (fun b => b == (2, 3))
    let upd := fun (x : Trm) =>
      let x1 : Trm := { x with
        fail := x.fail ||| maskOf 4 (fun c => bad.any (fun b => b.1 == c)), runs := satInc 16 x.runs, lastTemp := temp
        resid := if cs.contains 2 then clampI r.resid (-32768) 32767 else x.resid
        dram := if good.contains 1 then Vector.ofFn (fun (i : Fin 4) => r.dram.getD i.val 0 % 2 ^ 32) else x.dram
        diode := if good.contains 2 && decide (tref ≠ -32768) then (tref - temp, tref) else x.diode
        inForce := if factory then x.inForce.filter (fun w => w.1 != 2) else x.inForce
        appliedTemp := if good.isEmpty then x.appliedTemp else some temp }
      let x2 := if good.isEmpty then x1 else x1.store (s.itemN (Pid.trmDt t)) temp vs
      vs.foldl (fun x v => x.await v.1 v.2) x2
    let s1 := s.updTrm t upd
    let s2 := if cs.contains 0 then r.eyes.foldl (fun s e => s.trimEye t e.1 e.2) s1 else s1
    let s3 := bad.foldl (fun s b => s.raiseN t Ev.trimFail [b.1, b.2]) s2
    let done := maskOf 4 (fun c => good.contains c)
    ((s3.raiseN t Ev.trimDone [done, evInt temp]).trimEnd t done).trimRecord

/-- ENC_TRIM_APPLY: TRM_EDGE_FREE ticks without an edge on any pair of an input of twin 0 (18 R553, R558). -/
def State.encTrim (s : State) (t i : Nat) : State :=
  whenDue (decide (t < 2) && (s.tileN t).on 14 && decide ((s.enc i).edgeAt + s.itemN (Pid.trmEdgeFree t) ≤ s.now)) s
    (s.updTrm t (fun x => x.force 3 [16 + i]))

/-- The end of a retraining pause, with the DRAM corrections that waited for it (15 R494, 18 R553). -/
def State.retrainDone (s : State) (t : Nat) (drift : Option (Fin 4 × Int)) : State :=
  match (s.memc t).pause with
  | some (1, _) => (s.retrained t drift).trimBoundary t 1
  | _ => s

/-! ## Shutdown (18 R547) -/

/-- Shutdown is set: the tile withdraws with cause THERMAL and every domain but PD_AON goes off; a trim run is abandoned
(18 R547, R557; 19 R584). -/
def State.shutdown (s : State) (t : Nat) : State :=
  let s1 := s.updThm t (fun x => { x with shut := true, cntShut := satInc 8 x.cntShut })
  let s2 := s1.updBoot t (fun b => { b with tallyHeat := (b.tallyHeat.1, satInc 32 b.tallyHeat.2) })
  let s3 := (s2.thermLevel t 2 true).smbAlertSet
  (((s3.withdraw t 7).trimAbandon t).domsOff t (pdAll - 1))

/-- The shutdown level: set, or released, with a restart under THM_AUTO_RESTART (18 R542, R543, R547). -/
def State.shutLevel (s : State) (t : Nat) : State :=
  let x := s.thm t
  let lim := s.item (Pid.thmShut t)
  if !x.shut && x.reaches lim then s.shutdown t
  else if x.shut && x.below (lim - s.item (Pid.thmShutHyst t)) then
    let s1 := ((s.updThm t (fun x => { x with shut := false })).thermLevel t 2 false).smbAlertSet
    if s.itemN (Pid.thmAutoRestart t) = 1 then s1.restartTile t (s.tileN t).boot.slot else s1
  else s

/-- A thermal cycle counts when TALLY_TC_HI is reached after TALLY_TC_LO (19 R585). -/
def State.thermCycle (s : State) (t : Nat) : State :=
  let temp := (s.thm t).temp
  let b := (s.tileN t).boot
  if temp < s.item Pid.tallyTcLo then s.updBoot t (fun b => { b with cycleArmed := true })
  else if b.cycleArmed && decide (s.item Pid.tallyTcHi ≤ temp) then
    s.updBoot t (fun b => { b with cycleArmed := false, cycles := satInc 32 b.cycles })
  else s

/-- THERM_CONVERSION: every 100 us the die sensor is converted; the ADC correction that waited comes into force, the levels
and the cycle count follow, and in range the trim values do too (18 R540 to R547, R553 to R556; 19 R585). -/
def State.conversion (s : State) (t code : Nat) (temp : Int) (valid : Bool) : State :=
  let ok := tempOk temp valid
  let s1 := (s.trimBoundary t 2).convert t code temp ok
  let s2 := if ok then s1.thermCycle t else s1
  let s3 := ((s2.warnLevel t).throttle t).shutLevel t
  if ok && !(s3.thm t).shut then (s3.updTrm t (fun x => x.follow (s3.thm t).temp)).trimAuto t else s3

/-! ## Commands and reports (13 R454; 18 R556, R557, R561) -/

/-- Checks of SVC.TRIM: at least one tile of the part and one class. -/
def checkSvcTrim (s : State) (p : Packet) : Nat × Nat × Nat :=
  (if p.f 2 7 0 = 0 ∨ p.f 2 7 0 ≥ 2 ^ s.nTiles ∨ p.f 3 3 0 = 0 then St.svcArg else St.ok, 0, 0)

/-- SVC.TRIM: a run of the named classes on each named tile, at once or after the run in progress. -/
def actSvcTrim (s : State) (p : Packet) (_ : List Byte) : State :=
  (bitsOf 8 (p.f 2 7 0)).foldl (fun s t =>
    if (s.trm t).run.isSome then s.updTrm t (fun x => { x with queue := x.queue ++ [(p.seq, p.f 3 3 0)] })
    else s.trimStart t (p.f 3 3 0) [p.seq]) (s.run p.seq .work)

/-- SVC.TRIM. -/
def opSvcTrim : OpDef :=
  { code := 0x0E05, cls := clsS, named := [0xFF, 0xF], prot := noProt, access := noAccess, check := checkSvcTrim, read := noRead,
    waits := noWaits, bind := noBind, act := actSvcTrim }

/-- What SVC.THERMAL reports of a tile (18 R561). -/
def State.thermalQuantities (s : State) (t : Nat) : List Int :=
  let x := s.thm t
  let y := s.trm t
  [qn t, x.temp, x.max, qn x.step, qn x.limit, qn x.shed, qb x.held] ++ x.saving.toList.map qn ++
  [qn x.cntThrottle, qn x.cntShut, qn x.cntSensor, qb x.sensorBad] ++
  (s.tileN t).lanes.toList.flatMap (fun l => [qn l.eyeW, qn l.eyeH]) ++ y.dram.toList.map qn ++ [y.resid]

/-- SVC.THERMAL. -/
def opSvcThermal : OpDef :=
  { code := 0x0E06, cls := clsS, named := rptNamed 0xFF, prot := noProt, access := noAccess, check := noCheck, read := noRead,
    waits := noWaits, bind := noBind
    act := fun s p _ => s.reportQ p (((bitsOf 8 (p.selector 8)).filter (fun t => decide (t < s.nTiles))).map s.thermalQuantities) }

/-- A lane direction that wakes takes its correction (16 R506, R508). -/
def State.wakeTrim (s : State) (t l : Nat) (rx : Bool) : State :=
  let s1 := s.laneAwake t l rx
  let d := if rx then 1 else 0
  if (vget (s.lnk t l).waking d none).isSome && (vget (s1.lnk t l).waking d none).isNone then s1.trimBoundary t 0 else s1

/-- A lane whose test ends takes its correction (16 R508, R513). -/
def State.testTrim (s : State) (t l errors losses : Nat) (locked : Bool) : State :=
  let s1 := s.testDone t l errors losses locked
  if (s.lnk t l).test.isSome && (s1.lnk t l).test.isNone then s1.trimBoundary t 0 else s1

/-! ## Meanings -/

/-- R556: SVC.TRIM. -/
def execSvcTrim (p : Packet) (s : State) : Out := .next (opSvcTrim.dispatch s p)
/-- R561: SVC.THERMAL. -/
def execSvcThermal (p : Packet) (s : State) : Out := .next (opSvcThermal.dispatch s p)
/-- R565: THM_CLR_CNT. -/
def execThmClrCnt (t : Tile) (s : State) : Out :=
  onTile t s (s.updThm t.val (fun x => { x with cntThrottle := 0, cntShut := 0, cntSensor := 0 }))
/-- R565: THM_CLR_MAX. -/
def execThmClrMax (t : Tile) (s : State) : Out := onTile t s (s.updThm t.val (fun x => { x with max := x.temp }))
/-- R540: THERM_CONVERSION. -/
def execThermConversion (t : Tile) (code : Nat) (temp : Int) (valid : Bool) (s : State) : Out :=
  onTile t s (s.conversion t.val code temp valid)
/-- R544: THROTTLE_STEP_INTERVAL. -/
def execThrottleStepInterval (t : Tile) (s : State) : Out := onTile t s (s.stepInterval t.val)
/-- R545: POWER_ESTIMATE_UPDATE. -/
def execPowerEstimateUpdate (t : Tile) (est : Nat) (s : State) : Out :=
  onTile t s (s.updThm t.val (fun x => { x with est := min est 0xFFFF }))
/-- R545: SHED_SAVING_MEASURED. -/
def execShedSavingMeasured (t : Tile) (action : Fin 4) (s : State) : Out := onTile t s (s.shedSaving t.val action.val)
/-- R557: TRIM_DONE. -/
def execTrimDone (t : Tile) (r : TrimResult) (s : State) : Out := onTile t s (s.trimDone t.val r)
/-- R553: ENC_TRIM_APPLY. -/
def execEncTrimApply (t : Tile) (i : Quad) (s : State) : Out := onTile t s (s.encTrim t.val i.num)
/-- R494: DRAM_RETRAINING_DONE. -/
def execDramRetrainingDone (t : Tile) (drift : Option (Fin 4 × Int)) (s : State) : Out := onTile t s (s.retrainDone t.val drift)
/-- R506: LANE_WAKE. -/
def execLaneWake (t : Tile) (l : Fin 10) (rx : Bool) (s : State) : Out :=
  onTile t s (s.wakeTrim t.val l.val rx)
/-- R513: LANE_TEST_DONE. -/
def execLaneTestDone (t : Tile) (l : Fin 10) (errors losses : Nat) (locked : Bool) (s : State) : Out :=
  onTile t s (s.testTrim t.val l.val errors losses locked)

end Sys2Proof.Machine
end

