-- ==== Sys2Proof/Machine/Hub.lean ====
section
/-! DEFINITION. A WyrelLink node at its own end: the registers it answers CTRL with, and a hub's segments (10 R315 to R321,
R337, R340). -/

namespace Sys2Proof.Machine

/-! ## Node registers (10 R337, R340) -/

/-- A node that nothing but its HELLO is known of. -/
def Node.fresh (id : Nat) (h : Hello) : Node :=
  { id := id, hello := h, st := h.state, lanes := [], statusAt := none, counters := List.replicate 5 0, asked := false,
    readyLine := none, leave := none, eseq := [], nodeId := h.id, nodeSt := h.state, leaveLo := 0, leaveHi := 0,
    cnt := Vector.replicate 8 0, segTab := [], segs := [], fired := [], answer := none, top := 0, leaveSet := false, out := [],
    tPath := h.tPath }

/-- A SEG_TAB address as its index. -/
def segIx (a : Nat) : Nat := (a - 0x100) / 4

/-- The dword a node reads at an address; none where it has no register (10 R340). Node-specific addresses hold what the node's
maker gave them (log 54). -/
def Node.readAt (n : Node) (fr a : Nat) : Option Nat :=
  let h := n.hello
  if a = 0x00 then some (n.nodeId.getD 0)
  else if a = 0x04 then some (h.caps * 256 + h.kind)
  else if a = 0x08 then some (h.uid % 2 ^ 32)
  else if a = 0x0C then some (h.uid / 2 ^ 32 % 2 ^ 32)
  else if a = 0x10 then some n.nodeSt
  else if a = 0x14 then some h.hubLead
  else if a = 0x18 then some n.tPath
  else if a = 0x1C then some (h.fwd * 2 ^ 16 + h.depth * 256 + h.pend)
  else if a = 0x20 then some n.leaveLo
  else if a = 0x24 then some n.leaveHi
  else if 0x40 ≤ a ∧ a < 0x60 then some (vget n.cnt ((a - 0x40) / 4) 0)
  else if 0x100 ≤ a ∧ a < 0x2100 then some (if segIx a < segCap h.caps then NMap.get 0 n.segTab (segIx a) else 0)
  else if 0x4000 ≤ a then some (Config.freeNat (fr + a))
  else none

/-- The highest LAST_ACC of a hub: of the segments that it has or had since its power-up (10 R321). -/
def Node.topAcc (n : Node) : Nat := (n.segs.map (·.lastAcc)).foldl max n.top

/-- A valid SEG_TAB entry. -/
def segValid (v : Nat) : Bool := bit v 31

/-- The segments of a hub as its table now names them: a new one starts at the highest LAST_ACC (10 R321). -/
def Node.resegment (n : Node) : Node :=
  let top := n.topAcc
  let segs := (n.segTab.filter (fun e => segValid e.2)).map (fun e =>
    let seg := e.2 % 2 ^ 16
    let ncnt := bits e.2 25 16 + 1
    match n.segs.find? (fun x => x.seg == seg) with
    | some x => { x with ncnt := ncnt }
    | none => { seg := seg, ncnt := ncnt, lastAcc := top, table := [] })
  { n with segs := segs, top := top }

/-- A node with a dword written at an address, or the cause of its refusal: 1 address, 2 access, 3 state (10 R337, R340). -/
def Node.writeAt (n : Node) (fr a v : Nat) : Except Nat Node :=
  if a = 0x00 then (if n.nodeSt = 1 then .ok { n with nodeId := some (v % 2 ^ 14) } else .error 3)
  else if 0x04 ≤ a ∧ a < 0x10 ∨ 0x14 ≤ a ∧ a < 0x20 then .error 2
  else if a = 0x10 then
    if v % 8 = 4 ∧ n.nodeSt = 3 then .ok { n with nodeSt := 4 }
    else if v % 8 = 5 ∧ n.nodeSt = 4 then .ok { n with nodeSt := 5 }
    else .error 3
  else if a = 0x20 then .ok { n with leaveLo := v }
  else if a = 0x24 then .ok { n with leaveHi := v % 2 ^ 16, leaveSet := true }
  else if 0x40 ≤ a ∧ a < 0x60 then .ok { n with cnt := vset n.cnt ((a - 0x40) / 4) v }
  else if 0x100 ≤ a ∧ a < 0x2100 then
    if segCap n.hello.caps ≤ segIx a then .error 1
    else if n.nodeSt ≠ 3 then .error 3
    else .ok ({ n with segTab := NMap.set 0 n.segTab (segIx a) (v &&& 0x83FF_FFFF) }.resegment)
  else if 0x4000 ≤ a then (if Config.freeNat (fr + a) % 2 = 0 then .ok n else .error 2)
  else .error 1

/-- Dwords written from an address on, all of them or none (10 R337). -/
def Node.writeAll (n : Node) (fr a : Nat) : List Nat → Except Nat Node
  | [] => .ok n
  | v :: vs =>
    match n.writeAt fr a v with
    | .ok m => m.writeAll fr (a + 4) vs
    | .error e => .error e

/-- A dword of a frame. -/
def dword (v : Nat) : U32 := BitVec.ofNat 32 v

/-- A node's answer to a CTRL request, and the node after it (10 R337, R340). -/
def Node.ctrl (n : Node) (fr : Nat) (f : CtrlFrame) : Node × CtrlFrame :=
  let answer := fun (op : Nat) (data : List Nat) => ({ f with op := op, count := data.length, data := data.map dword } : CtrlFrame)
  if f.op = 0 then
    let vs := (List.range f.count).map (fun i => n.readAt fr (f.addr + 4 * i))
    if vs.all (·.isSome) then (n, answer 2 (vs.map (·.getD 0))) else (n, answer 4 [1])
  else
    match n.writeAll fr f.addr (f.data.map (fun (d : U32) => d.toNat)) with
    | .ok m => (m, answer 3 [])
    | .error e => (n, answer 4 [e])

/-- A well-formed CTRL request (10 R337). -/
def ctrlRequestOk (f : CtrlFrame) : Bool :=
  decide (f.op ≤ 1 ∧ 1 ≤ f.count ∧ f.count ≤ 64 ∧ f.addr % 4 = 0 ∧ (f.op = 1 → f.data.length = f.count))

/-- The package as a node: the registers it answers with (10 R340; log 53). -/
def State.selfNode (s : State) : Node :=
  let st := match s.link.servos.find? (fun v => v.hop == .up) with
    | some v => if v.aligned then 4 else 2
    | none => if s.link.role = 1 then 4 else 1
  Node.fresh s.link.nodeId
    { state := st, kind := 1, caps := 0, uid := Config.packageUid, id := some s.link.nodeId, parent := 0, depth := 0, pend := 0,
      fwd := 0, hubLead := 0, tPath := 0, lastAcc := 0 }

/-- A CTRL answer as a frame of the package to the press master (10 R337). -/
def ctrlFields (f : CtrlFrame) : List Nat := [f.ctag, f.op, f.count, f.addr] ++ f.data.map (fun (d : U32) => d.toNat)

/-- CTRL_REQUEST_RECEIVE: the node that a request names answers it; the package answers one to its own ID over the reach lanes
(10 R337). -/
def State.ctrlRequest (s : State) (f : CtrlFrame) : State :=
  let fr := s.free
  if !ctrlRequestOk f then s
  else if f.node = s.link.nodeId ∧ s.link.role = 0 then
    let (n, a) := s.selfNode.ctrl fr f
    let s1 := s.sendFrame { tile := s.lead.tile, lane := 8, type := 4, node := 0, fields := ctrlFields a }
    { s1.nextFree with link := { s1.link with nodeId := n.nodeId.getD 0 } }
  else
    match s.node f.node with
    | none => s
    | some x =>
      let (n, a) := x.ctrl fr f
      (s.updNode f.node (fun _ => { n with answer := some a })).nextFree

/-! ## The duplicate rule (10 R315, R319 to R321) -/

/-- A counter of a node: 0 CHECK, 1 LATE, 2 MISSING, 3 BOTHVOID, 4 DIFFER, 5 OVER, 6 FAR, 7 FORMAT. -/
def Node.count (n : Node) (i : Nat) : Node := { n with cnt := vupd n.cnt i 0 (satInc 32) }

/-- What makes a frame invalid: its counter, in the order of R319's checks (10 R315, R320). -/
def Node.invalid (n : Node) (f : HubFrame) (ta : Nat) : Option Nat :=
  match n.segs.find? (fun x => x.seg == f.seg) with
  | none => some 7
  | some x =>
    if x.ncnt ≠ f.ncnt then some 7
    else if f.fire < ta + n.hello.hubLead then some 1
    else if ta + 65_536 ≤ f.fire then some 6
    else none

/-- A pending entry that takes a copy: the first LINE copy is kept, a later one with another CRC differs (10 R319). -/
def HubEntry.take (e : HubEntry) (sideB : Bool) (f : HubFrame) : HubEntry × Bool :=
  match f.kind with
  | .line slots =>
    if e.line then (e, decide (f.crc ≠ e.crc))
    else ({ e with line := true, crc := f.crc, slots := slots }, false)
  | .void _ => ({ e with voids := e.voids ||| (if sideB then 2 else 1) }, false)

/-- A LINE or VOID frame at a hub's segment (10 R319). -/
def Node.hubTake (n : Node) (sideB : Bool) (f : HubFrame) (ta : Nat) : Node :=
  match n.invalid f ta with
  | some c => n.count c
  | none =>
    match n.segs.find? (fun x => x.seg == f.seg) with
    | none => n
    | some g =>
      if f.seq ≤ g.lastAcc then n
      else
        let known := g.table.any (fun e => e.seq == f.seq)
        if !known && decide (n.hello.pend ≤ g.table.length) then n.count 5
        else
          let e0 : HubEntry := { seq := f.seq, fire := f.fire, fph := f.fph, line := false, voids := 0, crc := 0, slots := [] }
          let e := (g.table.find? (fun e => e.seq == f.seq)).getD e0
          let (e1, differ) := e.take sideB f
          let table := if known then mapIf g.table (fun x => x.seq == f.seq) (fun _ => e1) else g.table ++ [e1]
          let n1 := { n with segs := mapIf n.segs (fun x => x.seg == f.seg) (fun x => { x with table := table }) }
          if differ then n1.count 4 else n1

/-- The pending entry with the lowest sequence. -/
def HubSeg.lowest (g : HubSeg) : Option HubEntry :=
  g.table.foldl (fun m e => match m with
    | none => some e
    | some x => some (if e.seq < x.seq then e else x)) none

/-- A hub fires: READY, or LEAVING below its LEAVE_LINE, once a write of NODE_LEAVE_HI has armed it (10 R326, R334, R340). -/
def Node.fires (n : Node) (seq : Nat) : Bool :=
  decide (n.nodeSt = 4) || (decide (n.nodeSt = 5) && (!n.leaveSet || decide (seq < n.leaveLo + 2 ^ 32 * n.leaveHi)))

/-- The fire instant of a segment's lowest sequence: it is fired, or counted, and taken (10 R319). -/
def Node.hubFire (n : Node) (seg now : Nat) : Node :=
  match n.segs.find? (fun x => x.seg == seg) with
  | none => n
  | some g =>
    match g.lowest with
    | none => n
    | some e =>
      if now < e.fire then n
      else
        let n1 := if e.line then
            (if n.fires e.seq then { n with fired := (seg, e.seq, e.fire, e.fph, e.slots) :: n.fired } else n)
          else n.count (if e.voids = 3 then 3 else 2)
        { n1 with top := max n1.top e.seq, segs := mapIf n1.segs (fun x => x.seg == seg) (fun x =>
            { x with lastAcc := e.seq, table := x.table.filter (fun y => y.seq != e.seq) }) }

/-! ## A hub's ports (10 R311, R315 to R317) -/

/-- A port is on side B. -/
def HubPort.sideB : Sys2Proof.HubPort → Bool
  | .b0 => true
  | .b1 => true
  | .db => true
  | _ => false
/-- A port lies towards the tiles. -/
def HubPort.upstream : Sys2Proof.HubPort → Bool
  | .da => false
  | .db => false
  | _ => true

/-- The CTRL frame in a frame's bytes, of a node (10 R337). -/
def ctrlIn (node : Nat) (bs : List Byte) : CtrlFrame :=
  let op := fld bs 10 1
  let n := fld bs 11 1
  { node := node, ctag := fld bs 8 2, op := op, addr := fld bs 12 4, count := n,
    data := if op = 0 ∨ op = 3 then [] else (chunks 4 (bs.drop 16) (if op = 4 then 1 else n)).map (fun b => dword (leVal b)) }

/-- The LINE or VOID frame in a frame's bytes (10 R313, R314). -/
def hubIn (bs : List Byte) : HubFrame :=
  let n := fld bs 26 2
  { seg := fld bs 8 2, seq := fld bs 10 6, fire := fld bs 16 8, fph := fld bs 24 1, ncnt := n, crc := fld bs (fld bs 6 2 - 4) 4,
    kind := if fld bs 0 1 = 1 then .line (slotsIn (bs.drop 28) n) else .void (fld bs 25 1) }

/-- The upstream ports of a hub that are locked, of a side: A0 or B0 towards BAR_LANE of its twin's tile, A1 or B1 towards
BAR_ALT (10 R316, R317). -/
def State.hubLocked (s : State) (x : Node) (sideB : Bool) : List HubPort :=
  ((x.lanes.filter (fun l => (l.1 % 2 == 1) == sideB && (s.tileN l.1).laneUp l.2)).map (fun l =>
    let first := (List.range 12).any (fun b => s.itemN (Pid.barNode b (l.1 / 2)) == x.id && s.itemN (Pid.barLane b) == l.2)
    if sideB then (if first then HubPort.b0 else .b1) else if first then HubPort.a0 else .a1)).foldl addNew []

/-- A hub has another hub downstream (10 R317, R318). -/
def State.chained (s : State) (id : Nat) : Bool := s.link.nodes.any (fun n => decide (n.hello.parent = id ∧ n.hello.kind ≠ 3 ∧ n.id ≠ id))
/-- A hub knows an ID: its own, or that of a module that it represents (10 R317, R335). -/
def State.hubKnows (s : State) (id dst : Nat) : Bool :=
  dst == id || s.link.nodes.any (fun n => decide (n.id = dst ∧ n.hello.parent = id ∧ n.hello.kind = 3))

/-- A hub sends a frame on, out of some ports. -/
def Node.forward (n : Node) (ports : List HubPort) (bs : List Byte) : Node := { n with out := ports.map (fun p => (p, bs)) ++ n.out }

/-- A hub acts on a frame addressed to it or to every node: LINE and VOID by the duplicate rule, a CTRL request by its answer
(10 R317, R319, R337). -/
def State.hubAct (s : State) (id : Nat) (sideB : Bool) (bs : List Byte) : State :=
  let ty := fld bs 0 1
  if ty = 1 ∨ ty = 2 then s.updNode id (fun n => n.hubTake sideB (hubIn bs) s.now)
  else if ty = 4 then s.ctrlRequest (ctrlIn id bs)
  else s

/-- HUB_FRAME_RECEIVE: a frame at a port of a hub is discarded by its check, or acted on, sent down its side's chain, or sent up
on every locked port of its side (10 R311, R316, R317). -/
def State.hubReceive (s : State) (id : Nat) (port : HubPort) (f : RxFrame) : State :=
  match s.node id, f, frameFault f with
  | none, _, _ => s
  | some _, _, some k => if k = 0 then s.updNode id (fun n => n.count 0) else if k = 1 then s.updNode id (fun n => n.count 7) else s
  | some _, .broken, none => s
  | some x, .bytes bs, none =>
    let ty := fld bs 0 1
    let dst := fld bs 2 2
    let all := bit dst 15
    let own := !all && decide (dst % 2 ^ 14 = id)
    let side := HubPort.sideB port
    if ty = 15 then s
    else if !HubPort.upstream port then (if ty = 3 ∨ ty = 7 then s else s.updNode id (fun n => n.forward (s.hubLocked x side) bs))
    else
      let s1 := if own || all then s.hubAct id side bs else s
      if own || ty = 3 || ty = 5 || ty = 7 then s1
      else if s.chained id then s1.updNode id (fun n => n.forward [if side then .db else .da] bs)
      else if all || s.hubKnows id (dst % 2 ^ 14) then s1
      else s1.updNode id (fun n => n.count 7)

/-! ## Meanings -/

/-- R337: CTRL_REQUEST_RECEIVE. -/
def execCtrlRequestReceive (f : CtrlFrame) (s : State) : Out := .next (s.ctrlRequest f)
/-- R319: HUB_FRAME_RECEIVE. -/
def execHubFrameReceive (node : Nat) (port : HubPort) (f : RxFrame) (s : State) : Out := .next (s.hubReceive node port f)
/-- R319: HUB_FIRE_INSTANT. -/
def execHubFireInstant (node seg : Nat) (s : State) : Out := .next (s.updNode node (fun n => n.hubFire seg s.now))

end Sys2Proof.Machine
end

