-- ==== Sys2Proof/Machine/Link.lean ====
section
/-! DEFINITION. WyrelLink at the package (chapter 10): nodes and their identity, status and leaving, CTRL, TIME, positions and
products of several packages, and the LINK.NODES, LIST, CTRL, LEAVE and TIME opcodes. -/

namespace Sys2Proof.Machine

/-! ## A node's nozzles (10 R332 to R334) -/

/-- The bars and spans that a node carries. -/
def State.nodeBars (s : State) (id : Nat) : List (Nat × Nat) :=
  s.usedSpans.flatMap (fun k => (s.usedBars.filter (fun b => s.itemN (Pid.barNode b k) == id)).map (fun b => (b, k)))

/-- A product has a dot of a node's nozzles on web lines [lo, hi) that fires on or after a firing line (10 R333, R334). -/
def State.nodeDots (s : State) (id : Nat) (p : Product) (lo hi fires : Nat) : Bool :=
  (s.nodeBars id).any (fun x => s.prodInSpan p x.2 && (s.barRows x.1).any (fun y =>
    let d := s.rowDelay y.1 y.2
    decide (max (max p.first lo) (fires - d) < min (s.prodEnd p) hi)))

/-- The first firing line whose fire instant is at or after a tick (10 R333). -/
def State.firesFrom (s : State) (tick : Nat) : Nat :=
  ((s.motion.issued.filter (fun l => decide (256 * tick ≤ l.fire))).map (·.n)).foldl min (s.motion.lastLine + 1)

/-- Where a node's nozzles are absent: each lane, and 16 outside every lane. -/
def nodeKeys (id : Nat) : List Nat := (List.range 17).map (fun j => 17 * id + j)

/-- The nozzles of nodes that are not READY are absent as a job begins (10 R332). -/
def State.absentNodes (s : State) : List Nat :=
  let ids := ((s.usedSpans.flatMap (fun k => s.usedBars.map (fun b => s.itemN (Pid.barNode b k)))).foldl addNew []).filter (· != 0)
  (ids.filter (fun id => !s.nodeReady id)).flatMap nodeKeys

/-- A node is READY: its nozzles enter, outside every lane at the next line boundary and lane by lane with the products (10
R331, R332). -/
def State.nodeJoins (s : State) (id : Nat) : State :=
  let s0 := (s.updNode id (fun n => { n with readyLine := some s.motion.lastLine, leave := none })).raiseLead Ev.nodeReady [id]
  let s1 := s0.colourNodeBack id
  if s1.armed then s1.changeOwn (.absent (17 * id + 16) false)
  else (nodeKeys id).foldl (fun s k => s.changeOwn (.absent k false)) s1

/-- An unplanned leave: the nozzles are absent from the next line boundary, and the products with a dot lost before it are
rejected (10 R333, R335). -/
def State.nodeLost (s : State) (id cause : Nat) (since : Nat) : State :=
  let line := s.chooseLine (.leave id)
  let s1 := s.rejectIf (fun p => s.nodeDots id p 0 line (s.firesFrom since))
  let s2 := (s1.changeOwn (.leave id)).raiseLead Ev.nodeLeft [id, Config.nodeCause cause, line]
  (s2.updNode id (fun n => { n with st := 1, asked := false, readyLine := none, statusAt := none, leave := none })).colourNodeLost id

/-- A planned leave: LEAVE_LINE is chosen, written to the node and reported, and products with a dot from it on are rejected
(10 R334). -/
def State.planLeave (s : State) (id seq : Nat) : State :=
  let line := if s.armed then s.chooseLine (.leave id) else s.motion.lastLine + 1
  let s1 := if seq = 0 then s.changeOwn (.leave id) else s.changeFor seq (.leave id)
  let s2 := ((s1.sendCtrl id 0x20 [line % 2 ^ 32]).sendCtrl id 0x24 [line / 2 ^ 32]).sendCtrl id 0x10 [5]
  let s3 := (s2.updNode id (fun n => { n with st := 5, leave := some line })).raiseLead Ev.nodeLeft [id, Config.nodeCause 1, line]
  s3.rejectIf (fun p => s.nodeDots id p line (2 ^ 48) 0)

/-- At the issue of a line: a node whose LEAVE_LINE it reaches is in DISCOVER, a planned leave that was prepared again is
written again, and products with its nozzles on the line are rejected (10 R330, R334). -/
def State.leaveIssue (s : State) (n : Nat) : State :=
  s.link.nodes.foldl (fun s x =>
    match x.leave with
    | none => s
    | some l =>
      let now := ((s.job.commits.find? (fun c => c.change == .leave x.id && decide (n ≤ c.line))).map (·.line)).getD l
      let s1 := if now = l then s
        else ((s.updNode x.id (fun y => { y with leave := some now })).sendCtrl x.id 0x20 [now % 2 ^ 32]).sendCtrl x.id 0x24 [now / 2 ^ 32]
      if n < now then s1
      else
        let s2 := if x.st = 5 then
            (s1.updNode x.id (fun y => { y with st := 1, asked := false, readyLine := none, statusAt := none })).colourNodeLost x.id
          else s1
        s2.rejectIf (fun p => s2.nodeDots x.id p n (n + 1) 0)) s

/-- What follows the issue of a line: nodes that leave, the fetches of the line that lies P − 1 ahead, and the products of
dark spans (09 R290; 10 R334; 11 R351). -/
def State.issueTail (s : State) (n : Nat) : State :=
  let s0 := s.leaveIssue n
  let s1 := { s0 with lead := { s0.lead with hubBase := false } }
  let s2 := (s1.usedTiles.filter (fun t => (s1.tileN t).carries && (s1.tileN t).on 10)).foldl (fun s t =>
    s.fetchLine t (n + (s.tileN t).prefetch - 1)) s1
  s2.usedSpans.foldl (fun s k => if s.spanDark k then s.rejectDark k n n else s) s2

/-! ## Identity and CONFIG (10 R318, R329, R331) -/

/-- An ID that stands for no node. -/
def noNode : Nat := 2 ^ 14

/-- The package with a node's entry, by its UID. -/
def State.updUid (s : State) (uid : Nat) (f : Node → Node) : State :=
  { s with link := { s.link with nodes := mapIf s.link.nodes (fun n => n.hello.uid == uid) f } }

/-- The checks of R331 against the armed job: the cause that fails, or none. -/
def State.nodeFault (s : State) (x : Node) : Option Nat :=
  let h := x.hello
  let used := s.armed && decide (s.nodeSegs x.id ≠ 0)
  let lead := fun (t : Nat) => s.scanLeadBy t (s.motion.lastLine + 1) (fun i => s.nodeCounts i || i == x.id)
  if used && s.usedTiles.any (fun t => decide (s.itemN Pid.motIssueAhead < lead t + 256)) then some 3
  else if bit h.caps 1 && decide (h.pend < 32) then some 4
  else if 4 < h.depth then some 5
  else if used && decide (segCap h.caps < s.nodeSegs x.id) then some 6
  else none

/-- The segment table of a node: VALID, NCNT and SEG of each segment of the job (10 R340). -/
def State.segWords (s : State) (id : Nat) : List Nat :=
  (s.nodeBars id).flatMap (fun x => (s.barRows x.1).flatMap (fun y => (s.segsOf x.2 y.1 y.2).map (fun g =>
    2 ^ 31 + (g.2.2 - 1) * 2 ^ 16 + g.1)))

/-- Dwords written to a node from an address on, at most 64 a frame (10 R337). -/
def State.writeNode (s : State) (id addr : Nat) : Nat → List Nat → State
  | 0, _ => s
  | n + 1, l => if l.isEmpty then s else (s.sendCtrl id addr (l.take 64)).writeNode id (addr + 256) n (l.drop 64)

/-- A node in CONFIG is checked: refused, or given its segment table and NODE_STATE = 4 (10 R331). -/
def State.configNode (s : State) (id : Nat) : State :=
  match s.node id with
  | none => s
  | some x =>
    match s.nodeFault x with
    | some c => s.raiseLead Ev.nodeRefused [id, Config.nodeCause c]
    | none =>
      let cap := segCap x.hello.caps
      let ws := if s.armed then (s.segWords id).take cap else []
      let s1 := s.writeNode id 0x100 32 (ws ++ List.replicate (cap - ws.length) 0)
      (s1.sendCtrl id 0x10 [4]).updNode id (fun n => { n with asked := true })

/-- Every node is checked again at JOB.ARM (10 R331). -/
def State.armNodes (s : State) : State :=
  s.link.nodes.foldl (fun s x =>
    if x.st = 3 then s.configNode x.id
    else if x.st = 4 then (match s.nodeFault x with
      | some c => s.raiseLead Ev.nodeRefused [x.id, Config.nodeCause c]
      | none => s)
    else s) s

/-- A node with this ID joins or runs under another UID (10 R329). -/
def State.idTaken (s : State) (uid id : Nat) : Bool :=
  s.link.nodes.any (fun n => n.id == id && n.hello.uid != uid && decide (2 ≤ n.st ∧ n.st ≤ 4))

/-- The entry of a node that has no usable ID: it stays in DISCOVER, and its event is raised once (10 R329). -/
def State.nodeStays (s : State) (f : Hello) (ev id : Nat) : State :=
  let old := s.link.nodes.find? (fun n => n.hello.uid == f.uid)
  let again := (old.map (fun n => decide (n.id = noNode ∧ n.hello.id = f.id))).getD false
  let entry := { Node.fresh noNode f with st := 1 }
  let s1 := if old.isSome then s.updUid f.uid (fun n => { n with id := noNode, hello := f, st := 1 })
    else { s with link := { s.link with nodes := s.link.nodes ++ [entry] } }
  if again then s1 else s1.raiseLead ev [f.uid, id]

/-- A known node's HELLO: its fields, state and lane; what its state then asks for (10 R330, R331, R335). -/
def State.nodeHello (s : State) (t l id : Nat) (f : Hello) : State :=
  let old := s.link.nodes.find? (fun n => n.hello.uid == f.uid)
  let x := old.getD (Node.fresh id f)
  let gone := decide (f.kind = 3 ∧ f.state = 1 ∧ (x.st = 3 ∨ x.st = 4)) && old.isSome
  let st := if x.st = 5 ∧ f.state = 4 then 5 else f.state
  let x1 : Node := { x with
    id := id, hello := f, st := st, lanes := addNew x.lanes (t, l), nodeId := f.id, nodeSt := f.state
    asked := x.asked && decide (f.state = 3) }
  let s1 := if old.isSome then s.updUid f.uid (fun _ => x1) else { s with link := { s.link with nodes := s.link.nodes ++ [x1] } }
  if gone then s1.nodeLost id 2 ((x.statusAt).getD s.now)
  else if f.state = 3 ∧ !x1.asked then s1.configNode id
  else s1

/-- N0 of a cold start without a preserve follows the hubs that join before the first line (01 R45). -/
def State.helloBase (s : State) (f : Hello) : State :=
  if s.lead.hubBase && bit f.caps 1 then
    let h := f.lastAcc * 2 ^ 16 + 0xFFFF
    let n := h + 2 ^ 25 - 1
    if s.motion.lastLine < n then s.updMot (fun m => { m with lastLine := n }) else s
  else s

/-- The depth of a node that announces itself: its parent's and one more, that of a tile being 0; a module is its hub's
(10 R318, R335). -/
def State.depthOf (s : State) (f : Hello) : Nat :=
  if f.kind = 3 then f.depth
  else if f.parent = s.link.nodeId then max 1 f.depth
  else max f.depth (((s.node f.parent).map (fun p => p.hello.depth + 1)).getD f.depth)

/-- A node deeper than 4 stays in DISCOVER; NODE_REFUSED is raised once (10 R318). -/
def State.nodeDeep (s : State) (t l id : Nat) (f : Hello) : State :=
  let again := s.link.nodes.any (fun n => n.hello.uid == f.uid && decide (4 < n.hello.depth))
  let s1 := s.nodeHello t l id { f with state := 1 }
  if again then s1 else s1.raiseLead Ev.nodeRefused [id, Config.nodeCause 5]

/-- HELLO_RECEIVE (10 R329): the node's ID is its own, or the table's, which is then written to it; a node without one, with a
taken one, or too deep stays in DISCOVER. -/
def State.helloReceive (s : State) (t l : Nat) (f : Hello) : State :=
  if !(s.lnkOn t l && (s.tileN t).laneUp l) then s
  else
    let s0 := s.helloBase f
    let g := { f with depth := s.depthOf f }
    match g.id with
    | none =>
      match s.link.table.lookup g.uid with
      | none => s0.nodeStays g Ev.nodeUnknown 0
      | some id =>
        if s.idTaken g.uid id then s0.nodeStays g Ev.nodeIdConflict id
        else if 4 < g.depth then s0.nodeDeep t l id g
        else (s0.nodeHello t l id { g with state := 1 }).sendCtrl id 0 [id]
    | some id =>
      if id = 0 && g.kind != 1 || s.idTaken g.uid id then s0.nodeStays g Ev.nodeIdConflict id
      else if 4 < g.depth then s0.nodeDeep t l id g
      else s0.nodeHello t l id g

/-! ## STATUS (10 R331, R333, R338; 07 R237, R250) -/

/-- The row and the energy zone that an entry names: SEG with the zone within the segment, or with the nozzle (10 R338). -/
def State.segPlace (s : State) (id seg : Nat) : Option (Nat × Nat × Nat) :=
  ((s.nodeBars id).findSome? (fun x => s.segOf x.2 (seg % 2 ^ 14))).map (fun g => (segCh g.1, segRow g.1, g.2.1))

/-- A temperature entry: the zone lies 256 nozzles apart within the segment's 1,024 (07 R245, R250; 10 R338). -/
def State.statusTemp (s : State) (id : Nat) (e : TempEntry) : State :=
  match s.segPlace id e.seg with
  | some (c, r, g) => s.headTemp c r (g / 1024 * 4 + e.seg / 2 ^ 14) e.temp
  | none => s

/-- A nozzle-health entry: under NOZ_AUTO a failed nozzle is missing from the next line boundary (07 R237). -/
def State.statusHealth (s : State) (id : Nat) (e : HealthEntry) : State :=
  match s.segPlace id e.seg with
  | none => s
  | some (c, r, g) =>
    let key := nozKey c r (g + e.nozzle)
    let now := NMap.get 0 (s.job.commits.foldl (fun x d => x.apply d.change) s.job.base).failed key
    let auto := decide (s.itemNowN (Pid.nozAuto c) = 1)
    if e.health = 1 ∧ now = 0 ∧ auto then (s.changeOwn (.failed key true)).raiseLead Ev.nozzleFailed [c, r, g + e.nozzle]
    else if e.health ≠ 1 ∧ now ≠ 0 then s.changeOwn (.failed key false)
    else s

/-- STATUS_FRAME_RECEIVE: the first part of an interval counts for the node's presence; the first STATUS in READY makes it
ready (10 R331, R333, R334, R338). -/
def State.statusReceive (s : State) (f : StatusFrame) : State :=
  match s.node f.node with
  | none => s
  | some x =>
    if x.id = noNode then s
    else
      let first := decide (f.part % 128 = 0)
      let s1 := s.updNode x.id (fun n => { n with
        st := if n.st = 5 ∧ f.state = 4 then 5 else f.state, nodeSt := f.state, counters := f.counters, top := max n.top f.lastAcc
        statusAt := if first then some s.now else n.statusAt })
      let s2 := if f.state = 4 ∧ x.readyLine.isNone ∧ x.st ≠ 5 then s1.nodeJoins x.id else s1
      let s3 := if f.state = 5 ∧ x.leave.isNone then s2.planLeave x.id 0 else s2
      f.health.foldl (fun s e => s.statusHealth x.id e) (f.temps.foldl (fun s e => s.statusTemp x.id e) s3)

/-- NODE_STATUS_TIMEOUT: no STATUS for 750,000 ticks (10 R333). -/
def State.statusTimeout (s : State) (id : Nat) : State :=
  match s.node id with
  | none => s
  | some x =>
    match x.statusAt with
    | none => s
    | some a => whenDue (decide ((x.st = 4 ∨ x.st = 5) ∧ a + 750_000 < s.now)) s (s.nodeLost id 0 a)

/-! ## EVENT (10 R339, R341) -/

/-- NODE_EVENT: acted on once for each source, code and ESEQ; reserved codes are discarded (10 R339). -/
def State.nodeEvent (s : State) (node code eseq : Nat) (data : List Byte) : State :=
  let again := ((s.node node).map (fun n => n.eseq.lookup code == some eseq)).getD false
  whenDue ((code == 0x10 || decide (0x8000 ≤ code ∧ code < 0x10000)) && !again) s
    ((s.updNode node (fun n => { n with eseq := n.eseq.filter (fun e => e.1 != code) ++ [(code, eseq)] })).raiseLead Ev.nodeEvent
      ([node, code] ++ data.map (fun (b : Byte) => b.toNat)))

/-- EVENT_POSITION_RECEIVE: a slave package takes a position of a line above its last as the output of its motion block (10
R341; log 55). -/
def State.positionEvent (s : State) (e : PosEvent) : State :=
  whenDue (decide (s.link.role = 0) && s.armed && decide (s.motion.lastLine < e.line)) s
    (let s1 := s.updLoop (fun l => { l with
       mode := .lock, p := e.line * 2 ^ 44, f := ((e.rate * 2 ^ 44 / 250_000_000 : Nat) : Int), tBase := e.fire, still := false, reversed := false })
     let s2 := s1.updLens (fun l => { l with st := .lock, aL := e.aL, aR := e.aR, r := e.r, q := e.q })
     (s2.issueCore e.line (256 * e.fire + e.fph)).issueTail e.line)

/-- EVENT_PRODUCT_RECEIVE: a slave package takes it as a product registration (10 R341). -/
def State.productEvent (s : State) (lane num first : Nat) : State :=
  whenDue (decide (s.link.role = 0) && s.registers first && decide ((s.lane lane).nextNum ≤ num ∧ s.laneW lane ≠ 0)) s
    ((s.updLane lane (fun l => { l with nextNum := num })).registerProduct lane first)

/-! ## CTRL (10 R337) -/

/-- The answer to a tracked request: data to host memory, or the node's cause. -/
def State.ctrlAnswer (s : State) (f : CtrlFrame) : State :=
  match s.link.ctrl.find? (fun r => r.f.ctag == f.ctag && r.f.node == f.node) with
  | none => s
  | some r =>
    let fits := decide (f.op = 4 ∨ (r.f.op = 0 ∧ f.op = 2 ∧ f.data.length = r.f.count) ∨ (r.f.op = 1 ∧ f.op = 3))
    if !fits then s
    else
      let s1 := { s with link := { s.link with ctrl := s.link.ctrl.filter (fun q => q.seq != r.seq) } }
      if f.op = 4 then s1.complete r.seq St.nodeNak ((f.data.head?.map (fun (d : U32) => d.toNat)).getD 0) 0
      else
        let s2 := match s.entry r.seq with
          | some e => if f.op = 2 then s1.hostWrite (e.p.ha 5) (f.data.flatMap (fun (d : U32) => leBytes 4 d.toNat)) else s1
          | none => s1
        s2.done r.seq St.ok

/-- A tracked request sent. -/
def State.ctrlSend (s : State) (r : CtrlReq) : State :=
  match s.nodeLane r.f.node with
  | none => s
  | some l => s.sendFrame { tile := l.1, lane := l.2, type := 4, node := r.f.node,
                            fields := [r.f.ctag, r.f.op, r.f.count, r.f.addr] ++ r.f.data.map (fun (d : U32) => d.toNat) }

/-- CTRL_ANSWER_TIMEOUT: sent again, or after three attempts the command ends (10 R337). -/
def State.ctrlTimeout (s : State) (seq : Nat) : State :=
  match s.link.ctrl.find? (fun r => r.seq == seq) with
  | none => s
  | some r =>
    let again := { r with tries := r.tries + 1, sentAt := s.now }
    whenDue (decide (r.sentAt + 25_000 < s.now)) s
      (if r.tries < 3 then
        ({ s with link := { s.link with ctrl := mapIf s.link.ctrl (fun q => q.seq == seq) (fun _ => again) } }).ctrlSend again
      else ({ s with link := { s.link with ctrl := s.link.ctrl.filter (fun q => q.seq != seq) } }).done seq St.nodeTimeout)

/-- Checks of LINK.CTRL (10 R343; 13 R450). -/
def checkLinkCtrl (s : State) (p : Packet) : Nat × Nat × Nat :=
  let id := p.f 2 13 0
  if p.dw 3 % 4 ≠ 0 ∨ p.f 4 6 0 = 0 ∨ 64 < p.f 4 6 0 then (St.nodeArg, 0, 0)
  else if (s.nodeLane id).isNone || ((s.node id).map (fun n => decide (n.st = 0))).getD true then (St.nodeState, 0, 0)
  else (St.ok, 0, 0)

/-- LINK.CTRL: one request with up to three attempts. -/
def actLinkCtrl (s : State) (p : Packet) (bs : List Byte) : State :=
  let n := p.f 4 6 0
  let write := bit (p.dw 2) 16
  let f : CtrlFrame :=
    { node := p.f 2 13 0, ctag := s.link.ctag, op := if write then 1 else 0, addr := p.dw 3, count := n,
      data := if write then (chunks 4 bs n).map (fun b => BitVec.ofNat 32 (leVal b)) else [] }
  let r : CtrlReq := { seq := p.seq, f := f, tries := 1, sentAt := s.now }
  let s1 := { s with link := { s.link with ctag := (s.link.ctag + 1) % 2 ^ 16, ctrl := s.link.ctrl ++ [r] } }
  (s1.ctrlSend r).park p.seq .work

/-- LINK.CTRL. -/
def opLinkCtrl : OpDef :=
  { code := 0x0A03, cls := clsSO, named := [0x1_3FFF, 0xFFFF_FFFF, 0x7F, 0xFFFF_FFFF, 0xFFFF_FFFF], prot := noProt, access := noAccess,
    check := checkLinkCtrl, read := fun _ p => if bit (p.dw 2) 16 then some (p.ha 5, 4 * p.f 4 6 0) else none,
    waits := noWaits, bind := noBind, act := actLinkCtrl }

/-! ## LINK.NODES, LINK.LIST, LINK.LEAVE (10 R329, R334, R343) -/

/-- The entries of a node table, if every one is valid: IDs in range and not 0, reserved bytes zero, no UID or ID twice. -/
def nodeTable (n : Nat) (bs : List Byte) : Option (List (Nat × Nat)) :=
  let es := chunks 16 bs n
  let t := es.map (fun b => (fld b 0 8, fld b 8 2))
  if es.all (fun b => decide (fld b 8 2 < 2 ^ 14 ∧ fld b 8 2 ≠ 0 ∧ fld b 10 6 = 0)) && decide ((t.map (·.1)).Nodup ∧ (t.map (·.2)).Nodup)
  then some t else none

/-- LINK.NODES: the table in force for the next HELLO. -/
def actLinkNodes (s : State) (p : Packet) (bs : List Byte) : State :=
  match nodeTable (p.f 4 12 0) bs with
  | none => s.done p.seq St.nodeArg
  | some t => ({ s with link := { s.link with table := t } }).done p.seq St.ok

/-- LINK.NODES. -/
def opLinkNodes : OpDef :=
  { code := 0x0A01, cls := clsSO, named := [0xFFFF_FFFF, 0xFFFF_FFFF, 0x1FFF], prot := noProt, access := noAccess,
    check := fun _ p => if 4096 < p.f 4 12 0 then (St.nodeArg, 0, 0) else (St.ok, 0, 0),
    read := fun _ p => if p.f 4 12 0 = 0 then none else some (p.ha 2, 16 * p.f 4 12 0), waits := noWaits, bind := noBind, act := actLinkNodes }

/-- What LINK.LIST reports of a node: HELLO fields, state, last STATUS counters (10 R343). -/
def Node.quantities (n : Node) : List Int :=
  let h := n.hello
  [qn n.id, qn n.st, qn h.state, qn h.kind, qn h.caps, qn h.uid, qn (h.id.getD 0x8000), qn h.parent, qn h.depth, qn h.pend, qn h.fwd,
   qn h.hubLead, qn h.tPath, qn h.lastAcc] ++ n.counters.map qn

/-- LINK.LIST. -/
def opLinkList : OpDef :=
  { code := 0x0A02, cls := clsAll, named := rptNamed 0, prot := noProt, access := noAccess, check := noCheck, read := noRead,
    waits := noWaits, bind := noBind, act := fun s p _ => s.reportQ p (s.link.nodes.map Node.quantities) }

/-- LINK.LEAVE: of a node that is READY (10 R334). -/
def opLinkLeave : OpDef :=
  { code := 0x0A04, cls := clsSO, named := [0x3FFF], prot := noProt, access := noAccess,
    check := fun s p => if s.nodeReady (p.f 2 13 0) then (St.ok, 0, 0) else (St.nodeState, 0, 0),
    read := noRead, waits := noWaits, bind := noBind, act := fun s p _ => s.planLeave (p.f 2 13 0) p.seq }

/-! ## TIME (10 R322 to R327) -/

/-- A hop's servo, as it starts. -/
def Servo.fresh (h : Hop) : Servo :=
  { hop := h, rate := 0, o := 0, d := 0, bad := 0, good := 0, xseq := 0, t1 := none, t2 := none, t3 := none, syncAt := 0, doneAt := 0, interval := 0,
    aligned := false, helloAt := 0, slew := 0, heldAt := none }
/-- The servo of a hop. -/
def State.servo (s : State) (h : Hop) : Servo := (s.link.servos.find? (fun v => v.hop == h)).getD (Servo.fresh h)
/-- The package with the servo of a hop changed. -/
def State.updServo (s : State) (h : Hop) (f : Servo → Servo) : State :=
  let v := f (s.servo h)
  let vs := if s.link.servos.any (fun x => x.hop == h) then mapIf s.link.servos (fun x => x.hop == h) (fun _ => v) else s.link.servos ++ [v]
  { s with link := { s.link with servos := vs } }

/-- The DST of a hop's frames: the peer, or every node of the hop while none is known (10 R310, R328; log 129). -/
def State.hopPeer (s : State) (h : Hop) : Nat :=
  match h with
  | .down t l => ((s.link.nodes.find? (fun n => n.hello.depth == 1 && n.lanes.contains (t.val, l.val))).bind (·.nodeId)).getD 0x8000
  | _ => 0

/-- The tile, lane and far node of a frame on a hop: a tile's lane, the reach lane towards the press master, or a node's own. -/
def State.hopSend (s : State) (h : Hop) (type : Nat) (fields : List Nat) : State :=
  match h with
  | .down t l => s.sendFrame { tile := t.val, lane := l.val, type := type, node := s.hopPeer h, fields := fields }
  | .up => s.sendFrame { tile := s.lead.tile, lane := 8, type := type, node := 0, fields := fields }
  | .node _ => s

/-- The near end of a hop can send: its lane is up, or the end is a node's own (10 R322). -/
def State.hopUp (s : State) (h : Hop) : Bool :=
  match h with
  | .down t l => decide (t.val < s.nTiles) && s.lnkOn t.val l.val && (s.tileN t.val).laneUp l.val
  | .up => decide (s.link.role = 0)
  | .node id => (s.node id).isSome

/-- TIME at which a TIME frame of the package leaves on a hop, 1/256 tick: a tile's, corrected by its offset from the package
master (10 R322, R323, R328). -/
def State.stampNow (s : State) (h : Hop) : Nat :=
  match h with
  | .down t l => s.departAt t.val l.val
  | .up => s.departAt s.lead.tile 8
  | .node _ => 256 * s.now

/-- TIME_SYNC_SEND: a master sends SYNC WYL_TIME_INT ticks after the last one, which took the value; an exchange not complete is
dropped (10 R323; 00 R14). -/
def State.syncSend (s : State) (h : Hop) : State :=
  let v := s.servo h
  whenDue (s.hopUp h && h != .up && (decide (v.syncAt + v.interval ≤ s.now) || !(s.link.servos.any (fun x => x.hop == h)))) s
    ((s.updServo h (fun v => { v with xseq := (v.xseq + 1) % 256, t1 := some (s.stampNow h), t2 := none, t3 := none, syncAt := s.now, interval := s.itemN Pid.wylTimeInt })).hopSend h 3
      [0, (v.xseq + 1) % 256, s.stampNow h])

/-- TIME_SYNC_RECEIVE: a slave stamps a SYNC and answers with REQ (10 R323). -/
def State.syncReceive (s : State) (h : Hop) (xseq t1 t2 : Nat) : State :=
  whenDue (s.hopUp h) s
    ((s.updServo h (fun v => { v with xseq := xseq % 256, t1 := some t1, t2 := some t2, t3 := some (s.stampNow h), syncAt := s.now, interval := s.itemN Pid.wylTimeInt,
                                      doneAt := if v.doneAt = 0 then s.now else v.doneAt })).hopSend
      (match h with | .up => .up | _ => .node 0) 3 [1, xseq % 256, s.stampNow h])

/-- TIME_REQ_RECEIVE: a master stamps a REQ and answers with RESP (10 R323). -/
def State.reqReceive (s : State) (h : Hop) (xseq t3 t4 : Nat) : State :=
  let v := s.servo h
  whenDue (s.hopUp h && h != .up && v.xseq == xseq % 256 && v.t1.isSome) s
    ((s.updServo h (fun v => { v with t3 := some t3 })).hopSend h 3 [2, xseq % 256, t4, v.t1.getD 0])

/-- Every tile of the package has withdrawn with cause TIME (01 R43). -/
def State.allTime (s : State) : Bool := s.tileList.all (fun t => decide ((s.tileN t).twin = .withdrawn ∧ (s.tileN t).cause = 4))

/-- TIME stepped, in 1/256 tick, to the nearest tick (10 R324). -/
def State.stepTime (s : State) (o : Int) : State := { s with time := BitVec.ofInt 64 ((s.now : Int) + roundDiv o 256) }

/-- The servo of R324 over the four stamps; none when the delay is outside [0, 100 us]. The second part is the step of TIME. -/
def Servo.exchange (v : Servo) (t1 t2 t3 t4 : Int) (steps : Bool) : Option (Servo × Option Int) :=
  let a := t2 - t1
  let b := t4 - t3
  if a + b < 0 ∨ 12_800_000 < a + b then none
  else
    let o := (a - b).tdiv 2
    let d := (a + b).tdiv 2
    let v1 := { v with o := o, d := d, t1 := none, t2 := none, t3 := none,
                       bad := if 512 < o.natAbs then v.bad + 1 else 0, good := if o.natAbs ≤ 256 then v.good + 1 else 0 }
    if steps then some ({ v1 with rate := 0, slew := 0 }, some (-o))
    else
      let rate := v.rate - o.tdiv 16
      some ({ v1 with rate := rate, slew := v.slew.tmod 256 + (rate - o.tdiv 4) }, none)

/-- The slave package is out of alignment: every tile withdraws from printing (10 R326). -/
def State.pressFault (s : State) (o : Int) : State :=
  let s1 := (s.updServo .up (fun v => { v with aligned := false, bad := 0, good := 0 })).raiseLead Ev.timePressFault [wrapS 64 o]
  let s2 := { s1 with link := { s1.link with pressFault := true } }
  (s2.tileList.filter (fun t => (s2.tileN t).withdrawable)).foldl (fun s t => s.withdraw t 4) s2

/-- The node at the slave end of a hop. -/
def State.hopNode (s : State) (h : Hop) : Option Node :=
  match h with
  | .down t l => s.link.nodes.find? (fun n => n.hello.depth == 1 && n.lanes.contains (t.val, l.val))
  | .up => none
  | .node id => s.node id

/-- T_PATH of a node as it completes TIMING (10 R330). -/
def State.pathOf (s : State) (n : Node) (d : Int) : Nat :=
  let parent := s.node n.hello.parent
  let up := if n.hello.depth ≤ 1 then 0 else (parent.map (fun x => x.hello.fwd + x.tPath)).getD 0
  ceilDiv d.toNat 256 + up + 2

/-- What a complete exchange means for the slave's alignment (10 R326, R330). -/
def State.aligned (s : State) (h : Hop) : State :=
  let v := s.servo h
  match h with
  | .up =>
    if 4 ≤ v.bad && !s.link.pressFault then s.pressFault v.o
    else if 16 ≤ v.good then
      { (s.updServo .up (fun v => { v with aligned := true })) with link := { (s.updServo .up (fun v => { v with aligned := true })).link with pressFault := false } }
    else s
  | _ =>
    match s.hopNode h with
    | none => s
    | some n =>
      if 4 ≤ v.bad && n.nodeSt = 4 then
        (s.updNode n.id (fun x => { x with nodeSt := 2 })).updServo h (fun v => { v with aligned := false, good := 0 })
      else if 16 ≤ v.good && n.nodeSt = 2 then
        (s.updNode n.id (fun x => { x with nodeSt := 3, tPath := s.pathOf n v.d })).updServo h (fun v => { v with aligned := true })
      else s

/-- TIME_RESP_RECEIVE: a complete exchange updates the servo; this package's own servo steps or slews TIME (10 R324). -/
def State.respReceive (s : State) (h : Hop) (xseq t4 : Nat) : State :=
  let v := s.servo h
  match v.t1, v.t2, v.t3 with
  | some t1, some t2, some t3 =>
    let own := h == .up
    let steps := own && (!s.armed || s.allTime)
    whenDue (s.hopUp h && v.xseq == xseq % 256) s
      (match v.exchange t1 t2 t3 t4 steps with
        | none => s.updServo h (fun v => { v with t1 := none, t2 := none, t3 := none })
        | some (v1, step) =>
          let s1 := s.updServo h (fun _ => { v1 with doneAt := s.now })
          let s2 := match step with
            | some o => s1.stepTime o
            | none => s1
          s2.aligned h)
  | _, _, _ => s

/-- TIME_EXCHANGE_TIMEOUT: 16 intervals without a complete exchange (10 R326). -/
def State.exchangeTimeout (s : State) (h : Hop) : State :=
  let v := s.servo h
  whenDue (s.link.servos.any (fun x => x.hop == h) && decide (v.doneAt + 16 * (if v.interval = 0 then s.itemN Pid.wylTimeInt else v.interval) < s.now)) s
    (match h with
     | .up => if s.link.pressFault || s.link.role != 0 then s else s.pressFault v.o
     | _ =>
       let s1 := s.updServo h (fun v => { v with aligned := false, good := 0 })
       match s.hopNode h with
       | some n => if n.nodeSt = 4 then s1.updNode n.id (fun x => { x with nodeSt := 2 }) else s1
       | none => s1)

/-- ANNOUNCE from the press master to every slave package (10 R327). -/
def State.announce (s : State) : State :=
  if s.link.role ≠ 1 then s
  else
    (s.link.nodes.filter (fun n => decide (n.hello.kind = 1))).foldl (fun s n =>
      (n.lanes.filter (fun l => decide (8 ≤ l.2))).foldl (fun s l =>
        s.sendFrame { tile := l.1, lane := l.2, type := 3, node := n.id, fields := [3, 0, 256 * s.now, s.master.sec] }) s) s

/-- TIME_ANNOUNCE_RECEIVE: a slave package disciplines its calendar with it under CAL_SRC = 2. One that would put the calendar
below 0 is discarded and does not count; a difference of 0 leaves nothing to apply (05 R169, R170; 10 R327; log 126). -/
def State.announceReceive (s : State) (sec tau : Nat) : State :=
  let d : Int := ((sec * crystal : Nat) : Int) - s.calCount tau
  whenDue (decide (s.link.role = 0 ∧ s.marks.src = 2) && !s.calBelow d) s
    (let s1 := (s.updMarks (fun m => { m with announced := some (sec, s.now), heard := s.now, lost := false })).updCal s.lead.tile
       (fun c => { c with srcOk := true })
     if d == 0 && s1.master.valid then s1.calReplace none none else s1.calCorrect d true false)

/-- HELLO_SEND: a tile sends its own HELLO on each downstream port every 250,000 ticks, and a slave package on its upstream
port at the period of its state (10 R330). -/
def State.helloSend (s : State) (h : Hop) : State :=
  let v := s.servo h
  let n := s.selfNode
  let period := if h == .up && decide (n.nodeSt = 1) then 25_000 else 250_000
  let f := n.hello
  whenDue (s.hopUp h && (decide (v.helloAt + period ≤ s.now) || !(s.link.servos.any (fun x => x.hop == h)))) s
    ((s.updServo h (fun v => { v with helloAt := s.now })).hopSend h 7
      [f.state, f.kind, f.caps, f.uid, f.id.getD 0x8000, f.parent, f.depth, f.pend, f.fwd, f.hubLead, f.tPath, f.lastAcc])

/-- The code of a hop in a report. -/
def Hop.num : Sys2Proof.Hop → Nat
  | .down t l => 16 * t.val + l.val
  | .up => 128
  | .node id => 256 + id

/-- LINK.TIME: each hop's last offset, delay and state (10 R343). -/
def opLinkTime : OpDef :=
  { code := 0x0A05, cls := clsAll, named := rptNamed 0, prot := noProt, access := noAccess, check := noCheck, read := noRead,
    waits := noWaits, bind := noBind,
    act := fun s p _ => s.reportQ p (s.link.servos.map (fun v => [qn (Hop.num v.hop), v.o, v.d, qb v.aligned])) }

/-! ## Meanings -/

/-- R329: LINK.NODES. -/
def execLinkNodes (p : Packet) (s : State) : Out := .next (opLinkNodes.dispatch s p)
/-- R343: LINK.LIST. -/
def execLinkList (p : Packet) (s : State) : Out := .next (opLinkList.dispatch s p)
/-- R337: LINK.CTRL. -/
def execLinkCtrl (p : Packet) (s : State) : Out := .next (opLinkCtrl.dispatch s p)
/-- R334: LINK.LEAVE. -/
def execLinkLeave (p : Packet) (s : State) : Out := .next (opLinkLeave.dispatch s p)
/-- R343: LINK.TIME. -/
def execLinkTime (p : Packet) (s : State) : Out := .next (opLinkTime.dispatch s p)
/-- R323: TIME_SYNC_SEND. -/
def execTimeSyncSend (h : Hop) (s : State) : Out := .next (s.syncSend h)
/-- R323: TIME_SYNC_RECEIVE. -/
def execTimeSyncReceive (h : Hop) (xseq t1 t2 : Nat) (s : State) : Out := .next (s.syncReceive h xseq t1 t2)
/-- R323: TIME_REQ_RECEIVE. -/
def execTimeReqReceive (h : Hop) (xseq t3 t4 : Nat) (s : State) : Out := .next (s.reqReceive h xseq t3 t4)
/-- R324: TIME_RESP_RECEIVE. -/
def execTimeRespReceive (h : Hop) (xseq t4 : Nat) (s : State) : Out := .next (s.respReceive h xseq t4)
/-- R326: TIME_EXCHANGE_TIMEOUT. -/
def execTimeExchangeTimeout (h : Hop) (s : State) : Out := .next (s.exchangeTimeout h)
/-- R327: TIME_ANNOUNCE_RECEIVE. -/
def execTimeAnnounceReceive (sec tau : Nat) (s : State) : Out := .next (s.announceReceive sec tau)
/-- R330: HELLO_SEND. -/
def execHelloSend (h : Hop) (s : State) : Out := .next (s.helloSend h)
/-- R329: HELLO_RECEIVE. -/
def execHelloReceive (t : Tile) (l : Fin 10) (f : Hello) (s : State) : Out := onTile t s (s.helloReceive t.val l.val f)
/-- R338: STATUS_FRAME_RECEIVE. -/
def execStatusFrameReceive (f : StatusFrame) (s : State) : Out := .next (s.statusReceive f)
/-- R333: NODE_STATUS_TIMEOUT. -/
def execNodeStatusTimeout (node : Nat) (s : State) : Out := .next (s.statusTimeout node)
/-- R341: EVENT_POSITION_RECEIVE. -/
def execEventPositionReceive (e : PosEvent) (s : State) : Out := .next (s.positionEvent e)
/-- R341: EVENT_PRODUCT_RECEIVE. -/
def execEventProductReceive (lane : Fin 16) (num first : Nat) (s : State) : Out := .next (s.productEvent lane.val num first)
/-- R339: NODE_EVENT. -/
def execNodeEvent (node code eseq : Nat) (data : List Byte) (s : State) : Out := .next (s.nodeEvent node code eseq data)
/-- R337: CTRL_ANSWER_RECEIVE. -/
def execCtrlAnswerReceive (f : CtrlFrame) (s : State) : Out := .next (s.ctrlAnswer f)
/-- R337: CTRL_ANSWER_TIMEOUT. -/
def execCtrlAnswerTimeout (seq : Nat) (s : State) : Out := .next (s.ctrlTimeout seq)
/-- R168: the calendar master rolls over a second, and the press master announces it. -/
def execCalSecondRollover (s : State) : Out := .next s.calRollover.colourDay.announce

end Sys2Proof.Machine
end

