-- ==== Sys2Proof/Machine/Service.lean ====
section
/-! DEFINITION. The flash and its journal, firmware images and updates, the lifetime tally (19 R571 to R595), the TWIN
commands (11 R385), JTAG and SMBus (20 R612, R613). -/

namespace Sys2Proof.Machine

/-! ## Images (19 R574, R575, R590) -/

/-- The header fields of an image's bytes (19 R574). -/
def imageOf (b : List Byte) : Image :=
  { fwver := fld b 8 4, pclMin := fld b 12 2, pclMax := fld b 14 2, svn := fld b 16 2, parts := fld b 18 1, steps := fld b 19 1, bytes := b }

/-- Bytes of an image from an offset. -/
def imgBytes (b : List Byte) (o n : Nat) : List Byte := (b.drop o).take n
/-- A reserved range reads zero. -/
def imgZero (b : List Byte) (o n : Nat) : Bool := (imgBytes b o n).all (· == 0)
/-- The number of a part in PARTS. -/
def Part.num : Part → Nat
  | .ga402 => 0
  | .ga404 => 1
  | .ga408 => 2

/-- The tests of R575 in their order: 0, or the cause code of the first that fails. The package is of stepping B0. -/
def imageCause (part : Part) (t : Nat) (b : List Byte) : Nat :=
  let i := imageOf b
  let plen := fld b 4 4
  let format := decide (fld b 0 2 = 0x4749 ∧ fld b 2 1 = 1 ∧ fld b 3 1 = 0 ∧ 1 ≤ plen ∧ plen ≤ 16_776_704 ∧ b.length = 512 + plen)
    && imgZero b 20 44 && imgZero b 160 288 && decide (i.parts < 8 ∧ i.steps < 2)
  if !Config.fusesGood t then 1
  else if !format then 2
  else if Config.sha256 (imgBytes b 96 64) ≠ Config.fusedKeyHash then 3
  else if !Config.ecdsaOk (imgBytes b 96 64) (Config.sha256 (imgBytes b 0 448)) (imgBytes b 448 64) then 4
  else if Config.sha256 (b.drop 512) ≠ imgBytes b 64 32 then 5
  else if i.svn < Config.fusedSvn then 6
  else if !(bit i.parts part.num && bit i.steps 0) then 7
  else 0

/-- A SVC.UPDATE runs: its packet has not completed (13 R454). -/
def State.updateRuns (s : State) : Bool :=
  s.qen.store.any (fun e => decide (e.p.opcode = 0x0E03 ∧ e.st = .parked))

/-- Checks of SVC.IMAGE. -/
def checkSvcImage (s : State) (p : Packet) : Nat × Nat × Nat :=
  if p.dw 4 < 513 || p.dw 4 > 2 ^ 24 then (St.svcArg, 0, 0)
  else if 2 ≤ s.lead.upd || s.updateRuns then (St.updateState, 0, 0)
  else (St.ok, 0, 0)

/-- SVC.IMAGE: the image is written to the slot that is not ACTIVE (19 R590). -/
def actSvcImage (s : State) (p : Packet) (bs : List Byte) : State :=
  State.park (s.flashWrite { FlashJob.of 0 p.seq with image := bs }) p.seq .work

/-- SVC.IMAGE. -/
def opSvcImage : OpDef :=
  { code := 0x0E02, cls := clsS, named := [0xFFFF_FFFF, 0xFFFF_FFFF, 0xFFFF_FFFF], prot := noProt, access := noAccess, check := checkSvcImage,
    read := fun _ p => some (p.ha 2, p.dw 4), waits := noWaits, bind := noBind, act := actSvcImage }

/-- The image read back: marked STAGED, or EMPTY with ST_IMAGE_BAD (19 R590). -/
def State.imageStored (s : State) (j : FlashJob) : State :=
  let slot := 1 - s.flash.active
  if imageCause s.part s.lead.tile j.image = 0 then
    ({ s with
      flash := ({ s.flash with slots := vset s.flash.slots slot (some (imageOf j.image)) }).setState slot 2
      lead := { s.lead with upd := 1 } }).done j.seq St.ok
  else ({ s with flash := s.flash.setState slot 0, lead := { s.lead with upd := 0 } }).done j.seq St.imageBad

/-! ## The journal (19 R581, R582) -/

/-- Sectors of the journal: from 0x0202_0000 to the end of the device (19 R572). -/
def Flash.ring (f : Flash) : Nat := max 1 ((f.mib * 0x10_0000 - 0x0202_0000) / 0x1_0000)
/-- The header of a journal sector, counted round the ring. -/
def Flash.sector (f : Flash) (k : Nat) : JSector := NMap.get JSector.clear f.sectors (k % f.ring)
/-- A record is valid: all its sectors carry its number, and every check holds (19 R581). -/
def Flash.valid (f : Flash) (k : Nat) : Bool :=
  let x := f.sector k
  decide (x.part = 0 ∧ 1 ≤ x.npart) && (List.range x.npart).all (fun i =>
    let y := f.sector (k + i)
    y.good && decide (y.type = x.type ∧ y.jseq = x.jseq ∧ y.part = i ∧ y.npart = x.npart))
/-- The first sector of the record in force of a type: the valid one with the highest number (19 R581). -/
def Flash.inForce (f : Flash) (type : Nat) : Option Nat :=
  f.sectors.foldl (fun b e =>
    if e.2.type = type && f.valid e.1 && (b.map (fun k => decide ((f.sector k).jseq ≤ e.2.jseq))).getD true then some e.1 else b) none
/-- The sectors of a record's body, 65,504 bytes in each (19 R581, R583). -/
def partsOf (rlen : Nat) : Nat := max 1 ((rlen + 65_503) / 65_504)
/-- A sector at the write pointer is erased and takes a header; the pointer moves on (19 R582). -/
def Flash.putSector (f : Flash) (x : JSector) : Flash :=
  { f with sectors := NMap.set JSector.clear f.sectors (f.ptr % f.ring) { x with erases := (f.sector f.ptr).erases + 1 }, ptr := (f.ptr + 1) % f.ring }
/-- A record at the write pointer, with the next number. -/
def Flash.place (f : Flash) (type rlen : Nat) : Flash :=
  let n := (f.jseq + 1) % 2 ^ 32
  (List.range (partsOf rlen)).foldl (fun f i => f.putSector
    { type := type, jseq := n, part := i, npart := partsOf rlen, erases := 0, rlen := rlen, good := true }) { f with jseq := n }
/-- The first sectors of the records in force that an erase of the next n sectors would destroy, in ring order. -/
def Flash.doomed (f : Flash) (n : Nat) : List Nat :=
  ((List.range n).map (fun i => (f.ptr + i) % f.ring)).filter (fun k => (f.sector k).part == 0 && f.inForce (f.sector k).type == some k)
/-- The sectors that n sectors of new records need, with those of the records in force that must be rewritten before them. -/
def Flash.reach (f : Flash) (n : Nat) : Nat → Nat → Nat
  | 0, m => m
  | k + 1, m => f.reach n k (n + ((f.doomed m).map (fun a => (f.sector a).npart)).foldl (· + ·) 0)
/-- Before the next n sectors are erased, the records in force in them are rewritten at the write pointer (19 R582). -/
def Flash.rescue (f : Flash) (n : Nat) : Flash :=
  ((f.doomed (f.reach n 4 n)).map f.sector).foldl (fun f x => f.place x.type x.rlen) f

/-- A record of a type is written; the length of a body is not given. -/
def State.recordWritten (s : State) (type : Nat) : State :=
  let rlen := 1 + Config.freeNat s.free
  ({ s with flash := (s.flash.rescue (partsOf rlen)).place type rlen }).nextFree

/-- A flash write has passed read-back. -/
def State.flashGood (s : State) (j : FlashJob) : State :=
  match j.type with
  | 0 => s.imageStored j
  | 1 =>
    let s1 := s.recordWritten 1
    ({ s1 with flash := { s1.flash with preserve := j.pres } }).complete j.seq St.ok ((j.pres.map (fun (q : Preserve) => q.pseq)).getD 0) 0
  | 2 =>
    let s1 := s.recordWritten 2
    { s1 with flash := { s1.flash with tally := j.tally } }
  | 4 =>
    let s1 := s.recordWritten 4
    { s1 with flash := { s1.flash with calib := j.calib } }
  | n =>
    let s1 := s.recordWritten n
    { s1 with flash := { s1.flash with trims := j.trims } }

/-- The offset of a write: the slot's, or the write pointer's (19 R572). -/
def State.flashOffset (s : State) (j : FlashJob) : Nat :=
  if j.type = 0 then (if s.flash.active = 0 then 0x0102_0000 else 0x0002_0000) else 0x0202_0000 + 0x1_0000 * s.flash.ptr

/-- The record type of FLASH_FAIL; for an image, which is no record, it is free. -/
def State.flashType (s : State) (j : FlashJob) : Nat := if j.type = 0 then Config.freeNat s.free else j.type

/-- A flash write has failed read-back: FLASH_FAIL, and again from the next sector; a command completes after the second
failure (19 R582, R590). -/
def State.flashBad (s : State) (j : FlashJob) (rest : List FlashJob) : State :=
  let s1 := (s.raiseLead Ev.flashFail [s.flashOffset j, s.flashType j]).nextFree
  if j.seq ≠ 0 && 1 ≤ j.tries then
    let s2 := { s1 with flash := { s1.flash with jobs := rest } }
    if j.type = 0 then
      ({ s2 with flash := s2.flash.setState (1 - s2.flash.active) 0, lead := { s2.lead with upd := 0 } }).done j.seq St.flashFail
    else s2.done j.seq St.preserveFail
  else
    let f := if j.type = 0 then s1.flash else (s1.flash.rescue 1).putSector JSector.clear
    { s1 with flash := { f with jobs := { j with tries := j.tries + 1 } :: rest } }

/-- FLASH_WRITE_DONE: the oldest write in progress ends. -/
def State.flashDone (s : State) (ok : Bool) : State :=
  match s.flash.jobs with
  | [] => s
  | j :: rest => if ok then ({ s with flash := { s.flash with jobs := rest } }).flashGood j else s.flashBad j rest

/-! ## Tally (19 R584 to R586) -/

/-- TALLY_RECORD_WRITE: every 10 minutes (19 R582). -/
def State.tallyWrite (s : State) : State :=
  whenDue s.hostRuns s
    (s.flashWrite { FlashJob.of 2 0 with tally := some s.tallyLog })

/-- What SVC.TALLY reports: the lead's records, then each tile's, every count with its saturation flag (19 R584). -/
def State.tallyQuantities (s : State) (ts : List Nat) : List (List Int) :=
  let c := fun (w n : Nat) => [qn n, qb (decide (n = 2 ^ w - 1))]
  [(s.tallyMod.flatMap (fun e => qn e.1 :: c 32 e.2)), (s.tallyCol.flatMap (fun e => qn e.1 :: c 32 e.2))]
    ++ ts.map (fun t =>
      let x := (s.tileN t).tallyRec
      [qn t] ++ c 32 x.hours ++ c 32 x.cycles ++ c 32 x.heat.1 ++ c 32 x.heat.2 ++ x.lanes.flatten.flatMap (c 32) ++ c 32 x.coldStarts
        ++ x.fires.flatMap (fun e => qn e.1 :: c 40 e.2))

/-- The tiles of a report's selector. -/
def State.rptTiles (s : State) (p : Packet) : List Nat := (bitsOf 8 (p.selector 8)).filter (fun t => decide (t < s.nTiles))

/-- SVC.TALLY. -/
def opSvcTally : OpDef :=
  { code := 0x0E04, cls := clsS, named := rptNamed 0xFF, prot := noProt, access := noAccess, check := noCheck,
    read := noRead, waits := noWaits, bind := noBind, act := fun s p _ => s.reportQ p (s.tallyQuantities (s.rptTiles p)) }

/-! ## Updates (19 R589, R591) -/

/-- The slot a tile would move to (19 R591). -/
def State.updateSlot (s : State) : Nat := if s.lead.upd = 3 then s.flash.active else 1 - s.flash.active

/-- Checks of SVC.UPDATE (13 R454, 19 R591). -/
def checkSvcUpdate (s : State) (p : Packet) : Nat × Nat × Nat :=
  let t := tileArg p
  if s.nTiles ≤ t then (St.twinArg, 0, 0)
  else if s.lead.upd = 0 || s.updateRuns || (s.tileN t).boot.slot == s.updateSlot then (St.updateState, 0, 0)
  else if (s.tileN t).withdrawable && s.lastOfTwin t then (St.twinLast, 0, 0)
  else if t = s.lead.tile then (St.twinState, 0, 0)
  else (St.ok, 0, 0)

/-- SVC.UPDATE: the tile withdraws with cause UPDATE, restarts on the slot and rejoins (19 R591). -/
def actSvcUpdate (s : State) (p : Packet) (_ : List Byte) : State :=
  let t := tileArg p
  let slot := s.updateSlot
  let u := (p.seq, t, s.now + 250_000_000 * s.itemN Pid.updTimeout)
  let s1 := { s with lead := { s.lead with upd := if s.lead.upd = 3 then 3 else 2, updating := s.lead.updating.filter (fun (v : Nat × Nat × Nat) => v.2.1 != t) ++ [u] } }
  ((s1.withdraw t 8).restartTile t slot).rejoinFor t p.seq

/-- SVC.UPDATE. -/
def opSvcUpdate : OpDef :=
  { code := 0x0E03, cls := clsS, named := [7], prot := noProt, access := noAccess, check := checkSvcUpdate,
    read := noRead, waits := noWaits, bind := noBind, act := actSvcUpdate }

/-- UPDATE_TIMEOUT: the first tile not PAIRED within UPD_TIMEOUT fails the update (19 R591). -/
def State.updateTimeout (s : State) : State :=
  match s.lead.updating.find? (fun u => decide (u.2.2 < s.now)) with
  | some (_, t, _) => s.updateFails t (s.tileN t).boot.cause
  | none => s

/-! ## The TWIN commands (11 R385) -/

/-- What TWIN.ASSAY reports of a tile: last results, times, failure counts, signatures, faults found on use. -/
def State.assayQuantities (s : State) (t : Nat) : List Int :=
  let x := s.tileN t
  [qn t, qn x.assayPass, qn x.assayFailed, qn x.strikes, qn x.sigSkip, qn x.sigMismatch, qn x.edge,
   qb (x.lastAssay.getD false), qn x.memc.ueCnt] ++ (List.range 10).map (fun l => qn ((x.lane l).fault))

/-- TWIN.ASSAY. -/
def opTwinAssay : OpDef :=
  { code := 0x0B01, cls := clsAll, named := rptNamed 0xFF, prot := noProt, access := noAccess, check := noCheck,
    read := noRead, waits := noWaits, bind := noBind, act := fun s p _ => s.reportQ p ((s.rptTiles p).map s.assayQuantities) }

/-- Checks of TWIN.WITHDRAW (11 R351). -/
def checkTwinWithdraw (s : State) (p : Packet) : Nat × Nat × Nat :=
  let t := tileArg p
  if s.nTiles ≤ t then (St.twinArg, 0, 0)
  else if (s.tileN t).withdrawable && s.lastOfTwin t then (St.twinLast, 0, 0)
  else (St.ok, 0, 0)

/-- TWIN.WITHDRAW: from the first line not yet begun (11 R350). -/
def actTwinWithdraw (s : State) (p : Packet) (_ : List Byte) : State :=
  (s.withdraw (tileArg p) 1).doneLine p.seq St.ok (s.tileN (tileArg p)).begun

/-- TWIN.WITHDRAW. -/
def opTwinWithdraw : OpDef :=
  { code := 0x0B02, cls := clsSO, named := [7], prot := noProt, access := noAccess, check := checkTwinWithdraw,
    read := noRead, waits := noWaits, bind := noBind, act := actTwinWithdraw }

/-- Checks of TWIN.REJOIN (11 R367, R368). -/
def checkTwinRejoin (s : State) (p : Packet) : Nat × Nat × Nat :=
  let t := tileArg p
  if s.nTiles ≤ t then (St.twinArg, 0, 0)
  else if !s.canRejoin t then (St.twinState, 0, 0)
  else if s.excludes t then (St.twinCompat, 0, 0)
  else (St.ok, 0, 0)

/-- TWIN.REJOIN. -/
def opTwinRejoin : OpDef :=
  { code := 0x0B03, cls := clsSO, named := [7], prot := noProt, access := noAccess, check := checkTwinRejoin,
    read := noRead, waits := noWaits, bind := noBind,
    act := fun s p _ => (s.startResync (tileArg p)).rejoinFor (tileArg p) p.seq }

/-- Checks of TWIN.RESTART (11 R351, R383). -/
def checkTwinRestart (s : State) (p : Packet) : Nat × Nat × Nat :=
  let t := tileArg p
  if s.nTiles ≤ t then (St.twinArg, 0, 0)
  else if (s.tileN t).withdrawable && s.lastOfTwin t then (St.twinLast, 0, 0)
  else if t = s.lead.tile then (St.twinState, 0, 0)
  else (St.ok, 0, 0)

/-- TWIN.RESTART: withdrawn with cause COMMAND, power-cycled, booted and rejoined (11 R383). -/
def actTwinRestart (s : State) (p : Packet) (_ : List Byte) : State :=
  let t := tileArg p
  ((s.withdraw t 1).restartTile t (s.tileN t).boot.slot).rejoinFor t p.seq

/-- TWIN.RESTART. -/
def opTwinRestart : OpDef :=
  { code := 0x0B04, cls := clsSO, named := [7], prot := noProt, access := noAccess, check := checkTwinRestart,
    read := noRead, waits := noWaits, bind := noBind, act := actTwinRestart }

/-- TWIN.LEAD: the planned handover (11 R379, R380). -/
def opTwinLead : OpDef :=
  { code := 0x0B05, cls := clsSO, named := [], prot := noProt, access := noAccess,
    check := fun s _ => if s.handoverOk then (St.ok, 0, 0) else (St.twinState, 0, 0),
    read := noRead, waits := noWaits, bind := noBind,
    act := fun s p _ => (s.handover p.seq).complete p.seq St.ok (s.now % 2 ^ 32) (s.now / 2 ^ 32 % 2 ^ 31) }

/-- What TWIN.STATUS reports: states, causes, epoch, preserve sequences. -/
def State.twinQuantities (s : State) : List (List Int) :=
  [[qn s.lead.tile, qn s.lead.epoch, qn s.lead.pseq]]
    ++ s.tileList.map (fun t => let x := s.tileN t; [qn t, qn x.twin.num, qn x.pstate.num, qn x.cause, qn x.withdrawals, qn x.pseq])

/-- TWIN.STATUS. -/
def opTwinStatus : OpDef :=
  { code := 0x0B06, cls := clsAll, named := rptNamed 0, prot := noProt, access := noAccess, check := noCheck,
    read := noRead, waits := noWaits, bind := noBind, act := fun s p _ => s.reportQ p s.twinQuantities }

/-- TWIN.PRESERVE: a flash preserve at once (11 R370). -/
def opTwinPreserve : OpDef :=
  { code := 0x0B07, cls := clsSO, named := [], prot := noProt, access := noAccess, check := noCheck,
    read := noRead, waits := noWaits, bind := noBind, act := fun s p _ => (s.presToFlash p.seq).park p.seq .work }

/-! ## TWN_CAUSE.CLRLAST, supplies, JTAG, SMBus -/

/-- TWN_CAUSE.LAST clears (11 R389). -/
def State.lastClear (s : State) (t : Nat) : State := s.updTileN t (fun x => { x with cause := 0 })

/-- TWN_CAUSE_CLRLAST: the last cause is cleared by the supervisor's write (11 R389; 12 R393). -/
def State.clrLast (s : State) (t : Nat) : State := if (s.tileN t).on 8 && s.rwlOpen then s.lastClear t else s

/-- AON_SUPPLY_SWITCH: PD_AON moves to VBAT or back; below 2.0 V its contents are lost and its calendar is invalid (05 R167; 19
R569, R586, R588). -/
def State.aonSupply (s : State) (t : Nat) (toBat : Bool) : State :=
  let low := toBat && decide ((s.tileN t).boot.vbat < 2000)
  let s1 := s.updBoot t (fun b => { b with onBat := toBat, aonValid := b.aonValid && !low })
  if low && decide (t < 2) then s1.calInvalidate t else s1

/-- VBAT_MEASURE: every 60 s while main power is on; VBAT_LOW once per crossing (19 R588). -/
def State.vbatMeasure (s : State) (t mv : Nat) : State :=
  let b := (s.tileN t).boot
  let low := decide (mv < s.itemN Pid.vbatWarn)
  if b.onBat then s
  else
    let s1 := s.updBoot t (fun b => { b with vbat := mv % 2 ^ 16, vbatLow := low })
    if low && !b.vbatLow then s1.raiseN t Ev.vbatLow [mv] else s1

/-- JTAG_EXTEST: every tile withdraws, and REJ0 to REJ3 and LINE_STOP_REQ follow the boundary register; the cause that
TWN_CAUSE shows is not given (20 R612). -/
def State.jtagExtest (s : State) (on : Bool) (pins : Nat) : State :=
  if on then
    let s1 := { s with extest := some (pins % 32) }
    (s1.tileList.foldl (fun s t => s.withdraw t (Config.freeNat s.free % 256)) s1).nextFree
  else { s with extest := none }

/-- AON_BOOT as it reads (19 R595). -/
def State.aonBoot (s : State) (t : Nat) : Nat :=
  let b := (s.tileN t).boot
  (if t < 2 then s.lead.upd * 2 ^ 22 else 0) + boolNat b.aonlost * 2 ^ 21 + b.slot * 2 ^ 20 + b.cause % 256 * 2 ^ 8 + b.stage

/-- An SMBus Read Word answers with 16 bits (20 R613). -/
def State.smbAnswer (s : State) (v : Nat) : State := { s.returns (v % 2 ^ 16) with smbNack := false }

/-- The highest filtered temperature among the tiles. -/
def State.hottest (s : State) : Int :=
  (s.tileList.map (fun t => (s.tileN t).thm.temp)).foldl max (s.tileN 0).thm.temp

/-- SMB_OTHER_NACK: every other command, and every write (20 R613). -/
def State.smbNacked (s : State) (_ : Nat) : State := { s with smbNack := true }

/-! ## Meanings -/

/-- R590: SVC.IMAGE. -/
def execSvcImage (p : Packet) (s : State) : Out := .next (opSvcImage.dispatch s p)
/-- R591: SVC.UPDATE. -/
def execSvcUpdate (p : Packet) (s : State) : Out := .next (opSvcUpdate.dispatch s p)
/-- R584: SVC.TALLY. -/
def execSvcTally (p : Packet) (s : State) : Out := .next (opSvcTally.dispatch s p)
/-- R385: TWIN.ASSAY. -/
def execTwinAssay (p : Packet) (s : State) : Out := .next (opTwinAssay.dispatch s p)
/-- R350: TWIN.WITHDRAW. -/
def execTwinWithdraw (p : Packet) (s : State) : Out := .next (opTwinWithdraw.dispatch s p)
/-- R367: TWIN.REJOIN. -/
def execTwinRejoin (p : Packet) (s : State) : Out := .next (opTwinRejoin.dispatch s p)
/-- R383: TWIN.RESTART. -/
def execTwinRestart (p : Packet) (s : State) : Out := .next (opTwinRestart.dispatch s p)
/-- R379: TWIN.LEAD. -/
def execTwinLead (p : Packet) (s : State) : Out := .next (opTwinLead.dispatch s p)
/-- R385: TWIN.STATUS. -/
def execTwinStatus (p : Packet) (s : State) : Out := .next (opTwinStatus.dispatch s p)
/-- R370: TWIN.PRESERVE. -/
def execTwinPreserve (p : Packet) (s : State) : Out := .next (opTwinPreserve.dispatch s p)
/-- R389: TWN_CAUSE_CLRLAST. -/
def execTwnCauseClrlast (t : Tile) (s : State) : Out := onTile t s (s.clrLast t.val)
/-- R582: FLASH_WRITE_DONE. -/
def execFlashWriteDone (ok : Bool) (s : State) : Out := .next (s.flashDone ok)
/-- R582: TALLY_RECORD_WRITE. -/
def execTallyRecordWrite (s : State) : Out := .next s.tallyWrite
/-- R591: UPDATE_TIMEOUT. -/
def execUpdateTimeout (s : State) : Out := .next s.updateTimeout
/-- R569: AON_SUPPLY_SWITCH. -/
def execAonSupplySwitch (t : Tile) (toBat : Bool) (s : State) : Out := onTile t s (s.aonSupply t.val toBat)
/-- R588: VBAT_MEASURE. -/
def execVbatMeasure (t : Tile) (mv : Nat) (s : State) : Out := onTile t s (s.vbatMeasure t.val mv)
/-- R612: JTAG_EXTEST. -/
def execJtagExtest (on : Bool) (pins : Nat) (s : State) : Out := .next (s.jtagExtest on pins)
/-- R613: SMB_READ_TEMP. -/
def execSmbReadTemp (s : State) : Out := .next (s.smbAnswer (wrapS 16 s.hottest))
/-- R613: SMB_READ_BOOT. -/
def execSmbReadBoot (s : State) : Out := .next (s.smbAnswer (s.aonBoot 0))
/-- R613: SMB_READ_VBAT. -/
def execSmbReadVbat (s : State) : Out := .next (s.smbAnswer (s.tileN 0).boot.vbat)
/-- R613: SMB_READ_EPOCH. -/
def execSmbReadEpoch (s : State) : Out := .next (s.smbAnswer s.lead.epoch)
/-- R613: SMB_OTHER_NACK. -/
def execSmbOtherNack (cmd : Nat) (s : State) : Out := .next (s.smbNacked cmd)
/-- R613: SMB_ALERT_RESPONSE. -/
def execSmbAlertResponse (s : State) : Out := .next { s with smbAlert := false }

end Sys2Proof.Machine
end

