-- ==== Sys2Proof/Machine/Job.lean ====
section
/-! DEFINITION. The JOB group: arming, checking, changing and disarming a job, and the end of DRAINING (13 R439 to R443;
04 R160, R161; 01 R24; 11 R368). -/

namespace Sys2Proof.Machine

/-! ## The checks of JOB.ARM (13 R440) -/

/-- The package with the staged values in force, for the checks of a job about to begin (13 R441). -/
def State.withStaged (s : State) : State :=
  { s with job := { s.job with base := { s.job.base with items := PMap.putAll s.job.base.items s.job.staged } } }

/-- The press consists of this package alone: it is the press master and knows no other package (01 R19; 10 R341). -/
def State.alone (s : State) : Bool :=
  decide (s.item Pid.wylTimeRole = 1) && !s.link.nodes.any (fun n => decide (n.hello.kind = 1))

/-- The used spans have lower numbers than the unused ones, and each starts where the one below ends (01 R19, R24). -/
def State.spansFit (s : State) : Bool :=
  let us := s.usedSpans
  decide (us = List.range us.length) && us.all (fun k => k == 0 || s.spanStart k == s.spanStart (k - 1) + s.spanWidth (k - 1))

/-- The end of the package's last used span. -/
def State.spansEnd (s : State) : Nat := (s.usedSpans.map (fun k => s.spanStart k + s.spanWidth k)).foldl max 0

/-- Row 2: the job lies within the envelope and the span limits (00 R2; 01 R19, R24). -/
def State.envelopeOk (s : State) : Bool :=
  let w := s.itemN Pid.jobWidth
  let r := s.itemN Pid.jobRateMax
  let n := (bitsOf 12 s.activeCh).length
  decide (w ≠ 0 ∧ r ≠ 0 ∧ n ≠ 0) && !s.usedSpans.isEmpty && s.spansFit &&
    s.usedSpans.all (fun k => decide (s.spanWidth k * n * r ≤ 32 * 10 ^ 9)) &&
    (if s.alone then decide (s.spanStart 0 = 0 ∧ s.spansEnd = w) else decide (s.spansEnd ≤ w))

/-- A lane that crosses a package boundary carries a field (10 R342). -/
def State.laneCrosses (s : State) : Bool :=
  (s.nextViews s.job.base.items).any (fun v =>
    let a := s.laneX0 v.lane
    let b := a + s.laneW v.lane
    decide (s.laneW v.lane ≠ 0) && !v.fields.isEmpty && decide (a < s.spansEnd ∧ s.spanStart 0 < b)
      && !decide (s.spanStart 0 ≤ a ∧ b ≤ s.spansEnd))

/-- Row 14: role and node ID agree, and no field crosses a package boundary (10 R342, R346). -/
def State.armNodeOk (s : State) : Bool :=
  (decide (s.item Pid.wylTimeRole = 1) == decide (s.item Pid.wylNodeId = 0)) && !s.laneCrosses

/-- Row 15: each twin of a used span has a tile that has booted and has not withdrawn (13 R440). -/
def State.armTwinOk (s : State) : Bool :=
  s.usedSpans.all (fun k => [2 * k, 2 * k + 1].any (fun t =>
    let x := s.tileN t
    decide (x.boot.stage = 8 ∧ x.twin ≠ .withdrawn ∧ x.twin ≠ .off)))

/-- The first tile whose scan-out lead time, plus 256 ticks, MOT_ISSUE_AHEAD does not reach (02 R98; 09 R298). -/
def State.armLead (s : State) : Option Nat := s.usedTiles.find? (fun t => decide (s.itemN Pid.motIssueAhead < s.scanLeadOf t + 256))

/-- Rows 2 to 14 on the values of a job about to begin, with the line-buffer need of an old job by span: status, row
and tile, 8 for a check not made per tile (13 R440, R442). -/
def State.armRows (s : State) (extra : Nat → Nat) : Nat × Nat × Nat :=
  let layers := s.armLayers extra
  let ray := s.armRay
  let scan := s.armScan
  if !s.envelopeOk then (St.envelope, 2, 8)
  else if s.armMotion ≠ St.ok then (s.armMotion, 3, 8)
  else if s.armLead.isSome then (St.motionArg, 3, s.armLead.getD 8)
  else if layers.1 ≠ St.ok then (layers.1, 4, layers.2)
  else if s.armMarks s.job.base.items ≠ St.ok then (s.armMarks s.job.base.items, 5, 8)
  else if ray.1 ≠ St.ok then (ray.1, 6, ray.2)
  else if s.armDrop ≠ St.ok then (s.armDrop, 7, 8)
  else if s.armColour ≠ St.ok then (s.armColour, 8, 8)
  else if scan.1 ≠ 0 then (scan.2.1, scan.1, scan.2.2)
  else if !s.armNodeOk then (St.nodeArg, 14, 8)
  else (St.ok, 0, 0)

/-- Every check of JOB.ARM (13 R440). -/
def State.armCheck (s : State) : Nat × Nat × Nat :=
  if s.job.st ≠ .idle then (St.jobState, 1, 8)
  else
    let r := s.withStaged.armRows (fun _ => 0)
    if r.1 ≠ St.ok then r
    else if !s.withStaged.armTwinOk then (St.twinLast, 15, 8)
    else (St.ok, 0, 0)

/-- An item that JOB.CHANGE may not change: span layout, active channels, channel-to-bar assignment, lane geometry,
LEAD_DIST, and the motion parameters read at the job boundary (04 R161). -/
def scopeItem (pid : Nat) : Bool :=
  let b := pid / 2 ^ 24
  let i := pid / 2 ^ 16 % 256
  let k := pid % 2 ^ 16
  (b == 3 && (decide (0x10 ≤ i) || k == 3)) || (b == 10 && decide (i < 12) && k == 2) || (b == 4 && decide (i < 16))
    || pid == Pid.leadDist || (b == 9 && ((parmRow pid).map (·.effect) == some 5))

/-- The new job differs from the running one beyond R161. -/
def State.changeScope (s : State) : Bool := s.job.staged.any (fun e => scopeItem e.1 && decide (s.item e.1 ≠ e.2))

/-- Every check of JOB.CHANGE (13 R442): row 1, R161, rows 2 to 14 with the line buffers of both jobs. -/
def State.changeCheck (s : State) : Nat × Nat × Nat :=
  if s.job.st ≠ .armed ∨ s.changePending = true ∨ s.job.disarm.isSome then (St.jobState, 1, 8)
  else if s.changeScope then (St.changeScope, 0, 8)
  else s.withStaged.armRows (fun k => s.lbufSum s.laneItemsNow false k)

/-! ## JOB.ARM (13 R439, R440) -/

/-- The kernel sets that the job's layers name become live at a packet's dispatch, unless a span would hold more than 256 live
ranges (03 R109; 04 R145). -/
def State.bindKernels (s : State) (p : Packet) (_ : List Byte) : (Nat × Nat × Nat) × State :=
  let ks := s.jobKernels
  if (List.range 4).any (fun k => s.liveFull (2 ^ k) ((ks.filter (fun e => bit e.1 k)).map (·.2))) then ((St.liveFull, 4, 8), s)
  else ((St.ok, 0, 0), ks.foldl (fun s e =>
    (bitsOf 4 e.1).foldl (fun s k =>
      if s.stores.live.any (fun r => r.span == k && r.key == e.2) then s else s.liveAdd (2 ^ k) e.2 e.2 4480 p.seq) s) s)

/-- MEM_RSV_SIZE takes effect; what passes between job memory and the device-owned region loses its content (03 R102,
R134). -/
def State.armRsv (s : State) : State :=
  let s1 := { s with job := { s.job with rsv := s.itemN Pid.memRsvSize } }
  if s1.job.rsv = s.job.rsv then s
  else
    let top := min s.jobTop s1.jobTop
    forEach s1.tileList s1 (fun s t => s.updTileN t (fun x => { x with mem := x.mem.filter (fun e => decide (e.1 < top)) }))

/-- The operating level: the lowest PCL_MAX of the tiles that have booted (11 R368). -/
def State.armLevel (s : State) : Nat :=
  match ((s.tileList.filter (fun t => decide ((s.tileN t).boot.stage = 8))).map (fun t => (s.tileN t).boot.pcl.2)) with
  | [] => s.job.level
  | a :: r => r.foldl min a

/-- What a tile holds of print is cleared at JOB.ARM: begun lines, firing records, per-line records, and the commits of the job
before (07 R241; 11 R354). The governor's energies and counters and the marks of uncovered nozzles stay: line numbers run on
(01 R44; 07 R239, R246, R248). -/
def TileState.jobClear (x : TileState) (l0 : Nat) : TileState :=
  { x with
    begun := l0, posLine := l0 - 1, cmax := 0, heldCommits := [], appliedCommits := [], recs := [], opening := [],
    records := [], partner := [], missing := none, unsettled := [], verdicts := [], deps := [], taken := l0 - 1, startLine := none }

/-- The job itself at JOB.ARM. -/
def State.armedJob (s : State) (seq : Nat) : Job :=
  let j := s.job
  { j with
    st := .armed, l0 := s.nextLine, gen := j.gen + 1, change := none, changeItems := [], changeLine := none, past := [], bankLine := none, disarm := none,
    arming := some seq, level := s.armLevel, overrate := false, staged := [], commits := [], held := [], boundary := [],
    undelivered := [], products := [],
    lanes := j.lanes.map (fun l => { l with nextNum := 0, lastShift := none })
    base := { j.base with items := PMap.putAll j.base.items j.staged, absent := s.absentNodes, failed := j.base.failed, aborted := false } }

/-- The package armed: every block takes its job-boundary items, and JOB_STATE is raised (13 R439, R440). -/
def State.armAll (s : State) (seq : Nat) : State :=
  let w := s.withStaged
  let lk : Link := { s.link with role := w.itemN Pid.wylTimeRole, nodeId := w.itemN Pid.wylNodeId }
  let s1 : State := { s with job := s.armedJob seq, link := lk }
  let l0 := s1.job.l0
  let s2 := s1.armRsv
  let s3 := forEach s2.tileList s2 (fun s t => s.updTileN t (fun x => let y := x.jobClear l0; { y with pdNeed := s2.jobDomains t }))
  let s4 := { s3 with marks := { s3.marks with counters := s3.marks.counters.map (fun (c : Counter) => { c with usedArm := 0, usedChange := 0 }) } }
  let s5 := ((s4.swapGlyphs).updLens (fun _ => Lens.armed (LensCfg.of s4.job.base.items))).motionArm
  ((s5.scanArm.colourArm).armNodes).raiseLead Ev.jobState [1, l0]

/-- JOB.ARM: the checks, then the job is armed; the packet waits for the commit of L0 and the tiles it needs. -/
def actJobArm (s : State) (p : Packet) (_ : List Byte) : State :=
  let r := s.armCheck
  if r.1 ≠ St.ok then (s.complete p.seq r.1 r.2.1 r.2.2).pruneLive
  else
    let s1 := (s.armAll p.seq).park p.seq .arm
    (s1.armTwins.prepare (.parms []) s1.job.l0 p.seq).armSettle

/-- The spans of the job about to begin (03 R107). -/
def State.stagedSpans (s : State) : Nat := maskOf 4 (fun k => s.withStaged.usedSpans.contains k)

/-- Row 1 of JOB.ARM at dispatch; the other rows follow the wait for memory writes (03 R107; 04 R145). -/
def checkJobArm (s : State) (_ : Packet) : Nat × Nat × Nat := if s.job.st = .idle then (St.ok, 0, 0) else (St.jobState, 1, 8)

/-- JOB.ARM. -/
def opJobArm : OpDef :=
  { code := 0x0301, cls := clsSO, named := [], prot := noProt, access := noAccess, check := checkJobArm, read := noRead,
    waits := fun s _ _ => s.stagedSpans, bind := State.bindKernels, act := actJobArm }

/-! ## JOB.CHANGE (04 R160, R161; 13 R442) -/

/-- JOB.CHANGE: the staged values wait for the first product registered from here on (04 R160). -/
def actJobChange (s : State) (p : Packet) (_ : List Byte) : State :=
  let r := s.changeCheck
  if r.1 ≠ St.ok then (s.complete p.seq r.1 r.2.1 r.2.2).pruneLive
  else
    ({ s with job := { s.job with change := some p.seq, changeItems := s.withStaged.job.base.items, staged := [] } }).park p.seq .change

/-- The spans whose lanes' layers name a kernel set, so that JOB.CHANGE waits for memory writes (04 R145). -/
def State.kernelSpans (s : State) : Nat := s.jobKernels.foldl (fun m e => m ||| e.1) 0

/-- JOB.CHANGE. -/
def opJobChange : OpDef :=
  { code := 0x0302, cls := clsSO, named := [], prot := noProt, access := noAccess,
    check := fun s _ => if s.job.st = .armed ∧ s.changePending = false ∧ s.job.disarm.isNone then (St.ok, 0, 0) else (St.jobState, 1, 8),
    read := noRead, waits := fun s _ _ => s.kernelSpans, bind := State.bindKernels, act := actJobChange }

/-! ## JOB.DISARM and the end of DRAINING (13 R439, R443) -/

/-- JOB.DISARM: committed at an effect line; the packet waits for the end of DRAINING. -/
def actJobDisarm (s : State) (p : Packet) (_ : List Byte) : State :=
  let abort := bit (p.dw 2) 0
  let s1 := ({ s with job := { s.job with disarm := some (p.seq, 0, abort) } }).park p.seq .drain
  (s1.prepare (.disarm abort) 0 p.seq).disarmSettle

/-- JOB.DISARM. -/
def opJobDisarm : OpDef :=
  { code := 0x0303, cls := clsSO, named := [1], prot := noProt, access := noAccess,
    check := fun s _ => (if s.job.st = .armed ∧ s.changePending = false ∧ s.job.disarm.isNone then St.ok else St.jobState, 0, 0),
    read := noRead, waits := noWaits, bind := noBind, act := actJobDisarm }

/-- The last firing line of the last product; none where no product is left (13 R443; 09 R284). -/
def State.lastFiring (s : State) : Option Nat :=
  if s.job.products.isEmpty then none else some ((s.job.products.map s.prodEnd).foldl max 0 - 1 + s.maxDelay)

/-- A tile has sent every frame of the lines up to a firing line (13 R439). -/
def TileState.sentTo (x : TileState) (line : Nat) : Bool :=
  x.fired.any (fun f => decide (line ≤ f.line)) && x.fired.all (fun f => !(decide (f.line ≤ line) && (f.open || !f.done)))

/-- DRAINING ends: the effect line is reached and every printing tile has sent the last firing line (13 R439). -/
def State.drained (s : State) : Bool :=
  decide (s.job.st = .draining) && (match s.job.disarm with
    | some (_, e, _) => decide (e ≤ s.motion.lastLine + 1)
    | none => false) &&
  (match s.lastFiring with
    | some n => s.usedTiles.all (fun t => !(s.tileN t).carries || (s.tileN t).sentTo n)
    | none => true)

/-- What was committed for the job stays in force after it: print settings, the bindings of products, mark changes
among them, and the changes that found no product (13 R439; 01 R61, R617). -/
def State.foldJob (old : State) : State :=
  let s := (List.range 16).foldl (fun s j =>
    (((old.lane j).changes.filter (·.committed)).foldl (fun l c => LaneChange.insert c l) []).foldl (fun s c => s.applyMark j c) s) old
  let all := commitOrder s.job.commits
  let late := s.job.boundary.map (·.1) ++ s.job.held.map (·.1)
  let s0 := (all.map (·.change) ++ late).foldl State.settleChange s
  let base := s0.job.base
  let bound := (List.range 16).foldl (fun m j =>
    (((s.lane j).changes.filter (·.committed)).foldl (fun l c => LaneChange.insert c l) []).foldl (fun m c => PMap.putAll m c.items) m) base.items
  let seqs := s.job.boundary.map (·.2) ++ s.job.held.map (·.2.2)
  let open_ := all.filter (fun c => !c.committed && c.seq != 0)
  let s1 := { s0 with job := { s0.job with
    base := { base with items := PMap.putAll bound s.job.staged, aborted := false }, staged := [], commits := [], boundary := [], held := [],
    products := [], changeItems := [], changeLine := none, past := [], bankLine := none,
    lanes := s.job.lanes.map (fun l => { l with changes := l.changes.filter (fun c => !c.committed) }) } }
  let s2 := open_.foldl (fun s c => s.doneLine c.seq St.ok c.line) s1
  (seqs.filter (· != 0)).foldl (fun s q => s.done q St.ok) s2

/-- JOB_DRAIN_END: the state becomes IDLE, and JOB.DISARM completes with the last firing line; where the job had no
product the line is free (13 R439, R443). -/
def State.drainEnd (s : State) : State :=
  whenDue s.drained s
    (let n := s.lastFiring.getD (Config.freeNat s.free)
     let seq := (s.job.disarm.map (·.1)).getD 0
     let s1 := (s.foldJob).colourDrain
     let s2 := { s1 with job := { s1.job with st := .idle, disarm := none, arming := none } }
     let s3 := s2.updLoop (fun l => { l with mode := .off })
     let s4 := forEach s3.tileList s3 (fun s t => s.updTileN t (fun x => { x with pdNeed := 1 }))
     ((s4.nextFree.pruneLive).raiseLead Ev.jobState [0, n]).doneLine seq St.ok n)

/-! ## JOB.CHECK and JOB.STATUS -/

/-- JOB.CHECK: the checks of JOB.ARM or JOB.CHANGE; nothing changes (13 R439 to R443). -/
def opJobCheck : OpDef :=
  { code := 0x0305, cls := clsAll, named := [1], prot := noProt, access := noAccess, check := noCheck, read := noRead, waits := noWaits,
    bind := noBind,
    act := fun s p _ =>
      let r := if bit (p.dw 2) 0 then s.changeCheck else s.armCheck
      s.complete p.seq r.1 r.2.1 r.2.2 }

/-- The code of a job state. -/
def JobSt.num : JobSt → Nat
  | .idle => 0
  | .armed => 1
  | .draining => 2

/-- What JOB.STATUS reports: the job, and of each lane its products. -/
def State.jobQuantities (s : State) (lanes : Nat) : List (List Int) :=
  [[qn s.job.st.num, qn s.job.l0, qn s.job.gen, qb s.job.change.isSome, qn (s.job.changeLine.getD 0), qn s.job.level, qn s.motion.lastLine,
    qn s.job.cseq, qn s.cseqCommitted]] ++
  (bitsOf 16 lanes).map (fun j =>
    [qn j, qn (s.lane j).nextNum, qn (s.pendingCount j)] ++
      ((s.job.products.filter (fun p => p.lane == j)).flatMap (fun p => [qn p.num, qn p.first, qb p.armed, qb p.rejected])))

/-- JOB.STATUS. -/
def opJobStatus : OpDef :=
  { code := 0x0304, cls := clsAll, named := rptNamed 0xFFFF, prot := noProt, access := noAccess, check := noCheck, read := noRead,
    waits := noWaits, bind := noBind, act := fun s p _ => s.reportQ p (s.jobQuantities (p.selector 16)) }

/-! ## Meanings -/

/-- R440: JOB.ARM. -/
def execJobArm (p : Packet) (s : State) : Out := .next (opJobArm.dispatch s p)
/-- R442: JOB.CHANGE. -/
def execJobChange (p : Packet) (s : State) : Out := .next (opJobChange.dispatch s p)
/-- R443: JOB.DISARM. -/
def execJobDisarm (p : Packet) (s : State) : Out := .next (opJobDisarm.dispatch s p)
/-- R436: JOB.STATUS. -/
def execJobStatus (p : Packet) (s : State) : Out := .next (opJobStatus.dispatch s p)
/-- R439: JOB.CHECK. -/
def execJobCheck (p : Packet) (s : State) : Out := .next (opJobCheck.dispatch s p)
/-- R443: JOB_DRAIN_END. -/
def execJobDrainEnd (s : State) : Out := .next s.drainEnd

end Sys2Proof.Machine
end

