-- ==== Sys2Proof/Machine/ParmCmd.lean ====
section
/-! DEFINITION. The PARM group: values in force and pending, PARM.GET, PARM.SET with the rules of each item's owner, and
PARM.LIST (13 R441, R452, R453, and the parameter tables of the chapters). -/

namespace Sys2Proof.Machine

/-! ## Fields of a PARM ID -/

/-- The block of a PARM ID. -/
def pBlock (pid : Nat) : Nat := pid / 2 ^ 24
/-- The instance of a PARM ID. -/
def pInst (pid : Nat) : Nat := pid / 2 ^ 16 % 256
/-- The item number of a PARM ID. -/
def pItemNo (pid : Nat) : Nat := pid % 2 ^ 16
/-- A layer item of the proof path (04 R162). -/
def proofLayer (pid : Nat) : Bool := decide (pBlock pid = 4 ∧ 0x50 ≤ pInst pid ∧ pInst pid < 0x90)
/-- The boundary of an item as R453 codes it; the proof path's layer items take effect at a proof flip (17 R527). -/
def effectOf (r : ParmRow) (pid : Nat) : Nat := if proofLayer pid then 6 else r.effect
/-- The lane that an arm-line item's instance names; none for counters and the calendar. -/
def armLane (pid : Nat) : Option Nat :=
  if pBlock pid = 4 then some ((pInst pid - 0x10) / 4)
  else if pBlock pid = 5 then (if pInst pid < 0x80 then none else some (pInst pid - 0x80))
  else if pBlock pid = 6 then some (pInst pid - 0x10)
  else none

/-! ## Values in force and pending (13 R441) -/

/-- The items that the lead's port shows (17 R527). -/
def State.shownItems (s : State) : PMap := (vget s.dsp s.lead.tile DspPort.reset).shown.items

/-- The value in force of an item that its table gives an event of its own, where it is not the last one written. -/
def State.eventItem (s : State) (pid : Nat) : Int :=
  let i := pInst pid
  let k := pItemNo pid
  let b := pBlock pid
  if pid = Pid.memRsvSize then (s.job.rsv : Int)
  else if pid = Pid.wylNodeId then (s.link.nodeId : Int)
  else if pid = Pid.wylTimeRole then (s.link.role : Int)
  else if pid = Pid.calSrc then (s.marks.src : Int)
  else if pid = Pid.calSlew then (s.marks.slewPpm : Int)
  else if pid = Pid.calHold then (s.marks.hold : Int)
  else if pid = Pid.colCalDays then (s.colour.calDays.1 : Int)
  else if pid = Pid.dspTeEdge then ((vget s.dsp s.lead.tile DspPort.reset).frameSet.1 : Int)
  else if pid = Pid.dspLineMatch then ((vget s.dsp s.lead.tile DspPort.reset).frameSet.2 : Int)
  else if b = 10 && 0x40 ≤ i && k = 1 then ((s.lnk ((i - 0x40) / 16) ((i - 0x40) % 16)).rate : Int)
  else if b = 14 && i / 16 = 1 && k ≤ 7 && (s.memc (i % 16)).st = 2 then
    let m := s.memc (i % 16)
    if k = 1 then (rateOf m.rateA : Int) else if k = 2 then (rateOf m.rateB : Int) else if k = 3 then (m.set : Int) else ((vget m.hash (k - 4) 0 : Nat) : Int)
  else s.item pid

/-- The items of the most recently armed product of a lane, else those in force (13 R441). -/
def State.armedItems (s : State) (j : Nat) : PMap :=
  (((s.job.products.filter (fun p => p.lane == j && p.armed)).getLast?).map (·.items)).getD s.job.base.items

/-- The value in force of an item (13 R441). -/
def State.inForce (s : State) (r : ParmRow) (pid : Nat) : Int :=
  match effectOf r pid with
  | 1 => s.itemNow pid
  | 2 => s.itemNow pid
  | 3 => match armLane pid with
    | some j => PMap.item (s.armedItems j) pid
    | none => s.item pid
  | 5 => s.item pid
  | 6 => PMap.item s.shownItems pid
  | _ => s.eventItem pid

/-- The last setting of an item in a list of settings. -/
def lastOf (es : List (Nat × Int)) (pid : Nat) : Option Int := (es.reverse.find? (fun e => e.1 == pid)).map (·.2)
/-- The settings of a change. -/
def Change.settings : Change → List (Nat × Int)
  | .parms es => es
  | _ => []
/-- Pending and staged changes of every lane, in the order of their packets, with those staged for the next job last. -/
def State.laneChanges (s : State) : List LaneChange :=
  let all := s.job.lanes.toList.flatMap (·.changes)
  (all.foldr (fun c l => (l.takeWhile (fun d => decide (d.seq < c.seq))) ++ c :: l.dropWhile (fun d => decide (d.seq < c.seq))) [])
    ++ s.job.nextJob.map (·.2)
/-- The settings accepted and not yet at their boundary, in order (13 R441). -/
def State.acceptedSettings (s : State) (r : ParmRow) (pid : Nat) : List (Nat × Int) :=
  match effectOf r pid with
  | 1 => s.job.commits.flatMap (fun c => c.change.settings) ++ s.job.held.flatMap (fun h => h.1.settings)
  | 2 => s.job.commits.flatMap (fun c => c.change.settings) ++ s.job.held.flatMap (fun h => h.1.settings)
  | 3 => s.laneChanges.flatMap (·.items)
  | 5 => s.job.staged
  | _ => if pBlock pid = 9 && 0x30 ≤ pInst pid && pInst pid < 0x40 then (s.cmp (pInst pid - 0x30)).pend.flatMap (fun e => e.2.1) else []

/-- The pending value of an item: the last value accepted (13 R441). -/
def State.pendingItem (s : State) (r : ParmRow) (pid : Nat) : Int := (lastOf (s.acceptedSettings r pid) pid).getD (s.item pid)

/-! ## PARM.GET -/

/-- The PARM ID of a PARM.GET or PARM.SET. -/
def pidOf (p : Packet) : Nat := p.dw 2
/-- A status item of the part (13 R438). -/
def statusItem (pid : Nat) : Bool := decide (0x8000 ≤ pItemNo pid) && Config.isStatusItem pid

/-- Checks of PARM.GET. -/
def checkParmGet (s : State) (p : Packet) : Nat × Nat × Nat :=
  (if (parmInfo s.nTiles (pidOf p)).isSome || statusItem (pidOf p) then St.ok else St.parmId, 0, 0)

/-- PARM.GET: 63 bits of the value in force or pending; a status item's value is not given (13 R441; log 6). -/
def actParmGet (s : State) (p : Packet) (_ : List Byte) : State :=
  let answer := fun (s : State) (v : Nat) => s.complete p.seq St.ok (v % 2 ^ 32) (v / 2 ^ 32)
  match parmInfo s.nTiles (pidOf p) with
  | some r => answer s (wrapS 63 (if bit (p.dw 3) 0 then s.pendingItem r (pidOf p) else s.inForce r (pidOf p)))
  | none => answer s.nextFree (Config.freeNat s.free % 2 ^ 63)

/-- PARM.GET. -/
def opParmGet : OpDef :=
  { code := 0x0D01, cls := clsAll, named := [0xFFFF_FFFF, 1], prot := noProt, access := noAccess, check := checkParmGet,
    read := noRead, waits := noWaits, bind := noBind, act := actParmGet }

/-! ## PARM.SET -/

/-- The value of a PARM.SET: 63 bits, two's complement for items with negative values (13 R452). -/
def setValue (r : ParmRow) (p : Packet) : Int :=
  let n := p.dw 3 + 2 ^ 32 * p.f 4 30 0
  if r.lo < 0 then sext 63 n else (n : Int)

/-- A packet with dwords replaced from an index on. -/
def setDw (w : Words16) (i : Nat) : List Nat → Words16
  | [] => w
  | v :: vs => setDw (vset w i (BitVec.ofNat 32 v)) (i + 1) vs

/-- The packet read as a command whose target stands in DW2 and DW3. -/
def targetPacket (p : Packet) : Packet := { p with w := setDw p.w 2 [p.dw 5, p.dw 6] }

/-- The LAYER.SET of one item that a PARM.SET of a layer item is (04 R162): the packet and its item list. -/
def layerPacket (r : ParmRow) (p : Packet) : Packet × List Byte :=
  let i := pInst (pidOf p)
  let proof := proofLayer (pidOf p)
  let n := i - (if proof then 0x50 else 0x10)
  let w2 := if proof then n / 4 else p.dw 5
  ({ p with w := setDw p.w 2 [w2, if proof then 0 else p.dw 6, 2 ^ (n % 4) + (if proof then 256 else 0), 0, 0, 1] },
   leBytes 2 (pItemNo (pidOf p)) ++ leBytes 2 0 ++ leBytes 8 (wrapS 64 (setValue r p)))

/-- The RAY.BIND that a PARM.SET of a binding item is: the lane's pending binding with one item changed (06 R225). -/
def State.rayPacket (s : State) (r : ParmRow) (p : Packet) : Packet :=
  let q := targetPacket p
  let j := pInst (pidOf p) - 0x10
  let m := PMap.put (s.laneItemsAfter j) (pidOf p) (setValue r p)
  let v := fun (k : Nat) => m.ray j k
  { q with w := setDw q.w 4 [v 1 % 2 ^ 32, v 1 / 2 ^ 32, v 2 + 2 ^ 8 * v 3 + 2 ^ 16 * v 4 + 2 ^ 20 * v 6 + 2 ^ 24 * v 11, v 5 % 2 ^ 32,
      v 5 / 2 ^ 32, v 7, v 8, v 9, v 10] }

/-- A session may set the items of a queue pair (12 R428). -/
def State.ownsPair (s : State) (session q : Nat) : Bool := session = 0 || (s.pair q).any (fun x => x.session == session)

/-- The protection of PARM.SET by the item's block (12 R428, 13 R452). -/
def protParmSet (s : State) (p : Packet) : Nat :=
  let pid := pidOf p
  let b := pBlock pid
  let x := s.session p.session
  if (parmInfo s.nTiles pid).isNone && !statusItem pid then 0
  else if b = 1 then (if s.ownsPair p.session (pInst pid) then 0 else St.protClass)
  else if !(x.map (fun x => bit x.mask b)).getD false then St.protGroup
  else if (x.map (fun x => decide (x.cls = 2))).getD false && !([2, 4, 5, 6, 7, 8, 12, 13].contains b) then St.protClass
  else 0

/-- Bounds that depend on other items, with the value pending for each (03 R134, 15 R480, 18 R543, 19 R594, 09 R305, 05
R196). -/
def State.boundOk (s : State) (pid : Nat) (v : Int) : Bool :=
  let i := pInst pid
  let t := i % 16
  let k := pItemNo pid
  if pid = Pid.memRsvSize then decide (v * 2 ^ 20 ≤ (s.usable : Int) - 2 ^ 30)
  else if pid = Pid.tallyTcLo then decide (v + 100 ≤ s.item Pid.tallyTcHi)
  else if pid = Pid.tallyTcHi then decide (s.item Pid.tallyTcLo + 100 ≤ v)
  else if pid = Pid.scanWm then decide (v + 2 ≤ (((s.usedTiles.map (fun t => (s.tileN t).prefetch)).foldl min 64 : Nat) : Int))
  else if pBlock pid = 14 && i / 16 = 1 && 4 ≤ k && k ≤ 7 then hashOk s.physBits s.memRanks (k - 4) v.toNat
  else if pid = Pid.thmWarn t then decide (v < s.item (Pid.thmThrot t))
  else if pid = Pid.thmThrot t then decide (s.item (Pid.thmWarn t) < v ∧ v < s.item (Pid.thmShut t))
  else if pid = Pid.thmShut t then decide (s.item (Pid.thmThrot t) < v)
  else true

/-- A field's shelf life in months is at most 600 (05 R196). -/
def State.shelfOk (s : State) (pid : Nat) (v : Int) : Bool :=
  if pBlock pid = 5 && 0x80 ≤ pInst pid && (pItemNo pid % 256 = 9 || pItemNo pid % 256 = 10) then
    let m := PMap.put (s.laneItemsAfter (pInst pid - 0x80)) pid v
    let f := pItemNo pid / 256
    decide (m.fldItemN (pInst pid - 0x80) f 10 = 0 ∨ m.fldItemN (pInst pid - 0x80) f 9 ≤ 600)
  else true

/-- The counter's settings as they will stand: pending values with one changed (05 R185). -/
def State.counterView (s : State) (pid : Nat) (v : Int) : PMap :=
  let items := (List.range 10).map (fun k => parmId 5 (pInst pid) (k + 1))
  let pend := items.filterMap (fun id => (lastOf (s.laneChanges.flatMap (·.items)) id).map (fun x => (id, x)))
  PMap.put (PMap.putAll s.job.base.items pend) pid v

/-- The argument status of the group that owns a block (13 R431). -/
def argOf (b : Nat) : Nat := if b = 4 then St.layerArg else if b = 5 then St.markArg else St.rayArg

/-- The checks of an arm-line item: its target, that its lane is the one the item names, and those of the owning command
(04 R140, 05 R185, 06 R225). -/
def State.armItemCheck (s : State) (r : ParmRow) (p : Packet) : Nat :=
  let pid := pidOf p
  let q := targetPacket p
  let v := setValue r p
  let t := checkTgt false (argOf (pBlock pid)) s q
  if t ≠ St.ok then t
  else if (armLane pid).any (fun j => j != q.tgtLane) then argOf (pBlock pid)
  else if pBlock pid = 4 then (checkLayerSet s (layerPacket r p).1).1
  else if pBlock pid = 6 then (checkRayBind s (s.rayPacket r p)).1
  else if pInst pid < 0x40 then
    (if counterOk (s.counterView pid v) (pInst pid) (decide (pItemNo pid = 10)) then St.ok else St.markArg)
  else if 0x80 ≤ pInst pid then
    s.fieldBind (q.tgtMode == 2) (s.viewAfter q.tgtLane [(pid, v)] none) (pItemNo pid / 256)
  else St.ok

/-- The tones of channels with one channel's COL_TONES changed (08 R282). -/
def State.colourItemCheck (s : State) (pid : Nat) (v : Int) : Nat :=
  let c := pInst pid
  if c < 12 && !([7, 8, 9].contains (pItemNo pid)) && (s.colCh c).holds then St.colourState
  else if c < 12 && pItemNo pid = 1 then
    (if !tonesOk v.toNat || s.bandRefused (s.usedWith (2 ^ c) v.toNat) (s.tonesWith (2 ^ c) v.toNat) then St.colourArg else St.ok)
  else St.ok

/-- Checks of PARM.SET (13 R452 and the tables of the chapters). -/
def checkParmSet (s : State) (p : Packet) : Nat × Nat × Nat :=
  let pid := pidOf p
  let tgt := p.dw 5 ≠ 0 ∨ p.dw 6 ≠ 0
  match parmInfo s.nTiles pid with
  | none => (if statusItem pid then (if tgt then St.rsvdSet else St.parmRo) else St.parmId, 0, 0)
  | some r =>
    let v := setValue r p
    let e := effectOf r pid
    if tgt ∧ e ≠ 3 then (St.rsvdSet, 0, 0)
    else if pBlock pid = 4 ∧ pItemNo pid = 18 ∧ r.effect = 3 then (St.parmRo, 0, 0)
    else if !r.accepts v || !s.boundOk pid v || !s.shelfOk pid v then (St.parmRange, 0, 0)
    else if e = 3 then (s.armItemCheck r p, 0, 0)
    else if proofLayer pid then ((checkLayerSet s (layerPacket r p).1).1, 0, 0)
    else if pBlock pid = 6 ∧ pInst pid = 0 ∧ e = 1 then
      (if (s.brickOver false (PMap.put s.lensAfter pid v) none).isSome then St.rayBuf else St.ok, 0, 0)
    else if pBlock pid = 6 ∧ pInst pid = 0x40 then
      (if PMap.item (PMap.put s.job.base.items pid v) Pid.pnlOffset < PMap.item (PMap.put s.job.base.items pid v) Pid.pnlPitch then St.ok else St.rayArg, 0, 0)
    else if pBlock pid = 8 then (s.colourItemCheck pid v, 0, 0)
    else (St.ok, 0, 0)

/-- Job memory that a PARM.SET touches: what the LAYER.SET or RAY.BIND it stands for touches (12 R414). -/
def accessParmSet (s : State) (p : Packet) (_ : List Byte) : List Access :=
  match parmInfo s.nTiles (pidOf p) with
  | none => []
  | some r =>
    if r.effect ≠ 3 ∨ !r.accepts (setValue r p) then []
    else if pBlock (pidOf p) = 4 then opLayerSet.access s (layerPacket r p).1 (layerPacket r p).2
    else if pBlock (pidOf p) = 6 && pItemNo (pidOf p) = 1 then opRayBind.access s (s.rayPacket r p) []
    else []

/-- The spans whose earlier writes a PARM.SET waits for (03 R107). -/
def waitsParmSet (s : State) (p : Packet) (_ : List Byte) : Nat :=
  match parmInfo s.nTiles (pidOf p) with
  | none => 0
  | some r =>
    if r.effect ≠ 3 then 0
    else if pBlock (pidOf p) = 4 then opLayerSet.waits s (layerPacket r p).1 (layerPacket r p).2
    else if pBlock (pidOf p) = 6 && pItemNo (pidOf p) = 1 then opRayBind.waits s (s.rayPacket r p) []
    else 0

/-- What a PARM.SET makes live (03 R109). -/
def bindParmSet (s : State) (p : Packet) (_ : List Byte) : (Nat × Nat × Nat) × State :=
  match parmInfo s.nTiles (pidOf p) with
  | none => ((St.ok, 0, 0), s)
  | some r =>
    if r.effect ≠ 3 then ((St.ok, 0, 0), s)
    else if pBlock (pidOf p) = 4 then bindLayerSet s (layerPacket r p).1 (layerPacket r p).2
    else if pBlock (pidOf p) = 6 then bindRayWith (decide (pItemNo (pidOf p) = 1)) s (s.rayPacket r p)
    else ((St.ok, 0, 0), s)

/-- The effect of an arm-line item: a change of the target product's inputs (04 R155, 05 R185). -/
def State.setArmItem (s : State) (r : ParmRow) (p : Packet) : State :=
  let pid := pidOf p
  let q := targetPacket p
  let v := setValue r p
  if pBlock pid = 4 then actLayerSet s (layerPacket r p).1 (layerPacket r p).2
  else if pBlock pid = 5 && pInst pid < 0x40 then
    s.submit q (markChange q 6 (pInst pid) [[boolNat (pItemNo pid == 10), v.toNat]] [(pid, v)])
  else s.submit q { LaneChange.of q with items := [(pid, v)] }

/-- What an item's write does at once beside its value: a channel without tones is OFF
(08 R263, R270), and a timing set asks for a frequency change (15 R493). -/
def State.itemWritten (s : State) (pid : Nat) : State :=
  let i := pInst pid
  if pBlock pid = 8 && i < 12 && pItemNo pid = 1 then
    if (s.tones i).isEmpty then (s.captureDrop i).updCh i (fun x => { x with st := .off }) else s
  else if pBlock pid = 14 && i / 16 = 1 && pItemNo pid = 3 then
    s.updMemc (i % 16) (fun m => if m.st = 2 then { m with freqPend := decide (s.itemN pid ≠ m.set) } else m)
  else s

/-- PARM.SET: a job-boundary item is staged while a job is armed; effect-line and line-boundary items are committed;
arm-line items follow their owner; compare items wait for their effect tick; every other item holds the value written
(13 R441, R617; 02 R89). -/
def actParmSet (s : State) (p : Packet) (_ : List Byte) : State :=
  let pid := pidOf p
  match parmInfo s.nTiles pid with
  | none => s.done p.seq St.parmId
  | some r =>
    let v := setValue r p
    match effectOf r pid with
    | 1 => s.changeFor p.seq (.parms [(pid, v)])
    | 2 => s.changeFor p.seq (.parms [(pid, v)])
    | 3 => s.setArmItem r p
    | 5 =>
      if s.armed then ({ s with job := { s.job with staged := setting s.job.staged pid v } }).done p.seq St.okStaged
      else (s.putItem pid v).done p.seq St.ok
    | _ =>
      if proofLayer pid then actLayerSet s (layerPacket r p).1 (layerPacket r p).2
      else if pBlock pid = 9 && 0x30 ≤ pInst pid && pInst pid < 0x40 then s.cmpAccept (pInst pid - 0x30) [(pid, v)] p.seq
      else ((s.putItem pid v).itemWritten pid).done p.seq St.ok

/-- PARM.SET. -/
def opParmSet : OpDef :=
  { code := 0x0D02, cls := clsSOJ, named := [0xFFFF_FFFF, 0xFFFF_FFFF, 0x7FFF_FFFF, tgtPlain, 0xFFFF_FFFF], prot := protParmSet,
    access := accessParmSet, check := checkParmSet, read := noRead, waits := waitsParmSet, bind := bindParmSet, act := actParmSet }

/-! ## PARM.LIST (13 R453) -/

/-- Bytes of a text, NUL-padded or cut to n. -/
def textBytes (n : Nat) (t : List Byte) : List Byte := (t ++ zeros n).take n
/-- The descriptor of an item. -/
def descriptor (r : ParmRow) (pid : Nat) : List Byte :=
  let lo := r.also.foldl min r.lo
  let hi := r.also.foldl max r.hi
  let access := if r.block = 4 && pItemNo pid = 18 then 1 else if r.effect = 5 then 2 else 0
  leBytes 4 pid ++ leBytes 1 (if r.lo < 0 then 1 else 0) ++ leBytes 1 (Config.descWidth pid) ++ leBytes 1 (effectOf r pid) ++ leBytes 1 access ++
  leBytes 8 (wrapS 64 lo) ++ leBytes 8 (wrapS 64 hi) ++ leBytes 8 (wrapS 64 (parmReset pid)) ++ textBytes 8 (Config.descUnit pid) ++
  textBytes 24 (r.name.toList.map (fun c => BitVec.ofNat 8 c.toNat))
/-- The PARM IDs of a row on a part. -/
def ParmRow.ids (r : ParmRow) (tiles : Nat) : List Nat :=
  ((List.range r.insts).flatMap (fun i => (List.range r.items).map (fun k => parmId r.block (r.inst + i) (r.item + k * r.step)))).filter
    (parmFitted tiles)

/-- PARM.LIST: the descriptors of the items selected; the status items follow them (13 R453; log 6). -/
def actParmList (s : State) (p : Packet) (_ : List Byte) : State :=
  let sel := p.f 5 7 0
  let rows := if sel = 0xFF || sel = 0 then parmAll else parmRowsOf sel
  let own := if bit (p.dw 5) 8 then [] else rows.flatMap (fun r => (r.ids s.nTiles).flatMap (descriptor r))
  s.report p (own ++ Config.statusList (p.f 5 8 0))

/-- PARM.LIST. -/
def opParmList : OpDef :=
  { code := 0x0D03, cls := clsAll, named := rptNamed 0x1FF, prot := noProt, access := noAccess, check := noCheck, read := noRead,
    waits := noWaits, bind := noBind, act := actParmList }

/-! ## Meanings -/

/-- R441: PARM.GET. -/
def execParmGet (p : Packet) (s : State) : Out := .next (opParmGet.dispatch s p)
/-- R441, R452: PARM.SET. -/
def execParmSet (p : Packet) (s : State) : Out := .next (opParmSet.dispatch s p)
/-- R453: PARM.LIST. -/
def execParmList (p : Packet) (s : State) : Out := .next (opParmList.dispatch s p)

end Sys2Proof.Machine
end

