-- ==== Sys2Proof/Machine/Regs.lean ====
section
/-! DEFINITION. The register map of BAR0 (01 R51): what a read of each block's registers returns, what a write does by
its field's access code (00 R11, R12; 12 R393), and the DIAG opcodes that reach it (13 R455). -/

namespace Sys2Proof.Machine

/-- What an absent tile and a block that is off read as (01 R51). -/
def allOnes : Nat := 0xFFFF_FFFF

/-- A field of a register value at its lowest bit. -/
def at_ (l v : Nat) : Nat := v * 2 ^ l
/-- A one-bit field of a register value. -/
def atB (l : Nat) (b : Bool) : Nat := if b then 2 ^ l else 0

/-- Index of an array of registers at base b with a stride, if the offset is one of n of them. -/
def regIx (o b stride n : Nat) : Option Nat :=
  if b ≤ o ∧ (o - b) % stride = 0 ∧ (o - b) / stride < n then some ((o - b) / stride) else none

/-- The domain of a block of a tile is on (01 R46, R51; 16 R516). Blocks 7 to 9 are in PD_AON, and TWN in PD_SCAN with
the twin link. -/
def State.blockOn (s : State) (t b o : Nat) : Bool :=
  let x := s.tileN t
  match b with
  | 0 => x.on 3
  | 1 => x.on 2
  | 2 => x.on 1
  | 3 => x.on 14
  | 4 => x.on 10
  | 5 => if o < 0xA00 then s.lnkOn t (o / 0x100) else true
  | 6 => x.on 9
  | 10 => x.on 8
  | _ => true

/-! ## Reads, block by block -/

/-- HIF_PM (12 R430). -/
def State.readHif (s : State) (t o : Nat) : Nat :=
  let p := vget s.qen.ports t Port.reset
  if o = 0 then at_ 4 p.link + (if p.dstate = 0 then 0 else 3) else 0

/-- QEN_QSTAT of a pair (12 R429). -/
def QueuePair.qstat (x : QueuePair) : Nat :=
  at_ 31 1 + atB 30 x.fault + at_ 16 x.sqHead + atB 12 x.phase + x.cqTail

/-- A dword of an MSI-X table entry: address low, address high, data, vector control (12 R429). -/
def Msix.word (m : Msix) (v w : Nat) : Nat :=
  if w = 3 then boolNat (!m.unmasked.contains v) else bits (NMap.get 0 m.table v) (32 * w + 31) (32 * w)

/-- The MSI-X table and the PBA of a tile's endpoint (12 R391, R429). -/
def State.readMsix (s : State) (t o : Nat) : Nat :=
  let m := vget s.qen.msix t Msix.reset
  if o < 0x28000 then m.word ((o - 0x20000) / 16) ((o - 0x20000) / 4 % 4)
  else if o < 0x28100 then maskOf 32 (fun i => m.pba.contains (8 * (o - 0x28000) + i))
  else 0

/-- The registers of QEN: the lead's, and on the other tile of twin 0 its mirror of them (12 R422, R429). -/
def State.readQen (s : State) (t o : Nat) : Nat :=
  let lead := t == s.lead.tile
  let run := (s.qen.store.filter (fun e => decide (e.st = .running))).length
  let held := s.qen.store.any (fun e => decide (e.st = .done))
  if o = 0x24 then vget s.qen.stray t 0
  else if o = 0 then atB 1 s.qen.reglock + atB 0 s.qen.en
  else if o = 4 then if lead then at_ 16 s.qen.store.length + at_ 8 (run % 256) + atB 1 held + atB 0 s.qen.ready else 0
  else if o = 0x10 then s.qen.asq % 2 ^ 32
  else if o = 0x14 then s.qen.asq / 2 ^ 32
  else if o = 0x18 then s.qen.acq % 2 ^ 32
  else if o = 0x1C then s.qen.acq / 2 ^ 32
  else if o = 0x20 then at_ 16 s.qen.acqs + s.qen.asqs
  else if 0x20000 ≤ o then s.readMsix t o
  else match regIx o 0x2000 4 256 with
    | some q => match s.pair q with
      | some x => x.qstat
      | none => at_ 12 1
    | none => 0

/-- EVR_SRC_CFG (14 R474). -/
def EvrSrc.cfg (x : EvrSrc) : Nat :=
  atB 31 x.en + atB 30 x.kind + atB 29 x.wakeEn + at_ 24 x.cores + at_ 16 x.wake + x.pri
/-- EVR_SRC_STAT (14 R474). -/
def EvrSrc.stat (x : EvrSrc) : Nat := at_ 16 x.count + atB 1 x.active + atB 0 x.pend
/-- EVR_HT_CTL (14 R474). -/
def HostTgt.ctl (x : HostTgt) : Nat := atB 31 x.en + atB 30 x.sleep + at_ 24 x.vecn + x.vec
/-- A control core as a target. -/
def Evr.core (e : Evr) (c : Nat) : CoreTgt := vget e.cores c { cpri := 0, sleep := false, queue := [] }

/-- The host-target registers: live on the lead, mirrored on the standby lead, zero elsewhere (14 R473). A read of
EVR_HT_TAKE gives the oldest entry. -/
def State.readHost (s : State) (t h w : Nat) : Nat :=
  let x := s.hostTarget h
  if t = s.lead.tile ∨ t = s.standby then
    if w = 0 then x.ctl else if w = 1 then x.cpri else if w = 2 then takeValue x.queue else 0
  else 0

/-- The registers of EVR (14 R474). -/
def State.readEvr (s : State) (t o : Nat) : Nat :=
  let e := (s.tileN t).evr
  if o = 0 then boolNat e.en
  else if o = 8 then at_ 16 e.baddone + atB 0 e.restored
  else if o = 0x10 then e.logcnt
  else if o = 0x14 then e.loglost
  else if 0x4000 ≤ o ∧ o < 0x4200 then s.readHost t ((o - 0x4000) / 16) (o / 4 % 4)
  else if 0x3000 ≤ o ∧ o < 0x3018 then maskOf 32 (fun i => (s.src t (8 * (o - 0x3000) + i)).pend)
  else if 0x2000 ≤ o ∧ o < 0x2300 then (s.src t ((o - 0x2000) / 4)).stat
  else if 0x1000 ≤ o ∧ o < 0x1600 then
    if o % 8 = 0 then (s.src t ((o - 0x1000) / 8)).cfg else (s.src t ((o - 0x1000) / 8)).hosts
  else if 0x20 ≤ o ∧ o < 0x30 then at_ 16 (vget e.edge ((o - 0x20) / 4) 0) + vget e.filt ((o - 0x20) / 4) 0
  else if 0x40 ≤ o ∧ o < 0x50 then atB 8 (e.core ((o - 0x40) / 4)).sleep + (e.core ((o - 0x40) / 4)).cpri
  else if 0x50 ≤ o ∧ o < 0x60 then takeValue (e.core ((o - 0x50) / 4)).queue
  else if 0x80 ≤ o ∧ o < 0xA0 then vget e.prigroup ((o - 0x80) / 4) 0
  else 0

/-- MOT_STAT of a tile (02 R99). -/
def State.motStat (s : State) (t : Nat) : Nat :=
  let b := s.motion.blockOf t
  let l := b.loop
  atB 7 (decide (t = s.motion.active) && s.stopLevel) + atB 6 (decide (t = s.motion.active))
    + atB 5 (decide (l.mode = .lost)) + atB 4 (decide (l.mode = .coast)) + atB 3 l.still + atB 2 (if s.absSource then s.motion.absRev else (vget b.enc 0 Enc.reset).rev)
    + atB 1 (decide (l.mode = .lock)) + atB 0 (decide (l.mode = .acq))

/-- MOT_LEVELS (02 R99). -/
def State.motLevels (s : State) : Nat :=
  let c := s.motion.carrCode
  at_ 14 (vget c 2 0 % 8) + at_ 11 (vget c 1 0 % 8) + at_ 8 (vget c 0 0 % 8) + maskOf 8 (fun i => (vget s.motion.pd i PinSt.reset).filt)

/-- The registers of MOT, as the tile's own block has them; a rate below 0 reads 0 in the u32 of MOT_LOOP_RATE (02 R85, R99; log
120). -/
def State.readMot (s : State) (t o : Nat) : Nat :=
  let m := s.motion
  if o = 0 then s.motStat t
  else if o = 4 then (s.tileN t).motFault
  else if o = 0x10 then m.lastLine % 2 ^ 32
  else if o = 0x14 then m.lastLine / 2 ^ 32 % 2 ^ 16
  else if 0x20 ≤ o ∧ o < 0x40 then
    let e := vget (m.blockOf t).enc ((o - 0x20) / 8) Enc.reset
    if o % 8 = 0 then e.count % 2 ^ 32 else at_ 16 e.stepBad + e.count / 2 ^ 32 % 2 ^ 16
  else if o = 0x60 then wrapS 32 (fdivI (m.blockOf t).loop.lastE (2 ^ 28))
  else if o = 0x64 then (clampI (fdivI ((m.blockOf t).loop.f * 250_000_000) (2 ^ 44)) 0 0xFFFF_FFFF).toNat
  else if o = 0x70 then s.motLevels
  else 0

/-- MEMC_STAT (15 R498). -/
def Memc.stat (m : Memc) : Nat :=
  at_ 5 (maskOf 3 (fun p => (vget m.panic p none).isSome)) + atB 4 m.pause.isSome + atB 3 m.freqPend + atB 2 m.trainPend + m.st

/-- The registers of MEMC (15 R498). -/
def State.readMemc (s : State) (t o : Nat) : Nat :=
  let m := s.memc t
  if o = 0 then at_ 20 m.rateB + at_ 16 m.rateA + at_ 8 m.set + at_ 5 m.ranks + m.rowbits
  else if o = 4 then m.stat
  else if 0x10 ≤ o ∧ o < 0x20 then vget m.hash ((o - 0x10) / 4) 0
  else if 0x20 ≤ o ∧ o < 0x2C then s.tolerance t ((o - 0x20) / 4)
  else if 0x30 ≤ o ∧ o < 0x3C then m.panicTicks s.now ((o - 0x30) / 4)
  else if o = 0x40 then m.ceCnt
  else if o = 0x44 then m.ueCnt
  else if o = 0x48 then m.ceAddr % 2 ^ 32
  else if o = 0x4C then m.ceAddr / 2 ^ 32
  else if o = 0x50 then m.ueAddr % 2 ^ 32
  else if o = 0x54 then m.ueAddr / 2 ^ 32
  else if o = 0x58 then at_ 16 m.forced + m.pauseMax
  else if 0x60 ≤ o ∧ o < 0x70 then s.memBw t ((o - 0x60) / 4)
  else 0

/-- The register set of a lane (16 R516). -/
def LaneHw.read (x : LaneHw) (o : Nat) : Nat :=
  if o = 0 then atB 11 x.margin + at_ 10 x.rate + atB 9 x.lock + at_ 6 x.rxslp + at_ 4 x.txslp + x.st
  else if o = 4 then x.fault
  else if o = 0x10 then vget x.disc 0 0
  else if o = 0x14 then vget x.disc 1 0
  else if o = 0x18 then vget x.disc 2 0
  else if o = 0x20 then x.fillDel
  else if o = 0x24 then x.fillIns
  else if o = 0x30 then at_ 16 x.eyeH + x.eyeW
  else if o = 0x34 then at_ 28 x.ctle + at_ 16 x.txMain + at_ 8 x.txPost + x.txPre
  else if o = 0x40 then x.testErr
  else if o = 0x44 then at_ 16 x.testLoss + atB 2 x.test.isSome + atB 1 x.testLocked + atB 0 x.testDone
  else 0

/-- The registers of DSP (17 R539). -/
def State.readDsp (s : State) (t o : Nat) : Nat :=
  let d := s.dport t
  if o = 0 then
    atB 15 d.halved + atB 14 d.teLost + atB 13 d.panic + atB 12 (s.flipPend t) + at_ 8 d.rate + atB 7 d.hpd + at_ 6 d.pacing + d.st
  else if o = 4 then d.frame
  else if o = 8 then d.lineAt s.now % 2 ^ 13
  else if o = 0xC then d.under
  else if o = 0x10 then d.fillpix
  else if o = 0x14 then at_ 16 d.trains + d.lanes
  else 0

/-- The registers of THM (18 R565). -/
def Thm.read (x : Thm) (o : Nat) : Nat :=
  if o = 0 then
    at_ 8 x.shed + atB 7 x.held + at_ 4 x.step + atB 3 x.sensorBad + atB 2 x.shut + atB 1 (decide (x.step ≠ 0)) + atB 0 x.warn
  else if o = 4 then at_ 16 x.code + wrapS 16 x.temp
  else if o = 8 then wrapS 16 x.max
  else if o = 0xC then at_ 16 x.limit + x.est
  else if o = 0x10 then at_ 16 x.cntThrottle + at_ 8 x.cntShut + x.cntSensor
  else 0

/-- The registers of TRM (18 R566). -/
def Trm.read (x : Trm) (o : Nat) : Nat :=
  if o = 0 then at_ 8 x.pend + at_ 4 x.running + x.fail
  else if o = 4 then at_ 16 x.runs + wrapS 16 x.lastTemp
  else if o = 8 then wrapS 16 x.resid
  else if o = 0xC then at_ 8 x.sets.length + maskOf 8 (fun k => decide (k < x.sets.length))
  else if 0x10 ≤ o ∧ o < 0x20 then vget x.dram ((o - 0x10) / 4) 0
  else 0

/-- AON_CAL_STAT of T0 or T1 (05 R197). -/
def State.calStat (s : State) (t : Nat) : Nat :=
  let c := vget s.marks.cal t Cal.reset
  atB 4 c.step.isSome + atB 3 c.slew.isSome + atB 2 c.srcOk + atB 1 (decide (t = s.lead.tile)) + atB 0 c.valid

/-- The registers of AON (01 R52, R53; 05 R197; 19 R595). -/
def State.readAon (s : State) (t o : Nat) : Nat :=
  let x := s.tileN t
  let c := s.calView t s.now
  if o = 0 then s.aonBoot t
  else if o = 8 then atB 16 x.boot.vbatLow + x.boot.vbat
  else if o = 0x10 then x.boot.hours
  else if o = 0x100 then at_ 16 x.pdBusy + x.pdOn
  else if o = 0x104 then x.pdNeed
  else if 2 ≤ t then 0
  else if o = 0x200 then c.1 % 2 ^ 32
  else if o = 0x204 then c.1 / 2 ^ 32
  else if o = 0x208 then c.2
  else if o = 0x20C then s.calStat t
  else 0

/-- The registers of TWN (11 R389). -/
def State.readTwn (s : State) (t o : Nat) : Nat :=
  let x := s.tileN t
  if o = 0 then
    at_ 12 x.pstate.num + atB 7 (decide (t = s.lead.tile)) + atB 6 (decide (t < 2 ∧ t ≠ s.lead.tile)) + atB 5 x.portFault + x.twin.num
  else if o = 4 then at_ 8 x.cause + x.withdrawals
  else if o = 8 then s.lead.epoch
  else if o = 0xC then at_ 16 x.sigSkip + x.sigMismatch
  else if o = 0x10 then at_ 4 x.assayFailed + x.assayPass
  else if o = 0x14 then x.pseq
  else 0

/-- A register of a block that is on, without the effect of its read and past any latch. -/
def State.readBlock (s : State) (t b o : Nat) : Nat :=
  match b with
  | 0 => s.readHif t o
  | 1 => s.readQen t o
  | 2 => s.readEvr t o
  | 3 => s.readMot t o
  | 4 => s.readMemc t o
  | 5 => if o < 0xA00 then (s.lnk t (o / 0x100)).read (o % 0x100) else 0
  | 6 => s.readDsp t o
  | 7 => (s.tileN t).thm.read o
  | 8 => (s.tileN t).trm.read o
  | 9 => s.readAon t o
  | 10 => s.readTwn t o
  | _ => 0

/-- The registers that a read of this one latches: the _HI partners of MOT and MEMC, and the calendar's second half and
sub-second count (02 R99, 05 R197, 15 R498). -/
def latches (t b o : Nat) : List Nat :=
  if b = 3 ∧ (o = 0x10 ∨ (0x20 ≤ o ∧ o < 0x40 ∧ o % 8 = 0)) then [o + 4]
  else if b = 4 ∧ (o = 0x48 ∨ o = 0x50) then [o + 4]
  else if b = 9 ∧ o = 0x200 ∧ t < 2 then [0x204, 0x208]
  else []

/-- A read of BAR0: the package with the read's effects, and the value (01 R51). A latched register gives its latched
value, kept one above it in the tile's latches. -/
def State.readBar (s : State) (off : Nat) : State × Nat :=
  let t := off / 0x400000
  let b := off % 0x400000 / 0x40000
  let o := off % 0x40000
  if 0x2000000 ≤ off then (s, 0)
  else if s.nTiles ≤ t || !s.blockOn t b o then (s, allOnes)
  else if b = 2 ∧ t = s.lead.tile ∧ 0x4000 ≤ o ∧ o < 0x4200 ∧ o % 16 = 8 then
    let s1 := s.htTake t ((o - 0x4000) / 16)
    ({ s1 with busRead := s.busRead }, s1.busRead.toNat)
  else
    let v := s.readBlock t b o
    match latches t b o with
    | [] => (s, let k := NMap.get 0 (s.tileN t).latchHi (0x40000 * b + o); if k = 0 then v else k - 1)
    | his =>
      (his.foldl (fun s' hi =>
        s'.updTileN t (fun x => { x with latchHi := NMap.set 0 x.latchHi (0x40000 * b + hi) (s.readBlock t b hi + 1) })) s, v)

/-- LO_REGISTER_READ_LATCH: a BAR0 read of a register (02 R99, 05 R197, 15 R498). -/
def State.barRead (s : State) (off : Nat) : State :=
  let r := s.readBar (off / 4 * 4 % 0x4000000)
  r.1.returns r.2

/-! ## Writes, block by block: v the value, m the bits written, sup a write of the supervisor session -/

/-- The value of a writable field after a write: the masked bits new, the others kept. -/
def merge (old v m : Nat) : Nat := (old &&& (0xFFFF_FFFF - m)) + (v &&& m)

/-- A write of the admin settings and QEN_CTL on the lead tile (12 R393, R429). -/
def State.writeAdmin (s : State) (o v m : Nat) : State :=
  let old := s.readQen s.lead.tile o
  let n := merge old v m
  let q := s.qen
  if o = 0 then
    let s1 : State := { s with qen := { q with reglock := bit n 1 } }
    if bit n 0 then s1.enStart else s1.enStop
  else if o = 0x10 then { s with qen := { q with asq := q.asq / 2 ^ 32 * 2 ^ 32 + n / 4096 * 4096 } }
  else if o = 0x14 then { s with qen := { q with asq := n * 2 ^ 32 + q.asq % 2 ^ 32 } }
  else if o = 0x18 then { s with qen := { q with acq := q.acq / 2 ^ 32 * 2 ^ 32 + n / 4096 * 4096 } }
  else if o = 0x1C then { s with qen := { q with acq := n * 2 ^ 32 + q.acq % 2 ^ 32 } }
  else if o = 0x20 then { s with qen := { q with acqs := bits n 23 16, asqs := bits n 7 0 } }
  else s

/-- A write of the MSI-X table of a tile's endpoint; a mask that the lead's loses sends what waits, and T0 as the lead mirrors the
entry to T1 (12 R418, R422, R423, R429). -/
def State.writeMsix (s : State) (t vec w v m : Nat) : State :=
  let x := vget s.qen.msix t Msix.reset
  let n := merge (x.word vec w) v m
  let e := NMap.get 0 x.table vec
  let e1 := if w = 3 then e else e - at_ (32 * w) (x.word vec w) + at_ (32 * w) n
  let masked := if w = 3 then bit n 0 else !x.unmasked.contains vec
  let opens := decide (w = 3 ∧ t = s.lead.tile) && !masked && !x.unmasked.contains vec
  let s1 := s.updMx t (fun x => x.put vec e1 masked)
  let s2 := if t = s.lead.tile then s1.mirrorSend (.msix vec (e1 + at_ 96 (boolNat masked))) else s1
  if opens then s2.maskClear (some vec) else s2

/-- A write to QEN (12 R395, R397, R399, R429). Doorbells and MSI-X tables are of either tile; the
other fields act on the lead. -/
def State.writeQen (s : State) (t o v m : Nat) (sup : Bool) : State :=
  match regIx o 0x1000 8 256, regIx o 0x1004 8 256, regIx o 0x2000 4 256 with
  | some q, _, _ => s.sqTail t q (v &&& m)
  | _, some q, _ => s.cqHead t q (v &&& m)
  | _, _, some q =>
    if t = s.lead.tile && bit (v &&& m) 30 then s.updPair q (fun x => { x with fault := false }) else s
  | _, _, _ =>
    if 0x20000 ≤ o ∧ o < 0x28000 then s.writeMsix t ((o - 0x20000) / 16) ((o - 0x20000) / 4 % 4) v m
    else if t ≠ s.lead.tile then s
    else if sup then s.writeAdmin o v m
    else s

/-- A write of a source's registers (14 R474). -/
def State.writeSrc (s : State) (t o v m : Nat) : State :=
  if o < 0x2000 then
    let k := (o - 0x1000) / 8
    let x := s.src t k
    if o % 8 = 0 then
      let n := merge x.cfg v m
      s.updSrc t k (fun x => { x with
        en := bit n 31, kind := bit n 30, wakeEn := bit n 29, cores := bits n 27 24, wake := bits n 21 16, pri := bits n 7 0 })
    else s.updSrc t k (fun x => { x with hosts := merge x.hosts v m })
  else
    let k := (o - 0x2000) / 4
    let s1 := if bit (v &&& m) 2 then s.clrCount t k else s
    if bit (v &&& m) 0 then s1.pendClear t k else s1

/-- A write of a host target's registers, live on the lead alone (14 R473, R474). -/
def State.writeHost (s : State) (t h w v m : Nat) : State :=
  if t ≠ s.lead.tile then s
  else if w = 0 then
    s.updHost h (fun x =>
      let n := merge x.ctl v m
      { x with en := bit n 31, sleep := bit n 30, vecn := bits n 25 24, vec := bits n 10 0 })
  else if w = 1 then s.updHost h (fun x => { x with cpri := merge x.cpri v m % 256 })
  else if w = 3 then s.htDone t h (v &&& m)
  else s

/-- A write to EVR (14 R474). -/
def State.writeEvr (s : State) (t o v m : Nat) (sup : Bool) : State :=
  let e := (s.tileN t).evr
  if 0x4000 ≤ o ∧ o < 0x4200 then s.writeHost t ((o - 0x4000) / 16) (o / 4 % 4) v m
  else if (0x1000 ≤ o ∧ o < 0x1600) ∨ (0x2000 ≤ o ∧ o < 0x2300) then s.writeSrc t o v m
  else if o = 0 then if sup then s.updEvr t (fun e => { e with en := bit (merge (boolNat e.en) v m) 0 }) else s
  else if o = 8 then s.updEvr t (fun e => { e with restored := e.restored && !bit (v &&& m) 0 })
  else if o = 0xC then s.swset (tileIx t) (v &&& m)
  else if 0x20 ≤ o ∧ o < 0x30 then
    let i := (o - 0x20) / 4
    let n := merge (at_ 16 (vget e.edge i 0) + vget e.filt i 0) v m
    s.updEvr t (fun e => { e with edge := vset e.edge i (bits n 17 16), filt := vset e.filt i (bits n 15 0) })
  else if 0x40 ≤ o ∧ o < 0x50 then
    s.updCore t ((o - 0x40) / 4) (fun x => let n := merge (atB 8 x.sleep + x.cpri) v m; { x with sleep := bit n 8, cpri := bits n 7 0 })
  else if 0x60 ≤ o ∧ o < 0x70 then s.coreDone t ((o - 0x60) / 4) (v &&& m)
  else if 0x80 ≤ o ∧ o < 0xA0 then
    if sup then s.updEvr t (fun e => { e with prigroup := vupd e.prigroup ((o - 0x80) / 4) 0 (fun x => merge x v m) }) else s
  else s

/-- A write to MEMC: the bits of MEMC_CLR (15 R498). -/
def State.writeMemc (s : State) (t o w : Nat) : State :=
  if o ≠ 0x5C then s
  else
    let s1 := if bit w 0 then s.memcClr t Memc.clrCe else s
    let s2 := if bit w 1 then s1.memcClr t Memc.clrUe else s1
    let s3 := if bit w 2 then s2.memcClr t (Memc.clrPanic s.now) else s2
    if bit w 3 then s3.memcClr t Memc.clrPause else s3

/-- Bits of a W1C field with the ones of a write cleared (00 R11). -/
def w1c (old w : Nat) : Nat := old - (old &&& w)

/-- A write to a lane's register set (16 R516). -/
def State.writeLnk (s : State) (t l o w : Nat) : State :=
  if o = 4 then s.updLnk t l (fun x => { x with fault := w1c x.fault w })
  else if o = 0x44 then s.updLnk t l (fun x => { x with testDone := x.testDone && !bit w 0 })
  else if o = 0x4C then
    let s1 := if bit w 1 then s.lnkClrCnt t l else s
    if bit w 0 then s1.lnkClrTest t l else s1
  else s

/-- A write to DSP: the bits of DSP_CLR (17 R539). -/
def State.writeDsp (s : State) (t o w : Nat) : State :=
  if o ≠ 0x18 then s
  else
    let s1 := if bit w 1 then s.dspClrTrains t else s
    if bit w 0 then s1.dspClrUnder t else s1

/-- A write to THM: the bits of THM_CLR (18 R565). -/
def Thm.write (x : Thm) (o w : Nat) : Thm :=
  if o ≠ 0x14 then x
  else
    let y := if bit w 1 then { x with cntThrottle := 0, cntShut := 0, cntSensor := 0 } else x
    if bit w 0 then { y with max := x.temp } else y

/-- A write to TWN: TWN_CAUSE.CLRLAST and TWN_ASSAY.FAILED (11 R389). -/
def State.writeTwn (s : State) (t o w : Nat) (sup : Bool) : State :=
  if o = 4 then if sup && bit w 16 then s.lastClear t else s
  else if o = 0x10 then s.updTileN t (fun x => { x with assayFailed := w1c x.assayFailed (bits w 7 4) })
  else s

/-- A write of the masked bits of a register, by its access code; reserved bits and read-only fields ignore it (00 R11,
R12; 01 R51; 12 R393). -/
def State.writeBar (s : State) (off v m : Nat) (sup : Bool) : State :=
  let t := off / 0x400000
  let b := off % 0x400000 / 0x40000
  let o := off % 0x40000
  if 0x2000000 ≤ off || s.nTiles ≤ t || !s.blockOn t b o then s
  else
    match b with
    | 1 => s.writeQen t o v m sup
    | 2 => s.writeEvr t o v m sup
    | 3 => if o = 4 then s.updTileN t (fun x => { x with motFault := w1c x.motFault (v &&& m) }) else s
    | 4 => s.writeMemc t o (v &&& m)
    | 5 => if o < 0xA00 then s.writeLnk t (o / 0x100) (o % 0x100) (v &&& m) else s
    | 6 => s.writeDsp t o (v &&& m)
    | 7 => s.updThm t (fun x => x.write o (v &&& m))
    | 8 => if o = 0 then s.updTrm t (fun x => { x with fail := w1c x.fail (bits (v &&& m) 3 0) }) else s
    | 10 => s.writeTwn t o (v &&& m) sup
    | _ => s

/-- REGISTER_WRITE: a BAR0 write, attributed to session 0 while REGLOCK is 0 (12 R393). -/
def State.barWrite (s : State) (off v : Nat) : State := s.writeBar (off / 4 * 4 % 0x4000000) v 0xFFFF_FFFF s.rwlOpen

/-! ## DIAG (13 R454, R455; 14 R461) -/

/-- DIAG.ECHO. -/
def opDiagEcho : OpDef :=
  { code := 0x0F01, cls := clsAll, named := [0xFFFF_FFFF, 0xFFFF_FFFF], prot := noProt, access := noAccess,
    check := noCheck, read := noRead, waits := noWaits, bind := noBind,
    act := fun s p _ => s.complete p.seq St.ok (p.dw 2) (p.f 3 30 0) }

/-- The BAR0 offset of DW2 is 4-aligned and below 0x0400_0000 (13 R455). -/
def checkDiagReg (_ : State) (p : Packet) : Nat × Nat × Nat :=
  if p.dw 2 % 4 = 0 ∧ p.dw 2 < 0x400_0000 then (St.ok, 0, 0) else (St.diagArg, 0, 0)

/-- DIAG.REGREAD: the register value in Result 0, with the effects of a read (13 R455). -/
def opDiagRegread : OpDef :=
  { code := 0x0F02, cls := clsAll, named := [0xFFFF_FFFF], prot := noProt, access := noAccess, check := checkDiagReg,
    read := noRead, waits := noWaits, bind := noBind,
    act := fun s p _ => let r := s.readBar (p.dw 2); r.1.complete p.seq St.ok r.2 0 }

/-- DIAG.REGWRITE: the masked bits, attributed to the submitting session (12 R393, 13 R455). -/
def opDiagRegwrite : OpDef :=
  { code := 0x0F03, cls := clsSO, named := [0xFFFF_FFFF, 0xFFFF_FFFF, 0xFFFF_FFFF], prot := noProt, access := noAccess,
    check := checkDiagReg, read := noRead, waits := noWaits, bind := noBind,
    act := fun s p _ => (s.writeBar (p.dw 2) (p.dw 3) (p.dw 4) (decide (p.session = 0))).done p.seq St.ok }

/-- The 32 bytes of a log record (14 R461). -/
def LogRec.bytes (r : LogRec) : List Byte :=
  leBytes 8 r.time ++ leBytes 6 r.line ++ leBytes 1 r.src ++ leBytes 1 r.tile ++
    ((Config.eventData r.src r.data ++ zeros 16).take 16)

/-- DIAG.EVLOG: the logs of the selected tiles (14 R461). -/
def opDiagEvlog : OpDef :=
  { code := 0x0F04, cls := clsAll, named := rptNamed 0xFF, prot := noProt, access := noAccess, check := noCheck,
    read := noRead, waits := noWaits, bind := noBind,
    act := fun s p _ =>
      s.report p ((s.tileList.filter (bit (p.selector 8))).flatMap (fun t => (s.tileN t).evr.log.flatMap LogRec.bytes)) }

/-! ## Meanings -/

/-- R454: DIAG.ECHO. -/
def execDiagEcho (p : Packet) (s : State) : Out := .next (opDiagEcho.dispatch s p)
/-- R455: DIAG.REGREAD. -/
def execDiagRegread (p : Packet) (s : State) : Out := .next (opDiagRegread.dispatch s p)
/-- R455: DIAG.REGWRITE. -/
def execDiagRegwrite (p : Packet) (s : State) : Out := .next (opDiagRegwrite.dispatch s p)
/-- R461: DIAG.EVLOG. -/
def execDiagEvlog (p : Packet) (s : State) : Out := .next (opDiagEvlog.dispatch s p)
/-- R11: REGISTER_WRITE. -/
def execRegisterWrite (off : Nat) (v : U32) (s : State) : Out := .next (s.barWrite off v.toNat)
/-- R99: LO_REGISTER_READ_LATCH. -/
def execLoRegisterReadLatch (off : Nat) (s : State) : Out := .next (s.barRead off)

end Sys2Proof.Machine
end

