-- ==== Sys2Proof/Machine/Fetch.lean ====
section
/-! DEFINITION. The command engine's own steps: fetching entries, dispatching packets, and the packets that wait for
host data or for memory writes (12 R396 to R408; 03 R105 to R107). -/

namespace Sys2Proof.Machine

/-! ## The opcodes (13) -/

/-- SESSION and MEM. -/
def opsMem : List OpDef :=
  [opSessionOpen, opSessionClose, opSessionProt, opSessionQueue, opSessionQdelete, opSessionInfo, opMemWrite, opMemRead,
   opMemFence, opMemCompress, opMemVerify, opMemInfo]
/-- JOB, LAYER and MARK. -/
def opsJob : List OpDef :=
  [opJobArm, opJobChange, opJobDisarm, opJobStatus, opJobCheck, opLayerSet, opLayerFlip, opLayerSignal, opLayerStatus,
   opMarkClock, opMarkRules, opMarkShifts, opMarkGlyphs, opMarkField, opMarkCounter, opMarkLot, opMarkStatus, opMarkNames]
/-- RAY, DROP and COLOUR. -/
def opsPrint : List OpDef :=
  [opRayBind, opRayLens, opRayAcquire, opRayViewmap, opRayStatus, opRayPanel, opDropScreen, opDropSlots, opDropNozzles,
   opDropZonelut, opDropStatus, opColourSetup, opColourSens, opColourClose, opColourOpen, opColourCal, opColourReset,
   opColourStatus, opColourLog]
/-- MOTION, LINK, TWIN and DISP. -/
def opsLink : List OpDef :=
  [opMotionRephase, opMotionCompare, opMotionStatus, opMotionStopreq, opLinkNodes, opLinkList, opLinkCtrl, opLinkLeave,
   opLinkTime, opLinkScan, opLinkRemap, opLinkLane, opLinkTest, opTwinAssay, opTwinWithdraw, opTwinRejoin, opTwinRestart,
   opTwinLead, opTwinStatus, opTwinPreserve, opDispMode, opDispPower, opDispFlip, opDispStatus]
/-- PARM, SVC and DIAG. -/
def opsSvc : List OpDef :=
  [opParmGet, opParmSet, opParmList, opSvcPower, opSvcImage, opSvcUpdate, opSvcTally, opSvcTrim, opSvcThermal, opDiagEcho,
   opDiagRegread, opDiagRegwrite, opDiagEvlog]
/-- Every opcode defined. -/
def opTable : List OpDef := opsMem ++ opsJob ++ opsPrint ++ opsLink ++ opsSvc

/-- The definition of an opcode. -/
def opOf (code : Nat) : Option OpDef := opTable.find? (fun d => d.code == code)

/-! ## Fetch (12 R395, R396, R399, R403 to R405) -/

/-- The command engine fetches: EN, READY, and the port can read host memory (12 R404, R429). -/
def State.fetchOn (s : State) : Bool := s.portReady && s.qen.en && s.qen.ready

/-- A session's place in the store for one more packet: the whole store, the 64 entries kept for session 0, and its own
STORE_MAX (12 R404). -/
def State.storeRoom (s : State) (n : Nat) : Bool :=
  let all := s.qen.store.length
  let own := (s.qen.store.filter (fun e => e.session == n)).length
  let others := (s.qen.store.filter (fun e => e.session != 0)).length
  decide (all < 4096) && (n == 0 || (decide (others < 4032) && decide (own < ((s.session n).map (·.storeMax)).getD 0)))

/-- A queue that is neither stopped nor leaving, of a session that is not closing. -/
def State.queueLive (s : State) (x : QueuePair) : Bool :=
  !x.stopped && x.deleting.isNone && ((s.session x.session).map (fun y => y.closing.isNone)).getD false

/-- The next visible entry of a queue may be fetched: no other queue of its session holds an entry made visible by an
earlier doorbell (12 R396). -/
def State.fetchable (s : State) (q : Nat) : Bool :=
  match s.pair q with
  | none => false
  | some x =>
    match x.vis with
    | [] => false
    | b :: _ =>
      s.queueLive x && s.storeRoom x.session &&
        (List.range 256).all (fun r =>
          match s.pair r with
          | none => true
          | some y => y.session != x.session || !s.queueLive y || decide (b ≤ y.vis.headD b))

/-- The queue of the next fetch: the present one for up to 8 entries a turn, then the next in number (12 R405). -/
def State.fetchTurn (s : State) : Option (Nat × Nat) :=
  let q := s.qen.turn.1
  let k := s.qen.turn.2
  if k < 8 && s.fetchable q then some (q, k + 1)
  else ((List.range 256).map (fun i => (q + 1 + i) % 256)).find? s.fetchable |>.map (fun r => (r, 1))

/-- The checks of a packet at fetch, in the table's order (12 R403). -/
def State.fetchCheck (s : State) (p : Packet) (x : QueuePair) : Nat :=
  let cls := ((s.session x.session).map (·.cls)).getD 0
  if (opOf p.opcode).isNone then St.opcodeBad
  else if p.f 0 31 22 ≠ 0 || (p.global && !p.fencePre && !p.fencePost) || (p.urgent && !p.notify) then St.flagsBad
  else if p.f 1 31 24 ≠ 0 then St.rsvdSet
  else if p.session ≠ x.session then St.sessionBad
  else if p.global && decide (2 ≤ cls) then St.protFlag
  else 0

/-- A packet that failed its checks keeps no ordering flag (12 R403). -/
def unordered (p : Packet) : Packet := { p with w := p.w.set 0 (p.w[0] &&& 0xFFF0FFFF) }

/-- A fetched packet as it enters the store. -/
def StoreEntry.fetched (p : Packet) (session : Nat) : StoreEntry :=
  { p := p, session := session, st := .queued, wait := .none, disp := 0, status := 0, r0 := 0, r1 := 0, decided := 0, counted := false,
    rights := none }

/-- The queue of a fetched entry moves on. -/
def QueuePair.advance (x : QueuePair) : QueuePair :=
  { x with sqHead := if x.sqHead + 1 = x.sqSize then 0 else x.sqHead + 1, vis := x.vis.drop 1 }

/-- An entry fetched from a queue: it is QUEUED, or a failed check completes it at once (12 R403, R404). -/
def State.takeEntry (s : State) (q : Nat) (x : QueuePair) (w : Words16) : State :=
  let p : Packet := { q := q, seq := s.qen.nextSeq, w := w }
  let st := s.fetchCheck p x
  let s1 := s.setPair q (some x.advance)
  let s2 : State := { s1 with qen := { s1.qen with nextSeq := s.qen.nextSeq + 1 } }
  let p1 := if st = 0 then p else unordered p
  let s3 := s2.setStore (s2.qen.store ++ [StoreEntry.fetched p1 x.session])
  if st = 0 then s3 else s3.done p.seq st

/-- PACKET_FETCH: the entry at the head of the queue whose turn it is, or a failed read of it (12 R399, R405). -/
def State.fetch (s : State) (entry : Option Words16) : State :=
  if !s.fetchOn then s
  else
    match s.fetchTurn with
    | none => s
    | some (q, k) =>
      match s.pair q with
      | none => s
      | some x =>
        let s1 : State := { s with qen := { s.qen with turn := (q, k) } }
        match entry with
        | some w => s1.takeEntry q x w
        | none => (s1.setPair q (some { x with fault := true, stopped := true })).raiseLead Ev.queueFault [q, 2]

/-! ## Dispatch (12 R404 to R408) -/

/-- A packet has completed: its completion is decided. -/
def StoreEntry.completed (e : StoreEntry) : Bool := e.st == PktSt.done

/-- A session's place among the RUNNING packets (12 R404). -/
def State.runRoom (s : State) (n : Nat) : Bool :=
  let run := s.qen.store.filter (fun e => decide (e.st = .running))
  decide (run.length < 192) &&
    (n == 0 || (decide ((run.filter (fun e => e.session != 0)).length < 184)
      && decide ((run.filter (fun e => e.session == n)).length < ((s.session n).map (·.runMax)).getD 0)))

/-- An earlier packet holds a later one in QUEUED (12 R407, R408). -/
def holds (f e : StoreEntry) : Bool :=
  decide (f.p.seq < e.p.seq) &&
    ((!f.completed &&
        ((e.p.fencePre && (e.p.global || f.session == e.session)) || (f.p.fencePost && (f.p.global || f.session == e.session))))
      || (e.p.ordered && f.p.q == e.p.q && decide (f.st = .queued)))

/-- A QUEUED packet may be dispatched. -/
def State.eligible (s : State) (e : StoreEntry) : Bool :=
  decide (e.st = .queued) && s.runRoom e.session && s.qen.store.all (fun f => !holds f e)

/-- The first number after the last one chosen, wrapping, that satisfies a test (12 R405). -/
def nextRound (last : Nat) (p : Nat → Bool) : Option Nat := ((List.range 256).map (fun i => (last + 1 + i) % 256)).find? p

/-- The next packet of a class: its sessions in turn, their queues in turn, each queue in fetch order (12 R405). -/
def State.nextOf (s : State) (cls : Nat) : Option StoreEntry :=
  let es := s.qen.store.filter (fun e => ((s.session e.session).map (·.cls)).getD 0 == cls && s.eligible e)
  match nextRound (vget s.qen.dispSess cls 255) (fun n => es.any (fun e => e.session == n)) with
  | none => none
  | some n =>
    match nextRound (NMap.get 255 s.qen.dispQueue n) (fun q => es.any (fun e => e.session == n && e.p.q == q)) with
    | none => none
    | some q => es.find? (fun e => e.session == n && e.p.q == q)

/-- The next packet: SUPERVISOR, OPERATOR, JOB, OBSERVER (12 R405). -/
def State.nextDispatch (s : State) : Option StoreEntry := (List.range 4).findSome? s.nextOf

/-- PACKET_DISPATCH: the next eligible packet is dispatched (12 R405). -/
def State.dispatchNext (s : State) : State :=
  if !s.engineOn then s
  else
    match s.nextDispatch with
    | none => s
    | some e =>
      let cls := ((s.session e.session).map (·.cls)).getD 0
      let s1 : State := { s with qen := { s.qen with
        dispSess := vset s.qen.dispSess cls e.session, dispQueue := NMap.set 255 s.qen.dispQueue e.session e.p.q } }
      match opOf e.p.opcode with
      | none => s1
      | some d => d.dispatch s1 e.p

/-! ## Waits (03 R105, R107; 12 R399) -/

/-- MEMORY_WAIT_RELEASE: the earlier writes a packet waits for have landed, and it goes on (03 R107). -/
def State.waitRelease (s : State) (seq : Nat) : State :=
  match s.entry seq with
  | none => s
  | some e =>
    match e.st, e.wait, opOf e.p.opcode with
    | .running, .landed spans upTo data, some d =>
      if s.landed e.p spans upTo then d.act (s.run seq .work) e.p data else s
    | _, _, _ => s

/-- HOST_DMA_READ_DONE: a packet's host buffer arrives, whole, or its read fails (03 R105, 12 R399). -/
def State.dmaDone (s : State) (seq : Nat) (data : Option (List Byte)) : State :=
  match s.entry seq with
  | none => s
  | some e =>
    match e.st, e.wait, opOf e.p.opcode with
    | .running, .dma _ n, some d =>
      if (data.map (fun bs => decide (bs.length = n))).getD true then d.hostData (s.run seq .work) e.p data else s
    | _, _, _ => s

/-! ## Meanings -/

/-- R396: PACKET_FETCH. -/
def execPacketFetch (entry : Option Words16) (s : State) : Out := .next (s.fetch entry)
/-- R405: PACKET_DISPATCH. -/
def execPacketDispatch (s : State) : Out := .next s.dispatchNext
/-- R107: MEMORY_WAIT_RELEASE. -/
def execMemoryWaitRelease (seq : Nat) (s : State) : Out := .next (s.waitRelease seq)
/-- R105: HOST_DMA_READ_DONE. -/
def execHostDmaReadDone (seq : Nat) (data : Option (List Byte)) (s : State) : Out := .next (s.dmaDone seq data)

end Sys2Proof.Machine
end

