-- ==== Sys2Proof/Machine/Inputs.lean ====
section
/-! DEFINITION. Raw transitions at the filtered inputs (02 R68, R93; 14 R470; 17 R517). -/

namespace Sys2Proof.Machine

/-- The filtered edge that is due at an input when its raw level moves again has its effect first: the level stayed for its F
ticks (02 R68). -/
def State.settlePin (s : State) : Pin → State
  | .wire i _ _ => s.onBoth (fun s => ((s.encEdge i.num).encEdge i.num).encIndex i.num)
  | .pd n => s.pdEdge n.val
  | .carr g _ => s.carrChange g.val
  | .evi t n =>
    if (vget s.motion.evi (4 * t.val + n.val) PinSt.reset).due (vget (s.tile t).evr.filt n.val 0) s.now then s.eviEdge t n.val else s
  | .te n => s.teEdge n.val

/-- R68: a raw input level changes. -/
def execInputRawTransition (p : Pin) (level : Bool) (s : State) : Out := .next ((s.settlePin p).rawTransition p level)

end Sys2Proof.Machine
end

