-- ==== Sys2Proof/Machine/Pixel.lean ====
section
/-! DEFINITION. The pixels of the proof display: the live proof of a product and a raster surface, subpixel by subpixel, and with
them the proof flip's command and the underrun of a line (06 R205, R219; 17 R521 to R525, R527, R532). -/

namespace Sys2Proof.Machine

/-! ## Where the data of a proof layer comes from (17 R524) -/

/-- The span that supplies layer l of what a port shows. -/
def ProofView.span (v : ProofView) (l : Nat) : Nat := bits (PMap.item v.items Pid.dspSrc).toNat (2 * l + 1) (2 * l)

/-- A raw byte of a line of a proof surface: on span 0 of the tile's own copy, decoded; on another span of the staging area,
which holds lines as they are sent, decoded (17 R524). A byte that is not there is not ready, and its line underruns (R532). -/
def State.proofByte (s : State) (p l : Nat) (d : Desc) (line off : Nat) : Nat :=
  let q := s.dport p
  let strip := d.stripOf line
  let data : List Byte :=
    if q.shown.span l = 0 then (((s.tileN p).verify d strip).2).drop ((line - strip * (d.sheight + 1)) * d.depth * d.width)
    else ((q.staging.find? (fun e => e.1 == l && e.2.1 == line)).map (·.2.2)).getD []
  ((data[off]?).map (fun (b : Byte) => b.toNat)).getD 0

/-- The descriptor of a surface on the span that supplies layer l of what a port shows: span 0 is the port's own tile. -/
def State.proofDesc (s : State) (p l a : Nat) : Option Desc :=
  let k := (s.dport p).shown.span l
  if a = 0 then none else (s.tileN (if k = 0 then p else s.spanTile k)).desc a

/-! ## The layers of a subpixel (17 R521) -/

/-- A raster layer's ink value and coverage for a channel field at a pixel, on the proof path (04 R142 to R145). -/
def State.proofRaster (s : State) (p : Nat) (v : ProofView) (j l field x y : Nat) : Nat × Nat :=
  let m := v.items
  let i := lyrIx true j l
  match s.proofDesc p l (m.lyrN i 1) with
  | none => (0, 0)
  | some d =>
    let place := m.lyrPlace i d ((x : Int) - m.lyr i 2) ((y : Int) - m.lyr i 3)
    let get := m.lyrSample i d ((s.tileN p).kernel (m.lyrN i 16)) place (fun plane x y => s.proofByte p l d y (plane * d.width + x))
    if place = .outside then (0, 0) else (get (field - 1), if m.lyrN i 5 = 0 then 255 else get (m.lyrN i 5 - 1))

/-- LIGHT's ink value and coverage at a subpixel: the brick and the two views of R219, the value of every scene channel by R205.
The coverage is 0 outside the scene and, as R205 has it of a dot, outside the binding's window (DEDUCED, log 130). -/
def State.proofLight (s : State) (p : Nat) (v : ProofView) (r : Product) (ch x y k : Nat) : Nat × Nat :=
  let m := r.items
  let j := r.lane
  let inside := decide (m.ray j 7 ≤ x ∧ x < m.ray j 7 + m.ray j 9 ∧ m.ray j 8 ≤ y ∧ y < m.ray j 8 + m.ray j 10)
  match s.proofDesc p 1 (m.ray j 1) with
  | none => (0, 0)
  | some d =>
    let (e, bi, bj) := panelHit v.items v.vtab x y k
    if !inside || decide (d.width ≤ bi ∨ d.height ≤ bj) then (0, 0)
    else
      let get := fun (c : Nat) => twoView e (fun view => s.proofByte p 1 d bj (bi * d.depth + view * m.ray j 4 + c))
      (get (m.schField j ch - 1), if m.ray j 6 = 0 then 255 else get (m.ray j 6 - 1))

/-- The ink value and coverage of a layer at a subpixel for a channel, none where the layer does not cover the channel. -/
def State.proofLayer (s : State) (p : Nat) (v : ProofView) (r : Product) (ch x y k l : Nat) : Option (Nat × Nat) :=
  let field := chField (v.items.lyrN (lyrIx true r.lane l) 4) ch
  let gs := vget (s.tileN p).die.glyphs (s.jobBank r.job) []
  if field = 0 then none
  else match (if l = 2 then markDot r r.items gs ch x y else none) with
    | some ink => some (ink, 255)
    | none => some (if l = 1 then s.proofLight p v r ch x y k else s.proofRaster p v r.lane l field x y)

/-- The composite of a channel at a subpixel of the live proof: the sampled product's, 0 in a channel that the job does not have
(17 R521, R522; 04 R150, R151), and 0 while no product has been sampled (DESIGN CHOICE, log 130). -/
def State.proofComposite (s : State) (p x y k ch : Nat) : Nat :=
  let v := (s.dport p).shown
  match v.prod with
  | none => 0
  | some r =>
    if !bit s.activeCh ch then 0
    else [0, 1, 2, 3].foldl (fun d l =>
      match s.proofLayer p v r ch x y k l with
      | some (ink, a) => blend (opacity a (v.items.lyrN (lyrIx true r.lane l) 6)) ink d
      | none => d) 0

/-! ## Pixels (17 R521, R522, R525) -/

/-- The 10-bit code of a subpixel that a port shows: the live proof's, or that of a raster surface of span 0, with the background
outside it. -/
def State.pixelOut (s : State) (p : Nat) (m : Timing) (x y k : Nat) : Nat :=
  let v := (s.dport p).shown
  if v.source = 0 then dspCode v.conv (s.proofComposite p x y k) k
  else
    match (s.tileN p).desc v.surface with
    | some d =>
      if x < d.width ∧ y < d.height then
        let strip := d.stripOf y
        rasterCode ((((((s.tileN p).verify d strip).2)[((y - strip * (d.sheight + 1)) * d.depth + k) * d.width + x]?).map
          (fun (b : Byte) => b.toNat)).getD 0)
      else bgCode m.bg k
    | none => bgCode m.bg k

/-- The three codes of a pixel as they are sent (17 R522). -/
def State.pixelSent (s : State) (p : Nat) (m : Timing) (x y : Nat) : List Nat :=
  [0, 1, 2].map (fun k => sendCode m.bpc (s.pixelOut p m x y k))

/-! ## Underruns (17 R532) -/

/-- The last pixel sent before a line begins: that of the line above, or of the frame before (DESIGN CHOICE, log 130). -/
def State.lastSent (s : State) (p : Nat) (m : Timing) (line : Nat) : List Nat :=
  let d := s.dport p
  if line = 0 then d.last
  else if d.st ≠ 4 then [0, 0, 0]
  else if d.underSeen = some (line - 1) then d.fill
  else s.pixelSent p m (m.hactive - 1) (line - 1)

/-- The three codes that fill a line from a pixel on. -/
def State.fillFrom (s : State) (p : Nat) (m : Timing) (line pixel : Nat) : List Nat :=
  let before := if pixel = 0 then s.lastSent p m line else s.pixelSent p m (pixel - 1) line
  [0, 1, 2].map (fun k =>
    let c := fillCode s.part m.bg (before.getD k 0) k
    if s.part = .ga408 then c else sendCode m.bpc c)

/-- DSP_UNDERRUN: the rest of a line is filled (17 R532). In watermark mode the port has run dry, so PROOF holds PANIC until
the next frame (17 R531; log 43). -/
def State.underrun (s : State) (p line pixel : Nat) : State :=
  let d := s.dport p
  match d.timing with
  | none => s
  | some m =>
    let due := decide (d.st = 4 ∧ d.phase = 0 ∧ line < m.vactive ∧ pixel < m.hactive ∧ line = d.lineAt s.now) && decide (d.underSeen ≠ some line)
    let wm := (vget (s.tileN p).memc.tolDecl 2 none).isNone
    let s1 := s.updDport p (fun d =>
      { d with under := satInc 32 d.under, fillpix := satAdd 32 d.fillpix (m.hactive - pixel), underSeen := some line, panic := d.panic || wm, fill := s.fillFrom p m line pixel })
    let s2 := if wm then s1.updMemc (tileIx p) (fun c => c.setPanic s.now 2 true) else s1
    whenDue due s (if d.underSeen.isNone then s2.raiseN p Ev.dspUnderrun [p, d.frame, line, pixel] else s2)

/-! ## The proof flip (17 R527) -/

/-- PROOF_FLIP: at the first line of vertical blanking DSP_BLANK_START is raised and what is pending is latched, except in
black frames and while the link retrains (17 R527, R529, R533). -/
def State.proofFlip (s : State) (p : Nat) : State :=
  let d := s.dport p
  match d.timing with
  | none => s
  | some m =>
    whenDue (d.sends && d.phase == 0 && decide (m.vactive ≤ d.lineAt s.now)) s
      (let s1 := (s.updDport p (fun d => { d with phase := 1, last := s.lastSent p m m.vactive })).raiseN p Ev.dspBlankStart [p, d.frame]
       match d.change with
       | some (_, st) => if st = 2 ∨ st = 3 then s1 else (s1.latch p).pruneLive
       | none => (s1.latch p).pruneLive)

/-! ## Meanings -/

/-- R527: PROOF_FLIP. -/
def execProofFlip (port : Fin 2) (s : State) : Out := .next (s.proofFlip port.val)
/-- R532: DSP_UNDERRUN. -/
def execDspUnderrun (port : Fin 2) (line pixel : Nat) (s : State) : Out := .next (s.underrun port.val line pixel)

end Sys2Proof.Machine
end

