-- ==== Sys2Proof/Machine/Stage.lean ====
section
/-! DEFINITION. Stage 11: overspeed, spits, classes, slots, the governor and the firing records of a row's firing line, and
how a tile's records follow its partner's (07 R240 to R253; 09 R292, R299 to R301; 11 R354 to R357). -/

namespace Sys2Proof.Machine

/-! ## One row's firing line (07 R240 to R253) -/

/-- A nozzle on a firing line: its key, slot, the level that entered the governor's result, and its new record. -/
structure NozRun where
  g : Nat
  slot : Nat
  next : NozRec
  deriving DecidableEq, Repr

/-- A zone part on a firing line: its key, governed energy, and the nozzles lowered and dropped. -/
structure PartRun where
  z : Nat
  e : Nat
  lowered : List Nat
  dropped : List Nat
  rest : Bool
  deriving DecidableEq, Repr

/-- A row's firing line: what it did (07 R252), its nozzles and its parts. -/
structure RowRun where
  act : Nat
  levels : List Nat
  noz : List NozRun
  parts : List PartRun
  deriving DecidableEq, Repr

/-- The row-line of a row that holds a web line on a tile; one that nothing has written is level 0 (09 R286). -/
def State.rowLine (s : State) (t c r web : Nat) : RowLine :=
  let rl := NMap.get RowLine.clear (s.tileN t).delay (s.delayAt c r web)
  if rl.web = web then rl else { RowLine.clear with web := web }

/-- The levels of a row-line, with a bad nozzle's as 0 (09 R292). -/
def RowLine.known (rl : RowLine) (n : Nat) : List Nat :=
  (List.range n).map (fun i => if rl.bad.contains i then 0 else rl.level i)

/-- A zone part under the governor, or at rest (07 R245 to R250). -/
def runPart (tbl : SlotTbl) (limit w step line first : Nat) (part : GovPart) (z : Nat) (dots : List (Nat × Nat)) : PartRun × List Nat :=
  if step = 5 then ({ z := z, e := 0, lowered := [], dropped := [], rest := true }, dots.map (fun _ => 0))
  else
    let r := govern tbl (part.past line w) (govLim limit dots.length step) dots
    ({ z := z, e := r.e, lowered := r.lowered.map (first + ·), dropped := r.dropped.map (first + ·), rest := false }, r.dots.map (fun d => tbl.slot d.1 d.2))

/-- The slot table of a channel on a line, as a tile holds it (07 R244). -/
def State.slotTbl (s : State) (t line c : Nat) : SlotTbl :=
  ({ s with job := { s.job with base := { s.job.base with slots := (s.tileN t).die.slots } } }.printAt line).slotTbl c

/-- Stage 11 of a row's firing line from given firing and governor records, under the geometry of the line (07 R240). -/
def State.rowRun (s : State) (t c r line web : Nat) (recs : NMap NozRec) (gov : NMap GovPart) : RowRun :=
  let ps := s.printAt line
  let g := fun (k : Nat) => (PMap.item ps.items (parmId 7 c k)).toNat
  let tbl := s.slotTbl t line c
  let rng := s.nozRange (t / 2) c r
  let cnt := rng.2 - rng.1
  let rl := s.rowLine t c r web
  let lv := rl.known cnt
  let o := line / s.rowK c
  let st := (((s.issuedAt line).map (·.overs)).getD []).lookup (4 * c + r) |>.getD 0
  let op := (s.tileN t).opening.find? (fun e => e.1 == rowKey c r && decide (e.2.1 + s.rowK c = line))
  let act := pairAct (decide (o % 2 = 0)) st ((op.map (·.2.2.1)).getD true)
  let eff := fun (i : Nat) =>
    if act = 0 then lv.getD i 0
    else if act = 2 then coalesce ((((op.map (·.2.2.2)).getD [])).getD i 0) (lv.getD i 0)
    else 0
  let absent := fun (i : Nat) => let x := s.nozzlePos c r (rng.1 + i); ps.absent.contains (17 * s.nodeAt c x + s.laneAt x)
  let spits := decide (g 5 ≠ 0 ∧ act ≠ 1 ∧ act ≠ 3) && !ps.aborted && !bit ps.blankCh c
  let rec_ := fun (i : Nat) => NMap.get NozRec.clear recs (nozKey c r (rng.1 + i))
  let dot := fun (i : Nat) =>
    let l := if absent i then 0 else if eff i = 0 ∧ spits ∧ g 5 ≤ (rec_ i).idle then 7 else eff i
    (l, (rec_ i).cls)
  let zs := s.zoneParts t c r
  let run := fun (z : Nat) =>
    let lo := max rng.1 (256 * z)
    let hi := min rng.2 (256 * (z + 1))
    runPart tbl (g 7) (g 6) (NMap.get 0 ps.ht (zoneKey c r z)) line lo (NMap.get GovPart.clear gov (zoneKey c r z)) z
      ((List.range' (lo - rng.1) (hi - lo)).map dot)
  let rs := zs.map run
  let slots := (rs.map (·.2)).flatten
  { act := act, levels := lv, parts := rs.map (·.1),
    noz := (List.range cnt).map (fun i => let sl := slots.getD i 0; { g := rng.1 + i, slot := sl, next := (rec_ i).next (decide (sl ≠ 0)) }) }

/-! ## Records of segments and rows (09 R293; 11 R354) -/

/-- The row key of a nozzle's key. -/
def nozRow (key : Nat) : Nat := key / 2 ^ 24
/-- The row key of a zone part's key. -/
def partRow (key : Nat) : Nat := key / 2 ^ 16

/-- Which nozzles and parts a record concerns: a whole row, or one segment of it from its first nozzle on. -/
structure Scope where
  row : Nat
  lo : Nat
  hi : Nat
  deriving DecidableEq, Repr

/-- A nozzle's key lies in a scope. -/
def Scope.noz (c : Scope) (key : Nat) : Bool := nozRow key == c.row && decide (c.lo ≤ key % 2 ^ 24 ∧ key % 2 ^ 24 < c.hi)
/-- A part's key lies in a scope: its zone lies in the segment (09 R293). -/
def Scope.part (c : Scope) (key : Nat) : Bool :=
  partRow key == c.row && decide (c.lo < 256 * (key % 2 ^ 16 + 1) ∧ 256 * (key % 2 ^ 16) < c.hi)

/-- The scope of a segment of a span. -/
def State.segScope (s : State) (k seg : Nat) : Scope :=
  match s.segOf k seg with
  | some (_, lo, n) => { row := rowKey (segCh seg) (segRow seg), lo := lo, hi := lo + n }
  | none => { row := rowKey (segCh seg) (segRow seg), lo := 0, hi := 0 }

/-- The scope of a row of a span. -/
def State.rowScope (s : State) (k c r : Nat) : Scope :=
  let g := s.nozRange k c r
  { row := rowKey c r, lo := g.1, hi := g.2 }

/-- A part's record with a line's energy; 1,024 lines are kept (07 R246). -/
def GovPart.add (p : GovPart) (line e : Nat) : GovPart :=
  let old := p.e.filter (fun x => decide (x.1 ≠ line ∧ line < x.1 + 1024))
  { p with e := if e = 0 then old else (line, e) :: old }

/-- Firing and governor records. -/
abbrev Recs := NMap NozRec × NMap GovPart

/-- The records after a line's record is applied to a scope (07 R241, R246; 11 R354). -/
def LineRec.apply (lr : LineRec) (c : Scope) (m : Recs) : Recs :=
  ((lr.opp.filter c.noz).foldl (fun m k => NMap.upd NozRec.clear m k (fun x => x.next (lr.fired.any (fun f => f.1 == k)))) m.1,
   (lr.wsum.filter (fun w => c.part w.1)).foldl (fun m w => NMap.upd GovPart.clear m w.1 (fun x => x.add lr.line w.2)) m.2)

/-- A line's record on which nothing fired (11 R348). -/
def LineRec.quiet (line : Nat) (opp : List Nat) : LineRec :=
  { line := line, cseq := 0, flags := 0, sig := 0, zver := 0, undel := [], fired := [], opp := opp, wsum := [], lmodel := none, cnt := [] }

/-- The records of a scope as they stood before a line: firing records as noted, energies of earlier lines (11 R355). -/
def FiredLine.before (f : FiredLine) (c : Scope) (m : Recs) : Recs :=
  let keys := ((m.1.map (·.1)) ++ f.recs.map (·.1)).filter c.noz
  (keys.foldl (fun m k => NMap.set NozRec.clear m k (NMap.get NozRec.clear f.recs k)) m.1,
   ((m.2.map (·.1)).filter c.part).foldl (fun m k => NMap.upd GovPart.clear m k (fun x => { x with e := x.e.filter (fun e => decide (e.1 < f.line)) })) m.2)

/-- The slot of highest energy of a channel (11 R356). -/
def SlotTbl.hottest (t : SlotTbl) : Nat :=
  (List.range 16).foldl (fun b i => if t.energy.getD b 0 < t.energy.getD i 0 then i else b) 0

/-- A tile's own record with every nozzle of unknown level counted as fired in the channel's slot of highest energy
(11 R356). -/
def LineRec.guess (lr : LineRec) (unknown : List Nat) (hot : Nat → Nat) : LineRec :=
  let more := unknown.filter (fun k => !lr.fired.any (fun f => f.1 == k))
  let add := fun (w : Nat × Nat) =>
    (w.1, w.2 + ((more.filter (fun k => partRow w.1 == nozRow k && k % 2 ^ 24 / 256 == w.1 % 2 ^ 16)).map (fun k => hot (nozRow k / 4))).foldl (· + ·) 0)
  { lr with fired := lr.fired ++ more.map (fun k => (k, 0)), wsum := lr.wsum.map add }

/-! ## The line signature (11 R357) -/

/-- Bits as bytes, least significant bit first (log 62). -/
def bitBytes : Nat → List Bool → List Byte
  | 0, _ => []
  | _, [] => []
  | n + 1, bs => BitVec.ofNat 8 (((bs.take 8).zipIdx.map (fun e => if e.1 then 2 ^ e.2 else 0)).foldl (· + ·) 0) :: bitBytes n (bs.drop 8)

/-- The signature of a line: its segments in send order, and its FIRED and WSUM fields (11 R357). -/
def lineSig (segs : List (Nat × List Nat)) (lr : LineRec) : Nat :=
  let hi := crc32c (segs.flatMap (fun g => leBytes 2 g.1 ++ slotBytes g.2))
  let lo := crc32c (bitBytes lr.opp.length (lr.opp.map (fun k => lr.fired.any (fun f => f.1 == k))) ++ lr.wsum.flatMap (fun w => leBytes 4 w.2))
  2 ^ 32 * hi + lo

/-! ## The rows of a firing line on a tile -/

/-- Rows in the order of sending: ascending bar, channel, row (09 R295). -/
def State.sendRows (s : State) : List (Nat × Nat) := (List.range 12).flatMap s.barRows

/-- A row that a tile does not compute on a firing line: in RESYNC, or in FILL before S + D_r (11 R348, R367). -/
def State.uncomputed (s : State) (t c r line : Nat) : Bool :=
  let x := s.tileN t
  decide (x.twin = .resync) || (x.startLine.map (fun n => decide (line < n + s.rowDelay c r))).getD false

/-- Partner records of the lines before a row's first own line are still to come (11 R355). -/
def State.takePending (s : State) (t c r : Nat) : Bool :=
  let x := s.tileN t
  match x.startLine with
  | some n => s.motion.issued.any (fun l => decide (x.taken < l.n ∧ l.n < n + s.rowDelay c r))
  | none => false

/-- A row's records depend on a partner record of an earlier line (11 R355). -/
def State.rowWaits (s : State) (t c r line : Nat) : Bool :=
  (s.tileN t).deps.any (fun d => decide (d.1 < line ∧ segCh d.2 = c ∧ segRow d.2 = r)) || s.takePending t c r

/-- The lines of a tile after stage 11, oldest first. -/
def TileState.firedUp (x : TileState) : List FiredLine := x.fired.reverse
/-- A line of a tile after stage 11. -/
def TileState.firedAt (x : TileState) (line : Nat) : Option FiredLine := x.fired.find? (fun f => f.line == line)
/-- A tile's own record of a line. -/
def TileState.ownRec (x : TileState) (line : Nat) : Option LineRec := x.records.find? (fun r => r.line == line)
/-- A tile's record of a line is complete: stage 11 has run for every row (11 R354). -/
def TileState.recorded (x : TileState) (line : Nat) : Option LineRec :=
  if ((x.firedAt line).map (·.done)).getD true then x.ownRec line else none

/-- The partner's record of a line, where it has been received. -/
def TileState.partnerRec (x : TileState) (line : Nat) : Option LineRec := x.partner.find? (fun r => r.line == line)
/-- The package with a line of a tile after stage 11 changed. -/
def State.updFired (s : State) (t line : Nat) (f : FiredLine → FiredLine) : State :=
  s.updTileN t (fun x => { x with fired := mapIf x.fired (fun y => y.line == line) f })
/-- The package with a tile's own record of a line changed. -/
def State.updOwn (s : State) (t line : Nat) (f : LineRec → LineRec) : State :=
  s.updTileN t (fun x => { x with records := mapIf x.records (fun y => y.line == line) f })

/-- The records under which a held row runs: the last that stand, with the tile's own results of the lines since
(11 R356). -/
def State.heldView (s : State) (t c r line : Nat) : Recs :=
  let x := s.tileN t
  let sc := s.rowScope (t / 2) c r
  let from_ := ((x.deps.filter (fun d => decide (segCh d.2 = c ∧ segRow d.2 = r))).map (·.1)).foldl min line
  let base : Recs := match x.firedAt from_ with
    | some f => f.before sc (x.recs, x.gov)
    | none => (x.recs, x.gov)
  ((x.records.reverse).filter (fun lr => decide (from_ ≤ lr.line ∧ lr.line < line))).foldl (fun m lr => lr.apply sc m) base

/-! ## Products and patches that a firing line touches -/

/-- Products with a dot at one of some positions on a web line. -/
def State.rejectDots (s : State) (web : Nat) (xs : List Nat) : State :=
  s.rejectIf (fun p => s.covers p web && xs.any (fun x => decide (s.laneX0 p.lane ≤ x ∧ x < s.laneX0 p.lane + s.laneW p.lane)))

/-- The patches of a band on a web line at some positions take a flag (08 R266). -/
def State.flagPatches (s : State) (web cause : Nat) (xs : List Nat) : State :=
  match s.bandAt web with
  | none => s
  | some b => ((xs.filterMap s.patchZone).foldl addNew []).foldl (fun s z => s.bandFlag b.num (b.rowAt web) z cause) s

/-- The positions of nozzles of a row. -/
def State.nozPositions (s : State) (c r : Nat) (gs : List Nat) : List Nat := gs.map (s.nozzlePos c r)

/-- The nozzles of a part. -/
def partNoz (noz : List NozRun) (z : Nat) : List Nat := (noz.filter (fun n => n.g / 256 == z)).map (·.g)

/-! ## Effects of a row's firing line -/

/-- GOV_LOWERED and GOV_DROPPED: at the first in a part after 1,024 firing lines without one; the counters saturate
(07 R248). -/
def State.countPart (s : State) (t c r line : Nat) (p : PartRun) : State :=
  let key := zoneKey c r p.z
  let old := NMap.get GovPart.clear (s.tileN t).gov key
  let fresh := fun (l : Option Nat) => (l.map (fun a => decide (a + 1024 < line))).getD true
  let s1 := s.updTileN t (fun x => { x with gov := NMap.upd GovPart.clear x.gov key (fun g => { g with
    lower := satAdd 32 g.lower p.lowered.length, drop := satAdd 32 g.drop p.dropped.length
    lastLower := if p.lowered.isEmpty then g.lastLower else some line, lastDrop := if p.dropped.isEmpty then g.lastDrop else some line }) })
  let s2 := if !p.lowered.isEmpty && fresh old.lastLower then s1.raiseN t Ev.govLowered [c, r, p.z, line] else s1
  if !p.dropped.isEmpty && fresh old.lastDrop then s2.raiseN t Ev.govDropped [c, r, p.z, line] else s2

/-- What a row's firing line counts, raises, rejects and flags (07 R248, R250, R252, R253; 08 R266; 19 R584). -/
def State.rowEffects (s : State) (t c r line web : Nat) (run : RowRun) : State :=
  let g := s.asOf line
  let webs := if run.act = 2 then [web - g.rowK c, web] else [web]
  let all := g.nozPositions c r (run.noz.map (·.g))
  let rejs := decide (PMap.item (g.printAt line).items (parmId 7 c 8) = 1)
  let s1 := run.parts.foldl (fun s p =>
    let dropped := g.nozPositions c r p.dropped
    let gs := g.nozPositions c r (partNoz run.noz p.z)
    let s1 := s.countPart t c r line p
    let s2 := if rejs && !p.dropped.isEmpty then webs.foldl (fun s w => s.rejectDots w dropped) s1 else s1
    let s3 := if p.rest then (s2.rejectDots web gs).flagPatches web 4 gs else s2
    let hit := g.nozPositions c r (p.lowered ++ p.dropped)
    if hit.isEmpty then s3 else webs.foldl (fun s w => s.flagPatches w 2 hit) s3) s
  let s2 := if run.act = 0 then s1 else webs.foldl (fun s w => s.flagPatches w 3 all) s1
  let s3 := if run.act = 3 then s2.rejectDots web all else s2
  s3.updTileN t (fun x => { x with boot := { x.boot with
    fires := (run.noz.filter (fun n => decide (n.slot ≠ 0))).foldl (fun m n => NMap.upd 0 m (nozKey c r n.g) (satInc 40)) x.boot.fires } })

/-- The cause for which a segment goes out as VOID whatever its frame's time: 2 ECC, 3 STRIP, 4 STATE, 0 none (09 R299). -/
def segCause (rl : RowLine) (first lo n : Nat) (held : Bool) : Nat :=
  if rl.bad.any (fun i => decide (lo ≤ first + i ∧ first + i < lo + n)) then 2 else if rl.void then 3 else if held then 4 else 0

/-- Stage 11 of a row's firing line on a tile: its results stand, its records are updated but for the segments whose
records the partner's are to replace, and its effects happen (07 R240, R241; 09 R300; 11 R355, R356). -/
def State.runRow (s : State) (t c r line web : Nat) : State :=
  let g := s.asOf line
  let k := t / 2
  let x := s.tileN t
  let held := x.missing.isSome && g.rowWaits t c r line
  let view := if held then g.heldView t c r line else (x.recs, x.gov)
  let run := g.rowRun t c r line web view.1 view.2
  let rl := g.rowLine t c r web
  let segs := g.segsOf k c r
  let rng := g.nozRange k c r
  let partner := (s.tileN (partnerOf t)).carries
  let caused := (segs.filter (fun y => decide (segCause rl rng.1 y.2.1 y.2.2 held ≠ 0))).map (·.1)
  let gone := (((x.firedAt line).map (·.voided)).getD []).map (·.1)
  let later := if partner then (segs.map (·.1)).filter (fun y => caused.contains y || gone.contains y) else []
  let keys := run.noz.map (fun n => nozKey c r n.g)
  let unknown := if rl.void then keys else rl.bad.filterMap (fun i => keys[i]?)
  let addRec := fun (lr : LineRec) => { lr with
    undel := caused.foldl addNew lr.undel, flags := if caused.isEmpty then lr.flags else lr.flags ||| 1
    fired := lr.fired ++ (run.noz.filter (fun n => decide (n.slot ≠ 0))).map (fun n => (nozKey c r n.g, n.slot))
    opp := lr.opp ++ keys, wsum := lr.wsum ++ run.parts.map (fun p => (zoneKey c r p.z, p.e)) }
  let slots := fun (y : Nat × Nat × Nat) => (run.noz.filter (fun n => decide (y.2.1 ≤ n.g ∧ n.g < y.2.1 + y.2.2))).map (·.slot)
  let own := addRec (LineRec.quiet line [])
  let recs := (segs.filter (fun y => !later.contains y.1)).foldl (fun m y => own.apply (g.segScope k y.1) m) (x.recs, x.gov)
  let opened := if (line / g.rowK c) % 2 = 0 then [(rowKey c r, line, decide (run.act = 0), run.levels)] else []
  let s1 := s.updTileN t (fun x => { x with
    recs := if held then x.recs else recs.1, gov := if held then x.gov else recs.2
    deps := x.deps ++ later.map (fun y => (line, y)), opening := opened ++ x.opening.filter (fun e => e.1 != rowKey c r) })
  let s2 := s1.updFired t line (fun f => { f with
    segs := f.segs ++ segs.map (fun y => (y.1, slots y)), unknown := f.unknown ++ unknown
    held := if held then addNew f.held (rowKey c r) else f.held
    recs := keys.foldl (fun m q => NMap.set NozRec.clear m q (NMap.get NozRec.clear view.1 q)) f.recs })
  (s2.updOwn t line addRec).rowEffects t c r line web run

/-! ## Taking the partner's records (11 R355, R356, R367) -/

/-- The nozzles of a row on a span. -/
def State.rowKeys (s : State) (k c r : Nat) : List Nat :=
  let g := s.nozRange k c r
  (List.range' g.1 (g.2 - g.1)).map (nozKey c r)

/-- The rows that a tile does not compute take a line from the partner's record, or as one on which nothing fired. -/
def State.takeLine (s : State) (t line : Nat) (lr : Option LineRec) : State :=
  let g := s.asOf line
  let rows := g.sendRows.filter (fun y => g.uncomputed t y.1 y.2 line && (g.oppLine y.1 y.2 line).isSome)
  let x := s.tileN t
  let m := rows.foldl (fun (m : Recs) y =>
    let rec_ := lr.getD (LineRec.quiet line (g.rowKeys (t / 2) y.1 y.2))
    rec_.apply (g.rowScope (t / 2) y.1 y.2) m) (x.recs, x.gov)
  s.updTileN t (fun x => { x with recs := m.1, gov := m.2, taken := line })

/-- The next line that the rows not computed here still take. -/
def State.nextTake (s : State) (t : Nat) : Option Nat :=
  ((s.motion.issued.filter (fun l => decide ((s.tileN t).taken < l.n))).map (·.n)).foldl (fun m n => match m with
    | none => some n
    | some a => some (min a n)) none

/-- The partner's records are taken in line order as far as they have arrived; of a partner that carries no more and never
recorded a line, nothing fired on it (11 R348, R355). -/
def State.takeOn (s : State) (t : Nat) : Nat → State
  | 0 => s
  | n + 1 =>
    let q := s.tileN (partnerOf t)
    match s.nextTake t with
    | none => s
    | some line =>
      match (s.tileN t).partnerRec line with
      | some lr => (s.takeLine t line (some lr)).takeOn t n
      | none =>
        if !q.carries && (q.recorded line).isNone && decide (line < (s.tileN t).begun) then (s.takeLine t line none).takeOn t n else s

/-- Where a dependence is settled: by the partner's record, or by the tile's own results for a segment that both left
undelivered (09 R301; 11 R355); none while the partner's record is awaited. -/
def State.depSource (s : State) (t line seg : Nat) (guess : Bool) : Option LineRec :=
  let x := s.tileN t
  let own := x.ownRec line
  let hot := fun (c : Nat) => let tb := s.slotTbl t line c; tb.energy.getD tb.hottest 0
  if s.job.undelivered.contains (line, seg, t / 2) then own
  else match x.partnerRec line with
    | some lr => if lr.undel.contains seg then own else some lr
    | none => if guess && ((s.tileN (partnerOf t)).recorded line).isNone then own.map (fun lr => lr.guess (((x.firedAt line).map (·.unknown)).getD []) hot) else none

/-- A dependence is settled: the records of its segment go back to before the line, take the line from its source, and then
the tile's own results of later lines up to the next dependence of the segment (09 R300; 11 R355). -/
def State.settleDep (s : State) (t line seg : Nat) (lr : LineRec) : State :=
  let x := s.tileN t
  let sc := (s.asOf line).segScope (t / 2) seg
  let rest := x.deps.filter (fun d => d != (line, seg))
  let stop := ((rest.filter (fun d => d.2 == seg && decide (line < d.1))).map (·.1)).foldl min (2 ^ 48)
  let base : Recs := match x.firedAt line with
    | some f => f.before sc (x.recs, x.gov)
    | none => (x.recs, x.gov)
  let m := ((x.records.reverse).filter (fun o => decide (line < o.line ∧ o.line < stop))).foldl (fun m o => o.apply sc m) (lr.apply sc base)
  s.updTileN t (fun x => { x with recs := m.1, gov := m.2, deps := rest })

/-- Every dependence whose source is known is settled, in line order (11 R355); guess settles those of a line that the
partner never recorded (11 R356). -/
def State.settleDeps (s : State) (t : Nat) (guess : Bool) : State :=
  (s.tileN t).deps.foldl (fun s d =>
    let open_ := (s.tileN t).deps.any (fun e => e.2 == d.2 && decide (e.1 < d.1))
    if open_ || s.takePending t (segCh d.2) (segRow d.2) then s
    else match s.depSource t d.1 d.2 guess with
      | some lr => s.settleDep t d.1 d.2 lr
      | none => s) s

/-- A row of a line can run stage 11 now: it is computed here, has its opportunity, has not run, and waits for no partner
record unless it is held (11 R355, R356). -/
def State.rowReady (s : State) (t c r line : Nat) : Bool :=
  let g := s.asOf line
  let x := s.tileN t
  (g.oppLine c r line).isSome && !g.uncomputed t c r line
    && !(((x.firedAt line).map (fun f => f.segs.any (fun y => segCh y.1 == c && segRow y.1 == r))).getD true)
    && (!g.rowWaits t c r line || x.missing.isSome) && !(g.segsOf (t / 2) c r).isEmpty

/-- A row of a line is still to run. -/
def State.rowLeft (s : State) (t c r line : Nat) : Bool :=
  let g := s.asOf line
  (g.oppLine c r line).isSome && !g.uncomputed t c r line && !(g.segsOf (t / 2) c r).isEmpty
    && !((((s.tileN t).firedAt line).map (fun f => f.segs.any (fun y => segCh y.1 == c && segRow y.1 == r))).getD true)

/-- A line whose rows have all run is sealed: its record is complete, with its signature (11 R354, R357). -/
def State.sealLine (s : State) (t line : Nat) : State :=
  let g := s.asOf line
  let x := s.tileN t
  match x.firedAt line with
  | none => s
  | some f =>
    if f.done || g.sendRows.any (fun y => s.rowLeft t y.1 y.2 line) then s
    else
      let ps := s.printAt line
      let fill := if x.twin = .fill then 2 else 0
      let segs := g.sendRows.flatMap (fun y => f.segs.filter (fun e => segCh e.1 == y.1 && segRow e.1 == y.2))
      (s.updFired t line (fun f => { f with done := true })).updOwn t line (fun lr => { lr with
        cseq := ((s.commitsAt line (s.cmaxAt line)).map (·.cseq)).foldl max 0, flags := lr.flags ||| fill, zver := ps.zver,
        sig := lineSig segs lr, lmodel := ((s.issuedAt line).map (·.models)).bind (·[t / 2]?),
        cnt := if t / 2 = 0 then (s.marks.changed.filter (fun e => e.1 == line)).reverse.map (·.2) else [] })

/-- Lines all of whose frames went and on which nothing waits are forgotten, but for the last 8; records beyond 1,024 lines
too. -/
def TileState.pruneFired (x : TileState) : TileState :=
  { x with
    fired := (x.fired.zipIdx.filter (fun e => decide (e.2 < 8) || e.1.open || !e.1.done || x.deps.any (fun d => decide (d.1 ≤ e.1.line)))).map (·.1)
    records := x.records.take 1024, partner := x.partner.take 1024 }

/-- Stage 11 goes on as far as the partner's records allow: every row of every line that can run does, in line order
(11 R355). -/
def State.advance (s : State) (t : Nat) : State :=
  let s1 := (s.tileN t).firedUp.foldl (fun s f =>
    if f.done then s
    else
      let g := s.asOf f.line
      let s1 := g.sendRows.foldl (fun s y =>
        match (s.asOf f.line).oppLine y.1 y.2 f.line with
        | some web => if s.rowReady t y.1 y.2 f.line then s.runRow t y.1 y.2 f.line web else s
        | none => s) s
      s1.sealLine t f.line) s
  s1.updTileN t TileState.pruneFired

/-- The first line whose partner record counts as missing: awaited by this tile two lines after it (11 R355). -/
def State.firstMissing (s : State) (t : Nat) : Option Nat :=
  let x := s.tileN t
  let last := if x.twin = .resync then x.begun - 1 else ((x.fired.head?).map (·.line)).getD 0
  let waits := (x.deps.map (·.1)) ++ (match s.nextTake t with
    | some n => if (s.asOf n).sendRows.any (fun y => (s.asOf n).uncomputed t y.1 y.2 n) then [n] else []
    | none => [])
  match (waits.filter (fun n => decide (n + 2 ≤ last) && (x.partnerRec n).isNone)) with
  | [] => none
  | n :: ns => some (ns.foldl min n)

/-- What has arrived is taken, settled and run; the hold goes on only while a missing record is still awaited (11 R355,
R356). -/
def State.catchUp (s : State) (t : Nat) (guess : Bool) : State :=
  let s1 := (s.takeOn t s.motion.issued.length).settleDeps t guess
  let s2 := s1.updTileN t (fun x => { x with missing := if x.missing.isSome then s1.firstMissing t else none })
  s2.advance t

end Sys2Proof.Machine
end

