-- ==== Sys2Proof/Machine/Raster.lean ====
section
/-! DEFINITION. Firing lines on the tiles: stage 11, the frames of its segments, undelivered segments, the partner's records and
line signatures (07 R240; 09 R294 to R301; 11 R348 to R358), and the issue of a line (02 R80). -/

namespace Sys2Proof.Machine

/-! ## Undelivered segments (09 R301) -/

/-- The node that a segment of a span is addressed to (09 R293). -/
def State.segNode (s : State) (k seg : Nat) : Nat := ((s.barOf (segCh seg)).map (fun b => s.itemN (Pid.barNode b k))).getD 0
/-- The lane of a segment's frame on a firing line (09 R295, R297). -/
def State.segLane (s : State) (t line seg : Nat) : Nat := ((s.barOf (segCh seg)).map (fun b => s.barLaneOf t b line)).getD 0

/-- A segment of a line is undelivered by a tile: it went out as VOID or was lost, or the tile sends no frame for it
(09 R301). -/
def State.undelBy (s : State) (t line seg : Nat) : Bool :=
  let x := s.tileN t
  let silent := !x.carries || (s.asOf line).uncomputed t (segCh seg) (segRow seg) line
  match x.firedAt line, x.ownRec line with
  | some f, _ => !f.sent.any (fun y => y.1 == seg) && (f.voided.any (fun y => y.1 == seg) || silent)
  | none, some r => r.undel.contains seg
  | none, none => silent

/-- The signatures of a line that both tiles have recorded: compared where both were PAIRED and neither sent VOID; what a
tile could tell when it sealed the line is counted there (11 R358). -/
def State.compareSig (s : State) (t line : Nat) : State :=
  let x := s.tileN t
  let y := s.tileN (partnerOf t)
  let k := t / 2
  match x.ownRec line, x.partnerRec line with
  | some a, some b =>
    if a.flags % 4 ≠ 0 ∨ 2 ≤ b.flags % 4 then s
    else if b.flags % 2 = 1 then s.updTileN t (fun x => { x with sigSkip := satInc 16 x.sigSkip })
    else if a.sig = b.sig then s
    else
      let own := x.lastAssay.getD true
      let other := y.lastAssay.getD true
      let s1 := (s.updTileN t (fun x => { x with sigMismatch := satInc 16 x.sigMismatch })).raiseN t Ev.sigMismatch [k, line]
      let s2 := if !own && !other && (y.partnerRec line).isNone then s1.raiseLead Ev.twinDiverged [k, line] else s1
      let s3 := if s2.itemNow Pid.twnDivergeReject = 1 then s2.rejectIf (fun p => s2.prodInSpan p k && s2.firesIn p line line) else s2
      if !own && other then s3.withdraw t 2 else s3
  | _, _ => s

/-- A tile has sealed a line: it is left uncompared unless both tiles are PAIRED and this one sends no VOID (11 R358). -/
def State.sealedSig (s : State) (t line : Nat) : State :=
  let x := s.tileN t
  if x.twin = .paired ∧ (s.tileN (partnerOf t)).twin = .paired ∧ ((x.ownRec line).map (·.flags)).getD 0 % 4 = 0 then s.compareSig t line
  else s.updTileN t (fun x => { x with sigSkip := satInc 16 x.sigSkip })

/-- The lines that a tile has sealed. -/
def TileState.sealed (x : TileState) : List Nat := (x.fired.filter (·.done)).map (·.line)

/-- A tile goes on as far as it can, and the signatures of the lines it seals are compared with records already there
(11 R355, R358). -/
def State.goOn (s : State) (t : Nat) (guess : Bool) : State :=
  let old := (s.tileN t).sealed
  let s1 := s.catchUp t guess
  ((s1.tileN t).sealed.filter (fun n => !old.contains n)).reverse.foldl (fun s n => s.sealedSig t n) s1

/-- A segment that both tiles left undelivered: SEG_UNDELIVERED, its products are rejected, its patches flagged, and each tile
counts its own results (09 R301; 08 R266). -/
def State.checkUndelivered (s : State) (k line seg : Nat) : State :=
  if s.job.undelivered.contains (line, seg, k) || !(s.undelBy (2 * k) line seg && s.undelBy (2 * k + 1) line seg) then s
  else
    let g := s.asOf line
    match g.segOf k seg, g.oppLine (segCh seg) (segRow seg) line with
    | some (_, lo, n), some web =>
      let xs := g.nozPositions (segCh seg) (segRow seg) (List.range' lo n)
      let s1 := { s with job := { s.job with undelivered := (line, seg, k) :: s.job.undelivered.filter (fun u => decide (line < u.1 + 65536)) } }
      let s2 := ((s1.raiseLead Ev.segUndelivered [g.segNode k seg, seg, line]).rejectDots web xs).flagPatches web 5 xs
      (s2.goOn (2 * k) false).goOn (2 * k + 1) false
    | _, _ => s

/-- The segments of a firing line on a span: those of the rows with an opportunity on it. -/
def State.lineSegs (s : State) (k line : Nat) : List Nat :=
  let g := s.asOf line
  (g.sendRows.filter (fun y => (g.oppLine y.1 y.2 line).isSome)).flatMap (fun y => (g.segsOf k y.1 y.2).map (·.1))

/-- Every line that a tile still holds is checked for segments that both tiles left undelivered. -/
def State.sweepUndelivered (s : State) (t : Nat) : State :=
  ((s.tileN t).firedUp.map (·.line)).foldl (fun s n => (s.lineSegs (t / 2) n).foldl (fun s g => s.checkUndelivered (t / 2) n g) s) s

/-! ## FIRING_LINE_STAGE11 (07 R240; 11 R348) -/

/-- The first firing line of a tile: the job's first, or its start line. -/
def State.stageFrom (s : State) (t : Nat) : Nat := max s.job.l0 ((s.tileN t).startLine.getD 0)

/-- A tile's next firing line is this one, and its web line has been begun. -/
def State.stageDue (s : State) (t line : Nat) : Bool :=
  let x := s.tileN t
  let first := match x.fired.head? with
    | some f => max (s.stageFrom t) (f.line + 1)
    | none => s.stageFrom t
  x.carries && x.on 8 && (s.issuedAt line).isSome && decide (first ≤ line ∧ line < x.begun)
    && s.motion.issued.all (fun l => decide (l.n < first ∨ line ≤ l.n))

/-- A tile in FILL reaches firing line S + max D_r: it is PAIRED with a partner that sends, else SOLO; its partner in SOLO is
PAIRED (11 R348). -/
def State.endFill (s : State) (t line : Nat) : State :=
  let x := s.tileN t
  let p := partnerOf t
  if x.twin = .fill ∧ x.startLine.getD 0 + s.maxDelay ≤ line then
    let s1 := if (s.tileN p).carries then
        let s2 := s.setTwin t .paired 0 line
        if (s2.tileN p).twin = .solo then s2.setTwin p .paired 0 line else s2
      else s.setTwin t .solo 0 line
    s1.updatePaired t
  else s

/-- FIRING_LINE_STAGE11: stage 11 of a firing line on a tile, with the granules of the short store that it reads with an
uncorrectable error (09 R292). -/
def State.stage11 (s : State) (t line : Nat) (short : List Nat) : State :=
  if !s.stageDue t line then s
  else
    let s1 := (s.endFill t line).shortBad t line short
    let s2 := s1.updTileN t (fun x => { x with
      fired := { line := line, done := false, recs := [], unknown := [], segs := [], sent := [], voided := [], held := [] } :: x.fired
      records := LineRec.quiet line [] :: x.records })
    let s3 := (s2.scanPanic t).goOn t false
    let g := s3.asOf line
    ((s3.lineSegs (t / 2) line).filter (fun seg => g.uncomputed t (segCh seg) (segRow seg) line)).foldl (fun s seg => s.checkUndelivered (t / 2) line seg) s3

/-! ## SEGMENT_FRAME_DUE (09 R294 to R301) -/

/-- A node takes slots: it is READY, or it is to leave at a line to come (09 R298; 10 R330, R334). -/
def State.takesSlots (s : State) (id : Nat) : Bool := ((s.node id).map (fun n => decide (n.st = 4 ∨ n.st = 5))).getD false

/-- A segment of a line waits for its frame. -/
def FiredLine.waits (f : FiredLine) (seg : Nat) : Bool := !f.sent.any (fun y => y.1 == seg) && !f.voided.any (fun y => y.1 == seg)

/-- The frame that a lane sends next: ascending firing line, bar, channel, row and segment, of the segments whose row has run
stage 11 (09 R295). -/
def State.nextFrame (s : State) (t l : Nat) : Option (Nat × Nat) :=
  ((s.tileN t).firedUp.flatMap (fun f =>
    let rows := (s.asOf f.line).sendRows
    ((rows.flatMap (fun y => (f.segs.map (·.1)).filter (fun e => segCh e == y.1 && segRow e == y.2))).filter (fun e =>
      f.waits e && s.segLane t f.line e == l)).map (fun e => (f.line, e)))).head?

/-- A LINE frame of a segment that starts now misses its send deadline (09 R298, R299). -/
def State.frameLate (s : State) (t line seg n : Nat) : Bool :=
  let node := s.segNode (t / 2) seg
  let lead := if s.takesSlots node then s.nodeLead node else 0
  let fire := ((s.issuedAt line).map (·.fire)).getD 0 / 256
  decide (fire < (s.sendEnd t (s.segLane t line seg) (frameBytes n) - 1) / 200 + lead)

/-- A dependence on the partner's record of a line, oldest line first (11 R355). -/
def TileState.depend (x : TileState) (line seg : Nat) : TileState :=
  if x.deps.contains (line, seg) then x
  else { x with deps := x.deps.filter (fun d => decide (d.1 ≤ line)) ++ [(line, seg)] ++ x.deps.filter (fun d => decide (line < d.1)) }

/-- A segment goes out as VOID with a cause, or is lost on its lane with cause 0: undelivered by this tile; a VOID is reported
and counted where the node takes slots (09 R297 to R301; 11 R354). -/
def State.voidSeg (s : State) (t line seg n cause : Nat) : State :=
  let k := t / 2
  let node := s.segNode k seg
  let lane := s.segLane t line seg
  let l := (s.issuedAt line).getD { n := line, fire := 0, prevFire := none, models := [], overs := [], cmax := 0, tick := 0, coast := false, locked := false, lensOk := false, counts := none }
  let fire := l.fire + s.fireDelay (segCh seg) (segRow seg) l
  let ran := (((s.tileN t).firedAt line).map (fun f => f.segs.any (fun y => y.1 == seg))).getD false
  let s1 := (s.updFired t line (fun f => { f with voided := f.voided ++ [(seg, cause)] })).updOwn t line (fun r => { r with
    undel := addNew r.undel seg, flags := if cause = 0 then r.flags else r.flags ||| 1 })
  let s2 := if cause = 0 then s1
    else
      let s2 := s1.sendFrame { tile := t, lane := lane, type := 2, node := node, fields := [seg, line, fire / 256, fire % 256, cause, n] }
      let s3 := if s2.takesSlots node then
          (s2.raiseN t Ev.lineUnderrun [node, seg, line, cause]).updTileN t (fun x => { x with
            voidCnt := NMap.upd 0 x.voidCnt (4 * (s.barOf (segCh seg)).getD 0 + cause - 1) (satInc 32) })
        else s2
      if ran && (s3.tileN (partnerOf t)).carries then (s3.updTileN t (fun x => x.depend line seg)).goOn t false else s3
  s2.checkUndelivered k line seg

/-- A segment's LINE frame: the line's issued timestamp with the row's delay, and its slots, 0 for a node that is not yet READY
(09 R294, R298; 10 R313). -/
def State.sendLine (s : State) (t line seg : Nat) (slots : List Nat) : State :=
  let node := s.segNode (t / 2) seg
  let lane := s.segLane t line seg
  match s.issuedAt line with
  | none => s
  | some l =>
    let fire := l.fire + s.fireDelay (segCh seg) (segRow seg) l
    let out := if s.takesSlots node then slots else slots.map (fun _ => 0)
    let e := s.sendEnd t lane (frameBytes slots.length)
    (s.sendFrame { tile := t, lane := lane, type := 1, node := node, fields := [seg, line, fire / 256, fire % 256, slots.length] ++ out }).updFired t line (fun f => { f with
      sent := f.sent ++ [(seg, lane, e)] })

/-- The cause for which a segment that starts now goes out as VOID, 0 for LINE (09 R299). -/
def State.voidCause (s : State) (t line seg lo n : Nat) : Nat :=
  let g := s.asOf line
  let c := segCh seg
  let r := segRow seg
  let f := (s.tileN t).firedAt line
  let ran := (f.map (fun f => f.segs.any (fun y => y.1 == seg))).getD false
  let rl := match g.oppLine c r line with
    | some web => g.rowLine t c r web
    | none => RowLine.clear
  let cause := segCause rl (g.nozRange (t / 2) c r).1 lo n ((f.map (fun f => f.held.contains (rowKey c r))).getD false)
  if cause ≠ 0 then cause else if !ran || s.frameLate t line seg n then 1 else 0

/-- A segment's frame is due: its lane is free and sends it next; or stage 11 has not completed it and its LINE would be late
(09 R295, R299). -/
def State.frameDue (s : State) (t line seg : Nat) : Bool :=
  let x := s.tileN t
  let g := s.asOf line
  let l := s.segLane t line seg
  match x.firedAt line, g.segOf (t / 2) seg with
  | some f, some (_, _, n) =>
    x.carries && f.waits seg && !g.uncomputed t (segCh seg) (segRow seg) line && (g.oppLine (segCh seg) (segRow seg) line).isSome && s.laneOpen t l
      && (if f.segs.any (fun y => y.1 == seg) then s.nextFrame t l == some (line, seg) else s.frameLate t line seg n)
  | _, _ => false

/-- SEGMENT_FRAME_DUE: LINE, or VOID with its cause; on a lane that is not UP for the line nothing leaves (09 R297, R299; 16
R504, R505). -/
def State.segmentFrame (s : State) (t line seg : Nat) : State :=
  let x := s.tileN t
  let g := s.asOf line
  let l := x.lane (s.segLane t line seg)
  match x.firedAt line, g.segOf (t / 2) seg with
  | some f, some (_, lo, n) =>
    if !s.frameDue t line seg then s
    else if l.st ≠ 2 ∨ line < l.fromLine then s.voidSeg t line seg n 0
    else
      let cause := s.voidCause t line seg lo n
      if cause ≠ 0 then s.voidSeg t line seg n cause else s.sendLine t line seg ((f.segs.lookup seg).getD [])
  | _, _ => s

/-! ## The partner's records (11 R354 to R358) -/

/-- STATE_COPY_RECEIVE: the partner's record of a line arrives over the twin link; it is compared, taken, and its undelivered
segments are checked (11 R354 to R358; 09 R301). -/
def State.copyReceive (s : State) (t line : Nat) : State :=
  let x := s.tileN t
  match (s.tileN (partnerOf t)).recorded line with
  | none => s
  | some r =>
    if !vget s.linkUp (t / 2) true || x.copying || !(x.carries || decide (x.twin = .resync)) || (x.partnerRec line).isSome then s
    else
      let had := (x.recorded line).isSome
      let s1 := s.updTileN t (fun x => { x with partner := x.partner.filter (fun p => decide (line < p.line)) ++ [r] ++ x.partner.filter (fun p => decide (p.line < line)) })
      let s2 := if had then s1.compareSig t line else s1
      r.undel.foldl (fun s g => s.checkUndelivered (t / 2) line g) (s2.goOn t false)

/-- STATE_RECORD_MISSING: a record not there by the end of stage 11 two lines later; its dependent rows are held (11 R355,
R356). -/
def State.recordMissing (s : State) (t line : Nat) : State :=
  let x := s.tileN t
  whenDue (x.missing.isNone && s.firstMissing t == some line && (s.tileN (partnerOf t)).carries) s
    ((s.updTileN t (fun x => { x with missing := some line })).goOn t false)

/-- A hold ends because the partner's records will not come: the tile goes on with its own results (11 R356). -/
def State.resolveHold (s : State) (t : Nat) : State := (s.updTileN t (fun x => { x with missing := none })).goOn t true

/-- A tile goes on without its partner: records that never came count as none, and SOLO, or FILL, follows (11 R348, R356). -/
def State.aloneFrom (s : State) (t : Nat) : State :=
  let p := partnerOf t
  (((s.updTileN p (fun y => { y with records := [] })).partnerWithdrew t).resolveHold t).sweepUndelivered t

/-- PARTNER_WITHDRAW_RECEIVE (11 R348, R350): segments that neither tile sends are undelivered, and a line that the partner
never recorded is waited for no more. -/
def State.partnerLeft (s : State) (t : Nat) : State :=
  whenDue (decide ((s.tileN (partnerOf t)).twin = .withdrawn ∧ (s.tileN t).pstate ≠ .withdrawn)) s
    (((s.partnerWithdrew t).sweepUndelivered t).goOn t true)

/-- A tile has missed TWN_HB_MISS heartbeats of its partner on both paths (11 R352). -/
def State.silentDue (s : State) (t : Nat) : Bool :=
  let x := s.tileN t
  let y := s.tileN (partnerOf t)
  let n := (if x.hbMiss = 0 then s.itemN Pid.twnHbMiss else x.hbMiss) * 4096
  decide (max x.hbLink x.hbFabric + n < s.now ∧ x.boot.stage = 8 ∧ y.boot.stage = 8 ∧ y.twin ≠ .off)
    && x.on 1 && x.clockOk && (decide (y.twin ≠ .withdrawn) || decide (s.lead.tile = partnerOf t))

/-- PARTNER_SILENT: the partner is treated as withdrawn with cause WATCHDOG, and a lead it held moves (11 R352, R373). -/
def State.partnerSilent (s : State) (t : Nat) : State :=
  let p := partnerOf t
  if !s.silentDue t then s
  else
    let s1 := s.withdrawBy t p 10
    (s1.aloneFrom t).leadFails p 0

/-- TWIN_LINK_DOWN: the second tile withdraws, unless the first prints no more (11 R353). -/
def State.twinLinkLost (s : State) (k : Nat) : State :=
  let a := 2 * k
  let b := 2 * k + 1
  whenDue (vget s.linkUp k true) s
    (let s1 := ({ s with linkUp := vset s.linkUp k false }).raiseLead Ev.twinLinkDown [k]
     let s2 := (s1.updTileN a (fun x => x.assay 2 false)).updTileN b (fun x => x.assay 2 false)
     if (s2.tileN a).carries then
       let s3 := if (s2.tileN b).withdrawable then s2.withdraw b 9 else s2
       s3.aloneFrom a
     else if (s2.tileN b).carries then s2.aloneFrom b
     else s2)

/-! ## LINE_ISSUE (02 R80) -/

/-- LINE_ISSUE: the active motion block issues the next line. -/
def State.lineIssue (s : State) : State :=
  whenDue s.issueDue s ((s.issueCore s.issueNext s.issueFire).issueTail s.issueNext)

/-- LANE_DOWN: the lane stops, with cause REF every lane of its group, and segments lost on it are checked (09 R301; 16 R500,
R504). -/
def State.laneFails (s : State) (t l cause : Nat) : State :=
  let ls := if cause = 2 then domainLanes (laneDomain l) else [l]
  (ls.foldl (fun s l => s.laneDown t l cause) s).sweepUndelivered t

/-! ## Meanings -/

/-- R80: LINE_ISSUE. -/
def execLineIssue (s : State) : Out := .next s.lineIssue
/-- R240: FIRING_LINE_STAGE11. -/
def execFiringLineStage11 (t : Tile) (r : FiringRun) (s : State) : Out := onTile t s (s.stage11 t.val r.line r.short)
/-- R299: SEGMENT_FRAME_DUE. -/
def execSegmentFrameDue (t : Tile) (line seg : Nat) (s : State) : Out := onTile t s (s.segmentFrame t.val line seg)
/-- R355: STATE_COPY_RECEIVE. -/
def execStateCopyReceive (t : Tile) (line : Nat) (s : State) : Out := onTile t s (s.copyReceive t.val line)
/-- R355: STATE_RECORD_MISSING. -/
def execStateRecordMissing (t : Tile) (line : Nat) (s : State) : Out := onTile t s (s.recordMissing t.val line)
/-- R352: PARTNER_SILENT. -/
def execPartnerSilent (t : Tile) (s : State) : Out := onTile t s (s.partnerSilent t.val)
/-- R350: PARTNER_WITHDRAW_RECEIVE. -/
def execPartnerWithdrawReceive (t : Tile) (s : State) : Out := onTile t s (s.partnerLeft t.val)
/-- R353: TWIN_LINK_DOWN. -/
def execTwinLinkDown (twin : Fin 4) (s : State) : Out := onTwin twin s (s.twinLinkLost twin.val)
/-- R504: LANE_DOWN. -/
def execLaneDown (t : Tile) (l : Fin 10) (cause : Fin 3) (s : State) : Out := onTile t s (s.laneFails t.val l.val cause.val)

end Sys2Proof.Machine
end

