-- ==== Sys2Proof/Machine/Wire.lean ====
section
/-! DEFINITION. What arrives on a lane: blocks, block lock, frames out of blocks, and what a tile does with the frames that it
accepts (10 R306 to R311, R328, R336 to R339). -/

namespace Sys2Proof.Machine

/-! ## Frames that a tile acts on -/

/-- The HELLO in a frame's bytes (10 R336). -/
def helloIn (bs : List Byte) : Hello :=
  let id := fld bs 20 2
  { state := fld bs 8 1, kind := fld bs 9 1, caps := fld bs 10 2, uid := fld bs 12 8, id := if bit id 15 then none else some (id % 2 ^ 14),
    parent := fld bs 22 2 % 2 ^ 14, depth := fld bs 24 1, pend := fld bs 25 1, fwd := fld bs 26 2, hubLead := fld bs 28 4,
    tPath := fld bs 32 4, lastAcc := fld bs 36 4 }

/-- The STATUS in a frame's bytes, of a node (10 R338). -/
def statusIn (node : Nat) (bs : List Byte) : StatusFrame :=
  let nz := fld bs 10 1
  { node := node, state := fld bs 8 1, part := fld bs 9 1, lastAcc := fld bs 12 6, free := fld bs 18 2,
    counters := (List.range 5).map (fun i => fld bs (20 + 4 * i) 4)
    temps := (chunks 4 (bs.drop 40) nz).map (fun e => { seg := fld e 0 2, temp := fldS e 2 2 })
    health := (chunks 4 (bs.drop (40 + 4 * nz)) (fld bs 11 1)).map (fun e => { seg := fld e 0 2, nozzle := fld e 2 2 % 2 ^ 10, health := bits (fld e 2 2) 15 14 }) }

/-- The colour report in an EVENT's data (08 R264). -/
def reportIn (d : List Byte) : ColourReport :=
  { band := fld d 0 4, row := fld d 4 1, flags := fld d 5 1, zone := fld d 6 2, l := fldS d 8 2, a := fldS d 10 2, b := fldS d 12 2 }

/-- The position in an EVENT's data (10 R341). -/
def positionIn (d : List Byte) : PosEvent :=
  { line := fld d 0 6, fire := fld d 6 8, fph := fld d 14 1, rate := fld d 15 4, aL := fldS d 19 8, aR := fldS d 27 8, r := fldS d 35 8, q := fld d 43 4 }

/-- An EVENT with its source, code and ESEQ is acted on once (10 R339). -/
def State.once (s : State) (src code eseq : Nat) (f : State → State) : State :=
  if s.link.acted.lookup (src, code) = some eseq then s
  else f { s with link := { s.link with acted := ((src, code), eseq) :: s.link.acted.filter (fun e => e.1 != (src, code)) } }

/-- An EVENT frame addressed to the package: a colour report, a position, a product, or a node's own event (10 R339, R341). -/
def State.eventFrame (s : State) (src : Nat) (bs : List Byte) : State :=
  let code := fld bs 8 2
  let eseq := fld bs 10 2
  let n := fld bs 21 1
  let d := (bs.drop 24).take n
  if code = 3 ∧ n = 14 then s.once src code eseq (fun s => s.colourReport (reportIn d))
  else if code = 4 ∧ n = 48 then s.once src code eseq (fun s => s.positionEvent (positionIn d))
  else if code = 5 ∧ n = 12 then s.once src code eseq (fun s => s.productEvent (fld d 0 1 % 16) (fld d 1 4) (fld d 5 6))
  else s.nodeEvent src code eseq d

/-- A TIME frame at a lane: REQ from a slave below; SYNC, RESP and ANNOUNCE from the press master on a reach lane. It is stamped
on arrival (10 R322, R323, R327, R328). -/
def State.timeFrame (s : State) (t : Tile) (l : Fin 10) (bs : List Byte) : State :=
  let kind := fld bs 8 1
  let xseq := fld bs 9 1
  let ta := 256 * fld bs 12 8 + fld bs 20 1
  if kind = 1 then s.reqReceive (.down t l) xseq ta (256 * s.now)
  else if l.val < 8 then s
  else if kind = 0 then s.syncReceive .up xseq ta (256 * s.now)
  else if kind = 2 then s.respReceive .up xseq ta
  else if kind = 3 then s.announceReceive (fld bs 36 5) (fld bs 12 8)
  else s

/-- A frame that a tile has accepted on a lane: TIME and HELLO are hop by hop, the others are acted on where they are addressed
to the package or to every node (10 R310, R317). -/
def State.acceptFrame (s : State) (t : Tile) (l : Fin 10) (bs : List Byte) : State :=
  let ty := fld bs 0 1
  let dst := fld bs 2 2
  let src := fld bs 4 2 % 2 ^ 14
  let mine := bit dst 15 || decide (dst % 2 ^ 14 = s.link.nodeId)
  if ty = 3 then s.timeFrame t l bs
  else if ty = 7 then s.helloReceive t.val l.val (helloIn bs)
  else if !mine then s
  else if ty = 4 then
    (if fld bs 10 1 ≤ 1 then s.ctrlRequest (ctrlIn (dst % 2 ^ 14) bs) else s.ctrlAnswer (ctrlIn src bs))
  else if ty = 5 then s.statusReceive (statusIn src bs)
  else if ty = 6 then s.eventFrame src bs
  else s

/-! ## Blocks (10 R306 to R308) -/

/-- A frame at a lane has ended: it is checked, and acted on where it is accepted; a FILL puts a lane's trim correction into
force (10 R311; 16 R508). -/
def State.endFrame (s : State) (t : Tile) (l : Fin 10) (f : RxFrame) : State :=
  match s.rxEnded t.val l.val f with
  | (s1, some bs) => if isFill f then s1.trimBoundary t.val 0 else s1.acceptFrame t l bs
  | (s1, none) => s1

/-- The bytes of the frame in progress: one that has all of its blocks ends (10 R308). -/
def State.grow (s : State) (t : Tile) (l : Fin 10) (bs : List Byte) : State :=
  if rxWhole bs then (s.updLnk t.val l.val (fun x => { x with rxFrame := none })).endFrame t l (.bytes (bs.take (rxLen bs)))
  else s.updLnk t.val l.val (fun x => { x with rxFrame := some bs })

/-- The frame in progress, if any, is BROKEN. -/
def State.breakFrame (s : State) (t : Tile) (l : Fin 10) : State :=
  if (s.lnk t.val l.val).rxFrame.isNone then s else (s.updLnk t.val l.val (fun x => { x with rxFrame := none })).endFrame t l .broken

/-- A block of a lane that is UP and in block lock: a first block ends a frame in progress as BROKEN and starts one, a further
block is the frame's or is discarded, an invalid one breaks the frame (10 R306, R308; log 129). -/
def State.takeBlock (s : State) (t : Tile) (l : Fin 10) (b : Block) (payload : List Byte) : State :=
  if b.sync = 0b10 then (s.breakFrame t l).grow t l payload
  else if b.sync = 0b01 then
    match (s.lnk t.val l.val).rxFrame with
    | some bs => s.grow t l (bs ++ payload)
    | none => s
  else s.breakFrame t l

/-- A block at a lane's receiver: its header counts for block lock; out of lock it is discarded (10 R307). -/
def State.rxBlock (s : State) (t : Tile) (l : Fin 10) (b : Block) : State :=
  let x := s.lnk t.val l.val
  if !(s.lnkOn t.val l.val && x.receives) then s
  else
    let y := x.see b
    let s1 := s.updLnk t.val l.val (fun _ => y)
    if !x.lock then (if y.locks then s1.lockAcquired t.val l.val else s1)
    else if y.loses then s1.lockLost t.val l.val
    else if x.st = 2 ∧ x.rxslp = 0 then s1.takeBlock t l b (x.payload b)
    else s1

/-- Blocks at a lane's receiver, in the order in which they arrive. -/
def State.rxBlocks (s : State) (t : Tile) (l : Fin 10) (bs : List Block) : State := bs.foldl (fun s b => s.rxBlock t l b) s

/-! ## Meanings -/

/-- R307: BLOCK_LOCK_ACQUIRED. -/
def execBlockLockAcquired (t : Tile) (b : LaneBlocks) (s : State) : Out :=
  let u := s.rxBlocks t b.lane b.blocks
  onTile t s (whenDue (!(s.lnk t.val b.lane.val).lock && (u.lnk t.val b.lane.val).lock) s u)
/-- R307: BLOCK_LOCK_LOST. -/
def execBlockLockLost (t : Tile) (b : LaneBlocks) (s : State) : Out :=
  let u := s.rxBlocks t b.lane b.blocks
  onTile t s (whenDue ((s.lnk t.val b.lane.val).lock && !(u.lnk t.val b.lane.val).lock) s u)
/-- R311: FRAME_RECEIVE. -/
def execFrameReceive (t : Tile) (l : Fin 10) (blocks : List Block) (s : State) : Out := onTile t s (s.rxBlocks t l blocks)

end Sys2Proof.Machine
end

