-- ==== Sys2Proof/Machine/Dispatch.lean ====
section
/-! DEFINITION. The meaning of each command: one arm for each constructor of Instr. -/

namespace Sys2Proof.Machine

def exec (i : Instr) (s : State) : Host.Outcome State Fault Refusal :=
  match i with
  | .sessionOpen p => Sys2Proof.Machine.execSessionOpen p s
  | .sessionClose p => Sys2Proof.Machine.execSessionClose p s
  | .sessionProt p => Sys2Proof.Machine.execSessionProt p s
  | .sessionQueue p => Sys2Proof.Machine.execSessionQueue p s
  | .sessionQdelete p => Sys2Proof.Machine.execSessionQdelete p s
  | .sessionInfo p => Sys2Proof.Machine.execSessionInfo p s
  | .memWrite p => Sys2Proof.Machine.execMemWrite p s
  | .memRead p => Sys2Proof.Machine.execMemRead p s
  | .memFence p => Sys2Proof.Machine.execMemFence p s
  | .memCompress p => Sys2Proof.Machine.execMemCompress p s
  | .memVerify p => Sys2Proof.Machine.execMemVerify p s
  | .memInfo p => Sys2Proof.Machine.execMemInfo p s
  | .jobArm p => Sys2Proof.Machine.execJobArm p s
  | .jobChange p => Sys2Proof.Machine.execJobChange p s
  | .jobDisarm p => Sys2Proof.Machine.execJobDisarm p s
  | .jobStatus p => Sys2Proof.Machine.execJobStatus p s
  | .jobCheck p => Sys2Proof.Machine.execJobCheck p s
  | .layerSet p => Sys2Proof.Machine.execLayerSet p s
  | .layerFlip p => Sys2Proof.Machine.execLayerFlip p s
  | .layerSignal p => Sys2Proof.Machine.execLayerSignal p s
  | .layerStatus p => Sys2Proof.Machine.execLayerStatus p s
  | .markClock p => Sys2Proof.Machine.execMarkClock p s
  | .markRules p => Sys2Proof.Machine.execMarkRules p s
  | .markShifts p => Sys2Proof.Machine.execMarkShifts p s
  | .markGlyphs p => Sys2Proof.Machine.execMarkGlyphs p s
  | .markField p => Sys2Proof.Machine.execMarkField p s
  | .markCounter p => Sys2Proof.Machine.execMarkCounter p s
  | .markLot p => Sys2Proof.Machine.execMarkLot p s
  | .markStatus p => Sys2Proof.Machine.execMarkStatus p s
  | .markNames p => Sys2Proof.Machine.execMarkNames p s
  | .rayBind p => Sys2Proof.Machine.execRayBind p s
  | .rayLens p => Sys2Proof.Machine.execRayLens p s
  | .rayAcquire p => Sys2Proof.Machine.execRayAcquire p s
  | .rayViewmap p => Sys2Proof.Machine.execRayViewmap p s
  | .rayStatus p => Sys2Proof.Machine.execRayStatus p s
  | .rayPanel p => Sys2Proof.Machine.execRayPanel p s
  | .dropScreen p => Sys2Proof.Machine.execDropScreen p s
  | .dropSlots p => Sys2Proof.Machine.execDropSlots p s
  | .dropNozzles p => Sys2Proof.Machine.execDropNozzles p s
  | .dropZonelut p => Sys2Proof.Machine.execDropZonelut p s
  | .dropStatus p => Sys2Proof.Machine.execDropStatus p s
  | .colourSetup p => Sys2Proof.Machine.execColourSetup p s
  | .colourSens p => Sys2Proof.Machine.execColourSens p s
  | .colourClose p => Sys2Proof.Machine.execColourClose p s
  | .colourOpen p => Sys2Proof.Machine.execColourOpen p s
  | .colourCal p => Sys2Proof.Machine.execColourCal p s
  | .colourReset p => Sys2Proof.Machine.execColourReset p s
  | .colourStatus p => Sys2Proof.Machine.execColourStatus p s
  | .colourLog p => Sys2Proof.Machine.execColourLog p s
  | .motionRephase p => Sys2Proof.Machine.execMotionRephase p s
  | .motionCompare p => Sys2Proof.Machine.execMotionCompare p s
  | .motionStatus p => Sys2Proof.Machine.execMotionStatus p s
  | .motionStopreq p => Sys2Proof.Machine.execMotionStopreq p s
  | .linkNodes p => Sys2Proof.Machine.execLinkNodes p s
  | .linkList p => Sys2Proof.Machine.execLinkList p s
  | .linkCtrl p => Sys2Proof.Machine.execLinkCtrl p s
  | .linkLeave p => Sys2Proof.Machine.execLinkLeave p s
  | .linkTime p => Sys2Proof.Machine.execLinkTime p s
  | .linkScan p => Sys2Proof.Machine.execLinkScan p s
  | .linkRemap p => Sys2Proof.Machine.execLinkRemap p s
  | .linkLane p => Sys2Proof.Machine.execLinkLane p s
  | .linkTest p => Sys2Proof.Machine.execLinkTest p s
  | .twinAssay p => Sys2Proof.Machine.execTwinAssay p s
  | .twinWithdraw p => Sys2Proof.Machine.execTwinWithdraw p s
  | .twinRejoin p => Sys2Proof.Machine.execTwinRejoin p s
  | .twinRestart p => Sys2Proof.Machine.execTwinRestart p s
  | .twinLead p => Sys2Proof.Machine.execTwinLead p s
  | .twinStatus p => Sys2Proof.Machine.execTwinStatus p s
  | .twinPreserve p => Sys2Proof.Machine.execTwinPreserve p s
  | .dispMode p => Sys2Proof.Machine.execDispMode p s
  | .dispPower p => Sys2Proof.Machine.execDispPower p s
  | .dispFlip p => Sys2Proof.Machine.execDispFlip p s
  | .dispStatus p => Sys2Proof.Machine.execDispStatus p s
  | .parmGet p => Sys2Proof.Machine.execParmGet p s
  | .parmSet p => Sys2Proof.Machine.execParmSet p s
  | .parmList p => Sys2Proof.Machine.execParmList p s
  | .svcPower p => Sys2Proof.Machine.execSvcPower p s
  | .svcImage p => Sys2Proof.Machine.execSvcImage p s
  | .svcUpdate p => Sys2Proof.Machine.execSvcUpdate p s
  | .svcTally p => Sys2Proof.Machine.execSvcTally p s
  | .svcTrim p => Sys2Proof.Machine.execSvcTrim p s
  | .svcThermal p => Sys2Proof.Machine.execSvcThermal p s
  | .diagEcho p => Sys2Proof.Machine.execDiagEcho p s
  | .diagRegread p => Sys2Proof.Machine.execDiagRegread p s
  | .diagRegwrite p => Sys2Proof.Machine.execDiagRegwrite p s
  | .diagEvlog p => Sys2Proof.Machine.execDiagEvlog p s
  | .qenSqTailWrite t q v => Sys2Proof.Machine.execQenSqTailWrite t q v s
  | .qenCqHeadWrite t q v => Sys2Proof.Machine.execQenCqHeadWrite t q v s
  | .qenCtlEnSet t => Sys2Proof.Machine.execQenCtlEnSet t s
  | .qenCtlEnClear t => Sys2Proof.Machine.execQenCtlEnClear t s
  | .registerWrite off v => Sys2Proof.Machine.execRegisterWrite off v s
  | .loRegisterReadLatch off => Sys2Proof.Machine.execLoRegisterReadLatch off s
  | .evrSwsetWrite t v => Sys2Proof.Machine.execEvrSwsetWrite t v s
  | .evrHtTakeRead t h => Sys2Proof.Machine.execEvrHtTakeRead t h s
  | .evrHtDoneWrite t h v => Sys2Proof.Machine.execEvrHtDoneWrite t h v s
  | .evrCoreTakeRead t c => Sys2Proof.Machine.execEvrCoreTakeRead t c s
  | .evrCoreDoneWrite t c v => Sys2Proof.Machine.execEvrCoreDoneWrite t c v s
  | .evrSrcPendClear t src => Sys2Proof.Machine.execEvrSrcPendClear t src s
  | .evrSrcClrcnt t src => Sys2Proof.Machine.execEvrSrcClrcnt t src s
  | .memcClrCe t => Sys2Proof.Machine.execMemcClrCe t s
  | .memcClrUe t => Sys2Proof.Machine.execMemcClrUe t s
  | .memcClrPanic t => Sys2Proof.Machine.execMemcClrPanic t s
  | .memcClrPause t => Sys2Proof.Machine.execMemcClrPause t s
  | .lnkClrCnt t l => Sys2Proof.Machine.execLnkClrCnt t l s
  | .lnkClrTest t l => Sys2Proof.Machine.execLnkClrTest t l s
  | .dspClrTrains port => Sys2Proof.Machine.execDspClrTrains port s
  | .dspClrUnder port => Sys2Proof.Machine.execDspClrUnder port s
  | .thmClrCnt t => Sys2Proof.Machine.execThmClrCnt t s
  | .thmClrMax t => Sys2Proof.Machine.execThmClrMax t s
  | .twnCauseClrlast t => Sys2Proof.Machine.execTwnCauseClrlast t s
  | .packetFetch entry => Sys2Proof.Machine.execPacketFetch entry s
  | .completionPost q => Sys2Proof.Machine.execCompletionPost q s
  | .moderationWindowExpiry q => Sys2Proof.Machine.execModerationWindowExpiry q s
  | .msixVectorSend v => Sys2Proof.Machine.execMsixVectorSend v s
  | .pcieLinkStateChange port st => Sys2Proof.Machine.execPcieLinkStateChange port st s
  | .pcieD3hotEntry port => Sys2Proof.Machine.execPcieD3hotEntry port s
  | .pcieD3coldEntry port => Sys2Proof.Machine.execPcieD3coldEntry port s
  | .pcieD0Return port => Sys2Proof.Machine.execPcieD0Return port s
  | .pciePerst port => Sys2Proof.Machine.execPciePerst port s
  | .pcieConfigRequest port => Sys2Proof.Machine.execPcieConfigRequest port s
  | .eventOccurrence t src data => Sys2Proof.Machine.execEventOccurrence t src data s
  | .evrCommit stage => Sys2Proof.Machine.execEvrCommit stage s
  | .evrOfferReceive t => Sys2Proof.Machine.execEvrOfferReceive t s
  | .evrReconsider stage => Sys2Proof.Machine.execEvrReconsider stage s
  | .eviEdge t k => Sys2Proof.Machine.execEviEdge t k s
  | .inputRawTransition p level => Sys2Proof.Machine.execInputRawTransition p level s
  | .encEdge k => Sys2Proof.Machine.execEncEdge k s
  | .encWireFault k j => Sys2Proof.Machine.execEncWireFault k j s
  | .encIndex k => Sys2Proof.Machine.execEncIndex k s
  | .encIndexMiss k => Sys2Proof.Machine.execEncIndexMiss k s
  | .absFrameReceived raw err warn crc => Sys2Proof.Machine.execAbsFrameReceived raw err warn crc s
  | .positionMessageReceive t n => Sys2Proof.Machine.execPositionMessageReceive t n s
  | .outputPulseEnd o => Sys2Proof.Machine.execOutputPulseEnd o s
  | .compareApply u => Sys2Proof.Machine.execCompareApply u s
  | .pdEdge k => Sys2Proof.Machine.execPdEdge k s
  | .carriageCodeChange g => Sys2Proof.Machine.execCarriageCodeChange g s
  | .armLineEvaluation lane num => Sys2Proof.Machine.execArmLineEvaluation lane num s
  | .memoryWaitRelease seq => Sys2Proof.Machine.execMemoryWaitRelease seq s
  | .memWriteLanded wid twin => Sys2Proof.Machine.execMemWriteLanded wid twin s
  | .mirroredLoadReceive wid twin => Sys2Proof.Machine.execMirroredLoadReceive wid twin s
  | .stripDecodeStart t => Sys2Proof.Machine.execStripDecodeStart t s
  | .stripVerified t sid strip => Sys2Proof.Machine.execStripVerified t sid strip s
  | .stripVerdictReceive t sid strip => Sys2Proof.Machine.execStripVerdictReceive t sid strip s
  | .stripDeadline t sid strip => Sys2Proof.Machine.execStripDeadline t sid strip s
  | .stripMended t sid strip => Sys2Proof.Machine.execStripMended t sid strip s
  | .compressPassDone seq => Sys2Proof.Machine.execCompressPassDone seq s
  | .lineCompute t n => Sys2Proof.Machine.execLineCompute t n s
  | .firingLineStage11 t r => Sys2Proof.Machine.execFiringLineStage11 t r s
  | .segmentFrameDue t line seg => Sys2Proof.Machine.execSegmentFrameDue t line seg s
  | .stateCopyReceive t line => Sys2Proof.Machine.execStateCopyReceive t line s
  | .stateRecordMissing t line => Sys2Proof.Machine.execStateRecordMissing t line s
  | .lensTrackLost cause => Sys2Proof.Machine.execLensTrackLost cause s
  | .lensReferenceIndex k => Sys2Proof.Machine.execLensReferenceIndex k s
  | .patchReportTimeout band row => Sys2Proof.Machine.execPatchReportTimeout band row s
  | .colourReportReceive r => Sys2Proof.Machine.execColourReportReceive r s
  | .calInvalid port => Sys2Proof.Machine.execCalInvalid port s
  | .timeSyncSend h => Sys2Proof.Machine.execTimeSyncSend h s
  | .timeSyncReceive h xseq t1 t2 => Sys2Proof.Machine.execTimeSyncReceive h xseq t1 t2 s
  | .timeReqReceive h xseq t3 t4 => Sys2Proof.Machine.execTimeReqReceive h xseq t3 t4 s
  | .timeRespReceive h xseq t4 => Sys2Proof.Machine.execTimeRespReceive h xseq t4 s
  | .timeExchangeTimeout h => Sys2Proof.Machine.execTimeExchangeTimeout h s
  | .timeAnnounceReceive sec tau => Sys2Proof.Machine.execTimeAnnounceReceive sec tau s
  | .timeAlignCheck t diff => Sys2Proof.Machine.execTimeAlignCheck t diff s
  | .blockLockAcquired t b => Sys2Proof.Machine.execBlockLockAcquired t b s
  | .blockLockLost t b => Sys2Proof.Machine.execBlockLockLost t b s
  | .helloSend h => Sys2Proof.Machine.execHelloSend h s
  | .helloReceive t l f => Sys2Proof.Machine.execHelloReceive t l f s
  | .statusFrameReceive f => Sys2Proof.Machine.execStatusFrameReceive f s
  | .nodeStatusTimeout node => Sys2Proof.Machine.execNodeStatusTimeout node s
  | .eventPositionReceive e => Sys2Proof.Machine.execEventPositionReceive e s
  | .eventProductReceive lane num first => Sys2Proof.Machine.execEventProductReceive lane num first s
  | .nodeEvent node code eseq data => Sys2Proof.Machine.execNodeEvent node code eseq data s
  | .ctrlRequestReceive f => Sys2Proof.Machine.execCtrlRequestReceive f s
  | .ctrlAnswerReceive f => Sys2Proof.Machine.execCtrlAnswerReceive f s
  | .ctrlAnswerTimeout seq => Sys2Proof.Machine.execCtrlAnswerTimeout seq s
  | .hubFrameReceive node port f => Sys2Proof.Machine.execHubFrameReceive node port f s
  | .hubFireInstant node seg => Sys2Proof.Machine.execHubFireInstant node seg s
  | .laneTrainingDone t l e => Sys2Proof.Machine.execLaneTrainingDone t l e s
  | .laneTrainFail t l e => Sys2Proof.Machine.execLaneTrainFail t l e s
  | .laneDown t l cause => Sys2Proof.Machine.execLaneDown t l cause s
  | .laneRetrainTimer t l => Sys2Proof.Machine.execLaneRetrainTimer t l s
  | .frameReceive t l blocks => Sys2Proof.Machine.execFrameReceive t l blocks s
  | .laneWake t l rx => Sys2Proof.Machine.execLaneWake t l rx s
  | .laneTestInject t l => Sys2Proof.Machine.execLaneTestInject t l s
  | .laneTestDone t l errors losses locked => Sys2Proof.Machine.execLaneTestDone t l errors losses locked s
  | .heartbeatSend t => Sys2Proof.Machine.execHeartbeatSend t s
  | .partnerSilent t => Sys2Proof.Machine.execPartnerSilent t s
  | .twinLinkDown twin => Sys2Proof.Machine.execTwinLinkDown twin s
  | .partnerWithdrawReceive t => Sys2Proof.Machine.execPartnerWithdrawReceive t s
  | .assaySetStart t => Sys2Proof.Machine.execAssaySetStart t s
  | .assaySetEnd t pass stage => Sys2Proof.Machine.execAssaySetEnd t pass stage s
  | .commitPrepareReceive t cseq => Sys2Proof.Machine.execCommitPrepareReceive t cseq s
  | .commitAckReceive t cseq => Sys2Proof.Machine.execCommitAckReceive t cseq s
  | .preserveReceive data => Sys2Proof.Machine.execPreserveReceive data s
  | .hostPortRetry ok => Sys2Proof.Machine.execHostPortRetry ok s
  | .resyncCopyDone t => Sys2Proof.Machine.execResyncCopyDone t s
  | .watchdogExpiry t => Sys2Proof.Machine.execWatchdogExpiry t s
  | .fabricHopDown hop => Sys2Proof.Machine.execFabricHopDown hop s
  | .refclkLost t => Sys2Proof.Machine.execRefclkLost t s
  | .pllUnlock t => Sys2Proof.Machine.execPllUnlock t s
  | .domainReady t d => Sys2Proof.Machine.execDomainReady t d s
  | .dramRequestComplete t ch e => Sys2Proof.Machine.execDramRequestComplete t ch e s
  | .dramRefreshDue t ch bank => Sys2Proof.Machine.execDramRefreshDue t ch bank s
  | .bankIdlePrecharge t ch bank => Sys2Proof.Machine.execBankIdlePrecharge t ch bank s
  | .dramPauseStart t => Sys2Proof.Machine.execDramPauseStart t s
  | .memcSetChanged t => Sys2Proof.Machine.execMemcSetChanged t s
  | .dramRetrainDue t => Sys2Proof.Machine.execDramRetrainDue t s
  | .memcPauseForced t => Sys2Proof.Machine.execMemcPauseForced t s
  | .memcPanicLong t port => Sys2Proof.Machine.execMemcPanicLong t port s
  | .memcScrubDone t => Sys2Proof.Machine.execMemcScrubDone t s
  | .memcDramHot t ch mr4 hot => Sys2Proof.Machine.execMemcDramHot t ch mr4 hot s
  | .dspFrameStart port => Sys2Proof.Machine.execDspFrameStart port s
  | .proofFlip port => Sys2Proof.Machine.execProofFlip port s
  | .dspLineMatch port => Sys2Proof.Machine.execDspLineMatch port s
  | .dspFrameDone port => Sys2Proof.Machine.execDspFrameDone port s
  | .dspTeEdge port => Sys2Proof.Machine.execDspTeEdge port s
  | .dspTeLost port => Sys2Proof.Machine.execDspTeLost port s
  | .dspUnderrun port line pixel => Sys2Proof.Machine.execDspUnderrun port line pixel s
  | .proofDataReceive port layer row data => Sys2Proof.Machine.execProofDataReceive port layer row data s
  | .dspHotplug port => Sys2Proof.Machine.execDspHotplug port s
  | .dspLinkLost port hpdFell => Sys2Proof.Machine.execDspLinkLost port hpdFell s
  | .dspRetrainTimer port => Sys2Proof.Machine.execDspRetrainTimer port s
  | .dspModeChanged port => Sys2Proof.Machine.execDspModeChanged port s
  | .thermConversion t code temp valid => Sys2Proof.Machine.execThermConversion t code temp valid s
  | .throttleStepInterval t => Sys2Proof.Machine.execThrottleStepInterval t s
  | .powerEstimateUpdate t est => Sys2Proof.Machine.execPowerEstimateUpdate t est s
  | .shedSavingMeasured t action => Sys2Proof.Machine.execShedSavingMeasured t action s
  | .trimDone t r => Sys2Proof.Machine.execTrimDone t r s
  | .encTrimApply t k => Sys2Proof.Machine.execEncTrimApply t k s
  | .boot t e => Sys2Proof.Machine.execBoot t e s
  | .imageReceive t e => Sys2Proof.Machine.execImageReceive t e s
  | .pairTimeout t => Sys2Proof.Machine.execPairTimeout t s
  | .aonSupplySwitch t toBat => Sys2Proof.Machine.execAonSupplySwitch t toBat s
  | .vbatMeasure t mv => Sys2Proof.Machine.execVbatMeasure t mv s
  | .jtagExtest on pins => Sys2Proof.Machine.execJtagExtest on pins s
  | .smbOtherNack cmd => Sys2Proof.Machine.execSmbOtherNack cmd s
  | .hostDmaReadDone seq data => Sys2Proof.Machine.execHostDmaReadDone seq data s
  | .msixMaskClear v => Sys2Proof.Machine.execMsixMaskClear v s
  | .dspLinkTrainingEnd port ok => Sys2Proof.Machine.execDspLinkTrainingEnd port ok s
  | .dramRetrainingDone t drift => Sys2Proof.Machine.execDramRetrainingDone t drift s
  | .flashWriteDone ok => Sys2Proof.Machine.execFlashWriteDone ok s
  | .packetDispatch => Sys2Proof.Machine.execPacketDispatch s
  | .queueMirrorReceive => Sys2Proof.Machine.execQueueMirrorReceive s
  | .absPoll => Sys2Proof.Machine.execAbsPoll s
  | .absTimeout => Sys2Proof.Machine.execAbsTimeout s
  | .pitchLoopUpdate => Sys2Proof.Machine.execPitchLoopUpdate s
  | .pitchLock => Sys2Proof.Machine.execPitchLock s
  | .pitchUnlock => Sys2Proof.Machine.execPitchUnlock s
  | .webStill => Sys2Proof.Machine.execWebStill s
  | .encLost => Sys2Proof.Machine.execEncLost s
  | .motionStateCopyReceive => Sys2Proof.Machine.execMotionStateCopyReceive s
  | .motionSourceT1 => Sys2Proof.Machine.execMotionSourceT1 s
  | .lineIssue => Sys2Proof.Machine.execLineIssue s
  | .fireTimestampReached => Sys2Proof.Machine.execFireTimestampReached s
  | .lensLock => Sys2Proof.Machine.execLensLock s
  | .lensUnlock => Sys2Proof.Machine.execLensUnlock s
  | .lensHoldExpired => Sys2Proof.Machine.execLensHoldExpired s
  | .lensReacquireEnter => Sys2Proof.Machine.execLensReacquireEnter s
  | .lensAcqFail => Sys2Proof.Machine.execLensAcqFail s
  | .colourCalDue => Sys2Proof.Machine.execColourCalDue s
  | .calSecondRollover => Sys2Proof.Machine.execCalSecondRollover s
  | .calDisciplineLost => Sys2Proof.Machine.execCalDisciplineLost s
  | .calSlewEnd => Sys2Proof.Machine.execCalSlewEnd s
  | .preserveCapture => Sys2Proof.Machine.execPreserveCapture s
  | .preserveFlashWrite => Sys2Proof.Machine.execPreserveFlashWrite s
  | .takebackStart => Sys2Proof.Machine.execTakebackStart s
  | .handoverEnd => Sys2Proof.Machine.execHandoverEnd s
  | .jobDrainEnd => Sys2Proof.Machine.execJobDrainEnd s
  | .coldReset => Sys2Proof.Machine.execColdReset s
  | .bootImageTimeout => Sys2Proof.Machine.execBootImageTimeout s
  | .tallyRecordWrite => Sys2Proof.Machine.execTallyRecordWrite s
  | .updateTimeout => Sys2Proof.Machine.execUpdateTimeout s
  | .smbReadTemp => Sys2Proof.Machine.execSmbReadTemp s
  | .smbReadBoot => Sys2Proof.Machine.execSmbReadBoot s
  | .smbReadVbat => Sys2Proof.Machine.execSmbReadVbat s
  | .smbReadEpoch => Sys2Proof.Machine.execSmbReadEpoch s
  | .smbAlertResponse => Sys2Proof.Machine.execSmbAlertResponse s
  | .hostControllerColdStartDone => Sys2Proof.Machine.execHostControllerColdStartDone s

end Sys2Proof.Machine
end

