-- ==== Sys2Proof/Machine/Tick.lean ====
section
/-! DEFINITION. One tick of TIMECLK: TIME counts, with the press servo's slew, and with it what the spec counts by time
alone (01 R41, R49; 10 R324; 15 R488; 19 R584; log 9). -/

namespace Sys2Proof.Machine

/-- Ticks of 0.1 h. -/
def tenthHour : Nat := 90_000_000_000

/-- The ticks that TIME takes: one, and at most once in 1,024 one more or one fewer by the press servo's slew (10 R324). -/
def State.tickStep (s : State) : Nat × Int :=
  let v := s.servo .up
  let c := v.slew
  if s.link.role = 1 || s.now % 1024 ≠ 0 || c.natAbs < 256 || v.heldAt == some s.now then (1, 0)
  else if 0 < c then (2, 256)
  else (0, -256)

/-- TIME counts on (01 R41). -/
def State.timeTick (s : State) : State :=
  let d := s.tickStep
  if d.2 = 0 then s.addTime d.1
  else (s.addTime d.1).updServo .up (fun v => { v with slew := v.slew - d.2, heldAt := if d.1 = 0 then some s.now else v.heldAt })

/-- The slew of a tile's TIME: one tick omitted or added, after a comparison with the master (01 R42). -/
def TileState.slewTick (x : TileState) : TileState := { x with skew := x.skew + x.slew, slew := 0 }

/-- Power-on hours of a tile: 0.1 h with PD_CTL on (19 R584). -/
def Boot.hourTick (b : Boot) : Boot :=
  if b.hoursRest + 1 < tenthHour then { b with hoursRest := b.hoursRest + 1 }
  else { b with hoursRest := 0, hours := satInc 32 b.hours }

/-- One tick counted in a tally of hours: at 0.1 h its count goes up (19 R584). -/
def hourTick (key : Nat) (m rest : NMap Nat) (restKey : Nat) : NMap Nat × NMap Nat :=
  let r := NMap.get 0 rest restKey + 1
  if r < tenthHour then (m, NMap.set 0 rest restKey r) else (NMap.upd 0 m key (satInc 32), NMap.set 0 rest restKey 0)

/-- Head module hours in READY, and channel hours in CLOSED (19 R584). -/
def State.leadHours (s : State) : State :=
  let mods := (s.link.nodes.filter (fun n => decide (n.st = 4 ∧ n.hello.kind = 3))).map (·.hello.uid)
  let chs := (List.range 12).filter (fun c => decide ((vget s.colour.ch c ColCh.reset).st = .closed))
  let a := mods.foldl (fun x u => hourTick u x.1 x.2 (2 * u)) (s.tallyMod, s.tallyRest)
  let b := chs.foldl (fun x c => hourTick (2 * c + 1) x.1 x.2 (2 * c + 1)) (s.tallyCol, a.2)
  { s with tallyMod := a.1, tallyCol := b.1, tallyRest := b.2 }

/-- A lane's tick: FILL while it was idle, which puts a trim correction into force, and then a frame that waits for it while no
LINE or VOID does (09 R295; 10 R309; 16 R508). -/
def State.laneTick (s : State) (t l : Nat) : State :=
  let s1 := s.fillLane t l
  let s2 := if vget (s1.tileN t).laneBusy l 0 = vget (s.tileN t).laneBusy l 0 then s1 else s1.trimBoundary t 0
  s2.drainLane t l (s2.nextFrame t l).isSome

/-- The lanes of a tile in one tick. -/
def State.lanesTick (s : State) (t : Nat) : State :=
  (List.range 10).foldl (fun s l => if (s.tileN t).laneSends l then s.laneTick t l else s) s

/-- One tick of TIMECLK. -/
def State.tick (s : State) : State :=
  let s1 := s.timeTick
  let s2 := s1.tileList.foldl (fun s t =>
    ((((if (s.tileN t).on 1 then s.updTileN t (fun x => { x with boot := x.boot.hourTick }) else s).updTileN t TileState.slewTick).domLate t).memcTick t).lanesTick t) s1
  s2.leadHours

end Sys2Proof.Machine
end

