-- ==== Sys2Proof/Machine/Step.lean ====
section
/-! DEFINITION. One step of the package: the command at the front of the queue, or one tick of TIME. -/

namespace Sys2Proof.Machine

/-- One step: the command at the front of the queue runs with the queue's rest; with no command, TIME takes one tick
(01 R41; log 9). -/
def step (s : State) : Host.Outcome State Fault Refusal :=
  match s.pending with
  | [] => .next s.tick
  | c :: rest => exec c { s with pending := rest }

/-- The package with the command that a table word spells put at the front of its queue; no word spells one, so the
package is unchanged (log 10). -/
def State.withFetchWord (s : State) (nbits w : Nat) : State :=
  match decodeTableWord nbits w with
  | some c => { s with pending := c :: s.pending }
  | none => s

end Sys2Proof.Machine
end

