-- ==== Sys2Proof/Machine/Balls.lean ====
section
/-! DEFINITION. The balls of a package: the name of every position and the function it carries (20 R596 to R603). -/

namespace Sys2Proof.Machine

/-- The supplies a ball may carry (20 R599 to R602). -/
inductive Rail where
  | vss | core | sram | vdd2h | vddq | ser09 | ser12 | io | enc
  deriving DecidableEq, Repr

/-- The function of a ball. `t` is a tile, `n` the negative of a pair (20 R599 to R601). -/
inductive Ball where
  /-- BARk for k 0 to 7, REACH(k - 8) for k 8 and 9. -/
  | lane (t k : Nat) (tx n : Bool)
  /-- LANEREFA, B and C as 0 to 2. -/
  | laneRef (t r : Nat) (n : Bool)
  | refclk (t : Nat) (n : Bool)
  | vrefExt (t : Nat)
  | evi (t i : Nat)
  | ddrReset (t : Nat)
  | ddrZq (t : Nat)
  | dq (t ch k : Nat)
  | dmi (t ch k : Nat)
  | rdqs (t ch k : Nat) (n : Bool)
  | wck (t ch k : Nat) (n : Bool)
  | ck (t ch : Nat) (n : Bool)
  | ca (t ch k : Nat)
  | cs (t ch k : Nat)
  | pe (port lane : Nat) (tx n : Bool)
  | peRefclk (port : Nat) (n : Bool)
  /-- PERST_L, WAKE_L and CLKREQ_L as 0 to 2. -/
  | peSide (port k : Nat)
  | dpMl (port l : Nat) (n : Bool)
  | dpAux (port : Nat) (n : Bool)
  | dpHpd (port : Nat)
  | te (port : Nat)
  | dpRefclk (port : Nat) (n : Bool)
  /-- CAL_XI and CAL_XO as 0 and 1. -/
  | crystal (cal k : Nat)
  /-- WEB, LENS_L, LENS_R and LENS_ROW as 0 to 3; pairs A, B and Z as 0 to 2. -/
  | quad (i pair : Nat) (n : Bool)
  | absClk (n : Bool)
  | absData (n : Bool)
  /-- CAP, CLEAR and PRINT of a carriage group as 0 to 2. -/
  | carr (g k : Nat)
  | rej (i : Nat)
  | lineStop
  | pd (i : Nat)
  | xspiDq (i : Nat)
  /-- XSPI_CLK, DQS, CS_L and RST_L as 0 to 3. -/
  | xspi (k : Nat)
  /-- TCK, TMS, TDI, TDO and TRST_L as 0 to 4. -/
  | jtag (k : Nat)
  /-- SMB_SCL, SDA and ALERT_L as 0 to 2. -/
  | smb (k : Nat)
  | uart (rx : Bool)
  | sysRst
  | vbat
  | rail (r : Rail)
  deriving DecidableEq, Repr

/-- Rows, and columns, of a part's array (20 R596). -/
def arraySize : Part → Nat
  | .ga402 => 39
  | .ga404 => 47
  | .ga408 => 55

/-- L(1) to L(19) (20 R597). -/
def rowLetters : List Char := ['A', 'B', 'C', 'D', 'E', 'F', 'G', 'H', 'J', 'K', 'L', 'M', 'N', 'P', 'T', 'U', 'V', 'W', 'Y']
/-- The letters of a row, 1 to 57 (20 R597). -/
def rowName (r : Nat) : List Char :=
  let l := fun (k : Nat) => rowLetters.getD (k - 1) '?'
  if r ≤ 19 then [l r] else if r ≤ 38 then ['A', l (r - 19)] else ['B', l (r - 38)]

/-- The origin of the block of a tile, of HA and of HB (20 R598). -/
def tileOrigin (p : Part) (t : Nat) : Nat × Nat :=
  match p with
  | .ga402 => (1 + 13 * t, 1)
  | _ => (1 + 13 * (t / 2), 1 + 22 * (t % 2))
/-- The origin of HA (20 R598). -/
def haOrigin : Part → Nat × Nat
  | .ga402 => (1, 23)
  | .ga404 => (27, 1)
  | .ga408 => (1, 45)
/-- The origin of HB (20 R598). -/
def hbOrigin : Part → Nat × Nat
  | .ga402 => (20, 23)
  | .ga404 => (27, 12)
  | .ga408 => (20, 45)

/-- The local position of a ball in a block of h rows and w columns, if it lies inside (20 R598). -/
def localAt (o : Nat × Nat) (h w r c : Nat) : Option (Nat × Nat) :=
  if o.1 ≤ r ∧ r < o.1 + h ∧ o.2 ≤ c ∧ c < o.2 + w then some (r - o.1 + 1, c - o.2 + 1) else none

/-- The negative of a pair whose positive stands at an odd column. -/
def evenCol (j : Nat) : Bool := decide (j % 2 = 0)

/-- The rows of a DRAM channel: the first and the second (20 R599). -/
def ddrBall (t ch i j : Nat) : Ball :=
  if j ≤ 8 then .dq t ch (8 * i + j - 1)
  else if j = 9 then .dmi t ch i
  else if j ≤ 11 then .rdqs t ch i (decide (j = 11))
  else if j ≤ 13 then .wck t ch i (decide (j = 13))
  else if i = 0 then (if j ≤ 15 then .ck t ch (decide (j = 15)) else .ca t ch (j - 16))
  else if j ≤ 15 then .cs t ch (j - 14)
  else .rail .vss

/-- The pattern of a tile's block (20 R599). -/
def tileBall (t i j : Nat) : Ball :=
  if i = 1 then (if j ≤ 20 then .lane t ((j - 1) / 2) true (evenCol j) else .laneRef t 0 (evenCol j))
  else if i = 2 then (if j ≤ 20 then .rail .vss else .laneRef t 2 (evenCol j))
  else if i = 3 then (if j ≤ 20 then .lane t ((j - 1) / 2) false (evenCol j) else .laneRef t 1 (evenCol j))
  else if i = 4 then
    (if j ≤ 2 then .refclk t (evenCol j)
     else if j = 4 then .vrefExt t
     else if j ≤ 5 then .rail .vss
     else if j ≤ 9 then .evi t (j - 6)
     else if j = 10 then .ddrReset t
     else if j = 11 then .ddrZq t
     else if j ≤ 17 then .rail .ser09
     else if j ≤ 20 then .rail .ser12
     else .rail .io)
  else if i ≤ 12 then ddrBall t ((i - 5) / 2) ((i - 5) % 2) j
  else if j ≤ 8 then .rail .vddq
  else if j ≤ 12 then .rail .vdd2h
  else .rail .sram

/-- The pattern of HA (20 R600). -/
def haBall (i j : Nat) : Ball :=
  if i ≤ 16 then
    (if j ≤ 2 then .pe 0 (i - 1) true (decide (j = 2))
     else if j = 4 ∨ j = 5 then .pe 0 (i - 1) false (decide (j = 5))
     else if i ≤ 8 ∧ (j = 7 ∨ j = 8) then .pe 1 (i - 1) true (decide (j = 8))
     else if i ≤ 8 ∧ 10 ≤ j then .pe 1 (i - 1) false (decide (j = 11))
     else .rail .vss)
  else if i = 17 then
    (if j ≤ 2 then .peRefclk 0 (decide (j = 2))
     else if j ≤ 5 then .peSide 0 (j - 3)
     else if j = 6 then .rail .vss
     else if j ≤ 8 then .peRefclk 1 (decide (j = 8))
     else .peSide 1 (j - 9))
  else if i = 18 then .rail .ser09
  else .rail .ser12

/-- The two rows of a display port (20 R601). -/
def dpBall (p i j : Nat) : Ball :=
  if i = 1 then (if j % 3 = 0 then .rail .vss else .dpMl p (j / 3) (decide (j % 3 = 2)))
  else if j ≤ 2 then .dpAux p (decide (j = 2))
  else if j = 4 then .dpHpd p
  else if j = 5 then .te p
  else if j = 7 ∨ j = 8 then .dpRefclk p (decide (j = 8))
  else if 10 ≤ j then .crystal p (j - 10)
  else .rail .vss

/-- The service rows of HB, from row 11 on (20 R601). -/
def serviceBall (i j : Nat) : Ball :=
  if i = 11 then
    (if j ≤ 2 then .absClk (decide (j = 2))
     else if j = 4 ∨ j = 5 then .absData (decide (j = 5))
     else if 7 ≤ j ∧ j ≤ 9 then .carr 0 (j - 7)
     else if j = 10 then .rail .enc
     else .rail .vss)
  else if i = 12 then
    (if j ≤ 3 then .carr 1 (j - 1) else if j ≤ 6 then .carr 2 (j - 4) else if j ≤ 10 then .rej (j - 7) else .lineStop)
  else if i = 13 then (if j ≤ 8 then .pd (j - 1) else if j ≤ 10 then .rail .enc else .rail .vss)
  else if i = 14 then (if j ≤ 8 then .xspiDq (j - 1) else .xspi (j - 9))
  else if i = 15 then
    (if j = 1 then .xspi 3
     else if 3 ≤ j ∧ j ≤ 7 then .jtag (j - 3)
     else if 8 ≤ j ∧ j ≤ 10 then .smb (j - 8)
     else .rail .vss)
  else if i = 16 then
    (if j ≤ 2 then .uart (decide (j = 2))
     else if j = 4 then .sysRst
     else if j = 6 then .vbat
     else if 8 ≤ j then .rail .io
     else .rail .vss)
  else if i = 17 then .rail .io
  else if i = 18 then .rail .enc
  else .rail .vss

/-- The pattern of HB (20 R601). -/
def hbBall (i j : Nat) : Ball :=
  if i ≤ 2 then dpBall 0 i j
  else if i = 3 ∨ i = 6 then .rail .vss
  else if i ≤ 5 then dpBall 1 (i - 3) j
  else if i ≤ 10 then
    (if j = 10 then .rail .enc else if j % 3 = 0 ∨ j = 11 then .rail .vss else .quad (i - 7) (j / 3) (decide (j % 3 = 2)))
  else serviceBall i j

/-- A fill ball (20 R602). -/
def fillBall (p : Part) (r c : Nat) : Ball :=
  if p = .ga408 then .rail .core else if (r + c) % 2 = 1 then .rail .core else .rail .vss

/-- The function of the ball at a row and a column of a part (20 R598). -/
def ballAt (p : Part) (r c : Nat) : Ball :=
  match (List.range p.tiles).findSome? (fun t => (localAt (tileOrigin p t) 13 22 r c).map (fun q => tileBall t q.1 q.2)) with
  | some b => b
  | none => match localAt (haOrigin p) 19 11 r c with
    | some q => haBall q.1 q.2
    | none => match localAt (hbOrigin p) 19 11 r c with
      | some q => hbBall q.1 q.2
      | none => fillBall p r c

/-- The balls of a part that satisfy a test (20 R603). -/
def ballCount (p : Part) (f : Ball → Bool) : Nat :=
  ((List.range (arraySize p)).map (fun r => ((List.range (arraySize p)).filter (fun c => f (ballAt p (r + 1) (c + 1)))).length)).foldl (· + ·) 0

end Sys2Proof.Machine
end

