-- ==== Sys2Proof/Safety.lean ====
section
/-! DEFINITION. What counts as a well-kept package, and the words in which claims speak of packets: admitted, done, waiting. -/

namespace Sys2Proof.Machine

/-! ## What holds in every state that a run from reset reaches -/

/-- The job memory of a tile is in canonical form, and its event log holds at most 1,024 records (14 R461). -/
def TileState.Ok (x : TileState) : Prop := Mem.wf x.mem = true ∧ x.evr.log.length ≤ 1024

/-- Session 0 is open with its class, group mask, windows and limits (12 R410): only the time of its last refusal moves. -/
def Qen.Ok (q : Qen) : Prop := (vget q.sessions 0 none).map (fun x => { x with denied := none }) = some Session.admin

/-- The package is well kept: host memory and job memories in canonical form, logs within their bound, session 0 open. -/
def State.Ok (s : State) : Prop := Mem.wf s.host = true ∧ (∀ t : Tile, (s.tile t).Ok) ∧ s.qen.Ok

/-! ## Packets (12 R404) -/

/-- A packet's completion is decided, with a status and results. -/
def State.DoneWith (s : State) (seq status r0 r1 : Nat) : Prop :=
  ∃ e, s.entry seq = some e ∧ e.st = .done ∧ e.status = status ∧ e.r0 = r0 ∧ e.r1 = r1

/-- A packet is PARKED and waits for something. -/
def State.ParkedOn (s : State) (seq : Nat) (w : Wait) : Prop := ∃ e, s.entry seq = some e ∧ e.st = .parked ∧ e.wait = w

/-- A packet is RUNNING and waits for something. -/
def State.RunningOn (s : State) (seq : Nat) (w : Wait) : Prop := ∃ e, s.entry seq = some e ∧ e.st = .running ∧ e.wait = w

/-- A queue pair apart from its moderation. -/
def QueuePair.quiet (x : QueuePair) : QueuePair := { x with win := none, pmeSent := false }

/-- The package beside its queue engine. -/
def State.beside (s : State) : State := { s with qen := State.reset.qen }

/-- A dispatched packet passes the checks before its effect: protection, reserved bits, the opcode's own (13 R435). -/
def OpDef.Passes (d : OpDef) (s : State) (p : Packet) : Prop :=
  s.begun p.seq = false ∧ (s.place p).protCheck d p (d.access (s.place p) p []) = 0 ∧ rsvdOk d.named p = true ∧
    (d.check (s.place p) p).1 = St.ok

/-- The package with a packet in the store that has passed: what it takes at dispatch is taken (04 R157). -/
def OpDef.held (d : OpDef) (s : State) (p : Packet) : State := d.hold (s.place p) p

/-- A packet that passes reads a host buffer of n bytes at address a. -/
def OpDef.Reads (d : OpDef) (s : State) (p : Packet) (a n : Nat) : Prop := d.Passes s p ∧ d.read (d.held s p) p = some (a, n)

/-- A packet that passes takes its effect at once: no host buffer, all it names bound, no earlier write to wait for. -/
def OpDef.Runs (d : OpDef) (s : State) (p : Packet) : Prop :=
  d.Passes s p ∧ d.read (d.held s p) p = none ∧ (d.held s p).protCheck d p (d.access (d.held s p) p []) = 0 ∧
    (d.bind (d.held s p) p []).1.1 = 0 ∧
    (d.waits (d.bind (d.held s p) p []).2 p [] = 0 ∨
      (d.bind (d.held s p) p []).2.landed p (d.waits (d.bind (d.held s p) p []).2 p []) ((d.bind (d.held s p) p []).2.dispOf p.seq) = true)

/-- A packet whose host buffer arrives whole takes its effect: it waits for n bytes, its windows admit what the bytes name, all
it names is bound, and no earlier write is awaited. -/
def OpDef.Takes (d : OpDef) (s : State) (p : Packet) (bs : List Byte) : Prop :=
  (∃ e a, s.entry p.seq = some e ∧ e.p = p ∧ e.st = .running ∧ e.wait = .dma a bs.length) ∧
    (s.run p.seq .work).protCheck d p (d.access (s.run p.seq .work) p bs) = 0 ∧ (d.bind (s.run p.seq .work) p bs).1.1 = 0 ∧
    (d.waits (d.bind (s.run p.seq .work) p bs).2 p bs = 0 ∨
      (d.bind (s.run p.seq .work) p bs).2.landed p (d.waits (d.bind (s.run p.seq .work) p bs).2 p bs)
        ((d.bind (s.run p.seq .work) p bs).2.dispOf p.seq) = true)

/-- A packet is fed its host buffer: it passes, reads the buffer, and with the buffer's bytes takes its effect. -/
def OpDef.Feeds (d : OpDef) (s : State) (p : Packet) (bs : List Byte) : Prop :=
  opOf p.opcode = some d ∧ ∃ a, d.Reads s p a bs.length ∧ d.Takes ((d.held s p).run p.seq (.dma a bs.length)) p bs

/-- The package while a packet takes its effect: in the store, RUNNING, with what it names bound. -/
def OpDef.at (d : OpDef) (s : State) (p : Packet) : State := (d.bind (d.held s p) p []).2

/-- The package while a packet fed its host buffer takes its effect. -/
def OpDef.fed (d : OpDef) (s : State) (p : Packet) (bs : List Byte) : State :=
  (d.bind (((d.held s p).run p.seq (.dma (((d.read (d.held s p) p).getD (0, 0)).1) bs.length)).run p.seq .work) p bs).2

/-- A print change of a packet takes effect, or is on its way to (01 R60, R617; 11 R359, R380): with no job armed it is in force and
the packet completes; while a job is armed the packet is PARKED on its commit, prepared now, or held while the lead is handed over; with
no tile to answer, the commit is committed and the packet completes with its line. -/
def State.TakesChange (s u : State) (seq : Nat) (c : Change) : Prop :=
  (s.armed = false → u.beside = (s.settleChange c).beside ∧ u.DoneWith seq St.ok 0 0) ∧
  (s.armed = true → s.inHandover = true →
    u.ParkedOn seq (.commit s.job.cseq) ∧ u.job = { s.job with held := s.job.held ++ [(c, 0, seq)] }) ∧
  (s.armed = true → s.inHandover = false → s.ackTiles c ≠ [] → u.ParkedOn seq (.commit s.job.cseq) ∧
    u.job = { s.job with
      cseq := (s.job.cseq + 1) % 2 ^ 32
      commits := s.job.commits ++ [{ cseq := s.job.cseq, line := s.chooseLine c, fixed := false, change := c, seq := seq,
                                     awaiting := s.ackTiles c, preparing := s.prepareTiles c, committed := false }] }) ∧
  (s.armed = true → s.inHandover = false → s.ackTiles c = [] → (∀ d ∈ s.job.commits, d.cseq ≠ s.job.cseq) →
    u.DoneWith seq St.ok (lineR0 (s.chooseLine c)) (lineR1 (s.chooseLine c)) ∧
    u.job = { s.job with
      cseq := (s.job.cseq + 1) % 2 ^ 32
      commits := s.job.commits ++ [{ cseq := s.job.cseq, line := s.chooseLine c, fixed := false, change := c, seq := seq,
                                     awaiting := [], preparing := s.prepareTiles c, committed := true }] })

/-- A product-boundary change of a packet takes effect, or is on its way to (01 R61, R617), where none waits before it: with no job
armed it is in force and the packet completes; while a job is armed it waits for a product, or is prepared for that product's first line. -/
def State.TakesBoundary (s u : State) (seq : Nat) (c : Change) : Prop :=
  (s.armed = false → u.beside = (s.settleChange c).beside ∧ u.DoneWith seq St.ok 0 0) ∧
  (s.armed = true → s.job.boundary = [] → (s.inHandover || (c.isZone && s.zoneBlocked)) = true ∨ s.boundaryLine c = none →
    u.ParkedOn seq .product ∧ u.job = { s.job with boundary := [(c, seq)] }) ∧
  (∀ n, s.armed = true → s.job.boundary = [] → (s.inHandover || (c.isZone && s.zoneBlocked)) = false → s.boundaryLine c = some n →
    n ≠ 0 → s.ackTiles c ≠ [] → u.ParkedOn seq (.commit s.job.cseq) ∧
      u.job = { s.job with
        cseq := (s.job.cseq + 1) % 2 ^ 32
        commits := s.job.commits ++ [{ cseq := s.job.cseq, line := n, fixed := true, change := c, seq := seq,
                                       awaiting := s.ackTiles c, preparing := s.prepareTiles c, committed := false }] })

/-- A command that both motion blocks see answers with a package, whatever the block that is not active comes to (02 R85). -/
def State.Gives (s : State) (c : Instr) (u : State) : Prop :=
  ∃ o, exec c s = .next (u.updMot (fun m => { m with other := o })) ∧ (s.motion.other = none → o = u.motion.other)

/-- The opcode and the packet that a command dispatches: every row of chapter 13, and no other command. -/
def dispatched (i : Instr) : Option (OpDef × Packet) :=
  match i with
  | .sessionOpen p => some (opSessionOpen, p)
  | .sessionClose p => some (opSessionClose, p)
  | .sessionProt p => some (opSessionProt, p)
  | .sessionQueue p => some (opSessionQueue, p)
  | .sessionQdelete p => some (opSessionQdelete, p)
  | .sessionInfo p => some (opSessionInfo, p)
  | .memWrite p => some (opMemWrite, p)
  | .memRead p => some (opMemRead, p)
  | .memFence p => some (opMemFence, p)
  | .memCompress p => some (opMemCompress, p)
  | .memVerify p => some (opMemVerify, p)
  | .memInfo p => some (opMemInfo, p)
  | .jobArm p => some (opJobArm, p)
  | .jobChange p => some (opJobChange, p)
  | .jobDisarm p => some (opJobDisarm, p)
  | .jobStatus p => some (opJobStatus, p)
  | .jobCheck p => some (opJobCheck, p)
  | .layerSet p => some (opLayerSet, p)
  | .layerFlip p => some (opLayerFlip, p)
  | .layerSignal p => some (opLayerSignal, p)
  | .layerStatus p => some (opLayerStatus, p)
  | .markClock p => some (opMarkClock, p)
  | .markRules p => some (opMarkRules, p)
  | .markShifts p => some (opMarkShifts, p)
  | .markGlyphs p => some (opMarkGlyphs, p)
  | .markField p => some (opMarkField, p)
  | .markCounter p => some (opMarkCounter, p)
  | .markLot p => some (opMarkLot, p)
  | .markStatus p => some (opMarkStatus, p)
  | .markNames p => some (opMarkNames, p)
  | .rayBind p => some (opRayBind, p)
  | .rayLens p => some (opRayLens, p)
  | .rayAcquire p => some (opRayAcquire, p)
  | .rayViewmap p => some (opRayViewmap, p)
  | .rayStatus p => some (opRayStatus, p)
  | .rayPanel p => some (opRayPanel, p)
  | .dropScreen p => some (opDropScreen, p)
  | .dropSlots p => some (opDropSlots, p)
  | .dropNozzles p => some (opDropNozzles, p)
  | .dropZonelut p => some (opDropZonelut, p)
  | .dropStatus p => some (opDropStatus, p)
  | .colourSetup p => some (opColourSetup, p)
  | .colourSens p => some (opColourSens, p)
  | .colourClose p => some (opColourClose, p)
  | .colourOpen p => some (opColourOpen, p)
  | .colourCal p => some (opColourCal, p)
  | .colourReset p => some (opColourReset, p)
  | .colourStatus p => some (opColourStatus, p)
  | .colourLog p => some (opColourLog, p)
  | .motionRephase p => some (opMotionRephase, p)
  | .motionCompare p => some (opMotionCompare, p)
  | .motionStatus p => some (opMotionStatus, p)
  | .motionStopreq p => some (opMotionStopreq, p)
  | .linkNodes p => some (opLinkNodes, p)
  | .linkList p => some (opLinkList, p)
  | .linkCtrl p => some (opLinkCtrl, p)
  | .linkLeave p => some (opLinkLeave, p)
  | .linkTime p => some (opLinkTime, p)
  | .linkScan p => some (opLinkScan, p)
  | .linkRemap p => some (opLinkRemap, p)
  | .linkLane p => some (opLinkLane, p)
  | .linkTest p => some (opLinkTest, p)
  | .twinAssay p => some (opTwinAssay, p)
  | .twinWithdraw p => some (opTwinWithdraw, p)
  | .twinRejoin p => some (opTwinRejoin, p)
  | .twinRestart p => some (opTwinRestart, p)
  | .twinLead p => some (opTwinLead, p)
  | .twinStatus p => some (opTwinStatus, p)
  | .twinPreserve p => some (opTwinPreserve, p)
  | .dispMode p => some (opDispMode, p)
  | .dispPower p => some (opDispPower, p)
  | .dispFlip p => some (opDispFlip, p)
  | .dispStatus p => some (opDispStatus, p)
  | .parmGet p => some (opParmGet, p)
  | .parmSet p => some (opParmSet, p)
  | .parmList p => some (opParmList, p)
  | .svcPower p => some (opSvcPower, p)
  | .svcImage p => some (opSvcImage, p)
  | .svcUpdate p => some (opSvcUpdate, p)
  | .svcTally p => some (opSvcTally, p)
  | .svcTrim p => some (opSvcTrim, p)
  | .svcThermal p => some (opSvcThermal, p)
  | .diagEcho p => some (opDiagEcho, p)
  | .diagRegread p => some (opDiagRegread, p)
  | .diagRegwrite p => some (opDiagRegwrite, p)
  | .diagEvlog p => some (opDiagEvlog, p)
  | _ => none

end Sys2Proof.Machine
end

