-- ==== Sys2Proof/Certificates/Slice0/Obligations.lean ====
section
/-! DEFINITION. What is claimed of the package: the statements for the provers. A clause about a command gives its effect
under conditions on the package and the operands; `beside` compares everything but the queue engine. -/

open Sys2Proof Sys2Proof.Machine


/-- Every step keeps the package well kept (R101, R391, R410, R461): memories in canonical form, event logs within 1,024 records, session 0 open with its
class, mask, windows and limits. -/
def Obligations.StepKeepsWellKept : Prop := ∀ s u : State, s.Ok → step s = .next u → u.Ok

/-- The package after reset is well kept: T0 leads (R374), session 0 alone is open (R411), the queue engine is off with no packet, there is no job,
product or commit, and every tile is in BOOT (R348); no command waits. That TIME and the last register read are 0 is the model's own (log 8). -/
def Obligations.ResetIsWellKept : Prop :=
  State.reset.Ok ∧ State.reset.pending = [] ∧ State.reset.now = 0 ∧ State.reset.lead.tile = 0 ∧ State.reset.qen.store = [] ∧
    State.reset.qen.en = false ∧ State.reset.qen.ready = false ∧ State.reset.job.products = [] ∧ State.reset.job.commits = [] ∧
    State.reset.busRead = 0 ∧ State.reset.smbAlert = false ∧ (∀ t : Tile, (State.reset.tile t).twin = .boot) ∧
    (∀ n : Fin 256, n.val ≠ 0 → State.reset.session n.val = none)

/-- A step takes the command at the front of the queue and runs it on the package with the rest; with none, one tick of TIME passes (the model's own
choice, log 9): TIME goes on by one, or with the press servo's slew (R324) by two or not at all. Where the spec leaves a point open this follows the
model's choice of log 9, 10, 115. -/
def Obligations.StepTakesTheFrontCommand : Prop :=
  (∀ (s : State) c rest, s.pending = c :: rest → step s = exec c { s with pending := rest }) ∧
  (∀ (s : State), s.pending = [] → step s = .next s.tick) ∧
  (∀ (s : State) nbits w, decodeTableWord nbits w = none ∧ s.withFetchWord nbits w = s)

/-- A tick (R41, R324): TIME goes on by one, wrapping at 2^64, but once in 1,024 ticks by the press servo's slew by two or not at all, and in the press
master never; after a tick left out the next one counts. The products, host memory, the queue of commands and the part are left alone. Where the spec
leaves a point open this follows the model's choice of log 9, 76. -/
def Obligations.TicksCountTime : Prop :=
  (∀ (s : State), s.tickStep.2 = 0 → s.tick.time = s.time + 1) ∧
  (∀ (s : State), s.tickStep.2 ≠ 0 → s.tick.time = s.time ∨ s.tick.time = s.time + 2) ∧
  (∀ (s : State), s.link.role = 1 → s.tickStep.2 = 0) ∧
  (∀ (s : State), s.now % 1024 ≠ 0 → s.tickStep.2 = 0) ∧
  (∀ (s : State), s.tickStep.1 = 0 → s.tick.time = s.time ∧ s.tick.tickStep = (1, 0)) ∧
  (∀ (s : State), s.tick.job.products = s.job.products ∧ s.tick.host = s.host ∧ s.tick.pending = s.pending ∧ s.tick.part = s.part)

/-- No command is refused, and none stops but on a tile or twin that the part does not have (R16): on the GA-408 every command answers a next state.
Whatever a command does, the queue of commands and the part are left alone, and free values are taken in order. Where the spec leaves a point open
this follows the model's choice of log 4, 12. -/
def Obligations.CommandsAnswer : Prop :=
  ((∀ (i : Instr) (s : State), s.part = .ga408 → ∃ u : State, exec i s = .next u) ∧
  (∀ (i : Instr) (s : State), (∃ u : State, exec i s = .next u) ∨ exec i s = .fault .absentUnit) ∧
  (∀ (i : Instr) (s : State) d p, dispatched i = some (d, p) → exec i s = .next (d.dispatch s p))) ∧
  (∀ (i : Instr) (s u : State), s.Ok → exec i s = .next u → u.pending = s.pending ∧ u.part = s.part ∧ s.free ≤ u.free)

/-- The checks of a dispatched packet come in their order (R414, R431, R435): the protection in force, reserved bits, the opcode's own; the first that
fails gives the status, and the packet has no effect beside the queue engine but PROT_DENIED, once a second. Where the spec leaves a point open this
follows the model's choice of log 3, 11. -/
def Obligations.PacketsAreCheckedInOrder : Prop :=
  ∀ (i : Instr) (d : OpDef) (p : Packet) (s : State), dispatched i = some (d, p) →
    let prot := (s.place p).protCheck d p (d.access (s.place p) p [])
    (s.begun p.seq = true → exec i s = .next s) ∧
    (s.begun p.seq = false → prot ≠ 0 → ∃ u : State, exec i s = .next (u.denied p prot) ∧ u.DoneWith p.seq prot 0 0 ∧ u.beside = s.beside ∧
      (∀ x n, u.session p.session = some x → x.denied = some n → u.now < n + 250_000_000 → u.denied p prot = u)) ∧
    (s.begun p.seq = false → prot = 0 → rsvdOk d.named p = false → ∃ u : State, exec i s = .next u ∧ u.DoneWith p.seq St.rsvdSet 0 0 ∧
      u.beside = s.beside) ∧
    (s.begun p.seq = false → prot = 0 → rsvdOk d.named p = true → (d.check (s.place p) p).1 ≠ St.ok → ∃ u : State, exec i s = .next u ∧
      u.DoneWith p.seq (d.check (s.place p) p).1 ((d.check (s.place p) p).2.1 % 2 ^ 32) ((d.check (s.place p) p).2.2 % 2 ^ 31) ∧
      u.beside = s.beside) ∧
    (∀ a n, d.Reads s p a n → ∃ u : State, exec i s = .next u ∧ u.RunningOn p.seq (.dma a n) ∧ u.beside = (d.held s p).beside) ∧
    (∀ bs, d.Feeds s p bs → ∃ (u v : State), exec i s = .next u ∧ exec (.hostDmaReadDone p.seq (some bs)) u = .next v ∧
      v = d.act (d.fed s p bs) p bs)

/-- Protection (R410, R414, R435): a packet passes only with its group in the session's mask, its class among the opcode's, and windows with the right
over every byte it touches on every span; session 0 needs no window. -/
def Obligations.ProtectionAdmitsWhatItCovers : Prop :=
  (∀ (s : State) (p : Packet), (s.place p).rights p = s.session p.session) ∧
  (∀ (s : State) (d : OpDef) (p : Packet) (as : List Access) (x : Session), s.rights p = some x →
    (bit x.mask (p.opcode / 256) = false → s.protCheck d p as = St.protGroup) ∧
    (bit x.mask (p.opcode / 256) = true → bit d.cls x.cls = false → s.protCheck d p as = St.protClass) ∧
    (s.protCheck d p as = 0 → p.session ≠ 0 → ∀ a ∈ as, ∀ k, k < 4 → bit a.spans k = true → ∀ b, a.base ≤ b → b < a.base + a.len →
      ∃ w ∈ x.windows, bit w.spans k = true ∧ bit w.rights (if a.write then 1 else 0) = true ∧ w.base ≤ b ∧ b < w.base + w.len)) ∧
  (∀ (s : State) d p as, s.rights p = none → s.protCheck d p as = St.sessionClosed) ∧
  (∀ (i : Instr) (d : OpDef) (p : Packet), dispatched i = some (d, p) → opOf d.code = some d)

/-- R451: while PD_DISP is off (on both lead tiles) DISP.MODE, DISP.FLIP and DISP.POWER off fail with ST_DISP_STATE, and so does a DISP.MODE dispatched
while another has not completed. Where the spec leaves a point open this follows the model's choice of log 63. -/
def Obligations.DisplayCommandsNeedTheirDomain : Prop :=
  ∀ (i : Instr) (d : OpDef) (p : Packet) (s : State), dispatched i = some (d, p) → s.begun p.seq = false →
    (s.place p).protCheck d p (d.access (s.place p) p []) = 0 → rsvdOk d.named p = true →
    (s.dispDark = true → (i = .dispMode p ∨ i = .dispFlip p ∨ (i = .dispPower p ∧ p.f 2 0 0 = 0)) →
      ∃ u : State, exec i s = .next u ∧ u.DoneWith p.seq St.dispState 0 0 ∧ u.beside = s.beside) ∧
    (∀ e ∈ s.qen.store, e.p.opcode = 0x0C01 → e.p.seq ≠ p.seq → (e.st = .running ∨ e.st = .parked) → i = .dispMode p →
      ∃ u : State, exec i s = .next u ∧ u.DoneWith p.seq St.dispState 0 0 ∧ u.beside = s.beside) ∧
    (i = .dispStatus p ∨ (i = .dispPower p ∧ p.f 2 0 0 = 1) → (d.check (s.place p) p).1 = St.ok)

/-- R446: a LAYER.SIGNAL from a session that is neither session 0 nor the one whose flip named the fence completes with ST_FENCE_UNKNOWN, and the fence
stays busy; from those two it passes the check of its fence. -/
def Obligations.FencesAreSignalledByTheirSession : Prop :=
  ∀ (s : State) (p : Packet), s.begun p.seq = false → (s.place p).protCheck opLayerSignal p [] = 0 → rsvdOk opLayerSignal.named p = true →
    ((∀ f ∈ s.job.fences, f.id = p.f 2 11 0 → p.session ≠ 0 ∧ f.session ≠ p.session) →
      ∃ u : State, exec (.layerSignal p) s = .next u ∧ u.DoneWith p.seq St.fenceUnknown 0 0 ∧ u.job.fences = s.job.fences ∧ u.beside = s.beside) ∧
    (∀ f ∈ s.job.fences, f.id = p.f 2 11 0 → f.signal = none → (p.session = 0 ∨ f.session = p.session) →
      opLayerSignal.Passes s p)

/-- R585: a thermal cycle counts when the filtered temperature reaches TALLY_TC_HI after it was last below TALLY_TC_LO, and then not again before it has
been below once more. -/
def Obligations.ThermalCyclesAreCounted : Prop :=
  ∀ (s : State) (t : Tile), t.val < s.nTiles → let b := (s.tile t).boot
    let u := s.thermCycle t.val
    u.qen = s.qen ∧ u.job = s.job ∧ (∀ k, k ≠ t → u.tile k = s.tile k) ∧
    ((s.thm t.val).temp < s.item Pid.tallyTcLo → (u.tile t).boot = { b with cycleArmed := true }) ∧
    (s.item Pid.tallyTcLo ≤ (s.thm t.val).temp → s.item Pid.tallyTcHi ≤ (s.thm t.val).temp → b.cycleArmed = true →
      (u.tile t).boot = { b with cycleArmed := false, cycles := satInc 32 b.cycles }) ∧
    (s.item Pid.tallyTcLo ≤ (s.thm t.val).temp → (b.cycleArmed = false ∨ (s.thm t.val).temp < s.item Pid.tallyTcHi) → u = s)

/-- SESSION.OPEN, CLOSE, PROT, QUEUE and QDELETE take the effects of R411, R412, R415 and R425. A session of a table with no window takes its effect at
its dispatch, any other once its table is read. Under conditions on the package and the operands alone exec answers the next state of the command's
own effect: sessionOpen, sessionClose, sessionProt, sessionQueue, sessionQdelete, hostDmaReadDone. -/
def Obligations.SessionCommandsTakeEffect : Prop :=
  (∀ s p, opSessionOpen.Runs s p → p.f 7 4 0 = 0 → ∃ u, exec (.sessionOpen p) s = .next u ∧
    u.session (p.f 2 7 0) = some { cls := p.f 2 9 8, mask := p.f 3 15 0, windows := [], storeMax := p.f 4 11 0,
                                   runMax := p.f 4 23 16, closing := none, denied := none } ∧
    u.DoneWith p.seq St.ok 0 0 ∧ u.beside = (s.raiseLead Ev.sessionChange [p.f 2 7 0, 0]).beside) ∧
  (∀ s p bs ws, opSessionOpen.Feeds s p bs → windowsOf (p.f 7 4 0) bs = some ws →
    ∃ u v, exec (.sessionOpen p) s = .next u ∧ exec (.hostDmaReadDone p.seq (some bs)) u = .next v ∧
      v.session (p.f 2 7 0) = some { cls := p.f 2 9 8, mask := p.f 3 15 0, windows := ws, storeMax := p.f 4 11 0,
                                     runMax := p.f 4 23 16, closing := none, denied := none } ∧
      v.DoneWith p.seq St.ok 0 0 ∧ v.beside = (s.raiseLead Ev.sessionChange [p.f 2 7 0, 0]).beside) ∧
  (∀ s p, opSessionClose.Runs s p → ∃ u, exec (.sessionClose p) s = .next u ∧
    (∀ q e, q ≠ p.seq → s.entry q = some e → e.st = .queued → e.session = p.f 2 7 0 → u.DoneWith q St.sessionClosed 0 0) ∧
    ((∃ x, u.session (p.f 2 7 0) = some x ∧ x.closing = some p.seq ∧ u.beside = s.beside) ∨
      (u.session (p.f 2 7 0) = none ∧ u.DoneWith p.seq St.ok 0 0 ∧
        u.beside = (s.raiseLead Ev.sessionChange [p.f 2 7 0, 1]).beside))) ∧
  (∀ s p x, opSessionProt.Runs s p → p.f 7 4 0 = 0 → s.session (p.f 2 7 0) = some x →
    ∃ u, exec (.sessionProt p) s = .next u ∧ u.session (p.f 2 7 0) = some { x with mask := p.f 3 15 0, windows := [] } ∧
      u.DoneWith p.seq St.ok 0 0 ∧ u.beside = (s.raiseLead Ev.sessionChange [p.f 2 7 0, 2]).beside) ∧
  (∀ s p bs ws x, opSessionProt.Feeds s p bs → windowsOf (p.f 7 4 0) bs = some ws → s.session (p.f 2 7 0) = some x →
    ∃ u v, exec (.sessionProt p) s = .next u ∧ exec (.hostDmaReadDone p.seq (some bs)) u = .next v ∧
      v.session (p.f 2 7 0) = some { x with mask := p.f 3 15 0, windows := ws } ∧
      v.DoneWith p.seq St.ok 0 0 ∧ v.beside = (s.raiseLead Ev.sessionChange [p.f 2 7 0, 2]).beside) ∧
  (∀ s p, opSessionQueue.Runs s p → ∃ u, exec (.sessionQueue p) s = .next u ∧
    (u.pair (p.f 2 7 0)).map QueuePair.quiet =
      some { session := p.f 2 15 8, sqBase := p.ha 3, sqSize := p.f 7 11 0 + 1, sqHead := 0, sqTail := 0, vis := [], cqBase := p.ha 5,
             cqSize := p.f 7 27 16 + 1, cqHead := 0, cqTail := 0, phase := true, fault := false, stopped := false,
             deleting := none, win := none, held := false, pmeSent := false } ∧
    u.DoneWith p.seq St.ok 0 0 ∧
    u.beside = ((((s.putItem (Pid.qVec (p.f 2 7 0)) (p.f 8 10 0)).putItem (Pid.qModCnt (p.f 2 7 0)) (p.f 9 8 0)).putItem
      (Pid.qModTime (p.f 2 7 0)) (p.dw 10)).putItem (Pid.qWake (p.f 2 7 0)) (p.f 11 0 0)).beside) ∧
  (∀ s p, opSessionQdelete.Runs s p → ∃ u, exec (.sessionQdelete p) s = .next u ∧ u.beside = s.beside ∧
    (∀ q e, q ≠ p.seq → s.entry q = some e → e.st = .queued → e.p.q = p.f 2 7 0 → u.DoneWith q St.sessionClosed 0 0) ∧
    ((∃ x, u.pair (p.f 2 7 0) = some x ∧ x.deleting = some p.seq) ∨
      (u.pair (p.f 2 7 0) = none ∧ u.DoneWith p.seq St.ok 0 0)))

/-- The MEM commands take the effects of R104 to R106, R121, R127 to R131 and R444. Under conditions on the package and the operands alone exec answers
the next state of the command's own effect: memWrite, memRead, memFence, memCompress, memVerify, memInfo, hostDmaReadDone. -/
def Obligations.MemoryCommandsTakeEffect : Prop :=
  (∀ s p bs, opMemWrite.Feeds s p bs → ∃ u v, exec (.memWrite p) s = .next u ∧ exec (.hostDmaReadDone p.seq (some bs)) u = .next v ∧
    v.DoneWith p.seq St.ok 0 0 ∧ { v with tiles := s.tiles, stores := s.stores }.beside = s.beside ∧
    v.stores = { s.stores with
      inFlight := s.stores.inFlight ++
        [{ wid := s.stores.nextWid, disp := s.qen.nextDisp, session := p.session, addr := p.da 3, data := bs,
           twins := (bitsOf 4 (p.f 2 3 0)).map (fun k =>
             { twin := k, stage := if s.legHeld k then 0 else 1, first := s.spanTile k }) }]
      nextWid := s.stores.nextWid + 1 } ∧
    ∀ t : Tile, (v.tile t).mem =
      if bit (p.f 2 3 0) (t.val / 2) ∧ s.legHeld (t.val / 2) = false ∧ t.val = s.spanTile (t.val / 2) ∧ (s.tile t).takes
      then Mem.write (s.tile t).mem (p.da 3) bs else (s.tile t).mem) ∧
  (∀ s p, opMemRead.Runs s p → p.f 2 5 4 < 2 → (s.tileN (2 * oneSpan (p.f 2 3 0) + p.f 2 5 4)).uncorr (p.da 3) (p.dw 7) = false →
    ∃ u, exec (.memRead p) s = .next u ∧ u.DoneWith p.seq St.ok 0 0 ∧
      u.beside = (s.hostWrite (p.ha 5) (Mem.read (s.tileN (2 * oneSpan (p.f 2 3 0) + p.f 2 5 4)).mem (p.da 3) (p.dw 7))).beside) ∧
  (∀ s p, opMemRead.Runs s p → p.f 2 5 4 < 2 → (s.tileN (2 * oneSpan (p.f 2 3 0) + p.f 2 5 4)).uncorr (p.da 3) (p.dw 7) = true →
    ∃ u, exec (.memRead p) s = .next u ∧ u.DoneWith p.seq St.memUncorr 0 0 ∧ u.beside = s.beside) ∧
  (∀ s p, opMemRead.Runs s p → p.f 2 5 4 = 2 → (s.tileN (2 * oneSpan (p.f 2 3 0))).uncorr (p.da 3) (p.dw 7) = false →
    (s.tileN (2 * oneSpan (p.f 2 3 0) + 1)).uncorr (p.da 3) (p.dw 7) = false →
    ∃ u, exec (.memRead p) s = .next u ∧
      match firstDiff (p.da 3) (Mem.read (s.tileN (2 * oneSpan (p.f 2 3 0))).mem (p.da 3) (p.dw 7))
          (Mem.read (s.tileN (2 * oneSpan (p.f 2 3 0) + 1)).mem (p.da 3) (p.dw 7)) with
      | some d => u.DoneWith p.seq St.copyDiffer (d % 2 ^ 32) (d / 2 ^ 32 % 2 ^ 31) ∧ u.beside = s.beside
      | none => u.DoneWith p.seq St.ok 0 0 ∧
          u.beside = (s.hostWrite (p.ha 5) (Mem.read (s.tileN (2 * oneSpan (p.f 2 3 0))).mem (p.da 3) (p.dw 7))).beside) ∧
  (∀ s p, opMemFence.Runs s p → ∃ u, exec (.memFence p) s = .next u ∧ u.DoneWith p.seq St.ok 0 0 ∧ u.beside = s.beside) ∧
  (∀ s p, opMemCompress.Runs s p → ∃ u, exec (.memCompress p) s = .next u ∧ u.RunningOn p.seq .work ∧
    { u with stores := s.stores }.beside = s.beside ∧
    u.stores = { s.stores with
      live := s.stores.live ++ (bitsOf 4 (p.f 2 3 0)).map (fun k => { span := k, base := p.da 8, len := p.da 10, key := p.da 8, seq := p.seq })
      compress := s.stores.compress ++ [{ seq := p.seq, writing := false, outs := [] }] }) ∧
  (∀ s p, opMemVerify.Runs s p →
    (∀ k d, bit (p.f 2 3 0) k → k < 4 → s.surface k (p.da 3) = some d → ∀ t, t = 2 * k ∨ t = 2 * k + 1 → (s.tileN t).takes →
      (s.tileN t).failedStrips d = []) →
    ∃ u, exec (.memVerify p) s = .next u ∧ u.DoneWith p.seq St.ok 0 0 ∧ u.beside = s.beside) ∧
  (∀ s p k d t i c, opMemVerify.Runs s p → bit (p.f 2 3 0) k → k < 4 → s.surface k (p.da 3) = some d → (t = 2 * k ∨ t = 2 * k + 1) →
    (s.tileN t).takes → (i, c) ∈ (s.tileN t).failedStrips d →
    ∃ u r0 r1, exec (.memVerify p) s = .next u ∧ u.DoneWith p.seq St.checkFail r0 r1) ∧
  (∀ s p, opMemInfo.Runs s p → ∃ u, exec (.memInfo p) s = .next u ∧ u.DoneWith p.seq St.ok 0 0 ∧
    u.beside = (s.hostWrite (p.ha 2) s.memInfo).beside)

/-- Memory writes land on both tiles of a twin in the order in which the first tile wrote them (R34, R105), and a compression sizes, then writes (R128,
R129). A memory reads what was written to it, elsewhere what it read before, and keeps its canonical form. Where the spec leaves a point open this
follows the model's choice of log 2, 110. Under conditions on the package and the operands alone exec answers the next state of the command's own
effect: memoryWaitRelease, memWriteLanded, mirroredLoadReceive, compressPassDone. -/
def Obligations.MemoryWritesLand : Prop :=
  ((∀ s wid (k : Fin 4) w g, k.val < s.nTwins → s.leg wid k.val = some (w, g) → g.stage = 1 →
    exec (.mirroredLoadReceive wid k) s =
      .next ((s.tileWrite (partnerOf g.first) w.addr w.data).legSet wid k.val (some { g with stage := 2 }))) ∧
  (∀ s wid (k : Fin 4) w g, k.val < s.nTwins → s.leg wid k.val = some (w, g) → g.stage = 2 →
    exec (.memWriteLanded wid k) s = .next (s.legSet wid k.val none)) ∧
  (∀ s wid (k : Fin 4) w g, k.val < s.nTwins → s.leg wid k.val = some (w, g) → g.stage = 1 →
    exec (.memWriteLanded wid k) s = .next ((s.tileWrite (partnerOf g.first) w.addr w.data).legSet wid k.val none)) ∧
  (∀ s wid (k : Fin 4) w g, k.val < s.nTwins → s.leg wid k.val = some (w, g) → g.stage = 0 →
    exec (.memWriteLanded wid k) s = .next (if s.resyncing k.val then s else
      ((s.tileWrite (s.spanTile k.val) w.addr w.data).tileWrite (partnerOf (s.spanTile k.val)) w.addr w.data).legSet wid k.val none)) ∧
  (∀ s seq e a, s.entry seq = some e → s.stores.compress.find? (fun c => c.seq == seq) = some a → s.compressHeld e.p = false → a.writing = true →
    exec (.compressPassDone seq) s = .next (s.writingDone e.p a.outs)) ∧
  (∀ s seq e a, s.entry seq = some e → s.stores.compress.find? (fun c => c.seq == seq) = some a → s.compressHeld e.p = false → a.writing = false →
    exec (.compressPassDone seq) s = .next (s.sizingDone e.p)) ∧
  (∀ s seq e spans upTo data d, s.entry seq = some e → e.st = .running → e.wait = .landed spans upTo data → opOf e.p.opcode = some d →
    s.landed e.p spans upTo = true → exec (.memoryWaitRelease seq) s = .next (d.act (s.run seq .work) e.p data)) ∧
  (∀ (s : State) t a bs (x : Tile), (s.tileN t).takes → ((s.tileWrite t a bs).tile x).mem =
    if x = tileIx t then Mem.write (s.tile x).mem a bs else (s.tile x).mem)) ∧
  (∀ (m : Mem) (a : Nat) (bs : List Byte) (x : Nat), Mem.wf m = true →
    Mem.wf (Mem.write m a bs) = true ∧
    Mem.byte (Mem.write m a bs) x = if a ≤ x ∧ x < a + bs.length then (bs[x - a]?).getD 0 else Mem.byte m x)

/-- The JOB commands take the effects of R160, R161, R439 to R443. Under conditions on the package and the operands alone exec answers the next state of
the command's own effect: jobArm, jobChange, jobDisarm, jobCheck. -/
def Obligations.JobCommandsTakeEffect : Prop :=
  (∀ s p, opJobArm.Runs s p → (opJobArm.at s p).armCheck.1 = St.ok → exec (.jobArm p) s =
    .next (let a := ((opJobArm.at s p).armAll p.seq).park p.seq .arm; (a.armTwins.prepare (.parms []) a.job.l0 p.seq).armSettle)) ∧
  (∀ s p, opJobArm.Runs s p → let r := (opJobArm.at s p).armCheck
    r.1 ≠ St.ok → ∃ u, exec (.jobArm p) s = .next u ∧ u.job = s.job ∧ u.tiles.map (·.mem) = s.tiles.map (·.mem) ∧
      u.DoneWith p.seq r.1 (r.2.1 % 2 ^ 32) (r.2.2 % 2 ^ 31)) ∧
  (∀ s p, opJobChange.Runs s p → (opJobChange.at s p).changeCheck.1 = St.ok → ∃ u, exec (.jobChange p) s = .next u ∧
    u.ParkedOn p.seq .change ∧
    u.job = { s.job with change := some p.seq, changeItems := PMap.putAll s.job.base.items s.job.staged, staged := [] }) ∧
  (∀ s p, opJobChange.Runs s p → let r := (opJobChange.at s p).changeCheck
    r.1 ≠ St.ok → ∃ u, exec (.jobChange p) s = .next u ∧ u.job = s.job ∧ u.DoneWith p.seq r.1 (r.2.1 % 2 ^ 32) (r.2.2 % 2 ^ 31)) ∧
  (∀ s p, opJobDisarm.Runs s p → exec (.jobDisarm p) s =
    .next (((({ s.place p with job := { s.job with disarm := some (p.seq, 0, bit (p.dw 2) 0) } }).park p.seq .drain).prepare
      (.disarm (bit (p.dw 2) 0)) 0 p.seq).disarmSettle)) ∧
  (∀ s p, opJobCheck.Runs s p → ∃ u, exec (.jobCheck p) s = .next u ∧ u.beside = s.beside ∧
    let r := if bit (p.dw 2) 0 then (s.place p).changeCheck else (s.place p).armCheck
    u.DoneWith p.seq r.1 (r.2.1 % 2 ^ 32) (r.2.2 % 2 ^ 31))

/-- A change of a target product is submitted as LAYER.SET, LAYER.FLIP, RAY.BIND and the MARK commands name it (R154, R155, R172, R176, R181, R185 to
R188, R206). Under conditions on the package and the operands alone exec answers the next state of the command's own effect: layerSet, layerFlip,
markRules, markShifts, markField, markCounter, markLot, markNames, rayBind, hostDmaReadDone. -/
def Obligations.TargetChangesAreSubmitted : Prop :=
  (∀ s p bs es, opLayerSet.Feeds s p bs → setItems p bs = some es → bit (p.dw 4) 8 = false →
    ((opLayerSet.fed s p bs).kernelsNow p es).1 = St.ok → ∃ u, exec (.layerSet p) s = .next u ∧ exec (.hostDmaReadDone p.seq (some bs)) u =
      .next ((opLayerSet.fed s p bs).submit p { LaneChange.of p with layers := layersOf (p.f 4 3 0), items := es }).pruneLive) ∧
  (∀ s p bs, opLayerFlip.Feeds s p bs →
    ∃ u, exec (.layerFlip p) s = .next u ∧ exec (.hostDmaReadDone p.seq (some bs)) u =
      .next ((opLayerFlip.fed s p bs).submit p { LaneChange.of p with layers := layersOf (p.f 4 3 0), items := flipItems p bs }).pruneLive) ∧
  (∀ s p, opRayBind.Runs s p → exec (.rayBind p) s =
    .next ((opRayBind.at s p).submit p { LaneChange.of p with layers := [1], items := bindItemsOf p }).pruneLive) ∧
  (∀ s p, opMarkRules.Runs s p → p.f 4 4 0 = 0 → exec (.markRules p) s = .next ((s.place p).submit p (markChange p 1 0 [] []))) ∧
  (∀ s p bs, opMarkRules.Feeds s p bs → ∃ u, exec (.markRules p) s = .next u ∧ exec (.hostDmaReadDone p.seq (some bs)) u =
    .next ((opMarkRules.fed s p bs).submit p (markChange p 1 0 ((chunks 16 bs (p.f 4 4 0)).map nats) []))) ∧
  (∀ s p bs ts, opMarkShifts.Feeds s p bs → shiftBodies p bs = some ts → ∃ u, exec (.markShifts p) s = .next u ∧
    exec (.hostDmaReadDone p.seq (some bs)) u = .next ((opMarkShifts.fed s p bs).submit p (markChange p 2 0 ts []))) ∧
  (∀ s p bs ts, opMarkLot.Feeds s p bs → lenTable 36 32 (p.f 4 4 0) bs = some ts → ∃ u, exec (.markLot p) s = .next u ∧
    exec (.hostDmaReadDone p.seq (some bs)) u = .next ((opMarkLot.fed s p bs).submit p (markChange p 3 0 ts []))) ∧
  (∀ s p bs ts, opMarkNames.Feeds s p bs → lenTable 12 8 12 bs = some ts → ∃ u, exec (.markNames p) s = .next u ∧
    exec (.hostDmaReadDone p.seq (some bs)) u = .next ((opMarkNames.fed s p bs).submit p (markChange p 4 0 ts []))) ∧
  (∀ s p bs, opMarkField.Feeds s p bs → ∃ u, exec (.markField p) s = .next u ∧ exec (.hostDmaReadDone p.seq (some bs)) u =
    .next ((opMarkField.fed s p bs).submit p (markChange p 5 (p.f 4 3 0) [nats bs] (fieldItems p)))) ∧
  (∀ s p, opMarkCounter.Runs s p → exec (.markCounter p) s = .next ((s.place p).submit p
    (markChange p 6 (p.f 4 5 0) [[boolNat (bit (p.dw 4) 16), p.dw 8 + 2 ^ 32 * p.f 11 23 16]] (counterItems p))))

/-- A submitted change is refused over 64 pending commands of its lane, staged for the next job, committed for a registered product whose arm line is not
yet begun, too late for one whose arm line is, or waits, PARKED, for its product (R155, R156). LAYER.SIGNAL settles a fence at the first line not yet
begun: it is late after the product's arm line, and a missed fence takes no signal but ends (R157, R159); LAYER.SET on the proof path waits for no
product (R149, R154), and a LAYER.SET whose kernel set fails its check once the memory writes before it have landed ends with that status (R107,
R145). Where the spec leaves a point open this follows the model's choice of log 98. Under conditions on the package and the operands alone exec
answers the next state of the command's own effect: layerSet, layerSignal, memoryWaitRelease, hostDmaReadDone. -/
def Obligations.SubmittedChangesWaitForTheirTarget : Prop :=
  (∀ (s : State) (p : Packet) (c : LaneChange) (e : StoreEntry), s.entry p.seq = some e → e.st = .running → c.seq = p.seq →
    (64 ≤ s.pendingCount p.tgtLane → (s.submit p c).DoneWith p.seq St.flipQueueFull 0 0 ∧
      (s.submit p c).beside = (s.freeFences p.seq).beside) ∧
    (s.pendingCount p.tgtLane < 64 → c.nextJob = true →
      (s.submit p c).job = { s.job with nextJob := s.job.nextJob ++ [(p.tgtLane, { c with seq := 0 })] } ∧
        (s.submit p c).DoneWith p.seq St.okStaged 0 0) ∧
    (∀ n pr, s.pendingCount p.tgtLane < 64 → c.nextJob = false → c.target = some n → s.product p.tgtLane n = some pr →
      s.armLine pr < s.laneFree p.tgtLane → (s.submit p c).DoneWith p.seq St.flipLate 0 0 ∧
        (s.submit p c).beside = (s.freeFences p.seq).beside) ∧
    (∀ n, s.pendingCount p.tgtLane < 64 → c.nextJob = false → c.target = some n → s.product p.tgtLane n = none → s.armed = true →
      n < (s.lane p.tgtLane).nextNum → (s.submit p c).DoneWith p.seq St.flipLate 0 0 ∧
        (s.submit p c).beside = (s.freeFences p.seq).beside) ∧
    (∀ n pr, s.pendingCount p.tgtLane < 64 → c.nextJob = false → c.target = some n → s.product p.tgtLane n = some pr →
      s.laneFree p.tgtLane ≤ s.armLine pr → s.submit p c = s.commitTarget p.tgtLane pr c) ∧
    (∀ n, s.pendingCount p.tgtLane < 64 → c.nextJob = false → c.target = some n → s.product p.tgtLane n = none →
      (s.armed = false ∨ (s.lane p.tgtLane).nextNum ≤ n) → (s.submit p c).ParkedOn p.seq .product ∧
        ((s.submit p c).lane p.tgtLane).changes = (s.lane p.tgtLane).changes ++ [c]) ∧
    (s.pendingCount p.tgtLane < 64 → c.nextJob = false → c.target = none →
      (∀ pr ∈ s.job.products, pr.lane = p.tgtLane → s.armLine pr < s.laneFree p.tgtLane + s.itemN Pid.twnMargin) →
      (s.submit p c).ParkedOn p.seq .product ∧ ((s.submit p c).lane p.tgtLane).changes = (s.lane p.tgtLane).changes ++ [c])) ∧
  ((∀ s p f, opLayerSignal.Runs s p → s.fenceFor (p.f 2 11 0) p.session = some f → f.signal = none →
    ∃ u, exec (.layerSignal p) s = .next u ∧
      u.DoneWith p.seq (if (s.product f.lane f.product).any (fun pr => decide (s.armLine pr < s.laneFree f.lane)) then St.fenceLate else St.ok)
        (s.laneFree f.lane % 2 ^ 32) (s.laneFree f.lane / 2 ^ 32 % 2 ^ 16) ∧
      u.beside = { s with job := { s.job with fences := s.job.fences.map (fun (g : Fence) =>
        if g.id == f.id && g.lane == f.lane && g.product == f.product && g.signal == none then { g with signal := some (s.laneFree f.lane) } else g) } }.beside) ∧
  (∀ s p f, opLayerSignal.Runs s p → s.fenceFor (p.f 2 11 0) p.session = some f → f.signal = some 0 →
    ∃ u, exec (.layerSignal p) s = .next u ∧
      u.DoneWith p.seq St.fenceLate (s.laneFree f.lane % 2 ^ 32) (s.laneFree f.lane / 2 ^ 32 % 2 ^ 16) ∧
      u.beside = { s with job := { s.job with fences := s.job.fences.filter (fun (g : Fence) =>
        !(g.id == f.id && g.lane == f.lane && g.product == f.product && g.signal == some 0)) } }.beside) ∧
  (∀ s p bs es, opLayerSet.Feeds s p bs → setItems p bs = some es → bit (p.dw 4) 8 = true →
    ((opLayerSet.fed s p bs).kernelsNow p es).1 = St.ok → ∃ u v, exec (.layerSet p) s = .next u ∧
      exec (.hostDmaReadDone p.seq (some bs)) u = .next v ∧ ∃ st, (st = St.ok ∨ st = St.okDegraded) ∧ v.DoneWith p.seq st 0 0) ∧
  (∀ s p e sp to_ bs es, s.entry p.seq = some e → e.p = p → e.st = .running → e.wait = .landed sp to_ bs → opOf p.opcode = some opLayerSet →
    s.landed p sp to_ = true → setItems p bs = some es → let r := (s.run p.seq .work).kernelsNow p es
    r.1 ≠ St.ok → ∃ u, exec (.memoryWaitRelease p.seq) s = .next u ∧ u.job = s.job ∧
      u.DoneWith p.seq r.1 (r.2.1 % 2 ^ 32) (r.2.2 % 2 ^ 31)) ∧
  (∀ (s : State) (p : Packet), p.fenced = true → (s.takeFence p).job.fences = s.job.fences ++
      [{ id := p.fenceId, seq := p.seq, session := p.session, lane := p.tgtLane, product := p.tgtProduct, signal := none }]))

/-- RAY.LENS, RAY.ACQUIRE, DROP.SLOTS and DROP.NOZZLES complete at once while no job is armed, their settings in force; while one is armed they are
committed at an effect line, COLOUR.RESET and DROP.ZONELUT at a product boundary (R60, R61, R215, R222, R233, R237, R244, R276, R617). A change of a
packet is in force at once while no job is armed, with ST_OK and no line; while one is armed the packet waits for its commit, or completes with its
line when no tile is to answer (R60, R64, R617). Under conditions on the package and the operands alone exec answers the next state of the command's
own effect: rayLens, rayAcquire, dropSlots, dropNozzles, dropZonelut, colourReset. -/
def Obligations.PrintChangesAreCommitted : Prop :=
  ((∀ s p, opRayLens.Runs s p → ∃ u, exec (.rayLens p) s = .next u ∧ s.TakesChange u p.seq (.parms (lensItemsOf p))) ∧
  (∀ s p, opRayAcquire.Runs s p → ∃ u, exec (.rayAcquire p) s = .next u ∧ s.TakesChange u p.seq .acquire) ∧
  (∀ s p, opDropSlots.Runs s p → ∃ u, exec (.dropSlots p) s = .next u ∧ s.TakesChange u p.seq (.slots (p.f 2 3 0) (slotsOf p))) ∧
  (∀ s p, opDropNozzles.Runs s p → s.copyDiffer s.allSpans (p.da 5) (2 * p.f 4 16 0) = none →
    ((chunks 2 (s.spanRead 0 (p.da 5) (2 * p.f 4 16 0)) (p.f 4 16 0)).map leVal).all nozEntryOk = true →
    ∃ u, exec (.dropNozzles p) s = .next u ∧ s.TakesChange u p.seq (.noz
      ((((chunks 2 (s.spanRead 0 (p.da 5) (2 * p.f 4 16 0)) (p.f 4 16 0)).map leVal).zipIdx).filterMap (fun e =>
        if p.dw 3 + e.2 < 2 ^ 24 then some (nozKey (p.f 2 3 0) (p.f 2 5 4) (p.dw 3 + e.2), e.1) else none)))) ∧
  (∀ s p, opDropNozzles.Runs s p → s.copyDiffer s.allSpans (p.da 5) (2 * p.f 4 16 0) = none →
    ((chunks 2 (s.spanRead 0 (p.da 5) (2 * p.f 4 16 0)) (p.f 4 16 0)).map leVal).all nozEntryOk = false →
    ∃ u, exec (.dropNozzles p) s = .next u ∧ u.DoneWith p.seq St.nozmapBad 0 0 ∧ u.beside = s.beside) ∧
  (∀ s p, opColourReset.Runs s p →
    let t := (bitsOf 12 (p.f 2 11 0)).foldl (fun s c => s.updCh c (fun x => { x with off := [] })) s
    ∃ u, exec (.colourReset p) s = .next u ∧ t.TakesBoundary u p.seq (.zone t.nextVer
      ((bitsOf 12 (p.f 2 11 0)).flatMap (fun c => t.colZones.map (fun z => (256 * c + z, t.zoneBuilt c z)))))) ∧
  (∀ s p, opDropZonelut.Runs s p → s.copyDiffer s.allSpans (p.da 4) (512 * p.f 3 16 8) = none →
    let ts := ((chunks 512 (s.spanRead 0 (p.da 4) (512 * p.f 3 16 8)) (p.f 3 16 8)).map (fun b => (chunks 2 b 256).map leVal)).zipIdx.map
      (fun e => (p.f 3 7 0 + e.2, e.1))
    ts.all (fun t => zoneOk t.2) = true → (s.colCh (p.f 2 3 0)).holds = false →
    let t := s.updCh (p.f 2 3 0) (fun x => { x with off := [], base := ts.foldl (fun m t => NMap.set zoneIdentity m t.1 t.2) x.base })
    ∃ u, exec (.dropZonelut p) s = .next u ∧ t.TakesBoundary u p.seq (.zone t.nextVer
      ((ts.map (·.1) ++ t.colZones.filter (fun z => !ts.any (fun x => x.1 == z))).map
        (fun z => (256 * p.f 2 3 0 + z, NMap.get zoneIdentity (t.colCh (p.f 2 3 0)).base z)))))) ∧
  (∀ (s : State) (seq : Nat) (c : Change) (e : StoreEntry), s.entry seq = some e → e.st = .running →
    (s.armed = false → (s.changeFor seq c).beside = (s.settleChange c).beside ∧
      (s.changeFor seq c).DoneWith seq St.ok 0 0) ∧
    (s.armed = false → (s.changeBoundary seq c).beside = (s.settleChange c).beside ∧
      (seq ≠ 0 → (s.changeBoundary seq c).DoneWith seq St.ok 0 0)) ∧
    (s.armed = true → s.inHandover = true → (s.changeFor seq c).ParkedOn seq (.commit s.job.cseq) ∧
      (s.changeFor seq c).job = { s.job with held := s.job.held ++ [(c, 0, seq)] }) ∧
    (s.armed = true → s.inHandover = false → s.ackTiles c ≠ [] → (s.changeFor seq c).ParkedOn seq (.commit s.job.cseq) ∧
      (s.changeFor seq c).job = { s.job with
        cseq := (s.job.cseq + 1) % 2 ^ 32
        commits := s.job.commits ++ [{ cseq := s.job.cseq, line := s.chooseLine c, fixed := false, change := c, seq := seq,
                                       awaiting := s.ackTiles c, preparing := s.prepareTiles c, committed := false }] }) ∧
    (s.settleChange c).job = { s.job with base := s.job.base.apply c } ∧
    (∀ t : Tile, (s.settleChange c).tile t = match c with
      | .slots ch x => if t.val < s.nTiles ∧ (s.tile t).on 8 = true then
          { s.tile t with die := { (s.tile t).die with slots := NMap.set SlotTbl.reset (s.tile t).die.slots ch x } } else s.tile t
      | _ => s.tile t))

/-- Blocks of job memory are copied into the on-die stores of every tile, if the copies of the spans agree: MARK.GLYPHS, RAY.VIEWMAP, RAY.PANEL,
DROP.SCREEN and COLOUR.SENS (R190, R204, R220, R234, R279, R616). Under conditions on the package and the operands alone exec answers the next state
of the command's own effect: markGlyphs, rayViewmap, rayPanel, dropScreen, colourSens. -/
def Obligations.BlocksAreLoaded : Prop :=
  (∀ s p gs, opMarkGlyphs.Runs s p → s.copyDiffer s.allSpans (p.da 2) 16 = none → glyphHeader (s.spanRead 0 (p.da 2) 16) = true →
    glyphSize (s.spanRead 0 (p.da 2) 16) ≤ 2 ^ 20 → s.inJob (p.da 2) (glyphSize (s.spanRead 0 (p.da 2) 16)) = true →
    s.copyDiffer s.allSpans (p.da 2) (glyphSize (s.spanRead 0 (p.da 2) 16)) = none →
    glyphSet (s.spanRead 0 (p.da 2) (glyphSize (s.spanRead 0 (p.da 2) 16))) = some gs →
    ∃ u, exec (.markGlyphs p) s = .next u ∧ u.DoneWith p.seq St.ok 0 0 ∧
      { u with stores := s.stores, tiles := s.tiles }.beside = s.beside ∧ u.stores = { s.stores with glyphLoaded := true } ∧
      (∀ t : Tile, u.tile t = if t.val < s.nTiles ∧ (s.tile t).on 6 = true then
        { s.tile t with die := { (s.tile t).die with glyphs := vset (s.tile t).die.glyphs (1 - s.stores.glyphBank) gs } } else s.tile t)) ∧
  (∀ s p v, opRayViewmap.Runs s p → s.copyDiffer s.allSpans (p.da 3) 16 = none →
    fld (s.spanRead 0 (p.da 3) 16) 4 1 ≤ 32 → fld (s.spanRead 0 (p.da 3) 16) 5 1 ≤ 32 →
    s.inJob (p.da 3) (viewMapLen (s.spanRead 0 (p.da 3) 16)) = true →
    s.copyDiffer s.allSpans (p.da 3) (viewMapLen (s.spanRead 0 (p.da 3) 16)) = none →
    viewMapOf (s.spanRead 0 (p.da 3) (viewMapLen (s.spanRead 0 (p.da 3) 16))) = some v →
    ∃ u, exec (.rayViewmap p) s = .next u ∧ u.DoneWith p.seq St.ok 0 0 ∧
      { u with tiles := s.tiles }.beside = s.beside ∧
      (∀ t : Tile, u.tile t = if t.val < s.nTiles ∧ (s.tile t).on 5 = true then
        { s.tile t with die := { (s.tile t).die with viewmap := vset (s.tile t).die.viewmap (p.f 2 2 0) (some v) } } else s.tile t)) ∧
  (∀ s p, opRayPanel.Runs s p → s.inJob (p.da 2) (64 + fld (s.spanRead 0 (p.da 2) 64) 5 1) = true →
    s.panelCheck (s.spanRead 0 (p.da 2) 64) (s.spanRead 0 (p.da 2 + 64) (fld (s.spanRead 0 (p.da 2) 64) 5 1)) = St.ok →
    ∃ u, exec (.rayPanel p) s = .next u ∧ u.DoneWith p.seq St.ok 0 0 ∧
      u.stores = { s.stores with vtab := (s.spanRead 0 (p.da 2 + 64) (fld (s.spanRead 0 (p.da 2) 64) 5 1)).map (fun (b : Byte) => b.toNat) } ∧
      { u with stores := s.stores }.beside = ((panelItems (s.spanRead 0 (p.da 2) 64)).foldl (fun s e => s.putItem e.1 e.2) s).beside) ∧
  (∀ s p x, opDropScreen.Runs s p → s.copyDiffer s.allSpans (p.da 3) 16 = none →
    fld (s.spanRead 0 (p.da 3) 16) 4 2 ≤ 256 → fld (s.spanRead 0 (p.da 3) 16) 6 2 ≤ 256 →
    s.inJob (p.da 3) (screenLen (s.spanRead 0 (p.da 3) 16)) = true →
    s.copyDiffer s.allSpans (p.da 3) (screenLen (s.spanRead 0 (p.da 3) 16)) = none →
    screenOf (s.spanRead 0 (p.da 3) (screenLen (s.spanRead 0 (p.da 3) 16))) = some x →
    ∃ u, exec (.dropScreen p) s = .next u ∧ u.DoneWith p.seq St.ok 0 0 ∧
      { u with tiles := s.tiles }.beside = s.beside ∧
      (∀ t : Tile, u.tile t = if t.val < s.nTiles ∧ (s.tile t).on 7 = true then
        { s.tile t with die := { (s.tile t).die with screen := vset (s.tile t).die.screen (p.f 2 2 0) x } } else s.tile t)) ∧
  (∀ s p m, opColourSens.Runs s p → s.inJob (p.da 3) (sensLen (s.spanRead 0 (p.da 3) 16)) = true →
    s.sensOf (p.f 2 3 0) (s.spanRead 0 (p.da 3) (sensLen (s.spanRead 0 (p.da 3) 16))) = some m →
    ∃ u, exec (.colourSens p) s = .next u ∧ u.DoneWith p.seq St.ok 0 0 ∧ (u.colCh (p.f 2 3 0)).sens = some m)

/-- COLOUR.SETUP, CLOSE, OPEN and CAL take the effects of R268, R270, R272 and R279. MOTION.REPHASE, COMPARE and STOPREQ take the effects of R72, R89 and
R97. Where the spec leaves a point open this follows the model's choice of log 34. Under conditions on the package and the operands alone exec answers
the next state of the command's own effect: colourSetup, colourClose, colourOpen, colourCal, motionRephase, motionCompare, motionStopreq,
memoryWaitRelease, hostDmaReadDone. -/
def Obligations.ColourAndMotionCommandsTakeEffect : Prop :=
  ((∀ s p, opColourSetup.Runs s p → tonesOf (p.dw 3) = [] → ∃ u, exec (.colourSetup p) s = .next u ∧ u.DoneWith p.seq St.ok 0 0 ∧
    ∀ c, c < 12 → bit (p.f 2 11 0) c → (u.colCh c).st = .off) ∧
  (∀ s p bs, opColourSetup.Feeds s p bs → tonesOf (p.dw 3) ≠ [] → (∀ x ∈ chunks 8 bs (tonesOf (p.dw 3)).length, fld x 6 2 = 0) →
    ∃ u v, exec (.colourSetup p) s = .next u ∧ exec (.hostDmaReadDone p.seq (some bs)) u = .next v ∧ v.DoneWith p.seq St.ok 0 0 ∧
      ∀ c, c < 12 → (v.colCh c).st = if bit (p.f 2 11 0) c then .opened else (s.colCh c).st) ∧
  (∀ s p, opColourClose.Runs s p → ∃ u, exec (.colourClose p) s = .next u ∧ u.ParkedOn p.seq .work ∧
    { u with colour := s.colour }.beside = s.beside ∧ ∀ c, c < 12 → u.colCh c =
      let cap : Capture := {
        seq := p.seq, first := s.colour.nextBand, left := s.itemN Pid.colRefBands, mode := s.itemN (Pid.colTgtMode c)
        tgt := (List.range 4).map (s.hostTgt c) }
      if bit (p.f 2 11 0) c then { s.colCh c with st := .opened, causes := 0, capture := some cap } else s.colCh c) ∧
  (∀ s p, opColourOpen.Runs s p → ∃ u, exec (.colourOpen p) s = .next u ∧ u.DoneWith p.seq St.ok 0 0 ∧
    { u with colour := s.colour }.beside = s.beside ∧ ∀ c, c < 12 →
      u.colCh c = if bit (p.f 2 11 0) c then { s.colCh c with st := .opened, causes := 0 } else s.colCh c) ∧
  (∀ s p ls, opColourCal.Runs s p → s.colour.cal = none → s.nodeReady (s.itemN Pid.colNode) = true → s.inJob (p.da 2) (certLen (s.spanRead 0 (p.da 2) 16)) = true →
    certOf (s.spanRead 0 (p.da 2) (certLen (s.spanRead 0 (p.da 2) 16))) = some ls →
    ∃ u, exec (.colourCal p) s = .next u ∧ u.RunningOn p.seq .work ∧
      u.colour.cal = some { seq := p.seq, cert := ls, reads := [], tol := s.itemN Pid.colCalTol,
                            tile := ((s.spanRead 0 (p.da 2) (certLen (s.spanRead 0 (p.da 2) 16))).drop 4 |>.take 12).map (·.toNat) }) ∧
  (∀ s p e to_ data, s.entry p.seq = some e → e.p = p → e.st = .running → e.wait = .landed 1 to_ data → opOf p.opcode = some opColourCal →
    s.landed p 1 to_ = true → s.colour.cal ≠ none ∨ s.nodeReady (s.itemN Pid.colNode) = false →
    ∃ u, exec (.memoryWaitRelease p.seq) s = .next u ∧ u.DoneWith p.seq St.colourState 0 0 ∧ u.beside = s.beside)) ∧
  ((∀ s p, opMotionRephase.Runs s p → ∃ u, exec (.motionRephase p) s = .next u ∧ u.ParkedOn p.seq .work ∧
    { u with motion := s.motion }.beside = s.beside ∧
    ∀ i, i < 4 → u.enc i = if bit (p.f 2 3 0) i then { s.enc i with rephase := (s.enc i).rephase ++ [p.seq] } else s.enc i) ∧
  (∀ s p, opMotionCompare.Runs s p → ∃ u, exec (.motionCompare p) s = .next u ∧
    u.DoneWith p.seq St.ok ((s.now + 2048) % 2 ^ 32) ((s.now + 2048) / 2 ^ 32 % 2 ^ 31) ∧
    u.beside = (s.onBoth (fun x => x.updCmp (p.f 2 3 0) (fun c =>
      { c with pend := c.pend ++ [(s.now + 2048, cmpItems (p.f 2 3 0) p, p.seq)] }))).beside) ∧
  (∀ s p, opMotionStopreq.Runs s p → p.f 2 1 0 = 1 → ∃ u, exec (.motionStopreq p) s = .next u ∧ u.DoneWith p.seq St.ok 0 0 ∧
    u.beside = (s.stopSource 4).beside) ∧
  (∀ s p, opMotionStopreq.Runs s p → p.f 2 1 0 = 2 → s.stopPersists = false → ∃ u, exec (.motionStopreq p) s = .next u ∧
    u.DoneWith p.seq St.ok 0 0 ∧ u.beside = { s with motion := { s.motion with stop := false } }.beside) ∧
  (∀ s p, opMotionStopreq.Runs s p → p.f 2 1 0 = 2 → s.stopPersists = true → ∃ u, exec (.motionStopreq p) s = .next u ∧
    u.DoneWith p.seq St.stopHeld 0 0 ∧ u.beside = s.beside))

/-- LINK.NODES, CTRL, LEAVE and REMAP take the effects of R297, R302, R329, R334 and R337. LINK.LANE trains, puts to sleep, wakes or switches off a lane,
and LINK.TEST starts a test on it (R503, R506, R507, R510, R513). Where the spec leaves a point open this follows the model's choice of log 70, 72,
73, 74. Under conditions on the package and the operands alone exec answers the next state of the command's own effect: linkNodes, linkCtrl,
linkLeave, linkRemap, linkLane, linkTest, hostDmaReadDone. -/
def Obligations.LinkCommandsTakeEffect : Prop :=
  ((∀ s p, opLinkNodes.Runs s p → p.f 4 12 0 = 0 → ∃ u, exec (.linkNodes p) s = .next u ∧ u.DoneWith p.seq St.ok 0 0 ∧
    u.beside = { s with link := { s.link with table := [] } }.beside) ∧
  (∀ s p bs t, opLinkNodes.Feeds s p bs → nodeTable (p.f 4 12 0) bs = some t →
    ∃ u v, exec (.linkNodes p) s = .next u ∧ exec (.hostDmaReadDone p.seq (some bs)) u = .next v ∧ v.DoneWith p.seq St.ok 0 0 ∧
      v.beside = { s with link := { s.link with table := t } }.beside) ∧
  (∀ s p, opLinkCtrl.Runs s p → bit (p.dw 2) 16 = false → ∃ u, exec (.linkCtrl p) s = .next u ∧ u.ParkedOn p.seq .work ∧
    u.link.ctrl = s.link.ctrl ++ [{ seq := p.seq, tries := 1, sentAt := s.now,
                                    f := { node := p.f 2 13 0, ctag := s.link.ctag, op := 0, addr := p.dw 3, count := p.f 4 6 0, data := [] } }]) ∧
  (∀ s p bs, opLinkCtrl.Feeds s p bs → ∃ u v, exec (.linkCtrl p) s = .next u ∧ exec (.hostDmaReadDone p.seq (some bs)) u = .next v ∧
    v.ParkedOn p.seq .work ∧ v.link.ctrl = s.link.ctrl ++
      [{ seq := p.seq, tries := 1, sentAt := s.now,
         f := { node := p.f 2 13 0, ctag := s.link.ctag, op := 1, addr := p.dw 3, count := p.f 4 6 0,
                data := (chunks 4 bs (p.f 4 6 0)).map (fun b => BitVec.ofNat 32 (leVal b)) } }]) ∧
  (∀ s p, opLinkLeave.Runs s p → ∃ u, exec (.linkLeave p) s = .next u ∧ u = (s.place p).planLeave (p.f 2 13 0) p.seq ∧
    ∀ n ∈ s.link.nodes, n.id = p.f 2 13 0 → { n with
      st := 5, leave := some (if s.armed = true then s.chooseLine (.leave n.id) else s.motion.lastLine + 1) } ∈ u.link.nodes) ∧
  (∀ s p, opLinkRemap.Runs s p → ∃ u, exec (.linkRemap p) s = .next u ∧ u.DoneWith p.seq St.ok 0 0 ∧
    u.beside = ((bitsOf 8 (p.dw 3)).foldl (fun s t => (bitsOf 12 (p.dw 2)).foldl (fun s b => s.moveBar t b (bit (p.dw 4) 0)) s) s).beside)) ∧
  ((∀ s p, opLinkLane.Runs s p → p.f 3 2 0 = 0 → ∃ u, exec (.linkLane p) s = .next u ∧ u.RunningOn p.seq .work ∧
    u.beside = (((s.putItem (Pid.lnkRate (16 * lnkTile p + lnkLane p)) (p.f 4 0 0)).trainLane (lnkTile p) (lnkLane p)).updLnk
      (lnkTile p) (lnkLane p) (fun x => { x with action := some (p.seq, 0) })).beside) ∧
  (∀ s p, opLinkLane.Runs s p → p.f 3 2 0 = 1 → ∃ u, exec (.linkLane p) s = .next u ∧ u.DoneWith p.seq St.ok 0 0 ∧
    u.beside = ((s.updLnk (lnkTile p) (lnkLane p) (fun x => { x with txslp := min 2 (x.txslp + 1) })).raiseN (lnkTile p) Ev.laneSleep
      [lnkLane p, 0, min 2 ((s.lnk (lnkTile p) (lnkLane p)).txslp + 1)]).beside) ∧
  (∀ s p, opLinkLane.Runs s p → p.f 3 2 0 = 2 → ∃ u, exec (.linkLane p) s = .next u ∧ u.DoneWith p.seq St.ok 0 0 ∧
    u.beside = ((s.updLnk (lnkTile p) (lnkLane p) (fun x => { x with
      rxslp := min 2 (x.rxslp + 1), lock := false, lockRun := 0, rxFrame := none, heads := [], outSince := none })).raiseN
      (lnkTile p) Ev.laneSleep [lnkLane p, 1, min 2 ((s.lnk (lnkTile p) (lnkLane p)).rxslp + 1)]).beside) ∧
  (∀ s p, opLinkLane.Runs s p → p.f 3 2 0 = 3 → (s.lnk (lnkTile p) (lnkLane p)).txslp = 0 → (s.lnk (lnkTile p) (lnkLane p)).rxslp = 0 →
    ∃ u, exec (.linkLane p) s = .next u ∧ u.DoneWith p.seq St.ok 0 0 ∧ u.beside = s.beside) ∧
  (∀ s p, opLinkLane.Runs s p → p.f 3 2 0 = 3 → ¬((s.lnk (lnkTile p) (lnkLane p)).txslp = 0 ∧ (s.lnk (lnkTile p) (lnkLane p)).rxslp = 0) →
    ∃ u, exec (.linkLane p) s = .next u ∧ u.RunningOn p.seq .work ∧
      u.beside = (s.updLnk (lnkTile p) (lnkLane p) (fun x => { x with
        action := some (p.seq, 3)
        waking := #v[if x.txslp = 0 then none else some s.now, if x.rxslp = 0 then none else some s.now] })).beside) ∧
  (∀ s p, opLinkLane.Runs s p → p.f 3 2 0 = 4 → ∃ u, exec (.linkLane p) s = .next u ∧ u.DoneWith p.seq St.ok 0 0 ∧
    u.beside = (s.updLnk (lnkTile p) (lnkLane p) (fun x => { x with
      st := 0, lock := false, lockRun := 0, txq := [], tx := [], rxFrame := none, heads := [], rxslp := 0, txslp := 0, trainAt := none, downAt := none, outSince := none, waking := #v[none, none] })).beside) ∧
  (∀ s p, opLinkTest.Runs s p → ∃ u, exec (.linkTest p) s = .next u ∧ u.RunningOn p.seq .work ∧
    u.beside = (s.updLnk (lnkTile p) (lnkLane p) (fun y => { y with
      st := 4, lock := false, lockRun := 0, txq := [], tx := [], rxFrame := none, heads := [], rxslp := 0, txslp := 0, trainAt := none, downAt := none, outSince := none, testErr := 0, testLoss := 0,
      testLocked := false
      test := some { seq := p.seq, pattern := p.f 3 2 0, loopback := p.f 3 5 4, one := bit (p.dw 3) 8, burst := bit (p.dw 3) 9,
                     duration := p.dw 4, user := p.ha 5, start := s.now, injected := false } })).beside))

/-- TWIN.WITHDRAW, REJOIN, RESTART, LEAD and PRESERVE take the effects of R350, R367, R370, R379, R380 and R383. Where the spec leaves a point open this
follows the model's choice of log 79. Under conditions on the package and the operands alone exec answers the next state of the command's own effect:
twinWithdraw, twinRejoin, twinRestart, twinLead, twinPreserve. -/
def Obligations.TwinCommandsTakeEffect : Prop :=
  (∀ s p, opTwinWithdraw.Runs s p → ∃ u, exec (.twinWithdraw p) s = .next u ∧ u = ((s.place p).withdraw (tileArg p) 1).doneLine p.seq St.ok
    (s.tileN (tileArg p)).begun) ∧
  (∀ s p, opTwinRejoin.Runs s p → exec (.twinRejoin p) s = .next (((s.place p).startResync (tileArg p)).rejoinFor (tileArg p) p.seq)) ∧
  (∀ s p, opTwinRestart.Runs s p → exec (.twinRestart p) s =
    .next ((((s.place p).withdraw (tileArg p) 1).restartTile (tileArg p) (s.tileN (tileArg p)).boot.slot).rejoinFor (tileArg p) p.seq)) ∧
  (∀ s p, opTwinLead.Runs s p → ∃ u, exec (.twinLead p) s = .next u ∧ u.lead.tile = 1 - s.lead.tile ∧
    u.lead.handover = some (s.now, s.lead.tile, p.seq)) ∧
  (∀ s p, opTwinPreserve.Runs s p → ∃ u, exec (.twinPreserve p) s = .next u ∧ u.ParkedOn p.seq .work ∧
    u.flash = { s.flash with
      jobs := s.flash.jobs ++ [{ FlashJob.of 1 p.seq with pres := some (s.place p).capture }] })

/-- DISP.MODE, POWER and FLIP take the effects of R527, R533 and R535. PARM.GET answers with the value in force or the pending one; PARM.SET stages a
job-boundary item while a job is armed, and commits an effect-line item (R441, R617). Where the spec leaves a point open this follows the model's
choice of log 6, 51, 85, 86. Under conditions on the package and the operands alone exec answers the next state of the command's own effect: dispMode,
dispPower, dispFlip, parmGet, parmSet, hostDmaReadDone. -/
def Obligations.DisplayAndParameterCommandsTakeEffect : Prop :=
  ((∀ s p bs, opDispMode.Feeds s p bs → s.timingStatus bs (timingOf bs (p.f 4 1 0) (p.f 4 4 4)) = St.ok → s.dispMode = none → s.modePorts ≠ [] →
    ∃ u v, exec (.dispMode p) s = .next u ∧ exec (.hostDmaReadDone p.seq (some bs)) u = .next v ∧ v.ParkedOn p.seq .work ∧
      v.dispMode = some { seq := p.seq, timing := timingOf bs (p.f 4 1 0) (p.f 4 4 4), left := maskOf 2 (fun q => s.modePorts.contains q),
                          failed := 0, frame := (s.dport s.lead.tile).frame }) ∧
  (∀ s p bs, opDispMode.Feeds s p bs → s.timingStatus bs (timingOf bs (p.f 4 1 0) (p.f 4 4 4)) ≠ St.ok →
    ∃ u v, exec (.dispMode p) s = .next u ∧ exec (.hostDmaReadDone p.seq (some bs)) u = .next v ∧ v.beside = s.beside ∧
      v.DoneWith p.seq (s.timingStatus bs (timingOf bs (p.f 4 1 0) (p.f 4 4 4))) 0 0) ∧
  (∀ s p, opDispPower.Runs s p → p.f 2 0 0 = 1 → s.dispPd 0 = true → s.dispPd 1 = true → ∃ u, exec (.dispPower p) s = .next u ∧
    u.DoneWith p.seq St.ok 0 0 ∧ u.beside = ((s.portStart 0).portStart 1).beside) ∧
  (∀ s p, opDispPower.Runs s p → p.f 2 0 0 = 0 → s.dispOff = none → (s.dport 0).sends = true →
    ∃ u, exec (.dispPower p) s = .next u ∧ u.ParkedOn p.seq .work ∧ u.dispOff = some p.seq) ∧
  (∀ s p, opDispFlip.Runs s p → exec (.dispFlip p) s = .next ((({ s.place p with dispFlip := s.dispFlip ++
    [{ seq := p.seq, left := 3, frame := ((s.dport s.lead.tile).frame + 1) % 2 ^ 32, source := p.f 2 0 0, surface := p.da 3 }] } : State).park
      p.seq .work).flipSettle))) ∧
  ((∀ s p r, opParmGet.Runs s p → parmInfo s.nTiles (p.dw 2) = some r → bit (p.dw 3) 0 = false →
    ∃ u, exec (.parmGet p) s = .next u ∧ u.beside = s.beside ∧
      u.DoneWith p.seq St.ok (wrapS 63 (s.inForce r (p.dw 2)) % 2 ^ 32) (wrapS 63 (s.inForce r (p.dw 2)) / 2 ^ 32 % 2 ^ 31)) ∧
  (∀ s p r, opParmGet.Runs s p → parmInfo s.nTiles (p.dw 2) = some r → bit (p.dw 3) 0 = true →
    ∃ u, exec (.parmGet p) s = .next u ∧ u.beside = s.beside ∧
      u.DoneWith p.seq St.ok (wrapS 63 (s.pendingItem r (p.dw 2)) % 2 ^ 32) (wrapS 63 (s.pendingItem r (p.dw 2)) / 2 ^ 32 % 2 ^ 31)) ∧
  (∀ s p, opParmGet.Runs s p → parmInfo s.nTiles (p.dw 2) = none →
    ∃ u r0 r1, exec (.parmGet p) s = .next u ∧ u.DoneWith p.seq St.ok r0 r1 ∧ u.beside = s.nextFree.beside) ∧
  (∀ s p r, opParmSet.Runs s p → parmInfo s.nTiles (p.dw 2) = some r → effectOf r (p.dw 2) = 5 → s.armed = true →
    ∃ u, exec (.parmSet p) s = .next u ∧ u.DoneWith p.seq St.okStaged 0 0 ∧
      u.job = { s.job with staged := setting s.job.staged (p.dw 2) (setValue r p) }) ∧
  (∀ s p r, opParmSet.Runs s p → parmInfo s.nTiles (p.dw 2) = some r → effectOf r (p.dw 2) = 5 → s.armed = false →
    ∃ u, exec (.parmSet p) s = .next u ∧ u.DoneWith p.seq St.ok 0 0 ∧ u.job = (s.putItem (p.dw 2) (setValue r p)).job) ∧
  (∀ s p r, opParmSet.Runs s p → parmInfo s.nTiles (p.dw 2) = some r → effectOf r (p.dw 2) = 1 ∨ effectOf r (p.dw 2) = 2 →
    ∃ u, exec (.parmSet p) s = .next u ∧ (opParmSet.at s p).TakesChange u p.seq (.parms [(p.dw 2, setValue r p)])))

/-- SVC.POWER, IMAGE, UPDATE and TRIM take the effects of R49, R556, R590 and R591. DIAG.ECHO answers with its two dwords, DIAG.REGREAD with a register's
value, and DIAG.REGWRITE writes its masked bits (R454, R455). Where the spec leaves a point open this follows the model's choice of log 57, 82. Under
conditions on the package and the operands alone exec answers the next state of the command's own effect: svcPower, svcImage, svcUpdate, svcTrim,
diagEcho, diagRegread, diagRegwrite, hostDmaReadDone. -/
def Obligations.ServiceAndDiagnosticCommandsTakeEffect : Prop :=
  ((∀ s p, opSvcPower.Runs s p →
    (∀ d, d < 15 → bit (p.f 3 14 0) d → (((s.place p).domsOff (tileArg p) (p.f 4 14 0)).tileN (tileArg p)).on d = true) →
    exec (.svcPower p) s = .next (((s.place p).domsOff (tileArg p) (p.f 4 14 0)).done p.seq St.ok)) ∧
  (∀ s p d, opSvcPower.Runs s p → d < 15 → bit (p.f 3 14 0) d →
    (((s.place p).domsOff (tileArg p) (p.f 4 14 0)).tileN (tileArg p)).on d = false →
    ∃ u w, exec (.svcPower p) s = .next u ∧ bit w d = true ∧ (p.seq, w, s.now) ∈ (u.tileN (tileArg p)).pdWait) ∧
  (∀ s p bs, opSvcImage.Feeds s p bs → ∃ u v, exec (.svcImage p) s = .next u ∧ exec (.hostDmaReadDone p.seq (some bs)) u = .next v ∧
    v.ParkedOn p.seq .work ∧ v.beside = ({ s with flash := { s.flash with
      jobs := s.flash.jobs ++ [{ FlashJob.of 0 p.seq with image := bs }] } } : State).beside) ∧
  (∀ s p, opSvcUpdate.Runs s p → exec (.svcUpdate p) s = .next ((((
    { s.place p with lead := { s.lead with
        upd := if s.lead.upd = 3 then 3 else 2
        updating := s.lead.updating.filter (fun (v : Nat × Nat × Nat) => v.2.1 != tileArg p) ++
          [(p.seq, tileArg p, s.now + 250_000_000 * s.itemN Pid.updTimeout)] } } : State).withdraw (tileArg p) 8).restartTile
      (tileArg p) s.updateSlot).rejoinFor (tileArg p) p.seq)) ∧
  (∀ s p, opSvcTrim.Runs s p → exec (.svcTrim p) s = .next ((bitsOf 8 (p.f 2 7 0)).foldl (fun s t =>
    if (s.trm t).run.isSome then s.updTrm t (fun x => { x with queue := x.queue ++ [(p.seq, p.f 3 3 0)] })
    else s.trimStart t (p.f 3 3 0) [p.seq]) ((s.place p).run p.seq .work)))) ∧
  ((∀ s p, opDiagEcho.Runs s p → ∃ u, exec (.diagEcho p) s = .next u ∧ u.beside = s.beside ∧
    u.DoneWith p.seq St.ok (p.dw 2 % 2 ^ 32) (p.f 3 30 0)) ∧
  (∀ s p, opDiagRegread.Runs s p → exec (.diagRegread p) s =
    .next (((s.place p).readBar (p.dw 2)).1.complete p.seq St.ok ((s.place p).readBar (p.dw 2)).2 0)) ∧
  (∀ s p, opDiagRegwrite.Runs s p → exec (.diagRegwrite p) s =
    .next (((s.place p).writeBar (p.dw 2) (p.dw 3) (p.dw 4) (decide (p.session = 0))).done p.seq St.ok)))

/-- Every opcode that takes a report writes the quantities the spec lists for it, in its order (R385, R436 to R438, R453, R461, and the report of each
chapter). The bytes of a report reach host memory, as many as the packet's length takes, and nothing else changes beside the completion with the
report's size (R436, R437). Where the spec leaves a point open this follows the model's choice of log 6. Under conditions on the package and the
operands alone exec answers the next state of the command's own effect: sessionInfo, jobStatus, layerStatus, markClock, markStatus, rayStatus,
dropStatus, colourStatus, colourLog, motionStatus, linkList, linkTime, linkScan, twinAssay, twinStatus, dispStatus, parmList, svcTally, svcThermal,
diagEvlog. -/
def Obligations.ReportCommandsTakeEffect : Prop :=
  (∀ (s : State) (p : Packet),
    (opSessionInfo.Runs s p → exec (.sessionInfo p) s = .next ((s.place p).reportQ p
      (((List.range 256).filter (fun n => (s.session n).isSome)).map (s.place p).sessionQuantities))) ∧
    (opJobStatus.Runs s p → exec (.jobStatus p) s = .next ((s.place p).reportQ p ((s.place p).jobQuantities (p.selector 16)))) ∧
    (opLayerStatus.Runs s p → exec (.layerStatus p) s =
      .next ((s.place p).reportQ p ((bitsOf 16 (p.selector 16)).flatMap (s.place p).layerQuantities))) ∧
    (opMarkStatus.Runs s p → exec (.markStatus p) s = .next ((s.place p).reportQ p ((s.place p).markQuantities (p.selector 16)))) ∧
    (opRayStatus.Runs s p → exec (.rayStatus p) s = .next ((s.place p).reportQ p ((s.place p).rayQuantities (p.selector 4)))) ∧
    (opDropStatus.Runs s p → exec (.dropStatus p) s = .next ((s.place p).reportQ p ((s.place p).dropQuantities (p.selector 12)))) ∧
    (opColourStatus.Runs s p → exec (.colourStatus p) s = .next ((s.place p).reportQ p ((s.place p).colourQuantities (p.selector 12)))) ∧
    (opColourLog.Runs s p → exec (.colourLog p) s = .next ((s.place p).reportQ p (s.colour.log.map Band.record))) ∧
    (opMotionStatus.Runs s p → exec (.motionStatus p) s = .next ((s.place p).reportQ p (s.place p).motionQuantities)) ∧
    (opLinkList.Runs s p → exec (.linkList p) s = .next ((s.place p).reportQ p (s.link.nodes.map Node.quantities))) ∧
    (opLinkTime.Runs s p → exec (.linkTime p) s =
      .next ((s.place p).reportQ p (s.link.servos.map (fun v => [qn (Hop.num v.hop), v.o, v.d, qb v.aligned])))) ∧
    (opLinkScan.Runs s p → exec (.linkScan p) s =
      .next ((s.place p).reportQ p (((bitsOf 8 (p.selector 8)).filter (· < s.nTiles)).map (s.place p).scanQuantities))) ∧
    (opTwinAssay.Runs s p → exec (.twinAssay p) s =
      .next ((s.place p).reportQ p (((bitsOf 8 (p.selector 8)).filter (· < s.nTiles)).map (s.place p).assayQuantities))) ∧
    (opTwinStatus.Runs s p → exec (.twinStatus p) s = .next ((s.place p).reportQ p (s.place p).twinQuantities)) ∧
    (opDispStatus.Runs s p → exec (.dispStatus p) s = .next ((s.place p).reportQ p ([0, 1].map (s.place p).portQuantities))) ∧
    (opSvcTally.Runs s p → exec (.svcTally p) s =
      .next ((s.place p).reportQ p ((s.place p).tallyQuantities ((bitsOf 8 (p.selector 8)).filter (· < s.nTiles))))) ∧
    (opSvcThermal.Runs s p → exec (.svcThermal p) s =
      .next ((s.place p).reportQ p (((bitsOf 8 (p.selector 8)).filter (· < s.nTiles)).map (s.place p).thermalQuantities))) ∧
    (opDiagEvlog.Runs s p → exec (.diagEvlog p) s = .next ((s.place p).report p
      ((s.tileList.filter (bit (p.selector 8))).flatMap (fun t => (s.tileN t).evr.log.flatMap LogRec.bytes)))) ∧
    (opParmList.Runs s p → p.f 5 8 8 = 1 → exec (.parmList p) s = .next ((s.place p).report p (Config.statusList (p.f 5 8 0)))) ∧
    (opParmList.Runs s p → p.f 5 8 8 = 0 → exec (.parmList p) s = .next ((s.place p).report p
      ((if p.f 5 7 0 = 0xFF ∨ p.f 5 7 0 = 0 then parmAll else parmRowsOf (p.f 5 7 0)).flatMap (fun r => (r.ids s.nTiles).flatMap (descriptor r)) ++
        Config.statusList (p.f 5 8 0)))) ∧
    (opMarkClock.Runs s p → clockCorrect p = false → ∃ u, exec (.markClock p) s = .next u ∧ u.DoneWith p.seq St.ok 0 0 ∧
      u.beside = (s.hostWrite (p.ha 8) s.clockRead).beside) ∧
    (opMarkClock.Runs s p → clockCorrect p = true → exec (.markClock p) s = .next
      (((((s.place p).hostWrite (p.ha 8) s.clockRead).calCorrect (s.clockDelta p) false (bit (p.dw 2) 1)).updCal s.lead.tile
        (fun c => { c with srcOk := c.srcOk || decide (s.marks.src = 1) })).done p.seq St.ok))) ∧
  (∀ (s : State) (p : Packet) (body : List Byte) (e : StoreEntry), s.entry p.seq = some e → e.st = .running →
    (s.report p body).beside = (s.hostWrite (p.ha 2) ((reportOf p.opcode s.now body).take (p.dw 4))).beside ∧
    (reportOf p.opcode s.now body).length = 16 + body.length ∧
    (s.report p body).DoneWith p.seq (if p.dw 4 < 16 + body.length then St.okTruncated else St.ok) ((16 + body.length) % 2 ^ 32) 0)

/-- Doorbells (R395, R397, R399): a value inside the queue moves the tail or the head, and a tail makes the entries before it visible; any other value
raises QUEUE_FAULT; a doorbell to a tile without the lead, or of a queue that is not configured, counts as stray. QEN_CTL.EN (R394, R429): while the
field is open on the lead tile, setting it enables fetching and starts pair 0 from the admin settings, keeping a pair 0 that exists; clearing it stops
fetching and keeps queues and store. Where the spec leaves a point open this follows the model's choice of log 77, 107. Under conditions on the
package and the operands alone exec answers the next state of the command's own effect: qenSqTailWrite, qenCqHeadWrite, qenCtlEnSet, qenCtlEnClear. -/
def Obligations.DoorbellsAndEnableMoveQueues : Prop :=
  (∀ (s : State) (t : Tile) (q : Fin 256) (v : U32), t.val < s.nTiles →
    (∀ x, s.pair q.val = some x → t.val < 2 → s.cmdOn t.val = true → s.bellReaches t.val = true → s.lead.cold ≠ 1 →
      (v.toNat % 4096 < x.sqSize → ∃ u, exec (.qenSqTailWrite t q v) s = .next u ∧ u.beside = s.beside ∧ u.qen.bells = s.qen.bells + 1 ∧
        u.qen.store = s.qen.store ∧ u.qen.sessions = s.qen.sessions ∧ (∀ r, r ≠ q.val → u.pair r = s.pair r) ∧
        u.pair q.val = some { x with
          sqTail := v.toNat % 4096
          vis := x.vis ++ List.replicate ((v.toNat % 4096 + x.sqSize - x.sqTail) % x.sqSize) s.qen.bells }) ∧
      (x.sqSize ≤ v.toNat % 4096 → exec (.qenSqTailWrite t q v) s = .next (s.raiseLead Ev.queueFault [q.val, 0])) ∧
      (v.toNat % 4096 < x.cqSize →
        (v.toNat % 4096 + x.cqSize - x.cqHead) % x.cqSize ≤ (x.cqTail + x.cqSize - x.cqHead) % x.cqSize →
        ∃ u, exec (.qenCqHeadWrite t q v) s = .next u ∧ u.beside = s.beside ∧ u.qen.store = s.qen.store ∧
          u.qen.sessions = s.qen.sessions ∧ (∀ r, r ≠ q.val → u.pair r = s.pair r) ∧
          u.pair q.val = some { x with cqHead := v.toNat % 4096, held := x.held && decide (v.toNat % 4096 = x.cqHead) }) ∧
      (v.toNat % 4096 < x.cqSize →
        (x.cqTail + x.cqSize - x.cqHead) % x.cqSize < (v.toNat % 4096 + x.cqSize - x.cqHead) % x.cqSize →
        exec (.qenCqHeadWrite t q v) s = .next (s.raiseLead Ev.queueFault [q.val, 1])) ∧
      (x.cqSize ≤ v.toNat % 4096 → exec (.qenCqHeadWrite t q v) s = .next (s.raiseLead Ev.queueFault [q.val, 0]))) ∧
    (t.val < 2 → s.cmdOn t.val = true → s.bellReaches t.val = false ∨ (s.lead.cold ≠ 1 ∧ s.pair q.val = none) →
      exec (.qenSqTailWrite t q v) s = .next { s with qen := { s.qen with stray := vupd s.qen.stray t.val 0 (satInc 32) } } ∧
      exec (.qenCqHeadWrite t q v) s = .next { s with qen := { s.qen with stray := vupd s.qen.stray t.val 0 (satInc 32) } })) ∧
  (∀ (s : State) (t : Tile), t.val < s.nTiles → t.val = s.lead.tile → s.cmdOn t.val = true → s.qen.reglock = false →
    (∀ x, s.pair 0 = some x → exec (.qenCtlEnSet t) s = .next { s with qen := { s.qen with en := true } }) ∧
    (s.pair 0 = none → ∃ u, exec (.qenCtlEnSet t) s = .next u ∧ u.beside = s.beside ∧ u.qen.en = true ∧ u.qen.store = s.qen.store ∧
      (∀ r, r ≠ 0 → u.pair r = s.pair r) ∧
      u.pair 0 = some (QueuePair.fresh 0 s.qen.asq (max s.qen.asqs 1 + 1) s.qen.acq (max s.qen.acqs 1 + 1))) ∧
    exec (.qenCtlEnClear t) s = .next { s with qen := { s.qen with en := false } })

/-- A decided completion is written into its queue once there is room (R397, R398, R416): 16 bytes at the slot, the tail and the phase move, and the
packet leaves the store; with no room it waits, and the queue says so once. Vectors (R417 to R420): a moderation window that has run out makes its
vector due; a due vector leaves as a message while MSI-X is enabled and neither the function nor the vector is masked, and is pending in the PBA
otherwise; unmasking sends what was held. Where the spec leaves a point open this follows the model's choice of log 116. Under conditions on the
package and the operands alone exec answers the next state of the command's own effect: completionPost, moderationWindowExpiry, msixVectorSend,
msixMaskClear. -/
def Obligations.CompletionsAndVectorsReachTheHost : Prop :=
  (∀ (s : State) (q : Fin 256) (x : QueuePair) (e : StoreEntry), s.pair q.val = some x → s.nextPost q.val = some e → s.portReady = true →
    (x.room = true → s.postedTwice e = false → ∃ u, exec (.completionPost q) s = .next u ∧
      u.host = (s.hostWrite (x.cqBase + 16 * x.cqTail) (completionBytes e x.sqHead s.lead.epoch x.phase)).host ∧
      u.entry e.p.seq = none ∧ ((s.session e.session).bind (·.closing) = none →
        u.beside = (s.hostWrite (x.cqBase + 16 * x.cqTail) (completionBytes e x.sqHead s.lead.epoch x.phase)).beside)) ∧
    (x.room = true → s.postedTwice e = true → x.posted.room = true → ∃ u, exec (.completionPost q) s = .next u ∧
      u.host = ((s.hostWrite (x.cqBase + 16 * x.cqTail) (completionBytes e x.sqHead s.lead.epoch x.phase)).hostWrite
        (x.posted.cqBase + 16 * x.posted.cqTail) (completionBytes e x.posted.sqHead s.lead.overlap.2 x.posted.phase)).host ∧
      u.entry e.p.seq = none) ∧
    (x.room = false → x.held = true → exec (.completionPost q) s = .next s) ∧
    (x.room = false → x.held = false → exec (.completionPost q) s =
      .next ((s.setPair q.val (some { x with held := true })).raiseLead Ev.cqHeld [q.val]))) ∧
  ((∀ (s : State) (v : Fin 2048), v.val ∈ s.qen.due → s.portReady = true →
    (s.vecOpen v.val = true → ∃ u, exec (.msixVectorSend v) s = .next u ∧ u.qen.due = s.qen.due.filter (· != v.val) ∧
      u.qen.sentVec = v.val :: s.qen.sentVec ∧ u.qen.msix = s.qen.msix ∧ u.beside = s.beside ∧ u.qen.store = s.qen.store) ∧
    (s.vecOpen v.val = false → exec (.msixVectorSend v) s = .next { s with qen := { s.qen with
      due := s.qen.due.filter (· != v.val)
      msix := vupd s.qen.msix s.lead.tile Msix.reset (fun m => { m with pba := addNew m.pba v.val }) } })) ∧
  (∀ (s : State) (q : Fin 256) (w : Nat × Nat × Nat × Nat), (s.pair q.val).bind (·.win) = some w →
    (w.1 + w.2.1 ≤ s.now → exec (.moderationWindowExpiry q) s = .next (s.cqDue q.val)) ∧
    (s.now < w.1 + w.2.1 → exec (.moderationWindowExpiry q) s = .next s)) ∧
  (∀ (s : State) (v : Fin 2048), s.port.msixEn = true → s.port.funcMask = false → s.portReady = true → v.val ∈ s.mx.pba →
    v.val ∉ s.qen.due → s.lead.tile < 2 → ∃ u, exec (.msixMaskClear (some v)) s = .next u ∧ v.val ∈ u.mx.unmasked ∧ v.val ∉ u.mx.pba ∧
      v.val ∉ u.qen.due ∧ v.val ∈ u.qen.sentVec ∧ u.beside = s.beside) ∧
  (∀ (s : State), ∃ u, exec (.msixMaskClear none) s = .next u ∧ u.port.funcMask = false ∧ u.beside = s.beside))

/-- The port's power states (R419 to R421, R578): D3hot clears each queue's record of its PME, D0 with bus mastering and MSI-X posts what is decided and
sends what is held, PERST# resets the endpoint, and configuration requests answer with retry status until HOST. Under conditions on the package and
the operands alone exec answers the next state of the command's own effect: pcieD3hotEntry, pcieD3coldEntry, pcieD0Return, pciePerst,
pcieConfigRequest. -/
def Obligations.PortPowerStatesFollowCommands : Prop :=
  ∀ (s : State) (p : Fin 2),
    (∃ u, exec (.pcieD3hotEntry p) s = .next u ∧ u.qen.ports = (s.updPort p.val (fun x => { x with dstate := 3 })).qen.ports ∧
      (p.val = s.lead.tile → ∀ q x, u.pair q = some x → x.pmeSent = false) ∧ u.beside = s.beside ∧ u.qen.store = s.qen.store) ∧
    exec (.pcieD3coldEntry p) s = .next (s.updPort p.val (fun x => { x with dstate := 4 })) ∧
    (p.val ≠ s.lead.tile → exec (.pcieD0Return p) s =
      .next (s.updPort p.val (fun x => { x with dstate := 0, busMaster := true, msixEn := true, wakeL := false }))) ∧
    (p.val = s.lead.tile → ∃ u, exec (.pcieD0Return p) s = .next u ∧ u.port.dstate = 0 ∧ u.port.busMaster = true ∧
      u.port.msixEn = true ∧ u.port.wakeL = false ∧
      u.job = s.job ∧ u.stores = s.stores ∧ (u.portReady = true → u.qen.due = [])) ∧
    exec (.pciePerst p) s = .next (s.updPort p.val (fun _ => Port.reset)) ∧
    exec (.pcieConfigRequest p) s = .next (s.updPort p.val (fun x => { x with
      crs := decide ((s.tileN p.val).boot.stage < 7 ∨ (s.tileN p.val).boot.stage = 15) }))

/-- An occurrence at a source of a tile whose router runs (R459, R460, R461, R471): PEND is set unless PEND or ACTIVE is, COUNT counts and saturates, and
the log takes the record; nothing else changes. A number without a source never asserts. Event inputs (R470): a filtered edge of the selected
direction raises the source with the time at which the level began; in level mode a high level raises it while it is neither pending nor active. Under
conditions on the package and the operands alone exec answers the next state of the command's own effect: evrSwsetWrite, eventOccurrence, eviEdge. -/
def Obligations.OccurrencesSetPendAndCount : Prop :=
  (∀ (s : State) (t : Tile), t.val < s.nTiles → (s.tile t).on 1 = true →
    (∀ (src : Fin 192) (data : List Nat), srcUsed src.val = true → ∃ u, exec (.eventOccurrence t src data) s = .next u ∧ u = { s with tiles := u.tiles } ∧
      (∀ k, k ≠ t → u.tile k = s.tile k) ∧ u.tile t = { s.tile t with evr := (u.tile t).evr } ∧
      u.src t.val src.val = { s.src t.val src.val with
        pend := (s.src t.val src.val).pend || !(s.src t.val src.val).active
        count := min ((s.src t.val src.val).count + 1) 65535 } ∧
      (∀ k, k ≠ src.val → u.src t.val k = s.src t.val k) ∧
      (u.tile t).evr.log = ((s.tile t).evr.log ++ [({ time := s.tileNow t, line := s.motion.lastLine, src := src.val, tile := t.val, data := data } : LogRec)]).drop
        ((s.tile t).evr.log.length + 1 - 1024)) ∧
    (∀ (src : Fin 192) (data : List Nat), srcUsed src.val = false → exec (.eventOccurrence t src data) s = .next s) ∧
    (∀ v : U32, ∃ u, exec (.evrSwsetWrite t v) s = .next u ∧ u = { s with tiles := u.tiles } ∧ (∀ k, k ≠ t → u.tile k = s.tile k) ∧
      (∀ k, k < 4 → bit v.toNat k = true → u.src t.val (4 + k) = { s.src t.val (4 + k) with
        pend := (s.src t.val (4 + k)).pend || !(s.src t.val (4 + k)).active, count := min ((s.src t.val (4 + k)).count + 1) 65535 }) ∧
      (∀ k, (k < 4 ∨ 8 ≤ k ∨ bit v.toNat (k - 4) = false) → u.src t.val k = s.src t.val k))) ∧
  (∀ (s : State) (t : Tile) (i : Fin 4), t.val < s.nTiles →
    let x := vget s.motion.evi (4 * t.val + i.val) PinSt.reset
    let mode := vget (s.tile t).evr.edge i.val 0
    x.due (vget (s.tile t).evr.filt i.val 0) s.now = true →
    let u := s.updMot (fun m => { m with evi := vset m.evi (4 * t.val + i.val) x.take })
    (mode = 2 ∨ (mode = 0 ∧ x.take.filt = true) ∨ (mode = 1 ∧ x.take.filt = false) →
      exec (.eviEdge t i) s = .next (u.raiseAt t i.val x.since [])) ∧
    ((mode = 0 ∧ x.take.filt = false) ∨ (mode = 1 ∧ x.take.filt = true) → exec (.eviEdge t i) s = .next u) ∧
    (mode = 3 → x.take.filt = true → (s.src t.val i.val).pend = false → (s.src t.val i.val).active = false →
      exec (.eviEdge t i) s = .next (u.raise t i.val [])))

/-- Where a source is delivered (R464, R465, R468): only a target of its set that is enabled, has room and whose CPRI admits the priority; the lowest CPRI
among those awake; asleep ones leave it to the wake target. A commit delivers the first candidate in the order of selection that finds a target,
passing over those before it (R463 to R466, R469): the source turns from PEND to ACTIVE, and the target takes the entry and the priority. Under
conditions on the package and the operands alone exec answers the next state of the command's own effect: evrCommit, evrOfferReceive, evrReconsider. -/
def Obligations.CommitsDeliverByPriority : Prop :=
  (∀ (s : State) (map : Vector Nat 8) (last : Nat) (o : Offer) (n : Nat), s.chooseTarget map last o = some n →
    (∃ x ∈ s.targetSet o, x.num = n ∧ x.eligible map o.pri = true ∧ x.sleep = false ∧
      ∀ y ∈ s.targetSet o, y.eligible map o.pri = true → y.sleep = false → x.cpri ≤ y.cpri) ∨
    ((∀ y ∈ s.targetSet o, y.eligible map o.pri = true → y.sleep = true) ∧ (∃ y ∈ s.targetSet o, y.eligible map o.pri = true) ∧
      n = (s.src o.tile o.src).wake ∧ (s.target o.tile n).en = true ∧ (s.target o.tile n).room = true)) ∧
  ((∀ (s : State) (t : Tile), t.val < s.nTiles → (s.tile t).on 1 = true → (s.tile t).evr.en = true →
    ∃ u, exec (.evrCommit (some t)) s = .next u ∧
      (match s.firstDeliverable (s.tile t).evr.prigroup (32 + (s.tile t).evr.rr)
          (offerOrder (s.tile t).evr.prigroup ((s.candidates t.val true).filter (fun o => !((s.tile t).evr.passed.contains o.src)))) with
        | (overs, some (o, n)) =>
          (u.tile t).evr.passed = (s.tile t).evr.passed ++ overs.map (·.src) ∧
          u.src t.val o.src = { s.src t.val o.src with pend := false, active := true } ∧
          (∀ k, k ≠ o.src → u.src t.val k = s.src t.val k) ∧
          (32 ≤ n → n < 36 → u.evh = s.evh ∧ u.qen = s.qen ∧ (u.tile t).evr.core (n - 32) = { (s.tile t).evr.core (n - 32) with
            queue := ((s.tile t).evr.core (n - 32)).queue ++ [{ tile := t.val, pri := o.pri, src := o.src }]
            cpri := max ((s.tile t).evr.core (n - 32)).cpri o.pri })
        | (overs, none) => u = s.updEvr t.val (fun e => { e with passed := e.passed ++ overs.map (·.src) }))) ∧
  (∀ (s : State), (s.tile s.leadTile).on 1 = true → s.lead.cold ≠ 1 → ∃ u, exec (.evrCommit none) s = .next u ∧
    let live := s.evh.offers.filter (fun (o : Nat × Nat) => (s.src o.1 o.2).ready && !(s.src o.1 o.2).kind && (s.tileN o.1).evr.en)
    (match s.firstDeliverable s.leadMap s.evh.rr
        (offerOrder s.leadMap (live.map (fun o => { tile := o.1, src := o.2, pri := (s.src o.1 o.2).pri }))) with
      | (overs, some (o, n)) =>
        u.evh.passed = s.evh.passed ++ overs.map (fun o => (o.tile, o.src)) ∧ (o.tile, o.src) ∉ u.evh.offers ∧
        (n < 32 → u.evh.rr = n ∧ u.hostTarget n = { s.hostTarget n with
          queue := (s.hostTarget n).queue ++ [{ tile := o.tile, pri := o.pri, src := o.src }]
          cpri := max (s.hostTarget n).cpri o.pri })
      | (overs, none) => u = { s with evh := { s.evh with
          offers := live.filter (fun o => !(overs.map (fun (x : Offer) => (x.tile, x.src))).contains o)
          passed := s.evh.passed ++ overs.map (fun (x : Offer) => (x.tile, x.src)) } })) ∧
  (∀ (s : State) (t : Tile) (o : Offer), t.val < s.nTiles → (s.tile t).on 1 = true → (s.tile t).evr.en = true →
    (offerOrder (s.tile t).evr.prigroup ((s.candidates t.val false).filter (fun o =>
      !(s.evh.offers.contains (t.val, o.src)) && !(s.evh.passed.contains (t.val, o.src))))).head? = some o →
    exec (.evrOfferReceive t) s = .next { s with evh := { s.evh with offers := s.evh.offers ++ [(t.val, o.src)] } }) ∧
  (∀ (s : State) (t : Tile), t.val < s.nTiles →
    exec (.evrReconsider (some t)) s = .next (s.updEvr t.val (fun e => { e with passed := [] }))) ∧
  (∀ (s : State), exec (.evrReconsider none) s = .next { s with evh := { s.evh with
    passed := [], offers := s.evh.offers ++ s.evh.passed.filter (fun o => !s.evh.offers.contains o) } }))

/-- Taking and finishing events (R467, R473, R474): a read of TAKE gives the oldest entry and drops it, on the lead alone for a host target; DONE clears
ACTIVE of a source that is active and counts as bad otherwise; CPRI follows when the write says so. Under conditions on the package and the operands
alone exec answers the next state of the command's own effect: evrHtTakeRead, evrHtDoneWrite, evrCoreTakeRead, evrCoreDoneWrite, evrSrcPendClear,
evrSrcClrcnt. -/
def Obligations.TakeAndDoneServeSources : Prop :=
  ∀ (s : State) (t : Tile), t.val < s.nTiles → (s.tile t).on 1 = true →
    (∀ h : Fin 32, t.val = s.lead.tile → exec (.evrHtTakeRead t h) s =
      .next ((s.updHost h.val (fun x => { x with queue := x.queue.drop 1 })).returns (takeValue (s.hostTarget h.val).queue))) ∧
    (∀ h : Fin 32, t.val ≠ s.lead.tile → t.val = s.standby →
      exec (.evrHtTakeRead t h) s = .next (s.returns (takeValue (s.hostTarget h.val).queue))) ∧
    (∀ h : Fin 32, t.val ≠ s.lead.tile → t.val ≠ s.standby → exec (.evrHtTakeRead t h) s = .next (s.returns 0)) ∧
    (∀ c : Fin 4, exec (.evrCoreTakeRead t c) s = .next ((s.updCore t.val c.val (fun x => { x with queue := x.queue.drop 1 })).returns
      (takeValue ((s.tile t).evr.core c.val).queue))) ∧
    (∀ (h : Fin 32) (v : U32), t.val = s.lead.tile → bits v.toNat 10 8 < s.nTiles → bits v.toNat 7 0 < 192 →
      (s.src (bits v.toNat 10 8) (bits v.toNat 7 0)).active = true → exec (.evrHtDoneWrite t h v) s = .next
        (let u := s.updSrc (bits v.toNat 10 8) (bits v.toNat 7 0) (fun x => { x with active := false })
          if bit v.toNat 16 then u.updHost h.val (fun x => { x with cpri := bits v.toNat 31 24 }) else u)) ∧
    (∀ (h : Fin 32) (v : U32), t.val = s.lead.tile → (s.nTiles ≤ bits v.toNat 10 8 ∨ 192 ≤ bits v.toNat 7 0 ∨
      (s.src (bits v.toNat 10 8) (bits v.toNat 7 0)).active = false) → exec (.evrHtDoneWrite t h v) s =
        .next (s.updEvr t.val (fun e => { e with baddone := min (e.baddone + 1) 65535 }))) ∧
    (∀ (h : Fin 32) (v : U32), t.val ≠ s.lead.tile → exec (.evrHtDoneWrite t h v) s = .next s) ∧
    (∀ (c : Fin 4) (v : U32), bits v.toNat 7 0 < 192 → (s.src t.val (bits v.toNat 7 0)).active = true →
      exec (.evrCoreDoneWrite t c v) s = .next
        (let u := s.updSrc t.val (bits v.toNat 7 0) (fun x => { x with active := false })
          if bit v.toNat 16 then u.updCore t.val c.val (fun x => { x with cpri := bits v.toNat 31 24 }) else u)) ∧
    (∀ (c : Fin 4) (v : U32), (192 ≤ bits v.toNat 7 0 ∨ (s.src t.val (bits v.toNat 7 0)).active = false) →
      exec (.evrCoreDoneWrite t c v) s = .next (s.updEvr t.val (fun e => { e with baddone := min (e.baddone + 1) 65535 }))) ∧
    (∀ src : Fin 192, ∃ u, exec (.evrSrcPendClear t src) s = .next u ∧
      u.src t.val src.val = { s.src t.val src.val with pend := false } ∧ (∀ k, k ≠ src.val → u.src t.val k = s.src t.val k) ∧
      src.val ∉ (u.tile t).evr.passed ∧ (t.val, src.val) ∉ u.evh.passed) ∧
    (∀ src : Fin 192, exec (.evrSrcClrcnt t src) s = .next (s.updSrc t.val src.val (fun x => { x with count := 0 })))

/-- A BAR0 write acts by its field's access code (R11, R12, R51, R393): an address past the tiles, of an absent tile or of a block that is off changes
nothing; a one clears its bit of MOT_FAULT; CPRI of a host target takes its low byte on the lead; the admin addresses and PRIGROUP follow while
REGLOCK is 0 and stay while it is 1; read-only registers ignore writes. A BAR0 read returns the register on the bus (R51, R99): all ones from an
absent tile or a block that is off, zero past the tiles; the low half of LAST_LINE with its high half held for the read that follows, whatever lines
are issued in between. Where the spec leaves a point open this follows the model's choice of log 105, 106, 107. Under conditions on the package and
the operands alone exec answers the next state of the command's own effect: registerWrite, loRegisterReadLatch. -/
def Obligations.RegistersFollowAccessCodes : Prop :=
  (∀ (s : State) (v : U32),
    (∀ off, off < 0x4000000 → off % 4 = 0 → (0x2000000 ≤ off ∨ s.nTiles ≤ off / 0x400000 ∨
      s.blockOn (off / 0x400000) (off % 0x400000 / 0x40000) (off % 0x40000) = false) → exec (.registerWrite off v) s = .next s) ∧
    (∀ t, t < s.nTiles → (s.tileN t).on 14 = true → exec (.registerWrite (0x400000 * t + 0xC0004) v) s =
      .next (s.updTileN t (fun x => { x with motFault := x.motFault - (x.motFault &&& v.toNat) }))) ∧
    (∀ (t : Tile) (h : Fin 32), t.val < s.nTiles → t.val = s.lead.tile → (s.tile t).on 1 = true →
      exec (.registerWrite (0x400000 * t.val + 0x84004 + 16 * h.val) v) s = .next (s.updHost h.val (fun x => { x with cpri := v.toNat % 256 }))) ∧
    (∀ t : Tile, t.val < s.nTiles → t.val = s.lead.tile → s.cmdOn t.val = true →
      exec (.registerWrite (0x400000 * t.val + 0x40010) v) s = .next (if s.qen.reglock then s else
        { s with qen := { s.qen with asq := s.qen.asq / 2 ^ 32 * 2 ^ 32 + v.toNat / 4096 * 4096 } }) ∧
      exec (.registerWrite (0x400000 * t.val + 0x40018) v) s = .next (if s.qen.reglock then s else
        { s with qen := { s.qen with acq := s.qen.acq / 2 ^ 32 * 2 ^ 32 + v.toNat / 4096 * 4096 } })) ∧
    (∀ (t : Tile) (i : Fin 8), t.val < s.nTiles → (s.tile t).on 1 = true →
      exec (.registerWrite (0x400000 * t.val + 0x80080 + 4 * i.val) v) s = .next (if s.qen.reglock then s else
        s.updEvr t.val (fun e => { e with prigroup := vset e.prigroup i.val v.toNat }))) ∧
    (∀ t : Tile, t.val < s.nTiles → (s.tile t).on 10 = true → exec (.registerWrite (0x400000 * t.val + 0x100040) v) s = .next s)) ∧
  (∀ (s : State),
    (∀ off, off % 4 = 0 → 0x2000000 ≤ off → off < 0x4000000 → exec (.loRegisterReadLatch off) s = .next { s with busRead := 0 }) ∧
    (∀ off, off % 4 = 0 → off < 0x2000000 → (s.nTiles ≤ off / 0x400000 ∨
      s.blockOn (off / 0x400000) (off % 0x400000 / 0x40000) (off % 0x40000) = false) →
      exec (.loRegisterReadLatch off) s = .next { s with busRead := 0xFFFF_FFFF }) ∧
    (∀ t : Tile, t.val < s.nTiles → (s.tile t).on 14 = true → ∃ u, exec (.loRegisterReadLatch (0x400000 * t.val + 0xC0010)) s = .next u ∧
      u.busRead = BitVec.ofNat 32 s.motion.lastLine ∧ u.motion = s.motion ∧ u.qen = s.qen ∧
      ∀ line, ∃ w, exec (.loRegisterReadLatch (0x400000 * t.val + 0xC0014)) (u.updMot (fun m => { m with lastLine := line })) = .next w ∧
        w.busRead = BitVec.ofNat 32 (s.motion.lastLine / 2 ^ 32 % 2 ^ 16)))

/-- The clear commands of the register blocks (R389, R498, R516, R539, R565): the counters they name read zero, the maximum reads the present temperature,
and nothing else changes. Under conditions on the package and the operands alone exec answers the next state of the command's own effect: memcClrCe,
memcClrUe, memcClrPanic, memcClrPause, lnkClrCnt, lnkClrTest, dspClrTrains, dspClrUnder, thmClrCnt, thmClrMax, twnCauseClrlast. -/
def Obligations.ClearsActOnTheirCounters : Prop :=
  (∀ (s : State) (t : Tile), t.val < s.nTiles → (s.tile t).on 10 = true →
    exec (.memcClrCe t) s = .next (s.updMemc t.val (fun m => { m with ceCnt := 0, ceAddr := 0, ceLast := none })) ∧
    exec (.memcClrUe t) s = .next (s.updMemc t.val (fun m => { m with ueCnt := 0, ueAddr := 0 })) ∧
    (∃ u, exec (.memcClrPanic t) s = .next u ∧ (∀ p, p < 3 → u.readMemc t.val (0x30 + 4 * p) = 0) ∧
      u.readMemc t.val 4 = s.readMemc t.val 4) ∧
    exec (.memcClrPause t) s = .next (s.updMemc t.val (fun m => { m with forced := 0, pauseMax := 0 }))) ∧
  (∀ (s : State) (t : Tile) (l : Fin 10), t.val < s.nTiles → s.lnkOn t.val l.val = true →
    exec (.lnkClrCnt t l) s = .next (s.updLnk t.val l.val (fun x => { x with disc := Vector.replicate 3 0, fillDel := 0, fillIns := 0 })) ∧
    exec (.lnkClrTest t l) s = .next (if (s.lnk t.val l.val).test.isSome then s else
      s.updLnk t.val l.val (fun x => { x with testErr := 0, testLoss := 0 }))) ∧
  (∀ (s : State) (p : Fin 2), s.dispPd p.val = true →
    exec (.dspClrTrains p) s = .next (s.updDport p.val (fun d => { d with trains := 0 })) ∧
    exec (.dspClrUnder p) s = .next (s.updDport p.val (fun d => { d with under := 0, fillpix := 0 }))) ∧
  (∀ (s : State) (t : Tile), t.val < s.nTiles →
    exec (.thmClrCnt t) s = .next (s.updThm t.val (fun x => { x with cntThrottle := 0, cntShut := 0, cntSensor := 0 })) ∧
    exec (.thmClrMax t) s = .next (s.updThm t.val (fun x => { x with max := x.temp })) ∧
    ((s.tile t).on 8 = true → exec (.twnCauseClrlast t) s = .next (if s.qen.reglock then s else
      s.updTileN t.val (fun x => { x with cause := 0 }))))

/-- Quadrature steps (R68 to R71): the pair whose filtered level changes first steps the count by one, up or down by the decoding rule, modulo 2^48, and
the compare units on the input see it; the position source also steps the loop; two pairs at one tick count no step and raise ENC_STEP_BAD; an input
with a wire fault on A or B does not count. Wire faults and raw levels (R67, R68): a pair whose wires are equal for ENC_WIRE_TIME ticks is at fault,
and one whose wires differ as long is good again; a raw level that moves lets a filtered edge already due take effect first, then begins to count its
own time; a product detect whose raw level returns too early changes no filtered level. Where the spec leaves a point open this follows the model's
choice of log 22, 23, 104. Under conditions on the package and the operands alone exec answers the next state of the command's own effect (`s.Gives c
u` holds an equation `exec c s = .next _`): inputRawTransition, encEdge, encWireFault. -/
def Obligations.QuadratureStepsCount : Prop :=
  (∀ (s : State) (i : Quad), s.motionRuns = true →
    let e := s.enc i.num
    let a := vget e.rx 0 PinSt.reset
    let b := vget e.rx 1 PinSt.reset
    let f := s.itemN (Pid.encFilt i.num)
    let clean := vget e.fault 0 false = false ∧ vget e.fault 1 false = false
    let dir := decide (s.item (Pid.encDir i.num) = 1)
    let next := fun (up : Bool) => if up then (e.count + 1) % 2 ^ 48 else (e.count + 2 ^ 48 - 1) % 2 ^ 48
    let stepped := fun (a' b' : PinSt) (up : Bool) (t : Nat) => s.updEnc i.num (fun _ =>
      { e with rx := vset (vset e.rx 0 a') 1 b', count := next up, rev := !up, edgeAt := t, changeLine := s.motion.lastLine })
    let seen := fun (u : State) (up : Bool) (t : Nat) =>
      if i = .web then (if s.absSource then u else (u.sourceStep (next up) t (!up) true).compareAll 1 (next up))
      else (u.updMot (fun m => { m with issued := m.issued.map (fun l =>
        if decide (t ≤ l.fire / 256) then { l with counts := l.counts.map (fun cs => cs.set (i.num - 1) (next up)) } else l) })).compareAll
        (i.num + 1) (next up)
    (a.due f s.now = false → b.due f s.now = false → s.Gives (.encEdge i) s) ∧
    (clean → a.due f s.now = true → (b.due f s.now = false ∨ a.since < b.since) →
      let up := stepUp true a.raw b.filt dir
      s.Gives (.encEdge i) (seen (stepped a.take b up a.since) up a.since)) ∧
    (clean → b.due f s.now = true → (a.due f s.now = false ∨ b.since < a.since) →
      let up := stepUp false a.filt b.raw dir
      s.Gives (.encEdge i) (seen (stepped a b.take up b.since) up b.since)) ∧
    (clean → a.due f s.now = true → b.due f s.now = true → a.since = b.since → s.Gives (.encEdge i) (((s.updEnc i.num (fun _ => { e with rx := vset (vset e.rx 0 a.take) 1 b.take, stepBad := satInc 16 e.stepBad })).motFault 1).raiseBlocks
        Ev.encStepBad [i.num, e.count])) ∧
    (¬ clean → a.due f s.now = true → (b.due f s.now = false ∨ a.since < b.since) →
      s.Gives (.encEdge i) (s.updEnc i.num (fun _ => { e with rx := vset (vset e.rx 0 a.take) 1 b })))) ∧
  (∀ (s : State),
    (∀ (i : Quad) (j : Pair), s.motionRuns = true → vget (s.enc i.num).wireSince j.num 0 + s.itemN (Pid.encWireTime i.num) ≤ s.now →
      ¬ (i = .web ∧ j ≠ .z ∧ s.absSource = false) →
      ((s.enc i.num).same j.num = true → vget (s.enc i.num).fault j.num false = false → s.Gives (.encWireFault i j) (((s.updEnc i.num (fun e => { e with
        fault := vset e.fault j.num true, wireSave := vupd e.wireSave j.num { tick := none, same := false, since := 0, rx := PinSt.reset } (fun w => { w with tick := none }) })).raiseBlocks Ev.encWireFault [i.num, j.num, 1]).motFault
          (2 ^ (4 + 3 * i.num + j.num)))) ∧
      ((s.enc i.num).same j.num = false → vget (s.enc i.num).fault j.num false = true → s.Gives (.encWireFault i j) ((s.updEnc i.num (fun e => ({ e with
          fault := vset e.fault j.num false
          wireSave := vupd e.wireSave j.num { tick := none, same := false, since := 0, rx := PinSt.reset } (fun w => { w with tick := none }) } : Enc).follow j.num s.now)).raiseBlocks
          Ev.encWireFault [i.num, j.num, 0]))) ∧
    (∀ (j : Pair), s.motionRuns = true → j ≠ .z → s.absSource = false → (s.enc 0).same j.num = true →
      vget (s.enc 0).fault j.num false = false → vget (s.enc 0).wireSince j.num 0 + s.itemN (Pid.encWireTime 0) ≤ s.now →
      s.Gives (.encWireFault .web j) ((((s.updEnc 0 (fun e => { e with
        fault := vset e.fault j.num true, wireSave := vupd e.wireSave j.num { tick := none, same := false, since := 0, rx := PinSt.reset } (fun w => { w with tick := none }) })).raiseBlocks
        Ev.encWireFault [0, j.num, 1]).motFault (2 ^ (4 + j.num))).coast)) ∧
    (∀ p level, exec (.inputRawTransition p level) s = .next ((s.settlePin p).rawTransition p level)) ∧
    (∀ (n : Fin 8) (level : Bool), let x := vget s.motion.pd n.val PinSt.reset
      x.due (s.itemN (Pid.pdFilt n.val)) s.now = false → x.raw ≠ level → exec (.inputRawTransition (.pd n) level) s =
        .next (s.updMot (fun m => { m with pd := vset m.pd n.val { x with raw := level, since := s.now } }))) ∧
    (∀ (i : Quad) (j : Pair) (neg level : Bool),
      (∀ k, k < 3 → (vget (s.enc i.num).rx k PinSt.reset).due (s.itemN (Pid.encFilt i.num)) s.now = false) →
      s.Gives (.inputRawTransition (.wire i j neg) level)
        (s.updEnc i.num (fun e => e.wire j.num neg level (s.itemN (Pid.encFilt i.num)) s.now))) ∧
    (∀ (i : Quad) (j : Pair) (neg level : Bool) filt now, let e := s.enc i.num
      let w := e.wire j.num neg level filt now
      vget w.wireP j.num false = (if neg then vget e.wireP j.num false else level) ∧
        vget w.wireN j.num false = (if neg then level else vget e.wireN j.num false) ∧ w.count = e.count ∧ w.fault = e.fault))

/-- Index pulses (R72, R73): a forward index counts CPR from the one before; within the tolerance it is only latched, beyond it ENC_INDEX_SLIP and
MOT_FAULT; the first one, and one that a re-phase waits for, becomes the reference; a count past the window of an index that did not come raises
ENC_INDEX_MISS. The absolute port (R74 to R76): frames start every ABS_PERIOD while a mode is set; a frame with a wrong CRC or an active error bit, a
jump in SSI, or no start bit in time is discarded as a fault, and a third in a row in SOURCE mode makes the loop coast; an accepted frame that is not
the source is kept, and its fault count restarts. Where the spec leaves a point open this follows the model's choice of log 21, 24. Under conditions
on the package and the operands alone exec answers the next state of the command's own effect (`s.Gives c u` holds an equation `exec c s = .next _`):
encIndex, encIndexMiss, absFrameReceived, absPoll, absTimeout. -/
def Obligations.IndexPulsesAndAbsoluteFramesAreChecked : Prop :=
  (∀ (s : State) (i : Quad), s.motionRuns = true →
    let e := s.enc i.num
    let z := vget e.rx 2 PinSt.reset
    let cpr := s.itemN (Pid.encCpr i.num)
    let tol := s.itemN (Pid.encIdxTol i.num)
    let forward := z.due (s.itemN (Pid.encFilt i.num)) s.now = true ∧ z.raw = true ∧ e.rev = false ∧ vget e.fault 2 false = false ∧
      s.item (Pid.encCpr i.num) ≠ 0
    let seen : Enc := { e with rx := vset e.rx 2 z.take }
    let lens := fun (u : State) => if i = .lensRow then u.updLens (fun l => { l with slip := true }) else u
    (∀ x, forward → e.e = some x → e.rephase = [] → (s48 e.count ((x + cpr) % 2 ^ 48)).natAbs ≤ tol →
      s.Gives (.encIndex i) (s.updEnc i.num (fun _ => { seen with
        e := some ((x + cpr) % 2 ^ 48), latched := e.count, indexAt := some s.now, dev := s48 e.count ((x + cpr) % 2 ^ 48) }))) ∧
    (∀ x, forward → e.e = some x → e.rephase = [] → tol < (s48 e.count ((x + cpr) % 2 ^ 48)).natAbs →
      s.Gives (.encIndex i) (lens (((s.updEnc i.num (fun _ => { seen with
        e := some ((x + cpr) % 2 ^ 48), latched := e.count, indexAt := some s.now, dev := s48 e.count ((x + cpr) % 2 ^ 48) })).motFault 2).raiseBlocks
          Ev.encIndexSlip [i.num, evInt (s48 e.count ((x + cpr) % 2 ^ 48))]))) ∧
    (forward → e.e = none → e.rephase = [] → s.Gives (.encIndex i) ((s.updEnc i.num (fun _ => { seen with e := some e.count, latched := e.count, indexAt := some s.now, rephase := [] })).raiseBlocks
        Ev.encRephased [i.num, evInt e.dev])) ∧
    (z.due (s.itemN (Pid.encFilt i.num)) s.now = true → z.raw = true → e.rev = false → vget e.fault 2 false = false →
      s.item (Pid.encCpr i.num) = 0 → s.Gives (.encIndex i) (s.updEnc i.num (fun _ => { seen with latched := e.count, indexAt := some s.now }))) ∧
    (z.due (s.itemN (Pid.encFilt i.num)) s.now = true → (z.raw = false ∨ e.rev = true ∨ vget e.fault 2 false = true) →
      s.Gives (.encIndex i) (s.updEnc i.num (fun _ => seen))) ∧
    (∀ x, z.due (s.itemN (Pid.encFilt i.num)) s.now = false → e.e = some x → e.rephase = [] → vget e.fault 2 false = false → s.item (Pid.encCpr i.num) ≠ 0 →
      (tol : Int) + 1 ≤ s48 e.count ((x + cpr) % 2 ^ 48) → s.Gives (.encIndexMiss i) (lens (((s.updEnc i.num (fun y => { y with e := some ((x + cpr) % 2 ^ 48) })).motFault 2).raiseBlocks
          Ev.encIndexMiss [i.num, (x + cpr) % 2 ^ 48])))) ∧
  (∀ (s : State),
    (s.motionRuns = true → s.item Pid.absMode ≠ 0 → s.motion.absAt + s.itemN Pid.absPeriod ≤ s.now → s.motion.absHold ≤ s.now →
      exec .absPoll s = .next (s.updMot (fun m => { m with absAt := s.now, absWait := true }))) ∧
    (∀ (raw crc : Nat) (err warn : Bool), s.motion.absWait = true →
      let n := s.itemN Pid.absBits
      let v := raw % 2 ^ n
      let pos := if s.item Pid.absGray = 1 then grayDecode n v else v
      let good := crc = 63 - crc6 (msbBits n v ++ [err, warn])
      let jump := ∃ l, s.motion.absLast = some l ∧ 2 ^ (n - 2) < (sext n (pos + 2 ^ n - l % 2 ^ n)).natAbs
      let held := s.updMot (fun m => { m with absHold := s.now + 250 * s.itemN Pid.absTimeout })
      let fault := fun (w : State) (cause : Nat) =>
        ((w.updMot (fun m => { m with absWait := false, absBad := m.absBad + 1 })).motFault 8).raiseMot Ev.absFault [cause]
      let stop := fun (u : State) => if s.absSource = true ∧ s.motion.absBad + 1 = 3 then u.coast else u
      (s.item Pid.absProto = 1 → ¬ good → s.Gives (.absFrameReceived raw err warn crc) (stop (fault s 1))) ∧
      (s.item Pid.absProto = 1 → good → err = false → s.Gives (.absFrameReceived raw err warn crc) (stop (fault s 2))) ∧
      (s.item Pid.absProto ≠ 1 → jump → s.Gives (.absFrameReceived raw err warn crc) (stop (fault held 4))) ∧
      (s.item Pid.absProto = 1 → good → err = true → s.Gives (.absFrameReceived raw err warn crc)
        ((if warn then s else s.raiseMot Ev.absWarn [v]).absAccept v)) ∧
      (s.item Pid.absProto ≠ 1 → ¬ jump → s.Gives (.absFrameReceived raw err warn crc) (held.absAccept pos)) ∧
      (s.absSource = false → s.motion.loop.mode = .off →
        s.absAccept pos = s.updMot (fun m => { m with absLast := some pos, absBad := 0, absWait := false }))) ∧
    (s.motion.absWait = true → s.item Pid.absProto = 1 → s.motion.absAt + 250 * s.itemN Pid.absTimeout < s.now →
      let u := ((s.updMot (fun m => { m with absWait := false, absBad := m.absBad + 1 })).motFault 8).raiseMot Ev.absFault [3]
      s.Gives .absTimeout (if s.absSource = true ∧ s.motion.absBad + 1 = 3 then u.coast else u)))

/-- The pitch loop (R78 to R84, R97): an update every 256 ticks adds the mean error by the loop's gains to phase and rate, and integrates when no edge
came; 1,024 small errors lock it, 16 large ones unlock it, MOT_STILL ticks without an edge stop it, and a coast of MOT_COAST lines loses it, stopping
the press and rejecting what is in flight. The active motion block and the line it issues (R80, R85, R86): the copy of T0's state reaches T1 while T0
is active; T1 takes the role when T0 leaves, is not able, or stays silent for 1,024 ticks; a line whose predicted fire timestamp is less than
MOT_ISSUE_AHEAD away is issued, above the line before it in number and in time; a fire timestamp that is reached makes its line the current one,
starts its pulses and is seen by the compare units. Where the spec leaves a point open this follows the model's choice of log 25, 99. Under conditions
on the package and the operands alone exec answers the next state of the command's own effect (`s.Gives c u` holds an equation `exec c s = .next _`):
pitchLoopUpdate, pitchLock, pitchUnlock, webStill, encLost, motionStateCopyReceive, motionSourceT1, lineIssue, fireTimestampReached. -/
def Obligations.PitchLoopIssuesLines : Prop :=
  (∀ (s : State), let l := s.motion.loop
    (s.motionRuns = true → l.mode ≠ .off → l.tBase + 256 ≤ s.now →
      (l.tracks = true → l.n ≠ 0 → ∃ u, s.Gives .pitchLoopUpdate u ∧
        u = s.updLoop (fun _ => u.motion.loop) ∧
        let bw := if l.mode = .acq then 4 * s.itemN Pid.motBw else s.itemN Pid.motBw
        let e := l.esum.tdiv l.n
        (u.motion.loop.p : Int) = (l.p + l.f * 256 + fdivI (loopKp bw * e) (2 ^ 32)) % 2 ^ 92 ∧
        u.motion.loop.f = wrapI 48 (l.f + fdivI (loopKi bw * e) (2 ^ 48)) ∧ u.motion.loop.tBase = l.tBase + 256 ∧
        u.motion.loop.n = 0 ∧ u.motion.loop.esum = 0 ∧ u.motion.loop.mode = l.mode ∧
        (l.mode = .acq → 20 * e.natAbs < 2 ^ 44 → u.motion.loop.lockRun = l.lockRun + 1) ∧
        (l.mode = .acq → 2 ^ 44 ≤ 20 * e.natAbs → u.motion.loop.lockRun = 0) ∧
        (l.mode = .lock → 2 ^ 44 < 4 * e.natAbs → u.motion.loop.unlockRun = l.unlockRun + 1) ∧
        (l.mode = .lock → 4 * e.natAbs ≤ 2 ^ 44 → u.motion.loop.unlockRun = 0)) ∧
      ((l.tracks = false ∨ l.n = 0) → s.Gives .pitchLoopUpdate (s.updLoop (fun l => { l with
        p := ((l.p + l.f * 256 : Int) % 2 ^ 92).toNat, tBase := l.tBase + 256, prev := (l.p, l.f, l.tBase), esum := 0, n := 0 })))) ∧
    (l.mode = .acq → 1024 ≤ l.lockRun → s.Gives .pitchLock ((s.updLoop (fun l => { l with
      mode := .lock, unlockRun := 0, dark := l.dark.map (fun d => (d.1, some (d.2.getD (s.motion.lastLine + 1)))) })).raiseMot
      Ev.pitchLock [s.motion.lastLine])) ∧
    (l.mode = .lock → 16 ≤ l.unlockRun → s.Gives .pitchUnlock ((s.updLoop (fun l => { l with mode := .acq, lockRun := 0 })).raiseMot Ev.pitchUnlock [s.motion.lastLine])) ∧
    (l.tracks = true → l.still = false → l.edgeAt + s.itemN Pid.motStill < s.now → s.Gives .webStill ((s.updLoop (fun l => { l with
        p := (l.pAt s.now % 2 ^ 92).toNat, f := 0, still := true, mode := .acq, esum := 0, n := 0, lockRun := 0, unlockRun := 0 })).raiseMot
        Ev.webStill [s.srcCount])) ∧
    (l.mode = .coast → l.coastLine + s.itemNowN Pid.motCoast ≤ s.motion.lastLine → s.Gives .encLost ((((s.updLoop (fun l => { l with mode := .lost })).raiseMot Ev.encLost [s.motion.lastLine]).stopSource 1).rejectFlight))) ∧
  (∀ (s : State),
    (s.motion.active = 0 → s.motionAble 0 = true → s.motionOn 1 = true → vget s.linkUp 0 true = true →
      exec .motionStateCopyReceive s = .next (s.updMot (fun m => { m with other := m.other.map (fun b => {
        enc := b.enc.zipWith (fun e d => { e with count := d.count, e := d.e }) m.enc
        loop := m.loop, cmp := m.cmp, rej := b.rej.zipWith (fun o q => { o with queue := q.queue }) m.rej }), copyAt := s.now }))) ∧
    (s.motion.active = 0 → s.motionAble 1 = true →
      ((((s.tileN 0).twin = .withdrawn ∨ (s.tileN 0).twin = .off) ∧ (s.tileN 1).printing = true) ∨ s.motionAble 0 = false ∨
        s.motion.copyAt + 1024 < s.now) →
      ∃ u, exec .motionSourceT1 s = .next u ∧ u = (s.roleTo 1).raiseN 1 Ev.motionSourceT1 [s.motion.lastLine] ∧
        u.motion.active = 1 ∧ u.motion.lastLine = s.motion.lastLine ∧
        u.motion.other = (if s.motionOn 0 then some s.motion.block else none) ∧
        (∀ b, s.motion.other = some b → s.armed = false ∨ b.loop.mode ≠ .off → u.motion.block = b)) ∧
    (s.link.role = 1 → s.motionAble s.motion.active = true → s.motion.loop.mode ≠ .off → s.motion.loop.mode ≠ .lost →
      0 < s.motion.loop.f → s.motion.loop.reversed = false → s.passed = true →
      s.predict s.issueNext < ((s.now + s.itemN Pid.motIssueAhead : Nat) : Int) * 256 →
      exec .lineIssue s = .next ((s.issueCore s.issueNext s.issueFire).issueTail s.issueNext) ∧
      s.issueFire = max (s.predict s.issueNext).toNat (s.motion.lastFire + 1) ∧
      (s.motion.loop.fresh = false → s.issueNext = s.motion.lastLine + 1)) ∧
    (∀ l, s.reachedLine = some l → s.Gives .fireTimestampReached (((s.updMot (fun m => { m with current := l.n, issued := mapIf m.issued (fun x => x.n == l.n) (fun x =>
        { x with counts := some ([1, 2, 3].map (fun i => (s.enc i).count)) }) })).startPulses l.n).compareAll 5 l.n)) ∧
    (∀ l, s.reachedLine = some l → s.motion.current < l.n ∧ l.fire / 256 ≤ s.now ∧ l ∈ s.motion.issued ∧
      ∀ x ∈ s.motion.issued, s.motion.current < x.n → x.fire / 256 ≤ s.now → l.n ≤ x.n))

/-- Outputs, compare settings, product detects and carriages (R89, R90, R93 to R95): a pulse ends when its width has passed; a setting takes effect at its
tick; an active edge of a product detect registers a product at its offset from the current line, and one that follows too soon raises PD_REPEAT; a
carriage code takes its value when stable for its time. Under conditions on the package and the operands alone exec answers the next state of the
command's own effect (`s.Gives c u` holds an equation `exec c s = .next _`): outputPulseEnd, compareApply, pdEdge, carriageCodeChange. -/
def Obligations.PulsesDetectsAndCarriages : Prop :=
  ∀ (s : State),
    (∀ o : Fin 4, ∃ u, s.Gives (.outputPulseEnd o) u ∧ u = s.updMot (fun m => { m with rej := u.motion.rej }) ∧
      (∀ k, k ≠ o.val → vget u.motion.rej k RejOut.clear = vget s.motion.rej k RejOut.clear) ∧
      let x := vget s.motion.rej o.val RejOut.clear
      vget u.motion.rej o.val RejOut.clear = { x with
        rejEnd := x.rejEnd.filter (fun t => decide (s.now < t)), cmpEnd := x.cmpEnd.filter (fun t => decide (s.now < t)) }) ∧
    (∀ (u : Fin 16) t es seq r, (s.cmp u.val).pend = (t, es, seq) :: r → t ≤ s.now →
      s.Gives (.compareApply u) ((s.updCmp u.val (fun c => { c with pend := r })).cmpApplyNow u.val t es)) ∧
    (∀ i : Fin 8, s.motionRuns = true → let x := vget s.motion.pd i.val PinSt.reset
      let seen := s.updMot (fun m => { m with pd := vset m.pd i.val x.take })
      let lane := s.itemN (Pid.pdLane i.val)
      let line := s.currentAt x.since
      x.due (s.itemN (Pid.pdFilt i.val)) s.now = true →
        ((x.raw = decide (s.item (Pid.pdEdge i.val) = 1) ∨ lane = 255 ∨ s.registers line = false) → exec (.pdEdge i) s = .next seen) ∧
        (x.raw ≠ decide (s.item (Pid.pdEdge i.val) = 1) → lane ≠ 255 → s.registers line = true →
          (∀ l, vget s.motion.pdLast i.val none = some l → l ≤ line → line < l + s.itemN (Pid.pdMin i.val) →
            exec (.pdEdge i) s = .next (seen.raiseMot Ev.pdRepeat [i.val, line])) ∧
          ((∀ l, vget s.motion.pdLast i.val none = some l → line < l ∨ l + s.itemN (Pid.pdMin i.val) ≤ line) →
            exec (.pdEdge i) s = .next ((seen.updMot (fun m => { m with pdLast := vset m.pdLast i.val (some line) })).registerProduct
              lane (line + s.itemN (Pid.pdOffset i.val)))))) ∧
    (∀ g : Fin 3, s.motionRuns = true → s.carrRaw g.val ≠ vget s.motion.carrCode g.val 0 →
      vget s.motion.carrSince g.val 0 + s.itemN (Pid.carrFilt g.val) + 1 ≤ s.now →
      let seen := s.updMot (fun m => { m with carrCode := vset m.carrCode g.val (s.carrRaw g.val) })
      let said := if 2 ≤ (bitsOf 3 (s.carrRaw g.val)).length then
        (seen.motFault 4).raiseBlocks Ev.carriageCodeBad [g.val, s.carrRaw g.val] else seen
      (vget s.motion.carrCode g.val 0 = 4 → exec (.carriageCodeChange g) s = .next (said.carrLeave g.val (s.carrRaw g.val))) ∧
      (vget s.motion.carrCode g.val 0 ≠ 4 → s.carrRaw g.val = 4 → s.armed = true →
        s.itemN (Pid.carrChannels g.val) &&& (0xFFF - said.carrAway) ≠ 0 → exec (.carriageCodeChange g) s = .next
        (said.changeBoundary 0 (.carr (s.itemN (Pid.carrChannels g.val) &&& (0xFFF - said.carrAway)) false))) ∧
      (vget s.motion.carrCode g.val 0 ≠ 4 → (s.carrRaw g.val ≠ 4 ∨ s.armed = false ∨ s.itemN (Pid.carrChannels g.val) &&& (0xFFF - said.carrAway) = 0) →
        exec (.carriageCodeChange g) s = .next said))

/-- Arm lines (R153, R177 to R180, R362): once its arm line has been issued, and every product of a lower arm line or lane is done, a product is evaluated
with the items its changes bind; one whose arm-line commit is beyond CMAX, or whose line a tile has begun, keeps the items already in force, and is
rejected with ARM_MISSED unless it prints blank; before that nothing happens. Web lines on a tile (R31, R60, R360, R361): a position above the last is
accepted with its CMAX, and a printing tile that lacks a commit within it withdraws; a due web line is begun with the commits due on it and, on a tile
that carries the span, composed. Where the spec leaves a point open this follows the model's choice of log 97, 98. Under conditions on the package and
the operands alone exec answers the next state of the command's own effect: positionMessageReceive, armLineEvaluation, lineCompute. -/
def Obligations.TilesTakeArmedAndAcceptedLines : Prop :=
  (∀ (s : State) (lane : Fin 16) (num : Nat) (p : Product), s.product lane.val num = some p →
    (s.armDue p = false → exec (.armLineEvaluation lane num) s = .next s) ∧
    (s.armDue p = true → s.armLate p = false → exec (.armLineEvaluation lane num) s = .next (s.armEvaluate p)) ∧
    (s.armDue p = true → s.armLate p = true →
      let m := s.itemsUnder p (fun c => decide (c.target.getD 0 < p.num))
      let late := (s.changesFor p.lane p.num).filter (fun c => c.target == some p.num && !s.fenceOk p.lane p.num (s.armLine p) c)
      let u := (late.foldl (fun s c => s.settleFence p.lane p.num (s.armLine p) m { c with layers := [] }) (s.armProduct p m)).updLane p.lane
        (fun l => { l with changes := mapIf l.changes (fun c => decide (c.target.getD 0 ≤ p.num)) (fun c => { c with nextJob := false }) })
      exec (.armLineEvaluation lane num) s = .next
        (if p.blank then u else (u.raiseLead Ev.armMissed [p.lane, p.num]).reject p.lane p.num)) ∧
    (s.armDue p = true → p.armed = false ∧ s.armLine p ≤ s.motion.lastLine ∧ s.armed = true ∧
      ∀ q ∈ s.job.products, q.armed = false → s.armLine q < s.armLine p ∨ (s.armLine q = s.armLine p ∧ q.lane < p.lane) → False)) ∧
  (∀ (s : State) (t : Tile) (n : Nat), t.val < s.nTiles →
    (∀ l, s.issuedAt n = some l → (s.tile t).posLine < n → (s.tile t).twin ≠ .off → s.reaches0 t.val = true →
      let u := s.updTile t (fun x => { x with posLine := n, cmax := l.cmax })
      exec (.positionMessageReceive t n) s = .next (if (s.tile t).carries && u.commitMissing t.val l.cmax then u.withdraw t.val 6 else u)) ∧
    (n ≤ (s.tile t).posLine → exec (.positionMessageReceive t n) s = .next s) ∧
    (s.lineDue t.val n = true →
      let u := (s.startFill t.val n).applyCommits t.val n
      exec (.lineCompute t n) s = .next ((if (u.tile t).carries then u.composeLine t.val n else u).bankReached) ∧ (u.tile t).begun = n + 1 ∧
      ∀ c ∈ s.commitsAt n (s.cmaxAt n), c.cseq ∈ (u.tile t).appliedCommits) ∧
    (s.lineDue t.val n = false → exec (.lineCompute t n) s = .next s))

/-- Stage 11 (R240, R348): a tile's next firing line is taken once its web line has been begun; a tile in FILL whose last delayed row has its own data
becomes PAIRED beside a partner that sends, else SOLO; rows run as far as the partner's records allow. Segment frames (R294 to R301): a due segment
leaves as LINE with the row's slots; bad row data gives VOID ECC, a void strip VOID STRIP, a held row VOID STATE, a row that has not run or a frame
past its send deadline VOID LATE; on a lane that is not UP for the line nothing leaves, and the segment is undelivered. Where the spec leaves a point
open this follows the model's choice of log 90, 93. Under conditions on the package and the operands alone exec answers the next state of the
command's own effect: firingLineStage11, segmentFrameDue. -/
def Obligations.FiringLinesLeaveAsFrames : Prop :=
  (∀ (s : State) (t : Tile) (line : Nat) (short : List Nat), t.val < s.nTiles →
    (s.stageDue t.val line = false → exec (.firingLineStage11 t ⟨line, short⟩) s = .next s) ∧
    (s.stageDue t.val line = true →
      let u := ((s.endFill t.val line).shortBad t.val line short).updTileN t.val (fun x => { x with
        fired := { line := line, done := false, recs := [], unknown := [], segs := [], sent := [], voided := [], held := [] } :: x.fired
        records := LineRec.quiet line [] :: x.records })
      exec (.firingLineStage11 t ⟨line, short⟩) s = .next (let v := (u.scanPanic t.val).goOn t.val false
        ((v.lineSegs (t.val / 2) line).filter (fun seg => (v.asOf line).uncomputed t.val (segCh seg) (segRow seg) line)).foldl
          (fun s seg => s.checkUndelivered (t.val / 2) line seg) v)) ∧
    ((s.tile t).twin = .fill → (s.tile t).startLine.getD 0 + s.maxDelay ≤ line → (s.tileN (partnerOf t.val)).carries = false →
      s.endFill t.val line = (s.setTwin t.val .solo 0 line).updatePaired t.val) ∧
    ((s.tile t).twin ≠ .fill → s.endFill t.val line = s)) ∧
  ((∀ (s : State) (t : Tile) (line seg : Nat) (f : FiredLine) (x lo n : Nat), t.val < s.nTiles → (s.tile t).firedAt line = some f →
    (s.asOf line).segOf (t.val / 2) seg = some (x, lo, n) → s.frameDue t.val line seg = true →
    let l := (s.tile t).lane (s.segLane t.val line seg)
    (l.st ≠ 2 ∨ line < l.fromLine → exec (.segmentFrameDue t line seg) s = .next (s.voidSeg t.val line seg n 0)) ∧
    (l.st = 2 → l.fromLine ≤ line → s.voidCause t.val line seg lo n ≠ 0 →
      exec (.segmentFrameDue t line seg) s = .next (s.voidSeg t.val line seg n (s.voidCause t.val line seg lo n))) ∧
    (l.st = 2 → l.fromLine ≤ line → s.voidCause t.val line seg lo n = 0 →
      exec (.segmentFrameDue t line seg) s = .next (s.sendLine t.val line seg ((f.segs.lookup seg).getD [])))) ∧
  (∀ (rl : RowLine) (first lo n : Nat) (held : Bool),
    (segCause rl first lo n held = 2 ↔ ∃ i ∈ rl.bad, lo ≤ first + i ∧ first + i < lo + n) ∧
    (segCause rl first lo n held = 3 ↔ rl.void = true ∧ ∀ i ∈ rl.bad, ¬ (lo ≤ first + i ∧ first + i < lo + n)) ∧
    (segCause rl first lo n held = 0 → held = false ∧ rl.void = false)) ∧
  (∀ (s : State) (t line seg : Nat) (l : IssuedLine) (slots : List Nat), s.issuedAt line = some l →
    (s.takesSlots (s.segNode (t / 2) seg) = false →
      s.sendLine t line seg slots = s.sendLine t line seg (slots.map (fun _ => 0)))))

/-- A job that has drained ends (R439, R443): JOB.DISARM completes with the last firing line, the state is IDLE, the loop stops, and every tile needs only
PD_AON; while a printing tile still has frames to send nothing happens. The partner's record of a line (R354 to R356): it is taken once the twin link
brings it, compared with the tile's own, and what both left undelivered is checked; a record that does not come by two lines later leaves its rows
held. Where the spec leaves a point open this follows the model's choice of log 17, 56, 88. Under conditions on the package and the operands alone
exec answers the next state of the command's own effect: stateCopyReceive, stateRecordMissing, jobDrainEnd. -/
def Obligations.RecordsAreTakenAndJobsEnd : Prop :=
  (∀ (s : State),
    (s.drained = false → exec .jobDrainEnd s = .next s) ∧
    (s.drained = true →
      let n := s.lastFiring.getD (Config.freeNat s.free)
      let a := s.foldJob.colourDrain
      let b := ({ a with job := { a.job with st := .idle, disarm := none, arming := none } } : State).updLoop (fun l => { l with mode := .off })
      exec .jobDrainEnd s = .next ((((b.tileList.foldl (fun s t => s.updTileN t (fun x => { x with pdNeed := 1 })) b).nextFree.pruneLive).raiseLead
        Ev.jobState [0, n]).doneLine ((s.job.disarm.map (·.1)).getD 0) St.ok n)) ∧
    (s.drained = true → s.job.st = .draining ∧ (∃ q e b, s.job.disarm = some (q, e, b) ∧ e ≤ s.motion.lastLine + 1) ∧
      ∀ n, s.lastFiring = some n → ∀ t ∈ s.usedTiles, (s.tileN t).carries = true → (s.tileN t).sentTo n = true)) ∧
  (∀ (s : State) (t : Tile) (line : Nat), t.val < s.nTiles →
    (∀ r, (s.tileN (partnerOf t.val)).recorded line = some r → vget s.linkUp (t.val / 2) true = true → (s.tile t).copying = false →
      ((s.tile t).carries = true ∨ (s.tile t).twin = .resync) → (s.tile t).partnerRec line = none →
      let u := s.updTile t (fun x => { x with
        partner := x.partner.filter (fun p => decide (line < p.line)) ++ [r] ++ x.partner.filter (fun p => decide (p.line < line)) })
      exec (.stateCopyReceive t line) s = .next (r.undel.foldl (fun s g => s.checkUndelivered (t.val / 2) line g)
        ((if ((s.tile t).recorded line).isSome then u.compareSig t.val line else u).goOn t.val false))) ∧
    ((s.tileN (partnerOf t.val)).recorded line = none ∨ vget s.linkUp (t.val / 2) true = false →
      exec (.stateCopyReceive t line) s = .next s) ∧
    ((s.tile t).missing = none → s.firstMissing t.val = some line → (s.tileN (partnerOf t.val)).carries = true →
      exec (.stateRecordMissing t line) s = .next ((s.updTile t (fun x => { x with missing := some line })).goOn t.val false)) ∧
    ((s.tile t).missing ≠ none ∨ s.firstMissing t.val ≠ some line ∨ (s.tileN (partnerOf t.val)).carries = false →
      exec (.stateRecordMissing t line) s = .next s))

/-- Strips (R121, R122, R124, R126): the pending strip of earliest deadline takes a free engine; a decoded strip gets its verdict and frees its buffer's
turn; at the deadline a strip is released, void or blank by its own verdict and the partner's; a late verdict of fail rejects what was decided void; a
failed strip is mended from the partner. Where the spec leaves a point open this follows the model's choice of log 61, 91, 103. Under conditions on
the package and the operands alone exec answers the next state of the command's own effect: stripDecodeStart, stripVerified, stripVerdictReceive,
stripDeadline, stripMended. -/
def Obligations.StripsAreDecidedByTheirDeadline : Prop :=
  (∀ own b p, stripFate own b p = if own = 0 then 1 else if b = false then 3 else if p = none ∨ p = some 0 then 2 else 3) ∧
  (∀ (s : State) (t : Tile) sid strip d, t.val < s.nTiles → s.pendingStrip t.val = some (sid, strip, d) →
    (s.tile t).on 4 = true → (s.tile t).decoding < 2 → bit (s.tile t).thm.shed 1 = false →
    exec (.stripDecodeStart t) s = .next (s.updStrip t.val sid strip (fun b => { b with decoding := true }))) ∧
  (∀ (s : State) (t : Tile) sid strip st b d, t.val < s.nTiles → (s.tile t).stream sid = some st → st.buf strip = some b →
    (s.tile t).desc st.surf = some d → (s.tile t).on 4 = true → b.decoding = true → b.own = none →
    let v := (s.tile t).verify d strip
    exec (.stripVerified t sid strip) s = .next ((((s.updStrip t.val sid strip (fun b => { b with
      decoding := false, own := some v.1, data := v.2, mend := decide (v.1 ≠ 0 ∧ s.itemN Pid.codecMend = 1) })).stripFails t.val st.surf strip
        v.1).sendVerdict t.val sid strip v.1).updStream t.val sid (fun st => st.refill d.scount))) ∧
  (∀ (s : State) (t : Tile) sid strip st d p lo ls, t.val < s.nTiles → (s.tile t).stream sid = some st → (s.tile t).desc st.surf = some d →
    s.nextRead t.val st strip = some (p, lo :: ls) → let b := (st.buf strip).getD (StripBuf.fresh strip)
    b.fate = 0 → lo - s.itemN Pid.codecMargin < s.motion.lastLine ∨ (b.own = some 0 ∧ lo - s.itemN Pid.codecMargin = s.motion.lastLine) →
    exec (.stripDeadline t sid strip) s = .next (((s.withBuf t.val sid strip).decideStrip t.val st strip b (lo :: ls)).updStream t.val sid
      (fun st => st.refill d.scount))) ∧
  (∀ (s : State) (t : Tile) st strip b ls, (b.own = some 0 → s.decideStrip t.val st strip b ls =
      (s.updStrip t.val st.sid strip (fun b' => { b' with partner := (s.tile t).partnerVerdict st.sid b, fate := 1 })).updTile t (fun x => { x with
        verdicts := x.verdicts.filter (fun v => !(v.arrived && v.sid == st.sid && v.strip == strip)) })) ∧
    (∀ c, b.own = some c → c ≠ 0 → (s.tileN (partnerOf t.val)).carries = false → s.decideStrip t.val st strip b ls =
      (s.affected t.val ls).foldl (fun s p => s.reject p.lane p.num) ((((s.updStrip t.val st.sid strip (fun b' => { b' with
        partner := (s.tile t).partnerVerdict st.sid b, fate := 3 })).updTile t (fun x => { x with
          verdicts := x.verdicts.filter (fun v => !(v.arrived && v.sid == st.sid && v.strip == strip)) })).raise t Ev.stripBlanked
            [t.val / 2, ls.headD 0, ls.getLastD 0])))) ∧
  (∀ (s : State) (t : Tile) sid strip v, t.val < s.nTiles →
    (s.tile t).verdicts.find? (fun v => !v.arrived && v.sid == sid && v.strip == strip) = some v →
    vget s.linkUp (t.val / 2) true = true → (s.tileN (partnerOf t.val)).carries = true →
    let mine := (s.tile t).unsettled.filter (fun u => u.1 == sid && u.2.1 == strip)
    let w := s.updTile t (fun x => { x with verdicts := x.verdicts.erase v })
    let u := w.updStrip t.val sid strip (fun b => { b with partner := some v.cause })
    (mine ≠ [] → exec (.stripVerdictReceive t sid strip) s = .next
      (let r := u.updTile t (fun x => { x with unsettled := x.unsettled.filter (fun u => !(u.1 == sid && u.2.1 == strip)) })
       if v.cause = 0 then r else mine.foldl (fun s u => s.reject u.2.2.1 u.2.2.2) r)) ∧
    (∀ b, mine = [] → (s.tile t).strip sid strip = some b → b.partner = none → exec (.stripVerdictReceive t sid strip) s = .next u) ∧
    (mine = [] → (s.tile t).strip sid strip = none → exec (.stripVerdictReceive t sid strip) s =
      .next (w.updTile t (fun x => { x with verdicts := x.verdicts ++ [{ v with arrived := true }] })))) ∧
  (∀ (s : State) (t : Tile) sid strip st b d c, t.val < s.nTiles → (s.tile t).stream sid = some st → st.buf strip = some b →
    (s.tileN (partnerOf t.val)).desc st.surf = some d → b.mend = true → vget s.linkUp (t.val / 2) true = true →
    (s.tileN (partnerOf t.val)).takes = true → b.own = some c → c ≠ 0 → b.partner = some 0 →
    let loc := (s.tileN (partnerOf t.val)).stripAt d strip
    let u := s.tileWrite t.val loc.1 (Mem.read (s.tileN (partnerOf t.val)).mem loc.1 loc.2)
    let v := (u.tile t).verify d strip
    let w := u.updStrip t.val sid strip (fun b => { b with
      own := some v.1, data := v.2, mend := decide (v.1 ≠ 0 ∧ s.itemN Pid.codecMend = 1) })
    exec (.stripMended t sid strip) s = .next (if v.1 = 0 then w.raise t Ev.stripMended [t.val / 2, st.surf, strip]
      else w.raise t Ev.stripCheckFail [t.val / 2, st.surf, strip, v.1]))

/-- The calendar (R165 to R173): a rollover counts one second and applies a step that waited, on the master alone; a supply failure makes a calendar
invalid; missing announcements for CAL_HOLD seconds lose the discipline; a slew that is done ends. What TIME alignment and announcements do (R43,
R169, R326, R327): 16 intervals without an exchange take a node back to TIMING and withdraw a slave package from printing; an announcement corrects a
slave's calendar under source 2; a tile whose TIME differs by more than TIME_SKEW from its twin's raises the alarm. Under conditions on the package
and the operands alone exec answers the next state of the command's own effect: calInvalid, timeExchangeTimeout, timeAnnounceReceive, timeAlignCheck,
calSecondRollover, calDisciplineLost, calSlewEnd. -/
def Obligations.CalendarsAndTimeLossAreHandled : Prop :=
  (∀ (s : State),
    exec .calSecondRollover s = .next s.calRollover.colourDay.announce ∧
    (s.lead.tile < 2 →
      let n : Int := ((s.master.sec + 1) * crystal : Nat) + s.master.step.getD 0
      s.rollover.master.sec = (n / crystal).toNat % 2 ^ 40 ∧ s.rollover.master.sub = (n % crystal).toNat ∧
      s.rollover.master.tau = s.now ∧ s.rollover.master.step = none ∧
      s.rollover.master.valid = (s.master.valid || s.master.step.isSome)) ∧
    (∀ k : Fin 2, let u := (s.updCal k.val (fun _ => { Cal.reset with tau := s.now })).updMarks (fun m =>
        { m with shadowOk := vset m.shadowOk k.val false })
      (k.val ≠ s.lead.tile → exec (.calInvalid k) s = .next (u.raiseLead Ev.calInvalid [k.val])) ∧
      (k.val = s.lead.tile → exec (.calInvalid k) s =
        .next ((u.updMarks (fun m => { m with taus := [], wall := none })).raiseLead Ev.calInvalid [k.val]))) ∧
    (s.marks.src = 2 → s.marks.lost = false → s.marks.heard + s.marks.hold * ticksPerSec < s.now → exec .calDisciplineLost s =
      .next (((s.updMarks (fun m => { m with lost := true })).updCal s.lead.tile (fun c => { c with srcOk := false })).raiseLead
        Ev.calDisciplineLost [(s.marks.announced.map (·.1)).getD 0])) ∧
    (s.marks.src ≠ 2 ∨ s.marks.lost = true ∨ s.now ≤ s.marks.heard + s.marks.hold * ticksPerSec → exec .calDisciplineLost s = .next s) ∧
    (∀ w, s.master.slew = some w →
      (slewDone s.marks.slewPpm (some w) s.now = w.left → exec .calSlewEnd s =
        .next ((s.updCal s.lead.tile (fun c => { c with sub := s.subAt s.lead.tile s.now, tau := s.now, slew := none })).raiseLead
          Ev.calSlewing [evInt w.delta])) ∧
      (slewDone s.marks.slewPpm (some w) s.now ≠ w.left → exec .calSlewEnd s = .next s))) ∧
  ((∀ (s : State), s.link.servos.any (fun x => x.hop == .up) = true → (s.servo .up).doneAt + 16 * (if (s.servo .up).interval = 0 then s.itemN Pid.wylTimeInt else (s.servo .up).interval) < s.now →
    exec (.timeExchangeTimeout .up) s = .next (if s.link.pressFault || s.link.role != 0 then s else s.pressFault (s.servo .up).o)) ∧
  (∀ (s : State) (h : Hop), h ≠ .up → s.link.servos.any (fun x => x.hop == h) = true →
    (s.servo h).doneAt + 16 * (if (s.servo h).interval = 0 then s.itemN Pid.wylTimeInt else (s.servo h).interval) < s.now →
    let u := s.updServo h (fun v => { v with aligned := false, good := 0 })
    (∀ n, s.hopNode h = some n → exec (.timeExchangeTimeout h) s =
      .next (if n.nodeSt = 4 then u.updNode n.id (fun x => { x with nodeSt := 2 }) else u)) ∧
    (s.hopNode h = none → exec (.timeExchangeTimeout h) s = .next u)) ∧
  (∀ (s : State) (t : Tile) (d : Int), t.val < s.nTiles →
    (t = 0 → exec (.timeAlignCheck t d) s = .next s) ∧
    (∀ a, (s.tile t).alignAt = some a → s.now < a + 1024 → exec (.timeAlignCheck t d) s = .next s) ∧
    (t ≠ 0 → (∀ a, (s.tile t).alignAt = some a → a + 1024 ≤ s.now) →
      let slew : Int := if 0 < d then -1 else if d < 0 then 1 else 0
      let u := fun (ok : Bool) => s.updTile t (fun x => { x with
        skew := d, timeMin := s.tileNow t, alignAt := some s.now, slew := slew }.assay 1 ok)
      (d.natAbs ≤ 2 → exec (.timeAlignCheck t d) s = .next (u true)) ∧
      (2 < d.natAbs → exec (.timeAlignCheck t d) s =
        .next ((((u false).raise t Ev.timeAlignFault [t.val, wrapS 64 d]).withdraw t.val 4).motionRole)))) ∧
  (∀ (s : State) (sec tau : Nat), s.link.role = 0 → s.marks.src = 2 →
    let d : Int := ((sec * crystal : Nat) : Int) - s.calCount tau
    let u := (s.updMarks (fun m => { m with announced := some (sec, s.now), heard := s.now, lost := false })).updCal s.lead.tile
      (fun c => { c with srcOk := true })
    (s.calBelow d = true → exec (.timeAnnounceReceive sec tau) s = .next s) ∧
    (s.calBelow d = false → (d == 0 && u.master.valid) = true → exec (.timeAnnounceReceive sec tau) s = .next (u.calReplace none none)) ∧
    (s.calBelow d = false → (d == 0 && u.master.valid) = false → exec (.timeAnnounceReceive sec tau) s = .next (u.calCorrect d true false))) ∧
  (∀ (s : State) (sec tau : Nat), s.link.role ≠ 0 ∨ s.marks.src ≠ 2 → exec (.timeAnnounceReceive sec tau) s = .next s))

/-- TIME between packages and nodes (R322 to R324, R326): SYNC leaves every WYL_TIME_INT and opens an exchange, REQ answers it, RESP answers REQ with the
stamps, and a whole exchange moves the servo; stamps that give a delay outside 0 to 100 us are dropped. Where the spec leaves a point open this
follows the model's choice of log 76. Under conditions on the package and the operands alone exec answers the next state of the command's own effect:
timeSyncSend, timeSyncReceive, timeReqReceive, timeRespReceive. -/
def Obligations.TimeExchangesRunTheServo : Prop :=
  (∀ (s : State) (h : Hop), s.hopUp h = true → h ≠ .up → (s.servo h).syncAt + (s.servo h).interval ≤ s.now →
    exec (.timeSyncSend h) s = .next ((s.updServo h (fun v => { v with
      xseq := (v.xseq + 1) % 256, t1 := some (s.stampNow h), t2 := none, t3 := none, syncAt := s.now
      interval := s.itemN Pid.wylTimeInt })).hopSend h 3 [0, ((s.servo h).xseq + 1) % 256, s.stampNow h])) ∧
  (∀ (s : State) (h : Hop) (xseq t1 t2 : Nat), s.hopUp h = true →
    let u := s.updServo h (fun v => { v with
      xseq := xseq % 256, t1 := some t1, t2 := some t2, t3 := some (s.stampNow h), syncAt := s.now, interval := s.itemN Pid.wylTimeInt
      doneAt := if v.doneAt = 0 then s.now else v.doneAt })
    (h = .up → exec (.timeSyncReceive h xseq t1 t2) s = .next (u.sendFrame
      { tile := s.lead.tile, lane := 8, type := 3, node := 0, fields := [1, xseq % 256, s.stampNow .up] })) ∧
    (h ≠ .up → exec (.timeSyncReceive h xseq t1 t2) s = .next u)) ∧
  (∀ (s : State) (h : Hop) (xseq t3 t4 a : Nat), s.hopUp h = true → h ≠ .up → (s.servo h).xseq = xseq % 256 → (s.servo h).t1 = some a →
    exec (.timeReqReceive h xseq t3 t4) s =
      .next ((s.updServo h (fun v => { v with t3 := some t3 })).hopSend h 3 [2, xseq % 256, t4, a])) ∧
  (∀ (s : State) (h : Hop) (xseq t4 a b c : Nat), s.hopUp h = true → (s.servo h).xseq = xseq % 256 → (s.servo h).t1 = some a →
    (s.servo h).t2 = some b → (s.servo h).t3 = some c →
    let steps := h == .up && (!s.armed || s.allTime)
    ((s.servo h).exchange a b c t4 steps = none → exec (.timeRespReceive h xseq t4) s =
      .next (s.updServo h (fun v => { v with t1 := none, t2 := none, t3 := none }))) ∧
    (∀ v o, (s.servo h).exchange a b c t4 steps = some (v, some o) → exec (.timeRespReceive h xseq t4) s =
      .next (((s.updServo h (fun _ => { v with doneAt := s.now })).stepTime o).aligned h)) ∧
    (∀ v, (s.servo h).exchange a b c t4 steps = some (v, none) → exec (.timeRespReceive h xseq t4) s =
      .next ((s.updServo h (fun _ => { v with doneAt := s.now })).aligned h))) ∧
  (∀ (v : Servo) (t1 t2 t3 t4 : Int) (steps : Bool),
    (t2 - t1 + (t4 - t3) < 0 ∨ 12_800_000 < t2 - t1 + (t4 - t3) → v.exchange t1 t2 t3 t4 steps = none) ∧
    (0 ≤ t2 - t1 + (t4 - t3) → t2 - t1 + (t4 - t3) ≤ 12_800_000 → ∃ w x, v.exchange t1 t2 t3 t4 steps = some (w, x) ∧
      w.o = (t2 - t1 - (t4 - t3)).tdiv 2 ∧ w.d = (t2 - t1 + (t4 - t3)).tdiv 2 ∧
      w.bad = (if 512 < w.o.natAbs then v.bad + 1 else 0) ∧ w.good = (if w.o.natAbs ≤ 256 then v.good + 1 else 0) ∧
      (steps = true → x = some (-w.o)) ∧ (steps = false → x = none ∧ w.rate = v.rate - w.o.tdiv 16)))

/-- Nodes make themselves known (R329 to R331, R333, R338, R339): HELLO leaves at its period; a HELLO on a lane that is not up changes nothing, one
without an ID and outside the table leaves the node in DISCOVER, and one deeper than 4 leaves it there too, refused once; STATUS renews presence,
counters and state, and 750,000 ticks without it lose the node; an EVENT of an assigned code is acted on once. Where the spec leaves a point open this
follows the model's choice of log 52, 65. Under conditions on the package and the operands alone exec answers the next state of the command's own
effect: helloSend, helloReceive, statusFrameReceive, nodeStatusTimeout, nodeEvent. -/
def Obligations.NodesJoinReportAndLeave : Prop :=
  (∀ (s : State) (h : Hop), s.hopUp h = true → (s.servo h).helloAt + 250_000 ≤ s.now →
    let f := s.selfNode.hello
    exec (.helloSend h) s = .next ((s.updServo h (fun v => { v with helloAt := s.now })).hopSend h 7
      [f.state, f.kind, f.caps, f.uid, f.id.getD 0x8000, f.parent, f.depth, f.pend, f.fwd, f.hubLead, f.tPath, f.lastAcc])) ∧
  (∀ (s : State) (t : Tile) (l : Fin 10) (f : Hello), t.val < s.nTiles →
    ((s.lnkOn t.val l.val && (s.tile t).laneUp l.val) = false → exec (.helloReceive t l f) s = .next s) ∧
    (s.lnkOn t.val l.val = true → (s.tile t).laneUp l.val = true →
      let g := { f with depth := s.depthOf f }
      (f.id = none → s.link.table.lookup f.uid = none → exec (.helloReceive t l f) s = .next ((s.helloBase f).nodeStays g Ev.nodeUnknown 0)) ∧
      (∀ id, f.id = none → s.link.table.lookup f.uid = some id → s.idTaken f.uid id = true →
        exec (.helloReceive t l f) s = .next ((s.helloBase f).nodeStays g Ev.nodeIdConflict id)) ∧
      (∀ id, f.id = none → s.link.table.lookup f.uid = some id → s.idTaken f.uid id = false → g.depth ≤ 4 → exec (.helloReceive t l f) s =
        .next (((s.helloBase f).nodeHello t.val l.val id { g with state := 1 }).sendCtrl id 0 [id])) ∧
      (∀ id, f.id = some id → (id ≠ 0 ∨ f.kind = 1) → s.idTaken f.uid id = false → g.depth ≤ 4 →
        exec (.helloReceive t l f) s = .next ((s.helloBase f).nodeHello t.val l.val id g)) ∧
      (∀ id, (f.id = some id ∧ (id ≠ 0 ∨ f.kind = 1) ∨ f.id = none ∧ s.link.table.lookup f.uid = some id) → s.idTaken f.uid id = false →
        4 < g.depth → exec (.helloReceive t l f) s = .next ((s.helloBase f).nodeDeep t.val l.val id g)) ∧
      (∀ id, f.id = some id → s.idTaken f.uid id = true → exec (.helloReceive t l f) s = .next ((s.helloBase f).nodeStays g Ev.nodeIdConflict id)))) ∧
  (∀ (s : State) (f : StatusFrame), s.node f.node = none → exec (.statusFrameReceive f) s = .next s) ∧
  (∀ (s : State) (f : StatusFrame) (x : Node), s.node f.node = some x → x.id ≠ noNode → f.temps = [] → f.health = [] →
    f.state = 4 → x.st = 4 → x.readyLine.isSome = true → exec (.statusFrameReceive f) s =
      .next (s.updNode x.id (fun n => { n with
        st := if n.st = 5 then 5 else 4, nodeSt := 4, counters := f.counters, top := max n.top f.lastAcc
        statusAt := if f.part % 128 = 0 then some s.now else n.statusAt }))) ∧
  (∀ (s : State) (id : Nat) (x : Node) (a : Nat), s.node id = some x → x.statusAt = some a → (x.st = 4 ∨ x.st = 5) →
    (a + 750_000 < s.now → exec (.nodeStatusTimeout id) s = .next (s.nodeLost id 0 a)) ∧
    (s.now ≤ a + 750_000 → exec (.nodeStatusTimeout id) s = .next s)) ∧
  (∀ (s : State) (node code eseq : Nat) (data : List Byte) (x : Node), s.node node = some x →
    (code = 0x10 ∨ (0x8000 ≤ code ∧ code < 0x10000)) →
    (x.eseq.lookup code = some eseq → exec (.nodeEvent node code eseq data) s = .next s) ∧
    (x.eseq.lookup code ≠ some eseq → exec (.nodeEvent node code eseq data) s =
      .next ((s.updNode node (fun n => { n with eseq := n.eseq.filter (fun e => e.1 != code) ++ [(code, eseq)] })).raiseLead Ev.nodeEvent
        ([node, code] ++ data.map (fun (b : Byte) => b.toNat)))))

/-- A slave package (R341): a position above its last line, while a job is armed, becomes its own loop and lens state and issues the line with its
timestamp; a product event registers the product under its number; the master package takes neither. CTRL (R337, R340): the node a request names
answers a read with its registers or NAK, and a write with all its dwords taken or none; an answer to a read puts its data in host memory and
completes the request, and NAK completes it with ST_NODE_NAK; a request is sent three times, 25,000 ticks apart, and then ends with ST_NODE_TIMEOUT.
Where the spec leaves a point open this follows the model's choice of log 53, 54, 55, 73. Under conditions on the package and the operands alone exec
answers the next state of the command's own effect: eventPositionReceive, eventProductReceive, ctrlRequestReceive, ctrlAnswerReceive,
ctrlAnswerTimeout. -/
def Obligations.ControlAndSlavePackagesAnswer : Prop :=
  (∀ (s : State),
    (∀ e : PosEvent, s.link.role = 0 → s.armed = true → s.motion.lastLine < e.line →
      let u := (s.updLoop (fun l => { l with
        mode := .lock, p := e.line * 2 ^ 44, f := ((e.rate * 2 ^ 44 / 250_000_000 : Nat) : Int), tBase := e.fire, still := false
        reversed := false })).updLens (fun l => { l with st := .lock, aL := e.aL, aR := e.aR, r := e.r, q := e.q })
      exec (.eventPositionReceive e) s = .next ((u.issueCore e.line (256 * e.fire + e.fph)).issueTail e.line)) ∧
    (∀ e : PosEvent, s.link.role ≠ 0 ∨ s.armed = false ∨ e.line ≤ s.motion.lastLine → exec (.eventPositionReceive e) s = .next s) ∧
    (∀ (lane : Fin 16) (num first : Nat), s.link.role = 0 → s.registers first = true → (s.lane lane.val).nextNum ≤ num →
      s.laneW lane.val ≠ 0 → exec (.eventProductReceive lane num first) s =
        .next ((s.updLane lane.val (fun l => { l with nextNum := num })).registerProduct lane.val first)) ∧
    (∀ (lane : Fin 16) (num first : Nat), s.link.role ≠ 0 → exec (.eventProductReceive lane num first) s = .next s)) ∧
  (∀ (s : State),
    (∀ (f : CtrlFrame) (x : Node), ctrlRequestOk f = true → f.node ≠ s.link.nodeId → s.node f.node = some x →
      exec (.ctrlRequestReceive f) s = .next ((s.updNode f.node (fun _ =>
        { (x.ctrl s.free f).1 with answer := some (x.ctrl s.free f).2 })).nextFree)) ∧
    (∀ f : CtrlFrame, ctrlRequestOk f = false → exec (.ctrlRequestReceive f) s = .next s) ∧
    (∀ (x : Node) (fr : Nat) (f : CtrlFrame), f.op = 0 →
      let vs := (List.range f.count).map (fun i => x.readAt fr (f.addr + 4 * i))
      (x.ctrl fr f).1 = x ∧ (x.ctrl fr f).2 = (if vs.all (·.isSome) then
        { f with op := 2, count := vs.length, data := (vs.map (·.getD 0)).map dword }
      else { f with op := 4, count := 1, data := [dword 1] })) ∧
    (∀ (x : Node) (fr : Nat) (f : CtrlFrame), f.op = 1 →
      (∀ m, x.writeAll fr f.addr (f.data.map (fun (d : U32) => d.toNat)) = .ok m → (x.ctrl fr f).1 = m ∧ (x.ctrl fr f).2.op = 3) ∧
      (∀ e, x.writeAll fr f.addr (f.data.map (fun (d : U32) => d.toNat)) = .error e → (x.ctrl fr f).1 = x ∧ (x.ctrl fr f).2.op = 4)) ∧
    (∀ (f : CtrlFrame) (r : CtrlReq) (e : StoreEntry), s.link.ctrl.find? (fun r => r.f.ctag == f.ctag && r.f.node == f.node) = some r →
      s.entry r.seq = some e → e.st ≠ .done → r.f.op = 0 → f.op = 2 → f.data.length = r.f.count →
      ∃ u, exec (.ctrlAnswerReceive f) s = .next u ∧ u.DoneWith r.seq St.ok 0 0 ∧
        u.host = (s.hostWrite (e.p.ha 5) (f.data.flatMap (fun (d : U32) => leBytes 4 d.toNat))).host ∧
        u.link = { s.link with ctrl := s.link.ctrl.filter (fun q => q.seq != r.seq) }) ∧
    (∀ (f : CtrlFrame) (r : CtrlReq) (e : StoreEntry), s.link.ctrl.find? (fun r => r.f.ctag == f.ctag && r.f.node == f.node) = some r →
      s.entry r.seq = some e → e.st ≠ .done → f.op = 4 → ∃ u, exec (.ctrlAnswerReceive f) s = .next u ∧ u.host = s.host ∧
        u.DoneWith r.seq St.nodeNak (((f.data.head?.map (fun (d : U32) => d.toNat)).getD 0) % 2 ^ 32) 0) ∧
    (∀ (seq : Nat) (r : CtrlReq), s.link.ctrl.find? (fun r => r.seq == seq) = some r → r.sentAt + 25_000 < s.now →
      (r.tries < 3 → exec (.ctrlAnswerTimeout seq) s = .next (({ s with link := { s.link with
        ctrl := mapIf s.link.ctrl (fun q => q.seq == seq) (fun _ => { r with tries := r.tries + 1, sentAt := s.now }) } } : State).ctrlSend
          { r with tries := r.tries + 1, sentAt := s.now })) ∧
      (3 ≤ r.tries → exec (.ctrlAnswerTimeout seq) s =
        .next (({ s with link := { s.link with ctrl := s.link.ctrl.filter (fun q => q.seq != seq) } } : State).done seq St.nodeTimeout))))

/-- A hub (R315, R319 to R321): a frame that is late, too far ahead, or of a segment or length it does not have only counts; one at or below LAST_ACC
changes nothing; a valid LINE of a new sequence enters the pending table while there is room, and counts otherwise; at its fire instant the lowest
sequence fires if a LINE copy came and the node fires it, and becomes LAST_ACC either way. Where the spec leaves a point open this follows the model's
choice of log 65. Under conditions on the package and the operands alone exec answers the next state of the command's own effect: hubFrameReceive,
hubFireInstant. -/
def Obligations.HubsFireEachLineOnce : Prop :=
  (∀ (s : State) (node : Nat) (port : HubPort) (f : RxFrame), s.node node = none → exec (.hubFrameReceive node port f) s = .next s) ∧
  (∀ (s : State) (node : Nat) (port : HubPort) (f : RxFrame) (x : Node), s.node node = some x →
    (frameFault f = some 0 → exec (.hubFrameReceive node port f) s = .next (s.updNode node (fun n => n.count 0))) ∧
    (frameFault f = some 1 → exec (.hubFrameReceive node port f) s = .next (s.updNode node (fun n => n.count 7))) ∧
    (∀ k, frameFault f = some k → 1 < k → exec (.hubFrameReceive node port f) s = .next s)) ∧
  (∀ (s : State) (node : Nat) (port : HubPort) (bs : List Byte) (x : Node), s.node node = some x → frameFault (.bytes bs) = none →
    let dst := fld bs 2 2
    let side := decide (port = .b0 ∨ port = .b1 ∨ port = .db)
    let down := decide (port = .da ∨ port = .db)
    (down = false → bit dst 15 = false → dst % 2 ^ 14 = node → (fld bs 0 1 = 1 ∨ fld bs 0 1 = 2) →
      exec (.hubFrameReceive node port (.bytes bs)) s = .next (s.updNode node (fun n => n.hubTake side (hubIn bs) s.now))) ∧
    (down = true → fld bs 0 1 ≠ 3 → fld bs 0 1 ≠ 7 → fld bs 0 1 ≠ 15 → exec (.hubFrameReceive node port (.bytes bs)) s =
      .next (s.updNode node (fun n => { n with out := (s.hubLocked x side).map (fun q => (q, bs)) ++ n.out }))) ∧
    (down = false → bit dst 15 = false → dst % 2 ^ 14 ≠ node → fld bs 0 1 ≠ 3 → fld bs 0 1 ≠ 5 → fld bs 0 1 ≠ 7 → fld bs 0 1 ≠ 15 →
      (s.chained node = true → exec (.hubFrameReceive node port (.bytes bs)) s =
        .next (s.updNode node (fun n => { n with out := (if side then HubPort.db else .da, bs) :: n.out }))) ∧
      (s.chained node = false → s.hubKnows node (dst % 2 ^ 14) = false → exec (.hubFrameReceive node port (.bytes bs)) s =
        .next (s.updNode node (fun n => n.count 7))))) ∧
  (∀ (s : State) (node seg : Nat), exec (.hubFireInstant node seg) s = .next (s.updNode node (fun n => n.hubFire seg s.now))) ∧
  (∀ (n : Node) (side : Bool) (f : HubFrame) (ta : Nat),
    (n.segs.find? (fun x => x.seg == f.seg) = none → n.hubTake side f ta = n.count 7) ∧
    (∀ g, n.segs.find? (fun x => x.seg == f.seg) = some g →
      (g.ncnt ≠ f.ncnt → n.hubTake side f ta = n.count 7) ∧
      (g.ncnt = f.ncnt → f.fire < ta + n.hello.hubLead → n.hubTake side f ta = n.count 1) ∧
      (g.ncnt = f.ncnt → ta + n.hello.hubLead ≤ f.fire → ta + 65_536 ≤ f.fire → n.hubTake side f ta = n.count 6) ∧
      (n.invalid f ta = none → f.seq ≤ g.lastAcc → n.hubTake side f ta = n) ∧
      (n.invalid f ta = none → g.lastAcc < f.seq → (∀ e ∈ g.table, e.seq ≠ f.seq) → n.hello.pend ≤ g.table.length →
        n.hubTake side f ta = n.count 5) ∧
      (n.invalid f ta = none → g.lastAcc < f.seq → (∀ e ∈ g.table, e.seq ≠ f.seq) → g.table.length < n.hello.pend →
        ∀ slots, f.kind = .line slots → n.hubTake side f ta = { n with segs := mapIf n.segs (fun x => x.seg == f.seg) (fun x => { x with
          table := g.table ++ [{ seq := f.seq, fire := f.fire, fph := f.fph, line := true, voids := 0, crc := f.crc, slots := slots }] }) }))) ∧
  (∀ (n : Node) (seg now : Nat) (g : HubSeg) (e : HubEntry), n.segs.find? (fun x => x.seg == seg) = some g → g.lowest = some e →
    (now < e.fire → n.hubFire seg now = n) ∧
    (e.fire ≤ now → (n.hubFire seg now).segs = mapIf n.segs (fun x => x.seg == seg) (fun x =>
      { x with lastAcc := e.seq, table := x.table.filter (fun y => y.seq != e.seq) }) ∧ (n.hubFire seg now).top = max n.top e.seq) ∧
    (e.fire ≤ now → e.line = true → n.fires e.seq = true → (n.hubFire seg now).fired = (seg, e.seq, e.fire, e.fph, e.slots) :: n.fired) ∧
    (e.fire ≤ now → (e.line = false ∨ n.fires e.seq = false) → (n.hubFire seg now).fired = n.fired))

/-- The lens registration loop (R214 to R218): 1,024 good lines lock it and 16 bad ones unlock it; a cause that holds on an input the lattice uses is
reported, with every further input that has it, and loses the loop; LENS_HOLD lines later the hold expires; when every cause has ended the inputs that
were hurt are to be referenced again; no lock within LENS_ACQ_LINES is reported once. Lens references (R215, R218): in an acquisition a forward index
after its effect line sets the count of its sensor at its place, and the last one starts the loop; in a reacquisition a place of LENS_L off a whole
pitch by more than the tolerance leaves the loop LOST until the host acts; an index from before the effect line is no reference. Where the spec leaves
a point open this follows the model's choice of log 25, 113. Under conditions on the package and the operands alone exec answers the next state of the
command's own effect: lensTrackLost, lensReferenceIndex, lensLock, lensUnlock, lensHoldExpired, lensReacquireEnter, lensAcqFail. -/
def Obligations.LensLoopTakesReferences : Prop :=
  (∀ (s : State), let l := s.motion.lens
    let n := s.lensLine
    let c := s.lensCfg n
    (l.st = .acquire → 1024 ≤ l.good → exec .lensLock s =
      .next ((s.updLens (fun l => { l with st := .lock, good := 0, bad := 0, acqBy := none })).raiseMot Ev.lensLock [n])) ∧
    (l.st = .lock → 16 ≤ l.bad → exec .lensUnlock s =
      .next ((s.updLens (fun l => { l with st := .acquire, good := 0, bad := 0 })).raiseMot Ev.lensUnlock [n])) ∧
    (∀ cause, l.st ≠ .lost → l.st ≠ .reacquire → cause < 4 → bit l.causes cause = false → s.lensCause cause = true →
      exec (.lensTrackLost cause) s = .next ((s.updLens (fun l => { l with
        st := .lost, causes := l.causes ||| 2 ^ cause, hurt := s.causeInputs cause, entry := n, holdRaised := false
        slip := l.slip && decide (cause ≠ 1), need := if l.acquireAt.isSome then l.need else 0, inRange := 0 })).raiseMot
          Ev.lensTrackLost [cause, n])) ∧
    (∀ cause, l.st = .lost ∨ l.st = .reacquire → cause < 4 → bit l.causes cause = false → s.lensCause cause = true →
      exec (.lensTrackLost cause) s = .next ((s.updLens (fun l => { l with
        st := .lost, causes := l.causes ||| 2 ^ cause, hurt := l.hurt ||| s.causeInputs cause
        slip := l.slip && decide (cause ≠ 1), need := if l.acquireAt.isSome then l.need else 0, inRange := 0 })).raiseMot
          Ev.lensTrackLost [cause, n])) ∧
    (∀ cause, 4 ≤ cause ∨ s.lensCause cause = false ∨ (cause ≠ 0 ∧ bit l.causes cause = true) → exec (.lensTrackLost cause) s = .next s) ∧
    (l.st = .lost ∨ l.st = .reacquire → l.holdRaised = false → l.entry + c.hold ≤ n → exec .lensHoldExpired s =
      .next ((s.updLens (fun l => { l with holdRaised := true })).raiseMot Ev.lensHoldExpired [n])) ∧
    (l.st = .lost → l.stuck = false → l.acquireAt = none → (bitsOf 4 l.causes).all s.causeEnded = true →
      let u := s.updLens (fun l => { l with st := .reacquire, causes := 0, need := l.hurt, refFrom := s.now })
      exec .lensReacquireEnter s = .next (if l.hurt = 0 then u.lensTrackOk else u)) ∧
    (l.st = .acquire → l.acqRaised = false → (∃ m, l.acqBy = some m ∧ m ≤ n) → exec .lensAcqFail s =
      .next ((s.updLens (fun l => { l with acqRaised := true })).raiseMot Ev.lensAcqFail [n]))) ∧
  (∀ (s : State), let l := s.motion.lens
    let c := s.lensCfg s.lensLine
    let seen := fun (i : Nat) => ∃ a, (s.enc i).indexAt = some a ∧ l.refFrom ≤ a
    (exec (.lensReferenceIndex .web) s = .next s) ∧
    (∀ i : Quad, i ≠ .web → bit l.need (i.num - 1) = false ∨ ¬ seen i.num → exec (.lensReferenceIndex i) s = .next s) ∧
    (∀ a, l.acquireAt = some a → bit l.need 0 = true → seen 1 →
      let u := s.updLens (fun _ => { l with need := l.need &&& 6, ref := vset l.ref 0 (s.enc 1).latched, aL := c.xl * 2 ^ 32 })
      exec (.lensReferenceIndex .lensL) s = .next (if l.need &&& 6 = 0 then u.lensAcquired else u)) ∧
    (∀ a, l.acquireAt = some a → bit l.need 1 = true → seen 2 →
      let u := s.updLens (fun _ => { l with need := l.need &&& 5, ref := vset l.ref 1 (s.enc 2).latched, aR := c.xr * 2 ^ 32 })
      exec (.lensReferenceIndex .lensR) s = .next (if l.need &&& 5 = 0 then u.lensAcquired else u)) ∧
    (∀ a, l.acquireAt = some a → bit l.need 2 = true → seen 3 →
      let u := s.updLens (fun _ => { l with need := l.need &&& 3, ref := vset l.ref 2 (s.enc 3).latched, r := 0 })
      exec (.lensReferenceIndex .lensRow) s = .next (if l.need &&& 3 = 0 then u.lensAcquired else u)) ∧
    (l.acquireAt = none → l.st = .reacquire → bit l.need 0 = true → seen 1 →
      let t := reacqTest (c.xl * 2 ^ 32 - l.aL) (l.px c) c.tol
      let u := s.updLens (fun _ => { l with
        need := l.need &&& 6, aL := c.xl * 2 ^ 32 - t.1 * l.px c, ref := vset l.ref 0 (s.enc 1).latched })
      exec (.lensReferenceIndex .lensL) s = .next (if t.2.1 then (if l.need &&& 6 = 0 then u.lensTrackOk else u)
        else (s.updLens (fun l => { l with st := .lost, stuck := true, need := 0 })).raiseMot Ev.lensReacqFail [1, evInt t.2.2])))

/-- Colour events (R264 to R269): a report with a reserved flag is discarded, one of a calibration band goes to the calibration and any other to its band;
a row of a band whose report is not there in time counts as not read; an expired calibration is reported at expiry and once a local day. Where the
spec leaves a point open this follows the model's choice of log 26. Under conditions on the package and the operands alone exec answers the next state
of the command's own effect: patchReportTimeout, colourReportReceive, colourCalDue. -/
def Obligations.ColourReportsReachTheirBand : Prop :=
  ∀ (s : State),
    (∀ r : ColourReport, 8 ≤ r.flags → exec (.colourReportReceive r) s = .next s) ∧
    (∀ (r : ColourReport) (k : CalRun), r.flags < 8 → r.band = 0xFFFF_FFFF → s.colour.cal = some k →
      readingOk r = true → r.row < k.cert.length → k.reads.any (fun e => e.1 == r.row) = false → r.zone = 0xFFFF →
      let k' : CalRun := { k with reads := k.reads ++ [(r.row, reportLab r)] }
      let u := s.updColour (fun x => { x with cal := some k' })
      exec (.colourReportReceive r) s = .next (if k.reads.length + 1 = k.cert.length then u.calFit k' else u)) ∧
    (∀ (r : ColourReport) b, r.flags < 8 → r.band ≠ 0xFFFF_FFFF → s.colour.bands.find? (fun b => b.num == r.band) = some b →
      r.row < b.rowCount → s.colZones.contains r.zone = true → b.patches.any (fun p => p.row == r.row && p.zone == r.zone) = false →
      s.motion.lastLine ≤ s.measureLine b r.row + b.tmo →
      let cause := b.causeOf r.row r.zone (if readingOk r then 0 else 6)
      let lab := if cause = 0 then some ((reportLab r).correct s.calGO.1 s.calGO.2) else none
      exec (.colourReportReceive r) s = .next (s.addPatches b [{ row := r.row, zone := r.zone, cause := cause, lab := lab }])) ∧
    (∀ (r : ColourReport) b, r.band ≠ 0xFFFF_FFFF → s.colour.bands.find? (fun b => b.num == r.band) = some b →
      (s.measureLine b r.row + b.tmo < s.motion.lastLine ∨
        b.patches.any (fun p => p.row == r.row && p.zone == r.zone) = true) → exec (.colourReportReceive r) s = .next s) ∧
    (∀ band row b, s.colour.bands.find? (fun b => b.num == band) = some b → row < b.rowCount →
      s.measureLine b row + b.tmo < s.motion.lastLine →
      let gone := s.colZones.filter (fun z => !b.patches.any (fun p => p.row == row && p.zone == z))
      gone ≠ [] → exec (.patchReportTimeout band row) s =
        .next ((if b.missing then s else s.raiseLead Ev.patchMissing [band, gone.length]).addPatches { b with missing := true }
          (gone.map (fun z => { row := row, zone := z, lab := none, cause := b.causeOf row z 7 })))) ∧
    (∀ d, s.calExpired = some d → s.colour.dueDay ≠ some s.localDay.toNat → exec .colourCalDue s =
      .next ((s.updColour (fun x => { x with dueDay := some s.localDay.toNat })).raiseLead Ev.colourCalDue [d])) ∧
    (s.calExpired = none ∨ s.colour.dueDay = some s.localDay.toNat → exec .colourCalDue s = .next s)

/-- Lanes train, lock and fail (R307, R503 to R505, R508): 64 good headers give block lock with a centred buffer, 16 bad ones of 64 take it, and with it a
frame in progress of an UP lane as BROKEN; training with lock for 1,024 blocks and an eye at or above both limits brings the lane UP and ends the
action with ST_OK; 10 ms without that leaves it DOWN with ST_LANE_TRAIN; a DOWN lane trains again every 100 ms. A lane that fails (R297, R301, R500,
R504): LOCK after 4 us without block lock, DRIVER at once, REF with every lane of its group; it is DOWN, its fault is held, its queued frames count as
undelivered, its bars move to the other lanes, and an action on it ends with ST_LANE_STATE; a lane that is not UP does not fail again. Where the spec
leaves a point open this follows the model's choice of log 71. Under conditions on the package and the operands alone exec answers the next state of
the command's own effect: blockLockAcquired, blockLockLost, laneTrainingDone, laneTrainFail, laneDown, laneRetrainTimer, frameReceive. -/
def Obligations.LanesTrainAndFail : Prop :=
  (∀ (s : State) (t : Tile) (l : Fin 10), t.val < s.nTiles → s.lnkOn t.val l.val = true →
    let x := s.lnk t.val l.val
    (∀ b, x.lock = false → x.receives = true → syncOk b = true → 63 ≤ x.heads.length → (∀ h ∈ x.heads.take 63, h = true) →
      let u := s.updLnk t.val l.val (fun x => { x.see b with lock := true, lockRun := 0, elastic := 32, outSince := none })
      exec (.blockLockAcquired t ⟨l, [b]⟩) s = .next u ∧ exec (.frameReceive t l [b]) s = .next u) ∧
    (∀ b, x.lock = false → x.receives = true → (syncOk b = false ∨ (x.heads.take 63).length < 63 ∨ (∃ h ∈ x.heads.take 63, h = false)) →
      exec (.frameReceive t l [b]) s = .next (s.updLnk t.val l.val (fun x => x.see b)) ∧ exec (.blockLockAcquired t ⟨l, [b]⟩) s = .next s) ∧
    (∀ b, x.lock = true → x.receives = true →
      (16 ≤ ((syncOk b :: x.heads.take 63).filter (fun h => !h)).length →
        let u := s.updLnk t.val l.val (fun y => { y.see b with
          lock := false, lockRun := 0, rxFrame := none, outSince := if x.st = 2 then some s.now else none })
        let v := if x.rxFrame.isSome = true ∧ x.st = 2 then u.discard t.val l.val 2 else u
        exec (.blockLockLost t ⟨l, [b]⟩) s = .next v ∧ exec (.frameReceive t l [b]) s = .next v) ∧
      (((syncOk b :: x.heads.take 63).filter (fun h => !h)).length < 16 → (x.st ≠ 2 ∨ x.rxslp ≠ 0) →
        exec (.frameReceive t l [b]) s = .next (s.updLnk t.val l.val (fun y => y.see b)))) ∧
    (∀ bs, x.lock = false → exec (.blockLockLost t ⟨l, bs⟩) s = .next s) ∧
    (∀ bs, x.lock = true → exec (.blockLockAcquired t ⟨l, bs⟩) s = .next s) ∧
    (∀ (e : Eye) t0, x.trainAt = some t0 → x.lock = true → 1024 ≤ x.lockRun → s.lnkItem t.val l.val 3 ≤ e.width → s.lnkItem t.val l.val 4 ≤ e.height →
      ∃ u, exec (.laneTrainingDone t l e) s = .next u ∧ (u.lnk t.val l.val).st = 2 ∧ (u.lnk t.val l.val).trainAt = none ∧
        (u.lnk t.val l.val).fromLine = s.laneFrom ∧ (u.lnk t.val l.val).action = none ∧ u.job = s.job ∧ u.stores = s.stores ∧
        (∀ q a e, x.action = some (q, a) → s.entry q = some e → e.st ≠ .done → u.DoneWith q St.ok 0 0)) ∧
    (∀ (e : Eye), x.lock = false ∨ x.lockRun < 1024 ∨ e.width < s.lnkItem t.val l.val 3 ∨ e.height < s.lnkItem t.val l.val 4 →
      exec (.laneTrainingDone t l e) s = .next s) ∧
    (∀ (e : Eye) t0, x.trainAt = some t0 → t0 + 2_500_000 ≤ s.now → ∃ u, exec (.laneTrainFail t l e) s = .next u ∧
      (u.lnk t.val l.val).st = 3 ∧ (u.lnk t.val l.val).trainAt = none ∧ (u.lnk t.val l.val).fault = x.fault ||| 4 ∧ u.job = s.job ∧
      (∀ q a e, x.action = some (q, a) → s.entry q = some e → e.st ≠ .done → u.DoneWith q St.laneTrain 0 0)) ∧
    (∀ (e : Eye) t0, x.trainAt = some t0 → s.now < t0 + 2_500_000 → exec (.laneTrainFail t l e) s = .next s) ∧
    (∀ a, x.downAt = some a → x.st = 3 → x.trainAt = none → a + 25_000_000 ≤ s.now → exec (.laneRetrainTimer t l) s =
      .next (s.updLnk t.val l.val (fun x => { x with downAt := some s.now, trainAt := some s.now, rate := s.lnkItem t.val l.val 1 })))) ∧
  (∀ (s : State) (t : Tile) (l : Fin 10) (cause : Fin 3), t.val < s.nTiles → s.lnkOn t.val l.val = true →
    let x := s.lnk t.val l.val
    let fail := fun (v : State) (m : Nat) =>
      let u := ((((v.updLnk t.val m (fun x => { x with
        st := 3, downAt := v.retrainFrom t.val m, outSince := none, rxslp := 0, txslp := 0, waking := Vector.replicate 2 none
        txq := [], tx := [], rxFrame := none
        fault := if cause.val = 0 then x.fault ||| 1 else if cause.val = 1 then x.fault ||| 2 else x.fault })).tallyLane t.val m 3).raise t
          Ev.laneDown [m, cause.val]).endAction t.val m St.laneState).loseQueued t.val m
      if m < 8 then u.laneLost t.val m else u
    (x.st = 2 → cause.val ≠ 2 → (cause.val = 0 → x.lock = false ∧ ∃ a, x.outSince = some a ∧ a + 1000 < s.now) →
      exec (.laneDown t l cause) s = .next ((fail s l.val).sweepUndelivered t.val)) ∧
    (cause.val = 2 → exec (.laneDown t l cause) s = .next (((domainLanes (laneDomain l.val)).foldl (fun v m =>
      if v.lnkOn t.val m = true ∧ (v.lnk t.val m).st = 2 then fail v m else v) s).sweepUndelivered t.val)) ∧
    (domainLanes 11 = [0, 1, 2, 3] ∧ domainLanes 12 = [4, 5, 6, 7] ∧ domainLanes 13 = [8, 9]) ∧
    (x.st ≠ 2 → cause.val ≠ 2 → exec (.laneDown t l cause) s = .next (s.sweepUndelivered t.val)) ∧
    (cause.val = 0 → (x.lock = true ∨ x.outSince = none ∨ (∃ a, x.outSince = some a ∧ s.now ≤ a + 1000)) →
      exec (.laneDown t l cause) s = .next (s.sweepUndelivered t.val)))

/-- Frames on the wire (R306, R308 to R311, R501, R502; log 129): the receiver's descrambler undoes the sender's scrambler; a frame sent as blocks arrives
as its bytes, and is then checked: a buffer that the clocks' drift has emptied or filled loses it and is centred again; else FILL is deleted above 40
and inserted below 24, a FILL puts a lane's trim correction into force, a frame of no good CHECK or FORMAT is discarded and counted, and any other is
acted on. A first or invalid block breaks a frame in progress, and a further block outside one is discarded. A transmitter sends a FILL in every 4,096
blocks. Sleep and tests of a lane (R503, R506, R510 to R513): a direction is awake after its wake time, a receiver with lock; one error is injected 1
ms into a test that asks for it; a direction that wakes takes its trim correction; a test ends after its duration with the count of errors, and the
lane trains. Where the spec leaves a point open this follows the model's choice of log 68, 69. Under conditions on the package and the operands alone
exec answers the next state of the command's own effect: frameReceive, laneWake, laneTestInject, laneTestDone. -/
def Obligations.LanesReceiveSleepAndTest : Prop :=
  ((∀ st w, w < 2 ^ 64 → descramble st (scramble st w).1 = (w, (scramble st w).2)) ∧
  (∀ (s : State) (t : Tile) (l : Fin 10), t.val < s.nTiles → s.lnkOn t.val l.val = true →
    (s.lnk t.val l.val).st = 2 → (s.lnk t.val l.val).rxslp = 0 → (s.lnk t.val l.val).lock = true →
    let x := s.lnk t.val l.val
    let e := (clampI ((x.elastic : Int) + Config.freeInt s.free) 0 64).toNat
    let took := fun (y : LaneHw) (f : RxFrame) => if isFill f = true ∧ 40 < e then { y with elastic := e - 1, fillDel := (y.fillDel + 1) % 2 ^ 32 }
      else if e < 24 then { y with elastic := e + 1, fillIns := (y.fillIns + 1) % 2 ^ 32 }
      else { y with elastic := e }
    let lost := fun (u : State) => ((u.updLnk t.val l.val (fun y =>
      { y with elastic := 32, fault := y.fault ||| 8 })).discard t.val l.val 2).raise t Ev.laneElastic [l.val, boolNat (e == 64)]
    (∀ bs : List Byte, bs ≠ [] → rxLen bs = bs.length → x.rxFrame = none →
      (x.heads.filter (fun h => !h)).length < 16 →
      let n := blockCount bs.length
      let u := (s.updLnk t.val l.val (fun y => { y with
        heads := (List.replicate n true ++ y.heads).take 64, rxScr := (wireBlocks x.rxScr bs).2, lockRun := min 1024 (y.lockRun + n) })).nextFree
      let i := Instr.frameReceive t l (wireBlocks x.rxScr bs).1
      (e = 0 ∨ e = 64 → exec i s = .next (lost u)) ∧
      (e ≠ 0 → e ≠ 64 →
        let v := u.updLnk t.val l.val (fun y => took y (.bytes bs))
        (∀ k, frameFault (.bytes bs) = some k → exec i s = .next (v.discard t.val l.val k)) ∧
        (frameFault (.bytes bs) = none → isFill (.bytes bs) = true → exec i s = .next (v.trimBoundary t.val 0)) ∧
        (frameFault (.bytes bs) = none → isFill (.bytes bs) = false → exec i s = .next (v.acceptFrame t l bs)))) ∧
    (∀ b, b.sync = 0b01 → x.rxFrame = none → (x.see b).loses = false →
      exec (.frameReceive t l [b]) s = .next (s.updLnk t.val l.val (fun y => y.see b))) ∧
    (∀ b bs, syncOk b = false ∨ (b.sync = 0b10 ∧ rxWhole (x.payload b) = false) → x.rxFrame = some bs → (x.see b).loses = false →
      let u := (s.updLnk t.val l.val (fun y => { y.see b with rxFrame := none })).nextFree
      let v := if e = 0 ∨ e = 64 then lost u else (u.updLnk t.val l.val (fun y => took y .broken)).discard t.val l.val 2
      exec (.frameReceive t l [b]) s = .next (if syncOk b = false then v else
        v.updLnk t.val l.val (fun y => { y with rxFrame := some (x.payload b) })))) ∧
  (∀ (s u : State) (t : Tile) (l : Fin 10) (b c : List Block), exec (.frameReceive t l b) s = .next u → u.nTiles = s.nTiles →
    exec (.frameReceive t l (b ++ c)) s = exec (.frameReceive t l c) u) ∧
  (∀ (s : State) (t : Tile) (l : Fin 10) (b : List Block), t.val < s.nTiles →
    (s.lnkOn t.val l.val = false ∨ (s.lnk t.val l.val).receives = false) → exec (.frameReceive t l b) s = .next s) ∧
  (∀ (y : LaneHw) (bs : List Byte), bs.length ≤ 1536 → y.sinceFill < 4096 → (y.put bs).sinceFill < 4096 ∧
    (y.sinceFill + blockCount bs.length < 4096 → (y.put bs).tx = (wireBlocks y.txScr bs).1) ∧
    (4096 ≤ y.sinceFill + blockCount bs.length → (y.put bs).tx = (wireBlocks y.txScr fillBytes).1 ++
      (wireBlocks (wireBlocks y.txScr fillBytes).2 bs).1)) ∧
  (∀ bs : List Byte, bs.length < 8 → fld bs 0 1 ≠ 15 → frameFault (.bytes bs) = some 2) ∧
  (∀ bs : List Byte, fld bs 0 1 ≠ 15 → 8 ≤ bs.length → fld bs 6 2 ≤ bs.length → 12 ≤ fld bs 6 2 →
    (crc32c (bs.take (fld bs 6 2 - 4)) ≠ fld bs (fld bs 6 2 - 4) 4 → frameFault (.bytes bs) = some 0) ∧
    (crc32c (bs.take (fld bs 6 2 - 4)) = fld bs (fld bs 6 2 - 4) 4 → frameLen bs ≠ fld bs 6 2 → frameFault (.bytes bs) = some 1) ∧
    (crc32c (bs.take (fld bs 6 2 - 4)) = fld bs (fld bs 6 2 - 4) 4 → frameLen bs = fld bs 6 2 → bits (fld bs 1 1) 7 4 = 1 →
      frameFault (.bytes bs) = none))) ∧
  (∀ (s : State) (t : Tile) (l : Fin 10), t.val < s.nTiles →
    let x := s.lnk t.val l.val
    (∀ a, s.lnkOn t.val l.val = true → x.st = 2 → vget x.waking 0 none = some a → a + wakeTime false x.txslp ≤ s.now →
      let u := (s.updLnk t.val l.val (fun x => { x with waking := vset x.waking 0 none, txslp := 0 })).raise t Ev.laneWake [l.val, 0, 0]
      exec (.laneWake t l false) s = .next ((if (u.lnk t.val l.val).waking.toList.all (·.isNone) then u.endAction t.val l.val St.ok else u).trimBoundary t.val 0)) ∧
    (∀ a, s.lnkOn t.val l.val = true → x.st = 2 → vget x.waking 1 none = some a → a + wakeTime true x.rxslp ≤ s.now → x.lock = true →
      let u := (s.updLnk t.val l.val (fun x => { x with waking := vset x.waking 1 none, rxslp := 0 })).raise t Ev.laneWake [l.val, 1, 0]
      exec (.laneWake t l true) s = .next ((if (u.lnk t.val l.val).waking.toList.all (·.isNone) then u.endAction t.val l.val St.ok else u).trimBoundary t.val 0)) ∧
    (wakeTime false 1 = 250 ∧ wakeTime false 2 = 10_000 ∧ wakeTime true 1 = 500 ∧ wakeTime true 2 = 20_000) ∧
    (∀ y, x.test = some y → (y.one = true ∨ y.burst = true) → y.injected = false → y.start + 250_000 ≤ s.now →
      exec (.laneTestInject t l) s = .next (s.updLnk t.val l.val (fun z => { z with test := some { y with injected := true } }))) ∧
    (∀ y, x.test = some y → (y.one = false ∧ y.burst = false ∨ y.injected = true) → exec (.laneTestInject t l) s = .next s) ∧
    (∀ y (errors losses : Nat) (locked : Bool), x.test = some y → y.start + 250_000 * y.duration ≤ s.now →
      ∃ u, exec (.laneTestDone t l errors losses locked) s = .next u ∧ (u.lnk t.val l.val).test = none ∧
        (u.lnk t.val l.val).testDone = true ∧ (u.lnk t.val l.val).st = 1 ∧ (u.lnk t.val l.val).trainAt = some s.now ∧
        (y.loopback ≠ 2 → (u.lnk t.val l.val).testErr = min errors 0xFFFF_FFFF ∧ (u.lnk t.val l.val).testLoss = min losses 0xFFFF) ∧
        (∀ e, s.entry y.seq = some e → e.st ≠ .done → u.DoneWith y.seq
          (if testErrors y errors losses locked = 0 then St.ok else St.testErrors) (testErrors y errors losses locked % 2 ^ 32)
          (y.duration % 2 ^ 31))) ∧
    (∀ y (errors losses : Nat) (locked : Bool), x.test = some y → s.now < y.start + 250_000 * y.duration →
      exec (.laneTestDone t l errors losses locked) s = .next s))

/-- The twin link and the partner (R348, R350 to R353): a lost link withdraws the second tile while the first carries the span; a partner seen withdrawn
makes this tile go on alone; TWN_HB_MISS heartbeats missed on both paths count as a withdrawal, and a lead that the partner held moves; heartbeats
leave every 4,096 ticks on each path that is up. Clocks, watchdogs, the fabric and assays (R29, R32, R40, R349, R364, R365, R373): a tile that loses
its clock or watchdog withdraws, and a lead it holds moves; one failed hop reroutes and a second withdraws the tiles cut off; an assay set runs with
the next edge slice, and its last strike withdraws a paired tile whose partner passes. Where the spec leaves a point open this follows the model's
choice of log 95, 96. Under conditions on the package and the operands alone exec answers the next state of the command's own effect: heartbeatSend,
partnerSilent, twinLinkDown, partnerWithdrawReceive, assaySetStart, assaySetEnd, watchdogExpiry, fabricHopDown, refclkLost, pllUnlock. -/
def Obligations.TwinsAndTilesWithdraw : Prop :=
  ((∀ (s : State) (k : Fin 4), k.val < s.nTwins → vget s.linkUp k.val true = true →
    let u := (((({ s with linkUp := vset s.linkUp k.val false } : State).raiseLead Ev.twinLinkDown [k.val]).updTileN (2 * k.val)
      (fun x => x.assay 2 false)).updTileN (2 * k.val + 1) (fun x => x.assay 2 false))
    ((u.tileN (2 * k.val)).carries = true → exec (.twinLinkDown k) s = .next
      ((if (u.tileN (2 * k.val + 1)).withdrawable then u.withdraw (2 * k.val + 1) 9 else u).aloneFrom (2 * k.val))) ∧
    ((u.tileN (2 * k.val)).carries = false → (u.tileN (2 * k.val + 1)).carries = true →
      exec (.twinLinkDown k) s = .next (u.aloneFrom (2 * k.val + 1))) ∧
    ((u.tileN (2 * k.val)).carries = false → (u.tileN (2 * k.val + 1)).carries = false → exec (.twinLinkDown k) s = .next u)) ∧
  (∀ (s : State) (k : Fin 4), k.val < s.nTwins → vget s.linkUp k.val true = false → exec (.twinLinkDown k) s = .next s) ∧
  (∀ (s : State) (t : Tile), t.val < s.nTiles →
    ((s.tileN (partnerOf t.val)).twin = .withdrawn → (s.tile t).pstate ≠ .withdrawn → exec (.partnerWithdrawReceive t) s =
      .next (((s.partnerWithdrew t.val).sweepUndelivered t.val).goOn t.val true) ∧
      s.partnerWithdrew t.val = (if (s.tile t).twin = .paired then
        (s.updTile t (fun x => { x with pstate := .withdrawn })).setTwin t.val .solo 0 (s.tileN (partnerOf t.val)).begun
        else s.updTile t (fun x => { x with pstate := .withdrawn }))) ∧
    ((s.tileN (partnerOf t.val)).twin ≠ .withdrawn → exec (.partnerWithdrawReceive t) s = .next s) ∧
    (s.silentDue t.val = true → exec (.partnerSilent t) s =
      .next (((s.withdrawBy t.val (partnerOf t.val) 10).aloneFrom t.val).leadFails (partnerOf t.val) 0)) ∧
    (s.silentDue t.val = false → exec (.partnerSilent t) s = .next s) ∧
    (s.silentDue t.val = true → max (s.tile t).hbLink (s.tile t).hbFabric +
      (if (s.tile t).hbMiss = 0 then s.itemN Pid.twnHbMiss else (s.tile t).hbMiss) * 4096 < s.now) ∧
    ((s.tile t).on 1 = true → (s.tile t).clockOk = true → (s.tile t).hbSent + 4096 ≤ s.now → exec (.heartbeatSend t) s =
      .next ((s.updTile t (fun x => { x with hbSent := s.now })).updTileN (partnerOf t.val) (fun y => { y with
        hbLink := if vget s.linkUp (t.val / 2) true && (s.tile t).on 8 then s.now else y.hbLink
        hbFabric := if s.reaches0 t.val = s.reaches0 (partnerOf t.val) then s.now else y.hbFabric
        hbMiss := s.itemN Pid.twnHbMiss
        assayPass := if vget s.linkUp (t.val / 2) true && (s.tile t).on 8 then y.assayPass ||| 4 else y.assayPass }))) ∧
    (s.now < (s.tile t).hbSent + 4096 → exec (.heartbeatSend t) s = .next s))) ∧
  ((∀ (s : State) (t : Tile), t.val < s.nTiles →
    ((s.tile t).clockOk = true →
      (let u := s.updTile t (fun x => { x with clockOk := false })
       exec (.refclkLost t) s = .next ((((u.raise t Ev.refclkLost [t.val]).withdraw t.val 3).motionRole).leadFails t.val 1) ∧
       exec (.pllUnlock t) s = .next ((((u.raise t Ev.pllUnlock [t.val]).withdraw t.val 3).motionRole).leadFails t.val 2))) ∧
    ((s.tile t).clockOk = false → exec (.refclkLost t) s = .next s ∧ exec (.pllUnlock t) s = .next s) ∧
    ((s.tile t).on 1 = true → exec (.watchdogExpiry t) s = .next ((s.withdraw t.val 10).leadFails t.val 3)) ∧
    ((s.tile t).rasterOn = true → (s.tile t).assayRun = none → exec (.assaySetStart t) s =
      .next (s.updTile t (fun x => { x with edge := (x.edge + 1) % 33, assayRun := some s.now, assayMax := s.itemN Pid.twnAssayStrikes }))) ∧
    (∀ a (stage : Nat), (s.tile t).rasterOn = true → (s.tile t).assayRun = some a →
      exec (.assaySetEnd t true stage) s = .next (s.updTile t (fun x =>
        ({ x with assayRun := none, lastAssay := some true, strikes := 0 } : TileState).assay 0 true)) ∧
      (let u := (s.updTile t (fun x => ({ x with assayRun := none, lastAssay := some false, strikes := x.strikes + 1 } : TileState).assay 0
         false)).raise t Ev.assayFail [t.val, 0, stage, (s.tile t).edge]
       exec (.assaySetEnd t false stage) s = .next (if (s.tile t).assayMax ≤ (s.tile t).strikes + 1 ∧
         (s.tileN (partnerOf t.val)).lastAssay = some true ∧ (s.tileN (partnerOf t.val)).twin = .paired then u.withdraw t.val 2 else u))) ∧
    ((s.tile t).assayRun = none → ∀ pass stage, exec (.assaySetEnd t pass stage) s = .next s)) ∧
  (∀ (s : State) (h : Fin 8), h.val < s.nTiles →
    (h.val ∈ s.hops → exec (.fabricHopDown h) s = .next s) ∧
    (s.hops = [] → exec (.fabricHopDown h) s = .next (({ s with hops := [h.val] } : State).raiseLead Ev.fabricHopDown [h.val])) ∧
    (s.hops ≠ [] → h.val ∉ s.hops →
      let u : State := { s with hops := s.hops ++ [h.val] }
      exec (.fabricHopDown h) s = .next (((s.tileList.filter (fun t => !u.reaches0 t)).foldl (fun s t => s.withdraw t 5) u).raiseLead
        Ev.fabricSplit [h.val]))))

/-- The host functions after a takeover, and the way back (R374 to R381, R419): the host controller resumes the queues once its port is in L0, or reports
the port fault and tries every second; T1 hands the lead back when T0 is paired long enough, with a preserve fresh and its port up; 16,000 ticks later
the overlap ends. Preserves and copies (R363, R367, R370 to R372): at its period the lead captures a preserve and sends it to a standby whose memory
is on, or to flash; a valid one replaces the older of two slots, a bad one is reported and changes none; a tile whose copy is done takes its partner's
state, or its own where both withdrew for TIME, and starts at a committed line. Where the spec leaves a point open this follows the model's choice of
log 64, 67, 80. Under conditions on the package and the operands alone exec answers the next state of the command's own effect: pcieLinkStateChange,
preserveReceive, hostPortRetry, resyncCopyDone, preserveCapture, preserveFlashWrite, takebackStart, handoverEnd, hostControllerColdStartDone. -/
def Obligations.LeadMovesWithItsPreserve : Prop :=
  (∀ (s : State),
    (s.lead.cold = 1 → s.port.link < 5 → (s.tileN s.lead.tile).on 3 = true → exec .hostControllerColdStartDone s =
      .next (s.updPort s.lead.tile (fun p => { p with link := 0 })).resumeHost) ∧
    (s.lead.cold = 1 → (5 ≤ s.port.link ∨ (s.tileN s.lead.tile).on 3 = false) → exec .hostControllerColdStartDone s =
      .next ((({ s with lead := { s.lead with cold := 2 } } : State).updTileN s.lead.tile (fun x => { x with portFault := true })).raiseLead
        Ev.hostPortFault [s.lead.tile])) ∧
    (s.lead.cold ≠ 1 → exec .hostControllerColdStartDone s = .next s) ∧
    (s.lead.cold = 2 → exec (.hostPortRetry true) s = .next (s.updPort s.lead.tile (fun p => { p with link := 0 })).resumeHost) ∧
    (exec (.hostPortRetry false) s = .next s) ∧
    (∀ (p : Fin 2) (st : Fin 6), (s.lead.cold ≠ 2 ∨ p.val ≠ s.lead.tile ∨ st.val ≠ 0) →
      exec (.pcieLinkStateChange p st) s = .next (s.updPort p.val (fun x => { x with link := st.val }))) ∧
    (∀ (p : Fin 2), s.lead.cold = 2 → p.val = s.lead.tile → exec (.pcieLinkStateChange p 0) s =
      .next (s.updPort p.val (fun x => { x with link := 0 })).resumeHost) ∧
    (∀ a b, s.lead.tile = 1 → s.lead.handover = none → s.lead.cold = 0 → (s.tileN 0).twin = .paired →
      (vget s.qen.ports 0 Port.reset).link = 0 → s.lead.recvAt = some a → s.now ≤ a + 2_500_000 → (s.tileN 0).pairedAt = some b →
      b ≤ s.now → ∃ u, exec .takebackStart s = .next u ∧ u.lead.tile = 0 ∧ u.lead.epoch = nextEpoch s.lead.epoch ∧
        u.lead.handover = some (s.now, 1, 0) ∧ u.tiles = s.tiles ∧ u.qen = s.qen ∧ u.job = s.job ∧ u.stores = s.stores) ∧
    (s.lead.tile ≠ 1 → exec .takebackStart s = .next s) ∧
    (∀ h g q, s.lead.handover = some (h, g, q) →
      (h + 16000 ≤ s.now → exec .handoverEnd s = .next ((({ s with lead := { s.lead with handover := none } } : State).raiseLead Ev.leadReturned
        [s.lead.epoch, Config.leadCause (if q = 0 then 7 else 6)]).prepareHeld.settleBoundary.disarmSettle)) ∧
      (s.now < h + 16000 → exec .handoverEnd s = .next s))) ∧
  (∀ (s : State),
    (s.hostRuns = true → (s.tileN s.standby).on 10 = true → ∃ u, exec .preserveCapture s = .next u ∧ u.lead.sent = some s.capture ∧
      u.lead.pseq = (s.lead.pseq + 1) % 2 ^ 32 ∧ (u.tileN s.lead.tile).pseq = s.lead.pseq ∧ u.qen = s.qen ∧ u.job = s.job) ∧
    (s.hostRuns = false → exec .preserveCapture s = .next s ∧ exec .preserveFlashWrite s = .next s) ∧
    (s.hostRuns = true → ∃ u, exec .preserveFlashWrite s = .next u ∧ u.flash.jobs = s.flash.jobs ++
      [{ FlashJob.of 1 0 with pres := some s.capture }] ∧ u.qen = s.qen ∧ u.job = s.job) ∧
    (∀ p bs, s.lead.sent = some p →
      let good := bs.take 64 = p.header s.lead.oldSlot (leAt bs 40 2) bs.length ∧ badSection (leAt bs 40 2) (bs.drop 64) = none
      (good → exec (.preserveReceive bs) s = .next (({ s with lead := { s.lead with
        sent := none, slots := vset s.lead.slots s.lead.oldSlot (some p), recvAt := some s.now } } : State).updTileN s.standby (fun x =>
          ({ x with pseq := p.pseq } : TileState).assay 3 true))) ∧
      (¬ good → exec (.preserveReceive bs) s = .next ((({ s with lead := { s.lead with sent := none } } : State).updTileN s.standby
        (fun x => x.assay 3 false)).raiseLead Ev.preserveBad [p.pseq,
          if bs.take 64 = p.header s.lead.oldSlot (leAt bs 40 2) bs.length then (badSection (leAt bs 40 2) (bs.drop 64)).getD 0 else 0]))) ∧
    (s.lead.sent = none → ∀ bs, exec (.preserveReceive bs) s = .next s) ∧
    (∀ n bs len, badSection 0 [] = none ∧ (16 ≤ bs.length → len = leAt bs 4 4 → 16 + len ≤ bs.length →
      badSection (n + 1) bs = if leAt bs 12 4 = crc32c ((bs.drop 16).take len) then badSection n (bs.drop (16 + len)) else some (leAt bs 0 2))) ∧
    (∀ t : Tile, t.val < s.nTiles → (s.tile t).copying = true → ((s.tileN (partnerOf t.val)).printing = true ∧
      vget s.linkUp (t.val / 2) true = true ∨ s.timeAlone t.val = true) →
      let u := s.updTile t (fun x => { (if (s.tileN (partnerOf t.val)).printing = true ∧ vget s.linkUp (t.val / 2) true = true then
        x.copyFrom (s.tileN (partnerOf t.val)) else x.resumeAlone s.motion.lastLine) with startLine := some 0, rejoinSeq := none })
      (s.armed = true → (s.tile t).rejoinSeq = none → exec (.resyncCopyDone t) s = .next (u.prepare (.start t.val) 0 0)) ∧
      (∀ q, s.armed = true → (s.tile t).rejoinSeq = some q → q ≠ 0 → exec (.resyncCopyDone t) s =
        .next ((u.park q (.commit s.job.cseq)).prepare (.start t.val) 0 q)) ∧
      (s.armed = false → exec (.resyncCopyDone t) s = .next (((u.setTwin t.val .fill 0 (s.motion.lastLine + 1)).updTile t (fun x =>
        { x with startLine := some (s.motion.lastLine + 1) })).doneLine ((s.tile t).rejoinSeq.getD 0) St.ok (s.motion.lastLine + 1)))) ∧
    (∀ t : Tile, t.val < s.nTiles → (s.tile t).copying = false → exec (.resyncCopyDone t) s = .next s))

/-- PREPARE and ACK (R359): a tile that a PREPARE reaches holds the change with its line; an ACK counts only after that, and with the last one the commit
is committed; anything else changes nothing. Boot (R576 to R579): a stage that passes leads to the next of R576, with the domains it needs; one that
fails leaves the tile in FAILED, but the reading tile tries a VALID other slot once; another tile takes its image from the reading one and asks once
more; T1 takes over from a T0 stuck in IMAGE, and a tile whose partner does not come goes on alone. Where the spec leaves a point open this follows
the model's choice of log 45, 102. Under conditions on the package and the operands alone exec answers the next state of the command's own effect:
commitPrepareReceive, commitAckReceive, boot, imageReceive, pairTimeout, bootImageTimeout. -/
def Obligations.CommitsAndBootAdvance : Prop :=
  (∀ (s : State) (t : Tile) (cseq : Nat), t.val < s.nTiles →
    (∀ c, s.job.commits.find? (fun c => c.cseq == cseq) = some c →
      (t.val ∈ c.preparing → ∃ u, exec (.commitPrepareReceive t cseq) s = .next u ∧ (cseq, c.line) ∈ (u.tile t).heldCommits ∧
        (∀ k, k ≠ t → u.tile k = s.tile k) ∧ u.qen = s.qen ∧ u.motion = s.motion ∧
        u.job = { s.job with
          commits := mapIf s.job.commits (fun d => d.cseq == cseq)
            (fun d => { d with preparing := d.preparing.filter (fun k => k != t.val) }) }) ∧
      (t.val ∉ c.preparing → exec (.commitPrepareReceive t cseq) s = .next s) ∧
      (t.val ∈ c.awaiting → t.val ∉ c.preparing →
        let cs := mapIf s.job.commits (fun d => d.cseq == cseq)
          (fun d => { d with awaiting := c.awaiting.filter (fun k => k != t.val) })
        let u : State := { s with job := { s.job with commits := cs } }
        exec (.commitAckReceive t cseq) s = .next
          (if (c.awaiting.filter (· != t.val)).isEmpty then (u.commitDone cseq).disarmSettle.armSettle else u.disarmSettle.armSettle)) ∧
      (t.val ∉ c.awaiting ∨ t.val ∈ c.preparing → exec (.commitAckReceive t cseq) s = .next s.disarmSettle.armSettle)) ∧
    (s.job.commits.find? (fun c => c.cseq == cseq) = none → exec (.commitPrepareReceive t cseq) s = .next s)) ∧
  ((∀ (s : State) (t : Tile), t.val < s.nTiles → let b := (s.tile t).boot
    (b.stage = 1 → s.heatForbids t.val = false → exec (.boot t .pass) s = .next ((s.bootOn t.val 2).updBoot t.val (fun b => { b with stage := 2 }))) ∧
    (b.stage = 1 → s.heatForbids t.val = true → exec (.boot t .pass) s = .next s) ∧
    (b.stage = 2 → exec (.boot t .pass) s = .next (if t.val = s.flash.owner then s.imageDone t.val else s)) ∧
    (b.stage = 3 → exec (.boot t .pass) s = .next ((s.bootOn t.val 0x7DF4).updBoot t.val (fun b => { b with stage := 4 }))) ∧
    (b.stage = 4 → exec (.boot t .pass) s = .next (s.updBoot t.val (fun b => { b with stage := 5 }))) ∧
    (b.stage = 5 → exec (.boot t .pass) s = .next (if (s.tileN (partnerOf t.val)).reachedPair then s.pairDone t.val else s)) ∧
    (b.stage = 6 → exec (.boot t .pass) s = .next (s.restore.updBoot t.val (fun b => { b with stage := 7 }))) ∧
    (b.stage = 7 → t.val = s.lead.tile → let u := s.bootOn t.val 8
      exec (.boot t .pass) s = .next (({ u with qen := { u.qen with ready := true } } : State).bootReady t.val)) ∧
    (b.stage = 7 → t.val ≠ s.lead.tile → exec (.boot t .pass) s = .next ((s.bootOn t.val 8).bootReady t.val)) ∧
    (8 ≤ b.stage → exec (.boot t .pass) s = .next s) ∧
    (∀ c, b.stage = 2 → t.val = s.flash.owner → b.asked = false → s.flash.stateOf (1 - b.slot) = 1 → s.lead.updating = [] →
      exec (.boot t (.fail c)) s = .next (s.updBoot t.val (fun b => { b with slot := 1 - b.slot, asked := true }))) ∧
    (∀ c, b.stage = 1 ∨ (3 ≤ b.stage ∧ b.stage ≤ 7) → exec (.boot t (.fail c)) s = .next (s.bootFails t.val c)) ∧
    (b.stage = 2 → t.val ≠ s.flash.owner → 3 ≤ (s.tileN s.flash.owner).boot.stage → (s.tileN s.flash.owner).boot.stage ≤ 8 →
      exec (.imageReceive t .pass) s = .next (s.imageDone t.val) ∧
      ∀ c, exec (.imageReceive t (.fail c)) s = .next (if b.asked then s.bootFails t.val c else s.updBoot t.val (fun b => { b with asked := true }))) ∧
    (b.stage ≠ 2 → ∀ e, exec (.imageReceive t e) s = .next s) ∧
    (b.stage = 5 → exec (.pairTimeout t) s = .next (s.pairDone t.val)) ∧ (b.stage ≠ 5 → exec (.pairTimeout t) s = .next s)) ∧
  (∀ (s : State), s.lead.tile = 0 → ((s.tileN 0).boot.stage ≤ 2 ∨ (s.tileN 0).boot.stage = 15) → (s.tileN 0).boot.reached = false →
    ∃ u, exec .bootImageTimeout s = .next u ∧ u.lead.tile = 1 ∧ u.flash.owner = 1 ∧ u.lead.epoch = nextEpoch s.lead.epoch ∧
      (u.tileN 1).boot.slot = s.flash.active ∧ u.qen = s.qen ∧ u.job = s.job) ∧
  (∀ (s : State), s.lead.tile ≠ 0 → exec .bootImageTimeout s = .next s))

/-- A cold reset (R11, R568, R580, R586): every register, queue and memory takes its reset value; what PD_AON keeps with its supply stays, its counts
resumed from the last tally record where it failed; flash slots, preserve and tally, and host memory stay, and the lead epoch steps. Domains and the
always-on supply (R49, R547, R569, R588): a domain switching on becomes ready, but PD_CTL waits while heat forbids it; PD_AON moves to VBAT and loses
its contents below 2.0 V; VBAT is measured on main power, with VBAT_LOW once per crossing. Where the spec leaves a point open this follows the model's
choice of log 46, 83. Under conditions on the package and the operands alone exec answers the next state of the command's own effect: domainReady,
aonSupplySwitch, vbatMeasure, coldReset. -/
def Obligations.ResetAndDomainsKeepSupplies : Prop :=
  (∀ (s : State), ∃ u, exec .coldReset s = .next u ∧
    u.qen = State.reset.qen ∧ u.job = State.reset.job ∧ u.evh = State.reset.evh ∧ u.colour = State.reset.colour ∧
    u.lead.tile = 0 ∧ u.lead.epoch = nextEpoch s.lead.epoch ∧ u.host = s.host ∧ u.part = s.part ∧ u.time = s.time ∧ u.pending = s.pending ∧
    u.flash.slots = s.flash.slots ∧ u.flash.preserve = s.flash.preserve ∧ u.flash.tally = s.flash.tally ∧ u.flash.owner = 0 ∧
    (∀ t : Tile, (u.tile t).mem = [] ∧ (u.tile t).evr = TileState.reset.evr ∧ (u.tile t).pdOn = 1 ∧ (u.tile t).boot.stage = 1 ∧
      (u.tile t).boot.slot = s.flash.active ∧
      ((s.tile t).boot.aonValid = true → (u.tile t).boot.hours = (s.tile t).boot.hours ∧ (u.tile t).boot.aonlost = false ∧
        (u.tile t).boot.coldStarts = satInc 32 (s.tile t).boot.coldStarts) ∧
      ((s.tile t).boot.aonValid = false → (u.tile t).boot.aonlost = true)) ∧
    (∀ k : Fin 2, (vget u.marks.cal k.val Cal.reset).sec = (vget s.marks.cal k.val Cal.reset).sec ∧
      (vget u.marks.cal k.val Cal.reset).valid = (vget s.marks.cal k.val Cal.reset).valid)) ∧
  (∀ (s : State) (t : Tile), t.val < s.nTiles →
    (∀ d : Fin 15, bit (s.tile t).pdBusy d.val = true → (d.val = 1 → s.heatForbids t.val = false) →
      exec (.domainReady t d) s = .next (((s.domUp t.val d.val).domSettle t.val).thermalRejoin t.val)) ∧
    (∀ d : Fin 15, (bit (s.tile t).pdBusy d.val = false ∨ (d.val = 1 ∧ s.heatForbids t.val = true)) →
      exec (.domainReady t d) s = .next s) ∧
    (∀ d : Fin 15, d.val = 0 ∨ d.val = 2 ∨ d.val = 3 ∨ d.val = 4 ∨ d.val = 5 ∨ d.val = 6 ∨ d.val = 7 ∨ d.val = 8 →
      s.domUp t.val d.val = s.updTile t (fun x => { x with pdOn := x.pdOn ||| 2 ^ d.val, pdBusy := clearBit x.pdBusy d.val })) ∧
    (∀ toBat, ¬ (t.val < 2 ∧ toBat = true ∧ (s.tile t).boot.vbat < 2000) → exec (.aonSupplySwitch t toBat) s = .next (s.updBoot t.val (fun b => { b with
      onBat := toBat, aonValid := if toBat = true ∧ b.vbat < 2000 then false else b.aonValid }))) ∧
    (t.val < 2 → (s.tile t).boot.vbat < 2000 → exec (.aonSupplySwitch t true) s = .next ((s.updBoot t.val (fun b => { b with
      onBat := true, aonValid := false })).calInvalidate t.val)) ∧
    (∀ k, k < 2 → vget (s.calInvalidate k).marks.cal k Cal.reset = { Cal.reset with tau := s.now } ∧
      vget (s.calInvalidate k).marks.shadowOk k true = false) ∧
    (∀ mv, (s.tile t).boot.onBat = true → exec (.vbatMeasure t mv) s = .next s) ∧
    (∀ mv, (s.tile t).boot.onBat = false →
      let u := s.updBoot t.val (fun b => { b with vbat := mv % 2 ^ 16, vbatLow := decide (mv < s.itemN Pid.vbatWarn) })
      exec (.vbatMeasure t mv) s = .next (if mv < s.itemN Pid.vbatWarn ∧ (s.tile t).boot.vbatLow = false then u.raise t Ev.vbatLow [mv] else u)))

/-- Flash, JTAG and SMBus (R370, R582, R590 to R592, R612, R613): a write that passes read-back puts its record in force and completes its packet; a
failed one is reported and made again, and a command ends after the second failure; the tally is written while the host controller runs; EXTEST
withdraws every tile and drives the outputs; each Read Word answers its word, anything else is NACKed, and an alert response releases the alert. The
balls of a package and the flash directory (R573, R592, R596 to R603): every block of the array carries its pattern, the counts are those of the
table, and a directory write leaves the copy in force as it was and puts the other one in force. Where the spec leaves a point open this follows the
model's choice of log 15, 44, 81. Under conditions on the package and the operands alone exec answers the next state of the command's own effect:
jtagExtest, smbOtherNack, flashWriteDone, tallyRecordWrite, updateTimeout, smbReadTemp, smbReadBoot, smbReadVbat, smbReadEpoch, smbAlertResponse. -/
def Obligations.ServicePathsAnswer : Prop :=
  (∀ (s : State),
    (∀ j r p, s.flash.jobs = j :: r → j.type = 1 → j.pres = some p → ∃ u, exec (.flashWriteDone true) s = .next u ∧
      u.flash.preserve = some p ∧ u.flash.jobs = r ∧ u.tiles = s.tiles ∧ u.job = s.job ∧
      (∀ e, s.entry j.seq = some e → e.st ≠ .done → u.DoneWith j.seq St.ok (p.pseq % 2 ^ 32) 0)) ∧
    (∀ j r, s.flash.jobs = j :: r → j.type = 2 → ∃ u, exec (.flashWriteDone true) s = .next u ∧ u.flash.tally = j.tally ∧
      u.flash.jobs = r ∧ u.qen = s.qen ∧ u.tiles = s.tiles) ∧
    (∀ j r, s.flash.jobs = j :: r → j.type = 0 → ∃ u, exec (.flashWriteDone true) s = .next u ∧ u.flash.jobs = r ∧
      (s.flash.dir.good = true → s.flash.dir.dseq + 1 < 2 ^ 32 →
        u.flash.stateOf (1 - s.flash.active) = (if imageCause s.part s.lead.tile j.image = 0 then 2 else 0)) ∧
      u.lead.upd = (if imageCause s.part s.lead.tile j.image = 0 then 1 else 0) ∧
      (∀ e, s.entry j.seq = some e → e.st ≠ .done →
        u.DoneWith j.seq (if imageCause s.part s.lead.tile j.image = 0 then St.ok else St.imageBad) 0 0)) ∧
    (∀ j r, s.flash.jobs = j :: r → (j.seq = 0 ∨ j.tries = 0) → ∃ u, exec (.flashWriteDone false) s = .next u ∧
      u.flash.jobs = { j with tries := j.tries + 1 } :: r ∧ u.qen = s.qen ∧ u.job = s.job) ∧
    (∀ j r, s.flash.jobs = j :: r → j.seq ≠ 0 → 1 ≤ j.tries → ∃ u, exec (.flashWriteDone false) s = .next u ∧ u.flash.jobs = r ∧
      (∀ e, s.entry j.seq = some e → e.st ≠ .done → u.DoneWith j.seq (if j.type = 0 then St.flashFail else St.preserveFail) 0 0)) ∧
    (s.flash.jobs = [] → ∀ ok, exec (.flashWriteDone ok) s = .next s) ∧
    (s.hostRuns = true → exec .tallyRecordWrite s = .next { s with flash := { s.flash with jobs := s.flash.jobs ++
      [{ FlashJob.of 2 0 with tally := some s.tallyLog }] } }) ∧
    (∀ j r, s.flash.jobs = j :: r → j.type = 3 → ∃ u, exec (.flashWriteDone true) s = .next u ∧ u.flash.trims = j.trims ∧
      u.flash.jobs = r ∧ u.qen = s.qen) ∧
    (∀ j r, s.flash.jobs = j :: r → j.type = 4 → ∃ u, exec (.flashWriteDone true) s = .next u ∧ u.flash.calib = j.calib ∧
      u.flash.jobs = r ∧ u.qen = s.qen) ∧
    (∀ q t e, s.lead.updating.find? (fun u => decide (u.2.2 < s.now)) = some (q, t, e) →
      exec .updateTimeout s = .next (s.updateFails t (s.tileN t).boot.cause)) ∧
    (∀ pins, exec (.jtagExtest true pins) s = .next ((s.tileList.foldl (fun s t => s.withdraw t (Config.freeNat s.free % 256))
      ({ s with extest := some (pins % 32) } : State)).nextFree) ∧
      exec (.jtagExtest false pins) s = .next { s with extest := none }) ∧
    exec .smbReadTemp s = .next { s with busRead := BitVec.ofNat 32 (wrapS 16 s.hottest % 2 ^ 16), smbNack := false } ∧
    exec .smbReadBoot s = .next { s with busRead := BitVec.ofNat 32 (s.aonBoot 0 % 2 ^ 16), smbNack := false } ∧
    exec .smbReadVbat s = .next { s with busRead := BitVec.ofNat 32 ((s.tileN 0).boot.vbat % 2 ^ 16), smbNack := false } ∧
    exec .smbReadEpoch s = .next { s with busRead := BitVec.ofNat 32 (s.lead.epoch % 2 ^ 16), smbNack := false } ∧
    (∀ cmd, exec (.smbOtherNack cmd) s = .next { s with smbNack := true }) ∧
    exec .smbAlertResponse s = .next { s with smbAlert := false }) ∧
  ((∀ (p : Part) t, t < p.tiles → ∀ i, i < 13 → ∀ j, j < 22 →
    ballAt p ((tileOrigin p t).1 + i) ((tileOrigin p t).2 + j) = tileBall t (i + 1) (j + 1)) ∧
  (∀ (p : Part) i, i < 19 → ∀ j, j < 11 → ballAt p ((haOrigin p).1 + i) ((haOrigin p).2 + j) = haBall (i + 1) (j + 1) ∧
    ballAt p ((hbOrigin p).1 + i) ((hbOrigin p).2 + j) = hbBall (i + 1) (j + 1)) ∧
  (∀ p : Part, [Rail.vss, .core, .sram, .vdd2h, .vddq, .ser09, .ser12, .io, .enc].map (fun x => ballCount p (fun b => b == .rail x)) =
    match p with
    | .ga402 => [517, 265, 20, 8, 16, 23, 17, 19, 18]
    | .ga404 => [675, 323, 40, 16, 32, 35, 23, 23, 18]
    | .ga408 => [551, 319, 80, 32, 64, 59, 35, 31, 18]) ∧
  (∀ (f : Flash) (g : Dir → Dir), f.dir.good = true → f.dir.dseq + 1 < 2 ^ 32 → let u := f.writeDir g
    u.dirAt = 1 - f.dirAt ∧ vget u.dirs f.dirAt f.dir = f.dir ∧
    u.dir = { g f.dir with dseq := f.dir.dseq + 1, fwverA := f.fwver 0, fwverB := f.fwver 1, good := true }))

/-- The frames of a port (R526 to R529, R532): where the frame before has ended, line 0 comes VTOTAL lines after it under fallback pacing, min(2 VTOTAL,
VTOTAL_MAX) while halved, and under TE pacing at the later of VTOTAL and DSP_TE_DELAY lines after the edge, or at VTOTAL_MAX with DSP_TE_LOST; the
flip, the line match, the end of a frame and an underrun raise their events at their lines. Where the spec leaves a point open this follows the
model's choice of log 20. Under conditions on the package and the operands alone exec answers the next state of the command's own effect:
dspFrameStart, proofFlip, dspLineMatch, dspFrameDone, dspTeLost, dspUnderrun. -/
def Obligations.FramesKeepTheirPacing : Prop :=
  ∀ (s : State) (p : Fin 2) (m : Timing), (s.dport p.val).timing = some m → (s.dport p.val).sends = true →
    let d := s.dport p.val
    let begun := fun (u : State) => (u.dport p.val).frame = (d.frame + 1) % 2 ^ 32 ∧ (u.dport p.val).frameAt = s.now ∧
      (u.dport p.val).lineBase = 0 ∧ (u.dport p.val).phase = 0 ∧ (u.dport p.val).te = none ∧
      (u.dport p.val).halved = bit (s.tileN p.val).thm.shed 0 ∧ u.job = s.job ∧ u.qen = s.qen ∧ u.motion = s.motion ∧
      ∀ q, q ≠ p.val → u.dport q = s.dport q
    let ended := d.phase = 2 ∧ ∀ x, d.change = some x → x.2 ≠ 5
    (ended → (m.pacing = 1 ∨ d.teLost = true) →
      (if d.halved then min (2 * m.vtotal) m.vtotalMax else m.vtotal) ≤ d.lineAt s.now →
      ∃ u : State, exec (.dspFrameStart p) s = .next u ∧ begun u ∧ (u.dport p.val).teLost = d.teLost) ∧
    (ended → (m.pacing = 1 ∨ d.teLost = true) →
      d.lineAt s.now < (if d.halved then min (2 * m.vtotal) m.vtotalMax else m.vtotal) → exec (.dspFrameStart p) s = .next s) ∧
    (ended → m.pacing ≠ 1 → d.teLost = false → ∀ a l, d.te = some (a, l) →
      (max m.vtotal (l + (PMap.item d.shown.items Pid.dspTeDelay).toNat) ≤ d.lineAt s.now →
        ∃ u : State, exec (.dspFrameStart p) s = .next u ∧ begun u) ∧
      (d.lineAt s.now < max m.vtotal (l + (PMap.item d.shown.items Pid.dspTeDelay).toNat) → exec (.dspFrameStart p) s = .next s)) ∧
    (ended → m.pacing ≠ 1 → d.teLost = false → d.te = none → d.teSkip = 0 → m.vtotalMax ≤ d.lineAt s.now →
      ∃ (u : State) (v : Nat), exec (.dspTeLost p) s = .next (u.raiseN p.val Ev.dspTeLost [p.val, v]) ∧ begun u ∧ v = (u.dport p.val).frame ∧
        (u.dport p.val).teLost = true ∧ exec (.dspFrameStart p) s = .next s) ∧
    (¬ended → exec (.dspFrameStart p) s = .next s ∧ exec (.dspTeLost p) s = .next s) ∧
    (d.phase = 0 → m.vactive ≤ d.lineAt s.now →
      let u := (s.updDport p.val (fun d => { d with phase := 1, last := s.lastSent p.val m m.vactive })).raiseN p.val Ev.dspBlankStart [p.val, d.frame]
      ((∀ x, d.change = some x → x.2 ≠ 2 ∧ x.2 ≠ 3) → exec (.proofFlip p) s = .next (u.latch p.val).pruneLive) ∧
      (∀ x, d.change = some x → (x.2 = 2 ∨ x.2 = 3) → exec (.proofFlip p) s = .next u)) ∧
    ((d.phase ≠ 0 ∨ d.lineAt s.now < m.vactive) → exec (.proofFlip p) s = .next s) ∧
    (exec (.dspLineMatch p) s = .next (if d.matched = false ∧ d.frameSet.2 ≤ d.lineAt s.now then
      (s.updDport p.val (fun d => { d with matched := true })).raiseN p.val Ev.dspLineMatch [p.val, d.frame] else s)) ∧
    (d.phase = 1 → d.change = none → s.dispOff = none → d.lineBase = 0 → m.vtotal ≤ d.lineAt s.now → exec (.dspFrameDone p) s =
      .next ((s.updDport p.val (fun d => { d with phase := 2 })).raiseN p.val Ev.dspFrameDone [p.val, d.frame])) ∧
    ((d.phase ≠ 1 ∨ d.lineAt s.now < m.vtotal) → exec (.dspFrameDone p) s = .next s) ∧
    (∀ line pixel, d.st = 4 → d.phase = 0 → line < m.vactive → pixel < m.hactive → line = d.lineAt s.now → d.underSeen ≠ some line →
      ∃ u : State, exec (.dspUnderrun p line pixel) s = .next
        (if d.underSeen = none then u.raiseN p.val Ev.dspUnderrun [p.val, d.frame, line, pixel] else u) ∧
        (u.dport p.val).under = satInc 32 d.under ∧ (u.dport p.val).fillpix = satAdd 32 d.fillpix (m.hactive - pixel) ∧
        (u.dport p.val).underSeen = some line ∧ u.job = s.job ∧ u.qen = s.qen ∧ ∀ q, q ≠ p.val → u.dport q = s.dport q)

/-- The proof flip (R527): each port latches at its own blanking what is pending: the items, the DISP.FLIP that it has not shown, the sample of its lane;
a refused DSP_CONV or DSP_SRC leaves the value in force; DISP.FLIP ends once every running port has latched it. TE edges, the link of a port and a
change of its mode (R524, R528, R530, R533 to R535): a filtered edge in blanking releases the next frame, every second one while halved; an HPD rise
trains the port, a fall or a loss makes it LINKLOST, and it trains again every 100 ms; training that passes starts the timing in blanking, and one
that fails in a change trains for the old timing; the first new frame ends the change. The pixels of a port (R521, R522, R525): the live proof
converts the composites of the sampled product, 0 where none is sampled (the model's own choice, log 130) and in a channel that the job does not have;
a surface shows its background outside; and a conversion within its ranges gives codes of 10 bits. Where the spec leaves a point open this follows the
model's choice of log 20, 49, 51. Under conditions on the package and the operands alone exec answers the next state of the command's own effect:
dspTeEdge, proofDataReceive, dspHotplug, dspLinkLost, dspRetrainTimer, dspModeChanged, dspLinkTrainingEnd. -/
def Obligations.PortsLatchAndFollowTheirSinks : Prop :=
  (∀ (s : State) (p : Fin 2),
    ((s.latch p.val).dport p.val).shown = s.latchView p.val ∧ (∀ q, q ≠ p.val → (s.latch p.val).dport q = s.dport q) ∧
    (s.latch p.val).job = s.job ∧
    (∀ f, (s.dispFlip.filter (fun f => bit f.left p.val)).getLast? = some f →
      (s.latchView p.val).source = f.source ∧ (s.latchView p.val).surface = f.surface) ∧
    (s.dispFlip.filter (fun f => bit f.left p.val) = [] → (s.latchView p.val).source = (s.dport p.val).shown.source ∧
      (s.latchView p.val).surface = (s.dport p.val).shown.surface) ∧
    ((s.convAt p.val (PMap.item s.job.base.items Pid.dspConv).toNat).isSome = true →
      s.srcOk (PMap.item s.job.base.items Pid.dspSrc).toNat = true → (s.latchView p.val).items = s.job.base.items) ∧
    (∀ f, s.dispFlip = [f] → f.left = 2 ^ p.val → f.seq ≠ 0 → ∀ e, s.entry f.seq = some e → e.st ≠ .done →
      ∃ r, (s.latch p.val).DoneWith f.seq St.ok r 0 ∧
        ((p.val = s.lead.tile ∨ f.frame = 0) → r = ((s.dport p.val).frame + 1) % 2 ^ 32)) ∧
    (∀ (conv : List Nat) (d : Nat → Nat) (k : Fin 3), sendCode 8 (dspCode conv d k.val) = dspCode conv d k.val / 4) ∧
    (∀ v, v < 256 → rasterCode v = v * 4 + v / 64) ∧
    (∀ bg last k, fillCode .ga408 bg last k = last ∧ fillCode .ga402 bg last k = bgCode bg k ∧ fillCode .ga404 bg last k = bgCode bg k)) ∧
  (∀ (s : State) (p : Fin 2), let d := s.dport p.val
    (let x := vget s.motion.te p.val PinSt.reset
     let u : State := { s with motion := { s.motion with te := vset s.motion.te p.val x.take } }
     (x.due (s.itemN Pid.dspTeFilt) s.now = false → exec (.dspTeEdge p) s = .next s) ∧
     (x.due (s.itemN Pid.dspTeFilt) s.now = true →
       (d.sends = true ∧ d.pacing = 0 ∧ x.raw ≠ decide (d.frameSet.1 = 1) ∧ (d.timing.map (·.vactive)).getD 0 ≤ d.lineAt x.since ∧ d.te = none →
         (d.halved = false ∨ d.teSkip ≠ 0 ∨ d.teLost = true → exec (.dspTeEdge p) s = .next (u.updDport p.val (fun d =>
           { d with te := some (x.since, d.lineAt x.since), teSkip := 0, teLost := false }))) ∧
         (d.halved = true → d.teSkip = 0 → d.teLost = false →
           exec (.dspTeEdge p) s = .next (u.updDport p.val (fun d => { d with teSkip := 1 })))) ∧
       (¬(d.sends = true ∧ d.pacing = 0 ∧ x.raw ≠ decide (d.frameSet.1 = 1) ∧ (d.timing.map (·.vactive)).getD 0 ≤ d.lineAt x.since ∧
         d.te = none) → exec (.dspTeEdge p) s = .next u))) ∧
    (∀ (layer : Fin 4) row data, s.dispPd p.val = true →
      bits (PMap.item d.shown.items Pid.dspSrc).toNat (2 * layer.val + 1) (2 * layer.val) ≠ 0 →
      exec (.proofDataReceive p layer row data) s = .next (s.updDport p.val (fun d =>
        { d with staging := d.staging.filter (fun e => !(e.1 == layer.val && e.2.1 == row)) ++ [(layer.val, row, data)] }))) ∧
    (d.hpd = true → exec (.dspHotplug p) s = .next s) ∧
    (d.hpd = false →
      (s.dispPd p.val = true → d.st ≠ 0 → ∃ u : State, exec (.dspHotplug p) s = .next (u.raiseN p.val Ev.dspHotplug [p.val]) ∧
        (u.dport p.val).hpd = true ∧ (u.dport p.val).sink = d.sink + 1 ∧
        (∀ m, s.dispLast = some m → (u.dport p.val).st = 2 ∧ (u.dport p.val).timing = some m ∧ (u.dport p.val).rate = m.rate ∧
          (u.dport p.val).trains = satInc 16 d.trains) ∧ (s.dispLast = none → (u.dport p.val).st = 1) ∧ u.job = s.job)) ∧
    (∀ fell, (if fell = true then d.hpd = true else d.hpd = true ∧ d.sends = true) → s.dispPd p.val = true → 2 ≤ d.st → s.dispOff = none →
      ∃ u : State, exec (.dspLinkLost p fell) s = .next (u.raiseN p.val Ev.dspLinkLost [p.val]) ∧ (u.dport p.val).st = 5 ∧
        (u.dport p.val).hpd = (if fell = true then false else true) ∧ (u.dport p.val).change = none ∧ (u.dport p.val).lostAt = s.now ∧
        u.job = s.job ∧ u.motion = s.motion) ∧
    (d.st = 5 → d.hpd = true → d.lostAt + 25_000_000 ≤ s.now → ∀ m, s.dispLast = some m → ∃ u : State, exec (.dspRetrainTimer p) s = .next u ∧
      (u.dport p.val).st = 2 ∧ (u.dport p.val).lostAt = s.now ∧ (u.dport p.val).timing = some m ∧ u.job = s.job ∧ u.qen = s.qen) ∧
    (d.st ≠ 5 ∨ d.hpd = false ∨ s.now < d.lostAt + 25_000_000 → exec (.dspRetrainTimer p) s = .next s) ∧
    (d.st = 2 →
      (∀ m st, d.change = some (m, st) → exec (.dspLinkTrainingEnd p true) s =
        .next (s.updDport p.val (fun d => { d.begin m s.now with st := 3, change := some (m, 5) }))) ∧
      (∀ m st old, d.change = some (m, st) → d.timing = some old → exec (.dspLinkTrainingEnd p false) s =
        .next (s.updDport p.val (fun d => { d.train old with change := none, fallback := true }))) ∧
      (∀ m, d.change = none → d.timing = some m → d.fallback = false → exec (.dspLinkTrainingEnd p true) s =
        .next (s.updDport p.val (fun d => { d.begin m s.now with st := 4, fallback := false }))) ∧
      (d.change = none → ∃ u : State, exec (.dspLinkTrainingEnd p false) s = .next u ∧ (u.dport p.val).st = 5 ∧ u.job = s.job)) ∧
    (d.st ≠ 2 → ∀ ok, exec (.dspLinkTrainingEnd p ok) s = .next s) ∧
    (∀ m, d.change = some (m, 5) → d.sends = true → d.phase = 1 → m.vtotal ≤ d.lineAt s.now →
      ∃ u : State, exec (.dspModeChanged p) s = .next u ∧ (u.dport p.val).st = 4 ∧ (u.dport p.val).change = none ∧
        (u.dport p.val).frame = (d.frame + 1) % 2 ^ 32 ∧ u.job = s.job) ∧
    (d.change = none → exec (.dspModeChanged p) s = .next s)) ∧
  ((∀ (s : State) (p : Fin 2) (m : Timing) x y k, let v := (s.dport p.val).shown
    (v.source = 0 → s.pixelOut p.val m x y k = dspCode v.conv (s.proofComposite p.val x y k) k) ∧
    (v.prod = none → ∀ ch, s.proofComposite p.val x y k ch = 0) ∧
    (∀ ch, bit s.activeCh ch = false → s.proofComposite p.val x y k ch = 0) ∧
    (v.source ≠ 0 → (∀ d, (s.tileN p.val).desc v.surface = some d → d.width ≤ x ∨ d.height ≤ y) →
      s.pixelOut p.val m x y k = bgCode m.bg k)) ∧
  (∀ (conv : List Nat) (d : Nat → Nat) (k : Fin 3), conv.length = 807 → (∀ v ∈ conv.drop 36, v ≤ 1023) →
    dspCode conv d k.val ≤ 1023 ∧ dspCode [] d k.val ≤ 1023))

/-- The DRAM controller (R482, R483, R485, R494): the head of a channel's queue completes, in arrival order; a fetch of a granule with a poisoned word
meets an uncorrectable error, and a write heals the words it covers; a correctable error counts and latches its word, with MEMC_CE at most once a
second; an uncorrectable one counts, latches and poisons its word; refresh closes its bank's row, and a bank with no queued request closes its own; a
scrub pass ends with its counts. Pauses (R491 to R494, R553): one starts only where every real-time port tolerates its length and the guard, a
frequency change first; retraining falls due and after MEMC_TRAIN_DEFER is forced, a frequency change never; the change ends on the other set with
MEMC_SET_CHANGED; a retraining ends with the DRAM corrections that waited, and the next falls due from its end. The arbiter and the address map of the
DRAM controller (R478, R488): a channel queue with room admits one request, of the ports that hold PANIC in the order SCAN, DWRITE, PROOF, else of the
port that the weighted round-robin serves; a data word and its check byte lie in different granules, no two words share either, and bytes 56 to 63 of
a check granule hold no check byte. Where the spec leaves a point open this follows the model's choice of log 43, 59. Under conditions on the package
and the operands alone exec answers the next state of the command's own effect: dramRequestComplete, dramRefreshDue, bankIdlePrecharge,
dramPauseStart, memcSetChanged, dramRetrainDue, memcPauseForced, memcPanicLong, memcScrubDone, memcDramHot, dramRetrainingDone. -/
def Obligations.DramLeavesInOrderAndPauses : Prop :=
  (∀ (s : State) (t : Tile), t.val < s.nTiles → let m := s.memc t.val
    (m.st ≠ 2 → ∀ ch e, exec (.dramRequestComplete t ch e) s = .next s) ∧
    (m.st = 2 → ∀ (ch : Fin 4) e,
      let first := (vget m.chq ch.val []).head?
      let hit := ∃ r, first = some r ∧ r.port = 0 ∧ ∃ a ∈ m.poison, a / 64 = r.da / 64
      let kept := match first with
        | some r => if r.port = 1 then m.poison.filter (fun a => decide (a < r.da ∨ r.da + r.bytes ≤ a)) else m.poison
        | none => m.poison
      ∃ u : State, exec (.dramRequestComplete t ch e) s = .next u ∧
      vget (u.memc t.val).chq ch.val [] = (vget m.chq ch.val []).drop 1 ∧
      (∀ k, k ≠ ch.val → vget (u.memc t.val).chq k [] = vget m.chq k []) ∧ u.qen = s.qen ∧ u.job = s.job ∧ u.motion = s.motion ∧
      (¬hit → e = .clean → (u.memc t.val).ceCnt = m.ceCnt ∧ (u.memc t.val).ueCnt = m.ueCnt ∧ (u.memc t.val).poison = kept ∧
        (u.tile t).mem = (s.tile t).mem ∧ (u.tile t).evr = (s.tile t).evr) ∧
      (¬hit → ∀ a, e = .corrected a → (u.memc t.val).ceCnt = satInc 32 m.ceCnt ∧ (u.memc t.val).ceAddr = a % 2 ^ 40 / 8 * 8 ∧
        (u.memc t.val).ueCnt = m.ueCnt ∧ (u.memc t.val).poison = kept ∧
        (∀ b, m.ceLast = some b → s.now < b + 250_000_000 → (u.tile t).evr = (s.tile t).evr)) ∧
      (∀ a, e = .uncorrectable a → (u.memc t.val).ueCnt = satInc 32 m.ueCnt ∧ (u.memc t.val).ueAddr = a % 2 ^ 40 / 8 * 8 ∧
        (u.memc t.val).ceCnt = m.ceCnt ∧ ((∀ r, first = some r → r.port ≠ 1) → a % 2 ^ 40 / 8 * 8 ∈ (u.memc t.val).poison) ∧
        (∀ r, first = some r → r.port = 1 → ∀ w, w % 8 = 0 → w / 64 = r.da / 64 →
          (w ∈ (u.memc t.val).poison ↔ w < r.da ∨ r.da + r.bytes ≤ w))) ∧
      (hit → (u.memc t.val).ueCnt = satInc 32 m.ueCnt ∧ (u.memc t.val).ceCnt = m.ceCnt)) ∧
    (∀ (ch : Fin 4) (bank : Fin 16), exec (.dramRefreshDue t ch bank) s = .next (if m.st = 2 ∧ m.pause = none then
      s.updMemc t.val (fun m => { m with
        refreshed := NMap.upd 0 m.refreshed (16 * ch.val + bank.val) (· + 1), openRow := NMap.set 0 m.openRow (16 * ch.val + bank.val) 0 })
      else s)) ∧
    (∀ (ch : Fin 4) (bank : Fin 16), exec (.bankIdlePrecharge t ch bank) s = .next
      (if m.st = 2 ∧ ∀ r ∈ vget m.chq ch.val [], (m.place r.da).2.1 ≠ bank.val then
        s.updMemc t.val (fun m => { m with openRow := NMap.set 0 m.openRow (16 * ch.val + bank.val) 0 }) else s)) ∧
    exec (.memcScrubDone t) s = .next (if m.st = 2 ∧ m.scrubH ≠ 0 then
      (s.updMemc t.val (fun m => { m with scrub := (0, 0), scrubH := s.itemN (Pid.memcScrub t.val) })).raiseN t.val Ev.memcScrubDone [m.scrub.1, m.scrub.2] else s) ∧
    (∀ (ch : Fin 4) mr4 hot, exec (.memcDramHot t ch mr4 hot) s = .next (if m.st = 2 ∧ vget m.hot ch.val false ≠ hot then
      (s.updMemc t.val (fun m => { m with hot := vset m.hot ch.val hot })).raiseN t.val Ev.memcDramHot [ch.val, mr4, boolNat hot] else s)) ∧
    (∀ (port : Fin 3) t0, vget m.panic port.val none = some t0 → exec (.memcPanicLong t port) s = .next
      (let n := vget m.panicLongs port.val 0
       if t0 + 25_000 * (n + 1) ≤ s.now then
         (s.updMemc t.val (fun m => { m with panicLongs := vset m.panicLongs port.val (n + 1) })).raiseN t.val Ev.memcPanicLong
           [port.val, 25_000 * (n + 1)] else s)) ∧
    (∀ port : Fin 3, vget m.panic port.val none = none → exec (.memcPanicLong t port) s = .next s)) ∧
  (∀ (s : State) (t : Tile), t.val < s.nTiles → let m := s.memc t.val
    let room := fun (d : Nat) => ∀ p, p < 3 → d + s.itemN (Pid.memcRtGuard t.val) ≤ s.tolerance t.val p
    (m.st = 2 → m.pause = none → m.freqPend = true → room 1500 →
      exec (.dramPauseStart t) s = .next (s.updMemc t.val (fun m => { m with pause := some (0, s.now) }))) ∧
    (m.st = 2 → m.pause = none → m.freqPend = false → m.trainPend = true → room 100 →
      exec (.dramPauseStart t) s = .next (s.updMemc t.val (fun m => { m with pause := some (1, s.now) }))) ∧
    (m.st ≠ 2 ∨ m.pause ≠ none ∨ (m.freqPend = false ∧ m.trainPend = false) ∨ (m.freqPend = true ∧ ¬room 1500) ∨
      (m.freqPend = false ∧ ¬room 100) → exec (.dramPauseStart t) s = .next s) ∧
    (∀ a, m.pause = some (0, a) → ∃ u : State, exec (.memcSetChanged t) s = .next
        (u.raiseN t.val Ev.memcSetChanged [1 - m.set, rateOf (if 1 - m.set = 0 then m.rateA else m.rateB)]) ∧
      (u.memc t.val).set = 1 - m.set ∧ (u.memc t.val).pause = none ∧ (u.memc t.val).trainPend = false ∧
      (u.memc t.val).trainDue = some (s.now + 250_000 * s.itemN (Pid.memcTrainInt t.val)) ∧
      ((u.memc t.val).freqPend = true ↔ s.itemN (Pid.memcSet t.val) ≠ 1 - m.set) ∧ u.job = s.job ∧ u.qen = s.qen) ∧
    ((∀ a, m.pause ≠ some (0, a)) → exec (.memcSetChanged t) s = .next s) ∧
    (m.st = 2 → m.trainPend = false → ∀ a, m.trainDue = some a → a ≤ s.now →
      exec (.dramRetrainDue t) s = .next (s.updMemc t.val (fun m =>
        { m with trainPend := true, deferMs := s.itemN (Pid.memcTrainDefer t.val) }))) ∧
    (m.st ≠ 2 ∨ m.trainPend = true ∨ m.trainDue = none ∨ (∃ a, m.trainDue = some a ∧ s.now < a) → exec (.dramRetrainDue t) s = .next s) ∧
    (m.pause = none → m.trainPend = true → ∀ a, m.trainDue = some a → a + 250_000 * m.deferMs ≤ s.now →
      exec (.memcPauseForced t) s = .next ((s.updMemc t.val (fun m =>
        { m with pause := some (1, s.now), forced := satInc 16 m.forced })).raiseN t.val Ev.memcPauseForced [s.now - a])) ∧
    (m.trainPend = false ∨ m.pause ≠ none ∨ m.trainDue = none → exec (.memcPauseForced t) s = .next s) ∧
    (∀ a, m.pause = some (1, a) → ∀ drift, ∃ u : State, exec (.dramRetrainingDone t drift) s = .next u ∧ (u.memc t.val).pause = none ∧
      (u.memc t.val).trainPend = false ∧ (u.memc t.val).set = m.set ∧
      (u.memc t.val).trainDue = some (s.now + 250_000 * s.itemN (Pid.memcTrainInt t.val)) ∧
      (u.trm t.val).waiting = (s.trm t.val).waiting.filter (fun w => w.1 != 1) ∧ u.job = s.job ∧ u.qen = s.qen) ∧
    ((∀ a, m.pause ≠ some (1, a)) → ∀ drift, exec (.dramRetrainingDone t drift) s = .next s)) ∧
  ((∀ (m : Memc) wt ch, queueDepth ≤ (vget m.chq ch []).length → m.grant wt ch = m) ∧
  (∀ (m : Memc) wt ch p r, p < 3 → (vget m.chq ch []).length < queueDepth → (vget m.panic p none).isSome = true → m.readyFor ch p = some r →
    (∀ q, q < p → (vget m.panic q none).isSome = false ∨ m.readyFor ch q = none) → m.grant wt ch = m.admitReq ch p r) ∧
  (∀ (m : Memc) wt ch r, (vget m.chq ch []).length < queueDepth →
    (∀ q, q < 3 → (vget m.panic q none).isSome = false ∨ m.readyFor ch q = none) → let cur := vget m.turn ch (0, 0)
    m.readyFor ch cur.1 = some r → cur.2 < wt / 16 ^ cur.1 % 16 →
    m.grant wt ch = { m.admitReq ch cur.1 r with turn := vset m.turn ch (cur.1, cur.2 + 1) }) ∧
  (∀ (m : Memc) wt ch, (∀ q, m.readyFor ch q = none) → m.grant wt ch = m) ∧
  (∀ da db, checkAddr da / 64 % 8 = 7 ∧ checkAddr da % 64 < 56 ∧ physAddr da / 64 % 8 ≠ 7 ∧
    (checkAddr da = checkAddr db → da / 8 = db / 8) ∧ (physAddr da = physAddr db → da = db)))

/-- Die temperatures and levels (R540, R542, R543): a conversion in range gives the mean of the last four; the third in a row out of range makes the
sensor bad, the hundredth in range ends it; warning sets at THM_WARN and clears below THM_WARN - THM_WARN_HYST. Throttle steps and shedding (R544,
R545, R547, R548): the threshold starts step 1, and each interval's end raises or lowers it by one or holds it; the actions are the shortest prefix
that reaches the limit; all are released at step 0; an estimate is kept; the drop 10 ms after an action is its saving; shutdown sets its flag, counts,
raises the alert and ends a trim run. Where the spec leaves a point open this follows the model's choice of log 38, 39. Under conditions on the
package and the operands alone exec answers the next state of the command's own effect: thermConversion, throttleStepInterval, powerEstimateUpdate,
shedSavingMeasured. -/
def Obligations.HeatIsMeasuredAndShed : Prop :=
  ((∀ (s : State) (t : Tile) code temp valid, t.val < s.nTiles → ∃ u : State, exec (.thermConversion t code temp valid) s = .next u) ∧
  (∀ (s : State) (t : Tile) code temp valid, t.val < s.nTiles → let x := s.thm t.val
    let cold := x.warn = false ∧ x.shut = false ∧ x.sensorBad = false ∧ x.step = 0
    (tempOk temp valid = true → cold → meanTemp ((temp :: x.conv).take 4) < s.item (Pid.thmWarn t.val) →
      meanTemp ((temp :: x.conv).take 4) < s.item (Pid.thmThrot t.val) → meanTemp ((temp :: x.conv).take 4) < s.item (Pid.thmShut t.val) →
      ∃ u : State, exec (.thermConversion t code temp valid) s = .next u ∧ (u.thm t.val).temp = meanTemp ((temp :: x.conv).take 4) ∧
        (u.thm t.val).warn = false ∧ (u.thm t.val).shut = false ∧ (u.thm t.val).step = 0 ∧ (u.thm t.val).badRun = 0 ∧
        u.job = s.job ∧ u.qen = s.qen) ∧
    (tempOk temp valid = true → cold → s.item (Pid.thmWarn t.val) ≤ meanTemp ((temp :: x.conv).take 4) →
      meanTemp ((temp :: x.conv).take 4) < s.item (Pid.thmThrot t.val) → meanTemp ((temp :: x.conv).take 4) < s.item (Pid.thmShut t.val) →
      ∃ u : State, exec (.thermConversion t code temp valid) s = .next u ∧ (u.thm t.val).warn = true ∧ (u.thm t.val).step = 0 ∧
        (u.thm t.val).shut = false ∧ u.smbAlert = true ∧ u.job = s.job) ∧
    (tempOk temp valid = true → x.warn = true → x.shut = false → x.sensorBad = false → x.step = 0 →
      meanTemp ((temp :: x.conv).take 4) < s.item (Pid.thmWarn t.val) - s.item (Pid.thmWarnHyst t.val) →
      meanTemp ((temp :: x.conv).take 4) < s.item (Pid.thmThrot t.val) → meanTemp ((temp :: x.conv).take 4) < s.item (Pid.thmShut t.val) →
      ∃ u : State, exec (.thermConversion t code temp valid) s = .next u ∧ (u.thm t.val).warn = false ∧ u.job = s.job) ∧
    (tempOk temp valid = false → cold → x.badRun < 2 → x.conv = [] →
      ∃ u : State, exec (.thermConversion t code temp valid) s = .next u ∧ (u.thm t.val).badRun = x.badRun + 1 ∧
        (u.thm t.val).temp = x.temp ∧ (u.thm t.val).sensorBad = false ∧ (u.thm t.val).shut = false ∧ u.job = s.job ∧ u.qen = s.qen)) ∧
  (∀ l : List Int, meanTemp l = (l.foldl (· + ·) 0).tdiv (max 1 l.length)) ∧
  (∀ temp valid, tempOk temp valid = true ↔ valid = true ∧ -550 ≤ temp ∧ temp ≤ 1500) ∧
  (∀ (s : State) (t : Tile) code temp ok, t.val < s.nTiles → (s.thm t.val).sensorBad = false → ok = false → (s.thm t.val).badRun = 2 →
    ∃ u : State, s.convert t.val code temp ok = u.raiseN t.val Ev.thermSensorBad [code, 1] ∧ (u.thm t.val).sensorBad = true ∧
      (u.thm t.val).cntSensor = satInc 8 (s.thm t.val).cntSensor ∧ ∀ limit, (u.thm t.val).reaches limit = true) ∧
  (∀ (s : State) (t : Tile) code temp ok, t.val < s.nTiles → (s.thm t.val).sensorBad = true → ok = true → (s.thm t.val).goodRun = 99 →
    ∃ u : State, s.convert t.val code temp ok = u.raiseN t.val Ev.thermSensorBad [code, 0] ∧ (u.thm t.val).sensorBad = false)) ∧
  ((∀ (s : State) (t : Tile), t.val < s.nTiles → let x := s.thm t.val
    (∀ est, exec (.powerEstimateUpdate t est) s = .next (s.updThm t.val (fun x => { x with est := min est 0xFFFF }))) ∧
    (∀ (a : Fin 4) est t0, vget x.applied a.val none = some (est, t0) → exec (.shedSavingMeasured t a) s = .next
      (if t0 + 2_500_000 ≤ s.now then s.updThm t.val (fun y =>
        { y with saving := vset y.saving a.val (est - x.est), applied := vset y.applied a.val none }) else s)) ∧
    (∀ a : Fin 4, vget x.applied a.val none = none → exec (.shedSavingMeasured t a) s = .next s) ∧
    (x.timer = none → exec (.throttleStepInterval t) s = .next s) ∧
    (∀ a, x.timer = some a → a + 250_000 * x.stepT ≤ s.now → x.step ≠ 0 →
      (x.reaches (s.item (Pid.thmThrot t.val)) = true → x.step < 4 →
        exec (.throttleStepInterval t) s = .next (s.setStep t.val (x.step + 1))) ∧
      (x.reaches (s.item (Pid.thmThrot t.val)) = false ∨ 4 ≤ x.step →
        (x.below (s.item (Pid.thmThrot t.val) - s.item (Pid.thmThrotHyst t.val)) = true →
          exec (.throttleStepInterval t) s = .next (if x.step = 1 then (s.setStep t.val 0).stepZero t.val else s.setStep t.val (x.step - 1))) ∧
        (x.below (s.item (Pid.thmThrot t.val) - s.item (Pid.thmThrotHyst t.val)) = false →
          exec (.throttleStepInterval t) s = .next (s.updThm t.val (fun x => { x with timer := some s.now, stepT := s.itemN (Pid.thmStepT t.val) }))))) ∧
    (∀ a, x.timer = some a → s.now < a + 250_000 * x.stepT → exec (.throttleStepInterval t) s = .next s) ∧
    (s.throttle t.val = if x.step = 0 ∧ x.reaches (s.item (Pid.thmThrot t.val)) = true then s.setStep t.val 1 else s) ∧
    (∀ new, let u := s.setStep t.val new
      (u.thm t.val).step = new ∧ (u.thm t.val).limit = s.itemN (Pid.thmPlimit t.val) - new * s.itemN (Pid.thmStepW t.val) ∧
      (new = 0 → (u.thm t.val).shed = 0 ∧ (u.thm t.val).timer = none) ∧ (new ≠ 0 → (u.thm t.val).timer = some s.now)) ∧
    (let u := s.shutdown t.val
     (u.thm t.val).shut = true ∧ (u.thm t.val).cntShut = satInc 8 x.cntShut ∧ u.smbAlert = true ∧ (u.trm t.val).run = none)) ∧
  (∀ t limit shed est, est ≤ limit → shedUp t limit [0, 1, 2] shed est = (shed, est)) ∧
  (∀ t limit est, t < 2 → limit < est → est - 5 ≤ limit → shedUp t limit [0, 1, 2] 0 est = (1, est - 5)) ∧
  (∀ t limit est, 2 ≤ t → limit < est → est - 7 ≤ limit → shedUp t limit [0, 1, 2] 0 est = (2, est - 7)))

/-- Trim (R553 to R558): a run that ends counts and notes its temperature, and none runs on where none is queued; a correction waits for its boundary and
replaces one that waits; at the boundary it comes into force; an encoder input takes its own after TRM_EDGE_FREE ticks without an edge; a set within
TRM_DT / 2 is replaced, else one is added while fewer than eight exist. Where the spec leaves a point open this follows the model's choice of log 57.
Under conditions on the package and the operands alone exec answers the next state of the command's own effect: trimDone, encTrimApply. -/
def Obligations.TrimRunsCorrectAtTheirBoundary : Prop :=
  (∀ (s : State) (t : Tile), t.val < s.nTiles → let x := s.trm t.val
    (x.run = none → ∀ r, exec (.trimDone t r) s = .next s) ∧
    (∀ c q r, x.run = some (c, q) → ∃ u : State, exec (.trimDone t r) s = .next u ∧ (u.trm t.val).runs = satInc 16 x.runs ∧
      (u.trm t.val).lastTemp = (s.thm t.val).temp ∧ u.job.products = s.job.products ∧
      (x.queue = [] → (u.trm t.val).run = none ∧ (u.trm t.val).running = 0)) ∧
    (∀ i : Quad, t.val < 2 → (s.tile t).on 14 = true → (s.enc i.num).edgeAt + s.itemN (Pid.trmEdgeFree t.val) ≤ s.now →
      exec (.encTrimApply t i) s = .next (s.updTrm t.val (fun x => x.force 3 [16 + i.num]))) ∧
    (∀ i : Quad, 2 ≤ t.val ∨ (s.tile t).on 14 = false ∨ s.now < (s.enc i.num).edgeAt + s.itemN (Pid.trmEdgeFree t.val) →
      exec (.encTrimApply t i) s = .next s)) ∧
  (∀ (x : Trm) (c : Fin 4) (vs : List Int), bit (x.await c.val vs).pend c.val = true ∧
    (x.await c.val vs).waiting.filter (fun w => (trimKeys c.val).contains w.1) = (trimKeys c.val).map (fun k => (k, vs)) ∧
    (x.await c.val vs).inForce = x.inForce) ∧
  (∀ (x : Trm) (c : Nat) keys w, w ∈ x.waiting → w.1 ∈ keys → w ∈ (x.force c keys).inForce ∧ w ∉ (x.force c keys).waiting) ∧
  (∀ (x : Trm) dt temp vs, x.sets = [] → (x.store dt temp vs).sets = [{ temp := temp, values := vs }]) ∧
  (∀ (x : Trm) dt temp vs a, x.sets = [a] → 2 * (a.temp - temp).natAbs ≤ dt →
    ∃ b, (x.store dt temp vs).sets = [b] ∧ b.temp = temp ∧ ∀ v ∈ vs, v ∈ b.values) ∧
  (∀ (x : Trm) dt temp vs, x.sets.length < 8 → (∀ a ∈ x.sets, dt < 2 * (a.temp - temp).natAbs) →
    (x.store dt temp vs).sets = x.sets ++ [{ temp := temp, values := vs }]) ∧
  (∀ (x : Trm) dt temp vs, x.sets.length ≤ 8 → (x.store dt temp vs).sets.length ≤ 8)

/-- Fetch and dispatch (R396, R399, R403 to R405): the entry at the head of the queue whose turn it is enters the store QUEUED with the next number, and
its queue moves on; a failed check completes it at once with its status; a read that fails stops the queue with QUEUE_FAULT; the next eligible packet
is dispatched by its opcode; the mirror's next write reaches host memory's copy of the queues. Where the spec leaves a point open this follows the
model's choice of log 108. Under conditions on the package and the operands alone exec answers the next state of the command's own effect:
packetFetch, packetDispatch, queueMirrorReceive. -/
def Obligations.EntriesAreFetchedAndDispatched : Prop :=
  (∀ (s : State) q k x w, s.fetchOn = true → s.fetchTurn = some (q, k) → s.pair q = some x →
    let p : Packet := { q := q, seq := s.qen.nextSeq, w := w }
    (s.fetchCheck p x = 0 → ∃ u : State, exec (.packetFetch (some w)) s = .next u ∧ u.pair q = some x.advance ∧
      u.qen.store = s.qen.store ++ [StoreEntry.fetched p x.session] ∧ u.qen.nextSeq = s.qen.nextSeq + 1 ∧ u.qen.turn = (q, k) ∧
      u.beside = s.beside) ∧
    (s.fetchCheck p x ≠ 0 → s.entry s.qen.nextSeq = none → ∃ u : State, exec (.packetFetch (some w)) s = .next u ∧
      (u.pair q).map QueuePair.quiet = some x.advance.quiet ∧ u.DoneWith s.qen.nextSeq (s.fetchCheck p x) 0 0 ∧ u.beside = s.beside) ∧
    (∃ u : State, exec (.packetFetch none) s = .next (u.raiseLead Ev.queueFault [q, 2]) ∧
      u.pair q = some { x with fault := true, stopped := true } ∧ u.beside = s.beside)) ∧
  (∀ (s : State) e, s.fetchOn = false ∨ s.fetchTurn = none → exec (.packetFetch e) s = .next s) ∧
  (∀ (s : State) q k, s.fetchTurn = some (q, k) → s.fetchable q = true ∧ 1 ≤ k ∧ k ≤ 8) ∧
  (∀ (s : State) (p : Packet) (x : QueuePair),
    (opOf p.opcode = none → s.fetchCheck p x = St.opcodeBad) ∧
    (opOf p.opcode ≠ none → (p.f 0 31 22 ≠ 0 ∨ (p.urgent = true ∧ p.notify = false)) → s.fetchCheck p x = St.flagsBad)) ∧
  (∀ (s : State) e d, s.engineOn = true → s.nextDispatch = some e → opOf e.p.opcode = some d → ∃ u : State, exec .packetDispatch s = .next (d.dispatch u e.p) ∧
    u.qen.store = s.qen.store ∧ u.beside = s.beside ∧ (∀ q, u.pair q = s.pair q) ∧ (∀ n, u.session n = s.session n)) ∧
  (∀ (s : State), s.engineOn = false ∨ s.nextDispatch = none → exec .packetDispatch s = .next s) ∧
  (∀ (s : State) e, s.nextDispatch = some e → e ∈ s.qen.store ∧ e.st = .queued ∧
    ∀ f ∈ s.qen.store, f.p.seq < e.p.seq → f.p.q = e.p.q → e.p.ordered = true → f.st ≠ .queued) ∧
  (∀ (s : State) w r, s.qen.mirror = w :: r → ∃ u : State, exec .queueMirrorReceive s = .next u ∧ u.qen.mirror = r ∧ u.qen.pairs = s.qen.pairs ∧
    u.qen.store = s.qen.store ∧ u.beside = s.beside ∧ (∀ q v, w = .tail q v → u.mirrorOf q = { s.mirrorOf q with tail := v }) ∧
    (∀ q v, w = .head q v → (u.mirrorOf q).head = v)) ∧
  (∀ (s : State), s.qen.mirror = [] → exec .queueMirrorReceive s = .next s)
end

