-- ==== Sys2Proof/Laws/State.lean ====
section
/-! SUPPORT. What each update of the package leaves unchanged: one lemma for each field it does not touch. -/

namespace Sys2Proof.Machine

@[simp] theorem State.setTile_part (s : State) (t : Tile) (x : TileState) : (State.setTile s t x).part = s.part := rfl
@[simp] theorem State.setTile_time (s : State) (t : Tile) (x : TileState) : (State.setTile s t x).time = s.time := rfl
@[simp] theorem State.setTile_linkUp (s : State) (t : Tile) (x : TileState) : (State.setTile s t x).linkUp = s.linkUp := rfl
@[simp] theorem State.setTile_hops (s : State) (t : Tile) (x : TileState) : (State.setTile s t x).hops = s.hops := rfl
@[simp] theorem State.setTile_lead (s : State) (t : Tile) (x : TileState) : (State.setTile s t x).lead = s.lead := rfl
@[simp] theorem State.setTile_qen (s : State) (t : Tile) (x : TileState) : (State.setTile s t x).qen = s.qen := rfl
@[simp] theorem State.setTile_evh (s : State) (t : Tile) (x : TileState) : (State.setTile s t x).evh = s.evh := rfl
@[simp] theorem State.setTile_host (s : State) (t : Tile) (x : TileState) : (State.setTile s t x).host = s.host := rfl
@[simp] theorem State.setTile_busRead (s : State) (t : Tile) (x : TileState) : (State.setTile s t x).busRead = s.busRead := rfl
@[simp] theorem State.setTile_smbNack (s : State) (t : Tile) (x : TileState) : (State.setTile s t x).smbNack = s.smbNack := rfl
@[simp] theorem State.setTile_smbAlert (s : State) (t : Tile) (x : TileState) : (State.setTile s t x).smbAlert = s.smbAlert := rfl
@[simp] theorem State.setTile_extest (s : State) (t : Tile) (x : TileState) : (State.setTile s t x).extest = s.extest := rfl
@[simp] theorem State.setTile_job (s : State) (t : Tile) (x : TileState) : (State.setTile s t x).job = s.job := rfl
@[simp] theorem State.setTile_stores (s : State) (t : Tile) (x : TileState) : (State.setTile s t x).stores = s.stores := rfl
@[simp] theorem State.setTile_marks (s : State) (t : Tile) (x : TileState) : (State.setTile s t x).marks = s.marks := rfl
@[simp] theorem State.setTile_motion (s : State) (t : Tile) (x : TileState) : (State.setTile s t x).motion = s.motion := rfl
@[simp] theorem State.setTile_colour (s : State) (t : Tile) (x : TileState) : (State.setTile s t x).colour = s.colour := rfl
@[simp] theorem State.setTile_link (s : State) (t : Tile) (x : TileState) : (State.setTile s t x).link = s.link := rfl
@[simp] theorem State.setTile_dsp (s : State) (t : Tile) (x : TileState) : (State.setTile s t x).dsp = s.dsp := rfl
@[simp] theorem State.setTile_dispFlip (s : State) (t : Tile) (x : TileState) : (State.setTile s t x).dispFlip = s.dispFlip := rfl
@[simp] theorem State.setTile_dispMode (s : State) (t : Tile) (x : TileState) : (State.setTile s t x).dispMode = s.dispMode := rfl
@[simp] theorem State.setTile_dispOff (s : State) (t : Tile) (x : TileState) : (State.setTile s t x).dispOff = s.dispOff := rfl
@[simp] theorem State.setTile_dispLast (s : State) (t : Tile) (x : TileState) : (State.setTile s t x).dispLast = s.dispLast := rfl
@[simp] theorem State.setTile_flash (s : State) (t : Tile) (x : TileState) : (State.setTile s t x).flash = s.flash := rfl
@[simp] theorem State.setTile_tallyMod (s : State) (t : Tile) (x : TileState) : (State.setTile s t x).tallyMod = s.tallyMod := rfl
@[simp] theorem State.setTile_tallyCol (s : State) (t : Tile) (x : TileState) : (State.setTile s t x).tallyCol = s.tallyCol := rfl
@[simp] theorem State.setTile_tallyRest (s : State) (t : Tile) (x : TileState) : (State.setTile s t x).tallyRest = s.tallyRest := rfl
@[simp] theorem State.setTile_free (s : State) (t : Tile) (x : TileState) : (State.setTile s t x).free = s.free := rfl
@[simp] theorem State.setTile_pending (s : State) (t : Tile) (x : TileState) : (State.setTile s t x).pending = s.pending := rfl
@[simp] theorem State.updTile_part (s : State) (t : Tile) (f : TileState → TileState) : (State.updTile s t f).part = s.part := rfl
@[simp] theorem State.updTile_time (s : State) (t : Tile) (f : TileState → TileState) : (State.updTile s t f).time = s.time := rfl
@[simp] theorem State.updTile_linkUp (s : State) (t : Tile) (f : TileState → TileState) : (State.updTile s t f).linkUp = s.linkUp := rfl
@[simp] theorem State.updTile_hops (s : State) (t : Tile) (f : TileState → TileState) : (State.updTile s t f).hops = s.hops := rfl
@[simp] theorem State.updTile_lead (s : State) (t : Tile) (f : TileState → TileState) : (State.updTile s t f).lead = s.lead := rfl
@[simp] theorem State.updTile_qen (s : State) (t : Tile) (f : TileState → TileState) : (State.updTile s t f).qen = s.qen := rfl
@[simp] theorem State.updTile_evh (s : State) (t : Tile) (f : TileState → TileState) : (State.updTile s t f).evh = s.evh := rfl
@[simp] theorem State.updTile_host (s : State) (t : Tile) (f : TileState → TileState) : (State.updTile s t f).host = s.host := rfl
@[simp] theorem State.updTile_busRead (s : State) (t : Tile) (f : TileState → TileState) : (State.updTile s t f).busRead = s.busRead := rfl
@[simp] theorem State.updTile_smbNack (s : State) (t : Tile) (f : TileState → TileState) : (State.updTile s t f).smbNack = s.smbNack := rfl
@[simp] theorem State.updTile_smbAlert (s : State) (t : Tile) (f : TileState → TileState) : (State.updTile s t f).smbAlert = s.smbAlert := rfl
@[simp] theorem State.updTile_extest (s : State) (t : Tile) (f : TileState → TileState) : (State.updTile s t f).extest = s.extest := rfl
@[simp] theorem State.updTile_job (s : State) (t : Tile) (f : TileState → TileState) : (State.updTile s t f).job = s.job := rfl
@[simp] theorem State.updTile_stores (s : State) (t : Tile) (f : TileState → TileState) : (State.updTile s t f).stores = s.stores := rfl
@[simp] theorem State.updTile_marks (s : State) (t : Tile) (f : TileState → TileState) : (State.updTile s t f).marks = s.marks := rfl
@[simp] theorem State.updTile_motion (s : State) (t : Tile) (f : TileState → TileState) : (State.updTile s t f).motion = s.motion := rfl
@[simp] theorem State.updTile_colour (s : State) (t : Tile) (f : TileState → TileState) : (State.updTile s t f).colour = s.colour := rfl
@[simp] theorem State.updTile_link (s : State) (t : Tile) (f : TileState → TileState) : (State.updTile s t f).link = s.link := rfl
@[simp] theorem State.updTile_dsp (s : State) (t : Tile) (f : TileState → TileState) : (State.updTile s t f).dsp = s.dsp := rfl
@[simp] theorem State.updTile_dispFlip (s : State) (t : Tile) (f : TileState → TileState) : (State.updTile s t f).dispFlip = s.dispFlip := rfl
@[simp] theorem State.updTile_dispMode (s : State) (t : Tile) (f : TileState → TileState) : (State.updTile s t f).dispMode = s.dispMode := rfl
@[simp] theorem State.updTile_dispOff (s : State) (t : Tile) (f : TileState → TileState) : (State.updTile s t f).dispOff = s.dispOff := rfl
@[simp] theorem State.updTile_dispLast (s : State) (t : Tile) (f : TileState → TileState) : (State.updTile s t f).dispLast = s.dispLast := rfl
@[simp] theorem State.updTile_flash (s : State) (t : Tile) (f : TileState → TileState) : (State.updTile s t f).flash = s.flash := rfl
@[simp] theorem State.updTile_tallyMod (s : State) (t : Tile) (f : TileState → TileState) : (State.updTile s t f).tallyMod = s.tallyMod := rfl
@[simp] theorem State.updTile_tallyCol (s : State) (t : Tile) (f : TileState → TileState) : (State.updTile s t f).tallyCol = s.tallyCol := rfl
@[simp] theorem State.updTile_tallyRest (s : State) (t : Tile) (f : TileState → TileState) : (State.updTile s t f).tallyRest = s.tallyRest := rfl
@[simp] theorem State.updTile_free (s : State) (t : Tile) (f : TileState → TileState) : (State.updTile s t f).free = s.free := rfl
@[simp] theorem State.updTile_pending (s : State) (t : Tile) (f : TileState → TileState) : (State.updTile s t f).pending = s.pending := rfl
@[simp] theorem State.updTileN_part (s : State) (n : Nat) (f : TileState → TileState) : (State.updTileN s n f).part = s.part := rfl
@[simp] theorem State.updTileN_time (s : State) (n : Nat) (f : TileState → TileState) : (State.updTileN s n f).time = s.time := rfl
@[simp] theorem State.updTileN_linkUp (s : State) (n : Nat) (f : TileState → TileState) : (State.updTileN s n f).linkUp = s.linkUp := rfl
@[simp] theorem State.updTileN_hops (s : State) (n : Nat) (f : TileState → TileState) : (State.updTileN s n f).hops = s.hops := rfl
@[simp] theorem State.updTileN_lead (s : State) (n : Nat) (f : TileState → TileState) : (State.updTileN s n f).lead = s.lead := rfl
@[simp] theorem State.updTileN_qen (s : State) (n : Nat) (f : TileState → TileState) : (State.updTileN s n f).qen = s.qen := rfl
@[simp] theorem State.updTileN_evh (s : State) (n : Nat) (f : TileState → TileState) : (State.updTileN s n f).evh = s.evh := rfl
@[simp] theorem State.updTileN_host (s : State) (n : Nat) (f : TileState → TileState) : (State.updTileN s n f).host = s.host := rfl
@[simp] theorem State.updTileN_busRead (s : State) (n : Nat) (f : TileState → TileState) : (State.updTileN s n f).busRead = s.busRead := rfl
@[simp] theorem State.updTileN_smbNack (s : State) (n : Nat) (f : TileState → TileState) : (State.updTileN s n f).smbNack = s.smbNack := rfl
@[simp] theorem State.updTileN_smbAlert (s : State) (n : Nat) (f : TileState → TileState) : (State.updTileN s n f).smbAlert = s.smbAlert := rfl
@[simp] theorem State.updTileN_extest (s : State) (n : Nat) (f : TileState → TileState) : (State.updTileN s n f).extest = s.extest := rfl
@[simp] theorem State.updTileN_job (s : State) (n : Nat) (f : TileState → TileState) : (State.updTileN s n f).job = s.job := rfl
@[simp] theorem State.updTileN_stores (s : State) (n : Nat) (f : TileState → TileState) : (State.updTileN s n f).stores = s.stores := rfl
@[simp] theorem State.updTileN_marks (s : State) (n : Nat) (f : TileState → TileState) : (State.updTileN s n f).marks = s.marks := rfl
@[simp] theorem State.updTileN_motion (s : State) (n : Nat) (f : TileState → TileState) : (State.updTileN s n f).motion = s.motion := rfl
@[simp] theorem State.updTileN_colour (s : State) (n : Nat) (f : TileState → TileState) : (State.updTileN s n f).colour = s.colour := rfl
@[simp] theorem State.updTileN_link (s : State) (n : Nat) (f : TileState → TileState) : (State.updTileN s n f).link = s.link := rfl
@[simp] theorem State.updTileN_dsp (s : State) (n : Nat) (f : TileState → TileState) : (State.updTileN s n f).dsp = s.dsp := rfl
@[simp] theorem State.updTileN_dispFlip (s : State) (n : Nat) (f : TileState → TileState) : (State.updTileN s n f).dispFlip = s.dispFlip := rfl
@[simp] theorem State.updTileN_dispMode (s : State) (n : Nat) (f : TileState → TileState) : (State.updTileN s n f).dispMode = s.dispMode := rfl
@[simp] theorem State.updTileN_dispOff (s : State) (n : Nat) (f : TileState → TileState) : (State.updTileN s n f).dispOff = s.dispOff := rfl
@[simp] theorem State.updTileN_dispLast (s : State) (n : Nat) (f : TileState → TileState) : (State.updTileN s n f).dispLast = s.dispLast := rfl
@[simp] theorem State.updTileN_flash (s : State) (n : Nat) (f : TileState → TileState) : (State.updTileN s n f).flash = s.flash := rfl
@[simp] theorem State.updTileN_tallyMod (s : State) (n : Nat) (f : TileState → TileState) : (State.updTileN s n f).tallyMod = s.tallyMod := rfl
@[simp] theorem State.updTileN_tallyCol (s : State) (n : Nat) (f : TileState → TileState) : (State.updTileN s n f).tallyCol = s.tallyCol := rfl
@[simp] theorem State.updTileN_tallyRest (s : State) (n : Nat) (f : TileState → TileState) : (State.updTileN s n f).tallyRest = s.tallyRest := rfl
@[simp] theorem State.updTileN_free (s : State) (n : Nat) (f : TileState → TileState) : (State.updTileN s n f).free = s.free := rfl
@[simp] theorem State.updTileN_pending (s : State) (n : Nat) (f : TileState → TileState) : (State.updTileN s n f).pending = s.pending := rfl
@[simp] theorem State.addTime_part (s : State) (n : Nat) : (State.addTime s n).part = s.part := rfl
@[simp] theorem State.addTime_tiles (s : State) (n : Nat) : (State.addTime s n).tiles = s.tiles := rfl
@[simp] theorem State.addTime_linkUp (s : State) (n : Nat) : (State.addTime s n).linkUp = s.linkUp := rfl
@[simp] theorem State.addTime_hops (s : State) (n : Nat) : (State.addTime s n).hops = s.hops := rfl
@[simp] theorem State.addTime_lead (s : State) (n : Nat) : (State.addTime s n).lead = s.lead := rfl
@[simp] theorem State.addTime_qen (s : State) (n : Nat) : (State.addTime s n).qen = s.qen := rfl
@[simp] theorem State.addTime_evh (s : State) (n : Nat) : (State.addTime s n).evh = s.evh := rfl
@[simp] theorem State.addTime_host (s : State) (n : Nat) : (State.addTime s n).host = s.host := rfl
@[simp] theorem State.addTime_busRead (s : State) (n : Nat) : (State.addTime s n).busRead = s.busRead := rfl
@[simp] theorem State.addTime_smbNack (s : State) (n : Nat) : (State.addTime s n).smbNack = s.smbNack := rfl
@[simp] theorem State.addTime_smbAlert (s : State) (n : Nat) : (State.addTime s n).smbAlert = s.smbAlert := rfl
@[simp] theorem State.addTime_extest (s : State) (n : Nat) : (State.addTime s n).extest = s.extest := rfl
@[simp] theorem State.addTime_job (s : State) (n : Nat) : (State.addTime s n).job = s.job := rfl
@[simp] theorem State.addTime_stores (s : State) (n : Nat) : (State.addTime s n).stores = s.stores := rfl
@[simp] theorem State.addTime_marks (s : State) (n : Nat) : (State.addTime s n).marks = s.marks := rfl
@[simp] theorem State.addTime_motion (s : State) (n : Nat) : (State.addTime s n).motion = s.motion := rfl
@[simp] theorem State.addTime_colour (s : State) (n : Nat) : (State.addTime s n).colour = s.colour := rfl
@[simp] theorem State.addTime_link (s : State) (n : Nat) : (State.addTime s n).link = s.link := rfl
@[simp] theorem State.addTime_dsp (s : State) (n : Nat) : (State.addTime s n).dsp = s.dsp := rfl
@[simp] theorem State.addTime_dispFlip (s : State) (n : Nat) : (State.addTime s n).dispFlip = s.dispFlip := rfl
@[simp] theorem State.addTime_dispMode (s : State) (n : Nat) : (State.addTime s n).dispMode = s.dispMode := rfl
@[simp] theorem State.addTime_dispOff (s : State) (n : Nat) : (State.addTime s n).dispOff = s.dispOff := rfl
@[simp] theorem State.addTime_dispLast (s : State) (n : Nat) : (State.addTime s n).dispLast = s.dispLast := rfl
@[simp] theorem State.addTime_flash (s : State) (n : Nat) : (State.addTime s n).flash = s.flash := rfl
@[simp] theorem State.addTime_tallyMod (s : State) (n : Nat) : (State.addTime s n).tallyMod = s.tallyMod := rfl
@[simp] theorem State.addTime_tallyCol (s : State) (n : Nat) : (State.addTime s n).tallyCol = s.tallyCol := rfl
@[simp] theorem State.addTime_tallyRest (s : State) (n : Nat) : (State.addTime s n).tallyRest = s.tallyRest := rfl
@[simp] theorem State.addTime_free (s : State) (n : Nat) : (State.addTime s n).free = s.free := rfl
@[simp] theorem State.addTime_pending (s : State) (n : Nat) : (State.addTime s n).pending = s.pending := rfl
@[simp] theorem State.nextFree_part (s : State) : (State.nextFree s).part = s.part := rfl
@[simp] theorem State.nextFree_time (s : State) : (State.nextFree s).time = s.time := rfl
@[simp] theorem State.nextFree_tiles (s : State) : (State.nextFree s).tiles = s.tiles := rfl
@[simp] theorem State.nextFree_linkUp (s : State) : (State.nextFree s).linkUp = s.linkUp := rfl
@[simp] theorem State.nextFree_hops (s : State) : (State.nextFree s).hops = s.hops := rfl
@[simp] theorem State.nextFree_lead (s : State) : (State.nextFree s).lead = s.lead := rfl
@[simp] theorem State.nextFree_qen (s : State) : (State.nextFree s).qen = s.qen := rfl
@[simp] theorem State.nextFree_evh (s : State) : (State.nextFree s).evh = s.evh := rfl
@[simp] theorem State.nextFree_host (s : State) : (State.nextFree s).host = s.host := rfl
@[simp] theorem State.nextFree_busRead (s : State) : (State.nextFree s).busRead = s.busRead := rfl
@[simp] theorem State.nextFree_smbNack (s : State) : (State.nextFree s).smbNack = s.smbNack := rfl
@[simp] theorem State.nextFree_smbAlert (s : State) : (State.nextFree s).smbAlert = s.smbAlert := rfl
@[simp] theorem State.nextFree_extest (s : State) : (State.nextFree s).extest = s.extest := rfl
@[simp] theorem State.nextFree_job (s : State) : (State.nextFree s).job = s.job := rfl
@[simp] theorem State.nextFree_stores (s : State) : (State.nextFree s).stores = s.stores := rfl
@[simp] theorem State.nextFree_marks (s : State) : (State.nextFree s).marks = s.marks := rfl
@[simp] theorem State.nextFree_motion (s : State) : (State.nextFree s).motion = s.motion := rfl
@[simp] theorem State.nextFree_colour (s : State) : (State.nextFree s).colour = s.colour := rfl
@[simp] theorem State.nextFree_link (s : State) : (State.nextFree s).link = s.link := rfl
@[simp] theorem State.nextFree_dsp (s : State) : (State.nextFree s).dsp = s.dsp := rfl
@[simp] theorem State.nextFree_dispFlip (s : State) : (State.nextFree s).dispFlip = s.dispFlip := rfl
@[simp] theorem State.nextFree_dispMode (s : State) : (State.nextFree s).dispMode = s.dispMode := rfl
@[simp] theorem State.nextFree_dispOff (s : State) : (State.nextFree s).dispOff = s.dispOff := rfl
@[simp] theorem State.nextFree_dispLast (s : State) : (State.nextFree s).dispLast = s.dispLast := rfl
@[simp] theorem State.nextFree_flash (s : State) : (State.nextFree s).flash = s.flash := rfl
@[simp] theorem State.nextFree_tallyMod (s : State) : (State.nextFree s).tallyMod = s.tallyMod := rfl
@[simp] theorem State.nextFree_tallyCol (s : State) : (State.nextFree s).tallyCol = s.tallyCol := rfl
@[simp] theorem State.nextFree_tallyRest (s : State) : (State.nextFree s).tallyRest = s.tallyRest := rfl
@[simp] theorem State.nextFree_pending (s : State) : (State.nextFree s).pending = s.pending := rfl
@[simp] theorem State.hostWrite_part (s : State) (a : Nat) (bs : List Byte) : (State.hostWrite s a bs).part = s.part := rfl
@[simp] theorem State.hostWrite_time (s : State) (a : Nat) (bs : List Byte) : (State.hostWrite s a bs).time = s.time := rfl
@[simp] theorem State.hostWrite_tiles (s : State) (a : Nat) (bs : List Byte) : (State.hostWrite s a bs).tiles = s.tiles := rfl
@[simp] theorem State.hostWrite_linkUp (s : State) (a : Nat) (bs : List Byte) : (State.hostWrite s a bs).linkUp = s.linkUp := rfl
@[simp] theorem State.hostWrite_hops (s : State) (a : Nat) (bs : List Byte) : (State.hostWrite s a bs).hops = s.hops := rfl
@[simp] theorem State.hostWrite_lead (s : State) (a : Nat) (bs : List Byte) : (State.hostWrite s a bs).lead = s.lead := rfl
@[simp] theorem State.hostWrite_qen (s : State) (a : Nat) (bs : List Byte) : (State.hostWrite s a bs).qen = s.qen := rfl
@[simp] theorem State.hostWrite_evh (s : State) (a : Nat) (bs : List Byte) : (State.hostWrite s a bs).evh = s.evh := rfl
@[simp] theorem State.hostWrite_busRead (s : State) (a : Nat) (bs : List Byte) : (State.hostWrite s a bs).busRead = s.busRead := rfl
@[simp] theorem State.hostWrite_smbNack (s : State) (a : Nat) (bs : List Byte) : (State.hostWrite s a bs).smbNack = s.smbNack := rfl
@[simp] theorem State.hostWrite_smbAlert (s : State) (a : Nat) (bs : List Byte) : (State.hostWrite s a bs).smbAlert = s.smbAlert := rfl
@[simp] theorem State.hostWrite_extest (s : State) (a : Nat) (bs : List Byte) : (State.hostWrite s a bs).extest = s.extest := rfl
@[simp] theorem State.hostWrite_job (s : State) (a : Nat) (bs : List Byte) : (State.hostWrite s a bs).job = s.job := rfl
@[simp] theorem State.hostWrite_stores (s : State) (a : Nat) (bs : List Byte) : (State.hostWrite s a bs).stores = s.stores := rfl
@[simp] theorem State.hostWrite_marks (s : State) (a : Nat) (bs : List Byte) : (State.hostWrite s a bs).marks = s.marks := rfl
@[simp] theorem State.hostWrite_motion (s : State) (a : Nat) (bs : List Byte) : (State.hostWrite s a bs).motion = s.motion := rfl
@[simp] theorem State.hostWrite_colour (s : State) (a : Nat) (bs : List Byte) : (State.hostWrite s a bs).colour = s.colour := rfl
@[simp] theorem State.hostWrite_link (s : State) (a : Nat) (bs : List Byte) : (State.hostWrite s a bs).link = s.link := rfl
@[simp] theorem State.hostWrite_dsp (s : State) (a : Nat) (bs : List Byte) : (State.hostWrite s a bs).dsp = s.dsp := rfl
@[simp] theorem State.hostWrite_dispFlip (s : State) (a : Nat) (bs : List Byte) : (State.hostWrite s a bs).dispFlip = s.dispFlip := rfl
@[simp] theorem State.hostWrite_dispMode (s : State) (a : Nat) (bs : List Byte) : (State.hostWrite s a bs).dispMode = s.dispMode := rfl
@[simp] theorem State.hostWrite_dispOff (s : State) (a : Nat) (bs : List Byte) : (State.hostWrite s a bs).dispOff = s.dispOff := rfl
@[simp] theorem State.hostWrite_dispLast (s : State) (a : Nat) (bs : List Byte) : (State.hostWrite s a bs).dispLast = s.dispLast := rfl
@[simp] theorem State.hostWrite_flash (s : State) (a : Nat) (bs : List Byte) : (State.hostWrite s a bs).flash = s.flash := rfl
@[simp] theorem State.hostWrite_tallyMod (s : State) (a : Nat) (bs : List Byte) : (State.hostWrite s a bs).tallyMod = s.tallyMod := rfl
@[simp] theorem State.hostWrite_tallyCol (s : State) (a : Nat) (bs : List Byte) : (State.hostWrite s a bs).tallyCol = s.tallyCol := rfl
@[simp] theorem State.hostWrite_tallyRest (s : State) (a : Nat) (bs : List Byte) : (State.hostWrite s a bs).tallyRest = s.tallyRest := rfl
@[simp] theorem State.hostWrite_free (s : State) (a : Nat) (bs : List Byte) : (State.hostWrite s a bs).free = s.free := rfl
@[simp] theorem State.hostWrite_pending (s : State) (a : Nat) (bs : List Byte) : (State.hostWrite s a bs).pending = s.pending := rfl
@[simp] theorem State.putItem_part (s : State) (pid : Nat) (v : Int) : (State.putItem s pid v).part = s.part := rfl
@[simp] theorem State.putItem_time (s : State) (pid : Nat) (v : Int) : (State.putItem s pid v).time = s.time := rfl
@[simp] theorem State.putItem_tiles (s : State) (pid : Nat) (v : Int) : (State.putItem s pid v).tiles = s.tiles := rfl
@[simp] theorem State.putItem_linkUp (s : State) (pid : Nat) (v : Int) : (State.putItem s pid v).linkUp = s.linkUp := rfl
@[simp] theorem State.putItem_hops (s : State) (pid : Nat) (v : Int) : (State.putItem s pid v).hops = s.hops := rfl
@[simp] theorem State.putItem_lead (s : State) (pid : Nat) (v : Int) : (State.putItem s pid v).lead = s.lead := rfl
@[simp] theorem State.putItem_qen (s : State) (pid : Nat) (v : Int) : (State.putItem s pid v).qen = s.qen := rfl
@[simp] theorem State.putItem_evh (s : State) (pid : Nat) (v : Int) : (State.putItem s pid v).evh = s.evh := rfl
@[simp] theorem State.putItem_host (s : State) (pid : Nat) (v : Int) : (State.putItem s pid v).host = s.host := rfl
@[simp] theorem State.putItem_busRead (s : State) (pid : Nat) (v : Int) : (State.putItem s pid v).busRead = s.busRead := rfl
@[simp] theorem State.putItem_smbNack (s : State) (pid : Nat) (v : Int) : (State.putItem s pid v).smbNack = s.smbNack := rfl
@[simp] theorem State.putItem_smbAlert (s : State) (pid : Nat) (v : Int) : (State.putItem s pid v).smbAlert = s.smbAlert := rfl
@[simp] theorem State.putItem_extest (s : State) (pid : Nat) (v : Int) : (State.putItem s pid v).extest = s.extest := rfl
@[simp] theorem State.putItem_stores (s : State) (pid : Nat) (v : Int) : (State.putItem s pid v).stores = s.stores := rfl
@[simp] theorem State.putItem_marks (s : State) (pid : Nat) (v : Int) : (State.putItem s pid v).marks = s.marks := rfl
@[simp] theorem State.putItem_motion (s : State) (pid : Nat) (v : Int) : (State.putItem s pid v).motion = s.motion := rfl
@[simp] theorem State.putItem_colour (s : State) (pid : Nat) (v : Int) : (State.putItem s pid v).colour = s.colour := rfl
@[simp] theorem State.putItem_link (s : State) (pid : Nat) (v : Int) : (State.putItem s pid v).link = s.link := rfl
@[simp] theorem State.putItem_dsp (s : State) (pid : Nat) (v : Int) : (State.putItem s pid v).dsp = s.dsp := rfl
@[simp] theorem State.putItem_dispFlip (s : State) (pid : Nat) (v : Int) : (State.putItem s pid v).dispFlip = s.dispFlip := rfl
@[simp] theorem State.putItem_dispMode (s : State) (pid : Nat) (v : Int) : (State.putItem s pid v).dispMode = s.dispMode := rfl
@[simp] theorem State.putItem_dispOff (s : State) (pid : Nat) (v : Int) : (State.putItem s pid v).dispOff = s.dispOff := rfl
@[simp] theorem State.putItem_dispLast (s : State) (pid : Nat) (v : Int) : (State.putItem s pid v).dispLast = s.dispLast := rfl
@[simp] theorem State.putItem_flash (s : State) (pid : Nat) (v : Int) : (State.putItem s pid v).flash = s.flash := rfl
@[simp] theorem State.putItem_tallyMod (s : State) (pid : Nat) (v : Int) : (State.putItem s pid v).tallyMod = s.tallyMod := rfl
@[simp] theorem State.putItem_tallyCol (s : State) (pid : Nat) (v : Int) : (State.putItem s pid v).tallyCol = s.tallyCol := rfl
@[simp] theorem State.putItem_tallyRest (s : State) (pid : Nat) (v : Int) : (State.putItem s pid v).tallyRest = s.tallyRest := rfl
@[simp] theorem State.putItem_free (s : State) (pid : Nat) (v : Int) : (State.putItem s pid v).free = s.free := rfl
@[simp] theorem State.putItem_pending (s : State) (pid : Nat) (v : Int) : (State.putItem s pid v).pending = s.pending := rfl
@[simp] theorem State.setPair_part (s : State) (q : Nat) (x : Option QueuePair) : (State.setPair s q x).part = s.part := rfl
@[simp] theorem State.setPair_time (s : State) (q : Nat) (x : Option QueuePair) : (State.setPair s q x).time = s.time := rfl
@[simp] theorem State.setPair_tiles (s : State) (q : Nat) (x : Option QueuePair) : (State.setPair s q x).tiles = s.tiles := rfl
@[simp] theorem State.setPair_linkUp (s : State) (q : Nat) (x : Option QueuePair) : (State.setPair s q x).linkUp = s.linkUp := rfl
@[simp] theorem State.setPair_hops (s : State) (q : Nat) (x : Option QueuePair) : (State.setPair s q x).hops = s.hops := rfl
@[simp] theorem State.setPair_lead (s : State) (q : Nat) (x : Option QueuePair) : (State.setPair s q x).lead = s.lead := rfl
@[simp] theorem State.setPair_evh (s : State) (q : Nat) (x : Option QueuePair) : (State.setPair s q x).evh = s.evh := rfl
@[simp] theorem State.setPair_host (s : State) (q : Nat) (x : Option QueuePair) : (State.setPair s q x).host = s.host := rfl
@[simp] theorem State.setPair_busRead (s : State) (q : Nat) (x : Option QueuePair) : (State.setPair s q x).busRead = s.busRead := rfl
@[simp] theorem State.setPair_smbNack (s : State) (q : Nat) (x : Option QueuePair) : (State.setPair s q x).smbNack = s.smbNack := rfl
@[simp] theorem State.setPair_smbAlert (s : State) (q : Nat) (x : Option QueuePair) : (State.setPair s q x).smbAlert = s.smbAlert := rfl
@[simp] theorem State.setPair_extest (s : State) (q : Nat) (x : Option QueuePair) : (State.setPair s q x).extest = s.extest := rfl
@[simp] theorem State.setPair_job (s : State) (q : Nat) (x : Option QueuePair) : (State.setPair s q x).job = s.job := rfl
@[simp] theorem State.setPair_stores (s : State) (q : Nat) (x : Option QueuePair) : (State.setPair s q x).stores = s.stores := rfl
@[simp] theorem State.setPair_marks (s : State) (q : Nat) (x : Option QueuePair) : (State.setPair s q x).marks = s.marks := rfl
@[simp] theorem State.setPair_motion (s : State) (q : Nat) (x : Option QueuePair) : (State.setPair s q x).motion = s.motion := rfl
@[simp] theorem State.setPair_colour (s : State) (q : Nat) (x : Option QueuePair) : (State.setPair s q x).colour = s.colour := rfl
@[simp] theorem State.setPair_link (s : State) (q : Nat) (x : Option QueuePair) : (State.setPair s q x).link = s.link := rfl
@[simp] theorem State.setPair_dsp (s : State) (q : Nat) (x : Option QueuePair) : (State.setPair s q x).dsp = s.dsp := rfl
@[simp] theorem State.setPair_dispFlip (s : State) (q : Nat) (x : Option QueuePair) : (State.setPair s q x).dispFlip = s.dispFlip := rfl
@[simp] theorem State.setPair_dispMode (s : State) (q : Nat) (x : Option QueuePair) : (State.setPair s q x).dispMode = s.dispMode := rfl
@[simp] theorem State.setPair_dispOff (s : State) (q : Nat) (x : Option QueuePair) : (State.setPair s q x).dispOff = s.dispOff := rfl
@[simp] theorem State.setPair_dispLast (s : State) (q : Nat) (x : Option QueuePair) : (State.setPair s q x).dispLast = s.dispLast := rfl
@[simp] theorem State.setPair_flash (s : State) (q : Nat) (x : Option QueuePair) : (State.setPair s q x).flash = s.flash := rfl
@[simp] theorem State.setPair_tallyMod (s : State) (q : Nat) (x : Option QueuePair) : (State.setPair s q x).tallyMod = s.tallyMod := rfl
@[simp] theorem State.setPair_tallyCol (s : State) (q : Nat) (x : Option QueuePair) : (State.setPair s q x).tallyCol = s.tallyCol := rfl
@[simp] theorem State.setPair_tallyRest (s : State) (q : Nat) (x : Option QueuePair) : (State.setPair s q x).tallyRest = s.tallyRest := rfl
@[simp] theorem State.setPair_free (s : State) (q : Nat) (x : Option QueuePair) : (State.setPair s q x).free = s.free := rfl
@[simp] theorem State.setPair_pending (s : State) (q : Nat) (x : Option QueuePair) : (State.setPair s q x).pending = s.pending := rfl
@[simp] theorem State.updPair_part (s : State) (q : Nat) (f : QueuePair → QueuePair) : (State.updPair s q f).part = s.part := rfl
@[simp] theorem State.updPair_time (s : State) (q : Nat) (f : QueuePair → QueuePair) : (State.updPair s q f).time = s.time := rfl
@[simp] theorem State.updPair_tiles (s : State) (q : Nat) (f : QueuePair → QueuePair) : (State.updPair s q f).tiles = s.tiles := rfl
@[simp] theorem State.updPair_linkUp (s : State) (q : Nat) (f : QueuePair → QueuePair) : (State.updPair s q f).linkUp = s.linkUp := rfl
@[simp] theorem State.updPair_hops (s : State) (q : Nat) (f : QueuePair → QueuePair) : (State.updPair s q f).hops = s.hops := rfl
@[simp] theorem State.updPair_lead (s : State) (q : Nat) (f : QueuePair → QueuePair) : (State.updPair s q f).lead = s.lead := rfl
@[simp] theorem State.updPair_evh (s : State) (q : Nat) (f : QueuePair → QueuePair) : (State.updPair s q f).evh = s.evh := rfl
@[simp] theorem State.updPair_host (s : State) (q : Nat) (f : QueuePair → QueuePair) : (State.updPair s q f).host = s.host := rfl
@[simp] theorem State.updPair_busRead (s : State) (q : Nat) (f : QueuePair → QueuePair) : (State.updPair s q f).busRead = s.busRead := rfl
@[simp] theorem State.updPair_smbNack (s : State) (q : Nat) (f : QueuePair → QueuePair) : (State.updPair s q f).smbNack = s.smbNack := rfl
@[simp] theorem State.updPair_smbAlert (s : State) (q : Nat) (f : QueuePair → QueuePair) : (State.updPair s q f).smbAlert = s.smbAlert := rfl
@[simp] theorem State.updPair_extest (s : State) (q : Nat) (f : QueuePair → QueuePair) : (State.updPair s q f).extest = s.extest := rfl
@[simp] theorem State.updPair_job (s : State) (q : Nat) (f : QueuePair → QueuePair) : (State.updPair s q f).job = s.job := rfl
@[simp] theorem State.updPair_stores (s : State) (q : Nat) (f : QueuePair → QueuePair) : (State.updPair s q f).stores = s.stores := rfl
@[simp] theorem State.updPair_marks (s : State) (q : Nat) (f : QueuePair → QueuePair) : (State.updPair s q f).marks = s.marks := rfl
@[simp] theorem State.updPair_motion (s : State) (q : Nat) (f : QueuePair → QueuePair) : (State.updPair s q f).motion = s.motion := rfl
@[simp] theorem State.updPair_colour (s : State) (q : Nat) (f : QueuePair → QueuePair) : (State.updPair s q f).colour = s.colour := rfl
@[simp] theorem State.updPair_link (s : State) (q : Nat) (f : QueuePair → QueuePair) : (State.updPair s q f).link = s.link := rfl
@[simp] theorem State.updPair_dsp (s : State) (q : Nat) (f : QueuePair → QueuePair) : (State.updPair s q f).dsp = s.dsp := rfl
@[simp] theorem State.updPair_dispFlip (s : State) (q : Nat) (f : QueuePair → QueuePair) : (State.updPair s q f).dispFlip = s.dispFlip := rfl
@[simp] theorem State.updPair_dispMode (s : State) (q : Nat) (f : QueuePair → QueuePair) : (State.updPair s q f).dispMode = s.dispMode := rfl
@[simp] theorem State.updPair_dispOff (s : State) (q : Nat) (f : QueuePair → QueuePair) : (State.updPair s q f).dispOff = s.dispOff := rfl
@[simp] theorem State.updPair_dispLast (s : State) (q : Nat) (f : QueuePair → QueuePair) : (State.updPair s q f).dispLast = s.dispLast := rfl
@[simp] theorem State.updPair_flash (s : State) (q : Nat) (f : QueuePair → QueuePair) : (State.updPair s q f).flash = s.flash := rfl
@[simp] theorem State.updPair_tallyMod (s : State) (q : Nat) (f : QueuePair → QueuePair) : (State.updPair s q f).tallyMod = s.tallyMod := rfl
@[simp] theorem State.updPair_tallyCol (s : State) (q : Nat) (f : QueuePair → QueuePair) : (State.updPair s q f).tallyCol = s.tallyCol := rfl
@[simp] theorem State.updPair_tallyRest (s : State) (q : Nat) (f : QueuePair → QueuePair) : (State.updPair s q f).tallyRest = s.tallyRest := rfl
@[simp] theorem State.updPair_free (s : State) (q : Nat) (f : QueuePair → QueuePair) : (State.updPair s q f).free = s.free := rfl
@[simp] theorem State.updPair_pending (s : State) (q : Nat) (f : QueuePair → QueuePair) : (State.updPair s q f).pending = s.pending := rfl
@[simp] theorem State.setSession_part (s : State) (n : Nat) (x : Option Session) : (State.setSession s n x).part = s.part := rfl
@[simp] theorem State.setSession_time (s : State) (n : Nat) (x : Option Session) : (State.setSession s n x).time = s.time := rfl
@[simp] theorem State.setSession_tiles (s : State) (n : Nat) (x : Option Session) : (State.setSession s n x).tiles = s.tiles := rfl
@[simp] theorem State.setSession_linkUp (s : State) (n : Nat) (x : Option Session) : (State.setSession s n x).linkUp = s.linkUp := rfl
@[simp] theorem State.setSession_hops (s : State) (n : Nat) (x : Option Session) : (State.setSession s n x).hops = s.hops := rfl
@[simp] theorem State.setSession_lead (s : State) (n : Nat) (x : Option Session) : (State.setSession s n x).lead = s.lead := rfl
@[simp] theorem State.setSession_evh (s : State) (n : Nat) (x : Option Session) : (State.setSession s n x).evh = s.evh := rfl
@[simp] theorem State.setSession_host (s : State) (n : Nat) (x : Option Session) : (State.setSession s n x).host = s.host := rfl
@[simp] theorem State.setSession_busRead (s : State) (n : Nat) (x : Option Session) : (State.setSession s n x).busRead = s.busRead := rfl
@[simp] theorem State.setSession_smbNack (s : State) (n : Nat) (x : Option Session) : (State.setSession s n x).smbNack = s.smbNack := rfl
@[simp] theorem State.setSession_smbAlert (s : State) (n : Nat) (x : Option Session) : (State.setSession s n x).smbAlert = s.smbAlert := rfl
@[simp] theorem State.setSession_extest (s : State) (n : Nat) (x : Option Session) : (State.setSession s n x).extest = s.extest := rfl
@[simp] theorem State.setSession_job (s : State) (n : Nat) (x : Option Session) : (State.setSession s n x).job = s.job := rfl
@[simp] theorem State.setSession_stores (s : State) (n : Nat) (x : Option Session) : (State.setSession s n x).stores = s.stores := rfl
@[simp] theorem State.setSession_marks (s : State) (n : Nat) (x : Option Session) : (State.setSession s n x).marks = s.marks := rfl
@[simp] theorem State.setSession_motion (s : State) (n : Nat) (x : Option Session) : (State.setSession s n x).motion = s.motion := rfl
@[simp] theorem State.setSession_colour (s : State) (n : Nat) (x : Option Session) : (State.setSession s n x).colour = s.colour := rfl
@[simp] theorem State.setSession_link (s : State) (n : Nat) (x : Option Session) : (State.setSession s n x).link = s.link := rfl
@[simp] theorem State.setSession_dsp (s : State) (n : Nat) (x : Option Session) : (State.setSession s n x).dsp = s.dsp := rfl
@[simp] theorem State.setSession_dispFlip (s : State) (n : Nat) (x : Option Session) : (State.setSession s n x).dispFlip = s.dispFlip := rfl
@[simp] theorem State.setSession_dispMode (s : State) (n : Nat) (x : Option Session) : (State.setSession s n x).dispMode = s.dispMode := rfl
@[simp] theorem State.setSession_dispOff (s : State) (n : Nat) (x : Option Session) : (State.setSession s n x).dispOff = s.dispOff := rfl
@[simp] theorem State.setSession_dispLast (s : State) (n : Nat) (x : Option Session) : (State.setSession s n x).dispLast = s.dispLast := rfl
@[simp] theorem State.setSession_flash (s : State) (n : Nat) (x : Option Session) : (State.setSession s n x).flash = s.flash := rfl
@[simp] theorem State.setSession_tallyMod (s : State) (n : Nat) (x : Option Session) : (State.setSession s n x).tallyMod = s.tallyMod := rfl
@[simp] theorem State.setSession_tallyCol (s : State) (n : Nat) (x : Option Session) : (State.setSession s n x).tallyCol = s.tallyCol := rfl
@[simp] theorem State.setSession_tallyRest (s : State) (n : Nat) (x : Option Session) : (State.setSession s n x).tallyRest = s.tallyRest := rfl
@[simp] theorem State.setSession_free (s : State) (n : Nat) (x : Option Session) : (State.setSession s n x).free = s.free := rfl
@[simp] theorem State.setSession_pending (s : State) (n : Nat) (x : Option Session) : (State.setSession s n x).pending = s.pending := rfl
@[simp] theorem State.setStore_part (s : State) (l : List StoreEntry) : (State.setStore s l).part = s.part := rfl
@[simp] theorem State.setStore_time (s : State) (l : List StoreEntry) : (State.setStore s l).time = s.time := rfl
@[simp] theorem State.setStore_tiles (s : State) (l : List StoreEntry) : (State.setStore s l).tiles = s.tiles := rfl
@[simp] theorem State.setStore_linkUp (s : State) (l : List StoreEntry) : (State.setStore s l).linkUp = s.linkUp := rfl
@[simp] theorem State.setStore_hops (s : State) (l : List StoreEntry) : (State.setStore s l).hops = s.hops := rfl
@[simp] theorem State.setStore_lead (s : State) (l : List StoreEntry) : (State.setStore s l).lead = s.lead := rfl
@[simp] theorem State.setStore_evh (s : State) (l : List StoreEntry) : (State.setStore s l).evh = s.evh := rfl
@[simp] theorem State.setStore_host (s : State) (l : List StoreEntry) : (State.setStore s l).host = s.host := rfl
@[simp] theorem State.setStore_busRead (s : State) (l : List StoreEntry) : (State.setStore s l).busRead = s.busRead := rfl
@[simp] theorem State.setStore_smbNack (s : State) (l : List StoreEntry) : (State.setStore s l).smbNack = s.smbNack := rfl
@[simp] theorem State.setStore_smbAlert (s : State) (l : List StoreEntry) : (State.setStore s l).smbAlert = s.smbAlert := rfl
@[simp] theorem State.setStore_extest (s : State) (l : List StoreEntry) : (State.setStore s l).extest = s.extest := rfl
@[simp] theorem State.setStore_job (s : State) (l : List StoreEntry) : (State.setStore s l).job = s.job := rfl
@[simp] theorem State.setStore_stores (s : State) (l : List StoreEntry) : (State.setStore s l).stores = s.stores := rfl
@[simp] theorem State.setStore_marks (s : State) (l : List StoreEntry) : (State.setStore s l).marks = s.marks := rfl
@[simp] theorem State.setStore_motion (s : State) (l : List StoreEntry) : (State.setStore s l).motion = s.motion := rfl
@[simp] theorem State.setStore_colour (s : State) (l : List StoreEntry) : (State.setStore s l).colour = s.colour := rfl
@[simp] theorem State.setStore_link (s : State) (l : List StoreEntry) : (State.setStore s l).link = s.link := rfl
@[simp] theorem State.setStore_dsp (s : State) (l : List StoreEntry) : (State.setStore s l).dsp = s.dsp := rfl
@[simp] theorem State.setStore_dispFlip (s : State) (l : List StoreEntry) : (State.setStore s l).dispFlip = s.dispFlip := rfl
@[simp] theorem State.setStore_dispMode (s : State) (l : List StoreEntry) : (State.setStore s l).dispMode = s.dispMode := rfl
@[simp] theorem State.setStore_dispOff (s : State) (l : List StoreEntry) : (State.setStore s l).dispOff = s.dispOff := rfl
@[simp] theorem State.setStore_dispLast (s : State) (l : List StoreEntry) : (State.setStore s l).dispLast = s.dispLast := rfl
@[simp] theorem State.setStore_flash (s : State) (l : List StoreEntry) : (State.setStore s l).flash = s.flash := rfl
@[simp] theorem State.setStore_tallyMod (s : State) (l : List StoreEntry) : (State.setStore s l).tallyMod = s.tallyMod := rfl
@[simp] theorem State.setStore_tallyCol (s : State) (l : List StoreEntry) : (State.setStore s l).tallyCol = s.tallyCol := rfl
@[simp] theorem State.setStore_tallyRest (s : State) (l : List StoreEntry) : (State.setStore s l).tallyRest = s.tallyRest := rfl
@[simp] theorem State.setStore_free (s : State) (l : List StoreEntry) : (State.setStore s l).free = s.free := rfl
@[simp] theorem State.setStore_pending (s : State) (l : List StoreEntry) : (State.setStore s l).pending = s.pending := rfl
@[simp] theorem State.updPort_part (s : State) (p : Nat) (f : Port → Port) : (State.updPort s p f).part = s.part := rfl
@[simp] theorem State.updPort_time (s : State) (p : Nat) (f : Port → Port) : (State.updPort s p f).time = s.time := rfl
@[simp] theorem State.updPort_tiles (s : State) (p : Nat) (f : Port → Port) : (State.updPort s p f).tiles = s.tiles := rfl
@[simp] theorem State.updPort_linkUp (s : State) (p : Nat) (f : Port → Port) : (State.updPort s p f).linkUp = s.linkUp := rfl
@[simp] theorem State.updPort_hops (s : State) (p : Nat) (f : Port → Port) : (State.updPort s p f).hops = s.hops := rfl
@[simp] theorem State.updPort_lead (s : State) (p : Nat) (f : Port → Port) : (State.updPort s p f).lead = s.lead := rfl
@[simp] theorem State.updPort_evh (s : State) (p : Nat) (f : Port → Port) : (State.updPort s p f).evh = s.evh := rfl
@[simp] theorem State.updPort_host (s : State) (p : Nat) (f : Port → Port) : (State.updPort s p f).host = s.host := rfl
@[simp] theorem State.updPort_busRead (s : State) (p : Nat) (f : Port → Port) : (State.updPort s p f).busRead = s.busRead := rfl
@[simp] theorem State.updPort_smbNack (s : State) (p : Nat) (f : Port → Port) : (State.updPort s p f).smbNack = s.smbNack := rfl
@[simp] theorem State.updPort_smbAlert (s : State) (p : Nat) (f : Port → Port) : (State.updPort s p f).smbAlert = s.smbAlert := rfl
@[simp] theorem State.updPort_extest (s : State) (p : Nat) (f : Port → Port) : (State.updPort s p f).extest = s.extest := rfl
@[simp] theorem State.updPort_job (s : State) (p : Nat) (f : Port → Port) : (State.updPort s p f).job = s.job := rfl
@[simp] theorem State.updPort_stores (s : State) (p : Nat) (f : Port → Port) : (State.updPort s p f).stores = s.stores := rfl
@[simp] theorem State.updPort_marks (s : State) (p : Nat) (f : Port → Port) : (State.updPort s p f).marks = s.marks := rfl
@[simp] theorem State.updPort_motion (s : State) (p : Nat) (f : Port → Port) : (State.updPort s p f).motion = s.motion := rfl
@[simp] theorem State.updPort_colour (s : State) (p : Nat) (f : Port → Port) : (State.updPort s p f).colour = s.colour := rfl
@[simp] theorem State.updPort_link (s : State) (p : Nat) (f : Port → Port) : (State.updPort s p f).link = s.link := rfl
@[simp] theorem State.updPort_dsp (s : State) (p : Nat) (f : Port → Port) : (State.updPort s p f).dsp = s.dsp := rfl
@[simp] theorem State.updPort_dispFlip (s : State) (p : Nat) (f : Port → Port) : (State.updPort s p f).dispFlip = s.dispFlip := rfl
@[simp] theorem State.updPort_dispMode (s : State) (p : Nat) (f : Port → Port) : (State.updPort s p f).dispMode = s.dispMode := rfl
@[simp] theorem State.updPort_dispOff (s : State) (p : Nat) (f : Port → Port) : (State.updPort s p f).dispOff = s.dispOff := rfl
@[simp] theorem State.updPort_dispLast (s : State) (p : Nat) (f : Port → Port) : (State.updPort s p f).dispLast = s.dispLast := rfl
@[simp] theorem State.updPort_flash (s : State) (p : Nat) (f : Port → Port) : (State.updPort s p f).flash = s.flash := rfl
@[simp] theorem State.updPort_tallyMod (s : State) (p : Nat) (f : Port → Port) : (State.updPort s p f).tallyMod = s.tallyMod := rfl
@[simp] theorem State.updPort_tallyCol (s : State) (p : Nat) (f : Port → Port) : (State.updPort s p f).tallyCol = s.tallyCol := rfl
@[simp] theorem State.updPort_tallyRest (s : State) (p : Nat) (f : Port → Port) : (State.updPort s p f).tallyRest = s.tallyRest := rfl
@[simp] theorem State.updPort_free (s : State) (p : Nat) (f : Port → Port) : (State.updPort s p f).free = s.free := rfl
@[simp] theorem State.updPort_pending (s : State) (p : Nat) (f : Port → Port) : (State.updPort s p f).pending = s.pending := rfl
@[simp] theorem State.updEntry_part (s : State) (seq : Nat) (f : StoreEntry → StoreEntry) : (State.updEntry s seq f).part = s.part := rfl
@[simp] theorem State.updEntry_time (s : State) (seq : Nat) (f : StoreEntry → StoreEntry) : (State.updEntry s seq f).time = s.time := rfl
@[simp] theorem State.updEntry_tiles (s : State) (seq : Nat) (f : StoreEntry → StoreEntry) : (State.updEntry s seq f).tiles = s.tiles := rfl
@[simp] theorem State.updEntry_linkUp (s : State) (seq : Nat) (f : StoreEntry → StoreEntry) : (State.updEntry s seq f).linkUp = s.linkUp := rfl
@[simp] theorem State.updEntry_hops (s : State) (seq : Nat) (f : StoreEntry → StoreEntry) : (State.updEntry s seq f).hops = s.hops := rfl
@[simp] theorem State.updEntry_lead (s : State) (seq : Nat) (f : StoreEntry → StoreEntry) : (State.updEntry s seq f).lead = s.lead := rfl
@[simp] theorem State.updEntry_evh (s : State) (seq : Nat) (f : StoreEntry → StoreEntry) : (State.updEntry s seq f).evh = s.evh := rfl
@[simp] theorem State.updEntry_host (s : State) (seq : Nat) (f : StoreEntry → StoreEntry) : (State.updEntry s seq f).host = s.host := rfl
@[simp] theorem State.updEntry_busRead (s : State) (seq : Nat) (f : StoreEntry → StoreEntry) : (State.updEntry s seq f).busRead = s.busRead := rfl
@[simp] theorem State.updEntry_smbNack (s : State) (seq : Nat) (f : StoreEntry → StoreEntry) : (State.updEntry s seq f).smbNack = s.smbNack := rfl
@[simp] theorem State.updEntry_smbAlert (s : State) (seq : Nat) (f : StoreEntry → StoreEntry) : (State.updEntry s seq f).smbAlert = s.smbAlert := rfl
@[simp] theorem State.updEntry_extest (s : State) (seq : Nat) (f : StoreEntry → StoreEntry) : (State.updEntry s seq f).extest = s.extest := rfl
@[simp] theorem State.updEntry_job (s : State) (seq : Nat) (f : StoreEntry → StoreEntry) : (State.updEntry s seq f).job = s.job := rfl
@[simp] theorem State.updEntry_stores (s : State) (seq : Nat) (f : StoreEntry → StoreEntry) : (State.updEntry s seq f).stores = s.stores := rfl
@[simp] theorem State.updEntry_marks (s : State) (seq : Nat) (f : StoreEntry → StoreEntry) : (State.updEntry s seq f).marks = s.marks := rfl
@[simp] theorem State.updEntry_motion (s : State) (seq : Nat) (f : StoreEntry → StoreEntry) : (State.updEntry s seq f).motion = s.motion := rfl
@[simp] theorem State.updEntry_colour (s : State) (seq : Nat) (f : StoreEntry → StoreEntry) : (State.updEntry s seq f).colour = s.colour := rfl
@[simp] theorem State.updEntry_link (s : State) (seq : Nat) (f : StoreEntry → StoreEntry) : (State.updEntry s seq f).link = s.link := rfl
@[simp] theorem State.updEntry_dsp (s : State) (seq : Nat) (f : StoreEntry → StoreEntry) : (State.updEntry s seq f).dsp = s.dsp := rfl
@[simp] theorem State.updEntry_dispFlip (s : State) (seq : Nat) (f : StoreEntry → StoreEntry) : (State.updEntry s seq f).dispFlip = s.dispFlip := rfl
@[simp] theorem State.updEntry_dispMode (s : State) (seq : Nat) (f : StoreEntry → StoreEntry) : (State.updEntry s seq f).dispMode = s.dispMode := rfl
@[simp] theorem State.updEntry_dispOff (s : State) (seq : Nat) (f : StoreEntry → StoreEntry) : (State.updEntry s seq f).dispOff = s.dispOff := rfl
@[simp] theorem State.updEntry_dispLast (s : State) (seq : Nat) (f : StoreEntry → StoreEntry) : (State.updEntry s seq f).dispLast = s.dispLast := rfl
@[simp] theorem State.updEntry_flash (s : State) (seq : Nat) (f : StoreEntry → StoreEntry) : (State.updEntry s seq f).flash = s.flash := rfl
@[simp] theorem State.updEntry_tallyMod (s : State) (seq : Nat) (f : StoreEntry → StoreEntry) : (State.updEntry s seq f).tallyMod = s.tallyMod := rfl
@[simp] theorem State.updEntry_tallyCol (s : State) (seq : Nat) (f : StoreEntry → StoreEntry) : (State.updEntry s seq f).tallyCol = s.tallyCol := rfl
@[simp] theorem State.updEntry_tallyRest (s : State) (seq : Nat) (f : StoreEntry → StoreEntry) : (State.updEntry s seq f).tallyRest = s.tallyRest := rfl
@[simp] theorem State.updEntry_free (s : State) (seq : Nat) (f : StoreEntry → StoreEntry) : (State.updEntry s seq f).free = s.free := rfl
@[simp] theorem State.updEntry_pending (s : State) (seq : Nat) (f : StoreEntry → StoreEntry) : (State.updEntry s seq f).pending = s.pending := rfl
@[simp] theorem State.park_part (s : State) (seq : Nat) (w : Wait) : (State.park s seq w).part = s.part := rfl
@[simp] theorem State.park_time (s : State) (seq : Nat) (w : Wait) : (State.park s seq w).time = s.time := rfl
@[simp] theorem State.park_tiles (s : State) (seq : Nat) (w : Wait) : (State.park s seq w).tiles = s.tiles := rfl
@[simp] theorem State.park_linkUp (s : State) (seq : Nat) (w : Wait) : (State.park s seq w).linkUp = s.linkUp := rfl
@[simp] theorem State.park_hops (s : State) (seq : Nat) (w : Wait) : (State.park s seq w).hops = s.hops := rfl
@[simp] theorem State.park_lead (s : State) (seq : Nat) (w : Wait) : (State.park s seq w).lead = s.lead := rfl
@[simp] theorem State.park_evh (s : State) (seq : Nat) (w : Wait) : (State.park s seq w).evh = s.evh := rfl
@[simp] theorem State.park_host (s : State) (seq : Nat) (w : Wait) : (State.park s seq w).host = s.host := rfl
@[simp] theorem State.park_busRead (s : State) (seq : Nat) (w : Wait) : (State.park s seq w).busRead = s.busRead := rfl
@[simp] theorem State.park_smbNack (s : State) (seq : Nat) (w : Wait) : (State.park s seq w).smbNack = s.smbNack := rfl
@[simp] theorem State.park_smbAlert (s : State) (seq : Nat) (w : Wait) : (State.park s seq w).smbAlert = s.smbAlert := rfl
@[simp] theorem State.park_extest (s : State) (seq : Nat) (w : Wait) : (State.park s seq w).extest = s.extest := rfl
@[simp] theorem State.park_job (s : State) (seq : Nat) (w : Wait) : (State.park s seq w).job = s.job := rfl
@[simp] theorem State.park_stores (s : State) (seq : Nat) (w : Wait) : (State.park s seq w).stores = s.stores := rfl
@[simp] theorem State.park_marks (s : State) (seq : Nat) (w : Wait) : (State.park s seq w).marks = s.marks := rfl
@[simp] theorem State.park_motion (s : State) (seq : Nat) (w : Wait) : (State.park s seq w).motion = s.motion := rfl
@[simp] theorem State.park_colour (s : State) (seq : Nat) (w : Wait) : (State.park s seq w).colour = s.colour := rfl
@[simp] theorem State.park_link (s : State) (seq : Nat) (w : Wait) : (State.park s seq w).link = s.link := rfl
@[simp] theorem State.park_dsp (s : State) (seq : Nat) (w : Wait) : (State.park s seq w).dsp = s.dsp := rfl
@[simp] theorem State.park_dispFlip (s : State) (seq : Nat) (w : Wait) : (State.park s seq w).dispFlip = s.dispFlip := rfl
@[simp] theorem State.park_dispMode (s : State) (seq : Nat) (w : Wait) : (State.park s seq w).dispMode = s.dispMode := rfl
@[simp] theorem State.park_dispOff (s : State) (seq : Nat) (w : Wait) : (State.park s seq w).dispOff = s.dispOff := rfl
@[simp] theorem State.park_dispLast (s : State) (seq : Nat) (w : Wait) : (State.park s seq w).dispLast = s.dispLast := rfl
@[simp] theorem State.park_flash (s : State) (seq : Nat) (w : Wait) : (State.park s seq w).flash = s.flash := rfl
@[simp] theorem State.park_tallyMod (s : State) (seq : Nat) (w : Wait) : (State.park s seq w).tallyMod = s.tallyMod := rfl
@[simp] theorem State.park_tallyCol (s : State) (seq : Nat) (w : Wait) : (State.park s seq w).tallyCol = s.tallyCol := rfl
@[simp] theorem State.park_tallyRest (s : State) (seq : Nat) (w : Wait) : (State.park s seq w).tallyRest = s.tallyRest := rfl
@[simp] theorem State.park_free (s : State) (seq : Nat) (w : Wait) : (State.park s seq w).free = s.free := rfl
@[simp] theorem State.park_pending (s : State) (seq : Nat) (w : Wait) : (State.park s seq w).pending = s.pending := rfl
@[simp] theorem State.run_part (s : State) (seq : Nat) (w : Wait) : (State.run s seq w).part = s.part := rfl
@[simp] theorem State.run_time (s : State) (seq : Nat) (w : Wait) : (State.run s seq w).time = s.time := rfl
@[simp] theorem State.run_tiles (s : State) (seq : Nat) (w : Wait) : (State.run s seq w).tiles = s.tiles := rfl
@[simp] theorem State.run_linkUp (s : State) (seq : Nat) (w : Wait) : (State.run s seq w).linkUp = s.linkUp := rfl
@[simp] theorem State.run_hops (s : State) (seq : Nat) (w : Wait) : (State.run s seq w).hops = s.hops := rfl
@[simp] theorem State.run_lead (s : State) (seq : Nat) (w : Wait) : (State.run s seq w).lead = s.lead := rfl
@[simp] theorem State.run_evh (s : State) (seq : Nat) (w : Wait) : (State.run s seq w).evh = s.evh := rfl
@[simp] theorem State.run_host (s : State) (seq : Nat) (w : Wait) : (State.run s seq w).host = s.host := rfl
@[simp] theorem State.run_busRead (s : State) (seq : Nat) (w : Wait) : (State.run s seq w).busRead = s.busRead := rfl
@[simp] theorem State.run_smbNack (s : State) (seq : Nat) (w : Wait) : (State.run s seq w).smbNack = s.smbNack := rfl
@[simp] theorem State.run_smbAlert (s : State) (seq : Nat) (w : Wait) : (State.run s seq w).smbAlert = s.smbAlert := rfl
@[simp] theorem State.run_extest (s : State) (seq : Nat) (w : Wait) : (State.run s seq w).extest = s.extest := rfl
@[simp] theorem State.run_job (s : State) (seq : Nat) (w : Wait) : (State.run s seq w).job = s.job := rfl
@[simp] theorem State.run_stores (s : State) (seq : Nat) (w : Wait) : (State.run s seq w).stores = s.stores := rfl
@[simp] theorem State.run_marks (s : State) (seq : Nat) (w : Wait) : (State.run s seq w).marks = s.marks := rfl
@[simp] theorem State.run_motion (s : State) (seq : Nat) (w : Wait) : (State.run s seq w).motion = s.motion := rfl
@[simp] theorem State.run_colour (s : State) (seq : Nat) (w : Wait) : (State.run s seq w).colour = s.colour := rfl
@[simp] theorem State.run_link (s : State) (seq : Nat) (w : Wait) : (State.run s seq w).link = s.link := rfl
@[simp] theorem State.run_dsp (s : State) (seq : Nat) (w : Wait) : (State.run s seq w).dsp = s.dsp := rfl
@[simp] theorem State.run_dispFlip (s : State) (seq : Nat) (w : Wait) : (State.run s seq w).dispFlip = s.dispFlip := rfl
@[simp] theorem State.run_dispMode (s : State) (seq : Nat) (w : Wait) : (State.run s seq w).dispMode = s.dispMode := rfl
@[simp] theorem State.run_dispOff (s : State) (seq : Nat) (w : Wait) : (State.run s seq w).dispOff = s.dispOff := rfl
@[simp] theorem State.run_dispLast (s : State) (seq : Nat) (w : Wait) : (State.run s seq w).dispLast = s.dispLast := rfl
@[simp] theorem State.run_flash (s : State) (seq : Nat) (w : Wait) : (State.run s seq w).flash = s.flash := rfl
@[simp] theorem State.run_tallyMod (s : State) (seq : Nat) (w : Wait) : (State.run s seq w).tallyMod = s.tallyMod := rfl
@[simp] theorem State.run_tallyCol (s : State) (seq : Nat) (w : Wait) : (State.run s seq w).tallyCol = s.tallyCol := rfl
@[simp] theorem State.run_tallyRest (s : State) (seq : Nat) (w : Wait) : (State.run s seq w).tallyRest = s.tallyRest := rfl
@[simp] theorem State.run_free (s : State) (seq : Nat) (w : Wait) : (State.run s seq w).free = s.free := rfl
@[simp] theorem State.run_pending (s : State) (seq : Nat) (w : Wait) : (State.run s seq w).pending = s.pending := rfl
@[simp] theorem State.liveAdd_part (s : State) (spans key base len seq : Nat) : (State.liveAdd s spans key base len seq).part = s.part := rfl
@[simp] theorem State.liveAdd_time (s : State) (spans key base len seq : Nat) : (State.liveAdd s spans key base len seq).time = s.time := rfl
@[simp] theorem State.liveAdd_tiles (s : State) (spans key base len seq : Nat) : (State.liveAdd s spans key base len seq).tiles = s.tiles := rfl
@[simp] theorem State.liveAdd_linkUp (s : State) (spans key base len seq : Nat) : (State.liveAdd s spans key base len seq).linkUp = s.linkUp := rfl
@[simp] theorem State.liveAdd_hops (s : State) (spans key base len seq : Nat) : (State.liveAdd s spans key base len seq).hops = s.hops := rfl
@[simp] theorem State.liveAdd_lead (s : State) (spans key base len seq : Nat) : (State.liveAdd s spans key base len seq).lead = s.lead := rfl
@[simp] theorem State.liveAdd_qen (s : State) (spans key base len seq : Nat) : (State.liveAdd s spans key base len seq).qen = s.qen := rfl
@[simp] theorem State.liveAdd_evh (s : State) (spans key base len seq : Nat) : (State.liveAdd s spans key base len seq).evh = s.evh := rfl
@[simp] theorem State.liveAdd_host (s : State) (spans key base len seq : Nat) : (State.liveAdd s spans key base len seq).host = s.host := rfl
@[simp] theorem State.liveAdd_busRead (s : State) (spans key base len seq : Nat) : (State.liveAdd s spans key base len seq).busRead = s.busRead := rfl
@[simp] theorem State.liveAdd_smbNack (s : State) (spans key base len seq : Nat) : (State.liveAdd s spans key base len seq).smbNack = s.smbNack := rfl
@[simp] theorem State.liveAdd_smbAlert (s : State) (spans key base len seq : Nat) : (State.liveAdd s spans key base len seq).smbAlert = s.smbAlert := rfl
@[simp] theorem State.liveAdd_extest (s : State) (spans key base len seq : Nat) : (State.liveAdd s spans key base len seq).extest = s.extest := rfl
@[simp] theorem State.liveAdd_job (s : State) (spans key base len seq : Nat) : (State.liveAdd s spans key base len seq).job = s.job := rfl
@[simp] theorem State.liveAdd_marks (s : State) (spans key base len seq : Nat) : (State.liveAdd s spans key base len seq).marks = s.marks := rfl
@[simp] theorem State.liveAdd_motion (s : State) (spans key base len seq : Nat) : (State.liveAdd s spans key base len seq).motion = s.motion := rfl
@[simp] theorem State.liveAdd_colour (s : State) (spans key base len seq : Nat) : (State.liveAdd s spans key base len seq).colour = s.colour := rfl
@[simp] theorem State.liveAdd_link (s : State) (spans key base len seq : Nat) : (State.liveAdd s spans key base len seq).link = s.link := rfl
@[simp] theorem State.liveAdd_dsp (s : State) (spans key base len seq : Nat) : (State.liveAdd s spans key base len seq).dsp = s.dsp := rfl
@[simp] theorem State.liveAdd_dispFlip (s : State) (spans key base len seq : Nat) : (State.liveAdd s spans key base len seq).dispFlip = s.dispFlip := rfl
@[simp] theorem State.liveAdd_dispMode (s : State) (spans key base len seq : Nat) : (State.liveAdd s spans key base len seq).dispMode = s.dispMode := rfl
@[simp] theorem State.liveAdd_dispOff (s : State) (spans key base len seq : Nat) : (State.liveAdd s spans key base len seq).dispOff = s.dispOff := rfl
@[simp] theorem State.liveAdd_dispLast (s : State) (spans key base len seq : Nat) : (State.liveAdd s spans key base len seq).dispLast = s.dispLast := rfl
@[simp] theorem State.liveAdd_flash (s : State) (spans key base len seq : Nat) : (State.liveAdd s spans key base len seq).flash = s.flash := rfl
@[simp] theorem State.liveAdd_tallyMod (s : State) (spans key base len seq : Nat) : (State.liveAdd s spans key base len seq).tallyMod = s.tallyMod := rfl
@[simp] theorem State.liveAdd_tallyCol (s : State) (spans key base len seq : Nat) : (State.liveAdd s spans key base len seq).tallyCol = s.tallyCol := rfl
@[simp] theorem State.liveAdd_tallyRest (s : State) (spans key base len seq : Nat) : (State.liveAdd s spans key base len seq).tallyRest = s.tallyRest := rfl
@[simp] theorem State.liveAdd_free (s : State) (spans key base len seq : Nat) : (State.liveAdd s spans key base len seq).free = s.free := rfl
@[simp] theorem State.liveAdd_pending (s : State) (spans key base len seq : Nat) : (State.liveAdd s spans key base len seq).pending = s.pending := rfl
@[simp] theorem State.liveDrop_part (s : State) (seq : Nat) : (State.liveDrop s seq).part = s.part := rfl
@[simp] theorem State.liveDrop_time (s : State) (seq : Nat) : (State.liveDrop s seq).time = s.time := rfl
@[simp] theorem State.liveDrop_tiles (s : State) (seq : Nat) : (State.liveDrop s seq).tiles = s.tiles := rfl
@[simp] theorem State.liveDrop_linkUp (s : State) (seq : Nat) : (State.liveDrop s seq).linkUp = s.linkUp := rfl
@[simp] theorem State.liveDrop_hops (s : State) (seq : Nat) : (State.liveDrop s seq).hops = s.hops := rfl
@[simp] theorem State.liveDrop_lead (s : State) (seq : Nat) : (State.liveDrop s seq).lead = s.lead := rfl
@[simp] theorem State.liveDrop_qen (s : State) (seq : Nat) : (State.liveDrop s seq).qen = s.qen := rfl
@[simp] theorem State.liveDrop_evh (s : State) (seq : Nat) : (State.liveDrop s seq).evh = s.evh := rfl
@[simp] theorem State.liveDrop_host (s : State) (seq : Nat) : (State.liveDrop s seq).host = s.host := rfl
@[simp] theorem State.liveDrop_busRead (s : State) (seq : Nat) : (State.liveDrop s seq).busRead = s.busRead := rfl
@[simp] theorem State.liveDrop_smbNack (s : State) (seq : Nat) : (State.liveDrop s seq).smbNack = s.smbNack := rfl
@[simp] theorem State.liveDrop_smbAlert (s : State) (seq : Nat) : (State.liveDrop s seq).smbAlert = s.smbAlert := rfl
@[simp] theorem State.liveDrop_extest (s : State) (seq : Nat) : (State.liveDrop s seq).extest = s.extest := rfl
@[simp] theorem State.liveDrop_job (s : State) (seq : Nat) : (State.liveDrop s seq).job = s.job := rfl
@[simp] theorem State.liveDrop_marks (s : State) (seq : Nat) : (State.liveDrop s seq).marks = s.marks := rfl
@[simp] theorem State.liveDrop_motion (s : State) (seq : Nat) : (State.liveDrop s seq).motion = s.motion := rfl
@[simp] theorem State.liveDrop_colour (s : State) (seq : Nat) : (State.liveDrop s seq).colour = s.colour := rfl
@[simp] theorem State.liveDrop_link (s : State) (seq : Nat) : (State.liveDrop s seq).link = s.link := rfl
@[simp] theorem State.liveDrop_dsp (s : State) (seq : Nat) : (State.liveDrop s seq).dsp = s.dsp := rfl
@[simp] theorem State.liveDrop_dispFlip (s : State) (seq : Nat) : (State.liveDrop s seq).dispFlip = s.dispFlip := rfl
@[simp] theorem State.liveDrop_dispMode (s : State) (seq : Nat) : (State.liveDrop s seq).dispMode = s.dispMode := rfl
@[simp] theorem State.liveDrop_dispOff (s : State) (seq : Nat) : (State.liveDrop s seq).dispOff = s.dispOff := rfl
@[simp] theorem State.liveDrop_dispLast (s : State) (seq : Nat) : (State.liveDrop s seq).dispLast = s.dispLast := rfl
@[simp] theorem State.liveDrop_flash (s : State) (seq : Nat) : (State.liveDrop s seq).flash = s.flash := rfl
@[simp] theorem State.liveDrop_tallyMod (s : State) (seq : Nat) : (State.liveDrop s seq).tallyMod = s.tallyMod := rfl
@[simp] theorem State.liveDrop_tallyCol (s : State) (seq : Nat) : (State.liveDrop s seq).tallyCol = s.tallyCol := rfl
@[simp] theorem State.liveDrop_tallyRest (s : State) (seq : Nat) : (State.liveDrop s seq).tallyRest = s.tallyRest := rfl
@[simp] theorem State.liveDrop_free (s : State) (seq : Nat) : (State.liveDrop s seq).free = s.free := rfl
@[simp] theorem State.liveDrop_pending (s : State) (seq : Nat) : (State.liveDrop s seq).pending = s.pending := rfl
@[simp] theorem State.updProduct_part (s : State) (lane num : Nat) (f : Product → Product) : (State.updProduct s lane num f).part = s.part := rfl
@[simp] theorem State.updProduct_time (s : State) (lane num : Nat) (f : Product → Product) : (State.updProduct s lane num f).time = s.time := rfl
@[simp] theorem State.updProduct_tiles (s : State) (lane num : Nat) (f : Product → Product) : (State.updProduct s lane num f).tiles = s.tiles := rfl
@[simp] theorem State.updProduct_linkUp (s : State) (lane num : Nat) (f : Product → Product) : (State.updProduct s lane num f).linkUp = s.linkUp := rfl
@[simp] theorem State.updProduct_hops (s : State) (lane num : Nat) (f : Product → Product) : (State.updProduct s lane num f).hops = s.hops := rfl
@[simp] theorem State.updProduct_lead (s : State) (lane num : Nat) (f : Product → Product) : (State.updProduct s lane num f).lead = s.lead := rfl
@[simp] theorem State.updProduct_qen (s : State) (lane num : Nat) (f : Product → Product) : (State.updProduct s lane num f).qen = s.qen := rfl
@[simp] theorem State.updProduct_evh (s : State) (lane num : Nat) (f : Product → Product) : (State.updProduct s lane num f).evh = s.evh := rfl
@[simp] theorem State.updProduct_host (s : State) (lane num : Nat) (f : Product → Product) : (State.updProduct s lane num f).host = s.host := rfl
@[simp] theorem State.updProduct_busRead (s : State) (lane num : Nat) (f : Product → Product) : (State.updProduct s lane num f).busRead = s.busRead := rfl
@[simp] theorem State.updProduct_smbNack (s : State) (lane num : Nat) (f : Product → Product) : (State.updProduct s lane num f).smbNack = s.smbNack := rfl
@[simp] theorem State.updProduct_smbAlert (s : State) (lane num : Nat) (f : Product → Product) : (State.updProduct s lane num f).smbAlert = s.smbAlert := rfl
@[simp] theorem State.updProduct_extest (s : State) (lane num : Nat) (f : Product → Product) : (State.updProduct s lane num f).extest = s.extest := rfl
@[simp] theorem State.updProduct_stores (s : State) (lane num : Nat) (f : Product → Product) : (State.updProduct s lane num f).stores = s.stores := rfl
@[simp] theorem State.updProduct_marks (s : State) (lane num : Nat) (f : Product → Product) : (State.updProduct s lane num f).marks = s.marks := rfl
@[simp] theorem State.updProduct_motion (s : State) (lane num : Nat) (f : Product → Product) : (State.updProduct s lane num f).motion = s.motion := rfl
@[simp] theorem State.updProduct_colour (s : State) (lane num : Nat) (f : Product → Product) : (State.updProduct s lane num f).colour = s.colour := rfl
@[simp] theorem State.updProduct_link (s : State) (lane num : Nat) (f : Product → Product) : (State.updProduct s lane num f).link = s.link := rfl
@[simp] theorem State.updProduct_dsp (s : State) (lane num : Nat) (f : Product → Product) : (State.updProduct s lane num f).dsp = s.dsp := rfl
@[simp] theorem State.updProduct_dispFlip (s : State) (lane num : Nat) (f : Product → Product) : (State.updProduct s lane num f).dispFlip = s.dispFlip := rfl
@[simp] theorem State.updProduct_dispMode (s : State) (lane num : Nat) (f : Product → Product) : (State.updProduct s lane num f).dispMode = s.dispMode := rfl
@[simp] theorem State.updProduct_dispOff (s : State) (lane num : Nat) (f : Product → Product) : (State.updProduct s lane num f).dispOff = s.dispOff := rfl
@[simp] theorem State.updProduct_dispLast (s : State) (lane num : Nat) (f : Product → Product) : (State.updProduct s lane num f).dispLast = s.dispLast := rfl
@[simp] theorem State.updProduct_flash (s : State) (lane num : Nat) (f : Product → Product) : (State.updProduct s lane num f).flash = s.flash := rfl
@[simp] theorem State.updProduct_tallyMod (s : State) (lane num : Nat) (f : Product → Product) : (State.updProduct s lane num f).tallyMod = s.tallyMod := rfl
@[simp] theorem State.updProduct_tallyCol (s : State) (lane num : Nat) (f : Product → Product) : (State.updProduct s lane num f).tallyCol = s.tallyCol := rfl
@[simp] theorem State.updProduct_tallyRest (s : State) (lane num : Nat) (f : Product → Product) : (State.updProduct s lane num f).tallyRest = s.tallyRest := rfl
@[simp] theorem State.updProduct_free (s : State) (lane num : Nat) (f : Product → Product) : (State.updProduct s lane num f).free = s.free := rfl
@[simp] theorem State.updProduct_pending (s : State) (lane num : Nat) (f : Product → Product) : (State.updProduct s lane num f).pending = s.pending := rfl
@[simp] theorem State.updLane_part (s : State) (j : Nat) (f : Lane → Lane) : (State.updLane s j f).part = s.part := rfl
@[simp] theorem State.updLane_time (s : State) (j : Nat) (f : Lane → Lane) : (State.updLane s j f).time = s.time := rfl
@[simp] theorem State.updLane_tiles (s : State) (j : Nat) (f : Lane → Lane) : (State.updLane s j f).tiles = s.tiles := rfl
@[simp] theorem State.updLane_linkUp (s : State) (j : Nat) (f : Lane → Lane) : (State.updLane s j f).linkUp = s.linkUp := rfl
@[simp] theorem State.updLane_hops (s : State) (j : Nat) (f : Lane → Lane) : (State.updLane s j f).hops = s.hops := rfl
@[simp] theorem State.updLane_lead (s : State) (j : Nat) (f : Lane → Lane) : (State.updLane s j f).lead = s.lead := rfl
@[simp] theorem State.updLane_qen (s : State) (j : Nat) (f : Lane → Lane) : (State.updLane s j f).qen = s.qen := rfl
@[simp] theorem State.updLane_evh (s : State) (j : Nat) (f : Lane → Lane) : (State.updLane s j f).evh = s.evh := rfl
@[simp] theorem State.updLane_host (s : State) (j : Nat) (f : Lane → Lane) : (State.updLane s j f).host = s.host := rfl
@[simp] theorem State.updLane_busRead (s : State) (j : Nat) (f : Lane → Lane) : (State.updLane s j f).busRead = s.busRead := rfl
@[simp] theorem State.updLane_smbNack (s : State) (j : Nat) (f : Lane → Lane) : (State.updLane s j f).smbNack = s.smbNack := rfl
@[simp] theorem State.updLane_smbAlert (s : State) (j : Nat) (f : Lane → Lane) : (State.updLane s j f).smbAlert = s.smbAlert := rfl
@[simp] theorem State.updLane_extest (s : State) (j : Nat) (f : Lane → Lane) : (State.updLane s j f).extest = s.extest := rfl
@[simp] theorem State.updLane_stores (s : State) (j : Nat) (f : Lane → Lane) : (State.updLane s j f).stores = s.stores := rfl
@[simp] theorem State.updLane_marks (s : State) (j : Nat) (f : Lane → Lane) : (State.updLane s j f).marks = s.marks := rfl
@[simp] theorem State.updLane_motion (s : State) (j : Nat) (f : Lane → Lane) : (State.updLane s j f).motion = s.motion := rfl
@[simp] theorem State.updLane_colour (s : State) (j : Nat) (f : Lane → Lane) : (State.updLane s j f).colour = s.colour := rfl
@[simp] theorem State.updLane_link (s : State) (j : Nat) (f : Lane → Lane) : (State.updLane s j f).link = s.link := rfl
@[simp] theorem State.updLane_dsp (s : State) (j : Nat) (f : Lane → Lane) : (State.updLane s j f).dsp = s.dsp := rfl
@[simp] theorem State.updLane_dispFlip (s : State) (j : Nat) (f : Lane → Lane) : (State.updLane s j f).dispFlip = s.dispFlip := rfl
@[simp] theorem State.updLane_dispMode (s : State) (j : Nat) (f : Lane → Lane) : (State.updLane s j f).dispMode = s.dispMode := rfl
@[simp] theorem State.updLane_dispOff (s : State) (j : Nat) (f : Lane → Lane) : (State.updLane s j f).dispOff = s.dispOff := rfl
@[simp] theorem State.updLane_dispLast (s : State) (j : Nat) (f : Lane → Lane) : (State.updLane s j f).dispLast = s.dispLast := rfl
@[simp] theorem State.updLane_flash (s : State) (j : Nat) (f : Lane → Lane) : (State.updLane s j f).flash = s.flash := rfl
@[simp] theorem State.updLane_tallyMod (s : State) (j : Nat) (f : Lane → Lane) : (State.updLane s j f).tallyMod = s.tallyMod := rfl
@[simp] theorem State.updLane_tallyCol (s : State) (j : Nat) (f : Lane → Lane) : (State.updLane s j f).tallyCol = s.tallyCol := rfl
@[simp] theorem State.updLane_tallyRest (s : State) (j : Nat) (f : Lane → Lane) : (State.updLane s j f).tallyRest = s.tallyRest := rfl
@[simp] theorem State.updLane_free (s : State) (j : Nat) (f : Lane → Lane) : (State.updLane s j f).free = s.free := rfl
@[simp] theorem State.updLane_pending (s : State) (j : Nat) (f : Lane → Lane) : (State.updLane s j f).pending = s.pending := rfl
@[simp] theorem State.updLens_part (s : State) (f : Lens → Lens) : (State.updLens s f).part = s.part := rfl
@[simp] theorem State.updLens_time (s : State) (f : Lens → Lens) : (State.updLens s f).time = s.time := rfl
@[simp] theorem State.updLens_tiles (s : State) (f : Lens → Lens) : (State.updLens s f).tiles = s.tiles := rfl
@[simp] theorem State.updLens_linkUp (s : State) (f : Lens → Lens) : (State.updLens s f).linkUp = s.linkUp := rfl
@[simp] theorem State.updLens_hops (s : State) (f : Lens → Lens) : (State.updLens s f).hops = s.hops := rfl
@[simp] theorem State.updLens_lead (s : State) (f : Lens → Lens) : (State.updLens s f).lead = s.lead := rfl
@[simp] theorem State.updLens_qen (s : State) (f : Lens → Lens) : (State.updLens s f).qen = s.qen := rfl
@[simp] theorem State.updLens_evh (s : State) (f : Lens → Lens) : (State.updLens s f).evh = s.evh := rfl
@[simp] theorem State.updLens_host (s : State) (f : Lens → Lens) : (State.updLens s f).host = s.host := rfl
@[simp] theorem State.updLens_busRead (s : State) (f : Lens → Lens) : (State.updLens s f).busRead = s.busRead := rfl
@[simp] theorem State.updLens_smbNack (s : State) (f : Lens → Lens) : (State.updLens s f).smbNack = s.smbNack := rfl
@[simp] theorem State.updLens_smbAlert (s : State) (f : Lens → Lens) : (State.updLens s f).smbAlert = s.smbAlert := rfl
@[simp] theorem State.updLens_extest (s : State) (f : Lens → Lens) : (State.updLens s f).extest = s.extest := rfl
@[simp] theorem State.updLens_job (s : State) (f : Lens → Lens) : (State.updLens s f).job = s.job := rfl
@[simp] theorem State.updLens_stores (s : State) (f : Lens → Lens) : (State.updLens s f).stores = s.stores := rfl
@[simp] theorem State.updLens_marks (s : State) (f : Lens → Lens) : (State.updLens s f).marks = s.marks := rfl
@[simp] theorem State.updLens_colour (s : State) (f : Lens → Lens) : (State.updLens s f).colour = s.colour := rfl
@[simp] theorem State.updLens_link (s : State) (f : Lens → Lens) : (State.updLens s f).link = s.link := rfl
@[simp] theorem State.updLens_dsp (s : State) (f : Lens → Lens) : (State.updLens s f).dsp = s.dsp := rfl
@[simp] theorem State.updLens_dispFlip (s : State) (f : Lens → Lens) : (State.updLens s f).dispFlip = s.dispFlip := rfl
@[simp] theorem State.updLens_dispMode (s : State) (f : Lens → Lens) : (State.updLens s f).dispMode = s.dispMode := rfl
@[simp] theorem State.updLens_dispOff (s : State) (f : Lens → Lens) : (State.updLens s f).dispOff = s.dispOff := rfl
@[simp] theorem State.updLens_dispLast (s : State) (f : Lens → Lens) : (State.updLens s f).dispLast = s.dispLast := rfl
@[simp] theorem State.updLens_flash (s : State) (f : Lens → Lens) : (State.updLens s f).flash = s.flash := rfl
@[simp] theorem State.updLens_tallyMod (s : State) (f : Lens → Lens) : (State.updLens s f).tallyMod = s.tallyMod := rfl
@[simp] theorem State.updLens_tallyCol (s : State) (f : Lens → Lens) : (State.updLens s f).tallyCol = s.tallyCol := rfl
@[simp] theorem State.updLens_tallyRest (s : State) (f : Lens → Lens) : (State.updLens s f).tallyRest = s.tallyRest := rfl
@[simp] theorem State.updLens_free (s : State) (f : Lens → Lens) : (State.updLens s f).free = s.free := rfl
@[simp] theorem State.updLens_pending (s : State) (f : Lens → Lens) : (State.updLens s f).pending = s.pending := rfl
@[simp] theorem State.updLoop_part (s : State) (f : PLoop → PLoop) : (State.updLoop s f).part = s.part := rfl
@[simp] theorem State.updLoop_time (s : State) (f : PLoop → PLoop) : (State.updLoop s f).time = s.time := rfl
@[simp] theorem State.updLoop_tiles (s : State) (f : PLoop → PLoop) : (State.updLoop s f).tiles = s.tiles := rfl
@[simp] theorem State.updLoop_linkUp (s : State) (f : PLoop → PLoop) : (State.updLoop s f).linkUp = s.linkUp := rfl
@[simp] theorem State.updLoop_hops (s : State) (f : PLoop → PLoop) : (State.updLoop s f).hops = s.hops := rfl
@[simp] theorem State.updLoop_lead (s : State) (f : PLoop → PLoop) : (State.updLoop s f).lead = s.lead := rfl
@[simp] theorem State.updLoop_qen (s : State) (f : PLoop → PLoop) : (State.updLoop s f).qen = s.qen := rfl
@[simp] theorem State.updLoop_evh (s : State) (f : PLoop → PLoop) : (State.updLoop s f).evh = s.evh := rfl
@[simp] theorem State.updLoop_host (s : State) (f : PLoop → PLoop) : (State.updLoop s f).host = s.host := rfl
@[simp] theorem State.updLoop_busRead (s : State) (f : PLoop → PLoop) : (State.updLoop s f).busRead = s.busRead := rfl
@[simp] theorem State.updLoop_smbNack (s : State) (f : PLoop → PLoop) : (State.updLoop s f).smbNack = s.smbNack := rfl
@[simp] theorem State.updLoop_smbAlert (s : State) (f : PLoop → PLoop) : (State.updLoop s f).smbAlert = s.smbAlert := rfl
@[simp] theorem State.updLoop_extest (s : State) (f : PLoop → PLoop) : (State.updLoop s f).extest = s.extest := rfl
@[simp] theorem State.updLoop_job (s : State) (f : PLoop → PLoop) : (State.updLoop s f).job = s.job := rfl
@[simp] theorem State.updLoop_stores (s : State) (f : PLoop → PLoop) : (State.updLoop s f).stores = s.stores := rfl
@[simp] theorem State.updLoop_marks (s : State) (f : PLoop → PLoop) : (State.updLoop s f).marks = s.marks := rfl
@[simp] theorem State.updLoop_colour (s : State) (f : PLoop → PLoop) : (State.updLoop s f).colour = s.colour := rfl
@[simp] theorem State.updLoop_link (s : State) (f : PLoop → PLoop) : (State.updLoop s f).link = s.link := rfl
@[simp] theorem State.updLoop_dsp (s : State) (f : PLoop → PLoop) : (State.updLoop s f).dsp = s.dsp := rfl
@[simp] theorem State.updLoop_dispFlip (s : State) (f : PLoop → PLoop) : (State.updLoop s f).dispFlip = s.dispFlip := rfl
@[simp] theorem State.updLoop_dispMode (s : State) (f : PLoop → PLoop) : (State.updLoop s f).dispMode = s.dispMode := rfl
@[simp] theorem State.updLoop_dispOff (s : State) (f : PLoop → PLoop) : (State.updLoop s f).dispOff = s.dispOff := rfl
@[simp] theorem State.updLoop_dispLast (s : State) (f : PLoop → PLoop) : (State.updLoop s f).dispLast = s.dispLast := rfl
@[simp] theorem State.updLoop_flash (s : State) (f : PLoop → PLoop) : (State.updLoop s f).flash = s.flash := rfl
@[simp] theorem State.updLoop_tallyMod (s : State) (f : PLoop → PLoop) : (State.updLoop s f).tallyMod = s.tallyMod := rfl
@[simp] theorem State.updLoop_tallyCol (s : State) (f : PLoop → PLoop) : (State.updLoop s f).tallyCol = s.tallyCol := rfl
@[simp] theorem State.updLoop_tallyRest (s : State) (f : PLoop → PLoop) : (State.updLoop s f).tallyRest = s.tallyRest := rfl
@[simp] theorem State.updLoop_free (s : State) (f : PLoop → PLoop) : (State.updLoop s f).free = s.free := rfl
@[simp] theorem State.updLoop_pending (s : State) (f : PLoop → PLoop) : (State.updLoop s f).pending = s.pending := rfl
@[simp] theorem State.updCal_part (s : State) (k : Nat) (f : Cal → Cal) : (State.updCal s k f).part = s.part := rfl
@[simp] theorem State.updCal_time (s : State) (k : Nat) (f : Cal → Cal) : (State.updCal s k f).time = s.time := rfl
@[simp] theorem State.updCal_tiles (s : State) (k : Nat) (f : Cal → Cal) : (State.updCal s k f).tiles = s.tiles := rfl
@[simp] theorem State.updCal_linkUp (s : State) (k : Nat) (f : Cal → Cal) : (State.updCal s k f).linkUp = s.linkUp := rfl
@[simp] theorem State.updCal_hops (s : State) (k : Nat) (f : Cal → Cal) : (State.updCal s k f).hops = s.hops := rfl
@[simp] theorem State.updCal_lead (s : State) (k : Nat) (f : Cal → Cal) : (State.updCal s k f).lead = s.lead := rfl
@[simp] theorem State.updCal_qen (s : State) (k : Nat) (f : Cal → Cal) : (State.updCal s k f).qen = s.qen := rfl
@[simp] theorem State.updCal_evh (s : State) (k : Nat) (f : Cal → Cal) : (State.updCal s k f).evh = s.evh := rfl
@[simp] theorem State.updCal_host (s : State) (k : Nat) (f : Cal → Cal) : (State.updCal s k f).host = s.host := rfl
@[simp] theorem State.updCal_busRead (s : State) (k : Nat) (f : Cal → Cal) : (State.updCal s k f).busRead = s.busRead := rfl
@[simp] theorem State.updCal_smbNack (s : State) (k : Nat) (f : Cal → Cal) : (State.updCal s k f).smbNack = s.smbNack := rfl
@[simp] theorem State.updCal_smbAlert (s : State) (k : Nat) (f : Cal → Cal) : (State.updCal s k f).smbAlert = s.smbAlert := rfl
@[simp] theorem State.updCal_extest (s : State) (k : Nat) (f : Cal → Cal) : (State.updCal s k f).extest = s.extest := rfl
@[simp] theorem State.updCal_job (s : State) (k : Nat) (f : Cal → Cal) : (State.updCal s k f).job = s.job := rfl
@[simp] theorem State.updCal_stores (s : State) (k : Nat) (f : Cal → Cal) : (State.updCal s k f).stores = s.stores := rfl
@[simp] theorem State.updCal_motion (s : State) (k : Nat) (f : Cal → Cal) : (State.updCal s k f).motion = s.motion := rfl
@[simp] theorem State.updCal_colour (s : State) (k : Nat) (f : Cal → Cal) : (State.updCal s k f).colour = s.colour := rfl
@[simp] theorem State.updCal_link (s : State) (k : Nat) (f : Cal → Cal) : (State.updCal s k f).link = s.link := rfl
@[simp] theorem State.updCal_dsp (s : State) (k : Nat) (f : Cal → Cal) : (State.updCal s k f).dsp = s.dsp := rfl
@[simp] theorem State.updCal_dispFlip (s : State) (k : Nat) (f : Cal → Cal) : (State.updCal s k f).dispFlip = s.dispFlip := rfl
@[simp] theorem State.updCal_dispMode (s : State) (k : Nat) (f : Cal → Cal) : (State.updCal s k f).dispMode = s.dispMode := rfl
@[simp] theorem State.updCal_dispOff (s : State) (k : Nat) (f : Cal → Cal) : (State.updCal s k f).dispOff = s.dispOff := rfl
@[simp] theorem State.updCal_dispLast (s : State) (k : Nat) (f : Cal → Cal) : (State.updCal s k f).dispLast = s.dispLast := rfl
@[simp] theorem State.updCal_flash (s : State) (k : Nat) (f : Cal → Cal) : (State.updCal s k f).flash = s.flash := rfl
@[simp] theorem State.updCal_tallyMod (s : State) (k : Nat) (f : Cal → Cal) : (State.updCal s k f).tallyMod = s.tallyMod := rfl
@[simp] theorem State.updCal_tallyCol (s : State) (k : Nat) (f : Cal → Cal) : (State.updCal s k f).tallyCol = s.tallyCol := rfl
@[simp] theorem State.updCal_tallyRest (s : State) (k : Nat) (f : Cal → Cal) : (State.updCal s k f).tallyRest = s.tallyRest := rfl
@[simp] theorem State.updCal_free (s : State) (k : Nat) (f : Cal → Cal) : (State.updCal s k f).free = s.free := rfl
@[simp] theorem State.updCal_pending (s : State) (k : Nat) (f : Cal → Cal) : (State.updCal s k f).pending = s.pending := rfl
@[simp] theorem State.updMarks_part (s : State) (f : Marks → Marks) : (State.updMarks s f).part = s.part := rfl
@[simp] theorem State.updMarks_time (s : State) (f : Marks → Marks) : (State.updMarks s f).time = s.time := rfl
@[simp] theorem State.updMarks_tiles (s : State) (f : Marks → Marks) : (State.updMarks s f).tiles = s.tiles := rfl
@[simp] theorem State.updMarks_linkUp (s : State) (f : Marks → Marks) : (State.updMarks s f).linkUp = s.linkUp := rfl
@[simp] theorem State.updMarks_hops (s : State) (f : Marks → Marks) : (State.updMarks s f).hops = s.hops := rfl
@[simp] theorem State.updMarks_lead (s : State) (f : Marks → Marks) : (State.updMarks s f).lead = s.lead := rfl
@[simp] theorem State.updMarks_qen (s : State) (f : Marks → Marks) : (State.updMarks s f).qen = s.qen := rfl
@[simp] theorem State.updMarks_evh (s : State) (f : Marks → Marks) : (State.updMarks s f).evh = s.evh := rfl
@[simp] theorem State.updMarks_host (s : State) (f : Marks → Marks) : (State.updMarks s f).host = s.host := rfl
@[simp] theorem State.updMarks_busRead (s : State) (f : Marks → Marks) : (State.updMarks s f).busRead = s.busRead := rfl
@[simp] theorem State.updMarks_smbNack (s : State) (f : Marks → Marks) : (State.updMarks s f).smbNack = s.smbNack := rfl
@[simp] theorem State.updMarks_smbAlert (s : State) (f : Marks → Marks) : (State.updMarks s f).smbAlert = s.smbAlert := rfl
@[simp] theorem State.updMarks_extest (s : State) (f : Marks → Marks) : (State.updMarks s f).extest = s.extest := rfl
@[simp] theorem State.updMarks_job (s : State) (f : Marks → Marks) : (State.updMarks s f).job = s.job := rfl
@[simp] theorem State.updMarks_stores (s : State) (f : Marks → Marks) : (State.updMarks s f).stores = s.stores := rfl
@[simp] theorem State.updMarks_motion (s : State) (f : Marks → Marks) : (State.updMarks s f).motion = s.motion := rfl
@[simp] theorem State.updMarks_colour (s : State) (f : Marks → Marks) : (State.updMarks s f).colour = s.colour := rfl
@[simp] theorem State.updMarks_link (s : State) (f : Marks → Marks) : (State.updMarks s f).link = s.link := rfl
@[simp] theorem State.updMarks_dsp (s : State) (f : Marks → Marks) : (State.updMarks s f).dsp = s.dsp := rfl
@[simp] theorem State.updMarks_dispFlip (s : State) (f : Marks → Marks) : (State.updMarks s f).dispFlip = s.dispFlip := rfl
@[simp] theorem State.updMarks_dispMode (s : State) (f : Marks → Marks) : (State.updMarks s f).dispMode = s.dispMode := rfl
@[simp] theorem State.updMarks_dispOff (s : State) (f : Marks → Marks) : (State.updMarks s f).dispOff = s.dispOff := rfl
@[simp] theorem State.updMarks_dispLast (s : State) (f : Marks → Marks) : (State.updMarks s f).dispLast = s.dispLast := rfl
@[simp] theorem State.updMarks_flash (s : State) (f : Marks → Marks) : (State.updMarks s f).flash = s.flash := rfl
@[simp] theorem State.updMarks_tallyMod (s : State) (f : Marks → Marks) : (State.updMarks s f).tallyMod = s.tallyMod := rfl
@[simp] theorem State.updMarks_tallyCol (s : State) (f : Marks → Marks) : (State.updMarks s f).tallyCol = s.tallyCol := rfl
@[simp] theorem State.updMarks_tallyRest (s : State) (f : Marks → Marks) : (State.updMarks s f).tallyRest = s.tallyRest := rfl
@[simp] theorem State.updMarks_free (s : State) (f : Marks → Marks) : (State.updMarks s f).free = s.free := rfl
@[simp] theorem State.updMarks_pending (s : State) (f : Marks → Marks) : (State.updMarks s f).pending = s.pending := rfl
@[simp] theorem State.updNode_part (s : State) (id : Nat) (f : Node → Node) : (State.updNode s id f).part = s.part := rfl
@[simp] theorem State.updNode_time (s : State) (id : Nat) (f : Node → Node) : (State.updNode s id f).time = s.time := rfl
@[simp] theorem State.updNode_tiles (s : State) (id : Nat) (f : Node → Node) : (State.updNode s id f).tiles = s.tiles := rfl
@[simp] theorem State.updNode_linkUp (s : State) (id : Nat) (f : Node → Node) : (State.updNode s id f).linkUp = s.linkUp := rfl
@[simp] theorem State.updNode_hops (s : State) (id : Nat) (f : Node → Node) : (State.updNode s id f).hops = s.hops := rfl
@[simp] theorem State.updNode_lead (s : State) (id : Nat) (f : Node → Node) : (State.updNode s id f).lead = s.lead := rfl
@[simp] theorem State.updNode_qen (s : State) (id : Nat) (f : Node → Node) : (State.updNode s id f).qen = s.qen := rfl
@[simp] theorem State.updNode_evh (s : State) (id : Nat) (f : Node → Node) : (State.updNode s id f).evh = s.evh := rfl
@[simp] theorem State.updNode_host (s : State) (id : Nat) (f : Node → Node) : (State.updNode s id f).host = s.host := rfl
@[simp] theorem State.updNode_busRead (s : State) (id : Nat) (f : Node → Node) : (State.updNode s id f).busRead = s.busRead := rfl
@[simp] theorem State.updNode_smbNack (s : State) (id : Nat) (f : Node → Node) : (State.updNode s id f).smbNack = s.smbNack := rfl
@[simp] theorem State.updNode_smbAlert (s : State) (id : Nat) (f : Node → Node) : (State.updNode s id f).smbAlert = s.smbAlert := rfl
@[simp] theorem State.updNode_extest (s : State) (id : Nat) (f : Node → Node) : (State.updNode s id f).extest = s.extest := rfl
@[simp] theorem State.updNode_job (s : State) (id : Nat) (f : Node → Node) : (State.updNode s id f).job = s.job := rfl
@[simp] theorem State.updNode_stores (s : State) (id : Nat) (f : Node → Node) : (State.updNode s id f).stores = s.stores := rfl
@[simp] theorem State.updNode_marks (s : State) (id : Nat) (f : Node → Node) : (State.updNode s id f).marks = s.marks := rfl
@[simp] theorem State.updNode_motion (s : State) (id : Nat) (f : Node → Node) : (State.updNode s id f).motion = s.motion := rfl
@[simp] theorem State.updNode_colour (s : State) (id : Nat) (f : Node → Node) : (State.updNode s id f).colour = s.colour := rfl
@[simp] theorem State.updNode_dsp (s : State) (id : Nat) (f : Node → Node) : (State.updNode s id f).dsp = s.dsp := rfl
@[simp] theorem State.updNode_dispFlip (s : State) (id : Nat) (f : Node → Node) : (State.updNode s id f).dispFlip = s.dispFlip := rfl
@[simp] theorem State.updNode_dispMode (s : State) (id : Nat) (f : Node → Node) : (State.updNode s id f).dispMode = s.dispMode := rfl
@[simp] theorem State.updNode_dispOff (s : State) (id : Nat) (f : Node → Node) : (State.updNode s id f).dispOff = s.dispOff := rfl
@[simp] theorem State.updNode_dispLast (s : State) (id : Nat) (f : Node → Node) : (State.updNode s id f).dispLast = s.dispLast := rfl
@[simp] theorem State.updNode_flash (s : State) (id : Nat) (f : Node → Node) : (State.updNode s id f).flash = s.flash := rfl
@[simp] theorem State.updNode_tallyMod (s : State) (id : Nat) (f : Node → Node) : (State.updNode s id f).tallyMod = s.tallyMod := rfl
@[simp] theorem State.updNode_tallyCol (s : State) (id : Nat) (f : Node → Node) : (State.updNode s id f).tallyCol = s.tallyCol := rfl
@[simp] theorem State.updNode_tallyRest (s : State) (id : Nat) (f : Node → Node) : (State.updNode s id f).tallyRest = s.tallyRest := rfl
@[simp] theorem State.updNode_free (s : State) (id : Nat) (f : Node → Node) : (State.updNode s id f).free = s.free := rfl
@[simp] theorem State.updNode_pending (s : State) (id : Nat) (f : Node → Node) : (State.updNode s id f).pending = s.pending := rfl
@[simp] theorem State.updColour_part (s : State) (f : Colour → Colour) : (State.updColour s f).part = s.part := rfl
@[simp] theorem State.updColour_time (s : State) (f : Colour → Colour) : (State.updColour s f).time = s.time := rfl
@[simp] theorem State.updColour_tiles (s : State) (f : Colour → Colour) : (State.updColour s f).tiles = s.tiles := rfl
@[simp] theorem State.updColour_linkUp (s : State) (f : Colour → Colour) : (State.updColour s f).linkUp = s.linkUp := rfl
@[simp] theorem State.updColour_hops (s : State) (f : Colour → Colour) : (State.updColour s f).hops = s.hops := rfl
@[simp] theorem State.updColour_lead (s : State) (f : Colour → Colour) : (State.updColour s f).lead = s.lead := rfl
@[simp] theorem State.updColour_qen (s : State) (f : Colour → Colour) : (State.updColour s f).qen = s.qen := rfl
@[simp] theorem State.updColour_evh (s : State) (f : Colour → Colour) : (State.updColour s f).evh = s.evh := rfl
@[simp] theorem State.updColour_host (s : State) (f : Colour → Colour) : (State.updColour s f).host = s.host := rfl
@[simp] theorem State.updColour_busRead (s : State) (f : Colour → Colour) : (State.updColour s f).busRead = s.busRead := rfl
@[simp] theorem State.updColour_smbNack (s : State) (f : Colour → Colour) : (State.updColour s f).smbNack = s.smbNack := rfl
@[simp] theorem State.updColour_smbAlert (s : State) (f : Colour → Colour) : (State.updColour s f).smbAlert = s.smbAlert := rfl
@[simp] theorem State.updColour_extest (s : State) (f : Colour → Colour) : (State.updColour s f).extest = s.extest := rfl
@[simp] theorem State.updColour_job (s : State) (f : Colour → Colour) : (State.updColour s f).job = s.job := rfl
@[simp] theorem State.updColour_stores (s : State) (f : Colour → Colour) : (State.updColour s f).stores = s.stores := rfl
@[simp] theorem State.updColour_marks (s : State) (f : Colour → Colour) : (State.updColour s f).marks = s.marks := rfl
@[simp] theorem State.updColour_motion (s : State) (f : Colour → Colour) : (State.updColour s f).motion = s.motion := rfl
@[simp] theorem State.updColour_link (s : State) (f : Colour → Colour) : (State.updColour s f).link = s.link := rfl
@[simp] theorem State.updColour_dsp (s : State) (f : Colour → Colour) : (State.updColour s f).dsp = s.dsp := rfl
@[simp] theorem State.updColour_dispFlip (s : State) (f : Colour → Colour) : (State.updColour s f).dispFlip = s.dispFlip := rfl
@[simp] theorem State.updColour_dispMode (s : State) (f : Colour → Colour) : (State.updColour s f).dispMode = s.dispMode := rfl
@[simp] theorem State.updColour_dispOff (s : State) (f : Colour → Colour) : (State.updColour s f).dispOff = s.dispOff := rfl
@[simp] theorem State.updColour_dispLast (s : State) (f : Colour → Colour) : (State.updColour s f).dispLast = s.dispLast := rfl
@[simp] theorem State.updColour_flash (s : State) (f : Colour → Colour) : (State.updColour s f).flash = s.flash := rfl
@[simp] theorem State.updColour_tallyMod (s : State) (f : Colour → Colour) : (State.updColour s f).tallyMod = s.tallyMod := rfl
@[simp] theorem State.updColour_tallyCol (s : State) (f : Colour → Colour) : (State.updColour s f).tallyCol = s.tallyCol := rfl
@[simp] theorem State.updColour_tallyRest (s : State) (f : Colour → Colour) : (State.updColour s f).tallyRest = s.tallyRest := rfl
@[simp] theorem State.updColour_free (s : State) (f : Colour → Colour) : (State.updColour s f).free = s.free := rfl
@[simp] theorem State.updColour_pending (s : State) (f : Colour → Colour) : (State.updColour s f).pending = s.pending := rfl
@[simp] theorem State.updCh_part (s : State) (c : Nat) (f : ColCh → ColCh) : (State.updCh s c f).part = s.part := rfl
@[simp] theorem State.updCh_time (s : State) (c : Nat) (f : ColCh → ColCh) : (State.updCh s c f).time = s.time := rfl
@[simp] theorem State.updCh_tiles (s : State) (c : Nat) (f : ColCh → ColCh) : (State.updCh s c f).tiles = s.tiles := rfl
@[simp] theorem State.updCh_linkUp (s : State) (c : Nat) (f : ColCh → ColCh) : (State.updCh s c f).linkUp = s.linkUp := rfl
@[simp] theorem State.updCh_hops (s : State) (c : Nat) (f : ColCh → ColCh) : (State.updCh s c f).hops = s.hops := rfl
@[simp] theorem State.updCh_lead (s : State) (c : Nat) (f : ColCh → ColCh) : (State.updCh s c f).lead = s.lead := rfl
@[simp] theorem State.updCh_qen (s : State) (c : Nat) (f : ColCh → ColCh) : (State.updCh s c f).qen = s.qen := rfl
@[simp] theorem State.updCh_evh (s : State) (c : Nat) (f : ColCh → ColCh) : (State.updCh s c f).evh = s.evh := rfl
@[simp] theorem State.updCh_host (s : State) (c : Nat) (f : ColCh → ColCh) : (State.updCh s c f).host = s.host := rfl
@[simp] theorem State.updCh_busRead (s : State) (c : Nat) (f : ColCh → ColCh) : (State.updCh s c f).busRead = s.busRead := rfl
@[simp] theorem State.updCh_smbNack (s : State) (c : Nat) (f : ColCh → ColCh) : (State.updCh s c f).smbNack = s.smbNack := rfl
@[simp] theorem State.updCh_smbAlert (s : State) (c : Nat) (f : ColCh → ColCh) : (State.updCh s c f).smbAlert = s.smbAlert := rfl
@[simp] theorem State.updCh_extest (s : State) (c : Nat) (f : ColCh → ColCh) : (State.updCh s c f).extest = s.extest := rfl
@[simp] theorem State.updCh_job (s : State) (c : Nat) (f : ColCh → ColCh) : (State.updCh s c f).job = s.job := rfl
@[simp] theorem State.updCh_stores (s : State) (c : Nat) (f : ColCh → ColCh) : (State.updCh s c f).stores = s.stores := rfl
@[simp] theorem State.updCh_marks (s : State) (c : Nat) (f : ColCh → ColCh) : (State.updCh s c f).marks = s.marks := rfl
@[simp] theorem State.updCh_motion (s : State) (c : Nat) (f : ColCh → ColCh) : (State.updCh s c f).motion = s.motion := rfl
@[simp] theorem State.updCh_link (s : State) (c : Nat) (f : ColCh → ColCh) : (State.updCh s c f).link = s.link := rfl
@[simp] theorem State.updCh_dsp (s : State) (c : Nat) (f : ColCh → ColCh) : (State.updCh s c f).dsp = s.dsp := rfl
@[simp] theorem State.updCh_dispFlip (s : State) (c : Nat) (f : ColCh → ColCh) : (State.updCh s c f).dispFlip = s.dispFlip := rfl
@[simp] theorem State.updCh_dispMode (s : State) (c : Nat) (f : ColCh → ColCh) : (State.updCh s c f).dispMode = s.dispMode := rfl
@[simp] theorem State.updCh_dispOff (s : State) (c : Nat) (f : ColCh → ColCh) : (State.updCh s c f).dispOff = s.dispOff := rfl
@[simp] theorem State.updCh_dispLast (s : State) (c : Nat) (f : ColCh → ColCh) : (State.updCh s c f).dispLast = s.dispLast := rfl
@[simp] theorem State.updCh_flash (s : State) (c : Nat) (f : ColCh → ColCh) : (State.updCh s c f).flash = s.flash := rfl
@[simp] theorem State.updCh_tallyMod (s : State) (c : Nat) (f : ColCh → ColCh) : (State.updCh s c f).tallyMod = s.tallyMod := rfl
@[simp] theorem State.updCh_tallyCol (s : State) (c : Nat) (f : ColCh → ColCh) : (State.updCh s c f).tallyCol = s.tallyCol := rfl
@[simp] theorem State.updCh_tallyRest (s : State) (c : Nat) (f : ColCh → ColCh) : (State.updCh s c f).tallyRest = s.tallyRest := rfl
@[simp] theorem State.updCh_free (s : State) (c : Nat) (f : ColCh → ColCh) : (State.updCh s c f).free = s.free := rfl
@[simp] theorem State.updCh_pending (s : State) (c : Nat) (f : ColCh → ColCh) : (State.updCh s c f).pending = s.pending := rfl
@[simp] theorem State.updMot_part (s : State) (f : Motion → Motion) : (State.updMot s f).part = s.part := rfl
@[simp] theorem State.updMot_time (s : State) (f : Motion → Motion) : (State.updMot s f).time = s.time := rfl
@[simp] theorem State.updMot_tiles (s : State) (f : Motion → Motion) : (State.updMot s f).tiles = s.tiles := rfl
@[simp] theorem State.updMot_linkUp (s : State) (f : Motion → Motion) : (State.updMot s f).linkUp = s.linkUp := rfl
@[simp] theorem State.updMot_hops (s : State) (f : Motion → Motion) : (State.updMot s f).hops = s.hops := rfl
@[simp] theorem State.updMot_lead (s : State) (f : Motion → Motion) : (State.updMot s f).lead = s.lead := rfl
@[simp] theorem State.updMot_qen (s : State) (f : Motion → Motion) : (State.updMot s f).qen = s.qen := rfl
@[simp] theorem State.updMot_evh (s : State) (f : Motion → Motion) : (State.updMot s f).evh = s.evh := rfl
@[simp] theorem State.updMot_host (s : State) (f : Motion → Motion) : (State.updMot s f).host = s.host := rfl
@[simp] theorem State.updMot_busRead (s : State) (f : Motion → Motion) : (State.updMot s f).busRead = s.busRead := rfl
@[simp] theorem State.updMot_smbNack (s : State) (f : Motion → Motion) : (State.updMot s f).smbNack = s.smbNack := rfl
@[simp] theorem State.updMot_smbAlert (s : State) (f : Motion → Motion) : (State.updMot s f).smbAlert = s.smbAlert := rfl
@[simp] theorem State.updMot_extest (s : State) (f : Motion → Motion) : (State.updMot s f).extest = s.extest := rfl
@[simp] theorem State.updMot_job (s : State) (f : Motion → Motion) : (State.updMot s f).job = s.job := rfl
@[simp] theorem State.updMot_stores (s : State) (f : Motion → Motion) : (State.updMot s f).stores = s.stores := rfl
@[simp] theorem State.updMot_marks (s : State) (f : Motion → Motion) : (State.updMot s f).marks = s.marks := rfl
@[simp] theorem State.updMot_colour (s : State) (f : Motion → Motion) : (State.updMot s f).colour = s.colour := rfl
@[simp] theorem State.updMot_link (s : State) (f : Motion → Motion) : (State.updMot s f).link = s.link := rfl
@[simp] theorem State.updMot_dsp (s : State) (f : Motion → Motion) : (State.updMot s f).dsp = s.dsp := rfl
@[simp] theorem State.updMot_dispFlip (s : State) (f : Motion → Motion) : (State.updMot s f).dispFlip = s.dispFlip := rfl
@[simp] theorem State.updMot_dispMode (s : State) (f : Motion → Motion) : (State.updMot s f).dispMode = s.dispMode := rfl
@[simp] theorem State.updMot_dispOff (s : State) (f : Motion → Motion) : (State.updMot s f).dispOff = s.dispOff := rfl
@[simp] theorem State.updMot_dispLast (s : State) (f : Motion → Motion) : (State.updMot s f).dispLast = s.dispLast := rfl
@[simp] theorem State.updMot_flash (s : State) (f : Motion → Motion) : (State.updMot s f).flash = s.flash := rfl
@[simp] theorem State.updMot_tallyMod (s : State) (f : Motion → Motion) : (State.updMot s f).tallyMod = s.tallyMod := rfl
@[simp] theorem State.updMot_tallyCol (s : State) (f : Motion → Motion) : (State.updMot s f).tallyCol = s.tallyCol := rfl
@[simp] theorem State.updMot_tallyRest (s : State) (f : Motion → Motion) : (State.updMot s f).tallyRest = s.tallyRest := rfl
@[simp] theorem State.updMot_free (s : State) (f : Motion → Motion) : (State.updMot s f).free = s.free := rfl
@[simp] theorem State.updMot_pending (s : State) (f : Motion → Motion) : (State.updMot s f).pending = s.pending := rfl
@[simp] theorem State.updEnc_part (s : State) (i : Nat) (f : Enc → Enc) : (State.updEnc s i f).part = s.part := rfl
@[simp] theorem State.updEnc_time (s : State) (i : Nat) (f : Enc → Enc) : (State.updEnc s i f).time = s.time := rfl
@[simp] theorem State.updEnc_tiles (s : State) (i : Nat) (f : Enc → Enc) : (State.updEnc s i f).tiles = s.tiles := rfl
@[simp] theorem State.updEnc_linkUp (s : State) (i : Nat) (f : Enc → Enc) : (State.updEnc s i f).linkUp = s.linkUp := rfl
@[simp] theorem State.updEnc_hops (s : State) (i : Nat) (f : Enc → Enc) : (State.updEnc s i f).hops = s.hops := rfl
@[simp] theorem State.updEnc_lead (s : State) (i : Nat) (f : Enc → Enc) : (State.updEnc s i f).lead = s.lead := rfl
@[simp] theorem State.updEnc_qen (s : State) (i : Nat) (f : Enc → Enc) : (State.updEnc s i f).qen = s.qen := rfl
@[simp] theorem State.updEnc_evh (s : State) (i : Nat) (f : Enc → Enc) : (State.updEnc s i f).evh = s.evh := rfl
@[simp] theorem State.updEnc_host (s : State) (i : Nat) (f : Enc → Enc) : (State.updEnc s i f).host = s.host := rfl
@[simp] theorem State.updEnc_busRead (s : State) (i : Nat) (f : Enc → Enc) : (State.updEnc s i f).busRead = s.busRead := rfl
@[simp] theorem State.updEnc_smbNack (s : State) (i : Nat) (f : Enc → Enc) : (State.updEnc s i f).smbNack = s.smbNack := rfl
@[simp] theorem State.updEnc_smbAlert (s : State) (i : Nat) (f : Enc → Enc) : (State.updEnc s i f).smbAlert = s.smbAlert := rfl
@[simp] theorem State.updEnc_extest (s : State) (i : Nat) (f : Enc → Enc) : (State.updEnc s i f).extest = s.extest := rfl
@[simp] theorem State.updEnc_job (s : State) (i : Nat) (f : Enc → Enc) : (State.updEnc s i f).job = s.job := rfl
@[simp] theorem State.updEnc_stores (s : State) (i : Nat) (f : Enc → Enc) : (State.updEnc s i f).stores = s.stores := rfl
@[simp] theorem State.updEnc_marks (s : State) (i : Nat) (f : Enc → Enc) : (State.updEnc s i f).marks = s.marks := rfl
@[simp] theorem State.updEnc_colour (s : State) (i : Nat) (f : Enc → Enc) : (State.updEnc s i f).colour = s.colour := rfl
@[simp] theorem State.updEnc_link (s : State) (i : Nat) (f : Enc → Enc) : (State.updEnc s i f).link = s.link := rfl
@[simp] theorem State.updEnc_dsp (s : State) (i : Nat) (f : Enc → Enc) : (State.updEnc s i f).dsp = s.dsp := rfl
@[simp] theorem State.updEnc_dispFlip (s : State) (i : Nat) (f : Enc → Enc) : (State.updEnc s i f).dispFlip = s.dispFlip := rfl
@[simp] theorem State.updEnc_dispMode (s : State) (i : Nat) (f : Enc → Enc) : (State.updEnc s i f).dispMode = s.dispMode := rfl
@[simp] theorem State.updEnc_dispOff (s : State) (i : Nat) (f : Enc → Enc) : (State.updEnc s i f).dispOff = s.dispOff := rfl
@[simp] theorem State.updEnc_dispLast (s : State) (i : Nat) (f : Enc → Enc) : (State.updEnc s i f).dispLast = s.dispLast := rfl
@[simp] theorem State.updEnc_flash (s : State) (i : Nat) (f : Enc → Enc) : (State.updEnc s i f).flash = s.flash := rfl
@[simp] theorem State.updEnc_tallyMod (s : State) (i : Nat) (f : Enc → Enc) : (State.updEnc s i f).tallyMod = s.tallyMod := rfl
@[simp] theorem State.updEnc_tallyCol (s : State) (i : Nat) (f : Enc → Enc) : (State.updEnc s i f).tallyCol = s.tallyCol := rfl
@[simp] theorem State.updEnc_tallyRest (s : State) (i : Nat) (f : Enc → Enc) : (State.updEnc s i f).tallyRest = s.tallyRest := rfl
@[simp] theorem State.updEnc_free (s : State) (i : Nat) (f : Enc → Enc) : (State.updEnc s i f).free = s.free := rfl
@[simp] theorem State.updEnc_pending (s : State) (i : Nat) (f : Enc → Enc) : (State.updEnc s i f).pending = s.pending := rfl
@[simp] theorem State.updHost_part (s : State) (h : Nat) (f : HostTgt → HostTgt) : (State.updHost s h f).part = s.part := rfl
@[simp] theorem State.updHost_time (s : State) (h : Nat) (f : HostTgt → HostTgt) : (State.updHost s h f).time = s.time := rfl
@[simp] theorem State.updHost_tiles (s : State) (h : Nat) (f : HostTgt → HostTgt) : (State.updHost s h f).tiles = s.tiles := rfl
@[simp] theorem State.updHost_linkUp (s : State) (h : Nat) (f : HostTgt → HostTgt) : (State.updHost s h f).linkUp = s.linkUp := rfl
@[simp] theorem State.updHost_hops (s : State) (h : Nat) (f : HostTgt → HostTgt) : (State.updHost s h f).hops = s.hops := rfl
@[simp] theorem State.updHost_lead (s : State) (h : Nat) (f : HostTgt → HostTgt) : (State.updHost s h f).lead = s.lead := rfl
@[simp] theorem State.updHost_qen (s : State) (h : Nat) (f : HostTgt → HostTgt) : (State.updHost s h f).qen = s.qen := rfl
@[simp] theorem State.updHost_host (s : State) (h : Nat) (f : HostTgt → HostTgt) : (State.updHost s h f).host = s.host := rfl
@[simp] theorem State.updHost_busRead (s : State) (h : Nat) (f : HostTgt → HostTgt) : (State.updHost s h f).busRead = s.busRead := rfl
@[simp] theorem State.updHost_smbNack (s : State) (h : Nat) (f : HostTgt → HostTgt) : (State.updHost s h f).smbNack = s.smbNack := rfl
@[simp] theorem State.updHost_smbAlert (s : State) (h : Nat) (f : HostTgt → HostTgt) : (State.updHost s h f).smbAlert = s.smbAlert := rfl
@[simp] theorem State.updHost_extest (s : State) (h : Nat) (f : HostTgt → HostTgt) : (State.updHost s h f).extest = s.extest := rfl
@[simp] theorem State.updHost_job (s : State) (h : Nat) (f : HostTgt → HostTgt) : (State.updHost s h f).job = s.job := rfl
@[simp] theorem State.updHost_stores (s : State) (h : Nat) (f : HostTgt → HostTgt) : (State.updHost s h f).stores = s.stores := rfl
@[simp] theorem State.updHost_marks (s : State) (h : Nat) (f : HostTgt → HostTgt) : (State.updHost s h f).marks = s.marks := rfl
@[simp] theorem State.updHost_motion (s : State) (h : Nat) (f : HostTgt → HostTgt) : (State.updHost s h f).motion = s.motion := rfl
@[simp] theorem State.updHost_colour (s : State) (h : Nat) (f : HostTgt → HostTgt) : (State.updHost s h f).colour = s.colour := rfl
@[simp] theorem State.updHost_link (s : State) (h : Nat) (f : HostTgt → HostTgt) : (State.updHost s h f).link = s.link := rfl
@[simp] theorem State.updHost_dsp (s : State) (h : Nat) (f : HostTgt → HostTgt) : (State.updHost s h f).dsp = s.dsp := rfl
@[simp] theorem State.updHost_dispFlip (s : State) (h : Nat) (f : HostTgt → HostTgt) : (State.updHost s h f).dispFlip = s.dispFlip := rfl
@[simp] theorem State.updHost_dispMode (s : State) (h : Nat) (f : HostTgt → HostTgt) : (State.updHost s h f).dispMode = s.dispMode := rfl
@[simp] theorem State.updHost_dispOff (s : State) (h : Nat) (f : HostTgt → HostTgt) : (State.updHost s h f).dispOff = s.dispOff := rfl
@[simp] theorem State.updHost_dispLast (s : State) (h : Nat) (f : HostTgt → HostTgt) : (State.updHost s h f).dispLast = s.dispLast := rfl
@[simp] theorem State.updHost_flash (s : State) (h : Nat) (f : HostTgt → HostTgt) : (State.updHost s h f).flash = s.flash := rfl
@[simp] theorem State.updHost_tallyMod (s : State) (h : Nat) (f : HostTgt → HostTgt) : (State.updHost s h f).tallyMod = s.tallyMod := rfl
@[simp] theorem State.updHost_tallyCol (s : State) (h : Nat) (f : HostTgt → HostTgt) : (State.updHost s h f).tallyCol = s.tallyCol := rfl
@[simp] theorem State.updHost_tallyRest (s : State) (h : Nat) (f : HostTgt → HostTgt) : (State.updHost s h f).tallyRest = s.tallyRest := rfl
@[simp] theorem State.updHost_free (s : State) (h : Nat) (f : HostTgt → HostTgt) : (State.updHost s h f).free = s.free := rfl
@[simp] theorem State.updHost_pending (s : State) (h : Nat) (f : HostTgt → HostTgt) : (State.updHost s h f).pending = s.pending := rfl
@[simp] theorem State.returns_part (s : State) (v : Nat) : (State.returns s v).part = s.part := rfl
@[simp] theorem State.returns_time (s : State) (v : Nat) : (State.returns s v).time = s.time := rfl
@[simp] theorem State.returns_tiles (s : State) (v : Nat) : (State.returns s v).tiles = s.tiles := rfl
@[simp] theorem State.returns_linkUp (s : State) (v : Nat) : (State.returns s v).linkUp = s.linkUp := rfl
@[simp] theorem State.returns_hops (s : State) (v : Nat) : (State.returns s v).hops = s.hops := rfl
@[simp] theorem State.returns_lead (s : State) (v : Nat) : (State.returns s v).lead = s.lead := rfl
@[simp] theorem State.returns_qen (s : State) (v : Nat) : (State.returns s v).qen = s.qen := rfl
@[simp] theorem State.returns_evh (s : State) (v : Nat) : (State.returns s v).evh = s.evh := rfl
@[simp] theorem State.returns_host (s : State) (v : Nat) : (State.returns s v).host = s.host := rfl
@[simp] theorem State.returns_smbNack (s : State) (v : Nat) : (State.returns s v).smbNack = s.smbNack := rfl
@[simp] theorem State.returns_smbAlert (s : State) (v : Nat) : (State.returns s v).smbAlert = s.smbAlert := rfl
@[simp] theorem State.returns_extest (s : State) (v : Nat) : (State.returns s v).extest = s.extest := rfl
@[simp] theorem State.returns_job (s : State) (v : Nat) : (State.returns s v).job = s.job := rfl
@[simp] theorem State.returns_stores (s : State) (v : Nat) : (State.returns s v).stores = s.stores := rfl
@[simp] theorem State.returns_marks (s : State) (v : Nat) : (State.returns s v).marks = s.marks := rfl
@[simp] theorem State.returns_motion (s : State) (v : Nat) : (State.returns s v).motion = s.motion := rfl
@[simp] theorem State.returns_colour (s : State) (v : Nat) : (State.returns s v).colour = s.colour := rfl
@[simp] theorem State.returns_link (s : State) (v : Nat) : (State.returns s v).link = s.link := rfl
@[simp] theorem State.returns_dsp (s : State) (v : Nat) : (State.returns s v).dsp = s.dsp := rfl
@[simp] theorem State.returns_dispFlip (s : State) (v : Nat) : (State.returns s v).dispFlip = s.dispFlip := rfl
@[simp] theorem State.returns_dispMode (s : State) (v : Nat) : (State.returns s v).dispMode = s.dispMode := rfl
@[simp] theorem State.returns_dispOff (s : State) (v : Nat) : (State.returns s v).dispOff = s.dispOff := rfl
@[simp] theorem State.returns_dispLast (s : State) (v : Nat) : (State.returns s v).dispLast = s.dispLast := rfl
@[simp] theorem State.returns_flash (s : State) (v : Nat) : (State.returns s v).flash = s.flash := rfl
@[simp] theorem State.returns_tallyMod (s : State) (v : Nat) : (State.returns s v).tallyMod = s.tallyMod := rfl
@[simp] theorem State.returns_tallyCol (s : State) (v : Nat) : (State.returns s v).tallyCol = s.tallyCol := rfl
@[simp] theorem State.returns_tallyRest (s : State) (v : Nat) : (State.returns s v).tallyRest = s.tallyRest := rfl
@[simp] theorem State.returns_free (s : State) (v : Nat) : (State.returns s v).free = s.free := rfl
@[simp] theorem State.returns_pending (s : State) (v : Nat) : (State.returns s v).pending = s.pending := rfl
@[simp] theorem State.updDport_part (s : State) (p : Nat) (f : DspPort → DspPort) : (State.updDport s p f).part = s.part := rfl
@[simp] theorem State.updDport_time (s : State) (p : Nat) (f : DspPort → DspPort) : (State.updDport s p f).time = s.time := rfl
@[simp] theorem State.updDport_tiles (s : State) (p : Nat) (f : DspPort → DspPort) : (State.updDport s p f).tiles = s.tiles := rfl
@[simp] theorem State.updDport_linkUp (s : State) (p : Nat) (f : DspPort → DspPort) : (State.updDport s p f).linkUp = s.linkUp := rfl
@[simp] theorem State.updDport_hops (s : State) (p : Nat) (f : DspPort → DspPort) : (State.updDport s p f).hops = s.hops := rfl
@[simp] theorem State.updDport_lead (s : State) (p : Nat) (f : DspPort → DspPort) : (State.updDport s p f).lead = s.lead := rfl
@[simp] theorem State.updDport_qen (s : State) (p : Nat) (f : DspPort → DspPort) : (State.updDport s p f).qen = s.qen := rfl
@[simp] theorem State.updDport_evh (s : State) (p : Nat) (f : DspPort → DspPort) : (State.updDport s p f).evh = s.evh := rfl
@[simp] theorem State.updDport_host (s : State) (p : Nat) (f : DspPort → DspPort) : (State.updDport s p f).host = s.host := rfl
@[simp] theorem State.updDport_busRead (s : State) (p : Nat) (f : DspPort → DspPort) : (State.updDport s p f).busRead = s.busRead := rfl
@[simp] theorem State.updDport_smbNack (s : State) (p : Nat) (f : DspPort → DspPort) : (State.updDport s p f).smbNack = s.smbNack := rfl
@[simp] theorem State.updDport_smbAlert (s : State) (p : Nat) (f : DspPort → DspPort) : (State.updDport s p f).smbAlert = s.smbAlert := rfl
@[simp] theorem State.updDport_extest (s : State) (p : Nat) (f : DspPort → DspPort) : (State.updDport s p f).extest = s.extest := rfl
@[simp] theorem State.updDport_job (s : State) (p : Nat) (f : DspPort → DspPort) : (State.updDport s p f).job = s.job := rfl
@[simp] theorem State.updDport_stores (s : State) (p : Nat) (f : DspPort → DspPort) : (State.updDport s p f).stores = s.stores := rfl
@[simp] theorem State.updDport_marks (s : State) (p : Nat) (f : DspPort → DspPort) : (State.updDport s p f).marks = s.marks := rfl
@[simp] theorem State.updDport_motion (s : State) (p : Nat) (f : DspPort → DspPort) : (State.updDport s p f).motion = s.motion := rfl
@[simp] theorem State.updDport_colour (s : State) (p : Nat) (f : DspPort → DspPort) : (State.updDport s p f).colour = s.colour := rfl
@[simp] theorem State.updDport_link (s : State) (p : Nat) (f : DspPort → DspPort) : (State.updDport s p f).link = s.link := rfl
@[simp] theorem State.updDport_dispFlip (s : State) (p : Nat) (f : DspPort → DspPort) : (State.updDport s p f).dispFlip = s.dispFlip := rfl
@[simp] theorem State.updDport_dispMode (s : State) (p : Nat) (f : DspPort → DspPort) : (State.updDport s p f).dispMode = s.dispMode := rfl
@[simp] theorem State.updDport_dispOff (s : State) (p : Nat) (f : DspPort → DspPort) : (State.updDport s p f).dispOff = s.dispOff := rfl
@[simp] theorem State.updDport_dispLast (s : State) (p : Nat) (f : DspPort → DspPort) : (State.updDport s p f).dispLast = s.dispLast := rfl
@[simp] theorem State.updDport_flash (s : State) (p : Nat) (f : DspPort → DspPort) : (State.updDport s p f).flash = s.flash := rfl
@[simp] theorem State.updDport_tallyMod (s : State) (p : Nat) (f : DspPort → DspPort) : (State.updDport s p f).tallyMod = s.tallyMod := rfl
@[simp] theorem State.updDport_tallyCol (s : State) (p : Nat) (f : DspPort → DspPort) : (State.updDport s p f).tallyCol = s.tallyCol := rfl
@[simp] theorem State.updDport_tallyRest (s : State) (p : Nat) (f : DspPort → DspPort) : (State.updDport s p f).tallyRest = s.tallyRest := rfl
@[simp] theorem State.updDport_free (s : State) (p : Nat) (f : DspPort → DspPort) : (State.updDport s p f).free = s.free := rfl
@[simp] theorem State.updDport_pending (s : State) (p : Nat) (f : DspPort → DspPort) : (State.updDport s p f).pending = s.pending := rfl
@[simp] theorem State.raiseAt_part (s : State) (t : Tile) (src : Nat) (tick : Nat) (data : List Nat) : (State.raiseAt s t src tick data).part = s.part := rfl
@[simp] theorem State.raiseAt_time (s : State) (t : Tile) (src : Nat) (tick : Nat) (data : List Nat) : (State.raiseAt s t src tick data).time = s.time := rfl
@[simp] theorem State.raiseAt_linkUp (s : State) (t : Tile) (src : Nat) (tick : Nat) (data : List Nat) : (State.raiseAt s t src tick data).linkUp = s.linkUp := rfl
@[simp] theorem State.raiseAt_hops (s : State) (t : Tile) (src : Nat) (tick : Nat) (data : List Nat) : (State.raiseAt s t src tick data).hops = s.hops := rfl
@[simp] theorem State.raiseAt_lead (s : State) (t : Tile) (src : Nat) (tick : Nat) (data : List Nat) : (State.raiseAt s t src tick data).lead = s.lead := rfl
@[simp] theorem State.raiseAt_qen (s : State) (t : Tile) (src : Nat) (tick : Nat) (data : List Nat) : (State.raiseAt s t src tick data).qen = s.qen := rfl
@[simp] theorem State.raiseAt_evh (s : State) (t : Tile) (src : Nat) (tick : Nat) (data : List Nat) : (State.raiseAt s t src tick data).evh = s.evh := rfl
@[simp] theorem State.raiseAt_host (s : State) (t : Tile) (src : Nat) (tick : Nat) (data : List Nat) : (State.raiseAt s t src tick data).host = s.host := rfl
@[simp] theorem State.raiseAt_busRead (s : State) (t : Tile) (src : Nat) (tick : Nat) (data : List Nat) : (State.raiseAt s t src tick data).busRead = s.busRead := rfl
@[simp] theorem State.raiseAt_smbNack (s : State) (t : Tile) (src : Nat) (tick : Nat) (data : List Nat) : (State.raiseAt s t src tick data).smbNack = s.smbNack := rfl
@[simp] theorem State.raiseAt_smbAlert (s : State) (t : Tile) (src : Nat) (tick : Nat) (data : List Nat) : (State.raiseAt s t src tick data).smbAlert = s.smbAlert := rfl
@[simp] theorem State.raiseAt_extest (s : State) (t : Tile) (src : Nat) (tick : Nat) (data : List Nat) : (State.raiseAt s t src tick data).extest = s.extest := rfl
@[simp] theorem State.raiseAt_job (s : State) (t : Tile) (src : Nat) (tick : Nat) (data : List Nat) : (State.raiseAt s t src tick data).job = s.job := rfl
@[simp] theorem State.raiseAt_stores (s : State) (t : Tile) (src : Nat) (tick : Nat) (data : List Nat) : (State.raiseAt s t src tick data).stores = s.stores := rfl
@[simp] theorem State.raiseAt_marks (s : State) (t : Tile) (src : Nat) (tick : Nat) (data : List Nat) : (State.raiseAt s t src tick data).marks = s.marks := rfl
@[simp] theorem State.raiseAt_motion (s : State) (t : Tile) (src : Nat) (tick : Nat) (data : List Nat) : (State.raiseAt s t src tick data).motion = s.motion := rfl
@[simp] theorem State.raiseAt_colour (s : State) (t : Tile) (src : Nat) (tick : Nat) (data : List Nat) : (State.raiseAt s t src tick data).colour = s.colour := rfl
@[simp] theorem State.raiseAt_link (s : State) (t : Tile) (src : Nat) (tick : Nat) (data : List Nat) : (State.raiseAt s t src tick data).link = s.link := rfl
@[simp] theorem State.raiseAt_dsp (s : State) (t : Tile) (src : Nat) (tick : Nat) (data : List Nat) : (State.raiseAt s t src tick data).dsp = s.dsp := rfl
@[simp] theorem State.raiseAt_dispFlip (s : State) (t : Tile) (src : Nat) (tick : Nat) (data : List Nat) : (State.raiseAt s t src tick data).dispFlip = s.dispFlip := rfl
@[simp] theorem State.raiseAt_dispMode (s : State) (t : Tile) (src : Nat) (tick : Nat) (data : List Nat) : (State.raiseAt s t src tick data).dispMode = s.dispMode := rfl
@[simp] theorem State.raiseAt_dispOff (s : State) (t : Tile) (src : Nat) (tick : Nat) (data : List Nat) : (State.raiseAt s t src tick data).dispOff = s.dispOff := rfl
@[simp] theorem State.raiseAt_dispLast (s : State) (t : Tile) (src : Nat) (tick : Nat) (data : List Nat) : (State.raiseAt s t src tick data).dispLast = s.dispLast := rfl
@[simp] theorem State.raiseAt_flash (s : State) (t : Tile) (src : Nat) (tick : Nat) (data : List Nat) : (State.raiseAt s t src tick data).flash = s.flash := rfl
@[simp] theorem State.raiseAt_tallyMod (s : State) (t : Tile) (src : Nat) (tick : Nat) (data : List Nat) : (State.raiseAt s t src tick data).tallyMod = s.tallyMod := rfl
@[simp] theorem State.raiseAt_tallyCol (s : State) (t : Tile) (src : Nat) (tick : Nat) (data : List Nat) : (State.raiseAt s t src tick data).tallyCol = s.tallyCol := rfl
@[simp] theorem State.raiseAt_tallyRest (s : State) (t : Tile) (src : Nat) (tick : Nat) (data : List Nat) : (State.raiseAt s t src tick data).tallyRest = s.tallyRest := rfl
@[simp] theorem State.raiseAt_free (s : State) (t : Tile) (src : Nat) (tick : Nat) (data : List Nat) : (State.raiseAt s t src tick data).free = s.free := rfl
@[simp] theorem State.raiseAt_pending (s : State) (t : Tile) (src : Nat) (tick : Nat) (data : List Nat) : (State.raiseAt s t src tick data).pending = s.pending := rfl
@[simp] theorem State.raise_part (s : State) (t : Tile) (src : Nat) (data : List Nat) : (State.raise s t src data).part = s.part := rfl
@[simp] theorem State.raise_time (s : State) (t : Tile) (src : Nat) (data : List Nat) : (State.raise s t src data).time = s.time := rfl
@[simp] theorem State.raise_linkUp (s : State) (t : Tile) (src : Nat) (data : List Nat) : (State.raise s t src data).linkUp = s.linkUp := rfl
@[simp] theorem State.raise_hops (s : State) (t : Tile) (src : Nat) (data : List Nat) : (State.raise s t src data).hops = s.hops := rfl
@[simp] theorem State.raise_lead (s : State) (t : Tile) (src : Nat) (data : List Nat) : (State.raise s t src data).lead = s.lead := rfl
@[simp] theorem State.raise_qen (s : State) (t : Tile) (src : Nat) (data : List Nat) : (State.raise s t src data).qen = s.qen := rfl
@[simp] theorem State.raise_evh (s : State) (t : Tile) (src : Nat) (data : List Nat) : (State.raise s t src data).evh = s.evh := rfl
@[simp] theorem State.raise_host (s : State) (t : Tile) (src : Nat) (data : List Nat) : (State.raise s t src data).host = s.host := rfl
@[simp] theorem State.raise_busRead (s : State) (t : Tile) (src : Nat) (data : List Nat) : (State.raise s t src data).busRead = s.busRead := rfl
@[simp] theorem State.raise_smbNack (s : State) (t : Tile) (src : Nat) (data : List Nat) : (State.raise s t src data).smbNack = s.smbNack := rfl
@[simp] theorem State.raise_smbAlert (s : State) (t : Tile) (src : Nat) (data : List Nat) : (State.raise s t src data).smbAlert = s.smbAlert := rfl
@[simp] theorem State.raise_extest (s : State) (t : Tile) (src : Nat) (data : List Nat) : (State.raise s t src data).extest = s.extest := rfl
@[simp] theorem State.raise_job (s : State) (t : Tile) (src : Nat) (data : List Nat) : (State.raise s t src data).job = s.job := rfl
@[simp] theorem State.raise_stores (s : State) (t : Tile) (src : Nat) (data : List Nat) : (State.raise s t src data).stores = s.stores := rfl
@[simp] theorem State.raise_marks (s : State) (t : Tile) (src : Nat) (data : List Nat) : (State.raise s t src data).marks = s.marks := rfl
@[simp] theorem State.raise_motion (s : State) (t : Tile) (src : Nat) (data : List Nat) : (State.raise s t src data).motion = s.motion := rfl
@[simp] theorem State.raise_colour (s : State) (t : Tile) (src : Nat) (data : List Nat) : (State.raise s t src data).colour = s.colour := rfl
@[simp] theorem State.raise_link (s : State) (t : Tile) (src : Nat) (data : List Nat) : (State.raise s t src data).link = s.link := rfl
@[simp] theorem State.raise_dsp (s : State) (t : Tile) (src : Nat) (data : List Nat) : (State.raise s t src data).dsp = s.dsp := rfl
@[simp] theorem State.raise_dispFlip (s : State) (t : Tile) (src : Nat) (data : List Nat) : (State.raise s t src data).dispFlip = s.dispFlip := rfl
@[simp] theorem State.raise_dispMode (s : State) (t : Tile) (src : Nat) (data : List Nat) : (State.raise s t src data).dispMode = s.dispMode := rfl
@[simp] theorem State.raise_dispOff (s : State) (t : Tile) (src : Nat) (data : List Nat) : (State.raise s t src data).dispOff = s.dispOff := rfl
@[simp] theorem State.raise_dispLast (s : State) (t : Tile) (src : Nat) (data : List Nat) : (State.raise s t src data).dispLast = s.dispLast := rfl
@[simp] theorem State.raise_flash (s : State) (t : Tile) (src : Nat) (data : List Nat) : (State.raise s t src data).flash = s.flash := rfl
@[simp] theorem State.raise_tallyMod (s : State) (t : Tile) (src : Nat) (data : List Nat) : (State.raise s t src data).tallyMod = s.tallyMod := rfl
@[simp] theorem State.raise_tallyCol (s : State) (t : Tile) (src : Nat) (data : List Nat) : (State.raise s t src data).tallyCol = s.tallyCol := rfl
@[simp] theorem State.raise_tallyRest (s : State) (t : Tile) (src : Nat) (data : List Nat) : (State.raise s t src data).tallyRest = s.tallyRest := rfl
@[simp] theorem State.raise_free (s : State) (t : Tile) (src : Nat) (data : List Nat) : (State.raise s t src data).free = s.free := rfl
@[simp] theorem State.raise_pending (s : State) (t : Tile) (src : Nat) (data : List Nat) : (State.raise s t src data).pending = s.pending := rfl
@[simp] theorem State.raiseN_part (s : State) (n : Nat) (src : Nat) (data : List Nat) : (State.raiseN s n src data).part = s.part := rfl
@[simp] theorem State.raiseN_time (s : State) (n : Nat) (src : Nat) (data : List Nat) : (State.raiseN s n src data).time = s.time := rfl
@[simp] theorem State.raiseN_linkUp (s : State) (n : Nat) (src : Nat) (data : List Nat) : (State.raiseN s n src data).linkUp = s.linkUp := rfl
@[simp] theorem State.raiseN_hops (s : State) (n : Nat) (src : Nat) (data : List Nat) : (State.raiseN s n src data).hops = s.hops := rfl
@[simp] theorem State.raiseN_lead (s : State) (n : Nat) (src : Nat) (data : List Nat) : (State.raiseN s n src data).lead = s.lead := rfl
@[simp] theorem State.raiseN_qen (s : State) (n : Nat) (src : Nat) (data : List Nat) : (State.raiseN s n src data).qen = s.qen := rfl
@[simp] theorem State.raiseN_evh (s : State) (n : Nat) (src : Nat) (data : List Nat) : (State.raiseN s n src data).evh = s.evh := rfl
@[simp] theorem State.raiseN_host (s : State) (n : Nat) (src : Nat) (data : List Nat) : (State.raiseN s n src data).host = s.host := rfl
@[simp] theorem State.raiseN_busRead (s : State) (n : Nat) (src : Nat) (data : List Nat) : (State.raiseN s n src data).busRead = s.busRead := rfl
@[simp] theorem State.raiseN_smbNack (s : State) (n : Nat) (src : Nat) (data : List Nat) : (State.raiseN s n src data).smbNack = s.smbNack := rfl
@[simp] theorem State.raiseN_smbAlert (s : State) (n : Nat) (src : Nat) (data : List Nat) : (State.raiseN s n src data).smbAlert = s.smbAlert := rfl
@[simp] theorem State.raiseN_extest (s : State) (n : Nat) (src : Nat) (data : List Nat) : (State.raiseN s n src data).extest = s.extest := rfl
@[simp] theorem State.raiseN_job (s : State) (n : Nat) (src : Nat) (data : List Nat) : (State.raiseN s n src data).job = s.job := rfl
@[simp] theorem State.raiseN_stores (s : State) (n : Nat) (src : Nat) (data : List Nat) : (State.raiseN s n src data).stores = s.stores := rfl
@[simp] theorem State.raiseN_marks (s : State) (n : Nat) (src : Nat) (data : List Nat) : (State.raiseN s n src data).marks = s.marks := rfl
@[simp] theorem State.raiseN_motion (s : State) (n : Nat) (src : Nat) (data : List Nat) : (State.raiseN s n src data).motion = s.motion := rfl
@[simp] theorem State.raiseN_colour (s : State) (n : Nat) (src : Nat) (data : List Nat) : (State.raiseN s n src data).colour = s.colour := rfl
@[simp] theorem State.raiseN_link (s : State) (n : Nat) (src : Nat) (data : List Nat) : (State.raiseN s n src data).link = s.link := rfl
@[simp] theorem State.raiseN_dsp (s : State) (n : Nat) (src : Nat) (data : List Nat) : (State.raiseN s n src data).dsp = s.dsp := rfl
@[simp] theorem State.raiseN_dispFlip (s : State) (n : Nat) (src : Nat) (data : List Nat) : (State.raiseN s n src data).dispFlip = s.dispFlip := rfl
@[simp] theorem State.raiseN_dispMode (s : State) (n : Nat) (src : Nat) (data : List Nat) : (State.raiseN s n src data).dispMode = s.dispMode := rfl
@[simp] theorem State.raiseN_dispOff (s : State) (n : Nat) (src : Nat) (data : List Nat) : (State.raiseN s n src data).dispOff = s.dispOff := rfl
@[simp] theorem State.raiseN_dispLast (s : State) (n : Nat) (src : Nat) (data : List Nat) : (State.raiseN s n src data).dispLast = s.dispLast := rfl
@[simp] theorem State.raiseN_flash (s : State) (n : Nat) (src : Nat) (data : List Nat) : (State.raiseN s n src data).flash = s.flash := rfl
@[simp] theorem State.raiseN_tallyMod (s : State) (n : Nat) (src : Nat) (data : List Nat) : (State.raiseN s n src data).tallyMod = s.tallyMod := rfl
@[simp] theorem State.raiseN_tallyCol (s : State) (n : Nat) (src : Nat) (data : List Nat) : (State.raiseN s n src data).tallyCol = s.tallyCol := rfl
@[simp] theorem State.raiseN_tallyRest (s : State) (n : Nat) (src : Nat) (data : List Nat) : (State.raiseN s n src data).tallyRest = s.tallyRest := rfl
@[simp] theorem State.raiseN_free (s : State) (n : Nat) (src : Nat) (data : List Nat) : (State.raiseN s n src data).free = s.free := rfl
@[simp] theorem State.raiseN_pending (s : State) (n : Nat) (src : Nat) (data : List Nat) : (State.raiseN s n src data).pending = s.pending := rfl
@[simp] theorem State.raiseLead_part (s : State) (src : Nat) (data : List Nat) : (State.raiseLead s src data).part = s.part := rfl
@[simp] theorem State.raiseLead_time (s : State) (src : Nat) (data : List Nat) : (State.raiseLead s src data).time = s.time := rfl
@[simp] theorem State.raiseLead_linkUp (s : State) (src : Nat) (data : List Nat) : (State.raiseLead s src data).linkUp = s.linkUp := rfl
@[simp] theorem State.raiseLead_hops (s : State) (src : Nat) (data : List Nat) : (State.raiseLead s src data).hops = s.hops := rfl
@[simp] theorem State.raiseLead_lead (s : State) (src : Nat) (data : List Nat) : (State.raiseLead s src data).lead = s.lead := rfl
@[simp] theorem State.raiseLead_qen (s : State) (src : Nat) (data : List Nat) : (State.raiseLead s src data).qen = s.qen := rfl
@[simp] theorem State.raiseLead_evh (s : State) (src : Nat) (data : List Nat) : (State.raiseLead s src data).evh = s.evh := rfl
@[simp] theorem State.raiseLead_host (s : State) (src : Nat) (data : List Nat) : (State.raiseLead s src data).host = s.host := rfl
@[simp] theorem State.raiseLead_busRead (s : State) (src : Nat) (data : List Nat) : (State.raiseLead s src data).busRead = s.busRead := rfl
@[simp] theorem State.raiseLead_smbNack (s : State) (src : Nat) (data : List Nat) : (State.raiseLead s src data).smbNack = s.smbNack := rfl
@[simp] theorem State.raiseLead_smbAlert (s : State) (src : Nat) (data : List Nat) : (State.raiseLead s src data).smbAlert = s.smbAlert := rfl
@[simp] theorem State.raiseLead_extest (s : State) (src : Nat) (data : List Nat) : (State.raiseLead s src data).extest = s.extest := rfl
@[simp] theorem State.raiseLead_job (s : State) (src : Nat) (data : List Nat) : (State.raiseLead s src data).job = s.job := rfl
@[simp] theorem State.raiseLead_stores (s : State) (src : Nat) (data : List Nat) : (State.raiseLead s src data).stores = s.stores := rfl
@[simp] theorem State.raiseLead_marks (s : State) (src : Nat) (data : List Nat) : (State.raiseLead s src data).marks = s.marks := rfl
@[simp] theorem State.raiseLead_motion (s : State) (src : Nat) (data : List Nat) : (State.raiseLead s src data).motion = s.motion := rfl
@[simp] theorem State.raiseLead_colour (s : State) (src : Nat) (data : List Nat) : (State.raiseLead s src data).colour = s.colour := rfl
@[simp] theorem State.raiseLead_link (s : State) (src : Nat) (data : List Nat) : (State.raiseLead s src data).link = s.link := rfl
@[simp] theorem State.raiseLead_dsp (s : State) (src : Nat) (data : List Nat) : (State.raiseLead s src data).dsp = s.dsp := rfl
@[simp] theorem State.raiseLead_dispFlip (s : State) (src : Nat) (data : List Nat) : (State.raiseLead s src data).dispFlip = s.dispFlip := rfl
@[simp] theorem State.raiseLead_dispMode (s : State) (src : Nat) (data : List Nat) : (State.raiseLead s src data).dispMode = s.dispMode := rfl
@[simp] theorem State.raiseLead_dispOff (s : State) (src : Nat) (data : List Nat) : (State.raiseLead s src data).dispOff = s.dispOff := rfl
@[simp] theorem State.raiseLead_dispLast (s : State) (src : Nat) (data : List Nat) : (State.raiseLead s src data).dispLast = s.dispLast := rfl
@[simp] theorem State.raiseLead_flash (s : State) (src : Nat) (data : List Nat) : (State.raiseLead s src data).flash = s.flash := rfl
@[simp] theorem State.raiseLead_tallyMod (s : State) (src : Nat) (data : List Nat) : (State.raiseLead s src data).tallyMod = s.tallyMod := rfl
@[simp] theorem State.raiseLead_tallyCol (s : State) (src : Nat) (data : List Nat) : (State.raiseLead s src data).tallyCol = s.tallyCol := rfl
@[simp] theorem State.raiseLead_tallyRest (s : State) (src : Nat) (data : List Nat) : (State.raiseLead s src data).tallyRest = s.tallyRest := rfl
@[simp] theorem State.raiseLead_free (s : State) (src : Nat) (data : List Nat) : (State.raiseLead s src data).free = s.free := rfl
@[simp] theorem State.raiseLead_pending (s : State) (src : Nat) (data : List Nat) : (State.raiseLead s src data).pending = s.pending := rfl
@[simp] theorem State.raiseMot_part (s : State) (src : Nat) (data : List Nat) : (State.raiseMot s src data).part = s.part := rfl
@[simp] theorem State.raiseMot_time (s : State) (src : Nat) (data : List Nat) : (State.raiseMot s src data).time = s.time := rfl
@[simp] theorem State.raiseMot_linkUp (s : State) (src : Nat) (data : List Nat) : (State.raiseMot s src data).linkUp = s.linkUp := rfl
@[simp] theorem State.raiseMot_hops (s : State) (src : Nat) (data : List Nat) : (State.raiseMot s src data).hops = s.hops := rfl
@[simp] theorem State.raiseMot_lead (s : State) (src : Nat) (data : List Nat) : (State.raiseMot s src data).lead = s.lead := rfl
@[simp] theorem State.raiseMot_qen (s : State) (src : Nat) (data : List Nat) : (State.raiseMot s src data).qen = s.qen := rfl
@[simp] theorem State.raiseMot_evh (s : State) (src : Nat) (data : List Nat) : (State.raiseMot s src data).evh = s.evh := rfl
@[simp] theorem State.raiseMot_host (s : State) (src : Nat) (data : List Nat) : (State.raiseMot s src data).host = s.host := rfl
@[simp] theorem State.raiseMot_busRead (s : State) (src : Nat) (data : List Nat) : (State.raiseMot s src data).busRead = s.busRead := rfl
@[simp] theorem State.raiseMot_smbNack (s : State) (src : Nat) (data : List Nat) : (State.raiseMot s src data).smbNack = s.smbNack := rfl
@[simp] theorem State.raiseMot_smbAlert (s : State) (src : Nat) (data : List Nat) : (State.raiseMot s src data).smbAlert = s.smbAlert := rfl
@[simp] theorem State.raiseMot_extest (s : State) (src : Nat) (data : List Nat) : (State.raiseMot s src data).extest = s.extest := rfl
@[simp] theorem State.raiseMot_job (s : State) (src : Nat) (data : List Nat) : (State.raiseMot s src data).job = s.job := rfl
@[simp] theorem State.raiseMot_stores (s : State) (src : Nat) (data : List Nat) : (State.raiseMot s src data).stores = s.stores := rfl
@[simp] theorem State.raiseMot_marks (s : State) (src : Nat) (data : List Nat) : (State.raiseMot s src data).marks = s.marks := rfl
@[simp] theorem State.raiseMot_motion (s : State) (src : Nat) (data : List Nat) : (State.raiseMot s src data).motion = s.motion := rfl
@[simp] theorem State.raiseMot_colour (s : State) (src : Nat) (data : List Nat) : (State.raiseMot s src data).colour = s.colour := rfl
@[simp] theorem State.raiseMot_link (s : State) (src : Nat) (data : List Nat) : (State.raiseMot s src data).link = s.link := rfl
@[simp] theorem State.raiseMot_dsp (s : State) (src : Nat) (data : List Nat) : (State.raiseMot s src data).dsp = s.dsp := rfl
@[simp] theorem State.raiseMot_dispFlip (s : State) (src : Nat) (data : List Nat) : (State.raiseMot s src data).dispFlip = s.dispFlip := rfl
@[simp] theorem State.raiseMot_dispMode (s : State) (src : Nat) (data : List Nat) : (State.raiseMot s src data).dispMode = s.dispMode := rfl
@[simp] theorem State.raiseMot_dispOff (s : State) (src : Nat) (data : List Nat) : (State.raiseMot s src data).dispOff = s.dispOff := rfl
@[simp] theorem State.raiseMot_dispLast (s : State) (src : Nat) (data : List Nat) : (State.raiseMot s src data).dispLast = s.dispLast := rfl
@[simp] theorem State.raiseMot_flash (s : State) (src : Nat) (data : List Nat) : (State.raiseMot s src data).flash = s.flash := rfl
@[simp] theorem State.raiseMot_tallyMod (s : State) (src : Nat) (data : List Nat) : (State.raiseMot s src data).tallyMod = s.tallyMod := rfl
@[simp] theorem State.raiseMot_tallyCol (s : State) (src : Nat) (data : List Nat) : (State.raiseMot s src data).tallyCol = s.tallyCol := rfl
@[simp] theorem State.raiseMot_tallyRest (s : State) (src : Nat) (data : List Nat) : (State.raiseMot s src data).tallyRest = s.tallyRest := rfl
@[simp] theorem State.raiseMot_free (s : State) (src : Nat) (data : List Nat) : (State.raiseMot s src data).free = s.free := rfl
@[simp] theorem State.raiseMot_pending (s : State) (src : Nat) (data : List Nat) : (State.raiseMot s src data).pending = s.pending := rfl
@[simp] theorem State.updServo_part (s : State) (h : Hop) (f : Servo → Servo) : (State.updServo s h f).part = s.part := rfl
@[simp] theorem State.updServo_time (s : State) (h : Hop) (f : Servo → Servo) : (State.updServo s h f).time = s.time := rfl
@[simp] theorem State.updServo_tiles (s : State) (h : Hop) (f : Servo → Servo) : (State.updServo s h f).tiles = s.tiles := rfl
@[simp] theorem State.updServo_linkUp (s : State) (h : Hop) (f : Servo → Servo) : (State.updServo s h f).linkUp = s.linkUp := rfl
@[simp] theorem State.updServo_hops (s : State) (h : Hop) (f : Servo → Servo) : (State.updServo s h f).hops = s.hops := rfl
@[simp] theorem State.updServo_lead (s : State) (h : Hop) (f : Servo → Servo) : (State.updServo s h f).lead = s.lead := rfl
@[simp] theorem State.updServo_qen (s : State) (h : Hop) (f : Servo → Servo) : (State.updServo s h f).qen = s.qen := rfl
@[simp] theorem State.updServo_evh (s : State) (h : Hop) (f : Servo → Servo) : (State.updServo s h f).evh = s.evh := rfl
@[simp] theorem State.updServo_host (s : State) (h : Hop) (f : Servo → Servo) : (State.updServo s h f).host = s.host := rfl
@[simp] theorem State.updServo_busRead (s : State) (h : Hop) (f : Servo → Servo) : (State.updServo s h f).busRead = s.busRead := rfl
@[simp] theorem State.updServo_smbNack (s : State) (h : Hop) (f : Servo → Servo) : (State.updServo s h f).smbNack = s.smbNack := rfl
@[simp] theorem State.updServo_smbAlert (s : State) (h : Hop) (f : Servo → Servo) : (State.updServo s h f).smbAlert = s.smbAlert := rfl
@[simp] theorem State.updServo_extest (s : State) (h : Hop) (f : Servo → Servo) : (State.updServo s h f).extest = s.extest := rfl
@[simp] theorem State.updServo_job (s : State) (h : Hop) (f : Servo → Servo) : (State.updServo s h f).job = s.job := rfl
@[simp] theorem State.updServo_stores (s : State) (h : Hop) (f : Servo → Servo) : (State.updServo s h f).stores = s.stores := rfl
@[simp] theorem State.updServo_marks (s : State) (h : Hop) (f : Servo → Servo) : (State.updServo s h f).marks = s.marks := rfl
@[simp] theorem State.updServo_motion (s : State) (h : Hop) (f : Servo → Servo) : (State.updServo s h f).motion = s.motion := rfl
@[simp] theorem State.updServo_colour (s : State) (h : Hop) (f : Servo → Servo) : (State.updServo s h f).colour = s.colour := rfl
@[simp] theorem State.updServo_dsp (s : State) (h : Hop) (f : Servo → Servo) : (State.updServo s h f).dsp = s.dsp := rfl
@[simp] theorem State.updServo_dispFlip (s : State) (h : Hop) (f : Servo → Servo) : (State.updServo s h f).dispFlip = s.dispFlip := rfl
@[simp] theorem State.updServo_dispMode (s : State) (h : Hop) (f : Servo → Servo) : (State.updServo s h f).dispMode = s.dispMode := rfl
@[simp] theorem State.updServo_dispOff (s : State) (h : Hop) (f : Servo → Servo) : (State.updServo s h f).dispOff = s.dispOff := rfl
@[simp] theorem State.updServo_dispLast (s : State) (h : Hop) (f : Servo → Servo) : (State.updServo s h f).dispLast = s.dispLast := rfl
@[simp] theorem State.updServo_flash (s : State) (h : Hop) (f : Servo → Servo) : (State.updServo s h f).flash = s.flash := rfl
@[simp] theorem State.updServo_tallyMod (s : State) (h : Hop) (f : Servo → Servo) : (State.updServo s h f).tallyMod = s.tallyMod := rfl
@[simp] theorem State.updServo_tallyCol (s : State) (h : Hop) (f : Servo → Servo) : (State.updServo s h f).tallyCol = s.tallyCol := rfl
@[simp] theorem State.updServo_tallyRest (s : State) (h : Hop) (f : Servo → Servo) : (State.updServo s h f).tallyRest = s.tallyRest := rfl
@[simp] theorem State.updServo_free (s : State) (h : Hop) (f : Servo → Servo) : (State.updServo s h f).free = s.free := rfl
@[simp] theorem State.updServo_pending (s : State) (h : Hop) (f : Servo → Servo) : (State.updServo s h f).pending = s.pending := rfl
@[simp] theorem State.updEvr_part (s : State) (t : Nat) (f : Evr → Evr) : (State.updEvr s t f).part = s.part := rfl
@[simp] theorem State.updEvr_time (s : State) (t : Nat) (f : Evr → Evr) : (State.updEvr s t f).time = s.time := rfl
@[simp] theorem State.updEvr_linkUp (s : State) (t : Nat) (f : Evr → Evr) : (State.updEvr s t f).linkUp = s.linkUp := rfl
@[simp] theorem State.updEvr_hops (s : State) (t : Nat) (f : Evr → Evr) : (State.updEvr s t f).hops = s.hops := rfl
@[simp] theorem State.updEvr_lead (s : State) (t : Nat) (f : Evr → Evr) : (State.updEvr s t f).lead = s.lead := rfl
@[simp] theorem State.updEvr_qen (s : State) (t : Nat) (f : Evr → Evr) : (State.updEvr s t f).qen = s.qen := rfl
@[simp] theorem State.updEvr_evh (s : State) (t : Nat) (f : Evr → Evr) : (State.updEvr s t f).evh = s.evh := rfl
@[simp] theorem State.updEvr_host (s : State) (t : Nat) (f : Evr → Evr) : (State.updEvr s t f).host = s.host := rfl
@[simp] theorem State.updEvr_busRead (s : State) (t : Nat) (f : Evr → Evr) : (State.updEvr s t f).busRead = s.busRead := rfl
@[simp] theorem State.updEvr_smbNack (s : State) (t : Nat) (f : Evr → Evr) : (State.updEvr s t f).smbNack = s.smbNack := rfl
@[simp] theorem State.updEvr_smbAlert (s : State) (t : Nat) (f : Evr → Evr) : (State.updEvr s t f).smbAlert = s.smbAlert := rfl
@[simp] theorem State.updEvr_extest (s : State) (t : Nat) (f : Evr → Evr) : (State.updEvr s t f).extest = s.extest := rfl
@[simp] theorem State.updEvr_job (s : State) (t : Nat) (f : Evr → Evr) : (State.updEvr s t f).job = s.job := rfl
@[simp] theorem State.updEvr_stores (s : State) (t : Nat) (f : Evr → Evr) : (State.updEvr s t f).stores = s.stores := rfl
@[simp] theorem State.updEvr_marks (s : State) (t : Nat) (f : Evr → Evr) : (State.updEvr s t f).marks = s.marks := rfl
@[simp] theorem State.updEvr_motion (s : State) (t : Nat) (f : Evr → Evr) : (State.updEvr s t f).motion = s.motion := rfl
@[simp] theorem State.updEvr_colour (s : State) (t : Nat) (f : Evr → Evr) : (State.updEvr s t f).colour = s.colour := rfl
@[simp] theorem State.updEvr_link (s : State) (t : Nat) (f : Evr → Evr) : (State.updEvr s t f).link = s.link := rfl
@[simp] theorem State.updEvr_dsp (s : State) (t : Nat) (f : Evr → Evr) : (State.updEvr s t f).dsp = s.dsp := rfl
@[simp] theorem State.updEvr_dispFlip (s : State) (t : Nat) (f : Evr → Evr) : (State.updEvr s t f).dispFlip = s.dispFlip := rfl
@[simp] theorem State.updEvr_dispMode (s : State) (t : Nat) (f : Evr → Evr) : (State.updEvr s t f).dispMode = s.dispMode := rfl
@[simp] theorem State.updEvr_dispOff (s : State) (t : Nat) (f : Evr → Evr) : (State.updEvr s t f).dispOff = s.dispOff := rfl
@[simp] theorem State.updEvr_dispLast (s : State) (t : Nat) (f : Evr → Evr) : (State.updEvr s t f).dispLast = s.dispLast := rfl
@[simp] theorem State.updEvr_flash (s : State) (t : Nat) (f : Evr → Evr) : (State.updEvr s t f).flash = s.flash := rfl
@[simp] theorem State.updEvr_tallyMod (s : State) (t : Nat) (f : Evr → Evr) : (State.updEvr s t f).tallyMod = s.tallyMod := rfl
@[simp] theorem State.updEvr_tallyCol (s : State) (t : Nat) (f : Evr → Evr) : (State.updEvr s t f).tallyCol = s.tallyCol := rfl
@[simp] theorem State.updEvr_tallyRest (s : State) (t : Nat) (f : Evr → Evr) : (State.updEvr s t f).tallyRest = s.tallyRest := rfl
@[simp] theorem State.updEvr_free (s : State) (t : Nat) (f : Evr → Evr) : (State.updEvr s t f).free = s.free := rfl
@[simp] theorem State.updEvr_pending (s : State) (t : Nat) (f : Evr → Evr) : (State.updEvr s t f).pending = s.pending := rfl
@[simp] theorem State.updSrc_part (s : State) (t src : Nat) (f : EvrSrc → EvrSrc) : (State.updSrc s t src f).part = s.part := rfl
@[simp] theorem State.updSrc_time (s : State) (t src : Nat) (f : EvrSrc → EvrSrc) : (State.updSrc s t src f).time = s.time := rfl
@[simp] theorem State.updSrc_linkUp (s : State) (t src : Nat) (f : EvrSrc → EvrSrc) : (State.updSrc s t src f).linkUp = s.linkUp := rfl
@[simp] theorem State.updSrc_hops (s : State) (t src : Nat) (f : EvrSrc → EvrSrc) : (State.updSrc s t src f).hops = s.hops := rfl
@[simp] theorem State.updSrc_lead (s : State) (t src : Nat) (f : EvrSrc → EvrSrc) : (State.updSrc s t src f).lead = s.lead := rfl
@[simp] theorem State.updSrc_qen (s : State) (t src : Nat) (f : EvrSrc → EvrSrc) : (State.updSrc s t src f).qen = s.qen := rfl
@[simp] theorem State.updSrc_evh (s : State) (t src : Nat) (f : EvrSrc → EvrSrc) : (State.updSrc s t src f).evh = s.evh := rfl
@[simp] theorem State.updSrc_host (s : State) (t src : Nat) (f : EvrSrc → EvrSrc) : (State.updSrc s t src f).host = s.host := rfl
@[simp] theorem State.updSrc_busRead (s : State) (t src : Nat) (f : EvrSrc → EvrSrc) : (State.updSrc s t src f).busRead = s.busRead := rfl
@[simp] theorem State.updSrc_smbNack (s : State) (t src : Nat) (f : EvrSrc → EvrSrc) : (State.updSrc s t src f).smbNack = s.smbNack := rfl
@[simp] theorem State.updSrc_smbAlert (s : State) (t src : Nat) (f : EvrSrc → EvrSrc) : (State.updSrc s t src f).smbAlert = s.smbAlert := rfl
@[simp] theorem State.updSrc_extest (s : State) (t src : Nat) (f : EvrSrc → EvrSrc) : (State.updSrc s t src f).extest = s.extest := rfl
@[simp] theorem State.updSrc_job (s : State) (t src : Nat) (f : EvrSrc → EvrSrc) : (State.updSrc s t src f).job = s.job := rfl
@[simp] theorem State.updSrc_stores (s : State) (t src : Nat) (f : EvrSrc → EvrSrc) : (State.updSrc s t src f).stores = s.stores := rfl
@[simp] theorem State.updSrc_marks (s : State) (t src : Nat) (f : EvrSrc → EvrSrc) : (State.updSrc s t src f).marks = s.marks := rfl
@[simp] theorem State.updSrc_motion (s : State) (t src : Nat) (f : EvrSrc → EvrSrc) : (State.updSrc s t src f).motion = s.motion := rfl
@[simp] theorem State.updSrc_colour (s : State) (t src : Nat) (f : EvrSrc → EvrSrc) : (State.updSrc s t src f).colour = s.colour := rfl
@[simp] theorem State.updSrc_link (s : State) (t src : Nat) (f : EvrSrc → EvrSrc) : (State.updSrc s t src f).link = s.link := rfl
@[simp] theorem State.updSrc_dsp (s : State) (t src : Nat) (f : EvrSrc → EvrSrc) : (State.updSrc s t src f).dsp = s.dsp := rfl
@[simp] theorem State.updSrc_dispFlip (s : State) (t src : Nat) (f : EvrSrc → EvrSrc) : (State.updSrc s t src f).dispFlip = s.dispFlip := rfl
@[simp] theorem State.updSrc_dispMode (s : State) (t src : Nat) (f : EvrSrc → EvrSrc) : (State.updSrc s t src f).dispMode = s.dispMode := rfl
@[simp] theorem State.updSrc_dispOff (s : State) (t src : Nat) (f : EvrSrc → EvrSrc) : (State.updSrc s t src f).dispOff = s.dispOff := rfl
@[simp] theorem State.updSrc_dispLast (s : State) (t src : Nat) (f : EvrSrc → EvrSrc) : (State.updSrc s t src f).dispLast = s.dispLast := rfl
@[simp] theorem State.updSrc_flash (s : State) (t src : Nat) (f : EvrSrc → EvrSrc) : (State.updSrc s t src f).flash = s.flash := rfl
@[simp] theorem State.updSrc_tallyMod (s : State) (t src : Nat) (f : EvrSrc → EvrSrc) : (State.updSrc s t src f).tallyMod = s.tallyMod := rfl
@[simp] theorem State.updSrc_tallyCol (s : State) (t src : Nat) (f : EvrSrc → EvrSrc) : (State.updSrc s t src f).tallyCol = s.tallyCol := rfl
@[simp] theorem State.updSrc_tallyRest (s : State) (t src : Nat) (f : EvrSrc → EvrSrc) : (State.updSrc s t src f).tallyRest = s.tallyRest := rfl
@[simp] theorem State.updSrc_free (s : State) (t src : Nat) (f : EvrSrc → EvrSrc) : (State.updSrc s t src f).free = s.free := rfl
@[simp] theorem State.updSrc_pending (s : State) (t src : Nat) (f : EvrSrc → EvrSrc) : (State.updSrc s t src f).pending = s.pending := rfl
@[simp] theorem State.updThm_part (s : State) (t : Nat) (f : Thm → Thm) : (State.updThm s t f).part = s.part := rfl
@[simp] theorem State.updThm_time (s : State) (t : Nat) (f : Thm → Thm) : (State.updThm s t f).time = s.time := rfl
@[simp] theorem State.updThm_linkUp (s : State) (t : Nat) (f : Thm → Thm) : (State.updThm s t f).linkUp = s.linkUp := rfl
@[simp] theorem State.updThm_hops (s : State) (t : Nat) (f : Thm → Thm) : (State.updThm s t f).hops = s.hops := rfl
@[simp] theorem State.updThm_lead (s : State) (t : Nat) (f : Thm → Thm) : (State.updThm s t f).lead = s.lead := rfl
@[simp] theorem State.updThm_qen (s : State) (t : Nat) (f : Thm → Thm) : (State.updThm s t f).qen = s.qen := rfl
@[simp] theorem State.updThm_evh (s : State) (t : Nat) (f : Thm → Thm) : (State.updThm s t f).evh = s.evh := rfl
@[simp] theorem State.updThm_host (s : State) (t : Nat) (f : Thm → Thm) : (State.updThm s t f).host = s.host := rfl
@[simp] theorem State.updThm_busRead (s : State) (t : Nat) (f : Thm → Thm) : (State.updThm s t f).busRead = s.busRead := rfl
@[simp] theorem State.updThm_smbNack (s : State) (t : Nat) (f : Thm → Thm) : (State.updThm s t f).smbNack = s.smbNack := rfl
@[simp] theorem State.updThm_smbAlert (s : State) (t : Nat) (f : Thm → Thm) : (State.updThm s t f).smbAlert = s.smbAlert := rfl
@[simp] theorem State.updThm_extest (s : State) (t : Nat) (f : Thm → Thm) : (State.updThm s t f).extest = s.extest := rfl
@[simp] theorem State.updThm_job (s : State) (t : Nat) (f : Thm → Thm) : (State.updThm s t f).job = s.job := rfl
@[simp] theorem State.updThm_stores (s : State) (t : Nat) (f : Thm → Thm) : (State.updThm s t f).stores = s.stores := rfl
@[simp] theorem State.updThm_marks (s : State) (t : Nat) (f : Thm → Thm) : (State.updThm s t f).marks = s.marks := rfl
@[simp] theorem State.updThm_motion (s : State) (t : Nat) (f : Thm → Thm) : (State.updThm s t f).motion = s.motion := rfl
@[simp] theorem State.updThm_colour (s : State) (t : Nat) (f : Thm → Thm) : (State.updThm s t f).colour = s.colour := rfl
@[simp] theorem State.updThm_link (s : State) (t : Nat) (f : Thm → Thm) : (State.updThm s t f).link = s.link := rfl
@[simp] theorem State.updThm_dsp (s : State) (t : Nat) (f : Thm → Thm) : (State.updThm s t f).dsp = s.dsp := rfl
@[simp] theorem State.updThm_dispFlip (s : State) (t : Nat) (f : Thm → Thm) : (State.updThm s t f).dispFlip = s.dispFlip := rfl
@[simp] theorem State.updThm_dispMode (s : State) (t : Nat) (f : Thm → Thm) : (State.updThm s t f).dispMode = s.dispMode := rfl
@[simp] theorem State.updThm_dispOff (s : State) (t : Nat) (f : Thm → Thm) : (State.updThm s t f).dispOff = s.dispOff := rfl
@[simp] theorem State.updThm_dispLast (s : State) (t : Nat) (f : Thm → Thm) : (State.updThm s t f).dispLast = s.dispLast := rfl
@[simp] theorem State.updThm_flash (s : State) (t : Nat) (f : Thm → Thm) : (State.updThm s t f).flash = s.flash := rfl
@[simp] theorem State.updThm_tallyMod (s : State) (t : Nat) (f : Thm → Thm) : (State.updThm s t f).tallyMod = s.tallyMod := rfl
@[simp] theorem State.updThm_tallyCol (s : State) (t : Nat) (f : Thm → Thm) : (State.updThm s t f).tallyCol = s.tallyCol := rfl
@[simp] theorem State.updThm_tallyRest (s : State) (t : Nat) (f : Thm → Thm) : (State.updThm s t f).tallyRest = s.tallyRest := rfl
@[simp] theorem State.updThm_free (s : State) (t : Nat) (f : Thm → Thm) : (State.updThm s t f).free = s.free := rfl
@[simp] theorem State.updThm_pending (s : State) (t : Nat) (f : Thm → Thm) : (State.updThm s t f).pending = s.pending := rfl
@[simp] theorem State.updTrm_part (s : State) (t : Nat) (f : Trm → Trm) : (State.updTrm s t f).part = s.part := rfl
@[simp] theorem State.updTrm_time (s : State) (t : Nat) (f : Trm → Trm) : (State.updTrm s t f).time = s.time := rfl
@[simp] theorem State.updTrm_linkUp (s : State) (t : Nat) (f : Trm → Trm) : (State.updTrm s t f).linkUp = s.linkUp := rfl
@[simp] theorem State.updTrm_hops (s : State) (t : Nat) (f : Trm → Trm) : (State.updTrm s t f).hops = s.hops := rfl
@[simp] theorem State.updTrm_lead (s : State) (t : Nat) (f : Trm → Trm) : (State.updTrm s t f).lead = s.lead := rfl
@[simp] theorem State.updTrm_qen (s : State) (t : Nat) (f : Trm → Trm) : (State.updTrm s t f).qen = s.qen := rfl
@[simp] theorem State.updTrm_evh (s : State) (t : Nat) (f : Trm → Trm) : (State.updTrm s t f).evh = s.evh := rfl
@[simp] theorem State.updTrm_host (s : State) (t : Nat) (f : Trm → Trm) : (State.updTrm s t f).host = s.host := rfl
@[simp] theorem State.updTrm_busRead (s : State) (t : Nat) (f : Trm → Trm) : (State.updTrm s t f).busRead = s.busRead := rfl
@[simp] theorem State.updTrm_smbNack (s : State) (t : Nat) (f : Trm → Trm) : (State.updTrm s t f).smbNack = s.smbNack := rfl
@[simp] theorem State.updTrm_smbAlert (s : State) (t : Nat) (f : Trm → Trm) : (State.updTrm s t f).smbAlert = s.smbAlert := rfl
@[simp] theorem State.updTrm_extest (s : State) (t : Nat) (f : Trm → Trm) : (State.updTrm s t f).extest = s.extest := rfl
@[simp] theorem State.updTrm_job (s : State) (t : Nat) (f : Trm → Trm) : (State.updTrm s t f).job = s.job := rfl
@[simp] theorem State.updTrm_stores (s : State) (t : Nat) (f : Trm → Trm) : (State.updTrm s t f).stores = s.stores := rfl
@[simp] theorem State.updTrm_marks (s : State) (t : Nat) (f : Trm → Trm) : (State.updTrm s t f).marks = s.marks := rfl
@[simp] theorem State.updTrm_motion (s : State) (t : Nat) (f : Trm → Trm) : (State.updTrm s t f).motion = s.motion := rfl
@[simp] theorem State.updTrm_colour (s : State) (t : Nat) (f : Trm → Trm) : (State.updTrm s t f).colour = s.colour := rfl
@[simp] theorem State.updTrm_link (s : State) (t : Nat) (f : Trm → Trm) : (State.updTrm s t f).link = s.link := rfl
@[simp] theorem State.updTrm_dsp (s : State) (t : Nat) (f : Trm → Trm) : (State.updTrm s t f).dsp = s.dsp := rfl
@[simp] theorem State.updTrm_dispFlip (s : State) (t : Nat) (f : Trm → Trm) : (State.updTrm s t f).dispFlip = s.dispFlip := rfl
@[simp] theorem State.updTrm_dispMode (s : State) (t : Nat) (f : Trm → Trm) : (State.updTrm s t f).dispMode = s.dispMode := rfl
@[simp] theorem State.updTrm_dispOff (s : State) (t : Nat) (f : Trm → Trm) : (State.updTrm s t f).dispOff = s.dispOff := rfl
@[simp] theorem State.updTrm_dispLast (s : State) (t : Nat) (f : Trm → Trm) : (State.updTrm s t f).dispLast = s.dispLast := rfl
@[simp] theorem State.updTrm_flash (s : State) (t : Nat) (f : Trm → Trm) : (State.updTrm s t f).flash = s.flash := rfl
@[simp] theorem State.updTrm_tallyMod (s : State) (t : Nat) (f : Trm → Trm) : (State.updTrm s t f).tallyMod = s.tallyMod := rfl
@[simp] theorem State.updTrm_tallyCol (s : State) (t : Nat) (f : Trm → Trm) : (State.updTrm s t f).tallyCol = s.tallyCol := rfl
@[simp] theorem State.updTrm_tallyRest (s : State) (t : Nat) (f : Trm → Trm) : (State.updTrm s t f).tallyRest = s.tallyRest := rfl
@[simp] theorem State.updTrm_free (s : State) (t : Nat) (f : Trm → Trm) : (State.updTrm s t f).free = s.free := rfl
@[simp] theorem State.updTrm_pending (s : State) (t : Nat) (f : Trm → Trm) : (State.updTrm s t f).pending = s.pending := rfl
@[simp] theorem State.updBoot_part (s : State) (t : Nat) (f : Boot → Boot) : (State.updBoot s t f).part = s.part := rfl
@[simp] theorem State.updBoot_time (s : State) (t : Nat) (f : Boot → Boot) : (State.updBoot s t f).time = s.time := rfl
@[simp] theorem State.updBoot_linkUp (s : State) (t : Nat) (f : Boot → Boot) : (State.updBoot s t f).linkUp = s.linkUp := rfl
@[simp] theorem State.updBoot_hops (s : State) (t : Nat) (f : Boot → Boot) : (State.updBoot s t f).hops = s.hops := rfl
@[simp] theorem State.updBoot_lead (s : State) (t : Nat) (f : Boot → Boot) : (State.updBoot s t f).lead = s.lead := rfl
@[simp] theorem State.updBoot_qen (s : State) (t : Nat) (f : Boot → Boot) : (State.updBoot s t f).qen = s.qen := rfl
@[simp] theorem State.updBoot_evh (s : State) (t : Nat) (f : Boot → Boot) : (State.updBoot s t f).evh = s.evh := rfl
@[simp] theorem State.updBoot_host (s : State) (t : Nat) (f : Boot → Boot) : (State.updBoot s t f).host = s.host := rfl
@[simp] theorem State.updBoot_busRead (s : State) (t : Nat) (f : Boot → Boot) : (State.updBoot s t f).busRead = s.busRead := rfl
@[simp] theorem State.updBoot_smbNack (s : State) (t : Nat) (f : Boot → Boot) : (State.updBoot s t f).smbNack = s.smbNack := rfl
@[simp] theorem State.updBoot_smbAlert (s : State) (t : Nat) (f : Boot → Boot) : (State.updBoot s t f).smbAlert = s.smbAlert := rfl
@[simp] theorem State.updBoot_extest (s : State) (t : Nat) (f : Boot → Boot) : (State.updBoot s t f).extest = s.extest := rfl
@[simp] theorem State.updBoot_job (s : State) (t : Nat) (f : Boot → Boot) : (State.updBoot s t f).job = s.job := rfl
@[simp] theorem State.updBoot_stores (s : State) (t : Nat) (f : Boot → Boot) : (State.updBoot s t f).stores = s.stores := rfl
@[simp] theorem State.updBoot_marks (s : State) (t : Nat) (f : Boot → Boot) : (State.updBoot s t f).marks = s.marks := rfl
@[simp] theorem State.updBoot_motion (s : State) (t : Nat) (f : Boot → Boot) : (State.updBoot s t f).motion = s.motion := rfl
@[simp] theorem State.updBoot_colour (s : State) (t : Nat) (f : Boot → Boot) : (State.updBoot s t f).colour = s.colour := rfl
@[simp] theorem State.updBoot_link (s : State) (t : Nat) (f : Boot → Boot) : (State.updBoot s t f).link = s.link := rfl
@[simp] theorem State.updBoot_dsp (s : State) (t : Nat) (f : Boot → Boot) : (State.updBoot s t f).dsp = s.dsp := rfl
@[simp] theorem State.updBoot_dispFlip (s : State) (t : Nat) (f : Boot → Boot) : (State.updBoot s t f).dispFlip = s.dispFlip := rfl
@[simp] theorem State.updBoot_dispMode (s : State) (t : Nat) (f : Boot → Boot) : (State.updBoot s t f).dispMode = s.dispMode := rfl
@[simp] theorem State.updBoot_dispOff (s : State) (t : Nat) (f : Boot → Boot) : (State.updBoot s t f).dispOff = s.dispOff := rfl
@[simp] theorem State.updBoot_dispLast (s : State) (t : Nat) (f : Boot → Boot) : (State.updBoot s t f).dispLast = s.dispLast := rfl
@[simp] theorem State.updBoot_flash (s : State) (t : Nat) (f : Boot → Boot) : (State.updBoot s t f).flash = s.flash := rfl
@[simp] theorem State.updBoot_tallyMod (s : State) (t : Nat) (f : Boot → Boot) : (State.updBoot s t f).tallyMod = s.tallyMod := rfl
@[simp] theorem State.updBoot_tallyCol (s : State) (t : Nat) (f : Boot → Boot) : (State.updBoot s t f).tallyCol = s.tallyCol := rfl
@[simp] theorem State.updBoot_tallyRest (s : State) (t : Nat) (f : Boot → Boot) : (State.updBoot s t f).tallyRest = s.tallyRest := rfl
@[simp] theorem State.updBoot_free (s : State) (t : Nat) (f : Boot → Boot) : (State.updBoot s t f).free = s.free := rfl
@[simp] theorem State.updBoot_pending (s : State) (t : Nat) (f : Boot → Boot) : (State.updBoot s t f).pending = s.pending := rfl
@[simp] theorem State.updLnk_part (s : State) (t l : Nat) (f : LaneHw → LaneHw) : (State.updLnk s t l f).part = s.part := rfl
@[simp] theorem State.updLnk_time (s : State) (t l : Nat) (f : LaneHw → LaneHw) : (State.updLnk s t l f).time = s.time := rfl
@[simp] theorem State.updLnk_linkUp (s : State) (t l : Nat) (f : LaneHw → LaneHw) : (State.updLnk s t l f).linkUp = s.linkUp := rfl
@[simp] theorem State.updLnk_hops (s : State) (t l : Nat) (f : LaneHw → LaneHw) : (State.updLnk s t l f).hops = s.hops := rfl
@[simp] theorem State.updLnk_lead (s : State) (t l : Nat) (f : LaneHw → LaneHw) : (State.updLnk s t l f).lead = s.lead := rfl
@[simp] theorem State.updLnk_qen (s : State) (t l : Nat) (f : LaneHw → LaneHw) : (State.updLnk s t l f).qen = s.qen := rfl
@[simp] theorem State.updLnk_evh (s : State) (t l : Nat) (f : LaneHw → LaneHw) : (State.updLnk s t l f).evh = s.evh := rfl
@[simp] theorem State.updLnk_host (s : State) (t l : Nat) (f : LaneHw → LaneHw) : (State.updLnk s t l f).host = s.host := rfl
@[simp] theorem State.updLnk_busRead (s : State) (t l : Nat) (f : LaneHw → LaneHw) : (State.updLnk s t l f).busRead = s.busRead := rfl
@[simp] theorem State.updLnk_smbNack (s : State) (t l : Nat) (f : LaneHw → LaneHw) : (State.updLnk s t l f).smbNack = s.smbNack := rfl
@[simp] theorem State.updLnk_smbAlert (s : State) (t l : Nat) (f : LaneHw → LaneHw) : (State.updLnk s t l f).smbAlert = s.smbAlert := rfl
@[simp] theorem State.updLnk_extest (s : State) (t l : Nat) (f : LaneHw → LaneHw) : (State.updLnk s t l f).extest = s.extest := rfl
@[simp] theorem State.updLnk_job (s : State) (t l : Nat) (f : LaneHw → LaneHw) : (State.updLnk s t l f).job = s.job := rfl
@[simp] theorem State.updLnk_stores (s : State) (t l : Nat) (f : LaneHw → LaneHw) : (State.updLnk s t l f).stores = s.stores := rfl
@[simp] theorem State.updLnk_marks (s : State) (t l : Nat) (f : LaneHw → LaneHw) : (State.updLnk s t l f).marks = s.marks := rfl
@[simp] theorem State.updLnk_motion (s : State) (t l : Nat) (f : LaneHw → LaneHw) : (State.updLnk s t l f).motion = s.motion := rfl
@[simp] theorem State.updLnk_colour (s : State) (t l : Nat) (f : LaneHw → LaneHw) : (State.updLnk s t l f).colour = s.colour := rfl
@[simp] theorem State.updLnk_link (s : State) (t l : Nat) (f : LaneHw → LaneHw) : (State.updLnk s t l f).link = s.link := rfl
@[simp] theorem State.updLnk_dsp (s : State) (t l : Nat) (f : LaneHw → LaneHw) : (State.updLnk s t l f).dsp = s.dsp := rfl
@[simp] theorem State.updLnk_dispFlip (s : State) (t l : Nat) (f : LaneHw → LaneHw) : (State.updLnk s t l f).dispFlip = s.dispFlip := rfl
@[simp] theorem State.updLnk_dispMode (s : State) (t l : Nat) (f : LaneHw → LaneHw) : (State.updLnk s t l f).dispMode = s.dispMode := rfl
@[simp] theorem State.updLnk_dispOff (s : State) (t l : Nat) (f : LaneHw → LaneHw) : (State.updLnk s t l f).dispOff = s.dispOff := rfl
@[simp] theorem State.updLnk_dispLast (s : State) (t l : Nat) (f : LaneHw → LaneHw) : (State.updLnk s t l f).dispLast = s.dispLast := rfl
@[simp] theorem State.updLnk_flash (s : State) (t l : Nat) (f : LaneHw → LaneHw) : (State.updLnk s t l f).flash = s.flash := rfl
@[simp] theorem State.updLnk_tallyMod (s : State) (t l : Nat) (f : LaneHw → LaneHw) : (State.updLnk s t l f).tallyMod = s.tallyMod := rfl
@[simp] theorem State.updLnk_tallyCol (s : State) (t l : Nat) (f : LaneHw → LaneHw) : (State.updLnk s t l f).tallyCol = s.tallyCol := rfl
@[simp] theorem State.updLnk_tallyRest (s : State) (t l : Nat) (f : LaneHw → LaneHw) : (State.updLnk s t l f).tallyRest = s.tallyRest := rfl
@[simp] theorem State.updLnk_free (s : State) (t l : Nat) (f : LaneHw → LaneHw) : (State.updLnk s t l f).free = s.free := rfl
@[simp] theorem State.updLnk_pending (s : State) (t l : Nat) (f : LaneHw → LaneHw) : (State.updLnk s t l f).pending = s.pending := rfl
@[simp] theorem State.updMemc_part (s : State) (t : Nat) (f : Memc → Memc) : (State.updMemc s t f).part = s.part := rfl
@[simp] theorem State.updMemc_time (s : State) (t : Nat) (f : Memc → Memc) : (State.updMemc s t f).time = s.time := rfl
@[simp] theorem State.updMemc_linkUp (s : State) (t : Nat) (f : Memc → Memc) : (State.updMemc s t f).linkUp = s.linkUp := rfl
@[simp] theorem State.updMemc_hops (s : State) (t : Nat) (f : Memc → Memc) : (State.updMemc s t f).hops = s.hops := rfl
@[simp] theorem State.updMemc_lead (s : State) (t : Nat) (f : Memc → Memc) : (State.updMemc s t f).lead = s.lead := rfl
@[simp] theorem State.updMemc_qen (s : State) (t : Nat) (f : Memc → Memc) : (State.updMemc s t f).qen = s.qen := rfl
@[simp] theorem State.updMemc_evh (s : State) (t : Nat) (f : Memc → Memc) : (State.updMemc s t f).evh = s.evh := rfl
@[simp] theorem State.updMemc_host (s : State) (t : Nat) (f : Memc → Memc) : (State.updMemc s t f).host = s.host := rfl
@[simp] theorem State.updMemc_busRead (s : State) (t : Nat) (f : Memc → Memc) : (State.updMemc s t f).busRead = s.busRead := rfl
@[simp] theorem State.updMemc_smbNack (s : State) (t : Nat) (f : Memc → Memc) : (State.updMemc s t f).smbNack = s.smbNack := rfl
@[simp] theorem State.updMemc_smbAlert (s : State) (t : Nat) (f : Memc → Memc) : (State.updMemc s t f).smbAlert = s.smbAlert := rfl
@[simp] theorem State.updMemc_extest (s : State) (t : Nat) (f : Memc → Memc) : (State.updMemc s t f).extest = s.extest := rfl
@[simp] theorem State.updMemc_job (s : State) (t : Nat) (f : Memc → Memc) : (State.updMemc s t f).job = s.job := rfl
@[simp] theorem State.updMemc_stores (s : State) (t : Nat) (f : Memc → Memc) : (State.updMemc s t f).stores = s.stores := rfl
@[simp] theorem State.updMemc_marks (s : State) (t : Nat) (f : Memc → Memc) : (State.updMemc s t f).marks = s.marks := rfl
@[simp] theorem State.updMemc_motion (s : State) (t : Nat) (f : Memc → Memc) : (State.updMemc s t f).motion = s.motion := rfl
@[simp] theorem State.updMemc_colour (s : State) (t : Nat) (f : Memc → Memc) : (State.updMemc s t f).colour = s.colour := rfl
@[simp] theorem State.updMemc_link (s : State) (t : Nat) (f : Memc → Memc) : (State.updMemc s t f).link = s.link := rfl
@[simp] theorem State.updMemc_dsp (s : State) (t : Nat) (f : Memc → Memc) : (State.updMemc s t f).dsp = s.dsp := rfl
@[simp] theorem State.updMemc_dispFlip (s : State) (t : Nat) (f : Memc → Memc) : (State.updMemc s t f).dispFlip = s.dispFlip := rfl
@[simp] theorem State.updMemc_dispMode (s : State) (t : Nat) (f : Memc → Memc) : (State.updMemc s t f).dispMode = s.dispMode := rfl
@[simp] theorem State.updMemc_dispOff (s : State) (t : Nat) (f : Memc → Memc) : (State.updMemc s t f).dispOff = s.dispOff := rfl
@[simp] theorem State.updMemc_dispLast (s : State) (t : Nat) (f : Memc → Memc) : (State.updMemc s t f).dispLast = s.dispLast := rfl
@[simp] theorem State.updMemc_flash (s : State) (t : Nat) (f : Memc → Memc) : (State.updMemc s t f).flash = s.flash := rfl
@[simp] theorem State.updMemc_tallyMod (s : State) (t : Nat) (f : Memc → Memc) : (State.updMemc s t f).tallyMod = s.tallyMod := rfl
@[simp] theorem State.updMemc_tallyCol (s : State) (t : Nat) (f : Memc → Memc) : (State.updMemc s t f).tallyCol = s.tallyCol := rfl
@[simp] theorem State.updMemc_tallyRest (s : State) (t : Nat) (f : Memc → Memc) : (State.updMemc s t f).tallyRest = s.tallyRest := rfl
@[simp] theorem State.updMemc_free (s : State) (t : Nat) (f : Memc → Memc) : (State.updMemc s t f).free = s.free := rfl
@[simp] theorem State.updMemc_pending (s : State) (t : Nat) (f : Memc → Memc) : (State.updMemc s t f).pending = s.pending := rfl
@[simp] theorem State.updCore_part (s : State) (t c : Nat) (f : CoreTgt → CoreTgt) : (State.updCore s t c f).part = s.part := rfl
@[simp] theorem State.updCore_time (s : State) (t c : Nat) (f : CoreTgt → CoreTgt) : (State.updCore s t c f).time = s.time := rfl
@[simp] theorem State.updCore_linkUp (s : State) (t c : Nat) (f : CoreTgt → CoreTgt) : (State.updCore s t c f).linkUp = s.linkUp := rfl
@[simp] theorem State.updCore_hops (s : State) (t c : Nat) (f : CoreTgt → CoreTgt) : (State.updCore s t c f).hops = s.hops := rfl
@[simp] theorem State.updCore_lead (s : State) (t c : Nat) (f : CoreTgt → CoreTgt) : (State.updCore s t c f).lead = s.lead := rfl
@[simp] theorem State.updCore_qen (s : State) (t c : Nat) (f : CoreTgt → CoreTgt) : (State.updCore s t c f).qen = s.qen := rfl
@[simp] theorem State.updCore_evh (s : State) (t c : Nat) (f : CoreTgt → CoreTgt) : (State.updCore s t c f).evh = s.evh := rfl
@[simp] theorem State.updCore_host (s : State) (t c : Nat) (f : CoreTgt → CoreTgt) : (State.updCore s t c f).host = s.host := rfl
@[simp] theorem State.updCore_busRead (s : State) (t c : Nat) (f : CoreTgt → CoreTgt) : (State.updCore s t c f).busRead = s.busRead := rfl
@[simp] theorem State.updCore_smbNack (s : State) (t c : Nat) (f : CoreTgt → CoreTgt) : (State.updCore s t c f).smbNack = s.smbNack := rfl
@[simp] theorem State.updCore_smbAlert (s : State) (t c : Nat) (f : CoreTgt → CoreTgt) : (State.updCore s t c f).smbAlert = s.smbAlert := rfl
@[simp] theorem State.updCore_extest (s : State) (t c : Nat) (f : CoreTgt → CoreTgt) : (State.updCore s t c f).extest = s.extest := rfl
@[simp] theorem State.updCore_job (s : State) (t c : Nat) (f : CoreTgt → CoreTgt) : (State.updCore s t c f).job = s.job := rfl
@[simp] theorem State.updCore_stores (s : State) (t c : Nat) (f : CoreTgt → CoreTgt) : (State.updCore s t c f).stores = s.stores := rfl
@[simp] theorem State.updCore_marks (s : State) (t c : Nat) (f : CoreTgt → CoreTgt) : (State.updCore s t c f).marks = s.marks := rfl
@[simp] theorem State.updCore_motion (s : State) (t c : Nat) (f : CoreTgt → CoreTgt) : (State.updCore s t c f).motion = s.motion := rfl
@[simp] theorem State.updCore_colour (s : State) (t c : Nat) (f : CoreTgt → CoreTgt) : (State.updCore s t c f).colour = s.colour := rfl
@[simp] theorem State.updCore_link (s : State) (t c : Nat) (f : CoreTgt → CoreTgt) : (State.updCore s t c f).link = s.link := rfl
@[simp] theorem State.updCore_dsp (s : State) (t c : Nat) (f : CoreTgt → CoreTgt) : (State.updCore s t c f).dsp = s.dsp := rfl
@[simp] theorem State.updCore_dispFlip (s : State) (t c : Nat) (f : CoreTgt → CoreTgt) : (State.updCore s t c f).dispFlip = s.dispFlip := rfl
@[simp] theorem State.updCore_dispMode (s : State) (t c : Nat) (f : CoreTgt → CoreTgt) : (State.updCore s t c f).dispMode = s.dispMode := rfl
@[simp] theorem State.updCore_dispOff (s : State) (t c : Nat) (f : CoreTgt → CoreTgt) : (State.updCore s t c f).dispOff = s.dispOff := rfl
@[simp] theorem State.updCore_dispLast (s : State) (t c : Nat) (f : CoreTgt → CoreTgt) : (State.updCore s t c f).dispLast = s.dispLast := rfl
@[simp] theorem State.updCore_flash (s : State) (t c : Nat) (f : CoreTgt → CoreTgt) : (State.updCore s t c f).flash = s.flash := rfl
@[simp] theorem State.updCore_tallyMod (s : State) (t c : Nat) (f : CoreTgt → CoreTgt) : (State.updCore s t c f).tallyMod = s.tallyMod := rfl
@[simp] theorem State.updCore_tallyCol (s : State) (t c : Nat) (f : CoreTgt → CoreTgt) : (State.updCore s t c f).tallyCol = s.tallyCol := rfl
@[simp] theorem State.updCore_tallyRest (s : State) (t c : Nat) (f : CoreTgt → CoreTgt) : (State.updCore s t c f).tallyRest = s.tallyRest := rfl
@[simp] theorem State.updCore_free (s : State) (t c : Nat) (f : CoreTgt → CoreTgt) : (State.updCore s t c f).free = s.free := rfl
@[simp] theorem State.updCore_pending (s : State) (t c : Nat) (f : CoreTgt → CoreTgt) : (State.updCore s t c f).pending = s.pending := rfl
@[simp] theorem State.tileWrite_part (s : State) (t a : Nat) (bs : List Byte) : (State.tileWrite s t a bs).part = s.part := rfl
@[simp] theorem State.tileWrite_time (s : State) (t a : Nat) (bs : List Byte) : (State.tileWrite s t a bs).time = s.time := rfl
@[simp] theorem State.tileWrite_linkUp (s : State) (t a : Nat) (bs : List Byte) : (State.tileWrite s t a bs).linkUp = s.linkUp := rfl
@[simp] theorem State.tileWrite_hops (s : State) (t a : Nat) (bs : List Byte) : (State.tileWrite s t a bs).hops = s.hops := rfl
@[simp] theorem State.tileWrite_lead (s : State) (t a : Nat) (bs : List Byte) : (State.tileWrite s t a bs).lead = s.lead := rfl
@[simp] theorem State.tileWrite_qen (s : State) (t a : Nat) (bs : List Byte) : (State.tileWrite s t a bs).qen = s.qen := rfl
@[simp] theorem State.tileWrite_evh (s : State) (t a : Nat) (bs : List Byte) : (State.tileWrite s t a bs).evh = s.evh := rfl
@[simp] theorem State.tileWrite_host (s : State) (t a : Nat) (bs : List Byte) : (State.tileWrite s t a bs).host = s.host := rfl
@[simp] theorem State.tileWrite_busRead (s : State) (t a : Nat) (bs : List Byte) : (State.tileWrite s t a bs).busRead = s.busRead := rfl
@[simp] theorem State.tileWrite_smbNack (s : State) (t a : Nat) (bs : List Byte) : (State.tileWrite s t a bs).smbNack = s.smbNack := rfl
@[simp] theorem State.tileWrite_smbAlert (s : State) (t a : Nat) (bs : List Byte) : (State.tileWrite s t a bs).smbAlert = s.smbAlert := rfl
@[simp] theorem State.tileWrite_extest (s : State) (t a : Nat) (bs : List Byte) : (State.tileWrite s t a bs).extest = s.extest := rfl
@[simp] theorem State.tileWrite_job (s : State) (t a : Nat) (bs : List Byte) : (State.tileWrite s t a bs).job = s.job := rfl
@[simp] theorem State.tileWrite_stores (s : State) (t a : Nat) (bs : List Byte) : (State.tileWrite s t a bs).stores = s.stores := rfl
@[simp] theorem State.tileWrite_marks (s : State) (t a : Nat) (bs : List Byte) : (State.tileWrite s t a bs).marks = s.marks := rfl
@[simp] theorem State.tileWrite_motion (s : State) (t a : Nat) (bs : List Byte) : (State.tileWrite s t a bs).motion = s.motion := rfl
@[simp] theorem State.tileWrite_colour (s : State) (t a : Nat) (bs : List Byte) : (State.tileWrite s t a bs).colour = s.colour := rfl
@[simp] theorem State.tileWrite_link (s : State) (t a : Nat) (bs : List Byte) : (State.tileWrite s t a bs).link = s.link := rfl
@[simp] theorem State.tileWrite_dsp (s : State) (t a : Nat) (bs : List Byte) : (State.tileWrite s t a bs).dsp = s.dsp := rfl
@[simp] theorem State.tileWrite_dispFlip (s : State) (t a : Nat) (bs : List Byte) : (State.tileWrite s t a bs).dispFlip = s.dispFlip := rfl
@[simp] theorem State.tileWrite_dispMode (s : State) (t a : Nat) (bs : List Byte) : (State.tileWrite s t a bs).dispMode = s.dispMode := rfl
@[simp] theorem State.tileWrite_dispOff (s : State) (t a : Nat) (bs : List Byte) : (State.tileWrite s t a bs).dispOff = s.dispOff := rfl
@[simp] theorem State.tileWrite_dispLast (s : State) (t a : Nat) (bs : List Byte) : (State.tileWrite s t a bs).dispLast = s.dispLast := rfl
@[simp] theorem State.tileWrite_flash (s : State) (t a : Nat) (bs : List Byte) : (State.tileWrite s t a bs).flash = s.flash := rfl
@[simp] theorem State.tileWrite_tallyMod (s : State) (t a : Nat) (bs : List Byte) : (State.tileWrite s t a bs).tallyMod = s.tallyMod := rfl
@[simp] theorem State.tileWrite_tallyCol (s : State) (t a : Nat) (bs : List Byte) : (State.tileWrite s t a bs).tallyCol = s.tallyCol := rfl
@[simp] theorem State.tileWrite_tallyRest (s : State) (t a : Nat) (bs : List Byte) : (State.tileWrite s t a bs).tallyRest = s.tallyRest := rfl
@[simp] theorem State.tileWrite_free (s : State) (t a : Nat) (bs : List Byte) : (State.tileWrite s t a bs).free = s.free := rfl
@[simp] theorem State.tileWrite_pending (s : State) (t a : Nat) (bs : List Byte) : (State.tileWrite s t a bs).pending = s.pending := rfl
@[simp] theorem State.updStream_part (s : State) (t sid : Nat) (f : Stream → Stream) : (State.updStream s t sid f).part = s.part := rfl
@[simp] theorem State.updStream_time (s : State) (t sid : Nat) (f : Stream → Stream) : (State.updStream s t sid f).time = s.time := rfl
@[simp] theorem State.updStream_linkUp (s : State) (t sid : Nat) (f : Stream → Stream) : (State.updStream s t sid f).linkUp = s.linkUp := rfl
@[simp] theorem State.updStream_hops (s : State) (t sid : Nat) (f : Stream → Stream) : (State.updStream s t sid f).hops = s.hops := rfl
@[simp] theorem State.updStream_lead (s : State) (t sid : Nat) (f : Stream → Stream) : (State.updStream s t sid f).lead = s.lead := rfl
@[simp] theorem State.updStream_qen (s : State) (t sid : Nat) (f : Stream → Stream) : (State.updStream s t sid f).qen = s.qen := rfl
@[simp] theorem State.updStream_evh (s : State) (t sid : Nat) (f : Stream → Stream) : (State.updStream s t sid f).evh = s.evh := rfl
@[simp] theorem State.updStream_host (s : State) (t sid : Nat) (f : Stream → Stream) : (State.updStream s t sid f).host = s.host := rfl
@[simp] theorem State.updStream_busRead (s : State) (t sid : Nat) (f : Stream → Stream) : (State.updStream s t sid f).busRead = s.busRead := rfl
@[simp] theorem State.updStream_smbNack (s : State) (t sid : Nat) (f : Stream → Stream) : (State.updStream s t sid f).smbNack = s.smbNack := rfl
@[simp] theorem State.updStream_smbAlert (s : State) (t sid : Nat) (f : Stream → Stream) : (State.updStream s t sid f).smbAlert = s.smbAlert := rfl
@[simp] theorem State.updStream_extest (s : State) (t sid : Nat) (f : Stream → Stream) : (State.updStream s t sid f).extest = s.extest := rfl
@[simp] theorem State.updStream_job (s : State) (t sid : Nat) (f : Stream → Stream) : (State.updStream s t sid f).job = s.job := rfl
@[simp] theorem State.updStream_stores (s : State) (t sid : Nat) (f : Stream → Stream) : (State.updStream s t sid f).stores = s.stores := rfl
@[simp] theorem State.updStream_marks (s : State) (t sid : Nat) (f : Stream → Stream) : (State.updStream s t sid f).marks = s.marks := rfl
@[simp] theorem State.updStream_motion (s : State) (t sid : Nat) (f : Stream → Stream) : (State.updStream s t sid f).motion = s.motion := rfl
@[simp] theorem State.updStream_colour (s : State) (t sid : Nat) (f : Stream → Stream) : (State.updStream s t sid f).colour = s.colour := rfl
@[simp] theorem State.updStream_link (s : State) (t sid : Nat) (f : Stream → Stream) : (State.updStream s t sid f).link = s.link := rfl
@[simp] theorem State.updStream_dsp (s : State) (t sid : Nat) (f : Stream → Stream) : (State.updStream s t sid f).dsp = s.dsp := rfl
@[simp] theorem State.updStream_dispFlip (s : State) (t sid : Nat) (f : Stream → Stream) : (State.updStream s t sid f).dispFlip = s.dispFlip := rfl
@[simp] theorem State.updStream_dispMode (s : State) (t sid : Nat) (f : Stream → Stream) : (State.updStream s t sid f).dispMode = s.dispMode := rfl
@[simp] theorem State.updStream_dispOff (s : State) (t sid : Nat) (f : Stream → Stream) : (State.updStream s t sid f).dispOff = s.dispOff := rfl
@[simp] theorem State.updStream_dispLast (s : State) (t sid : Nat) (f : Stream → Stream) : (State.updStream s t sid f).dispLast = s.dispLast := rfl
@[simp] theorem State.updStream_flash (s : State) (t sid : Nat) (f : Stream → Stream) : (State.updStream s t sid f).flash = s.flash := rfl
@[simp] theorem State.updStream_tallyMod (s : State) (t sid : Nat) (f : Stream → Stream) : (State.updStream s t sid f).tallyMod = s.tallyMod := rfl
@[simp] theorem State.updStream_tallyCol (s : State) (t sid : Nat) (f : Stream → Stream) : (State.updStream s t sid f).tallyCol = s.tallyCol := rfl
@[simp] theorem State.updStream_tallyRest (s : State) (t sid : Nat) (f : Stream → Stream) : (State.updStream s t sid f).tallyRest = s.tallyRest := rfl
@[simp] theorem State.updStream_free (s : State) (t sid : Nat) (f : Stream → Stream) : (State.updStream s t sid f).free = s.free := rfl
@[simp] theorem State.updStream_pending (s : State) (t sid : Nat) (f : Stream → Stream) : (State.updStream s t sid f).pending = s.pending := rfl
@[simp] theorem State.updStrip_part (s : State) (t sid strip : Nat) (f : StripBuf → StripBuf) : (State.updStrip s t sid strip f).part = s.part := rfl
@[simp] theorem State.updStrip_time (s : State) (t sid strip : Nat) (f : StripBuf → StripBuf) : (State.updStrip s t sid strip f).time = s.time := rfl
@[simp] theorem State.updStrip_linkUp (s : State) (t sid strip : Nat) (f : StripBuf → StripBuf) : (State.updStrip s t sid strip f).linkUp = s.linkUp := rfl
@[simp] theorem State.updStrip_hops (s : State) (t sid strip : Nat) (f : StripBuf → StripBuf) : (State.updStrip s t sid strip f).hops = s.hops := rfl
@[simp] theorem State.updStrip_lead (s : State) (t sid strip : Nat) (f : StripBuf → StripBuf) : (State.updStrip s t sid strip f).lead = s.lead := rfl
@[simp] theorem State.updStrip_qen (s : State) (t sid strip : Nat) (f : StripBuf → StripBuf) : (State.updStrip s t sid strip f).qen = s.qen := rfl
@[simp] theorem State.updStrip_evh (s : State) (t sid strip : Nat) (f : StripBuf → StripBuf) : (State.updStrip s t sid strip f).evh = s.evh := rfl
@[simp] theorem State.updStrip_host (s : State) (t sid strip : Nat) (f : StripBuf → StripBuf) : (State.updStrip s t sid strip f).host = s.host := rfl
@[simp] theorem State.updStrip_busRead (s : State) (t sid strip : Nat) (f : StripBuf → StripBuf) : (State.updStrip s t sid strip f).busRead = s.busRead := rfl
@[simp] theorem State.updStrip_smbNack (s : State) (t sid strip : Nat) (f : StripBuf → StripBuf) : (State.updStrip s t sid strip f).smbNack = s.smbNack := rfl
@[simp] theorem State.updStrip_smbAlert (s : State) (t sid strip : Nat) (f : StripBuf → StripBuf) : (State.updStrip s t sid strip f).smbAlert = s.smbAlert := rfl
@[simp] theorem State.updStrip_extest (s : State) (t sid strip : Nat) (f : StripBuf → StripBuf) : (State.updStrip s t sid strip f).extest = s.extest := rfl
@[simp] theorem State.updStrip_job (s : State) (t sid strip : Nat) (f : StripBuf → StripBuf) : (State.updStrip s t sid strip f).job = s.job := rfl
@[simp] theorem State.updStrip_stores (s : State) (t sid strip : Nat) (f : StripBuf → StripBuf) : (State.updStrip s t sid strip f).stores = s.stores := rfl
@[simp] theorem State.updStrip_marks (s : State) (t sid strip : Nat) (f : StripBuf → StripBuf) : (State.updStrip s t sid strip f).marks = s.marks := rfl
@[simp] theorem State.updStrip_motion (s : State) (t sid strip : Nat) (f : StripBuf → StripBuf) : (State.updStrip s t sid strip f).motion = s.motion := rfl
@[simp] theorem State.updStrip_colour (s : State) (t sid strip : Nat) (f : StripBuf → StripBuf) : (State.updStrip s t sid strip f).colour = s.colour := rfl
@[simp] theorem State.updStrip_link (s : State) (t sid strip : Nat) (f : StripBuf → StripBuf) : (State.updStrip s t sid strip f).link = s.link := rfl
@[simp] theorem State.updStrip_dsp (s : State) (t sid strip : Nat) (f : StripBuf → StripBuf) : (State.updStrip s t sid strip f).dsp = s.dsp := rfl
@[simp] theorem State.updStrip_dispFlip (s : State) (t sid strip : Nat) (f : StripBuf → StripBuf) : (State.updStrip s t sid strip f).dispFlip = s.dispFlip := rfl
@[simp] theorem State.updStrip_dispMode (s : State) (t sid strip : Nat) (f : StripBuf → StripBuf) : (State.updStrip s t sid strip f).dispMode = s.dispMode := rfl
@[simp] theorem State.updStrip_dispOff (s : State) (t sid strip : Nat) (f : StripBuf → StripBuf) : (State.updStrip s t sid strip f).dispOff = s.dispOff := rfl
@[simp] theorem State.updStrip_dispLast (s : State) (t sid strip : Nat) (f : StripBuf → StripBuf) : (State.updStrip s t sid strip f).dispLast = s.dispLast := rfl
@[simp] theorem State.updStrip_flash (s : State) (t sid strip : Nat) (f : StripBuf → StripBuf) : (State.updStrip s t sid strip f).flash = s.flash := rfl
@[simp] theorem State.updStrip_tallyMod (s : State) (t sid strip : Nat) (f : StripBuf → StripBuf) : (State.updStrip s t sid strip f).tallyMod = s.tallyMod := rfl
@[simp] theorem State.updStrip_tallyCol (s : State) (t sid strip : Nat) (f : StripBuf → StripBuf) : (State.updStrip s t sid strip f).tallyCol = s.tallyCol := rfl
@[simp] theorem State.updStrip_tallyRest (s : State) (t sid strip : Nat) (f : StripBuf → StripBuf) : (State.updStrip s t sid strip f).tallyRest = s.tallyRest := rfl
@[simp] theorem State.updStrip_free (s : State) (t sid strip : Nat) (f : StripBuf → StripBuf) : (State.updStrip s t sid strip f).free = s.free := rfl
@[simp] theorem State.updStrip_pending (s : State) (t sid strip : Nat) (f : StripBuf → StripBuf) : (State.updStrip s t sid strip f).pending = s.pending := rfl
@[simp] theorem State.stepTime_part (s : State) (o : Int) : (State.stepTime s o).part = s.part := rfl
@[simp] theorem State.stepTime_tiles (s : State) (o : Int) : (State.stepTime s o).tiles = s.tiles := rfl
@[simp] theorem State.stepTime_linkUp (s : State) (o : Int) : (State.stepTime s o).linkUp = s.linkUp := rfl
@[simp] theorem State.stepTime_hops (s : State) (o : Int) : (State.stepTime s o).hops = s.hops := rfl
@[simp] theorem State.stepTime_lead (s : State) (o : Int) : (State.stepTime s o).lead = s.lead := rfl
@[simp] theorem State.stepTime_qen (s : State) (o : Int) : (State.stepTime s o).qen = s.qen := rfl
@[simp] theorem State.stepTime_evh (s : State) (o : Int) : (State.stepTime s o).evh = s.evh := rfl
@[simp] theorem State.stepTime_host (s : State) (o : Int) : (State.stepTime s o).host = s.host := rfl
@[simp] theorem State.stepTime_busRead (s : State) (o : Int) : (State.stepTime s o).busRead = s.busRead := rfl
@[simp] theorem State.stepTime_smbNack (s : State) (o : Int) : (State.stepTime s o).smbNack = s.smbNack := rfl
@[simp] theorem State.stepTime_smbAlert (s : State) (o : Int) : (State.stepTime s o).smbAlert = s.smbAlert := rfl
@[simp] theorem State.stepTime_extest (s : State) (o : Int) : (State.stepTime s o).extest = s.extest := rfl
@[simp] theorem State.stepTime_job (s : State) (o : Int) : (State.stepTime s o).job = s.job := rfl
@[simp] theorem State.stepTime_stores (s : State) (o : Int) : (State.stepTime s o).stores = s.stores := rfl
@[simp] theorem State.stepTime_marks (s : State) (o : Int) : (State.stepTime s o).marks = s.marks := rfl
@[simp] theorem State.stepTime_motion (s : State) (o : Int) : (State.stepTime s o).motion = s.motion := rfl
@[simp] theorem State.stepTime_colour (s : State) (o : Int) : (State.stepTime s o).colour = s.colour := rfl
@[simp] theorem State.stepTime_link (s : State) (o : Int) : (State.stepTime s o).link = s.link := rfl
@[simp] theorem State.stepTime_dsp (s : State) (o : Int) : (State.stepTime s o).dsp = s.dsp := rfl
@[simp] theorem State.stepTime_dispFlip (s : State) (o : Int) : (State.stepTime s o).dispFlip = s.dispFlip := rfl
@[simp] theorem State.stepTime_dispMode (s : State) (o : Int) : (State.stepTime s o).dispMode = s.dispMode := rfl
@[simp] theorem State.stepTime_dispOff (s : State) (o : Int) : (State.stepTime s o).dispOff = s.dispOff := rfl
@[simp] theorem State.stepTime_dispLast (s : State) (o : Int) : (State.stepTime s o).dispLast = s.dispLast := rfl
@[simp] theorem State.stepTime_flash (s : State) (o : Int) : (State.stepTime s o).flash = s.flash := rfl
@[simp] theorem State.stepTime_tallyMod (s : State) (o : Int) : (State.stepTime s o).tallyMod = s.tallyMod := rfl
@[simp] theorem State.stepTime_tallyCol (s : State) (o : Int) : (State.stepTime s o).tallyCol = s.tallyCol := rfl
@[simp] theorem State.stepTime_tallyRest (s : State) (o : Int) : (State.stepTime s o).tallyRest = s.tallyRest := rfl
@[simp] theorem State.stepTime_free (s : State) (o : Int) : (State.stepTime s o).free = s.free := rfl
@[simp] theorem State.stepTime_pending (s : State) (o : Int) : (State.stepTime s o).pending = s.pending := rfl
@[simp] theorem State.strayBell_part (s : State) (t : Nat) : (State.strayBell s t).part = s.part := rfl
@[simp] theorem State.strayBell_time (s : State) (t : Nat) : (State.strayBell s t).time = s.time := rfl
@[simp] theorem State.strayBell_tiles (s : State) (t : Nat) : (State.strayBell s t).tiles = s.tiles := rfl
@[simp] theorem State.strayBell_linkUp (s : State) (t : Nat) : (State.strayBell s t).linkUp = s.linkUp := rfl
@[simp] theorem State.strayBell_hops (s : State) (t : Nat) : (State.strayBell s t).hops = s.hops := rfl
@[simp] theorem State.strayBell_lead (s : State) (t : Nat) : (State.strayBell s t).lead = s.lead := rfl
@[simp] theorem State.strayBell_evh (s : State) (t : Nat) : (State.strayBell s t).evh = s.evh := rfl
@[simp] theorem State.strayBell_host (s : State) (t : Nat) : (State.strayBell s t).host = s.host := rfl
@[simp] theorem State.strayBell_busRead (s : State) (t : Nat) : (State.strayBell s t).busRead = s.busRead := rfl
@[simp] theorem State.strayBell_smbNack (s : State) (t : Nat) : (State.strayBell s t).smbNack = s.smbNack := rfl
@[simp] theorem State.strayBell_smbAlert (s : State) (t : Nat) : (State.strayBell s t).smbAlert = s.smbAlert := rfl
@[simp] theorem State.strayBell_extest (s : State) (t : Nat) : (State.strayBell s t).extest = s.extest := rfl
@[simp] theorem State.strayBell_job (s : State) (t : Nat) : (State.strayBell s t).job = s.job := rfl
@[simp] theorem State.strayBell_stores (s : State) (t : Nat) : (State.strayBell s t).stores = s.stores := rfl
@[simp] theorem State.strayBell_marks (s : State) (t : Nat) : (State.strayBell s t).marks = s.marks := rfl
@[simp] theorem State.strayBell_motion (s : State) (t : Nat) : (State.strayBell s t).motion = s.motion := rfl
@[simp] theorem State.strayBell_colour (s : State) (t : Nat) : (State.strayBell s t).colour = s.colour := rfl
@[simp] theorem State.strayBell_link (s : State) (t : Nat) : (State.strayBell s t).link = s.link := rfl
@[simp] theorem State.strayBell_dsp (s : State) (t : Nat) : (State.strayBell s t).dsp = s.dsp := rfl
@[simp] theorem State.strayBell_dispFlip (s : State) (t : Nat) : (State.strayBell s t).dispFlip = s.dispFlip := rfl
@[simp] theorem State.strayBell_dispMode (s : State) (t : Nat) : (State.strayBell s t).dispMode = s.dispMode := rfl
@[simp] theorem State.strayBell_dispOff (s : State) (t : Nat) : (State.strayBell s t).dispOff = s.dispOff := rfl
@[simp] theorem State.strayBell_dispLast (s : State) (t : Nat) : (State.strayBell s t).dispLast = s.dispLast := rfl
@[simp] theorem State.strayBell_flash (s : State) (t : Nat) : (State.strayBell s t).flash = s.flash := rfl
@[simp] theorem State.strayBell_tallyMod (s : State) (t : Nat) : (State.strayBell s t).tallyMod = s.tallyMod := rfl
@[simp] theorem State.strayBell_tallyCol (s : State) (t : Nat) : (State.strayBell s t).tallyCol = s.tallyCol := rfl
@[simp] theorem State.strayBell_tallyRest (s : State) (t : Nat) : (State.strayBell s t).tallyRest = s.tallyRest := rfl
@[simp] theorem State.strayBell_free (s : State) (t : Nat) : (State.strayBell s t).free = s.free := rfl
@[simp] theorem State.strayBell_pending (s : State) (t : Nat) : (State.strayBell s t).pending = s.pending := rfl
@[simp] theorem State.enStop_part (s : State) : (State.enStop s).part = s.part := rfl
@[simp] theorem State.enStop_time (s : State) : (State.enStop s).time = s.time := rfl
@[simp] theorem State.enStop_tiles (s : State) : (State.enStop s).tiles = s.tiles := rfl
@[simp] theorem State.enStop_linkUp (s : State) : (State.enStop s).linkUp = s.linkUp := rfl
@[simp] theorem State.enStop_hops (s : State) : (State.enStop s).hops = s.hops := rfl
@[simp] theorem State.enStop_lead (s : State) : (State.enStop s).lead = s.lead := rfl
@[simp] theorem State.enStop_evh (s : State) : (State.enStop s).evh = s.evh := rfl
@[simp] theorem State.enStop_host (s : State) : (State.enStop s).host = s.host := rfl
@[simp] theorem State.enStop_busRead (s : State) : (State.enStop s).busRead = s.busRead := rfl
@[simp] theorem State.enStop_smbNack (s : State) : (State.enStop s).smbNack = s.smbNack := rfl
@[simp] theorem State.enStop_smbAlert (s : State) : (State.enStop s).smbAlert = s.smbAlert := rfl
@[simp] theorem State.enStop_extest (s : State) : (State.enStop s).extest = s.extest := rfl
@[simp] theorem State.enStop_job (s : State) : (State.enStop s).job = s.job := rfl
@[simp] theorem State.enStop_stores (s : State) : (State.enStop s).stores = s.stores := rfl
@[simp] theorem State.enStop_marks (s : State) : (State.enStop s).marks = s.marks := rfl
@[simp] theorem State.enStop_motion (s : State) : (State.enStop s).motion = s.motion := rfl
@[simp] theorem State.enStop_colour (s : State) : (State.enStop s).colour = s.colour := rfl
@[simp] theorem State.enStop_link (s : State) : (State.enStop s).link = s.link := rfl
@[simp] theorem State.enStop_dsp (s : State) : (State.enStop s).dsp = s.dsp := rfl
@[simp] theorem State.enStop_dispFlip (s : State) : (State.enStop s).dispFlip = s.dispFlip := rfl
@[simp] theorem State.enStop_dispMode (s : State) : (State.enStop s).dispMode = s.dispMode := rfl
@[simp] theorem State.enStop_dispOff (s : State) : (State.enStop s).dispOff = s.dispOff := rfl
@[simp] theorem State.enStop_dispLast (s : State) : (State.enStop s).dispLast = s.dispLast := rfl
@[simp] theorem State.enStop_flash (s : State) : (State.enStop s).flash = s.flash := rfl
@[simp] theorem State.enStop_tallyMod (s : State) : (State.enStop s).tallyMod = s.tallyMod := rfl
@[simp] theorem State.enStop_tallyCol (s : State) : (State.enStop s).tallyCol = s.tallyCol := rfl
@[simp] theorem State.enStop_tallyRest (s : State) : (State.enStop s).tallyRest = s.tallyRest := rfl
@[simp] theorem State.enStop_free (s : State) : (State.enStop s).free = s.free := rfl
@[simp] theorem State.enStop_pending (s : State) : (State.enStop s).pending = s.pending := rfl
@[simp] theorem State.asOf_part (s : State) (n : Nat) : (State.asOf s n).part = s.part := rfl
@[simp] theorem State.asOf_time (s : State) (n : Nat) : (State.asOf s n).time = s.time := rfl
@[simp] theorem State.asOf_tiles (s : State) (n : Nat) : (State.asOf s n).tiles = s.tiles := rfl
@[simp] theorem State.asOf_linkUp (s : State) (n : Nat) : (State.asOf s n).linkUp = s.linkUp := rfl
@[simp] theorem State.asOf_hops (s : State) (n : Nat) : (State.asOf s n).hops = s.hops := rfl
@[simp] theorem State.asOf_lead (s : State) (n : Nat) : (State.asOf s n).lead = s.lead := rfl
@[simp] theorem State.asOf_qen (s : State) (n : Nat) : (State.asOf s n).qen = s.qen := rfl
@[simp] theorem State.asOf_evh (s : State) (n : Nat) : (State.asOf s n).evh = s.evh := rfl
@[simp] theorem State.asOf_host (s : State) (n : Nat) : (State.asOf s n).host = s.host := rfl
@[simp] theorem State.asOf_busRead (s : State) (n : Nat) : (State.asOf s n).busRead = s.busRead := rfl
@[simp] theorem State.asOf_smbNack (s : State) (n : Nat) : (State.asOf s n).smbNack = s.smbNack := rfl
@[simp] theorem State.asOf_smbAlert (s : State) (n : Nat) : (State.asOf s n).smbAlert = s.smbAlert := rfl
@[simp] theorem State.asOf_extest (s : State) (n : Nat) : (State.asOf s n).extest = s.extest := rfl
@[simp] theorem State.asOf_stores (s : State) (n : Nat) : (State.asOf s n).stores = s.stores := rfl
@[simp] theorem State.asOf_marks (s : State) (n : Nat) : (State.asOf s n).marks = s.marks := rfl
@[simp] theorem State.asOf_motion (s : State) (n : Nat) : (State.asOf s n).motion = s.motion := rfl
@[simp] theorem State.asOf_colour (s : State) (n : Nat) : (State.asOf s n).colour = s.colour := rfl
@[simp] theorem State.asOf_link (s : State) (n : Nat) : (State.asOf s n).link = s.link := rfl
@[simp] theorem State.asOf_dsp (s : State) (n : Nat) : (State.asOf s n).dsp = s.dsp := rfl
@[simp] theorem State.asOf_dispFlip (s : State) (n : Nat) : (State.asOf s n).dispFlip = s.dispFlip := rfl
@[simp] theorem State.asOf_dispMode (s : State) (n : Nat) : (State.asOf s n).dispMode = s.dispMode := rfl
@[simp] theorem State.asOf_dispOff (s : State) (n : Nat) : (State.asOf s n).dispOff = s.dispOff := rfl
@[simp] theorem State.asOf_dispLast (s : State) (n : Nat) : (State.asOf s n).dispLast = s.dispLast := rfl
@[simp] theorem State.asOf_flash (s : State) (n : Nat) : (State.asOf s n).flash = s.flash := rfl
@[simp] theorem State.asOf_tallyMod (s : State) (n : Nat) : (State.asOf s n).tallyMod = s.tallyMod := rfl
@[simp] theorem State.asOf_tallyCol (s : State) (n : Nat) : (State.asOf s n).tallyCol = s.tallyCol := rfl
@[simp] theorem State.asOf_tallyRest (s : State) (n : Nat) : (State.asOf s n).tallyRest = s.tallyRest := rfl
@[simp] theorem State.asOf_free (s : State) (n : Nat) : (State.asOf s n).free = s.free := rfl
@[simp] theorem State.asOf_pending (s : State) (n : Nat) : (State.asOf s n).pending = s.pending := rfl
@[simp] theorem State.withStaged_part (s : State) : (State.withStaged s).part = s.part := rfl
@[simp] theorem State.withStaged_time (s : State) : (State.withStaged s).time = s.time := rfl
@[simp] theorem State.withStaged_tiles (s : State) : (State.withStaged s).tiles = s.tiles := rfl
@[simp] theorem State.withStaged_linkUp (s : State) : (State.withStaged s).linkUp = s.linkUp := rfl
@[simp] theorem State.withStaged_hops (s : State) : (State.withStaged s).hops = s.hops := rfl
@[simp] theorem State.withStaged_lead (s : State) : (State.withStaged s).lead = s.lead := rfl
@[simp] theorem State.withStaged_qen (s : State) : (State.withStaged s).qen = s.qen := rfl
@[simp] theorem State.withStaged_evh (s : State) : (State.withStaged s).evh = s.evh := rfl
@[simp] theorem State.withStaged_host (s : State) : (State.withStaged s).host = s.host := rfl
@[simp] theorem State.withStaged_busRead (s : State) : (State.withStaged s).busRead = s.busRead := rfl
@[simp] theorem State.withStaged_smbNack (s : State) : (State.withStaged s).smbNack = s.smbNack := rfl
@[simp] theorem State.withStaged_smbAlert (s : State) : (State.withStaged s).smbAlert = s.smbAlert := rfl
@[simp] theorem State.withStaged_extest (s : State) : (State.withStaged s).extest = s.extest := rfl
@[simp] theorem State.withStaged_stores (s : State) : (State.withStaged s).stores = s.stores := rfl
@[simp] theorem State.withStaged_marks (s : State) : (State.withStaged s).marks = s.marks := rfl
@[simp] theorem State.withStaged_motion (s : State) : (State.withStaged s).motion = s.motion := rfl
@[simp] theorem State.withStaged_colour (s : State) : (State.withStaged s).colour = s.colour := rfl
@[simp] theorem State.withStaged_link (s : State) : (State.withStaged s).link = s.link := rfl
@[simp] theorem State.withStaged_dsp (s : State) : (State.withStaged s).dsp = s.dsp := rfl
@[simp] theorem State.withStaged_dispFlip (s : State) : (State.withStaged s).dispFlip = s.dispFlip := rfl
@[simp] theorem State.withStaged_dispMode (s : State) : (State.withStaged s).dispMode = s.dispMode := rfl
@[simp] theorem State.withStaged_dispOff (s : State) : (State.withStaged s).dispOff = s.dispOff := rfl
@[simp] theorem State.withStaged_dispLast (s : State) : (State.withStaged s).dispLast = s.dispLast := rfl
@[simp] theorem State.withStaged_flash (s : State) : (State.withStaged s).flash = s.flash := rfl
@[simp] theorem State.withStaged_tallyMod (s : State) : (State.withStaged s).tallyMod = s.tallyMod := rfl
@[simp] theorem State.withStaged_tallyCol (s : State) : (State.withStaged s).tallyCol = s.tallyCol := rfl
@[simp] theorem State.withStaged_tallyRest (s : State) : (State.withStaged s).tallyRest = s.tallyRest := rfl
@[simp] theorem State.withStaged_free (s : State) : (State.withStaged s).free = s.free := rfl
@[simp] theorem State.withStaged_pending (s : State) : (State.withStaged s).pending = s.pending := rfl
@[simp] theorem State.updUid_part (s : State) (uid : Nat) (f : Node → Node) : (State.updUid s uid f).part = s.part := rfl
@[simp] theorem State.updUid_time (s : State) (uid : Nat) (f : Node → Node) : (State.updUid s uid f).time = s.time := rfl
@[simp] theorem State.updUid_tiles (s : State) (uid : Nat) (f : Node → Node) : (State.updUid s uid f).tiles = s.tiles := rfl
@[simp] theorem State.updUid_linkUp (s : State) (uid : Nat) (f : Node → Node) : (State.updUid s uid f).linkUp = s.linkUp := rfl
@[simp] theorem State.updUid_hops (s : State) (uid : Nat) (f : Node → Node) : (State.updUid s uid f).hops = s.hops := rfl
@[simp] theorem State.updUid_lead (s : State) (uid : Nat) (f : Node → Node) : (State.updUid s uid f).lead = s.lead := rfl
@[simp] theorem State.updUid_qen (s : State) (uid : Nat) (f : Node → Node) : (State.updUid s uid f).qen = s.qen := rfl
@[simp] theorem State.updUid_evh (s : State) (uid : Nat) (f : Node → Node) : (State.updUid s uid f).evh = s.evh := rfl
@[simp] theorem State.updUid_host (s : State) (uid : Nat) (f : Node → Node) : (State.updUid s uid f).host = s.host := rfl
@[simp] theorem State.updUid_busRead (s : State) (uid : Nat) (f : Node → Node) : (State.updUid s uid f).busRead = s.busRead := rfl
@[simp] theorem State.updUid_smbNack (s : State) (uid : Nat) (f : Node → Node) : (State.updUid s uid f).smbNack = s.smbNack := rfl
@[simp] theorem State.updUid_smbAlert (s : State) (uid : Nat) (f : Node → Node) : (State.updUid s uid f).smbAlert = s.smbAlert := rfl
@[simp] theorem State.updUid_extest (s : State) (uid : Nat) (f : Node → Node) : (State.updUid s uid f).extest = s.extest := rfl
@[simp] theorem State.updUid_job (s : State) (uid : Nat) (f : Node → Node) : (State.updUid s uid f).job = s.job := rfl
@[simp] theorem State.updUid_stores (s : State) (uid : Nat) (f : Node → Node) : (State.updUid s uid f).stores = s.stores := rfl
@[simp] theorem State.updUid_marks (s : State) (uid : Nat) (f : Node → Node) : (State.updUid s uid f).marks = s.marks := rfl
@[simp] theorem State.updUid_motion (s : State) (uid : Nat) (f : Node → Node) : (State.updUid s uid f).motion = s.motion := rfl
@[simp] theorem State.updUid_colour (s : State) (uid : Nat) (f : Node → Node) : (State.updUid s uid f).colour = s.colour := rfl
@[simp] theorem State.updUid_dsp (s : State) (uid : Nat) (f : Node → Node) : (State.updUid s uid f).dsp = s.dsp := rfl
@[simp] theorem State.updUid_dispFlip (s : State) (uid : Nat) (f : Node → Node) : (State.updUid s uid f).dispFlip = s.dispFlip := rfl
@[simp] theorem State.updUid_dispMode (s : State) (uid : Nat) (f : Node → Node) : (State.updUid s uid f).dispMode = s.dispMode := rfl
@[simp] theorem State.updUid_dispOff (s : State) (uid : Nat) (f : Node → Node) : (State.updUid s uid f).dispOff = s.dispOff := rfl
@[simp] theorem State.updUid_dispLast (s : State) (uid : Nat) (f : Node → Node) : (State.updUid s uid f).dispLast = s.dispLast := rfl
@[simp] theorem State.updUid_flash (s : State) (uid : Nat) (f : Node → Node) : (State.updUid s uid f).flash = s.flash := rfl
@[simp] theorem State.updUid_tallyMod (s : State) (uid : Nat) (f : Node → Node) : (State.updUid s uid f).tallyMod = s.tallyMod := rfl
@[simp] theorem State.updUid_tallyCol (s : State) (uid : Nat) (f : Node → Node) : (State.updUid s uid f).tallyCol = s.tallyCol := rfl
@[simp] theorem State.updUid_tallyRest (s : State) (uid : Nat) (f : Node → Node) : (State.updUid s uid f).tallyRest = s.tallyRest := rfl
@[simp] theorem State.updUid_free (s : State) (uid : Nat) (f : Node → Node) : (State.updUid s uid f).free = s.free := rfl
@[simp] theorem State.updUid_pending (s : State) (uid : Nat) (f : Node → Node) : (State.updUid s uid f).pending = s.pending := rfl
@[simp] theorem State.smbNacked_part (s : State) (u1 : Nat) : (State.smbNacked s u1).part = s.part := rfl
@[simp] theorem State.smbNacked_time (s : State) (u1 : Nat) : (State.smbNacked s u1).time = s.time := rfl
@[simp] theorem State.smbNacked_tiles (s : State) (u1 : Nat) : (State.smbNacked s u1).tiles = s.tiles := rfl
@[simp] theorem State.smbNacked_linkUp (s : State) (u1 : Nat) : (State.smbNacked s u1).linkUp = s.linkUp := rfl
@[simp] theorem State.smbNacked_hops (s : State) (u1 : Nat) : (State.smbNacked s u1).hops = s.hops := rfl
@[simp] theorem State.smbNacked_lead (s : State) (u1 : Nat) : (State.smbNacked s u1).lead = s.lead := rfl
@[simp] theorem State.smbNacked_qen (s : State) (u1 : Nat) : (State.smbNacked s u1).qen = s.qen := rfl
@[simp] theorem State.smbNacked_evh (s : State) (u1 : Nat) : (State.smbNacked s u1).evh = s.evh := rfl
@[simp] theorem State.smbNacked_host (s : State) (u1 : Nat) : (State.smbNacked s u1).host = s.host := rfl
@[simp] theorem State.smbNacked_busRead (s : State) (u1 : Nat) : (State.smbNacked s u1).busRead = s.busRead := rfl
@[simp] theorem State.smbNacked_smbAlert (s : State) (u1 : Nat) : (State.smbNacked s u1).smbAlert = s.smbAlert := rfl
@[simp] theorem State.smbNacked_extest (s : State) (u1 : Nat) : (State.smbNacked s u1).extest = s.extest := rfl
@[simp] theorem State.smbNacked_job (s : State) (u1 : Nat) : (State.smbNacked s u1).job = s.job := rfl
@[simp] theorem State.smbNacked_stores (s : State) (u1 : Nat) : (State.smbNacked s u1).stores = s.stores := rfl
@[simp] theorem State.smbNacked_marks (s : State) (u1 : Nat) : (State.smbNacked s u1).marks = s.marks := rfl
@[simp] theorem State.smbNacked_motion (s : State) (u1 : Nat) : (State.smbNacked s u1).motion = s.motion := rfl
@[simp] theorem State.smbNacked_colour (s : State) (u1 : Nat) : (State.smbNacked s u1).colour = s.colour := rfl
@[simp] theorem State.smbNacked_link (s : State) (u1 : Nat) : (State.smbNacked s u1).link = s.link := rfl
@[simp] theorem State.smbNacked_dsp (s : State) (u1 : Nat) : (State.smbNacked s u1).dsp = s.dsp := rfl
@[simp] theorem State.smbNacked_dispFlip (s : State) (u1 : Nat) : (State.smbNacked s u1).dispFlip = s.dispFlip := rfl
@[simp] theorem State.smbNacked_dispMode (s : State) (u1 : Nat) : (State.smbNacked s u1).dispMode = s.dispMode := rfl
@[simp] theorem State.smbNacked_dispOff (s : State) (u1 : Nat) : (State.smbNacked s u1).dispOff = s.dispOff := rfl
@[simp] theorem State.smbNacked_dispLast (s : State) (u1 : Nat) : (State.smbNacked s u1).dispLast = s.dispLast := rfl
@[simp] theorem State.smbNacked_flash (s : State) (u1 : Nat) : (State.smbNacked s u1).flash = s.flash := rfl
@[simp] theorem State.smbNacked_tallyMod (s : State) (u1 : Nat) : (State.smbNacked s u1).tallyMod = s.tallyMod := rfl
@[simp] theorem State.smbNacked_tallyCol (s : State) (u1 : Nat) : (State.smbNacked s u1).tallyCol = s.tallyCol := rfl
@[simp] theorem State.smbNacked_tallyRest (s : State) (u1 : Nat) : (State.smbNacked s u1).tallyRest = s.tallyRest := rfl
@[simp] theorem State.smbNacked_free (s : State) (u1 : Nat) : (State.smbNacked s u1).free = s.free := rfl
@[simp] theorem State.smbNacked_pending (s : State) (u1 : Nat) : (State.smbNacked s u1).pending = s.pending := rfl

end Sys2Proof.Machine
end

