-- ==== Sys2Proof/Laws/Store.lean ====
section
/-! SUPPORT. The packet store: what completing, placing and parking a packet do, and what they leave unchanged (12 R404). -/

namespace Sys2Proof.Machine

/-! ## Completions touch the queue engine alone -/

/-- t differs from s in the queue engine alone. -/
def QenOnly (s t : State) : Prop := { s with qen := t.qen } = t

theorem QenOnly.refl (s : State) : QenOnly s s := rfl
theorem QenOnly.trans (h : QenOnly s t) (h' : QenOnly t u) : QenOnly s u := by
  rw [QenOnly, ← h', ← h]

/-- What a counted completion may change: pairs' moderation, endpoints, and vectors due or pending, in the tables. -/
structure Counted (s t : State) : Prop where
  only : { s with qen := { s.qen with pairs := t.qen.pairs, ports := t.qen.ports, msix := t.qen.msix, due := t.qen.due } } = t
  pair : ∀ q, (t.pair q).map QueuePair.quiet = (s.pair q).map QueuePair.quiet

theorem Counted.refl (s : State) : Counted s s := ⟨rfl, fun _ => rfl⟩
theorem Counted.trans (h : Counted s t) (h' : Counted t u) : Counted s u :=
  ⟨by rw [← h'.only, ← h.only], fun q => (h'.pair q).trans (h.pair q)⟩
theorem Counted.qen (h : Counted s t) : QenOnly s t := by rw [← h.only]; rfl
theorem Counted.store (h : Counted s t) : t.qen.store = s.qen.store := by rw [← h.only]
theorem Counted.sessions (h : Counted s t) : t.qen.sessions = s.qen.sessions := by rw [← h.only]
theorem Counted.session (h : Counted s t) (n : Nat) : t.session n = s.session n := by rw [← h.only]; rfl

theorem vget_vset {α : Type} {n : Nat} (v : Vector α n) (i j : Nat) (x d : α) :
    vget (vset v i x) j d = if i = j ∧ i < n then x else vget v j d := by
  simp only [vget, vset, Vector.getElem?_setIfInBounds]
  by_cases h : i = j
  · subst h
    by_cases hi : i < n
    · simp [hi]
    · simp [hi]
  · simp [h]

theorem State.pair_setPair (s : State) (q n : Nat) (x : Option QueuePair) :
    (s.setPair q x).pair n = if q = n ∧ q < 256 then x else s.pair n := vget_vset _ _ _ _ _
theorem State.session_setSession (s : State) (q n : Nat) (x : Option Session) :
    (s.setSession q x).session n = if q = n ∧ q < 256 then x else s.session n := vget_vset _ _ _ _ _

theorem State.updPair_counted (s : State) (q : Nat) (f : QueuePair → QueuePair) (hf : ∀ x, (f x).quiet = x.quiet) :
    Counted s (s.updPair q f) := by
  refine ⟨rfl, fun n => ?_⟩
  rw [State.updPair, State.pair_setPair]
  split
  · rename_i h
    rw [← h.1]
    cases s.pair q <;> simp [hf]
  · rfl

/-- An endpoint's count and a pair's one message of a stay in D3 are moderation. -/
theorem State.pme_counted (h : Counted s t) (p k : Nat) (f : Port → Port) :
    Counted s ((t.updPort p f).updPair k (fun x => { x with pmeSent := true })) :=
  (Counted.trans h (u := t.updPort p f) ⟨rfl, fun _ => rfl⟩).trans (State.updPair_counted _ k _ (fun _ => rfl))

theorem State.vecDue_counted (s : State) (v : Nat) (q : Option Nat) : Counted s (s.vecDue v q) := by
  unfold State.vecDue
  extract_lets w wake q0 s1
  have h1 : Counted s s1 := by
    dsimp only [s1]
    split <;> exact ⟨rfl, fun _ => rfl⟩
  clear_value s1
  cases q with
  | none => exact h1
  | some k =>
    dsimp only
    split
    · exact State.pme_counted h1 _ _ _
    · split
      · exact h1.trans ⟨rfl, fun _ => rfl⟩
      · exact h1

theorem State.cqDue_counted (s : State) (q : Nat) : Counted s (s.cqDue q) := by
  unfold State.cqDue
  exact (State.updPair_counted s q (fun x => { x with win := none }) (fun _ => rfl)).trans (State.vecDue_counted _ _ _)

theorem State.closeExpired_counted (s : State) (q : Nat) : Counted s (s.closeExpired q) := by
  unfold State.closeExpired
  repeat' split
  · exact State.cqDue_counted s q
  all_goals exact Counted.refl s

theorem State.countOpen_counted (s : State) (q : Nat) : Counted s (s.countOpen q) := by
  unfold State.countOpen
  refine (State.closeExpired_counted s q).trans ?_
  extract_lets u w s1
  have h1 : Counted u s1 := State.updPair_counted u q _ (fun _ => rfl)
  split
  · exact h1.trans (State.cqDue_counted _ _)
  · exact h1

theorem State.countNotify_counted (s : State) (q : Nat) (u : Bool) : Counted s (s.countNotify q u) := by
  unfold State.countNotify
  refine (State.countOpen_counted s q).trans ?_
  extract_lets s1
  split
  · exact State.cqDue_counted _ _
  · exact Counted.refl _

/-- A completion changes its entry, and what counting it for moderation changes. -/
theorem State.complete_counted (s : State) (seq st r0 r1 : Nat) : ∃ l, Counted (s.setStore l) (s.complete seq st r0 r1) := by
  unfold State.complete
  split
  · exact ⟨s.qen.store, Counted.refl s⟩
  · split
    · exact ⟨s.qen.store, Counted.refl s⟩
    · extract_lets counts s1
      refine ⟨s1.qen.store, ?_⟩
      have h1 : s.setStore s1.qen.store = s1 := rfl
      rw [h1]
      split
      · exact State.countNotify_counted _ _ _
      · exact Counted.refl _

/-- A completion changes nothing but the queue engine. -/
theorem State.complete_only (s : State) (seq st r0 r1 : Nat) : QenOnly s (s.complete seq st r0 r1) := by
  obtain ⟨l, h⟩ := State.complete_counted s seq st r0 r1
  exact QenOnly.trans (t := s.setStore l) rfl h.qen

@[simp] theorem State.complete_session (s : State) (seq st r0 r1 n : Nat) : (s.complete seq st r0 r1).session n = s.session n := by
  obtain ⟨l, h⟩ := State.complete_counted s seq st r0 r1
  exact h.session n
@[simp] theorem State.done_session (s : State) (seq st n : Nat) : (s.done seq st).session n = s.session n := State.complete_session s seq st 0 0 n

/-- A completion changes a queue pair in its moderation alone. -/
theorem State.complete_pair (s : State) (seq st r0 r1 q : Nat) :
    ((s.complete seq st r0 r1).pair q).map QueuePair.quiet = (s.pair q).map QueuePair.quiet := by
  obtain ⟨l, h⟩ := State.complete_counted s seq st r0 r1
  exact h.pair q

theorem State.complete_store (s : State) (seq st r0 r1 : Nat) (h : s.entry seq = some e) (hn : e.st ≠ .done) :
    (s.complete seq st r0 r1).qen.store =
      mapIf s.qen.store (fun x => x.p.seq == seq) (fun x => x.decide st r0 r1 s.now (e.p.notify && decide (s.port.dstate ≠ 0))) := by
  unfold State.complete
  rw [h]
  dsimp only
  rw [if_neg hn]
  split
  · rw [(State.countNotify_counted _ _ _).store]; rfl
  · rfl

/-! ## Entries of a changed store -/

theorem find_mapIf {l : List StoreEntry} {f : StoreEntry → StoreEntry} (hf : ∀ e, (f e).p = e.p) :
    (mapIf l (fun x => x.p.seq == q) f).find? (fun e => e.p.seq == n) =
      (l.find? (fun e => e.p.seq == n)).map (fun e => if e.p.seq == q then f e else e) := by
  induction l with
  | nil => rfl
  | cons a r ih =>
    have hs : (if (a.p.seq == q) = true then f a else a).p.seq = a.p.seq := by split <;> simp [hf]
    simp only [mapIf, List.map_cons, List.find?_cons, hs] at ih ⊢
    split
    · rfl
    · exact ih

theorem State.entry_seq (h : State.entry s seq = some e) : e.p.seq = seq := by
  have := List.find?_some h
  simpa using this

theorem State.entry_updEntry (s : State) (f : StoreEntry → StoreEntry) (hf : ∀ e, (f e).p = e.p) :
    (s.updEntry seq f).entry n = (s.entry n).map (fun e => if n = seq then f e else e) := by
  have h := find_mapIf (l := s.qen.store) (q := seq) (n := n) hf
  show (mapIf s.qen.store (fun e => e.p.seq == seq) f).find? (fun e => e.p.seq == n) = _
  rw [h]
  cases hx : s.entry n with
  | none => simp only [State.entry] at hx; rw [hx]; rfl
  | some e =>
    have he := State.entry_seq hx
    simp only [State.entry] at hx
    rw [hx]
    simp only [Option.map_some, he, beq_iff_eq]

/-- A packet not yet DONE becomes DONE with the status and the results of the completion. -/
theorem State.complete_done (s : State) (seq st r0 r1 : Nat) (h : s.entry seq = some e) (hn : e.st ≠ .done) :
    (s.complete seq st r0 r1).DoneWith seq st (r0 % 2 ^ 32) (r1 % 2 ^ 31) := by
  have hs := State.complete_store s seq st r0 r1 h hn
  have hf := find_mapIf (l := s.qen.store) (q := seq) (n := seq)
    (f := fun x => x.decide st r0 r1 s.now (e.p.notify && decide (s.port.dstate ≠ 0))) (fun _ => rfl)
  refine ⟨e.decide st r0 r1 s.now (e.p.notify && decide (s.port.dstate ≠ 0)), ?_, rfl, rfl, rfl, rfl⟩
  have he := State.entry_seq h
  rw [State.entry] at h ⊢
  rw [hs, hf, h, Option.map_some, he, if_pos (by simp)]

theorem State.done_done (s : State) (seq st : Nat) (h : s.entry seq = some e) (hn : e.st ≠ .done) :
    (s.done seq st).DoneWith seq st 0 0 := State.complete_done s seq st 0 0 h hn

/-- Another packet's entry is unchanged by a completion. -/
theorem State.complete_other (s : State) (hq : n ≠ seq) : (s.complete seq st r0 r1).entry n = s.entry n := by
  cases h : s.entry seq with
  | none => simp only [State.complete, h]
  | some e =>
    by_cases hn : e.st = .done
    · simp only [State.complete, h, if_pos hn]
    · have hs := State.complete_store s seq st r0 r1 h hn
      have hf := find_mapIf (l := s.qen.store) (q := seq) (n := n)
        (f := fun x => x.decide st r0 r1 s.now (e.p.notify && decide (s.port.dstate ≠ 0))) (fun _ => rfl)
      have : (s.complete seq st r0 r1).entry n = (s.entry n).map (fun x => if x.p.seq == seq then
          x.decide st r0 r1 s.now (e.p.notify && decide (s.port.dstate ≠ 0)) else x) := by
        rw [State.entry, hs, hf]; rfl
      rw [this]
      cases hx : s.entry n with
      | none => rfl
      | some x =>
        have hx' := State.entry_seq hx
        rw [Option.map_some, hx', if_neg (by simpa using hq)]

/-! ## Placing, parking and running -/

/-- A packet not yet dispatched is RUNNING in the store when it is placed. -/
theorem State.place_running (s : State) (p : Packet) : (s.place p).RunningOn p.seq .work := by
  unfold State.RunningOn State.place
  extract_lets e q s1
  split
  · rename_i h
    refine ⟨e, ?_, rfl, rfl⟩
    rw [State.entry] at h
    simp only [State.entry, State.setStore, List.find?_append, h]
    simp [e]
  · rename_i x h
    refine ⟨{ x with st := .running, wait := .work, disp := s.qen.nextDisp, rights := s.session p.session }, ?_, rfl, rfl⟩
    rw [State.entry_updEntry]
    · have h1 : s1.entry p.seq = some x := h
      rw [h1, Option.map_some, if_pos rfl]
    · intro _; rfl

theorem State.park_parked (s : State) (h : s.entry seq = some e) : (s.park seq w).ParkedOn seq w := by
  refine ⟨{ e with st := .parked, wait := w }, ?_, rfl, rfl⟩
  rw [State.park, State.entry_updEntry, h]
  · simp
  · intro _; rfl

theorem State.run_running (s : State) (h : s.entry seq = some e) : (s.run seq w).RunningOn seq w := by
  refine ⟨{ e with st := .running, wait := w }, ?_, rfl, rfl⟩
  rw [State.run, State.entry_updEntry, h]
  · simp
  · intro _; rfl

end Sys2Proof.Machine
end

