-- ==== Sys2Proof/Laws/Engine.lean ====
section
/-! SUPPORT. What the command engine does with a packet: it runs, it reads its host buffer, or a check turns it away (12 R399,
R404, R414; 13 R431, R435). -/

namespace Sys2Proof.Machine

/-! ## The package beside its queue engine -/

theorem QenOnly.beside (h : QenOnly s t) : t.beside = s.beside := by
  rw [← (h : { s with qen := t.qen } = t)]; rfl

/-- What the queue engine does not hold is left alone: every other field. -/
theorem QenOnly.fields (h : QenOnly s t) : t.part = s.part ∧ t.time = s.time ∧ t.tiles = s.tiles ∧ t.linkUp = s.linkUp ∧ t.hops = s.hops ∧ t.lead = s.lead ∧ t.evh = s.evh ∧
    t.host = s.host ∧ t.busRead = s.busRead ∧ t.smbNack = s.smbNack ∧ t.smbAlert = s.smbAlert ∧ t.extest = s.extest ∧ t.job = s.job ∧ t.stores = s.stores ∧
    t.marks = s.marks ∧ t.motion = s.motion ∧ t.colour = s.colour ∧ t.link = s.link ∧ t.dsp = s.dsp ∧ t.dispFlip = s.dispFlip ∧ t.dispMode = s.dispMode ∧ t.dispOff = s.dispOff ∧
    t.dispLast = s.dispLast ∧ t.flash = s.flash ∧ t.tallyMod = s.tallyMod ∧ t.tallyCol = s.tallyCol ∧ t.tallyRest = s.tallyRest ∧ t.free = s.free ∧ t.pending = s.pending := by
  rw [← (h : { s with qen := t.qen } = t)]
  simp
@[simp] theorem State.complete_part (s : State) (seq st r0 r1 : Nat) : (s.complete seq st r0 r1).part = s.part := by
  rw [← (State.complete_only s seq st r0 r1 : { s with qen := _ } = s.complete seq st r0 r1)]
@[simp] theorem State.complete_time (s : State) (seq st r0 r1 : Nat) : (s.complete seq st r0 r1).time = s.time := by
  rw [← (State.complete_only s seq st r0 r1 : { s with qen := _ } = s.complete seq st r0 r1)]
@[simp] theorem State.complete_tiles (s : State) (seq st r0 r1 : Nat) : (s.complete seq st r0 r1).tiles = s.tiles := by
  rw [← (State.complete_only s seq st r0 r1 : { s with qen := _ } = s.complete seq st r0 r1)]
@[simp] theorem State.complete_linkUp (s : State) (seq st r0 r1 : Nat) : (s.complete seq st r0 r1).linkUp = s.linkUp := by
  rw [← (State.complete_only s seq st r0 r1 : { s with qen := _ } = s.complete seq st r0 r1)]
@[simp] theorem State.complete_hops (s : State) (seq st r0 r1 : Nat) : (s.complete seq st r0 r1).hops = s.hops := by
  rw [← (State.complete_only s seq st r0 r1 : { s with qen := _ } = s.complete seq st r0 r1)]
@[simp] theorem State.complete_lead (s : State) (seq st r0 r1 : Nat) : (s.complete seq st r0 r1).lead = s.lead := by
  rw [← (State.complete_only s seq st r0 r1 : { s with qen := _ } = s.complete seq st r0 r1)]
@[simp] theorem State.complete_evh (s : State) (seq st r0 r1 : Nat) : (s.complete seq st r0 r1).evh = s.evh := by
  rw [← (State.complete_only s seq st r0 r1 : { s with qen := _ } = s.complete seq st r0 r1)]
@[simp] theorem State.complete_host (s : State) (seq st r0 r1 : Nat) : (s.complete seq st r0 r1).host = s.host := by
  rw [← (State.complete_only s seq st r0 r1 : { s with qen := _ } = s.complete seq st r0 r1)]
@[simp] theorem State.complete_busRead (s : State) (seq st r0 r1 : Nat) : (s.complete seq st r0 r1).busRead = s.busRead := by
  rw [← (State.complete_only s seq st r0 r1 : { s with qen := _ } = s.complete seq st r0 r1)]
@[simp] theorem State.complete_smbNack (s : State) (seq st r0 r1 : Nat) : (s.complete seq st r0 r1).smbNack = s.smbNack := by
  rw [← (State.complete_only s seq st r0 r1 : { s with qen := _ } = s.complete seq st r0 r1)]
@[simp] theorem State.complete_smbAlert (s : State) (seq st r0 r1 : Nat) : (s.complete seq st r0 r1).smbAlert = s.smbAlert := by
  rw [← (State.complete_only s seq st r0 r1 : { s with qen := _ } = s.complete seq st r0 r1)]
@[simp] theorem State.complete_extest (s : State) (seq st r0 r1 : Nat) : (s.complete seq st r0 r1).extest = s.extest := by
  rw [← (State.complete_only s seq st r0 r1 : { s with qen := _ } = s.complete seq st r0 r1)]
@[simp] theorem State.complete_job (s : State) (seq st r0 r1 : Nat) : (s.complete seq st r0 r1).job = s.job := by
  rw [← (State.complete_only s seq st r0 r1 : { s with qen := _ } = s.complete seq st r0 r1)]
@[simp] theorem State.complete_stores (s : State) (seq st r0 r1 : Nat) : (s.complete seq st r0 r1).stores = s.stores := by
  rw [← (State.complete_only s seq st r0 r1 : { s with qen := _ } = s.complete seq st r0 r1)]
@[simp] theorem State.complete_marks (s : State) (seq st r0 r1 : Nat) : (s.complete seq st r0 r1).marks = s.marks := by
  rw [← (State.complete_only s seq st r0 r1 : { s with qen := _ } = s.complete seq st r0 r1)]
@[simp] theorem State.complete_motion (s : State) (seq st r0 r1 : Nat) : (s.complete seq st r0 r1).motion = s.motion := by
  rw [← (State.complete_only s seq st r0 r1 : { s with qen := _ } = s.complete seq st r0 r1)]
@[simp] theorem State.complete_colour (s : State) (seq st r0 r1 : Nat) : (s.complete seq st r0 r1).colour = s.colour := by
  rw [← (State.complete_only s seq st r0 r1 : { s with qen := _ } = s.complete seq st r0 r1)]
@[simp] theorem State.complete_link (s : State) (seq st r0 r1 : Nat) : (s.complete seq st r0 r1).link = s.link := by
  rw [← (State.complete_only s seq st r0 r1 : { s with qen := _ } = s.complete seq st r0 r1)]
@[simp] theorem State.complete_dsp (s : State) (seq st r0 r1 : Nat) : (s.complete seq st r0 r1).dsp = s.dsp := by
  rw [← (State.complete_only s seq st r0 r1 : { s with qen := _ } = s.complete seq st r0 r1)]
@[simp] theorem State.complete_dispFlip (s : State) (seq st r0 r1 : Nat) : (s.complete seq st r0 r1).dispFlip = s.dispFlip := by
  rw [← (State.complete_only s seq st r0 r1 : { s with qen := _ } = s.complete seq st r0 r1)]
@[simp] theorem State.complete_dispMode (s : State) (seq st r0 r1 : Nat) : (s.complete seq st r0 r1).dispMode = s.dispMode := by
  rw [← (State.complete_only s seq st r0 r1 : { s with qen := _ } = s.complete seq st r0 r1)]
@[simp] theorem State.complete_dispOff (s : State) (seq st r0 r1 : Nat) : (s.complete seq st r0 r1).dispOff = s.dispOff := by
  rw [← (State.complete_only s seq st r0 r1 : { s with qen := _ } = s.complete seq st r0 r1)]
@[simp] theorem State.complete_dispLast (s : State) (seq st r0 r1 : Nat) : (s.complete seq st r0 r1).dispLast = s.dispLast := by
  rw [← (State.complete_only s seq st r0 r1 : { s with qen := _ } = s.complete seq st r0 r1)]
@[simp] theorem State.complete_flash (s : State) (seq st r0 r1 : Nat) : (s.complete seq st r0 r1).flash = s.flash := by
  rw [← (State.complete_only s seq st r0 r1 : { s with qen := _ } = s.complete seq st r0 r1)]
@[simp] theorem State.complete_tallyMod (s : State) (seq st r0 r1 : Nat) : (s.complete seq st r0 r1).tallyMod = s.tallyMod := by
  rw [← (State.complete_only s seq st r0 r1 : { s with qen := _ } = s.complete seq st r0 r1)]
@[simp] theorem State.complete_tallyCol (s : State) (seq st r0 r1 : Nat) : (s.complete seq st r0 r1).tallyCol = s.tallyCol := by
  rw [← (State.complete_only s seq st r0 r1 : { s with qen := _ } = s.complete seq st r0 r1)]
@[simp] theorem State.complete_tallyRest (s : State) (seq st r0 r1 : Nat) : (s.complete seq st r0 r1).tallyRest = s.tallyRest := by
  rw [← (State.complete_only s seq st r0 r1 : { s with qen := _ } = s.complete seq st r0 r1)]
@[simp] theorem State.complete_free (s : State) (seq st r0 r1 : Nat) : (s.complete seq st r0 r1).free = s.free := by
  rw [← (State.complete_only s seq st r0 r1 : { s with qen := _ } = s.complete seq st r0 r1)]
@[simp] theorem State.complete_pending (s : State) (seq st r0 r1 : Nat) : (s.complete seq st r0 r1).pending = s.pending := by
  rw [← (State.complete_only s seq st r0 r1 : { s with qen := _ } = s.complete seq st r0 r1)]
@[simp] theorem State.done_part (s : State) (seq st : Nat) : (s.done seq st).part = s.part := State.complete_part s seq st 0 0
@[simp] theorem State.done_time (s : State) (seq st : Nat) : (s.done seq st).time = s.time := State.complete_time s seq st 0 0
@[simp] theorem State.done_tiles (s : State) (seq st : Nat) : (s.done seq st).tiles = s.tiles := State.complete_tiles s seq st 0 0
@[simp] theorem State.done_linkUp (s : State) (seq st : Nat) : (s.done seq st).linkUp = s.linkUp := State.complete_linkUp s seq st 0 0
@[simp] theorem State.done_hops (s : State) (seq st : Nat) : (s.done seq st).hops = s.hops := State.complete_hops s seq st 0 0
@[simp] theorem State.done_lead (s : State) (seq st : Nat) : (s.done seq st).lead = s.lead := State.complete_lead s seq st 0 0
@[simp] theorem State.done_evh (s : State) (seq st : Nat) : (s.done seq st).evh = s.evh := State.complete_evh s seq st 0 0
@[simp] theorem State.done_host (s : State) (seq st : Nat) : (s.done seq st).host = s.host := State.complete_host s seq st 0 0
@[simp] theorem State.done_busRead (s : State) (seq st : Nat) : (s.done seq st).busRead = s.busRead := State.complete_busRead s seq st 0 0
@[simp] theorem State.done_smbNack (s : State) (seq st : Nat) : (s.done seq st).smbNack = s.smbNack := State.complete_smbNack s seq st 0 0
@[simp] theorem State.done_smbAlert (s : State) (seq st : Nat) : (s.done seq st).smbAlert = s.smbAlert := State.complete_smbAlert s seq st 0 0
@[simp] theorem State.done_extest (s : State) (seq st : Nat) : (s.done seq st).extest = s.extest := State.complete_extest s seq st 0 0
@[simp] theorem State.done_job (s : State) (seq st : Nat) : (s.done seq st).job = s.job := State.complete_job s seq st 0 0
@[simp] theorem State.done_stores (s : State) (seq st : Nat) : (s.done seq st).stores = s.stores := State.complete_stores s seq st 0 0
@[simp] theorem State.done_marks (s : State) (seq st : Nat) : (s.done seq st).marks = s.marks := State.complete_marks s seq st 0 0
@[simp] theorem State.done_motion (s : State) (seq st : Nat) : (s.done seq st).motion = s.motion := State.complete_motion s seq st 0 0
@[simp] theorem State.done_colour (s : State) (seq st : Nat) : (s.done seq st).colour = s.colour := State.complete_colour s seq st 0 0
@[simp] theorem State.done_link (s : State) (seq st : Nat) : (s.done seq st).link = s.link := State.complete_link s seq st 0 0
@[simp] theorem State.done_dsp (s : State) (seq st : Nat) : (s.done seq st).dsp = s.dsp := State.complete_dsp s seq st 0 0
@[simp] theorem State.done_dispFlip (s : State) (seq st : Nat) : (s.done seq st).dispFlip = s.dispFlip := State.complete_dispFlip s seq st 0 0
@[simp] theorem State.done_dispMode (s : State) (seq st : Nat) : (s.done seq st).dispMode = s.dispMode := State.complete_dispMode s seq st 0 0
@[simp] theorem State.done_dispOff (s : State) (seq st : Nat) : (s.done seq st).dispOff = s.dispOff := State.complete_dispOff s seq st 0 0
@[simp] theorem State.done_dispLast (s : State) (seq st : Nat) : (s.done seq st).dispLast = s.dispLast := State.complete_dispLast s seq st 0 0
@[simp] theorem State.done_flash (s : State) (seq st : Nat) : (s.done seq st).flash = s.flash := State.complete_flash s seq st 0 0
@[simp] theorem State.done_tallyMod (s : State) (seq st : Nat) : (s.done seq st).tallyMod = s.tallyMod := State.complete_tallyMod s seq st 0 0
@[simp] theorem State.done_tallyCol (s : State) (seq st : Nat) : (s.done seq st).tallyCol = s.tallyCol := State.complete_tallyCol s seq st 0 0
@[simp] theorem State.done_tallyRest (s : State) (seq st : Nat) : (s.done seq st).tallyRest = s.tallyRest := State.complete_tallyRest s seq st 0 0
@[simp] theorem State.done_free (s : State) (seq st : Nat) : (s.done seq st).free = s.free := State.complete_free s seq st 0 0
@[simp] theorem State.done_pending (s : State) (seq st : Nat) : (s.done seq st).pending = s.pending := State.complete_pending s seq st 0 0
@[simp] theorem State.doneLine_part (s : State) (seq st n : Nat) : (s.doneLine seq st n).part = s.part := State.complete_part s seq st _ _
@[simp] theorem State.doneLine_time (s : State) (seq st n : Nat) : (s.doneLine seq st n).time = s.time := State.complete_time s seq st _ _
@[simp] theorem State.doneLine_tiles (s : State) (seq st n : Nat) : (s.doneLine seq st n).tiles = s.tiles := State.complete_tiles s seq st _ _
@[simp] theorem State.doneLine_linkUp (s : State) (seq st n : Nat) : (s.doneLine seq st n).linkUp = s.linkUp := State.complete_linkUp s seq st _ _
@[simp] theorem State.doneLine_hops (s : State) (seq st n : Nat) : (s.doneLine seq st n).hops = s.hops := State.complete_hops s seq st _ _
@[simp] theorem State.doneLine_lead (s : State) (seq st n : Nat) : (s.doneLine seq st n).lead = s.lead := State.complete_lead s seq st _ _
@[simp] theorem State.doneLine_evh (s : State) (seq st n : Nat) : (s.doneLine seq st n).evh = s.evh := State.complete_evh s seq st _ _
@[simp] theorem State.doneLine_host (s : State) (seq st n : Nat) : (s.doneLine seq st n).host = s.host := State.complete_host s seq st _ _
@[simp] theorem State.doneLine_busRead (s : State) (seq st n : Nat) : (s.doneLine seq st n).busRead = s.busRead := State.complete_busRead s seq st _ _
@[simp] theorem State.doneLine_smbNack (s : State) (seq st n : Nat) : (s.doneLine seq st n).smbNack = s.smbNack := State.complete_smbNack s seq st _ _
@[simp] theorem State.doneLine_smbAlert (s : State) (seq st n : Nat) : (s.doneLine seq st n).smbAlert = s.smbAlert := State.complete_smbAlert s seq st _ _
@[simp] theorem State.doneLine_extest (s : State) (seq st n : Nat) : (s.doneLine seq st n).extest = s.extest := State.complete_extest s seq st _ _
@[simp] theorem State.doneLine_job (s : State) (seq st n : Nat) : (s.doneLine seq st n).job = s.job := State.complete_job s seq st _ _
@[simp] theorem State.doneLine_stores (s : State) (seq st n : Nat) : (s.doneLine seq st n).stores = s.stores := State.complete_stores s seq st _ _
@[simp] theorem State.doneLine_marks (s : State) (seq st n : Nat) : (s.doneLine seq st n).marks = s.marks := State.complete_marks s seq st _ _
@[simp] theorem State.doneLine_motion (s : State) (seq st n : Nat) : (s.doneLine seq st n).motion = s.motion := State.complete_motion s seq st _ _
@[simp] theorem State.doneLine_colour (s : State) (seq st n : Nat) : (s.doneLine seq st n).colour = s.colour := State.complete_colour s seq st _ _
@[simp] theorem State.doneLine_link (s : State) (seq st n : Nat) : (s.doneLine seq st n).link = s.link := State.complete_link s seq st _ _
@[simp] theorem State.doneLine_dsp (s : State) (seq st n : Nat) : (s.doneLine seq st n).dsp = s.dsp := State.complete_dsp s seq st _ _
@[simp] theorem State.doneLine_dispFlip (s : State) (seq st n : Nat) : (s.doneLine seq st n).dispFlip = s.dispFlip := State.complete_dispFlip s seq st _ _
@[simp] theorem State.doneLine_dispMode (s : State) (seq st n : Nat) : (s.doneLine seq st n).dispMode = s.dispMode := State.complete_dispMode s seq st _ _
@[simp] theorem State.doneLine_dispOff (s : State) (seq st n : Nat) : (s.doneLine seq st n).dispOff = s.dispOff := State.complete_dispOff s seq st _ _
@[simp] theorem State.doneLine_dispLast (s : State) (seq st n : Nat) : (s.doneLine seq st n).dispLast = s.dispLast := State.complete_dispLast s seq st _ _
@[simp] theorem State.doneLine_flash (s : State) (seq st n : Nat) : (s.doneLine seq st n).flash = s.flash := State.complete_flash s seq st _ _
@[simp] theorem State.doneLine_tallyMod (s : State) (seq st n : Nat) : (s.doneLine seq st n).tallyMod = s.tallyMod := State.complete_tallyMod s seq st _ _
@[simp] theorem State.doneLine_tallyCol (s : State) (seq st n : Nat) : (s.doneLine seq st n).tallyCol = s.tallyCol := State.complete_tallyCol s seq st _ _
@[simp] theorem State.doneLine_tallyRest (s : State) (seq st n : Nat) : (s.doneLine seq st n).tallyRest = s.tallyRest := State.complete_tallyRest s seq st _ _
@[simp] theorem State.doneLine_free (s : State) (seq st n : Nat) : (s.doneLine seq st n).free = s.free := State.complete_free s seq st _ _
@[simp] theorem State.doneLine_pending (s : State) (seq st n : Nat) : (s.doneLine seq st n).pending = s.pending := State.complete_pending s seq st _ _
@[simp] theorem State.complete_beside (s : State) (seq st r0 r1 : Nat) : (s.complete seq st r0 r1).beside = s.beside :=
  (State.complete_only s seq st r0 r1).beside
@[simp] theorem State.done_beside (s : State) (seq st : Nat) : (s.done seq st).beside = s.beside := State.complete_beside s seq st 0 0
@[simp] theorem State.doneLine_beside (s : State) (seq st n : Nat) : (s.doneLine seq st n).beside = s.beside := State.complete_beside s seq st _ _
@[simp] theorem State.park_beside (s : State) (seq : Nat) (w : Wait) : (s.park seq w).beside = s.beside := rfl
@[simp] theorem State.run_beside (s : State) (seq : Nat) (w : Wait) : (s.run seq w).beside = s.beside := rfl
@[simp] theorem State.setSession_beside (s : State) (n : Nat) (x : Option Session) : (s.setSession n x).beside = s.beside := rfl
@[simp] theorem State.setPair_beside (s : State) (n : Nat) (x : Option QueuePair) : (s.setPair n x).beside = s.beside := rfl
@[simp] theorem State.updPair_beside (s : State) (n : Nat) (f : QueuePair → QueuePair) : (s.updPair n f).beside = s.beside := rfl
@[simp] theorem State.mirrorSend_beside (s : State) (m : Mirror) : (s.mirrorSend m).beside = s.beside := by
  unfold State.mirrorSend; split <;> rfl

/-- Placing a packet changes nothing but the queue engine. -/
theorem State.place_only (s : State) (p : Packet) : QenOnly s (s.place p) := by
  unfold State.place
  extract_lets e q s1
  split <;> rfl
@[simp] theorem State.place_part (s : State) (p : Packet) : (s.place p).part = s.part := by rw [← (State.place_only s p : { s with qen := _ } = s.place p)]
@[simp] theorem State.place_time (s : State) (p : Packet) : (s.place p).time = s.time := by rw [← (State.place_only s p : { s with qen := _ } = s.place p)]
@[simp] theorem State.place_tiles (s : State) (p : Packet) : (s.place p).tiles = s.tiles := by rw [← (State.place_only s p : { s with qen := _ } = s.place p)]
@[simp] theorem State.place_linkUp (s : State) (p : Packet) : (s.place p).linkUp = s.linkUp := by rw [← (State.place_only s p : { s with qen := _ } = s.place p)]
@[simp] theorem State.place_hops (s : State) (p : Packet) : (s.place p).hops = s.hops := by rw [← (State.place_only s p : { s with qen := _ } = s.place p)]
@[simp] theorem State.place_lead (s : State) (p : Packet) : (s.place p).lead = s.lead := by rw [← (State.place_only s p : { s with qen := _ } = s.place p)]
@[simp] theorem State.place_evh (s : State) (p : Packet) : (s.place p).evh = s.evh := by rw [← (State.place_only s p : { s with qen := _ } = s.place p)]
@[simp] theorem State.place_host (s : State) (p : Packet) : (s.place p).host = s.host := by rw [← (State.place_only s p : { s with qen := _ } = s.place p)]
@[simp] theorem State.place_busRead (s : State) (p : Packet) : (s.place p).busRead = s.busRead := by rw [← (State.place_only s p : { s with qen := _ } = s.place p)]
@[simp] theorem State.place_smbNack (s : State) (p : Packet) : (s.place p).smbNack = s.smbNack := by rw [← (State.place_only s p : { s with qen := _ } = s.place p)]
@[simp] theorem State.place_smbAlert (s : State) (p : Packet) : (s.place p).smbAlert = s.smbAlert := by rw [← (State.place_only s p : { s with qen := _ } = s.place p)]
@[simp] theorem State.place_extest (s : State) (p : Packet) : (s.place p).extest = s.extest := by rw [← (State.place_only s p : { s with qen := _ } = s.place p)]
@[simp] theorem State.place_job (s : State) (p : Packet) : (s.place p).job = s.job := by rw [← (State.place_only s p : { s with qen := _ } = s.place p)]
@[simp] theorem State.place_stores (s : State) (p : Packet) : (s.place p).stores = s.stores := by rw [← (State.place_only s p : { s with qen := _ } = s.place p)]
@[simp] theorem State.place_marks (s : State) (p : Packet) : (s.place p).marks = s.marks := by rw [← (State.place_only s p : { s with qen := _ } = s.place p)]
@[simp] theorem State.place_motion (s : State) (p : Packet) : (s.place p).motion = s.motion := by rw [← (State.place_only s p : { s with qen := _ } = s.place p)]
@[simp] theorem State.place_colour (s : State) (p : Packet) : (s.place p).colour = s.colour := by rw [← (State.place_only s p : { s with qen := _ } = s.place p)]
@[simp] theorem State.place_link (s : State) (p : Packet) : (s.place p).link = s.link := by rw [← (State.place_only s p : { s with qen := _ } = s.place p)]
@[simp] theorem State.place_dsp (s : State) (p : Packet) : (s.place p).dsp = s.dsp := by rw [← (State.place_only s p : { s with qen := _ } = s.place p)]
@[simp] theorem State.place_dispFlip (s : State) (p : Packet) : (s.place p).dispFlip = s.dispFlip := by rw [← (State.place_only s p : { s with qen := _ } = s.place p)]
@[simp] theorem State.place_dispMode (s : State) (p : Packet) : (s.place p).dispMode = s.dispMode := by rw [← (State.place_only s p : { s with qen := _ } = s.place p)]
@[simp] theorem State.place_dispOff (s : State) (p : Packet) : (s.place p).dispOff = s.dispOff := by rw [← (State.place_only s p : { s with qen := _ } = s.place p)]
@[simp] theorem State.place_dispLast (s : State) (p : Packet) : (s.place p).dispLast = s.dispLast := by rw [← (State.place_only s p : { s with qen := _ } = s.place p)]
@[simp] theorem State.place_flash (s : State) (p : Packet) : (s.place p).flash = s.flash := by rw [← (State.place_only s p : { s with qen := _ } = s.place p)]
@[simp] theorem State.place_tallyMod (s : State) (p : Packet) : (s.place p).tallyMod = s.tallyMod := by rw [← (State.place_only s p : { s with qen := _ } = s.place p)]
@[simp] theorem State.place_tallyCol (s : State) (p : Packet) : (s.place p).tallyCol = s.tallyCol := by rw [← (State.place_only s p : { s with qen := _ } = s.place p)]
@[simp] theorem State.place_tallyRest (s : State) (p : Packet) : (s.place p).tallyRest = s.tallyRest := by rw [← (State.place_only s p : { s with qen := _ } = s.place p)]
@[simp] theorem State.place_free (s : State) (p : Packet) : (s.place p).free = s.free := by rw [← (State.place_only s p : { s with qen := _ } = s.place p)]
@[simp] theorem State.place_pending (s : State) (p : Packet) : (s.place p).pending = s.pending := by rw [← (State.place_only s p : { s with qen := _ } = s.place p)]
@[simp] theorem State.place_beside (s : State) (p : Packet) : (s.place p).beside = s.beside := (State.place_only s p).beside
/-- A placed packet's package, field by field. -/
theorem State.place_eq (s : State) (p : Packet) : s.place p = { s with qen := (s.place p).qen } := (State.place_only s p).symm

@[simp] theorem State.place_session (s : State) (p : Packet) (n : Nat) : (s.place p).session n = s.session n := by
  unfold State.place; extract_lets e q s1; split <;> rfl
@[simp] theorem State.place_pair (s : State) (p : Packet) (n : Nat) : (s.place p).pair n = s.pair n := by
  unfold State.place; extract_lets e q s1; split <;> rfl
@[simp] theorem State.run_session (s : State) (q : Nat) (w : Wait) (n : Nat) : (s.run q w).session n = s.session n := rfl
@[simp] theorem State.run_pair (s : State) (q : Nat) (w : Wait) (n : Nat) : (s.run q w).pair n = s.pair n := rfl

/-- A placed packet is not DONE. -/
theorem State.place_open (s : State) (p : Packet) : ∃ e, (s.place p).entry p.seq = some e ∧ e.st ≠ .done := by
  obtain ⟨e, h, h1, _⟩ := State.place_running s p
  exact ⟨e, h, by simp [h1]⟩

/-- A packet already DONE is not completed again. -/
theorem State.complete_keeps (s : State) (h : s.DoneWith seq st r0 r1) (n st' a b : Nat) : (s.complete n st' a b).DoneWith seq st r0 r1 := by
  obtain ⟨e, he, hd, h1⟩ := h
  by_cases hn : seq = n
  · subst hn
    have : s.complete seq st' a b = s := by simp only [State.complete, he, if_pos hd]
    rw [this]; exact ⟨e, he, hd, h1⟩
  · exact ⟨e, by rw [State.complete_other _ hn]; exact he, hd, h1⟩

/-- A placed packet completed after effects that leave the packet store alone is DONE. -/
theorem State.complete_placed (t s : State) (p : Packet) (h : t.qen.store = (s.place p).qen.store) (st r0 r1 : Nat) :
    (t.complete p.seq st r0 r1).DoneWith p.seq st (r0 % 2 ^ 32) (r1 % 2 ^ 31) := by
  obtain ⟨e, he, hd⟩ := State.place_open s p
  refine State.complete_done t _ _ _ _ (e := e) ?_ hd
  rw [State.entry, h]; exact he
theorem State.done_placed (t s : State) (p : Packet) (h : t.qen.store = (s.place p).qen.store) (st : Nat) :
    (t.done p.seq st).DoneWith p.seq st 0 0 := State.complete_placed t s p h st 0 0
/-- A placed packet that is to wait after effects that leave the packet store alone is PARKED. -/
theorem State.park_placed (t s : State) (p : Packet) (h : t.qen.store = (s.place p).qen.store) (w : Wait) : (t.park p.seq w).ParkedOn p.seq w := by
  obtain ⟨e, he, _⟩ := State.place_open s p
  refine State.park_parked t (e := e) ?_
  rw [State.entry, h]; exact he
theorem State.run_placed (t s : State) (p : Packet) (h : t.qen.store = (s.place p).qen.store) (w : Wait) : (t.run p.seq w).RunningOn p.seq w := by
  obtain ⟨e, he, _⟩ := State.place_open s p
  refine State.run_running t (e := e) ?_
  rw [State.entry, h]; exact he

/-! ## Packets closed in a row -/

/-- Completing a list of packets leaves a DONE packet as it is. -/
theorem State.foldDone_keeps (l : List StoreEntry) (c : Nat) (s : State) (h : s.DoneWith seq st r0 r1) :
    (l.foldl (fun s e => s.done e.p.seq c) s).DoneWith seq st r0 r1 := by
  induction l generalizing s with
  | nil => exact h
  | cons a r ih => exact ih _ (State.complete_keeps s h _ _ _ _)

/-- Completing a list of packets completes each of them that was not DONE. -/
theorem State.foldDone_done (l : List StoreEntry) (c : Nat) (s : State) (h : s.entry seq = some e) (hn : e.st ≠ .done)
    (hm : ∃ f ∈ l, f.p.seq = seq) : (l.foldl (fun s e => s.done e.p.seq c) s).DoneWith seq c 0 0 := by
  induction l generalizing s with
  | nil => obtain ⟨f, hf, _⟩ := hm; cases hf
  | cons a r ih =>
    by_cases ha : a.p.seq = seq
    · rw [List.foldl_cons, ha]
      exact State.foldDone_keeps r c _ (State.done_done s seq c h hn)
    · refine ih (s.done a.p.seq c) ((State.complete_other _ (Ne.symm ha)).trans h) ?_
      obtain ⟨f, hf, hq⟩ := hm
      cases hf with
      | head => exact absurd hq ha
      | tail _ hf => exact ⟨f, hf, hq⟩

/-- Completing a list of packets leaves every other packet as it is. -/
theorem State.foldDone_other (l : List StoreEntry) (c : Nat) (s : State) (hm : ∀ f ∈ l, f.p.seq ≠ seq) :
    (l.foldl (fun s e => s.done e.p.seq c) s).entry seq = s.entry seq := by
  induction l generalizing s with
  | nil => rfl
  | cons a r ih =>
    rw [List.foldl_cons, ih _ (fun f hf => hm f (.tail _ hf)), State.done, State.complete_other _ (Ne.symm (hm a (.head _)))]

/-- Completing a list of packets changes the queue engine alone, and no session. -/
theorem State.foldDone_only (l : List StoreEntry) (c : Nat) (s : State) :
    (l.foldl (fun s e => s.done e.p.seq c) s).beside = s.beside ∧
      (∀ n, (l.foldl (fun s e => s.done e.p.seq c) s).session n = s.session n) ∧
      ∀ n, ((l.foldl (fun s e => s.done e.p.seq c) s).pair n).map QueuePair.quiet = (s.pair n).map QueuePair.quiet := by
  induction l generalizing s with
  | nil => exact ⟨rfl, fun _ => rfl, fun _ => rfl⟩
  | cons a r ih =>
    obtain ⟨h1, h2, h3⟩ := ih (s.done a.p.seq c)
    exact ⟨h1.trans (by simp), fun n => (h2 n).trans (by simp), fun n => (h3 n).trans (State.complete_pair s _ _ _ _ n)⟩

/-- A placed packet is QUEUED in no entry. -/
theorem State.place_queued (s : State) (p : Packet) : ∀ e ∈ (s.place p).qen.store, e.p.seq = p.seq → e.st = .running := by
  intro e he hq
  unfold State.place at he
  extract_lets x q s1 at he
  split at he
  · rename_i hnone
    have : e ∈ s.qen.store ++ [x] := he
    rcases List.mem_append.1 this with h | h
    · rw [State.entry, List.find?_eq_none] at hnone
      have := hnone e h
      simp [hq] at this
    · rw [List.mem_singleton] at h; rw [h]
  · have : e ∈ mapIf s.qen.store (fun e => e.p.seq == p.seq) (fun x => { x with st := .running, wait := .work, disp := s.qen.nextDisp, rights := s.session p.session }) := he
    rw [mapIf, List.mem_map] at this
    obtain ⟨a, ha, h⟩ := this
    split at h
    · rw [← h]
    · rename_i hn
      rw [← h] at hq
      simp [hq] at hn

/-- Another packet's entry is unchanged when a packet is placed. -/
theorem State.place_other (s : State) (p : Packet) (hq : n ≠ p.seq) : (s.place p).entry n = s.entry n := by
  unfold State.place
  extract_lets x q s1
  split
  · simp only [State.entry, State.setStore, List.find?_append, List.find?_cons, List.find?_nil, x]
    have : (p.seq == n) = false := by simpa using Ne.symm hq
    simp [this]
  · rw [State.entry_updEntry]
    · have h1 : s1.entry n = s.entry n := rfl
      rw [h1]
      cases s.entry n with
      | none => rfl
      | some x => rw [Option.map_some, if_neg hq]
    · intro _; rfl

/-! ## Dispatch -/

/-- A packet that runs takes its effect. -/
theorem OpDef.dispatch_runs {d : OpDef} {s : State} {p : Packet} (h : OpDef.Runs d s p) : d.dispatch s p = d.act (d.at s p) p [] := by
  obtain ⟨⟨hb, hp, hr, hc⟩, hn, hp2, hbind, hw⟩ := h
  simp only [OpDef.at]
  simp only [OpDef.held] at hn hp2 hbind hw ⊢
  simp [OpDef.dispatch, hb, OpDef.start, hp, hr, hc, hn, OpDef.proceed, hp2, hbind]
  intro h1 h2
  rcases hw with h | h <;> simp_all

/-- A packet that reads a host buffer waits for it, RUNNING. -/
theorem OpDef.dispatch_reads {d : OpDef} {s : State} {p : Packet} (h : OpDef.Reads d s p a n) : d.dispatch s p = (d.held s p).run p.seq (.dma a n) := by
  obtain ⟨⟨hb, hp, hr, hc⟩, hn⟩ := h
  simp only [OpDef.held] at hn ⊢
  simp [OpDef.dispatch, hb, OpDef.start, hp, hr, hc, hn]

/-- A packet that protection refuses completes with the status of the check, and has no other effect but PROT_DENIED. -/
theorem OpDef.dispatch_denied {d : OpDef} {s : State} {p : Packet} (hb : s.begun p.seq = false) (hp : (s.place p).protCheck d p (d.access (s.place p) p []) = st)
    (hs : st ≠ 0) : d.dispatch s p = ((s.place p).done p.seq st).denied p st := by
  subst hp
  simp [OpDef.dispatch, hb, OpDef.start, hs]

/-- A packet with a reserved bit set completes with ST_RSVD_SET. -/
theorem OpDef.dispatch_rsvd {d : OpDef} {s : State} {p : Packet} (hb : s.begun p.seq = false) (hp : (s.place p).protCheck d p (d.access (s.place p) p []) = 0)
    (hr : rsvdOk d.named p = false) : d.dispatch s p = (s.place p).done p.seq St.rsvdSet := by
  simp [OpDef.dispatch, hb, OpDef.start, hp, hr]

/-- A packet that its opcode's own check refuses completes with the status and results of the check. -/
theorem OpDef.dispatch_checked {d : OpDef} {s : State} {p : Packet} (hb : s.begun p.seq = false) (hp : (s.place p).protCheck d p (d.access (s.place p) p []) = 0)
    (hr : rsvdOk d.named p = true) (hc : d.check (s.place p) p = (st, r0, r1)) (hs : st ≠ St.ok) :
    d.dispatch s p = (s.place p).complete p.seq st r0 r1 := by
  simp [OpDef.dispatch, hb, OpDef.start, hp, hr, hc, hs]

/-- A packet already dispatched is not dispatched again. -/
theorem OpDef.dispatch_begun {d : OpDef} {s : State} {p : Packet} (h : s.begun p.seq = true) : OpDef.dispatch d s p = s := by simp [OpDef.dispatch, h]

/-- A packet whose host buffer arrives takes its effect. -/
theorem State.dmaDone_takes {d : OpDef} {s : State} {p : Packet} (ho : opOf p.opcode = some d) (h : OpDef.Takes d s p bs) :
    s.dmaDone p.seq (some bs) = d.act (d.bind (s.run p.seq .work) p bs).2 p bs := by
  obtain ⟨⟨e, a, he, hp, hst, hwt⟩, hprot, hbind, hw⟩ := h
  simp only [State.dmaDone, he, hst, hwt, hp, ho, OpDef.hostData, OpDef.proceed, hprot, hbind]
  simp
  intro h1 h2
  rcases hw with h | h <;> simp_all

/-- A packet fed its host buffer: its dispatch waits for it, and its arrival takes the effect. -/
theorem OpDef.feeds_takes {d : OpDef} {s : State} {p : Packet} (h : OpDef.Feeds d s p bs) :
    (∃ a, d.dispatch s p = (d.held s p).run p.seq (.dma a bs.length)) ∧ (d.dispatch s p).dmaDone p.seq (some bs) = d.act (d.fed s p bs) p bs := by
  obtain ⟨ho, a, hr, ht⟩ := h
  have hd := OpDef.dispatch_reads hr
  refine ⟨⟨a, hd⟩, ?_⟩
  rw [hd, State.dmaDone_takes ho ht, OpDef.fed, hr.2]
  rfl

/-! ## A fed packet -/

/-- A packet fed its host buffer stands in the store, RUNNING, when it takes its effect. -/
theorem OpDef.fed_open (d : OpDef) (s : State) (p : Packet) (bs : List Byte) (hb : d.bind = noBind) (hh : d.hold = fun s _ => s) :
    ∃ e, (d.fed s p bs).entry p.seq = some e ∧ e.st = .running := by
  obtain ⟨e, h, _⟩ := State.place_running s p
  unfold OpDef.fed
  simp only [hb, noBind, OpDef.held, hh]
  obtain ⟨e1, h1, _⟩ := State.run_running (s.place p) h (w := .dma ((d.read (s.place p) p).getD (0, 0)).1 bs.length)
  obtain ⟨e2, h2, h3, _⟩ := State.run_running _ h1 (w := .work)
  exact ⟨e2, h2, h3⟩

/-- A packet that makes nothing live changes nothing but the queue engine before its effect. -/
theorem OpDef.fed_eq (d : OpDef) (s : State) (p : Packet) (bs : List Byte) (hb : d.bind = noBind) (hh : d.hold = fun s _ => s) :
    d.fed s p bs = { s with qen := (d.fed s p bs).qen } := by
  unfold OpDef.fed
  simp only [hb, noBind, OpDef.held, hh]
  exact (QenOnly.trans (State.place_only s p) (u := ((s.place p).run p.seq _).run p.seq .work) rfl).symm
theorem OpDef.fed_session (d : OpDef) (s : State) (p : Packet) (bs : List Byte) (hb : d.bind = noBind) (hh : d.hold = fun s _ => s) (n : Nat) :
    (d.fed s p bs).session n = s.session n := by
  unfold OpDef.fed
  simp only [hb, noBind, OpDef.held, hh]
  exact State.place_session s p n
theorem OpDef.complete_fed (d : OpDef) (t s : State) (p : Packet) (bs : List Byte) (hb : d.bind = noBind) (hh : d.hold = fun s _ => s)
    (h : t.qen.store = (d.fed s p bs).qen.store) (st r0 r1 : Nat) : (t.complete p.seq st r0 r1).DoneWith p.seq st (r0 % 2 ^ 32) (r1 % 2 ^ 31) := by
  obtain ⟨e, he, hd⟩ := d.fed_open s p bs hb hh
  refine State.complete_done t _ _ _ _ (e := e) ?_ (by simp [hd])
  rw [State.entry, h]; exact he
theorem OpDef.done_fed (d : OpDef) (t s : State) (p : Packet) (bs : List Byte) (hb : d.bind = noBind) (hh : d.hold = fun s _ => s)
    (h : t.qen.store = (d.fed s p bs).qen.store) (st : Nat) : (t.done p.seq st).DoneWith p.seq st 0 0 := d.complete_fed t s p bs hb hh h st 0 0
theorem OpDef.park_fed (d : OpDef) (t s : State) (p : Packet) (bs : List Byte) (hb : d.bind = noBind) (hh : d.hold = fun s _ => s)
    (h : t.qen.store = (d.fed s p bs).qen.store) (w : Wait) : (t.park p.seq w).ParkedOn p.seq w := by
  obtain ⟨e, he, _⟩ := d.fed_open s p bs hb hh
  refine State.park_parked t (e := e) ?_
  rw [State.entry, h]; exact he

end Sys2Proof.Machine
end

