-- ==== Sys2Proof/WellFormed.lean ====
section
/-! DEFINITION. Well-formed commands: a packet row carries its own opcode, and every operand fits the field that the spec
gives it. The machine's meanings do not rely on it; it says which terms stand for commands. -/

namespace Sys2Proof

/-! ## Field widths -/

/-- A value of 8 bits. -/
def byteOk (n : Nat) : Bool := decide (n < 2 ^ 8)
/-- A value of 16 bits. -/
def halfOk (n : Nat) : Bool := decide (n < 2 ^ 16)
/-- A value of 32 bits. -/
def wordOk (n : Nat) : Bool := decide (n < 2 ^ 32)
/-- A line or web line, u48 (01 R58). -/
def lineOk (n : Nat) : Bool := decide (n < 2 ^ 48)
/-- A WyrelLink node ID (10 R312). -/
def nodeOk (n : Nat) : Bool := decide (n < 2 ^ 14)
/-- A BAR0 register's offset: 4-aligned, below 64 MiB (12 R391, 13 R455). -/
def regOk (off : Nat) : Bool := decide (off % 4 = 0 ∧ off < 0x400_0000)
/-- A signed value of 16 bits. -/
def s16Ok (i : Int) : Bool := decide (-(2 ^ 15) ≤ i ∧ i < 2 ^ 15)

/-- A packet of one of the 256 queues with an opcode of its own (12 R394, R400). -/
def packetOk (code : Nat) (p : Packet) : Bool := decide (p.opcode = code ∧ p.q < 256)

/-- The end of a boot stage: a cause of AON_BOOT.CAUSE (19 R595). -/
def StageEnd.ok : StageEnd → Bool
  | .pass => true
  | .fail c => byteOk c
/-- A colour report's fields (08 R264). -/
def ColourReport.ok (r : ColourReport) : Bool :=
  wordOk r.band && byteOk r.row && decide (r.flags < 8) && halfOk r.zone && s16Ok r.l && s16Ok r.a && s16Ok r.b
/-- A HELLO's fields (10 R336). -/
def Hello.ok (f : Hello) : Bool :=
  decide (f.state < 8 ∧ 1 ≤ f.kind ∧ f.kind ≤ 5 ∧ f.uid < 2 ^ 64 ∧ f.depth ≤ 4 ∧ f.fwd ≤ 64) && halfOk f.caps && (f.id.map nodeOk).getD true
    && nodeOk f.parent && byteOk f.pend && wordOk f.hubLead && wordOk f.tPath && lineOk f.lastAcc
/-- A STATUS frame's fields (10 R338). -/
def StatusFrame.ok (f : StatusFrame) : Bool :=
  nodeOk f.node && decide (f.state < 8) && byteOk f.part && lineOk f.lastAcc && halfOk f.free
    && decide (f.counters.length = 5 ∧ f.temps.length + f.health.length ≤ 373)
/-- A CTRL frame's fields (10 R337). -/
def CtrlFrame.ok (f : CtrlFrame) : Bool :=
  nodeOk f.node && halfOk f.ctag && decide (f.op ≤ 4 ∧ 1 ≤ f.count ∧ f.count ≤ 64 ∧ f.addr % 4 = 0) && wordOk f.addr
/-- The fields of EVENT POSITION (10 R341). -/
def PosEvent.ok (e : PosEvent) : Bool := lineOk e.line && decide (e.fire < 2 ^ 64) && byteOk e.fph && wordOk e.rate && wordOk e.q

/-! ## Packet rows (13) -/

/-- The opcode of a packet row with its packet; none for a row that is no packet. -/
def Instr.cmd : Instr → Option (Nat × Packet)
  | .sessionOpen p => some (0x0101, p)
  | .sessionClose p => some (0x0102, p)
  | .sessionProt p => some (0x0103, p)
  | .sessionQueue p => some (0x0104, p)
  | .sessionQdelete p => some (0x0105, p)
  | .sessionInfo p => some (0x0106, p)
  | .memWrite p => some (0x0201, p)
  | .memRead p => some (0x0202, p)
  | .memFence p => some (0x0203, p)
  | .memCompress p => some (0x0204, p)
  | .memVerify p => some (0x0205, p)
  | .memInfo p => some (0x0206, p)
  | .jobArm p => some (0x0301, p)
  | .jobChange p => some (0x0302, p)
  | .jobDisarm p => some (0x0303, p)
  | .jobStatus p => some (0x0304, p)
  | .jobCheck p => some (0x0305, p)
  | .layerSet p => some (0x0401, p)
  | .layerFlip p => some (0x0402, p)
  | .layerSignal p => some (0x0403, p)
  | .layerStatus p => some (0x0404, p)
  | .markClock p => some (0x0501, p)
  | .markRules p => some (0x0502, p)
  | .markShifts p => some (0x0503, p)
  | .markGlyphs p => some (0x0504, p)
  | .markField p => some (0x0505, p)
  | .markCounter p => some (0x0506, p)
  | .markLot p => some (0x0507, p)
  | .markStatus p => some (0x0508, p)
  | .markNames p => some (0x0509, p)
  | .rayBind p => some (0x0601, p)
  | .rayLens p => some (0x0602, p)
  | .rayAcquire p => some (0x0603, p)
  | .rayViewmap p => some (0x0604, p)
  | .rayStatus p => some (0x0605, p)
  | .rayPanel p => some (0x0606, p)
  | .dropScreen p => some (0x0701, p)
  | .dropSlots p => some (0x0702, p)
  | .dropNozzles p => some (0x0703, p)
  | .dropZonelut p => some (0x0704, p)
  | .dropStatus p => some (0x0705, p)
  | .colourSetup p => some (0x0801, p)
  | .colourSens p => some (0x0802, p)
  | .colourClose p => some (0x0803, p)
  | .colourOpen p => some (0x0804, p)
  | .colourCal p => some (0x0805, p)
  | .colourReset p => some (0x0806, p)
  | .colourStatus p => some (0x0807, p)
  | .colourLog p => some (0x0808, p)
  | .motionRephase p => some (0x0901, p)
  | .motionCompare p => some (0x0902, p)
  | .motionStatus p => some (0x0903, p)
  | .motionStopreq p => some (0x0904, p)
  | .linkNodes p => some (0x0A01, p)
  | .linkList p => some (0x0A02, p)
  | .linkCtrl p => some (0x0A03, p)
  | .linkLeave p => some (0x0A04, p)
  | .linkTime p => some (0x0A05, p)
  | .linkScan p => some (0x0A10, p)
  | .linkRemap p => some (0x0A11, p)
  | .linkLane p => some (0x0A20, p)
  | .linkTest p => some (0x0A21, p)
  | .twinAssay p => some (0x0B01, p)
  | .twinWithdraw p => some (0x0B02, p)
  | .twinRejoin p => some (0x0B03, p)
  | .twinRestart p => some (0x0B04, p)
  | .twinLead p => some (0x0B05, p)
  | .twinStatus p => some (0x0B06, p)
  | .twinPreserve p => some (0x0B07, p)
  | .dispMode p => some (0x0C01, p)
  | .dispPower p => some (0x0C02, p)
  | .dispFlip p => some (0x0C03, p)
  | .dispStatus p => some (0x0C04, p)
  | .parmGet p => some (0x0D01, p)
  | .parmSet p => some (0x0D02, p)
  | .parmList p => some (0x0D03, p)
  | .svcPower p => some (0x0E01, p)
  | .svcImage p => some (0x0E02, p)
  | .svcUpdate p => some (0x0E03, p)
  | .svcTally p => some (0x0E04, p)
  | .svcTrim p => some (0x0E05, p)
  | .svcThermal p => some (0x0E06, p)
  | .diagEcho p => some (0x0F01, p)
  | .diagRegread p => some (0x0F02, p)
  | .diagRegwrite p => some (0x0F03, p)
  | .diagEvlog p => some (0x0F04, p)
  | .qenSqTailWrite _ _ _ => none
  | .qenCqHeadWrite _ _ _ => none
  | .qenCtlEnSet _ => none
  | .qenCtlEnClear _ => none
  | .registerWrite _ _ => none
  | .loRegisterReadLatch _ => none
  | .evrSwsetWrite _ _ => none
  | .evrHtTakeRead _ _ => none
  | .evrHtDoneWrite _ _ _ => none
  | .evrCoreTakeRead _ _ => none
  | .evrCoreDoneWrite _ _ _ => none
  | .evrSrcPendClear _ _ => none
  | .evrSrcClrcnt _ _ => none
  | .memcClrCe _ => none
  | .memcClrUe _ => none
  | .memcClrPanic _ => none
  | .memcClrPause _ => none
  | .lnkClrCnt _ _ => none
  | .lnkClrTest _ _ => none
  | .dspClrTrains _ => none
  | .dspClrUnder _ => none
  | .thmClrCnt _ => none
  | .thmClrMax _ => none
  | .twnCauseClrlast _ => none
  | .packetFetch _ => none
  | .completionPost _ => none
  | .moderationWindowExpiry _ => none
  | .msixVectorSend _ => none
  | .pcieLinkStateChange _ _ => none
  | .pcieD3hotEntry _ => none
  | .pcieD3coldEntry _ => none
  | .pcieD0Return _ => none
  | .pciePerst _ => none
  | .pcieConfigRequest _ => none
  | .eventOccurrence _ _ _ => none
  | .evrCommit _ => none
  | .evrOfferReceive _ => none
  | .evrReconsider _ => none
  | .eviEdge _ _ => none
  | .inputRawTransition _ _ => none
  | .encEdge _ => none
  | .encWireFault _ _ => none
  | .encIndex _ => none
  | .encIndexMiss _ => none
  | .absFrameReceived _ _ _ _ => none
  | .positionMessageReceive _ _ => none
  | .outputPulseEnd _ => none
  | .compareApply _ => none
  | .pdEdge _ => none
  | .carriageCodeChange _ => none
  | .armLineEvaluation _ _ => none
  | .memoryWaitRelease _ => none
  | .memWriteLanded _ _ => none
  | .mirroredLoadReceive _ _ => none
  | .stripDecodeStart _ => none
  | .stripVerified _ _ _ => none
  | .stripVerdictReceive _ _ _ => none
  | .stripDeadline _ _ _ => none
  | .stripMended _ _ _ => none
  | .compressPassDone _ => none
  | .lineCompute _ _ => none
  | .firingLineStage11 _ _ => none
  | .segmentFrameDue _ _ _ => none
  | .stateCopyReceive _ _ => none
  | .stateRecordMissing _ _ => none
  | .lensTrackLost _ => none
  | .lensReferenceIndex _ => none
  | .patchReportTimeout _ _ => none
  | .colourReportReceive _ => none
  | .calInvalid _ => none
  | .timeSyncSend _ => none
  | .timeSyncReceive _ _ _ _ => none
  | .timeReqReceive _ _ _ _ => none
  | .timeRespReceive _ _ _ => none
  | .timeExchangeTimeout _ => none
  | .timeAnnounceReceive _ _ => none
  | .timeAlignCheck _ _ => none
  | .blockLockAcquired _ _ => none
  | .blockLockLost _ _ => none
  | .helloSend _ => none
  | .helloReceive _ _ _ => none
  | .statusFrameReceive _ => none
  | .nodeStatusTimeout _ => none
  | .eventPositionReceive _ => none
  | .eventProductReceive _ _ _ => none
  | .nodeEvent _ _ _ _ => none
  | .ctrlRequestReceive _ => none
  | .ctrlAnswerReceive _ => none
  | .ctrlAnswerTimeout _ => none
  | .hubFrameReceive _ _ _ => none
  | .hubFireInstant _ _ => none
  | .laneTrainingDone _ _ _ => none
  | .laneTrainFail _ _ _ => none
  | .laneDown _ _ _ => none
  | .laneRetrainTimer _ _ => none
  | .frameReceive _ _ _ => none
  | .laneWake _ _ _ => none
  | .laneTestInject _ _ => none
  | .laneTestDone _ _ _ _ _ => none
  | .heartbeatSend _ => none
  | .partnerSilent _ => none
  | .twinLinkDown _ => none
  | .partnerWithdrawReceive _ => none
  | .assaySetStart _ => none
  | .assaySetEnd _ _ _ => none
  | .commitPrepareReceive _ _ => none
  | .commitAckReceive _ _ => none
  | .preserveReceive _ => none
  | .hostPortRetry _ => none
  | .resyncCopyDone _ => none
  | .watchdogExpiry _ => none
  | .fabricHopDown _ => none
  | .refclkLost _ => none
  | .pllUnlock _ => none
  | .domainReady _ _ => none
  | .dramRequestComplete _ _ _ => none
  | .dramRefreshDue _ _ _ => none
  | .bankIdlePrecharge _ _ _ => none
  | .dramPauseStart _ => none
  | .memcSetChanged _ => none
  | .dramRetrainDue _ => none
  | .memcPauseForced _ => none
  | .memcPanicLong _ _ => none
  | .memcScrubDone _ => none
  | .memcDramHot _ _ _ _ => none
  | .dspFrameStart _ => none
  | .proofFlip _ => none
  | .dspLineMatch _ => none
  | .dspFrameDone _ => none
  | .dspTeEdge _ => none
  | .dspTeLost _ => none
  | .dspUnderrun _ _ _ => none
  | .proofDataReceive _ _ _ _ => none
  | .dspHotplug _ => none
  | .dspLinkLost _ _ => none
  | .dspRetrainTimer _ => none
  | .dspModeChanged _ => none
  | .thermConversion _ _ _ _ => none
  | .throttleStepInterval _ => none
  | .powerEstimateUpdate _ _ => none
  | .shedSavingMeasured _ _ => none
  | .trimDone _ _ => none
  | .encTrimApply _ _ => none
  | .boot _ _ => none
  | .imageReceive _ _ => none
  | .pairTimeout _ => none
  | .aonSupplySwitch _ _ => none
  | .vbatMeasure _ _ => none
  | .jtagExtest _ _ => none
  | .smbOtherNack _ => none
  | .hostDmaReadDone _ _ => none
  | .msixMaskClear _ => none
  | .dspLinkTrainingEnd _ _ => none
  | .dramRetrainingDone _ _ => none
  | .flashWriteDone _ => none
  | .packetDispatch => none
  | .queueMirrorReceive => none
  | .absPoll => none
  | .absTimeout => none
  | .pitchLoopUpdate => none
  | .pitchLock => none
  | .pitchUnlock => none
  | .webStill => none
  | .encLost => none
  | .motionStateCopyReceive => none
  | .motionSourceT1 => none
  | .lineIssue => none
  | .fireTimestampReached => none
  | .lensLock => none
  | .lensUnlock => none
  | .lensHoldExpired => none
  | .lensReacquireEnter => none
  | .lensAcqFail => none
  | .colourCalDue => none
  | .calSecondRollover => none
  | .calDisciplineLost => none
  | .calSlewEnd => none
  | .preserveCapture => none
  | .preserveFlashWrite => none
  | .takebackStart => none
  | .handoverEnd => none
  | .jobDrainEnd => none
  | .coldReset => none
  | .bootImageTimeout => none
  | .tallyRecordWrite => none
  | .updateTimeout => none
  | .smbReadTemp => none
  | .smbReadBoot => none
  | .smbReadVbat => none
  | .smbReadEpoch => none
  | .smbAlertResponse => none
  | .hostControllerColdStartDone => none

/-- The operands of a row that is no packet fit their fields. -/
def Instr.operandsOk : Instr → Bool
  | .sessionOpen _ => true
  | .sessionClose _ => true
  | .sessionProt _ => true
  | .sessionQueue _ => true
  | .sessionQdelete _ => true
  | .sessionInfo _ => true
  | .memWrite _ => true
  | .memRead _ => true
  | .memFence _ => true
  | .memCompress _ => true
  | .memVerify _ => true
  | .memInfo _ => true
  | .jobArm _ => true
  | .jobChange _ => true
  | .jobDisarm _ => true
  | .jobStatus _ => true
  | .jobCheck _ => true
  | .layerSet _ => true
  | .layerFlip _ => true
  | .layerSignal _ => true
  | .layerStatus _ => true
  | .markClock _ => true
  | .markRules _ => true
  | .markShifts _ => true
  | .markGlyphs _ => true
  | .markField _ => true
  | .markCounter _ => true
  | .markLot _ => true
  | .markStatus _ => true
  | .markNames _ => true
  | .rayBind _ => true
  | .rayLens _ => true
  | .rayAcquire _ => true
  | .rayViewmap _ => true
  | .rayStatus _ => true
  | .rayPanel _ => true
  | .dropScreen _ => true
  | .dropSlots _ => true
  | .dropNozzles _ => true
  | .dropZonelut _ => true
  | .dropStatus _ => true
  | .colourSetup _ => true
  | .colourSens _ => true
  | .colourClose _ => true
  | .colourOpen _ => true
  | .colourCal _ => true
  | .colourReset _ => true
  | .colourStatus _ => true
  | .colourLog _ => true
  | .motionRephase _ => true
  | .motionCompare _ => true
  | .motionStatus _ => true
  | .motionStopreq _ => true
  | .linkNodes _ => true
  | .linkList _ => true
  | .linkCtrl _ => true
  | .linkLeave _ => true
  | .linkTime _ => true
  | .linkScan _ => true
  | .linkRemap _ => true
  | .linkLane _ => true
  | .linkTest _ => true
  | .twinAssay _ => true
  | .twinWithdraw _ => true
  | .twinRejoin _ => true
  | .twinRestart _ => true
  | .twinLead _ => true
  | .twinStatus _ => true
  | .twinPreserve _ => true
  | .dispMode _ => true
  | .dispPower _ => true
  | .dispFlip _ => true
  | .dispStatus _ => true
  | .parmGet _ => true
  | .parmSet _ => true
  | .parmList _ => true
  | .svcPower _ => true
  | .svcImage _ => true
  | .svcUpdate _ => true
  | .svcTally _ => true
  | .svcTrim _ => true
  | .svcThermal _ => true
  | .diagEcho _ => true
  | .diagRegread _ => true
  | .diagRegwrite _ => true
  | .diagEvlog _ => true
  | .qenSqTailWrite _ _ _ => true
  | .qenCqHeadWrite _ _ _ => true
  | .qenCtlEnSet _ => true
  | .qenCtlEnClear _ => true
  | .registerWrite off _ => regOk off
  | .loRegisterReadLatch off => regOk off
  | .evrSwsetWrite _ _ => true
  | .evrHtTakeRead _ _ => true
  | .evrHtDoneWrite _ _ _ => true
  | .evrCoreTakeRead _ _ => true
  | .evrCoreDoneWrite _ _ _ => true
  | .evrSrcPendClear _ _ => true
  | .evrSrcClrcnt _ _ => true
  | .memcClrCe _ => true
  | .memcClrUe _ => true
  | .memcClrPanic _ => true
  | .memcClrPause _ => true
  | .lnkClrCnt _ _ => true
  | .lnkClrTest _ _ => true
  | .dspClrTrains _ => true
  | .dspClrUnder _ => true
  | .thmClrCnt _ => true
  | .thmClrMax _ => true
  | .twnCauseClrlast _ => true
  | .packetFetch _ => true
  | .completionPost _ => true
  | .moderationWindowExpiry _ => true
  | .msixVectorSend _ => true
  | .pcieLinkStateChange _ _ => true
  | .pcieD3hotEntry _ => true
  | .pcieD3coldEntry _ => true
  | .pcieD0Return _ => true
  | .pciePerst _ => true
  | .pcieConfigRequest _ => true
  | .eventOccurrence _ _ _ => true
  | .evrCommit _ => true
  | .evrOfferReceive _ => true
  | .evrReconsider _ => true
  | .eviEdge _ _ => true
  | .inputRawTransition _ _ => true
  | .encEdge _ => true
  | .encWireFault _ _ => true
  | .encIndex _ => true
  | .encIndexMiss _ => true
  | .absFrameReceived raw _ _ crc => decide (raw < 2 ^ 32 ∧ crc < 2 ^ 6)
  | .positionMessageReceive _ n => lineOk n
  | .outputPulseEnd _ => true
  | .compareApply _ => true
  | .pdEdge _ => true
  | .carriageCodeChange _ => true
  | .armLineEvaluation _ num => wordOk num
  | .memoryWaitRelease _ => true
  | .memWriteLanded _ _ => true
  | .mirroredLoadReceive _ _ => true
  | .stripDecodeStart _ => true
  | .stripVerified _ _ _ => true
  | .stripVerdictReceive _ _ _ => true
  | .stripDeadline _ _ _ => true
  | .stripMended _ _ _ => true
  | .compressPassDone _ => true
  | .lineCompute _ n => lineOk n
  | .firingLineStage11 _ r => lineOk r.line && r.short.all (fun g => decide (g < 65_536))
  | .segmentFrameDue _ line seg => lineOk line && halfOk seg
  | .stateCopyReceive _ line => lineOk line
  | .stateRecordMissing _ line => lineOk line
  | .lensTrackLost cause => decide (cause < 4)
  | .lensReferenceIndex _ => true
  | .patchReportTimeout band row => wordOk band && byteOk row
  | .colourReportReceive r => r.ok
  | .calInvalid _ => true
  | .timeSyncSend _ => true
  | .timeSyncReceive _ xseq _ _ => byteOk xseq
  | .timeReqReceive _ xseq _ _ => byteOk xseq
  | .timeRespReceive _ xseq _ => byteOk xseq
  | .timeExchangeTimeout _ => true
  | .timeAnnounceReceive sec _ => decide (sec < 2 ^ 40)
  | .timeAlignCheck _ _ => true
  | .blockLockAcquired _ _ => true
  | .blockLockLost _ _ => true
  | .helloSend _ => true
  | .helloReceive _ _ f => f.ok
  | .statusFrameReceive f => f.ok
  | .nodeStatusTimeout node => nodeOk node
  | .eventPositionReceive e => e.ok
  | .eventProductReceive _ num first => wordOk num && lineOk first
  | .nodeEvent node code eseq data => nodeOk node && halfOk code && halfOk eseq && decide (data.length ≤ 64)
  | .ctrlRequestReceive f => f.ok
  | .ctrlAnswerReceive f => f.ok
  | .ctrlAnswerTimeout _ => true
  | .hubFrameReceive node _ _ => nodeOk node
  | .hubFireInstant node seg => nodeOk node && halfOk seg
  | .laneTrainingDone _ _ _ => true
  | .laneTrainFail _ _ _ => true
  | .laneDown _ _ _ => true
  | .laneRetrainTimer _ _ => true
  | .frameReceive _ _ _ => true
  | .laneWake _ _ _ => true
  | .laneTestInject _ _ => true
  | .laneTestDone _ _ _ _ _ => true
  | .heartbeatSend _ => true
  | .partnerSilent _ => true
  | .twinLinkDown _ => true
  | .partnerWithdrawReceive _ => true
  | .assaySetStart _ => true
  | .assaySetEnd _ _ _ => true
  | .commitPrepareReceive _ cseq => wordOk cseq
  | .commitAckReceive _ cseq => wordOk cseq
  | .preserveReceive _ => true
  | .hostPortRetry _ => true
  | .resyncCopyDone _ => true
  | .watchdogExpiry _ => true
  | .fabricHopDown _ => true
  | .refclkLost _ => true
  | .pllUnlock _ => true
  | .domainReady _ _ => true
  | .dramRequestComplete _ _ _ => true
  | .dramRefreshDue _ _ _ => true
  | .bankIdlePrecharge _ _ _ => true
  | .dramPauseStart _ => true
  | .memcSetChanged _ => true
  | .dramRetrainDue _ => true
  | .memcPauseForced _ => true
  | .memcPanicLong _ _ => true
  | .memcScrubDone _ => true
  | .memcDramHot _ _ mr4 _ => byteOk mr4
  | .dspFrameStart _ => true
  | .proofFlip _ => true
  | .dspLineMatch _ => true
  | .dspFrameDone _ => true
  | .dspTeEdge _ => true
  | .dspTeLost _ => true
  | .dspUnderrun _ line pixel => halfOk line && halfOk pixel
  | .proofDataReceive _ _ row _ => halfOk row
  | .dspHotplug _ => true
  | .dspLinkLost _ _ => true
  | .dspRetrainTimer _ => true
  | .dspModeChanged _ => true
  | .thermConversion _ code _ _ => halfOk code
  | .throttleStepInterval _ => true
  | .powerEstimateUpdate _ _ => true
  | .shedSavingMeasured _ _ => true
  | .trimDone _ _ => true
  | .encTrimApply _ _ => true
  | .boot _ e => e.ok
  | .imageReceive _ e => e.ok
  | .pairTimeout _ => true
  | .aonSupplySwitch _ _ => true
  | .vbatMeasure _ mv => halfOk mv
  | .jtagExtest _ pins => decide (pins < 32)
  | .smbOtherNack cmd => byteOk cmd
  | .hostDmaReadDone _ _ => true
  | .msixMaskClear _ => true
  | .dspLinkTrainingEnd _ _ => true
  | .dramRetrainingDone _ _ => true
  | .flashWriteDone _ => true
  | .packetDispatch => true
  | .queueMirrorReceive => true
  | .absPoll => true
  | .absTimeout => true
  | .pitchLoopUpdate => true
  | .pitchLock => true
  | .pitchUnlock => true
  | .webStill => true
  | .encLost => true
  | .motionStateCopyReceive => true
  | .motionSourceT1 => true
  | .lineIssue => true
  | .fireTimestampReached => true
  | .lensLock => true
  | .lensUnlock => true
  | .lensHoldExpired => true
  | .lensReacquireEnter => true
  | .lensAcqFail => true
  | .colourCalDue => true
  | .calSecondRollover => true
  | .calDisciplineLost => true
  | .calSlewEnd => true
  | .preserveCapture => true
  | .preserveFlashWrite => true
  | .takebackStart => true
  | .handoverEnd => true
  | .jobDrainEnd => true
  | .coldReset => true
  | .bootImageTimeout => true
  | .tallyRecordWrite => true
  | .updateTimeout => true
  | .smbReadTemp => true
  | .smbReadBoot => true
  | .smbReadVbat => true
  | .smbReadEpoch => true
  | .smbAlertResponse => true
  | .hostControllerColdStartDone => true

/-- A well-formed command: a packet with its row's opcode, or operands within their fields. -/
def Instr.wellFormed (i : Instr) : Bool :=
  i.operandsOk && (match i.cmd with
    | some (code, p) => packetOk code p
    | none => true)

end Sys2Proof
end

