-- ==== Sys2Proof/Laws/PerInstr.lean ====
section
/-! SUPPORT. A statement for every command, one lemma per constructor: a well-formed command of a packet row carries the
opcode of its own row (13 R431). -/

namespace Sys2Proof.Laws.Opcode

/-- A well-formed packet row carries its row's opcode and one of the 256 queues. -/
def Statement (i : Instr) : Prop :=
  i.wellFormed = true → ∀ c p, i.cmd = some (c, p) → p.opcode = c ∧ p.q < 256

/-- The statement of any command follows from its well-formedness check. -/
theorem of_wellFormed (i : Instr) : Statement i := by
  intro h c p e
  simp only [Instr.wellFormed, e, Bool.and_eq_true, packetOk, decide_eq_true_eq] at h
  exact h.2

theorem sessionOpen (p : Packet) : Statement (.sessionOpen p) := of_wellFormed _
theorem sessionClose (p : Packet) : Statement (.sessionClose p) := of_wellFormed _
theorem sessionProt (p : Packet) : Statement (.sessionProt p) := of_wellFormed _
theorem sessionQueue (p : Packet) : Statement (.sessionQueue p) := of_wellFormed _
theorem sessionQdelete (p : Packet) : Statement (.sessionQdelete p) := of_wellFormed _
theorem sessionInfo (p : Packet) : Statement (.sessionInfo p) := of_wellFormed _
theorem memWrite (p : Packet) : Statement (.memWrite p) := of_wellFormed _
theorem memRead (p : Packet) : Statement (.memRead p) := of_wellFormed _
theorem memFence (p : Packet) : Statement (.memFence p) := of_wellFormed _
theorem memCompress (p : Packet) : Statement (.memCompress p) := of_wellFormed _
theorem memVerify (p : Packet) : Statement (.memVerify p) := of_wellFormed _
theorem memInfo (p : Packet) : Statement (.memInfo p) := of_wellFormed _
theorem jobArm (p : Packet) : Statement (.jobArm p) := of_wellFormed _
theorem jobChange (p : Packet) : Statement (.jobChange p) := of_wellFormed _
theorem jobDisarm (p : Packet) : Statement (.jobDisarm p) := of_wellFormed _
theorem jobStatus (p : Packet) : Statement (.jobStatus p) := of_wellFormed _
theorem jobCheck (p : Packet) : Statement (.jobCheck p) := of_wellFormed _
theorem layerSet (p : Packet) : Statement (.layerSet p) := of_wellFormed _
theorem layerFlip (p : Packet) : Statement (.layerFlip p) := of_wellFormed _
theorem layerSignal (p : Packet) : Statement (.layerSignal p) := of_wellFormed _
theorem layerStatus (p : Packet) : Statement (.layerStatus p) := of_wellFormed _
theorem markClock (p : Packet) : Statement (.markClock p) := of_wellFormed _
theorem markRules (p : Packet) : Statement (.markRules p) := of_wellFormed _
theorem markShifts (p : Packet) : Statement (.markShifts p) := of_wellFormed _
theorem markGlyphs (p : Packet) : Statement (.markGlyphs p) := of_wellFormed _
theorem markField (p : Packet) : Statement (.markField p) := of_wellFormed _
theorem markCounter (p : Packet) : Statement (.markCounter p) := of_wellFormed _
theorem markLot (p : Packet) : Statement (.markLot p) := of_wellFormed _
theorem markStatus (p : Packet) : Statement (.markStatus p) := of_wellFormed _
theorem markNames (p : Packet) : Statement (.markNames p) := of_wellFormed _
theorem rayBind (p : Packet) : Statement (.rayBind p) := of_wellFormed _
theorem rayLens (p : Packet) : Statement (.rayLens p) := of_wellFormed _
theorem rayAcquire (p : Packet) : Statement (.rayAcquire p) := of_wellFormed _
theorem rayViewmap (p : Packet) : Statement (.rayViewmap p) := of_wellFormed _
theorem rayStatus (p : Packet) : Statement (.rayStatus p) := of_wellFormed _
theorem rayPanel (p : Packet) : Statement (.rayPanel p) := of_wellFormed _
theorem dropScreen (p : Packet) : Statement (.dropScreen p) := of_wellFormed _
theorem dropSlots (p : Packet) : Statement (.dropSlots p) := of_wellFormed _
theorem dropNozzles (p : Packet) : Statement (.dropNozzles p) := of_wellFormed _
theorem dropZonelut (p : Packet) : Statement (.dropZonelut p) := of_wellFormed _
theorem dropStatus (p : Packet) : Statement (.dropStatus p) := of_wellFormed _
theorem colourSetup (p : Packet) : Statement (.colourSetup p) := of_wellFormed _
theorem colourSens (p : Packet) : Statement (.colourSens p) := of_wellFormed _
theorem colourClose (p : Packet) : Statement (.colourClose p) := of_wellFormed _
theorem colourOpen (p : Packet) : Statement (.colourOpen p) := of_wellFormed _
theorem colourCal (p : Packet) : Statement (.colourCal p) := of_wellFormed _
theorem colourReset (p : Packet) : Statement (.colourReset p) := of_wellFormed _
theorem colourStatus (p : Packet) : Statement (.colourStatus p) := of_wellFormed _
theorem colourLog (p : Packet) : Statement (.colourLog p) := of_wellFormed _
theorem motionRephase (p : Packet) : Statement (.motionRephase p) := of_wellFormed _
theorem motionCompare (p : Packet) : Statement (.motionCompare p) := of_wellFormed _
theorem motionStatus (p : Packet) : Statement (.motionStatus p) := of_wellFormed _
theorem motionStopreq (p : Packet) : Statement (.motionStopreq p) := of_wellFormed _
theorem linkNodes (p : Packet) : Statement (.linkNodes p) := of_wellFormed _
theorem linkList (p : Packet) : Statement (.linkList p) := of_wellFormed _
theorem linkCtrl (p : Packet) : Statement (.linkCtrl p) := of_wellFormed _
theorem linkLeave (p : Packet) : Statement (.linkLeave p) := of_wellFormed _
theorem linkTime (p : Packet) : Statement (.linkTime p) := of_wellFormed _
theorem linkScan (p : Packet) : Statement (.linkScan p) := of_wellFormed _
theorem linkRemap (p : Packet) : Statement (.linkRemap p) := of_wellFormed _
theorem linkLane (p : Packet) : Statement (.linkLane p) := of_wellFormed _
theorem linkTest (p : Packet) : Statement (.linkTest p) := of_wellFormed _
theorem twinAssay (p : Packet) : Statement (.twinAssay p) := of_wellFormed _
theorem twinWithdraw (p : Packet) : Statement (.twinWithdraw p) := of_wellFormed _
theorem twinRejoin (p : Packet) : Statement (.twinRejoin p) := of_wellFormed _
theorem twinRestart (p : Packet) : Statement (.twinRestart p) := of_wellFormed _
theorem twinLead (p : Packet) : Statement (.twinLead p) := of_wellFormed _
theorem twinStatus (p : Packet) : Statement (.twinStatus p) := of_wellFormed _
theorem twinPreserve (p : Packet) : Statement (.twinPreserve p) := of_wellFormed _
theorem dispMode (p : Packet) : Statement (.dispMode p) := of_wellFormed _
theorem dispPower (p : Packet) : Statement (.dispPower p) := of_wellFormed _
theorem dispFlip (p : Packet) : Statement (.dispFlip p) := of_wellFormed _
theorem dispStatus (p : Packet) : Statement (.dispStatus p) := of_wellFormed _
theorem parmGet (p : Packet) : Statement (.parmGet p) := of_wellFormed _
theorem parmSet (p : Packet) : Statement (.parmSet p) := of_wellFormed _
theorem parmList (p : Packet) : Statement (.parmList p) := of_wellFormed _
theorem svcPower (p : Packet) : Statement (.svcPower p) := of_wellFormed _
theorem svcImage (p : Packet) : Statement (.svcImage p) := of_wellFormed _
theorem svcUpdate (p : Packet) : Statement (.svcUpdate p) := of_wellFormed _
theorem svcTally (p : Packet) : Statement (.svcTally p) := of_wellFormed _
theorem svcTrim (p : Packet) : Statement (.svcTrim p) := of_wellFormed _
theorem svcThermal (p : Packet) : Statement (.svcThermal p) := of_wellFormed _
theorem diagEcho (p : Packet) : Statement (.diagEcho p) := of_wellFormed _
theorem diagRegread (p : Packet) : Statement (.diagRegread p) := of_wellFormed _
theorem diagRegwrite (p : Packet) : Statement (.diagRegwrite p) := of_wellFormed _
theorem diagEvlog (p : Packet) : Statement (.diagEvlog p) := of_wellFormed _
theorem qenSqTailWrite (t : Tile) (q : Fin 256) (v : U32) : Statement (.qenSqTailWrite t q v) := of_wellFormed _
theorem qenCqHeadWrite (t : Tile) (q : Fin 256) (v : U32) : Statement (.qenCqHeadWrite t q v) := of_wellFormed _
theorem qenCtlEnSet (t : Tile) : Statement (.qenCtlEnSet t) := of_wellFormed _
theorem qenCtlEnClear (t : Tile) : Statement (.qenCtlEnClear t) := of_wellFormed _
theorem registerWrite (off : Nat) (v : U32) : Statement (.registerWrite off v) := of_wellFormed _
theorem loRegisterReadLatch (off : Nat) : Statement (.loRegisterReadLatch off) := of_wellFormed _
theorem evrSwsetWrite (t : Tile) (v : U32) : Statement (.evrSwsetWrite t v) := of_wellFormed _
theorem evrHtTakeRead (t : Tile) (h : Fin 32) : Statement (.evrHtTakeRead t h) := of_wellFormed _
theorem evrHtDoneWrite (t : Tile) (h : Fin 32) (v : U32) : Statement (.evrHtDoneWrite t h v) := of_wellFormed _
theorem evrCoreTakeRead (t : Tile) (c : Fin 4) : Statement (.evrCoreTakeRead t c) := of_wellFormed _
theorem evrCoreDoneWrite (t : Tile) (c : Fin 4) (v : U32) : Statement (.evrCoreDoneWrite t c v) := of_wellFormed _
theorem evrSrcPendClear (t : Tile) (src : Fin 192) : Statement (.evrSrcPendClear t src) := of_wellFormed _
theorem evrSrcClrcnt (t : Tile) (src : Fin 192) : Statement (.evrSrcClrcnt t src) := of_wellFormed _
theorem memcClrCe (t : Tile) : Statement (.memcClrCe t) := of_wellFormed _
theorem memcClrUe (t : Tile) : Statement (.memcClrUe t) := of_wellFormed _
theorem memcClrPanic (t : Tile) : Statement (.memcClrPanic t) := of_wellFormed _
theorem memcClrPause (t : Tile) : Statement (.memcClrPause t) := of_wellFormed _
theorem lnkClrCnt (t : Tile) (l : Fin 10) : Statement (.lnkClrCnt t l) := of_wellFormed _
theorem lnkClrTest (t : Tile) (l : Fin 10) : Statement (.lnkClrTest t l) := of_wellFormed _
theorem dspClrTrains (port : Fin 2) : Statement (.dspClrTrains port) := of_wellFormed _
theorem dspClrUnder (port : Fin 2) : Statement (.dspClrUnder port) := of_wellFormed _
theorem thmClrCnt (t : Tile) : Statement (.thmClrCnt t) := of_wellFormed _
theorem thmClrMax (t : Tile) : Statement (.thmClrMax t) := of_wellFormed _
theorem twnCauseClrlast (t : Tile) : Statement (.twnCauseClrlast t) := of_wellFormed _
theorem packetFetch (entry : Option Words16) : Statement (.packetFetch entry) := of_wellFormed _
theorem completionPost (q : Fin 256) : Statement (.completionPost q) := of_wellFormed _
theorem moderationWindowExpiry (q : Fin 256) : Statement (.moderationWindowExpiry q) := of_wellFormed _
theorem msixVectorSend (v : Fin 2048) : Statement (.msixVectorSend v) := of_wellFormed _
theorem pcieLinkStateChange (port : Fin 2) (st : Fin 6) : Statement (.pcieLinkStateChange port st) := of_wellFormed _
theorem pcieD3hotEntry (port : Fin 2) : Statement (.pcieD3hotEntry port) := of_wellFormed _
theorem pcieD3coldEntry (port : Fin 2) : Statement (.pcieD3coldEntry port) := of_wellFormed _
theorem pcieD0Return (port : Fin 2) : Statement (.pcieD0Return port) := of_wellFormed _
theorem pciePerst (port : Fin 2) : Statement (.pciePerst port) := of_wellFormed _
theorem pcieConfigRequest (port : Fin 2) : Statement (.pcieConfigRequest port) := of_wellFormed _
theorem eventOccurrence (t : Tile) (src : Fin 192) (data : List Nat) : Statement (.eventOccurrence t src data) := of_wellFormed _
theorem evrCommit (stage : Option Tile) : Statement (.evrCommit stage) := of_wellFormed _
theorem evrOfferReceive (t : Tile) : Statement (.evrOfferReceive t) := of_wellFormed _
theorem evrReconsider (stage : Option Tile) : Statement (.evrReconsider stage) := of_wellFormed _
theorem eviEdge (t : Tile) (i : Fin 4) : Statement (.eviEdge t i) := of_wellFormed _
theorem inputRawTransition (p : Pin) (level : Bool) : Statement (.inputRawTransition p level) := of_wellFormed _
theorem encEdge (i : Quad) : Statement (.encEdge i) := of_wellFormed _
theorem encWireFault (i : Quad) (j : Pair) : Statement (.encWireFault i j) := of_wellFormed _
theorem encIndex (i : Quad) : Statement (.encIndex i) := of_wellFormed _
theorem encIndexMiss (i : Quad) : Statement (.encIndexMiss i) := of_wellFormed _
theorem absFrameReceived (raw : Nat) (err : Bool) (warn : Bool) (crc : Nat) : Statement (.absFrameReceived raw err warn crc) := of_wellFormed _
theorem positionMessageReceive (t : Tile) (n : Nat) : Statement (.positionMessageReceive t n) := of_wellFormed _
theorem outputPulseEnd (o : Fin 4) : Statement (.outputPulseEnd o) := of_wellFormed _
theorem compareApply (u : Fin 16) : Statement (.compareApply u) := of_wellFormed _
theorem pdEdge (i : Fin 8) : Statement (.pdEdge i) := of_wellFormed _
theorem carriageCodeChange (g : Fin 3) : Statement (.carriageCodeChange g) := of_wellFormed _
theorem armLineEvaluation (lane : Fin 16) (num : Nat) : Statement (.armLineEvaluation lane num) := of_wellFormed _
theorem memoryWaitRelease (seq : Nat) : Statement (.memoryWaitRelease seq) := of_wellFormed _
theorem memWriteLanded (wid : Nat) (twin : Fin 4) : Statement (.memWriteLanded wid twin) := of_wellFormed _
theorem mirroredLoadReceive (wid : Nat) (twin : Fin 4) : Statement (.mirroredLoadReceive wid twin) := of_wellFormed _
theorem stripDecodeStart (t : Tile) : Statement (.stripDecodeStart t) := of_wellFormed _
theorem stripVerified (t : Tile) (sid : Nat) (strip : Nat) : Statement (.stripVerified t sid strip) := of_wellFormed _
theorem stripVerdictReceive (t : Tile) (sid : Nat) (strip : Nat) : Statement (.stripVerdictReceive t sid strip) := of_wellFormed _
theorem stripDeadline (t : Tile) (sid : Nat) (strip : Nat) : Statement (.stripDeadline t sid strip) := of_wellFormed _
theorem stripMended (t : Tile) (sid : Nat) (strip : Nat) : Statement (.stripMended t sid strip) := of_wellFormed _
theorem compressPassDone (seq : Nat) : Statement (.compressPassDone seq) := of_wellFormed _
theorem lineCompute (t : Tile) (n : Nat) : Statement (.lineCompute t n) := of_wellFormed _
theorem firingLineStage11 (t : Tile) (r : FiringRun) : Statement (.firingLineStage11 t r) := of_wellFormed _
theorem segmentFrameDue (t : Tile) (line : Nat) (seg : Nat) : Statement (.segmentFrameDue t line seg) := of_wellFormed _
theorem stateCopyReceive (t : Tile) (line : Nat) : Statement (.stateCopyReceive t line) := of_wellFormed _
theorem stateRecordMissing (t : Tile) (line : Nat) : Statement (.stateRecordMissing t line) := of_wellFormed _
theorem lensTrackLost (cause : Nat) : Statement (.lensTrackLost cause) := of_wellFormed _
theorem lensReferenceIndex (i : Quad) : Statement (.lensReferenceIndex i) := of_wellFormed _
theorem patchReportTimeout (band : Nat) (row : Nat) : Statement (.patchReportTimeout band row) := of_wellFormed _
theorem colourReportReceive (r : ColourReport) : Statement (.colourReportReceive r) := of_wellFormed _
theorem calInvalid (port : Fin 2) : Statement (.calInvalid port) := of_wellFormed _
theorem timeSyncSend (h : Hop) : Statement (.timeSyncSend h) := of_wellFormed _
theorem timeSyncReceive (h : Hop) (xseq : Nat) (t1 : Nat) (t2 : Nat) : Statement (.timeSyncReceive h xseq t1 t2) := of_wellFormed _
theorem timeReqReceive (h : Hop) (xseq : Nat) (t3 : Nat) (t4 : Nat) : Statement (.timeReqReceive h xseq t3 t4) := of_wellFormed _
theorem timeRespReceive (h : Hop) (xseq : Nat) (t4 : Nat) : Statement (.timeRespReceive h xseq t4) := of_wellFormed _
theorem timeExchangeTimeout (h : Hop) : Statement (.timeExchangeTimeout h) := of_wellFormed _
theorem timeAnnounceReceive (sec : Nat) (tau : Nat) : Statement (.timeAnnounceReceive sec tau) := of_wellFormed _
theorem timeAlignCheck (t : Tile) (diff : Int) : Statement (.timeAlignCheck t diff) := of_wellFormed _
theorem blockLockAcquired (t : Tile) (b : LaneBlocks) : Statement (.blockLockAcquired t b) := of_wellFormed _
theorem blockLockLost (t : Tile) (b : LaneBlocks) : Statement (.blockLockLost t b) := of_wellFormed _
theorem helloSend (h : Hop) : Statement (.helloSend h) := of_wellFormed _
theorem helloReceive (t : Tile) (l : Fin 10) (f : Hello) : Statement (.helloReceive t l f) := of_wellFormed _
theorem statusFrameReceive (f : StatusFrame) : Statement (.statusFrameReceive f) := of_wellFormed _
theorem nodeStatusTimeout (node : Nat) : Statement (.nodeStatusTimeout node) := of_wellFormed _
theorem eventPositionReceive (e : PosEvent) : Statement (.eventPositionReceive e) := of_wellFormed _
theorem eventProductReceive (lane : Fin 16) (num : Nat) (first : Nat) : Statement (.eventProductReceive lane num first) := of_wellFormed _
theorem nodeEvent (node : Nat) (code : Nat) (eseq : Nat) (data : List Byte) : Statement (.nodeEvent node code eseq data) := of_wellFormed _
theorem ctrlRequestReceive (f : CtrlFrame) : Statement (.ctrlRequestReceive f) := of_wellFormed _
theorem ctrlAnswerReceive (f : CtrlFrame) : Statement (.ctrlAnswerReceive f) := of_wellFormed _
theorem ctrlAnswerTimeout (seq : Nat) : Statement (.ctrlAnswerTimeout seq) := of_wellFormed _
theorem hubFrameReceive (node : Nat) (port : HubPort) (f : RxFrame) : Statement (.hubFrameReceive node port f) := of_wellFormed _
theorem hubFireInstant (node : Nat) (seg : Nat) : Statement (.hubFireInstant node seg) := of_wellFormed _
theorem laneTrainingDone (t : Tile) (l : Fin 10) (e : Eye) : Statement (.laneTrainingDone t l e) := of_wellFormed _
theorem laneTrainFail (t : Tile) (l : Fin 10) (e : Eye) : Statement (.laneTrainFail t l e) := of_wellFormed _
theorem laneDown (t : Tile) (l : Fin 10) (cause : Fin 3) : Statement (.laneDown t l cause) := of_wellFormed _
theorem laneRetrainTimer (t : Tile) (l : Fin 10) : Statement (.laneRetrainTimer t l) := of_wellFormed _
theorem frameReceive (t : Tile) (l : Fin 10) (blocks : List Block) : Statement (.frameReceive t l blocks) := of_wellFormed _
theorem laneWake (t : Tile) (l : Fin 10) (rx : Bool) : Statement (.laneWake t l rx) := of_wellFormed _
theorem laneTestInject (t : Tile) (l : Fin 10) : Statement (.laneTestInject t l) := of_wellFormed _
theorem laneTestDone (t : Tile) (l : Fin 10) (errors : Nat) (losses : Nat) (locked : Bool) : Statement (.laneTestDone t l errors losses locked) := of_wellFormed _
theorem heartbeatSend (t : Tile) : Statement (.heartbeatSend t) := of_wellFormed _
theorem partnerSilent (t : Tile) : Statement (.partnerSilent t) := of_wellFormed _
theorem twinLinkDown (twin : Fin 4) : Statement (.twinLinkDown twin) := of_wellFormed _
theorem partnerWithdrawReceive (t : Tile) : Statement (.partnerWithdrawReceive t) := of_wellFormed _
theorem assaySetStart (t : Tile) : Statement (.assaySetStart t) := of_wellFormed _
theorem assaySetEnd (t : Tile) (pass : Bool) (stage : Nat) : Statement (.assaySetEnd t pass stage) := of_wellFormed _
theorem commitPrepareReceive (t : Tile) (cseq : Nat) : Statement (.commitPrepareReceive t cseq) := of_wellFormed _
theorem commitAckReceive (t : Tile) (cseq : Nat) : Statement (.commitAckReceive t cseq) := of_wellFormed _
theorem preserveReceive (data : List Byte) : Statement (.preserveReceive data) := of_wellFormed _
theorem hostPortRetry (ok : Bool) : Statement (.hostPortRetry ok) := of_wellFormed _
theorem resyncCopyDone (t : Tile) : Statement (.resyncCopyDone t) := of_wellFormed _
theorem watchdogExpiry (t : Tile) : Statement (.watchdogExpiry t) := of_wellFormed _
theorem fabricHopDown (hop : Fin 8) : Statement (.fabricHopDown hop) := of_wellFormed _
theorem refclkLost (t : Tile) : Statement (.refclkLost t) := of_wellFormed _
theorem pllUnlock (t : Tile) : Statement (.pllUnlock t) := of_wellFormed _
theorem domainReady (t : Tile) (d : Fin 15) : Statement (.domainReady t d) := of_wellFormed _
theorem dramRequestComplete (t : Tile) (ch : Fin 4) (e : DramEnd) : Statement (.dramRequestComplete t ch e) := of_wellFormed _
theorem dramRefreshDue (t : Tile) (ch : Fin 4) (bank : Fin 16) : Statement (.dramRefreshDue t ch bank) := of_wellFormed _
theorem bankIdlePrecharge (t : Tile) (ch : Fin 4) (bank : Fin 16) : Statement (.bankIdlePrecharge t ch bank) := of_wellFormed _
theorem dramPauseStart (t : Tile) : Statement (.dramPauseStart t) := of_wellFormed _
theorem memcSetChanged (t : Tile) : Statement (.memcSetChanged t) := of_wellFormed _
theorem dramRetrainDue (t : Tile) : Statement (.dramRetrainDue t) := of_wellFormed _
theorem memcPauseForced (t : Tile) : Statement (.memcPauseForced t) := of_wellFormed _
theorem memcPanicLong (t : Tile) (port : Fin 3) : Statement (.memcPanicLong t port) := of_wellFormed _
theorem memcScrubDone (t : Tile) : Statement (.memcScrubDone t) := of_wellFormed _
theorem memcDramHot (t : Tile) (ch : Fin 4) (mr4 : Nat) (hot : Bool) : Statement (.memcDramHot t ch mr4 hot) := of_wellFormed _
theorem dspFrameStart (port : Fin 2) : Statement (.dspFrameStart port) := of_wellFormed _
theorem proofFlip (port : Fin 2) : Statement (.proofFlip port) := of_wellFormed _
theorem dspLineMatch (port : Fin 2) : Statement (.dspLineMatch port) := of_wellFormed _
theorem dspFrameDone (port : Fin 2) : Statement (.dspFrameDone port) := of_wellFormed _
theorem dspTeEdge (port : Fin 2) : Statement (.dspTeEdge port) := of_wellFormed _
theorem dspTeLost (port : Fin 2) : Statement (.dspTeLost port) := of_wellFormed _
theorem dspUnderrun (port : Fin 2) (line : Nat) (pixel : Nat) : Statement (.dspUnderrun port line pixel) := of_wellFormed _
theorem proofDataReceive (port : Fin 2) (layer : Fin 4) (row : Nat) (data : List Byte) : Statement (.proofDataReceive port layer row data) := of_wellFormed _
theorem dspHotplug (port : Fin 2) : Statement (.dspHotplug port) := of_wellFormed _
theorem dspLinkLost (port : Fin 2) (hpdFell : Bool) : Statement (.dspLinkLost port hpdFell) := of_wellFormed _
theorem dspRetrainTimer (port : Fin 2) : Statement (.dspRetrainTimer port) := of_wellFormed _
theorem dspModeChanged (port : Fin 2) : Statement (.dspModeChanged port) := of_wellFormed _
theorem thermConversion (t : Tile) (code : Nat) (temp : Int) (valid : Bool) : Statement (.thermConversion t code temp valid) := of_wellFormed _
theorem throttleStepInterval (t : Tile) : Statement (.throttleStepInterval t) := of_wellFormed _
theorem powerEstimateUpdate (t : Tile) (est : Nat) : Statement (.powerEstimateUpdate t est) := of_wellFormed _
theorem shedSavingMeasured (t : Tile) (action : Fin 4) : Statement (.shedSavingMeasured t action) := of_wellFormed _
theorem trimDone (t : Tile) (r : TrimResult) : Statement (.trimDone t r) := of_wellFormed _
theorem encTrimApply (t : Tile) (i : Quad) : Statement (.encTrimApply t i) := of_wellFormed _
theorem boot (t : Tile) (e : StageEnd) : Statement (.boot t e) := of_wellFormed _
theorem imageReceive (t : Tile) (e : StageEnd) : Statement (.imageReceive t e) := of_wellFormed _
theorem pairTimeout (t : Tile) : Statement (.pairTimeout t) := of_wellFormed _
theorem aonSupplySwitch (t : Tile) (toBat : Bool) : Statement (.aonSupplySwitch t toBat) := of_wellFormed _
theorem vbatMeasure (t : Tile) (mv : Nat) : Statement (.vbatMeasure t mv) := of_wellFormed _
theorem jtagExtest (on : Bool) (pins : Nat) : Statement (.jtagExtest on pins) := of_wellFormed _
theorem smbOtherNack (cmd : Nat) : Statement (.smbOtherNack cmd) := of_wellFormed _
theorem hostDmaReadDone (seq : Nat) (data : Option (List Byte)) : Statement (.hostDmaReadDone seq data) := of_wellFormed _
theorem msixMaskClear (v : Option (Fin 2048)) : Statement (.msixMaskClear v) := of_wellFormed _
theorem dspLinkTrainingEnd (port : Fin 2) (ok : Bool) : Statement (.dspLinkTrainingEnd port ok) := of_wellFormed _
theorem dramRetrainingDone (t : Tile) (drift : Option (Fin 4 × Int)) : Statement (.dramRetrainingDone t drift) := of_wellFormed _
theorem flashWriteDone (ok : Bool) : Statement (.flashWriteDone ok) := of_wellFormed _
theorem packetDispatch : Statement .packetDispatch := of_wellFormed _
theorem queueMirrorReceive : Statement .queueMirrorReceive := of_wellFormed _
theorem absPoll : Statement .absPoll := of_wellFormed _
theorem absTimeout : Statement .absTimeout := of_wellFormed _
theorem pitchLoopUpdate : Statement .pitchLoopUpdate := of_wellFormed _
theorem pitchLock : Statement .pitchLock := of_wellFormed _
theorem pitchUnlock : Statement .pitchUnlock := of_wellFormed _
theorem webStill : Statement .webStill := of_wellFormed _
theorem encLost : Statement .encLost := of_wellFormed _
theorem motionStateCopyReceive : Statement .motionStateCopyReceive := of_wellFormed _
theorem motionSourceT1 : Statement .motionSourceT1 := of_wellFormed _
theorem lineIssue : Statement .lineIssue := of_wellFormed _
theorem fireTimestampReached : Statement .fireTimestampReached := of_wellFormed _
theorem lensLock : Statement .lensLock := of_wellFormed _
theorem lensUnlock : Statement .lensUnlock := of_wellFormed _
theorem lensHoldExpired : Statement .lensHoldExpired := of_wellFormed _
theorem lensReacquireEnter : Statement .lensReacquireEnter := of_wellFormed _
theorem lensAcqFail : Statement .lensAcqFail := of_wellFormed _
theorem colourCalDue : Statement .colourCalDue := of_wellFormed _
theorem calSecondRollover : Statement .calSecondRollover := of_wellFormed _
theorem calDisciplineLost : Statement .calDisciplineLost := of_wellFormed _
theorem calSlewEnd : Statement .calSlewEnd := of_wellFormed _
theorem preserveCapture : Statement .preserveCapture := of_wellFormed _
theorem preserveFlashWrite : Statement .preserveFlashWrite := of_wellFormed _
theorem takebackStart : Statement .takebackStart := of_wellFormed _
theorem handoverEnd : Statement .handoverEnd := of_wellFormed _
theorem jobDrainEnd : Statement .jobDrainEnd := of_wellFormed _
theorem coldReset : Statement .coldReset := of_wellFormed _
theorem bootImageTimeout : Statement .bootImageTimeout := of_wellFormed _
theorem tallyRecordWrite : Statement .tallyRecordWrite := of_wellFormed _
theorem updateTimeout : Statement .updateTimeout := of_wellFormed _
theorem smbReadTemp : Statement .smbReadTemp := of_wellFormed _
theorem smbReadBoot : Statement .smbReadBoot := of_wellFormed _
theorem smbReadVbat : Statement .smbReadVbat := of_wellFormed _
theorem smbReadEpoch : Statement .smbReadEpoch := of_wellFormed _
theorem smbAlertResponse : Statement .smbAlertResponse := of_wellFormed _
theorem hostControllerColdStartDone : Statement .hostControllerColdStartDone := of_wellFormed _

end Sys2Proof.Laws.Opcode
end

