-- ==== Sys2Proof/Laws/Sound.lean ====
section
/-! SUPPORT. -/
namespace Sys2Proof.Machine

def HostOk (_ : State) (m : Mem) : Prop := Mem.wf m = true
def MemOk (_ : State) (m : Mem) : Prop := Mem.wf m = true
def LogOk (_ : State) (l : List LogRec) : Prop := l.length ≤ 1024
def EvrOk (s0 : State) (e : Evr) : Prop := LogOk s0 e.log
def TileOk (s0 : State) (x : TileState) : Prop := MemOk s0 x.mem ∧ EvrOk s0 x.evr
def TilesOk (s0 : State) (v : Vector TileState 8) : Prop := ∀ t : Tile, TileOk s0 (v.get t)
def SessOk (_ : State) (v : Vector (Option Session) 256) : Prop := (vget v 0 none).map (fun x => { x with denied := none }) = some Session.admin
def QenOk (s0 : State) (q : Qen) : Prop := SessOk s0 q.sessions
def PartOk (s0 : State) (p : Part) : Prop := p = s0.part
def PendOk (s0 : State) (l : List Instr) : Prop := l = s0.pending
def FreeOk (s0 : State) (n : Nat) : Prop := s0.free ≤ n

def Sound (s0 s : State) : Prop :=
  PartOk s0 s.part ∧ TilesOk s0 s.tiles ∧ QenOk s0 s.qen ∧ HostOk s0 s.host ∧ FreeOk s0 s.free ∧ PendOk s0 s.pending

theorem Sound.part (h : Sound s0 s) : PartOk s0 s.part := h.1
theorem Sound.tiles (h : Sound s0 s) : TilesOk s0 s.tiles := h.2.1
theorem Sound.qen (h : Sound s0 s) : QenOk s0 s.qen := h.2.2.1
theorem Sound.host (h : Sound s0 s) : HostOk s0 s.host := h.2.2.2.1
theorem Sound.free (h : Sound s0 s) : FreeOk s0 s.free := h.2.2.2.2.1
theorem Sound.pending (h : Sound s0 s) : PendOk s0 s.pending := h.2.2.2.2.2
theorem FreeOk.succ (h : FreeOk s0 n) : FreeOk s0 (n + 1) := Nat.le_succ_of_le h
theorem TilesOk.get (h : TilesOk s0 v) : TileOk s0 (v.get t) := h t
theorem TileOk.mem (h : TileOk s0 x) : MemOk s0 x.mem := h.1
theorem TileOk.evr (h : TileOk s0 x) : EvrOk s0 x.evr := h.2
theorem EvrOk.log (h : EvrOk s0 e) : LogOk s0 e.log := h
theorem QenOk.sessions (h : QenOk s0 q) : SessOk s0 q.sessions := h
theorem Sound.tile (h : Sound s0 s) : TileOk s0 (s.tile t) := h.2.1 t
theorem Sound.tileN (h : Sound s0 s) : TileOk s0 (s.tileN t) := h.2.1 _

theorem TilesOk.set (h : TilesOk s0 v) (hx : TileOk s0 x) : TilesOk s0 (v.set t x ht) := by
  intro u
  have e : (v.set t x ht).get u = if t = u.val then x else v.get u := by
    show (v.set t x ht)[u.val] = _
    rw [Vector.getElem_set]; rfl
  rw [e]
  split
  · exact hx
  · exact h u

theorem Sound.setTile (h : Sound s0 s) (hx : TileOk s0 x) : Sound s0 (s.setTile t x) :=
  ⟨h.1, TilesOk.set (ht := t.isLt) h.tiles hx, h.2.2⟩
theorem Sound.updTile (h : Sound s0 s) (hx : TileOk s0 (f (s.tile t))) : Sound s0 (s.updTile t f) := h.setTile hx
theorem Sound.updTileN (h : Sound s0 s) (hx : TileOk s0 (f (s.tileN t))) : Sound s0 (s.updTileN t f) := h.setTile hx
theorem Sound.foldl {l : List α} {f : State → α → State} (h : Sound s0 s) (hf : ∀ s a, Sound s0 s → Sound s0 (f s a)) :
    Sound s0 (l.foldl f s) := by
  induction l generalizing s with
  | nil => exact h
  | cons a r ih => exact ih (hf s a h)
theorem Sound.forEach {l : List α} {f : State → α → State} (h : Sound s0 s) (hf : ∀ s a, Sound s0 s → Sound s0 (f s a)) :
    Sound s0 (Machine.forEach l s f) := h.foldl hf
theorem Sound.whenDue (h : Sound s0 s) (h' : Sound s0 t) : Sound s0 (Machine.whenDue c s t) := by
  unfold Machine.whenDue; split <;> assumption

def OpOk (s0 : State) (d : OpDef) : Prop :=
  (∀ s p bs, Sound s0 s → Sound s0 (d.act s p bs)) ∧ (∀ s p bs, Sound s0 s → Sound s0 (d.bind s p bs).2) ∧
    ∀ s p, Sound s0 s → Sound s0 (d.hold s p)
theorem OpOk.act (hd : OpOk s0 d) (h : Sound s0 s) : Sound s0 (d.act s p bs) := hd.1 s p bs h
theorem OpOk.bind (hd : OpOk s0 d) (h : Sound s0 s) : Sound s0 (d.bind s p bs).2 := hd.2.1 s p bs h
theorem OpOk.hold (hd : OpOk s0 d) (h : Sound s0 s) : Sound s0 (d.hold s p) := hd.2.2 s p h
theorem Sound.foldl2 {l : List α} {f : β × State → α → β × State} (h : Sound s0 b.2) (hf : ∀ a c, Sound s0 a.2 → Sound s0 (f a c).2) :
    Sound s0 (l.foldl f b).2 := by
  induction l generalizing b with
  | nil => exact h
  | cons a r ih => exact ih (hf b a h)
theorem Sound.foldl1 {l : List α} {f : State × β → α → State × β} (h : Sound s0 b.1) (hf : ∀ a c, Sound s0 a.1 → Sound s0 (f a c).1) :
    Sound s0 (l.foldl f b).1 := by
  induction l generalizing b with
  | nil => exact h
  | cons a r ih => exact ih (hf b a h)
theorem Sound.ite2 [Decidable c] {a b : β × State} (h1 : Sound s0 a.2) (h2 : Sound s0 b.2) : Sound s0 (if c then a else b).2 := by
  split <;> assumption
theorem Sound.ite [Decidable c] (h1 : Sound s0 a) (h2 : Sound s0 b) : Sound s0 (if c then a else b) := by
  split <;> assumption
theorem TileOk.ite [Decidable c] (h1 : TileOk s0 a) (h2 : TileOk s0 b) : TileOk s0 (if c then a else b) := by
  split <;> assumption

theorem EvrOk.foldl {l : List α} {f : Evr → α → Evr} (h : EvrOk s0 e) (hf : ∀ e a, EvrOk s0 e → EvrOk s0 (f e a)) :
    EvrOk s0 (l.foldl f e) := by
  induction l generalizing e with
  | nil => exact h
  | cons a r ih => exact ih (hf e a h)
theorem Sound.mk_iff : Sound s0 (State.mk a_part a_time a_tiles a_linkUp a_hops a_lead a_qen a_evh a_host a_busRead a_smbNack a_smbAlert a_extest a_job a_stores a_marks a_motion a_colour a_link a_dsp a_dispFlip a_dispMode a_dispOff a_dispLast a_flash a_tallyMod a_tallyCol a_tallyRest a_free a_pending) ↔ PartOk s0 a_part ∧ TilesOk s0 a_tiles ∧ QenOk s0 a_qen ∧ HostOk s0 a_host ∧ FreeOk s0 a_free ∧ PendOk s0 a_pending := Iff.rfl
theorem TileOk.mk_iff : TileOk s0 (TileState.mk a_skew a_alignAt a_slew a_timeMin a_die a_pdOn a_pdBusy a_pdNeed a_pdWait a_clockOk a_twin a_pstate a_cause a_withdrawals a_sigSkip a_sigMismatch a_assayFailed a_assayPass a_lastAssay a_edge a_assayRun a_assayMax a_strikes a_hbSent a_hbLink a_hbFabric a_hbMiss a_portFault a_pseq a_startLine a_rejoinSeq a_pairedAt a_begun a_posLine a_cmax a_heldCommits a_appliedCommits a_mem a_streams a_delay a_short a_prefetch a_scanLead a_recs a_gov a_opening a_nozLost a_nozClip a_uncovered a_fired a_records a_partner a_missing a_unsettled a_verdicts a_deps a_taken a_voidCnt a_remaps a_laneBusy a_evr a_memc a_lanes a_thm a_trm a_boot a_latchHi a_motFault) ↔ MemOk s0 a_mem ∧ EvrOk s0 a_evr := Iff.rfl
theorem EvrOk.mk_iff : EvrOk s0 (Evr.mk a_en a_baddone a_restored a_logcnt a_loglost a_edge a_filt a_cores a_prigroup a_srcs a_log a_rr a_passed a_retained a_shadow) ↔ LogOk s0 a_log := Iff.rfl
theorem QenOk.mk_iff : QenOk s0 (Qen.mk a_en a_reglock a_ready a_asq a_acq a_acqs a_asqs a_stray a_pairs a_store a_sessions a_bells a_nextSeq a_nextDisp a_turn a_dispSess a_dispQueue a_due a_msix a_sentVec a_mirror a_mirrored a_ports) ↔ SessOk s0 a_sessions := Iff.rfl

theorem NMap.above_mono {m : NMap α} (h : b ≤ c) (hm : NMap.above c m = true) : NMap.above b m = true := by
  cases m with
  | nil => rfl
  | cons e r => simp only [NMap.above, decide_eq_true_eq] at *; omega

theorem NMap.above_set [DecidableEq α] {d v : α} {m : NMap α} (hm : NMap.above b m = true) (hw : NMap.wf d m = true) (hk : b ≤ k) :
    NMap.above b (NMap.set d m k v) = true := by
  cases m with
  | nil => simp only [NMap.set]; split <;> simp [NMap.above, hk]
  | cons e r =>
    obtain ⟨a, x⟩ := e
    simp only [NMap.above, decide_eq_true_eq] at hm
    simp only [NMap.wf, Bool.and_eq_true] at hw
    simp only [NMap.set]
    split
    · split <;> simp [NMap.above, hm, hk]
    · split
      · split
        · exact NMap.above_mono (by omega) hw.1.2
        · simp [NMap.above, hk]
      · simp [NMap.above, hm]

theorem NMap.wf_set [DecidableEq α] {d v : α} {m : NMap α} (hw : NMap.wf d m = true) : NMap.wf d (NMap.set d m k v) = true := by
  induction m with
  | nil => simp only [NMap.set]; split <;> simp [NMap.wf, NMap.above, *]
  | cons e r ih =>
    obtain ⟨a, x⟩ := e
    have hw' := hw
    simp only [NMap.wf, Bool.and_eq_true, decide_eq_true_eq] at hw
    simp only [NMap.set]
    split
    · split
      · exact hw'
      · rename_i h1 h2
        simp only [NMap.wf, NMap.above, Bool.and_eq_true, decide_eq_true_eq]
        exact ⟨⟨h2, by omega⟩, hw⟩
    · split
      · split
        · exact hw.2
        · rename_i h1 h2 h3
          subst h2
          simp only [NMap.wf, Bool.and_eq_true, decide_eq_true_eq]
          exact ⟨⟨h3, hw.1.2⟩, hw.2⟩
      · simp only [NMap.wf, Bool.and_eq_true, decide_eq_true_eq]
        exact ⟨⟨hw.1.1, NMap.above_set hw.1.2 hw.2 (by omega)⟩, ih hw.2⟩

theorem Mem.wf_write (h : Mem.wf m = true) : Mem.wf (Mem.write m a bs) = true := by
  induction bs generalizing m a with
  | nil => exact h
  | cons b bs ih => exact ih (NMap.wf_set h)

theorem HostOk.write (h : HostOk s0 m) : HostOk s0 (Mem.write m a bs) := Mem.wf_write h
theorem MemOk.write (h : MemOk s0 m) : MemOk s0 (Mem.write m a bs) := Mem.wf_write h
theorem NMap.above_filter {m : NMap α} (hw : NMap.above b m = true) [DecidableEq α] {d : α} (hm : NMap.wf d m = true) :
    NMap.above b (m.filter p) = true := by
  induction m generalizing b with
  | nil => rfl
  | cons e r ih =>
    obtain ⟨a, x⟩ := e
    simp only [NMap.wf, Bool.and_eq_true] at hm
    simp only [NMap.above, decide_eq_true_eq] at hw
    rw [List.filter_cons]
    split
    · simp [NMap.above, hw]
    · exact ih (NMap.above_mono (by omega) hm.1.2) hm.2
theorem NMap.wf_filter [DecidableEq α] {d : α} {m : NMap α} (hm : NMap.wf d m = true) : NMap.wf d (m.filter p) = true := by
  induction m with
  | nil => rfl
  | cons e r ih =>
    obtain ⟨a, x⟩ := e
    simp only [NMap.wf, Bool.and_eq_true, decide_eq_true_eq] at hm
    rw [List.filter_cons]
    split
    · simp only [NMap.wf, Bool.and_eq_true, decide_eq_true_eq]
      exact ⟨⟨hm.1.1, NMap.above_filter hm.1.2 hm.2⟩, ih hm.2⟩
    · exact ih hm.2
theorem MemOk.filter (h : MemOk s0 m) : MemOk s0 (m.filter p) := NMap.wf_filter h
theorem MemOk.nil : MemOk s0 [] := rfl
theorem QenOk.reset : QenOk s0 Qen.reset := by
  simp only [QenOk, SessOk]
  rfl
theorem EvrOk.reset : EvrOk s0 Evr.reset := Nat.zero_le _
theorem TileOk.reset : TileOk s0 TileState.reset := ⟨rfl, Nat.zero_le _⟩
theorem LogOk.nil : LogOk s0 [] := Nat.zero_le _
theorem LogOk.add : LogOk s0 ((l ++ [r]).drop (l.length + 1 - 1024)) := by
  simp only [LogOk, List.length_drop, List.length_append, List.length_singleton]; omega

theorem SessOk.keep {v : Vector (Option Session) 256} (h : SessOk s0 v) (hx : n = 0 → x.map (fun y => { y with denied := none }) = some Session.admin) :
    SessOk s0 (vset v n x) := by
  by_cases hn : n = 0
  · subst hn
    simp only [SessOk, vset, vget]
    rw [Vector.getElem?_setIfInBounds_self_of_lt (by decide)]
    exact hx rfl
  · have : vget (vset v n x) 0 none = vget v 0 none := by
      simp only [vget, vset]
      rw [Vector.getElem?_setIfInBounds_ne hn]
    simpa only [SessOk, this] using h

end Sys2Proof.Machine
end

