-- ==== Sys2Proof/Laws/SoundCore.lean ====
section
/-! SUPPORT. Every operation of operations, completions, commits, the command engine, job memory and products keeps the package sound (Laws/Sound.lean). -/

set_option linter.all false

namespace Sys2Proof.Machine

/-! ## Ops -/

theorem State.addTime_sound {s : State} {n : Nat} (hs : Sound s0 s) : Sound s0 (State.addTime s n) := by
  unfold State.addTime
  repeat' first
      | (with_reducible first | assumption | intro _ | apply Sound.part | apply Sound.tiles | apply Sound.qen | apply Sound.host | apply Sound.free | apply Sound.pending | apply And.intro)
      | simp only [Sound.mk_iff, TileOk.mk_iff, EvrOk.mk_iff, QenOk.mk_iff]
      | split

theorem State.nextFree_sound {s : State} (hs : Sound s0 s) : Sound s0 (State.nextFree s) := by
  unfold State.nextFree
  repeat' first
      | (with_reducible first | assumption | intro _ | apply Sound.part | apply Sound.tiles | apply Sound.qen | apply Sound.host | apply Sound.free | apply Sound.pending | apply FreeOk.succ | apply And.intro)
      | simp only [Sound.mk_iff, TileOk.mk_iff, EvrOk.mk_iff, QenOk.mk_iff]
      | split

theorem State.hostWrite_sound {s : State} {a : Nat} {bs : List Byte} (hs : Sound s0 s) : Sound s0 (State.hostWrite s a bs) := by
  unfold State.hostWrite
  repeat' first
      | (with_reducible first | assumption | intro _ | apply HostOk.write | apply Sound.part | apply Sound.tiles | apply Sound.qen | apply Sound.host | apply Sound.free | apply Sound.pending | apply And.intro)
      | simp only [Sound.mk_iff, TileOk.mk_iff, EvrOk.mk_iff, QenOk.mk_iff]
      | split

theorem Evr.addLog_sound {e : Evr} {r : LogRec} (he : EvrOk s0 e) : EvrOk s0 (Evr.addLog e r) := by
  simp only [Evr.addLog, EvrOk.mk_iff]
  exact LogOk.add

theorem Evr.occur_sound {e : Evr} {r : LogRec} (he : EvrOk s0 e) : EvrOk s0 (Evr.occur e r) := by
  simp only [Evr.occur, EvrOk.mk_iff]
  exact EvrOk.log (Evr.addLog_sound he)

theorem Evr.shadowOccur_sound {e : Evr} {r : LogRec} (he : EvrOk s0 e) : EvrOk s0 (Evr.shadowOccur e r) := by
  unfold Evr.shadowOccur
  split <;> exact he

theorem TileState.occur_sound {x : TileState} {r : LogRec} (hx : TileOk s0 x) : TileOk s0 (TileState.occur x r) := by
  unfold TileState.occur
  split
  · exact ⟨hx.mem, Evr.occur_sound hx.evr⟩
  · exact ⟨hx.mem, Evr.shadowOccur_sound hx.evr⟩

theorem State.raiseAt_sound {s : State} {t : Tile} {src : Nat} {tick : Nat} {data : List Nat} (hs : Sound s0 s) : Sound s0 (State.raiseAt s t src tick data) := by
  unfold State.raiseAt
  repeat' first
      | (with_reducible first | assumption | intro _ | apply TileState.occur_sound | apply Sound.updTile | apply Sound.tile)
      | simp only [Sound.mk_iff, TileOk.mk_iff, EvrOk.mk_iff, QenOk.mk_iff]
      | split

theorem State.raise_sound {s : State} {t : Tile} {src : Nat} {data : List Nat} (hs : Sound s0 s) : Sound s0 (State.raise s t src data) := by
  unfold State.raise
  repeat' first
      | (with_reducible first | assumption | intro _ | apply State.raiseAt_sound)
      | simp only [Sound.mk_iff, TileOk.mk_iff, EvrOk.mk_iff, QenOk.mk_iff]
      | split

theorem State.raiseN_sound {s : State} {n : Nat} {src : Nat} {data : List Nat} (hs : Sound s0 s) : Sound s0 (State.raiseN s n src data) := by
  unfold State.raiseN
  repeat' first
      | (with_reducible first | assumption | intro _ | apply State.raise_sound)
      | simp only [Sound.mk_iff, TileOk.mk_iff, EvrOk.mk_iff, QenOk.mk_iff]
      | split

theorem State.raiseLead_sound {s : State} {src : Nat} {data : List Nat} (hs : Sound s0 s) : Sound s0 (State.raiseLead s src data) := by
  unfold State.raiseLead
  repeat' first
      | (with_reducible first | assumption | intro _ | apply State.raise_sound)
      | simp only [Sound.mk_iff, TileOk.mk_iff, EvrOk.mk_iff, QenOk.mk_iff]
      | split

theorem State.raiseMot_sound {s : State} {src : Nat} {data : List Nat} (hs : Sound s0 s) : Sound s0 (State.raiseMot s src data) := by
  unfold State.raiseMot
  repeat' first
      | (with_reducible first | assumption | intro _ | apply State.raiseN_sound)
      | simp only [Sound.mk_iff, TileOk.mk_iff, EvrOk.mk_iff, QenOk.mk_iff]
      | split

theorem State.flashWrite_sound {s : State} {j : FlashJob} (hs : Sound s0 s) : Sound s0 (State.flashWrite s j) := by
  unfold State.flashWrite
  repeat' first
      | (with_reducible first | assumption | intro _ | apply Sound.part | apply Sound.tiles | apply Sound.qen | apply Sound.host | apply Sound.free | apply Sound.pending | apply And.intro)
      | simp only [Sound.mk_iff, TileOk.mk_iff, EvrOk.mk_iff, QenOk.mk_iff]
      | split

/-! ## Parm -/

theorem State.putItem_sound {s : State} {pid : Nat} {v : Int} (hs : Sound s0 s) : Sound s0 (State.putItem s pid v) := by
  unfold State.putItem
  repeat' first
      | (with_reducible first | assumption | intro _ | apply Sound.part | apply Sound.tiles | apply Sound.qen | apply Sound.host | apply Sound.free | apply Sound.pending | apply And.intro)
      | simp only [Sound.mk_iff, TileOk.mk_iff, EvrOk.mk_iff, QenOk.mk_iff]
      | split

/-! ## Post -/

theorem State.setPair_sound {s : State} {q : Nat} {x : Option QueuePair} (hs : Sound s0 s) : Sound s0 (State.setPair s q x) := by
  unfold State.setPair
  repeat' first
      | (with_reducible first | assumption | intro _ | apply Sound.part | apply Sound.tiles | apply Sound.qen | apply Sound.host | apply Sound.free | apply Sound.pending | apply QenOk.sessions | apply And.intro)
      | simp only [Sound.mk_iff, TileOk.mk_iff, EvrOk.mk_iff, QenOk.mk_iff]
      | split

theorem State.updPair_sound {s : State} {q : Nat} {f : QueuePair → QueuePair} (hs : Sound s0 s) : Sound s0 (State.updPair s q f) := by
  unfold State.updPair
  repeat' first
      | (with_reducible first | assumption | intro _ | apply State.setPair_sound)
      | simp only [Sound.mk_iff, TileOk.mk_iff, EvrOk.mk_iff, QenOk.mk_iff]
      | split

theorem State.setSession_sound {s : State} {n : Nat} {x : Option Session} (hs : Sound s0 s) (hx : n = 0 → x.map (fun y => { y with denied := none }) = some Session.admin) : Sound s0 (State.setSession s n x) := ⟨hs.1, hs.2.1, hs.qen.sessions.keep hx, hs.2.2.2⟩

theorem State.setStore_sound {s : State} {l : List StoreEntry} (hs : Sound s0 s) : Sound s0 (State.setStore s l) := by
  unfold State.setStore
  repeat' first
      | (with_reducible first | assumption | intro _ | apply Sound.part | apply Sound.tiles | apply Sound.qen | apply Sound.host | apply Sound.free | apply Sound.pending | apply QenOk.sessions | apply And.intro)
      | simp only [Sound.mk_iff, TileOk.mk_iff, EvrOk.mk_iff, QenOk.mk_iff]
      | split

theorem State.updPort_sound {s : State} {p : Nat} {f : Port → Port} (hs : Sound s0 s) : Sound s0 (State.updPort s p f) := by
  unfold State.updPort
  repeat' first
      | (with_reducible first | assumption | intro _ | apply Sound.part | apply Sound.tiles | apply Sound.qen | apply Sound.host | apply Sound.free | apply Sound.pending | apply QenOk.sessions | apply And.intro)
      | simp only [Sound.mk_iff, TileOk.mk_iff, EvrOk.mk_iff, QenOk.mk_iff]
      | split

theorem State.updMx_sound {s : State} {t : Nat} {f : Msix → Msix} (hs : Sound s0 s) : Sound s0 (State.updMx s t f) := by
  unfold State.updMx
  repeat' first
      | (with_reducible first | assumption | intro _ | apply Sound.part | apply Sound.tiles | apply Sound.qen | apply Sound.host | apply Sound.free | apply Sound.pending | apply QenOk.sessions | apply And.intro)
      | simp only [Sound.mk_iff, TileOk.mk_iff, EvrOk.mk_iff, QenOk.mk_iff]
      | split

theorem State.mirrorSend_sound {s : State} {m : Mirror} (hs : Sound s0 s) : Sound s0 (State.mirrorSend s m) := by
  unfold State.mirrorSend
  repeat' first
      | (with_reducible first | assumption | intro _ | apply Sound.part | apply Sound.tiles | apply Sound.qen | apply Sound.host | apply Sound.free | apply Sound.pending | apply QenOk.sessions | apply Sound.ite | apply And.intro)
      | simp only [Sound.mk_iff, TileOk.mk_iff, EvrOk.mk_iff, QenOk.mk_iff]
      | split

theorem State.vecDue_sound {s : State} {v : Nat} {q : Option Nat} (hs : Sound s0 s) : Sound s0 (State.vecDue s v q) := by
  unfold State.vecDue
  repeat' first
      | (with_reducible first | assumption | intro _ | apply State.updMx_sound | apply State.updPort_sound | apply State.updPair_sound | apply Sound.part | apply Sound.tiles | apply Sound.qen | apply Sound.host | apply Sound.free | apply Sound.pending | apply QenOk.sessions | apply Sound.ite | apply And.intro)
      | simp only [Sound.mk_iff, TileOk.mk_iff, EvrOk.mk_iff, QenOk.mk_iff]
      | split

theorem State.cqDue_sound {s : State} {q : Nat} (hs : Sound s0 s) : Sound s0 (State.cqDue s q) := by
  unfold State.cqDue
  repeat' first
      | (with_reducible first | assumption | intro _ | apply State.vecDue_sound | apply State.updPair_sound)
      | simp only [Sound.mk_iff, TileOk.mk_iff, EvrOk.mk_iff, QenOk.mk_iff]
      | split

theorem State.closeExpired_sound {s : State} {q : Nat} (hs : Sound s0 s) : Sound s0 (State.closeExpired s q) := by
  unfold State.closeExpired
  repeat' first
      | (with_reducible first | assumption | intro _ | apply State.cqDue_sound | apply Sound.ite)
      | simp only [Sound.mk_iff, TileOk.mk_iff, EvrOk.mk_iff, QenOk.mk_iff]
      | split

theorem State.countOpen_sound {s : State} {q : Nat} (hs : Sound s0 s) : Sound s0 (State.countOpen s q) := by
  unfold State.countOpen
  repeat' first
      | (with_reducible first | assumption | intro _ | apply State.closeExpired_sound | apply State.cqDue_sound | apply State.updPair_sound | apply Sound.ite)
      | simp only [Sound.mk_iff, TileOk.mk_iff, EvrOk.mk_iff, QenOk.mk_iff]
      | split

theorem State.countNotify_sound {s : State} {q : Nat} {urgent : Bool} (hs : Sound s0 s) : Sound s0 (State.countNotify s q urgent) := by
  unfold State.countNotify
  repeat' first
      | (with_reducible first | assumption | intro _ | apply State.countOpen_sound | apply State.cqDue_sound | apply Sound.ite)
      | simp only [Sound.mk_iff, TileOk.mk_iff, EvrOk.mk_iff, QenOk.mk_iff]
      | split

theorem State.updEntry_sound {s : State} {seq : Nat} {f : StoreEntry → StoreEntry} (hs : Sound s0 s) : Sound s0 (State.updEntry s seq f) := by
  unfold State.updEntry
  repeat' first
      | (with_reducible first | assumption | intro _ | apply State.setStore_sound)
      | simp only [Sound.mk_iff, TileOk.mk_iff, EvrOk.mk_iff, QenOk.mk_iff]
      | split

theorem State.freeFences_sound {s : State} {seq : Nat} (hs : Sound s0 s) : Sound s0 (State.freeFences s seq) := by
  unfold State.freeFences
  repeat' first
      | (with_reducible first | assumption | intro _ | apply Sound.part | apply Sound.tiles | apply Sound.qen | apply Sound.host | apply Sound.free | apply Sound.pending | apply And.intro)
      | simp only [Sound.mk_iff, TileOk.mk_iff, EvrOk.mk_iff, QenOk.mk_iff]
      | split

theorem State.complete_sound {s : State} {seq status r0 r1 : Nat} (hs : Sound s0 s) : Sound s0 (State.complete s seq status r0 r1) := by
  unfold State.complete
  repeat' first
      | (with_reducible first | assumption | intro _ | apply State.updEntry_sound | apply State.countNotify_sound | apply Sound.ite)
      | simp only [Sound.mk_iff, TileOk.mk_iff, EvrOk.mk_iff, QenOk.mk_iff]
      | split

theorem State.done_sound {s : State} {seq status : Nat} (hs : Sound s0 s) : Sound s0 (State.done s seq status) := by
  unfold State.done
  repeat' first
      | (with_reducible first | assumption | intro _ | apply State.complete_sound)
      | simp only [Sound.mk_iff, TileOk.mk_iff, EvrOk.mk_iff, QenOk.mk_iff]
      | split

theorem State.doneLine_sound {s : State} {seq status n : Nat} (hs : Sound s0 s) : Sound s0 (State.doneLine s seq status n) := by
  unfold State.doneLine
  repeat' first
      | (with_reducible first | assumption | intro _ | apply State.complete_sound)
      | simp only [Sound.mk_iff, TileOk.mk_iff, EvrOk.mk_iff, QenOk.mk_iff]
      | split

theorem State.park_sound {s : State} {seq : Nat} {w : Wait} (hs : Sound s0 s) : Sound s0 (State.park s seq w) := by
  unfold State.park
  repeat' first
      | (with_reducible first | assumption | intro _ | apply State.updEntry_sound)
      | simp only [Sound.mk_iff, TileOk.mk_iff, EvrOk.mk_iff, QenOk.mk_iff]
      | split

theorem State.run_sound {s : State} {seq : Nat} {w : Wait} (hs : Sound s0 s) : Sound s0 (State.run s seq w) := by
  unfold State.run
  repeat' first
      | (with_reducible first | assumption | intro _ | apply State.updEntry_sound)
      | simp only [Sound.mk_iff, TileOk.mk_iff, EvrOk.mk_iff, QenOk.mk_iff]
      | split

theorem State.report_sound {s : State} {p : Packet} {body : List Byte} (hs : Sound s0 s) : Sound s0 (State.report s p body) := by
  unfold State.report
  repeat' first
      | (with_reducible first | assumption | intro _ | apply State.complete_sound | apply State.hostWrite_sound)
      | simp only [Sound.mk_iff, TileOk.mk_iff, EvrOk.mk_iff, QenOk.mk_iff]
      | split

theorem State.reportQ_sound {s : State} {p : Packet} {qs : List (List Int)} (hs : Sound s0 s) : Sound s0 (State.reportQ s p qs) := by
  unfold State.reportQ
  repeat' first
      | (with_reducible first | assumption | intro _ | apply State.report_sound)
      | simp only [Sound.mk_iff, TileOk.mk_iff, EvrOk.mk_iff, QenOk.mk_iff]
      | split

/-! ## Commit -/

theorem State.commitDone_sound {s : State} {cseq : Nat} (hs : Sound s0 s) : Sound s0 (State.commitDone s cseq) := by
  unfold State.commitDone
  repeat' first
      | (with_reducible first | assumption | intro _ | apply State.doneLine_sound | apply Sound.part | apply Sound.tiles | apply Sound.qen | apply Sound.host | apply Sound.free | apply Sound.pending | apply Sound.ite | apply And.intro)
      | simp only [Sound.mk_iff, TileOk.mk_iff, EvrOk.mk_iff, QenOk.mk_iff]
      | split

theorem State.prepareNow_sound {s : State} {c : Change} {fixed : Nat} {seq : Nat} (hs : Sound s0 s) : Sound s0 (State.prepareNow s c fixed seq) := by
  unfold State.prepareNow
  repeat' first
      | (with_reducible first | assumption | intro _ | apply State.commitDone_sound | apply Sound.part | apply Sound.tiles | apply Sound.qen | apply Sound.host | apply Sound.free | apply Sound.pending | apply Sound.ite | apply And.intro)
      | simp only [Sound.mk_iff, TileOk.mk_iff, EvrOk.mk_iff, QenOk.mk_iff]
      | split

theorem State.prepare_sound {s : State} {c : Change} {fixed : Nat} {seq : Nat} (hs : Sound s0 s) : Sound s0 (State.prepare s c fixed seq) := by
  unfold State.prepare
  repeat' first
      | (with_reducible first | assumption | intro _ | apply State.prepareNow_sound | apply Sound.part | apply Sound.tiles | apply Sound.qen | apply Sound.host | apply Sound.free | apply Sound.pending | apply Sound.ite | apply And.intro)
      | simp only [Sound.mk_iff, TileOk.mk_iff, EvrOk.mk_iff, QenOk.mk_iff]
      | split

theorem State.settleChange_sound {s : State} {c : Change} (hs : Sound s0 s) : Sound s0 (State.settleChange s c) := by
  unfold State.settleChange
  repeat' first
      | (with_reducible first | assumption | intro _ | apply Sound.forEach | apply Sound.updTileN | apply Sound.tileN | apply Sound.part | apply Sound.tiles | apply Sound.qen | apply Sound.host | apply Sound.free | apply Sound.pending | apply TileOk.mem | apply TileOk.evr | apply And.intro)
      | simp only [Sound.mk_iff, TileOk.mk_iff, EvrOk.mk_iff, QenOk.mk_iff]
      | split

theorem State.changeFor_sound {s : State} {seq : Nat} {c : Change} (hs : Sound s0 s) : Sound s0 (State.changeFor s seq c) := by
  unfold State.changeFor
  repeat' first
      | (with_reducible first | assumption | intro _ | apply State.settleChange_sound | apply State.prepare_sound | apply State.park_sound | apply State.done_sound | apply Sound.ite)
      | simp only [Sound.mk_iff, TileOk.mk_iff, EvrOk.mk_iff, QenOk.mk_iff]
      | split

theorem State.changeOwn_sound {s : State} {c : Change} (hs : Sound s0 s) : Sound s0 (State.changeOwn s c) := by
  unfold State.changeOwn
  repeat' first
      | (with_reducible first | assumption | intro _ | apply State.settleChange_sound | apply State.prepare_sound | apply Sound.ite)
      | simp only [Sound.mk_iff, TileOk.mk_iff, EvrOk.mk_iff, QenOk.mk_iff]
      | split

theorem State.prepareReceive_sound {s : State} {t : Tile} {cseq : Nat} (hs : Sound s0 s) : Sound s0 (State.prepareReceive s t cseq) := by
  unfold State.prepareReceive
  repeat' first
      | (with_reducible first | assumption | intro _ | apply Sound.updTile | apply Sound.tile | apply Sound.part | apply Sound.tiles | apply Sound.qen | apply Sound.host | apply Sound.free | apply Sound.pending | apply TileOk.mem | apply TileOk.evr | apply Sound.ite | apply And.intro)
      | simp only [Sound.mk_iff, TileOk.mk_iff, EvrOk.mk_iff, QenOk.mk_iff]
      | split

theorem State.ackReceive_sound {s : State} {t : Tile} {cseq : Nat} (hs : Sound s0 s) : Sound s0 (State.ackReceive s t cseq) := by
  unfold State.ackReceive
  repeat' first
      | (with_reducible first | assumption | intro _ | apply State.commitDone_sound | apply Sound.part | apply Sound.tiles | apply Sound.qen | apply Sound.host | apply Sound.free | apply Sound.pending | apply Sound.ite | apply And.intro)
      | simp only [Sound.mk_iff, TileOk.mk_iff, EvrOk.mk_iff, QenOk.mk_iff]
      | split

theorem State.dropAcks_sound {s : State} {t : Nat} (hs : Sound s0 s) : Sound s0 (State.dropAcks s t) := by
  unfold State.dropAcks
  repeat' first
      | (with_reducible first | assumption | intro _ | apply State.commitDone_sound | apply Sound.foldl | apply Sound.part | apply Sound.tiles | apply Sound.qen | apply Sound.host | apply Sound.free | apply Sound.pending | apply Sound.ite | apply And.intro)
      | simp only [Sound.mk_iff, TileOk.mk_iff, EvrOk.mk_iff, QenOk.mk_iff]
      | split

theorem State.reprepare_sound {s : State} {n : Nat} (hs : Sound s0 s) : Sound s0 (State.reprepare s n) := by
  unfold State.reprepare
  repeat' first
      | (with_reducible first | assumption | intro _ | apply Sound.foldl | apply Sound.part | apply Sound.tiles | apply Sound.qen | apply Sound.host | apply Sound.free | apply Sound.pending | apply Sound.ite | apply And.intro)
      | simp only [Sound.mk_iff, TileOk.mk_iff, EvrOk.mk_iff, QenOk.mk_iff]
      | split

theorem State.prepareHeld_sound {s : State} (hs : Sound s0 s) : Sound s0 (State.prepareHeld s) := by
  unfold State.prepareHeld
  repeat' first
      | (with_reducible first | assumption | intro _ | apply State.prepareNow_sound | apply State.updEntry_sound | apply Sound.foldl | apply Sound.part | apply Sound.tiles | apply Sound.qen | apply Sound.host | apply Sound.free | apply Sound.pending | apply And.intro)
      | simp only [Sound.mk_iff, TileOk.mk_iff, EvrOk.mk_iff, QenOk.mk_iff]
      | split

/-! ## Engine -/

theorem noBind_sound {s : State} {u1 : Packet} {u2 : List Byte} (hs : Sound s0 s) : Sound s0 (noBind s u1 u2).2 := by
  unfold noBind
  repeat' first
      | (with_reducible first | assumption | intro _)
      | simp only [Sound.mk_iff, TileOk.mk_iff, EvrOk.mk_iff, QenOk.mk_iff]
      | split

theorem State.denied_sound {s : State} {p : Packet} {status : Nat} (hs : Sound s0 s) : Sound s0 (State.denied s p status) := by
  unfold State.denied
  split
  · exact hs
  · rename_i x hx
    refine Sound.ite (State.raiseLead_sound (State.setSession_sound hs fun h0 => ?_)) hs
    have h := hs.qen.sessions
    rw [State.session, h0] at hx
    rw [SessOk, hx] at h
    exact h

theorem OpDef.proceed_sound {d : OpDef} {s : State} {p : Packet} {data : List Byte} (hd : OpOk s0 d) (hs : Sound s0 s) : Sound s0 (OpDef.proceed d s p data) := by
  unfold OpDef.proceed
  repeat' first
      | (with_reducible first | assumption | intro _ | apply State.denied_sound | apply State.run_sound | apply State.done_sound | apply State.complete_sound | apply State.freeFences_sound | apply OpOk.act | apply OpOk.bind | apply Sound.ite)
      | simp only [Sound.mk_iff, TileOk.mk_iff, EvrOk.mk_iff, QenOk.mk_iff]
      | split

theorem State.place_sound {s : State} {p : Packet} (hs : Sound s0 s) : Sound s0 (State.place s p) := by
  unfold State.place
  repeat' first
      | (with_reducible first | assumption | intro _ | apply State.updEntry_sound | apply State.setStore_sound | apply Sound.part | apply Sound.tiles | apply Sound.qen | apply Sound.host | apply Sound.free | apply Sound.pending | apply QenOk.sessions | apply And.intro)
      | simp only [Sound.mk_iff, TileOk.mk_iff, EvrOk.mk_iff, QenOk.mk_iff]
      | split

theorem OpDef.start_sound {d : OpDef} {s : State} {p : Packet} (hd : OpOk s0 d) (hs : Sound s0 s) : Sound s0 (OpDef.start d s p) := by
  unfold OpDef.start
  repeat' first
      | (with_reducible first | assumption | intro _ | apply OpDef.proceed_sound | apply State.denied_sound | apply State.run_sound | apply State.done_sound | apply State.complete_sound | apply OpOk.hold | apply Sound.ite)
      | simp only [Sound.mk_iff, TileOk.mk_iff, EvrOk.mk_iff, QenOk.mk_iff]
      | split

theorem OpDef.dispatch_sound {d : OpDef} {s : State} {p : Packet} (hd : OpOk s0 d) (hs : Sound s0 s) : Sound s0 (OpDef.dispatch d s p) := by
  unfold OpDef.dispatch
  repeat' first
      | (with_reducible first | assumption | intro _ | apply OpDef.start_sound | apply State.place_sound | apply Sound.ite)
      | simp only [Sound.mk_iff, TileOk.mk_iff, EvrOk.mk_iff, QenOk.mk_iff]
      | split

theorem OpDef.hostData_sound {d : OpDef} {s : State} {p : Packet} {data : Option (List Byte)} (hd : OpOk s0 d) (hs : Sound s0 s) : Sound s0 (OpDef.hostData d s p data) := by
  unfold OpDef.hostData
  repeat' first
      | (with_reducible first | assumption | intro _ | apply OpDef.proceed_sound | apply State.done_sound | apply State.freeFences_sound | apply State.updPair_sound | apply State.raiseLead_sound)
      | simp only [Sound.mk_iff, TileOk.mk_iff, EvrOk.mk_iff, QenOk.mk_iff]
      | split

/-! ## JobMem -/

theorem State.doneDiffer_sound {s : State} {seq a : Nat} (hs : Sound s0 s) : Sound s0 (State.doneDiffer s seq a) := by
  unfold State.doneDiffer
  repeat' first
      | (with_reducible first | assumption | intro _ | apply State.complete_sound)
      | simp only [Sound.mk_iff, TileOk.mk_iff, EvrOk.mk_iff, QenOk.mk_iff]
      | split

theorem State.liveAdd_sound {s : State} {spans key base len seq : Nat} (hs : Sound s0 s) : Sound s0 (State.liveAdd s spans key base len seq) := by
  unfold State.liveAdd
  repeat' first
      | (with_reducible first | assumption | intro _ | apply Sound.part | apply Sound.tiles | apply Sound.qen | apply Sound.host | apply Sound.free | apply Sound.pending | apply And.intro)
      | simp only [Sound.mk_iff, TileOk.mk_iff, EvrOk.mk_iff, QenOk.mk_iff]
      | split

theorem State.liveDrop_sound {s : State} {seq : Nat} (hs : Sound s0 s) : Sound s0 (State.liveDrop s seq) := by
  unfold State.liveDrop
  repeat' first
      | (with_reducible first | assumption | intro _ | apply Sound.part | apply Sound.tiles | apply Sound.qen | apply Sound.host | apply Sound.free | apply Sound.pending | apply And.intro)
      | simp only [Sound.mk_iff, TileOk.mk_iff, EvrOk.mk_iff, QenOk.mk_iff]
      | split

theorem State.tileWrite_sound {s : State} {t a : Nat} {bs : List Byte} (hs : Sound s0 s) : Sound s0 (State.tileWrite s t a bs) := by
  unfold State.tileWrite
  repeat' first
      | (with_reducible first | assumption | intro _ | apply Sound.updTileN | apply MemOk.write | apply Sound.tileN | apply TileOk.mem | apply TileOk.evr | apply TileOk.ite | apply And.intro)
      | simp only [Sound.mk_iff, TileOk.mk_iff, EvrOk.mk_iff, QenOk.mk_iff]
      | split

theorem State.loadBegin_sound {s : State} {p : Packet} {spans a : Nat} {bs : List Byte} (hs : Sound s0 s) : Sound s0 (State.loadBegin s p spans a bs) := by
  unfold State.loadBegin
  repeat' first
      | (with_reducible first | assumption | intro _ | apply State.tileWrite_sound | apply Sound.foldl | apply Sound.part | apply Sound.tiles | apply Sound.qen | apply Sound.host | apply Sound.free | apply Sound.pending | apply And.intro)
      | simp only [Sound.mk_iff, TileOk.mk_iff, EvrOk.mk_iff, QenOk.mk_iff]
      | split

theorem State.legSet_sound {s : State} {wid k : Nat} {g : Option Leg} (hs : Sound s0 s) : Sound s0 (State.legSet s wid k g) := by
  unfold State.legSet
  repeat' first
      | (with_reducible first | assumption | intro _ | apply Sound.part | apply Sound.tiles | apply Sound.qen | apply Sound.host | apply Sound.free | apply Sound.pending | apply And.intro)
      | simp only [Sound.mk_iff, TileOk.mk_iff, EvrOk.mk_iff, QenOk.mk_iff]
      | split

theorem State.mirrorLoad_sound {s : State} {wid k : Nat} (hs : Sound s0 s) : Sound s0 (State.mirrorLoad s wid k) := by
  unfold State.mirrorLoad
  repeat' first
      | (with_reducible first | assumption | intro _ | apply State.legSet_sound | apply State.tileWrite_sound | apply Sound.ite)
      | simp only [Sound.mk_iff, TileOk.mk_iff, EvrOk.mk_iff, QenOk.mk_iff]
      | split

theorem State.landLoad_sound {s : State} {wid k : Nat} (hs : Sound s0 s) : Sound s0 (State.landLoad s wid k) := by
  unfold State.landLoad
  repeat' first
      | (with_reducible first | assumption | intro _ | apply State.legSet_sound | apply State.tileWrite_sound | apply Sound.ite)
      | simp only [Sound.mk_iff, TileOk.mk_iff, EvrOk.mk_iff, QenOk.mk_iff]
      | split

theorem actMemWrite_sound {s : State} {p : Packet} {bs : List Byte} (hs : Sound s0 s) : Sound s0 (actMemWrite s p bs) := by
  unfold actMemWrite
  repeat' first
      | (with_reducible first | assumption | intro _ | apply State.loadBegin_sound | apply State.done_sound)
      | simp only [Sound.mk_iff, TileOk.mk_iff, EvrOk.mk_iff, QenOk.mk_iff]
      | split

theorem actMemRead_sound {s : State} {p : Packet} {u1 : List Byte} (hs : Sound s0 s) : Sound s0 (actMemRead s p u1) := by
  unfold actMemRead
  repeat' first
      | (with_reducible first | assumption | intro _ | apply State.doneDiffer_sound | apply State.done_sound | apply State.hostWrite_sound | apply Sound.ite)
      | simp only [Sound.mk_iff, TileOk.mk_iff, EvrOk.mk_iff, QenOk.mk_iff]
      | split

theorem actMemCompress_sound {s : State} {p : Packet} {u1 : List Byte} (hs : Sound s0 s) : Sound s0 (actMemCompress s p u1) := by
  unfold actMemCompress
  repeat' first
      | (with_reducible first | assumption | intro _ | apply State.liveAdd_sound | apply Sound.part | apply Sound.tiles | apply Sound.qen | apply Sound.host | apply Sound.free | apply Sound.pending | apply And.intro)
      | simp only [Sound.mk_iff, TileOk.mk_iff, EvrOk.mk_iff, QenOk.mk_iff]
      | split

theorem State.compressEnd_sound {s : State} {seq status r0 r1 : Nat} (hs : Sound s0 s) : Sound s0 (State.compressEnd s seq status r0 r1) := by
  unfold State.compressEnd
  repeat' first
      | (with_reducible first | assumption | intro _ | apply State.liveDrop_sound | apply State.complete_sound | apply Sound.part | apply Sound.tiles | apply Sound.qen | apply Sound.host | apply Sound.free | apply Sound.pending | apply And.intro)
      | simp only [Sound.mk_iff, TileOk.mk_iff, EvrOk.mk_iff, QenOk.mk_iff]
      | split

theorem State.sizingDone_sound {s : State} {p : Packet} (hs : Sound s0 s) : Sound s0 (State.sizingDone s p) := by
  unfold State.sizingDone
  repeat' first
      | (with_reducible first | assumption | intro _ | apply State.compressEnd_sound | apply Sound.part | apply Sound.tiles | apply Sound.qen | apply Sound.host | apply Sound.free | apply Sound.pending | apply Sound.ite | apply And.intro)
      | simp only [Sound.mk_iff, TileOk.mk_iff, EvrOk.mk_iff, QenOk.mk_iff]
      | split

theorem State.writingDone_sound {s : State} {p : Packet} {outs : List (Nat × List Byte)} (hs : Sound s0 s) : Sound s0 (State.writingDone s p outs) := by
  unfold State.writingDone
  repeat' first
      | (with_reducible first | assumption | intro _ | apply State.compressEnd_sound | apply State.tileWrite_sound | apply Sound.foldl)
      | simp only [Sound.mk_iff, TileOk.mk_iff, EvrOk.mk_iff, QenOk.mk_iff]
      | split

theorem State.compressPass_sound {s : State} {seq : Nat} (hs : Sound s0 s) : Sound s0 (State.compressPass s seq) := by
  unfold State.compressPass
  repeat' first
      | (with_reducible first | assumption | intro _ | apply State.writingDone_sound | apply State.sizingDone_sound | apply Sound.ite)
      | simp only [Sound.mk_iff, TileOk.mk_iff, EvrOk.mk_iff, QenOk.mk_iff]
      | split

theorem actMemVerify_sound {s : State} {p : Packet} {u1 : List Byte} (hs : Sound s0 s) : Sound s0 (actMemVerify s p u1) := by
  unfold actMemVerify
  repeat' first
      | (with_reducible first | assumption | intro _ | apply State.done_sound | apply State.complete_sound | apply State.raiseN_sound | apply Sound.foldl)
      | simp only [Sound.mk_iff, TileOk.mk_iff, EvrOk.mk_iff, QenOk.mk_iff]
      | split

theorem State.withBlock_sound {s : State} {seq spans a n : Nat} {f : State → List Byte → State} (hs : Sound s0 s) (hf : ∀ s b, Sound s0 s → Sound s0 (f s b)) : Sound s0 (State.withBlock s seq spans a n f) := by
  unfold State.withBlock
  repeat' first
      | (with_reducible first | assumption | intro _ | apply State.doneDiffer_sound | apply hf)
      | simp only [Sound.mk_iff, TileOk.mk_iff, EvrOk.mk_iff, QenOk.mk_iff]
      | split

theorem State.onDie_sound {s : State} {d : Nat} {f : Die → Die} (hs : Sound s0 s) : Sound s0 (State.onDie s d f) := by
  unfold State.onDie
  repeat' first
      | (with_reducible first | assumption | intro _ | apply Sound.forEach | apply Sound.updTileN | apply Sound.tileN | apply TileOk.mem | apply TileOk.evr | apply And.intro)
      | simp only [Sound.mk_iff, TileOk.mk_iff, EvrOk.mk_iff, QenOk.mk_iff]
      | split

theorem opMemWrite_ok : OpOk s0 opMemWrite := by
  refine ⟨fun s p bs h => ?_, fun s p bs h => ?_, fun s p h => ?_⟩ <;> simp only [opMemWrite]
  all_goals repeat' first
    | (with_reducible first | assumption | intro _ | apply actMemWrite_sound | apply noBind_sound | apply And.intro)
    | simp only [Sound.mk_iff, TileOk.mk_iff, EvrOk.mk_iff, QenOk.mk_iff]
    | split

theorem opMemRead_ok : OpOk s0 opMemRead := by
  refine ⟨fun s p bs h => ?_, fun s p bs h => ?_, fun s p h => ?_⟩ <;> simp only [opMemRead]
  all_goals repeat' first
    | (with_reducible first | assumption | intro _ | apply actMemRead_sound | apply noBind_sound | apply And.intro)
    | simp only [Sound.mk_iff, TileOk.mk_iff, EvrOk.mk_iff, QenOk.mk_iff]
    | split

theorem opMemFence_ok : OpOk s0 opMemFence := by
  refine ⟨fun s p bs h => ?_, fun s p bs h => ?_, fun s p h => ?_⟩ <;> simp only [opMemFence]
  all_goals repeat' first
    | (with_reducible first | assumption | intro _ | apply noBind_sound | apply State.done_sound | apply And.intro)
    | simp only [Sound.mk_iff, TileOk.mk_iff, EvrOk.mk_iff, QenOk.mk_iff]
    | split

theorem opMemCompress_ok : OpOk s0 opMemCompress := by
  refine ⟨fun s p bs h => ?_, fun s p bs h => ?_, fun s p h => ?_⟩ <;> simp only [opMemCompress]
  all_goals repeat' first
    | (with_reducible first | assumption | intro _ | apply actMemCompress_sound | apply noBind_sound | apply And.intro)
    | simp only [Sound.mk_iff, TileOk.mk_iff, EvrOk.mk_iff, QenOk.mk_iff]
    | split

theorem opMemVerify_ok : OpOk s0 opMemVerify := by
  refine ⟨fun s p bs h => ?_, fun s p bs h => ?_, fun s p h => ?_⟩ <;> simp only [opMemVerify]
  all_goals repeat' first
    | (with_reducible first | assumption | intro _ | apply actMemVerify_sound | apply noBind_sound | apply And.intro)
    | simp only [Sound.mk_iff, TileOk.mk_iff, EvrOk.mk_iff, QenOk.mk_iff]
    | split

theorem opMemInfo_ok : OpOk s0 opMemInfo := by
  refine ⟨fun s p bs h => ?_, fun s p bs h => ?_, fun s p h => ?_⟩ <;> simp only [opMemInfo]
  all_goals repeat' first
    | (with_reducible first | assumption | intro _ | apply noBind_sound | apply State.done_sound | apply State.hostWrite_sound | apply And.intro)
    | simp only [Sound.mk_iff, TileOk.mk_iff, EvrOk.mk_iff, QenOk.mk_iff]
    | split

/-! ## Product -/

theorem State.stopSource_sound {s : State} {b : Nat} (hs : Sound s0 s) : Sound s0 (State.stopSource s b) := by
  unfold State.stopSource
  repeat' first
      | (with_reducible first | assumption | intro _ | apply State.raiseMot_sound | apply Sound.part | apply Sound.tiles | apply Sound.qen | apply Sound.host | apply Sound.free | apply Sound.pending | apply Sound.ite | apply And.intro)
      | simp only [Sound.mk_iff, TileOk.mk_iff, EvrOk.mk_iff, QenOk.mk_iff]
      | split

theorem State.asOf_sound {s : State} {n : Nat} (hs : Sound s0 s) : Sound s0 (State.asOf s n) := by
  unfold State.asOf
  repeat' first
      | (with_reducible first | assumption | intro _ | apply Sound.part | apply Sound.tiles | apply Sound.qen | apply Sound.host | apply Sound.free | apply Sound.pending | apply And.intro)
      | simp only [Sound.mk_iff, TileOk.mk_iff, EvrOk.mk_iff, QenOk.mk_iff]
      | split

theorem State.updProduct_sound {s : State} {lane num : Nat} {f : Product → Product} (hs : Sound s0 s) : Sound s0 (State.updProduct s lane num f) := by
  unfold State.updProduct
  repeat' first
      | (with_reducible first | assumption | intro _ | apply Sound.part | apply Sound.tiles | apply Sound.qen | apply Sound.host | apply Sound.free | apply Sound.pending | apply And.intro)
      | simp only [Sound.mk_iff, TileOk.mk_iff, EvrOk.mk_iff, QenOk.mk_iff]
      | split

theorem State.updLane_sound {s : State} {j : Nat} {f : Lane → Lane} (hs : Sound s0 s) : Sound s0 (State.updLane s j f) := by
  unfold State.updLane
  repeat' first
      | (with_reducible first | assumption | intro _ | apply Sound.part | apply Sound.tiles | apply Sound.qen | apply Sound.host | apply Sound.free | apply Sound.pending | apply And.intro)
      | simp only [Sound.mk_iff, TileOk.mk_iff, EvrOk.mk_iff, QenOk.mk_iff]
      | split

theorem State.rejQueue_sound {s : State} {n lane num line : Nat} (hs : Sound s0 s) : Sound s0 (State.rejQueue s n lane num line) := by
  unfold State.rejQueue
  repeat' first
      | (with_reducible first | assumption | intro _ | apply State.stopSource_sound | apply State.raiseMot_sound | apply Sound.part | apply Sound.tiles | apply Sound.qen | apply Sound.host | apply Sound.free | apply Sound.pending | apply Sound.ite | apply And.intro)
      | simp only [Sound.mk_iff, TileOk.mk_iff, EvrOk.mk_iff, QenOk.mk_iff]
      | split

theorem State.reject_sound {s : State} {lane num : Nat} (hs : Sound s0 s) : Sound s0 (State.reject s lane num) := by
  unfold State.reject
  repeat' first
      | (with_reducible first | assumption | intro _ | apply State.rejQueue_sound | apply State.updProduct_sound | apply Sound.foldl | apply Sound.ite)
      | simp only [Sound.mk_iff, TileOk.mk_iff, EvrOk.mk_iff, QenOk.mk_iff]
      | split

theorem State.rejectIf_sound {s : State} {f : Product → Bool} (hs : Sound s0 s) : Sound s0 (State.rejectIf s f) := by
  unfold State.rejectIf
  repeat' first
      | (with_reducible first | assumption | intro _ | apply State.reject_sound | apply Sound.foldl)
      | simp only [Sound.mk_iff, TileOk.mk_iff, EvrOk.mk_iff, QenOk.mk_iff]
      | split

theorem State.rejectFlight_sound {s : State} (hs : Sound s0 s) : Sound s0 (State.rejectFlight s) := by
  unfold State.rejectFlight
  repeat' first
      | (with_reducible first | assumption | intro _ | apply State.rejectIf_sound)
      | simp only [Sound.mk_iff, TileOk.mk_iff, EvrOk.mk_iff, QenOk.mk_iff]
      | split

theorem State.commitTarget_sound {s : State} {lane : Nat} {p : Product} {c : LaneChange} (hs : Sound s0 s) : Sound s0 (State.commitTarget s lane p c) := by
  unfold State.commitTarget
  repeat' first
      | (with_reducible first | assumption | intro _ | apply State.updLane_sound | apply State.prepare_sound | apply State.park_sound | apply Sound.ite)
      | simp only [Sound.mk_iff, TileOk.mk_iff, EvrOk.mk_iff, QenOk.mk_iff]
      | split

theorem State.awaitProduct_sound {s : State} {lane : Nat} {c : LaneChange} (hs : Sound s0 s) : Sound s0 (State.awaitProduct s lane c) := by
  unfold State.awaitProduct
  repeat' first
      | (with_reducible first | assumption | intro _ | apply State.updLane_sound | apply State.park_sound)
      | simp only [Sound.mk_iff, TileOk.mk_iff, EvrOk.mk_iff, QenOk.mk_iff]
      | split

theorem State.takeFence_sound {s : State} {p : Packet} (hs : Sound s0 s) : Sound s0 (State.takeFence s p) := by
  unfold State.takeFence
  repeat' first
      | (with_reducible first | assumption | intro _ | apply Sound.part | apply Sound.tiles | apply Sound.qen | apply Sound.host | apply Sound.free | apply Sound.pending | apply Sound.ite | apply And.intro)
      | simp only [Sound.mk_iff, TileOk.mk_iff, EvrOk.mk_iff, QenOk.mk_iff]
      | split

theorem State.submit_sound {s : State} {p : Packet} {c : LaneChange} (hs : Sound s0 s) : Sound s0 (State.submit s p c) := by
  unfold State.submit
  repeat' first
      | (with_reducible first | assumption | intro _ | apply State.awaitProduct_sound | apply State.commitTarget_sound | apply State.done_sound | apply State.freeFences_sound | apply Sound.part | apply Sound.tiles | apply Sound.qen | apply Sound.host | apply Sound.free | apply Sound.pending | apply Sound.ite | apply And.intro)
      | simp only [Sound.mk_iff, TileOk.mk_iff, EvrOk.mk_iff, QenOk.mk_iff]
      | split

theorem State.settleNextJob_sound {s : State} {p : Product} (hs : Sound s0 s) : Sound s0 (State.settleNextJob s p) := by
  unfold State.settleNextJob
  repeat' first
      | (with_reducible first | assumption | intro _ | apply State.commitTarget_sound | apply Sound.foldl | apply Sound.part | apply Sound.tiles | apply Sound.qen | apply Sound.host | apply Sound.free | apply Sound.pending | apply And.intro)
      | simp only [Sound.mk_iff, TileOk.mk_iff, EvrOk.mk_iff, QenOk.mk_iff]
      | split

theorem State.settleTargets_sound {s : State} {p : Product} {firstOfJob : Bool} (hs : Sound s0 s) : Sound s0 (State.settleTargets s p firstOfJob) := by
  unfold State.settleTargets
  repeat' first
      | (with_reducible first | assumption | intro _ | apply State.settleNextJob_sound | apply State.commitTarget_sound | apply Sound.foldl | apply Sound.ite)
      | simp only [Sound.mk_iff, TileOk.mk_iff, EvrOk.mk_iff, QenOk.mk_iff]
      | split

theorem State.takeToken_sound {s : State} (hs : Sound s0 s) : Sound s0 (State.takeToken s).2 := by
  unfold State.takeToken
  repeat' first
      | (with_reducible first | assumption | intro _ | apply Sound.part | apply Sound.tiles | apply Sound.qen | apply Sound.host | apply Sound.free | apply Sound.pending | apply Sound.ite2 | apply And.intro)
      | simp only [Sound.mk_iff, TileOk.mk_iff, EvrOk.mk_iff, QenOk.mk_iff]
      | split

theorem State.disarmSettle_sound {s : State} (hs : Sound s0 s) : Sound s0 (State.disarmSettle s) := by
  unfold State.disarmSettle
  repeat' first
      | (with_reducible first | assumption | intro _ | apply State.rejectIf_sound | apply State.raiseLead_sound | apply Sound.part | apply Sound.tiles | apply Sound.qen | apply Sound.host | apply Sound.free | apply Sound.pending | apply Sound.ite | apply And.intro)
      | simp only [Sound.mk_iff, TileOk.mk_iff, EvrOk.mk_iff, QenOk.mk_iff]
      | split

theorem State.passProducts_sound {s : State} {first : Nat} (hs : Sound s0 s) : Sound s0 (State.passProducts s first) := by
  unfold State.passProducts
  repeat' first
      | (with_reducible first | assumption | intro _ | apply State.settleNextJob_sound | apply Sound.foldl | apply Sound.part | apply Sound.tiles | apply Sound.qen | apply Sound.host | apply Sound.free | apply Sound.pending | apply Sound.ite | apply And.intro)
      | simp only [Sound.mk_iff, TileOk.mk_iff, EvrOk.mk_iff, QenOk.mk_iff]
      | split

theorem State.changeJob_sound {s : State} {first : Nat} (hs : Sound s0 s) : Sound s0 (State.changeJob s first) := by
  unfold State.changeJob
  repeat' first
      | (with_reducible first | assumption | intro _ | apply State.passProducts_sound | apply State.prepare_sound | apply State.park_sound | apply State.raiseLead_sound | apply Sound.part | apply Sound.tiles | apply Sound.qen | apply Sound.host | apply Sound.free | apply Sound.pending | apply And.intro)
      | simp only [Sound.mk_iff, TileOk.mk_iff, EvrOk.mk_iff, QenOk.mk_iff]
      | split

theorem State.undoChange_sound {s : State} {seq : Nat} (hs : Sound s0 s) : Sound s0 (State.undoChange s seq) := by
  unfold State.undoChange
  repeat' first
      | (with_reducible first | assumption | intro _ | apply Sound.part | apply Sound.tiles | apply Sound.qen | apply Sound.host | apply Sound.free | apply Sound.pending | apply Sound.ite | apply And.intro)
      | simp only [Sound.mk_iff, TileOk.mk_iff, EvrOk.mk_iff, QenOk.mk_iff]
      | split

theorem State.changeReached_sound {s : State} {n : Nat} {need : State → Nat → Nat} (hs : Sound s0 s) : Sound s0 (State.changeReached s n need) := by
  unfold State.changeReached
  repeat' first
      | (with_reducible first | assumption | intro _ | apply Sound.forEach | apply Sound.updTileN | apply Sound.tileN | apply TileOk.mem | apply TileOk.evr | apply Sound.ite | apply And.intro)
      | simp only [Sound.mk_iff, TileOk.mk_iff, EvrOk.mk_iff, QenOk.mk_iff]
      | split

theorem State.tryBoundary_sound {s : State} {e : Change × Nat} (hs : Sound s0 s) : Sound s0 (State.tryBoundary s e).2 := by
  unfold State.tryBoundary
  repeat' first
      | (with_reducible first | assumption | intro _ | apply State.prepare_sound | apply State.park_sound | apply Sound.ite | apply Sound.ite2)
      | simp only [Sound.mk_iff, TileOk.mk_iff, EvrOk.mk_iff, QenOk.mk_iff]
      | split

theorem State.settleBoundary_sound {s : State} (hs : Sound s0 s) : Sound s0 (State.settleBoundary s) := by
  unfold State.settleBoundary
  repeat' first
      | (with_reducible first | assumption | intro _ | apply State.tryBoundary_sound | apply Sound.foldl | apply Sound.part | apply Sound.tiles | apply Sound.qen | apply Sound.host | apply Sound.free | apply Sound.pending | apply Sound.ite | apply And.intro)
      | simp only [Sound.mk_iff, TileOk.mk_iff, EvrOk.mk_iff, QenOk.mk_iff]
      | split

theorem State.changeBoundary_sound {s : State} {seq : Nat} {c : Change} (hs : Sound s0 s) : Sound s0 (State.changeBoundary s seq c) := by
  unfold State.changeBoundary
  repeat' first
      | (with_reducible first | assumption | intro _ | apply State.settleBoundary_sound | apply State.settleChange_sound | apply State.park_sound | apply State.done_sound | apply Sound.part | apply Sound.tiles | apply Sound.qen | apply Sound.host | apply Sound.free | apply Sound.pending | apply Sound.ite | apply And.intro)
      | simp only [Sound.mk_iff, TileOk.mk_iff, EvrOk.mk_iff, QenOk.mk_iff]
      | split

theorem State.enterLane_sound {s : State} {p : Product} (hs : Sound s0 s) : Sound s0 (State.enterLane s p) := by
  unfold State.enterLane
  repeat' first
      | (with_reducible first | assumption | intro _ | apply State.prepare_sound | apply Sound.foldl | apply Sound.ite)
      | simp only [Sound.mk_iff, TileOk.mk_iff, EvrOk.mk_iff, QenOk.mk_iff]
      | split

theorem State.commitArm_sound {s : State} {j num : Nat} (hs : Sound s0 s) : Sound s0 (State.commitArm s j num) := by
  unfold State.commitArm
  repeat' first
      | (with_reducible first | assumption | intro _ | apply State.prepare_sound | apply Sound.ite)
      | simp only [Sound.mk_iff, TileOk.mk_iff, EvrOk.mk_iff, QenOk.mk_iff]
      | split

theorem State.registerOn_sound {s : State} {j first : Nat} (hs : Sound s0 s) : Sound s0 (State.registerOn s j first) := by
  unfold State.registerOn
  repeat' first
      | (with_reducible first | assumption | intro _ | apply State.commitArm_sound | apply State.enterLane_sound | apply State.settleBoundary_sound | apply State.changeJob_sound | apply State.takeToken_sound | apply State.settleTargets_sound | apply State.reject_sound | apply State.updLane_sound | apply State.updProduct_sound | apply State.raiseMot_sound | apply Sound.part | apply Sound.tiles | apply Sound.qen | apply Sound.host | apply Sound.free | apply Sound.pending | apply Sound.ite | apply And.intro)
      | simp only [Sound.mk_iff, TileOk.mk_iff, EvrOk.mk_iff, QenOk.mk_iff]
      | split

theorem State.pruneProducts_sound {s : State} (hs : Sound s0 s) : Sound s0 (State.pruneProducts s) := by
  unfold State.pruneProducts
  repeat' first
      | (with_reducible first | assumption | intro _ | apply Sound.part | apply Sound.tiles | apply Sound.qen | apply Sound.host | apply Sound.free | apply Sound.pending | apply And.intro)
      | simp only [Sound.mk_iff, TileOk.mk_iff, EvrOk.mk_iff, QenOk.mk_iff]
      | split

end Sys2Proof.Machine
end

