-- ==== Sys2Proof/Laws/SoundPrint.lean ====
section
/-! SUPPORT. Every operation of layers, scenes, the calendar, marks, drops, frames and colour keeps the package sound (Laws/Sound.lean). -/

set_option linter.all false

namespace Sys2Proof.Machine

/-! ## Layer -/

theorem State.addStream_sound {s : State} {spans lane layer : Nat} {proof : Bool} {surf seq : Nat} (hs : Sound s0 s) : Sound s0 (State.addStream s spans lane layer proof surf seq) := by
  unfold State.addStream
  repeat' first
      | (with_reducible first | assumption | intro _ | apply Sound.foldl | apply Sound.updTileN | apply Sound.tileN | apply Sound.part | apply Sound.tiles | apply Sound.qen | apply Sound.host | apply Sound.free | apply Sound.pending | apply TileOk.mem | apply TileOk.evr | apply TileOk.ite | apply And.intro)
      | simp only [Sound.mk_iff, TileOk.mk_iff, EvrOk.mk_iff, QenOk.mk_iff]
      | split

theorem State.pruneLive_sound {s : State} (hs : Sound s0 s) : Sound s0 (State.pruneLive s) := by
  unfold State.pruneLive
  repeat' first
      | (with_reducible first | assumption | intro _ | apply Sound.foldl | apply Sound.updTileN | apply Sound.tileN | apply Sound.part | apply Sound.tiles | apply Sound.qen | apply Sound.host | apply Sound.free | apply Sound.pending | apply TileOk.mem | apply TileOk.evr | apply And.intro)
      | simp only [Sound.mk_iff, TileOk.mk_iff, EvrOk.mk_iff, QenOk.mk_iff]
      | split

theorem State.bindSurface_sound {s : State} {seq spans reach lane : Nat} {proof : Bool} {e : Nat × Nat} (hs : Sound s0 s) : Sound s0 (State.bindSurface s seq spans reach lane proof e) := by
  unfold State.bindSurface
  repeat' first
      | (with_reducible first | assumption | intro _ | apply State.addStream_sound | apply State.liveAdd_sound | apply Sound.foldl)
      | simp only [Sound.mk_iff, TileOk.mk_iff, EvrOk.mk_iff, QenOk.mk_iff]
      | split

theorem State.bindLayers_sound {s : State} {p : Packet} {proof : Bool} {m : PMap} {named surfs kernels : List Nat} (hs : Sound s0 s) : Sound s0 (State.bindLayers s p proof m named surfs kernels).2 := by
  unfold State.bindLayers
  repeat' first
      | (with_reducible first | assumption | intro _ | apply State.bindSurface_sound | apply State.liveAdd_sound | apply Sound.foldl | apply Sound.ite2)
      | simp only [Sound.mk_iff, TileOk.mk_iff, EvrOk.mk_iff, QenOk.mk_iff]
      | split

theorem bindLayerSet_sound {s : State} {p : Packet} {bs : List Byte} (hs : Sound s0 s) : Sound s0 (bindLayerSet s p bs).2 := by
  unfold bindLayerSet
  repeat' first
      | (with_reducible first | assumption | intro _ | apply State.bindLayers_sound | apply Sound.ite2)
      | simp only [Sound.mk_iff, TileOk.mk_iff, EvrOk.mk_iff, QenOk.mk_iff]
      | split

theorem actLayerSet_sound {s : State} {p : Packet} {bs : List Byte} (hs : Sound s0 s) : Sound s0 (actLayerSet s p bs) := by
  unfold actLayerSet
  repeat' first
      | (with_reducible first | assumption | intro _ | apply State.pruneLive_sound | apply State.submit_sound | apply State.done_sound | apply State.complete_sound | apply State.raiseLead_sound | apply Sound.foldl | apply Sound.part | apply Sound.tiles | apply Sound.qen | apply Sound.host | apply Sound.free | apply Sound.pending | apply Sound.ite | apply And.intro)
      | simp only [Sound.mk_iff, TileOk.mk_iff, EvrOk.mk_iff, QenOk.mk_iff]
      | split

theorem bindLayerFlip_sound {s : State} {p : Packet} {bs : List Byte} (hs : Sound s0 s) : Sound s0 (bindLayerFlip s p bs).2 := by
  unfold bindLayerFlip
  repeat' first
      | (with_reducible first | assumption | intro _ | apply State.bindLayers_sound | apply Sound.ite2)
      | simp only [Sound.mk_iff, TileOk.mk_iff, EvrOk.mk_iff, QenOk.mk_iff]
      | split

theorem actLayerFlip_sound {s : State} {p : Packet} {bs : List Byte} (hs : Sound s0 s) : Sound s0 (actLayerFlip s p bs) := by
  unfold actLayerFlip
  repeat' first
      | (with_reducible first | assumption | intro _ | apply State.pruneLive_sound | apply State.submit_sound)
      | simp only [Sound.mk_iff, TileOk.mk_iff, EvrOk.mk_iff, QenOk.mk_iff]
      | split

theorem actLayerSignal_sound {s : State} {p : Packet} {u1 : List Byte} (hs : Sound s0 s) : Sound s0 (actLayerSignal s p u1) := by
  unfold actLayerSignal
  repeat' first
      | (with_reducible first | assumption | intro _ | apply State.doneLine_sound | apply State.done_sound | apply Sound.part | apply Sound.tiles | apply Sound.qen | apply Sound.host | apply Sound.free | apply Sound.pending | apply And.intro)
      | simp only [Sound.mk_iff, TileOk.mk_iff, EvrOk.mk_iff, QenOk.mk_iff]
      | split

theorem State.missLayer_sound {s : State} {j num l : Nat} {prev : PMap} (hs : Sound s0 s) : Sound s0 (State.missLayer s j num l prev) := by
  unfold State.missLayer
  repeat' first
      | (with_reducible first | assumption | intro _ | apply State.reject_sound | apply State.updProduct_sound | apply State.raiseLead_sound | apply Sound.ite)
      | simp only [Sound.mk_iff, TileOk.mk_iff, EvrOk.mk_iff, QenOk.mk_iff]
      | split

theorem State.settleFence_sound {s : State} {j num arm : Nat} {prev : PMap} {c : LaneChange} (hs : Sound s0 s) : Sound s0 (State.settleFence s j num arm prev c) := by
  unfold State.settleFence
  repeat' first
      | (with_reducible first | assumption | intro _ | apply State.missLayer_sound | apply State.updLane_sound | apply State.raiseLead_sound | apply Sound.foldl | apply Sound.part | apply Sound.tiles | apply Sound.qen | apply Sound.host | apply Sound.free | apply Sound.pending | apply Sound.ite | apply And.intro)
      | simp only [Sound.mk_iff, TileOk.mk_iff, EvrOk.mk_iff, QenOk.mk_iff]
      | split

theorem opLayerSet_ok : OpOk s0 opLayerSet := by
  refine ⟨fun s p bs h => ?_, fun s p bs h => ?_, fun s p h => ?_⟩ <;> simp only [opLayerSet]
  all_goals repeat' first
    | (with_reducible first | assumption | intro _ | apply actLayerSet_sound | apply bindLayerSet_sound | apply And.intro)
    | simp only [Sound.mk_iff, TileOk.mk_iff, EvrOk.mk_iff, QenOk.mk_iff]
    | split

theorem opLayerFlip_ok : OpOk s0 opLayerFlip := by
  refine ⟨fun s p bs h => ?_, fun s p bs h => ?_, fun s p h => ?_⟩ <;> simp only [opLayerFlip]
  all_goals repeat' first
    | (with_reducible first | assumption | intro _ | apply actLayerFlip_sound | apply bindLayerFlip_sound | apply State.takeFence_sound | apply And.intro)
    | simp only [Sound.mk_iff, TileOk.mk_iff, EvrOk.mk_iff, QenOk.mk_iff]
    | split

theorem opLayerSignal_ok : OpOk s0 opLayerSignal := by
  refine ⟨fun s p bs h => ?_, fun s p bs h => ?_, fun s p h => ?_⟩ <;> simp only [opLayerSignal]
  all_goals repeat' first
    | (with_reducible first | assumption | intro _ | apply actLayerSignal_sound | apply noBind_sound | apply And.intro)
    | simp only [Sound.mk_iff, TileOk.mk_iff, EvrOk.mk_iff, QenOk.mk_iff]
    | split

theorem opLayerStatus_ok : OpOk s0 opLayerStatus := by
  refine ⟨fun s p bs h => ?_, fun s p bs h => ?_, fun s p h => ?_⟩ <;> simp only [opLayerStatus]
  all_goals repeat' first
    | (with_reducible first | assumption | intro _ | apply noBind_sound | apply State.reportQ_sound | apply And.intro)
    | simp only [Sound.mk_iff, TileOk.mk_iff, EvrOk.mk_iff, QenOk.mk_iff]
    | split

/-! ## Ray -/

theorem State.updLens_sound {s : State} {f : Lens → Lens} (hs : Sound s0 s) : Sound s0 (State.updLens s f) := by
  unfold State.updLens
  repeat' first
      | (with_reducible first | assumption | intro _ | apply Sound.part | apply Sound.tiles | apply Sound.qen | apply Sound.host | apply Sound.free | apply Sound.pending | apply And.intro)
      | simp only [Sound.mk_iff, TileOk.mk_iff, EvrOk.mk_iff, QenOk.mk_iff]
      | split

theorem State.lensIssue_sound {s : State} {n : Nat} (hs : Sound s0 s) : Sound s0 (State.lensIssue s n).2 := by
  unfold State.lensIssue
  repeat' first
      | (with_reducible first | assumption | intro _ | apply State.updLens_sound | apply State.nextFree_sound)
      | simp only [Sound.mk_iff, TileOk.mk_iff, EvrOk.mk_iff, QenOk.mk_iff]
      | split

theorem State.lensReject_sound {s : State} {n : Nat} (hs : Sound s0 s) : Sound s0 (State.lensReject s n) := by
  unfold State.lensReject
  repeat' first
      | (with_reducible first | assumption | intro _ | apply State.rejectIf_sound | apply Sound.ite)
      | simp only [Sound.mk_iff, TileOk.mk_iff, EvrOk.mk_iff, QenOk.mk_iff]
      | split

theorem State.anchorsAt_sound {s : State} {n : Nat} {ms : List LensModel} (hs : Sound s0 s) : Sound s0 (State.anchorsAt s n ms) := by
  unfold State.anchorsAt
  repeat' first
      | (with_reducible first | assumption | intro _ | apply State.updProduct_sound | apply Sound.foldl)
      | simp only [Sound.mk_iff, TileOk.mk_iff, EvrOk.mk_iff, QenOk.mk_iff]
      | split

theorem State.lensLocked_sound {s : State} (hs : Sound s0 s) : Sound s0 (State.lensLocked s) := by
  unfold State.lensLocked
  repeat' first
      | (with_reducible first | assumption | intro _ | apply State.updLens_sound | apply State.raiseMot_sound | apply Sound.ite)
      | simp only [Sound.mk_iff, TileOk.mk_iff, EvrOk.mk_iff, QenOk.mk_iff]
      | split

theorem State.lensUnlocked_sound {s : State} (hs : Sound s0 s) : Sound s0 (State.lensUnlocked s) := by
  unfold State.lensUnlocked
  repeat' first
      | (with_reducible first | assumption | intro _ | apply State.updLens_sound | apply State.raiseMot_sound | apply Sound.ite)
      | simp only [Sound.mk_iff, TileOk.mk_iff, EvrOk.mk_iff, QenOk.mk_iff]
      | split

theorem State.lensLost_sound {s : State} {cause : Nat} (hs : Sound s0 s) : Sound s0 (State.lensLost s cause) := by
  unfold State.lensLost
  repeat' first
      | (with_reducible first | assumption | intro _ | apply State.updLens_sound | apply State.raiseMot_sound | apply Sound.ite)
      | simp only [Sound.mk_iff, TileOk.mk_iff, EvrOk.mk_iff, QenOk.mk_iff]
      | split

theorem State.lensExpired_sound {s : State} (hs : Sound s0 s) : Sound s0 (State.lensExpired s) := by
  unfold State.lensExpired
  repeat' first
      | (with_reducible first | assumption | intro _ | apply State.updLens_sound | apply State.raiseMot_sound | apply Sound.ite)
      | simp only [Sound.mk_iff, TileOk.mk_iff, EvrOk.mk_iff, QenOk.mk_iff]
      | split

theorem State.lensTrackOk_sound {s : State} (hs : Sound s0 s) : Sound s0 (State.lensTrackOk s) := by
  unfold State.lensTrackOk
  repeat' first
      | (with_reducible first | assumption | intro _ | apply State.updLens_sound | apply State.raiseMot_sound)
      | simp only [Sound.mk_iff, TileOk.mk_iff, EvrOk.mk_iff, QenOk.mk_iff]
      | split

theorem State.lensReacquire_sound {s : State} (hs : Sound s0 s) : Sound s0 (State.lensReacquire s) := by
  unfold State.lensReacquire
  repeat' first
      | (with_reducible first | assumption | intro _ | apply State.lensTrackOk_sound | apply State.updLens_sound | apply Sound.ite)
      | simp only [Sound.mk_iff, TileOk.mk_iff, EvrOk.mk_iff, QenOk.mk_iff]
      | split

theorem State.lensAcquired_sound {s : State} (hs : Sound s0 s) : Sound s0 (State.lensAcquired s) := by
  unfold State.lensAcquired
  repeat' first
      | (with_reducible first | assumption | intro _ | apply State.updLens_sound | apply State.raiseMot_sound | apply Sound.ite)
      | simp only [Sound.mk_iff, TileOk.mk_iff, EvrOk.mk_iff, QenOk.mk_iff]
      | split

theorem State.lensIndex_sound {s : State} {i : Nat} (hs : Sound s0 s) : Sound s0 (State.lensIndex s i) := by
  unfold State.lensIndex
  repeat' first
      | (with_reducible first | assumption | intro _ | apply State.lensAcquired_sound | apply State.lensTrackOk_sound | apply State.updLens_sound | apply State.raiseMot_sound | apply Sound.ite)
      | simp only [Sound.mk_iff, TileOk.mk_iff, EvrOk.mk_iff, QenOk.mk_iff]
      | split

theorem State.lensAcqFailed_sound {s : State} (hs : Sound s0 s) : Sound s0 (State.lensAcqFailed s) := by
  unfold State.lensAcqFailed
  repeat' first
      | (with_reducible first | assumption | intro _ | apply State.updLens_sound | apply State.raiseMot_sound | apply Sound.ite)
      | simp only [Sound.mk_iff, TileOk.mk_iff, EvrOk.mk_iff, QenOk.mk_iff]
      | split

theorem bindRayWith_sound {fresh : Bool} {s : State} {p : Packet} (hs : Sound s0 s) : Sound s0 (bindRayWith fresh s p).2 := by
  unfold bindRayWith
  repeat' first
      | (with_reducible first | assumption | intro _ | apply State.bindSurface_sound | apply Sound.ite2)
      | simp only [Sound.mk_iff, TileOk.mk_iff, EvrOk.mk_iff, QenOk.mk_iff]
      | split

theorem bindRayBind_sound {s : State} {p : Packet} {u1 : List Byte} (hs : Sound s0 s) : Sound s0 (bindRayBind s p u1).2 := by
  unfold bindRayBind
  repeat' first
      | (with_reducible first | assumption | intro _ | apply bindRayWith_sound)
      | simp only [Sound.mk_iff, TileOk.mk_iff, EvrOk.mk_iff, QenOk.mk_iff]
      | split

theorem actRayViewmap_sound {s : State} {p : Packet} {u1 : List Byte} (hs : Sound s0 s) : Sound s0 (actRayViewmap s p u1) := by
  unfold actRayViewmap
  repeat' first
      | (with_reducible first | assumption | intro _ | apply State.onDie_sound | apply State.withBlock_sound | apply State.done_sound | apply Sound.ite)
      | simp only [Sound.mk_iff, TileOk.mk_iff, EvrOk.mk_iff, QenOk.mk_iff]
      | split

theorem actRayPanel_sound {s : State} {p : Packet} {u1 : List Byte} (hs : Sound s0 s) : Sound s0 (actRayPanel s p u1) := by
  unfold actRayPanel
  repeat' first
      | (with_reducible first | assumption | intro _ | apply State.done_sound | apply State.putItem_sound | apply Sound.foldl | apply Sound.part | apply Sound.tiles | apply Sound.qen | apply Sound.host | apply Sound.free | apply Sound.pending | apply Sound.ite | apply And.intro)
      | simp only [Sound.mk_iff, TileOk.mk_iff, EvrOk.mk_iff, QenOk.mk_iff]
      | split

theorem opRayBind_ok : OpOk s0 opRayBind := by
  refine ⟨fun s p bs h => ?_, fun s p bs h => ?_, fun s p h => ?_⟩ <;> simp only [opRayBind]
  all_goals repeat' first
    | (with_reducible first | assumption | intro _ | apply bindRayBind_sound | apply State.pruneLive_sound | apply State.submit_sound | apply State.takeFence_sound | apply And.intro)
    | simp only [Sound.mk_iff, TileOk.mk_iff, EvrOk.mk_iff, QenOk.mk_iff]
    | split

theorem opRayLens_ok : OpOk s0 opRayLens := by
  refine ⟨fun s p bs h => ?_, fun s p bs h => ?_, fun s p h => ?_⟩ <;> simp only [opRayLens]
  all_goals repeat' first
    | (with_reducible first | assumption | intro _ | apply noBind_sound | apply State.changeFor_sound | apply And.intro)
    | simp only [Sound.mk_iff, TileOk.mk_iff, EvrOk.mk_iff, QenOk.mk_iff]
    | split

theorem opRayAcquire_ok : OpOk s0 opRayAcquire := by
  refine ⟨fun s p bs h => ?_, fun s p bs h => ?_, fun s p h => ?_⟩ <;> simp only [opRayAcquire]
  all_goals repeat' first
    | (with_reducible first | assumption | intro _ | apply noBind_sound | apply State.changeFor_sound | apply And.intro)
    | simp only [Sound.mk_iff, TileOk.mk_iff, EvrOk.mk_iff, QenOk.mk_iff]
    | split

theorem opRayViewmap_ok : OpOk s0 opRayViewmap := by
  refine ⟨fun s p bs h => ?_, fun s p bs h => ?_, fun s p h => ?_⟩ <;> simp only [opRayViewmap]
  all_goals repeat' first
    | (with_reducible first | assumption | intro _ | apply actRayViewmap_sound | apply noBind_sound | apply And.intro)
    | simp only [Sound.mk_iff, TileOk.mk_iff, EvrOk.mk_iff, QenOk.mk_iff]
    | split

theorem opRayStatus_ok : OpOk s0 opRayStatus := by
  refine ⟨fun s p bs h => ?_, fun s p bs h => ?_, fun s p h => ?_⟩ <;> simp only [opRayStatus]
  all_goals repeat' first
    | (with_reducible first | assumption | intro _ | apply noBind_sound | apply State.reportQ_sound | apply And.intro)
    | simp only [Sound.mk_iff, TileOk.mk_iff, EvrOk.mk_iff, QenOk.mk_iff]
    | split

theorem opRayPanel_ok : OpOk s0 opRayPanel := by
  refine ⟨fun s p bs h => ?_, fun s p bs h => ?_, fun s p h => ?_⟩ <;> simp only [opRayPanel]
  all_goals repeat' first
    | (with_reducible first | assumption | intro _ | apply actRayPanel_sound | apply noBind_sound | apply And.intro)
    | simp only [Sound.mk_iff, TileOk.mk_iff, EvrOk.mk_iff, QenOk.mk_iff]
    | split

/-! ## Calendar -/

theorem State.updCal_sound {s : State} {k : Nat} {f : Cal → Cal} (hs : Sound s0 s) : Sound s0 (State.updCal s k f) := by
  unfold State.updCal
  repeat' first
      | (with_reducible first | assumption | intro _ | apply Sound.part | apply Sound.tiles | apply Sound.qen | apply Sound.host | apply Sound.free | apply Sound.pending | apply And.intro)
      | simp only [Sound.mk_iff, TileOk.mk_iff, EvrOk.mk_iff, QenOk.mk_iff]
      | split

theorem State.updMarks_sound {s : State} {f : Marks → Marks} (hs : Sound s0 s) : Sound s0 (State.updMarks s f) := by
  unfold State.updMarks
  repeat' first
      | (with_reducible first | assumption | intro _ | apply Sound.part | apply Sound.tiles | apply Sound.qen | apply Sound.host | apply Sound.free | apply Sound.pending | apply And.intro)
      | simp only [Sound.mk_iff, TileOk.mk_iff, EvrOk.mk_iff, QenOk.mk_iff]
      | split

theorem State.calSettle_sound {s : State} {k : Nat} (hs : Sound s0 s) : Sound s0 (State.calSettle s k) := by
  unfold State.calSettle
  repeat' first
      | (with_reducible first | assumption | intro _ | apply State.updCal_sound)
      | simp only [Sound.mk_iff, TileOk.mk_iff, EvrOk.mk_iff, QenOk.mk_iff]
      | split

theorem State.calReplace_sound {s : State} {step : Option Int} {slew : Option Slew} (hs : Sound s0 s) : Sound s0 (State.calReplace s step slew) := by
  unfold State.calReplace
  repeat' first
      | (with_reducible first | assumption | intro _ | apply State.updCal_sound)
      | simp only [Sound.mk_iff, TileOk.mk_iff, EvrOk.mk_iff, QenOk.mk_iff]
      | split

theorem State.calCorrect_sound {s : State} {d : Int} {wyrel force : Bool} (hs : Sound s0 s) : Sound s0 (State.calCorrect s d wyrel force) := by
  unfold State.calCorrect
  repeat' first
      | (with_reducible first | assumption | intro _ | apply State.calReplace_sound | apply State.raiseLead_sound)
      | simp only [Sound.mk_iff, TileOk.mk_iff, EvrOk.mk_iff, QenOk.mk_iff]
      | split

theorem State.calSettings_sound {s : State} (hs : Sound s0 s) : Sound s0 (State.calSettings s) := by
  unfold State.calSettings
  repeat' first
      | (with_reducible first | assumption | intro _ | apply State.updMarks_sound | apply State.updCal_sound | apply Sound.foldl)
      | simp only [Sound.mk_iff, TileOk.mk_iff, EvrOk.mk_iff, QenOk.mk_iff]
      | split

theorem State.rollover_sound {s : State} (hs : Sound s0 s) : Sound s0 (State.rollover s) := by
  unfold State.rollover
  repeat' first
      | (with_reducible first | assumption | intro _ | apply State.updMarks_sound | apply State.updCal_sound | apply State.raiseLead_sound)
      | simp only [Sound.mk_iff, TileOk.mk_iff, EvrOk.mk_iff, QenOk.mk_iff]
      | split

theorem State.calMirror_sound {s : State} (hs : Sound s0 s) : Sound s0 (State.calMirror s) := by
  unfold State.calMirror
  repeat' first
      | (with_reducible first | assumption | intro _ | apply State.updCal_sound | apply Sound.ite)
      | simp only [Sound.mk_iff, TileOk.mk_iff, EvrOk.mk_iff, QenOk.mk_iff]
      | split

theorem State.calLocal_sound {s : State} (hs : Sound s0 s) : Sound s0 (State.calLocal s) := by
  unfold State.calLocal
  repeat' first
      | (with_reducible first | assumption | intro _ | apply State.updMarks_sound | apply State.raiseLead_sound | apply Sound.ite)
      | simp only [Sound.mk_iff, TileOk.mk_iff, EvrOk.mk_iff, QenOk.mk_iff]
      | split

theorem State.calRollover_sound {s : State} (hs : Sound s0 s) : Sound s0 (State.calRollover s) := by
  unfold State.calRollover
  repeat' first
      | (with_reducible first | assumption | intro _ | apply State.calLocal_sound | apply State.calMirror_sound | apply State.rollover_sound | apply State.calSettings_sound)
      | simp only [Sound.mk_iff, TileOk.mk_iff, EvrOk.mk_iff, QenOk.mk_iff]
      | split

theorem State.calInvalidate_sound {s : State} {k : Nat} (hs : Sound s0 s) : Sound s0 (State.calInvalidate s k) := by
  unfold State.calInvalidate
  repeat' first
      | (with_reducible first | assumption | intro _ | apply State.updMarks_sound | apply State.updCal_sound | apply State.raiseLead_sound | apply Sound.ite)
      | simp only [Sound.mk_iff, TileOk.mk_iff, EvrOk.mk_iff, QenOk.mk_iff]
      | split

theorem State.calLost_sound {s : State} (hs : Sound s0 s) : Sound s0 (State.calLost s) := by
  unfold State.calLost
  repeat' first
      | (with_reducible first | assumption | intro _ | apply State.updMarks_sound | apply State.updCal_sound | apply State.raiseLead_sound | apply Sound.ite)
      | simp only [Sound.mk_iff, TileOk.mk_iff, EvrOk.mk_iff, QenOk.mk_iff]
      | split

theorem State.calSlewed_sound {s : State} (hs : Sound s0 s) : Sound s0 (State.calSlewed s) := by
  unfold State.calSlewed
  repeat' first
      | (with_reducible first | assumption | intro _ | apply State.updCal_sound | apply State.raiseLead_sound | apply Sound.ite)
      | simp only [Sound.mk_iff, TileOk.mk_iff, EvrOk.mk_iff, QenOk.mk_iff]
      | split

theorem actMarkClock_sound {s : State} {p : Packet} {u1 : List Byte} (hs : Sound s0 s) : Sound s0 (actMarkClock s p u1) := by
  unfold actMarkClock
  repeat' first
      | (with_reducible first | assumption | intro _ | apply State.calCorrect_sound | apply State.updCal_sound | apply State.done_sound | apply State.hostWrite_sound | apply Sound.ite)
      | simp only [Sound.mk_iff, TileOk.mk_iff, EvrOk.mk_iff, QenOk.mk_iff]
      | split

theorem opMarkClock_ok : OpOk s0 opMarkClock := by
  refine ⟨fun s p bs h => ?_, fun s p bs h => ?_, fun s p h => ?_⟩ <;> simp only [opMarkClock]
  all_goals repeat' first
    | (with_reducible first | assumption | intro _ | apply actMarkClock_sound | apply noBind_sound | apply And.intro)
    | simp only [Sound.mk_iff, TileOk.mk_iff, EvrOk.mk_iff, QenOk.mk_iff]
    | split

/-! ## Marks -/

theorem State.useCounter_sound {s : State} {p : Product} {day : Nat} {shift : List Nat} {c : Nat} (hs : Sound s0 s) : Sound s0 (State.useCounter s p day shift c).2 := by
  unfold State.useCounter
  repeat' first
      | (with_reducible first | assumption | intro _ | apply State.updMarks_sound | apply State.raiseLead_sound | apply Sound.foldl)
      | simp only [Sound.mk_iff, TileOk.mk_iff, EvrOk.mk_iff, QenOk.mk_iff]
      | split

theorem State.applyMark_sound {s : State} {j : Nat} {c : LaneChange} (hs : Sound s0 s) : Sound s0 (State.applyMark s j c) := by
  unfold State.applyMark
  repeat' first
      | (with_reducible first | assumption | intro _ | apply State.updMarks_sound | apply Sound.part | apply Sound.tiles | apply Sound.qen | apply Sound.host | apply Sound.free | apply Sound.pending | apply And.intro)
      | simp only [Sound.mk_iff, TileOk.mk_iff, EvrOk.mk_iff, QenOk.mk_iff]
      | split

theorem State.evaluate_sound {s : State} {p : Product} {m : PMap} {arm : Nat} (hs : Sound s0 s) : Sound s0 (State.evaluate s p m arm) := by
  unfold State.evaluate
  repeat' first
      | (with_reducible first | assumption | intro _ | apply State.useCounter_sound | apply State.updMarks_sound | apply State.reject_sound | apply State.updLane_sound | apply State.updProduct_sound | apply State.raiseLead_sound | apply State.nextFree_sound | apply Sound.foldl2 | apply Sound.ite)
      | simp only [Sound.mk_iff, TileOk.mk_iff, EvrOk.mk_iff, QenOk.mk_iff]
      | split

theorem State.clipFields_sound {s : State} {lane num : Nat} (hs : Sound s0 s) : Sound s0 (State.clipFields s lane num) := by
  unfold State.clipFields
  repeat' first
      | (with_reducible first | assumption | intro _ | apply State.updProduct_sound | apply State.raiseLead_sound | apply Sound.foldl)
      | simp only [Sound.mk_iff, TileOk.mk_iff, EvrOk.mk_iff, QenOk.mk_iff]
      | split

theorem bindCheck_sound {f : State → Packet → List Byte → Nat} {s : State} {p : Packet} {bs : List Byte} (hs : Sound s0 s) : Sound s0 (bindCheck f s p bs).2 := by
  unfold bindCheck
  repeat' first
      | (with_reducible first | assumption | intro _)
      | simp only [Sound.mk_iff, TileOk.mk_iff, EvrOk.mk_iff, QenOk.mk_iff]
      | split

theorem actMarkGlyphs_sound {s : State} {p : Packet} {u1 : List Byte} (hs : Sound s0 s) : Sound s0 (actMarkGlyphs s p u1) := by
  unfold actMarkGlyphs
  repeat' first
      | (with_reducible first | assumption | intro _ | apply State.onDie_sound | apply State.withBlock_sound | apply State.done_sound | apply Sound.part | apply Sound.tiles | apply Sound.qen | apply Sound.host | apply Sound.free | apply Sound.pending | apply Sound.ite | apply And.intro)
      | simp only [Sound.mk_iff, TileOk.mk_iff, EvrOk.mk_iff, QenOk.mk_iff]
      | split

theorem State.swapGlyphs_sound {s : State} (hs : Sound s0 s) : Sound s0 (State.swapGlyphs s) := by
  unfold State.swapGlyphs
  repeat' first
      | (with_reducible first | assumption | intro _ | apply Sound.part | apply Sound.tiles | apply Sound.qen | apply Sound.host | apply Sound.free | apply Sound.pending | apply Sound.ite | apply And.intro)
      | simp only [Sound.mk_iff, TileOk.mk_iff, EvrOk.mk_iff, QenOk.mk_iff]
      | split

theorem opMarkRules_ok : OpOk s0 opMarkRules := by
  refine ⟨fun s p bs h => ?_, fun s p bs h => ?_, fun s p h => ?_⟩ <;> simp only [opMarkRules]
  all_goals repeat' first
    | (with_reducible first | assumption | intro _ | apply bindCheck_sound | apply State.submit_sound | apply And.intro)
    | simp only [Sound.mk_iff, TileOk.mk_iff, EvrOk.mk_iff, QenOk.mk_iff]
    | split

theorem opMarkShifts_ok : OpOk s0 opMarkShifts := by
  refine ⟨fun s p bs h => ?_, fun s p bs h => ?_, fun s p h => ?_⟩ <;> simp only [opMarkShifts]
  all_goals repeat' first
    | (with_reducible first | assumption | intro _ | apply bindCheck_sound | apply State.submit_sound | apply And.intro)
    | simp only [Sound.mk_iff, TileOk.mk_iff, EvrOk.mk_iff, QenOk.mk_iff]
    | split

theorem opMarkLot_ok : OpOk s0 opMarkLot := by
  refine ⟨fun s p bs h => ?_, fun s p bs h => ?_, fun s p h => ?_⟩ <;> simp only [opMarkLot]
  all_goals repeat' first
    | (with_reducible first | assumption | intro _ | apply bindCheck_sound | apply State.submit_sound | apply And.intro)
    | simp only [Sound.mk_iff, TileOk.mk_iff, EvrOk.mk_iff, QenOk.mk_iff]
    | split

theorem opMarkNames_ok : OpOk s0 opMarkNames := by
  refine ⟨fun s p bs h => ?_, fun s p bs h => ?_, fun s p h => ?_⟩ <;> simp only [opMarkNames]
  all_goals repeat' first
    | (with_reducible first | assumption | intro _ | apply bindCheck_sound | apply State.submit_sound | apply And.intro)
    | simp only [Sound.mk_iff, TileOk.mk_iff, EvrOk.mk_iff, QenOk.mk_iff]
    | split

theorem opMarkField_ok : OpOk s0 opMarkField := by
  refine ⟨fun s p bs h => ?_, fun s p bs h => ?_, fun s p h => ?_⟩ <;> simp only [opMarkField]
  all_goals repeat' first
    | (with_reducible first | assumption | intro _ | apply bindCheck_sound | apply State.submit_sound | apply And.intro)
    | simp only [Sound.mk_iff, TileOk.mk_iff, EvrOk.mk_iff, QenOk.mk_iff]
    | split

theorem opMarkCounter_ok : OpOk s0 opMarkCounter := by
  refine ⟨fun s p bs h => ?_, fun s p bs h => ?_, fun s p h => ?_⟩ <;> simp only [opMarkCounter]
  all_goals repeat' first
    | (with_reducible first | assumption | intro _ | apply State.submit_sound | apply noBind_sound | apply And.intro)
    | simp only [Sound.mk_iff, TileOk.mk_iff, EvrOk.mk_iff, QenOk.mk_iff]
    | split

theorem opMarkGlyphs_ok : OpOk s0 opMarkGlyphs := by
  refine ⟨fun s p bs h => ?_, fun s p bs h => ?_, fun s p h => ?_⟩ <;> simp only [opMarkGlyphs]
  all_goals repeat' first
    | (with_reducible first | assumption | intro _ | apply actMarkGlyphs_sound | apply noBind_sound | apply And.intro)
    | simp only [Sound.mk_iff, TileOk.mk_iff, EvrOk.mk_iff, QenOk.mk_iff]
    | split

theorem opMarkStatus_ok : OpOk s0 opMarkStatus := by
  refine ⟨fun s p bs h => ?_, fun s p bs h => ?_, fun s p h => ?_⟩ <;> simp only [opMarkStatus]
  all_goals repeat' first
    | (with_reducible first | assumption | intro _ | apply noBind_sound | apply State.reportQ_sound | apply And.intro)
    | simp only [Sound.mk_iff, TileOk.mk_iff, EvrOk.mk_iff, QenOk.mk_iff]
    | split

/-! ## Drop -/

theorem State.headTemp_sound {s : State} {c r z : Nat} {temp : Int} (hs : Sound s0 s) : Sound s0 (State.headTemp s c r z temp) := by
  unfold State.headTemp
  repeat' first
      | (with_reducible first | assumption | intro _ | apply State.changeOwn_sound | apply State.raiseLead_sound | apply Sound.ite)
      | simp only [Sound.mk_iff, TileOk.mk_iff, EvrOk.mk_iff, QenOk.mk_iff]
      | split

theorem State.overIssue_sound {s : State} {n : Nat} (hs : Sound s0 s) : Sound s0 (State.overIssue s n) := by
  unfold State.overIssue
  repeat' first
      | (with_reducible first | assumption | intro _ | apply State.stopSource_sound | apply State.raiseMot_sound | apply Sound.foldl | apply Sound.part | apply Sound.tiles | apply Sound.qen | apply Sound.host | apply Sound.free | apply Sound.pending | apply Sound.ite | apply And.intro)
      | simp only [Sound.mk_iff, TileOk.mk_iff, EvrOk.mk_iff, QenOk.mk_iff]
      | split

theorem actDropScreen_sound {s : State} {p : Packet} {u1 : List Byte} (hs : Sound s0 s) : Sound s0 (actDropScreen s p u1) := by
  unfold actDropScreen
  repeat' first
      | (with_reducible first | assumption | intro _ | apply State.onDie_sound | apply State.withBlock_sound | apply State.done_sound | apply Sound.ite)
      | simp only [Sound.mk_iff, TileOk.mk_iff, EvrOk.mk_iff, QenOk.mk_iff]
      | split

theorem actDropNozzles_sound {s : State} {p : Packet} {u1 : List Byte} (hs : Sound s0 s) : Sound s0 (actDropNozzles s p u1) := by
  unfold actDropNozzles
  repeat' first
      | (with_reducible first | assumption | intro _ | apply State.withBlock_sound | apply State.changeFor_sound | apply State.done_sound | apply Sound.ite)
      | simp only [Sound.mk_iff, TileOk.mk_iff, EvrOk.mk_iff, QenOk.mk_iff]
      | split

theorem opDropScreen_ok : OpOk s0 opDropScreen := by
  refine ⟨fun s p bs h => ?_, fun s p bs h => ?_, fun s p h => ?_⟩ <;> simp only [opDropScreen]
  all_goals repeat' first
    | (with_reducible first | assumption | intro _ | apply actDropScreen_sound | apply noBind_sound | apply And.intro)
    | simp only [Sound.mk_iff, TileOk.mk_iff, EvrOk.mk_iff, QenOk.mk_iff]
    | split

theorem opDropSlots_ok : OpOk s0 opDropSlots := by
  refine ⟨fun s p bs h => ?_, fun s p bs h => ?_, fun s p h => ?_⟩ <;> simp only [opDropSlots]
  all_goals repeat' first
    | (with_reducible first | assumption | intro _ | apply noBind_sound | apply State.changeFor_sound | apply And.intro)
    | simp only [Sound.mk_iff, TileOk.mk_iff, EvrOk.mk_iff, QenOk.mk_iff]
    | split

theorem opDropNozzles_ok : OpOk s0 opDropNozzles := by
  refine ⟨fun s p bs h => ?_, fun s p bs h => ?_, fun s p h => ?_⟩ <;> simp only [opDropNozzles]
  all_goals repeat' first
    | (with_reducible first | assumption | intro _ | apply actDropNozzles_sound | apply noBind_sound | apply And.intro)
    | simp only [Sound.mk_iff, TileOk.mk_iff, EvrOk.mk_iff, QenOk.mk_iff]
    | split

theorem opDropStatus_ok : OpOk s0 opDropStatus := by
  refine ⟨fun s p bs h => ?_, fun s p bs h => ?_, fun s p h => ?_⟩ <;> simp only [opDropStatus]
  all_goals repeat' first
    | (with_reducible first | assumption | intro _ | apply noBind_sound | apply State.reportQ_sound | apply And.intro)
    | simp only [Sound.mk_iff, TileOk.mk_iff, EvrOk.mk_iff, QenOk.mk_iff]
    | split

/-! ## Frames -/

theorem TileState.updLane_sound {x : TileState} {l : Nat} {f : LaneHw → LaneHw} (hx : TileOk s0 x) : TileOk s0 (TileState.updLane x l f) := by
  unfold TileState.updLane
  repeat' first
      | (with_reducible first | assumption | intro _ | apply TileOk.mem | apply TileOk.evr | apply And.intro)
      | simp only [Sound.mk_iff, TileOk.mk_iff, EvrOk.mk_iff, QenOk.mk_iff]
      | split

theorem State.updLnk_sound {s : State} {t l : Nat} {f : LaneHw → LaneHw} (hs : Sound s0 s) : Sound s0 (State.updLnk s t l f) := by
  unfold State.updLnk
  repeat' first
      | (with_reducible first | assumption | intro _ | apply TileState.updLane_sound | apply Sound.updTileN | apply Sound.tileN)
      | simp only [Sound.mk_iff, TileOk.mk_iff, EvrOk.mk_iff, QenOk.mk_iff]
      | split

theorem State.transmit_sound {s : State} {f : OutFrame} (hs : Sound s0 s) : Sound s0 (State.transmit s f) := by
  unfold State.transmit
  repeat' first
      | (with_reducible first | assumption | intro _ | apply TileState.updLane_sound | apply Sound.updTileN | apply Sound.tileN | apply TileOk.mem | apply TileOk.evr | apply And.intro)
      | simp only [Sound.mk_iff, TileOk.mk_iff, EvrOk.mk_iff, QenOk.mk_iff]
      | split

theorem State.sendFrame_sound {s : State} {f : OutFrame} (hs : Sound s0 s) : Sound s0 (State.sendFrame s f) := by
  unfold State.sendFrame
  repeat' first
      | (with_reducible first | assumption | intro _ | apply State.transmit_sound | apply State.updLnk_sound | apply Sound.part | apply Sound.tiles | apply Sound.qen | apply Sound.host | apply Sound.free | apply Sound.pending | apply Sound.ite | apply And.intro)
      | simp only [Sound.mk_iff, TileOk.mk_iff, EvrOk.mk_iff, QenOk.mk_iff]
      | split

theorem State.fillLane_sound {s : State} {t l : Nat} (hs : Sound s0 s) : Sound s0 (State.fillLane s t l) := by
  unfold State.fillLane
  repeat' first
      | (with_reducible first | assumption | intro _ | apply TileState.updLane_sound | apply Sound.updTileN | apply Sound.tileN | apply TileOk.mem | apply TileOk.evr | apply Sound.ite | apply And.intro)
      | simp only [Sound.mk_iff, TileOk.mk_iff, EvrOk.mk_iff, QenOk.mk_iff]
      | split

theorem State.drainLane_sound {s : State} {t l : Nat} {waits : Bool} (hs : Sound s0 s) : Sound s0 (State.drainLane s t l waits) := by
  unfold State.drainLane
  repeat' first
      | (with_reducible first | assumption | intro _ | apply State.transmit_sound | apply State.updLnk_sound | apply Sound.ite)
      | simp only [Sound.mk_iff, TileOk.mk_iff, EvrOk.mk_iff, QenOk.mk_iff]
      | split

theorem State.updNode_sound {s : State} {id : Nat} {f : Node → Node} (hs : Sound s0 s) : Sound s0 (State.updNode s id f) := by
  unfold State.updNode
  repeat' first
      | (with_reducible first | assumption | intro _ | apply Sound.part | apply Sound.tiles | apply Sound.qen | apply Sound.host | apply Sound.free | apply Sound.pending | apply And.intro)
      | simp only [Sound.mk_iff, TileOk.mk_iff, EvrOk.mk_iff, QenOk.mk_iff]
      | split

theorem State.sendEvents_sound {s : State} {lanes : List (Nat × Nat)} {node code stamp phase : Nat} {data : List Byte} (hs : Sound s0 s) : Sound s0 (State.sendEvents s lanes node code stamp phase data) := by
  unfold State.sendEvents
  repeat' first
      | (with_reducible first | assumption | intro _ | apply State.sendFrame_sound | apply Sound.foldl | apply Sound.part | apply Sound.tiles | apply Sound.qen | apply Sound.host | apply Sound.free | apply Sound.pending | apply And.intro)
      | simp only [Sound.mk_iff, TileOk.mk_iff, EvrOk.mk_iff, QenOk.mk_iff]
      | split

theorem State.sendEvent_sound {s : State} {node code stamp phase : Nat} {data : List Byte} (hs : Sound s0 s) : Sound s0 (State.sendEvent s node code stamp phase data) := by
  unfold State.sendEvent
  repeat' first
      | (with_reducible first | assumption | intro _ | apply State.sendEvents_sound)
      | simp only [Sound.mk_iff, TileOk.mk_iff, EvrOk.mk_iff, QenOk.mk_iff]
      | split

theorem State.sendEventAll_sound {s : State} {node code stamp phase : Nat} {data : List Byte} (hs : Sound s0 s) : Sound s0 (State.sendEventAll s node code stamp phase data) := by
  unfold State.sendEventAll
  repeat' first
      | (with_reducible first | assumption | intro _ | apply State.sendEvents_sound)
      | simp only [Sound.mk_iff, TileOk.mk_iff, EvrOk.mk_iff, QenOk.mk_iff]
      | split

theorem State.sendCtrl_sound {s : State} {node addr : Nat} {data : List Nat} (hs : Sound s0 s) : Sound s0 (State.sendCtrl s node addr data) := by
  unfold State.sendCtrl
  repeat' first
      | (with_reducible first | assumption | intro _ | apply State.sendFrame_sound | apply Sound.part | apply Sound.tiles | apply Sound.qen | apply Sound.host | apply Sound.free | apply Sound.pending | apply And.intro)
      | simp only [Sound.mk_iff, TileOk.mk_iff, EvrOk.mk_iff, QenOk.mk_iff]
      | split

/-! ## Colour -/

theorem State.updColour_sound {s : State} {f : Colour → Colour} (hs : Sound s0 s) : Sound s0 (State.updColour s f) := by
  unfold State.updColour
  repeat' first
      | (with_reducible first | assumption | intro _ | apply Sound.part | apply Sound.tiles | apply Sound.qen | apply Sound.host | apply Sound.free | apply Sound.pending | apply And.intro)
      | simp only [Sound.mk_iff, TileOk.mk_iff, EvrOk.mk_iff, QenOk.mk_iff]
      | split

theorem State.updCh_sound {s : State} {c : Nat} {f : ColCh → ColCh} (hs : Sound s0 s) : Sound s0 (State.updCh s c f) := by
  unfold State.updCh
  repeat' first
      | (with_reducible first | assumption | intro _ | apply State.updColour_sound)
      | simp only [Sound.mk_iff, TileOk.mk_iff, EvrOk.mk_iff, QenOk.mk_iff]
      | split

theorem State.sendCentres_sound {s : State} (hs : Sound s0 s) : Sound s0 (State.sendCentres s) := by
  have hgo : ∀ n l s, Sound s0 s → Sound s0 (State.sendCentres.go n l s) := by
    intro n
    induction n with
    | zero => intro l s h; exact h
    | succ n ih =>
      intro l s h
      unfold State.sendCentres.go
      exact Sound.ite h (ih _ _ (State.nextFree_sound (State.sendCtrl_sound h)))
  unfold State.sendCentres
  exact Sound.ite hs (hgo _ _ _ hs)

theorem State.bandTrigger_sound {s : State} {p : Product} (hs : Sound s0 s) : Sound s0 (State.bandTrigger s p) := by
  unfold State.bandTrigger
  repeat' first
      | (with_reducible first | assumption | intro _ | apply State.sendCentres_sound | apply State.updColour_sound | apply State.raiseLead_sound | apply Sound.ite)
      | simp only [Sound.mk_iff, TileOk.mk_iff, EvrOk.mk_iff, QenOk.mk_iff]
      | split

theorem State.bandFlag_sound {s : State} {num row zone cause : Nat} (hs : Sound s0 s) : Sound s0 (State.bandFlag s num row zone cause) := by
  unfold State.bandFlag
  repeat' first
      | (with_reducible first | assumption | intro _ | apply State.updColour_sound)
      | simp only [Sound.mk_iff, TileOk.mk_iff, EvrOk.mk_iff, QenOk.mk_iff]
      | split

theorem State.measureIssue_sound {s : State} {n fire : Nat} (hs : Sound s0 s) : Sound s0 (State.measureIssue s n fire) := by
  unfold State.measureIssue
  repeat' first
      | (with_reducible first | assumption | intro _ | apply State.sendEvent_sound | apply Sound.foldl)
      | simp only [Sound.mk_iff, TileOk.mk_iff, EvrOk.mk_iff, QenOk.mk_iff]
      | split

theorem State.pauseCh_sound {s : State} {c cause : Nat} (hs : Sound s0 s) : Sound s0 (State.pauseCh s c cause) := by
  unfold State.pauseCh
  repeat' first
      | (with_reducible first | assumption | intro _ | apply State.updCh_sound | apply State.raiseLead_sound | apply Sound.ite)
      | simp only [Sound.mk_iff, TileOk.mk_iff, EvrOk.mk_iff, QenOk.mk_iff]
      | split

theorem State.resumeCh_sound {s : State} {c cause : Nat} (hs : Sound s0 s) : Sound s0 (State.resumeCh s c cause) := by
  unfold State.resumeCh
  repeat' first
      | (with_reducible first | assumption | intro _ | apply State.updCh_sound | apply State.raiseLead_sound | apply Sound.ite)
      | simp only [Sound.mk_iff, TileOk.mk_iff, EvrOk.mk_iff, QenOk.mk_iff]
      | split

theorem State.pauseAll_sound {s : State} {cause : Nat} (hs : Sound s0 s) : Sound s0 (State.pauseAll s cause) := by
  unfold State.pauseAll
  repeat' first
      | (with_reducible first | assumption | intro _ | apply State.pauseCh_sound | apply Sound.foldl)
      | simp only [Sound.mk_iff, TileOk.mk_iff, EvrOk.mk_iff, QenOk.mk_iff]
      | split

theorem State.resumeAll_sound {s : State} {cause : Nat} (hs : Sound s0 s) : Sound s0 (State.resumeAll s cause) := by
  unfold State.resumeAll
  repeat' first
      | (with_reducible first | assumption | intro _ | apply State.resumeCh_sound | apply Sound.foldl)
      | simp only [Sound.mk_iff, TileOk.mk_iff, EvrOk.mk_iff, QenOk.mk_iff]
      | split

theorem State.colourNodeLost_sound {s : State} {node : Nat} (hs : Sound s0 s) : Sound s0 (State.colourNodeLost s node) := by
  unfold State.colourNodeLost
  repeat' first
      | (with_reducible first | assumption | intro _ | apply State.pauseAll_sound | apply Sound.ite)
      | simp only [Sound.mk_iff, TileOk.mk_iff, EvrOk.mk_iff, QenOk.mk_iff]
      | split

theorem State.colourNodeBack_sound {s : State} {node : Nat} (hs : Sound s0 s) : Sound s0 (State.colourNodeBack s node) := by
  unfold State.colourNodeBack
  repeat' first
      | (with_reducible first | assumption | intro _ | apply State.resumeAll_sound | apply Sound.ite)
      | simp only [Sound.mk_iff, TileOk.mk_iff, EvrOk.mk_iff, QenOk.mk_iff]
      | split

theorem State.captureTone_sound {s : State} {bands : List Band} {x : Capture} {c k : Nat} (hs : Sound s0 s) : Sound s0 (State.captureTone s bands x c k) := by
  unfold State.captureTone
  repeat' first
      | (with_reducible first | assumption | intro _ | apply State.updCh_sound | apply Sound.part | apply Sound.tiles | apply Sound.qen | apply Sound.host | apply Sound.free | apply Sound.pending | apply FreeOk.succ | apply And.intro)
      | simp only [Sound.mk_iff, TileOk.mk_iff, EvrOk.mk_iff, QenOk.mk_iff]
      | split

theorem State.capturePaper_sound {s : State} {bands : List Band} (hs : Sound s0 s) : Sound s0 (State.capturePaper s bands) := by
  unfold State.capturePaper
  repeat' first
      | (with_reducible first | assumption | intro _ | apply State.updColour_sound | apply Sound.part | apply Sound.tiles | apply Sound.qen | apply Sound.host | apply Sound.free | apply Sound.pending | apply FreeOk.succ | apply And.intro)
      | simp only [Sound.mk_iff, TileOk.mk_iff, EvrOk.mk_iff, QenOk.mk_iff]
      | split

theorem State.captureEnd_sound {s : State} {bands : List Band} {x : Capture} {c : Nat} (hs : Sound s0 s) : Sound s0 (State.captureEnd s bands x c) := by
  unfold State.captureEnd
  repeat' first
      | (with_reducible first | assumption | intro _ | apply State.captureTone_sound | apply State.pauseCh_sound | apply State.updCh_sound | apply Sound.foldl | apply Sound.ite)
      | simp only [Sound.mk_iff, TileOk.mk_iff, EvrOk.mk_iff, QenOk.mk_iff]
      | split

set_option tactic.hygienic false in
theorem State.captureBand_sound {s : State} {b : Band} (hs : Sound s0 s) : Sound s0 (State.captureBand s b) := by
  unfold State.captureBand
  lift_lets
  intros
  have h_s1 : Sound s0 s1 := by
    simp only [s1]
    repeat' first
        | (with_reducible first | assumption | intro _ | apply State.captureEnd_sound | apply State.capturePaper_sound | apply State.updCh_sound | apply State.complete_sound | apply Sound.foldl)
        | simp only [Sound.mk_iff, TileOk.mk_iff, EvrOk.mk_iff, QenOk.mk_iff]
        | split
  clear_value s1
  repeat' first
      | (with_reducible first | assumption | intro _ | apply State.captureEnd_sound | apply State.capturePaper_sound | apply State.updCh_sound | apply State.complete_sound | apply Sound.foldl)
      | simp only [Sound.mk_iff, TileOk.mk_iff, EvrOk.mk_iff, QenOk.mk_iff]
      | split

theorem State.captureDrop_sound {s : State} {c : Nat} (hs : Sound s0 s) : Sound s0 (State.captureDrop s c) := by
  unfold State.captureDrop
  repeat' first
      | (with_reducible first | assumption | intro _ | apply State.updCh_sound | apply State.done_sound | apply Sound.foldl)
      | simp only [Sound.mk_iff, TileOk.mk_iff, EvrOk.mk_iff, QenOk.mk_iff]
      | split

theorem State.paperBand_sound {s : State} {b : Band} (hs : Sound s0 s) : Sound s0 (State.paperBand s b) := by
  unfold State.paperBand
  repeat' first
      | (with_reducible first | assumption | intro _ | apply State.resumeAll_sound | apply State.pauseAll_sound | apply Sound.ite)
      | simp only [Sound.mk_iff, TileOk.mk_iff, EvrOk.mk_iff, QenOk.mk_iff]
      | split

theorem State.patchStep_sound {s : State} {c z k : Nat} {lab : Lab} {lim : List Nat} (hs : Sound s0 s) : Sound s0 (State.patchStep s c z k lab lim).1 := by
  unfold State.patchStep
  repeat' first
      | (with_reducible first | assumption | intro _ | apply State.updCh_sound | apply State.raiseLead_sound)
      | simp only [Sound.mk_iff, TileOk.mk_iff, EvrOk.mk_iff, QenOk.mk_iff]
      | split

theorem State.bandUpdate_sound {s : State} {b : Band} (hs : Sound s0 s) : Sound s0 (State.bandUpdate s b) := by
  unfold State.bandUpdate
  repeat' first
      | (with_reducible first | assumption | intro _ | apply State.patchStep_sound | apply State.changeBoundary_sound | apply State.raiseLead_sound | apply Sound.foldl1 | apply Sound.part | apply Sound.tiles | apply Sound.qen | apply Sound.host | apply Sound.free | apply Sound.pending | apply Sound.ite | apply And.intro)
      | simp only [Sound.mk_iff, TileOk.mk_iff, EvrOk.mk_iff, QenOk.mk_iff]
      | split

theorem State.noteLast_sound {s : State} {b : Band} (hs : Sound s0 s) : Sound s0 (State.noteLast s b) := by
  unfold State.noteLast
  repeat' first
      | (with_reducible first | assumption | intro _ | apply State.updCh_sound | apply State.updColour_sound | apply Sound.foldl | apply Sound.ite)
      | simp only [Sound.mk_iff, TileOk.mk_iff, EvrOk.mk_iff, QenOk.mk_iff]
      | split

theorem State.bandDone_sound {s : State} {b : Band} (hs : Sound s0 s) : Sound s0 (State.bandDone s b) := by
  unfold State.bandDone
  repeat' first
      | (with_reducible first | assumption | intro _ | apply State.noteLast_sound | apply State.bandUpdate_sound | apply State.paperBand_sound | apply State.captureBand_sound | apply State.updColour_sound | apply Sound.ite)
      | simp only [Sound.mk_iff, TileOk.mk_iff, EvrOk.mk_iff, QenOk.mk_iff]
      | split

theorem State.addPatches_sound {s : State} {b : Band} {ps : List Patch} (hs : Sound s0 s) : Sound s0 (State.addPatches s b ps) := by
  unfold State.addPatches
  repeat' first
      | (with_reducible first | assumption | intro _ | apply State.bandDone_sound | apply State.updColour_sound | apply Sound.ite)
      | simp only [Sound.mk_iff, TileOk.mk_iff, EvrOk.mk_iff, QenOk.mk_iff]
      | split

theorem State.bandReport_sound {s : State} {r : ColourReport} (hs : Sound s0 s) : Sound s0 (State.bandReport s r) := by
  unfold State.bandReport
  repeat' first
      | (with_reducible first | assumption | intro _ | apply State.addPatches_sound | apply Sound.ite)
      | simp only [Sound.mk_iff, TileOk.mk_iff, EvrOk.mk_iff, QenOk.mk_iff]
      | split

theorem State.reportTimeout_sound {s : State} {band row : Nat} (hs : Sound s0 s) : Sound s0 (State.reportTimeout s band row) := by
  unfold State.reportTimeout
  repeat' first
      | (with_reducible first | assumption | intro _ | apply State.addPatches_sound | apply State.raiseLead_sound | apply Sound.ite)
      | simp only [Sound.mk_iff, TileOk.mk_iff, EvrOk.mk_iff, QenOk.mk_iff]
      | split

theorem State.calFit_sound {s : State} {r : CalRun} (hs : Sound s0 s) : Sound s0 (State.calFit s r) := by
  unfold State.calFit
  repeat' first
      | (with_reducible first | assumption | intro _ | apply State.resumeAll_sound | apply State.updColour_sound | apply State.complete_sound | apply State.flashWrite_sound | apply Sound.part | apply Sound.tiles | apply Sound.qen | apply Sound.host | apply Sound.free | apply Sound.pending | apply FreeOk.succ | apply Sound.ite | apply And.intro)
      | simp only [Sound.mk_iff, TileOk.mk_iff, EvrOk.mk_iff, QenOk.mk_iff]
      | split

theorem State.calReport_sound {s : State} {r : ColourReport} (hs : Sound s0 s) : Sound s0 (State.calReport s r) := by
  unfold State.calReport
  repeat' first
      | (with_reducible first | assumption | intro _ | apply State.calFit_sound | apply State.updColour_sound | apply Sound.ite)
      | simp only [Sound.mk_iff, TileOk.mk_iff, EvrOk.mk_iff, QenOk.mk_iff]
      | split

theorem State.colourReport_sound {s : State} {r : ColourReport} (hs : Sound s0 s) : Sound s0 (State.colourReport s r) := by
  unfold State.colourReport
  repeat' first
      | (with_reducible first | assumption | intro _ | apply State.calReport_sound | apply State.bandReport_sound | apply Sound.ite)
      | simp only [Sound.mk_iff, TileOk.mk_iff, EvrOk.mk_iff, QenOk.mk_iff]
      | split

theorem State.calDue_sound {s : State} (hs : Sound s0 s) : Sound s0 (State.calDue s) := by
  unfold State.calDue
  repeat' first
      | (with_reducible first | assumption | intro _ | apply State.updColour_sound | apply State.raiseLead_sound | apply Sound.ite)
      | simp only [Sound.mk_iff, TileOk.mk_iff, EvrOk.mk_iff, QenOk.mk_iff]
      | split

theorem State.colourDay_sound {s : State} (hs : Sound s0 s) : Sound s0 (State.colourDay s) := by
  unfold State.colourDay
  repeat' first
      | (with_reducible first | assumption | intro _ | apply State.updColour_sound | apply Sound.ite)
      | simp only [Sound.mk_iff, TileOk.mk_iff, EvrOk.mk_iff, QenOk.mk_iff]
      | split

theorem actColourSetup_sound {s : State} {p : Packet} {bs : List Byte} (hs : Sound s0 s) : Sound s0 (actColourSetup s p bs) := by
  unfold actColourSetup
  repeat' first
      | (with_reducible first | assumption | intro _ | apply State.captureDrop_sound | apply State.updCh_sound | apply State.updColour_sound | apply State.done_sound | apply State.putItem_sound | apply Sound.foldl | apply Sound.ite)
      | simp only [Sound.mk_iff, TileOk.mk_iff, EvrOk.mk_iff, QenOk.mk_iff]
      | split

theorem actColourSens_sound {s : State} {p : Packet} {u1 : List Byte} (hs : Sound s0 s) : Sound s0 (actColourSens s p u1) := by
  unfold actColourSens
  repeat' first
      | (with_reducible first | assumption | intro _ | apply State.resumeCh_sound | apply State.updCh_sound | apply State.withBlock_sound | apply State.done_sound | apply Sound.ite)
      | simp only [Sound.mk_iff, TileOk.mk_iff, EvrOk.mk_iff, QenOk.mk_iff]
      | split

theorem actColourClose_sound {s : State} {p : Packet} {u1 : List Byte} (hs : Sound s0 s) : Sound s0 (actColourClose s p u1) := by
  unfold actColourClose
  repeat' first
      | (with_reducible first | assumption | intro _ | apply State.updCh_sound | apply State.park_sound | apply Sound.foldl)
      | simp only [Sound.mk_iff, TileOk.mk_iff, EvrOk.mk_iff, QenOk.mk_iff]
      | split

theorem actColourCal_sound {s : State} {p : Packet} {u1 : List Byte} (hs : Sound s0 s) : Sound s0 (actColourCal s p u1) := by
  unfold actColourCal
  repeat' first
      | (with_reducible first | assumption | intro _ | apply State.pauseAll_sound | apply State.updColour_sound | apply State.sendEvent_sound | apply State.withBlock_sound | apply State.run_sound | apply State.done_sound | apply Sound.foldl | apply Sound.ite)
      | simp only [Sound.mk_iff, TileOk.mk_iff, EvrOk.mk_iff, QenOk.mk_iff]
      | split

theorem actColourReset_sound {s : State} {p : Packet} {u1 : List Byte} (hs : Sound s0 s) : Sound s0 (actColourReset s p u1) := by
  unfold actColourReset
  repeat' first
      | (with_reducible first | assumption | intro _ | apply State.updCh_sound | apply State.changeBoundary_sound | apply Sound.foldl)
      | simp only [Sound.mk_iff, TileOk.mk_iff, EvrOk.mk_iff, QenOk.mk_iff]
      | split

theorem actDropZonelut_sound {s : State} {p : Packet} {u1 : List Byte} (hs : Sound s0 s) : Sound s0 (actDropZonelut s p u1) := by
  unfold actDropZonelut
  repeat' first
      | (with_reducible first | assumption | intro _ | apply State.updCh_sound | apply State.changeBoundary_sound | apply State.withBlock_sound | apply State.done_sound | apply Sound.ite)
      | simp only [Sound.mk_iff, TileOk.mk_iff, EvrOk.mk_iff, QenOk.mk_iff]
      | split

theorem State.colourArm_sound {s : State} (hs : Sound s0 s) : Sound s0 (State.colourArm s) := by
  unfold State.colourArm
  repeat' first
      | (with_reducible first | assumption | intro _ | apply State.sendCentres_sound | apply State.updColour_sound)
      | simp only [Sound.mk_iff, TileOk.mk_iff, EvrOk.mk_iff, QenOk.mk_iff]
      | split

theorem State.colourDrain_sound {s : State} (hs : Sound s0 s) : Sound s0 (State.colourDrain s) := by
  unfold State.colourDrain
  repeat' first
      | (with_reducible first | assumption | intro _ | apply State.updColour_sound | apply State.done_sound | apply Sound.foldl)
      | simp only [Sound.mk_iff, TileOk.mk_iff, EvrOk.mk_iff, QenOk.mk_iff]
      | split

theorem opColourSetup_ok : OpOk s0 opColourSetup := by
  refine ⟨fun s p bs h => ?_, fun s p bs h => ?_, fun s p h => ?_⟩ <;> simp only [opColourSetup]
  all_goals repeat' first
    | (with_reducible first | assumption | intro _ | apply actColourSetup_sound | apply noBind_sound | apply And.intro)
    | simp only [Sound.mk_iff, TileOk.mk_iff, EvrOk.mk_iff, QenOk.mk_iff]
    | split

theorem opColourSens_ok : OpOk s0 opColourSens := by
  refine ⟨fun s p bs h => ?_, fun s p bs h => ?_, fun s p h => ?_⟩ <;> simp only [opColourSens]
  all_goals repeat' first
    | (with_reducible first | assumption | intro _ | apply actColourSens_sound | apply State.pauseCh_sound | apply And.intro)
    | simp only [Sound.mk_iff, TileOk.mk_iff, EvrOk.mk_iff, QenOk.mk_iff]
    | split

theorem opColourClose_ok : OpOk s0 opColourClose := by
  refine ⟨fun s p bs h => ?_, fun s p bs h => ?_, fun s p h => ?_⟩ <;> simp only [opColourClose]
  all_goals repeat' first
    | (with_reducible first | assumption | intro _ | apply actColourClose_sound | apply noBind_sound | apply And.intro)
    | simp only [Sound.mk_iff, TileOk.mk_iff, EvrOk.mk_iff, QenOk.mk_iff]
    | split

theorem opColourOpen_ok : OpOk s0 opColourOpen := by
  refine ⟨fun s p bs h => ?_, fun s p bs h => ?_, fun s p h => ?_⟩ <;> simp only [opColourOpen]
  all_goals repeat' first
    | (with_reducible first | assumption | intro _ | apply State.updCh_sound | apply noBind_sound | apply State.done_sound | apply Sound.foldl | apply And.intro)
    | simp only [Sound.mk_iff, TileOk.mk_iff, EvrOk.mk_iff, QenOk.mk_iff]
    | split

theorem opColourCal_ok : OpOk s0 opColourCal := by
  refine ⟨fun s p bs h => ?_, fun s p bs h => ?_, fun s p h => ?_⟩ <;> simp only [opColourCal]
  all_goals repeat' first
    | (with_reducible first | assumption | intro _ | apply actColourCal_sound | apply noBind_sound | apply And.intro)
    | simp only [Sound.mk_iff, TileOk.mk_iff, EvrOk.mk_iff, QenOk.mk_iff]
    | split

theorem opColourReset_ok : OpOk s0 opColourReset := by
  refine ⟨fun s p bs h => ?_, fun s p bs h => ?_, fun s p h => ?_⟩ <;> simp only [opColourReset]
  all_goals repeat' first
    | (with_reducible first | assumption | intro _ | apply actColourReset_sound | apply noBind_sound | apply And.intro)
    | simp only [Sound.mk_iff, TileOk.mk_iff, EvrOk.mk_iff, QenOk.mk_iff]
    | split

theorem opDropZonelut_ok : OpOk s0 opDropZonelut := by
  refine ⟨fun s p bs h => ?_, fun s p bs h => ?_, fun s p h => ?_⟩ <;> simp only [opDropZonelut]
  all_goals repeat' first
    | (with_reducible first | assumption | intro _ | apply actDropZonelut_sound | apply noBind_sound | apply And.intro)
    | simp only [Sound.mk_iff, TileOk.mk_iff, EvrOk.mk_iff, QenOk.mk_iff]
    | split

theorem opColourStatus_ok : OpOk s0 opColourStatus := by
  refine ⟨fun s p bs h => ?_, fun s p bs h => ?_, fun s p h => ?_⟩ <;> simp only [opColourStatus]
  all_goals repeat' first
    | (with_reducible first | assumption | intro _ | apply noBind_sound | apply State.reportQ_sound | apply And.intro)
    | simp only [Sound.mk_iff, TileOk.mk_iff, EvrOk.mk_iff, QenOk.mk_iff]
    | split

theorem opColourLog_ok : OpOk s0 opColourLog := by
  refine ⟨fun s p bs h => ?_, fun s p bs h => ?_, fun s p h => ?_⟩ <;> simp only [opColourLog]
  all_goals repeat' first
    | (with_reducible first | assumption | intro _ | apply noBind_sound | apply State.reportQ_sound | apply And.intro)
    | simp only [Sound.mk_iff, TileOk.mk_iff, EvrOk.mk_iff, QenOk.mk_iff]
    | split

end Sys2Proof.Machine
end

