-- ==== Sys2Proof/Laws/SoundMotion.lean ====
section
/-! SUPPORT. Every operation of motion, the event router, sessions, queues, scan-out and lanes keeps the package sound (Laws/Sound.lean). -/

set_option linter.all false

namespace Sys2Proof.Machine

/-! ## Motion -/

theorem State.updMot_sound {s : State} {f : Motion → Motion} (hs : Sound s0 s) : Sound s0 (State.updMot s f) := by
  unfold State.updMot
  repeat' first
      | (with_reducible first | assumption | intro _ | apply Sound.part | apply Sound.tiles | apply Sound.qen | apply Sound.host | apply Sound.free | apply Sound.pending | apply And.intro)
      | simp only [Sound.mk_iff, TileOk.mk_iff, EvrOk.mk_iff, QenOk.mk_iff]
      | split

theorem State.updLoop_sound {s : State} {f : PLoop → PLoop} (hs : Sound s0 s) : Sound s0 (State.updLoop s f) := by
  unfold State.updLoop
  repeat' first
      | (with_reducible first | assumption | intro _ | apply State.updMot_sound)
      | simp only [Sound.mk_iff, TileOk.mk_iff, EvrOk.mk_iff, QenOk.mk_iff]
      | split

theorem State.motFault_sound {s : State} {bits : Nat} (hs : Sound s0 s) : Sound s0 (State.motFault s bits) := by
  unfold State.motFault
  repeat' first
      | (with_reducible first | assumption | intro _ | apply Sound.foldl | apply Sound.updTileN | apply Sound.tileN | apply TileOk.mem | apply TileOk.evr | apply Sound.ite | apply And.intro)
      | simp only [Sound.mk_iff, TileOk.mk_iff, EvrOk.mk_iff, QenOk.mk_iff]
      | split

theorem State.raiseBlocks_sound {s : State} {src : Nat} {data : List Nat} (hs : Sound s0 s) : Sound s0 (State.raiseBlocks s src data) := by
  unfold State.raiseBlocks
  repeat' first
      | (with_reducible first | assumption | intro _ | apply State.raiseN_sound | apply Sound.foldl | apply Sound.ite)
      | simp only [Sound.mk_iff, TileOk.mk_iff, EvrOk.mk_iff, QenOk.mk_iff]
      | split

theorem State.onBoth_sound {s : State} {f : State → State} (hs : Sound s0 s) (hf : ∀ s, Sound s0 s → Sound s0 (f s)) : Sound s0 (State.onBoth s f) := by
  unfold State.onBoth
  repeat' first
      | (with_reducible first | assumption | intro _ | apply State.updMot_sound | apply hf)
      | simp only [Sound.mk_iff, TileOk.mk_iff, EvrOk.mk_iff, QenOk.mk_iff]
      | split

theorem State.updEnc_sound {s : State} {i : Nat} {f : Enc → Enc} (hs : Sound s0 s) : Sound s0 (State.updEnc s i f) := by
  unfold State.updEnc
  repeat' first
      | (with_reducible first | assumption | intro _ | apply State.updMot_sound)
      | simp only [Sound.mk_iff, TileOk.mk_iff, EvrOk.mk_iff, QenOk.mk_iff]
      | split

theorem State.rawTransition_sound {s : State} {p : Pin} {level : Bool} (hs : Sound s0 s) : Sound s0 (State.rawTransition s p level) := by
  unfold State.rawTransition
  repeat' first
      | (with_reducible first | assumption | intro _ | apply State.updEnc_sound | apply State.onBoth_sound | apply State.updMot_sound | apply Sound.ite)
      | simp only [Sound.mk_iff, TileOk.mk_iff, EvrOk.mk_iff, QenOk.mk_iff]
      | split

theorem State.loopStart_sound {s : State} (hs : Sound s0 s) : Sound s0 (State.loopStart s) := by
  unfold State.loopStart
  repeat' first
      | (with_reducible first | assumption | intro _ | apply State.updLoop_sound)
      | simp only [Sound.mk_iff, TileOk.mk_iff, EvrOk.mk_iff, QenOk.mk_iff]
      | split

theorem State.roleTo_sound {s : State} {a : Nat} (hs : Sound s0 s) : Sound s0 (State.roleTo s a) := by
  unfold State.roleTo
  repeat' first
      | (with_reducible first | assumption | intro _ | apply State.loopStart_sound | apply State.updMot_sound | apply Sound.ite)
      | simp only [Sound.mk_iff, TileOk.mk_iff, EvrOk.mk_iff, QenOk.mk_iff]
      | split

theorem State.roleToT1_sound {s : State} (hs : Sound s0 s) : Sound s0 (State.roleToT1 s) := by
  unfold State.roleToT1
  repeat' first
      | (with_reducible first | assumption | intro _ | apply State.roleTo_sound | apply State.raiseN_sound)
      | simp only [Sound.mk_iff, TileOk.mk_iff, EvrOk.mk_iff, QenOk.mk_iff]
      | split

theorem State.motionRole_sound {s : State} (hs : Sound s0 s) : Sound s0 (State.motionRole s) := by
  unfold State.motionRole
  repeat' first
      | (with_reducible first | assumption | intro _ | apply State.roleToT1_sound | apply State.roleTo_sound | apply Sound.ite)
      | simp only [Sound.mk_iff, TileOk.mk_iff, EvrOk.mk_iff, QenOk.mk_iff]
      | split

theorem State.sourceStep_sound {s : State} {c t : Nat} {back moved : Bool} (hs : Sound s0 s) : Sound s0 (State.sourceStep s c t back moved) := by
  unfold State.sourceStep
  repeat' first
      | (with_reducible first | assumption | intro _ | apply State.updLoop_sound | apply State.raiseMot_sound | apply Sound.ite)
      | simp only [Sound.mk_iff, TileOk.mk_iff, EvrOk.mk_iff, QenOk.mk_iff]
      | split

theorem State.loopUpdate_sound {s : State} (hs : Sound s0 s) : Sound s0 (State.loopUpdate s) := by
  unfold State.loopUpdate
  repeat' first
      | (with_reducible first | assumption | intro _ | apply State.updLoop_sound | apply Sound.whenDue)
      | simp only [Sound.mk_iff, TileOk.mk_iff, EvrOk.mk_iff, QenOk.mk_iff]
      | split

theorem State.pitchLock_sound {s : State} (hs : Sound s0 s) : Sound s0 (State.pitchLock s) := by
  unfold State.pitchLock
  repeat' first
      | (with_reducible first | assumption | intro _ | apply State.updLoop_sound | apply State.raiseMot_sound | apply Sound.whenDue)
      | simp only [Sound.mk_iff, TileOk.mk_iff, EvrOk.mk_iff, QenOk.mk_iff]
      | split

theorem State.pitchUnlock_sound {s : State} (hs : Sound s0 s) : Sound s0 (State.pitchUnlock s) := by
  unfold State.pitchUnlock
  repeat' first
      | (with_reducible first | assumption | intro _ | apply State.updLoop_sound | apply State.raiseMot_sound | apply Sound.whenDue)
      | simp only [Sound.mk_iff, TileOk.mk_iff, EvrOk.mk_iff, QenOk.mk_iff]
      | split

theorem State.webStill_sound {s : State} (hs : Sound s0 s) : Sound s0 (State.webStill s) := by
  unfold State.webStill
  repeat' first
      | (with_reducible first | assumption | intro _ | apply State.updLoop_sound | apply State.raiseMot_sound | apply Sound.whenDue)
      | simp only [Sound.mk_iff, TileOk.mk_iff, EvrOk.mk_iff, QenOk.mk_iff]
      | split

theorem State.coast_sound {s : State} (hs : Sound s0 s) : Sound s0 (State.coast s) := by
  unfold State.coast
  repeat' first
      | (with_reducible first | assumption | intro _ | apply State.updLoop_sound | apply State.raiseMot_sound | apply Sound.ite)
      | simp only [Sound.mk_iff, TileOk.mk_iff, EvrOk.mk_iff, QenOk.mk_iff]
      | split

theorem State.sourceBack_sound {s : State} (hs : Sound s0 s) : Sound s0 (State.sourceBack s) := by
  unfold State.sourceBack
  repeat' first
      | (with_reducible first | assumption | intro _ | apply State.loopStart_sound | apply State.updLoop_sound)
      | simp only [Sound.mk_iff, TileOk.mk_iff, EvrOk.mk_iff, QenOk.mk_iff]
      | split

theorem State.encLost_sound {s : State} (hs : Sound s0 s) : Sound s0 (State.encLost s) := by
  unfold State.encLost
  repeat' first
      | (with_reducible first | assumption | intro _ | apply State.updLoop_sound | apply State.rejectFlight_sound | apply State.stopSource_sound | apply State.raiseMot_sound | apply Sound.whenDue)
      | simp only [Sound.mk_iff, TileOk.mk_iff, EvrOk.mk_iff, QenOk.mk_iff]
      | split

theorem State.wireFault_sound {s : State} {i j : Nat} (hs : Sound s0 s) : Sound s0 (State.wireFault s i j) := by
  unfold State.wireFault
  repeat' first
      | (with_reducible first | assumption | intro _ | apply State.sourceBack_sound | apply State.coast_sound | apply State.updEnc_sound | apply State.raiseBlocks_sound | apply State.motFault_sound | apply Sound.ite)
      | simp only [Sound.mk_iff, TileOk.mk_iff, EvrOk.mk_iff, QenOk.mk_iff]
      | split

theorem State.registerProduct_sound {s : State} {lane first : Nat} (hs : Sound s0 s) : Sound s0 (State.registerProduct s lane first) := by
  unfold State.registerProduct
  repeat' first
      | (with_reducible first | assumption | intro _ | apply State.sendEventAll_sound | apply State.clipFields_sound | apply State.registerOn_sound | apply Sound.foldl | apply Sound.ite)
      | simp only [Sound.mk_iff, TileOk.mk_iff, EvrOk.mk_iff, QenOk.mk_iff]
      | split

theorem State.hitActions_sound {s : State} {u tick : Nat} (hs : Sound s0 s) : Sound s0 (State.hitActions s u tick) := by
  unfold State.hitActions
  repeat' first
      | (with_reducible first | assumption | intro _ | apply State.registerProduct_sound | apply State.raiseBlocks_sound | apply State.updMot_sound | apply State.sendEventAll_sound | apply Sound.ite)
      | simp only [Sound.mk_iff, TileOk.mk_iff, EvrOk.mk_iff, QenOk.mk_iff]
      | split

theorem State.updCmp_sound {s : State} {u : Nat} {f : CmpUnit → CmpUnit} (hs : Sound s0 s) : Sound s0 (State.updCmp s u f) := by
  unfold State.updCmp
  repeat' first
      | (with_reducible first | assumption | intro _ | apply State.updMot_sound)
      | simp only [Sound.mk_iff, TileOk.mk_iff, EvrOk.mk_iff, QenOk.mk_iff]
      | split

theorem State.hit_sound {s : State} {u tick : Nat} (hs : Sound s0 s) : Sound s0 (State.hit s u tick) := by
  unfold State.hit
  repeat' first
      | (with_reducible first | assumption | intro _ | apply State.updCmp_sound | apply State.hitActions_sound)
      | simp only [Sound.mk_iff, TileOk.mk_iff, EvrOk.mk_iff, QenOk.mk_iff]
      | split

theorem State.hits_sound {s : State} {u p : Nat} {v0 : Nat} {v1 : Nat} (hs : Sound s0 s) : Sound s0 (State.hits s u p v0 v1) := by
  induction v0 generalizing s v1 with
  | zero => exact hs
  | succ k ih =>
    unfold State.hits
    exact Sound.ite (ih (State.hit_sound hs)) hs

theorem State.compareAll_sound {s : State} {src p : Nat} (hs : Sound s0 s) : Sound s0 (State.compareAll s src p) := by
  unfold State.compareAll
  repeat' first
      | (with_reducible first | assumption | intro _ | apply State.hits_sound | apply Sound.foldl)
      | simp only [Sound.mk_iff, TileOk.mk_iff, EvrOk.mk_iff, QenOk.mk_iff]
      | split

theorem State.encEdge_sound {s : State} {i : Nat} (hs : Sound s0 s) : Sound s0 (State.encEdge s i) := by
  unfold State.encEdge
  repeat' first
      | (with_reducible first | assumption | intro _ | apply State.compareAll_sound | apply State.sourceStep_sound | apply State.updEnc_sound | apply State.raiseBlocks_sound | apply State.motFault_sound | apply State.updMot_sound | apply Sound.ite)
      | simp only [Sound.mk_iff, TileOk.mk_iff, EvrOk.mk_iff, QenOk.mk_iff]
      | split

theorem State.rephased_sound {s : State} {seqs : List Nat} (hs : Sound s0 s) : Sound s0 (State.rephased s seqs) := by
  unfold State.rephased
  repeat' first
      | (with_reducible first | assumption | intro _ | apply State.doneLine_sound | apply Sound.foldl | apply Sound.ite)
      | simp only [Sound.mk_iff, TileOk.mk_iff, EvrOk.mk_iff, QenOk.mk_iff]
      | split

theorem State.indexAt_sound {s : State} {i : Nat} (hs : Sound s0 s) : Sound s0 (State.indexAt s i) := by
  unfold State.indexAt
  repeat' first
      | (with_reducible first | assumption | intro _ | apply State.rephased_sound | apply State.updEnc_sound | apply State.raiseBlocks_sound | apply State.motFault_sound | apply State.updLens_sound | apply Sound.ite)
      | simp only [Sound.mk_iff, TileOk.mk_iff, EvrOk.mk_iff, QenOk.mk_iff]
      | split

theorem State.encIndex_sound {s : State} {i : Nat} (hs : Sound s0 s) : Sound s0 (State.encIndex s i) := by
  unfold State.encIndex
  repeat' first
      | (with_reducible first | assumption | intro _ | apply State.indexAt_sound | apply State.updEnc_sound | apply Sound.ite)
      | simp only [Sound.mk_iff, TileOk.mk_iff, EvrOk.mk_iff, QenOk.mk_iff]
      | split

theorem State.indexMissed_sound {s : State} {i : Nat} (hs : Sound s0 s) : Sound s0 (State.indexMissed s i) := by
  unfold State.indexMissed
  repeat' first
      | (with_reducible first | assumption | intro _ | apply State.updEnc_sound | apply State.raiseBlocks_sound | apply State.motFault_sound | apply State.updLens_sound | apply Sound.ite)
      | simp only [Sound.mk_iff, TileOk.mk_iff, EvrOk.mk_iff, QenOk.mk_iff]
      | split

theorem State.encIndexMiss_sound {s : State} {i : Nat} (hs : Sound s0 s) : Sound s0 (State.encIndexMiss s i) := by
  unfold State.encIndexMiss
  repeat' first
      | (with_reducible first | assumption | intro _ | apply State.indexMissed_sound | apply State.encIndex_sound)
      | simp only [Sound.mk_iff, TileOk.mk_iff, EvrOk.mk_iff, QenOk.mk_iff]
      | split

theorem State.absPoll_sound {s : State} (hs : Sound s0 s) : Sound s0 (State.absPoll s) := by
  unfold State.absPoll
  repeat' first
      | (with_reducible first | assumption | intro _ | apply State.updMot_sound | apply Sound.whenDue)
      | simp only [Sound.mk_iff, TileOk.mk_iff, EvrOk.mk_iff, QenOk.mk_iff]
      | split

theorem State.absFault_sound {s : State} {cause : Nat} (hs : Sound s0 s) : Sound s0 (State.absFault s cause) := by
  unfold State.absFault
  repeat' first
      | (with_reducible first | assumption | intro _ | apply State.coast_sound | apply State.motFault_sound | apply State.updMot_sound | apply State.raiseMot_sound | apply Sound.ite)
      | simp only [Sound.mk_iff, TileOk.mk_iff, EvrOk.mk_iff, QenOk.mk_iff]
      | split

theorem State.absCheck_sound {s : State} {pos : Nat} (hs : Sound s0 s) : Sound s0 (State.absCheck s pos) := by
  unfold State.absCheck
  repeat' first
      | (with_reducible first | assumption | intro _ | apply State.updMot_sound | apply State.raiseMot_sound | apply Sound.ite)
      | simp only [Sound.mk_iff, TileOk.mk_iff, EvrOk.mk_iff, QenOk.mk_iff]
      | split

theorem State.absAccept_sound {s : State} {pos : Nat} (hs : Sound s0 s) : Sound s0 (State.absAccept s pos) := by
  unfold State.absAccept
  repeat' first
      | (with_reducible first | assumption | intro _ | apply State.absCheck_sound | apply State.compareAll_sound | apply State.sourceBack_sound | apply State.sourceStep_sound | apply State.updLoop_sound | apply State.updMot_sound | apply Sound.ite)
      | simp only [Sound.mk_iff, TileOk.mk_iff, EvrOk.mk_iff, QenOk.mk_iff]
      | split

theorem State.absFrame_sound {s : State} {raw : Nat} {err warn : Bool} {crc : Nat} (hs : Sound s0 s) : Sound s0 (State.absFrame s raw err warn crc) := by
  unfold State.absFrame
  repeat' first
      | (with_reducible first | assumption | intro _ | apply State.absAccept_sound | apply State.absFault_sound | apply State.updMot_sound | apply State.raiseMot_sound | apply Sound.ite)
      | simp only [Sound.mk_iff, TileOk.mk_iff, EvrOk.mk_iff, QenOk.mk_iff]
      | split

theorem State.absTimeout_sound {s : State} (hs : Sound s0 s) : Sound s0 (State.absTimeout s) := by
  unfold State.absTimeout
  repeat' first
      | (with_reducible first | assumption | intro _ | apply State.absFault_sound | apply Sound.whenDue)
      | simp only [Sound.mk_iff, TileOk.mk_iff, EvrOk.mk_iff, QenOk.mk_iff]
      | split

theorem State.overrate_sound {s : State} {n : Nat} (hs : Sound s0 s) : Sound s0 (State.overrate s n) := by
  unfold State.overrate
  repeat' first
      | (with_reducible first | assumption | intro _ | apply State.raiseMot_sound | apply Sound.part | apply Sound.tiles | apply Sound.qen | apply Sound.host | apply Sound.free | apply Sound.pending | apply Sound.ite | apply And.intro)
      | simp only [Sound.mk_iff, TileOk.mk_iff, EvrOk.mk_iff, QenOk.mk_iff]
      | split

theorem State.motionCompare_sound {s : State} {n fire : Nat} {own : Option Int} (hs : Sound s0 s) : Sound s0 (State.motionCompare s n fire own) := by
  unfold State.motionCompare
  repeat' first
      | (with_reducible first | assumption | intro _ | apply State.updMot_sound | apply State.raiseN_sound | apply Sound.ite)
      | simp only [Sound.mk_iff, TileOk.mk_iff, EvrOk.mk_iff, QenOk.mk_iff]
      | split

theorem State.roleReturn_sound {s : State} {n : Nat} (hs : Sound s0 s) : Sound s0 (State.roleReturn s n) := by
  unfold State.roleReturn
  repeat' first
      | (with_reducible first | assumption | intro _ | apply State.roleTo_sound | apply State.updMot_sound | apply Sound.ite)
      | simp only [Sound.mk_iff, TileOk.mk_iff, EvrOk.mk_iff, QenOk.mk_iff]
      | split

theorem State.issueReject_sound {s : State} {n : Nat} {locked : Bool} (hs : Sound s0 s) : Sound s0 (State.issueReject s n locked) := by
  unfold State.issueReject
  repeat' first
      | (with_reducible first | assumption | intro _ | apply State.rejectIf_sound | apply Sound.ite)
      | simp only [Sound.mk_iff, TileOk.mk_iff, EvrOk.mk_iff, QenOk.mk_iff]
      | split

theorem State.lensGiven_sound {s : State} {n : Nat} (hs : Sound s0 s) : Sound s0 (State.lensGiven s n).2 := by
  unfold State.lensGiven
  repeat' first
      | (with_reducible first | assumption | intro _ | apply State.nextFree_sound | apply Sound.ite2)
      | simp only [Sound.mk_iff, TileOk.mk_iff, EvrOk.mk_iff, QenOk.mk_iff]
      | split

theorem State.sendPosition_sound {s : State} {n fire : Nat} (hs : Sound s0 s) : Sound s0 (State.sendPosition s n fire) := by
  unfold State.sendPosition
  repeat' first
      | (with_reducible first | assumption | intro _ | apply State.sendEventAll_sound | apply Sound.foldl | apply Sound.ite)
      | simp only [Sound.mk_iff, TileOk.mk_iff, EvrOk.mk_iff, QenOk.mk_iff]
      | split

theorem State.issueCore_sound {s : State} {n fire : Nat} (hs : Sound s0 s) : Sound s0 (State.issueCore s n fire) := by
  unfold State.issueCore
  repeat' first
      | (with_reducible first | assumption | intro _ | apply State.sendPosition_sound | apply State.lensGiven_sound | apply State.issueReject_sound | apply State.roleReturn_sound | apply State.motionCompare_sound | apply State.overrate_sound | apply State.onBoth_sound | apply State.updLoop_sound | apply State.updMot_sound | apply State.measureIssue_sound | apply State.overIssue_sound | apply State.anchorsAt_sound | apply State.lensReject_sound | apply State.lensIssue_sound | apply State.pruneLive_sound | apply State.pruneProducts_sound | apply State.settleBoundary_sound | apply State.changeReached_sound | apply State.disarmSettle_sound | apply State.reprepare_sound | apply Sound.ite2)
      | simp only [Sound.mk_iff, TileOk.mk_iff, EvrOk.mk_iff, QenOk.mk_iff]
      | split

theorem State.startPulses_sound {s : State} {n : Nat} (hs : Sound s0 s) : Sound s0 (State.startPulses s n) := by
  unfold State.startPulses
  repeat' first
      | (with_reducible first | assumption | intro _ | apply State.updMot_sound | apply Sound.foldl | apply Sound.ite)
      | simp only [Sound.mk_iff, TileOk.mk_iff, EvrOk.mk_iff, QenOk.mk_iff]
      | split

theorem State.fireReached_sound {s : State} (hs : Sound s0 s) : Sound s0 (State.fireReached s) := by
  unfold State.fireReached
  repeat' first
      | (with_reducible first | assumption | intro _ | apply State.startPulses_sound | apply State.compareAll_sound | apply State.updMot_sound)
      | simp only [Sound.mk_iff, TileOk.mk_iff, EvrOk.mk_iff, QenOk.mk_iff]
      | split

theorem State.pulseEnd_sound {s : State} {o : Nat} (hs : Sound s0 s) : Sound s0 (State.pulseEnd s o) := by
  unfold State.pulseEnd
  repeat' first
      | (with_reducible first | assumption | intro _ | apply State.updMot_sound)
      | simp only [Sound.mk_iff, TileOk.mk_iff, EvrOk.mk_iff, QenOk.mk_iff]
      | split

theorem State.motionCopy_sound {s : State} (hs : Sound s0 s) : Sound s0 (State.motionCopy s) := by
  unfold State.motionCopy
  repeat' first
      | (with_reducible first | assumption | intro _ | apply State.updMot_sound | apply Sound.whenDue)
      | simp only [Sound.mk_iff, TileOk.mk_iff, EvrOk.mk_iff, QenOk.mk_iff]
      | split

theorem State.motionT1_sound {s : State} (hs : Sound s0 s) : Sound s0 (State.motionT1 s) := by
  unfold State.motionT1
  repeat' first
      | (with_reducible first | assumption | intro _ | apply State.roleToT1_sound | apply Sound.whenDue)
      | simp only [Sound.mk_iff, TileOk.mk_iff, EvrOk.mk_iff, QenOk.mk_iff]
      | split

theorem State.roleBack_sound {s : State} (hs : Sound s0 s) : Sound s0 (State.roleBack s) := by
  unfold State.roleBack
  repeat' first
      | (with_reducible first | assumption | intro _ | apply State.roleTo_sound | apply State.updMot_sound | apply State.changeOwn_sound | apply Sound.ite)
      | simp only [Sound.mk_iff, TileOk.mk_iff, EvrOk.mk_iff, QenOk.mk_iff]
      | split

theorem State.motionUp_sound {s : State} {t : Nat} (hs : Sound s0 s) : Sound s0 (State.motionUp s t) := by
  unfold State.motionUp
  repeat' first
      | (with_reducible first | assumption | intro _ | apply State.motionRole_sound | apply State.loopStart_sound | apply State.updMot_sound | apply Sound.ite)
      | simp only [Sound.mk_iff, TileOk.mk_iff, EvrOk.mk_iff, QenOk.mk_iff]
      | split

theorem State.motionDown_sound {s : State} {t : Nat} (hs : Sound s0 s) : Sound s0 (State.motionDown s t) := by
  unfold State.motionDown
  repeat' first
      | (with_reducible first | assumption | intro _ | apply State.updMot_sound | apply Sound.ite)
      | simp only [Sound.mk_iff, TileOk.mk_iff, EvrOk.mk_iff, QenOk.mk_iff]
      | split

theorem State.cmpAccept_sound {s : State} {u : Nat} {es : PMap} {seq : Nat} (hs : Sound s0 s) : Sound s0 (State.cmpAccept s u es seq) := by
  unfold State.cmpAccept
  repeat' first
      | (with_reducible first | assumption | intro _ | apply State.updCmp_sound | apply State.onBoth_sound | apply State.complete_sound)
      | simp only [Sound.mk_iff, TileOk.mk_iff, EvrOk.mk_iff, QenOk.mk_iff]
      | split

theorem State.cmpApplyNow_sound {s : State} {u tick : Nat} {es : PMap} (hs : Sound s0 s) : Sound s0 (State.cmpApplyNow s u tick es) := by
  unfold State.cmpApplyNow
  repeat' first
      | (with_reducible first | assumption | intro _ | apply State.hit_sound | apply State.updCmp_sound | apply State.raiseBlocks_sound | apply State.putItem_sound | apply Sound.foldl | apply Sound.ite)
      | simp only [Sound.mk_iff, TileOk.mk_iff, EvrOk.mk_iff, QenOk.mk_iff]
      | split

theorem State.compareApply_sound {s : State} {u : Nat} (hs : Sound s0 s) : Sound s0 (State.compareApply s u) := by
  unfold State.compareApply
  repeat' first
      | (with_reducible first | assumption | intro _ | apply State.cmpApplyNow_sound | apply State.updCmp_sound | apply Sound.whenDue)
      | simp only [Sound.mk_iff, TileOk.mk_iff, EvrOk.mk_iff, QenOk.mk_iff]
      | split

theorem State.pdEdge_sound {s : State} {i : Nat} (hs : Sound s0 s) : Sound s0 (State.pdEdge s i) := by
  unfold State.pdEdge
  repeat' first
      | (with_reducible first | assumption | intro _ | apply State.registerProduct_sound | apply State.updMot_sound | apply State.raiseMot_sound | apply Sound.ite)
      | simp only [Sound.mk_iff, TileOk.mk_iff, EvrOk.mk_iff, QenOk.mk_iff]
      | split

theorem State.carrLeave_sound {s : State} {g code : Nat} (hs : Sound s0 s) : Sound s0 (State.carrLeave s g code) := by
  unfold State.carrLeave
  repeat' first
      | (with_reducible first | assumption | intro _ | apply State.changeOwn_sound | apply State.prepare_sound | apply State.raiseMot_sound | apply Sound.foldl | apply Sound.part | apply Sound.tiles | apply Sound.qen | apply Sound.host | apply Sound.free | apply Sound.pending | apply Sound.ite | apply And.intro)
      | simp only [Sound.mk_iff, TileOk.mk_iff, EvrOk.mk_iff, QenOk.mk_iff]
      | split

theorem State.carrChange_sound {s : State} {g : Nat} (hs : Sound s0 s) : Sound s0 (State.carrChange s g) := by
  unfold State.carrChange
  repeat' first
      | (with_reducible first | assumption | intro _ | apply State.carrLeave_sound | apply State.raiseBlocks_sound | apply State.motFault_sound | apply State.updMot_sound | apply State.changeBoundary_sound | apply Sound.ite)
      | simp only [Sound.mk_iff, TileOk.mk_iff, EvrOk.mk_iff, QenOk.mk_iff]
      | split

theorem State.motionArm_sound {s : State} (hs : Sound s0 s) : Sound s0 (State.motionArm s) := by
  unfold State.motionArm
  repeat' first
      | (with_reducible first | assumption | intro _ | apply State.coast_sound | apply State.loopStart_sound | apply State.onBoth_sound | apply State.updLoop_sound | apply State.updMot_sound | apply State.raiseMot_sound | apply Sound.foldl | apply Sound.part | apply Sound.tiles | apply Sound.qen | apply Sound.host | apply Sound.free | apply Sound.pending | apply Sound.ite | apply And.intro)
      | simp only [Sound.mk_iff, TileOk.mk_iff, EvrOk.mk_iff, QenOk.mk_iff]
      | split

theorem opMotionRephase_ok : OpOk s0 opMotionRephase := by
  refine ⟨fun s p bs h => ?_, fun s p bs h => ?_, fun s p h => ?_⟩ <;> simp only [opMotionRephase]
  all_goals repeat' first
    | (with_reducible first | assumption | intro _ | apply State.updEnc_sound | apply State.onBoth_sound | apply noBind_sound | apply State.park_sound | apply Sound.foldl | apply And.intro)
    | simp only [Sound.mk_iff, TileOk.mk_iff, EvrOk.mk_iff, QenOk.mk_iff]
    | split

theorem opMotionCompare_ok : OpOk s0 opMotionCompare := by
  refine ⟨fun s p bs h => ?_, fun s p bs h => ?_, fun s p h => ?_⟩ <;> simp only [opMotionCompare]
  all_goals repeat' first
    | (with_reducible first | assumption | intro _ | apply State.cmpAccept_sound | apply noBind_sound | apply And.intro)
    | simp only [Sound.mk_iff, TileOk.mk_iff, EvrOk.mk_iff, QenOk.mk_iff]
    | split

theorem opMotionStatus_ok : OpOk s0 opMotionStatus := by
  refine ⟨fun s p bs h => ?_, fun s p bs h => ?_, fun s p h => ?_⟩ <;> simp only [opMotionStatus]
  all_goals repeat' first
    | (with_reducible first | assumption | intro _ | apply noBind_sound | apply State.reportQ_sound | apply And.intro)
    | simp only [Sound.mk_iff, TileOk.mk_iff, EvrOk.mk_iff, QenOk.mk_iff]
    | split

theorem opMotionStopreq_ok : OpOk s0 opMotionStopreq := by
  refine ⟨fun s p bs h => ?_, fun s p bs h => ?_, fun s p h => ?_⟩ <;> simp only [opMotionStopreq]
  all_goals repeat' first
    | (with_reducible first | assumption | intro _ | apply State.updMot_sound | apply State.stopSource_sound | apply noBind_sound | apply State.done_sound | apply Sound.ite | apply And.intro)
    | simp only [Sound.mk_iff, TileOk.mk_iff, EvrOk.mk_iff, QenOk.mk_iff]
    | split

/-! ## Evr -/

theorem State.updEvr_sound {s : State} {t : Nat} {f : Evr → Evr} (hs : Sound s0 s) (hf : ∀ e, EvrOk s0 e → EvrOk s0 (f e)) : Sound s0 (State.updEvr s t f) := by
  unfold State.updEvr
  exact hs.updTileN ⟨hs.tileN.mem, hf _ hs.tileN.evr⟩

theorem State.updSrc_sound {s : State} {t src : Nat} {f : EvrSrc → EvrSrc} (hs : Sound s0 s) : Sound s0 (State.updSrc s t src f) := by
  unfold State.updSrc
  repeat' first
      | (with_reducible first | assumption | intro _ | apply State.updEvr_sound | apply EvrOk.log)
      | simp only [Sound.mk_iff, TileOk.mk_iff, EvrOk.mk_iff, QenOk.mk_iff]
      | split

theorem State.deliver_sound {s : State} {map : Vector Nat 8} {o : Offer} {n : Nat} (hs : Sound s0 s) : Sound s0 (State.deliver s map o n) := by
  unfold State.deliver
  repeat' first
      | (with_reducible first | assumption | intro _ | apply State.updSrc_sound | apply State.updEvr_sound | apply State.vecDue_sound | apply Sound.part | apply Sound.tiles | apply Sound.qen | apply Sound.host | apply Sound.free | apply Sound.pending | apply EvrOk.log | apply Sound.ite | apply And.intro)
      | simp only [Sound.mk_iff, TileOk.mk_iff, EvrOk.mk_iff, QenOk.mk_iff]
      | split

theorem State.commitCore_sound {s : State} {t : Nat} (hs : Sound s0 s) : Sound s0 (State.commitCore s t) := by
  unfold State.commitCore
  repeat' first
      | (with_reducible first | assumption | intro _ | apply State.deliver_sound | apply State.updEvr_sound | apply EvrOk.log | apply Sound.ite)
      | simp only [Sound.mk_iff, TileOk.mk_iff, EvrOk.mk_iff, QenOk.mk_iff]
      | split

theorem State.offerReceive_sound {s : State} {t : Nat} (hs : Sound s0 s) : Sound s0 (State.offerReceive s t) := by
  unfold State.offerReceive
  repeat' first
      | (with_reducible first | assumption | intro _ | apply Sound.part | apply Sound.tiles | apply Sound.qen | apply Sound.host | apply Sound.free | apply Sound.pending | apply Sound.ite | apply And.intro)
      | simp only [Sound.mk_iff, TileOk.mk_iff, EvrOk.mk_iff, QenOk.mk_iff]
      | split

theorem State.commitHost_sound {s : State} (hs : Sound s0 s) : Sound s0 (State.commitHost s) := by
  unfold State.commitHost
  repeat' first
      | (with_reducible first | assumption | intro _ | apply State.deliver_sound | apply Sound.part | apply Sound.tiles | apply Sound.qen | apply Sound.host | apply Sound.free | apply Sound.pending | apply Sound.ite | apply And.intro)
      | simp only [Sound.mk_iff, TileOk.mk_iff, EvrOk.mk_iff, QenOk.mk_iff]
      | split

theorem State.evrCommit_sound {s : State} {stage : Option Tile} (hs : Sound s0 s) : Sound s0 (State.evrCommit s stage) := by
  unfold State.evrCommit
  repeat' first
      | (with_reducible first | assumption | intro _ | apply State.commitHost_sound | apply State.commitCore_sound)
      | simp only [Sound.mk_iff, TileOk.mk_iff, EvrOk.mk_iff, QenOk.mk_iff]
      | split

theorem State.evrReconsider_sound {s : State} {stage : Option Tile} (hs : Sound s0 s) : Sound s0 (State.evrReconsider s stage) := by
  unfold State.evrReconsider
  repeat' first
      | (with_reducible first | assumption | intro _ | apply State.updEvr_sound | apply Sound.part | apply Sound.tiles | apply Sound.qen | apply Sound.host | apply Sound.free | apply Sound.pending | apply EvrOk.log | apply And.intro)
      | simp only [Sound.mk_iff, TileOk.mk_iff, EvrOk.mk_iff, QenOk.mk_iff]
      | split

theorem State.returns_sound {s : State} {v : Nat} (hs : Sound s0 s) : Sound s0 (State.returns s v) := by
  unfold State.returns
  repeat' first
      | (with_reducible first | assumption | intro _ | apply Sound.part | apply Sound.tiles | apply Sound.qen | apply Sound.host | apply Sound.free | apply Sound.pending | apply And.intro)
      | simp only [Sound.mk_iff, TileOk.mk_iff, EvrOk.mk_iff, QenOk.mk_iff]
      | split

theorem State.updHost_sound {s : State} {h : Nat} {f : HostTgt → HostTgt} (hs : Sound s0 s) : Sound s0 (State.updHost s h f) := by
  unfold State.updHost
  repeat' first
      | (with_reducible first | assumption | intro _ | apply Sound.part | apply Sound.tiles | apply Sound.qen | apply Sound.host | apply Sound.free | apply Sound.pending | apply And.intro)
      | simp only [Sound.mk_iff, TileOk.mk_iff, EvrOk.mk_iff, QenOk.mk_iff]
      | split

theorem State.updCore_sound {s : State} {t c : Nat} {f : CoreTgt → CoreTgt} (hs : Sound s0 s) : Sound s0 (State.updCore s t c f) := by
  unfold State.updCore
  repeat' first
      | (with_reducible first | assumption | intro _ | apply State.updEvr_sound | apply EvrOk.log)
      | simp only [Sound.mk_iff, TileOk.mk_iff, EvrOk.mk_iff, QenOk.mk_iff]
      | split

theorem State.htTake_sound {s : State} {t h : Nat} (hs : Sound s0 s) : Sound s0 (State.htTake s t h) := by
  unfold State.htTake
  repeat' first
      | (with_reducible first | assumption | intro _ | apply State.updHost_sound | apply State.returns_sound | apply Sound.ite)
      | simp only [Sound.mk_iff, TileOk.mk_iff, EvrOk.mk_iff, QenOk.mk_iff]
      | split

theorem State.doneSrc_sound {s : State} {at_ t src : Nat} {cpri : State → State} (hs : Sound s0 s) (hcpri : ∀ s, Sound s0 s → Sound s0 (cpri s)) : Sound s0 (State.doneSrc s at_ t src cpri) := by
  unfold State.doneSrc
  split
  · exact hcpri _ (State.updSrc_sound hs)
  · exact State.updEvr_sound hs (fun e he => he)

theorem State.htDone_sound {s : State} {t h : Nat} {v : Nat} (hs : Sound s0 s) : Sound s0 (State.htDone s t h v) := by
  unfold State.htDone
  repeat' first
      | (with_reducible first | assumption | intro _ | apply State.doneSrc_sound | apply State.updHost_sound | apply Sound.ite)
      | simp only [Sound.mk_iff, TileOk.mk_iff, EvrOk.mk_iff, QenOk.mk_iff]
      | split

theorem State.coreTake_sound {s : State} {t c : Nat} (hs : Sound s0 s) : Sound s0 (State.coreTake s t c) := by
  unfold State.coreTake
  repeat' first
      | (with_reducible first | assumption | intro _ | apply State.updCore_sound | apply State.returns_sound | apply Sound.ite)
      | simp only [Sound.mk_iff, TileOk.mk_iff, EvrOk.mk_iff, QenOk.mk_iff]
      | split

theorem State.coreDone_sound {s : State} {t c : Nat} {v : Nat} (hs : Sound s0 s) : Sound s0 (State.coreDone s t c v) := by
  unfold State.coreDone
  repeat' first
      | (with_reducible first | assumption | intro _ | apply State.doneSrc_sound | apply State.updCore_sound | apply Sound.ite)
      | simp only [Sound.mk_iff, TileOk.mk_iff, EvrOk.mk_iff, QenOk.mk_iff]
      | split

theorem State.pendClear_sound {s : State} {t src : Nat} (hs : Sound s0 s) : Sound s0 (State.pendClear s t src) := by
  unfold State.pendClear
  repeat' first
      | (with_reducible first | assumption | intro _ | apply State.updSrc_sound | apply State.updEvr_sound | apply Sound.whenDue | apply Sound.part | apply Sound.tiles | apply Sound.qen | apply Sound.host | apply Sound.free | apply Sound.pending | apply EvrOk.log | apply And.intro)
      | simp only [Sound.mk_iff, TileOk.mk_iff, EvrOk.mk_iff, QenOk.mk_iff]
      | split

theorem State.clrCount_sound {s : State} {t src : Nat} (hs : Sound s0 s) : Sound s0 (State.clrCount s t src) := by
  unfold State.clrCount
  repeat' first
      | (with_reducible first | assumption | intro _ | apply State.updSrc_sound | apply Sound.whenDue)
      | simp only [Sound.mk_iff, TileOk.mk_iff, EvrOk.mk_iff, QenOk.mk_iff]
      | split

theorem State.occurrence_sound {s : State} {t : Tile} {src : Nat} {data : List Nat} (hs : Sound s0 s) : Sound s0 (State.occurrence s t src data) := by
  unfold State.occurrence
  repeat' first
      | (with_reducible first | assumption | intro _ | apply State.raise_sound | apply Sound.whenDue)
      | simp only [Sound.mk_iff, TileOk.mk_iff, EvrOk.mk_iff, QenOk.mk_iff]
      | split

theorem State.swset_sound {s : State} {t : Tile} {v : Nat} (hs : Sound s0 s) : Sound s0 (State.swset s t v) := by
  unfold State.swset
  repeat' first
      | (with_reducible first | assumption | intro _ | apply State.raise_sound | apply Sound.foldl | apply Sound.ite)
      | simp only [Sound.mk_iff, TileOk.mk_iff, EvrOk.mk_iff, QenOk.mk_iff]
      | split

theorem State.eviEdge_sound {s : State} {t : Tile} {i : Nat} (hs : Sound s0 s) : Sound s0 (State.eviEdge s t i) := by
  unfold State.eviEdge
  repeat' first
      | (with_reducible first | assumption | intro _ | apply State.updMot_sound | apply State.raise_sound | apply State.raiseAt_sound | apply Sound.ite)
      | simp only [Sound.mk_iff, TileOk.mk_iff, EvrOk.mk_iff, QenOk.mk_iff]
      | split

theorem Evr.retain_sound {e : Evr} (he : EvrOk s0 e) : EvrOk s0 (Evr.retain e) := by
  unfold Evr.retain
  repeat' first
      | (with_reducible first | assumption | intro _ | exact LogOk.nil)
      | simp only [Sound.mk_iff, TileOk.mk_iff, EvrOk.mk_iff, QenOk.mk_iff]
      | split

theorem State.evrRestore_sound {s : State} {t : Nat} (hs : Sound s0 s) : Sound s0 (State.evrRestore s t) := by
  unfold State.evrRestore
  repeat' first
      | (with_reducible first | assumption | intro _ | apply State.updEvr_sound | apply Evr.addLog_sound | apply EvrOk.foldl | apply EvrOk.log)
      | simp only [Sound.mk_iff, TileOk.mk_iff, EvrOk.mk_iff, QenOk.mk_iff]
      | split

/-! ## Session -/

theorem actSessionOpen_sound {s : State} {p : Packet} {bs : List Byte} (hs : Sound s0 s) : Sound s0 (actSessionOpen s p bs) := by
  unfold actSessionOpen
  split
  · exact State.done_sound hs
  · dsimp only
    split
    · exact State.done_sound hs
    · rename_i ws hw hn
      refine State.done_sound (State.raiseLead_sound (State.setSession_sound hs fun h0 => absurd ?_ hn))
      have h := hs.qen.sessions
      rw [SessOk] at h
      rw [State.session, h0]
      cases hv : vget s.qen.sessions 0 none with
      | none => rw [hv] at h; cases h
      | some x => rfl

theorem State.changeSession_sound {s : State} {n : Nat} {f : Session → Option Session} (hs : Sound s0 s) : Sound s0 (State.changeSession s n f) := by
  unfold State.changeSession
  split
  · exact hs
  · exact State.setSession_sound hs (fun h0 => absurd h0 (by assumption))

theorem State.closeQueued_sound {s : State} {sel : StoreEntry → Bool} (hs : Sound s0 s) : Sound s0 (State.closeQueued s sel) := by
  unfold State.closeQueued
  repeat' first
      | (with_reducible first | assumption | intro _ | apply State.done_sound | apply Sound.foldl)
      | simp only [Sound.mk_iff, TileOk.mk_iff, EvrOk.mk_iff, QenOk.mk_iff]
      | split

theorem State.settlePair_sound {s : State} {q : Nat} (hs : Sound s0 s) : Sound s0 (State.settlePair s q) := by
  unfold State.settlePair
  repeat' first
      | (with_reducible first | assumption | intro _ | apply State.done_sound | apply State.setPair_sound | apply Sound.ite)
      | simp only [Sound.mk_iff, TileOk.mk_iff, EvrOk.mk_iff, QenOk.mk_iff]
      | split

theorem State.settleSession_sound {s : State} {n : Nat} (hs : Sound s0 s) : Sound s0 (State.settleSession s n) := by
  unfold State.settleSession
  repeat' first
      | (with_reducible first | assumption | intro _ | apply State.changeSession_sound | apply State.done_sound | apply State.raiseLead_sound | apply Sound.part | apply Sound.tiles | apply Sound.qen | apply Sound.host | apply Sound.free | apply Sound.pending | apply QenOk.sessions | apply Sound.ite | apply And.intro)
      | simp only [Sound.mk_iff, TileOk.mk_iff, EvrOk.mk_iff, QenOk.mk_iff]
      | split

theorem State.settle_sound {s : State} {q n : Nat} (hs : Sound s0 s) : Sound s0 (State.settle s q n) := by
  unfold State.settle
  repeat' first
      | (with_reducible first | assumption | intro _ | apply State.settleSession_sound | apply State.settlePair_sound)
      | simp only [Sound.mk_iff, TileOk.mk_iff, EvrOk.mk_iff, QenOk.mk_iff]
      | split

theorem actSessionClose_sound {s : State} {p : Packet} {u1 : List Byte} (hs : Sound s0 s) : Sound s0 (actSessionClose s p u1) := by
  unfold actSessionClose
  repeat' first
      | (with_reducible first | assumption | intro _ | apply State.settleSession_sound | apply State.closeQueued_sound | apply State.changeSession_sound)
      | simp only [Sound.mk_iff, TileOk.mk_iff, EvrOk.mk_iff, QenOk.mk_iff]
      | split

theorem actSessionProt_sound {s : State} {p : Packet} {bs : List Byte} (hs : Sound s0 s) : Sound s0 (actSessionProt s p bs) := by
  unfold actSessionProt
  repeat' first
      | (with_reducible first | assumption | intro _ | apply State.changeSession_sound | apply State.done_sound | apply State.raiseLead_sound)
      | simp only [Sound.mk_iff, TileOk.mk_iff, EvrOk.mk_iff, QenOk.mk_iff]
      | split

theorem actSessionQueue_sound {s : State} {p : Packet} {u1 : List Byte} (hs : Sound s0 s) : Sound s0 (actSessionQueue s p u1) := by
  unfold actSessionQueue
  repeat' first
      | (with_reducible first | assumption | intro _ | apply State.done_sound | apply State.mirrorSend_sound | apply State.setPair_sound | apply State.putItem_sound)
      | simp only [Sound.mk_iff, TileOk.mk_iff, EvrOk.mk_iff, QenOk.mk_iff]
      | split

theorem actSessionQdelete_sound {s : State} {p : Packet} {u1 : List Byte} (hs : Sound s0 s) : Sound s0 (actSessionQdelete s p u1) := by
  unfold actSessionQdelete
  repeat' first
      | (with_reducible first | assumption | intro _ | apply State.settlePair_sound | apply State.closeQueued_sound | apply State.updPair_sound)
      | simp only [Sound.mk_iff, TileOk.mk_iff, EvrOk.mk_iff, QenOk.mk_iff]
      | split

theorem actSessionInfo_sound {s : State} {p : Packet} {u1 : List Byte} (hs : Sound s0 s) : Sound s0 (actSessionInfo s p u1) := by
  unfold actSessionInfo
  repeat' first
      | (with_reducible first | assumption | intro _ | apply State.reportQ_sound)
      | simp only [Sound.mk_iff, TileOk.mk_iff, EvrOk.mk_iff, QenOk.mk_iff]
      | split

theorem opSessionOpen_ok : OpOk s0 opSessionOpen := by
  refine ⟨fun s p bs h => ?_, fun s p bs h => ?_, fun s p h => ?_⟩ <;> simp only [opSessionOpen]
  all_goals repeat' first
    | (with_reducible first | assumption | intro _ | apply actSessionOpen_sound | apply noBind_sound | apply And.intro)
    | simp only [Sound.mk_iff, TileOk.mk_iff, EvrOk.mk_iff, QenOk.mk_iff]
    | split

theorem opSessionClose_ok : OpOk s0 opSessionClose := by
  refine ⟨fun s p bs h => ?_, fun s p bs h => ?_, fun s p h => ?_⟩ <;> simp only [opSessionClose]
  all_goals repeat' first
    | (with_reducible first | assumption | intro _ | apply actSessionClose_sound | apply noBind_sound | apply And.intro)
    | simp only [Sound.mk_iff, TileOk.mk_iff, EvrOk.mk_iff, QenOk.mk_iff]
    | split

theorem opSessionProt_ok : OpOk s0 opSessionProt := by
  refine ⟨fun s p bs h => ?_, fun s p bs h => ?_, fun s p h => ?_⟩ <;> simp only [opSessionProt]
  all_goals repeat' first
    | (with_reducible first | assumption | intro _ | apply actSessionProt_sound | apply noBind_sound | apply And.intro)
    | simp only [Sound.mk_iff, TileOk.mk_iff, EvrOk.mk_iff, QenOk.mk_iff]
    | split

theorem opSessionQueue_ok : OpOk s0 opSessionQueue := by
  refine ⟨fun s p bs h => ?_, fun s p bs h => ?_, fun s p h => ?_⟩ <;> simp only [opSessionQueue]
  all_goals repeat' first
    | (with_reducible first | assumption | intro _ | apply actSessionQueue_sound | apply noBind_sound | apply And.intro)
    | simp only [Sound.mk_iff, TileOk.mk_iff, EvrOk.mk_iff, QenOk.mk_iff]
    | split

theorem opSessionQdelete_ok : OpOk s0 opSessionQdelete := by
  refine ⟨fun s p bs h => ?_, fun s p bs h => ?_, fun s p h => ?_⟩ <;> simp only [opSessionQdelete]
  all_goals repeat' first
    | (with_reducible first | assumption | intro _ | apply actSessionQdelete_sound | apply noBind_sound | apply And.intro)
    | simp only [Sound.mk_iff, TileOk.mk_iff, EvrOk.mk_iff, QenOk.mk_iff]
    | split

theorem opSessionInfo_ok : OpOk s0 opSessionInfo := by
  refine ⟨fun s p bs h => ?_, fun s p bs h => ?_, fun s p h => ?_⟩ <;> simp only [opSessionInfo]
  all_goals repeat' first
    | (with_reducible first | assumption | intro _ | apply actSessionInfo_sound | apply noBind_sound | apply And.intro)
    | simp only [Sound.mk_iff, TileOk.mk_iff, EvrOk.mk_iff, QenOk.mk_iff]
    | split

/-! ## Queue -/

theorem State.strayBell_sound {s : State} {t : Nat} (hs : Sound s0 s) : Sound s0 (State.strayBell s t) := by
  unfold State.strayBell
  repeat' first
      | (with_reducible first | assumption | intro _ | apply Sound.part | apply Sound.tiles | apply Sound.qen | apply Sound.host | apply Sound.free | apply Sound.pending | apply QenOk.sessions | apply And.intro)
      | simp only [Sound.mk_iff, TileOk.mk_iff, EvrOk.mk_iff, QenOk.mk_iff]
      | split

theorem State.bell_sound {s : State} {t q : Nat} {f : QueuePair → State} (hs : Sound s0 s) (hf : ∀ q, Sound s0 (f q)) : Sound s0 (State.bell s t q f) := by
  unfold State.bell
  repeat' first
      | (with_reducible first | assumption | intro _ | apply State.strayBell_sound | apply hf | apply Sound.ite)
      | simp only [Sound.mk_iff, TileOk.mk_iff, EvrOk.mk_iff, QenOk.mk_iff]
      | split

theorem State.sqTail_sound {s : State} {t q v : Nat} (hs : Sound s0 s) : Sound s0 (State.sqTail s t q v) := by
  unfold State.sqTail
  repeat' first
      | (with_reducible first | assumption | intro _ | apply State.bell_sound | apply State.mirrorSend_sound | apply State.setPair_sound | apply State.raiseLead_sound | apply Sound.part | apply Sound.tiles | apply Sound.qen | apply Sound.host | apply Sound.free | apply Sound.pending | apply QenOk.sessions | apply Sound.ite | apply And.intro)
      | simp only [Sound.mk_iff, TileOk.mk_iff, EvrOk.mk_iff, QenOk.mk_iff]
      | split

theorem State.cqHead_sound {s : State} {t q v : Nat} (hs : Sound s0 s) : Sound s0 (State.cqHead s t q v) := by
  unfold State.cqHead
  repeat' first
      | (with_reducible first | assumption | intro _ | apply State.bell_sound | apply State.mirrorSend_sound | apply State.setPair_sound | apply State.raiseLead_sound | apply Sound.ite)
      | simp only [Sound.mk_iff, TileOk.mk_iff, EvrOk.mk_iff, QenOk.mk_iff]
      | split

theorem State.enStart_sound {s : State} (hs : Sound s0 s) : Sound s0 (State.enStart s) := by
  unfold State.enStart
  repeat' first
      | (with_reducible first | assumption | intro _ | apply State.mirrorSend_sound | apply State.setPair_sound | apply Sound.part | apply Sound.tiles | apply Sound.qen | apply Sound.host | apply Sound.free | apply Sound.pending | apply QenOk.sessions | apply And.intro)
      | simp only [Sound.mk_iff, TileOk.mk_iff, EvrOk.mk_iff, QenOk.mk_iff]
      | split

theorem State.enStop_sound {s : State} (hs : Sound s0 s) : Sound s0 (State.enStop s) := by
  unfold State.enStop
  repeat' first
      | (with_reducible first | assumption | intro _ | apply Sound.part | apply Sound.tiles | apply Sound.qen | apply Sound.host | apply Sound.free | apply Sound.pending | apply QenOk.sessions | apply And.intro)
      | simp only [Sound.mk_iff, TileOk.mk_iff, EvrOk.mk_iff, QenOk.mk_iff]
      | split

theorem State.enSet_sound {s : State} {t : Nat} (hs : Sound s0 s) : Sound s0 (State.enSet s t) := by
  unfold State.enSet
  repeat' first
      | (with_reducible first | assumption | intro _ | apply State.enStart_sound | apply Sound.ite)
      | simp only [Sound.mk_iff, TileOk.mk_iff, EvrOk.mk_iff, QenOk.mk_iff]
      | split

theorem State.enClear_sound {s : State} {t : Nat} (hs : Sound s0 s) : Sound s0 (State.enClear s t) := by
  unfold State.enClear
  repeat' first
      | (with_reducible first | assumption | intro _ | apply State.enStop_sound | apply Sound.ite)
      | simp only [Sound.mk_iff, TileOk.mk_iff, EvrOk.mk_iff, QenOk.mk_iff]
      | split

theorem State.writeEntry_sound {s : State} {q : Nat} {x : QueuePair} {e : StoreEntry} {epoch : Nat} (hs : Sound s0 s) : Sound s0 (State.writeEntry s q x e epoch) := by
  unfold State.writeEntry
  repeat' first
      | (with_reducible first | assumption | intro _ | apply State.mirrorSend_sound | apply State.setPair_sound | apply State.hostWrite_sound)
      | simp only [Sound.mk_iff, TileOk.mk_iff, EvrOk.mk_iff, QenOk.mk_iff]
      | split

theorem State.postOne_sound {s : State} {q : Nat} {x : QueuePair} {e : StoreEntry} (hs : Sound s0 s) : Sound s0 (State.postOne s q x e) := by
  unfold State.postOne
  repeat' first
      | (with_reducible first | assumption | intro _ | apply State.writeEntry_sound | apply State.settle_sound | apply State.countNotify_sound | apply State.setStore_sound | apply Sound.ite)
      | simp only [Sound.mk_iff, TileOk.mk_iff, EvrOk.mk_iff, QenOk.mk_iff]
      | split

theorem State.post_sound {s : State} {q : Nat} (hs : Sound s0 s) : Sound s0 (State.post s q) := by
  unfold State.post
  repeat' first
      | (with_reducible first | assumption | intro _ | apply State.postOne_sound | apply State.setPair_sound | apply State.raiseLead_sound | apply Sound.ite)
      | simp only [Sound.mk_iff, TileOk.mk_iff, EvrOk.mk_iff, QenOk.mk_iff]
      | split

theorem State.postAll_sound {s : State} {v0 : Nat} (hs : Sound s0 s) : Sound s0 (State.postAll s v0) := by
  induction v0 generalizing s with
  | zero => exact hs
  | succ k ih =>
    unfold State.postAll
    dsimp only
    split
    · exact hs
    · exact ih (State.post_sound hs)

theorem State.sendVec_sound {s : State} {v : Nat} (hs : Sound s0 s) : Sound s0 (State.sendVec s v) := by
  unfold State.sendVec
  repeat' first
      | (with_reducible first | assumption | intro _ | apply State.updMx_sound | apply State.updPort_sound | apply Sound.part | apply Sound.tiles | apply Sound.qen | apply Sound.host | apply Sound.free | apply Sound.pending | apply QenOk.sessions | apply Sound.ite | apply And.intro)
      | simp only [Sound.mk_iff, TileOk.mk_iff, EvrOk.mk_iff, QenOk.mk_iff]
      | split

theorem State.pbaRelease_sound {s : State} (hs : Sound s0 s) : Sound s0 (State.pbaRelease s) := by
  unfold State.pbaRelease
  repeat' first
      | (with_reducible first | assumption | intro _ | apply State.updMx_sound | apply Sound.part | apply Sound.tiles | apply Sound.qen | apply Sound.host | apply Sound.free | apply Sound.pending | apply QenOk.sessions | apply And.intro)
      | simp only [Sound.mk_iff, TileOk.mk_iff, EvrOk.mk_iff, QenOk.mk_iff]
      | split

theorem State.maskClear_sound {s : State} {v : Option Nat} (hs : Sound s0 s) : Sound s0 (State.maskClear s v) := by
  unfold State.maskClear
  repeat' first
      | (with_reducible first | assumption | intro _ | apply State.pbaRelease_sound | apply State.sendVec_sound | apply State.updMx_sound | apply State.updPort_sound | apply Sound.foldl)
      | simp only [Sound.mk_iff, TileOk.mk_iff, EvrOk.mk_iff, QenOk.mk_iff]
      | split

theorem State.windowExpiry_sound {s : State} {q : Nat} (hs : Sound s0 s) : Sound s0 (State.windowExpiry s q) := by
  unfold State.windowExpiry
  repeat' first
      | (with_reducible first | assumption | intro _ | apply State.closeExpired_sound)
      | simp only [Sound.mk_iff, TileOk.mk_iff, EvrOk.mk_iff, QenOk.mk_iff]
      | split

theorem State.d3hot_sound {s : State} {p : Nat} (hs : Sound s0 s) : Sound s0 (State.d3hot s p) := by
  unfold State.d3hot
  repeat' first
      | (with_reducible first | assumption | intro _ | apply State.updPort_sound | apply Sound.part | apply Sound.tiles | apply Sound.qen | apply Sound.host | apply Sound.free | apply Sound.pending | apply QenOk.sessions | apply Sound.ite | apply And.intro)
      | simp only [Sound.mk_iff, TileOk.mk_iff, EvrOk.mk_iff, QenOk.mk_iff]
      | split

theorem State.d3cold_sound {s : State} {p : Nat} (hs : Sound s0 s) : Sound s0 (State.d3cold s p) := by
  unfold State.d3cold
  repeat' first
      | (with_reducible first | assumption | intro _ | apply State.updPort_sound)
      | simp only [Sound.mk_iff, TileOk.mk_iff, EvrOk.mk_iff, QenOk.mk_iff]
      | split

theorem State.d0Return_sound {s : State} {p : Nat} (hs : Sound s0 s) : Sound s0 (State.d0Return s p) := by
  unfold State.d0Return
  repeat' first
      | (with_reducible first | assumption | intro _ | apply State.pbaRelease_sound | apply State.sendVec_sound | apply State.postAll_sound | apply State.updPort_sound | apply Sound.foldl | apply Sound.ite)
      | simp only [Sound.mk_iff, TileOk.mk_iff, EvrOk.mk_iff, QenOk.mk_iff]
      | split

theorem State.perst_sound {s : State} {p : Nat} (hs : Sound s0 s) : Sound s0 (State.perst s p) := by
  unfold State.perst
  repeat' first
      | (with_reducible first | assumption | intro _ | apply State.updPort_sound)
      | simp only [Sound.mk_iff, TileOk.mk_iff, EvrOk.mk_iff, QenOk.mk_iff]
      | split

theorem State.configRequest_sound {s : State} {p : Nat} (hs : Sound s0 s) : Sound s0 (State.configRequest s p) := by
  unfold State.configRequest
  repeat' first
      | (with_reducible first | assumption | intro _ | apply State.updPort_sound)
      | simp only [Sound.mk_iff, TileOk.mk_iff, EvrOk.mk_iff, QenOk.mk_iff]
      | split

theorem State.setMirror_sound {s : State} {m : MirrorQ} (hs : Sound s0 s) : Sound s0 (State.setMirror s m) := by
  unfold State.setMirror
  repeat' first
      | (with_reducible first | assumption | intro _ | apply Sound.part | apply Sound.tiles | apply Sound.qen | apply Sound.host | apply Sound.free | apply Sound.pending | apply QenOk.sessions | apply And.intro)
      | simp only [Sound.mk_iff, TileOk.mk_iff, EvrOk.mk_iff, QenOk.mk_iff]
      | split

theorem State.mirrorReceive_sound {s : State} (hs : Sound s0 s) : Sound s0 (State.mirrorReceive s) := by
  unfold State.mirrorReceive
  repeat' first
      | (with_reducible first | assumption | intro _ | apply State.setMirror_sound | apply State.updMx_sound | apply Sound.part | apply Sound.tiles | apply Sound.qen | apply Sound.host | apply Sound.free | apply Sound.pending | apply QenOk.sessions | apply And.intro)
      | simp only [Sound.mk_iff, TileOk.mk_iff, EvrOk.mk_iff, QenOk.mk_iff]
      | split

theorem State.mirrorDrain_sound {s : State} (hs : Sound s0 s) : Sound s0 (State.mirrorDrain s) := by
  unfold State.mirrorDrain
  repeat' first
      | (with_reducible first | assumption | intro _ | apply State.mirrorReceive_sound | apply Sound.foldl)
      | simp only [Sound.mk_iff, TileOk.mk_iff, EvrOk.mk_iff, QenOk.mk_iff]
      | split

theorem State.rewriteRing_sound {s : State} {m : MirrorQ} (hs : Sound s0 s) : Sound s0 (State.rewriteRing s m) := by
  unfold State.rewriteRing
  repeat' first
      | (with_reducible first | assumption | intro _ | apply State.hostWrite_sound | apply Sound.foldl)
      | simp only [Sound.mk_iff, TileOk.mk_iff, EvrOk.mk_iff, QenOk.mk_iff]
      | split

theorem State.cancel_sound {s : State} {seq : Nat} (hs : Sound s0 s) : Sound s0 (State.cancel s seq) := by
  unfold State.cancel
  repeat' first
      | (with_reducible first | assumption | intro _ | apply State.undoChange_sound | apply State.freeFences_sound | apply Sound.part | apply Sound.tiles | apply Sound.qen | apply Sound.host | apply Sound.free | apply Sound.pending | apply And.intro)
      | simp only [Sound.mk_iff, TileOk.mk_iff, EvrOk.mk_iff, QenOk.mk_iff]
      | split

theorem State.resumeEntry_sound {s : State} {e : StoreEntry} (hs : Sound s0 s) : Sound s0 (State.resumeEntry s e) := by
  unfold State.resumeEntry
  repeat' first
      | (with_reducible first | assumption | intro _ | apply State.cancel_sound | apply State.doneLine_sound | apply State.done_sound)
      | simp only [Sound.mk_iff, TileOk.mk_iff, EvrOk.mk_iff, QenOk.mk_iff]
      | split

theorem State.resumeQueues_sound {s : State} (hs : Sound s0 s) : Sound s0 (State.resumeQueues s) := by
  unfold State.resumeQueues
  repeat' first
      | (with_reducible first | assumption | intro _ | apply State.resumeEntry_sound | apply State.rewriteRing_sound | apply State.mirrorDrain_sound | apply State.vecDue_sound | apply Sound.foldl | apply Sound.part | apply Sound.tiles | apply Sound.qen | apply Sound.host | apply Sound.free | apply Sound.pending | apply QenOk.sessions | apply And.intro)
      | simp only [Sound.mk_iff, TileOk.mk_iff, EvrOk.mk_iff, QenOk.mk_iff]
      | split

/-! ## Scan -/

theorem State.scanArm_sound {s : State} (hs : Sound s0 s) : Sound s0 (State.scanArm s) := by
  unfold State.scanArm
  repeat' first
      | (with_reducible first | assumption | intro _ | apply Sound.forEach | apply Sound.updTileN | apply Sound.tileN | apply TileOk.mem | apply TileOk.evr | apply And.intro)
      | simp only [Sound.mk_iff, TileOk.mk_iff, EvrOk.mk_iff, QenOk.mk_iff]
      | split

theorem State.moveBar_sound {s : State} {t b : Nat} {alt : Bool} (hs : Sound s0 s) : Sound s0 (State.moveBar s t b alt) := by
  unfold State.moveBar
  repeat' first
      | (with_reducible first | assumption | intro _ | apply State.raiseN_sound | apply Sound.updTileN | apply Sound.tileN | apply TileOk.mem | apply TileOk.evr | apply Sound.ite | apply And.intro)
      | simp only [Sound.mk_iff, TileOk.mk_iff, EvrOk.mk_iff, QenOk.mk_iff]
      | split

theorem State.laneLost_sound {s : State} {t l : Nat} (hs : Sound s0 s) : Sound s0 (State.laneLost s t l) := by
  unfold State.laneLost
  repeat' first
      | (with_reducible first | assumption | intro _ | apply State.moveBar_sound | apply Sound.forEach | apply Sound.ite)
      | simp only [Sound.mk_iff, TileOk.mk_iff, EvrOk.mk_iff, QenOk.mk_iff]
      | split

theorem actLinkRemap_sound {s : State} {p : Packet} {u1 : List Byte} (hs : Sound s0 s) : Sound s0 (actLinkRemap s p u1) := by
  unfold actLinkRemap
  repeat' first
      | (with_reducible first | assumption | intro _ | apply State.moveBar_sound | apply State.done_sound | apply Sound.forEach)
      | simp only [Sound.mk_iff, TileOk.mk_iff, EvrOk.mk_iff, QenOk.mk_iff]
      | split

theorem opLinkRemap_ok : OpOk s0 opLinkRemap := by
  refine ⟨fun s p bs h => ?_, fun s p bs h => ?_, fun s p h => ?_⟩ <;> simp only [opLinkRemap]
  all_goals repeat' first
    | (with_reducible first | assumption | intro _ | apply actLinkRemap_sound | apply noBind_sound | apply And.intro)
    | simp only [Sound.mk_iff, TileOk.mk_iff, EvrOk.mk_iff, QenOk.mk_iff]
    | split

theorem opLinkScan_ok : OpOk s0 opLinkScan := by
  refine ⟨fun s p bs h => ?_, fun s p bs h => ?_, fun s p h => ?_⟩ <;> simp only [opLinkScan]
  all_goals repeat' first
    | (with_reducible first | assumption | intro _ | apply noBind_sound | apply State.reportQ_sound | apply And.intro)
    | simp only [Sound.mk_iff, TileOk.mk_iff, EvrOk.mk_iff, QenOk.mk_iff]
    | split

/-! ## Lanes -/

theorem State.tallyLane_sound {s : State} {t l k : Nat} (hs : Sound s0 s) : Sound s0 (State.tallyLane s t l k) := by
  unfold State.tallyLane
  repeat' first
      | (with_reducible first | assumption | intro _ | apply Sound.updTileN | apply Sound.tileN | apply TileOk.mem | apply TileOk.evr | apply And.intro)
      | simp only [Sound.mk_iff, TileOk.mk_iff, EvrOk.mk_iff, QenOk.mk_iff]
      | split

theorem State.lockAcquired_sound {s : State} {t l : Nat} (hs : Sound s0 s) : Sound s0 (State.lockAcquired s t l) := by
  unfold State.lockAcquired
  repeat' first
      | (with_reducible first | assumption | intro _ | apply State.updLnk_sound | apply Sound.whenDue)
      | simp only [Sound.mk_iff, TileOk.mk_iff, EvrOk.mk_iff, QenOk.mk_iff]
      | split

theorem State.discard_sound {s : State} {t l k : Nat} (hs : Sound s0 s) : Sound s0 (State.discard s t l k) := by
  unfold State.discard
  repeat' first
      | (with_reducible first | assumption | intro _ | apply State.tallyLane_sound | apply State.updLnk_sound)
      | simp only [Sound.mk_iff, TileOk.mk_iff, EvrOk.mk_iff, QenOk.mk_iff]
      | split

theorem State.lockLost_sound {s : State} {t l : Nat} (hs : Sound s0 s) : Sound s0 (State.lockLost s t l) := by
  unfold State.lockLost
  repeat' first
      | (with_reducible first | assumption | intro _ | apply State.discard_sound | apply State.updLnk_sound | apply Sound.whenDue | apply Sound.ite)
      | simp only [Sound.mk_iff, TileOk.mk_iff, EvrOk.mk_iff, QenOk.mk_iff]
      | split

theorem State.trainLane_sound {s : State} {t l : Nat} (hs : Sound s0 s) : Sound s0 (State.trainLane s t l) := by
  unfold State.trainLane
  repeat' first
      | (with_reducible first | assumption | intro _ | apply State.updLnk_sound)
      | simp only [Sound.mk_iff, TileOk.mk_iff, EvrOk.mk_iff, QenOk.mk_iff]
      | split

theorem State.endAction_sound {s : State} {t l status : Nat} (hs : Sound s0 s) : Sound s0 (State.endAction s t l status) := by
  unfold State.endAction
  repeat' first
      | (with_reducible first | assumption | intro _ | apply State.updLnk_sound | apply State.done_sound)
      | simp only [Sound.mk_iff, TileOk.mk_iff, EvrOk.mk_iff, QenOk.mk_iff]
      | split

theorem State.trained_sound {s : State} {t l : Nat} {e : Eye} (hs : Sound s0 s) : Sound s0 (State.trained s t l e) := by
  unfold State.trained
  repeat' first
      | (with_reducible first | assumption | intro _ | apply State.endAction_sound | apply State.updLnk_sound | apply State.raiseN_sound | apply Sound.ite)
      | simp only [Sound.mk_iff, TileOk.mk_iff, EvrOk.mk_iff, QenOk.mk_iff]
      | split

theorem State.trainFailed_sound {s : State} {t l : Nat} {e : Eye} (hs : Sound s0 s) : Sound s0 (State.trainFailed s t l e) := by
  unfold State.trainFailed
  repeat' first
      | (with_reducible first | assumption | intro _ | apply State.endAction_sound | apply State.tallyLane_sound | apply State.updLnk_sound | apply State.raiseN_sound | apply Sound.ite)
      | simp only [Sound.mk_iff, TileOk.mk_iff, EvrOk.mk_iff, QenOk.mk_iff]
      | split

theorem State.loseQueued_sound {s : State} {t l : Nat} (hs : Sound s0 s) : Sound s0 (State.loseQueued s t l) := by
  unfold State.loseQueued
  repeat' first
      | (with_reducible first | assumption | intro _ | apply Sound.updTileN | apply Sound.tileN | apply TileOk.mem | apply TileOk.evr | apply And.intro)
      | simp only [Sound.mk_iff, TileOk.mk_iff, EvrOk.mk_iff, QenOk.mk_iff]
      | split

theorem State.laneDown_sound {s : State} {t l cause : Nat} (hs : Sound s0 s) : Sound s0 (State.laneDown s t l cause) := by
  unfold State.laneDown
  repeat' first
      | (with_reducible first | assumption | intro _ | apply State.loseQueued_sound | apply State.endAction_sound | apply State.tallyLane_sound | apply State.laneLost_sound | apply State.updLnk_sound | apply State.raiseN_sound | apply Sound.ite)
      | simp only [Sound.mk_iff, TileOk.mk_iff, EvrOk.mk_iff, QenOk.mk_iff]
      | split

theorem State.retrainTimer_sound {s : State} {t l : Nat} (hs : Sound s0 s) : Sound s0 (State.retrainTimer s t l) := by
  unfold State.retrainTimer
  repeat' first
      | (with_reducible first | assumption | intro _ | apply State.updLnk_sound | apply Sound.whenDue)
      | simp only [Sound.mk_iff, TileOk.mk_iff, EvrOk.mk_iff, QenOk.mk_iff]
      | split

theorem State.rxEnded_sound {s : State} {t l : Nat} {f : RxFrame} (hs : Sound s0 s) : Sound s0 (State.rxEnded s t l f).1 := by
  unfold State.rxEnded
  repeat' first
      | (with_reducible first | assumption | intro _ | apply State.discard_sound | apply State.updLnk_sound | apply State.raiseN_sound | apply State.nextFree_sound)
      | simp only [Sound.mk_iff, TileOk.mk_iff, EvrOk.mk_iff, QenOk.mk_iff]
      | split

theorem State.laneAwake_sound {s : State} {t l : Nat} {rx : Bool} (hs : Sound s0 s) : Sound s0 (State.laneAwake s t l rx) := by
  unfold State.laneAwake
  repeat' first
      | (with_reducible first | assumption | intro _ | apply State.endAction_sound | apply State.updLnk_sound | apply State.raiseN_sound | apply Sound.ite)
      | simp only [Sound.mk_iff, TileOk.mk_iff, EvrOk.mk_iff, QenOk.mk_iff]
      | split

theorem actLinkLane_sound {s : State} {p : Packet} {u1 : List Byte} (hs : Sound s0 s) : Sound s0 (actLinkLane s p u1) := by
  unfold actLinkLane
  repeat' first
      | (with_reducible first | assumption | intro _ | apply State.trainLane_sound | apply State.updLnk_sound | apply State.run_sound | apply State.done_sound | apply State.putItem_sound | apply State.raiseN_sound | apply Sound.ite)
      | simp only [Sound.mk_iff, TileOk.mk_iff, EvrOk.mk_iff, QenOk.mk_iff]
      | split

theorem actLinkTest_sound {s : State} {p : Packet} {u1 : List Byte} (hs : Sound s0 s) : Sound s0 (actLinkTest s p u1) := by
  unfold actLinkTest
  repeat' first
      | (with_reducible first | assumption | intro _ | apply State.updLnk_sound | apply State.run_sound)
      | simp only [Sound.mk_iff, TileOk.mk_iff, EvrOk.mk_iff, QenOk.mk_iff]
      | split

theorem State.testInject_sound {s : State} {t l : Nat} (hs : Sound s0 s) : Sound s0 (State.testInject s t l) := by
  unfold State.testInject
  repeat' first
      | (with_reducible first | assumption | intro _ | apply State.updLnk_sound | apply Sound.whenDue)
      | simp only [Sound.mk_iff, TileOk.mk_iff, EvrOk.mk_iff, QenOk.mk_iff]
      | split

theorem State.testDone_sound {s : State} {t l errors losses : Nat} {locked : Bool} (hs : Sound s0 s) : Sound s0 (State.testDone s t l errors losses locked) := by
  unfold State.testDone
  repeat' first
      | (with_reducible first | assumption | intro _ | apply State.trainLane_sound | apply State.updLnk_sound | apply State.complete_sound | apply State.raiseN_sound | apply Sound.ite)
      | simp only [Sound.mk_iff, TileOk.mk_iff, EvrOk.mk_iff, QenOk.mk_iff]
      | split

theorem State.lnkClrCnt_sound {s : State} {t l : Nat} (hs : Sound s0 s) : Sound s0 (State.lnkClrCnt s t l) := by
  unfold State.lnkClrCnt
  repeat' first
      | (with_reducible first | assumption | intro _ | apply State.updLnk_sound | apply Sound.whenDue)
      | simp only [Sound.mk_iff, TileOk.mk_iff, EvrOk.mk_iff, QenOk.mk_iff]
      | split

theorem State.lnkClrTest_sound {s : State} {t l : Nat} (hs : Sound s0 s) : Sound s0 (State.lnkClrTest s t l) := by
  unfold State.lnkClrTest
  repeat' first
      | (with_reducible first | assumption | intro _ | apply State.updLnk_sound | apply Sound.whenDue)
      | simp only [Sound.mk_iff, TileOk.mk_iff, EvrOk.mk_iff, QenOk.mk_iff]
      | split

theorem opLinkLane_ok : OpOk s0 opLinkLane := by
  refine ⟨fun s p bs h => ?_, fun s p bs h => ?_, fun s p h => ?_⟩ <;> simp only [opLinkLane]
  all_goals repeat' first
    | (with_reducible first | assumption | intro _ | apply actLinkLane_sound | apply noBind_sound | apply And.intro)
    | simp only [Sound.mk_iff, TileOk.mk_iff, EvrOk.mk_iff, QenOk.mk_iff]
    | split

theorem opLinkTest_ok : OpOk s0 opLinkTest := by
  refine ⟨fun s p bs h => ?_, fun s p bs h => ?_, fun s p h => ?_⟩ <;> simp only [opLinkTest]
  all_goals repeat' first
    | (with_reducible first | assumption | intro _ | apply actLinkTest_sound | apply noBind_sound | apply And.intro)
    | simp only [Sound.mk_iff, TileOk.mk_iff, EvrOk.mk_iff, QenOk.mk_iff]
    | split

end Sys2Proof.Machine
end

