-- ==== Sys2Proof/Laws/SoundTwin.lean ====
section
/-! SUPPORT. Every operation of twins, strips, the DRAM controller, ports and power keeps the package sound (Laws/Sound.lean). -/

set_option linter.all false

namespace Sys2Proof.Machine

/-! ## Twin -/

theorem State.setTwinBy_sound {s : State} {seen t : Nat} {new : TwinSt} {cause line : Nat} (hs : Sound s0 s) : Sound s0 (State.setTwinBy s seen t new cause line) := by
  unfold State.setTwinBy
  repeat' first
      | (with_reducible first | assumption | intro _ | apply State.roleBack_sound | apply State.raiseN_sound | apply Sound.updTileN | apply Sound.tileN | apply TileOk.mem | apply TileOk.evr | apply Sound.ite | apply And.intro)
      | simp only [Sound.mk_iff, TileOk.mk_iff, EvrOk.mk_iff, QenOk.mk_iff]
      | split

theorem State.setTwin_sound {s : State} {t : Nat} {new : TwinSt} {cause line : Nat} (hs : Sound s0 s) : Sound s0 (State.setTwin s t new cause line) := by
  unfold State.setTwin
  repeat' first
      | (with_reducible first | assumption | intro _ | apply State.setTwinBy_sound)
      | simp only [Sound.mk_iff, TileOk.mk_iff, EvrOk.mk_iff, QenOk.mk_iff]
      | split

theorem State.rejectDark_sound {s : State} {k lo hi : Nat} (hs : Sound s0 s) : Sound s0 (State.rejectDark s k lo hi) := by
  unfold State.rejectDark
  repeat' first
      | (with_reducible first | assumption | intro _ | apply State.rejectIf_sound | apply Sound.ite)
      | simp only [Sound.mk_iff, TileOk.mk_iff, EvrOk.mk_iff, QenOk.mk_iff]
      | split

theorem State.checkDark_sound {s : State} {k line : Nat} (hs : Sound s0 s) : Sound s0 (State.checkDark s k line) := by
  unfold State.checkDark
  repeat' first
      | (with_reducible first | assumption | intro _ | apply State.rejectDark_sound | apply State.raiseLead_sound | apply Sound.ite)
      | simp only [Sound.mk_iff, TileOk.mk_iff, EvrOk.mk_iff, QenOk.mk_iff]
      | split

theorem State.motionAfter_sound {s : State} {t : Nat} (hs : Sound s0 s) : Sound s0 (State.motionAfter s t) := by
  unfold State.motionAfter
  repeat' first
      | (with_reducible first | assumption | intro _ | apply State.motionRole_sound | apply State.roleToT1_sound | apply State.updMot_sound | apply Sound.ite)
      | simp only [Sound.mk_iff, TileOk.mk_iff, EvrOk.mk_iff, QenOk.mk_iff]
      | split

theorem State.withdrawBy_sound {s : State} {seen t cause : Nat} (hs : Sound s0 s) : Sound s0 (State.withdrawBy s seen t cause) := by
  unfold State.withdrawBy
  repeat' first
      | (with_reducible first | assumption | intro _ | apply State.motionAfter_sound | apply State.checkDark_sound | apply State.setTwinBy_sound | apply State.disarmSettle_sound | apply State.dropAcks_sound | apply State.done_sound | apply Sound.updTileN | apply Sound.tileN | apply TileOk.mem | apply TileOk.evr | apply Sound.ite | apply And.intro)
      | simp only [Sound.mk_iff, TileOk.mk_iff, EvrOk.mk_iff, QenOk.mk_iff]
      | split

theorem State.withdraw_sound {s : State} {t cause : Nat} (hs : Sound s0 s) : Sound s0 (State.withdraw s t cause) := by
  unfold State.withdraw
  repeat' first
      | (with_reducible first | assumption | intro _ | apply State.withdrawBy_sound)
      | simp only [Sound.mk_iff, TileOk.mk_iff, EvrOk.mk_iff, QenOk.mk_iff]
      | split

theorem State.partnerWithdrew_sound {s : State} {t : Nat} (hs : Sound s0 s) : Sound s0 (State.partnerWithdrew s t) := by
  unfold State.partnerWithdrew
  repeat' first
      | (with_reducible first | assumption | intro _ | apply State.setTwin_sound | apply Sound.whenDue | apply Sound.updTileN | apply Sound.tileN | apply TileOk.mem | apply TileOk.evr | apply Sound.ite | apply And.intro)
      | simp only [Sound.mk_iff, TileOk.mk_iff, EvrOk.mk_iff, QenOk.mk_iff]
      | split

theorem State.takeCommits_sound {s : State} {t : Nat} (hs : Sound s0 s) : Sound s0 (State.takeCommits s t) := by
  unfold State.takeCommits
  repeat' first
      | (with_reducible first | assumption | intro _ | apply Sound.updTileN | apply Sound.tileN | apply TileOk.mem | apply TileOk.evr | apply And.intro)
      | simp only [Sound.mk_iff, TileOk.mk_iff, EvrOk.mk_iff, QenOk.mk_iff]
      | split

theorem State.armTile_sound {s : State} {t : Nat} {st : TwinSt} (hs : Sound s0 s) : Sound s0 (State.armTile s t st) := by
  unfold State.armTile
  repeat' first
      | (with_reducible first | assumption | intro _ | apply State.takeCommits_sound | apply State.setTwin_sound)
      | simp only [Sound.mk_iff, TileOk.mk_iff, EvrOk.mk_iff, QenOk.mk_iff]
      | split

theorem State.armTwin_sound {s : State} {k : Nat} (hs : Sound s0 s) : Sound s0 (State.armTwin s k) := by
  unfold State.armTwin
  repeat' first
      | (with_reducible first | assumption | intro _ | apply State.armTile_sound | apply Sound.ite)
      | simp only [Sound.mk_iff, TileOk.mk_iff, EvrOk.mk_iff, QenOk.mk_iff]
      | split

theorem State.armTwins_sound {s : State} (hs : Sound s0 s) : Sound s0 (State.armTwins s) := by
  unfold State.armTwins
  repeat' first
      | (with_reducible first | assumption | intro _ | apply State.armTwin_sound | apply Sound.foldl | apply Sound.ite)
      | simp only [Sound.mk_iff, TileOk.mk_iff, EvrOk.mk_iff, QenOk.mk_iff]
      | split

theorem State.armSettle_sound {s : State} (hs : Sound s0 s) : Sound s0 (State.armSettle s) := by
  unfold State.armSettle
  repeat' first
      | (with_reducible first | assumption | intro _ | apply State.doneLine_sound | apply Sound.part | apply Sound.tiles | apply Sound.qen | apply Sound.host | apply Sound.free | apply Sound.pending | apply Sound.ite | apply And.intro)
      | simp only [Sound.mk_iff, TileOk.mk_iff, EvrOk.mk_iff, QenOk.mk_iff]
      | split

theorem State.commitPrepared_sound {s : State} {t : Tile} {cseq : Nat} (hs : Sound s0 s) : Sound s0 (State.commitPrepared s t cseq) := by
  unfold State.commitPrepared
  repeat' first
      | (with_reducible first | assumption | intro _ | apply State.prepareReceive_sound)
      | simp only [Sound.mk_iff, TileOk.mk_iff, EvrOk.mk_iff, QenOk.mk_iff]
      | split

theorem State.commitAcked_sound {s : State} {t : Tile} {cseq : Nat} (hs : Sound s0 s) : Sound s0 (State.commitAcked s t cseq) := by
  unfold State.commitAcked
  repeat' first
      | (with_reducible first | assumption | intro _ | apply State.armSettle_sound | apply State.disarmSettle_sound | apply State.ackReceive_sound)
      | simp only [Sound.mk_iff, TileOk.mk_iff, EvrOk.mk_iff, QenOk.mk_iff]
      | split

theorem State.moveLead_sound {s : State} {t : Nat} (hs : Sound s0 s) : Sound s0 (State.moveLead s t) := by
  unfold State.moveLead
  repeat' first
      | (with_reducible first | assumption | intro _ | apply State.calSettle_sound | apply Sound.part | apply Sound.tiles | apply Sound.qen | apply Sound.host | apply Sound.free | apply Sound.pending | apply And.intro)
      | simp only [Sound.mk_iff, TileOk.mk_iff, EvrOk.mk_iff, QenOk.mk_iff]
      | split

theorem State.takeover_sound {s : State} {reason : Nat} (hs : Sound s0 s) : Sound s0 (State.takeover s reason) := by
  unfold State.takeover
  repeat' first
      | (with_reducible first | assumption | intro _ | apply State.moveLead_sound | apply State.raiseLead_sound | apply Sound.part | apply Sound.tiles | apply Sound.qen | apply Sound.host | apply Sound.free | apply Sound.pending | apply QenOk.sessions | apply And.intro)
      | simp only [Sound.mk_iff, TileOk.mk_iff, EvrOk.mk_iff, QenOk.mk_iff]
      | split

theorem State.leadFails_sound {s : State} {t reason : Nat} (hs : Sound s0 s) : Sound s0 (State.leadFails s t reason) := by
  unfold State.leadFails
  repeat' first
      | (with_reducible first | assumption | intro _ | apply State.takeover_sound | apply State.moveLead_sound | apply State.settleBoundary_sound | apply State.disarmSettle_sound | apply State.prepareHeld_sound | apply Sound.ite)
      | simp only [Sound.mk_iff, TileOk.mk_iff, EvrOk.mk_iff, QenOk.mk_iff]
      | split

theorem State.resumeHost_sound {s : State} (hs : Sound s0 s) : Sound s0 (State.resumeHost s) := by
  unfold State.resumeHost
  repeat' first
      | (with_reducible first | assumption | intro _ | apply State.resumeQueues_sound | apply Sound.updTileN | apply Sound.tileN | apply TileOk.mem | apply TileOk.evr | apply And.intro)
      | simp only [Sound.mk_iff, TileOk.mk_iff, EvrOk.mk_iff, QenOk.mk_iff]
      | split

theorem State.coldStarted_sound {s : State} (hs : Sound s0 s) : Sound s0 (State.coldStarted s) := by
  unfold State.coldStarted
  repeat' first
      | (with_reducible first | assumption | intro _ | apply State.resumeHost_sound | apply State.updPort_sound | apply State.raiseLead_sound | apply Sound.updTileN | apply Sound.tileN | apply Sound.part | apply Sound.tiles | apply Sound.qen | apply Sound.host | apply Sound.free | apply Sound.pending | apply TileOk.mem | apply TileOk.evr | apply Sound.ite | apply And.intro)
      | simp only [Sound.mk_iff, TileOk.mk_iff, EvrOk.mk_iff, QenOk.mk_iff]
      | split

theorem State.portRetry_sound {s : State} {ok : Bool} (hs : Sound s0 s) : Sound s0 (State.portRetry s ok) := by
  unfold State.portRetry
  repeat' first
      | (with_reducible first | assumption | intro _ | apply State.resumeHost_sound | apply State.updPort_sound | apply Sound.whenDue)
      | simp only [Sound.mk_iff, TileOk.mk_iff, EvrOk.mk_iff, QenOk.mk_iff]
      | split

theorem State.linkState_sound {s : State} {p st : Nat} (hs : Sound s0 s) : Sound s0 (State.linkState s p st) := by
  unfold State.linkState
  repeat' first
      | (with_reducible first | assumption | intro _ | apply State.resumeHost_sound | apply State.updPort_sound | apply Sound.ite)
      | simp only [Sound.mk_iff, TileOk.mk_iff, EvrOk.mk_iff, QenOk.mk_iff]
      | split

theorem State.handover_sound {s : State} {seq : Nat} (hs : Sound s0 s) : Sound s0 (State.handover s seq) := by
  unfold State.handover
  repeat' first
      | (with_reducible first | assumption | intro _ | apply State.moveLead_sound | apply State.updCal_sound | apply Sound.part | apply Sound.tiles | apply Sound.qen | apply Sound.host | apply Sound.free | apply Sound.pending | apply Sound.ite | apply And.intro)
      | simp only [Sound.mk_iff, TileOk.mk_iff, EvrOk.mk_iff, QenOk.mk_iff]
      | split

theorem State.takeback_sound {s : State} (hs : Sound s0 s) : Sound s0 (State.takeback s) := by
  unfold State.takeback
  repeat' first
      | (with_reducible first | assumption | intro _ | apply State.handover_sound | apply Sound.whenDue)
      | simp only [Sound.mk_iff, TileOk.mk_iff, EvrOk.mk_iff, QenOk.mk_iff]
      | split

theorem State.handoverEnd_sound {s : State} (hs : Sound s0 s) : Sound s0 (State.handoverEnd s) := by
  unfold State.handoverEnd
  repeat' first
      | (with_reducible first | assumption | intro _ | apply State.settleBoundary_sound | apply State.disarmSettle_sound | apply State.prepareHeld_sound | apply State.raiseLead_sound | apply Sound.whenDue | apply Sound.part | apply Sound.tiles | apply Sound.qen | apply Sound.host | apply Sound.free | apply Sound.pending | apply And.intro)
      | simp only [Sound.mk_iff, TileOk.mk_iff, EvrOk.mk_iff, QenOk.mk_iff]
      | split

theorem State.captured_sound {s : State} (hs : Sound s0 s) : Sound s0 (State.captured s) := by
  unfold State.captured
  repeat' first
      | (with_reducible first | assumption | intro _ | apply Sound.updTileN | apply Sound.tileN | apply Sound.part | apply Sound.tiles | apply Sound.qen | apply Sound.host | apply Sound.free | apply Sound.pending | apply TileOk.mem | apply TileOk.evr | apply And.intro)
      | simp only [Sound.mk_iff, TileOk.mk_iff, EvrOk.mk_iff, QenOk.mk_iff]
      | split

theorem State.preserveCapture_sound {s : State} (hs : Sound s0 s) : Sound s0 (State.preserveCapture s) := by
  unfold State.preserveCapture
  repeat' first
      | (with_reducible first | assumption | intro _ | apply State.captured_sound | apply Sound.whenDue | apply Sound.part | apply Sound.tiles | apply Sound.qen | apply Sound.host | apply Sound.free | apply Sound.pending | apply And.intro)
      | simp only [Sound.mk_iff, TileOk.mk_iff, EvrOk.mk_iff, QenOk.mk_iff]
      | split

theorem TileState.assay_sound {x : TileState} {c : Nat} {ok : Bool} (hx : TileOk s0 x) : TileOk s0 (TileState.assay x c ok) := by
  unfold TileState.assay
  repeat' first
      | (with_reducible first | assumption | intro _ | apply TileOk.mem | apply TileOk.evr | apply And.intro)
      | simp only [Sound.mk_iff, TileOk.mk_iff, EvrOk.mk_iff, QenOk.mk_iff]
      | split

theorem State.preserveReceive_sound {s : State} {data : List Byte} (hs : Sound s0 s) : Sound s0 (State.preserveReceive s data) := by
  unfold State.preserveReceive
  repeat' first
      | (with_reducible first | assumption | intro _ | apply TileState.assay_sound | apply State.raiseLead_sound | apply Sound.updTileN | apply Sound.tileN | apply Sound.part | apply Sound.tiles | apply Sound.qen | apply Sound.host | apply Sound.free | apply Sound.pending | apply TileOk.mem | apply TileOk.evr | apply And.intro)
      | simp only [Sound.mk_iff, TileOk.mk_iff, EvrOk.mk_iff, QenOk.mk_iff]
      | split

theorem State.presToFlash_sound {s : State} {seq : Nat} (hs : Sound s0 s) : Sound s0 (State.presToFlash s seq) := by
  unfold State.presToFlash
  repeat' first
      | (with_reducible first | assumption | intro _ | apply State.captured_sound | apply State.flashWrite_sound)
      | simp only [Sound.mk_iff, TileOk.mk_iff, EvrOk.mk_iff, QenOk.mk_iff]
      | split

theorem State.preserveFlash_sound {s : State} (hs : Sound s0 s) : Sound s0 (State.preserveFlash s) := by
  unfold State.preserveFlash
  repeat' first
      | (with_reducible first | assumption | intro _ | apply State.presToFlash_sound | apply Sound.whenDue)
      | simp only [Sound.mk_iff, TileOk.mk_iff, EvrOk.mk_iff, QenOk.mk_iff]
      | split

theorem State.assayStart_sound {s : State} {t : Nat} (hs : Sound s0 s) : Sound s0 (State.assayStart s t) := by
  unfold State.assayStart
  repeat' first
      | (with_reducible first | assumption | intro _ | apply Sound.whenDue | apply Sound.updTileN | apply Sound.tileN | apply TileOk.mem | apply TileOk.evr | apply And.intro)
      | simp only [Sound.mk_iff, TileOk.mk_iff, EvrOk.mk_iff, QenOk.mk_iff]
      | split

theorem State.assayEnd_sound {s : State} {t : Nat} {pass : Bool} {stage : Nat} (hs : Sound s0 s) : Sound s0 (State.assayEnd s t pass stage) := by
  unfold State.assayEnd
  repeat' first
      | (with_reducible first | assumption | intro _ | apply TileState.assay_sound | apply State.withdraw_sound | apply State.raiseN_sound | apply Sound.updTileN | apply Sound.tileN | apply TileOk.mem | apply TileOk.evr | apply Sound.ite | apply And.intro)
      | simp only [Sound.mk_iff, TileOk.mk_iff, EvrOk.mk_iff, QenOk.mk_iff]
      | split

theorem State.clockLost_sound {s : State} {t ev reason : Nat} (hs : Sound s0 s) : Sound s0 (State.clockLost s t ev reason) := by
  unfold State.clockLost
  repeat' first
      | (with_reducible first | assumption | intro _ | apply State.leadFails_sound | apply State.withdraw_sound | apply State.motionRole_sound | apply State.raiseN_sound | apply Sound.whenDue | apply Sound.updTileN | apply Sound.tileN | apply TileOk.mem | apply TileOk.evr | apply And.intro)
      | simp only [Sound.mk_iff, TileOk.mk_iff, EvrOk.mk_iff, QenOk.mk_iff]
      | split

theorem State.watchdog_sound {s : State} {t : Nat} (hs : Sound s0 s) : Sound s0 (State.watchdog s t) := by
  unfold State.watchdog
  repeat' first
      | (with_reducible first | assumption | intro _ | apply State.leadFails_sound | apply State.withdraw_sound | apply Sound.whenDue)
      | simp only [Sound.mk_iff, TileOk.mk_iff, EvrOk.mk_iff, QenOk.mk_iff]
      | split

theorem State.alignCheck_sound {s : State} {t : Nat} {diff : Int} (hs : Sound s0 s) : Sound s0 (State.alignCheck s t diff) := by
  unfold State.alignCheck
  repeat' first
      | (with_reducible first | assumption | intro _ | apply TileState.assay_sound | apply State.withdraw_sound | apply State.motionRole_sound | apply State.raiseN_sound | apply Sound.updTileN | apply Sound.tileN | apply TileOk.mem | apply TileOk.evr | apply Sound.ite | apply And.intro)
      | simp only [Sound.mk_iff, TileOk.mk_iff, EvrOk.mk_iff, QenOk.mk_iff]
      | split

theorem State.hopDown_sound {s : State} {h : Nat} (hs : Sound s0 s) : Sound s0 (State.hopDown s h) := by
  unfold State.hopDown
  repeat' first
      | (with_reducible first | assumption | intro _ | apply State.withdraw_sound | apply State.raiseLead_sound | apply Sound.foldl | apply Sound.part | apply Sound.tiles | apply Sound.qen | apply Sound.host | apply Sound.free | apply Sound.pending | apply Sound.ite | apply And.intro)
      | simp only [Sound.mk_iff, TileOk.mk_iff, EvrOk.mk_iff, QenOk.mk_iff]
      | split

theorem State.heartbeat_sound {s : State} {t : Nat} (hs : Sound s0 s) : Sound s0 (State.heartbeat s t) := by
  unfold State.heartbeat
  repeat' first
      | (with_reducible first | assumption | intro _ | apply Sound.whenDue | apply Sound.updTileN | apply Sound.tileN | apply TileOk.mem | apply TileOk.evr | apply And.intro)
      | simp only [Sound.mk_iff, TileOk.mk_iff, EvrOk.mk_iff, QenOk.mk_iff]
      | split

/-! ## Strip -/

theorem State.updStream_sound {s : State} {t sid : Nat} {f : Stream → Stream} (hs : Sound s0 s) : Sound s0 (State.updStream s t sid f) := by
  unfold State.updStream
  repeat' first
      | (with_reducible first | assumption | intro _ | apply Sound.updTileN | apply Sound.tileN | apply TileOk.mem | apply TileOk.evr | apply And.intro)
      | simp only [Sound.mk_iff, TileOk.mk_iff, EvrOk.mk_iff, QenOk.mk_iff]
      | split

theorem State.updStrip_sound {s : State} {t sid strip : Nat} {f : StripBuf → StripBuf} (hs : Sound s0 s) : Sound s0 (State.updStrip s t sid strip f) := by
  unfold State.updStrip
  repeat' first
      | (with_reducible first | assumption | intro _ | apply State.updStream_sound)
      | simp only [Sound.mk_iff, TileOk.mk_iff, EvrOk.mk_iff, QenOk.mk_iff]
      | split

theorem State.decodeStart_sound {s : State} {t : Nat} (hs : Sound s0 s) : Sound s0 (State.decodeStart s t) := by
  unfold State.decodeStart
  repeat' first
      | (with_reducible first | assumption | intro _ | apply State.updStrip_sound | apply Sound.whenDue)
      | simp only [Sound.mk_iff, TileOk.mk_iff, EvrOk.mk_iff, QenOk.mk_iff]
      | split

theorem State.stripFails_sound {s : State} {t surf strip cause : Nat} (hs : Sound s0 s) : Sound s0 (State.stripFails s t surf strip cause) := by
  unfold State.stripFails
  repeat' first
      | (with_reducible first | assumption | intro _ | apply State.raiseN_sound | apply Sound.ite)
      | simp only [Sound.mk_iff, TileOk.mk_iff, EvrOk.mk_iff, QenOk.mk_iff]
      | split

theorem State.sendVerdict_sound {s : State} {t sid strip cause : Nat} (hs : Sound s0 s) : Sound s0 (State.sendVerdict s t sid strip cause) := by
  unfold State.sendVerdict
  repeat' first
      | (with_reducible first | assumption | intro _ | apply Sound.updTileN | apply Sound.tileN | apply TileOk.mem | apply TileOk.evr | apply Sound.ite | apply And.intro)
      | simp only [Sound.mk_iff, TileOk.mk_iff, EvrOk.mk_iff, QenOk.mk_iff]
      | split

theorem State.verdict_sound {s : State} {t sid surf strip cause : Nat} {data : List Byte} (hs : Sound s0 s) : Sound s0 (State.verdict s t sid surf strip cause data) := by
  unfold State.verdict
  repeat' first
      | (with_reducible first | assumption | intro _ | apply State.sendVerdict_sound | apply State.stripFails_sound | apply State.updStrip_sound)
      | simp only [Sound.mk_iff, TileOk.mk_iff, EvrOk.mk_iff, QenOk.mk_iff]
      | split

theorem State.stripVerified_sound {s : State} {t sid strip : Nat} (hs : Sound s0 s) : Sound s0 (State.stripVerified s t sid strip) := by
  unfold State.stripVerified
  repeat' first
      | (with_reducible first | assumption | intro _ | apply State.verdict_sound | apply State.updStream_sound | apply Sound.whenDue)
      | simp only [Sound.mk_iff, TileOk.mk_iff, EvrOk.mk_iff, QenOk.mk_iff]
      | split

theorem State.unsettle_sound {s : State} {t sid strip : Nat} {ps : List Product} (hs : Sound s0 s) : Sound s0 (State.unsettle s t sid strip ps) := by
  unfold State.unsettle
  repeat' first
      | (with_reducible first | assumption | intro _ | apply Sound.updTileN | apply Sound.tileN | apply TileOk.mem | apply TileOk.evr | apply And.intro)
      | simp only [Sound.mk_iff, TileOk.mk_iff, EvrOk.mk_iff, QenOk.mk_iff]
      | split

theorem State.decideStrip_sound {s : State} {t : Nat} {st : Stream} {strip : Nat} {b : StripBuf} {ls : List Nat} (hs : Sound s0 s) : Sound s0 (State.decideStrip s t st strip b ls) := by
  unfold State.decideStrip
  repeat' first
      | (with_reducible first | assumption | intro _ | apply State.unsettle_sound | apply State.verdict_sound | apply State.updStrip_sound | apply State.reject_sound | apply State.raiseN_sound | apply Sound.foldl | apply Sound.updTileN | apply Sound.tileN | apply TileOk.mem | apply TileOk.evr | apply Sound.ite | apply And.intro)
      | simp only [Sound.mk_iff, TileOk.mk_iff, EvrOk.mk_iff, QenOk.mk_iff]
      | split

theorem State.withBuf_sound {s : State} {t sid strip : Nat} (hs : Sound s0 s) : Sound s0 (State.withBuf s t sid strip) := by
  unfold State.withBuf
  repeat' first
      | (with_reducible first | assumption | intro _ | apply State.updStream_sound)
      | simp only [Sound.mk_iff, TileOk.mk_iff, EvrOk.mk_iff, QenOk.mk_iff]
      | split

theorem State.stripDeadline_sound {s : State} {t sid strip : Nat} (hs : Sound s0 s) : Sound s0 (State.stripDeadline s t sid strip) := by
  unfold State.stripDeadline
  repeat' first
      | (with_reducible first | assumption | intro _ | apply State.withBuf_sound | apply State.decideStrip_sound | apply State.updStream_sound | apply Sound.whenDue)
      | simp only [Sound.mk_iff, TileOk.mk_iff, EvrOk.mk_iff, QenOk.mk_iff]
      | split

theorem State.verdictReceive_sound {s : State} {t sid strip : Nat} (hs : Sound s0 s) : Sound s0 (State.verdictReceive s t sid strip) := by
  unfold State.verdictReceive
  repeat' first
      | (with_reducible first | assumption | intro _ | apply State.updStrip_sound | apply State.reject_sound | apply Sound.foldl | apply Sound.updTileN | apply Sound.tileN | apply TileOk.mem | apply TileOk.evr | apply Sound.ite | apply And.intro)
      | simp only [Sound.mk_iff, TileOk.mk_iff, EvrOk.mk_iff, QenOk.mk_iff]
      | split

theorem State.stripMend_sound {s : State} {t sid strip : Nat} (hs : Sound s0 s) : Sound s0 (State.stripMend s t sid strip) := by
  unfold State.stripMend
  repeat' first
      | (with_reducible first | assumption | intro _ | apply State.stripFails_sound | apply State.updStrip_sound | apply State.tileWrite_sound | apply State.raiseN_sound | apply Sound.whenDue | apply Sound.ite)
      | simp only [Sound.mk_iff, TileOk.mk_iff, EvrOk.mk_iff, QenOk.mk_iff]
      | split

theorem State.readStrip_sound {s : State} {t sid strip : Nat} {p : Product} {n : Nat} (hs : Sound s0 s) : Sound s0 (State.readStrip s t sid strip p n) := by
  unfold State.readStrip
  repeat' first
      | (with_reducible first | assumption | intro _ | apply State.withBuf_sound | apply State.decideStrip_sound | apply State.unsettle_sound | apply State.updStream_sound | apply State.reject_sound | apply Sound.foldl | apply Sound.ite)
      | simp only [Sound.mk_iff, TileOk.mk_iff, EvrOk.mk_iff, QenOk.mk_iff]
      | split

theorem State.stripsRead_sound {s : State} {t n : Nat} (hs : Sound s0 s) : Sound s0 (State.stripsRead s t n) := by
  unfold State.stripsRead
  repeat' first
      | (with_reducible first | assumption | intro _ | apply State.updStream_sound | apply Sound.foldl)
      | simp only [Sound.mk_iff, TileOk.mk_iff, EvrOk.mk_iff, QenOk.mk_iff]
      | split

/-! ## Memc -/

theorem State.updMemc_sound {s : State} {t : Nat} {f : Memc → Memc} (hs : Sound s0 s) : Sound s0 (State.updMemc s t f) := by
  unfold State.updMemc
  repeat' first
      | (with_reducible first | assumption | intro _ | apply Sound.updTileN | apply Sound.tileN | apply TileOk.mem | apply TileOk.evr | apply And.intro)
      | simp only [Sound.mk_iff, TileOk.mk_iff, EvrOk.mk_iff, QenOk.mk_iff]
      | split

theorem State.scanPanic_sound {s : State} {t : Nat} (hs : Sound s0 s) : Sound s0 (State.scanPanic s t) := by
  unfold State.scanPanic
  repeat' first
      | (with_reducible first | assumption | intro _ | apply State.updMemc_sound)
      | simp only [Sound.mk_iff, TileOk.mk_iff, EvrOk.mk_iff, QenOk.mk_iff]
      | split

theorem State.dwritePanic_sound {s : State} {t : Nat} (hs : Sound s0 s) : Sound s0 (State.dwritePanic s t) := by
  unfold State.dwritePanic
  repeat' first
      | (with_reducible first | assumption | intro _ | apply State.updMemc_sound)
      | simp only [Sound.mk_iff, TileOk.mk_iff, EvrOk.mk_iff, QenOk.mk_iff]
      | split

theorem State.scanPorts_sound {s : State} {t : Nat} (hs : Sound s0 s) : Sound s0 (State.scanPorts s t) := by
  unfold State.scanPorts
  repeat' first
      | (with_reducible first | assumption | intro _ | apply State.dwritePanic_sound | apply State.scanPanic_sound)
      | simp only [Sound.mk_iff, TileOk.mk_iff, EvrOk.mk_iff, QenOk.mk_iff]
      | split

theorem State.memcTick_sound {s : State} {t : Nat} (hs : Sound s0 s) : Sound s0 (State.memcTick s t) := by
  unfold State.memcTick
  repeat' first
      | (with_reducible first | assumption | intro _ | apply State.scanPorts_sound | apply State.updMemc_sound | apply Sound.ite)
      | simp only [Sound.mk_iff, TileOk.mk_iff, EvrOk.mk_iff, QenOk.mk_iff]
      | split

theorem State.dramRequest_sound {s : State} {t : Nat} {r : DramReq} (hs : Sound s0 s) : Sound s0 (State.dramRequest s t r) := by
  unfold State.dramRequest
  repeat' first
      | (with_reducible first | assumption | intro _ | apply State.updMemc_sound)
      | simp only [Sound.mk_iff, TileOk.mk_iff, EvrOk.mk_iff, QenOk.mk_iff]
      | split

theorem State.writeLine_sound {s : State} {t c r web : Nat} (hs : Sound s0 s) : Sound s0 (State.writeLine s t c r web) := by
  unfold State.writeLine
  repeat' first
      | (with_reducible first | assumption | intro _ | apply State.dramRequest_sound | apply State.dwritePanic_sound | apply Sound.foldl | apply Sound.ite)
      | simp only [Sound.mk_iff, TileOk.mk_iff, EvrOk.mk_iff, QenOk.mk_iff]
      | split

theorem State.fetchLine_sound {s : State} {t line : Nat} (hs : Sound s0 s) : Sound s0 (State.fetchLine s t line) := by
  unfold State.fetchLine
  repeat' first
      | (with_reducible first | assumption | intro _ | apply State.dramRequest_sound | apply State.scanPanic_sound | apply Sound.foldl | apply Sound.ite)
      | simp only [Sound.mk_iff, TileOk.mk_iff, EvrOk.mk_iff, QenOk.mk_iff]
      | split

theorem TileState.spoil_sound {x : TileState} {key web : Nat} {nozzles : RowLine → List Nat} (hx : TileOk s0 x) : TileOk s0 (TileState.spoil x key web nozzles) := by
  unfold TileState.spoil
  repeat' first
      | (with_reducible first | assumption | intro _ | apply TileOk.mem | apply TileOk.evr | apply And.intro)
      | simp only [Sound.mk_iff, TileOk.mk_iff, EvrOk.mk_iff, QenOk.mk_iff]
      | split

theorem State.markBad_sound {s : State} {t : Nat} {r : DramReq} (hs : Sound s0 s) : Sound s0 (State.markBad s t r) := by
  unfold State.markBad
  repeat' first
      | (with_reducible first | assumption | intro _ | apply TileState.spoil_sound | apply Sound.updTileN | apply Sound.tileN)
      | simp only [Sound.mk_iff, TileOk.mk_iff, EvrOk.mk_iff, QenOk.mk_iff]
      | split

theorem State.shortBad_sound {s : State} {t line : Nat} {gs : List Nat} (hs : Sound s0 s) : Sound s0 (State.shortBad s t line gs) := by
  unfold State.shortBad
  repeat' first
      | (with_reducible first | assumption | intro _ | apply TileState.spoil_sound | apply Sound.foldl | apply Sound.updTileN | apply Sound.tileN)
      | simp only [Sound.mk_iff, TileOk.mk_iff, EvrOk.mk_iff, QenOk.mk_iff]
      | split

theorem State.memCe_sound {s : State} {t port da : Nat} (hs : Sound s0 s) : Sound s0 (State.memCe s t port da) := by
  unfold State.memCe
  repeat' first
      | (with_reducible first | assumption | intro _ | apply State.updMemc_sound | apply State.raiseN_sound | apply Sound.ite)
      | simp only [Sound.mk_iff, TileOk.mk_iff, EvrOk.mk_iff, QenOk.mk_iff]
      | split

theorem State.memUe_sound {s : State} {t : Nat} {r : DramReq} {da : Nat} (hs : Sound s0 s) : Sound s0 (State.memUe s t r da) := by
  unfold State.memUe
  repeat' first
      | (with_reducible first | assumption | intro _ | apply State.updMemc_sound | apply State.raiseN_sound)
      | simp only [Sound.mk_iff, TileOk.mk_iff, EvrOk.mk_iff, QenOk.mk_iff]
      | split

theorem State.dramDone_sound {s : State} {t ch : Nat} {e : DramEnd} (hs : Sound s0 s) : Sound s0 (State.dramDone s t ch e) := by
  unfold State.dramDone
  repeat' first
      | (with_reducible first | assumption | intro _ | apply State.memUe_sound | apply State.memCe_sound | apply State.markBad_sound | apply State.scanPorts_sound | apply State.updMemc_sound | apply Sound.ite)
      | simp only [Sound.mk_iff, TileOk.mk_iff, EvrOk.mk_iff, QenOk.mk_iff]
      | split

theorem State.dramRefresh_sound {s : State} {t ch bank : Nat} (hs : Sound s0 s) : Sound s0 (State.dramRefresh s t ch bank) := by
  unfold State.dramRefresh
  repeat' first
      | (with_reducible first | assumption | intro _ | apply State.updMemc_sound | apply Sound.whenDue)
      | simp only [Sound.mk_iff, TileOk.mk_iff, EvrOk.mk_iff, QenOk.mk_iff]
      | split

theorem State.bankIdle_sound {s : State} {t ch bank : Nat} (hs : Sound s0 s) : Sound s0 (State.bankIdle s t ch bank) := by
  unfold State.bankIdle
  repeat' first
      | (with_reducible first | assumption | intro _ | apply State.updMemc_sound | apply Sound.whenDue)
      | simp only [Sound.mk_iff, TileOk.mk_iff, EvrOk.mk_iff, QenOk.mk_iff]
      | split

theorem State.scrubDone_sound {s : State} {t : Nat} (hs : Sound s0 s) : Sound s0 (State.scrubDone s t) := by
  unfold State.scrubDone
  repeat' first
      | (with_reducible first | assumption | intro _ | apply State.updMemc_sound | apply State.raiseN_sound | apply Sound.whenDue)
      | simp only [Sound.mk_iff, TileOk.mk_iff, EvrOk.mk_iff, QenOk.mk_iff]
      | split

theorem State.dramHot_sound {s : State} {t ch mr4 : Nat} {hot : Bool} (hs : Sound s0 s) : Sound s0 (State.dramHot s t ch mr4 hot) := by
  unfold State.dramHot
  repeat' first
      | (with_reducible first | assumption | intro _ | apply State.updMemc_sound | apply State.raiseN_sound | apply Sound.whenDue)
      | simp only [Sound.mk_iff, TileOk.mk_iff, EvrOk.mk_iff, QenOk.mk_iff]
      | split

theorem State.panicLong_sound {s : State} {t p : Nat} (hs : Sound s0 s) : Sound s0 (State.panicLong s t p) := by
  unfold State.panicLong
  repeat' first
      | (with_reducible first | assumption | intro _ | apply State.updMemc_sound | apply State.raiseN_sound | apply Sound.whenDue)
      | simp only [Sound.mk_iff, TileOk.mk_iff, EvrOk.mk_iff, QenOk.mk_iff]
      | split

theorem State.pauseStart_sound {s : State} {t : Nat} (hs : Sound s0 s) : Sound s0 (State.pauseStart s t) := by
  unfold State.pauseStart
  repeat' first
      | (with_reducible first | assumption | intro _ | apply State.updMemc_sound | apply Sound.whenDue)
      | simp only [Sound.mk_iff, TileOk.mk_iff, EvrOk.mk_iff, QenOk.mk_iff]
      | split

theorem State.pauseEnd_sound {s : State} {t start : Nat} (hs : Sound s0 s) : Sound s0 (State.pauseEnd s t start) := by
  unfold State.pauseEnd
  repeat' first
      | (with_reducible first | assumption | intro _ | apply State.updMemc_sound)
      | simp only [Sound.mk_iff, TileOk.mk_iff, EvrOk.mk_iff, QenOk.mk_iff]
      | split

theorem State.setChanged_sound {s : State} {t : Nat} (hs : Sound s0 s) : Sound s0 (State.setChanged s t) := by
  unfold State.setChanged
  repeat' first
      | (with_reducible first | assumption | intro _ | apply State.pauseEnd_sound | apply State.updMemc_sound | apply State.raiseN_sound)
      | simp only [Sound.mk_iff, TileOk.mk_iff, EvrOk.mk_iff, QenOk.mk_iff]
      | split

theorem State.retrainDue_sound {s : State} {t : Nat} (hs : Sound s0 s) : Sound s0 (State.retrainDue s t) := by
  unfold State.retrainDue
  repeat' first
      | (with_reducible first | assumption | intro _ | apply State.updMemc_sound | apply Sound.whenDue)
      | simp only [Sound.mk_iff, TileOk.mk_iff, EvrOk.mk_iff, QenOk.mk_iff]
      | split

theorem State.pauseForced_sound {s : State} {t : Nat} (hs : Sound s0 s) : Sound s0 (State.pauseForced s t) := by
  unfold State.pauseForced
  repeat' first
      | (with_reducible first | assumption | intro _ | apply State.updMemc_sound | apply State.raiseN_sound | apply Sound.whenDue)
      | simp only [Sound.mk_iff, TileOk.mk_iff, EvrOk.mk_iff, QenOk.mk_iff]
      | split

theorem State.retrained_sound {s : State} {t : Nat} {drift : Option (Fin 4 × Int)} (hs : Sound s0 s) : Sound s0 (State.retrained s t drift) := by
  unfold State.retrained
  repeat' first
      | (with_reducible first | assumption | intro _ | apply State.pauseEnd_sound | apply State.raiseN_sound)
      | simp only [Sound.mk_iff, TileOk.mk_iff, EvrOk.mk_iff, QenOk.mk_iff]
      | split

theorem State.memcClr_sound {s : State} {t : Nat} {f : Memc → Memc} (hs : Sound s0 s) : Sound s0 (State.memcClr s t f) := by
  unfold State.memcClr
  repeat' first
      | (with_reducible first | assumption | intro _ | apply State.updMemc_sound | apply Sound.ite)
      | simp only [Sound.mk_iff, TileOk.mk_iff, EvrOk.mk_iff, QenOk.mk_iff]
      | split

/-! ## Panel -/

theorem State.updDport_sound {s : State} {p : Nat} {f : DspPort → DspPort} (hs : Sound s0 s) : Sound s0 (State.updDport s p f) := by
  unfold State.updDport
  repeat' first
      | (with_reducible first | assumption | intro _ | apply Sound.part | apply Sound.tiles | apply Sound.qen | apply Sound.host | apply Sound.free | apply Sound.pending | apply And.intro)
      | simp only [Sound.mk_iff, TileOk.mk_iff, EvrOk.mk_iff, QenOk.mk_iff]
      | split

theorem State.flipSettle_sound {s : State} (hs : Sound s0 s) : Sound s0 (State.flipSettle s) := by
  unfold State.flipSettle
  repeat' first
      | (with_reducible first | assumption | intro _ | apply State.complete_sound | apply Sound.foldl | apply Sound.part | apply Sound.tiles | apply Sound.qen | apply Sound.host | apply Sound.free | apply Sound.pending | apply And.intro)
      | simp only [Sound.mk_iff, TileOk.mk_iff, EvrOk.mk_iff, QenOk.mk_iff]
      | split

theorem State.modePort_sound {s : State} {p : Nat} {failed : Bool} (hs : Sound s0 s) : Sound s0 (State.modePort s p failed) := by
  unfold State.modePort
  repeat' first
      | (with_reducible first | assumption | intro _ | apply State.complete_sound | apply Sound.part | apply Sound.tiles | apply Sound.qen | apply Sound.host | apply Sound.free | apply Sound.pending | apply Sound.ite | apply And.intro)
      | simp only [Sound.mk_iff, TileOk.mk_iff, EvrOk.mk_iff, QenOk.mk_iff]
      | split

theorem State.trainMode_sound {s : State} {p : Nat} (hs : Sound s0 s) : Sound s0 (State.trainMode s p) := by
  unfold State.trainMode
  repeat' first
      | (with_reducible first | assumption | intro _ | apply State.updDport_sound)
      | simp only [Sound.mk_iff, TileOk.mk_iff, EvrOk.mk_iff, QenOk.mk_iff]
      | split

theorem State.portStart_sound {s : State} {p : Nat} (hs : Sound s0 s) : Sound s0 (State.portStart s p) := by
  unfold State.portStart
  repeat' first
      | (with_reducible first | assumption | intro _ | apply State.trainMode_sound | apply State.updDport_sound | apply Sound.ite)
      | simp only [Sound.mk_iff, TileOk.mk_iff, EvrOk.mk_iff, QenOk.mk_iff]
      | split

theorem State.portStop_sound {s : State} {p : Nat} (hs : Sound s0 s) : Sound s0 (State.portStop s p) := by
  unfold State.portStop
  repeat' first
      | (with_reducible first | assumption | intro _ | apply State.modePort_sound | apply State.flipSettle_sound | apply Sound.part | apply Sound.tiles | apply Sound.qen | apply Sound.host | apply Sound.free | apply Sound.pending | apply And.intro)
      | simp only [Sound.mk_iff, TileOk.mk_iff, EvrOk.mk_iff, QenOk.mk_iff]
      | split

theorem State.flipEvents_sound {s : State} {p : Nat} (hs : Sound s0 s) : Sound s0 (State.flipEvents s p) := by
  unfold State.flipEvents
  repeat' first
      | (with_reducible first | assumption | intro _ | apply State.raiseN_sound | apply Sound.ite)
      | simp only [Sound.mk_iff, TileOk.mk_iff, EvrOk.mk_iff, QenOk.mk_iff]
      | split

theorem State.latch_sound {s : State} {p : Nat} (hs : Sound s0 s) : Sound s0 (State.latch s p) := by
  unfold State.latch
  repeat' first
      | (with_reducible first | assumption | intro _ | apply State.flipEvents_sound | apply State.flipSettle_sound | apply State.updDport_sound | apply Sound.part | apply Sound.tiles | apply Sound.qen | apply Sound.host | apply Sound.free | apply Sound.pending | apply And.intro)
      | simp only [Sound.mk_iff, TileOk.mk_iff, EvrOk.mk_iff, QenOk.mk_iff]
      | split

theorem State.startFrame_sound {s : State} {p : Nat} (hs : Sound s0 s) : Sound s0 (State.startFrame s p) := by
  unfold State.startFrame
  repeat' first
      | (with_reducible first | assumption | intro _ | apply State.updDport_sound | apply State.updMemc_sound)
      | simp only [Sound.mk_iff, TileOk.mk_iff, EvrOk.mk_iff, QenOk.mk_iff]
      | split

theorem State.frameStart_sound {s : State} {p : Nat} (hs : Sound s0 s) : Sound s0 (State.frameStart s p) := by
  unfold State.frameStart
  repeat' first
      | (with_reducible first | assumption | intro _ | apply State.startFrame_sound | apply Sound.whenDue)
      | simp only [Sound.mk_iff, TileOk.mk_iff, EvrOk.mk_iff, QenOk.mk_iff]
      | split

theorem State.teLost_sound {s : State} {p : Nat} (hs : Sound s0 s) : Sound s0 (State.teLost s p) := by
  unfold State.teLost
  repeat' first
      | (with_reducible first | assumption | intro _ | apply State.startFrame_sound | apply State.updDport_sound | apply State.raiseN_sound | apply Sound.whenDue)
      | simp only [Sound.mk_iff, TileOk.mk_iff, EvrOk.mk_iff, QenOk.mk_iff]
      | split

theorem State.lineMatch_sound {s : State} {p : Nat} (hs : Sound s0 s) : Sound s0 (State.lineMatch s p) := by
  unfold State.lineMatch
  repeat' first
      | (with_reducible first | assumption | intro _ | apply State.updDport_sound | apply State.raiseN_sound | apply Sound.whenDue)
      | simp only [Sound.mk_iff, TileOk.mk_iff, EvrOk.mk_iff, QenOk.mk_iff]
      | split

theorem State.frameEnded_sound {s : State} {p : Nat} (hs : Sound s0 s) : Sound s0 (State.frameEnded s p) := by
  unfold State.frameEnded
  repeat' first
      | (with_reducible first | assumption | intro _ | apply State.portStop_sound | apply State.updDport_sound | apply Sound.ite)
      | simp only [Sound.mk_iff, TileOk.mk_iff, EvrOk.mk_iff, QenOk.mk_iff]
      | split

theorem State.frameDone_sound {s : State} {p : Nat} (hs : Sound s0 s) : Sound s0 (State.frameDone s p) := by
  unfold State.frameDone
  repeat' first
      | (with_reducible first | assumption | intro _ | apply State.frameEnded_sound | apply State.updDport_sound | apply State.raiseN_sound | apply Sound.whenDue | apply Sound.ite)
      | simp only [Sound.mk_iff, TileOk.mk_iff, EvrOk.mk_iff, QenOk.mk_iff]
      | split

theorem State.teEdge_sound {s : State} {p : Nat} (hs : Sound s0 s) : Sound s0 (State.teEdge s p) := by
  unfold State.teEdge
  repeat' first
      | (with_reducible first | assumption | intro _ | apply State.updDport_sound | apply Sound.whenDue | apply Sound.part | apply Sound.tiles | apply Sound.qen | apply Sound.host | apply Sound.free | apply Sound.pending | apply Sound.ite | apply And.intro)
      | simp only [Sound.mk_iff, TileOk.mk_iff, EvrOk.mk_iff, QenOk.mk_iff]
      | split

theorem State.proofData_sound {s : State} {p layer row : Nat} {data : List Byte} (hs : Sound s0 s) : Sound s0 (State.proofData s p layer row data) := by
  unfold State.proofData
  repeat' first
      | (with_reducible first | assumption | intro _ | apply State.updDport_sound | apply Sound.whenDue)
      | simp only [Sound.mk_iff, TileOk.mk_iff, EvrOk.mk_iff, QenOk.mk_iff]
      | split

theorem State.hotplug_sound {s : State} {p : Nat} (hs : Sound s0 s) : Sound s0 (State.hotplug s p) := by
  unfold State.hotplug
  repeat' first
      | (with_reducible first | assumption | intro _ | apply State.trainMode_sound | apply State.updDport_sound | apply State.raiseN_sound | apply Sound.whenDue | apply Sound.ite)
      | simp only [Sound.mk_iff, TileOk.mk_iff, EvrOk.mk_iff, QenOk.mk_iff]
      | split

theorem State.linkGone_sound {s : State} {p : Nat} (hs : Sound s0 s) : Sound s0 (State.linkGone s p) := by
  unfold State.linkGone
  repeat' first
      | (with_reducible first | assumption | intro _ | apply State.modePort_sound | apply State.flipSettle_sound | apply State.updDport_sound)
      | simp only [Sound.mk_iff, TileOk.mk_iff, EvrOk.mk_iff, QenOk.mk_iff]
      | split

theorem State.linkLost_sound {s : State} {p : Nat} {fell : Bool} (hs : Sound s0 s) : Sound s0 (State.linkLost s p fell) := by
  unfold State.linkLost
  repeat' first
      | (with_reducible first | assumption | intro _ | apply State.linkGone_sound | apply State.updDport_sound | apply State.raiseN_sound | apply Sound.whenDue | apply Sound.ite)
      | simp only [Sound.mk_iff, TileOk.mk_iff, EvrOk.mk_iff, QenOk.mk_iff]
      | split

theorem State.dspRetrain_sound {s : State} {p : Nat} (hs : Sound s0 s) : Sound s0 (State.dspRetrain s p) := by
  unfold State.dspRetrain
  repeat' first
      | (with_reducible first | assumption | intro _ | apply State.trainMode_sound | apply State.updDport_sound | apply Sound.whenDue)
      | simp only [Sound.mk_iff, TileOk.mk_iff, EvrOk.mk_iff, QenOk.mk_iff]
      | split

theorem State.dspTrained_sound {s : State} {p : Nat} {ok : Bool} (hs : Sound s0 s) : Sound s0 (State.dspTrained s p ok) := by
  unfold State.dspTrained
  repeat' first
      | (with_reducible first | assumption | intro _ | apply State.linkGone_sound | apply State.modePort_sound | apply State.updDport_sound | apply Sound.whenDue | apply Sound.ite)
      | simp only [Sound.mk_iff, TileOk.mk_iff, EvrOk.mk_iff, QenOk.mk_iff]
      | split

theorem State.modeChanged_sound {s : State} {p : Nat} (hs : Sound s0 s) : Sound s0 (State.modeChanged s p) := by
  unfold State.modeChanged
  repeat' first
      | (with_reducible first | assumption | intro _ | apply State.startFrame_sound | apply State.modePort_sound | apply State.flipSettle_sound | apply State.updDport_sound | apply State.raiseN_sound | apply Sound.whenDue)
      | simp only [Sound.mk_iff, TileOk.mk_iff, EvrOk.mk_iff, QenOk.mk_iff]
      | split

theorem State.dspClrTrains_sound {s : State} {p : Nat} (hs : Sound s0 s) : Sound s0 (State.dspClrTrains s p) := by
  unfold State.dspClrTrains
  repeat' first
      | (with_reducible first | assumption | intro _ | apply State.updDport_sound | apply Sound.whenDue)
      | simp only [Sound.mk_iff, TileOk.mk_iff, EvrOk.mk_iff, QenOk.mk_iff]
      | split

theorem State.dspClrUnder_sound {s : State} {p : Nat} (hs : Sound s0 s) : Sound s0 (State.dspClrUnder s p) := by
  unfold State.dspClrUnder
  repeat' first
      | (with_reducible first | assumption | intro _ | apply State.updDport_sound | apply Sound.whenDue)
      | simp only [Sound.mk_iff, TileOk.mk_iff, EvrOk.mk_iff, QenOk.mk_iff]
      | split

/-! ## Power -/

theorem TileState.dropLanes_sound {x : TileState} {d : Nat} (hx : TileOk s0 x) : TileOk s0 (TileState.dropLanes x d) := by
  unfold TileState.dropLanes
  repeat' first
      | (with_reducible first | assumption | intro _ | apply TileOk.mem | apply TileOk.evr | apply And.intro)
      | simp only [Sound.mk_iff, TileOk.mk_iff, EvrOk.mk_iff, QenOk.mk_iff]
      | split

theorem TileState.lose_sound {x : TileState} {d : Nat} (hx : TileOk s0 x) : TileOk s0 (TileState.lose x d) := by
  unfold TileState.lose
  repeat' first
      | (with_reducible first | assumption | intro _ | apply TileState.dropLanes_sound | apply Evr.retain_sound | exact MemOk.nil | apply TileOk.mem | apply TileOk.evr | apply And.intro)
      | simp only [Sound.mk_iff, TileOk.mk_iff, EvrOk.mk_iff, QenOk.mk_iff]
      | split

theorem State.cmdLost_sound {s : State} {t : Nat} (hs : Sound s0 s) : Sound s0 (State.cmdLost s t) := by
  unfold State.cmdLost
  repeat' first
      | (with_reducible first | assumption | intro _ | exact QenOk.reset | apply Sound.part | apply Sound.tiles | apply Sound.qen | apply Sound.host | apply Sound.free | apply Sound.pending | apply QenOk.sessions | apply And.intro)
      | simp only [Sound.mk_iff, TileOk.mk_iff, EvrOk.mk_iff, QenOk.mk_iff]
      | split

theorem State.domOff_sound {s : State} {t d : Nat} (hs : Sound s0 s) : Sound s0 (State.domOff s t d) := by
  unfold State.domOff
  repeat' first
      | (with_reducible first | assumption | intro _ | apply State.cmdLost_sound | apply TileState.lose_sound | apply State.portStop_sound | apply State.motionDown_sound | apply State.updPort_sound | apply Sound.updTileN | apply Sound.tileN | apply Sound.part | apply Sound.tiles | apply Sound.qen | apply Sound.host | apply Sound.free | apply Sound.pending | apply TileOk.mem | apply TileOk.evr | apply Sound.ite | apply And.intro)
      | simp only [Sound.mk_iff, TileOk.mk_iff, EvrOk.mk_iff, QenOk.mk_iff]
      | split

theorem State.domsOff_sound {s : State} {t mask : Nat} (hs : Sound s0 s) : Sound s0 (State.domsOff s t mask) := by
  unfold State.domsOff
  repeat' first
      | (with_reducible first | assumption | intro _ | apply State.domOff_sound | apply State.leadFails_sound | apply State.withdraw_sound | apply State.setTwin_sound | apply State.motionRole_sound | apply Sound.foldl | apply Sound.ite)
      | simp only [Sound.mk_iff, TileOk.mk_iff, EvrOk.mk_iff, QenOk.mk_iff]
      | split

theorem State.domOn_sound {s : State} {t d : Nat} (hs : Sound s0 s) : Sound s0 (State.domOn s t d) := by
  unfold State.domOn
  repeat' first
      | (with_reducible first | assumption | intro _ | apply Sound.updTileN | apply Sound.tileN | apply TileOk.mem | apply TileOk.evr | apply Sound.ite | apply And.intro)
      | simp only [Sound.mk_iff, TileOk.mk_iff, EvrOk.mk_iff, QenOk.mk_iff]
      | split

theorem State.trainNamed_sound {s : State} {t d : Nat} (hs : Sound s0 s) : Sound s0 (State.trainNamed s t d) := by
  unfold State.trainNamed
  repeat' first
      | (with_reducible first | assumption | intro _ | apply State.trainLane_sound | apply Sound.foldl)
      | simp only [Sound.mk_iff, TileOk.mk_iff, EvrOk.mk_iff, QenOk.mk_iff]
      | split

theorem State.domUp_sound {s : State} {t d : Nat} (hs : Sound s0 s) : Sound s0 (State.domUp s t d) := by
  unfold State.domUp
  repeat' first
      | (with_reducible first | assumption | intro _ | apply State.trainNamed_sound | apply State.portStart_sound | apply State.setTwin_sound | apply State.evrRestore_sound | apply State.motionUp_sound | apply Sound.updTileN | apply Sound.tileN | apply TileOk.mem | apply TileOk.evr | apply Sound.ite | apply And.intro)
      | simp only [Sound.mk_iff, TileOk.mk_iff, EvrOk.mk_iff, QenOk.mk_iff]
      | split

theorem State.domSettle_sound {s : State} {t : Nat} (hs : Sound s0 s) : Sound s0 (State.domSettle s t) := by
  unfold State.domSettle
  repeat' first
      | (with_reducible first | assumption | intro _ | apply State.done_sound | apply Sound.foldl | apply Sound.updTileN | apply Sound.tileN | apply TileOk.mem | apply TileOk.evr | apply Sound.ite | apply And.intro)
      | simp only [Sound.mk_iff, TileOk.mk_iff, EvrOk.mk_iff, QenOk.mk_iff]
      | split

theorem State.domLate_sound {s : State} {t : Nat} (hs : Sound s0 s) : Sound s0 (State.domLate s t) := by
  unfold State.domLate
  repeat' first
      | (with_reducible first | assumption | intro _ | apply State.done_sound | apply Sound.foldl | apply Sound.updTileN | apply Sound.tileN | apply TileOk.mem | apply TileOk.evr | apply And.intro)
      | simp only [Sound.mk_iff, TileOk.mk_iff, EvrOk.mk_iff, QenOk.mk_iff]
      | split

theorem actSvcPower_sound {s : State} {p : Packet} {u1 : List Byte} (hs : Sound s0 s) : Sound s0 (actSvcPower s p u1) := by
  unfold actSvcPower
  repeat' first
      | (with_reducible first | assumption | intro _ | apply State.domOn_sound | apply State.domsOff_sound | apply State.park_sound | apply State.done_sound | apply Sound.foldl | apply Sound.updTileN | apply Sound.tileN | apply TileOk.mem | apply TileOk.evr | apply Sound.ite | apply And.intro)
      | simp only [Sound.mk_iff, TileOk.mk_iff, EvrOk.mk_iff, QenOk.mk_iff]
      | split

theorem State.restartTile_sound {s : State} {t slot : Nat} (hs : Sound s0 s) : Sound s0 (State.restartTile s t slot) := by
  unfold State.restartTile
  repeat' first
      | (with_reducible first | assumption | intro _ | apply State.domOff_sound | apply State.setTwin_sound | apply Sound.foldl | apply Sound.updTileN | exact EvrOk.reset | apply Sound.tileN | apply TileOk.mem | apply And.intro)
      | simp only [Sound.mk_iff, TileOk.mk_iff, EvrOk.mk_iff, QenOk.mk_iff]
      | split

theorem State.startResync_sound {s : State} {t : Nat} (hs : Sound s0 s) : Sound s0 (State.startResync s t) := by
  unfold State.startResync
  repeat' first
      | (with_reducible first | assumption | intro _ | apply State.setTwin_sound | apply Sound.updTileN | apply Sound.tileN | apply TileOk.mem | apply TileOk.evr | apply And.intro)
      | simp only [Sound.mk_iff, TileOk.mk_iff, EvrOk.mk_iff, QenOk.mk_iff]
      | split

theorem State.rejoinFor_sound {s : State} {t seq : Nat} (hs : Sound s0 s) : Sound s0 (State.rejoinFor s t seq) := by
  unfold State.rejoinFor
  repeat' first
      | (with_reducible first | assumption | intro _ | apply State.park_sound | apply Sound.updTileN | apply Sound.tileN | apply TileOk.mem | apply TileOk.evr | apply And.intro)
      | simp only [Sound.mk_iff, TileOk.mk_iff, EvrOk.mk_iff, QenOk.mk_iff]
      | split

theorem State.thermalRejoin_sound {s : State} {t : Nat} (hs : Sound s0 s) : Sound s0 (State.thermalRejoin s t) := by
  unfold State.thermalRejoin
  repeat' first
      | (with_reducible first | assumption | intro _ | apply State.startResync_sound | apply Sound.ite)
      | simp only [Sound.mk_iff, TileOk.mk_iff, EvrOk.mk_iff, QenOk.mk_iff]
      | split

theorem State.domainReady_sound {s : State} {t d : Nat} (hs : Sound s0 s) : Sound s0 (State.domainReady s t d) := by
  unfold State.domainReady
  repeat' first
      | (with_reducible first | assumption | intro _ | apply State.thermalRejoin_sound | apply State.domSettle_sound | apply State.domUp_sound | apply Sound.whenDue)
      | simp only [Sound.mk_iff, TileOk.mk_iff, EvrOk.mk_iff, QenOk.mk_iff]
      | split

theorem TileState.copyFrom_sound {x y : TileState} (hx : TileOk s0 x) (hy : TileOk s0 y) : TileOk s0 (TileState.copyFrom x y) := by
  unfold TileState.copyFrom
  repeat' first
      | (with_reducible first | assumption | intro _ | apply TileOk.mem | apply TileOk.evr | apply And.intro)
      | simp only [Sound.mk_iff, TileOk.mk_iff, EvrOk.mk_iff, QenOk.mk_iff]
      | split

theorem TileState.resumeAlone_sound {x : TileState} {last : Nat} (hx : TileOk s0 x) : TileOk s0 (TileState.resumeAlone x last) := by
  unfold TileState.resumeAlone
  repeat' first
      | (with_reducible first | assumption | intro _ | apply TileOk.mem | apply TileOk.evr | apply And.intro)
      | simp only [Sound.mk_iff, TileOk.mk_iff, EvrOk.mk_iff, QenOk.mk_iff]
      | split

theorem State.copyDone_sound {s : State} {t : Nat} (hs : Sound s0 s) : Sound s0 (State.copyDone s t) := by
  unfold State.copyDone
  repeat' first
      | (with_reducible first | assumption | intro _ | apply TileState.resumeAlone_sound | apply TileState.copyFrom_sound | apply State.setTwin_sound | apply State.prepare_sound | apply State.park_sound | apply State.doneLine_sound | apply Sound.updTileN | apply Sound.tileN | apply TileOk.mem | apply TileOk.evr | apply Sound.ite | apply TileOk.ite | apply And.intro)
      | simp only [Sound.mk_iff, TileOk.mk_iff, EvrOk.mk_iff, QenOk.mk_iff]
      | split

theorem State.updBoot_sound {s : State} {t : Nat} {f : Boot → Boot} (hs : Sound s0 s) : Sound s0 (State.updBoot s t f) := by
  unfold State.updBoot
  repeat' first
      | (with_reducible first | assumption | intro _ | apply Sound.updTileN | apply Sound.tileN | apply TileOk.mem | apply TileOk.evr | apply And.intro)
      | simp only [Sound.mk_iff, TileOk.mk_iff, EvrOk.mk_iff, QenOk.mk_iff]
      | split

theorem State.updateFails_sound {s : State} {t cause : Nat} (hs : Sound s0 s) : Sound s0 (State.updateFails s t cause) := by
  unfold State.updateFails
  repeat' first
      | (with_reducible first | assumption | intro _ | apply State.restartTile_sound | apply State.withdraw_sound | apply State.done_sound | apply State.raiseLead_sound | apply Sound.updTileN | apply Sound.tileN | apply Sound.part | apply Sound.tiles | apply Sound.qen | apply Sound.host | apply Sound.free | apply Sound.pending | apply TileOk.mem | apply TileOk.evr | apply Sound.ite | apply And.intro)
      | simp only [Sound.mk_iff, TileOk.mk_iff, EvrOk.mk_iff, QenOk.mk_iff]
      | split

theorem State.bootFails_sound {s : State} {t cause : Nat} (hs : Sound s0 s) : Sound s0 (State.bootFails s t cause) := by
  unfold State.bootFails
  repeat' first
      | (with_reducible first | assumption | intro _ | apply State.updateFails_sound | apply State.updBoot_sound | apply State.armSettle_sound | apply State.armTwins_sound | apply State.done_sound | apply State.raiseLead_sound | apply Sound.updTileN | apply Sound.tileN | apply TileOk.mem | apply TileOk.evr | apply Sound.ite | apply And.intro)
      | simp only [Sound.mk_iff, TileOk.mk_iff, EvrOk.mk_iff, QenOk.mk_iff]
      | split

theorem State.updateSettle_sound {s : State} (hs : Sound s0 s) : Sound s0 (State.updateSettle s) := by
  unfold State.updateSettle
  repeat' first
      | (with_reducible first | assumption | intro _ | apply Sound.part | apply Sound.tiles | apply Sound.qen | apply Sound.host | apply Sound.free | apply Sound.pending | apply Sound.ite | apply And.intro)
      | simp only [Sound.mk_iff, TileOk.mk_iff, EvrOk.mk_iff, QenOk.mk_iff]
      | split

theorem State.updatePaired_sound {s : State} {t : Nat} (hs : Sound s0 s) : Sound s0 (State.updatePaired s t) := by
  unfold State.updatePaired
  repeat' first
      | (with_reducible first | assumption | intro _ | apply State.updateSettle_sound | apply Sound.part | apply Sound.tiles | apply Sound.qen | apply Sound.host | apply Sound.free | apply Sound.pending | apply And.intro)
      | simp only [Sound.mk_iff, TileOk.mk_iff, EvrOk.mk_iff, QenOk.mk_iff]
      | split

theorem State.bootReady_sound {s : State} {t : Nat} (hs : Sound s0 s) : Sound s0 (State.bootReady s t) := by
  unfold State.bootReady
  repeat' first
      | (with_reducible first | assumption | intro _ | apply State.updateSettle_sound | apply State.updBoot_sound | apply State.startResync_sound | apply State.armSettle_sound | apply State.armTwins_sound | apply State.done_sound | apply Sound.updTileN | apply Sound.tileN | apply TileOk.mem | apply TileOk.evr | apply Sound.ite | apply And.intro)
      | simp only [Sound.mk_iff, TileOk.mk_iff, EvrOk.mk_iff, QenOk.mk_iff]
      | split

theorem State.bootOn_sound {s : State} {t mask : Nat} (hs : Sound s0 s) : Sound s0 (State.bootOn s t mask) := by
  unfold State.bootOn
  repeat' first
      | (with_reducible first | assumption | intro _ | apply State.domUp_sound | apply Sound.foldl | apply Sound.ite)
      | simp only [Sound.mk_iff, TileOk.mk_iff, EvrOk.mk_iff, QenOk.mk_iff]
      | split

theorem State.imageDone_sound {s : State} {t : Nat} (hs : Sound s0 s) : Sound s0 (State.imageDone s t) := by
  unfold State.imageDone
  repeat' first
      | (with_reducible first | assumption | intro _ | apply State.updBoot_sound)
      | simp only [Sound.mk_iff, TileOk.mk_iff, EvrOk.mk_iff, QenOk.mk_iff]
      | split

theorem State.pairDone_sound {s : State} {t : Nat} (hs : Sound s0 s) : Sound s0 (State.pairDone s t) := by
  unfold State.pairDone
  repeat' first
      | (with_reducible first | assumption | intro _ | apply State.bootReady_sound | apply State.bootFails_sound | apply State.updBoot_sound | apply Sound.part | apply Sound.tiles | apply Sound.qen | apply Sound.host | apply Sound.free | apply Sound.pending | apply Sound.ite | apply And.intro)
      | simp only [Sound.mk_iff, TileOk.mk_iff, EvrOk.mk_iff, QenOk.mk_iff]
      | split

theorem State.calPowerUp_sound {s : State} (hs : Sound s0 s) : Sound s0 (State.calPowerUp s) := by
  unfold State.calPowerUp
  repeat' first
      | (with_reducible first | assumption | intro _ | apply State.calSettle_sound | apply Sound.part | apply Sound.tiles | apply Sound.qen | apply Sound.host | apply Sound.free | apply Sound.pending | apply Sound.ite | apply And.intro)
      | simp only [Sound.mk_iff, TileOk.mk_iff, EvrOk.mk_iff, QenOk.mk_iff]
      | split

theorem State.restoreCounters_sound {s : State} (hs : Sound s0 s) : Sound s0 (State.restoreCounters s) := by
  unfold State.restoreCounters
  repeat' first
      | (with_reducible first | assumption | intro _ | apply State.updMarks_sound | apply State.raiseLead_sound | apply Sound.foldl | apply Sound.part | apply Sound.tiles | apply Sound.qen | apply Sound.host | apply Sound.free | apply Sound.pending | apply Sound.ite | apply And.intro)
      | simp only [Sound.mk_iff, TileOk.mk_iff, EvrOk.mk_iff, QenOk.mk_iff]
      | split

theorem State.restoreTally_sound {s : State} {p : TallyLog} (hs : Sound s0 s) : Sound s0 (State.restoreTally s p) := by
  unfold State.restoreTally
  repeat' first
      | (with_reducible first | assumption | intro _ | apply State.updBoot_sound | apply Sound.foldl | apply Sound.part | apply Sound.tiles | apply Sound.qen | apply Sound.host | apply Sound.free | apply Sound.pending | apply And.intro)
      | simp only [Sound.mk_iff, TileOk.mk_iff, EvrOk.mk_iff, QenOk.mk_iff]
      | split

theorem State.restoreEvr_sound {s : State} {l : List Evr} (hs : Sound s0 s) : Sound s0 (State.restoreEvr s l) := by
  unfold State.restoreEvr
  refine Sound.foldl hs fun s t h => ?_
  split
  · exact State.updEvr_sound h (fun e he => he)
  · exact h

theorem State.restore_sound {s : State} (hs : Sound s0 s) : Sound s0 (State.restore s) := by
  unfold State.restore
  repeat' first
      | (with_reducible first | assumption | intro _ | apply State.restoreEvr_sound | apply State.restoreTally_sound | apply State.restoreCounters_sound | apply State.calPowerUp_sound | apply State.updColour_sound | apply State.calSettings_sound | apply Sound.part | apply Sound.tiles | apply Sound.qen | apply Sound.host | apply Sound.free | apply Sound.pending | apply And.intro)
      | simp only [Sound.mk_iff, TileOk.mk_iff, EvrOk.mk_iff, QenOk.mk_iff]
      | split

theorem State.bootPass_sound {s : State} {t : Nat} (hs : Sound s0 s) : Sound s0 (State.bootPass s t) := by
  unfold State.bootPass
  repeat' first
      | (with_reducible first | assumption | intro _ | apply State.restore_sound | apply State.pairDone_sound | apply State.imageDone_sound | apply State.bootOn_sound | apply State.bootReady_sound | apply State.updBoot_sound | apply Sound.part | apply Sound.tiles | apply Sound.qen | apply Sound.host | apply Sound.free | apply Sound.pending | apply QenOk.sessions | apply Sound.ite | apply And.intro)
      | simp only [Sound.mk_iff, TileOk.mk_iff, EvrOk.mk_iff, QenOk.mk_iff]
      | split

theorem State.bootStageFails_sound {s : State} {t cause : Nat} (hs : Sound s0 s) : Sound s0 (State.bootStageFails s t cause) := by
  unfold State.bootStageFails
  repeat' first
      | (with_reducible first | assumption | intro _ | apply State.bootFails_sound | apply State.updBoot_sound | apply Sound.ite)
      | simp only [Sound.mk_iff, TileOk.mk_iff, EvrOk.mk_iff, QenOk.mk_iff]
      | split

theorem State.bootEnd_sound {s : State} {t : Nat} {e : StageEnd} (hs : Sound s0 s) : Sound s0 (State.bootEnd s t e) := by
  unfold State.bootEnd
  repeat' first
      | (with_reducible first | assumption | intro _ | apply State.bootStageFails_sound | apply State.bootPass_sound)
      | simp only [Sound.mk_iff, TileOk.mk_iff, EvrOk.mk_iff, QenOk.mk_iff]
      | split

theorem State.imageReceive_sound {s : State} {t : Nat} {e : StageEnd} (hs : Sound s0 s) : Sound s0 (State.imageReceive s t e) := by
  unfold State.imageReceive
  repeat' first
      | (with_reducible first | assumption | intro _ | apply State.imageDone_sound | apply State.bootFails_sound | apply State.updBoot_sound | apply Sound.whenDue | apply Sound.ite)
      | simp only [Sound.mk_iff, TileOk.mk_iff, EvrOk.mk_iff, QenOk.mk_iff]
      | split

theorem State.imageTimeout_sound {s : State} (hs : Sound s0 s) : Sound s0 (State.imageTimeout s) := by
  unfold State.imageTimeout
  repeat' first
      | (with_reducible first | assumption | intro _ | apply State.updBoot_sound | apply State.moveLead_sound | apply Sound.whenDue)
      | simp only [Sound.mk_iff, TileOk.mk_iff, EvrOk.mk_iff, QenOk.mk_iff]
      | split

theorem State.pairTimeout_sound {s : State} {t : Nat} (hs : Sound s0 s) : Sound s0 (State.pairTimeout s t) := by
  unfold State.pairTimeout
  repeat' first
      | (with_reducible first | assumption | intro _ | apply State.pairDone_sound | apply Sound.whenDue)
      | simp only [Sound.mk_iff, TileOk.mk_iff, EvrOk.mk_iff, QenOk.mk_iff]
      | split

theorem State.coldTile_sound {s : State} {t : Nat} (hs : Sound s0 s) : TileOk s0 (State.coldTile s t) := by
  unfold State.coldTile
  repeat' first
      | (with_reducible first | assumption | intro _ | exact TileOk.reset | apply TileOk.mem | apply TileOk.evr | apply And.intro)
      | simp only [Sound.mk_iff, TileOk.mk_iff, EvrOk.mk_iff, QenOk.mk_iff]
      | split

theorem State.coldReset_sound {s : State} (hs : Sound s0 s) : Sound s0 (State.coldReset s) := by
  unfold State.coldReset
  refine Sound.mk_iff.2 ⟨hs.part, fun t => ?_, QenOk.reset, hs.host, hs.free, hs.pending⟩
  have e : (Vector.ofFn fun i : Fin 8 => s.coldTile i.val).get t = s.coldTile t.val := by
    show (Vector.ofFn fun i : Fin 8 => s.coldTile i.val)[t.val] = _
    rw [Vector.getElem_ofFn]
  rw [e]
  exact ⟨rfl, Nat.zero_le _⟩

theorem opSvcPower_ok : OpOk s0 opSvcPower := by
  refine ⟨fun s p bs h => ?_, fun s p bs h => ?_, fun s p h => ?_⟩ <;> simp only [opSvcPower]
  all_goals repeat' first
    | (with_reducible first | assumption | intro _ | apply actSvcPower_sound | apply noBind_sound | apply And.intro)
    | simp only [Sound.mk_iff, TileOk.mk_iff, EvrOk.mk_iff, QenOk.mk_iff]
    | split

end Sys2Proof.Machine
end

