-- ==== Sys2Proof/Laws/SoundLink.lean ====
section
/-! SUPPORT. Every operation of composition, arm lines, displays, hubs, WyrelLink and inputs keeps the package sound (Laws/Sound.lean). -/

set_option linter.all false

namespace Sys2Proof.Machine

/-! ## Compose -/

theorem State.uncoveredAt_sound {s : State} {t ch n x : Nat} (hs : Sound s0 s) : Sound s0 (State.uncoveredAt s t ch n x) := by
  unfold State.uncoveredAt
  repeat' first
      | (with_reducible first | assumption | intro _ | apply State.raiseN_sound | apply Sound.updTileN | apply Sound.tileN | apply TileOk.mem | apply TileOk.evr | apply Sound.ite | apply And.intro)
      | simp only [Sound.mk_iff, TileOk.mk_iff, EvrOk.mk_iff, QenOk.mk_iff]
      | split

theorem State.countLost_sound {s : State} {t ch n : Nat} {l : List Nat × Nat} (hs : Sound s0 s) : Sound s0 (State.countLost s t ch n l) := by
  unfold State.countLost
  repeat' first
      | (with_reducible first | assumption | intro _ | apply State.uncoveredAt_sound | apply Sound.foldl | apply Sound.updTileN | apply Sound.tileN | apply TileOk.mem | apply TileOk.evr | apply And.intro)
      | simp only [Sound.mk_iff, TileOk.mk_iff, EvrOk.mk_iff, QenOk.mk_iff]
      | split

theorem State.storeRows_sound {s : State} {t ch n : Nat} {lv : NMap Nat} {blank void : Bool} (hs : Sound s0 s) : Sound s0 (State.storeRows s t ch n lv blank void) := by
  unfold State.storeRows
  repeat' first
      | (with_reducible first | assumption | intro _ | apply State.writeLine_sound | apply State.nextFree_sound | apply Sound.foldl | apply Sound.updTileN | apply Sound.tileN | apply TileOk.mem | apply TileOk.evr | apply And.intro)
      | simp only [Sound.mk_iff, TileOk.mk_iff, EvrOk.mk_iff, QenOk.mk_iff]
      | split

theorem State.patchOverlap_sound {s : State} {t n : Nat} (hs : Sound s0 s) : Sound s0 (State.patchOverlap s t n) := by
  unfold State.patchOverlap
  repeat' first
      | (with_reducible first | assumption | intro _ | apply State.bandFlag_sound | apply Sound.foldl)
      | simp only [Sound.mk_iff, TileOk.mk_iff, EvrOk.mk_iff, QenOk.mk_iff]
      | split

theorem State.composeLine_sound {s : State} {t n : Nat} (hs : Sound s0 s) : Sound s0 (State.composeLine s t n) := by
  unfold State.composeLine
  repeat' first
      | (with_reducible first | assumption | intro _ | apply State.patchOverlap_sound | apply State.storeRows_sound | apply State.countLost_sound | apply State.stripsRead_sound | apply State.readStrip_sound | apply Sound.foldl)
      | simp only [Sound.mk_iff, TileOk.mk_iff, EvrOk.mk_iff, QenOk.mk_iff]
      | split

theorem State.startFill_sound {s : State} {t n : Nat} (hs : Sound s0 s) : Sound s0 (State.startFill s t n) := by
  unfold State.startFill
  repeat' first
      | (with_reducible first | assumption | intro _ | apply State.setTwin_sound | apply State.motionRole_sound | apply Sound.updTileN | apply Sound.tileN | apply TileOk.mem | apply TileOk.evr | apply Sound.ite | apply And.intro)
      | simp only [Sound.mk_iff, TileOk.mk_iff, EvrOk.mk_iff, QenOk.mk_iff]
      | split

theorem State.applyCommits_sound {s : State} {t n : Nat} (hs : Sound s0 s) : Sound s0 (State.applyCommits s t n) := by
  unfold State.applyCommits
  repeat' first
      | (with_reducible first | assumption | intro _ | apply Sound.updTileN | apply Sound.tileN | apply TileOk.mem | apply TileOk.evr | apply And.intro)
      | simp only [Sound.mk_iff, TileOk.mk_iff, EvrOk.mk_iff, QenOk.mk_iff]
      | split

theorem State.bankReached_sound {s : State} (hs : Sound s0 s) : Sound s0 (State.bankReached s) := by
  unfold State.bankReached
  repeat' first
      | (with_reducible first | assumption | intro _ | apply Sound.part | apply Sound.tiles | apply Sound.qen | apply Sound.host | apply Sound.free | apply Sound.pending | apply Sound.ite | apply And.intro)
      | simp only [Sound.mk_iff, TileOk.mk_iff, EvrOk.mk_iff, QenOk.mk_iff]
      | split

theorem State.lineCompute_sound {s : State} {t n : Nat} (hs : Sound s0 s) : Sound s0 (State.lineCompute s t n) := by
  unfold State.lineCompute
  repeat' first
      | (with_reducible first | assumption | intro _ | apply State.bankReached_sound | apply State.applyCommits_sound | apply State.startFill_sound | apply State.composeLine_sound | apply Sound.ite)
      | simp only [Sound.mk_iff, TileOk.mk_iff, EvrOk.mk_iff, QenOk.mk_iff]
      | split

theorem State.positionReceive_sound {s : State} {t n : Nat} (hs : Sound s0 s) : Sound s0 (State.positionReceive s t n) := by
  unfold State.positionReceive
  repeat' first
      | (with_reducible first | assumption | intro _ | apply State.withdraw_sound | apply Sound.updTileN | apply Sound.tileN | apply TileOk.mem | apply TileOk.evr | apply Sound.ite | apply And.intro)
      | simp only [Sound.mk_iff, TileOk.mk_iff, EvrOk.mk_iff, QenOk.mk_iff]
      | split

/-! ## Arm -/

theorem State.mergeChanges_sound {s : State} {p : Product} (hs : Sound s0 s) : Sound s0 (State.mergeChanges s p) := by
  unfold State.mergeChanges
  repeat' first
      | (with_reducible first | assumption | intro _ | apply State.updLane_sound)
      | simp only [Sound.mk_iff, TileOk.mk_iff, EvrOk.mk_iff, QenOk.mk_iff]
      | split

theorem State.applyMarks_sound {s : State} {p : Product} (hs : Sound s0 s) : Sound s0 (State.applyMarks s p) := by
  unfold State.applyMarks
  repeat' first
      | (with_reducible first | assumption | intro _ | apply State.applyMark_sound | apply State.updLane_sound | apply Sound.foldl)
      | simp only [Sound.mk_iff, TileOk.mk_iff, EvrOk.mk_iff, QenOk.mk_iff]
      | split

theorem State.applyCounters_sound {s : State} {a : Nat} (hs : Sound s0 s) : Sound s0 (State.applyCounters s a) := by
  unfold State.applyCounters
  repeat' first
      | (with_reducible first | assumption | intro _ | apply State.applyMark_sound | apply State.updLane_sound | apply Sound.foldl)
      | simp only [Sound.mk_iff, TileOk.mk_iff, EvrOk.mk_iff, QenOk.mk_iff]
      | split

theorem State.armProduct_sound {s : State} {p : Product} {m : PMap} (hs : Sound s0 s) : Sound s0 (State.armProduct s p m) := by
  unfold State.armProduct
  repeat' first
      | (with_reducible first | assumption | intro _ | apply State.updProduct_sound)
      | simp only [Sound.mk_iff, TileOk.mk_iff, EvrOk.mk_iff, QenOk.mk_iff]
      | split

theorem State.armMissed_sound {s : State} {p : Product} (hs : Sound s0 s) : Sound s0 (State.armMissed s p) := by
  unfold State.armMissed
  repeat' first
      | (with_reducible first | assumption | intro _ | apply State.armProduct_sound | apply State.settleFence_sound | apply State.reject_sound | apply State.updLane_sound | apply State.raiseLead_sound | apply Sound.foldl | apply Sound.ite)
      | simp only [Sound.mk_iff, TileOk.mk_iff, EvrOk.mk_iff, QenOk.mk_iff]
      | split

theorem State.armEvaluate_sound {s : State} {p : Product} (hs : Sound s0 s) : Sound s0 (State.armEvaluate s p) := by
  unfold State.armEvaluate
  repeat' first
      | (with_reducible first | assumption | intro _ | apply State.armProduct_sound | apply State.applyCounters_sound | apply State.applyMarks_sound | apply State.mergeChanges_sound | apply State.bandTrigger_sound | apply State.clipFields_sound | apply State.evaluate_sound | apply State.settleFence_sound | apply Sound.foldl | apply Sound.ite)
      | simp only [Sound.mk_iff, TileOk.mk_iff, EvrOk.mk_iff, QenOk.mk_iff]
      | split

theorem State.armLineEval_sound {s : State} {lane num : Nat} (hs : Sound s0 s) : Sound s0 (State.armLineEval s lane num) := by
  unfold State.armLineEval
  repeat' first
      | (with_reducible first | assumption | intro _ | apply State.armEvaluate_sound | apply State.armMissed_sound | apply Sound.ite)
      | simp only [Sound.mk_iff, TileOk.mk_iff, EvrOk.mk_iff, QenOk.mk_iff]
      | split

/-! ## Disp -/

theorem State.withPanel_sound {s : State} {m : Timing} (hs : Sound s0 s) : Sound s0 (State.withPanel s m) := by
  unfold State.withPanel
  repeat' first
      | (with_reducible first | assumption | intro _ | apply Sound.part | apply Sound.tiles | apply Sound.qen | apply Sound.host | apply Sound.free | apply Sound.pending | apply And.intro)
      | simp only [Sound.mk_iff, TileOk.mk_iff, EvrOk.mk_iff, QenOk.mk_iff]
      | split

theorem State.declareProof_sound {s : State} {m : Timing} (hs : Sound s0 s) : Sound s0 (State.declareProof s m) := by
  unfold State.declareProof
  repeat' first
      | (with_reducible first | assumption | intro _ | apply State.updMemc_sound | apply Sound.foldl)
      | simp only [Sound.mk_iff, TileOk.mk_iff, EvrOk.mk_iff, QenOk.mk_iff]
      | split

theorem actDispMode_sound {s : State} {p : Packet} {bs : List Byte} (hs : Sound s0 s) : Sound s0 (actDispMode s p bs) := by
  unfold actDispMode
  repeat' first
      | (with_reducible first | assumption | intro _ | apply State.declareProof_sound | apply State.updDport_sound | apply State.park_sound | apply State.done_sound | apply State.complete_sound | apply Sound.foldl | apply Sound.part | apply Sound.tiles | apply Sound.qen | apply Sound.host | apply Sound.free | apply Sound.pending | apply Sound.ite | apply And.intro)
      | simp only [Sound.mk_iff, TileOk.mk_iff, EvrOk.mk_iff, QenOk.mk_iff]
      | split

theorem State.dispOffNow_sound {s : State} (hs : Sound s0 s) : Sound s0 (State.dispOffNow s) := by
  unfold State.dispOffNow
  repeat' first
      | (with_reducible first | assumption | intro _ | apply State.domsOff_sound | apply State.done_sound | apply Sound.foldl | apply Sound.part | apply Sound.tiles | apply Sound.qen | apply Sound.host | apply Sound.free | apply Sound.pending | apply And.intro)
      | simp only [Sound.mk_iff, TileOk.mk_iff, EvrOk.mk_iff, QenOk.mk_iff]
      | split

theorem State.dispOffSettle_sound {s : State} (hs : Sound s0 s) : Sound s0 (State.dispOffSettle s) := by
  unfold State.dispOffSettle
  repeat' first
      | (with_reducible first | assumption | intro _ | apply State.dispOffNow_sound | apply Sound.ite)
      | simp only [Sound.mk_iff, TileOk.mk_iff, EvrOk.mk_iff, QenOk.mk_iff]
      | split

theorem State.dispPowerOn_sound {s : State} {p : Packet} (hs : Sound s0 s) : Sound s0 (State.dispPowerOn s p) := by
  unfold State.dispPowerOn
  repeat' first
      | (with_reducible first | assumption | intro _ | apply State.domOn_sound | apply State.portStart_sound | apply State.park_sound | apply State.done_sound | apply Sound.foldl | apply Sound.updTileN | apply Sound.tileN | apply TileOk.mem | apply TileOk.evr | apply Sound.ite | apply And.intro)
      | simp only [Sound.mk_iff, TileOk.mk_iff, EvrOk.mk_iff, QenOk.mk_iff]
      | split

theorem State.dispPowerOff_sound {s : State} {p : Packet} (hs : Sound s0 s) : Sound s0 (State.dispPowerOff s p) := by
  unfold State.dispPowerOff
  repeat' first
      | (with_reducible first | assumption | intro _ | apply State.dispOffSettle_sound | apply State.portStop_sound | apply State.park_sound | apply State.done_sound | apply Sound.foldl | apply Sound.part | apply Sound.tiles | apply Sound.qen | apply Sound.host | apply Sound.free | apply Sound.pending | apply Sound.ite | apply And.intro)
      | simp only [Sound.mk_iff, TileOk.mk_iff, EvrOk.mk_iff, QenOk.mk_iff]
      | split

theorem actDispPower_sound {s : State} {p : Packet} {u1 : List Byte} (hs : Sound s0 s) : Sound s0 (actDispPower s p u1) := by
  unfold actDispPower
  repeat' first
      | (with_reducible first | assumption | intro _ | apply State.dispPowerOff_sound | apply State.dispPowerOn_sound | apply Sound.ite)
      | simp only [Sound.mk_iff, TileOk.mk_iff, EvrOk.mk_iff, QenOk.mk_iff]
      | split

theorem actDispFlip_sound {s : State} {p : Packet} {u1 : List Byte} (hs : Sound s0 s) : Sound s0 (actDispFlip s p u1) := by
  unfold actDispFlip
  repeat' first
      | (with_reducible first | assumption | intro _ | apply State.flipSettle_sound | apply State.park_sound | apply Sound.part | apply Sound.tiles | apply Sound.qen | apply Sound.host | apply Sound.free | apply Sound.pending | apply And.intro)
      | simp only [Sound.mk_iff, TileOk.mk_iff, EvrOk.mk_iff, QenOk.mk_iff]
      | split

theorem opDispMode_ok : OpOk s0 opDispMode := by
  refine ⟨fun s p bs h => ?_, fun s p bs h => ?_, fun s p h => ?_⟩ <;> simp only [opDispMode]
  all_goals repeat' first
    | (with_reducible first | assumption | intro _ | apply actDispMode_sound | apply noBind_sound | apply And.intro)
    | simp only [Sound.mk_iff, TileOk.mk_iff, EvrOk.mk_iff, QenOk.mk_iff]
    | split

theorem opDispPower_ok : OpOk s0 opDispPower := by
  refine ⟨fun s p bs h => ?_, fun s p bs h => ?_, fun s p h => ?_⟩ <;> simp only [opDispPower]
  all_goals repeat' first
    | (with_reducible first | assumption | intro _ | apply actDispPower_sound | apply noBind_sound | apply And.intro)
    | simp only [Sound.mk_iff, TileOk.mk_iff, EvrOk.mk_iff, QenOk.mk_iff]
    | split

theorem opDispFlip_ok : OpOk s0 opDispFlip := by
  refine ⟨fun s p bs h => ?_, fun s p bs h => ?_, fun s p h => ?_⟩ <;> simp only [opDispFlip]
  all_goals repeat' first
    | (with_reducible first | assumption | intro _ | apply actDispFlip_sound | apply noBind_sound | apply And.intro)
    | simp only [Sound.mk_iff, TileOk.mk_iff, EvrOk.mk_iff, QenOk.mk_iff]
    | split

theorem opDispStatus_ok : OpOk s0 opDispStatus := by
  refine ⟨fun s p bs h => ?_, fun s p bs h => ?_, fun s p h => ?_⟩ <;> simp only [opDispStatus]
  all_goals repeat' first
    | (with_reducible first | assumption | intro _ | apply noBind_sound | apply State.reportQ_sound | apply And.intro)
    | simp only [Sound.mk_iff, TileOk.mk_iff, EvrOk.mk_iff, QenOk.mk_iff]
    | split

/-! ## Hub -/

theorem State.ctrlRequest_sound {s : State} {f : CtrlFrame} (hs : Sound s0 s) : Sound s0 (State.ctrlRequest s f) := by
  unfold State.ctrlRequest
  repeat' first
      | (with_reducible first | assumption | intro _ | apply State.updNode_sound | apply State.sendFrame_sound | apply State.nextFree_sound | apply Sound.part | apply Sound.tiles | apply Sound.qen | apply Sound.host | apply Sound.free | apply Sound.pending | apply Sound.ite | apply And.intro)
      | simp only [Sound.mk_iff, TileOk.mk_iff, EvrOk.mk_iff, QenOk.mk_iff]
      | split

theorem State.hubAct_sound {s : State} {id : Nat} {sideB : Bool} {bs : List Byte} (hs : Sound s0 s) : Sound s0 (State.hubAct s id sideB bs) := by
  unfold State.hubAct
  repeat' first
      | (with_reducible first | assumption | intro _ | apply State.ctrlRequest_sound | apply State.updNode_sound | apply Sound.ite)
      | simp only [Sound.mk_iff, TileOk.mk_iff, EvrOk.mk_iff, QenOk.mk_iff]
      | split

theorem State.hubReceive_sound {s : State} {id : Nat} {port : HubPort} {f : RxFrame} (hs : Sound s0 s) : Sound s0 (State.hubReceive s id port f) := by
  unfold State.hubReceive
  repeat' first
      | (with_reducible first | assumption | intro _ | apply State.hubAct_sound | apply State.updNode_sound | apply Sound.ite)
      | simp only [Sound.mk_iff, TileOk.mk_iff, EvrOk.mk_iff, QenOk.mk_iff]
      | split

/-! ## Link -/

theorem State.nodeJoins_sound {s : State} {id : Nat} (hs : Sound s0 s) : Sound s0 (State.nodeJoins s id) := by
  unfold State.nodeJoins
  repeat' first
      | (with_reducible first | assumption | intro _ | apply State.colourNodeBack_sound | apply State.updNode_sound | apply State.changeOwn_sound | apply State.raiseLead_sound | apply Sound.foldl | apply Sound.ite)
      | simp only [Sound.mk_iff, TileOk.mk_iff, EvrOk.mk_iff, QenOk.mk_iff]
      | split

theorem State.nodeLost_sound {s : State} {id cause : Nat} {since : Nat} (hs : Sound s0 s) : Sound s0 (State.nodeLost s id cause since) := by
  unfold State.nodeLost
  repeat' first
      | (with_reducible first | assumption | intro _ | apply State.colourNodeLost_sound | apply State.updNode_sound | apply State.rejectIf_sound | apply State.changeOwn_sound | apply State.raiseLead_sound)
      | simp only [Sound.mk_iff, TileOk.mk_iff, EvrOk.mk_iff, QenOk.mk_iff]
      | split

theorem State.planLeave_sound {s : State} {id seq : Nat} (hs : Sound s0 s) : Sound s0 (State.planLeave s id seq) := by
  unfold State.planLeave
  repeat' first
      | (with_reducible first | assumption | intro _ | apply State.sendCtrl_sound | apply State.updNode_sound | apply State.rejectIf_sound | apply State.changeOwn_sound | apply State.changeFor_sound | apply State.raiseLead_sound | apply Sound.ite)
      | simp only [Sound.mk_iff, TileOk.mk_iff, EvrOk.mk_iff, QenOk.mk_iff]
      | split

theorem State.leaveIssue_sound {s : State} {n : Nat} (hs : Sound s0 s) : Sound s0 (State.leaveIssue s n) := by
  unfold State.leaveIssue
  repeat' first
      | (with_reducible first | assumption | intro _ | apply State.colourNodeLost_sound | apply State.sendCtrl_sound | apply State.updNode_sound | apply State.rejectIf_sound | apply Sound.foldl | apply Sound.ite)
      | simp only [Sound.mk_iff, TileOk.mk_iff, EvrOk.mk_iff, QenOk.mk_iff]
      | split

theorem State.issueTail_sound {s : State} {n : Nat} (hs : Sound s0 s) : Sound s0 (State.issueTail s n) := by
  unfold State.issueTail
  repeat' first
      | (with_reducible first | assumption | intro _ | apply State.leaveIssue_sound | apply State.fetchLine_sound | apply State.rejectDark_sound | apply Sound.foldl | apply Sound.part | apply Sound.tiles | apply Sound.qen | apply Sound.host | apply Sound.free | apply Sound.pending | apply Sound.ite | apply And.intro)
      | simp only [Sound.mk_iff, TileOk.mk_iff, EvrOk.mk_iff, QenOk.mk_iff]
      | split

theorem State.updUid_sound {s : State} {uid : Nat} {f : Node → Node} (hs : Sound s0 s) : Sound s0 (State.updUid s uid f) := by
  unfold State.updUid
  repeat' first
      | (with_reducible first | assumption | intro _ | apply Sound.part | apply Sound.tiles | apply Sound.qen | apply Sound.host | apply Sound.free | apply Sound.pending | apply And.intro)
      | simp only [Sound.mk_iff, TileOk.mk_iff, EvrOk.mk_iff, QenOk.mk_iff]
      | split

theorem State.writeNode_sound {s : State} {id addr : Nat} {v0 : Nat} {v1 : List Nat} (hs : Sound s0 s) : Sound s0 (State.writeNode s id addr v0 v1) := by
  induction v0 generalizing s addr v1 with
  | zero => exact hs
  | succ k ih =>
    unfold State.writeNode
    exact Sound.ite hs (ih (State.sendCtrl_sound hs))

theorem State.configNode_sound {s : State} {id : Nat} (hs : Sound s0 s) : Sound s0 (State.configNode s id) := by
  unfold State.configNode
  repeat' first
      | (with_reducible first | assumption | intro _ | apply State.writeNode_sound | apply State.sendCtrl_sound | apply State.updNode_sound | apply State.raiseLead_sound)
      | simp only [Sound.mk_iff, TileOk.mk_iff, EvrOk.mk_iff, QenOk.mk_iff]
      | split

theorem State.armNodes_sound {s : State} (hs : Sound s0 s) : Sound s0 (State.armNodes s) := by
  unfold State.armNodes
  repeat' first
      | (with_reducible first | assumption | intro _ | apply State.configNode_sound | apply State.raiseLead_sound | apply Sound.foldl | apply Sound.ite)
      | simp only [Sound.mk_iff, TileOk.mk_iff, EvrOk.mk_iff, QenOk.mk_iff]
      | split

theorem State.nodeStays_sound {s : State} {f : Hello} {ev id : Nat} (hs : Sound s0 s) : Sound s0 (State.nodeStays s f ev id) := by
  unfold State.nodeStays
  repeat' first
      | (with_reducible first | assumption | intro _ | apply State.updUid_sound | apply State.raiseLead_sound | apply Sound.part | apply Sound.tiles | apply Sound.qen | apply Sound.host | apply Sound.free | apply Sound.pending | apply Sound.ite | apply And.intro)
      | simp only [Sound.mk_iff, TileOk.mk_iff, EvrOk.mk_iff, QenOk.mk_iff]
      | split

theorem State.nodeHello_sound {s : State} {t l id : Nat} {f : Hello} (hs : Sound s0 s) : Sound s0 (State.nodeHello s t l id f) := by
  unfold State.nodeHello
  repeat' first
      | (with_reducible first | assumption | intro _ | apply State.configNode_sound | apply State.updUid_sound | apply State.nodeLost_sound | apply Sound.part | apply Sound.tiles | apply Sound.qen | apply Sound.host | apply Sound.free | apply Sound.pending | apply Sound.ite | apply And.intro)
      | simp only [Sound.mk_iff, TileOk.mk_iff, EvrOk.mk_iff, QenOk.mk_iff]
      | split

theorem State.helloBase_sound {s : State} {f : Hello} (hs : Sound s0 s) : Sound s0 (State.helloBase s f) := by
  unfold State.helloBase
  repeat' first
      | (with_reducible first | assumption | intro _ | apply State.updMot_sound | apply Sound.ite)
      | simp only [Sound.mk_iff, TileOk.mk_iff, EvrOk.mk_iff, QenOk.mk_iff]
      | split

theorem State.nodeDeep_sound {s : State} {t l id : Nat} {f : Hello} (hs : Sound s0 s) : Sound s0 (State.nodeDeep s t l id f) := by
  unfold State.nodeDeep
  repeat' first
      | (with_reducible first | assumption | intro _ | apply State.nodeHello_sound | apply State.raiseLead_sound | apply Sound.ite)
      | simp only [Sound.mk_iff, TileOk.mk_iff, EvrOk.mk_iff, QenOk.mk_iff]
      | split

theorem State.helloReceive_sound {s : State} {t l : Nat} {f : Hello} (hs : Sound s0 s) : Sound s0 (State.helloReceive s t l f) := by
  unfold State.helloReceive
  repeat' first
      | (with_reducible first | assumption | intro _ | apply State.nodeDeep_sound | apply State.helloBase_sound | apply State.nodeHello_sound | apply State.nodeStays_sound | apply State.sendCtrl_sound | apply Sound.ite)
      | simp only [Sound.mk_iff, TileOk.mk_iff, EvrOk.mk_iff, QenOk.mk_iff]
      | split

theorem State.statusTemp_sound {s : State} {id : Nat} {e : TempEntry} (hs : Sound s0 s) : Sound s0 (State.statusTemp s id e) := by
  unfold State.statusTemp
  repeat' first
      | (with_reducible first | assumption | intro _ | apply State.headTemp_sound)
      | simp only [Sound.mk_iff, TileOk.mk_iff, EvrOk.mk_iff, QenOk.mk_iff]
      | split

theorem State.statusHealth_sound {s : State} {id : Nat} {e : HealthEntry} (hs : Sound s0 s) : Sound s0 (State.statusHealth s id e) := by
  unfold State.statusHealth
  repeat' first
      | (with_reducible first | assumption | intro _ | apply State.changeOwn_sound | apply State.raiseLead_sound | apply Sound.ite)
      | simp only [Sound.mk_iff, TileOk.mk_iff, EvrOk.mk_iff, QenOk.mk_iff]
      | split

theorem State.statusReceive_sound {s : State} {f : StatusFrame} (hs : Sound s0 s) : Sound s0 (State.statusReceive s f) := by
  unfold State.statusReceive
  repeat' first
      | (with_reducible first | assumption | intro _ | apply State.statusHealth_sound | apply State.statusTemp_sound | apply State.planLeave_sound | apply State.nodeJoins_sound | apply State.updNode_sound | apply Sound.foldl | apply Sound.ite)
      | simp only [Sound.mk_iff, TileOk.mk_iff, EvrOk.mk_iff, QenOk.mk_iff]
      | split

theorem State.statusTimeout_sound {s : State} {id : Nat} (hs : Sound s0 s) : Sound s0 (State.statusTimeout s id) := by
  unfold State.statusTimeout
  repeat' first
      | (with_reducible first | assumption | intro _ | apply State.nodeLost_sound | apply Sound.whenDue)
      | simp only [Sound.mk_iff, TileOk.mk_iff, EvrOk.mk_iff, QenOk.mk_iff]
      | split

theorem State.nodeEvent_sound {s : State} {node code eseq : Nat} {data : List Byte} (hs : Sound s0 s) : Sound s0 (State.nodeEvent s node code eseq data) := by
  unfold State.nodeEvent
  repeat' first
      | (with_reducible first | assumption | intro _ | apply State.updNode_sound | apply State.raiseLead_sound | apply Sound.whenDue)
      | simp only [Sound.mk_iff, TileOk.mk_iff, EvrOk.mk_iff, QenOk.mk_iff]
      | split

theorem State.positionEvent_sound {s : State} {e : PosEvent} (hs : Sound s0 s) : Sound s0 (State.positionEvent s e) := by
  unfold State.positionEvent
  repeat' first
      | (with_reducible first | assumption | intro _ | apply State.issueTail_sound | apply State.issueCore_sound | apply State.updLoop_sound | apply State.updLens_sound | apply Sound.whenDue)
      | simp only [Sound.mk_iff, TileOk.mk_iff, EvrOk.mk_iff, QenOk.mk_iff]
      | split

theorem State.productEvent_sound {s : State} {lane num first : Nat} (hs : Sound s0 s) : Sound s0 (State.productEvent s lane num first) := by
  unfold State.productEvent
  repeat' first
      | (with_reducible first | assumption | intro _ | apply State.registerProduct_sound | apply State.updLane_sound | apply Sound.whenDue)
      | simp only [Sound.mk_iff, TileOk.mk_iff, EvrOk.mk_iff, QenOk.mk_iff]
      | split

theorem State.ctrlAnswer_sound {s : State} {f : CtrlFrame} (hs : Sound s0 s) : Sound s0 (State.ctrlAnswer s f) := by
  unfold State.ctrlAnswer
  repeat' first
      | (with_reducible first | assumption | intro _ | apply State.done_sound | apply State.complete_sound | apply State.hostWrite_sound | apply Sound.part | apply Sound.tiles | apply Sound.qen | apply Sound.host | apply Sound.free | apply Sound.pending | apply Sound.ite | apply And.intro)
      | simp only [Sound.mk_iff, TileOk.mk_iff, EvrOk.mk_iff, QenOk.mk_iff]
      | split

theorem State.ctrlSend_sound {s : State} {r : CtrlReq} (hs : Sound s0 s) : Sound s0 (State.ctrlSend s r) := by
  unfold State.ctrlSend
  repeat' first
      | (with_reducible first | assumption | intro _ | apply State.sendFrame_sound)
      | simp only [Sound.mk_iff, TileOk.mk_iff, EvrOk.mk_iff, QenOk.mk_iff]
      | split

theorem State.ctrlTimeout_sound {s : State} {seq : Nat} (hs : Sound s0 s) : Sound s0 (State.ctrlTimeout s seq) := by
  unfold State.ctrlTimeout
  repeat' first
      | (with_reducible first | assumption | intro _ | apply State.ctrlSend_sound | apply State.done_sound | apply Sound.whenDue | apply Sound.part | apply Sound.tiles | apply Sound.qen | apply Sound.host | apply Sound.free | apply Sound.pending | apply Sound.ite | apply And.intro)
      | simp only [Sound.mk_iff, TileOk.mk_iff, EvrOk.mk_iff, QenOk.mk_iff]
      | split

theorem actLinkCtrl_sound {s : State} {p : Packet} {bs : List Byte} (hs : Sound s0 s) : Sound s0 (actLinkCtrl s p bs) := by
  unfold actLinkCtrl
  repeat' first
      | (with_reducible first | assumption | intro _ | apply State.ctrlSend_sound | apply State.park_sound | apply Sound.part | apply Sound.tiles | apply Sound.qen | apply Sound.host | apply Sound.free | apply Sound.pending | apply And.intro)
      | simp only [Sound.mk_iff, TileOk.mk_iff, EvrOk.mk_iff, QenOk.mk_iff]
      | split

theorem actLinkNodes_sound {s : State} {p : Packet} {bs : List Byte} (hs : Sound s0 s) : Sound s0 (actLinkNodes s p bs) := by
  unfold actLinkNodes
  repeat' first
      | (with_reducible first | assumption | intro _ | apply State.done_sound | apply Sound.part | apply Sound.tiles | apply Sound.qen | apply Sound.host | apply Sound.free | apply Sound.pending | apply And.intro)
      | simp only [Sound.mk_iff, TileOk.mk_iff, EvrOk.mk_iff, QenOk.mk_iff]
      | split

theorem State.updServo_sound {s : State} {h : Hop} {f : Servo → Servo} (hs : Sound s0 s) : Sound s0 (State.updServo s h f) := by
  unfold State.updServo
  repeat' first
      | (with_reducible first | assumption | intro _ | apply Sound.part | apply Sound.tiles | apply Sound.qen | apply Sound.host | apply Sound.free | apply Sound.pending | apply And.intro)
      | simp only [Sound.mk_iff, TileOk.mk_iff, EvrOk.mk_iff, QenOk.mk_iff]
      | split

theorem State.hopSend_sound {s : State} {h : Hop} {type : Nat} {fields : List Nat} (hs : Sound s0 s) : Sound s0 (State.hopSend s h type fields) := by
  unfold State.hopSend
  repeat' first
      | (with_reducible first | assumption | intro _ | apply State.sendFrame_sound)
      | simp only [Sound.mk_iff, TileOk.mk_iff, EvrOk.mk_iff, QenOk.mk_iff]
      | split

theorem State.syncSend_sound {s : State} {h : Hop} (hs : Sound s0 s) : Sound s0 (State.syncSend s h) := by
  unfold State.syncSend
  repeat' first
      | (with_reducible first | assumption | intro _ | apply State.hopSend_sound | apply State.updServo_sound | apply Sound.whenDue)
      | simp only [Sound.mk_iff, TileOk.mk_iff, EvrOk.mk_iff, QenOk.mk_iff]
      | split

theorem State.syncReceive_sound {s : State} {h : Hop} {xseq t1 t2 : Nat} (hs : Sound s0 s) : Sound s0 (State.syncReceive s h xseq t1 t2) := by
  unfold State.syncReceive
  repeat' first
      | (with_reducible first | assumption | intro _ | apply State.hopSend_sound | apply State.updServo_sound | apply Sound.whenDue)
      | simp only [Sound.mk_iff, TileOk.mk_iff, EvrOk.mk_iff, QenOk.mk_iff]
      | split

theorem State.reqReceive_sound {s : State} {h : Hop} {xseq t3 t4 : Nat} (hs : Sound s0 s) : Sound s0 (State.reqReceive s h xseq t3 t4) := by
  unfold State.reqReceive
  repeat' first
      | (with_reducible first | assumption | intro _ | apply State.hopSend_sound | apply State.updServo_sound | apply Sound.whenDue)
      | simp only [Sound.mk_iff, TileOk.mk_iff, EvrOk.mk_iff, QenOk.mk_iff]
      | split

theorem State.stepTime_sound {s : State} {o : Int} (hs : Sound s0 s) : Sound s0 (State.stepTime s o) := by
  unfold State.stepTime
  repeat' first
      | (with_reducible first | assumption | intro _ | apply Sound.part | apply Sound.tiles | apply Sound.qen | apply Sound.host | apply Sound.free | apply Sound.pending | apply And.intro)
      | simp only [Sound.mk_iff, TileOk.mk_iff, EvrOk.mk_iff, QenOk.mk_iff]
      | split

theorem State.pressFault_sound {s : State} {o : Int} (hs : Sound s0 s) : Sound s0 (State.pressFault s o) := by
  unfold State.pressFault
  repeat' first
      | (with_reducible first | assumption | intro _ | apply State.updServo_sound | apply State.withdraw_sound | apply State.raiseLead_sound | apply Sound.foldl | apply Sound.part | apply Sound.tiles | apply Sound.qen | apply Sound.host | apply Sound.free | apply Sound.pending | apply And.intro)
      | simp only [Sound.mk_iff, TileOk.mk_iff, EvrOk.mk_iff, QenOk.mk_iff]
      | split

theorem State.aligned_sound {s : State} {h : Hop} (hs : Sound s0 s) : Sound s0 (State.aligned s h) := by
  unfold State.aligned
  repeat' first
      | (with_reducible first | assumption | intro _ | apply State.pressFault_sound | apply State.updServo_sound | apply State.updNode_sound | apply Sound.part | apply Sound.tiles | apply Sound.qen | apply Sound.host | apply Sound.free | apply Sound.pending | apply Sound.ite | apply And.intro)
      | simp only [Sound.mk_iff, TileOk.mk_iff, EvrOk.mk_iff, QenOk.mk_iff]
      | split

theorem State.respReceive_sound {s : State} {h : Hop} {xseq t4 : Nat} (hs : Sound s0 s) : Sound s0 (State.respReceive s h xseq t4) := by
  unfold State.respReceive
  repeat' first
      | (with_reducible first | assumption | intro _ | apply State.aligned_sound | apply State.stepTime_sound | apply State.updServo_sound | apply Sound.whenDue)
      | simp only [Sound.mk_iff, TileOk.mk_iff, EvrOk.mk_iff, QenOk.mk_iff]
      | split

theorem State.exchangeTimeout_sound {s : State} {h : Hop} (hs : Sound s0 s) : Sound s0 (State.exchangeTimeout s h) := by
  unfold State.exchangeTimeout
  repeat' first
      | (with_reducible first | assumption | intro _ | apply State.pressFault_sound | apply State.updServo_sound | apply State.updNode_sound | apply Sound.whenDue | apply Sound.ite)
      | simp only [Sound.mk_iff, TileOk.mk_iff, EvrOk.mk_iff, QenOk.mk_iff]
      | split

theorem State.announce_sound {s : State} (hs : Sound s0 s) : Sound s0 (State.announce s) := by
  unfold State.announce
  repeat' first
      | (with_reducible first | assumption | intro _ | apply State.sendFrame_sound | apply Sound.foldl | apply Sound.ite)
      | simp only [Sound.mk_iff, TileOk.mk_iff, EvrOk.mk_iff, QenOk.mk_iff]
      | split

theorem State.announceReceive_sound {s : State} {sec tau : Nat} (hs : Sound s0 s) : Sound s0 (State.announceReceive s sec tau) := by
  unfold State.announceReceive
  repeat' first
      | (with_reducible first | assumption | intro _ | apply State.calCorrect_sound | apply State.calReplace_sound | apply State.updMarks_sound | apply State.updCal_sound | apply Sound.whenDue | apply Sound.ite)
      | simp only [Sound.mk_iff, TileOk.mk_iff, EvrOk.mk_iff, QenOk.mk_iff]
      | split

theorem State.helloSend_sound {s : State} {h : Hop} (hs : Sound s0 s) : Sound s0 (State.helloSend s h) := by
  unfold State.helloSend
  repeat' first
      | (with_reducible first | assumption | intro _ | apply State.hopSend_sound | apply State.updServo_sound | apply Sound.whenDue)
      | simp only [Sound.mk_iff, TileOk.mk_iff, EvrOk.mk_iff, QenOk.mk_iff]
      | split

theorem opLinkCtrl_ok : OpOk s0 opLinkCtrl := by
  refine ⟨fun s p bs h => ?_, fun s p bs h => ?_, fun s p h => ?_⟩ <;> simp only [opLinkCtrl]
  all_goals repeat' first
    | (with_reducible first | assumption | intro _ | apply actLinkCtrl_sound | apply noBind_sound | apply And.intro)
    | simp only [Sound.mk_iff, TileOk.mk_iff, EvrOk.mk_iff, QenOk.mk_iff]
    | split

theorem opLinkNodes_ok : OpOk s0 opLinkNodes := by
  refine ⟨fun s p bs h => ?_, fun s p bs h => ?_, fun s p h => ?_⟩ <;> simp only [opLinkNodes]
  all_goals repeat' first
    | (with_reducible first | assumption | intro _ | apply actLinkNodes_sound | apply noBind_sound | apply And.intro)
    | simp only [Sound.mk_iff, TileOk.mk_iff, EvrOk.mk_iff, QenOk.mk_iff]
    | split

theorem opLinkList_ok : OpOk s0 opLinkList := by
  refine ⟨fun s p bs h => ?_, fun s p bs h => ?_, fun s p h => ?_⟩ <;> simp only [opLinkList]
  all_goals repeat' first
    | (with_reducible first | assumption | intro _ | apply noBind_sound | apply State.reportQ_sound | apply And.intro)
    | simp only [Sound.mk_iff, TileOk.mk_iff, EvrOk.mk_iff, QenOk.mk_iff]
    | split

theorem opLinkLeave_ok : OpOk s0 opLinkLeave := by
  refine ⟨fun s p bs h => ?_, fun s p bs h => ?_, fun s p h => ?_⟩ <;> simp only [opLinkLeave]
  all_goals repeat' first
    | (with_reducible first | assumption | intro _ | apply State.planLeave_sound | apply noBind_sound | apply And.intro)
    | simp only [Sound.mk_iff, TileOk.mk_iff, EvrOk.mk_iff, QenOk.mk_iff]
    | split

theorem opLinkTime_ok : OpOk s0 opLinkTime := by
  refine ⟨fun s p bs h => ?_, fun s p bs h => ?_, fun s p h => ?_⟩ <;> simp only [opLinkTime]
  all_goals repeat' first
    | (with_reducible first | assumption | intro _ | apply noBind_sound | apply State.reportQ_sound | apply And.intro)
    | simp only [Sound.mk_iff, TileOk.mk_iff, EvrOk.mk_iff, QenOk.mk_iff]
    | split

/-! ## Inputs -/

theorem State.settlePin_sound {s : State} {v0 : Pin} (hs : Sound s0 s) : Sound s0 (State.settlePin s v0) := by
  unfold State.settlePin
  repeat' first
      | (with_reducible first | assumption | intro _ | apply State.teEdge_sound | apply State.eviEdge_sound | apply State.carrChange_sound | apply State.pdEdge_sound | apply State.encIndex_sound | apply State.encEdge_sound | apply State.onBoth_sound | apply Sound.ite)
      | simp only [Sound.mk_iff, TileOk.mk_iff, EvrOk.mk_iff, QenOk.mk_iff]
      | split

/-! ## Pixel -/

theorem State.underrun_sound {s : State} {p line pixel : Nat} (hs : Sound s0 s) : Sound s0 (State.underrun s p line pixel) := by
  unfold State.underrun
  repeat' first
      | (with_reducible first | assumption | intro _ | apply State.updDport_sound | apply State.updMemc_sound | apply State.raiseN_sound | apply Sound.whenDue | apply Sound.ite)
      | simp only [Sound.mk_iff, TileOk.mk_iff, EvrOk.mk_iff, QenOk.mk_iff]
      | split

theorem State.proofFlip_sound {s : State} {p : Nat} (hs : Sound s0 s) : Sound s0 (State.proofFlip s p) := by
  unfold State.proofFlip
  repeat' first
      | (with_reducible first | assumption | intro _ | apply State.latch_sound | apply State.updDport_sound | apply State.pruneLive_sound | apply State.raiseN_sound | apply Sound.whenDue | apply Sound.ite)
      | simp only [Sound.mk_iff, TileOk.mk_iff, EvrOk.mk_iff, QenOk.mk_iff]
      | split

end Sys2Proof.Machine
end

