-- ==== Sys2Proof/Laws/SoundJob.lean ====
section
/-! SUPPORT. Every operation of service, jobs, heat, registers, parameters, fetch, lines and ticks keeps the package sound (Laws/Sound.lean). -/

set_option linter.all false

namespace Sys2Proof.Machine

/-! ## Service -/

theorem actSvcImage_sound {s : State} {p : Packet} {bs : List Byte} (hs : Sound s0 s) : Sound s0 (actSvcImage s p bs) := by
  unfold actSvcImage
  repeat' first
      | (with_reducible first | assumption | intro _ | apply State.park_sound | apply State.flashWrite_sound)
      | simp only [Sound.mk_iff, TileOk.mk_iff, EvrOk.mk_iff, QenOk.mk_iff]
      | split

theorem State.imageStored_sound {s : State} {j : FlashJob} (hs : Sound s0 s) : Sound s0 (State.imageStored s j) := by
  unfold State.imageStored
  repeat' first
      | (with_reducible first | assumption | intro _ | apply State.done_sound | apply Sound.part | apply Sound.tiles | apply Sound.qen | apply Sound.host | apply Sound.free | apply Sound.pending | apply Sound.ite | apply And.intro)
      | simp only [Sound.mk_iff, TileOk.mk_iff, EvrOk.mk_iff, QenOk.mk_iff]
      | split

theorem State.recordWritten_sound {s : State} {type : Nat} (hs : Sound s0 s) : Sound s0 (State.recordWritten s type) := by
  unfold State.recordWritten
  repeat' first
      | (with_reducible first | assumption | intro _ | apply State.nextFree_sound | apply Sound.part | apply Sound.tiles | apply Sound.qen | apply Sound.host | apply Sound.free | apply Sound.pending | apply And.intro)
      | simp only [Sound.mk_iff, TileOk.mk_iff, EvrOk.mk_iff, QenOk.mk_iff]
      | split

theorem State.flashGood_sound {s : State} {j : FlashJob} (hs : Sound s0 s) : Sound s0 (State.flashGood s j) := by
  unfold State.flashGood
  repeat' first
      | (with_reducible first | assumption | intro _ | apply State.recordWritten_sound | apply State.imageStored_sound | apply State.complete_sound | apply Sound.part | apply Sound.tiles | apply Sound.qen | apply Sound.host | apply Sound.free | apply Sound.pending | apply And.intro)
      | simp only [Sound.mk_iff, TileOk.mk_iff, EvrOk.mk_iff, QenOk.mk_iff]
      | split

theorem State.flashBad_sound {s : State} {j : FlashJob} {rest : List FlashJob} (hs : Sound s0 s) : Sound s0 (State.flashBad s j rest) := by
  unfold State.flashBad
  repeat' first
      | (with_reducible first | assumption | intro _ | apply State.done_sound | apply State.raiseLead_sound | apply State.nextFree_sound | apply Sound.part | apply Sound.tiles | apply Sound.qen | apply Sound.host | apply Sound.free | apply Sound.pending | apply Sound.ite | apply And.intro)
      | simp only [Sound.mk_iff, TileOk.mk_iff, EvrOk.mk_iff, QenOk.mk_iff]
      | split

theorem State.flashDone_sound {s : State} {ok : Bool} (hs : Sound s0 s) : Sound s0 (State.flashDone s ok) := by
  unfold State.flashDone
  repeat' first
      | (with_reducible first | assumption | intro _ | apply State.flashBad_sound | apply State.flashGood_sound | apply Sound.part | apply Sound.tiles | apply Sound.qen | apply Sound.host | apply Sound.free | apply Sound.pending | apply Sound.ite | apply And.intro)
      | simp only [Sound.mk_iff, TileOk.mk_iff, EvrOk.mk_iff, QenOk.mk_iff]
      | split

theorem State.tallyWrite_sound {s : State} (hs : Sound s0 s) : Sound s0 (State.tallyWrite s) := by
  unfold State.tallyWrite
  repeat' first
      | (with_reducible first | assumption | intro _ | apply State.flashWrite_sound | apply Sound.whenDue)
      | simp only [Sound.mk_iff, TileOk.mk_iff, EvrOk.mk_iff, QenOk.mk_iff]
      | split

theorem actSvcUpdate_sound {s : State} {p : Packet} {u1 : List Byte} (hs : Sound s0 s) : Sound s0 (actSvcUpdate s p u1) := by
  unfold actSvcUpdate
  repeat' first
      | (with_reducible first | assumption | intro _ | apply State.rejoinFor_sound | apply State.restartTile_sound | apply State.withdraw_sound | apply Sound.part | apply Sound.tiles | apply Sound.qen | apply Sound.host | apply Sound.free | apply Sound.pending | apply And.intro)
      | simp only [Sound.mk_iff, TileOk.mk_iff, EvrOk.mk_iff, QenOk.mk_iff]
      | split

theorem State.updateTimeout_sound {s : State} (hs : Sound s0 s) : Sound s0 (State.updateTimeout s) := by
  unfold State.updateTimeout
  repeat' first
      | (with_reducible first | assumption | intro _ | apply State.updateFails_sound)
      | simp only [Sound.mk_iff, TileOk.mk_iff, EvrOk.mk_iff, QenOk.mk_iff]
      | split

theorem actTwinWithdraw_sound {s : State} {p : Packet} {u1 : List Byte} (hs : Sound s0 s) : Sound s0 (actTwinWithdraw s p u1) := by
  unfold actTwinWithdraw
  repeat' first
      | (with_reducible first | assumption | intro _ | apply State.withdraw_sound | apply State.doneLine_sound)
      | simp only [Sound.mk_iff, TileOk.mk_iff, EvrOk.mk_iff, QenOk.mk_iff]
      | split

theorem actTwinRestart_sound {s : State} {p : Packet} {u1 : List Byte} (hs : Sound s0 s) : Sound s0 (actTwinRestart s p u1) := by
  unfold actTwinRestart
  repeat' first
      | (with_reducible first | assumption | intro _ | apply State.rejoinFor_sound | apply State.restartTile_sound | apply State.withdraw_sound)
      | simp only [Sound.mk_iff, TileOk.mk_iff, EvrOk.mk_iff, QenOk.mk_iff]
      | split

theorem State.lastClear_sound {s : State} {t : Nat} (hs : Sound s0 s) : Sound s0 (State.lastClear s t) := by
  unfold State.lastClear
  repeat' first
      | (with_reducible first | assumption | intro _ | apply Sound.updTileN | apply Sound.tileN | apply TileOk.mem | apply TileOk.evr | apply And.intro)
      | simp only [Sound.mk_iff, TileOk.mk_iff, EvrOk.mk_iff, QenOk.mk_iff]
      | split

theorem State.clrLast_sound {s : State} {t : Nat} (hs : Sound s0 s) : Sound s0 (State.clrLast s t) := by
  unfold State.clrLast
  repeat' first
      | (with_reducible first | assumption | intro _ | apply State.lastClear_sound | apply Sound.ite)
      | simp only [Sound.mk_iff, TileOk.mk_iff, EvrOk.mk_iff, QenOk.mk_iff]
      | split

theorem State.aonSupply_sound {s : State} {t : Nat} {toBat : Bool} (hs : Sound s0 s) : Sound s0 (State.aonSupply s t toBat) := by
  unfold State.aonSupply
  repeat' first
      | (with_reducible first | assumption | intro _ | apply State.updBoot_sound | apply State.calInvalidate_sound | apply Sound.ite)
      | simp only [Sound.mk_iff, TileOk.mk_iff, EvrOk.mk_iff, QenOk.mk_iff]
      | split

theorem State.vbatMeasure_sound {s : State} {t mv : Nat} (hs : Sound s0 s) : Sound s0 (State.vbatMeasure s t mv) := by
  unfold State.vbatMeasure
  repeat' first
      | (with_reducible first | assumption | intro _ | apply State.updBoot_sound | apply State.raiseN_sound | apply Sound.ite)
      | simp only [Sound.mk_iff, TileOk.mk_iff, EvrOk.mk_iff, QenOk.mk_iff]
      | split

theorem State.jtagExtest_sound {s : State} {on : Bool} {pins : Nat} (hs : Sound s0 s) : Sound s0 (State.jtagExtest s on pins) := by
  unfold State.jtagExtest
  repeat' first
      | (with_reducible first | assumption | intro _ | apply State.withdraw_sound | apply State.nextFree_sound | apply Sound.foldl | apply Sound.part | apply Sound.tiles | apply Sound.qen | apply Sound.host | apply Sound.free | apply Sound.pending | apply Sound.ite | apply And.intro)
      | simp only [Sound.mk_iff, TileOk.mk_iff, EvrOk.mk_iff, QenOk.mk_iff]
      | split

theorem State.smbAnswer_sound {s : State} {v : Nat} (hs : Sound s0 s) : Sound s0 (State.smbAnswer s v) := by
  unfold State.smbAnswer
  repeat' first
      | (with_reducible first | assumption | intro _ | apply State.returns_sound | apply Sound.part | apply Sound.tiles | apply Sound.qen | apply Sound.host | apply Sound.free | apply Sound.pending | apply And.intro)
      | simp only [Sound.mk_iff, TileOk.mk_iff, EvrOk.mk_iff, QenOk.mk_iff]
      | split

theorem State.smbNacked_sound {s : State} {u1 : Nat} (hs : Sound s0 s) : Sound s0 (State.smbNacked s u1) := by
  unfold State.smbNacked
  repeat' first
      | (with_reducible first | assumption | intro _ | apply Sound.part | apply Sound.tiles | apply Sound.qen | apply Sound.host | apply Sound.free | apply Sound.pending | apply And.intro)
      | simp only [Sound.mk_iff, TileOk.mk_iff, EvrOk.mk_iff, QenOk.mk_iff]
      | split

theorem opSvcImage_ok : OpOk s0 opSvcImage := by
  refine ⟨fun s p bs h => ?_, fun s p bs h => ?_, fun s p h => ?_⟩ <;> simp only [opSvcImage]
  all_goals repeat' first
    | (with_reducible first | assumption | intro _ | apply actSvcImage_sound | apply noBind_sound | apply And.intro)
    | simp only [Sound.mk_iff, TileOk.mk_iff, EvrOk.mk_iff, QenOk.mk_iff]
    | split

theorem opSvcTally_ok : OpOk s0 opSvcTally := by
  refine ⟨fun s p bs h => ?_, fun s p bs h => ?_, fun s p h => ?_⟩ <;> simp only [opSvcTally]
  all_goals repeat' first
    | (with_reducible first | assumption | intro _ | apply noBind_sound | apply State.reportQ_sound | apply And.intro)
    | simp only [Sound.mk_iff, TileOk.mk_iff, EvrOk.mk_iff, QenOk.mk_iff]
    | split

theorem opSvcUpdate_ok : OpOk s0 opSvcUpdate := by
  refine ⟨fun s p bs h => ?_, fun s p bs h => ?_, fun s p h => ?_⟩ <;> simp only [opSvcUpdate]
  all_goals repeat' first
    | (with_reducible first | assumption | intro _ | apply actSvcUpdate_sound | apply noBind_sound | apply And.intro)
    | simp only [Sound.mk_iff, TileOk.mk_iff, EvrOk.mk_iff, QenOk.mk_iff]
    | split

theorem opTwinAssay_ok : OpOk s0 opTwinAssay := by
  refine ⟨fun s p bs h => ?_, fun s p bs h => ?_, fun s p h => ?_⟩ <;> simp only [opTwinAssay]
  all_goals repeat' first
    | (with_reducible first | assumption | intro _ | apply noBind_sound | apply State.reportQ_sound | apply And.intro)
    | simp only [Sound.mk_iff, TileOk.mk_iff, EvrOk.mk_iff, QenOk.mk_iff]
    | split

theorem opTwinWithdraw_ok : OpOk s0 opTwinWithdraw := by
  refine ⟨fun s p bs h => ?_, fun s p bs h => ?_, fun s p h => ?_⟩ <;> simp only [opTwinWithdraw]
  all_goals repeat' first
    | (with_reducible first | assumption | intro _ | apply actTwinWithdraw_sound | apply noBind_sound | apply And.intro)
    | simp only [Sound.mk_iff, TileOk.mk_iff, EvrOk.mk_iff, QenOk.mk_iff]
    | split

theorem opTwinRejoin_ok : OpOk s0 opTwinRejoin := by
  refine ⟨fun s p bs h => ?_, fun s p bs h => ?_, fun s p h => ?_⟩ <;> simp only [opTwinRejoin]
  all_goals repeat' first
    | (with_reducible first | assumption | intro _ | apply State.rejoinFor_sound | apply State.startResync_sound | apply noBind_sound | apply And.intro)
    | simp only [Sound.mk_iff, TileOk.mk_iff, EvrOk.mk_iff, QenOk.mk_iff]
    | split

theorem opTwinRestart_ok : OpOk s0 opTwinRestart := by
  refine ⟨fun s p bs h => ?_, fun s p bs h => ?_, fun s p h => ?_⟩ <;> simp only [opTwinRestart]
  all_goals repeat' first
    | (with_reducible first | assumption | intro _ | apply actTwinRestart_sound | apply noBind_sound | apply And.intro)
    | simp only [Sound.mk_iff, TileOk.mk_iff, EvrOk.mk_iff, QenOk.mk_iff]
    | split

theorem opTwinLead_ok : OpOk s0 opTwinLead := by
  refine ⟨fun s p bs h => ?_, fun s p bs h => ?_, fun s p h => ?_⟩ <;> simp only [opTwinLead]
  all_goals repeat' first
    | (with_reducible first | assumption | intro _ | apply State.handover_sound | apply noBind_sound | apply State.complete_sound | apply And.intro)
    | simp only [Sound.mk_iff, TileOk.mk_iff, EvrOk.mk_iff, QenOk.mk_iff]
    | split

theorem opTwinStatus_ok : OpOk s0 opTwinStatus := by
  refine ⟨fun s p bs h => ?_, fun s p bs h => ?_, fun s p h => ?_⟩ <;> simp only [opTwinStatus]
  all_goals repeat' first
    | (with_reducible first | assumption | intro _ | apply noBind_sound | apply State.reportQ_sound | apply And.intro)
    | simp only [Sound.mk_iff, TileOk.mk_iff, EvrOk.mk_iff, QenOk.mk_iff]
    | split

theorem opTwinPreserve_ok : OpOk s0 opTwinPreserve := by
  refine ⟨fun s p bs h => ?_, fun s p bs h => ?_, fun s p h => ?_⟩ <;> simp only [opTwinPreserve]
  all_goals repeat' first
    | (with_reducible first | assumption | intro _ | apply State.presToFlash_sound | apply noBind_sound | apply State.park_sound | apply And.intro)
    | simp only [Sound.mk_iff, TileOk.mk_iff, EvrOk.mk_iff, QenOk.mk_iff]
    | split

/-! ## Job -/

theorem State.withStaged_sound {s : State} (hs : Sound s0 s) : Sound s0 (State.withStaged s) := by
  unfold State.withStaged
  repeat' first
      | (with_reducible first | assumption | intro _ | apply Sound.part | apply Sound.tiles | apply Sound.qen | apply Sound.host | apply Sound.free | apply Sound.pending | apply And.intro)
      | simp only [Sound.mk_iff, TileOk.mk_iff, EvrOk.mk_iff, QenOk.mk_iff]
      | split

theorem State.bindKernels_sound {s : State} {p : Packet} {u1 : List Byte} (hs : Sound s0 s) : Sound s0 (State.bindKernels s p u1).2 := by
  unfold State.bindKernels
  repeat' first
      | (with_reducible first | assumption | intro _ | apply State.liveAdd_sound | apply Sound.foldl | apply Sound.ite | apply Sound.ite2)
      | simp only [Sound.mk_iff, TileOk.mk_iff, EvrOk.mk_iff, QenOk.mk_iff]
      | split

theorem State.armRsv_sound {s : State} (hs : Sound s0 s) : Sound s0 (State.armRsv s) := by
  unfold State.armRsv
  dsimp only
  refine Sound.ite hs (Sound.forEach hs fun s t h => h.updTileN ⟨h.tileN.mem.filter, h.tileN.evr⟩)

theorem TileState.jobClear_sound {x : TileState} {l0 : Nat} (hx : TileOk s0 x) : TileOk s0 (TileState.jobClear x l0) := by
  unfold TileState.jobClear
  repeat' first
      | (with_reducible first | assumption | intro _ | apply TileOk.mem | apply TileOk.evr | apply And.intro)
      | simp only [Sound.mk_iff, TileOk.mk_iff, EvrOk.mk_iff, QenOk.mk_iff]
      | split

theorem State.armAll_sound {s : State} {seq : Nat} (hs : Sound s0 s) : Sound s0 (State.armAll s seq) := by
  unfold State.armAll
  repeat' first
      | (with_reducible first | assumption | intro _ | apply TileState.jobClear_sound | apply State.armRsv_sound | apply State.armNodes_sound | apply State.motionArm_sound | apply State.scanArm_sound | apply State.colourArm_sound | apply State.swapGlyphs_sound | apply State.updLens_sound | apply State.raiseLead_sound | apply Sound.forEach | apply Sound.updTileN | apply Sound.tileN | apply Sound.part | apply Sound.tiles | apply Sound.qen | apply Sound.host | apply Sound.free | apply Sound.pending | apply TileOk.mem | apply TileOk.evr | apply And.intro)
      | simp only [Sound.mk_iff, TileOk.mk_iff, EvrOk.mk_iff, QenOk.mk_iff]
      | split

theorem actJobArm_sound {s : State} {p : Packet} {u1 : List Byte} (hs : Sound s0 s) : Sound s0 (actJobArm s p u1) := by
  unfold actJobArm
  repeat' first
      | (with_reducible first | assumption | intro _ | apply State.armAll_sound | apply State.armSettle_sound | apply State.armTwins_sound | apply State.pruneLive_sound | apply State.prepare_sound | apply State.park_sound | apply State.complete_sound | apply Sound.ite)
      | simp only [Sound.mk_iff, TileOk.mk_iff, EvrOk.mk_iff, QenOk.mk_iff]
      | split

theorem actJobChange_sound {s : State} {p : Packet} {u1 : List Byte} (hs : Sound s0 s) : Sound s0 (actJobChange s p u1) := by
  unfold actJobChange
  repeat' first
      | (with_reducible first | assumption | intro _ | apply State.pruneLive_sound | apply State.park_sound | apply State.complete_sound | apply Sound.part | apply Sound.tiles | apply Sound.qen | apply Sound.host | apply Sound.free | apply Sound.pending | apply Sound.ite | apply And.intro)
      | simp only [Sound.mk_iff, TileOk.mk_iff, EvrOk.mk_iff, QenOk.mk_iff]
      | split

theorem actJobDisarm_sound {s : State} {p : Packet} {u1 : List Byte} (hs : Sound s0 s) : Sound s0 (actJobDisarm s p u1) := by
  unfold actJobDisarm
  repeat' first
      | (with_reducible first | assumption | intro _ | apply State.disarmSettle_sound | apply State.prepare_sound | apply State.park_sound | apply Sound.part | apply Sound.tiles | apply Sound.qen | apply Sound.host | apply Sound.free | apply Sound.pending | apply And.intro)
      | simp only [Sound.mk_iff, TileOk.mk_iff, EvrOk.mk_iff, QenOk.mk_iff]
      | split

theorem State.foldJob_sound {old : State} (hold : Sound s0 old) : Sound s0 (State.foldJob old) := by
  unfold State.foldJob
  repeat' first
      | (with_reducible first | assumption | intro _ | apply State.applyMark_sound | apply State.settleChange_sound | apply State.doneLine_sound | apply State.done_sound | apply Sound.foldl | apply Sound.part | apply Sound.tiles | apply Sound.qen | apply Sound.host | apply Sound.free | apply Sound.pending | apply And.intro)
      | simp only [Sound.mk_iff, TileOk.mk_iff, EvrOk.mk_iff, QenOk.mk_iff]
      | split

theorem State.drainEnd_sound {s : State} (hs : Sound s0 s) : Sound s0 (State.drainEnd s) := by
  unfold State.drainEnd
  repeat' first
      | (with_reducible first | assumption | intro _ | apply State.foldJob_sound | apply State.updLoop_sound | apply State.colourDrain_sound | apply State.pruneLive_sound | apply State.doneLine_sound | apply State.raiseLead_sound | apply State.nextFree_sound | apply Sound.forEach | apply Sound.whenDue | apply Sound.updTileN | apply Sound.tileN | apply Sound.part | apply Sound.tiles | apply Sound.qen | apply Sound.host | apply Sound.free | apply Sound.pending | apply TileOk.mem | apply TileOk.evr | apply And.intro)
      | simp only [Sound.mk_iff, TileOk.mk_iff, EvrOk.mk_iff, QenOk.mk_iff]
      | split

theorem opJobArm_ok : OpOk s0 opJobArm := by
  refine ⟨fun s p bs h => ?_, fun s p bs h => ?_, fun s p h => ?_⟩ <;> simp only [opJobArm]
  all_goals repeat' first
    | (with_reducible first | assumption | intro _ | apply actJobArm_sound | apply State.bindKernels_sound | apply And.intro)
    | simp only [Sound.mk_iff, TileOk.mk_iff, EvrOk.mk_iff, QenOk.mk_iff]
    | split

theorem opJobChange_ok : OpOk s0 opJobChange := by
  refine ⟨fun s p bs h => ?_, fun s p bs h => ?_, fun s p h => ?_⟩ <;> simp only [opJobChange]
  all_goals repeat' first
    | (with_reducible first | assumption | intro _ | apply actJobChange_sound | apply State.bindKernels_sound | apply And.intro)
    | simp only [Sound.mk_iff, TileOk.mk_iff, EvrOk.mk_iff, QenOk.mk_iff]
    | split

theorem opJobDisarm_ok : OpOk s0 opJobDisarm := by
  refine ⟨fun s p bs h => ?_, fun s p bs h => ?_, fun s p h => ?_⟩ <;> simp only [opJobDisarm]
  all_goals repeat' first
    | (with_reducible first | assumption | intro _ | apply actJobDisarm_sound | apply noBind_sound | apply And.intro)
    | simp only [Sound.mk_iff, TileOk.mk_iff, EvrOk.mk_iff, QenOk.mk_iff]
    | split

theorem opJobCheck_ok : OpOk s0 opJobCheck := by
  refine ⟨fun s p bs h => ?_, fun s p bs h => ?_, fun s p h => ?_⟩ <;> simp only [opJobCheck]
  all_goals repeat' first
    | (with_reducible first | assumption | intro _ | apply noBind_sound | apply State.complete_sound | apply And.intro)
    | simp only [Sound.mk_iff, TileOk.mk_iff, EvrOk.mk_iff, QenOk.mk_iff]
    | split

theorem opJobStatus_ok : OpOk s0 opJobStatus := by
  refine ⟨fun s p bs h => ?_, fun s p bs h => ?_, fun s p h => ?_⟩ <;> simp only [opJobStatus]
  all_goals repeat' first
    | (with_reducible first | assumption | intro _ | apply noBind_sound | apply State.reportQ_sound | apply And.intro)
    | simp only [Sound.mk_iff, TileOk.mk_iff, EvrOk.mk_iff, QenOk.mk_iff]
    | split

/-! ## Heat -/

theorem State.updThm_sound {s : State} {t : Nat} {f : Thm → Thm} (hs : Sound s0 s) : Sound s0 (State.updThm s t f) := by
  unfold State.updThm
  repeat' first
      | (with_reducible first | assumption | intro _ | apply Sound.updTileN | apply Sound.tileN | apply TileOk.mem | apply TileOk.evr | apply And.intro)
      | simp only [Sound.mk_iff, TileOk.mk_iff, EvrOk.mk_iff, QenOk.mk_iff]
      | split

theorem State.updTrm_sound {s : State} {t : Nat} {f : Trm → Trm} (hs : Sound s0 s) : Sound s0 (State.updTrm s t f) := by
  unfold State.updTrm
  repeat' first
      | (with_reducible first | assumption | intro _ | apply Sound.updTileN | apply Sound.tileN | apply TileOk.mem | apply TileOk.evr | apply And.intro)
      | simp only [Sound.mk_iff, TileOk.mk_iff, EvrOk.mk_iff, QenOk.mk_iff]
      | split

theorem State.convert_sound {s : State} {t code : Nat} {temp : Int} {ok : Bool} (hs : Sound s0 s) : Sound s0 (State.convert s t code temp ok) := by
  unfold State.convert
  repeat' first
      | (with_reducible first | assumption | intro _ | apply State.updThm_sound | apply State.raiseN_sound | apply Sound.ite)
      | simp only [Sound.mk_iff, TileOk.mk_iff, EvrOk.mk_iff, QenOk.mk_iff]
      | split

theorem State.thermLevel_sound {s : State} {t level : Nat} {set : Bool} (hs : Sound s0 s) : Sound s0 (State.thermLevel s t level set) := by
  unfold State.thermLevel
  repeat' first
      | (with_reducible first | assumption | intro _ | apply State.raiseN_sound)
      | simp only [Sound.mk_iff, TileOk.mk_iff, EvrOk.mk_iff, QenOk.mk_iff]
      | split

theorem State.smbAlertSet_sound {s : State} (hs : Sound s0 s) : Sound s0 (State.smbAlertSet s) := by
  unfold State.smbAlertSet
  repeat' first
      | (with_reducible first | assumption | intro _ | apply Sound.part | apply Sound.tiles | apply Sound.qen | apply Sound.host | apply Sound.free | apply Sound.pending | apply And.intro)
      | simp only [Sound.mk_iff, TileOk.mk_iff, EvrOk.mk_iff, QenOk.mk_iff]
      | split

theorem State.warnLevel_sound {s : State} {t : Nat} (hs : Sound s0 s) : Sound s0 (State.warnLevel s t) := by
  unfold State.warnLevel
  repeat' first
      | (with_reducible first | assumption | intro _ | apply State.smbAlertSet_sound | apply State.thermLevel_sound | apply State.updThm_sound | apply Sound.ite)
      | simp only [Sound.mk_iff, TileOk.mk_iff, EvrOk.mk_iff, QenOk.mk_iff]
      | split

theorem State.shedNote_sound {s : State} {t old : Nat} (hs : Sound s0 s) : Sound s0 (State.shedNote s t old) := by
  unfold State.shedNote
  repeat' first
      | (with_reducible first | assumption | intro _ | apply State.updThm_sound | apply State.raiseN_sound | apply Sound.ite)
      | simp only [Sound.mk_iff, TileOk.mk_iff, EvrOk.mk_iff, QenOk.mk_iff]
      | split

theorem State.setStep_sound {s : State} {t new : Nat} (hs : Sound s0 s) : Sound s0 (State.setStep s t new) := by
  unfold State.setStep
  repeat' first
      | (with_reducible first | assumption | intro _ | apply State.shedNote_sound | apply State.thermLevel_sound | apply State.updThm_sound | apply State.updBoot_sound | apply State.domsOff_sound | apply State.withdraw_sound | apply State.raiseN_sound | apply Sound.ite)
      | simp only [Sound.mk_iff, TileOk.mk_iff, EvrOk.mk_iff, QenOk.mk_iff]
      | split

theorem State.stepZero_sound {s : State} {t : Nat} (hs : Sound s0 s) : Sound s0 (State.stepZero s t) := by
  unfold State.stepZero
  repeat' first
      | (with_reducible first | assumption | intro _ | apply State.thermalRejoin_sound | apply State.domOn_sound | apply Sound.foldl | apply Sound.ite)
      | simp only [Sound.mk_iff, TileOk.mk_iff, EvrOk.mk_iff, QenOk.mk_iff]
      | split

theorem State.throttle_sound {s : State} {t : Nat} (hs : Sound s0 s) : Sound s0 (State.throttle s t) := by
  unfold State.throttle
  repeat' first
      | (with_reducible first | assumption | intro _ | apply State.setStep_sound | apply Sound.ite)
      | simp only [Sound.mk_iff, TileOk.mk_iff, EvrOk.mk_iff, QenOk.mk_iff]
      | split

theorem State.stepInterval_sound {s : State} {t : Nat} (hs : Sound s0 s) : Sound s0 (State.stepInterval s t) := by
  unfold State.stepInterval
  repeat' first
      | (with_reducible first | assumption | intro _ | apply State.stepZero_sound | apply State.setStep_sound | apply State.updThm_sound | apply Sound.ite)
      | simp only [Sound.mk_iff, TileOk.mk_iff, EvrOk.mk_iff, QenOk.mk_iff]
      | split

theorem State.shedSaving_sound {s : State} {t i : Nat} (hs : Sound s0 s) : Sound s0 (State.shedSaving s t i) := by
  unfold State.shedSaving
  repeat' first
      | (with_reducible first | assumption | intro _ | apply State.updThm_sound | apply Sound.whenDue)
      | simp only [Sound.mk_iff, TileOk.mk_iff, EvrOk.mk_iff, QenOk.mk_iff]
      | split

theorem State.trimBoundary_sound {s : State} {t c : Nat} (hs : Sound s0 s) : Sound s0 (State.trimBoundary s t c) := by
  unfold State.trimBoundary
  repeat' first
      | (with_reducible first | assumption | intro _ | apply State.updTrm_sound)
      | simp only [Sound.mk_iff, TileOk.mk_iff, EvrOk.mk_iff, QenOk.mk_iff]
      | split

theorem State.trimStart_sound {s : State} {t classes : Nat} {seqs : List Nat} (hs : Sound s0 s) : Sound s0 (State.trimStart s t classes seqs) := by
  unfold State.trimStart
  repeat' first
      | (with_reducible first | assumption | intro _ | apply State.updTrm_sound)
      | simp only [Sound.mk_iff, TileOk.mk_iff, EvrOk.mk_iff, QenOk.mk_iff]
      | split

theorem State.trimAuto_sound {s : State} {t : Nat} (hs : Sound s0 s) : Sound s0 (State.trimAuto s t) := by
  unfold State.trimAuto
  repeat' first
      | (with_reducible first | assumption | intro _ | apply State.trimStart_sound | apply Sound.ite)
      | simp only [Sound.mk_iff, TileOk.mk_iff, EvrOk.mk_iff, QenOk.mk_iff]
      | split

theorem State.trimSettle_sound {s : State} {seq : Nat} (hs : Sound s0 s) : Sound s0 (State.trimSettle s seq) := by
  unfold State.trimSettle
  repeat' first
      | (with_reducible first | assumption | intro _ | apply State.complete_sound | apply Sound.ite)
      | simp only [Sound.mk_iff, TileOk.mk_iff, EvrOk.mk_iff, QenOk.mk_iff]
      | split

theorem State.trimEnd_sound {s : State} {t done : Nat} (hs : Sound s0 s) : Sound s0 (State.trimEnd s t done) := by
  unfold State.trimEnd
  repeat' first
      | (with_reducible first | assumption | intro _ | apply State.trimSettle_sound | apply State.trimStart_sound | apply State.updTrm_sound | apply State.updEntry_sound | apply Sound.foldl)
      | simp only [Sound.mk_iff, TileOk.mk_iff, EvrOk.mk_iff, QenOk.mk_iff]
      | split

theorem State.trimAbandon_sound {s : State} {t : Nat} (hs : Sound s0 s) : Sound s0 (State.trimAbandon s t) := by
  unfold State.trimAbandon
  repeat' first
      | (with_reducible first | assumption | intro _ | apply State.trimSettle_sound | apply State.updTrm_sound | apply Sound.foldl)
      | simp only [Sound.mk_iff, TileOk.mk_iff, EvrOk.mk_iff, QenOk.mk_iff]
      | split

theorem State.trimEye_sound {s : State} {t l : Nat} {e : Eye} (hs : Sound s0 s) : Sound s0 (State.trimEye s t l e) := by
  unfold State.trimEye
  repeat' first
      | (with_reducible first | assumption | intro _ | apply State.updLnk_sound | apply State.raiseN_sound | apply Sound.ite)
      | simp only [Sound.mk_iff, TileOk.mk_iff, EvrOk.mk_iff, QenOk.mk_iff]
      | split

theorem State.trimRecord_sound {s : State} (hs : Sound s0 s) : Sound s0 (State.trimRecord s) := by
  unfold State.trimRecord
  repeat' first
      | (with_reducible first | assumption | intro _ | apply State.flashWrite_sound | apply Sound.ite)
      | simp only [Sound.mk_iff, TileOk.mk_iff, EvrOk.mk_iff, QenOk.mk_iff]
      | split

theorem State.trimDone_sound {s : State} {t : Nat} {r : TrimResult} (hs : Sound s0 s) : Sound s0 (State.trimDone s t r) := by
  unfold State.trimDone
  repeat' first
      | (with_reducible first | assumption | intro _ | apply State.trimRecord_sound | apply State.trimEye_sound | apply State.trimEnd_sound | apply State.updTrm_sound | apply State.raiseN_sound | apply Sound.foldl | apply Sound.ite)
      | simp only [Sound.mk_iff, TileOk.mk_iff, EvrOk.mk_iff, QenOk.mk_iff]
      | split

theorem State.encTrim_sound {s : State} {t i : Nat} (hs : Sound s0 s) : Sound s0 (State.encTrim s t i) := by
  unfold State.encTrim
  repeat' first
      | (with_reducible first | assumption | intro _ | apply State.updTrm_sound | apply Sound.whenDue)
      | simp only [Sound.mk_iff, TileOk.mk_iff, EvrOk.mk_iff, QenOk.mk_iff]
      | split

theorem State.retrainDone_sound {s : State} {t : Nat} {drift : Option (Fin 4 × Int)} (hs : Sound s0 s) : Sound s0 (State.retrainDone s t drift) := by
  unfold State.retrainDone
  repeat' first
      | (with_reducible first | assumption | intro _ | apply State.trimBoundary_sound | apply State.retrained_sound)
      | simp only [Sound.mk_iff, TileOk.mk_iff, EvrOk.mk_iff, QenOk.mk_iff]
      | split

theorem State.shutdown_sound {s : State} {t : Nat} (hs : Sound s0 s) : Sound s0 (State.shutdown s t) := by
  unfold State.shutdown
  repeat' first
      | (with_reducible first | assumption | intro _ | apply State.trimAbandon_sound | apply State.smbAlertSet_sound | apply State.thermLevel_sound | apply State.updThm_sound | apply State.updBoot_sound | apply State.domsOff_sound | apply State.withdraw_sound)
      | simp only [Sound.mk_iff, TileOk.mk_iff, EvrOk.mk_iff, QenOk.mk_iff]
      | split

theorem State.shutLevel_sound {s : State} {t : Nat} (hs : Sound s0 s) : Sound s0 (State.shutLevel s t) := by
  unfold State.shutLevel
  repeat' first
      | (with_reducible first | assumption | intro _ | apply State.shutdown_sound | apply State.smbAlertSet_sound | apply State.thermLevel_sound | apply State.updThm_sound | apply State.restartTile_sound | apply Sound.ite)
      | simp only [Sound.mk_iff, TileOk.mk_iff, EvrOk.mk_iff, QenOk.mk_iff]
      | split

theorem State.thermCycle_sound {s : State} {t : Nat} (hs : Sound s0 s) : Sound s0 (State.thermCycle s t) := by
  unfold State.thermCycle
  repeat' first
      | (with_reducible first | assumption | intro _ | apply State.updBoot_sound | apply Sound.ite)
      | simp only [Sound.mk_iff, TileOk.mk_iff, EvrOk.mk_iff, QenOk.mk_iff]
      | split

theorem State.conversion_sound {s : State} {t code : Nat} {temp : Int} {valid : Bool} (hs : Sound s0 s) : Sound s0 (State.conversion s t code temp valid) := by
  unfold State.conversion
  repeat' first
      | (with_reducible first | assumption | intro _ | apply State.thermCycle_sound | apply State.shutLevel_sound | apply State.trimAuto_sound | apply State.trimBoundary_sound | apply State.throttle_sound | apply State.warnLevel_sound | apply State.convert_sound | apply State.updTrm_sound | apply Sound.ite)
      | simp only [Sound.mk_iff, TileOk.mk_iff, EvrOk.mk_iff, QenOk.mk_iff]
      | split

theorem actSvcTrim_sound {s : State} {p : Packet} {u1 : List Byte} (hs : Sound s0 s) : Sound s0 (actSvcTrim s p u1) := by
  unfold actSvcTrim
  repeat' first
      | (with_reducible first | assumption | intro _ | apply State.trimStart_sound | apply State.updTrm_sound | apply State.run_sound | apply Sound.foldl | apply Sound.ite)
      | simp only [Sound.mk_iff, TileOk.mk_iff, EvrOk.mk_iff, QenOk.mk_iff]
      | split

theorem State.wakeTrim_sound {s : State} {t l : Nat} {rx : Bool} (hs : Sound s0 s) : Sound s0 (State.wakeTrim s t l rx) := by
  unfold State.wakeTrim
  repeat' first
      | (with_reducible first | assumption | intro _ | apply State.trimBoundary_sound | apply State.laneAwake_sound | apply Sound.ite)
      | simp only [Sound.mk_iff, TileOk.mk_iff, EvrOk.mk_iff, QenOk.mk_iff]
      | split

theorem State.testTrim_sound {s : State} {t l errors losses : Nat} {locked : Bool} (hs : Sound s0 s) : Sound s0 (State.testTrim s t l errors losses locked) := by
  unfold State.testTrim
  repeat' first
      | (with_reducible first | assumption | intro _ | apply State.trimBoundary_sound | apply State.testDone_sound | apply Sound.ite)
      | simp only [Sound.mk_iff, TileOk.mk_iff, EvrOk.mk_iff, QenOk.mk_iff]
      | split

theorem opSvcTrim_ok : OpOk s0 opSvcTrim := by
  refine ⟨fun s p bs h => ?_, fun s p bs h => ?_, fun s p h => ?_⟩ <;> simp only [opSvcTrim]
  all_goals repeat' first
    | (with_reducible first | assumption | intro _ | apply actSvcTrim_sound | apply noBind_sound | apply And.intro)
    | simp only [Sound.mk_iff, TileOk.mk_iff, EvrOk.mk_iff, QenOk.mk_iff]
    | split

theorem opSvcThermal_ok : OpOk s0 opSvcThermal := by
  refine ⟨fun s p bs h => ?_, fun s p bs h => ?_, fun s p h => ?_⟩ <;> simp only [opSvcThermal]
  all_goals repeat' first
    | (with_reducible first | assumption | intro _ | apply noBind_sound | apply State.reportQ_sound | apply And.intro)
    | simp only [Sound.mk_iff, TileOk.mk_iff, EvrOk.mk_iff, QenOk.mk_iff]
    | split

/-! ## Regs -/

theorem State.readBar_sound {s : State} {off : Nat} (hs : Sound s0 s) : Sound s0 (State.readBar s off).1 := by
  unfold State.readBar
  repeat' first
      | (with_reducible first | assumption | intro _ | apply State.htTake_sound | apply Sound.foldl | apply Sound.updTileN | apply Sound.tileN | apply Sound.part | apply Sound.tiles | apply Sound.qen | apply Sound.host | apply Sound.free | apply Sound.pending | apply TileOk.mem | apply TileOk.evr | apply And.intro)
      | simp only [Sound.mk_iff, TileOk.mk_iff, EvrOk.mk_iff, QenOk.mk_iff]
      | split

theorem State.barRead_sound {s : State} {off : Nat} (hs : Sound s0 s) : Sound s0 (State.barRead s off) := by
  unfold State.barRead
  repeat' first
      | (with_reducible first | assumption | intro _ | apply State.readBar_sound | apply State.returns_sound)
      | simp only [Sound.mk_iff, TileOk.mk_iff, EvrOk.mk_iff, QenOk.mk_iff]
      | split

theorem State.writeAdmin_sound {s : State} {o v m : Nat} (hs : Sound s0 s) : Sound s0 (State.writeAdmin s o v m) := by
  unfold State.writeAdmin
  repeat' first
      | (with_reducible first | assumption | intro _ | apply State.enStop_sound | apply State.enStart_sound | apply Sound.part | apply Sound.tiles | apply Sound.qen | apply Sound.host | apply Sound.free | apply Sound.pending | apply QenOk.sessions | apply Sound.ite | apply And.intro)
      | simp only [Sound.mk_iff, TileOk.mk_iff, EvrOk.mk_iff, QenOk.mk_iff]
      | split

theorem State.writeMsix_sound {s : State} {t vec w v m : Nat} (hs : Sound s0 s) : Sound s0 (State.writeMsix s t vec w v m) := by
  unfold State.writeMsix
  repeat' first
      | (with_reducible first | assumption | intro _ | apply State.maskClear_sound | apply State.mirrorSend_sound | apply State.updMx_sound | apply Sound.ite)
      | simp only [Sound.mk_iff, TileOk.mk_iff, EvrOk.mk_iff, QenOk.mk_iff]
      | split

theorem State.writeQen_sound {s : State} {t o v m : Nat} {sup : Bool} (hs : Sound s0 s) : Sound s0 (State.writeQen s t o v m sup) := by
  unfold State.writeQen
  repeat' first
      | (with_reducible first | assumption | intro _ | apply State.writeMsix_sound | apply State.writeAdmin_sound | apply State.cqHead_sound | apply State.sqTail_sound | apply State.updPair_sound | apply Sound.ite)
      | simp only [Sound.mk_iff, TileOk.mk_iff, EvrOk.mk_iff, QenOk.mk_iff]
      | split

theorem State.writeSrc_sound {s : State} {t o v m : Nat} (hs : Sound s0 s) : Sound s0 (State.writeSrc s t o v m) := by
  unfold State.writeSrc
  repeat' first
      | (with_reducible first | assumption | intro _ | apply State.clrCount_sound | apply State.pendClear_sound | apply State.updSrc_sound | apply Sound.ite)
      | simp only [Sound.mk_iff, TileOk.mk_iff, EvrOk.mk_iff, QenOk.mk_iff]
      | split

theorem State.writeHost_sound {s : State} {t h w v m : Nat} (hs : Sound s0 s) : Sound s0 (State.writeHost s t h w v m) := by
  unfold State.writeHost
  repeat' first
      | (with_reducible first | assumption | intro _ | apply State.htDone_sound | apply State.updHost_sound | apply Sound.ite)
      | simp only [Sound.mk_iff, TileOk.mk_iff, EvrOk.mk_iff, QenOk.mk_iff]
      | split

theorem State.writeEvr_sound {s : State} {t o v m : Nat} {sup : Bool} (hs : Sound s0 s) : Sound s0 (State.writeEvr s t o v m sup) := by
  unfold State.writeEvr
  repeat' first
      | (with_reducible first | assumption | intro _ | apply State.writeHost_sound | apply State.writeSrc_sound | apply State.swset_sound | apply State.coreDone_sound | apply State.updCore_sound | apply State.updEvr_sound | apply EvrOk.log | apply Sound.ite)
      | simp only [Sound.mk_iff, TileOk.mk_iff, EvrOk.mk_iff, QenOk.mk_iff]
      | split

theorem State.writeMemc_sound {s : State} {t o w : Nat} (hs : Sound s0 s) : Sound s0 (State.writeMemc s t o w) := by
  unfold State.writeMemc
  repeat' first
      | (with_reducible first | assumption | intro _ | apply State.memcClr_sound | apply Sound.ite)
      | simp only [Sound.mk_iff, TileOk.mk_iff, EvrOk.mk_iff, QenOk.mk_iff]
      | split

theorem State.writeLnk_sound {s : State} {t l o w : Nat} (hs : Sound s0 s) : Sound s0 (State.writeLnk s t l o w) := by
  unfold State.writeLnk
  repeat' first
      | (with_reducible first | assumption | intro _ | apply State.lnkClrTest_sound | apply State.lnkClrCnt_sound | apply State.updLnk_sound | apply Sound.ite)
      | simp only [Sound.mk_iff, TileOk.mk_iff, EvrOk.mk_iff, QenOk.mk_iff]
      | split

theorem State.writeDsp_sound {s : State} {t o w : Nat} (hs : Sound s0 s) : Sound s0 (State.writeDsp s t o w) := by
  unfold State.writeDsp
  repeat' first
      | (with_reducible first | assumption | intro _ | apply State.dspClrUnder_sound | apply State.dspClrTrains_sound | apply Sound.ite)
      | simp only [Sound.mk_iff, TileOk.mk_iff, EvrOk.mk_iff, QenOk.mk_iff]
      | split

theorem State.writeTwn_sound {s : State} {t o w : Nat} {sup : Bool} (hs : Sound s0 s) : Sound s0 (State.writeTwn s t o w sup) := by
  unfold State.writeTwn
  repeat' first
      | (with_reducible first | assumption | intro _ | apply State.lastClear_sound | apply Sound.updTileN | apply Sound.tileN | apply TileOk.mem | apply TileOk.evr | apply Sound.ite | apply And.intro)
      | simp only [Sound.mk_iff, TileOk.mk_iff, EvrOk.mk_iff, QenOk.mk_iff]
      | split

theorem State.writeBar_sound {s : State} {off v m : Nat} {sup : Bool} (hs : Sound s0 s) : Sound s0 (State.writeBar s off v m sup) := by
  unfold State.writeBar
  repeat' first
      | (with_reducible first | assumption | intro _ | apply State.writeTwn_sound | apply State.writeDsp_sound | apply State.writeLnk_sound | apply State.writeMemc_sound | apply State.writeEvr_sound | apply State.writeQen_sound | apply State.updTrm_sound | apply State.updThm_sound | apply Sound.updTileN | apply Sound.tileN | apply TileOk.mem | apply TileOk.evr | apply Sound.ite | apply And.intro)
      | simp only [Sound.mk_iff, TileOk.mk_iff, EvrOk.mk_iff, QenOk.mk_iff]
      | split

theorem State.barWrite_sound {s : State} {off v : Nat} (hs : Sound s0 s) : Sound s0 (State.barWrite s off v) := by
  unfold State.barWrite
  repeat' first
      | (with_reducible first | assumption | intro _ | apply State.writeBar_sound)
      | simp only [Sound.mk_iff, TileOk.mk_iff, EvrOk.mk_iff, QenOk.mk_iff]
      | split

theorem opDiagEcho_ok : OpOk s0 opDiagEcho := by
  refine ⟨fun s p bs h => ?_, fun s p bs h => ?_, fun s p h => ?_⟩ <;> simp only [opDiagEcho]
  all_goals repeat' first
    | (with_reducible first | assumption | intro _ | apply noBind_sound | apply State.complete_sound | apply And.intro)
    | simp only [Sound.mk_iff, TileOk.mk_iff, EvrOk.mk_iff, QenOk.mk_iff]
    | split

theorem opDiagRegread_ok : OpOk s0 opDiagRegread := by
  refine ⟨fun s p bs h => ?_, fun s p bs h => ?_, fun s p h => ?_⟩ <;> simp only [opDiagRegread]
  all_goals repeat' first
    | (with_reducible first | assumption | intro _ | apply State.readBar_sound | apply noBind_sound | apply State.complete_sound | apply And.intro)
    | simp only [Sound.mk_iff, TileOk.mk_iff, EvrOk.mk_iff, QenOk.mk_iff]
    | split

theorem opDiagRegwrite_ok : OpOk s0 opDiagRegwrite := by
  refine ⟨fun s p bs h => ?_, fun s p bs h => ?_, fun s p h => ?_⟩ <;> simp only [opDiagRegwrite]
  all_goals repeat' first
    | (with_reducible first | assumption | intro _ | apply State.writeBar_sound | apply noBind_sound | apply State.done_sound | apply And.intro)
    | simp only [Sound.mk_iff, TileOk.mk_iff, EvrOk.mk_iff, QenOk.mk_iff]
    | split

theorem opDiagEvlog_ok : OpOk s0 opDiagEvlog := by
  refine ⟨fun s p bs h => ?_, fun s p bs h => ?_, fun s p h => ?_⟩ <;> simp only [opDiagEvlog]
  all_goals repeat' first
    | (with_reducible first | assumption | intro _ | apply noBind_sound | apply State.report_sound | apply And.intro)
    | simp only [Sound.mk_iff, TileOk.mk_iff, EvrOk.mk_iff, QenOk.mk_iff]
    | split

/-! ## ParmCmd -/

theorem actParmGet_sound {s : State} {p : Packet} {u1 : List Byte} (hs : Sound s0 s) : Sound s0 (actParmGet s p u1) := by
  unfold actParmGet
  repeat' first
      | (with_reducible first | assumption | intro _ | apply State.complete_sound | apply State.nextFree_sound)
      | simp only [Sound.mk_iff, TileOk.mk_iff, EvrOk.mk_iff, QenOk.mk_iff]
      | split

theorem bindParmSet_sound {s : State} {p : Packet} {u1 : List Byte} (hs : Sound s0 s) : Sound s0 (bindParmSet s p u1).2 := by
  unfold bindParmSet
  repeat' first
      | (with_reducible first | assumption | intro _ | apply bindRayWith_sound | apply bindLayerSet_sound | apply Sound.ite2)
      | simp only [Sound.mk_iff, TileOk.mk_iff, EvrOk.mk_iff, QenOk.mk_iff]
      | split

theorem State.setArmItem_sound {s : State} {r : ParmRow} {p : Packet} (hs : Sound s0 s) : Sound s0 (State.setArmItem s r p) := by
  unfold State.setArmItem
  repeat' first
      | (with_reducible first | assumption | intro _ | apply actLayerSet_sound | apply State.submit_sound | apply Sound.ite)
      | simp only [Sound.mk_iff, TileOk.mk_iff, EvrOk.mk_iff, QenOk.mk_iff]
      | split

theorem State.itemWritten_sound {s : State} {pid : Nat} (hs : Sound s0 s) : Sound s0 (State.itemWritten s pid) := by
  unfold State.itemWritten
  repeat' first
      | (with_reducible first | assumption | intro _ | apply State.updMemc_sound | apply State.captureDrop_sound | apply State.updCh_sound | apply Sound.ite)
      | simp only [Sound.mk_iff, TileOk.mk_iff, EvrOk.mk_iff, QenOk.mk_iff]
      | split

theorem actParmSet_sound {s : State} {p : Packet} {u1 : List Byte} (hs : Sound s0 s) : Sound s0 (actParmSet s p u1) := by
  unfold actParmSet
  repeat' first
      | (with_reducible first | assumption | intro _ | apply State.itemWritten_sound | apply State.setArmItem_sound | apply State.cmpAccept_sound | apply actLayerSet_sound | apply State.changeFor_sound | apply State.done_sound | apply State.putItem_sound | apply Sound.part | apply Sound.tiles | apply Sound.qen | apply Sound.host | apply Sound.free | apply Sound.pending | apply Sound.ite | apply And.intro)
      | simp only [Sound.mk_iff, TileOk.mk_iff, EvrOk.mk_iff, QenOk.mk_iff]
      | split

theorem actParmList_sound {s : State} {p : Packet} {u1 : List Byte} (hs : Sound s0 s) : Sound s0 (actParmList s p u1) := by
  unfold actParmList
  repeat' first
      | (with_reducible first | assumption | intro _ | apply State.report_sound)
      | simp only [Sound.mk_iff, TileOk.mk_iff, EvrOk.mk_iff, QenOk.mk_iff]
      | split

theorem opParmGet_ok : OpOk s0 opParmGet := by
  refine ⟨fun s p bs h => ?_, fun s p bs h => ?_, fun s p h => ?_⟩ <;> simp only [opParmGet]
  all_goals repeat' first
    | (with_reducible first | assumption | intro _ | apply actParmGet_sound | apply noBind_sound | apply And.intro)
    | simp only [Sound.mk_iff, TileOk.mk_iff, EvrOk.mk_iff, QenOk.mk_iff]
    | split

theorem opParmSet_ok : OpOk s0 opParmSet := by
  refine ⟨fun s p bs h => ?_, fun s p bs h => ?_, fun s p h => ?_⟩ <;> simp only [opParmSet]
  all_goals repeat' first
    | (with_reducible first | assumption | intro _ | apply actParmSet_sound | apply bindParmSet_sound | apply And.intro)
    | simp only [Sound.mk_iff, TileOk.mk_iff, EvrOk.mk_iff, QenOk.mk_iff]
    | split

theorem opParmList_ok : OpOk s0 opParmList := by
  refine ⟨fun s p bs h => ?_, fun s p bs h => ?_, fun s p h => ?_⟩ <;> simp only [opParmList]
  all_goals repeat' first
    | (with_reducible first | assumption | intro _ | apply actParmList_sound | apply noBind_sound | apply And.intro)
    | simp only [Sound.mk_iff, TileOk.mk_iff, EvrOk.mk_iff, QenOk.mk_iff]
    | split

/-! ## Fetch -/

theorem State.takeEntry_sound {s : State} {q : Nat} {x : QueuePair} {w : Words16} (hs : Sound s0 s) : Sound s0 (State.takeEntry s q x w) := by
  unfold State.takeEntry
  repeat' first
      | (with_reducible first | assumption | intro _ | apply State.done_sound | apply State.setStore_sound | apply State.setPair_sound | apply Sound.part | apply Sound.tiles | apply Sound.qen | apply Sound.host | apply Sound.free | apply Sound.pending | apply QenOk.sessions | apply Sound.ite | apply And.intro)
      | simp only [Sound.mk_iff, TileOk.mk_iff, EvrOk.mk_iff, QenOk.mk_iff]
      | split

theorem State.fetch_sound {s : State} {entry : Option Words16} (hs : Sound s0 s) : Sound s0 (State.fetch s entry) := by
  unfold State.fetch
  repeat' first
      | (with_reducible first | assumption | intro _ | apply State.takeEntry_sound | apply State.setPair_sound | apply State.raiseLead_sound | apply Sound.part | apply Sound.tiles | apply Sound.qen | apply Sound.host | apply Sound.free | apply Sound.pending | apply QenOk.sessions | apply Sound.ite | apply And.intro)
      | simp only [Sound.mk_iff, TileOk.mk_iff, EvrOk.mk_iff, QenOk.mk_iff]
      | split

theorem opTable_ok {s0 : State} : ∀ d ∈ opTable, OpOk s0 d := by
  simp only [opTable, opsMem, opsJob, opsPrint, opsLink, opsSvc, List.cons_append, List.nil_append, List.forall_mem_cons]
  exact ⟨opSessionOpen_ok, opSessionClose_ok, opSessionProt_ok, opSessionQueue_ok, opSessionQdelete_ok, opSessionInfo_ok, opMemWrite_ok, opMemRead_ok, opMemFence_ok, opMemCompress_ok, opMemVerify_ok, opMemInfo_ok, opJobArm_ok, opJobChange_ok, opJobDisarm_ok, opJobStatus_ok, opJobCheck_ok, opLayerSet_ok, opLayerFlip_ok, opLayerSignal_ok, opLayerStatus_ok, opMarkClock_ok, opMarkRules_ok, opMarkShifts_ok, opMarkGlyphs_ok, opMarkField_ok, opMarkCounter_ok, opMarkLot_ok, opMarkStatus_ok, opMarkNames_ok, opRayBind_ok, opRayLens_ok, opRayAcquire_ok, opRayViewmap_ok, opRayStatus_ok, opRayPanel_ok, opDropScreen_ok, opDropSlots_ok, opDropNozzles_ok, opDropZonelut_ok, opDropStatus_ok, opColourSetup_ok, opColourSens_ok, opColourClose_ok, opColourOpen_ok, opColourCal_ok, opColourReset_ok, opColourStatus_ok, opColourLog_ok, opMotionRephase_ok, opMotionCompare_ok, opMotionStatus_ok, opMotionStopreq_ok, opLinkNodes_ok, opLinkList_ok, opLinkCtrl_ok, opLinkLeave_ok, opLinkTime_ok, opLinkScan_ok, opLinkRemap_ok, opLinkLane_ok, opLinkTest_ok, opTwinAssay_ok, opTwinWithdraw_ok, opTwinRejoin_ok, opTwinRestart_ok, opTwinLead_ok, opTwinStatus_ok, opTwinPreserve_ok, opDispMode_ok, opDispPower_ok, opDispFlip_ok, opDispStatus_ok, opParmGet_ok, opParmSet_ok, opParmList_ok, opSvcPower_ok, opSvcImage_ok, opSvcUpdate_ok, opSvcTally_ok, opSvcTrim_ok, opSvcThermal_ok, opDiagEcho_ok, opDiagRegread_ok, opDiagRegwrite_ok, opDiagEvlog_ok, fun _ h => absurd h List.not_mem_nil⟩

theorem opOf_ok {s0 : State} (h : opOf c = some d) : OpOk s0 d := opTable_ok d (List.mem_of_find?_eq_some h)

theorem State.dispatchNext_sound {s : State} (hs : Sound s0 s) : Sound s0 (State.dispatchNext s) := by
  unfold State.dispatchNext
  refine Sound.ite hs ?_
  split
  · exact hs
  · dsimp only
    split
    · exact hs
    · exact OpDef.dispatch_sound (opOf_ok (by assumption)) hs

theorem State.waitRelease_sound {s : State} {seq : Nat} (hs : Sound s0 s) : Sound s0 (State.waitRelease s seq) := by
  unfold State.waitRelease
  split
  · exact hs
  · split
    · exact Sound.ite ((opOf_ok (by assumption)).act (State.run_sound hs)) hs
    · exact hs

theorem State.dmaDone_sound {s : State} {seq : Nat} {data : Option (List Byte)} (hs : Sound s0 s) : Sound s0 (State.dmaDone s seq data) := by
  unfold State.dmaDone
  split
  · exact hs
  · split
    · exact Sound.ite (OpDef.hostData_sound (opOf_ok (by assumption)) (State.run_sound hs)) hs
    · exact hs

/-! ## Stage -/

theorem State.updFired_sound {s : State} {t line : Nat} {f : FiredLine → FiredLine} (hs : Sound s0 s) : Sound s0 (State.updFired s t line f) := by
  unfold State.updFired
  repeat' first
      | (with_reducible first | assumption | intro _ | apply Sound.updTileN | apply Sound.tileN | apply TileOk.mem | apply TileOk.evr | apply And.intro)
      | simp only [Sound.mk_iff, TileOk.mk_iff, EvrOk.mk_iff, QenOk.mk_iff]
      | split

theorem State.updOwn_sound {s : State} {t line : Nat} {f : LineRec → LineRec} (hs : Sound s0 s) : Sound s0 (State.updOwn s t line f) := by
  unfold State.updOwn
  repeat' first
      | (with_reducible first | assumption | intro _ | apply Sound.updTileN | apply Sound.tileN | apply TileOk.mem | apply TileOk.evr | apply And.intro)
      | simp only [Sound.mk_iff, TileOk.mk_iff, EvrOk.mk_iff, QenOk.mk_iff]
      | split

theorem State.rejectDots_sound {s : State} {web : Nat} {xs : List Nat} (hs : Sound s0 s) : Sound s0 (State.rejectDots s web xs) := by
  unfold State.rejectDots
  repeat' first
      | (with_reducible first | assumption | intro _ | apply State.rejectIf_sound)
      | simp only [Sound.mk_iff, TileOk.mk_iff, EvrOk.mk_iff, QenOk.mk_iff]
      | split

theorem State.flagPatches_sound {s : State} {web cause : Nat} {xs : List Nat} (hs : Sound s0 s) : Sound s0 (State.flagPatches s web cause xs) := by
  unfold State.flagPatches
  repeat' first
      | (with_reducible first | assumption | intro _ | apply State.bandFlag_sound | apply Sound.foldl)
      | simp only [Sound.mk_iff, TileOk.mk_iff, EvrOk.mk_iff, QenOk.mk_iff]
      | split

theorem State.countPart_sound {s : State} {t c r line : Nat} {p : PartRun} (hs : Sound s0 s) : Sound s0 (State.countPart s t c r line p) := by
  unfold State.countPart
  repeat' first
      | (with_reducible first | assumption | intro _ | apply State.raiseN_sound | apply Sound.updTileN | apply Sound.tileN | apply TileOk.mem | apply TileOk.evr | apply Sound.ite | apply And.intro)
      | simp only [Sound.mk_iff, TileOk.mk_iff, EvrOk.mk_iff, QenOk.mk_iff]
      | split

theorem State.rowEffects_sound {s : State} {t c r line web : Nat} {run : RowRun} (hs : Sound s0 s) : Sound s0 (State.rowEffects s t c r line web run) := by
  unfold State.rowEffects
  repeat' first
      | (with_reducible first | assumption | intro _ | apply State.countPart_sound | apply State.flagPatches_sound | apply State.rejectDots_sound | apply Sound.foldl | apply Sound.updTileN | apply Sound.tileN | apply TileOk.mem | apply TileOk.evr | apply Sound.ite | apply And.intro)
      | simp only [Sound.mk_iff, TileOk.mk_iff, EvrOk.mk_iff, QenOk.mk_iff]
      | split

theorem State.runRow_sound {s : State} {t c r line web : Nat} (hs : Sound s0 s) : Sound s0 (State.runRow s t c r line web) := by
  unfold State.runRow
  repeat' first
      | (with_reducible first | assumption | intro _ | apply State.rowEffects_sound | apply State.updOwn_sound | apply State.updFired_sound | apply Sound.updTileN | apply Sound.tileN | apply TileOk.mem | apply TileOk.evr | apply And.intro)
      | simp only [Sound.mk_iff, TileOk.mk_iff, EvrOk.mk_iff, QenOk.mk_iff]
      | split

theorem State.takeLine_sound {s : State} {t line : Nat} {lr : Option LineRec} (hs : Sound s0 s) : Sound s0 (State.takeLine s t line lr) := by
  unfold State.takeLine
  repeat' first
      | (with_reducible first | assumption | intro _ | apply Sound.updTileN | apply Sound.tileN | apply TileOk.mem | apply TileOk.evr | apply And.intro)
      | simp only [Sound.mk_iff, TileOk.mk_iff, EvrOk.mk_iff, QenOk.mk_iff]
      | split

theorem State.takeOn_sound {s : State} {t : Nat} {v0 : Nat} (hs : Sound s0 s) : Sound s0 (State.takeOn s t v0) := by
  induction v0 generalizing s with
  | zero => exact hs
  | succ k ih =>
    unfold State.takeOn
    dsimp only
    split
    · exact hs
    · split
      · exact ih (State.takeLine_sound hs)
      · exact Sound.ite (ih (State.takeLine_sound hs)) hs

theorem State.settleDep_sound {s : State} {t line seg : Nat} {lr : LineRec} (hs : Sound s0 s) : Sound s0 (State.settleDep s t line seg lr) := by
  unfold State.settleDep
  repeat' first
      | (with_reducible first | assumption | intro _ | apply Sound.updTileN | apply Sound.tileN | apply TileOk.mem | apply TileOk.evr | apply And.intro)
      | simp only [Sound.mk_iff, TileOk.mk_iff, EvrOk.mk_iff, QenOk.mk_iff]
      | split

theorem State.settleDeps_sound {s : State} {t : Nat} {guess : Bool} (hs : Sound s0 s) : Sound s0 (State.settleDeps s t guess) := by
  unfold State.settleDeps
  repeat' first
      | (with_reducible first | assumption | intro _ | apply State.settleDep_sound | apply Sound.foldl | apply Sound.ite)
      | simp only [Sound.mk_iff, TileOk.mk_iff, EvrOk.mk_iff, QenOk.mk_iff]
      | split

theorem State.sealLine_sound {s : State} {t line : Nat} (hs : Sound s0 s) : Sound s0 (State.sealLine s t line) := by
  unfold State.sealLine
  repeat' first
      | (with_reducible first | assumption | intro _ | apply State.updOwn_sound | apply State.updFired_sound | apply Sound.ite)
      | simp only [Sound.mk_iff, TileOk.mk_iff, EvrOk.mk_iff, QenOk.mk_iff]
      | split

theorem TileState.pruneFired_sound {x : TileState} (hx : TileOk s0 x) : TileOk s0 (TileState.pruneFired x) := by
  unfold TileState.pruneFired
  repeat' first
      | (with_reducible first | assumption | intro _ | apply TileOk.mem | apply TileOk.evr | apply And.intro)
      | simp only [Sound.mk_iff, TileOk.mk_iff, EvrOk.mk_iff, QenOk.mk_iff]
      | split

theorem State.advance_sound {s : State} {t : Nat} (hs : Sound s0 s) : Sound s0 (State.advance s t) := by
  unfold State.advance
  repeat' first
      | (with_reducible first | assumption | intro _ | apply TileState.pruneFired_sound | apply State.sealLine_sound | apply State.runRow_sound | apply Sound.foldl | apply Sound.updTileN | apply Sound.tileN | apply Sound.ite)
      | simp only [Sound.mk_iff, TileOk.mk_iff, EvrOk.mk_iff, QenOk.mk_iff]
      | split

theorem State.catchUp_sound {s : State} {t : Nat} {guess : Bool} (hs : Sound s0 s) : Sound s0 (State.catchUp s t guess) := by
  unfold State.catchUp
  repeat' first
      | (with_reducible first | assumption | intro _ | apply State.advance_sound | apply State.settleDeps_sound | apply State.takeOn_sound | apply Sound.updTileN | apply Sound.tileN | apply TileOk.mem | apply TileOk.evr | apply And.intro)
      | simp only [Sound.mk_iff, TileOk.mk_iff, EvrOk.mk_iff, QenOk.mk_iff]
      | split

/-! ## Raster -/

theorem State.compareSig_sound {s : State} {t line : Nat} (hs : Sound s0 s) : Sound s0 (State.compareSig s t line) := by
  unfold State.compareSig
  repeat' first
      | (with_reducible first | assumption | intro _ | apply State.withdraw_sound | apply State.rejectIf_sound | apply State.raiseLead_sound | apply State.raiseN_sound | apply Sound.updTileN | apply Sound.tileN | apply TileOk.mem | apply TileOk.evr | apply Sound.ite | apply And.intro)
      | simp only [Sound.mk_iff, TileOk.mk_iff, EvrOk.mk_iff, QenOk.mk_iff]
      | split

theorem State.sealedSig_sound {s : State} {t line : Nat} (hs : Sound s0 s) : Sound s0 (State.sealedSig s t line) := by
  unfold State.sealedSig
  repeat' first
      | (with_reducible first | assumption | intro _ | apply State.compareSig_sound | apply Sound.updTileN | apply Sound.tileN | apply TileOk.mem | apply TileOk.evr | apply Sound.ite | apply And.intro)
      | simp only [Sound.mk_iff, TileOk.mk_iff, EvrOk.mk_iff, QenOk.mk_iff]
      | split

theorem State.goOn_sound {s : State} {t : Nat} {guess : Bool} (hs : Sound s0 s) : Sound s0 (State.goOn s t guess) := by
  unfold State.goOn
  repeat' first
      | (with_reducible first | assumption | intro _ | apply State.sealedSig_sound | apply State.catchUp_sound | apply Sound.foldl)
      | simp only [Sound.mk_iff, TileOk.mk_iff, EvrOk.mk_iff, QenOk.mk_iff]
      | split

theorem State.checkUndelivered_sound {s : State} {k line seg : Nat} (hs : Sound s0 s) : Sound s0 (State.checkUndelivered s k line seg) := by
  unfold State.checkUndelivered
  repeat' first
      | (with_reducible first | assumption | intro _ | apply State.goOn_sound | apply State.flagPatches_sound | apply State.rejectDots_sound | apply State.raiseLead_sound | apply Sound.part | apply Sound.tiles | apply Sound.qen | apply Sound.host | apply Sound.free | apply Sound.pending | apply Sound.ite | apply And.intro)
      | simp only [Sound.mk_iff, TileOk.mk_iff, EvrOk.mk_iff, QenOk.mk_iff]
      | split

theorem State.sweepUndelivered_sound {s : State} {t : Nat} (hs : Sound s0 s) : Sound s0 (State.sweepUndelivered s t) := by
  unfold State.sweepUndelivered
  repeat' first
      | (with_reducible first | assumption | intro _ | apply State.checkUndelivered_sound | apply Sound.foldl)
      | simp only [Sound.mk_iff, TileOk.mk_iff, EvrOk.mk_iff, QenOk.mk_iff]
      | split

theorem State.endFill_sound {s : State} {t line : Nat} (hs : Sound s0 s) : Sound s0 (State.endFill s t line) := by
  unfold State.endFill
  repeat' first
      | (with_reducible first | assumption | intro _ | apply State.updatePaired_sound | apply State.setTwin_sound | apply Sound.ite)
      | simp only [Sound.mk_iff, TileOk.mk_iff, EvrOk.mk_iff, QenOk.mk_iff]
      | split

theorem State.stage11_sound {s : State} {t line : Nat} {short : List Nat} (hs : Sound s0 s) : Sound s0 (State.stage11 s t line short) := by
  unfold State.stage11
  repeat' first
      | (with_reducible first | assumption | intro _ | apply State.endFill_sound | apply State.checkUndelivered_sound | apply State.goOn_sound | apply State.shortBad_sound | apply State.scanPanic_sound | apply Sound.foldl | apply Sound.updTileN | apply Sound.tileN | apply TileOk.mem | apply TileOk.evr | apply Sound.ite | apply And.intro)
      | simp only [Sound.mk_iff, TileOk.mk_iff, EvrOk.mk_iff, QenOk.mk_iff]
      | split

theorem TileState.depend_sound {x : TileState} {line seg : Nat} (hx : TileOk s0 x) : TileOk s0 (TileState.depend x line seg) := by
  unfold TileState.depend
  repeat' first
      | (with_reducible first | assumption | intro _ | apply TileOk.mem | apply TileOk.evr | apply TileOk.ite | apply And.intro)
      | simp only [Sound.mk_iff, TileOk.mk_iff, EvrOk.mk_iff, QenOk.mk_iff]
      | split

theorem State.voidSeg_sound {s : State} {t line seg n cause : Nat} (hs : Sound s0 s) : Sound s0 (State.voidSeg s t line seg n cause) := by
  unfold State.voidSeg
  repeat' first
      | (with_reducible first | assumption | intro _ | apply TileState.depend_sound | apply State.checkUndelivered_sound | apply State.goOn_sound | apply State.updOwn_sound | apply State.updFired_sound | apply State.sendFrame_sound | apply State.raiseN_sound | apply Sound.updTileN | apply Sound.tileN | apply TileOk.mem | apply TileOk.evr | apply Sound.ite | apply And.intro)
      | simp only [Sound.mk_iff, TileOk.mk_iff, EvrOk.mk_iff, QenOk.mk_iff]
      | split

theorem State.sendLine_sound {s : State} {t line seg : Nat} {slots : List Nat} (hs : Sound s0 s) : Sound s0 (State.sendLine s t line seg slots) := by
  unfold State.sendLine
  repeat' first
      | (with_reducible first | assumption | intro _ | apply State.updFired_sound | apply State.sendFrame_sound)
      | simp only [Sound.mk_iff, TileOk.mk_iff, EvrOk.mk_iff, QenOk.mk_iff]
      | split

theorem State.segmentFrame_sound {s : State} {t line seg : Nat} (hs : Sound s0 s) : Sound s0 (State.segmentFrame s t line seg) := by
  unfold State.segmentFrame
  repeat' first
      | (with_reducible first | assumption | intro _ | apply State.sendLine_sound | apply State.voidSeg_sound | apply Sound.ite)
      | simp only [Sound.mk_iff, TileOk.mk_iff, EvrOk.mk_iff, QenOk.mk_iff]
      | split

theorem State.copyReceive_sound {s : State} {t line : Nat} (hs : Sound s0 s) : Sound s0 (State.copyReceive s t line) := by
  unfold State.copyReceive
  repeat' first
      | (with_reducible first | assumption | intro _ | apply State.checkUndelivered_sound | apply State.goOn_sound | apply State.compareSig_sound | apply Sound.foldl | apply Sound.updTileN | apply Sound.tileN | apply TileOk.mem | apply TileOk.evr | apply Sound.ite | apply And.intro)
      | simp only [Sound.mk_iff, TileOk.mk_iff, EvrOk.mk_iff, QenOk.mk_iff]
      | split

theorem State.recordMissing_sound {s : State} {t line : Nat} (hs : Sound s0 s) : Sound s0 (State.recordMissing s t line) := by
  unfold State.recordMissing
  repeat' first
      | (with_reducible first | assumption | intro _ | apply State.goOn_sound | apply Sound.whenDue | apply Sound.updTileN | apply Sound.tileN | apply TileOk.mem | apply TileOk.evr | apply And.intro)
      | simp only [Sound.mk_iff, TileOk.mk_iff, EvrOk.mk_iff, QenOk.mk_iff]
      | split

theorem State.resolveHold_sound {s : State} {t : Nat} (hs : Sound s0 s) : Sound s0 (State.resolveHold s t) := by
  unfold State.resolveHold
  repeat' first
      | (with_reducible first | assumption | intro _ | apply State.goOn_sound | apply Sound.updTileN | apply Sound.tileN | apply TileOk.mem | apply TileOk.evr | apply And.intro)
      | simp only [Sound.mk_iff, TileOk.mk_iff, EvrOk.mk_iff, QenOk.mk_iff]
      | split

theorem State.aloneFrom_sound {s : State} {t : Nat} (hs : Sound s0 s) : Sound s0 (State.aloneFrom s t) := by
  unfold State.aloneFrom
  repeat' first
      | (with_reducible first | assumption | intro _ | apply State.resolveHold_sound | apply State.sweepUndelivered_sound | apply State.partnerWithdrew_sound | apply Sound.updTileN | apply Sound.tileN | apply TileOk.mem | apply TileOk.evr | apply And.intro)
      | simp only [Sound.mk_iff, TileOk.mk_iff, EvrOk.mk_iff, QenOk.mk_iff]
      | split

theorem State.partnerLeft_sound {s : State} {t : Nat} (hs : Sound s0 s) : Sound s0 (State.partnerLeft s t) := by
  unfold State.partnerLeft
  repeat' first
      | (with_reducible first | assumption | intro _ | apply State.sweepUndelivered_sound | apply State.goOn_sound | apply State.partnerWithdrew_sound | apply Sound.whenDue)
      | simp only [Sound.mk_iff, TileOk.mk_iff, EvrOk.mk_iff, QenOk.mk_iff]
      | split

theorem State.partnerSilent_sound {s : State} {t : Nat} (hs : Sound s0 s) : Sound s0 (State.partnerSilent s t) := by
  unfold State.partnerSilent
  repeat' first
      | (with_reducible first | assumption | intro _ | apply State.aloneFrom_sound | apply State.leadFails_sound | apply State.withdrawBy_sound | apply Sound.ite)
      | simp only [Sound.mk_iff, TileOk.mk_iff, EvrOk.mk_iff, QenOk.mk_iff]
      | split

theorem State.twinLinkLost_sound {s : State} {k : Nat} (hs : Sound s0 s) : Sound s0 (State.twinLinkLost s k) := by
  unfold State.twinLinkLost
  repeat' first
      | (with_reducible first | assumption | intro _ | apply State.aloneFrom_sound | apply TileState.assay_sound | apply State.withdraw_sound | apply State.raiseLead_sound | apply Sound.whenDue | apply Sound.updTileN | apply Sound.tileN | apply Sound.part | apply Sound.tiles | apply Sound.qen | apply Sound.host | apply Sound.free | apply Sound.pending | apply Sound.ite | apply And.intro)
      | simp only [Sound.mk_iff, TileOk.mk_iff, EvrOk.mk_iff, QenOk.mk_iff]
      | split

theorem State.lineIssue_sound {s : State} (hs : Sound s0 s) : Sound s0 (State.lineIssue s) := by
  unfold State.lineIssue
  repeat' first
      | (with_reducible first | assumption | intro _ | apply State.issueTail_sound | apply State.issueCore_sound | apply Sound.whenDue)
      | simp only [Sound.mk_iff, TileOk.mk_iff, EvrOk.mk_iff, QenOk.mk_iff]
      | split

theorem State.laneFails_sound {s : State} {t l cause : Nat} (hs : Sound s0 s) : Sound s0 (State.laneFails s t l cause) := by
  unfold State.laneFails
  repeat' first
      | (with_reducible first | assumption | intro _ | apply State.sweepUndelivered_sound | apply State.laneDown_sound | apply Sound.foldl)
      | simp only [Sound.mk_iff, TileOk.mk_iff, EvrOk.mk_iff, QenOk.mk_iff]
      | split

/-! ## Wire -/

theorem State.once_sound {s : State} {src code eseq : Nat} {f : State → State} (hs : Sound s0 s) (hf : ∀ s, Sound s0 s → Sound s0 (f s)) : Sound s0 (State.once s src code eseq f) := by
  unfold State.once
  repeat' first
      | (with_reducible first | assumption | intro _ | apply hf | apply Sound.part | apply Sound.tiles | apply Sound.qen | apply Sound.host | apply Sound.free | apply Sound.pending | apply Sound.ite | apply And.intro)
      | simp only [Sound.mk_iff, TileOk.mk_iff, EvrOk.mk_iff, QenOk.mk_iff]
      | split

theorem State.eventFrame_sound {s : State} {src : Nat} {bs : List Byte} (hs : Sound s0 s) : Sound s0 (State.eventFrame s src bs) := by
  unfold State.eventFrame
  repeat' first
      | (with_reducible first | assumption | intro _ | apply State.once_sound | apply State.productEvent_sound | apply State.positionEvent_sound | apply State.nodeEvent_sound | apply State.colourReport_sound | apply Sound.ite)
      | simp only [Sound.mk_iff, TileOk.mk_iff, EvrOk.mk_iff, QenOk.mk_iff]
      | split

theorem State.timeFrame_sound {s : State} {t : Tile} {l : Fin 10} {bs : List Byte} (hs : Sound s0 s) : Sound s0 (State.timeFrame s t l bs) := by
  unfold State.timeFrame
  repeat' first
      | (with_reducible first | assumption | intro _ | apply State.announceReceive_sound | apply State.respReceive_sound | apply State.reqReceive_sound | apply State.syncReceive_sound | apply Sound.ite)
      | simp only [Sound.mk_iff, TileOk.mk_iff, EvrOk.mk_iff, QenOk.mk_iff]
      | split

theorem State.acceptFrame_sound {s : State} {t : Tile} {l : Fin 10} {bs : List Byte} (hs : Sound s0 s) : Sound s0 (State.acceptFrame s t l bs) := by
  unfold State.acceptFrame
  repeat' first
      | (with_reducible first | assumption | intro _ | apply State.timeFrame_sound | apply State.eventFrame_sound | apply State.ctrlAnswer_sound | apply State.statusReceive_sound | apply State.helloReceive_sound | apply State.ctrlRequest_sound | apply Sound.ite)
      | simp only [Sound.mk_iff, TileOk.mk_iff, EvrOk.mk_iff, QenOk.mk_iff]
      | split

theorem State.endFrame_sound {s : State} {t : Tile} {l : Fin 10} {f : RxFrame} (hs : Sound s0 s) : Sound s0 (State.endFrame s t l f) := by
  unfold State.endFrame
  have h := State.rxEnded_sound (t := t.val) (l := l.val) (f := f) hs
  split <;> rename_i e <;> rw [e] at h
  · exact Sound.ite (State.trimBoundary_sound h) (State.acceptFrame_sound h)
  · exact h

theorem State.grow_sound {s : State} {t : Tile} {l : Fin 10} {bs : List Byte} (hs : Sound s0 s) : Sound s0 (State.grow s t l bs) := by
  unfold State.grow
  repeat' first
      | (with_reducible first | assumption | intro _ | apply State.endFrame_sound | apply State.updLnk_sound | apply Sound.ite)
      | simp only [Sound.mk_iff, TileOk.mk_iff, EvrOk.mk_iff, QenOk.mk_iff]
      | split

theorem State.breakFrame_sound {s : State} {t : Tile} {l : Fin 10} (hs : Sound s0 s) : Sound s0 (State.breakFrame s t l) := by
  unfold State.breakFrame
  repeat' first
      | (with_reducible first | assumption | intro _ | apply State.endFrame_sound | apply State.updLnk_sound | apply Sound.ite)
      | simp only [Sound.mk_iff, TileOk.mk_iff, EvrOk.mk_iff, QenOk.mk_iff]
      | split

theorem State.takeBlock_sound {s : State} {t : Tile} {l : Fin 10} {b : Block} {payload : List Byte} (hs : Sound s0 s) : Sound s0 (State.takeBlock s t l b payload) := by
  unfold State.takeBlock
  repeat' first
      | (with_reducible first | assumption | intro _ | apply State.breakFrame_sound | apply State.grow_sound | apply Sound.ite)
      | simp only [Sound.mk_iff, TileOk.mk_iff, EvrOk.mk_iff, QenOk.mk_iff]
      | split

theorem State.rxBlock_sound {s : State} {t : Tile} {l : Fin 10} {b : Block} (hs : Sound s0 s) : Sound s0 (State.rxBlock s t l b) := by
  unfold State.rxBlock
  repeat' first
      | (with_reducible first | assumption | intro _ | apply State.takeBlock_sound | apply State.lockLost_sound | apply State.lockAcquired_sound | apply State.updLnk_sound | apply Sound.ite)
      | simp only [Sound.mk_iff, TileOk.mk_iff, EvrOk.mk_iff, QenOk.mk_iff]
      | split

theorem State.rxBlocks_sound {s : State} {t : Tile} {l : Fin 10} {bs : List Block} (hs : Sound s0 s) : Sound s0 (State.rxBlocks s t l bs) := by
  unfold State.rxBlocks
  repeat' first
      | (with_reducible first | assumption | intro _ | apply State.rxBlock_sound | apply Sound.foldl)
      | simp only [Sound.mk_iff, TileOk.mk_iff, EvrOk.mk_iff, QenOk.mk_iff]
      | split

/-! ## Tick -/

theorem State.timeTick_sound {s : State} (hs : Sound s0 s) : Sound s0 (State.timeTick s) := by
  unfold State.timeTick
  repeat' first
      | (with_reducible first | assumption | intro _ | apply State.updServo_sound | apply State.addTime_sound | apply Sound.ite)
      | simp only [Sound.mk_iff, TileOk.mk_iff, EvrOk.mk_iff, QenOk.mk_iff]
      | split

theorem TileState.slewTick_sound {x : TileState} (hx : TileOk s0 x) : TileOk s0 (TileState.slewTick x) := by
  unfold TileState.slewTick
  repeat' first
      | (with_reducible first | assumption | intro _ | apply TileOk.mem | apply TileOk.evr | apply And.intro)
      | simp only [Sound.mk_iff, TileOk.mk_iff, EvrOk.mk_iff, QenOk.mk_iff]
      | split

theorem State.leadHours_sound {s : State} (hs : Sound s0 s) : Sound s0 (State.leadHours s) := by
  unfold State.leadHours
  repeat' first
      | (with_reducible first | assumption | intro _ | apply Sound.part | apply Sound.tiles | apply Sound.qen | apply Sound.host | apply Sound.free | apply Sound.pending | apply And.intro)
      | simp only [Sound.mk_iff, TileOk.mk_iff, EvrOk.mk_iff, QenOk.mk_iff]
      | split

theorem State.laneTick_sound {s : State} {t l : Nat} (hs : Sound s0 s) : Sound s0 (State.laneTick s t l) := by
  unfold State.laneTick
  repeat' first
      | (with_reducible first | assumption | intro _ | apply State.trimBoundary_sound | apply State.drainLane_sound | apply State.fillLane_sound | apply Sound.ite)
      | simp only [Sound.mk_iff, TileOk.mk_iff, EvrOk.mk_iff, QenOk.mk_iff]
      | split

theorem State.lanesTick_sound {s : State} {t : Nat} (hs : Sound s0 s) : Sound s0 (State.lanesTick s t) := by
  unfold State.lanesTick
  repeat' first
      | (with_reducible first | assumption | intro _ | apply State.laneTick_sound | apply Sound.foldl | apply Sound.ite)
      | simp only [Sound.mk_iff, TileOk.mk_iff, EvrOk.mk_iff, QenOk.mk_iff]
      | split

theorem State.tick_sound {s : State} (hs : Sound s0 s) : Sound s0 (State.tick s) := by
  unfold State.tick
  repeat' first
      | (with_reducible first | assumption | intro _ | apply State.lanesTick_sound | apply State.leadHours_sound | apply TileState.slewTick_sound | apply State.timeTick_sound | apply State.domLate_sound | apply State.memcTick_sound | apply Sound.foldl | apply Sound.updTileN | apply Sound.tileN | apply TileOk.mem | apply TileOk.evr | apply Sound.ite | apply And.intro)
      | simp only [Sound.mk_iff, TileOk.mk_iff, EvrOk.mk_iff, QenOk.mk_iff]
      | split

end Sys2Proof.Machine
end

