-- ==== Sys2Proof/Laws/Tiles.lean ====
section
/-! SUPPORT. Reading a tile, a lane, a source of the router, or an element of a vector after an update of one. -/

namespace Sys2Proof.Machine

/-! ## Vectors -/

theorem vget_vset_eq {α : Type} {n : Nat} (v : Vector α n) (i : Nat) (x d : α) (h : i < n) : vget (vset v i x) i d = x := by
  simp [vget, vset, h]

theorem vget_vset_ne {α : Type} {n : Nat} (v : Vector α n) (i j : Nat) (x d : α) (h : j ≠ i) : vget (vset v i x) j d = vget v j d := by
  have h' : i ≠ j := fun e => h e.symm
  simp [vget, vset, h']

theorem vget_vupd_eq {α : Type} {n : Nat} (v : Vector α n) (i : Nat) (d : α) (f : α → α) (h : i < n) :
    vget (vupd v i d f) i d = f (vget v i d) := vget_vset_eq v i _ d h

theorem vget_vupd_ne {α : Type} {n : Nat} (v : Vector α n) (i j : Nat) (d e : α) (f : α → α) (h : j ≠ i) :
    vget (vupd v i d f) j e = vget v j e := vget_vset_ne v i j _ e h

/-! ## Tiles -/

@[simp] theorem tileIx_val (t : Tile) : tileIx t.val = t := by
  ext; simp [tileIx, Fin.ofNat, Nat.mod_eq_of_lt t.isLt]

@[simp] theorem State.tileN_val (s : State) (t : Tile) : s.tileN t.val = s.tile t := by simp [State.tileN]

@[simp] theorem State.tile_setTile (s : State) (t : Tile) (x : TileState) : (s.setTile t x).tile t = x := by
  show (s.tiles.set t.val x t.isLt)[t.val] = x; simp

theorem State.tile_setTile_ne (s : State) (t k : Tile) (x : TileState) (h : k ≠ t) : (s.setTile t x).tile k = s.tile k := by
  have h' : t.val ≠ k.val := fun e => h (Fin.ext e.symm)
  show (s.tiles.set t.val x t.isLt)[k.val] = s.tiles[k.val]; simp [h']

@[simp] theorem State.tile_updTile (s : State) (t : Tile) (f : TileState → TileState) : (s.updTile t f).tile t = f (s.tile t) := by
  simp [State.updTile]

theorem State.tile_updTile_ne (s : State) (t k : Tile) (f : TileState → TileState) (h : k ≠ t) : (s.updTile t f).tile k = s.tile k :=
  s.tile_setTile_ne t k _ h

@[simp] theorem State.updTileN_val (s : State) (t : Tile) (f : TileState → TileState) : s.updTileN t.val f = s.updTile t f := by
  simp [State.updTileN]

/-! ## Two updates in turn, and lanes (16 R499) -/

theorem vset_vset {α : Type} {n : Nat} (v : Vector α n) (i : Nat) (x y : α) : vset (vset v i x) i y = vset v i y := by
  simp [vset, Vector.setIfInBounds]

theorem State.updTile_updTile (s : State) (t : Tile) (f g : TileState → TileState) :
    (s.updTile t f).updTile t g = s.updTile t (fun x => g (f x)) := by
  simp only [State.updTile, State.tile_setTile]
  simp only [State.setTile, State.mk.injEq, true_and, and_true]
  exact Vector.set_set ..

theorem State.lnk_updLnk (s : State) (t : Tile) (l : Fin 10) (f : LaneHw → LaneHw) :
    (s.updLnk t.val l.val f).lnk t.val l.val = f (s.lnk t.val l.val) := by
  simp only [State.updLnk, State.updTileN_val, State.lnk, State.tileN_val, State.tile_updTile, TileState.updLane, TileState.lane]
  rw [vget_vupd_eq _ _ _ _ l.isLt]

theorem State.lnkOn_updLnk (s : State) (t : Tile) (l : Fin 10) (f : LaneHw → LaneHw) :
    (s.updLnk t.val l.val f).lnkOn t.val l.val = s.lnkOn t.val l.val := by
  simp only [State.updLnk, State.updTileN_val, State.lnkOn, State.tileN_val, State.tile_updTile, TileState.updLane, TileState.on]

theorem State.updLnk_updLnk (s : State) (t : Tile) (l : Fin 10) (f g : LaneHw → LaneHw) :
    (s.updLnk t.val l.val f).updLnk t.val l.val g = s.updLnk t.val l.val (fun x => g (f x)) := by
  simp only [State.updLnk, State.updTileN_val, State.updTile_updTile, TileState.updLane, vupd]
  congr 1; funext x; rw [vget_vset_eq _ _ _ _ l.isLt, vset_vset]

/-! ## Sources (14 R460) -/

theorem State.src_val (s : State) (t : Tile) (k : Nat) : s.src t.val k = vget (s.tile t).evr.srcs k EvrSrc.reset := by simp [State.src]

theorem State.src_updSrc (s : State) (t : Tile) (k : Nat) (f : EvrSrc → EvrSrc) (h : k < 192) :
    (s.updSrc t.val k f).src t.val k = f (s.src t.val k) := by
  simp [State.updSrc, State.updEvr, State.src_val, vget_vupd_eq, h]

theorem State.src_updSrc_ne (s : State) (t : Tile) (k j : Nat) (f : EvrSrc → EvrSrc) (h : j ≠ k) :
    (s.updSrc t.val k f).src t.val j = s.src t.val j := by
  simp [State.updSrc, State.updEvr, State.src_val, vget_vupd_ne, h]

/-- An occurrence at a running router changes the source and the log of that tile (14 R460, R461). -/
theorem State.src_raise (s : State) (t : Tile) (k : Nat) (data : List Nat) (h : k < 192) (on : (s.tile t).on 1 = true) :
    (s.raise t k data).src t.val k = (s.src t.val k).occur := by
  simp [State.raise, State.raiseAt, TileState.occur, on, State.src_val, Evr.occur, Evr.addLog, vget_vupd_eq, h]

theorem State.src_raise_ne (s : State) (t : Tile) (k j : Nat) (data : List Nat) (h : j ≠ k) :
    (s.raise t k data).src t.val j = s.src t.val j := by
  simp only [State.raise, State.raiseAt, TileState.occur, State.src_val, State.tile_updTile]
  split
  · simp [Evr.occur, Evr.addLog, vget_vupd_ne, h]
  · simp only [Evr.shadowOccur]; split <;> rfl

end Sys2Proof.Machine
end

