-- ==== Sys2Proof/Tests/Slice0.lean ====
section
/-! SUPPORT. Small checks of the model by its own definitions: a smoke test of every check of WellFormed, the boot
sequence, one step at a time on small states, and for each obligation a state that meets its hypotheses. -/

namespace Sys2Proof.Tests

-- One test after the other: every theorem here is a kernel evaluation, and side by side they ask for too many threads.
set_option Elab.async false

open Sys2Proof.Machine

/-! ## States and packets -/

/-- A packet of queue 0 with fetch number 1, session 0: its opcode and the dwords from DW2. -/
def pk (code : Nat) (ws : List Nat) : Packet :=
  { q := 0, seq := 1, w := Vector.ofFn (fun i => BitVec.ofNat 32 (([code, 0] ++ ws).getD i.val 0)) }

/-- A tile that runs: every domain on, PAIRED, booted, its lanes UP with lock, its DRAM trained. -/
def upTile : TileState :=
  { TileState.reset with
    pdOn := 0x7FFF, pdNeed := 0x7FFF, twin := .paired, pstate := .paired, boot := { Boot.reset with stage := 8 }
    lanes := Vector.replicate 10 { LaneHw.reset with st := 2, lock := true }, memc := { Memc.reset with st := 2 } }

/-- A booted package with no job: the engine enabled with pair 0, both ports in L0. -/
def up : State :=
  { State.reset with
    time := 1_000_000_000
    tiles := Vector.replicate 8 upTile
    qen := { Qen.reset with
      en := true, ready := true
      pairs := (Vector.replicate 256 none).set 0 (some (QueuePair.fresh 0 0x10000 16 0x20000 16))
      ports := Vector.replicate 2 { Port.reset with link := 0, busMaster := true, msixEn := true } } }

/-- A package that prints: a job is armed. -/
def armed : State := { up with job := { Job.reset with st := .armed } }

/-! ## Packets that run -/

/-- A decision of OpDef.Runs. -/
def runsB (d : OpDef) (s : State) (p : Packet) : Bool :=
  let t := s.place p
  let h := d.held s p
  let b := d.bind h p []
  !s.begun p.seq && decide (t.protCheck d p (d.access t p []) = 0) && rsvdOk d.named p && decide ((d.check t p).1 = St.ok) &&
    decide (d.read h p = none) && decide (h.protCheck d p (d.access h p []) = 0) && decide (b.1.1 = 0) &&
    (decide (d.waits b.2 p [] = 0) || b.2.landed p (d.waits b.2 p []) (b.2.dispOf p.seq))

theorem runs_of {d : OpDef} {s : State} {p : Packet} (h : runsB d s p = true) : d.Runs s p := by
  simp only [runsB, Bool.and_eq_true, Bool.or_eq_true, Bool.not_eq_true', decide_eq_true_eq] at h
  obtain ⟨⟨⟨⟨⟨⟨⟨h1, h2⟩, h3⟩, h4⟩, h5⟩, h6⟩, h7⟩, h8⟩ := h
  exact ⟨⟨h1, h2, h3, h4⟩, h5, h6, h7, h8⟩

/-- A decision of OpDef.Feeds. -/
def feedsB (d : OpDef) (s : State) (p : Packet) (bs : List Byte) : Bool :=
  let t := s.place p
  let a := ((d.read (d.held s p) p).getD (0, 0)).1
  let v := (d.held s p).run p.seq (.dma a bs.length)
  let u := v.run p.seq .work
  let b := d.bind u p bs
  decide (p.opcode = d.code) && !s.begun p.seq && decide (t.protCheck d p (d.access t p []) = 0) && rsvdOk d.named p &&
    decide ((d.check t p).1 = St.ok) && decide (d.read (d.held s p) p = some (a, bs.length)) &&
    decide ((v.entry p.seq).map (fun e => (e.p, e.st, e.wait)) = some (p, .running, .dma a bs.length)) &&
    decide (u.protCheck d p (d.access u p bs) = 0) && decide (b.1.1 = 0) &&
    (decide (d.waits b.2 p bs = 0) || b.2.landed p (d.waits b.2 p bs) (b.2.dispOf p.seq))

theorem feeds_of {d : OpDef} {s : State} {p : Packet} {bs : List Byte} (ho : opOf d.code = some d) (h : feedsB d s p bs = true) :
    d.Feeds s p bs := by
  simp only [feedsB, Bool.and_eq_true, Bool.or_eq_true, Bool.not_eq_true', decide_eq_true_eq] at h
  obtain ⟨⟨⟨⟨⟨⟨⟨⟨⟨h1, h2⟩, h3⟩, h4⟩, h5⟩, h6⟩, h7⟩, h8⟩, h9⟩, h10⟩ := h
  refine ⟨h1 ▸ ho, _, ⟨⟨h2, h3, h4, h5⟩, h6⟩, ?_, h8, h9, h10⟩
  obtain ⟨e, he, hx⟩ := Option.map_eq_some_iff.mp h7
  simp only [Prod.mk.injEq] at hx
  exact ⟨e, _, he, hx⟩

/-! ## Hypotheses met: for each obligation, a state for each of its clauses -/

/-- A window table of one entry: the first 4 KiB of span 0, to read and to write. -/
def oneWindow : List Byte := [0, 0, 0, 0, 0, 0, 0, 0, 0, 16, 0, 0, 0, 3, 1, 0]

/-- Session 5 open, class JOB, with a window; queue 7 of it; its packet 40 QUEUED. -/
def seven : State :=
  { up with qen := { up.qen with
      sessions := up.qen.sessions.set 5 (some { cls := 2, mask := 0xFFFE, windows := [{ base := 0, len := 4096, rights := 3, spans := 1 }],
                                                storeMax := 16, runMax := 4, closing := none, denied := none })
      pairs := up.qen.pairs.set 7 (some (QueuePair.fresh 5 0x50000 16 0x60000 16))
      store := [{ p := { pk 0xF01 [] with q := 7, seq := 40 }, session := 5, st := .queued, wait := .work, disp := 0, status := 0, r0 := 0,
                  r1 := 0, decided := 0, counted := false, rights := none }] } }

theorem witness_SessionCommandsTakeEffect :
    opSessionOpen.Runs up (pk 0x101 [0x209, 0x8004, 0x1_0001]) ∧
    opSessionOpen.Feeds up (pk 0x101 [0x209, 0x8004, 0x1_0001, 0x100, 0, 1]) oneWindow ∧
    ((windowsOf 1 oneWindow).isSome = true) ∧
    opSessionClose.Runs seven (pk 0x102 [5]) ∧
    ((seven.entry 40).any (fun e => e.session == 5 && e.p.q == 7 && e.st == .queued) = true) ∧
    opSessionProt.Runs seven (pk 0x103 [5, 0x8004]) ∧
    opSessionProt.Feeds seven (pk 0x103 [5, 0x8004, 0, 0x100, 0, 1]) oneWindow ∧
    opSessionQueue.Runs seven (pk 0x104 [0x508, 0x70000, 0, 0x80000, 0, 0x0003_0003, 0, 1, 250]) ∧
    opSessionQdelete.Runs seven (pk 0x105 [7]) := by
  refine ⟨runs_of (by decide +kernel), ?_⟩
  refine ⟨feeds_of rfl (by decide +kernel), ?_⟩
  refine ⟨by decide +kernel, ?_⟩
  refine ⟨runs_of (by decide +kernel), ?_⟩
  refine ⟨by decide +kernel, ?_⟩
  refine ⟨runs_of (by decide +kernel), ?_⟩
  refine ⟨feeds_of rfl (by decide +kernel), ?_⟩
  refine ⟨runs_of (by decide +kernel), ?_⟩
  exact runs_of (by decide +kernel)

theorem reset_ok : State.reset.Ok := ⟨by decide +kernel, fun t => ⟨by revert t; decide +kernel, by revert t; decide +kernel⟩, by unfold Qen.Ok; decide +kernel⟩

/-- A SLEW of the press servo at an instant where one tick more is counted; the package is a slave. -/
def slewed : State :=
  { up with time := 1_000_000_512, link := { Link.reset with
      role := 0, servos := [{ hop := .up, o := 0, d := 0, xseq := 0, t1 := none, t2 := none, t3 := none, good := 0, bad := 0, aligned := true,
                              rate := 0, slew := 512, interval := 0, heldAt := none, syncAt := 0, doneAt := 0, helloAt := 0 }] } }
/-- The same with a tick to leave out. -/
def slewedBack : State := slewed.updServo .up (fun v => { v with slew := -768 })
/-- A packet DIAG.ECHO in state RUNNING. -/
def echoRunning : State := up.place (pk 0xF01 [5, 6])
/-- A packet of a session that is not open. -/
def strayPacket : Packet := { pk 0xF01 [] with w := (pk 0xF01 []).w.set 1 0x20000 }
/-- A packet of session 5. -/
def jobPacket (code : Nat) (ws : List Nat) : Packet := { pk code ws with w := (pk code ws).w.set 1 0x50000 }
/-- Session 5 was refused a second ago, less one tick. -/
def refused : State := { seven with qen := { seven.qen with sessions := seven.qen.sessions.set 5 ((seven.session 5).map (fun x => { x with denied := some 750_000_001 })) } }
/-- Both lead tiles without PD_DISP. -/
def dark : State := { up with tiles := Vector.replicate 8 { upTile with pdOn := 0x7DFF } }
/-- A fence of session 5 on product 3 of lane 1, with no signal. -/
def fenced : State := { seven with job := { Job.reset with st := .armed, fences := [{ id := 9, seq := 40, session := 5, lane := 1, product := 3, signal := none }] } }

theorem witness_StepKeepsWellKept :
    (State.reset.Ok) ∧
    ((∃ u : State, step State.reset = .next u)) ∧
    ((∃ u : State, step { State.reset with pending := [.diagEcho (pk 0xF01 [5])] } = .next u)) :=
  ⟨reset_ok, ⟨_, rfl⟩, ⟨_, rfl⟩⟩

theorem witness_StepTakesTheFrontCommand :
    (({ up with pending := [.diagEcho (pk 0xF01 [5]), .dspTeEdge 0] } : State).pending = .diagEcho (pk 0xF01 [5]) :: [.dspTeEdge 0]) ∧
    (up.pending = []) :=
  ⟨by decide +kernel, by decide +kernel⟩

theorem witness_TicksCountTime :
    (up.tickStep.2 = 0) ∧
    (slewed.tickStep.2 ≠ 0) ∧
    (slewedBack.tickStep.1 = 0) ∧
    (up.link.role = 1) ∧
    (slewed.link.role = 0) ∧
    (State.reset.now % 1024 = 0) ∧
    (up.now % 1024 ≠ 0) := by
  iterate 6 refine ⟨by decide +kernel, ?_⟩
  exact by decide +kernel

theorem witness_CommandsAnswer :
    (up.part = .ga408) ∧
    (State.reset.Ok) ∧
    ((∃ u : State, exec (.diagEcho (pk 0xF01 [5])) up = .next u)) ∧
    ((dispatched (.diagEcho (pk 0xF01 [5])) = some (opDiagEcho, pk 0xF01 [5]))) ∧
    (({ up with part := .ga402 } : State).part ≠ .ga408) := by
  refine ⟨by decide +kernel, ?_⟩
  refine ⟨reset_ok, ?_⟩
  refine ⟨⟨_, rfl⟩, ?_⟩
  refine ⟨rfl, ?_⟩
  exact by decide

theorem witness_PacketsAreCheckedInOrder :
    ((dispatched (.diagEcho (pk 0xF01 [5])) = some (opDiagEcho, pk 0xF01 [5]))) ∧
    (echoRunning.begun 1 = true) ∧
    (up.begun 1 = false) ∧
    (up.begun 1 = false ∧ (up.place strayPacket).protCheck opDiagEcho strayPacket [] ≠ 0) ∧
    ((refused.session (jobPacket 0xE05 []).session).bind (·.denied) = some 750_000_001 ∧ refused.now < 750_000_001 + 250_000_000) ∧
    ((refused.place (jobPacket 0xE05 [])).protCheck opSvcTrim (jobPacket 0xE05 []) [] ≠ 0) ∧
    ((up.place (pk 0xF01 [0, 0, 1])).protCheck opDiagEcho (pk 0xF01 [0, 0, 1]) [] = 0 ∧ rsvdOk opDiagEcho.named (pk 0xF01 [0, 0, 1]) = false) ∧
    ((up.place (pk 0xE05 [])).protCheck opSvcTrim (pk 0xE05 []) [] = 0 ∧ rsvdOk opSvcTrim.named (pk 0xE05 []) = true ∧ (opSvcTrim.check (up.place (pk 0xE05 [])) (pk 0xE05 [])).1 ≠ St.ok) ∧
    opMemWrite.Feeds up (pk 0x201 [1, 0, 0, 0, 0, 4]) [1, 2, 3, 4] ∧
    ((∃ a n, opMemWrite.Reads up (pk 0x201 [1, 0, 0, 0, 0, 4]) a n)) := by
  refine ⟨rfl, ?_⟩
  iterate 7 refine ⟨by decide +kernel, ?_⟩
  refine ⟨feeds_of rfl (by decide +kernel), ?_⟩
  exact ⟨_, 4, (feeds_of (bs:= [1, 2, 3, 4]) rfl (by decide +kernel)).2.choose_spec.1⟩

theorem witness_ProtectionAdmitsWhatItCovers :
    ((seven.session 5).isSome = true) ∧
    ((({ seven with qen := { seven.qen with sessions := seven.qen.sessions.set 5 ((seven.session 5).map (fun x => { x with mask := 0 })) } } : State).session 5).map (fun x => bit x.mask (0xE05 / 256)) = some false) ∧
    ((seven.session 5).map (fun x => (bit x.mask 0xE, bit opSvcTrim.cls x.cls)) = some (true, false)) ∧
    (seven.protCheck opMemWrite (jobPacket 0x201 []) [{ spans := 1, base := 4092, len := 4, write := true }] = 0 ∧ (jobPacket 0x201 []).session ≠ 0) ∧
    (seven.protCheck opMemWrite (jobPacket 0x201 []) [{ spans := 1, base := 4093, len := 4, write := true }] = St.protWindow) ∧
    (up.session 5 = none) ∧
    ((dispatched (.memWrite (pk 0x201 [])) = some (opMemWrite, pk 0x201 []))) := by
  iterate 6 refine ⟨by decide +kernel, ?_⟩
  exact rfl

theorem witness_DisplayCommandsNeedTheirDomain :
    ((dispatched (.dispMode (pk 0xC01 [])) = some (opDispMode, pk 0xC01 []))) ∧
    ((dispatched (.dispFlip (pk 0xC03 [])) = some (opDispFlip, pk 0xC03 []))) ∧
    ((dispatched (.dispPower (pk 0xC02 [])) = some (opDispPower, pk 0xC02 []))) ∧
    (dark.dispDark = true ∧ dark.begun 1 = false) ∧
    ((dark.place (pk 0xC01 [])).protCheck opDispMode (pk 0xC01 []) [] = 0 ∧ rsvdOk opDispMode.named (pk 0xC01 []) = true) ∧
    ((dark.place (pk 0xC03 [])).protCheck opDispFlip (pk 0xC03 []) [] = 0 ∧ rsvdOk opDispFlip.named (pk 0xC03 []) = true) ∧
    ((dark.place (pk 0xC02 [])).protCheck opDispPower (pk 0xC02 []) [] = 0 ∧ rsvdOk opDispPower.named (pk 0xC02 []) = true ∧ (pk 0xC02 []).f 2 0 0 = 0) ∧
    ((up.place { pk 0xC01 [] with seq := 2 }).qen.store.any (fun e => decide (e.p.opcode = 0x0C01 ∧ e.p.seq ≠ 1 ∧ e.st = .running)) = true) ∧
    ((pk 0xC02 [1]).f 2 0 0 = 1) := by
  iterate 3 refine ⟨rfl, ?_⟩
  iterate 5 refine ⟨by decide +kernel, ?_⟩
  exact by decide +kernel

theorem witness_FencesAreSignalledByTheirSession :
    (fenced.begun 1 = false ∧ (fenced.place (jobPacket 0x403 [9])).protCheck opLayerSignal (jobPacket 0x403 [9]) [] = 0 ∧ rsvdOk opLayerSignal.named (jobPacket 0x403 [9]) = true) ∧
    (fenced.job.fences.any (fun f => f.id == 9 && f.session == (jobPacket 0x403 [9]).session && f.signal == none) = true) ∧
    (∀ f ∈ ({ fenced with job := { fenced.job with fences := fenced.job.fences.map (fun f => { f with session := 6 }) } } : State).job.fences, f.id = (jobPacket 0x403 [9]).f 2 11 0 → (jobPacket 0x403 [9]).session ≠ 0 ∧ f.session ≠ (jobPacket 0x403 [9]).session) :=
  ⟨by decide +kernel, by decide +kernel, by decide +kernel⟩

theorem witness_ThermalCyclesAreCounted :
    ((0 : Fin 8).val < up.nTiles) ∧
    ((({ up with tiles := Vector.replicate 8 { upTile with thm := { Thm.reset with temp := up.item Pid.tallyTcLo - 1 } } } : State).thm 0).temp < up.item Pid.tallyTcLo) ∧
    ((let s : State := { up with tiles := Vector.replicate 8 { upTile with thm := { Thm.reset with temp := up.item Pid.tallyTcHi }, boot := { Boot.reset with cycleArmed := true } } }; s.item Pid.tallyTcLo ≤ (s.thm 0).temp ∧ s.item Pid.tallyTcHi ≤ (s.thm 0).temp ∧ (s.tile 0).boot.cycleArmed = true)) ∧
    ((let s : State := { up with tiles := Vector.replicate 8 { upTile with thm := { Thm.reset with temp := up.item Pid.tallyTcLo } } }; s.item Pid.tallyTcLo ≤ (s.thm 0).temp ∧ (s.tile 0).boot.cycleArmed = false)) :=
  ⟨by decide +kernel, by decide +kernel, by decide +kernel, by decide +kernel⟩

/-- A surface of one strip at address 0, as MEM.COMPRESS lays it out, of 8 by 4 slots, followed by 32 raw bytes at 4096. -/
def surfMem : Mem :=
  Mem.write (Mem.write [] 0 (compressOut 0 8 4 1 3 0 0 (List.replicate 32 7))) 4096 (List.replicate 32 7)
/-- Every tile holds the surface. -/
def surfUp : State := { up with tiles := Vector.replicate 8 { upTile with mem := surfMem } }
/-- The strip's body is missing on tile 1. -/
def surfBad : State := { surfUp with tiles := surfUp.tiles.set 1 { upTile with mem := Mem.write surfMem 148 (List.replicate 8 0) } }
/-- An uncorrectable word at address 64. -/
def poisoned : State := { up with tiles := Vector.replicate 8 { upTile with memc := { Memc.reset with st := 2, poison := [64] } } }
/-- A write on span 0 that has reached the first tile, and one that has reached both. -/
def flying (stage : Nat) : State :=
  { up with stores := { Stores.reset with inFlight := [{ wid := 1, disp := 1, session := 0, addr := 0, data := [1], twins := [{ twin := 0, stage := stage, first := 0 }] }] } }
/-- A compression that sizes or writes; its packet is RUNNING. -/
def compressing (writing : Bool) : State :=
  let s := surfUp.place (pk 0x204 [0x301, 0x0001_0007, 4, 0, 4096, 0, 8192, 0, 4096])
  { s with stores := { s.stores with compress := [{ seq := 1, writing := writing, outs := [(0, [1])] }] } }
/-- A MEM.FENCE that waits for a landing. -/
def fencing : State := (up.place (pk 0x203 [1])).run 1 (.landed 1 1 [])

theorem witness_MemoryCommandsTakeEffect :
    opMemWrite.Feeds up (pk 0x201 [1, 0, 0, 0, 0, 4]) [1, 2, 3, 4] ∧
    opMemRead.Runs up (pk 0x202 [0x18, 0, 0, 0, 0, 4]) ∧
    ((up.tileN 7).uncorr 0 4 = false) ∧
    opMemRead.Runs poisoned (pk 0x202 [1, 0, 0, 0, 0, 65]) ∧
    ((poisoned.tileN 0).uncorr 0 65 = true) ∧
    opMemRead.Runs surfBad (pk 0x202 [0x21, 148, 0, 0, 0, 8]) ∧
    ((surfBad.tileN 0).uncorr 148 8 = false ∧ (surfBad.tileN 1).uncorr 148 8 = false) ∧
    (firstDiff 148 (Mem.read (surfBad.tileN 0).mem 148 8) (Mem.read (surfBad.tileN 1).mem 148 8) ≠ none) ∧
    opMemRead.Runs up (pk 0x202 [0x21, 0, 0, 0, 0, 4]) ∧
    opMemFence.Runs up (pk 0x203 [0xF]) ∧
    opMemCompress.Runs surfUp (pk 0x204 [0x301, 0x0001_0007, 4, 0, 4096, 0, 8192, 0, 4096]) ∧
    opMemVerify.Runs surfUp (pk 0x205 [0xF, 0]) ∧
    ((surfUp.tileN 0).takes = true ∧ ∃ d ∈ surfUp.surface 0 0, (surfUp.tileN 0).failedStrips d = []) ∧
    opMemVerify.Runs surfBad (pk 0x205 [0xF, 0]) ∧
    (∃ d ∈ surfBad.surface 0 0, (surfBad.tileN 1).failedStrips d ≠ []) ∧
    opMemInfo.Runs up (pk 0x206 [0x100]) := by
  refine ⟨feeds_of rfl (by decide +kernel), ?_⟩
  refine ⟨runs_of (by decide +kernel), ?_⟩
  refine ⟨by decide +kernel, ?_⟩
  refine ⟨runs_of (by decide +kernel), ?_⟩
  refine ⟨by decide +kernel, ?_⟩
  refine ⟨runs_of (by decide +kernel), ?_⟩
  iterate 2 refine ⟨by decide +kernel, ?_⟩
  iterate 4 refine ⟨runs_of (by decide +kernel), ?_⟩
  refine ⟨by decide +kernel, ?_⟩
  refine ⟨runs_of (by decide +kernel), ?_⟩
  refine ⟨by decide +kernel, ?_⟩
  exact runs_of (by decide +kernel)

theorem witness_MemoryWritesLand :
    ((0 : Fin 4).val < up.nTwins ∧ ((flying 1).leg 1 0).map (·.2.stage) = some 1) ∧
    (((flying 2).leg 1 0).map (·.2.stage) = some 2) ∧
    (((flying 0).leg 1 0).map (·.2.stage) = some 0 ∧ (flying 0).resyncing 0 = false) ∧
    (((compressing true).entry 1).isSome = true ∧ ((compressing true).stores.compress.find? (fun c => c.seq == 1)).map (·.writing) = some true) ∧
    ((compressing false).compressHeld (pk 0x204 [0x301, 0x0001_0007, 4, 0, 4096, 0, 8192, 0, 4096]) = false) ∧
    ((compressing true).compressHeld (pk 0x204 [0x301, 0x0001_0007, 4, 0, 4096, 0, 8192, 0, 4096]) = false) ∧
    (((compressing false).entry 1).isSome = true ∧ ((compressing false).stores.compress.find? (fun c => c.seq == 1)).map (·.writing) = some false) ∧
    ((fencing.entry 1).map (fun e => (e.st, e.wait)) = some (.running, .landed 1 1 []) ∧ fencing.landed (pk 0x203 [1]) 1 1 = true) ∧
    ((opOf 0x203 = some opMemFence)) ∧
    ((up.tileN 0).takes = true) ∧
    (Mem.wf surfMem = true) ∧
    (Mem.byte (Mem.write surfMem 4095 [1, 2]) 4096 = 2) := by
  iterate 8 refine ⟨by decide +kernel, ?_⟩
  refine ⟨rfl, ?_⟩
  iterate 2 refine ⟨by decide +kernel, ?_⟩
  exact by decide +kernel

/-- The items of a job of one span and one channel, with lane 0 of 512 slots. -/
def jobItems : PMap :=
  PMap.putAll [] [(Pid.jobWidth, 1024), (Pid.jobRateMax, 1000), (Pid.jobChannels, 1), (Pid.spanStart 0, 0), (Pid.spanWidth 0, 1024),
    (Pid.motRatio, 2 ^ 32), (Pid.barCh 0, 1), (Pid.barNode 0 0, 0x40), (Pid.laneW 0, 512)]
/-- The package with those items, its job in a given state. -/
def jobAt (st : JobSt) : State := { up with job := { Job.reset with st := st, base := { PrintSet.reset with items := jobItems } } }

theorem witness_JobCommandsTakeEffect :
    opJobArm.Runs (jobAt .idle) (pk 0x301 []) ∧
    ((opJobArm.at (jobAt .idle) (pk 0x301 [])).armCheck.1 = St.ok) ∧
    opJobArm.Runs up (pk 0x301 []) ∧
    ((opJobArm.at up (pk 0x301 [])).armCheck.1 ≠ St.ok) ∧
    opJobChange.Runs (jobAt .armed) (pk 0x302 []) ∧
    ((opJobChange.at (jobAt .armed) (pk 0x302 [])).changeCheck.1 = St.ok) ∧
    opJobChange.Runs armed (pk 0x302 []) ∧
    ((opJobChange.at armed (pk 0x302 [])).changeCheck.1 ≠ St.ok) ∧
    opJobDisarm.Runs (jobAt .armed) (pk 0x303 [1]) ∧
    opJobCheck.Runs (jobAt .armed) (pk 0x305 [1]) ∧
    opJobCheck.Runs (jobAt .idle) (pk 0x305 [0]) := by
  refine ⟨runs_of (by decide +kernel), ?_⟩
  refine ⟨by decide +kernel, ?_⟩
  refine ⟨runs_of (by decide +kernel), ?_⟩
  refine ⟨by decide +kernel, ?_⟩
  refine ⟨runs_of (by decide +kernel), ?_⟩
  refine ⟨by decide +kernel, ?_⟩
  refine ⟨runs_of (by decide +kernel), ?_⟩
  refine ⟨by decide +kernel, ?_⟩
  iterate 2 refine ⟨runs_of (by decide +kernel), ?_⟩
  exact runs_of (by decide +kernel)

/-- A registered product of lane 0 with its first line. -/
def prod (num first : Nat) : Product :=
  { lane := 0, num := num, first := first, next := none, job := 0, items := [], strings := [], blankLayers := [], armed := false,
    blank := false, rejected := false, clipped := [], anchor := none, zver := 0 }
/-- A change of lane 0 by packet 1. -/
def chg (target : Option Nat) (next : Bool) : LaneChange := { LaneChange.of (pk 0x502 []) with target := target, nextJob := next }
/-- The armed package with products, its packet 1 RUNNING, every tile about to begin a line. -/
def withProds (ps : List Product) (begun : Nat) : State :=
  let s := (jobAt .armed).place (pk 0x502 [])
  { s with
    tiles := Vector.replicate 8 { upTile with begun := begun }
    job := { s.job with products := ps, lanes := s.job.lanes.set 0 { Lane.reset with nextNum := 4 } } }
/-- 64 pending changes of lane 0. -/
def fullLane : State :=
  let s := withProds [] 0
  { s with job := { s.job with lanes := s.job.lanes.set 0 { Lane.reset with changes := List.replicate 64 (chg none false) } } }
/-- The armed package with a fence of product 3, not signalled, signalled too late, and its product's arm line before every line. -/
def fenceAt (signal : Option Nat) (first : Nat) : State :=
  { jobAt .armed with job := { (jobAt .armed).job with
      products := [prod 3 first], fences := [{ id := 9, seq := 40, session := 0, lane := 0, product := 3, signal := signal }] } }
/-- A kernel set at address 64 for layer 0, and a LAYER.SET of it that waits for a memory write. -/
def kernelList : List Byte := [16, 0, 0, 0, 64, 0, 0, 0, 0, 0, 0, 0]
def kernelWait : State := ((jobAt .idle).place (pk 0x401 [0, 0, 1, 0, 0, 1])).run 1 (.landed 1 1 kernelList)

theorem witness_TargetChangesAreSubmitted :
    opLayerSet.Feeds (jobAt .idle) (pk 0x401 [0, 0, 1, 0, 0, 1]) [2, 0, 0, 0, 5, 0, 0, 0, 0, 0, 0, 0] ∧
    ((setItems (pk 0x401 [0, 0, 1, 0, 0, 1]) [2, 0, 0, 0, 5, 0, 0, 0, 0, 0, 0, 0]).isSome = true) ∧
    (bit ((pk 0x401 [0, 0, 1, 0, 0, 1]).dw 4) 8 = false) ∧
    (((opLayerSet.fed (jobAt .idle) (pk 0x401 [0, 0, 1, 0, 0, 1]) [2, 0, 0, 0, 5, 0, 0, 0, 0, 0, 0, 0]).kernelsNow (pk 0x401 [0, 0, 1, 0, 0, 1]) ((setItems (pk 0x401 [0, 0, 1, 0, 0, 1]) [2, 0, 0, 0, 5, 0, 0, 0, 0, 0, 0, 0]).getD [])).1 = St.ok) ∧
    opLayerFlip.Feeds (jobAt .idle) (pk 0x402 [0, 0, 1]) (List.replicate 16 0) ∧
    opRayBind.Runs (jobAt .idle) (pk 0x601 [0, 0, 0, 0, 0x0001_0101, 0, 0, 0, 0, 1, 1]) ∧
    opMarkRules.Runs (jobAt .idle) (pk 0x502 [0x20]) ∧
    opMarkRules.Feeds (jobAt .idle) (pk 0x502 [0, 0, 1]) [208, 7, 151, 8, 60, 0, 3, 5, 7, 10, 5, 7, 60, 0, 60, 0] ∧
    opMarkShifts.Feeds (jobAt .idle) (pk 0x503 [0, 0, 1]) [0x9F, 5, 0, 0, 65, 0, 0, 0] ∧
    ((shiftBodies (pk 0x503 [0, 0, 1]) [0x9F, 5, 0, 0, 65, 0, 0, 0]).isSome = true) ∧
    opMarkLot.Feeds (jobAt .idle) (pk 0x507 [0, 0, 1]) (1 :: 0 :: 0 :: 0 :: 65 :: List.replicate 31 0) ∧
    ((lenTable 36 32 1 (1 :: 0 :: 0 :: 0 :: 65 :: List.replicate 31 0)).isSome = true) ∧
    opMarkNames.Feeds (jobAt .idle) (pk 0x509 []) (List.replicate 12 [1, 0, 0, 0, 65, 0, 0, 0, 0, 0, 0, 0]).flatten ∧
    ((lenTable 12 8 12 (List.replicate 12 [1, 0, 0, 0, 65, 0, 0, 0, 0, 0, 0, 0]).flatten).isSome = true) ∧
    opMarkField.Feeds (jobAt .idle) (pk 0x505 [0, 0, 0, 0, 0, 0, 0, 0, 0x100, 0, 1]) [65] ∧
    opMarkCounter.Runs (jobAt .idle) (pk 0x506 [0, 0, 0, 0, 1, 9, 0, 1]) := by
  refine ⟨feeds_of rfl (by decide +kernel), ?_⟩
  iterate 3 refine ⟨by decide +kernel, ?_⟩
  refine ⟨feeds_of rfl (by decide +kernel), ?_⟩
  iterate 2 refine ⟨runs_of (by decide +kernel), ?_⟩
  iterate 2 refine ⟨feeds_of rfl (by decide +kernel), ?_⟩
  refine ⟨by decide +kernel, ?_⟩
  refine ⟨feeds_of rfl (by decide +kernel), ?_⟩
  refine ⟨by decide +kernel, ?_⟩
  refine ⟨feeds_of rfl (by decide +kernel), ?_⟩
  refine ⟨by decide +kernel, ?_⟩
  refine ⟨feeds_of rfl (by decide +kernel), ?_⟩
  exact runs_of (by decide +kernel)

theorem witness_SubmittedChangesWaitForTheirTarget :
    (((withProds [] 0).entry 1).map (·.st) = some .running ∧ (chg none false).seq = 1) ∧
    (64 ≤ fullLane.pendingCount 0 ∧ (withProds [] 0).pendingCount 0 < 64 ∧ (pk 0x502 []).tgtLane = 0) ∧
    ((chg none true).nextJob = true ∧ (chg (some 3) false).nextJob = false) ∧
    ((withProds [prod 3 5000] 5001).product 0 3 = some (prod 3 5000) ∧ (withProds [prod 3 5000] 5001).armLine (prod 3 5000) < (withProds [prod 3 5000] 5001).laneFree 0) ∧
    ((withProds [] 0).product 0 3 = none ∧ (withProds [] 0).armed = true ∧ 3 < ((withProds [] 0).lane 0).nextNum) ∧
    ((withProds [prod 3 100000] 0).laneFree 0 ≤ (withProds [prod 3 100000] 0).armLine (prod 3 100000)) ∧
    ((withProds [] 0).product 0 4 = none ∧ ((withProds [] 0).lane 0).nextNum ≤ 4) ∧
    ((chg none false).target = none ∧ ∀ pr ∈ (withProds [prod 3 5000] 5001).job.products, pr.lane = 0 → (withProds [prod 3 5000] 5001).armLine pr < (withProds [prod 3 5000] 5001).laneFree 0 + (withProds [prod 3 5000] 5001).itemN Pid.twnMargin) ∧
    opLayerSignal.Runs (fenceAt none 0) (pk 0x403 [9]) ∧
    (((fenceAt none 0).fenceFor 9 0).map (·.signal) = some none) ∧
    opLayerSignal.Runs (fenceAt (some 0) 0) (pk 0x403 [9]) ∧
    (((fenceAt (some 0) 0).fenceFor 9 0).map (·.signal) = some (some 0)) ∧
    opLayerSet.Feeds (jobAt .idle) (pk 0x401 [0, 0, 0x101, 0, 0, 1]) [2, 0, 0, 0, 5, 0, 0, 0, 0, 0, 0, 0] ∧
    ((setItems (pk 0x401 [0, 0, 0x101, 0, 0, 1]) [2, 0, 0, 0, 5, 0, 0, 0, 0, 0, 0, 0]).isSome = true) ∧
    (bit ((pk 0x401 [0, 0, 0x101, 0, 0, 1]).dw 4) 8 = true) ∧
    (((opLayerSet.fed (jobAt .idle) (pk 0x401 [0, 0, 0x101, 0, 0, 1]) [2, 0, 0, 0, 5, 0, 0, 0, 0, 0, 0, 0]).kernelsNow (pk 0x401 [0, 0, 0x101, 0, 0, 1]) ((setItems (pk 0x401 [0, 0, 0x101, 0, 0, 1]) [2, 0, 0, 0, 5, 0, 0, 0, 0, 0, 0, 0]).getD [])).1 = St.ok) ∧
    ((kernelWait.entry 1).map (fun e => (e.p, e.st, e.wait)) = some (pk 0x401 [0, 0, 1, 0, 0, 1], .running, .landed 1 1 kernelList)) ∧
    (opOf (pk 0x401 [0, 0, 1, 0, 0, 1]).opcode = some opLayerSet) ∧
    (kernelWait.landed (pk 0x401 [0, 0, 1, 0, 0, 1]) 1 1 = true ∧ (setItems (pk 0x401 [0, 0, 1, 0, 0, 1]) kernelList).isSome = true) ∧
    (((kernelWait.run 1 .work).kernelsNow (pk 0x401 [0, 0, 1, 0, 0, 1]) ((setItems (pk 0x401 [0, 0, 1, 0, 0, 1]) kernelList).getD [])).1 = St.layerArg) ∧
    ((pk 0x402 [0x1_0000]).fenced = true) := by
  iterate 8 refine ⟨by decide +kernel, ?_⟩
  refine ⟨runs_of (by decide +kernel), ?_⟩
  refine ⟨by decide +kernel, ?_⟩
  refine ⟨runs_of (by decide +kernel), ?_⟩
  refine ⟨by decide +kernel, ?_⟩
  refine ⟨feeds_of rfl (by decide +kernel), ?_⟩
  iterate 4 refine ⟨by decide +kernel, ?_⟩
  refine ⟨rfl, ?_⟩
  iterate 2 refine ⟨by decide +kernel, ?_⟩
  exact by decide +kernel

/-- A package with a block of bytes at address 0 of every tile. -/
def holding (s : State) (bs : List Byte) : State := { s with tiles := Vector.replicate 8 { upTile with mem := Mem.write [] 0 bs } }
/-- A packet that sets the slot of every level from 1 to 7 to 1, for its three classes, the energies all 0. -/
def slotPacket : Packet := pk 0x702 [0, 0x1111_1000, 0x1111_1111, 0x1111_1111]
/-- A view map of one cell, a glyph set of one glyph without marks, a threshold array of one cell. -/
def viewBlock : List Byte := [0x56, 0x4D, 1, 0, 1, 1, 1, 0] ++ List.replicate 12 0
def glyphBlock : List Byte := [0x47, 0x47, 1, 0, 1, 0] ++ List.replicate 18 0
def screenBlock : List Byte := [0x54, 0x41, 1, 0, 1, 0, 1, 0] ++ List.replicate 8 0 ++ [1, 16, 0, 1, 16, 0, 1, 16, 0]
/-- A panel block of lane 0 with one view and a table of one entry. -/
def panelBlock : List Byte :=
  [0x50, 0x4E, 1, 0, 0, 1, 0, 0, 0, 0, 0, 1, 0, 0, 0, 0, 0, 0, 0, 0, 0, 0, 0, 0, 0, 0, 0, 0, 0, 0, 1, 0, 0, 0, 1, 0] ++ List.replicate 29 0
/-- The package with a light binding of lane 0 in force. -/
def litUp : State := { up with job := { Job.reset with base := { PrintSet.reset with
  items := PMap.putAll [] [(Pid.laneW 0, 512), (parmId 6 0x10 1, 0x1000), (parmId 6 0x10 2, 1), (parmId 6 0x10 3, 1), (parmId 6 0x10 4, 1)] } } }
/-- A sensitivity block of channel 0 with no tone. -/
def sensBlock : List Byte := [0x53, 0x4E, 1, 0, 0, 4] ++ List.replicate 10 0
/-- The armed package in a handover. -/
def handing : State := { armed with lead := { LeadSt.reset with handover := some (999_999_000, 0, 0) } }
/-- The armed package with a product of lane 0 far ahead, with no product, with every tile withdrawn. -/
def nearing (ps : List Product) : State := { jobAt .armed with job := { (jobAt .armed).job with products := ps } }
def deserted : State := { armed with tiles := Vector.replicate 8 { upTile with twin := .withdrawn } }

theorem witness_PrintChangesAreCommitted :
    opRayLens.Runs (jobAt .armed) (pk 0x602 []) ∧
    opRayAcquire.Runs { litUp with job := { litUp.job with st := .armed } } (pk 0x603 []) ∧
    opDropSlots.Runs (jobAt .armed) slotPacket ∧
    opDropNozzles.Runs (jobAt .armed) (pk 0x703 [0, 0, 1]) ∧
    ((jobAt .armed).copyDiffer (jobAt .armed).allSpans 0 2 = none) ∧
    (((chunks 2 ((jobAt .armed).spanRead 0 0 2) 1).map leVal).all nozEntryOk = true) ∧
    opRayLens.Runs handing (pk 0x602 []) ∧
    opRayLens.Runs deserted (pk 0x602 []) ∧
    (deserted.armed = true ∧ deserted.inHandover = false ∧ deserted.ackTiles (.parms (lensItemsOf (pk 0x602 []))) = [] ∧ deserted.job.commits = []) ∧
    opDropNozzles.Runs (holding armed [9, 9]) (pk 0x703 [0, 0, 1]) ∧
    (((chunks 2 ((holding armed [9, 9]).spanRead 0 0 2) 1).map leVal).all nozEntryOk = false ∧ (holding armed [9, 9]).copyDiffer (holding armed [9, 9]).allSpans 0 2 = none) ∧
    opColourReset.Runs up (pk 0x806 [1]) ∧
    opColourReset.Runs armed (pk 0x806 [1]) ∧
    (armed.armed = true ∧ armed.job.boundary = [] ∧ armed.boundaryLine (.zone 1 []) = none) ∧
    opColourReset.Runs (nearing [prod 3 100000]) (pk 0x806 [1]) ∧
    ((nearing [prod 3 100000]).boundaryLine (.zone 1 []) = some 100000 ∧ (nearing [prod 3 100000]).inHandover = false ∧ (nearing [prod 3 100000]).zoneBlocked = false) ∧
    ((nearing [prod 3 100000]).ackTiles (.zone 1 []) ≠ []) ∧
    opDropZonelut.Runs up (pk 0x704 [0, 0x100]) ∧
    (up.copyDiffer up.allSpans 0 512 = none ∧ zoneOk ((chunks 2 (up.spanRead 0 0 512) 256).map leVal) = true ∧ (up.colCh 0).holds = false) ∧
    (((up.place (pk 0x602 [])).entry 1).map (·.st) = some .running ∧ up.armed = false) ∧
    ((jobAt .armed).armed = true ∧ (jobAt .armed).inHandover = false ∧ (jobAt .armed).ackTiles .acquire ≠ []) ∧
    (handing.armed = true ∧ handing.inHandover = true) := by
  iterate 4 refine ⟨runs_of (by decide +kernel), ?_⟩
  iterate 2 refine ⟨by decide +kernel, ?_⟩
  iterate 2 refine ⟨runs_of (by decide +kernel), ?_⟩
  refine ⟨by decide +kernel, ?_⟩
  refine ⟨runs_of (by decide +kernel), ?_⟩
  refine ⟨by decide +kernel, ?_⟩
  iterate 2 refine ⟨runs_of (by decide +kernel), ?_⟩
  refine ⟨by decide +kernel, ?_⟩
  refine ⟨runs_of (by decide +kernel), ?_⟩
  iterate 2 refine ⟨by decide +kernel, ?_⟩
  refine ⟨runs_of (by decide +kernel), ?_⟩
  iterate 3 refine ⟨by decide +kernel, ?_⟩
  exact by decide +kernel

theorem witness_BlocksAreLoaded :
    opMarkGlyphs.Runs (holding up glyphBlock) (pk 0x504 [0]) ∧
    ((holding up glyphBlock).copyDiffer 15 0 16 = none ∧ glyphHeader ((holding up glyphBlock).spanRead 0 0 16) = true) ∧
    ((holding up glyphBlock).allSpans = 15 ∧ glyphSize ((holding up glyphBlock).spanRead 0 0 16) = 24 ∧ (holding up glyphBlock).inJob 0 24 = true) ∧
    ((holding up glyphBlock).copyDiffer 15 0 24 = none ∧ (glyphSet ((holding up glyphBlock).spanRead 0 0 24)).isSome = true) ∧
    opRayViewmap.Runs (holding up viewBlock) (pk 0x604 [7]) ∧
    (viewMapLen ((holding up viewBlock).spanRead 0 0 16) = 20 ∧ fld ((holding up viewBlock).spanRead 0 0 16) 4 1 = 1 ∧ fld ((holding up viewBlock).spanRead 0 0 16) 5 1 = 1) ∧
    ((holding up viewBlock).inJob 0 20 = true ∧ (holding up viewBlock).copyDiffer 15 0 20 = none ∧ (viewMapOf ((holding up viewBlock).spanRead 0 0 20)).isSome = true) ∧
    opRayPanel.Runs (holding litUp panelBlock) (pk 0x606 [0]) ∧
    ((holding litUp panelBlock).inJob 0 65 = true ∧ fld ((holding litUp panelBlock).spanRead 0 0 64) 5 1 = 1) ∧
    ((holding litUp panelBlock).panelCheck ((holding litUp panelBlock).spanRead 0 0 64) ((holding litUp panelBlock).spanRead 0 64 1) = St.ok) ∧
    opDropScreen.Runs (holding up screenBlock) (pk 0x701 [7]) ∧
    (screenLen ((holding up screenBlock).spanRead 0 0 16) = 25 ∧ fld ((holding up screenBlock).spanRead 0 0 16) 4 2 = 1 ∧ fld ((holding up screenBlock).spanRead 0 0 16) 6 2 = 1) ∧
    ((holding up screenBlock).inJob 0 25 = true ∧ (holding up screenBlock).copyDiffer 15 0 25 = none ∧ (screenOf ((holding up screenBlock).spanRead 0 0 25)).isSome = true) ∧
    opColourSens.Runs (holding up sensBlock) (pk 0x802 [0]) ∧
    (sensLen ((holding up sensBlock).spanRead 0 0 16) = 16 ∧ (holding up sensBlock).inJob 0 16 = true ∧ ((holding up sensBlock).sensOf 0 ((holding up sensBlock).spanRead 0 0 16)).isSome = true) := by
  refine ⟨runs_of (by decide +kernel), ?_⟩
  iterate 3 refine ⟨by decide +kernel, ?_⟩
  refine ⟨runs_of (by decide +kernel), ?_⟩
  iterate 2 refine ⟨by decide +kernel, ?_⟩
  refine ⟨runs_of (by decide +kernel), ?_⟩
  iterate 2 refine ⟨by decide +kernel, ?_⟩
  refine ⟨runs_of (by decide +kernel), ?_⟩
  iterate 2 refine ⟨by decide +kernel, ?_⟩
  refine ⟨runs_of (by decide +kernel), ?_⟩
  exact by decide +kernel

/-- A node with ID 7 on lane 3 of T0, in a state. -/
def node7 (st : Nat) : Node :=
  { id := 7, st := st,
    hello := {
      state := st, kind := 3, caps := 0, uid := 77, id := some 7, parent := 0, depth := 1, pend := 4, fwd := 0
      hubLead := 10, tPath := 0, lastAcc := 0 }
    lanes := [(0, 3)], statusAt := some 999_250_000, counters := [0, 0, 0, 0, 0],
    asked := false, readyLine := some 5, leave := none, eseq := [(0x10, 1)], nodeId := some 7, nodeSt := st, leaveLo := 0, leaveHi := 0,
    cnt := Vector.replicate 8 0, segTab := [], segs := [], fired := [], answer := none, top := 0, leaveSet := false, out := [], tPath := 0 }
/-- The package with that node. -/
def nodeUp (st : Nat) : State := { up with link := { Link.reset with nodes := [node7 st] } }
/-- The armed package with channel 0 OPEN, its sensitivities loaded and the bar calibrated. -/
def tuned : State :=
  { armed with colour := { Colour.reset with
      ch := (Vector.replicate 12 ColCh.reset).set 0 { ColCh.reset with st := .opened, sens := some [] }
      calib := some { tile := [], second := 0, gain := { l := 256, a := 256, b := 256 }, offset := { l := 0, a := 0, b := 0 }, resid := [] } } }
/-- A certificate of three patches. -/
def certBlock : List Byte :=
  [0x43, 0x54, 1, 3] ++ List.replicate 12 0 ++ [0, 0, 0, 0, 0, 0, 0, 0] ++ [0, 20, 0, 20, 0, 20, 0, 0] ++ [0, 40, 0, 40, 0, 40, 0, 0]
/-- The package that holds the certificate, with its colour node READY. -/
def certUp : State :=
  { holding (nodeUp 4) certBlock with job := { Job.reset with base := { PrintSet.reset with items := PMap.putAll [] [(Pid.colNode, 7)] } } }
/-- The items that a control band needs. -/
def bandUp : State :=
  { up with job := { Job.reset with base := { PrintSet.reset with items := PMap.putAll [] [(Pid.colNode, 7), (Pid.colSenseDist, 100000), (Pid.colBandY, 60000)] } } }
/-- The standby received a preserve just now. -/
def relayed : State := { up with lead := { LeadSt.reset with recvAt := some 1_000_000_000 } }
/-- The encoder inputs with an index of 100 counts. -/
def indexed : State := { up with job := { Job.reset with base := { PrintSet.reset with items := PMap.putAll [] [(Pid.encCpr 0, 100), (Pid.encCpr 3, 100)] } } }
/-- The pitch loop lost, with its stop source enabled. -/
def lostUp : State :=
  { up with
    job := { Job.reset with base := { PrintSet.reset with items := PMap.putAll [] [(Pid.motStopSrc, 2)] } }
    motion := { Motion.reset with loop := { PLoop.reset with mode := .lost } } }
/-- A lane of T0 in a state, asleep or awake in its directions. -/
def laneUp0 (st tx rx : Nat) : State :=
  { up with tiles := up.tiles.set 0 { upTile with lanes := upTile.lanes.set 2 { LaneHw.reset with st := st, txslp := tx, rxslp := rx } } }
/-- T1 withdrawn; T0 carries the span. -/
def away1 : State := { up with tiles := up.tiles.set 1 { upTile with twin := .withdrawn } }
/-- A COLOUR.CAL that waits for a memory write while another runs. -/
def calWait : State :=
  ({ certUp with colour := { Colour.reset with cal := some { seq := 9, cert := [], tile := [], reads := [], tol := 150 } } }.place (pk 0x805 [0])).run 1
    (.landed 1 1 [])

theorem witness_ColourAndMotionCommandsTakeEffect :
    opColourSetup.Runs up (pk 0x801 [1]) ∧
    (tonesOf ((pk 0x801 [1]).dw 3) = []) ∧
    opColourSetup.Feeds bandUp (pk 0x801 [1, 0x80]) (List.replicate 8 0) ∧
    (tonesOf ((pk 0x801 [1, 0x80]).dw 3) ≠ [] ∧ ∀ x ∈ chunks 8 (List.replicate 8 0) 1, fld x 6 2 = 0) ∧
    opColourClose.Runs tuned (pk 0x803 [1]) ∧
    opColourOpen.Runs tuned (pk 0x804 [1]) ∧
    opColourCal.Runs certUp (pk 0x805 [0]) ∧
    (certUp.inJob 0 (certLen (certUp.spanRead 0 0 16)) = true ∧ (certOf (certUp.spanRead 0 0 (certLen (certUp.spanRead 0 0 16)))).isSome = true) ∧
    (certUp.colour.cal = none ∧ certUp.nodeReady (certUp.itemN Pid.colNode) = true) ∧
    ((calWait.entry 1).map (fun e => (e.p, e.st, e.wait)) = some (pk 0x805 [0], .running, .landed 1 1 []) ∧ calWait.landed (pk 0x805 [0]) 1 1 = true ∧ calWait.colour.cal ≠ none) ∧
    (opOf (pk 0x805 [0]).opcode = some opColourCal) ∧
    opMotionRephase.Runs indexed (pk 0x901 [9]) ∧
    opMotionCompare.Runs up (pk 0x902 [0, 0, 0, 0, 1]) ∧
    opMotionStopreq.Runs up (pk 0x904 [1]) ∧
    opMotionStopreq.Runs up (pk 0x904 [2]) ∧
    (up.stopPersists = false) ∧
    opMotionStopreq.Runs lostUp (pk 0x904 [2]) ∧
    (lostUp.stopPersists = true) := by
  refine ⟨runs_of (by decide +kernel), ?_⟩
  refine ⟨by decide +kernel, ?_⟩
  refine ⟨feeds_of rfl (by decide +kernel), ?_⟩
  refine ⟨by decide +kernel, ?_⟩
  iterate 3 refine ⟨runs_of (by decide +kernel), ?_⟩
  iterate 3 refine ⟨by decide +kernel, ?_⟩
  refine ⟨rfl, ?_⟩
  iterate 4 refine ⟨runs_of (by decide +kernel), ?_⟩
  refine ⟨by decide +kernel, ?_⟩
  refine ⟨runs_of (by decide +kernel), ?_⟩
  exact by decide +kernel

theorem witness_LinkCommandsTakeEffect :
    opLinkNodes.Runs up (pk 0xA01 []) ∧
    opLinkNodes.Feeds up (pk 0xA01 [0, 0, 1]) ([77, 0, 0, 0, 0, 0, 0, 0, 7] ++ List.replicate 7 0) ∧
    ((nodeTable 1 ([77, 0, 0, 0, 0, 0, 0, 0, 7] ++ List.replicate 7 0)).isSome = true) ∧
    opLinkCtrl.Runs (nodeUp 4) (pk 0xA03 [7, 0x40, 1]) ∧
    (bit ((pk 0xA03 [7, 0x40, 1]).dw 2) 16 = false) ∧
    opLinkCtrl.Feeds (nodeUp 4) (pk 0xA03 [0x1_0007, 0x40, 1]) [1, 2, 3, 4] ∧
    opLinkLeave.Runs (nodeUp 4) (pk 0xA04 [7]) ∧
    opLinkRemap.Runs (jobAt .armed) (pk 0xA11 [1, 1]) ∧
    opLinkLane.Runs up (pk 0xA20 [0x200, 0, 1]) ∧
    opLinkLane.Runs up (pk 0xA20 [0x200, 1]) ∧
    opLinkLane.Runs up (pk 0xA20 [0x200, 2]) ∧
    opLinkLane.Runs up (pk 0xA20 [0x200, 3]) ∧
    ((up.lnk 0 2).txslp = 0 ∧ (up.lnk 0 2).rxslp = 0) ∧
    opLinkLane.Runs (laneUp0 2 1 2) (pk 0xA20 [0x200, 3]) ∧
    (¬(((laneUp0 2 1 2).lnk 0 2).txslp = 0 ∧ ((laneUp0 2 1 2).lnk 0 2).rxslp = 0) ∧ lnkTile (pk 0xA20 [0x200]) = 0 ∧ lnkLane (pk 0xA20 [0x200]) = 2) ∧
    opLinkLane.Runs up (pk 0xA20 [0x200, 4]) ∧
    opLinkTest.Runs up (pk 0xA21 [0x200, 0x100, 1]) := by
  refine ⟨runs_of (by decide +kernel), ?_⟩
  refine ⟨feeds_of rfl (by decide +kernel), ?_⟩
  refine ⟨by decide +kernel, ?_⟩
  refine ⟨runs_of (by decide +kernel), ?_⟩
  refine ⟨by decide +kernel, ?_⟩
  refine ⟨feeds_of rfl (by decide +kernel), ?_⟩
  iterate 6 refine ⟨runs_of (by decide +kernel), ?_⟩
  refine ⟨by decide +kernel, ?_⟩
  refine ⟨runs_of (by decide +kernel), ?_⟩
  refine ⟨by decide +kernel, ?_⟩
  refine ⟨runs_of (by decide +kernel), ?_⟩
  exact runs_of (by decide +kernel)

theorem witness_TwinCommandsTakeEffect :
    opTwinWithdraw.Runs up (pk 0xB02 [1]) ∧
    opTwinRejoin.Runs away1 (pk 0xB03 [1]) ∧
    opTwinRestart.Runs up (pk 0xB04 [1]) ∧
    opTwinLead.Runs relayed (pk 0xB05 []) ∧
    opTwinPreserve.Runs up (pk 0xB07 []) := by
  iterate 4 refine ⟨runs_of (by decide +kernel), ?_⟩
  exact runs_of (by decide +kernel)

/-- A timing block of 1280 by 720 that the sinks accept. -/
def timingBlock : List Byte :=
  leBytes 2 0x4454 ++ [1, 8] ++ leBytes 2 1280 ++ leBytes 2 110 ++ leBytes 2 40 ++ leBytes 2 220 ++ leBytes 2 720 ++ leBytes 2 5 ++
    leBytes 2 5 ++ leBytes 2 20 ++ leBytes 4 74250 ++ leBytes 2 0 ++ leBytes 2 750 ++ leBytes 4 0
/-- The package with a sink on port 0 that runs. -/
def shown : State :=
  { up with dsp := up.dsp.set 0 { DspPort.reset with st := 4, hpd := true, rate := 1, timing := some (timingOf timingBlock 1 1) } }
/-- The package with both images in the flash. -/
def updatable : State := { up with lead := { LeadSt.reset with upd := 1 }, flash := { Flash.reset with dirs := Flash.reset.dirs.map (fun d => { d with stateB := 1 }) } }

theorem witness_DisplayAndParameterCommandsTakeEffect :
    opDispMode.Feeds shown (pk 0xC01 [0, 0, 0x11]) timingBlock ∧
    (shown.timingStatus timingBlock (timingOf timingBlock 1 1) = St.ok ∧ shown.dispMode = none ∧ shown.modePorts ≠ []) ∧
    opDispMode.Feeds shown (pk 0xC01 [0, 0, 0x11]) (List.replicate 32 0) ∧
    (shown.timingStatus (List.replicate 32 0) (timingOf (List.replicate 32 0) 1 1) ≠ St.ok) ∧
    opDispPower.Runs up (pk 0xC02 [1]) ∧
    (up.dispPd 0 = true ∧ up.dispPd 1 = true) ∧
    opDispPower.Runs shown (pk 0xC02 [0]) ∧
    (shown.dispOff = none ∧ (shown.dport 0).sends = true) ∧
    opDispFlip.Runs shown (pk 0xC03 [0]) ∧
    opParmGet.Runs up (pk 0xD01 [Pid.jobWidth]) ∧
    ((parmInfo 8 Pid.jobWidth).isSome = true) ∧
    opParmGet.Runs up (pk 0xD01 [Pid.jobWidth, 1]) ∧
    opParmSet.Runs (jobAt .armed) (pk 0xD02 [Pid.jobWidth, 2048]) ∧
    ((parmInfo 8 Pid.jobWidth).map (fun r => effectOf r Pid.jobWidth) = some 5) ∧
    opParmSet.Runs (jobAt .idle) (pk 0xD02 [Pid.jobWidth, 2048]) ∧
    opParmSet.Runs (jobAt .armed) (pk 0xD02 [Pid.lensSkew, 10]) ∧
    ((parmInfo 8 (Pid.lensSkew)).map (fun r => effectOf r (Pid.lensSkew)) = some 1) := by
  refine ⟨feeds_of rfl (by decide +kernel), ?_⟩
  refine ⟨by decide +kernel, ?_⟩
  refine ⟨feeds_of rfl (by decide +kernel), ?_⟩
  refine ⟨by decide +kernel, ?_⟩
  refine ⟨runs_of (by decide +kernel), ?_⟩
  refine ⟨by decide +kernel, ?_⟩
  refine ⟨runs_of (by decide +kernel), ?_⟩
  refine ⟨by decide +kernel, ?_⟩
  iterate 2 refine ⟨runs_of (by decide +kernel), ?_⟩
  refine ⟨by decide +kernel, ?_⟩
  iterate 2 refine ⟨runs_of (by decide +kernel), ?_⟩
  refine ⟨by decide +kernel, ?_⟩
  iterate 2 refine ⟨runs_of (by decide +kernel), ?_⟩
  exact by decide +kernel

theorem witness_ServiceAndDiagnosticCommandsTakeEffect :
    opSvcPower.Runs up (pk 0xE01 [1, 0x10, 0]) ∧
    opSvcPower.Runs away1 (pk 0xE01 [1, 0x10, 0x20]) ∧
    opSvcImage.Feeds up (pk 0xE02 [0, 0, 513]) (List.replicate 513 0) ∧
    opSvcUpdate.Runs updatable (pk 0xE03 [1]) ∧
    opSvcTrim.Runs up (pk 0xE05 [3, 15]) ∧
    opDiagEcho.Runs up (pk 0xF01 [5, 0xFFFF_FFFF]) ∧
    opDiagRegread.Runs up (pk 0xF02 [0x3FF_FFFC]) ∧
    opDiagRegwrite.Runs up (pk 0xF03 [0x40010, 0x1000, 0xFFFF_FFFF]) := by
  iterate 2 refine ⟨runs_of (by decide +kernel), ?_⟩
  refine ⟨feeds_of rfl (by decide +kernel), ?_⟩
  iterate 4 refine ⟨runs_of (by decide +kernel), ?_⟩
  exact runs_of (by decide +kernel)

theorem witness_ReportCommandsTakeEffect :
    opSessionInfo.Runs up (pk 0x106 [0, 0, 64]) ∧
    opJobStatus.Runs up (pk 0x304 [0, 0, 64]) ∧
    opLayerStatus.Runs up (pk 0x404 [0, 0, 64]) ∧
    opMarkStatus.Runs up (pk 0x508 [0, 0, 64]) ∧
    opRayStatus.Runs up (pk 0x605 [0, 0, 64]) ∧
    opDropStatus.Runs up (pk 0x705 [0, 0, 64]) ∧
    opColourStatus.Runs up (pk 0x807 [0, 0, 64]) ∧
    opColourLog.Runs up (pk 0x808 [0, 0, 64]) ∧
    opMotionStatus.Runs up (pk 0x903 [0, 0, 64]) ∧
    opLinkList.Runs up (pk 0xA02 [0, 0, 64]) ∧
    opLinkTime.Runs up (pk 0xA05 [0, 0, 64]) ∧
    opLinkScan.Runs up (pk 0xA10 [0, 0, 64, 0xFF]) ∧
    opTwinAssay.Runs up (pk 0xB01 [0, 0, 64, 1]) ∧
    opTwinStatus.Runs up (pk 0xB06 [0, 0, 64]) ∧
    opDispStatus.Runs up (pk 0xC04 [0, 0, 64]) ∧
    opSvcTally.Runs up (pk 0xE04 [0, 0, 64]) ∧
    opSvcThermal.Runs up (pk 0xE06 [0, 0, 64]) ∧
    opDiagEvlog.Runs up (pk 0xF04 [0, 0, 64]) ∧
    opParmList.Runs up (pk 0xD03 [0, 0, 64, 0x102]) ∧
    ((pk 0xD03 [0, 0, 64, 0x102]).f 5 8 8 = 1) ∧
    opParmList.Runs up (pk 0xD03 [0, 0, 64, 2]) ∧
    ((pk 0xD03 [0, 0, 64, 2]).f 5 8 8 = 0) ∧
    opMarkClock.Runs up (pk 0x501 [0]) ∧
    (clockCorrect (pk 0x501 [0]) = false) ∧
    opMarkClock.Runs up (pk 0x501 [3, 1000]) ∧
    (clockCorrect (pk 0x501 [3, 1000]) = true) ∧
    (((up.place (pk 0x304 [0, 0, 64])).entry 1).map (·.st) = some .running) := by
  iterate 19 refine ⟨runs_of (by decide +kernel), ?_⟩
  refine ⟨by decide +kernel, ?_⟩
  refine ⟨runs_of (by decide +kernel), ?_⟩
  refine ⟨by decide +kernel, ?_⟩
  refine ⟨runs_of (by decide +kernel), ?_⟩
  refine ⟨by decide +kernel, ?_⟩
  refine ⟨runs_of (by decide +kernel), ?_⟩
  refine ⟨by decide +kernel, ?_⟩
  exact by decide +kernel

/-- A completion of packet 1, decided, for queue 0 with its tail at a slot; full when the tail stands just before the head. -/
def posting (tail : Nat) (held : Bool) : State :=
  { up with qen := { up.qen with
      pairs := (Vector.replicate 256 none).set 0 (some { QueuePair.fresh 0 0x10000 16 0x20000 16 with cqTail := tail, held := held, win := some (900_000_000, 250, 1, 0) })
      store := [{ p := pk 0xF01 [], session := 0, st := .done, wait := .none, disp := 1, status := 0, r0 := 5, r1 := 6, decided := 10, counted := false, rights := none }] } }
/-- Vector 3 due; vector 4 due and unmasked; vector 5 pending. -/
def vectors : State := { up with qen := { up.qen with due := [3, 4], msix := up.qen.msix.set 0 { Msix.reset with unmasked := [4], pba := [5] } } }
/-- The standby's doorbells do not reach while T1 leads. -/
def ledBy1 : State := { up with lead := { LeadSt.reset with tile := 1 } }
/-- A packet in the queue that has the turn. -/
def fetching : State :=
  { up with qen := { up.qen with
      pairs := (Vector.replicate 256 none).set 0 (some { QueuePair.fresh 0 0x10000 16 0x20000 16 with sqTail := 1, vis := [1] })
      turn := (0, 0) } }
/-- A QUEUED packet that may be dispatched. -/
def queued : State :=
  { up with qen := { up.qen with store := [{ p := pk 0xF01 [5], session := 0, st := .queued, wait := .none, disp := 0, status := 0, r0 := 0, r1 := 0,
                                             decided := 0, counted := false, rights := none }] } }
/-- The same just after T1 gave the lead to T0: the packet was dispatched before the handover began. -/
def postingTwice : State :=
  { posting 3 false with lead := { LeadSt.reset with handover := some (999_999_000, 1, 0), overlap := (5, 0) } }

theorem witness_DoorbellsAndEnableMoveQueues :
    ((0 : Fin 8).val < up.nTiles ∧ up.cmdOn 0 = true ∧ up.bellReaches 0 = true ∧ up.lead.cold ≠ 1) ∧
    ((up.pair 0).map (fun x => (x.sqSize, x.cqSize, x.cqHead, x.cqTail)) = some (16, 16, 0, 0)) ∧
    ((15 : U32).toNat % 4096 < 16 ∧ 16 ≤ (16 : U32).toNat % 4096) ∧
    (((posting 3 false).pair 0).map (fun x => decide ((3 + x.cqSize - x.cqHead) % x.cqSize ≤ (x.cqTail + x.cqSize - x.cqHead) % x.cqSize)) = some true) ∧
    (((posting 3 false).pair 0).map (fun x => decide ((x.cqTail + x.cqSize - x.cqHead) % x.cqSize < (4 + x.cqSize - x.cqHead) % x.cqSize)) = some true) ∧
    (ledBy1.cmdOn 0 = true ∧ ledBy1.bellReaches 0 = false) ∧
    (up.pair 9 = none ∧ up.lead.cold ≠ 1) ∧
    (up.lead.tile = 0 ∧ up.qen.reglock = false ∧ (up.pair 0).isSome = true) ∧
    (State.reset.qen.reglock = false ∧ ({ up with qen := { up.qen with pairs := Vector.replicate 256 none } } : State).pair 0 = none) := by
  iterate 8 refine ⟨by decide +kernel, ?_⟩
  exact by decide +kernel

theorem witness_CompletionsAndVectorsReachTheHost :
    (((posting 3 false).nextPost 0).isSome = true ∧ (posting 3 false).portReady = true ∧ ((posting 3 false).pair 0).map (·.room) = some true) ∧
    (((posting 15 true).nextPost 0).isSome = true ∧ ((posting 15 true).pair 0).map (fun x => (x.room, x.held)) = some (false, true)) ∧
    (((posting 15 false).nextPost 0).isSome = true ∧ ((posting 15 false).pair 0).map (fun x => (x.room, x.held)) = some (false, false)) ∧
    ((postingTwice.nextPost 0).any (fun e => postingTwice.postedTwice e) = true ∧ postingTwice.portReady = true) ∧
    ((postingTwice.pair 0).map (fun x => (x.room, x.posted.room)) = some (true, true) ∧ (posting 3 false).lead.handover = none) ∧
    (((posting 3 false).session 0).bind (·.closing) = none) ∧
    (4 ∈ vectors.qen.due ∧ vectors.portReady = true ∧ vectors.vecOpen 4 = true) ∧
    (3 ∈ vectors.qen.due ∧ vectors.vecOpen 3 = false) ∧
    (((posting 3 false).pair 0).bind (·.win) = some (900_000_000, 250, 1, 0) ∧ 900_000_000 + 250 ≤ (posting 3 false).now) ∧
    (({ posting 3 false with time := 900_000_249 } : State).now < 900_000_000 + 250) ∧
    (vectors.port.msixEn = true ∧ vectors.port.funcMask = false ∧ 5 ∈ vectors.mx.pba ∧ 5 ∉ vectors.qen.due) := by
  iterate 10 refine ⟨by decide +kernel, ?_⟩
  exact by decide +kernel

theorem witness_PortPowerStatesFollowCommands :
    ((0 : Fin 2).val = up.lead.tile ∧ (1 : Fin 2).val ≠ up.lead.tile ∧ (up.pair 0).isSome = true) ∧
    ((∃ u, exec (.pcieD0Return 0) up = .next u ∧ u.portReady = true)) :=
  ⟨by decide +kernel, ⟨_, rfl, by decide +kernel⟩⟩

theorem witness_EntriesAreFetchedAndDispatched :
    (fetching.fetchOn = true ∧ fetching.fetchTurn = some (0, 1) ∧ (fetching.pair 0).isSome = true) ∧
    ((fetching.pair 0).map (fun x => (fetching.fetchCheck (pk 0xF01 []) x, fetching.fetchCheck (pk 0xF7F []) x, fetching.fetchCheck (pk 0x10_0F01 []) x)) = some (0, St.opcodeBad, St.flagsBad)) ∧
    (fetching.entry fetching.qen.nextSeq = none) ∧
    (State.reset.fetchOn = false ∧ up.fetchTurn = none) ∧
    ((opOf (pk 0xF7F []).opcode = none)) ∧
    ((opOf (pk 0x10_0F01 []).opcode ≠ none)) ∧
    ((pk 0x10_0F01 []).urgent = true ∧ (pk 0x10_0F01 []).notify = false) ∧
    (queued.engineOn = true ∧ queued.nextDispatch.isSome = true) ∧
    ((opOf (pk 0xF01 [5]).opcode = some opDiagEcho)) ∧
    (State.reset.engineOn = false ∧ up.nextDispatch = none) ∧
    (({ up with qen := { up.qen with mirror := [.tail 0 3, .head 0 2] } } : State).qen.mirror = .tail 0 3 :: [.head 0 2]) ∧
    (up.qen.mirror = []) := by
  iterate 4 refine ⟨by decide +kernel, ?_⟩
  refine ⟨rfl, ?_⟩
  refine ⟨nofun, ?_⟩
  iterate 2 refine ⟨by decide +kernel, ?_⟩
  refine ⟨rfl, ?_⟩
  iterate 2 refine ⟨by decide +kernel, ?_⟩
  exact by decide +kernel

/-- An event router with source 4 for core 0 and source 5 for host target 1, both pending. -/
def evrUp : Evr :=
  { Evr.reset with
    en := true, edge := #v[0, 1, 2, 3], filt := Vector.replicate 4 10
    srcs := (Evr.reset.srcs.set 4 { EvrSrc.reset with en := true, pend := true, kind := true, cores := 1, pri := 3 }).set 5
      { EvrSrc.reset with en := true, pend := true, hosts := 2, pri := 7 } }
/-- The package with that router on T0, host target 1 enabled, and perhaps an offer of source 5. -/
def evrState (offers : List (Nat × Nat)) : State :=
  { up with
    tiles := up.tiles.set 0 { upTile with evr := evrUp }
    evh := { HostStage.reset with
      targets := HostStage.reset.targets.set 1 { en := true, sleep := false, vecn := 0, vec := 9, cpri := 0, queue := [{ tile := 0, pri := 3, src := 6 }] }
      offers := offers } }
/-- Source 4 of T0 is ACTIVE. -/
def activeSrc : State := (evrState []).updSrc 0 4 (fun x => { x with pend := false, active := true })
/-- An input that has been at a new level long enough. -/
def moved (level : Bool) : PinSt := { raw := level, since := 999_000_000, filt := !level }
/-- The event inputs of T0 have moved to a level. -/
def eviUp (level : Bool) : State := { evrState [] with motion := { Motion.reset with evi := Vector.replicate 32 (moved level) } }

theorem witness_OccurrencesSetPendAndCount :
    ((0 : Fin 8).val < up.nTiles ∧ (up.tile 0).on 1 = true ∧ srcUsed 4 = true ∧ srcUsed 14 = false) ∧
    ((7 < 4 ∨ 8 ≤ 8 ∨ bit 1 (8 - 4) = false) ∧ bit (1 : U32).toNat 0 = true) ∧
    ((let x := vget (eviUp true).motion.evi 0 PinSt.reset; x.due (vget ((eviUp true).tile 0).evr.filt 0 0) (eviUp true).now = true ∧ vget ((eviUp true).tile 0).evr.edge 0 0 = 0 ∧ x.take.filt = true)) ∧
    ((let x := vget (eviUp false).motion.evi 1 PinSt.reset; x.due (vget ((eviUp false).tile 0).evr.filt 1 0) (eviUp false).now = true ∧ vget ((eviUp false).tile 0).evr.edge 1 0 = 1 ∧ x.take.filt = false)) ∧
    ((let x := vget (eviUp false).motion.evi 0 PinSt.reset; x.due 10 (eviUp false).now = true ∧ vget ((eviUp false).tile 0).evr.edge 0 0 = 0 ∧ x.take.filt = false)) ∧
    (vget ((eviUp true).tile 0).evr.edge 1 0 = 1 ∧ vget ((eviUp true).tile 0).evr.edge 2 0 = 2) ∧
    ((let x := vget (eviUp true).motion.evi 3 PinSt.reset; x.due 10 (eviUp true).now = true ∧ vget ((eviUp true).tile 0).evr.edge 3 0 = 3 ∧ x.take.filt = true ∧ ((eviUp true).src 0 3).pend = false ∧ ((eviUp true).src 0 3).active = false)) := by
  iterate 6 refine ⟨by decide +kernel, ?_⟩
  exact by decide +kernel

theorem witness_CommitsDeliverByPriority :
    ((evrState []).chooseTarget evrUp.prigroup 31 { tile := 0, src := 5, pri := 7 } = some 1) ∧
    (((evrState []).tile 0).on 1 = true ∧ ((evrState []).tile 0).evr.en = true) ∧
    (((evrState []).firstDeliverable evrUp.prigroup 35 (offerOrder evrUp.prigroup ((evrState []).candidates 0 true))).2 = some ({ tile := 0, src := 4, pri := 3 }, 32)) ∧
    ((up.firstDeliverable evrUp.prigroup 35 (offerOrder evrUp.prigroup (up.candidates 0 true))).2 = none) ∧
    (((evrState [(0, 5)]).tile (evrState [(0, 5)]).leadTile).on 1 = true ∧ (evrState [(0, 5)]).lead.cold ≠ 1) ∧
    (((evrState [(0, 5)]).firstDeliverable (evrState []).leadMap 31 [{ tile := 0, src := 5, pri := 7 }]).2 = some ({ tile := 0, src := 5, pri := 7 }, 1)) ∧
    ((offerOrder evrUp.prigroup (((evrState []).candidates 0 false).filter (fun o => !((evrState []).evh.offers.contains (0, o.src)) && !((evrState []).evh.passed.contains (0, o.src))))).head? = some { tile := 0, src := 5, pri := 7 }) := by
  iterate 6 refine ⟨by decide +kernel, ?_⟩
  exact by decide +kernel

theorem witness_TakeAndDoneServeSources :
    ((0 : Fin 8).val < up.nTiles ∧ (activeSrc.tile 0).on 1 = true ∧ (0 : Fin 8).val = activeSrc.lead.tile) ∧
    ((1 : Fin 8).val ≠ activeSrc.lead.tile ∧ (1 : Fin 8).val = activeSrc.standby ∧ (2 : Fin 8).val ≠ activeSrc.lead.tile ∧ (2 : Fin 8).val ≠ activeSrc.standby) ∧
    (bits (4 : U32).toNat 10 8 < activeSrc.nTiles ∧ bits (4 : U32).toNat 7 0 < 192 ∧ (activeSrc.src 0 4).active = true) ∧
    (bits (0xC0 : U32).toNat 7 0 = 192 ∧ (activeSrc.src 0 5).active = false ∧ bits (0x1_0000 : U32).toNat 16 16 = 1) :=
  ⟨by decide +kernel, by decide +kernel, by decide +kernel, by decide +kernel⟩

theorem witness_RegistersFollowAccessCodes :
    ((0x2000000 < 0x4000000) ∧ 0x2000000 % 4 = 0) ∧
    (up.nTiles ≤ 8 ∧ (({ up with part := .ga402 } : State).nTiles ≤ 0x800000 / 0x400000)) ∧
    (State.reset.blockOn 0 1 0 = false ∧ State.reset.blockOn (0x40000 / 0x400000) (0x40000 % 0x400000 / 0x40000) (0x40000 % 0x40000) = false) ∧
    ((0 : Nat) < up.nTiles ∧ (up.tileN 0).on 14 = true) ∧
    ((0 : Fin 8).val = up.lead.tile ∧ (up.tile 0).on 1 = true ∧ up.cmdOn 0 = true ∧ (up.tile 0).on 10 = true) ∧
    (up.qen.reglock = false ∧ ({ up with qen := { up.qen with reglock := true } } : State).qen.reglock = true) := by
  iterate 5 refine ⟨by decide +kernel, ?_⟩
  exact by decide +kernel

theorem witness_ClearsActOnTheirCounters :
    ((0 : Fin 8).val < up.nTiles ∧ (up.tile 0).on 10 = true ∧ (up.tile 0).on 8 = true) ∧
    (up.lnkOn 0 9 = true ∧ up.dispPd 1 = true ∧ (up.lnk 0 9).test.isSome = false) :=
  ⟨by decide +kernel, by decide +kernel⟩

/-- The package with a state of its encoder inputs, and items. -/
def encUp (e : Enc) (items : List (Nat × Int)) : State :=
  { up with
    motion := { Motion.reset with enc := Vector.replicate 4 e }
    job := { Job.reset with base := { PrintSet.reset with items := PMap.putAll [] items } } }
/-- An encoder whose pairs A and B moved at given ticks, its index up and an index latched before. -/
def stepping (a b : Nat) : Enc := { Enc.reset with rx := #v[{ moved true with since := a }, { moved true with since := b }, moved true] }
/-- An encoder at an index with a count, an expected index and what re-phases. -/
def indexing (count : Nat) (e : Option Nat) : Enc := { stepping 0 0 with count := count, e := e, rephase := [] }
/-- The absolute port as source or not, its bits, a frame awaited and a position before. -/
def absUp (mode proto : Int) (last : Option Nat) (bad : Nat) : State :=
  let s := encUp Enc.reset [(Pid.absMode, mode), (Pid.absProto, proto), (Pid.absBits, 16)]
  { s with motion := { s.motion with absWait := true, absLast := last, absBad := bad } }
/-- The pitch loop in a mode, on a press at 250 lines a second, its last edge a while ago. -/
def loopUp (mode : LoopMode) (n : Nat) (esum : Int) : State :=
  { jobAt .armed with motion := { Motion.reset with
      lastLine := 5000
      loop := { PLoop.reset with mode := mode, still := false, p := 5100 * 2 ^ 44, f := 2 ^ 24, tBase := 999_999_744, n := n, esum := esum, lockRun := 1024,
                                 unlockRun := 16, coastLine := 10, edgeAt := 100, fresh := false } } }
/-- The same with a second motion block, at one with the first. -/
def loopUp2 (mode : LoopMode) : State :=
  let s := loopUp mode 0 0
  s.updMot (fun m => { m with other := some m.block })
/-- A line issued, its fire timestamp reached. -/
def line600 : IssuedLine :=
  { n := 600, fire := 256_000_000_000, prevFire := none, models := [], overs := [], cmax := 10, tick := 0, coast := false, locked := true, lensOk := true,
    counts := none }
/-- The package with that line issued. -/
def lineUp : State := { jobAt .armed with motion := { Motion.reset with issued := [line600], lastLine := 600 } }
/-- A product detect that has moved, with a product registered from it before. -/
def pdUp (level : Bool) (last : Option Nat) : State :=
  { lineUp with
    motion := { lineUp.motion with pd := Vector.replicate 8 (moved level), pdLast := Vector.replicate 8 last }
    job := { lineUp.job with base := { PrintSet.reset with items := PMap.putAll jobItems [(Pid.pdLane 0, 0), (Pid.pdMin 0, 100), (Pid.pdOffset 0, 5000)] } } }
/-- Carriage group 0 with its raw code and the code in force, and its channels. -/
def carrUp (raw code : Nat) (channels : Int) : State :=
  { jobAt .armed with
    motion := { Motion.reset with
      carr := (Vector.replicate 9 PinSt.reset).setIfInBounds raw { PinSt.reset with raw := true }, carrCode := Vector.replicate 3 code }
    job := { (jobAt .armed).job with base := { PrintSet.reset with items := PMap.putAll jobItems [(Pid.carrChannels 0, channels)] } } }

theorem witness_QuadratureStepsCount :
    ((encUp (stepping 10 20) []).motionRuns = true ∧ (moved true).due ((encUp (stepping 10 20) []).itemN (Pid.encFilt 0)) up.now = true) ∧
    (vget (stepping 10 20).fault 0 false = false ∧ vget (stepping 10 20).fault 1 false = false ∧ (10 : Nat) < 20) ∧
    ((PinSt.reset).due ((encUp Enc.reset []).itemN (Pid.encFilt 0)) up.now = false) ∧
    ((vget (stepping 10 20).rx 0 PinSt.reset).due ((encUp Enc.reset []).itemN (Pid.encFilt 0)) up.now = true ∧ (vget (stepping 10 20).rx 1 PinSt.reset).due ((encUp Enc.reset []).itemN (Pid.encFilt 0)) up.now = true) ∧
    ((vget (stepping 20 10).rx 1 PinSt.reset).since < (vget (stepping 20 10).rx 0 PinSt.reset).since) ∧
    ((vget (stepping 10 10).rx 1 PinSt.reset).since = (vget (stepping 10 10).rx 0 PinSt.reset).since) ∧
    (¬(vget ({ stepping 10 20 with fault := #v[true, false, false] } : Enc).fault 0 false = false)) ∧
    (up.motionRuns = true ∧ vget (up.enc 0).wireSince 2 0 + up.itemN (Pid.encWireTime 0) ≤ up.now) ∧
    (((encUp { Enc.reset with wireP := Vector.replicate 3 true } []).enc 3).same 0 = true ∧ vget Enc.reset.fault 0 false = false) ∧
    ((up.enc 0).same 2 = false ∧ vget ({ Enc.reset with fault := Vector.replicate 3 true } : Enc).fault 2 false = true) ∧
    ((encUp { Enc.reset with wireP := Vector.replicate 3 true } []).absSource = false ∧ ((encUp { Enc.reset with wireP := Vector.replicate 3 true } []).enc 0).same 1 = true) ∧
    (∀ k, k < 3 → (vget (up.enc 0).rx k PinSt.reset).due (up.itemN (Pid.encFilt 0)) up.now = false) ∧
    ((vget up.motion.pd 0 PinSt.reset).due (up.itemN (Pid.pdFilt 0)) up.now = false ∧ (vget up.motion.pd 0 PinSt.reset).raw ≠ true) := by
  iterate 12 refine ⟨by decide +kernel, ?_⟩
  exact by decide +kernel

theorem witness_IndexPulsesAndAbsoluteFramesAreChecked :
    ((moved true).due ((encUp (indexing 0 none) [(Pid.encCpr 0, 100), (Pid.encIdxTol 0, 2)]).itemN (Pid.encFilt 0)) up.now = true ∧ (moved true).raw = true) ∧
    ((indexing 0 none).rev = false ∧ vget (indexing 0 none).fault 2 false = false ∧ (encUp (indexing 0 none) [(Pid.encCpr 0, 100)]).item (Pid.encCpr 0) ≠ 0) ∧
    ((indexing 102 (some 0)).rephase = [] ∧ (s48 102 ((0 + 100) % 2 ^ 48)).natAbs ≤ 2) ∧
    ((encUp (indexing 102 (some 0)) []).item (Pid.encCpr 0) = 0 ∧ PinSt.reset.due ((encUp { Enc.reset with e := some 0 } []).itemN (Pid.encFilt 0)) up.now = false) ∧
    (2 < (s48 103 ((0 + 100) % 2 ^ 48)).natAbs ∧ (indexing 103 none).e = none) ∧
    ((2 : Int) + 1 ≤ s48 103 ((0 + 100) % 2 ^ 48)) ∧
    ((absUp 1 1 none 0).item Pid.absMode ≠ 0 ∧ (absUp 1 1 none 0).motion.absAt + (absUp 1 1 none 0).itemN Pid.absPeriod ≤ (absUp 1 1 none 0).now) ∧
    ((absUp 1 1 none 0).motion.absHold ≤ (absUp 1 1 none 0).now ∧ (absUp 1 1 none 0).motionRuns = true) ∧
    ((absUp 1 1 none 0).motion.absWait = true ∧ (absUp 1 1 none 0).item Pid.absProto = 1 ∧ (absUp 1 0 none 0).item Pid.absProto ≠ 1) ∧
    (¬(0 = 63 - crc6 (msbBits 16 0 ++ [true, true])) ∧ ∃ c < 64, c = 63 - crc6 (msbBits 16 0 ++ [false, true])) ∧
    (∃ c < 64, c = 63 - crc6 (msbBits 16 0 ++ [true, true])) ∧
    ((absUp 2 0 (some 0) 2).motion.absLast = some 0 ∧ 2 ^ (16 - 2) < (sext 16 (20000 + 2 ^ 16 - 0 % 2 ^ 16)).natAbs) ∧
    ((absUp 2 0 (some 0) 2).absSource = true ∧ (absUp 2 0 (some 0) 2).motion.absBad + 1 = 3 ∧ (absUp 1 0 (some 0) 2).absSource = false) ∧
    ((absUp 1 0 none 0).motion.loop.mode = .off ∧ (absUp 1 1 none 0).motion.absAt + 250 * (absUp 1 1 none 0).itemN Pid.absTimeout < (absUp 1 1 none 0).now) := by
  iterate 13 refine ⟨by decide +kernel, ?_⟩
  exact by decide +kernel

theorem witness_PitchLoopIssuesLines :
    ((loopUp .acq 4 100).motionRuns = true ∧ (loopUp .acq 4 100).motion.loop.mode ≠ .off ∧ (loopUp .acq 4 100).motion.loop.tBase + 256 ≤ (loopUp .acq 4 100).now) ∧
    ((loopUp .acq 4 100).motion.loop.tracks = true ∧ (loopUp .acq 4 100).motion.loop.n ≠ 0 ∧ 20 * ((100 : Int).tdiv 4).natAbs < 2 ^ 44) ∧
    (2 ^ 44 ≤ 20 * (((2 ^ 48 : Int)).tdiv 4).natAbs ∧ 2 ^ 44 < 4 * (((2 ^ 48 : Int)).tdiv 4).natAbs ∧ (loopUp .lock 4 100).motion.loop.mode = .lock) ∧
    ((loopUp .coast 0 0).motion.loop.tracks = false ∧ (loopUp .acq 0 0).motion.loop.n = 0) ∧
    (1024 ≤ (loopUp .acq 0 0).motion.loop.lockRun ∧ 16 ≤ (loopUp .lock 0 0).motion.loop.unlockRun) ∧
    ((loopUp .lock 0 0).motion.loop.still = false ∧ (loopUp .lock 0 0).motion.loop.edgeAt + (loopUp .lock 0 0).itemN Pid.motStill ≤ (loopUp .lock 0 0).now) ∧
    ((loopUp .coast 0 0).motion.loop.mode = .coast ∧ (loopUp .coast 0 0).motion.loop.coastLine + (loopUp .coast 0 0).itemNowN Pid.motCoast ≤ (loopUp .coast 0 0).motion.lastLine) ∧
    (up.motion.active = 0 ∧ up.motionAble 0 = true ∧ up.motionOn 1 = true ∧ vget up.linkUp 0 true = true) ∧
    ((let s : State := { up with tiles := up.tiles.set 0 { upTile with twin := .withdrawn } }; s.motion.active = 0 ∧ s.motionAble 1 = true ∧ (s.tileN 0).twin = .withdrawn ∧ (s.tileN 1).printing = true)) ∧
    (State.reset.motionAble 0 = false) ∧
    (up.motion.active = 0 ∧ up.motionAble 1 = true ∧ up.motion.copyAt + 1024 < up.now) ∧
    ((loopUp2 .lock).motion.other.isSome = true ∧ (loopUp2 .lock).motion.active = 0 ∧ (loopUp2 .lock).motionAble 1 = true) ∧
    ((loopUp .lock 0 0).link.role = 1 ∧ (loopUp .lock 0 0).motionAble 0 = true ∧ 0 < (loopUp .lock 0 0).motion.loop.f ∧ (loopUp .lock 0 0).motion.loop.reversed = false) ∧
    ((loopUp .lock 0 0).passed = true ∧ (loopUp .lock 0 0).motion.loop.mode ≠ .lost ∧ (loopUp .lock 0 0).motion.loop.fresh = false) ∧
    ((loopUp .lock 0 0).predict (loopUp .lock 0 0).issueNext < (((loopUp .lock 0 0).now + (loopUp .lock 0 0).itemN Pid.motIssueAhead : Nat) : Int) * 256) ∧
    (lineUp.reachedLine = some line600) := by
  iterate 15 refine ⟨by decide +kernel, ?_⟩
  exact by decide +kernel

theorem witness_PulsesDetectsAndCarriages :
    ((up.updCmp 3 (fun c => { c with pend := [(1_000_000_000, [], 7)] })).motion.cmp.toList.any (fun c => c.pend == [(1_000_000_000, [], 7)]) = true ∧ 1_000_000_000 ≤ up.now) ∧
    (((pdUp false none).itemN (Pid.pdFilt 0)) ≤ 900_000 ∧ (moved true).due ((pdUp true none).itemN (Pid.pdFilt 0)) up.now = true) ∧
    ((moved true).raw = decide ((pdUp true none).item (Pid.pdEdge 0) = 1) ∨ (moved true).raw ≠ decide ((pdUp true none).item (Pid.pdEdge 0) = 1)) ∧
    ((pdUp true none).itemN (Pid.pdLane 0) ≠ 255 ∧ (pdUp true none).registers ((pdUp true none).currentAt 999_000_000) = true) ∧
    (up.itemN (Pid.pdLane 0) = 255) ∧
    (vget (pdUp true (some 0)).motion.pdLast 0 none = some 0 ∧ 0 ≤ (pdUp true (some 0)).currentAt 999_000_000 ∧ (pdUp true (some 0)).currentAt 999_000_000 < 0 + (pdUp true (some 0)).itemN (Pid.pdMin 0)) ∧
    ((pdUp true none).itemN (Pid.pdLane 0) = 0 ∧ vget (pdUp true none).motion.pdLast 0 none = none ∧ (pdUp true none).motionRuns = true) ∧
    (vget (pdUp true (some 1)).motion.pdLast 0 none = some 1 ∧ (pdUp true (some 1)).currentAt 999_000_000 < 1) ∧
    ((carrUp 1 4 1).carrRaw 0 ≠ vget (carrUp 1 4 1).motion.carrCode 0 0 ∧ vget (carrUp 1 4 1).motion.carrSince 0 0 + (carrUp 1 4 1).itemN (Pid.carrFilt 0) + 1 ≤ (carrUp 1 4 1).now) ∧
    (vget (carrUp 1 4 1).motion.carrCode 0 0 = 4) ∧
    (vget (carrUp 2 1 1).motion.carrCode 0 0 ≠ 4 ∧ (carrUp 2 1 1).carrRaw 0 = 4 ∧ (carrUp 2 1 1).armed = true ∧ (carrUp 2 1 1).itemN (Pid.carrChannels 0) &&& (0xFFF - ((carrUp 2 1 1).updMot (fun m => { m with carrCode := vset m.carrCode 0 4 })).carrAway) ≠ 0) ∧
    ((carrUp 2 1 0).itemN (Pid.carrChannels 0) = 0 ∧ (carrUp 1 1 1).carrRaw 0 ≠ 4) := by
  iterate 11 refine ⟨by decide +kernel, ?_⟩
  exact by decide +kernel

/-- A line fired by stage 11, with its segments, and what was sent. -/
def fired600 (segs : List (Nat × List Nat)) (sent : List (Nat × Nat × Nat)) : FiredLine :=
  { line := 600, done := true, recs := [], unknown := [], segs := segs, sent := sent, voided := [], held := [] }
/-- The armed package about to fire line 600 on T0 with a product from it, its tile changed further. -/
def firing (now : Nat) (f : TileState → TileState) : State :=
  { lineUp with
    time := BitVec.ofNat 64 now
    tiles := Vector.replicate 8 (f { upTile with begun := 601, posLine := 600, mem := surfMem })
    job := { lineUp.job with
      l0 := 600, products := [{ prod 3 600 with items := jobItems, armed := true }]
      base := { PrintSet.reset with items := PMap.putAll jobItems [(Pid.laneLen 0, 4), (Pid.lyrSurf 0, 0)] } } }
/-- The surface of one strip at address 8192. -/
def surfHigh : Mem := Mem.write [] 8192 (compressOut 0 8 4 1 3 0 8192 (List.replicate 32 7))
/-- The buffer of strip 0 of a stream, in a state. -/
def stripBuf (decoding : Bool) (own partner : Option Nat) : StripBuf :=
  { strip := 0, decoding := decoding, own := own, partner := partner, data := [], fate := 0, mend := false }
/-- The armed package whose next product, of line 700, reads the strip of a stream. -/
def stripping (lastLine : Nat) (b : StripBuf) (f : TileState → TileState) : State :=
  { lineUp with
    tiles := Vector.replicate 8 (f { upTile with
      begun := 601, mem := surfHigh
      streams := [{ sid := 1, lane := 0, layer := 0, proof := false, surf := 8192, seq := 0, bufs := [b] }] })
    motion := { lineUp.motion with lastLine := lastLine }
    job := { lineUp.job with
      products := [{ prod 3 700 with items := PMap.putAll jobItems [(Pid.laneLen 0, 4), (Pid.lyrSurf 0, 8192)], armed := true }]
      base := { PrintSet.reset with items := PMap.putAll jobItems [(Pid.laneLen 0, 4), (Pid.lyrSurf 0, 8192)] } } }
/-- The armed package with a product whose arm line has been issued, and the lines that its tiles have begun. -/
def arming (begun : Nat) : State :=
  { withProds [prod 3 5000] begun with motion := { Motion.reset with issued := [{ line600 with n := 6000 }], lastLine := 6000 } }
/-- The last line of a DRAINING job is fired, or not. -/
def draining (fired : List FiredLine) : State :=
  { firing 900_000_000 (fun x => { x with fired := fired }) with
    motion := { lineUp.motion with lastLine := 700 }
    job := { (firing 0 id).job with
      st := .draining, disarm := some (7, 650, false)
      products := [{ prod 3 597 with items := PMap.putAll jobItems [(Pid.laneLen 0, 4)], armed := true, next := none }] } }
/-- A verdict that the partner sent. -/
def told : Verdict := { sid := 1, strip := 0, cause := 0, arrived := false }
/-- The record of a line. -/
def rec600 : LineRec := LineRec.quiet 600 []

theorem witness_TilesTakeArmedAndAcceptedLines :
    ((withProds [prod 3 5000] 0).product (0 : Fin 16).val 3 = some (prod 3 5000) ∧ (withProds [prod 3 5000] 0).armDue (prod 3 5000) = false) ∧
    ((arming 0).product 0 3 = some (prod 3 5000) ∧ (arming 0).armDue (prod 3 5000) = true ∧ (arming 0).armLate (prod 3 5000) = false) ∧
    ((arming 6001).armDue (prod 3 5000) = true ∧ (arming 6001).armLate (prod 3 5000) = true) ∧
    ((0 : Fin 8).val < lineUp.nTiles ∧ (lineUp.issuedAt 600).isSome = true ∧ (lineUp.tile 0).posLine < 600 ∧ (lineUp.tile 0).twin ≠ .off ∧ lineUp.reaches0 0 = true) ∧
    (0 ≤ (lineUp.tile 0).posLine ∧ (firing 900_000_000 (fun x => { x with begun := 600 })).lineDue 0 600 = true ∧ up.lineDue 0 600 = false) := by
  iterate 4 refine ⟨by decide +kernel, ?_⟩
  exact by decide +kernel

theorem witness_FiringLinesLeaveAsFrames :
    (up.stageDue 0 600 = false ∧ (firing 900_000_000 id).stageDue 0 600 = true) ∧
    ((let s := (firing 900_000_000 id).updTileN 0 (fun x => { x with twin := .fill, startLine := some 600 }); let u := s.updTileN 1 (fun x => { x with twin := .withdrawn }); (u.tile 0).twin = .fill ∧ (u.tile 0).startLine.getD 0 + u.maxDelay ≤ 600 ∧ (u.tileN (partnerOf 0)).carries = false)) ∧
    ((up.tile 0).twin ≠ .fill) ∧
    ((let s := firing 900_000_000 (fun x => { x with fired := [fired600 [(0, [])] []] }); ((s.tile 0).firedAt 600).isSome = true ∧ (s.asOf 600).segOf 0 0 = some (0, 0, 1024) ∧ s.frameDue 0 600 0 = true ∧ s.voidCause 0 600 0 0 1024 = 0 ∧ ((s.tile 0).lane (s.segLane 0 600 0)).st = 2 ∧ ((s.tile 0).lane 0).fromLine ≤ 600)) ∧
    ((let s := firing 1_100_000_000 (fun x => { x with fired := [fired600 [(0, [])] []] }); s.frameDue 0 600 0 = true ∧ s.voidCause 0 600 0 0 1024 ≠ 0)) ∧
    ((let s := firing 900_000_000 (fun x => { x with fired := [fired600 [(0, [])] []], lanes := Vector.replicate 10 LaneHw.reset }); s.frameDue 0 600 0 = true ∧ ((s.tile 0).lane (s.segLane 0 600 0)).st ≠ 2)) ∧
    ((lineUp.issuedAt 600).isSome = true ∧ lineUp.takesSlots (lineUp.segNode 0 0) = false) := by
  iterate 6 refine ⟨by decide +kernel, ?_⟩
  exact by decide +kernel

theorem witness_RecordsAreTakenAndJobsEnd :
    (up.drained = false ∧ (draining []).drained = false) ∧
    ((draining [fired600 [(0, [])] [(0, 0, 0)]]).drained = true ∧ (draining [fired600 [(0, [])] [(0, 0, 0)]]).lastFiring = some 600) ∧
    ((let s := lineUp.updTileN 1 (fun x => { x with records := [rec600] }); (s.tileN (partnerOf 0)).recorded 600 = some rec600 ∧ vget s.linkUp 0 true = true ∧ (s.tile 0).copying = false ∧ (s.tile 0).carries = true ∧ (s.tile 0).partnerRec 600 = none)) ∧
    ((lineUp.tileN 1).recorded 600 = none ∧ (lineUp.tile 0).missing = none ∧ lineUp.firstMissing 0 ≠ some 600) ∧
    ((let s := lineUp.updTileN 0 (fun x => { x with deps := [(600, 0)], fired := [{ fired600 [] [] with line := 602 }] }); (s.tile 0).missing = none ∧ s.firstMissing 0 = some 600 ∧ (s.tileN (partnerOf 0)).carries = true)) := by
  iterate 4 refine ⟨by decide +kernel, ?_⟩
  exact by decide +kernel

theorem witness_StripsAreDecidedByTheirDeadline :
    ((stripping 650 (stripBuf false none none) id).pendingStrip 0 = some (1, 0, some 668) ∧ (up.tile 0).on 4 = true ∧ (up.tile 0).decoding < 2 ∧ bit (up.tile 0).thm.shed 1 = false) ∧
    ((let s := stripping 650 (stripBuf true none none) id; ((s.tile 0).stream 1).bind (fun st => st.buf 0) = some (stripBuf true none none) ∧ ((s.tile 0).desc 8192).isSome = true ∧ (s.tile 0).on 4 = true)) ∧
    ((let s := stripping 668 (stripBuf true none none) id; ((s.tile 0).stream 1).bind (fun st => s.nextRead 0 st 0 |>.map (·.2)) = some [700, 701, 702, 703] ∧ 700 - s.itemN Pid.codecMargin ≤ s.motion.lastLine)) ∧
    ((let s := stripping 669 (stripBuf false none none) id; ((s.tile 0).stream 1).bind (fun st => s.nextRead 0 st 0 |>.map (·.2)) = some [700, 701, 702, 703] ∧ (stripBuf false none none).fate = 0 ∧ 700 - s.itemN Pid.codecMargin < s.motion.lastLine)) ∧
    ((let s := stripping 650 (stripBuf false (some 3) none) (fun x => { x with verdicts := [told] }); (s.tile 0).verdicts.find? (fun v => !v.arrived && v.sid == 1 && v.strip == 0) = some told ∧ vget s.linkUp 0 true = true ∧ (s.tileN (partnerOf 0)).carries = true ∧ (s.tile 0).unsettled = [] ∧ ((s.tile 0).strip 1 0).map (·.partner) = some none ∧ (s.tile 0).strip 2 0 = none)) ∧
    ((let s := stripping 650 (stripBuf false (some 3) none) (fun x => { x with verdicts := [told], unsettled := [(1, 0, 0, 3)] }); (s.tile 0).unsettled.filter (fun u => u.1 == 1 && u.2.1 == 0) ≠ [])) ∧
    ((let b := { stripBuf false (some 3) (some 0) with mend := true }; let s := stripping 650 b id; ((s.tile 0).stream 1).bind (fun st => st.buf 0) = some b ∧ ((s.tileN (partnerOf 0)).desc 8192).isSome = true ∧ b.mend = true ∧ (s.tileN (partnerOf 0)).takes = true)) ∧
    ((let s := (stripping 650 (stripBuf false (some 3) none) id).updTileN 1 (fun x => { x with twin := .withdrawn }); (stripBuf false (some 3) none).own = some 3 ∧ (s.tileN (partnerOf 0)).carries = false)) := by
  iterate 7 refine ⟨by decide +kernel, ?_⟩
  exact by decide +kernel

/-- The package with its calendars and marks. -/
def calUp (m : Marks) : State := { up with marks := m }
/-- The master calendar slews by a count of ticks since a tick. -/
def slewing (d : Int) (t0 : Nat) : State := calUp { Marks.reset with cal := Marks.reset.cal.set 0 { Cal.reset with sec := 5, valid := true, slew := some { delta := d, left := d, since := t0 } } }
/-- A servo of a hop. -/
def servo (h : Hop) (t1 t2 t3 : Option Nat) : Servo :=
  { hop := h, o := 0, d := 0, xseq := 4, t1 := t1, t2 := t2, t3 := t3, good := 0, bad := 0, aligned := true, rate := 0, slew := 0, interval := 0, syncAt := 0,
    doneAt := 100, helloAt := 0, heldAt := none }
/-- The package with one servo, node 7 in TIMING or READY behind lane 3 of T0. -/
def hopped (h : Hop) (role : Nat) (st : Nat) : State :=
  { up with
    link := { Link.reset with servos := [servo h (some 100) (some 200) (some 300)], nodes := [node7 st], role := role }
    job := { Job.reset with base := { PrintSet.reset with items := PMap.putAll [] [(Pid.wylTimeInt, 250000)] } } }

theorem witness_CalendarsAndTimeLossAreHandled :
    (up.lead.tile < 2 ∧ (1 : Fin 2).val ≠ up.lead.tile ∧ (0 : Fin 2).val = up.lead.tile) ∧
    ((let s := calUp { Marks.reset with src := 2, hold := 0 }; s.marks.lost = false ∧ s.marks.src = 2 ∧ s.marks.heard + s.marks.hold * ticksPerSec < s.now) ∧ up.marks.src ≠ 2) ∧
    ((slewing 1 0).master.slew.any (fun w => decide (slewDone (slewing 1 0).marks.slewPpm (some w) (slewing 1 0).now = w.left)) = true) ∧
    ((slewing 1000000 999_999_999).master.slew.any (fun w => decide (slewDone (slewing 1000000 999_999_999).marks.slewPpm (some w) up.now ≠ w.left)) = true) ∧
    ((hopped .up 0 4).link.servos.any (fun x => x.hop == .up) = true ∧ ((hopped .up 0 4).servo .up).interval = 0 ∧ ((hopped .up 0 4).servo .up).doneAt + 16 * (hopped .up 0 4).itemN Pid.wylTimeInt < (hopped .up 0 4).now) ∧
    ((Hop.node 7 ≠ .up)) ∧
    ((hopped (.node 7) 1 4).link.servos.any (fun x => x.hop == .node 7) = true ∧ ((hopped (.node 7) 1 4).hopNode (.node 7)).isSome = true) ∧
    ((hopped (.node 8) 1 4).hopNode (.node 8) = none ∧ (hopped (.node 8) 1 4).link.servos.any (fun x => x.hop == .node 8) = true) ∧
    ((up.tile 1).alignAt = none ∧ ({ upTile with alignAt := some 999_999_500 } : TileState).alignAt = some 999_999_500 ∧ up.now < 999_999_500 + 1024) ∧
    ((0 : Fin 8).val < up.nTiles ∧ (1 : Fin 8) ≠ 0 ∧ (2 : Int).natAbs ≤ 2 ∧ 2 < (3 : Int).natAbs) ∧
    ((hopped .up 0 4).calBelow 5 = false ∧ (hopped .up 0 4).calBelow (-(10 : Int) ^ 9) = true ∧ (0 == (0 : Int) && (slewing 1 0).master.valid) = true) ∧
    ((calUp { Marks.reset with src := 2 }).marks.src = 2 ∧ (hopped .up 0 4).link.role = 0 ∧ up.link.role ≠ 0) := by
  iterate 5 refine ⟨by decide +kernel, ?_⟩
  refine ⟨nofun, ?_⟩
  iterate 5 refine ⟨by decide +kernel, ?_⟩
  exact by decide +kernel

theorem witness_TimeExchangesRunTheServo :
    ((hopped (.node 7) 1 4).hopUp (.node 7) = true ∧ (hopped .up 0 4).hopUp .up = true) ∧
    (((hopped (.node 7) 1 4).servo (.node 7)).syncAt + ((hopped (.node 7) 1 4).servo (.node 7)).interval ≤ (hopped (.node 7) 1 4).now) ∧
    (((hopped (.node 7) 1 4).servo (.node 7)).xseq = 4 % 256 ∧ ((hopped (.node 7) 1 4).servo (.node 7)).t1 = some 100) ∧
    (((hopped .up 0 4).servo .up).t2 = some 200 ∧ ((hopped .up 0 4).servo .up).t3 = some 300) ∧
    ((servo .up (some 100) (some 200) (some 300)).exchange 100 200 300 199 true = none) ∧
    (((servo .up (some 100) (some 200) (some 300)).exchange 100 200 300 200 true).map (fun r => (r.1.o, r.2)) = some (100, some (-100))) ∧
    (((servo .up (some 100) (some 200) (some 300)).exchange 100 200 300 400 false).map (fun r => (r.1.o, r.1.d, r.2)) = some (0, 100, none)) ∧
    ((12_800_000 : Int) < 12_800_001 ∧ (200 - 100 + (200 - 300) : Int) = 0) := by
  iterate 7 refine ⟨by decide +kernel, ?_⟩
  exact by decide +kernel

/-- A hub with segment 64 of 4 nozzles, and one pending entry to fire at tick 2000. -/
def hubNode (st : Nat) : Node :=
  { node7 st with segs := [{ seg := 64, ncnt := 4, lastAcc := 9, table := [{ seq := 10, fire := 2000, fph := 0, line := true, voids := 0, crc := 0, slots := [1] }] }] }
/-- A LINE frame for a segment of a node count, to fire at a tick. -/
def hubFrame (seg ncnt seq fire : Nat) : HubFrame := { seg := seg, seq := seq, fire := fire, fph := 0, ncnt := ncnt, crc := 1, kind := .line [1, 2, 3, 0] }
/-- The bytes of a LINE frame to a node, and of a CTRL frame to it. -/
def lineBytes (node : Nat) : List Byte :=
  ({ tile := 0, lane := 3, type := 1, node := node, fields := [64, 11, 2000, 0, 4, 1, 2, 3, 0] } : OutFrame).bytes 0x40
def ctrlBytes (node : Nat) : List Byte := ({ tile := 0, lane := 3, type := 4, node := node, fields := [1, 0, 1, 4] } : OutFrame).bytes 0x40
/-- The HELLO of the node of a UID, with or without an ID. -/
def helloOf (uid : Nat) (id : Option Nat) (depth : Nat) : Hello := { (node7 4).hello with uid := uid, id := id, depth := depth }
/-- The package with node 7 and a table of IDs by UID. -/
def tabled : State := { nodeUp 4 with link := { (nodeUp 4).link with table := [(78, 8), (79, 7)] } }
/-- The package with a further hub behind node 7. -/
def chainUp : State :=
  let n := node7 4
  { up with link := { Link.reset with nodes := [n, { n with id := 8, hello := { n.hello with kind := 2, parent := 7, id := some 8 } }] } }
/-- A CTRL frame to node 7. -/
def ctrlFrame (op addr : Nat) (data : List U32) : CtrlFrame := { node := 7, ctag := 3, op := op, addr := addr, count := 1, data := data }
/-- The package with a LINK.CTRL read of node 7 outstanding, sent a number of times. -/
def asking (tries : Nat) : State :=
  { nodeUp 4 with
    link := { (nodeUp 4).link with ctrl := [{ seq := 1, f := ctrlFrame 0 4 [], tries := tries, sentAt := 999_975_000 }] }
    qen := { up.qen with store := [{ p := pk 0x905 [], session := 0, st := .running, wait := .work, disp := 1, status := 0, r0 := 0, r1 := 0,
                                     decided := 0, counted := false, rights := none }] } }
/-- The armed package that follows a master package. -/
def slave : State := { jobAt .armed with link := { Link.reset with role := 0 } }
/-- A position of a line. -/
def posOf (line : Nat) : PosEvent := { line := line, fire := 1_000_000_100, fph := 0, rate := 2 ^ 20, aL := 0, aR := 0, r := 0, q := 0 }
/-- A STATUS frame of node 7 in READY. -/
def status7 : StatusFrame := { node := 7, state := 4, part := 128, lastAcc := 9, free := 4, counters := [0, 1, 0, 0, 0], temps := [], health := [] }

theorem witness_NodesJoinReportAndLeave :
    ((hopped (.node 7) 1 4).hopUp (.node 7) = true ∧ ((hopped (.node 7) 1 4).servo (.node 7)).helloAt + 250_000 ≤ (hopped (.node 7) 1 4).now) ∧
    ((0 : Fin 8).val < up.nTiles ∧ (up.lnkOn 0 3 && (State.reset.tile 0).laneUp 3) = false ∧ up.lnkOn 0 3 = true ∧ (up.tile 0).laneUp 3 = true) ∧
    ((helloOf 80 none 1).id = none ∧ tabled.link.table.lookup (helloOf 80 none 1).uid = none) ∧
    (tabled.link.table.lookup (helloOf 79 none 1).uid = some 7 ∧ tabled.idTaken 79 7 = true) ∧
    (tabled.link.table.lookup (helloOf 78 none 1).uid = some 8 ∧ tabled.idTaken 78 8 = false) ∧
    ((helloOf 78 (some 8) 4).id = some 8 ∧ 8 ≠ 0 ∧ tabled.idTaken 78 8 = false ∧ tabled.depthOf (helloOf 78 (some 8) 4) ≤ 4 ∧ tabled.idTaken 79 7 = true) ∧
    (4 < tabled.depthOf (helloOf 78 (some 8) 5) ∧ (helloOf 78 (some 8) 5).id = some 8 ∧ (ctrlFrame 0 4 []).op = 0) ∧
    (up.node 7 = none ∧ (nodeUp 4).node 7 = some (node7 4) ∧ (node7 4).id ≠ noNode ∧ status7.temps = [] ∧ status7.health = []) ∧
    (status7.state = 4 ∧ (node7 4).st = 4 ∧ (node7 4).readyLine.isSome = true) ∧
    ((node7 4).statusAt = some 999_250_000 ∧ 999_250_000 + 750_000 ≤ (nodeUp 4).now ∧ 999_250_000 + 750_000 < ({ nodeUp 4 with time := 1_000_000_001 } : State).now) ∧
    ((node7 4).eseq.lookup 0x10 = some 1 ∧ (node7 4).eseq.lookup 0x10 ≠ some 2 ∧ (node7 4).eseq.lookup 0x8000 ≠ some 1) := by
  iterate 10 refine ⟨by decide +kernel, ?_⟩
  exact by decide +kernel

theorem witness_ControlAndSlavePackagesAnswer :
    (slave.link.role = 0 ∧ slave.armed = true ∧ slave.motion.lastLine < (posOf 1).line ∧ (posOf 0).line ≤ slave.motion.lastLine) ∧
    (up.link.role ≠ 0 ∧ slave.registers 700 = true ∧ (slave.lane 0).nextNum ≤ 3 ∧ slave.laneW (0 : Fin 16).val ≠ 0) ∧
    (ctrlRequestOk (ctrlFrame 0 4 []) = true ∧ (ctrlFrame 0 4 []).node ≠ (nodeUp 4).link.nodeId ∧ (nodeUp 4).node 7 = some (node7 4)) ∧
    (ctrlRequestOk (ctrlFrame 0 2 []) = false ∧ (ctrlFrame 1 0x20 [5]).op = 1) ∧
    (((node7 4).writeAll 0 0x20 [5] = .ok { (node7 4) with leaveLo := 5 })) ∧
    (((node7 4).writeAll 0 0x04 [5] = .error 2)) ∧
    ((asking 1).link.ctrl.find? (fun r => r.f.ctag == (ctrlFrame 2 4 [9]).ctag && r.f.node == (ctrlFrame 2 4 [9]).node) = some { seq := 1, f := ctrlFrame 0 4 [], tries := 1, sentAt := 999_975_000 }) ∧
    (((asking 1).entry 1).any (fun e => e.st != .done) = true ∧ (ctrlFrame 2 4 [9]).data.length = (ctrlFrame 0 4 []).count ∧ (ctrlFrame 4 4 [2]).op = 4) ∧
    ((asking 2).link.ctrl.find? (fun r => r.seq == 1) = some { seq := 1, f := ctrlFrame 0 4 [], tries := 2, sentAt := 999_975_000 } ∧ 999_975_000 + 25_000 < ({ asking 2 with time := 1_000_000_001 } : State).now) ∧
    ((asking 3).link.ctrl.find? (fun r => r.seq == 1) = some { seq := 1, f := ctrlFrame 0 4 [], tries := 3, sentAt := 999_975_000 }) := by
  iterate 4 refine ⟨by decide +kernel, ?_⟩
  iterate 2 refine ⟨rfl, ?_⟩
  iterate 3 refine ⟨by decide +kernel, ?_⟩
  exact by decide +kernel

theorem witness_HubsFireEachLineOnce :
    (up.node 7 = none ∧ ((nodeUp 4).node 7).isSome = true ∧ frameFault (.bytes (1 :: (lineBytes 7).drop 1 |>.set 9 1)) = some 0) ∧
    (frameFault (.bytes (0 :: 0 :: 0 :: 0 :: 0 :: 0 :: 4 :: List.replicate 8 0)) = some 1 ∧ frameFault .broken = some 2) ∧
    (frameFault (.bytes (lineBytes 7)) = none ∧ fld (lineBytes 7) 0 1 = 1 ∧ bit (fld (lineBytes 7) 2 2) 15 = false ∧ fld (lineBytes 7) 2 2 % 2 ^ 14 = 7) ∧
    (frameFault (.bytes (ctrlBytes 9)) = none ∧ fld (ctrlBytes 9) 0 1 = 4 ∧ fld (ctrlBytes 9) 2 2 % 2 ^ 14 = 9 ∧ bit (fld (ctrlBytes 9) 2 2) 15 = false) ∧
    ((nodeUp 4).chained 7 = false ∧ (nodeUp 4).hubKnows 7 9 = false ∧ (chainUp).chained 7 = true) ∧
    ((hubNode 4).segs.find? (fun x => x.seg == (hubFrame 65 4 11 2000).seg) = none) ∧
    (((hubNode 4).segs.find? (fun x => x.seg == 64)).map (fun g => decide (g.ncnt ≠ 5 ∧ g.ncnt = 4 ∧ 10 ≤ g.lastAcc + 1)) = some true) ∧
    ((hubFrame 64 4 11 1009).fire < 1000 + (hubNode 4).hello.hubLead ∧ 1000 + (hubNode 4).hello.hubLead ≤ (hubFrame 64 4 11 1010).fire) ∧
    (1000 + 65_536 ≤ (hubFrame 64 4 11 66_536).fire ∧ (hubNode 4).invalid (hubFrame 64 4 11 66_535) 1000 = none) ∧
    ((hubNode 4).invalid (hubFrame 64 4 9 2000) 1000 = none ∧ (hubFrame 64 4 9 2000).seq ≤ 9 ∧ 9 < (hubFrame 64 4 11 2000).seq) ∧
    (((hubNode 4).segs.find? (fun x => x.seg == 64)).map (fun g => g.table.all (fun e => e.seq != 11) && decide (g.table.length < (hubNode 4).hello.pend)) = some true) ∧
    ((let n := { hubNode 4 with hello := { (hubNode 4).hello with pend := 1 } }; n.invalid (hubFrame 64 4 11 2000) 1000 = none ∧ (n.segs.map (fun g => decide (n.hello.pend ≤ g.table.length))) = [true])) ∧
    (((hubNode 4).segs.find? (fun x => x.seg == 64)).bind HubSeg.lowest = some { seq := 10, fire := 2000, fph := 0, line := true, voids := 0, crc := 0, slots := [1] }) ∧
    ((hubNode 4).fires 10 = true ∧ (hubNode 3).fires 10 = false) := by
  iterate 13 refine ⟨by decide +kernel, ?_⟩
  exact by decide +kernel

/-- The package whose lens loop is in a state, at line 5000. -/
def lensUp (f : Lens → Lens) : State :=
  { jobAt .armed with
    motion := { Motion.reset with lastLine := 5000, lens := f { Motion.reset.lens with entry := 0, good := 1024, bad := 16, outRange := 16, inRange := 64 } }
    job := { (jobAt .armed).job with
      base := { PrintSet.reset with items := PMap.putAll jobItems [(parmId 6 0 1, 0), (parmId 6 0 5, 100), (parmId 6 0 6, 1100), (parmId 6 0 8, 1000), (parmId 6 0 15, 5000), (parmId 6 0 18, 5000)] } } }
/-- The package with an index latched on every input at a tick, or on none. -/
def indexedAt (a : Option Nat) : State := (lensUp id).updMot (fun m => { m with enc := Vector.replicate 4 { Enc.reset with indexAt := a } })
/-- A report of row 1 and zone 3 of a band. -/
def reportOf (band row flags zone : Nat) : ColourReport := { band := band, row := row, flags := flags, zone := zone, l := 100, a := 0, b := 0 }
/-- A band printed at lines 600 and on, of two rows. -/
def band9 : Band :=
  { num := 9, lane := 0, prod := 3, first := 600, ph := 100, rows := [(0, 0, 0)], ver := 0, stale := false, patches := [], tmo := 200_000, tol := 0, worst := [], missing := false
    complete := false, flags := [] }
/-- The package that measures it, at a line. -/
def measuring (line : Nat) : State :=
  { jobAt .armed with
    motion := { Motion.reset with lastLine := line }
    colour := { Colour.reset with bands := [band9], cal := some { seq := 4, cert := [{ l := 0, a := 0, b := 0 }, { l := 1, a := 0, b := 0 }], tile := [], reads := [], tol := 150 } } }
/-- A calibration of second 0. -/
def calibOld : Calib := { tile := [], second := 0, gain := { l := 0, a := 0, b := 0 }, offset := { l := 0, a := 0, b := 0 }, resid := [] }
/-- The package some seconds later, with it. -/
def expiring (days : Nat × Int) : State :=
  { up with
    colour := { Colour.reset with calib := some calibOld, calDays := days, dueDay := none }
    marks := { Marks.reset with cal := Marks.reset.cal.set 0 { Cal.reset with sec := 86400, valid := true } } }

theorem witness_LensLoopTakesReferences :
    ((lensUp (fun l => { l with st := .acquire })).motion.lens.st = .acquire ∧ 1024 ≤ (lensUp id).motion.lens.good ∧ 16 ≤ (lensUp id).motion.lens.bad) ∧
    ((lensUp (fun l => { l with st := .lock })).motion.lens.st = .lock ∧ (3 : Nat) < 4 ∧ bit (lensUp id).motion.lens.causes 3 = false) ∧
    ((lensUp (fun l => { l with st := .lock })).lensCause 3 = true ∧ up.motion.lens.st = .idle) ∧
    ((let s := lensUp (fun l => { l with st := .lost }); s.motion.lens.st = .lost ∧ s.motion.lens.holdRaised = false ∧ s.motion.lens.entry + (s.lensCfg s.lensLine).hold ≤ s.lensLine)) ∧
    ((let s := lensUp (fun l => { l with st := .lost, causes := 10, hurt := 4 }); s.motion.lens.stuck = false ∧ (bitsOf 4 s.motion.lens.causes).all s.causeEnded = true ∧ s.motion.lens.hurt ≠ 0)) ∧
    ((let s := lensUp (fun l => { l with st := .lost, causes := 8 }); (bitsOf 4 s.motion.lens.causes).all s.causeEnded = true ∧ s.motion.lens.hurt = 0)) ∧
    ((let s := lensUp (fun l => { l with st := .acquire, acqBy := some 4000 }); s.motion.lens.acqRaised = false ∧ s.motion.lens.acqBy = some 4000 ∧ 4000 ≤ s.lensLine)) ∧
    ((let s := lensUp (fun l => { l with st := .lost, causes := 1 }); s.motion.lens.st = .lost ∧ bit s.motion.lens.causes 3 = false ∧ s.lensCause 3 = true ∧ bit s.motion.lens.causes 0 = true)) ∧
    (((indexedAt (some 10)).enc 1).indexAt = some 10 ∧ ((indexedAt (some 10)).enc 3).indexAt = some 10 ∧ (indexedAt none).motion.lens.refFrom ≤ 10 ∧ ((indexedAt none).enc 2).indexAt = none) ∧
    ((Quad.lensL ≠ .web)) ∧
    (bit (lensUp id).motion.lens.need (Quad.lensL.num - 1) = false) ∧
    ((let s := lensUp (fun l => { l with acquireAt := some 10, need := 7 }); s.motion.lens.acquireAt = some 10 ∧ bit s.motion.lens.need 0 = true ∧ bit s.motion.lens.need 1 = true ∧ bit s.motion.lens.need 2 = true)) ∧
    ((let s := lensUp (fun l => { l with st := .reacquire, need := 1 }); s.motion.lens.acquireAt = none ∧ s.motion.lens.st = .reacquire ∧ bit s.motion.lens.need 0 = true)) := by
  iterate 9 refine ⟨by decide +kernel, ?_⟩
  refine ⟨nofun, ?_⟩
  iterate 2 refine ⟨by decide +kernel, ?_⟩
  exact by decide +kernel

theorem witness_ColourReportsReachTheirBand :
    (8 ≤ (reportOf 9 1 8 3).flags ∧ (reportOf 0xFFFF_FFFF 1 1 0xFFFF).flags < 8 ∧ (reportOf 0xFFFF_FFFF 1 1 0xFFFF).band = 0xFFFF_FFFF) ∧
    ((measuring 5000).colour.cal.any (fun k => decide (1 < k.cert.length) && !k.reads.any (fun e => e.1 == 1)) = true ∧ readingOk (reportOf 0xFFFF_FFFF 1 1 0xFFFF) = true) ∧
    ((reportOf 9 1 1 3).band ≠ 0xFFFF_FFFF ∧ (measuring 700).colour.bands.find? (fun b => b.num == (reportOf 9 1 1 3).band) = some band9) ∧
    ((1 : Nat) < band9.rowCount ∧ (measuring 700).colZones.contains 3 = true ∧ band9.patches.any (fun p => p.row == 1 && p.zone == 3) = false) ∧
    ((measuring 750).motion.lastLine ≤ (measuring 750).measureLine band9 1 + band9.tmo) ∧
    ((measuring 500_000).measureLine band9 1 + band9.tmo < (measuring 500_000).motion.lastLine) ∧
    ((measuring 500_000).colZones.filter (fun z => !band9.patches.any (fun p => p.row == 1 && p.zone == z)) ≠ []) ∧
    ((expiring (1, 0)).calExpired = some 0 ∧ (expiring (1, 0)).colour.dueDay ≠ some (expiring (1, 0)).localDay.toNat ∧ (expiring (2, 0)).calExpired = none) := by
  iterate 7 refine ⟨by decide +kernel, ?_⟩
  exact by decide +kernel

/-- Lane 2 of T0 as given. -/
def laneAs (x : LaneHw) : State := { up with tiles := up.tiles.set 0 { upTile with lanes := upTile.lanes.set 2 x } }
/-- A lane in training since a tick. -/
def training (t0 : Nat) : LaneHw := { LaneHw.reset with st := 1, lock := true, lockRun := 1024, trainAt := some t0, action := some (1, 0) }
/-- A test of 4 ms since a tick. -/
def laneTest (start : Nat) (one injected : Bool) : LaneTest :=
  { seq := 1, pattern := 0, loopback := 0, one := one, burst := false, duration := 4, user := 0, start := start, injected := injected }
/-- A lane with the last headers received, in or out of lock. -/
def headed (lock : Bool) (st : Nat) (heads : List Bool) : LaneHw := { LaneHw.reset with st := st, lock := lock, heads := heads }
/-- A block with a sync header. -/
def blk (sync : Nat) : Block := { sync := BitVec.ofNat 2 sync, data := 0 }
/-- The eye at the limits that reset leaves. -/
def eyeAt (w h : Nat) : Eye := { width := w, height := h, ctle := 0, txMain := 0, txPost := 0, txPre := 0 }
/-- A LINE frame of a length that its kind does not have, without its check. -/
def shortFrame : List Byte := [1, 0x10, 7, 0, 0, 0, 16, 0, 0, 0, 0, 0]

theorem witness_LanesTrainAndFail :
    ((0 : Fin 8).val < up.nTiles ∧ up.lnkOn 0 2 = true ∧ (up.lnk 0 2).lock = true ∧ (up.lnk 0 2).st = 2) ∧
    ((let x := headed false 1 (List.replicate 63 true); x.lock = false ∧ x.receives = true ∧ syncOk (blk 1) = true ∧ 63 ≤ x.heads.length ∧ ∀ h ∈ x.heads.take 63, h = true)) ∧
    (syncOk (blk 0) = false ∧ syncOk (blk 3) = false ∧ ((headed false 1 [true]).heads.take 63).length < 63 ∧ false ∈ (headed false 1 [false]).heads.take 63) ∧
    ((let x := headed true 2 (List.replicate 15 false ++ List.replicate 48 true); x.receives = true ∧ 16 ≤ ((syncOk (blk 0) :: x.heads.take 63).filter (fun h => !h)).length ∧ ((syncOk (blk 1) :: x.heads.take 63).filter (fun h => !h)).length < 16)) ∧
    ((headed true 1 []).st ≠ 2 ∧ ({ headed true 1 [] with lockRun := 1023 } : LaneHw).lockRun < 1024) ∧
    ((let s := laneAs (training 0); (s.lnk 0 2).trainAt = some 0 ∧ (s.lnk 0 2).lock = true ∧ 1024 ≤ (s.lnk 0 2).lockRun ∧ (s.lnk 0 2).action = some (1, 0) ∧ s.lnkItem 0 2 3 ≤ (eyeAt 100 100).width ∧ s.lnkItem 0 2 4 ≤ (eyeAt 100 100).height)) ∧
    ((let s := laneAs (training 0); (eyeAt 0 100).width < s.lnkItem 0 2 3 ∧ (eyeAt 100 0).height < s.lnkItem 0 2 4)) ∧
    (997_500_000 + 2_500_000 ≤ (laneAs (training 997_500_000)).now ∧ (laneAs (training 997_500_001)).now < 997_500_001 + 2_500_000) ∧
    ((let x := (laneAs { LaneHw.reset with st := 3, downAt := some 975_000_000 }).lnk 0 2; x.downAt = some 975_000_000 ∧ x.st = 3 ∧ x.trainAt = none ∧ 975_000_000 + 25_000_000 ≤ up.now)) ∧
    ((let x := (laneAs { LaneHw.reset with st := 2, outSince := some 999_998_999 }).lnk 0 2; x.st = 2 ∧ x.lock = false ∧ x.outSince = some 999_998_999 ∧ 999_998_999 + 1000 < up.now ∧ up.now ≤ 999_999_000 + 1000)) ∧
    (((laneAs (training 0)).lnk 0 2).st ≠ 2 ∧ (1 : Fin 3).val ≠ 0) := by
  iterate 10 refine ⟨by decide +kernel, ?_⟩
  exact by decide +kernel

theorem witness_LanesReceiveSleepAndTest :
    ((up.lnk 0 2).st = 2 ∧ (up.lnk 0 2).rxslp = 0 ∧ (up.lnk 0 2).lock = true ∧ up.lnkOn 0 2 = true ∧ (State.reset.lnk 0 2).st ≠ 2) ∧
    (lineBytes 7 ≠ [] ∧ rxLen (lineBytes 7) = (lineBytes 7).length ∧ (up.lnk 0 2).rxFrame = none ∧ ((up.lnk 0 2).heads.filter (fun h => !h)).length < 16) ∧
    (frameFault (.bytes (lineBytes 7)) = none ∧ isFill (.bytes (lineBytes 7)) = false ∧ isFill (.bytes fillBytes) = true ∧ rxLen fillBytes = fillBytes.length) ∧
    (frameFault (.bytes ((lineBytes 7).set 9 1)) = some 0 ∧ rxLen ((lineBytes 7).set 9 1) = (lineBytes 7).length) ∧
    ((blk 1).sync = 0b01 ∧ (blk 2).sync = 0b10 ∧ ((up.lnk 0 2).see (blk 1)).loses = false ∧ ((up.lnk 0 2).see (blk 0)).loses = false) ∧
    (rxWhole ((up.lnk 0 2).payload ((wireBlocks (up.lnk 0 2).rxScr (lineBytes 7)).1.headD (blk 0))) = false ∧ ({ up.lnk 0 2 with rxFrame := some [1] } : LaneHw).rxFrame = some [1]) ∧
    ((∃ u, exec (.frameReceive 0 2 [blk 1]) up = .next u ∧ u.nTiles = up.nTiles)) ∧
    (({ LaneHw.reset with st := 2, rxslp := 1 } : LaneHw).receives = false ∧ State.reset.lnkOn 0 2 = false) ∧
    ((lineBytes 7).length ≤ 1536 ∧ (up.lnk 0 2).sinceFill + blockCount (lineBytes 7).length < 4096 ∧ 4096 ≤ ({ up.lnk 0 2 with sinceFill := 4095 } : LaneHw).sinceFill + blockCount (lineBytes 7).length) ∧
    ([3, 0, 0].length < 8 ∧ 8 ≤ (lineBytes 7).length ∧ fld (lineBytes 7) 6 2 ≤ (lineBytes 7).length ∧ 12 ≤ fld (lineBytes 7) 6 2 ∧ frameLen (lineBytes 7) = fld (lineBytes 7) 6 2) ∧
    (frameLen (shortFrame ++ leBytes 4 (crc32c shortFrame)) ≠ fld shortFrame 6 2 ∧ fld shortFrame 6 2 = 16 ∧ (shortFrame ++ leBytes 4 (crc32c shortFrame)).length = 16) ∧
    ((let s := laneAs { LaneHw.reset with st := 2, txslp := 1, waking := #v[some 999_999_750, none] }; (s.lnk 0 2).st = 2 ∧ vget (s.lnk 0 2).waking 0 none = some 999_999_750 ∧ 999_999_750 + wakeTime false (s.lnk 0 2).txslp ≤ s.now)) ∧
    ((let s := laneAs { LaneHw.reset with st := 2, lock := true, rxslp := 2, waking := #v[none, some 999_980_000] }; vget (s.lnk 0 2).waking 1 none = some 999_980_000 ∧ 999_980_000 + wakeTime true (s.lnk 0 2).rxslp ≤ s.now ∧ (s.lnk 0 2).lock = true)) ∧
    ((let s := laneAs { LaneHw.reset with st := 4, test := some (laneTest 999_750_000 true false) }; (s.lnk 0 2).test = some (laneTest 999_750_000 true false) ∧ 999_750_000 + 250_000 ≤ s.now)) ∧
    ((laneTest 0 true false).one = true ∧ (laneTest 0 true false).injected = false ∧ (laneTest 0 false false).burst = false ∧ (laneTest 0 true true).injected = true) ∧
    ((let s := laneAs { LaneHw.reset with st := 4, test := some (laneTest 999_000_000 true true) }; (s.lnk 0 2).test = some (laneTest 999_000_000 true true) ∧ 999_000_000 + 250_000 * 4 ≤ s.now ∧ s.now < 999_000_001 + 250_000 * 4)) ∧
    ((laneTest 0 true true).loopback ≠ 2 ∧ (posting 0 false).entry 1 ≠ none ∧ (asking 1).entry 1 ≠ none) := by
  iterate 6 refine ⟨by decide +kernel, ?_⟩
  refine ⟨⟨_, rfl, by decide +kernel⟩, ?_⟩
  iterate 9 refine ⟨by decide +kernel, ?_⟩
  exact by decide +kernel

/-- The package with T0 and T1 changed. -/
def twins (f g : TileState → TileState) : State := { up with tiles := (up.tiles.set 0 (f upTile)).set 1 (g upTile) }
/-- A preserve. -/
def pres5 : Preserve := { up.capture with pseq := 5 }
/-- T1 leads; T0 is back, paired, its port up, the last preserve fresh. -/
def leading1 : State :=
  { twins (fun x => { x with pairedAt := some 500_000_000 }) id with lead := { LeadSt.reset with tile := 1, recvAt := some 999_000_000 } }
/-- The lead after a takeover, in a state of its port. -/
def coldLead (cold link : Nat) : State :=
  { up with
    lead := { LeadSt.reset with cold := cold }
    qen := { up.qen with ports := up.qen.ports.set 0 { Port.reset with link := link } } }
/-- T0 takes a copy of T1, for a command or not. -/
def copyDone (st : JobSt) (seq : Option Nat) : State :=
  { jobAt st with tiles := up.tiles.set 0 { upTile with twin := .resync, rejoinSeq := seq } }
/-- Both tiles of twin 0 withdrew for TIME while a job was armed; T0 is back, with its own stores. -/
def lonelyCopy : State :=
  { twins (fun x => { x with twin := .resync, cause := 4 }) (fun x => { x with twin := .withdrawn, cause := 4 }) with job := { Job.reset with st := .armed }, link := { Link.reset with role := 0 } }

theorem witness_TwinsAndTilesWithdraw :
    ((0 : Fin 4).val < up.nTwins ∧ vget up.linkUp 0 true = true ∧ vget ({ up with linkUp := vset up.linkUp 0 false } : State).linkUp 0 true = false) ∧
    ((up.tileN 0).carries = true ∧ ((twins (fun x => { x with twin := .withdrawn }) id).tileN 0).carries = false ∧ ((twins (fun x => { x with twin := .withdrawn }) id).tileN 1).carries = true) ∧
    ((let s := twins (fun x => { x with twin := .withdrawn }) (fun x => { x with twin := .withdrawn }); (s.tileN 0).carries = false ∧ (s.tileN 1).carries = false)) ∧
    ((let s := twins id (fun x => { x with twin := .withdrawn }); (s.tileN (partnerOf (0 : Fin 8).val)).twin = .withdrawn ∧ (s.tile 0).pstate ≠ .withdrawn ∧ (s.tile 0).twin = .paired ∧ (up.tileN (partnerOf 0)).twin ≠ .withdrawn)) ∧
    ((let s := twins (fun x => { x with hbLink := 0, hbFabric := 0 }) id; s.silentDue 0 = true ∧ (twins (fun x => { x with hbLink := 1_000_000_000 }) id).silentDue 0 = (twins (fun x => { x with hbFabric := 1_000_000_000 }) id).silentDue 0)) ∧
    (({ up with time := 10 } : State).silentDue 0 = decide (({ up with time := 10 } : State).itemN Pid.twnHbMiss * 4096 ≤ 10)) ∧
    ((up.tile 0).on 1 = true ∧ (up.tile 0).clockOk = true ∧ (up.tile 0).hbSent + 4096 ≤ up.now ∧ ({ up with time := 4095 } : State).now < (up.tile 0).hbSent + 4096) ∧
    (((twins (fun x => { x with clockOk := false }) id).tile 0).clockOk = false ∧ (up.tile 0).rasterOn = true ∧ (up.tile 0).assayRun = none) ∧
    ((let s := twins (fun x => { x with assayRun := some 5, strikes := 2 }) (fun x => { x with lastAssay := some true }); (s.tile 0).rasterOn = true ∧ (s.tile 0).assayRun = some 5)) ∧
    ((0 : Fin 8).val < up.nTiles ∧ up.hops = [] ∧ (0 : Fin 8).val ∈ ({ up with hops := [0] } : State).hops ∧ (1 : Fin 8).val ∉ ({ up with hops := [0] } : State).hops ∧ ({ up with hops := [0] } : State).hops ≠ []) := by
  iterate 9 refine ⟨by decide +kernel, ?_⟩
  exact by decide +kernel

theorem witness_LeadMovesWithItsPreserve :
    ((coldLead 1 0).lead.cold = 1 ∧ (coldLead 1 4).port.link < 5 ∧ 5 ≤ (coldLead 1 5).port.link ∧ ((coldLead 1 0).tileN (coldLead 1 0).lead.tile).on 3 = true) ∧
    (up.lead.cold ≠ 1 ∧ (coldLead 2 5).lead.cold = 2 ∧ (0 : Fin 2).val = (coldLead 2 5).lead.tile ∧ (1 : Fin 2).val ≠ (coldLead 2 5).lead.tile) ∧
    (leading1.lead.tile = 1 ∧ leading1.lead.handover = none ∧ leading1.lead.cold = 0 ∧ (leading1.tileN 0).twin = .paired ∧ up.lead.tile ≠ 1) ∧
    ((vget leading1.qen.ports 0 Port.reset).link = 0 ∧ leading1.lead.recvAt = some 999_000_000 ∧ leading1.now ≤ 999_000_000 + 2_500_000 ∧ (leading1.tileN 0).pairedAt = some 500_000_000 ∧ 500_000_000 ≤ leading1.now) ∧
    ((let s : State := { up with lead := { LeadSt.reset with handover := some (999_984_000, 1, 0) } }; s.lead.handover = some (999_984_000, 1, 0) ∧ 999_984_000 + 16000 ≤ s.now ∧ s.now < 999_984_001 + 16000)) ∧
    (up.hostRuns = true ∧ (up.tileN up.standby).on 10 = true ∧ (coldLead 1 0).hostRuns = false) ∧
    ((let bs := pres5.header up.lead.oldSlot 0 64; bs.take 64 = pres5.header up.lead.oldSlot (leAt bs 40 2) bs.length ∧ badSection (leAt bs 40 2) (bs.drop 64) = none)) ∧
    ([].take 64 ≠ pres5.header up.lead.oldSlot (leAt [] 40 2) 0 ∧ 16 ≤ (zeros 16).length ∧ 0 = leAt (zeros 16) 4 4 ∧ leAt (zeros 16) 12 4 = crc32c []) ∧
    ((({ up with lead := { LeadSt.reset with sent := some pres5 } } : State).lead.sent = some pres5 ∧ up.lead.sent = none)) ∧
    ((let s := copyDone .armed none; (0 : Fin 8).val < s.nTiles ∧ (s.tile 0).copying = true ∧ (s.tileN (partnerOf 0)).printing = true ∧ vget s.linkUp 0 true = true ∧ s.armed = true ∧ (s.tile 0).rejoinSeq = none)) ∧
    ((let s := copyDone .armed (some 4); s.armed = true ∧ (s.tile 0).rejoinSeq = some 4 ∧ (4 : Nat) ≠ 0)) ∧
    ((lonelyCopy.tile 0).copying = true ∧ lonelyCopy.timeAlone 0 = true ∧ (lonelyCopy.tileN (partnerOf 0)).printing = false) ∧
    ((copyDone .idle (some 4)).armed = false ∧ ((copyDone .idle (some 4)).tile 0).copying = true ∧ (up.tile 0).copying = false) := by
  iterate 8 refine ⟨by decide +kernel, ?_⟩
  refine ⟨⟨rfl, rfl⟩, ?_⟩
  iterate 3 refine ⟨by decide +kernel, ?_⟩
  exact by decide +kernel

/-- A commit that T0 is still to prepare, or whose ACK alone is missing. -/
def commitOf (preparing awaiting : List Nat) : Commit :=
  { cseq := 9, line := 5000, fixed := false, change := .disarm false, seq := 3, awaiting := awaiting, preparing := preparing, committed := false }
/-- The package with that commit. -/
def committing (preparing awaiting : List Nat) : State :=
  { jobAt .armed with job := { (jobAt .armed).job with commits := [commitOf preparing awaiting] } }
/-- The package with T0 and T1 at stages of their boot. -/
def booting (a b : Nat) : State :=
  { up with tiles := (up.tiles.set 0 { upTile with boot := { Boot.reset with stage := a } }).set 1 { upTile with boot := { Boot.reset with stage := b } } }
/-- The package too hot to switch PD_CTL of T0 on. -/
def tooHot : State := { up with tiles := up.tiles.set 0 { upTile with pdBusy := 4, boot := { Boot.reset with stage := 1 }, thm := { upTile.thm with sensorBad := true } } }
/-- A flash write of a type for a packet, tried a number of times. -/
def flashJob (type seq tries : Nat) : FlashJob := { FlashJob.of type seq with tries := tries, pres := some pres5 }
/-- The package with that write in progress. -/
def writing (type seq tries : Nat) : State := { asking 1 with flash := { up.flash with jobs := [flashJob type seq tries] } }

theorem witness_CommitsAndBootAdvance :
    (((committing [0] [0]).job.commits.find? (fun c => c.cseq == 9) = some (commitOf [0] [0]))) ∧
    ((0 : Fin 8).val ∈ (commitOf [0] [0]).preparing ∧ (0 : Fin 8).val ∉ (commitOf [] [0]).preparing ∧ (0 : Fin 8).val ∈ (commitOf [] [0]).awaiting ∧ (0 : Fin 8).val ∉ (commitOf [] []).awaiting) ∧
    ((up.job.commits.find? (fun c => c.cseq == 9) = none)) ∧
    (((booting 1 1).tile 0).boot.stage = 1 ∧ (booting 1 1).heatForbids 0 = false ∧ (tooHot.tile 0).boot.stage = 1 ∧ tooHot.heatForbids 0 = true) ∧
    (((booting 2 1).tile 0).boot.stage = 2 ∧ (0 : Fin 8).val = (booting 2 1).flash.owner ∧ (1 : Fin 8).val ≠ (booting 2 1).flash.owner) ∧
    (((booting 3 1).tile 0).boot.stage = 3 ∧ ((booting 4 1).tile 0).boot.stage = 4 ∧ ((booting 5 1).tile 0).boot.stage = 5 ∧ ((booting 6 1).tile 0).boot.stage = 6 ∧ ((booting 7 1).tile 0).boot.stage = 7) ∧
    ((0 : Fin 8).val = (booting 7 1).lead.tile ∧ (1 : Fin 8).val ≠ (booting 7 7).lead.tile ∧ 8 ≤ (up.tile 0).boot.stage) ∧
    ((let s : State := { booting 2 1 with flash := { up.flash with dirs := up.flash.dirs.map (fun d => { d with stateA := 1, stateB := 1 }) } }; (s.tile 0).boot.asked = false ∧ s.flash.stateOf (1 - (s.tile 0).boot.slot) = 1 ∧ s.lead.updating = [])) ∧
    ((let s := booting 3 2; (s.tile 1).boot.stage = 2 ∧ 3 ≤ (s.tileN s.flash.owner).boot.stage ∧ (s.tileN s.flash.owner).boot.stage ≤ 8 ∧ (s.tile 0).boot.stage ≠ 2 ∧ (s.tile 0).boot.stage ≠ 5)) ∧
    ((booting 2 2).lead.tile = 0 ∧ ((booting 2 2).tileN 0).boot.stage ≤ 2 ∧ ((booting 2 2).tileN 0).boot.reached = false ∧ ((booting 15 2).tileN 0).boot.stage = 15 ∧ ledBy1.lead.tile ≠ 0) := by
  refine ⟨rfl, ?_⟩
  refine ⟨by decide +kernel, ?_⟩
  refine ⟨rfl, ?_⟩
  iterate 6 refine ⟨by decide +kernel, ?_⟩
  exact by decide +kernel

theorem witness_ResetAndDomainsKeepSupplies :
    ((State.reset.tile 0).boot.aonValid = false ∧ (({ up with tiles := up.tiles.set 0 { upTile with boot := { upTile.boot with aonValid := true } } } : State).tile 0).boot.aonValid = true) ∧
    (bit (tooHot.tile 0).pdBusy (2 : Fin 15).val = true ∧ (2 : Fin 15).val ≠ 1 ∧ bit (up.tile 0).pdBusy 1 = false ∧ tooHot.heatForbids 0 = true) ∧
    ((0 : Fin 8).val < 2 ∧ ({ upTile.boot with vbat := 1999 } : Boot).vbat < 2000 ∧ ¬ ((0 : Fin 8).val < 2 ∧ false = true ∧ (up.tile 0).boot.vbat < 2000)) ∧
    ((let s : State := { up with tiles := up.tiles.set 0 { upTile with boot := { upTile.boot with onBat := true } } }; (s.tile 0).boot.onBat = true ∧ (up.tile 0).boot.onBat = false)) :=
  ⟨by decide +kernel, by decide +kernel, by decide +kernel, by decide +kernel⟩

theorem witness_ServicePathsAnswer :
    (((writing 1 1 0).flash.jobs = flashJob 1 1 0 :: [] ∧ (flashJob 1 1 0).type = 1 ∧ (flashJob 1 1 0).pres = some pres5)) ∧
    ((flashJob 2 0 0).type = 2 ∧ (flashJob 0 1 0).type = 0 ∧ (flashJob 2 0 5).seq = 0 ∧ (flashJob 0 1 0).tries = 0 ∧ (flashJob 0 1 1).seq ≠ 0 ∧ 1 ≤ (flashJob 0 1 1).tries) ∧
    (((writing 0 1 1).entry 1).any (fun e => e.st != .done) = true ∧ up.flash.jobs.isEmpty = true ∧ up.hostRuns = true) ∧
    (({ up with lead := { LeadSt.reset with updating := [(1, 0, 999_999_999)] } } : State).lead.updating.find? (fun u => decide (u.2.2 < up.now)) = some (1, 0, 999_999_999)) ∧
    ((flashJob 3 0 0).type = 3 ∧ (flashJob 4 0 0).type = 4 ∧ (writing 0 1 0).flash.dir.good = true ∧ (writing 0 1 0).flash.dir.dseq + 1 < 2 ^ 32) ∧
    (ballAt .ga402 ((tileOrigin .ga402 1).1 + 12) ((tileOrigin .ga402 1).2 + 21) = tileBall 1 13 22 ∧ (1 < Part.ga402.tiles)) := by
  refine ⟨⟨rfl, rfl, rfl⟩, ?_⟩
  iterate 4 refine ⟨by decide +kernel, ?_⟩
  exact by decide +kernel

/-- Port 0 running on the timing of timingBlock, in a pacing, its frame begun some ticks ago, the port changed further. -/
def port0 (pacing age : Nat) (f : DspPort → DspPort) : State :=
  { up with dsp := up.dsp.set 0 (f { DspPort.reset with st := 4, hpd := true, rate := 1, pacing := pacing, timing := some (timingOf timingBlock 1 pacing)
                                                        frameAt := 1_000_000_000 - age }) }
/-- The timing of port 0. -/
def mode0 (pacing : Nat) : Timing := timingOf timingBlock 1 pacing
/-- TE0 moved, as its filter sees it, and port 0 in the blanking of a frame. -/
def teMoved (level : Bool) (since : Nat) (f : DspPort → DspPort) : State :=
  { port0 0 4_160_000 f with motion := { Motion.reset with te := Vector.replicate 2 { raw := level, since := since, filt := !level } } }
/-- Port 0 shows a flip that a packet waits for. -/
def flipping : State := { shown with dispFlip := [{ seq := 1, left := 1, frame := 0, source := 1, surface := 8192 }], qen := (asking 1).qen }

theorem witness_FramesKeepTheirPacing :
    ((let d := (port0 1 4_200_000 id).dport 0; d.timing = some (mode0 1) ∧ d.sends = true ∧ d.phase = 2 ∧ d.change = none ∧ (mode0 1).pacing = 1)) ∧
    ((let s := port0 1 4_200_000 id; (mode0 1).vtotal ≤ (s.dport 0).lineAt s.now ∧ ((port0 1 4_100_000 id).dport 0).lineAt s.now < (mode0 1).vtotal)) ∧
    ((let s := port0 1 4_200_000 (fun d => { d with halved := true }); min (2 * (mode0 1).vtotal) (mode0 1).vtotalMax ≤ (s.dport 0).lineAt s.now)) ∧
    ((let s := port0 0 4_200_000 (fun d => { d with te := some (0, 740) }); (mode0 0).pacing ≠ 1 ∧ (s.dport 0).teLost = false ∧ max (mode0 0).vtotal (740 + (PMap.item (s.dport 0).shown.items Pid.dspTeDelay).toNat) ≤ (s.dport 0).lineAt s.now)) ∧
    ((let s := port0 0 4_100_000 (fun d => { d with te := some (0, 730) }); (s.dport 0).lineAt s.now < max (mode0 0).vtotal (730 + (PMap.item (s.dport 0).shown.items Pid.dspTeDelay).toNat))) ∧
    ((let s := port0 0 4_200_000 id; (s.dport 0).te = none ∧ (s.dport 0).teSkip = 0 ∧ (mode0 0).vtotalMax ≤ (s.dport 0).lineAt s.now)) ∧
    ((let s := port0 1 4_000_000 (fun d => { d with phase := 0 }); (s.dport 0).phase = 0 ∧ (mode0 1).vactive ≤ (s.dport 0).lineAt s.now ∧ (s.dport 0).change = none)) ∧
    ((let s := port0 1 3_900_000 (fun d => { d with phase := 0, change := some (mode0 1, 2) }); (s.dport 0).lineAt s.now < (mode0 1).vactive ∧ (s.dport 0).change = some (mode0 1, 2))) ∧
    ((let s := port0 1 4_200_000 (fun d => { d with phase := 1 }); (s.dport 0).phase = 1 ∧ (s.dport 0).change = none ∧ s.dispOff = none ∧ (s.dport 0).lineBase = 0 ∧ (mode0 1).vtotal ≤ (s.dport 0).lineAt s.now)) ∧
    ((let s := port0 1 0 (fun d => { d with phase := 0 }); (s.dport 0).st = 4 ∧ 0 < (mode0 1).vactive ∧ 1279 < (mode0 1).hactive ∧ 0 = (s.dport 0).lineAt s.now ∧ (s.dport 0).underSeen ≠ some 0)) := by
  iterate 9 refine ⟨by decide +kernel, ?_⟩
  exact by decide +kernel

theorem witness_PortsLatchAndFollowTheirSinks :
    (((flipping.dispFlip.filter (fun f => bit f.left (0 : Fin 2).val)).getLast? = some { seq := 1, left := 1, frame := 0, source := 1, surface := 8192 })) ∧
    ((shown.dispFlip.filter (fun f => bit f.left (0 : Fin 2).val) = [] ∧ flipping.dispFlip = [{ seq := 1, left := 2 ^ (0 : Fin 2).val, frame := 0, source := 1, surface := 8192 }])) ∧
    ((shown.convAt 0 (PMap.item shown.job.base.items Pid.dspConv).toNat).isSome = true ∧ shown.srcOk (PMap.item shown.job.base.items Pid.dspSrc).toNat = true) ∧
    ((flipping.entry 1).any (fun e => e.st != .done) = true ∧ (0 : Fin 2).val = flipping.lead.tile ∧ (255 : Nat) < 256) ∧
    ((let s := teMoved true 999_000_000 id; (vget s.motion.te 0 PinSt.reset).due (s.itemN Pid.dspTeFilt) s.now = true ∧ (vget (teMoved true 1_000_000_000 id).motion.te 0 PinSt.reset).due (s.itemN Pid.dspTeFilt) s.now = false)) ∧
    ((let s := teMoved true 999_900_000 id; let d := s.dport 0; d.sends = true ∧ d.pacing = 0 ∧ (vget s.motion.te 0 PinSt.reset).raw ≠ decide (d.frameSet.1 = 1) ∧ (d.timing.map (·.vactive)).getD 0 ≤ d.lineAt 999_900_000 ∧ d.te = none ∧ d.halved = false)) ∧
    ((let s := teMoved true 999_900_000 (fun d => { d with halved := true }); (s.dport 0).halved = true ∧ (s.dport 0).teSkip = 0 ∧ (s.dport 0).teLost = false ∧ (vget (teMoved false 0 id).motion.te 0 PinSt.reset).raw = false)) ∧
    ((let s : State := { up with job := { Job.reset with base := { PrintSet.reset with items := PMap.putAll [] [(Pid.dspSrc, 4)] } } }; let v := { (shown.dport 0) with shown := { (shown.dport 0).shown with items := s.job.base.items } }; shown.dispPd 0 = true ∧ bits (PMap.item v.shown.items Pid.dspSrc).toNat (2 * (1 : Fin 4).val + 1) (2 * (1 : Fin 4).val) ≠ 0)) ∧
    ((shown.dport 0).hpd = true ∧ (up.dport 0).hpd = false) ∧
    ((let s : State := { up with dispLast := some (mode0 1), dsp := up.dsp.set 0 { DspPort.reset with st := 1 } }; (s.dport 0).hpd = false ∧ s.dispPd 0 = true ∧ (s.dport 0).st ≠ 0 ∧ s.dispLast = some (mode0 1) ∧ up.dispLast = none)) ∧
    ((shown.dport 0).sends = true ∧ 2 ≤ (shown.dport 0).st ∧ shown.dispOff = none) ∧
    ((let s : State := { port0 1 0 (fun d => { d with st := 5, lostAt := 975_000_000 }) with dispLast := some (mode0 1) }; (s.dport 0).st = 5 ∧ (s.dport 0).hpd = true ∧ (s.dport 0).lostAt + 25_000_000 ≤ s.now ∧ s.now < 975_000_001 + 25_000_000)) ∧
    ((let s := port0 1 0 (fun d => { d with st := 2, change := some (mode0 0, 4) }); (s.dport 0).st = 2 ∧ (s.dport 0).change = some (mode0 0, 4) ∧ (s.dport 0).timing = some (mode0 1))) ∧
    ((let s := port0 1 0 (fun d => { d with st := 2 }); (s.dport 0).st = 2 ∧ (s.dport 0).change = none ∧ (s.dport 0).timing = some (mode0 1) ∧ (s.dport 0).fallback = false ∧ (shown.dport 0).st ≠ 2)) ∧
    ((let s := port0 1 4_200_000 (fun d => { d with st := 3, phase := 1, change := some (mode0 1, 5) }); (s.dport 0).change = some (mode0 1, 5) ∧ (s.dport 0).sends = true ∧ (s.dport 0).phase = 1 ∧ (mode0 1).vtotal ≤ (s.dport 0).lineAt s.now)) ∧
    ((shown.dport 0).shown.source = 0 ∧ (shown.dport 0).shown.prod.isNone = true ∧ bit shown.activeCh 11 = false) ∧
    ((let v := { (shown.dport 0).shown with source := 1, surface := 8192 }; v.source ≠ 0 ∧ (shown.tileN 0).desc v.surface = none)) ∧
    ((List.replicate 807 (1023 : Nat)).length = 807 ∧ ∀ v ∈ (List.replicate 807 (1023 : Nat)).drop 36, v ≤ 1023) := by
  refine ⟨rfl, ?_⟩
  refine ⟨⟨rfl, rfl⟩, ?_⟩
  iterate 15 refine ⟨by decide +kernel, ?_⟩
  exact by decide +kernel

/-- The package with T0's DRAM controller as given. -/
def memcAs (f : Memc → Memc) : State := { up with tiles := up.tiles.set 0 { upTile with memc := f { Memc.reset with st := 2 } } }
/-- A request of a port for a granule, and a controller in which requests of ports wait, or stand in the queue of channel 0. -/
def dreq (port da bytes : Nat) : DramReq := { port := port, da := da, bytes := bytes, at_ := 0, rowLine := none }
def waitingAt (p q : Nat) : Memc :=
  let m : Memc := { Memc.reset with st := 2 }
  { m with waitq := vset (vset m.waitq p [dreq p 0 64]) q [dreq q 0 64] }
def queuedAt (r : DramReq) (poison : List Nat) : State := memcAs (fun m => { m with chq := vset m.chq 0 [r], poison := poison })

theorem witness_DramLeavesInOrderAndPauses :
    ((0 : Fin 8).val < up.nTiles ∧ (up.memc 0).st = 2 ∧ (State.reset.memc 0).st ≠ 2 ∧ (1 : Nat) ≠ (0 : Fin 4).val) ∧
    ((let m := (memcAs (fun m => { m with ceLast := some 750_000_001 })).memc 0; m.ceLast = some 750_000_001 ∧ up.now < 750_000_001 + 250_000_000)) ∧
    (vget ((memcAs (fun m => { m with panic := vset m.panic 0 (some 999_975_000) })).memc 0).panic 0 none = some 999_975_000 ∧ vget (up.memc 0).panic (0 : Fin 3).val none = none) ∧
    ((let s := memcAs (fun m => { m with freqPend := true }); (s.memc 0).pause = none ∧ (s.memc 0).freqPend = true ∧ (List.range 3).all (fun p => decide (1500 + s.itemN (Pid.memcRtGuard 0) ≤ s.tolerance 0 p)) = true)) ∧
    ((let s := memcAs (fun m => { m with trainPend := true, trainDue := some 0 }); (s.memc 0).freqPend = false ∧ (s.memc 0).trainPend = true ∧ (List.range 3).all (fun p => decide (100 + s.itemN (Pid.memcRtGuard 0) ≤ s.tolerance 0 p)) = true)) ∧
    ((up.memc 0).freqPend = false ∧ (up.memc 0).trainPend = false ∧ (up.memc 0).trainDue = none) ∧
    (((memcAs (fun m => { m with pause := some (0, 5) })).memc 0).pause = some (0, 5) ∧ ((memcAs (fun m => { m with pause := some (1, 5) })).memc 0).pause = some (1, 5)) ∧
    ((∀ a, ((memcAs (fun m => { m with pause := some (1, 5) })).memc 0).pause ≠ some (0, a))) ∧
    ((∀ a, (up.memc 0).pause ≠ some (1, a))) ∧
    ((let s := memcAs (fun m => { m with trainDue := some 1_000_000_000 }); (s.memc 0).trainPend = false ∧ (s.memc 0).trainDue = some 1_000_000_000 ∧ 1_000_000_000 ≤ s.now ∧ s.now < 1_000_000_001)) ∧
    ((vget ((queuedAt (dreq 0 0 64) [8]).memc 0).chq 0 []).head? = some (dreq 0 0 64) ∧ (8 ∈ ((queuedAt (dreq 0 0 64) [8]).memc 0).poison) ∧ 8 / 64 = (dreq 0 0 64).da / 64) ∧
    ((vget ((queuedAt (dreq 1 16 8) [16]).memc 0).chq 0 []).head? = some (dreq 1 16 8) ∧ (dreq 1 16 8).port = 1 ∧ (24 % 8 = 0 ∧ 24 / 64 = (dreq 1 16 8).da / 64)) ∧
    ((let m := { waitingAt 0 1 with panic := vset (waitingAt 0 1).panic 1 (some 0) }; (vget m.chq 0 []).length < queueDepth ∧ (vget m.panic 1 none).isSome = true ∧ m.readyFor 0 1 = some (dreq 1 0 64) ∧ (vget m.panic 0 none).isSome = false)) ∧
    ((let m := waitingAt 3 4; (∀ q, q < 3 → (vget m.panic q none).isSome = false) ∧ m.readyFor 0 (vget m.turn 0 (0, 0)).1 = none ∧ Memc.reset.readyFor 0 0 = none)) ∧
    ((let m := waitingAt 0 4; m.readyFor 0 (vget m.turn 0 (0, 0)).1 = some (dreq 0 0 64) ∧ (vget m.turn 0 (0, 0)).2 < up.itemN (Pid.memcWt 0) / 16 ^ 0 % 16)) ∧
    (queueDepth ≤ (vget ({ Memc.reset with chq := vset Memc.reset.chq 0 (List.replicate 32 (dreq 0 0 64)) } : Memc).chq 0 []).length) ∧
    (((memcAs (fun m => { m with scrubH := 1 })).memc 0).scrubH ≠ 0) ∧
    ((let s := memcAs (fun m => { m with trainPend := true, trainDue := some 0, deferMs := 4 }); (s.memc 0).pause = none ∧ 0 + 250_000 * (s.memc 0).deferMs ≤ s.now)) := by
  iterate 7 refine ⟨by decide +kernel, ?_⟩
  iterate 2 refine ⟨(by intro a h; cases h), ?_⟩
  iterate 8 refine ⟨by decide +kernel, ?_⟩
  exact by decide +kernel

/-- The package with T0's heat and trim blocks as given. -/
def heatAs (f : Thm → Thm) (g : Trm → Trm) : State := { up with tiles := up.tiles.set 0 { upTile with thm := f Thm.reset, trm := g Trm.reset } }

theorem witness_HeatIsMeasuredAndShed :
    ((0 : Fin 8).val < up.nTiles ∧ (up.thm 0).warn = false ∧ (up.thm 0).shut = false ∧ (up.thm 0).sensorBad = false ∧ (up.thm 0).step = 0) ∧
    (tempOk 400 true = true ∧ tempOk (-550) true = true ∧ tempOk 1500 true = true ∧ tempOk 1501 true = false ∧ tempOk 400 false = false) ∧
    ((let m := meanTemp ((400 :: (up.thm 0).conv).take 4); m < up.item (Pid.thmWarn 0) ∧ m < up.item (Pid.thmThrot 0) ∧ m < up.item (Pid.thmShut 0))) ∧
    ((let w := up.item (Pid.thmWarn 0); let m := meanTemp ((w :: (up.thm 0).conv).take 4); w ≤ m ∧ m < up.item (Pid.thmThrot 0) ∧ m < up.item (Pid.thmShut 0) ∧ tempOk w true = true)) ∧
    ((let s := heatAs (fun x => { x with warn := true }) id; let m := meanTemp ((300 :: (s.thm 0).conv).take 4); (s.thm 0).warn = true ∧ (s.thm 0).shut = false ∧ m < s.item (Pid.thmWarn 0) - s.item (Pid.thmWarnHyst 0) ∧ m < s.item (Pid.thmThrot 0) ∧ m < s.item (Pid.thmShut 0))) ∧
    ((let s := heatAs (fun x => { x with sensorBad := true, goodRun := 99 }) id; (s.thm 0).sensorBad = true ∧ (s.thm 0).goodRun = 99)) ∧
    ((up.thm 0).badRun < 2 ∧ (up.thm 0).conv = [] ∧ ((heatAs (fun x => { x with badRun := 2 }) id).thm 0).badRun = 2) ∧
    ((let s := heatAs (fun x => { x with applied := vset x.applied 0 (some (200, 0)) }) id; vget (s.thm 0).applied (0 : Fin 4).val none = some (200, 0) ∧ vget (up.thm 0).applied (0 : Fin 4).val none = none ∧ (up.thm 0).timer = none)) ∧
    ((let s := heatAs (fun x => { x with timer := some 0, step := 1, temp := 1400, conv := [1400] }) id; (s.thm 0).timer = some 0 ∧ 0 + 250_000 * (s.thm 0).stepT ≤ s.now ∧ (s.thm 0).step ≠ 0 ∧ (s.thm 0).reaches (s.item (Pid.thmThrot 0)) = true ∧ (s.thm 0).step < 4)) ∧
    ((let s := heatAs (fun x => { x with timer := some 0, step := 1, temp := 300, conv := [300] }) id; (s.thm 0).reaches (s.item (Pid.thmThrot 0)) = false ∧ (s.thm 0).below (s.item (Pid.thmThrot 0) - s.item (Pid.thmThrotHyst 0)) = true)) ∧
    ((let s := heatAs (fun x => { x with timer := some 1_000_000_000, stepT := 100, step := 4, sensorBad := true }) id; 4 ≤ (s.thm 0).step ∧ (s.thm 0).below (s.item (Pid.thmThrot 0) - s.item (Pid.thmThrotHyst 0)) = false ∧ s.now < 1_000_000_000 + 250_000 * (s.thm 0).stepT)) ∧
    (100 ≤ 100 ∧ 0 < 2 ∧ 300 < 305 ∧ 305 - 5 ≤ 300 ∧ 2 ≤ 7 ∧ 300 < 307 ∧ 307 - 7 ≤ 300) := by
  iterate 11 refine ⟨by decide +kernel, ?_⟩
  exact by decide +kernel

theorem witness_TrimRunsCorrectAtTheirBoundary :
    ((up.trm 0).run = none ∧ ((heatAs id (fun x => { x with run := some (4, [1]) })).trm 0).run = some (4, [1]) ∧ (up.trm 0).queue = []) ∧
    ((0 : Fin 8).val < 2 ∧ (up.tile 0).on 14 = true ∧ (up.enc (Quad.num .lensL)).edgeAt + up.itemN (Pid.trmEdgeFree 0) ≤ up.now) ∧
    ((0 : Fin 8).val < 2 ∧ 2 ≤ (2 : Fin 8).val ∧ ({ up with time := 0 } : State).now < (up.enc 1).edgeAt + up.itemN (Pid.trmEdgeFree 0)) ∧
    ((1, [5]) ∈ ({ Trm.reset with waiting := [(1, [5])] } : Trm).waiting ∧ 1 ∈ [1] ∧ Trm.reset.sets = []) ∧
    ((let a : TrimSet := { temp := 300, values := [] }; ({ Trm.reset with sets := [a] } : Trm).sets = [a] ∧ 2 * (a.temp - 310).natAbs ≤ 20 ∧ 20 < 2 * (a.temp - 311).natAbs)) ∧
    (({ Trm.reset with sets := [{ temp := 300, values := [] }] } : Trm).sets.length < 8) := by
  iterate 5 refine ⟨by decide +kernel, ?_⟩
  exact by decide +kernel

/-! ## The spec's worked examples -/

/-- 03 R119: the CRC-32C of "123456789". -/
theorem test_crc32c_check_value : crc32c [0x31, 0x32, 0x33, 0x34, 0x35, 0x36, 0x37, 0x38, 0x39] = 0xE306_9283 := by decide +kernel

/-- The surface of the worked stream: one line, one plane, 32 samples (03, after R120). -/
def workedDesc : Desc := { kind := 0, width := 32, height := 1, depth := 1, sheight := 0, scount := 1, stable := 0 }
/-- Its strip, from the table. -/
def workedStrip : List Byte :=
  [0x47, 0x53, 1, 0, 0, 0, 0, 0, 1, 0, 1, 0, 0x20, 0, 0, 0, 1, 0, 0, 0, 0x00, 0x02, 0x0C, 0x24, 0x58, 0xD0, 0xE0, 0x41, 0x84, 0x04, 0x03, 0x02,
    0x20, 0, 0, 0, 0x4E, 0x79, 0xDD, 0x46]

theorem test_worked_stream_decodes :
    verifyStrip workedDesc 0 workedStrip false = (0, (List.range 32).map (BitVec.ofNat 8)) := by decide +kernel

theorem test_worked_stream_encodes : encodeStrip workedDesc 1 0 ((List.range 32).map (BitVec.ofNat 8)) = workedStrip := by decide +kernel

/-- 04, after R152: the CLOVE dot. -/
theorem test_clove_dot_blends : blend 255 60 0 = 60 ∧ opacity 200 160 = 125 ∧ blend 125 200 60 = 129 ∧ blend 0 0 129 = 129 := by decide +kernel

/-- The slot table of the window worked through in 07. -/
def workedSlots : SlotTbl :=
  { map := [0, 0, 0, 1, 1, 1, 2, 2, 7, 3, 3, 8, 4, 9, 10, 5, 11, 12, 6, 13, 14, 15, 15, 15]
    energy := [0, 2000, 4000, 6000, 8000, 10000, 12000, 3600, 5400, 7600, 7200, 9500, 9000, 11400, 10800, 400] }
/-- Its part: 256 nozzles. -/
def workedDots : List (Nat × Nat) :=
  List.replicate 20 (6, 2) ++ List.replicate 20 (6, 0) ++ List.replicate 60 (4, 0) ++ List.replicate 156 (0, 0)

theorem test_governor_worked_through :
    let g := govern workedSlots 19_300_000 20_000_000 workedDots
    g.e = 700_000 ∧ g.lowered.length = 124 ∧ g.dropped = [] ∧
      g.dots = List.replicate 20 (3, 2) ++ List.replicate 20 (3, 0) ++ List.replicate 4 (3, 0) ++ List.replicate 56 (4, 0) ++
        List.replicate 156 (0, 0) := by decide +kernel

/-! ## One step -/

/-- A step that answers a next state, seen through a test of it. -/
def nextIs (o : Host.Outcome State Fault Refusal) (p : State → Bool) : Bool :=
  match o with
  | .next s => p s
  | _ => false

/-- An idle step is a tick of TIMECLK (log 9). -/
theorem test_idle_step_ticks : nextIs (step State.reset) (fun s => s.now == 1) = true := by decide +kernel

/-- The package after reset: stage ROM of every tile, PD_AON alone on (01 R52, 19 R576). -/
theorem test_reset_stage : ((State.reset.tile 0).boot.stage, (State.reset.tile 7).pdOn) = (1, 1) := by decide +kernel

/-- T0 passes stage ROM: the next stage is IMAGE (19 R576). -/
theorem test_boot_stage_rom : nextIs (exec (.boot 0 .pass) State.reset) (fun s => (s.tile 0).boot.stage == 2) = true := by decide +kernel

/-- A tile that the part lacks stops the machine. -/
theorem test_absent_tile_stops :
    (match exec (.pllUnlock 2) { State.reset with part := .ga402 } with | .fault .absentUnit => true | _ => false) = true := by
  decide +kernel

/-- DIAG.ECHO returns its words (13). -/
theorem test_diag_echo : nextIs (exec (.diagEcho (pk 0xF01 [5, 6])) up)
    (fun s => (s.entry 1).any (fun e => e.st == .done && e.status == 0 && e.r0 == 5 && e.r1 == 6)) = true := by decide +kernel

/-- A packet with a reserved field set (12 R400). -/
theorem test_reserved_field : nextIs (exec (.jobDisarm (pk 0x303 [0, 0, 0, 0, 0, 0, 0, 1])) up)
    (fun s => (s.entry 1).any (fun e => e.st == .done && e.status == St.rsvdSet)) = true := by decide +kernel

/-- A command that is not served is not acknowledged (20 R612). -/
theorem test_smb_other_nack : nextIs (exec (.smbOtherNack 0x33) up) (fun s => s.smbNack) = true := by decide +kernel

/-! ## WellFormed refuses an ill-formed term of each check -/

theorem test_wf_packet :
    (Instr.jobArm (pk 0x301 [])).wellFormed = true ∧ (Instr.jobArm (pk 0x302 [])).wellFormed = false ∧
      (Instr.jobArm { pk 0x301 [] with q := 256 }).wellFormed = false := by decide

theorem test_wf_register :
    (Instr.registerWrite 0x40000 1).wellFormed = true ∧ (Instr.registerWrite 0x40002 1).wellFormed = false ∧
      (Instr.registerWrite 0x400_0000 1).wellFormed = false ∧ (Instr.loRegisterReadLatch 2).wellFormed = false := by decide

theorem test_wf_numbers :
    (Instr.lineCompute 0 (2 ^ 48)).wellFormed = false ∧ (Instr.positionMessageReceive 0 (2 ^ 48)).wellFormed = false ∧
      (Instr.hubFireInstant (2 ^ 14) 0).wellFormed = false ∧ (Instr.vbatMeasure 0 (2 ^ 16)).wellFormed = false ∧
      (Instr.smbOtherNack 256).wellFormed = false ∧ (Instr.commitAckReceive 0 (2 ^ 32)).wellFormed = false ∧
      (Instr.lensTrackLost 4).wellFormed = false ∧ (Instr.jtagExtest true 32).wellFormed = false ∧
      (Instr.timeAnnounceReceive (2 ^ 40) 0).wellFormed = false ∧ (Instr.absFrameReceived 0 false false (2 ^ 6)).wellFormed = false := by decide

theorem test_wf_boot :
    (Instr.boot 0 (.fail 255)).wellFormed = true ∧ (Instr.boot 0 (.fail 256)).wellFormed = false ∧
      (Instr.imageReceive 1 (.fail 256)).wellFormed = false := by decide

theorem test_wf_frames :
    (Instr.colourReportReceive (reportOf 0 0 8 0)).wellFormed = false ∧ (Instr.helloReceive 0 0 (helloOf 7 (some 7) 5)).wellFormed = false ∧
      (Instr.statusFrameReceive { status7 with counters := [] }).wellFormed = false ∧ (Instr.statusFrameReceive status7).wellFormed = true ∧
      (Instr.ctrlRequestReceive (ctrlFrame 0 2 [])).wellFormed = false ∧ (Instr.ctrlAnswerReceive (ctrlFrame 5 0 [])).wellFormed = false ∧
      (Instr.hubFrameReceive (2 ^ 14) .a0 .broken).wellFormed = false ∧ (Instr.hubFrameReceive 7 .a0 .broken).wellFormed = true ∧
      (Instr.eventPositionReceive (posOf (2 ^ 48))).wellFormed = false ∧
      (Instr.nodeEvent 7 0x10 0 (List.replicate 65 0)).wellFormed = false := by decide

/-! ## The ball maps of the package: the examples chapter 20 works out -/

theorem test_balls :
    ballAt .ga408 27 29 = .lane 5 3 true false ∧ ballAt .ga404 21 5 = .dq 2 1 12 ∧
      ballAt .ga404 33 19 = .quad 0 2 true ∧ ballAt .ga408 53 50 = .rail .core ∧
      rowName 27 = ['A', 'H'] ∧ rowName 53 = ['B', 'T'] := by decide +kernel
end Sys2Proof.Tests
end

section
/-! PROOF of the duplicate rule of WyrelLink: what a hub makes of a frame at a port, what a LINE or VOID does to its segment's
pending table, and what the fire instant of the lowest sequence does (10 R311, R315 to R317, R319 to R321). -/

namespace Sys2Proof.Machine

/-! ## The two rows and the ports -/

theorem exec_hubFrameReceive (s : State) (node : Nat) (port : HubPort) (f : RxFrame) :
    exec (.hubFrameReceive node port f) s = .next (s.hubReceive node port f) := rfl

theorem exec_hubFireInstant (s : State) (node seg : Nat) :
    exec (.hubFireInstant node seg) s = .next (s.updNode node (fun n => n.hubFire seg s.now)) := rfl

theorem HubPort.sideB_eq_decide (port : HubPort) : HubPort.sideB port = decide (port = .b0 ∨ port = .b1 ∨ port = .db) := by
  cases port <;> rfl

theorem HubPort.upstream_eq_not_decide (port : HubPort) : HubPort.upstream port = !decide (port = .da ∨ port = .db) := by
  cases port <;> rfl

/-! ## A frame at a port (10 R311, R316, R317) -/

theorem State.hubReceive_of_node_none {s : State} {node : Nat} (port : HubPort) (f : RxFrame) (h : s.node node = none) :
    s.hubReceive node port f = s := by
  simp only [State.hubReceive, h]

theorem State.hubReceive_of_fault {s : State} {node k : Nat} (port : HubPort) {f : RxFrame} {x : Node} (h : s.node node = some x)
    (hk : frameFault f = some k) :
    s.hubReceive node port f =
      if k = 0 then s.updNode node (fun n => n.count 0) else if k = 1 then s.updNode node (fun n => n.count 7) else s := by
  simp only [State.hubReceive, h, hk]

section
variable {s : State} {node : Nat} {port : HubPort} {bs : List Byte} {x : Node}
  (hx : s.node node = some x) (hf : frameFault (.bytes bs) = none)
include hx hf

/-- From below, a frame that is neither FILL nor hop by hop goes up on every locked port of its side. -/
theorem State.hubReceive_downstream (hp : HubPort.upstream port = false) (h3 : fld bs 0 1 ≠ 3) (h7 : fld bs 0 1 ≠ 7)
    (h15 : fld bs 0 1 ≠ 15) :
    s.hubReceive node port (.bytes bs) =
      s.updNode node (fun n => n.forward (s.hubLocked x (HubPort.sideB port)) bs) := by
  simp [State.hubReceive, hx, hf, hp, h3, h7, h15]

/-- From above, a frame addressed to the hub alone is acted on and goes no further. -/
theorem State.hubReceive_own (hp : HubPort.upstream port = true) (hall : bit (fld bs 2 2) 15 = false)
    (hdst : fld bs 2 2 % 2 ^ 14 = node) (h15 : fld bs 0 1 ≠ 15) :
    s.hubReceive node port (.bytes bs) = s.hubAct node (HubPort.sideB port) bs := by
  simp [-Nat.reducePow, State.hubReceive, hx, hf, hp, hall, hdst, h15]

/-- From above, a frame for another node goes down the chain, and at the chain's end counts unless its ID is known. -/
theorem State.hubReceive_other (hp : HubPort.upstream port = true) (hall : bit (fld bs 2 2) 15 = false)
    (hdst : fld bs 2 2 % 2 ^ 14 ≠ node) (h3 : fld bs 0 1 ≠ 3) (h5 : fld bs 0 1 ≠ 5) (h7 : fld bs 0 1 ≠ 7) (h15 : fld bs 0 1 ≠ 15) :
    s.hubReceive node port (.bytes bs) =
      if s.chained node then s.updNode node (fun n => n.forward [if HubPort.sideB port then .db else .da] bs)
      else if s.hubKnows node (fld bs 2 2 % 2 ^ 14) then s
      else s.updNode node (fun n => n.count 7) := by
  simp [-Nat.reducePow, State.hubReceive, hx, hf, hp, hall, hdst, h3, h5, h7, h15]
end

theorem State.hubAct_of_lineOrVoid (s : State) (node : Nat) (sideB : Bool) {bs : List Byte} (h : fld bs 0 1 = 1 ∨ fld bs 0 1 = 2) :
    s.hubAct node sideB bs = s.updNode node (fun n => n.hubTake sideB (hubIn bs) s.now) := if_pos h

/-! ## What makes a frame invalid (10 R315, R320) -/

theorem Node.invalid_of_unknown_segment {n : Node} {f : HubFrame} (ta : Nat) (h : n.segs.find? (fun x => x.seg == f.seg) = none) :
    n.invalid f ta = some 7 := by
  simp only [Node.invalid, h]

theorem Node.invalid_of_segment {n : Node} {f : HubFrame} {g : HubSeg} (ta : Nat)
    (h : n.segs.find? (fun x => x.seg == f.seg) = some g) :
    n.invalid f ta =
      if g.ncnt ≠ f.ncnt then some 7 else if f.fire < ta + n.hello.hubLead then some 1
      else if ta + 65_536 ≤ f.fire then some 6 else none := by
  simp only [Node.invalid, h]

/-! ## A LINE or VOID at its segment (10 R319) -/

theorem Node.hubTake_of_invalid {n : Node} {f : HubFrame} {ta c : Nat} (side : Bool) (h : n.invalid f ta = some c) :
    n.hubTake side f ta = n.count c := by
  simp only [Node.hubTake, h]

section
variable {n : Node} {f : HubFrame} {ta : Nat} {g : HubSeg} (side : Bool)
  (hv : n.invalid f ta = none) (hg : n.segs.find? (fun x => x.seg == f.seg) = some g)
include hv hg

theorem Node.hubTake_of_taken (h : f.seq ≤ g.lastAcc) : n.hubTake side f ta = n := by
  simp only [Node.hubTake, hv, hg, if_pos h]

/-- A sequence that is above LAST_ACC and not held counts where the table is full, and otherwise enters it as what its
first copy makes of an empty entry. -/
theorem Node.hubTake_of_new (hs : g.lastAcc < f.seq) (hn : ∀ e ∈ g.table, e.seq ≠ f.seq) :
    n.hubTake side f ta =
      if n.hello.pend ≤ g.table.length then n.count 5
      else
        let r := HubEntry.take { seq := f.seq, fire := f.fire, fph := f.fph, line := false, voids := 0, crc := 0, slots := [] } side f
        let n1 := { n with segs := mapIf n.segs (fun x => x.seg == f.seg) (fun x => { x with table := g.table ++ [r.1] }) }
        if r.2 then n1.count 4 else n1 := by
  have hany : g.table.any (fun e => e.seq == f.seq) = false := by simpa using hn
  have hfind : g.table.find? (fun e => e.seq == f.seq) = none := by simpa using hn
  simp [Node.hubTake, hv, hg, Nat.not_le.mpr hs, hany, hfind]

end

/-- The first LINE copy is kept with its CRC and slots, and differs from nothing. -/
theorem HubEntry.take_first_line {e : HubEntry} {f : HubFrame} {slots : List Nat} (side : Bool) (he : e.line = false)
    (hk : f.kind = .line slots) : e.take side f = ({ e with line := true, crc := f.crc, slots := slots }, false) := by
  simp [HubEntry.take, hk, he]

/-! ## The fire instant (10 R319, R321) -/

/-- What the lowest entry does at its instant, before it is taken: it is fired, or counted as missing. -/
def Node.hubPlay (n : Node) (seg : Nat) (e : HubEntry) : Node :=
  if e.line then (if n.fires e.seq then { n with fired := (seg, e.seq, e.fire, e.fph, e.slots) :: n.fired } else n)
  else n.count (if e.voids = 3 then 3 else 2)

theorem Node.hubPlay_segs (n : Node) (seg : Nat) (e : HubEntry) : (n.hubPlay seg e).segs = n.segs := by
  rw [Node.hubPlay, apply_ite Node.segs, apply_ite Node.segs]
  simp only [Node.count, ite_self]

theorem Node.hubPlay_top (n : Node) (seg : Nat) (e : HubEntry) : (n.hubPlay seg e).top = n.top := by
  rw [Node.hubPlay, apply_ite Node.top, apply_ite Node.top]
  simp only [Node.count, ite_self]

theorem Node.hubPlay_fired (n : Node) (seg : Nat) (e : HubEntry) :
    (n.hubPlay seg e).fired =
      if e.line = true ∧ n.fires e.seq = true then (seg, e.seq, e.fire, e.fph, e.slots) :: n.fired else n.fired := by
  unfold Node.hubPlay
  by_cases hl : e.line = true
  · by_cases hf : n.fires e.seq = true <;> simp [hl, hf]
  · simp [hl, Node.count]

section
variable {n : Node} {seg now : Nat} {g : HubSeg} {e : HubEntry}
  (hg : n.segs.find? (fun x => x.seg == seg) = some g) (he : g.lowest = some e)
include hg he

theorem Node.hubFire_before (h : now < e.fire) : n.hubFire seg now = n := by
  simp only [Node.hubFire, hg, he, if_pos h]

/-- At its instant the lowest entry is played, becomes LAST_ACC, and leaves the table. -/
theorem Node.hubFire_due (h : e.fire ≤ now) :
    n.hubFire seg now = { n.hubPlay seg e with
      top := max (n.hubPlay seg e).top e.seq
      segs := mapIf (n.hubPlay seg e).segs (fun x => x.seg == seg) (fun x =>
        { x with lastAcc := e.seq, table := x.table.filter (fun y => y.seq != e.seq) }) } := by
  simp only [Node.hubFire, hg, he, if_neg (Nat.not_lt.mpr h), Node.hubPlay]

theorem Node.hubFire_takes_lowest (h : e.fire ≤ now) :
    (n.hubFire seg now).segs = mapIf n.segs (fun x => x.seg == seg) (fun x =>
      { x with lastAcc := e.seq, table := x.table.filter (fun y => y.seq != e.seq) }) ∧
    (n.hubFire seg now).top = max n.top e.seq := by
  simp only [Node.hubFire_due hg he h, Node.hubPlay_segs, Node.hubPlay_top, and_self]

theorem Node.hubFire_fired (h : e.fire ≤ now) :
    (n.hubFire seg now).fired =
      if e.line = true ∧ n.fires e.seq = true then (seg, e.seq, e.fire, e.fph, e.slots) :: n.fired else n.fired := by
  simp only [Node.hubFire_due hg he h, Node.hubPlay_fired]
end

/-- Settles O45: the cases of a frame at a port, of a LINE or VOID at its segment, and of the fire instant of the lowest sequence. -/
theorem hubsFireEachLineOnce : Obligations.HubsFireEachLineOnce := by
  unfold Obligations.HubsFireEachLineOnce
  refine ⟨fun s node port f h => ?absent, fun s node port f x hx => ⟨fun hk => ?check, fun hk => ?format, fun k hk h1 => ?broken⟩,
    fun s node port bs x hx hf => ?ports, exec_hubFireInstant,
    fun n side f ta => ⟨fun h => ?unknown, fun g hg => ?segment⟩, fun n seg now g e hg he => ?instant⟩
  case absent => rw [exec_hubFrameReceive, State.hubReceive_of_node_none port f h]
  case check => rw [exec_hubFrameReceive, State.hubReceive_of_fault port hx hk, if_pos rfl]
  case format => rw [exec_hubFrameReceive, State.hubReceive_of_fault port hx hk, if_neg Nat.one_ne_zero, if_pos rfl]
  case broken =>
    rw [exec_hubFrameReceive, State.hubReceive_of_fault port hx hk, if_neg (by omega), if_neg (by omega)]
  case ports =>
    intro dst side down
    have hside : HubPort.sideB port = side := HubPort.sideB_eq_decide port
    have hup : HubPort.upstream port = !down := HubPort.upstream_eq_not_decide port
    refine ⟨fun hd hall hdst hty => ?_, fun hd h3 h7 h15 => ?_, fun hd hall hdst h3 h5 h7 h15 => ?_⟩
    · rw [exec_hubFrameReceive, State.hubReceive_own hx hf (hup.trans (congrArg not hd)) hall hdst (by omega),
        State.hubAct_of_lineOrVoid _ _ _ hty, hside]
    · rw [exec_hubFrameReceive, State.hubReceive_downstream hx hf (hup.trans (congrArg not hd)) h3 h7 h15, hside]
      rfl
    · rw [exec_hubFrameReceive, State.hubReceive_other hx hf (hup.trans (congrArg not hd)) hall hdst h3 h5 h7 h15, hside]
      refine ⟨fun hc => ?_, fun hc hk => ?_⟩
      · rw [if_pos hc]
        rfl
      · rw [if_neg (ne_true_of_eq_false hc), if_neg (ne_true_of_eq_false hk)]
  case unknown => exact Node.hubTake_of_invalid side (Node.invalid_of_unknown_segment ta h)
  case segment =>
    have hinv := Node.invalid_of_segment ta hg
    refine ⟨fun hc => ?_, fun hc hl => ?_, fun hc hl hfar => ?_, fun hv => Node.hubTake_of_taken side hv hg,
      fun hv hs hn hfull => ?_, fun hv hs hn hroom slots hk => ?_⟩
    · exact Node.hubTake_of_invalid side (by rw [hinv, if_pos hc])
    · exact Node.hubTake_of_invalid side (by rw [hinv, if_neg (not_not_intro hc), if_pos hl])
    · exact Node.hubTake_of_invalid side (by rw [hinv, if_neg (not_not_intro hc), if_neg (by omega), if_pos hfar])
    · rw [Node.hubTake_of_new side hv hg hs hn, if_pos hfull]
    · rw [Node.hubTake_of_new side hv hg hs hn, if_neg (Nat.not_le.mpr hroom), HubEntry.take_first_line side rfl hk]
      rfl
  case instant =>
    refine ⟨Node.hubFire_before hg he, Node.hubFire_takes_lowest hg he, fun hd hl hf => ?_, fun hd hno => ?_⟩
    · rw [Node.hubFire_fired hg he hd, if_pos ⟨hl, hf⟩]
    · rw [Node.hubFire_fired hg he hd, if_neg]
      rintro ⟨hl, hf⟩
      simp [hl, hf] at hno

end Sys2Proof.Machine
end

section
/-! PROOF of the fence's owner rule: which fences a session may settle, and what LAYER.SIGNAL answers where there is none
(04 R157; 13 R446). -/

namespace Sys2Proof.Machine

/-! ## The fence that a session may settle (04 R157) -/

/-- The fence lies in the job, beside the queue engine that takes the packet. -/
@[simp] theorem State.place_fenceFor (s : State) (p : Packet) (id session : Nat) :
    (s.place p).fenceFor id session = s.fenceFor id session := by
  simp only [State.fenceFor, State.place_job]

/-- R446: a fence found for a session is its own, or the session is session 0. -/
theorem State.fenceFor_some {s : State} {id session : Nat} {f : Fence} (h : s.fenceFor id session = some f) :
    f ∈ s.job.fences ∧ f.id = id ∧ (f.session = session ∨ session = 0) := by
  have mine : f ∈ s.job.fences.filter (fun f => f.id == id && (f.session == session || session == 0)) := by
    simp only [State.fenceFor] at h
    split at h
    case h_1 g hbusy => exact Option.some.inj h ▸ List.mem_of_find?_eq_some hbusy
    case h_2 => exact List.mem_of_find?_eq_some h
  simpa using mine

theorem State.fenceFor_eq_none {s : State} {id session : Nat}
    (h : ∀ f ∈ s.job.fences, f.id = id → session ≠ 0 ∧ f.session ≠ session) : s.fenceFor id session = none := by
  refine Option.eq_none_iff_forall_ne_some.mpr fun f hf => ?_
  obtain ⟨hmem, hid, hown⟩ := State.fenceFor_some hf
  obtain ⟨hzero, hother⟩ := h f hmem hid
  exact hown.elim hother hzero

/-- A busy fence is found for its own session and for session 0. -/
theorem State.fenceFor_isSome_of_busy {s : State} {id session : Nat} {f : Fence} (hmem : f ∈ s.job.fences) (hid : f.id = id)
    (hbusy : f.signal = none) (hown : session = 0 ∨ f.session = session) : (s.fenceFor id session).isSome = true := by
  have found : ((s.job.fences.filter (fun f => f.id == id && (f.session == session || session == 0))).find?
      (fun f => f.signal.isNone)).isSome = true := by
    refine List.find?_isSome.mpr ⟨f, List.mem_filter.mpr ⟨hmem, ?_⟩, by simp [hbusy]⟩
    simpa [hid] using hown.symm
  obtain ⟨g, hg⟩ := Option.isSome_iff_exists.mp found
  simp only [State.fenceFor, hg, Option.isSome_some]

/-! ## LAYER.SIGNAL (13 R446) -/

theorem exec_layerSignal (s : State) (p : Packet) : exec (.layerSignal p) s = .next (opLayerSignal.dispatch s p) := rfl

theorem checkLayerSignal_of_none {s : State} {p : Packet} (h : s.fenceFor (p.f 2 11 0) p.session = none) :
    opLayerSignal.check s p = (St.fenceUnknown, 0, 0) := by
  simp [opLayerSignal, checkLayerSignal, h]

theorem checkLayerSignal_of_isSome {s : State} {p : Packet} (h : (s.fenceFor (p.f 2 11 0) p.session).isSome = true) :
    (opLayerSignal.check s p).1 = St.ok := by
  simp [opLayerSignal, checkLayerSignal, h]

/-- Settles O9: with no fence that the session may settle the check turns the packet away, and a refusal changes the queue
engine alone; with a busy fence of its own, or of any session for session 0, the check finds that fence. -/
theorem fencesAreSignalledByTheirSession : Obligations.FencesAreSignalledByTheirSession := by
  unfold Obligations.FencesAreSignalledByTheirSession
  refine fun s p hbegun hprot hrsvd => ⟨fun hothers => ?refused, fun f hmem hid hbusy hown => ?passes⟩
  case refused =>
    have hcheck := checkLayerSignal_of_none ((State.place_fenceFor s p _ _).trans (State.fenceFor_eq_none hothers))
    have hdone := OpDef.dispatch_checked hbegun hprot hrsvd hcheck (by decide)
    refine ⟨(s.place p).done p.seq St.fenceUnknown, ?_, State.done_placed _ s p rfl _, ?_, ?_⟩
    · rw [exec_layerSignal, hdone, State.done]
    · rw [State.done, State.complete_job, State.place_job]
    · rw [State.done_beside, State.place_beside]
  case passes =>
    refine ⟨hbegun, hprot, hrsvd, checkLayerSignal_of_isSome ?_⟩
    rw [State.place_fenceFor]
    exact State.fenceFor_isSome_of_busy hmem hid hbusy hown

end Sys2Proof.Machine
end

section
/-! PROOF of the count of thermal cycles: a boot record changed on one tile, and what the cycle count makes of a filtered
temperature below TALLY_TC_LO, at TALLY_TC_HI, or neither (19 R585). -/

namespace Sys2Proof.Machine

/-! ## The boot record of a tile -/

@[simp] theorem State.boot_updBoot (s : State) (t : Tile) (f : Boot → Boot) :
    ((s.updBoot t.val f).tile t).boot = f (s.tile t).boot := by
  simp only [State.updBoot, State.updTileN_val, State.tile_updTile]

theorem State.tile_updBoot_ne (s : State) (t k : Tile) (f : Boot → Boot) (h : k ≠ t) :
    (s.updBoot t.val f).tile k = s.tile k := by
  rw [State.updBoot, State.updTileN_val, State.tile_updTile_ne s t k _ h]

/-! ## The cycle count (19 R585) -/

/-- The cycle count changes nothing but the boot record of its tile. -/
theorem State.thermCycle_frame (s : State) (t : Tile) :
    (s.thermCycle t.val).qen = s.qen ∧ (s.thermCycle t.val).job = s.job ∧ ∀ k, k ≠ t → (s.thermCycle t.val).tile k = s.tile k := by
  have changed (f : Boot → Boot) : (s.updBoot t.val f).qen = s.qen ∧ (s.updBoot t.val f).job = s.job ∧
      ∀ k, k ≠ t → (s.updBoot t.val f).tile k = s.tile k :=
    ⟨State.updBoot_qen s _ f, State.updBoot_job s _ f, fun k hk => s.tile_updBoot_ne t k f hk⟩
  simp only [State.thermCycle]
  split
  case isTrue below => exact changed _
  case isFalse =>
    split
    case isTrue reached => exact changed _
    case isFalse => exact ⟨rfl, rfl, fun _ _ => rfl⟩

section
variable {s : State} {t : Nat}

theorem State.thermCycle_of_below (h : (s.thm t).temp < s.item Pid.tallyTcLo) :
    s.thermCycle t = s.updBoot t (fun b => { b with cycleArmed := true }) := by
  simp only [State.thermCycle, if_pos h]

theorem State.thermCycle_of_reached (hlo : s.item Pid.tallyTcLo ≤ (s.thm t).temp) (hhi : s.item Pid.tallyTcHi ≤ (s.thm t).temp)
    (harmed : (s.tileN t).boot.cycleArmed = true) :
    s.thermCycle t = s.updBoot t (fun b => { b with cycleArmed := false, cycles := satInc 32 b.cycles }) := by
  simp only [State.thermCycle, if_neg (Int.not_lt.mpr hlo), harmed, hhi, decide_true, Bool.and_true, if_true]

theorem State.thermCycle_of_idle (hlo : s.item Pid.tallyTcLo ≤ (s.thm t).temp)
    (hidle : (s.tileN t).boot.cycleArmed = false ∨ (s.thm t).temp < s.item Pid.tallyTcHi) : s.thermCycle t = s := by
  have hno : ¬ ((s.tileN t).boot.cycleArmed && decide (s.item Pid.tallyTcHi ≤ (s.thm t).temp)) = true := by
    rcases hidle with unarmed | under
    · simp only [unarmed, Bool.false_and, Bool.false_eq_true, not_false_eq_true]
    · simp only [decide_eq_false (Int.not_le.mpr under), Bool.and_false, Bool.false_eq_true, not_false_eq_true]
  simp only [State.thermCycle, if_neg (Int.not_lt.mpr hlo), if_neg hno]

end

/-- Settles O10: below TALLY_TC_LO the count is armed, at TALLY_TC_HI an armed count goes up and is disarmed, and in every
other case nothing changes. -/
theorem thermalCyclesAreCounted : Obligations.ThermalCyclesAreCounted := by
  unfold Obligations.ThermalCyclesAreCounted
  refine fun s t _ => ?_
  obtain ⟨hqen, hjob, hothers⟩ := s.thermCycle_frame t
  refine ⟨hqen, hjob, hothers, fun below => ?armed, fun hlo hhi armed => ?counted, fun hlo idle => ?idle⟩
  case armed => rw [State.thermCycle_of_below below, State.boot_updBoot]
  case counted => rw [State.thermCycle_of_reached hlo hhi (by rwa [State.tileN_val]), State.boot_updBoot]
  case idle => exact State.thermCycle_of_idle hlo (by rwa [State.tileN_val])

end Sys2Proof.Machine
end

section
/-! PROOF that every step keeps the package well kept, that every command answers, and that a tick counts TIME. The first rests on
the soundness lemmas of the operations (Laws/Sound*): here stands their sum over the rows of the table (12 R404; 01 R16, R41). -/

namespace Sys2Proof.Machine

/-! ## The outcomes of a command -/

/-- A packet row's command is the dispatch of its packet. -/
theorem exec_dispatched {i : Instr} {s : State} {d : OpDef} {p : Packet} (h : dispatched i = some (d, p)) :
    exec i s = .next (d.dispatch s p) := by
  cases i <;> cases h <;> rfl

/-- A command answers a next state, or it acts on a tile or a twin, which has to exist (01 R16). -/
theorem exec_form (i : Instr) (s : State) :
    (∃ u, exec i s = .next u) ∨ (∃ t u, exec i s = onTile t s u) ∨ (∃ k u, exec i s = onTwin k s u) := by
  cases i with
  | qenSqTailWrite | qenCqHeadWrite | qenCtlEnSet | qenCtlEnClear | evrSwsetWrite | evrHtTakeRead | evrHtDoneWrite | evrCoreTakeRead 
  | evrCoreDoneWrite | evrSrcPendClear | evrSrcClrcnt | memcClrCe | memcClrUe | memcClrPanic | memcClrPause | lnkClrCnt | lnkClrTest 
  | thmClrCnt | thmClrMax | twnCauseClrlast | eventOccurrence | evrCommit | evrOfferReceive | evrReconsider | eviEdge | positionMessageReceive
  | stripDecodeStart | stripVerified | stripVerdictReceive | stripDeadline | stripMended | lineCompute | firingLineStage11 | segmentFrameDue
  | stateCopyReceive | stateRecordMissing | timeAlignCheck | blockLockAcquired | blockLockLost | helloReceive | laneTrainingDone 
  | laneTrainFail | laneDown | laneRetrainTimer | frameReceive | laneWake | laneTestInject | laneTestDone | heartbeatSend | partnerSilent 
  | partnerWithdrawReceive | assaySetStart | assaySetEnd | commitPrepareReceive | commitAckReceive | resyncCopyDone | watchdogExpiry 
  | fabricHopDown | refclkLost | pllUnlock | domainReady | dramRequestComplete | dramRefreshDue | bankIdlePrecharge | dramPauseStart 
  | memcSetChanged | dramRetrainDue | memcPauseForced | memcPanicLong | memcScrubDone | memcDramHot | thermConversion | throttleStepInterval 
  | powerEstimateUpdate | shedSavingMeasured | trimDone | encTrimApply | boot | imageReceive | pairTimeout | aonSupplySwitch | vbatMeasure 
  | dramRetrainingDone => exact .inr (.inl ⟨_, _, rfl⟩)
  | memWriteLanded | mirroredLoadReceive | twinLinkDown => exact .inr (.inr ⟨_, _, rfl⟩)
  | _ => exact .inl ⟨_, rfl⟩

theorem onTile_next {t : Tile} {s u v : State} (h : onTile t s u = .next v) : v = u := by
  unfold onTile at h
  split at h
  case isTrue present => exact (Host.Outcome.next.inj h).symm
  case isFalse absent => cases h

theorem onTwin_next {k : Fin 4} {s u v : State} (h : onTwin k s u = .next v) : v = u := by
  unfold onTwin at h
  split at h
  case isTrue present => exact (Host.Outcome.next.inj h).symm
  case isFalse absent => cases h

section
variable {s0 s u v : State}

theorem Sound.ofNext (h : (Host.Outcome.next u : Out) = .next v) (hu : Sound s0 u) : Sound s0 v := Host.Outcome.next.inj h ▸ hu
theorem Sound.ofTile {t : Tile} (h : onTile t s u = .next v) (hu : Sound s0 u) : Sound s0 v := onTile_next h ▸ hu
theorem Sound.ofTwin {k : Fin 4} (h : onTwin k s u = .next v) (hu : Sound s0 u) : Sound s0 v := onTwin_next h ▸ hu

end

/-! ## Every command keeps the package sound -/

/-- Every packet row stands in the opcode table under its own code. -/
theorem opOf_dispatched {i : Instr} {d : OpDef} {p : Packet} (h : dispatched i = some (d, p)) : opOf d.code = some d := by
  cases i <;> cases h <;> rfl

theorem exec_sound {s0 s u : State} (i : Instr) (hs : Sound s0 s) (h : exec i s = .next u) : Sound s0 u := by
  rcases packet : dispatched i with _ | ⟨d, p⟩
  case some => exact .ofNext ((exec_dispatched packet).symm.trans h) (OpDef.dispatch_sound (opOf_ok (opOf_dispatched packet)) hs)
  case none =>
    cases i with
    | qenSqTailWrite => exact .ofTile h (State.sqTail_sound hs)
    | qenCqHeadWrite => exact .ofTile h (State.cqHead_sound hs)
    | qenCtlEnSet => exact .ofTile h (State.enSet_sound hs)
    | qenCtlEnClear => exact .ofTile h (State.enClear_sound hs)
    | registerWrite => exact .ofNext h (State.barWrite_sound hs)
    | loRegisterReadLatch => exact .ofNext h (State.barRead_sound hs)
    | evrSwsetWrite => exact .ofTile h (State.swset_sound hs)
    | evrHtTakeRead => exact .ofTile h (State.htTake_sound hs)
    | evrHtDoneWrite => exact .ofTile h (State.htDone_sound hs)
    | evrCoreTakeRead => exact .ofTile h (State.coreTake_sound hs)
    | evrCoreDoneWrite => exact .ofTile h (State.coreDone_sound hs)
    | evrSrcPendClear => exact .ofTile h (State.pendClear_sound hs)
    | evrSrcClrcnt => exact .ofTile h (State.clrCount_sound hs)
    | memcClrCe => exact .ofTile h (State.memcClr_sound hs)
    | memcClrUe => exact .ofTile h (State.memcClr_sound hs)
    | memcClrPanic => exact .ofTile h (State.memcClr_sound hs)
    | memcClrPause => exact .ofTile h (State.memcClr_sound hs)
    | lnkClrCnt => exact .ofTile h (State.lnkClrCnt_sound hs)
    | lnkClrTest => exact .ofTile h (State.lnkClrTest_sound hs)
    | dspClrTrains => exact .ofNext h (State.dspClrTrains_sound hs)
    | dspClrUnder => exact .ofNext h (State.dspClrUnder_sound hs)
    | thmClrCnt => exact .ofTile h (State.updThm_sound hs)
    | thmClrMax => exact .ofTile h (State.updThm_sound hs)
    | twnCauseClrlast => exact .ofTile h (State.clrLast_sound hs)
    | packetFetch => exact .ofNext h (State.fetch_sound hs)
    | completionPost => exact .ofNext h (State.post_sound hs)
    | moderationWindowExpiry => exact .ofNext h (State.windowExpiry_sound hs)
    | msixVectorSend => exact .ofNext h (State.sendVec_sound hs)
    | pcieLinkStateChange => exact .ofNext h (State.linkState_sound hs)
    | pcieD3hotEntry => exact .ofNext h (State.d3hot_sound hs)
    | pcieD3coldEntry => exact .ofNext h (State.d3cold_sound hs)
    | pcieD0Return => exact .ofNext h (State.d0Return_sound hs)
    | pciePerst => exact .ofNext h (State.perst_sound hs)
    | pcieConfigRequest => exact .ofNext h (State.configRequest_sound hs)
    | eventOccurrence => exact .ofTile h (State.occurrence_sound hs)
    | evrCommit => exact .ofTile h (State.evrCommit_sound hs)
    | evrOfferReceive => exact .ofTile h (State.offerReceive_sound hs)
    | evrReconsider => exact .ofTile h (State.evrReconsider_sound hs)
    | eviEdge => exact .ofTile h (State.eviEdge_sound hs)
    | inputRawTransition => exact .ofNext h (State.rawTransition_sound (State.settlePin_sound hs))
    | encEdge => exact .ofNext h (State.onBoth_sound hs fun _ hs => State.encEdge_sound hs)
    | encWireFault => exact .ofNext h (State.onBoth_sound hs fun _ hs => State.wireFault_sound hs)
    | encIndex => exact .ofNext h (State.onBoth_sound hs fun _ hs => State.encIndex_sound hs)
    | encIndexMiss => exact .ofNext h (State.onBoth_sound hs fun _ hs => State.encIndexMiss_sound hs)
    | absFrameReceived => exact .ofNext h (State.onBoth_sound hs fun _ hs => State.absFrame_sound hs)
    | positionMessageReceive => exact .ofTile h (State.positionReceive_sound hs)
    | outputPulseEnd => exact .ofNext h (State.onBoth_sound hs fun _ hs => State.pulseEnd_sound hs)
    | compareApply => exact .ofNext h (State.onBoth_sound hs fun _ hs => State.compareApply_sound hs)
    | pdEdge => exact .ofNext h (State.pdEdge_sound hs)
    | carriageCodeChange => exact .ofNext h (State.carrChange_sound hs)
    | armLineEvaluation => exact .ofNext h (State.armLineEval_sound hs)
    | memoryWaitRelease => exact .ofNext h (State.waitRelease_sound hs)
    | memWriteLanded => exact .ofTwin h (State.landLoad_sound hs)
    | mirroredLoadReceive => exact .ofTwin h (State.mirrorLoad_sound hs)
    | stripDecodeStart => exact .ofTile h (State.decodeStart_sound hs)
    | stripVerified => exact .ofTile h (State.stripVerified_sound hs)
    | stripVerdictReceive => exact .ofTile h (State.verdictReceive_sound hs)
    | stripDeadline => exact .ofTile h (State.stripDeadline_sound hs)
    | stripMended => exact .ofTile h (State.stripMend_sound hs)
    | compressPassDone => exact .ofNext h (State.compressPass_sound hs)
    | lineCompute => exact .ofTile h (State.lineCompute_sound hs)
    | firingLineStage11 => exact .ofTile h (State.stage11_sound hs)
    | segmentFrameDue => exact .ofTile h (State.segmentFrame_sound hs)
    | stateCopyReceive => exact .ofTile h (State.copyReceive_sound hs)
    | stateRecordMissing => exact .ofTile h (State.recordMissing_sound hs)
    | lensTrackLost => exact .ofNext h (State.lensLost_sound hs)
    | lensReferenceIndex => exact .ofNext h (State.lensIndex_sound hs)
    | patchReportTimeout => exact .ofNext h (State.reportTimeout_sound hs)
    | colourReportReceive => exact .ofNext h (State.colourReport_sound hs)
    | calInvalid => exact .ofNext h (State.calInvalidate_sound hs)
    | timeSyncSend => exact .ofNext h (State.syncSend_sound hs)
    | timeSyncReceive => exact .ofNext h (State.syncReceive_sound hs)
    | timeReqReceive => exact .ofNext h (State.reqReceive_sound hs)
    | timeRespReceive => exact .ofNext h (State.respReceive_sound hs)
    | timeExchangeTimeout => exact .ofNext h (State.exchangeTimeout_sound hs)
    | timeAnnounceReceive => exact .ofNext h (State.announceReceive_sound hs)
    | timeAlignCheck => exact .ofTile h (State.alignCheck_sound hs)
    | blockLockAcquired => exact .ofTile h (hs.whenDue (State.rxBlocks_sound hs))
    | blockLockLost => exact .ofTile h (hs.whenDue (State.rxBlocks_sound hs))
    | helloSend => exact .ofNext h (State.helloSend_sound hs)
    | helloReceive => exact .ofTile h (State.helloReceive_sound hs)
    | statusFrameReceive => exact .ofNext h (State.statusReceive_sound hs)
    | nodeStatusTimeout => exact .ofNext h (State.statusTimeout_sound hs)
    | eventPositionReceive => exact .ofNext h (State.positionEvent_sound hs)
    | eventProductReceive => exact .ofNext h (State.productEvent_sound hs)
    | nodeEvent => exact .ofNext h (State.nodeEvent_sound hs)
    | ctrlRequestReceive => exact .ofNext h (State.ctrlRequest_sound hs)
    | ctrlAnswerReceive => exact .ofNext h (State.ctrlAnswer_sound hs)
    | ctrlAnswerTimeout => exact .ofNext h (State.ctrlTimeout_sound hs)
    | hubFrameReceive => exact .ofNext h (State.hubReceive_sound hs)
    | hubFireInstant => exact .ofNext h (State.updNode_sound hs)
    | laneTrainingDone => exact .ofTile h (State.trained_sound hs)
    | laneTrainFail => exact .ofTile h (State.trainFailed_sound hs)
    | laneDown => exact .ofTile h (State.laneFails_sound hs)
    | laneRetrainTimer => exact .ofTile h (State.retrainTimer_sound hs)
    | frameReceive => exact .ofTile h (State.rxBlocks_sound hs)
    | laneWake => exact .ofTile h (State.wakeTrim_sound hs)
    | laneTestInject => exact .ofTile h (State.testInject_sound hs)
    | laneTestDone => exact .ofTile h (State.testTrim_sound hs)
    | heartbeatSend => exact .ofTile h (State.heartbeat_sound hs)
    | partnerSilent => exact .ofTile h (State.partnerSilent_sound hs)
    | twinLinkDown => exact .ofTwin h (State.twinLinkLost_sound hs)
    | partnerWithdrawReceive => exact .ofTile h (State.partnerLeft_sound hs)
    | assaySetStart => exact .ofTile h (State.assayStart_sound hs)
    | assaySetEnd => exact .ofTile h (State.assayEnd_sound hs)
    | commitPrepareReceive => exact .ofTile h (State.commitPrepared_sound hs)
    | commitAckReceive => exact .ofTile h (State.commitAcked_sound hs)
    | preserveReceive => exact .ofNext h (State.preserveReceive_sound hs)
    | hostPortRetry => exact .ofNext h (State.portRetry_sound hs)
    | resyncCopyDone => exact .ofTile h (State.copyDone_sound hs)
    | watchdogExpiry => exact .ofTile h (State.watchdog_sound hs)
    | fabricHopDown => exact .ofTile h (State.hopDown_sound hs)
    | refclkLost => exact .ofTile h (State.clockLost_sound hs)
    | pllUnlock => exact .ofTile h (State.clockLost_sound hs)
    | domainReady => exact .ofTile h (State.domainReady_sound hs)
    | dramRequestComplete => exact .ofTile h (State.dramDone_sound hs)
    | dramRefreshDue => exact .ofTile h (State.dramRefresh_sound hs)
    | bankIdlePrecharge => exact .ofTile h (State.bankIdle_sound hs)
    | dramPauseStart => exact .ofTile h (State.pauseStart_sound hs)
    | memcSetChanged => exact .ofTile h (State.setChanged_sound hs)
    | dramRetrainDue => exact .ofTile h (State.retrainDue_sound hs)
    | memcPauseForced => exact .ofTile h (State.pauseForced_sound hs)
    | memcPanicLong => exact .ofTile h (State.panicLong_sound hs)
    | memcScrubDone => exact .ofTile h (State.scrubDone_sound hs)
    | memcDramHot => exact .ofTile h (State.dramHot_sound hs)
    | dspFrameStart => exact .ofNext h (State.frameStart_sound hs)
    | proofFlip => exact .ofNext h (State.proofFlip_sound hs)
    | dspLineMatch => exact .ofNext h (State.lineMatch_sound hs)
    | dspFrameDone => exact .ofNext h (State.dispOffSettle_sound (State.frameDone_sound hs))
    | dspTeEdge => exact .ofNext h (State.teEdge_sound hs)
    | dspTeLost => exact .ofNext h (State.teLost_sound hs)
    | dspUnderrun => exact .ofNext h (State.underrun_sound hs)
    | proofDataReceive => exact .ofNext h (State.proofData_sound hs)
    | dspHotplug => exact .ofNext h (State.hotplug_sound hs)
    | dspLinkLost => exact .ofNext h (State.dispOffSettle_sound (State.linkLost_sound hs))
    | dspRetrainTimer => exact .ofNext h (State.dspRetrain_sound hs)
    | dspModeChanged => exact .ofNext h (State.modeChanged_sound hs)
    | thermConversion => exact .ofTile h (State.conversion_sound hs)
    | throttleStepInterval => exact .ofTile h (State.stepInterval_sound hs)
    | powerEstimateUpdate => exact .ofTile h (State.updThm_sound hs)
    | shedSavingMeasured => exact .ofTile h (State.shedSaving_sound hs)
    | trimDone => exact .ofTile h (State.trimDone_sound hs)
    | encTrimApply => exact .ofTile h (State.encTrim_sound hs)
    | boot => exact .ofTile h (State.bootEnd_sound hs)
    | imageReceive => exact .ofTile h (State.imageReceive_sound hs)
    | pairTimeout => exact .ofTile h (State.pairTimeout_sound hs)
    | aonSupplySwitch => exact .ofTile h (State.aonSupply_sound hs)
    | vbatMeasure => exact .ofTile h (State.vbatMeasure_sound hs)
    | jtagExtest => exact .ofNext h (State.jtagExtest_sound hs)
    | smbOtherNack => exact .ofNext h (State.smbNacked_sound hs)
    | hostDmaReadDone => exact .ofNext h (State.dmaDone_sound hs)
    | msixMaskClear => exact .ofNext h (State.maskClear_sound hs)
    | dspLinkTrainingEnd => exact .ofNext h (State.dspTrained_sound hs)
    | dramRetrainingDone => exact .ofTile h (State.retrainDone_sound hs)
    | flashWriteDone => exact .ofNext h (State.flashDone_sound hs)
    | packetDispatch => exact .ofNext h (State.dispatchNext_sound hs)
    | queueMirrorReceive => exact .ofNext h (State.mirrorReceive_sound hs)
    | absPoll => exact .ofNext h (State.absPoll_sound hs)
    | absTimeout => exact .ofNext h (State.onBoth_sound hs fun _ hs => State.absTimeout_sound hs)
    | pitchLoopUpdate => exact .ofNext h (State.onBoth_sound hs fun _ hs => State.loopUpdate_sound hs)
    | pitchLock => exact .ofNext h (State.onBoth_sound hs fun _ hs => State.pitchLock_sound hs)
    | pitchUnlock => exact .ofNext h (State.onBoth_sound hs fun _ hs => State.pitchUnlock_sound hs)
    | webStill => exact .ofNext h (State.onBoth_sound hs fun _ hs => State.webStill_sound hs)
    | encLost => exact .ofNext h (State.onBoth_sound hs fun _ hs => State.encLost_sound hs)
    | motionStateCopyReceive => exact .ofNext h (State.motionCopy_sound hs)
    | motionSourceT1 => exact .ofNext h (State.motionT1_sound hs)
    | lineIssue => exact .ofNext h (State.lineIssue_sound hs)
    | fireTimestampReached => exact .ofNext h (State.onBoth_sound hs fun _ hs => State.fireReached_sound hs)
    | lensLock => exact .ofNext h (State.lensLocked_sound hs)
    | lensUnlock => exact .ofNext h (State.lensUnlocked_sound hs)
    | lensHoldExpired => exact .ofNext h (State.lensExpired_sound hs)
    | lensReacquireEnter => exact .ofNext h (State.lensReacquire_sound hs)
    | lensAcqFail => exact .ofNext h (State.lensAcqFailed_sound hs)
    | colourCalDue => exact .ofNext h (State.calDue_sound hs)
    | calSecondRollover => exact .ofNext h (State.announce_sound (State.colourDay_sound (State.calRollover_sound hs)))
    | calDisciplineLost => exact .ofNext h (State.calLost_sound hs)
    | calSlewEnd => exact .ofNext h (State.calSlewed_sound hs)
    | preserveCapture => exact .ofNext h (State.preserveCapture_sound hs)
    | preserveFlashWrite => exact .ofNext h (State.preserveFlash_sound hs)
    | takebackStart => exact .ofNext h (State.takeback_sound hs)
    | handoverEnd => exact .ofNext h (State.handoverEnd_sound hs)
    | jobDrainEnd => exact .ofNext h (State.drainEnd_sound hs)
    | coldReset => exact .ofNext h (State.coldReset_sound hs)
    | bootImageTimeout => exact .ofNext h (State.imageTimeout_sound hs)
    | tallyRecordWrite => exact .ofNext h (State.tallyWrite_sound hs)
    | updateTimeout => exact .ofNext h (State.updateTimeout_sound hs)
    | smbReadTemp => exact .ofNext h (State.smbAnswer_sound hs)
    | smbReadBoot => exact .ofNext h (State.smbAnswer_sound hs)
    | smbReadVbat => exact .ofNext h (State.smbAnswer_sound hs)
    | smbReadEpoch => exact .ofNext h (State.smbAnswer_sound hs)
    | smbAlertResponse => exact .ofNext h hs
    | hostControllerColdStartDone => exact .ofNext h (State.coldStarted_sound hs)
    | _ => cases packet

/-! ## The package is well kept (12 R410; 14 R461) -/

/-- A well-kept package is sound measured against itself, and a sound one is well kept: `State.Ok` is the part of soundness
that does not speak of the package before. -/
theorem State.ok_iff_sound (s : State) : s.Ok ↔ Sound s s := by
  constructor
  · rintro ⟨host, tiles, engine⟩
    exact ⟨rfl, tiles, engine, host, Nat.le_refl _, rfl⟩
  · rintro ⟨-, tiles, engine, host, -, -⟩
    exact ⟨host, tiles, engine⟩

theorem Sound.ok {s0 s : State} (h : Sound s0 s) : s.Ok := ⟨h.host, h.tiles, h.qen⟩

/-- Settles O1: a tick and every command keep the package sound, and a sound package is well kept. -/
theorem stepKeepsWellKept : Obligations.StepKeepsWellKept := by
  unfold Obligations.StepKeepsWellKept
  intro s u hok hstep
  have sound : Sound s s := s.ok_iff_sound.mp hok
  unfold step at hstep
  split at hstep
  case h_1 idle => exact (Sound.ofNext hstep (State.tick_sound sound)).ok
  case h_2 c rest front =>
    have sound : Sound { s with pending := rest } { s with pending := rest } := (State.ok_iff_sound _).mp hok
    exact (exec_sound c sound hstep).ok

/-- Settles O2: the values of the reset state. -/
theorem resetIsWellKept : Obligations.ResetIsWellKept := by
  unfold Obligations.ResetIsWellKept
  have tiles (t : Tile) : State.reset.tile t = TileState.reset := by revert t; decide +kernel
  refine ⟨⟨rfl, fun t => ?memory, ?sessions⟩, rfl, rfl, rfl, rfl, rfl, rfl, rfl, rfl, rfl, rfl, fun t => ?boot, fun n hn => ?closed⟩
  case memory => rw [tiles t]; exact TileOk.reset (s0 := State.reset)
  case sessions => exact QenOk.reset (s0 := State.reset)
  case boot => rw [tiles t]; rfl
  case closed => revert n; decide +kernel

/-- Settles O3: the two cases of a step, and no table word decodes. -/
theorem stepTakesTheFrontCommand : Obligations.StepTakesTheFrontCommand := by
  unfold Obligations.StepTakesTheFrontCommand
  refine ⟨fun s c rest front => ?command, fun s idle => ?tick, fun s nbits w => ⟨rfl, rfl⟩⟩
  case command => simp only [step, front]
  case tick => simp only [step, idle]

/-! ## Every command answers (01 R16) -/

/-- Settles O5: a command answers by its form, and what soundness says of queue, part and free values. -/
theorem commandsAnswer : Obligations.CommandsAnswer := by
  unfold Obligations.CommandsAnswer
  refine ⟨⟨fun i s whole => ?answers, fun i s => ?stops, fun i s d p h => exec_dispatched h⟩, fun i s u hok h => ?keeps⟩
  case answers =>
    rcases exec_form i s with answer | ⟨t, u, h⟩ | ⟨k, u, h⟩
    · exact answer
    · have present : t.val < s.nTiles := by rw [State.nTiles, whole]; exact t.isLt
      exact ⟨u, by rw [h, onTile, if_pos present]⟩
    · have present : k.val < s.nTwins := by rw [State.nTwins, whole]; exact k.isLt
      exact ⟨u, by rw [h, onTwin, if_pos present]⟩
  case stops =>
    rcases exec_form i s with answer | ⟨t, u, h⟩ | ⟨k, u, h⟩
    · exact .inl answer
    · rw [h, onTile]
      split
      · exact .inl ⟨u, rfl⟩
      · exact .inr rfl
    · rw [h, onTwin]
      split
      · exact .inl ⟨u, rfl⟩
      · exact .inr rfl
  case keeps =>
    have sound := exec_sound i (s.ok_iff_sound.mp hok) h
    exact ⟨sound.pending, sound.part, sound.free⟩

/-! ## A tick counts TIME (01 R41; 10 R324) -/

theorem State.tickStep_cases (s : State) : s.tickStep = (1, 0) ∨
    ((s.link.role ≠ 1 ∧ s.now % 1024 = 0 ∧ (s.servo .up).heldAt ≠ some s.now) ∧ (s.tickStep = (2, 256) ∨ s.tickStep = (0, -256))) := by
  simp only [State.tickStep]
  split
  case isTrue steady => exact .inl rfl
  case isFalse slewed =>
    simp only [Bool.or_eq_true, decide_eq_true_eq, beq_iff_eq, not_or] at slewed
    obtain ⟨⟨⟨role, turn⟩, -⟩, held⟩ := slewed
    refine .inr ⟨⟨role, Decidable.not_not.mp turn, held⟩, ?_⟩
    split
    · exact .inl rfl
    · exact .inr rfl

theorem State.servo_hop (s : State) (h : Hop) : (s.servo h).hop = h := by
  unfold State.servo
  cases found : s.link.servos.find? (fun v => v.hop == h) with
  | none => rfl
  | some v => simpa using List.find?_some found

theorem find_mapIf_const {l : List Servo} {h : Hop} {v : Servo} (hv : v.hop = h) (hany : l.any (fun x => x.hop == h) = true) :
    (mapIf l (fun x => x.hop == h) (fun _ => v)).find? (fun x => x.hop == h) = some v := by
  induction l with
  | nil => cases hany
  | cons a r ih =>
    by_cases ha : a.hop = h
    · simp [mapIf, ha, hv]
    · simp only [List.any_cons, beq_eq_false_iff_ne.mpr ha, Bool.false_or] at hany
      simpa [mapIf, ha] using ih hany

/-- A servo reads as it was set. -/
theorem State.servo_updServo (s : State) (h : Hop) (f : Servo → Servo) (hf : (f (s.servo h)).hop = h) :
    (s.updServo h f).servo h = f (s.servo h) := by
  show (List.find? _ (if s.link.servos.any (fun x => x.hop == h) then _ else _)).getD _ = _
  split
  case isTrue known => rw [find_mapIf_const hf known]; rfl
  case isFalse fresh =>
    have none : s.link.servos.find? (fun x => x.hop == h) = none := by simpa using fresh
    rw [List.find?_append, none]
    simp [hf]

/-- A package after the part of a tick that is not TIME: tiles, queue engine and tallies of hours have moved. -/
def TickedFrom (s t : State) : Prop :=
  { s with tiles := t.tiles, qen := t.qen, tallyMod := t.tallyMod, tallyCol := t.tallyCol, tallyRest := t.tallyRest } = t

theorem TickedFrom.refl (s : State) : TickedFrom s s := rfl
theorem TickedFrom.trans {s t u : State} (h : TickedFrom s t) (h' : TickedFrom t u) : TickedFrom s u := by
  rw [TickedFrom, ← h', ← h]
theorem TickedFrom.ofTile (s : State) (t : Nat) (f : TileState → TileState) : TickedFrom s (s.updTileN t f) := rfl
theorem TickedFrom.ofEngine {s t : State} (h : QenOnly s t) : TickedFrom s t := by
  rw [TickedFrom, ← (h : { s with qen := t.qen } = t)]
theorem TickedFrom.ite {s t u : State} {c : Prop} [Decidable c] (ht : TickedFrom s t) (hu : TickedFrom s u) :
    TickedFrom s (if c then t else u) := by
  split <;> assumption
theorem TickedFrom.foldl {α : Type} {f : State → α → State} (hf : ∀ s a, TickedFrom s (f s a)) (l : List α) (s : State) :
    TickedFrom s (l.foldl f s) := by
  induction l generalizing s with
  | nil => exact .refl s
  | cons a r ih => exact (hf s a).trans (ih _)

theorem State.domLate_ticked (s : State) (t : Nat) : TickedFrom s (s.domLate t) := by
  unfold State.domLate
  extract_lets late
  exact .foldl (fun s w => (TickedFrom.ofTile s t _).trans (.ofEngine (State.complete_only _ _ _ _ _))) _ s

theorem State.memcTick_ticked (s : State) (t : Nat) : TickedFrom s (s.memcTick t) := by
  unfold State.memcTick
  have scanned : TickedFrom s (s.scanPorts t) := rfl
  exact .ite (.refl s) (scanned.trans (.ofTile _ t _))

theorem State.fillLane_ticked (s : State) (t l : Nat) : TickedFrom s (s.fillLane t l) := by
  unfold State.fillLane
  extract_lets x now busy n
  exact .ite (.refl s) (.ofTile s t _)

theorem State.drainLane_ticked (s : State) (t l : Nat) (waits : Bool) : TickedFrom s (s.drainLane t l waits) := by
  unfold State.drainLane
  split
  case h_1 => exact .refl s
  case h_2 => exact .ite (.refl s) ((TickedFrom.ofTile s t _).trans (.ofTile _ _ _))

theorem State.laneTick_ticked (s : State) (t l : Nat) : TickedFrom s (s.laneTick t l) := by
  unfold State.laneTick
  extract_lets filled trimmed
  have trim : TickedFrom filled trimmed := .ite (.refl filled) (.ofTile filled t _)
  exact ((s.fillLane_ticked t l).trans trim).trans (trimmed.drainLane_ticked t l _)

theorem State.lanesTick_ticked (s : State) (t : Nat) : TickedFrom s (s.lanesTick t) :=
  .foldl (fun s l => .ite (s.laneTick_ticked t l) (.refl s)) _ s

/-- After TIME, a tick changes tiles, queue engine and tallies alone. -/
theorem State.tick_ticked (s : State) : TickedFrom s.timeTick s.tick := by
  have tile (s : State) (t : Nat) : TickedFrom s
      ((((if (s.tileN t).on 1 then s.updTileN t (fun x => { x with boot := x.boot.hourTick }) else s).updTileN t
        TileState.slewTick).domLate t |>.memcTick t).lanesTick t) :=
    ((((TickedFrom.ite (.ofTile s t _) (.refl s)).trans (.ofTile _ t _)).trans (State.domLate_ticked _ t)).trans
      (State.memcTick_ticked _ t)).trans (State.lanesTick_ticked _ t)
  exact (TickedFrom.foldl tile _ s.timeTick).trans rfl

theorem TickedFrom.fields {s t : State} (h : TickedFrom s t) : t.time = s.time ∧ t.link = s.link ∧ t.job = s.job ∧ t.host = s.host ∧
    t.pending = s.pending ∧ t.part = s.part := by
  rw [← (h : _ = t)]
  exact ⟨rfl, rfl, rfl, rfl, rfl, rfl⟩

theorem State.timeTick_time (s : State) : s.timeTick.time = s.time + BitVec.ofNat 64 s.tickStep.1 := by
  simp only [State.timeTick]
  split <;> rfl

/-- A tick that is left out notes its TIME in the servo of the upstream hop. -/
theorem State.timeTick_held {s : State} (h : s.tickStep = (0, -256)) : (s.timeTick.servo .up).heldAt = some s.now := by
  have hop := (s.addTime 0).servo_hop .up
  simp only [State.timeTick, h]
  rw [if_neg (by decide), State.servo_updServo _ _ _ hop]
  rfl

/-- Settles O4: the step of TIME by its cases, and everything else by what the rest of a tick may change. -/
theorem ticksCountTime : Obligations.TicksCountTime := by
  unfold Obligations.TicksCountTime
  have time (s : State) : s.tick.time = s.time + BitVec.ofNat 64 s.tickStep.1 := s.tick_ticked.fields.1.trans s.timeTick_time
  refine ⟨fun s steady => ?one, fun s slewed => ?slewed, fun s master => ?master, fun s turn => ?turn, fun s left => ?left, fun s => ?frame⟩
  case one =>
    rcases s.tickStep_cases with h | ⟨-, h | h⟩
    · rw [time, h]; rfl
    · simp [h] at steady
    · simp [h] at steady
  case slewed =>
    rcases s.tickStep_cases with h | ⟨-, h | h⟩
    · simp [h] at slewed
    · exact .inr (by rw [time, h]; rfl)
    · exact .inl (by rw [time, h]; exact BitVec.add_zero _)
  case master =>
    rcases s.tickStep_cases with h | ⟨⟨role, -, -⟩, -⟩
    · rw [h]
    · exact absurd master role
  case turn =>
    rcases s.tickStep_cases with h | ⟨⟨-, due, -⟩, -⟩
    · rw [h]
    · exact absurd due turn
  case left =>
    have h : s.tickStep = (0, -256) := by
      rcases s.tickStep_cases with h | ⟨-, h | h⟩
      · simp [h] at left
      · simp [h] at left
      · exact h
    have same : s.tick.time = s.time := by rw [time, h]; exact BitVec.add_zero _
    refine ⟨same, ?_⟩
    have held : (s.tick.servo .up).heldAt = some s.tick.now := by
      rw [State.now, same, State.servo, s.tick_ticked.fields.2.1]
      exact State.timeTick_held h
    rcases s.tick.tickStep_cases with h' | ⟨⟨-, -, free⟩, -⟩
    · exact h'
    · exact absurd held free
  case frame =>
    obtain ⟨-, -, job, host, pending, part⟩ := s.tick_ticked.fields
    have before : s.timeTick.job = s.job ∧ s.timeTick.host = s.host ∧ s.timeTick.pending = s.pending ∧ s.timeTick.part = s.part := by
      simp only [State.timeTick]
      split <;> exact ⟨rfl, rfl, rfl, rfl⟩
    obtain ⟨job0, host0, pending0, part0⟩ := before
    exact ⟨by rw [job, job0], host.trans host0, pending.trans pending0, part.trans part0⟩

end Sys2Proof.Machine
end

section
/-! PROOF of what the command engine checks: the order of a packet's checks, what protection admits, and the display commands that
need their domain (12 R414; 13 R431, R435, R451). -/

namespace Sys2Proof.Machine

/-! ## What a dispatched packet takes before its effect (04 R157) -/

@[simp] theorem State.takeFence_qen (s : State) (p : Packet) : (s.takeFence p).qen = s.qen := by
  unfold State.takeFence
  split <;> rfl

/-- What an opcode takes at dispatch leaves the queue engine alone: a fence, or nothing. -/
theorem hold_qen {i : Instr} {d : OpDef} {p q : Packet} {s : State} (h : dispatched i = some (d, p)) : (d.hold s q).qen = s.qen := by
  have holds : d.hold = State.takeFence ∨ d.hold = fun s _ => s := by
    cases i with
    | layerFlip | rayBind => cases h; exact .inl rfl
    | _ => cases h <;> exact .inr rfl
  rcases holds with fence | nothing
  · rw [fence]; exact s.takeFence_qen q
  · rw [nothing]

/-- Within a second of the last refusal no further one is due. -/
theorem not_due_again {d : Option Nat} {n now k : Nat} (hd : d = some n) (h : now < n + k) :
    (d.map (fun t => decide (t + k ≤ now))).getD true = false := by
  rw [hd]
  exact decide_eq_false (Nat.not_le.mpr h)

/-- A session refused within the last second is refused without a further PROT_DENIED (12 R414). -/
theorem State.denied_again {s : State} {p : Packet} {x : Session} {n : Nat} (status : Nat) (hx : s.session p.session = some x)
    (hn : x.denied = some n) (h : s.now < n + 250_000_000) : s.denied p status = s := by
  rw [State.denied, hx]
  exact if_neg (ne_true_of_eq_false (not_due_again hn h))

/-- Settles O6: each check that fails ends the dispatch with its status, and a packet that passes reads its buffer or is fed it. -/
theorem packetsAreCheckedInOrder : Obligations.PacketsAreCheckedInOrder := by
  unfold Obligations.PacketsAreCheckedInOrder
  intro i d p s hi
  have answer {t : State} (h : d.dispatch s p = t) : exec i s = .next t := h ▸ exec_dispatched hi
  refine ⟨fun hb => ?begun, fun hb hprot => ?protection, fun hb hprot hr => ?reserved, fun hb hprot hr hc => ?own,
    fun a n hreads => ?reads, fun bs hfeeds => ?fed⟩
  case begun => exact answer (OpDef.dispatch_begun hb)
  case protection =>
    refine ⟨(s.place p).done p.seq _, answer (OpDef.dispatch_denied hb rfl hprot), State.done_placed _ s p rfl _, ?_,
      fun x n hx hn h => State.denied_again _ hx hn h⟩
    rw [State.done_beside, State.place_beside]
  case reserved =>
    refine ⟨_, answer (OpDef.dispatch_rsvd hb hprot hr), State.done_placed _ s p rfl _, ?_⟩
    rw [State.done_beside, State.place_beside]
  case own =>
    refine ⟨_, answer (OpDef.dispatch_checked hb hprot hr rfl hc), State.complete_placed _ s p rfl _ _ _, ?_⟩
    rw [State.complete_beside, State.place_beside]
  case reads =>
    exact ⟨_, answer (OpDef.dispatch_reads hreads), State.run_placed _ s p (congrArg Qen.store (hold_qen hi)) _, rfl⟩
  case fed =>
    obtain ⟨-, effect⟩ := OpDef.feeds_takes hfeeds
    exact ⟨_, _, answer rfl, rfl, effect⟩

/-! ## Protection (12 R410, R414) -/

/-- A placed packet runs under its session's protection at that instant. -/
theorem State.place_rights (s : State) (p : Packet) : (s.place p).rights p = s.session p.session := by
  have stored : (s.place p).entry p.seq = none ∨
      ∃ e, (s.place p).entry p.seq = some e ∧ e.rights = s.session p.session := by
    unfold State.place
    extract_lets e q s1
    split
    case h_1 absent =>
      refine .inr ⟨e, ?_, rfl⟩
      rw [State.entry] at absent
      simp only [State.entry, State.setStore, List.find?_append, absent]
      simp [e]
    case h_2 x present =>
      refine .inr ⟨{ x with st := .running, wait := .work, disp := s.qen.nextDisp, rights := s.session p.session }, ?_, rfl⟩
      rw [State.entry_updEntry]
      · exact (congrArg _ present).trans (congrArg some (if_pos rfl))
      · intro _; rfl
  rcases stored with absent | ⟨e, present, rights⟩
  · simp only [State.rights, absent, State.place_session]
  · simp only [State.rights, present, State.place_session, rights, ite_self]

/-- Windows that cover a range hold each of its bytes. -/
theorem covered_byte {ws : List Window} {span right fuel pos stop b : Nat} (h : covered ws span right fuel pos stop = true)
    (hlo : pos ≤ b) (hhi : b < stop) :
    ∃ w ∈ ws, bit w.spans span = true ∧ bit w.rights right = true ∧ w.base ≤ b ∧ b < w.base + w.len := by
  induction fuel generalizing pos with
  | zero =>
    have : stop ≤ pos := of_decide_eq_true h
    omega
  | succ fuel ih =>
    rw [covered, if_neg (by omega)] at h
    split at h
    case h_1 w found =>
      obtain ⟨⟨hspan, hright⟩, hbase, hend⟩ :
          (bit w.spans span = true ∧ bit w.rights right = true) ∧ w.base ≤ pos ∧ pos < w.base + w.len := by
        simpa using List.find?_some found
      by_cases hb : b < w.base + w.len
      · exact ⟨w, List.mem_of_find?_eq_some found, hspan, hright, by omega, hb⟩
      · exact ih h (Nat.not_lt.mp hb)
    case h_2 => cases h

/-- Settles O7: a packet is checked under the protection of its dispatch, group before class before windows. -/
theorem protectionAdmitsWhatItCovers : Obligations.ProtectionAdmitsWhatItCovers := by
  unfold Obligations.ProtectionAdmitsWhatItCovers
  refine ⟨State.place_rights, fun s d p as x hx => ⟨fun group => ?group, fun group cls => ?cls, fun pass hs => ?windows⟩,
    fun s d p as closed => ?closed, fun i d p h => opOf_dispatched h⟩
  case group => simp [State.protCheck, hx, group]
  case cls => simp [State.protCheck, hx, group, cls]
  case windows =>
    have admitted : as.all x.admits = true := by
      simp only [State.protCheck, hx, hs, decide_false, Bool.false_or] at pass
      refine Decidable.byContradiction fun refused => ?_
      rw [if_neg refused] at pass
      split at pass
      · cases pass
      · split at pass
        · cases pass
        · split at pass
          case isTrue own => exact own pass
          case isFalse => cases pass
    intro a ha k hk hspan b hlo hhi
    have whole := List.all_eq_true.mp (List.all_eq_true.mp admitted a ha) k
      (List.mem_filter.mpr ⟨List.mem_range.mpr hk, hspan⟩)
    exact covered_byte whole hlo hhi
  case closed => simp [State.protCheck, closed]

/-! ## The display domain (13 R451; 17 R533) -/

/-- Settles O8: the checks of the DISP commands, with PD_DISP and the open mode changes read beside the placed packet. -/
theorem displayCommandsNeedTheirDomain : Obligations.DisplayCommandsNeedTheirDomain := by
  unfold Obligations.DisplayCommandsNeedTheirDomain
  intro i d p s hi hb hprot hr
  have refused (hc : d.check (s.place p) p = (St.dispState, 0, 0)) :
      ∃ u : State, exec i s = .next u ∧ u.DoneWith p.seq St.dispState 0 0 ∧ u.beside = s.beside := by
    refine ⟨(s.place p).done p.seq St.dispState, ?_, State.done_placed _ s p rfl _, ?_⟩
    · rw [exec_dispatched hi, OpDef.dispatch_checked hb hprot hr hc (by decide), State.done]
    · rw [State.done_beside, State.place_beside]
  have domain : (s.place p).dispDark = s.dispDark := by rw [s.place_eq p]; rfl
  refine ⟨fun dark command => refused ?dark, fun e he opcode other running mode => refused ?busy, fun command => ?passes⟩
  case dark =>
    rcases command with h | h | ⟨h, off⟩ <;> subst h <;> cases hi
    · simp [opDispMode, checkDispMode, domain, dark]
    · simp [opDispFlip, checkDispFlip, domain, dark]
    · simp [opDispPower, checkDispPower, domain, dark, off]
  case busy =>
    subst mode
    cases hi
    have isOpen : (s.place p).modeOpen p.seq = true := by
      have stored : e ∈ (s.place p).qen.store := by
        unfold State.place
        extract_lets x s1
        split
        · exact List.mem_append_left _ he
        · exact List.mem_map.mpr ⟨e, he, if_neg (by simpa using other)⟩
      refine Bool.or_eq_true_iff.mpr (.inr (List.any_eq_true.mpr ⟨e, stored, ?_⟩))
      exact decide_eq_true ⟨opcode, other, running⟩
    simp [opDispMode, checkDispMode, isOpen]
  case passes =>
    rcases command with h | ⟨h, on⟩ <;> subst h <;> cases hi
    · rfl
    · simp [opDispPower, checkDispPower, on]

end Sys2Proof.Machine
end

section
/-! SUPPORT. Packet rows by their effect: what a command answers for a packet that runs or is fed its host buffer, and the package
in which a packet stands while it takes effect (12 R404; 13 R435). -/

namespace Sys2Proof.Machine

theorem bits_lt (n h l : Nat) : bits n h l < 2 ^ (h + 1 - l) := Nat.mod_lt _ (Nat.two_pow_pos _)
theorem field_lt (p : Packet) (i h l : Nat) : p.f i h l < 2 ^ (h + 1 - l) := bits_lt _ h l

/-- What each step of a fold keeps, the fold keeps. -/
theorem foldl_keeps {σ α β : Type} {f : σ → α → σ} (g : σ → β) (hf : ∀ s a, g (f s a) = g s) (l : List α) (s : σ) :
    g (l.foldl f s) = g s := by
  induction l generalizing s with
  | nil => rfl
  | cons a r ih => exact (ih _).trans (hf s a)

section
variable {i : Instr} {d : OpDef} {s t u : State} {p : Packet} {bs : List Byte}

/-! ## What a command answers -/

theorem exec_runs (hi : dispatched i = some (d, p)) (h : d.Runs s p) : exec i s = .next (d.act (d.at s p) p []) := by
  rw [exec_dispatched hi, OpDef.dispatch_runs h]

/-- The same with the opcode's effect under its own name. -/
theorem exec_runs_as {f : State → Packet → List Byte → State} (hi : dispatched i = some (d, p)) (act : d.act = f) (h : d.Runs s p) :
    exec i s = .next (f (d.at s p) p []) := act ▸ exec_runs hi h

theorem exec_feeds (hi : dispatched i = some (d, p)) (h : d.Feeds s p bs) :
    ∃ u, exec i s = .next u ∧ exec (.hostDmaReadDone p.seq (some bs)) u = .next (d.act (d.fed s p bs) p bs) := by
  obtain ⟨-, effect⟩ := OpDef.feeds_takes h
  exact ⟨_, exec_dispatched hi, congrArg Host.Outcome.next effect⟩

theorem OpDef.Runs.check (h : d.Runs s p) : (d.check (s.place p) p).1 = St.ok := h.1.2.2.2
theorem OpDef.Feeds.check (h : d.Feeds s p bs) : (d.check (s.place p) p).1 = St.ok := by
  obtain ⟨-, a, ⟨passes, -⟩, -⟩ := h
  exact passes.2.2.2

/-! ## The package in which a packet takes effect -/

/-- t is s with packet p taken up: beside the queue engine it is s, sessions and pairs stand, and p is in the store and not DONE. -/
structure TakenUp (s t : State) (p : Packet) : Prop where
  engine : QenOnly s t
  entry : ∃ e, t.entry p.seq = some e ∧ e.st ≠ .done
  session : ∀ n, t.session n = s.session n
  pair : ∀ q, t.pair q = s.pair q

theorem State.place_takenUp (s : State) (p : Packet) : TakenUp s (s.place p) p :=
  ⟨s.place_only p, s.place_open p, s.place_session p, s.place_pair p⟩

/-- A packet fed its host buffer is taken up, where its opcode binds and takes nothing before. -/
theorem OpDef.fed_takenUp (d : OpDef) (s : State) (p : Packet) (bs : List Byte) (hb : d.bind = noBind) (hh : d.hold = fun s _ => s) :
    TakenUp s (d.fed s p bs) p := by
  obtain ⟨e, he, running⟩ := d.fed_open s p bs hb hh
  refine ⟨(d.fed_eq s p bs hb hh).symm, ⟨e, he, by simp [running]⟩, d.fed_session s p bs hb hh, fun q => ?_⟩
  unfold OpDef.fed
  simp only [hb, noBind, OpDef.held, hh]
  exact s.place_pair p q

/-- A packet fed its host buffer stands in the store, RUNNING, where what it binds and takes before leaves the queue engine alone. -/
theorem OpDef.fed_entry (d : OpDef) (s : State) (p : Packet) (bs : List Byte) (hb : ∀ s, (d.bind s p bs).2.qen = s.qen)
    (hh : ∀ s, (d.hold s p).qen = s.qen) : ∃ e, (d.fed s p bs).entry p.seq = some e ∧ e.st = .running := by
  obtain ⟨e, he, -⟩ := State.place_running s p
  have held : (d.held s p).entry p.seq = some e := by rw [State.entry, OpDef.held, hh]; exact he
  obtain ⟨e1, he1, -⟩ := State.run_running (d.held s p) held (w := .dma (((d.read (d.held s p) p).getD (0, 0)).1) bs.length)
  obtain ⟨e2, he2, running, -⟩ := State.run_running _ he1 (w := .work)
  refine ⟨e2, ?_, running⟩
  rw [State.entry, OpDef.fed, hb]
  exact he2

theorem TakenUp.beside (h : TakenUp s t p) : t.beside = s.beside := h.engine.beside

/-- A package with a packet taken up differs in its queue engine alone. -/
theorem TakenUp.eq (h : TakenUp s t p) : t = { s with qen := t.qen } := h.engine.symm

/-- A packet completes after effects that leave the packet store alone. -/
theorem TakenUp.complete (h : TakenUp s t p) (st r0 r1 : Nat) (hu : u.qen.store = t.qen.store := by rfl) :
    (u.complete p.seq st r0 r1).DoneWith p.seq st (r0 % 2 ^ 32) (r1 % 2 ^ 31) := by
  obtain ⟨e, he, hd⟩ := h.entry
  exact State.complete_done u _ _ _ _ (by rw [State.entry, hu]; exact he) hd
theorem TakenUp.done (h : TakenUp s t p) (st : Nat) (hu : u.qen.store = t.qen.store := by rfl) :
    (u.done p.seq st).DoneWith p.seq st 0 0 := h.complete st 0 0 hu
theorem TakenUp.park (h : TakenUp s t p) (w : Wait) (hu : u.qen.store = t.qen.store := by rfl) : (u.park p.seq w).ParkedOn p.seq w := by
  obtain ⟨e, he, -⟩ := h.entry
  exact State.park_parked u (by rw [State.entry, hu]; exact he)
theorem TakenUp.run (h : TakenUp s t p) (w : Wait) (hu : u.qen.store = t.qen.store := by rfl) : (u.run p.seq w).RunningOn p.seq w := by
  obtain ⟨e, he, -⟩ := h.entry
  exact State.run_running u (by rw [State.entry, hu]; exact he)

end

/-! ## Operations that the queue engine has no part in -/

theorem State.raiseLead_beside (s : State) (src : Nat) (data : List Nat) : (s.raiseLead src data).beside = s.beside.raiseLead src data := rfl
theorem State.putItem_beside (s : State) (pid : Nat) (v : Int) : (s.putItem pid v).beside = s.beside.putItem pid v := rfl

end Sys2Proof.Machine
end

section
/-! PROOF of the SESSION commands: a session opens, closes and changes its protection, a queue pair comes and goes (12 R411, R412,
R415, R425). -/

namespace Sys2Proof.Machine

/-! ## Sessions (12 R410, R411, R415) -/

theorem State.changeSession_of_ne {s : State} {n : Nat} (h : n ≠ 0) (f : Session → Option Session) :
    s.changeSession n f = s.setSession n ((s.session n).bind f) := if_neg h

@[simp] theorem State.changeSession_beside (s : State) (n : Nat) (f : Session → Option Session) : (s.changeSession n f).beside = s.beside := by
  unfold State.changeSession
  split <;> rfl

theorem State.session_changeSession {s : State} {n : Nat} (h : n ≠ 0) (hn : n < 256) (f : Session → Option Session) :
    (s.changeSession n f).session n = (s.session n).bind f := by
  rw [State.changeSession_of_ne h, State.session_setSession, if_pos ⟨rfl, hn⟩]

@[simp] theorem State.raiseLead_session (s : State) (src : Nat) (data : List Nat) (n : Nat) : (s.raiseLead src data).session n = s.session n := rfl

/-! ## SESSION.OPEN -/

section
variable {s t : State} {p : Packet} {bs : List Byte} {ws : List Window}

theorem checkSessionOpen_free (h : (checkSessionOpen s p).1 = St.ok) : s.session (p.f 2 7 0) = none := by
  refine Option.not_isSome_iff_eq_none.mp fun this => ?_
  simp only [checkSessionOpen, this, if_true] at h
  split at h <;> cases h

/-- SESSION.OPEN gives its session the class, the mask, the windows and the limits of its packet. -/
theorem actSessionOpen_opens (up : TakenUp s t p) (free : s.session (p.f 2 7 0) = none) (table : windowsOf (p.f 7 4 0) bs = some ws) :
    (actSessionOpen t p bs).session (p.f 2 7 0) =
      some { cls := p.f 2 9 8, mask := p.f 3 15 0, windows := ws, storeMax := p.f 4 11 0, runMax := p.f 4 23 16, closing := none,
             denied := none } ∧
    (actSessionOpen t p bs).DoneWith p.seq St.ok 0 0 ∧
    (actSessionOpen t p bs).beside = (s.raiseLead Ev.sessionChange [p.f 2 7 0, 0]).beside := by
  simp only [actSessionOpen, table, up.session, free, Option.isSome_none, Bool.false_eq_true, if_false]
  refine ⟨?_, up.done _, ?_⟩
  · rw [State.done_session, State.raiseLead_session, State.session_setSession, if_pos ⟨rfl, field_lt p 2 7 0⟩]
  · rw [State.done_beside, State.raiseLead_beside, State.setSession_beside, up.beside, State.raiseLead_beside]

/-! ## SESSION.PROT -/

theorem checkSessionProt_nonzero (h : (checkSessionProt s p).1 = St.ok) : p.f 2 7 0 ≠ 0 := by
  intro zero
  simp only [checkSessionProt, zero, if_true] at h
  cases h

/-- SESSION.PROT replaces mask and windows of its session as one change. -/
theorem actSessionProt_replaces {x : Session} (up : TakenUp s t p) (other : p.f 2 7 0 ≠ 0) (table : windowsOf (p.f 7 4 0) bs = some ws)
    (hx : s.session (p.f 2 7 0) = some x) :
    (actSessionProt t p bs).session (p.f 2 7 0) = some { x with mask := p.f 3 15 0, windows := ws } ∧
    (actSessionProt t p bs).DoneWith p.seq St.ok 0 0 ∧
    (actSessionProt t p bs).beside = (s.raiseLead Ev.sessionChange [p.f 2 7 0, 2]).beside := by
  simp only [actSessionProt, table]
  refine ⟨?_, up.done _ ?_, ?_⟩
  · rw [State.done_session, State.raiseLead_session, State.session_changeSession other (field_lt p 2 7 0), up.session, hx]
    rfl
  · rw [State.raiseLead_qen, State.changeSession_of_ne other]; rfl
  · rw [State.done_beside, State.raiseLead_beside, State.changeSession_beside, up.beside, State.raiseLead_beside]

end

/-! ## SESSION.CLOSE and SESSION.QDELETE (12 R412) -/

section
variable {s : State} {p : Packet}

theorem checkSessionClose_open (h : (checkSessionClose s p).1 = St.ok) : p.f 2 7 0 ≠ 0 ∧ ∃ x, s.session (p.f 2 7 0) = some x := by
  simp only [checkSessionClose] at h
  split at h
  case isTrue => cases h
  case isFalse other =>
    split at h
    case h_1 => cases h
    case h_2 x hx => exact ⟨other, x, hx⟩

theorem checkSessionQdelete_exists (h : (checkSessionQdelete s p).1 = St.ok) : ∃ x, s.pair (p.f 2 7 0) = some x := by
  simp only [checkSessionQdelete] at h
  split at h
  case isTrue => cases h
  case isFalse other =>
    split at h
    case h_1 => cases h
    case h_2 x hx => exact ⟨x, hx⟩

/-- Closing the QUEUED packets of a selection completes each of them, changes no other packet, and nothing beside their completions. -/
structure Closes (s t : State) (p : Packet) (sel : StoreEntry → Bool) : Prop where
  queued : ∀ q e, q ≠ p.seq → s.entry q = some e → e.st = .queued → sel e = true → t.DoneWith q St.sessionClosed 0 0
  own : t.entry p.seq = (s.place p).entry p.seq

theorem State.closeQueued_closes {r : State} (s : State) (p : Packet) (sel : StoreEntry → Bool) (hr : r.qen.store = (s.place p).qen.store) :
    Closes s (r.closeQueued sel) p sel := by
  have entry (n : Nat) : r.entry n = (s.place p).entry n := by rw [State.entry, hr]; rfl
  constructor
  case queued =>
    intro q e hq he hqueued hsel
    have hr' : r.entry q = some e := by rw [entry, State.place_other s p hq, he]
    refine State.foldDone_done _ _ r hr' (by simp [hqueued]) ⟨e, ?_, State.entry_seq he⟩
    refine List.mem_filter.mpr ⟨List.mem_of_find?_eq_some hr', ?_⟩
    simp [hqueued, hsel]
  case own =>
    rw [← entry]
    refine State.foldDone_other _ _ r fun f hf hseq => ?_
    obtain ⟨hmem, hqueued⟩ := List.mem_filter.mp hf
    have running := State.place_queued s p f (hr ▸ hmem) hseq
    simp [running] at hqueued

/-- Deleting a session without packets takes its pairs and the session, raises SESSION_CHANGE, and its SESSION.CLOSE completes. -/
theorem State.settleSession_closing {t : State} {n seq : Nat} {x : Session} (hx : t.session n = some x) (hc : x.closing = some seq)
    (h0 : n ≠ 0) (hn : n < 256) :
    t.settleSession n = t ∨
      ∃ u : State, t.settleSession n = (u.raiseLead Ev.sessionChange [n, 1]).done seq St.ok ∧ u.session n = none ∧
        u.qen.store = t.qen.store ∧ u.beside = t.beside := by
  have closing : (t.session n).bind (·.closing) = some seq := by rw [hx]; exact hc
  simp only [State.settleSession, closing]
  split
  case isTrue busy => exact .inl rfl
  case isFalse empty =>
    refine .inr ⟨_, rfl, ?_, ?_, ?_⟩
    · rw [State.session_changeSession h0 hn]; exact Option.bind_fun_none _
    · rw [State.changeSession_of_ne h0]; rfl
    · rw [State.changeSession_beside]; rfl

/-- A pair under deletion without packets goes, and its SESSION.QDELETE completes. -/
theorem State.settlePair_deleting {t : State} {q seq : Nat} {x : QueuePair} (hx : t.pair q = some x) (hd : x.deleting = some seq) :
    t.settlePair q = t ∨ t.settlePair q = (t.setPair q none).done seq St.ok := by
  have deleting : (t.pair q).bind (·.deleting) = some seq := by rw [hx]; exact hd
  simp only [State.settlePair, deleting]
  split
  case isTrue busy => exact .inl rfl
  case isFalse empty => exact .inr rfl

end

/-! ## SESSION.QUEUE (12 R411, R428) -/

theorem State.mirrorSend_pair (s : State) (m : Mirror) (q : Nat) : (s.mirrorSend m).pair q = s.pair q := by
  unfold State.mirrorSend
  split <;> rfl
theorem State.mirrorSend_store (s : State) (m : Mirror) : (s.mirrorSend m).qen.store = s.qen.store := by
  unfold State.mirrorSend
  split <;> rfl

/-- A pair alike another beside moderation exists with it, and is under the same deletion. -/
theorem QueuePair.of_quiet {a : Option QueuePair} {x : QueuePair} (h : a.map QueuePair.quiet = some x.quiet) :
    ∃ y, a = some y ∧ y.deleting = x.deleting := by
  obtain ⟨y, hy, hq⟩ := Option.map_eq_some_iff.mp h
  have same : y.quiet.deleting = x.quiet.deleting := by rw [hq]
  exact ⟨y, hy, same⟩

/-- SESSION.QUEUE makes an empty pair, and its items hold the values of the packet. -/
theorem actSessionQueue_creates {s t : State} {p : Packet} {bs : List Byte} (up : TakenUp s t p) :
    ((actSessionQueue t p bs).pair (p.f 2 7 0)).map QueuePair.quiet =
      some (QueuePair.fresh (p.f 2 15 8) (p.ha 3) (p.f 7 11 0 + 1) (p.ha 5) (p.f 7 27 16 + 1)) ∧
    (actSessionQueue t p bs).DoneWith p.seq St.ok 0 0 ∧
    (actSessionQueue t p bs).beside = ((((s.putItem (Pid.qVec (p.f 2 7 0)) (p.f 8 10 0)).putItem (Pid.qModCnt (p.f 2 7 0))
      (p.f 9 8 0)).putItem (Pid.qModTime (p.f 2 7 0)) (p.dw 10)).putItem (Pid.qWake (p.f 2 7 0)) (p.f 11 0 0)).beside := by
  simp only [actSessionQueue]
  refine ⟨?pair, up.done _ ?store, ?items⟩
  case store => exact State.mirrorSend_store _ _
  case pair =>
    refine (State.complete_pair _ _ _ _ _ _).trans ?_
    rw [State.mirrorSend_pair]
    exact congrArg _ ((State.pair_setPair _ _ _ _).trans (if_pos ⟨rfl, field_lt p 2 7 0⟩))
  case items => simp only [State.done_beside, State.mirrorSend_beside, State.putItem_beside, State.setPair_beside, up.beside]

/-- Settles O11: each command's effect on the package in which its packet stands, at its dispatch or once its table is read. -/
theorem sessionCommandsTakeEffect : Obligations.SessionCommandsTakeEffect := by
  unfold Obligations.SessionCommandsTakeEffect
  refine ⟨fun s p runs none => ?openAtOnce, fun s p bs ws feeds table => ?openFed, fun s p runs => ?close,
    fun s p x runs none hx => ?protAtOnce, fun s p bs ws x feeds table hx => ?protFed, fun s p runs => ?queue, fun s p runs => ?qdelete⟩
  case openAtOnce =>
    have free := checkSessionOpen_free runs.check
    rw [State.place_session] at free
    exact ⟨_, exec_runs rfl runs, actSessionOpen_opens (s.place_takenUp p) free (by rw [none]; rfl)⟩
  case openFed =>
    obtain ⟨u, first, second⟩ := exec_feeds (i := .sessionOpen p) rfl feeds
    have free := checkSessionOpen_free feeds.check
    rw [State.place_session] at free
    exact ⟨u, _, first, second, actSessionOpen_opens (opSessionOpen.fed_takenUp s p bs rfl rfl) free table⟩
  case protAtOnce =>
    exact ⟨_, exec_runs rfl runs,
      actSessionProt_replaces (s.place_takenUp p) (checkSessionProt_nonzero runs.check) (by rw [none]; rfl) hx⟩
  case protFed =>
    obtain ⟨u, first, second⟩ := exec_feeds (i := .sessionProt p) rfl feeds
    exact ⟨u, _, first, second,
      actSessionProt_replaces (opSessionProt.fed_takenUp s p bs rfl rfl) (checkSessionProt_nonzero feeds.check) table hx⟩
  case close =>
    obtain ⟨other, x, hx⟩ := checkSessionClose_open runs.check
    let marked := (s.place p).changeSession (p.f 2 7 0) (fun x => some { x with closing := some p.seq })
    let closed := marked.closeQueued (fun e => e.session == p.f 2 7 0)
    have store : marked.qen.store = (s.place p).qen.store := by
      simp only [marked, State.changeSession_of_ne other]; rfl
    have closes := State.closeQueued_closes s p (fun e => e.session == p.f 2 7 0) store
    obtain ⟨beside, session, -⟩ := State.foldDone_only (marked.qen.store.filter (fun e => decide (e.st = .queued) && e.session == p.f 2 7 0))
      St.sessionClosed marked
    have hclosed : closed.session (p.f 2 7 0) = some { x with closing := some p.seq } := by
      refine (session _).trans ?_
      rw [State.session_changeSession other (field_lt p 2 7 0), hx]
      rfl
    have hbeside : closed.beside = s.beside :=
      beside.trans ((State.changeSession_beside _ _ _).trans (s.place_beside p))
    refine ⟨_, exec_runs rfl runs, ?_⟩
    show (∀ q e, _ → _ → _ → _ → (closed.settleSession _).DoneWith q _ _ _) ∧ _
    rcases State.settleSession_closing hclosed rfl other (field_lt p 2 7 0) with stays | ⟨u, gone, hnone, hstore, hu⟩
    · refine ⟨fun q e hq he hst hs => ?_, .inl ⟨{ x with closing := some p.seq }, ?_, rfl, ?_⟩⟩
      · rw [stays]
        exact closes.queued q e hq he hst (by simp [hs])
      · exact (congrArg (State.session · _) stays).trans hclosed
      · exact (congrArg State.beside stays).trans hbeside
    · obtain ⟨e0, he0, hopen⟩ := s.place_open p
      have hentry : u.entry p.seq = some e0 := by
        rw [State.entry, hstore]
        exact closes.own.trans he0
      refine ⟨fun q e hq he hst hs => ?_, .inr ⟨?_, ?_, ?_⟩⟩
      · rw [gone]
        obtain ⟨f, hf, h⟩ := closes.queued q e hq he hst (by simp [hs])
        exact State.complete_keeps _ ⟨f, by rw [State.entry, State.raiseLead_qen, hstore]; exact hf, h⟩ _ _ _ _
      · exact (congrArg (State.session · _) gone).trans ((State.done_session _ _ _ _).trans hnone)
      · show (closed.settleSession _).DoneWith _ _ _ _
        rw [gone]
        exact State.done_done _ _ _ (e := e0) hentry hopen
      · refine (congrArg State.beside gone).trans ?_
        rw [State.done_beside, State.raiseLead_beside, hu, hbeside, State.raiseLead_beside]
  case queue => exact ⟨_, exec_runs rfl runs, actSessionQueue_creates (bs := []) (s.place_takenUp p)⟩
  case qdelete =>
    obtain ⟨x, hx⟩ := checkSessionQdelete_exists runs.check
    let marked := (s.place p).updPair (p.f 2 7 0) (fun x => { x with deleting := some p.seq })
    let closed := marked.closeQueued (fun e => e.p.q == p.f 2 7 0)
    have closes := State.closeQueued_closes (r := marked) s p (fun e => e.p.q == p.f 2 7 0) rfl
    obtain ⟨beside, -, pairs⟩ := State.foldDone_only (marked.qen.store.filter (fun e => decide (e.st = .queued) && e.p.q == p.f 2 7 0))
      St.sessionClosed marked
    have hmarked : marked.pair (p.f 2 7 0) = some { x with deleting := some p.seq } := by
      refine (State.pair_setPair _ _ _ _).trans ((if_pos ⟨rfl, field_lt p 2 7 0⟩).trans ?_)
      rw [hx]
      rfl
    obtain ⟨y, hy, deleting⟩ := QueuePair.of_quiet ((pairs (p.f 2 7 0)).trans (congrArg _ hmarked))
    have hbeside : closed.beside = s.beside := beside.trans (s.place_beside p)
    refine ⟨_, exec_runs rfl runs, ?_⟩
    show (closed.settlePair _).beside = _ ∧ _
    rcases State.settlePair_deleting (t := closed) hy deleting with stays | gone
    · refine ⟨by rw [stays]; exact hbeside, fun q e hq he hst hs => ?_, .inl ⟨y, ?_, deleting⟩⟩
      · show (closed.settlePair _).DoneWith _ _ _ _
        rw [stays]
        exact closes.queued q e hq he hst (by simp [hs])
      · exact (congrArg (State.pair · _) stays).trans hy
    · obtain ⟨e0, he0, hopen⟩ := s.place_open p
      refine ⟨by rw [gone, State.done_beside, State.setPair_beside]; exact hbeside, fun q e hq he hst hs => ?_, .inr ⟨?_, ?_⟩⟩
      · show (closed.settlePair _).DoneWith _ _ _ _
        rw [gone]
        obtain ⟨f, hf, h⟩ := closes.queued q e hq he hst (by simp [hs])
        exact State.complete_keeps (closed.setPair _ none) ⟨f, hf, h⟩ _ _ _ _
      · refine (congrArg (State.pair · _) gone).trans ?_
        have quiet := State.complete_pair (closed.setPair (p.f 2 7 0) none) p.seq St.ok 0 0 (p.f 2 7 0)
        rw [State.pair_setPair, if_pos ⟨rfl, field_lt p 2 7 0⟩] at quiet
        exact Option.map_eq_none_iff.mp quiet
      · show (closed.settlePair _).DoneWith _ _ _ _
        rw [gone]
        exact State.done_done _ _ _ (closes.own.trans he0) hopen

end Sys2Proof.Machine
end

section
/-! PROOF of the MEM group: loads, reads, fences, compressions and verifications, and how a load lands on both tiles of a twin (03 R104
to R106, R121, R127 to R131; 13 R444; 01 R34). -/

namespace Sys2Proof.Machine

/-! ## Canonical maps read what was written -/

section
variable {α : Type} {d : α} {m : NMap α} {j : Nat}

/-- Below its first key a map reads its default. -/
theorem NMap.get_of_above {b : Nat} (h : NMap.above b m = true) (hj : j < b) : NMap.get d m j = d := by
  cases m with
  | nil => rfl
  | cons e r =>
    have : b ≤ e.1 := of_decide_eq_true h
    rw [NMap.get, if_neg (by omega), if_pos (by omega)]

theorem NMap.get_set [DecidableEq α] (hw : NMap.wf d m = true) (k : Nat) (v : α) :
    NMap.get d (NMap.set d m k v) j = if j = k then v else NMap.get d m j := by
  induction m with
  | nil => by_cases hv : v = d <;> by_cases hj : j = k <;> simp [NMap.set, NMap.get, hv, hj]
  | cons e r ih =>
    obtain ⟨a, x⟩ := e
    simp only [NMap.wf, Bool.and_eq_true] at hw
    obtain ⟨⟨-, above⟩, tail⟩ := hw
    have below (h : j ≤ a) : NMap.get d r j = d := NMap.get_of_above above (by omega)
    simp only [NMap.set]
    split
    case isTrue before =>
      have absent : NMap.get d ((a, x) :: r) k = d := by rw [NMap.get, if_neg (by omega), if_pos before]
      split
      case isTrue hv => by_cases hj : j = k <;> simp [hj, hv, absent]
      case isFalse hv =>
        by_cases hj : j = k
        · simp [NMap.get, hj]
        · by_cases hlt : j < k
          · simp [NMap.get, hj, hlt, show j ≠ a by omega, show j < a by omega]
          · simp [NMap.get, hj, hlt]
    case isFalse =>
      split
      case isTrue same =>
        subst same
        by_cases hj : j = k
        · split
          case isTrue hv => rw [below (by omega), hv]
          case isFalse hv => simp [NMap.get, hj]
        · by_cases hlt : j < k
          · split <;> simp [NMap.get, hj, hlt, below (by omega)]
          · split <;> simp [NMap.get, hj, hlt]
      case isFalse other =>
        by_cases hj : j = a
        · simp [NMap.get, hj, show a ≠ k by omega]
        · by_cases hlt : j < a
          · simp [NMap.get, hj, hlt, show j ≠ k by omega]
          · simp only [NMap.get, hj, hlt, if_false, ih tail]

end

/-- A memory reads the bytes of a write where it wrote them, and elsewhere what it held (03 R101). -/
theorem Mem.byte_write {m : Mem} (h : Mem.wf m = true) (a : Nat) (bs : List Byte) (x : Nat) :
    Mem.byte (Mem.write m a bs) x = if a ≤ x ∧ x < a + bs.length then (bs[x - a]?).getD 0 else Mem.byte m x := by
  induction bs generalizing m a with
  | nil => rw [if_neg (by simp only [List.length_nil]; omega)]; rfl
  | cons b bs ih =>
    rw [Mem.write, ih (NMap.wf_set h), Mem.byte, NMap.get_set h, List.length_cons]
    by_cases first : x = a
    · rw [if_neg (by omega), if_pos first, if_pos (by omega), first, Nat.sub_self]
      rfl
    · by_cases later : a + 1 ≤ x ∧ x < a + 1 + bs.length
      · rw [if_pos later, if_pos (by omega), show x - a = (x - (a + 1)) + 1 by omega, List.getElem?_cons_succ]
      · rw [if_neg later, if_neg first, if_neg (by omega)]
        rfl

/-! ## A write on a tile (03 R104; 15 R481) -/

theorem State.tile_updTileN (s : State) (n : Nat) (f : TileState → TileState) (x : Tile) :
    (s.updTileN n f).tile x = if x = tileIx n then f (s.tile x) else s.tile x := by
  split
  case isTrue same => rw [same, State.updTileN, State.tile_updTile]
  case isFalse other => exact s.tile_updTile_ne _ _ _ other

theorem State.mem_tileWrite (s : State) (t a : Nat) (bs : List Byte) (x : Tile) :
    ((s.tileWrite t a bs).tile x).mem = if x = tileIx t ∧ (s.tile x).takes = true then Mem.write (s.tile x).mem a bs else (s.tile x).mem := by
  rw [State.tileWrite, State.tile_updTileN]
  by_cases same : x = tileIx t <;> by_cases takes : (s.tile x).takes = true <;> simp [same, takes]
  all_goals simp_all

theorem State.takes_tileWrite (s : State) (t a : Nat) (bs : List Byte) (x : Tile) :
    ((s.tileWrite t a bs).tile x).takes = (s.tile x).takes := by
  rw [State.tileWrite, State.tile_updTileN]
  split
  case isTrue => split <;> rfl
  case isFalse => rfl

/-! ## A load begins (03 R104; 11 R367) -/

theorem tileIx_of_lt {n : Nat} (h : n < 8) : (tileIx n).val = n := Nat.mod_eq_of_lt h

theorem mem_bitsOf {n m k : Nat} : k ∈ bitsOf n m ↔ k < n ∧ bit m k = true := by
  simp [bitsOf]

theorem nodup_bitsOf (n m : Nat) : (bitsOf n m).Nodup := List.nodup_range.filter _

/-- A span's load begins on one of its two tiles. -/
theorem State.spanTile_half (s : State) (k : Nat) : s.spanTile k / 2 = k := by
  unfold State.spanTile
  split <;> omega

/-- Bytes written on a list of different tiles are in the memory of each of them that takes loads, once. -/
theorem State.mem_foldWrite {l : List Nat} (distinct : (l.map tileIx).Nodup) (a : Nat) (bs : List Byte) (s : State) (x : Tile) :
    ((l.foldl (fun s t => s.tileWrite t a bs) s).tile x).mem =
      if x ∈ l.map tileIx ∧ (s.tile x).takes = true then Mem.write (s.tile x).mem a bs else (s.tile x).mem := by
  induction l generalizing s with
  | nil => rw [if_neg (by simp)]; rfl
  | cons t r ih =>
    obtain ⟨fresh, rest⟩ := List.nodup_cons.mp distinct
    rw [List.foldl_cons, ih rest, State.mem_tileWrite, State.takes_tileWrite]
    by_cases here : x = tileIx t
    · subst here
      rw [List.map_cons, if_neg (fun h => fresh h.1)]
      simp
    · simp [here]

theorem State.foldWrite_frame (l : List Nat) (a : Nat) (bs : List Byte) (s : State) :
    { s with tiles := (l.foldl (fun s t => s.tileWrite t a bs) s).tiles } = l.foldl (fun s t => s.tileWrite t a bs) s := by
  induction l generalizing s with
  | nil => rfl
  | cons t r ih => rw [List.foldl_cons, ← ih (s.tileWrite t a bs)]; rfl

/-- The tiles on which a load to a mask of spans begins: of each span that takes it now, the one that a load reaches first. -/
def State.loadTiles (s : State) (spans : Nat) : List Nat := ((bitsOf 4 spans).filter (fun k => !s.legHeld k)).map s.spanTile

theorem State.mem_loadTiles (s : State) (spans : Nat) (x : Tile) :
    x ∈ (s.loadTiles spans).map tileIx ↔ bit spans (x.val / 2) = true ∧ s.legHeld (x.val / 2) = false ∧ x.val = s.spanTile (x.val / 2) := by
  have half := s.spanTile_half
  simp only [State.loadTiles, List.mem_map, List.mem_filter, mem_bitsOf, Bool.not_eq_true']
  constructor
  · rintro ⟨t, ⟨k, ⟨⟨hk, hbit⟩, hfree⟩, ht⟩, rfl⟩
    have hval : (tileIx t).val = s.spanTile k := by
      rw [← ht]
      exact tileIx_of_lt (by have := half k; omega)
    rw [hval, half]
    exact ⟨hbit, hfree, rfl⟩
  · rintro ⟨hbit, hfree, hx⟩
    refine ⟨x.val, ⟨x.val / 2, ⟨⟨by omega, hbit⟩, hfree⟩, hx.symm⟩, tileIx_val x⟩

/-- What tells the entries of a list apart keeps it free of duplicates. -/
theorem nodup_map_of_inj {α β : Type} {f : α → β} {l : List α} (distinct : l.Nodup) (inj : ∀ a ∈ l, ∀ b ∈ l, f a = f b → a = b) :
    (l.map f).Nodup := by
  induction l with
  | nil => exact List.nodup_nil
  | cons x r ih =>
    obtain ⟨fresh, rest⟩ := List.nodup_cons.mp distinct
    refine List.nodup_cons.mpr ⟨fun twice => ?_, ih rest fun a ha b hb => inj a (List.mem_cons_of_mem x ha) b (List.mem_cons_of_mem x hb)⟩
    obtain ⟨b, hb, same⟩ := List.mem_map.mp twice
    exact fresh (inj b (List.mem_cons_of_mem x hb) x List.mem_cons_self same ▸ hb)

theorem State.nodup_loadTiles (s : State) (spans : Nat) : ((s.loadTiles spans).map tileIx).Nodup := by
  rw [State.loadTiles, List.map_map]
  refine nodup_map_of_inj ((nodup_bitsOf 4 spans).filter _) fun j hj k hk same => ?_
  have half := s.spanTile_half
  have small (n : Nat) (hn : n ∈ (bitsOf 4 spans).filter (fun k => !s.legHeld k)) : s.spanTile n < 8 := by
    have := (mem_bitsOf.mp (List.mem_filter.mp hn).1).1
    have := half n
    omega
  have tiles : s.spanTile j = s.spanTile k := by
    have := congrArg Fin.val same
    simpa only [Function.comp, tileIx_of_lt (small j hj), tileIx_of_lt (small k hk)] using this
  rw [← half j, ← half k, tiles]

/-- A load in flight, as it begins. -/
def State.loadOf (s : State) (p : Packet) (spans a : Nat) (bs : List Byte) : InFlight :=
  { wid := s.stores.nextWid, disp := s.dispOf p.seq, session := p.session, addr := a, data := bs,
    twins := (bitsOf 4 spans).map (fun k => { twin := k, stage := if s.legHeld k then 0 else 1, first := s.spanTile k }) }

theorem State.loadBegin_eq (s : State) (p : Packet) (spans a : Nat) (bs : List Byte) :
    s.loadBegin p spans a bs =
      { (s.loadTiles spans).foldl (fun s t => s.tileWrite t a bs) s with
        stores := { s.stores with inFlight := s.stores.inFlight ++ [s.loadOf p spans a bs], nextWid := s.stores.nextWid + 1 } } := by
  have begun : ((s.loadOf p spans a bs).twins.filter (fun g => g.stage == 1)).foldl (fun s g => s.tileWrite g.first a bs) s =
      (s.loadTiles spans).foldl (fun s t => s.tileWrite t a bs) s := by
    have now : ((fun g : Leg => g.stage == 1) ∘ fun k => { twin := k, stage := if s.legHeld k then 0 else 1, first := s.spanTile k }) =
        fun k => !s.legHeld k := by
      funext k
      cases held : s.legHeld k <;> simp [held]
    rw [State.loadOf, List.filter_map, now, List.foldl_map, State.loadTiles, List.foldl_map]
  have load : s.loadBegin p spans a bs =
      let t := ((s.loadOf p spans a bs).twins.filter (fun g => g.stage == 1)).foldl (fun s g => s.tileWrite g.first a bs) s
      { t with stores := { t.stores with inFlight := t.stores.inFlight ++ [s.loadOf p spans a bs], nextWid := t.stores.nextWid + 1 } } := rfl
  rw [load, begun, ← State.foldWrite_frame]

/-! ## Packets taken up -/

theorem State.place_dispOf (s : State) (p : Packet) : (s.place p).dispOf p.seq = s.qen.nextDisp := by
  unfold State.place
  extract_lets e q s1
  split
  case h_1 absent =>
    rw [State.entry] at absent
    simp only [State.dispOf, State.entry, State.setStore, List.find?_append, absent]
    simp [e]
  case h_2 x present =>
    rw [State.dispOf, State.entry_updEntry]
    · rw [show s1.entry p.seq = some x from present]
      simp
    · intro _; rfl

theorem State.run_dispOf (s : State) (seq n : Nat) (w : Wait) : (s.run seq w).dispOf n = s.dispOf n := by
  rw [State.dispOf, State.run, State.entry_updEntry]
  · rw [Option.map_map, State.dispOf]
    congr 2
    funext e
    simp only [Function.comp]
    split <;> rfl
  · intro _; rfl

section
variable {s t : State} {p : Packet} {bs : List Byte}

/-- A package with a packet taken up is the package before with some queue engine. -/
theorem TakenUp.exists_engine (up : TakenUp s t p) : ∃ q, t = { s with qen := q } := ⟨t.qen, up.eq⟩

/-! ## MEM.WRITE (03 R104, R105) -/

theorem feeds_memWrite (h : opMemWrite.Feeds s p bs) : bs.length = p.dw 7 := by
  obtain ⟨-, a, ⟨-, reads⟩, -⟩ := h
  exact (Prod.mk.inj (Option.some.inj reads)).2.symm

theorem fed_memWrite_dispOf : (opMemWrite.fed s p bs).dispOf p.seq = s.qen.nextDisp :=
  (State.run_dispOf _ _ _ _).trans ((State.run_dispOf _ _ _ _).trans (s.place_dispOf p))

/-- MEM.WRITE begins a load of its bytes to the spans that it names, and completes. -/
theorem actMemWrite_begins (up : TakenUp s t p) (whole : bs.length = p.dw 7) (disp : t.dispOf p.seq = s.qen.nextDisp) :
    (actMemWrite t p bs).DoneWith p.seq St.ok 0 0 ∧
    { actMemWrite t p bs with tiles := s.tiles, stores := s.stores }.beside = s.beside ∧
    (actMemWrite t p bs).stores = { s.stores with
      inFlight := s.stores.inFlight ++
        [{ wid := s.stores.nextWid, disp := s.qen.nextDisp, session := p.session, addr := p.da 3, data := bs,
           twins := (bitsOf 4 (p.f 2 3 0)).map (fun k =>
             { twin := k, stage := if s.legHeld k then 0 else 1, first := s.spanTile k }) }]
      nextWid := s.stores.nextWid + 1 } ∧
    ∀ x : Tile, ((actMemWrite t p bs).tile x).mem =
      if bit (p.f 2 3 0) (x.val / 2) ∧ s.legHeld (x.val / 2) = false ∧ x.val = s.spanTile (x.val / 2) ∧ (s.tile x).takes
      then Mem.write (s.tile x).mem (p.da 3) bs else (s.tile x).mem := by
  have all : bs.take (p.dw 7) = bs := List.take_of_length_le (by omega)
  have frame := State.foldWrite_frame (t.loadTiles (p.f 2 3 0)) (p.da 3) bs t
  obtain ⟨q, ht⟩ := up.exists_engine
  have held (k : Nat) : t.legHeld k = s.legHeld k := by rw [ht]; rfl
  have spanTile (k : Nat) : t.spanTile k = s.spanTile k := by rw [ht]; rfl
  rw [actMemWrite, all, State.loadBegin_eq]
  refine ⟨up.done _ ?store, ?beside, ?stores, fun x => ?memory⟩
  case store => rw [← frame]
  case beside =>
    have done (u : State) : { u.done p.seq St.ok with tiles := s.tiles, stores := s.stores }.beside =
        { u with tiles := s.tiles, stores := s.stores }.beside :=
      congrArg (fun v : State => { v with tiles := s.tiles, stores := s.stores }) (State.done_beside u p.seq St.ok)
    rw [done, ← frame, ht]
    rfl
  case stores =>
    rw [State.done_stores, State.loadOf, disp, ht]
    simp only [← ht, held, spanTile]
  case memory =>
    have tile (u : State) : (u.done p.seq St.ok).tile x = u.tile x := by simp only [State.tile, State.done_tiles]
    have memory := State.mem_foldWrite (t.nodup_loadTiles (p.f 2 3 0)) (p.da 3) bs t x
    rw [tile]
    refine memory.trans ?_
    have stands : t.tile x = s.tile x := by rw [ht]; rfl
    simp only [State.mem_loadTiles, held, spanTile, stands, and_assoc]

/-! ## MEM.READ and MEM.INFO (03 R131; 13 R444) -/

theorem State.hostWrite_beside (s : State) (a : Nat) (bs : List Byte) : (s.hostWrite a bs).beside = s.beside.hostWrite a bs := rfl

/-- A report completes its packet, and its bytes are in host memory. -/
theorem TakenUp.reports (up : TakenUp s t p) (a : Nat) (bs : List Byte) :
    ((t.hostWrite a bs).done p.seq St.ok).DoneWith p.seq St.ok 0 0 ∧
      ((t.hostWrite a bs).done p.seq St.ok).beside = (s.hostWrite a bs).beside := by
  refine ⟨up.done _, ?_⟩
  rw [State.done_beside, State.hostWrite_beside, up.beside, State.hostWrite_beside]

/-- A packet completed with no other effect. -/
theorem TakenUp.refuses (up : TakenUp s t p) (st : Nat) :
    (t.done p.seq st).DoneWith p.seq st 0 0 ∧ (t.done p.seq st).beside = s.beside :=
  ⟨up.done _, (State.done_beside _ _ _).trans up.beside⟩

/-- A packet completed with the address at which copies differ (03 R616). -/
theorem TakenUp.differs (up : TakenUp s t p) (a : Nat) :
    (t.doneDiffer p.seq a).DoneWith p.seq St.copyDiffer (a % 2 ^ 32) (a / 2 ^ 32 % 2 ^ 31) ∧ (t.doneDiffer p.seq a).beside = s.beside := by
  refine ⟨?_, (State.complete_beside _ _ _ _ _).trans up.beside⟩
  have done := up.complete (u := t) St.copyDiffer (a % 2 ^ 32) (a / 2 ^ 32)
  rwa [Nat.mod_mod] at done

/-- MEM.READ of one tile: its bytes in host memory, or ST_MEM_UNCORR over a word that cannot be corrected. -/
theorem actMemRead_one (up : TakenUp s t p) (one : p.f 2 5 4 < 2) :
    let x := s.tileN (2 * oneSpan (p.f 2 3 0) + p.f 2 5 4)
    actMemRead t p bs = if x.uncorr (p.da 3) (p.dw 7) then t.done p.seq St.memUncorr
      else (t.hostWrite (p.ha 5) (Mem.read x.mem (p.da 3) (p.dw 7))).done p.seq St.ok := by
  obtain ⟨q, ht⟩ := up.exists_engine
  have tile (n : Nat) : t.tileN n = s.tileN n := by rw [ht]; rfl
  rcases (by omega : p.f 2 5 4 = 0 ∨ p.f 2 5 4 = 1) with sel | sel
  · simp [actMemRead, sel, tile]
  · simp [actMemRead, sel, tile]

/-- MEM.READ of both tiles, where neither has a word that cannot be corrected: the bytes where they agree, else the first address
at which they differ. -/
theorem actMemRead_both (up : TakenUp s t p) (both : p.f 2 5 4 = 2) (hx : (s.tileN (2 * oneSpan (p.f 2 3 0))).uncorr (p.da 3) (p.dw 7) = false)
    (hy : (s.tileN (2 * oneSpan (p.f 2 3 0) + 1)).uncorr (p.da 3) (p.dw 7) = false) :
    let bx := Mem.read (s.tileN (2 * oneSpan (p.f 2 3 0))).mem (p.da 3) (p.dw 7)
    let bx' := Mem.read (s.tileN (2 * oneSpan (p.f 2 3 0) + 1)).mem (p.da 3) (p.dw 7)
    (∀ d, firstDiff (p.da 3) bx bx' = some d → actMemRead t p bs = t.doneDiffer p.seq d) ∧
    (firstDiff (p.da 3) bx bx' = none → actMemRead t p bs = (t.hostWrite (p.ha 5) bx).done p.seq St.ok) := by
  obtain ⟨q, ht⟩ := up.exists_engine
  have tile (n : Nat) : t.tileN n = s.tileN n := by rw [ht]; rfl
  refine ⟨fun d differ => ?_, fun same => ?_⟩
  · simp [actMemRead, both, tile, hx, hy, differ]
  · simp [actMemRead, both, tile, hx, hy, same]

/-! ## MEM.COMPRESS (03 R127, R128) -/

/-- MEM.COMPRESS stays RUNNING: its destination is live, and its sizing pass starts. -/
theorem actMemCompress_starts (up : TakenUp s t p) :
    { actMemCompress t p bs with stores := s.stores }.beside = s.beside ∧
    (actMemCompress t p bs).stores = { s.stores with
      live := s.stores.live ++ (bitsOf 4 (p.f 2 3 0)).map (fun k => { span := k, base := p.da 8, len := p.da 10, key := p.da 8, seq := p.seq })
      compress := s.stores.compress ++ [{ seq := p.seq, writing := false, outs := [] }] } := by
  obtain ⟨q, ht⟩ := up.exists_engine
  subst ht
  exact ⟨rfl, rfl⟩

/-! ## MEM.VERIFY (03 R121, R131) -/

/-- The failures that MEM.VERIFY finds: tile, strip and cause. -/
def State.verifyFails (s : State) (p : Packet) : List (Nat × Nat × Nat) :=
  (bitsOf 4 (p.f 2 3 0)).flatMap (fun k =>
    match s.surface k (p.da 3) with
    | none => []
    | some d => [2 * k, 2 * k + 1].flatMap (fun t =>
        if (s.tileN t).takes then ((s.tileN t).failedStrips d).map (fun r => (t, r.1, r.2)) else []))

theorem mem_verifyFails {f : Nat × Nat × Nat} : f ∈ s.verifyFails p ↔ ∃ k d, k < 4 ∧ bit (p.f 2 3 0) k = true ∧
    s.surface k (p.da 3) = some d ∧ (f.1 = 2 * k ∨ f.1 = 2 * k + 1) ∧ (s.tileN f.1).takes = true ∧ f.2 ∈ (s.tileN f.1).failedStrips d := by
  obtain ⟨t, r⟩ := f
  have onTile (n : Nat) (d : Desc) : (t, r) ∈ (if (s.tileN n).takes then ((s.tileN n).failedStrips d).map (fun r => (n, r.1, r.2)) else []) ↔
      t = n ∧ (s.tileN t).takes = true ∧ r ∈ (s.tileN t).failedStrips d := by
    split
    case isTrue takes =>
      simp only [List.mem_map, Prod.mk.injEq]
      constructor
      · rintro ⟨r', hr, rfl, h⟩
        rw [← show r' = r from Prod.ext (congrArg Prod.fst h) (congrArg Prod.snd h)]
        exact ⟨rfl, takes, hr⟩
      · rintro ⟨rfl, -, hr⟩
        exact ⟨r, hr, rfl, rfl⟩
    case isFalse off =>
      refine ⟨fun h => absurd h List.not_mem_nil, ?_⟩
      rintro ⟨rfl, takes, -⟩
      exact absurd takes off
  simp only [State.verifyFails, List.mem_flatMap, mem_bitsOf]
  constructor
  · rintro ⟨k, ⟨hk, hbit⟩, h⟩
    split at h
    case h_1 => cases h
    case h_2 d hd =>
      obtain ⟨n, hn, h⟩ := List.mem_flatMap.mp h
      obtain ⟨rfl, takes, hr⟩ := (onTile n d).mp h
      exact ⟨k, d, hk, hbit, hd, by simpa using hn, takes, hr⟩
  · rintro ⟨k, d, hk, hbit, hd, ht, takes, hr⟩
    refine ⟨k, ⟨hk, hbit⟩, ?_⟩
    rw [hd]
    exact List.mem_flatMap.mpr ⟨t, by simpa using ht, (onTile t d).mpr ⟨rfl, takes, hr⟩⟩

theorem State.place_verifyFails (s : State) (p : Packet) : (s.place p).verifyFails p = s.verifyFails p := by
  rw [s.place_eq p]
  rfl

theorem mem_foldl_addNew {β : Type} {l : List β} {f : β → Nat} {acc : List Nat} {n : Nat} :
    n ∈ l.foldl (fun l b => addNew l (f b)) acc ↔ n ∈ acc ∨ ∃ b ∈ l, f b = n := by
  induction l generalizing acc with
  | nil => simp
  | cons b r ih =>
    rw [List.foldl_cons, ih]
    have new : n ∈ addNew acc (f b) ↔ n ∈ acc ∨ f b = n := by
      unfold addNew
      split
      case isTrue known => exact ⟨.inl, fun h => h.elim id fun e => e ▸ known⟩
      case isFalse => simp [eq_comm]
    simp only [new, List.mem_cons, exists_eq_or_imp, or_assoc]

theorem State.foldRaise_qen {β : Type} (l : List β) (n : β → Nat) (src : Nat) (data : β → List Nat) (s : State) :
    (l.foldl (fun s b => s.raiseN (n b) src (data b)) s).qen = s.qen := by
  induction l generalizing s with
  | nil => rfl
  | cons b r ih => exact (ih _).trans (State.raiseN_qen ..)

theorem actMemVerify_eq : actMemVerify t p bs =
    let u := (t.verifyFails p).foldl (fun s f => s.raiseN f.1 Ev.stripCheckFail [f.1 / 2, p.da 3, f.2.1, f.2.2]) t
    let strips := (t.verifyFails p).foldl (fun l f => addNew l f.2.1) []
    match strips with
    | [] => u.done p.seq St.ok
    | i :: is => u.complete p.seq St.checkFail strips.length (is.foldl min i) := rfl

/-- MEM.VERIFY that finds no failure completes with ST_OK and has no other effect. -/
theorem actMemVerify_clean (clean : t.verifyFails p = []) : actMemVerify t p bs = t.done p.seq St.ok := by
  rw [actMemVerify_eq, clean]
  rfl

/-- MEM.VERIFY that finds a failure completes with ST_CHECK_FAIL. -/
theorem actMemVerify_fails (up : TakenUp s t p) {f : Nat × Nat × Nat} (hf : f ∈ t.verifyFails p) :
    ∃ r0 r1, (actMemVerify t p bs).DoneWith p.seq St.checkFail r0 r1 := by
  rw [actMemVerify_eq]
  have member : f.2.1 ∈ (t.verifyFails p).foldl (fun l f => addNew l f.2.1) [] := mem_foldl_addNew.mpr (.inr ⟨f, hf, rfl⟩)
  generalize (t.verifyFails p).foldl (fun l f => addNew l f.2.1) [] = strips at member ⊢
  cases strips with
  | nil => cases member
  | cons i is => exact ⟨_, _, up.complete _ _ _ (congrArg Qen.store (State.foldRaise_qen _ Prod.fst _ _ t))⟩

end

/-- Settles O12: each MEM command on the package in which its packet stands. -/
theorem memoryCommandsTakeEffect : Obligations.MemoryCommandsTakeEffect := by
  unfold Obligations.MemoryCommandsTakeEffect
  refine ⟨fun s p bs feeds => ?write, fun s p runs one good => ?readOne, fun s p runs one bad => ?readBad,
    fun s p runs both hx hy => ?readBoth, fun s p runs => ?fence, fun s p runs => ?compress, fun s p runs clean => ?clean,
    fun s p k d t i c runs hbit hk hd ht takes fails => ?fails, fun s p runs => ?info⟩
  case write =>
    obtain ⟨u, first, second⟩ := exec_feeds (i := .memWrite p) rfl feeds
    exact ⟨u, _, first, second, actMemWrite_begins (opMemWrite.fed_takenUp s p bs rfl rfl) (feeds_memWrite feeds) fed_memWrite_dispOf⟩
  case readOne =>
    have act : actMemRead (s.place p) p [] = _ := (actMemRead_one (s.place_takenUp p) one).trans (if_neg (ne_true_of_eq_false good))
    exact ⟨_, (exec_runs rfl runs).trans (congrArg _ act), (s.place_takenUp p).reports _ _⟩
  case readBad =>
    have act : actMemRead (s.place p) p [] = _ := (actMemRead_one (s.place_takenUp p) one).trans (if_pos bad)
    exact ⟨_, (exec_runs rfl runs).trans (congrArg _ act), (s.place_takenUp p).refuses _⟩
  case readBoth =>
    obtain ⟨differ, same⟩ := actMemRead_both (bs := []) (s.place_takenUp p) both hx hy
    refine ⟨_, exec_runs rfl runs, ?_⟩
    split
    case h_1 d hd =>
      rw [show opMemRead.act (opMemRead.at s p) p [] = _ from differ d hd]
      exact (s.place_takenUp p).differs d
    case h_2 hd =>
      rw [show opMemRead.act (opMemRead.at s p) p [] = _ from same hd]
      exact (s.place_takenUp p).reports _ _
  case fence => exact ⟨_, exec_runs rfl runs, (s.place_takenUp p).refuses _⟩
  case compress =>
    obtain ⟨e, he, hst, hwait⟩ := s.place_running p
    exact ⟨_, exec_runs rfl runs, ⟨e, he, hst, hwait⟩, actMemCompress_starts (bs := []) (s.place_takenUp p)⟩
  case clean =>
    have none : (s.place p).verifyFails p = [] := by
      refine List.eq_nil_iff_forall_not_mem.mpr fun f hf => ?_
      rw [State.place_verifyFails] at hf
      obtain ⟨k, d, hk, hbit, hd, ht, takes, hr⟩ := mem_verifyFails.mp hf
      rw [clean k d hbit hk hd f.1 ht takes] at hr
      cases hr
    exact ⟨_, (exec_runs rfl runs).trans (congrArg _ (actMemVerify_clean (bs := []) none)), (s.place_takenUp p).refuses _⟩
  case fails =>
    have found : (t, i, c) ∈ (s.place p).verifyFails p := by
      rw [State.place_verifyFails]
      exact mem_verifyFails.mpr ⟨k, d, hk, hbit, hd, ht, takes, fails⟩
    obtain ⟨r0, r1, done⟩ := actMemVerify_fails (bs := []) (s.place_takenUp p) found
    exact ⟨_, r0, r1, exec_runs rfl runs, done⟩
  case info =>
    have same : (s.place p).memInfo = s.memInfo := by rw [s.place_eq p]; rfl
    have reports := (s.place_takenUp p).reports (p.ha 2) s.memInfo
    rw [← same] at reports ⊢
    exact ⟨_, exec_runs rfl runs, reports⟩

/-! ## A load lands on both tiles (01 R34; 03 R105) -/

theorem onTwin_present {k : Fin 4} {s u : State} (h : k.val < s.nTwins) : onTwin k s u = .next u := if_pos h
theorem onTile_present {t : Tile} {s u : State} (h : t.val < s.nTiles) : onTile t s u = .next u := if_pos h

/-- Settles O13: a leg of a load by its stage, a compression by its pass, and a packet whose earlier writes have landed. -/
theorem memoryWritesLand : Obligations.MemoryWritesLand := by
  unfold Obligations.MemoryWritesLand
  refine ⟨⟨fun s wid k w g hk hleg stage => ?mirror, fun s wid k w g hk hleg stage => ?mirrored, fun s wid k w g hk hleg stage => ?both,
    fun s wid k w g hk hleg stage => ?held, fun s seq e a he ha hheld pass => ?writing, fun s seq e a he ha hheld pass => ?sizing,
    fun s seq e spans upTo data d he hst hwait hd landed => ?release, fun s t a bs x takes => ?tile⟩,
    fun m a bs x wf => ⟨Mem.wf_write wf, Mem.byte_write wf a bs x⟩⟩
  case mirror => exact (onTwin_present hk).trans (by simp only [State.mirrorLoad, hleg, stage, if_true])
  case mirrored => exact (onTwin_present hk).trans (by simp [State.landLoad, hleg, stage])
  case both => exact (onTwin_present hk).trans (by simp [State.landLoad, hleg, stage])
  case held => exact (onTwin_present hk).trans (by simp [State.landLoad, hleg, stage])
  case writing => exact congrArg _ (show s.compressPass seq = _ by simp [State.compressPass, ha, he, hheld, pass])
  case sizing => exact congrArg _ (show s.compressPass seq = _ by simp [State.compressPass, ha, he, hheld, pass])
  case release => exact congrArg _ (show s.waitRelease seq = _ by simp [State.waitRelease, he, hst, hwait, hd, landed])
  case tile =>
    rw [State.mem_tileWrite]
    by_cases here : x = tileIx t
    · rw [if_pos ⟨here, here ▸ takes⟩, if_pos here]
    · rw [if_neg (fun h => here h.1), if_neg here]

end Sys2Proof.Machine
end

section
/-! PROOF of the JOB commands and of the changes that LAYER, RAY and MARK packets submit (04 R154 to R161, R172 to R188; 06 R206;
13 R439 to R443). -/

namespace Sys2Proof.Machine

/-! ## What binding and pruning leave unchanged (03 R109) -/

/-- t differs from s in the stores of job memory alone. -/
def StoresOnly (s t : State) : Prop := { s with stores := t.stores } = t

theorem StoresOnly.refl (s : State) : StoresOnly s s := rfl
theorem StoresOnly.trans {s t u : State} (h : StoresOnly s t) (h' : StoresOnly t u) : StoresOnly s u := by
  rw [StoresOnly, ← h', ← h]
theorem StoresOnly.foldl {α : Type} {f : State → α → State} (hf : ∀ s a, StoresOnly s (f s a)) (l : List α) (s : State) :
    StoresOnly s (l.foldl f s) := by
  induction l generalizing s with
  | nil => exact .refl s
  | cons a r ih => exact (hf s a).trans (ih _)
theorem StoresOnly.qen {s t : State} (h : StoresOnly s t) : t.qen = s.qen := by rw [← (h : _ = t)]
theorem StoresOnly.job {s t : State} (h : StoresOnly s t) : t.job = s.job := by rw [← (h : _ = t)]
theorem StoresOnly.tiles {s t : State} (h : StoresOnly s t) : t.tiles = s.tiles := by rw [← (h : _ = t)]

theorem State.liveAdd_only (s : State) (spans key base len seq : Nat) : StoresOnly s (s.liveAdd spans key base len seq) := rfl

theorem State.bindKernels_only (s : State) (p : Packet) (bs : List Byte) : StoresOnly s (s.bindKernels p bs).2 := by
  simp only [State.bindKernels]
  split
  case isTrue full => exact .refl s
  case isFalse =>
    refine .foldl (fun s e => .foldl (fun s k => ?_) _ s) _ s
    split
    case isTrue known => exact .refl s
    case isFalse new => exact s.liveAdd_only ..

/-- Tiles changed beside their job memory, and live ranges dropped. -/
structure Pruned (s t : State) : Prop where
  only : { s with stores := t.stores, tiles := t.tiles } = t
  mem : ∀ x, (t.tile x).mem = (s.tile x).mem

theorem Pruned.trans {s t u : State} (h : Pruned s t) (h' : Pruned t u) : Pruned s u :=
  ⟨by rw [← h'.only, ← h.only], fun x => (h'.mem x).trans (h.mem x)⟩

theorem Pruned.ofTiles {β : Type} {g : β → Nat} {f : β → TileState → TileState} (hf : ∀ b x, (f b x).mem = x.mem) (l : List β) (s : State) :
    Pruned s (l.foldl (fun s b => s.updTileN (g b) (f b)) s) := by
  induction l generalizing s with
  | nil => exact ⟨rfl, fun _ => rfl⟩
  | cons b r ih =>
    refine Pruned.trans ⟨rfl, fun x => ?_⟩ (ih _)
    rw [State.tile_updTileN]
    split
    · exact hf b _
    · rfl

theorem State.pruneLive_pruned (s : State) : Pruned s s.pruneLive := by
  unfold State.pruneLive
  extract_lets stores s1
  have dropped : Pruned s s1 := ⟨rfl, fun _ => rfl⟩
  exact dropped.trans (.ofTiles (g := id) (by intros; rfl) _ s1)

section
variable {s t : State}

theorem Pruned.qen (h : Pruned s t) : t.qen = s.qen := by rw [← h.only]
theorem Pruned.job (h : Pruned s t) : t.job = s.job := by rw [← h.only]
theorem Pruned.entry (h : Pruned s t) (seq : Nat) : t.entry seq = s.entry seq := by rw [State.entry, h.qen]; rfl
theorem Pruned.done {seq st r0 r1 : Nat} (h : Pruned s t) (hs : s.DoneWith seq st r0 r1) : t.DoneWith seq st r0 r1 := by
  unfold State.DoneWith
  rw [h.entry]
  exact hs
theorem Pruned.mems (h : Pruned s t) : t.tiles.map (·.mem) = s.tiles.map (·.mem) := by
  refine Vector.ext fun i hi => ?_
  rw [Vector.getElem_map, Vector.getElem_map]
  exact h.mem ⟨i, hi⟩

end

/-! ## JOB commands that a check turns away (13 R440, R442) -/

section
variable {s : State} {p : Packet} {d : OpDef}

/-- A packet whose opcode binds kernel sets stands in the store, with the stores of job memory changed alone. -/
theorem OpDef.at_binding (hb : d.bind = State.bindKernels) (hh : d.hold = fun s _ => s) : StoresOnly (s.place p) (d.at s p) := by
  unfold OpDef.at OpDef.held
  rw [hb, hh]
  exact (s.place p).bindKernels_only p []

/-- A packet that a late check turns away completes with the check's status and results; job and job memory stand. -/
theorem StoresOnly.turnedAway {t : State} (bound : StoresOnly (s.place p) t) (st r0 r1 : Nat) :
    let u := (t.complete p.seq st r0 r1).pruneLive
    u.job = s.job ∧ u.tiles.map (·.mem) = s.tiles.map (·.mem) ∧ u.DoneWith p.seq st (r0 % 2 ^ 32) (r1 % 2 ^ 31) := by
  have pruned := (t.complete p.seq st r0 r1).pruneLive_pruned
  refine ⟨?_, ?_, pruned.done (State.complete_placed t s p (congrArg Qen.store bound.qen) st r0 r1)⟩
  · rw [pruned.job, State.complete_job, bound.job, State.place_job]
  · rw [pruned.mems, State.complete_tiles, bound.tiles, State.place_tiles]

/-- JOB.CHANGE that passes is PARKED, with the job's items and the staged ones as the job that is to follow. -/
theorem actJobChange_parks {t : State} {bs : List Byte} (bound : StoresOnly (s.place p) t) (ok : t.changeCheck.1 = St.ok) :
    (actJobChange t p bs).ParkedOn p.seq .change ∧ (actJobChange t p bs).job =
      { s.job with change := some p.seq, changeItems := PMap.putAll s.job.base.items s.job.staged, staged := [] } := by
  simp only [actJobChange, if_neg (not_not_intro ok)]
  refine ⟨State.park_placed _ s p ?_ _, ?_⟩
  · exact congrArg Qen.store bound.qen
  · simp only [State.park_job, State.withStaged, bound.job, State.place_job]

end

/-- Settles O14: the two outcomes of each JOB command's late check. -/
theorem jobCommandsTakeEffect : Obligations.JobCommandsTakeEffect := by
  unfold Obligations.JobCommandsTakeEffect
  refine ⟨fun s p runs ok => ?arms, fun s p runs => ?armRefused, fun s p runs ok => ?changes, fun s p runs => ?changeRefused,
    fun s p runs => ?disarms, fun s p runs => ?checks⟩
  case arms =>
    rw [exec_runs_as (f := actJobArm) rfl rfl runs, actJobArm, if_neg (not_not_intro ok)]
  case armRefused =>
    intro r bad
    have turned : actJobArm (opJobArm.at s p) p [] = ((opJobArm.at s p).complete p.seq r.1 r.2.1 r.2.2).pruneLive := if_pos bad
    have bound : StoresOnly (s.place p) (opJobArm.at s p) := OpDef.at_binding rfl rfl
    exact ⟨_, (exec_runs_as (f := actJobArm) rfl rfl runs).trans (congrArg _ turned), bound.turnedAway r.1 r.2.1 r.2.2⟩
  case changes =>
    have bound : StoresOnly (s.place p) (opJobChange.at s p) := OpDef.at_binding rfl rfl
    exact ⟨actJobChange (opJobChange.at s p) p [], exec_runs_as rfl rfl runs, actJobChange_parks bound ok⟩
  case changeRefused =>
    intro r bad
    have turned : actJobChange (opJobChange.at s p) p [] = ((opJobChange.at s p).complete p.seq r.1 r.2.1 r.2.2).pruneLive := if_pos bad
    have bound : StoresOnly (s.place p) (opJobChange.at s p) := OpDef.at_binding rfl rfl
    obtain ⟨job, -, done⟩ := bound.turnedAway r.1 r.2.1 r.2.2
    exact ⟨_, (exec_runs_as (f := actJobChange) rfl rfl runs).trans (congrArg _ turned), job, done⟩
  case disarms =>
    rw [exec_runs rfl runs, ← State.place_job s p]
    rfl
  case checks =>
    refine ⟨_, exec_runs rfl runs, ?_, State.complete_placed _ s p rfl _ _ _⟩
    exact (State.complete_beside _ _ _ _ _).trans (s.place_beside p)

/-! ## Changes of a target product (04 R154, R155) -/

/-- Settles O15: each command submits the change that its packet, or its table, spells. -/
theorem targetChangesAreSubmitted : Obligations.TargetChangesAreSubmitted := by
  unfold Obligations.TargetChangesAreSubmitted
  refine ⟨fun s p bs es feeds items plain kernels => ?layerSet, fun s p bs feeds => ?layerFlip, fun s p runs => ?rayBind,
    fun s p runs none => ?noRules, fun s p bs feeds => ?rules, fun s p bs ts feeds bodies => ?shifts, fun s p bs ts feeds table => ?lot,
    fun s p bs ts feeds table => ?names, fun s p bs feeds => ?field, fun s p runs => ?counter⟩
  case layerSet =>
    obtain ⟨u, first, second⟩ := exec_feeds (i := .layerSet p) rfl feeds
    refine ⟨u, first, second.trans (congrArg _ ?_)⟩
    show actLayerSet (opLayerSet.fed s p bs) p bs = _
    simp only [actLayerSet, items, Option.getD_some, plain, kernels, ne_eq, not_true_eq_false, if_false, Bool.not_false, if_true]
  case layerFlip => exact exec_feeds rfl feeds
  case rayBind =>
    have act (t : State) : opRayBind.act t p [] = (t.submit p { LaneChange.of p with layers := [1], items := bindItemsOf p }).pruneLive := rfl
    rw [exec_runs rfl runs, act]
  case noRules =>
    refine (exec_runs rfl runs).trans (congrArg _ ?_)
    have bodies : ruleBodies p [] = [] := by rw [ruleBodies, none]; rfl
    show (s.place p).submit p (markChange p 1 0 (ruleBodies p []) []) = _
    rw [bodies]
  case rules => exact exec_feeds rfl feeds
  case shifts =>
    obtain ⟨u, first, second⟩ := exec_feeds (i := .markShifts p) rfl feeds
    refine ⟨u, first, second.trans (congrArg _ ?_)⟩
    show (opMarkShifts.fed s p bs).submit p (markChange p 2 0 ((shiftBodies p bs).getD []) []) = _
    rw [bodies, Option.getD_some]
  case lot =>
    obtain ⟨u, first, second⟩ := exec_feeds (i := .markLot p) rfl feeds
    refine ⟨u, first, second.trans (congrArg _ ?_)⟩
    show (opMarkLot.fed s p bs).submit p (markChange p 3 0 ((lenTable 36 32 (p.f 4 4 0) bs).getD []) []) = _
    rw [table, Option.getD_some]
  case names =>
    obtain ⟨u, first, second⟩ := exec_feeds (i := .markNames p) rfl feeds
    refine ⟨u, first, second.trans (congrArg _ ?_)⟩
    show (opMarkNames.fed s p bs).submit p (markChange p 4 0 ((lenTable 12 8 12 bs).getD []) []) = _
    rw [table, Option.getD_some]
  case field => exact exec_feeds rfl feeds
  case counter => exact exec_runs rfl runs

end Sys2Proof.Machine
end

section
/-! PROOF of what becomes of a submitted change and of a fence (04 R149, R154 to R159; 03 R107, R109). -/

namespace Sys2Proof.Machine

/-! ## What binding surfaces leaves unchanged (03 R109, R122) -/

theorem State.addStream_qen (s : State) (spans lane layer : Nat) (proof : Bool) (surf seq : Nat) :
    (s.addStream spans lane layer proof surf seq).qen = s.qen :=
  foldl_keeps State.qen (by intros; rfl) _ s

theorem State.bindSurface_qen (s : State) (seq spans reach lane : Nat) (proof : Bool) (e : Nat × Nat) :
    (s.bindSurface seq spans reach lane proof e).qen = s.qen := by
  refine (State.addStream_qen _ _ _ _ _ _ _).trans (foldl_keeps State.qen (fun s k => ?_) _ s)
  split <;> rfl

theorem State.bindLayers_qen (s : State) (p : Packet) (proof : Bool) (m : PMap) (named surfs kernels : List Nat) :
    (s.bindLayers p proof m named surfs kernels).2.qen = s.qen := by
  unfold State.bindLayers
  extract_lets j spans reach bad items binds kers here s1
  clear_value bad reach
  cases bad with
  | some r => rfl
  | none =>
    dsimp only
    split
    · rfl
    split
    · rfl
    split
    · rfl
    exact (foldl_keeps State.qen (by intros; rfl) _ s1).trans
      (foldl_keeps State.qen (by intros; exact State.bindSurface_qen ..) _ s)

theorem bindLayerSet_qen (s : State) (p : Packet) (bs : List Byte) : (bindLayerSet s p bs).2.qen = s.qen := by
  simp only [bindLayerSet]
  split
  case h_1 => rfl
  case h_2 =>
    split
    · rfl
    · exact s.bindLayers_qen ..

/-! ## A change submitted for a product (04 R155, R156) -/

section
variable {s : State} {p : Packet} {c : LaneChange} {e : StoreEntry} {n : Nat} {pr : Product}

theorem State.freeFences_done (he : s.entry p.seq = some e) (hst : e.st = .running) (st : Nat) :
    ((s.freeFences p.seq).done p.seq st).DoneWith p.seq st 0 0 ∧ ((s.freeFences p.seq).done p.seq st).beside = (s.freeFences p.seq).beside :=
  ⟨State.done_done (s.freeFences p.seq) p.seq st (e := e) he (by simp [hst]), State.done_beside _ _ _⟩

theorem State.awaitProduct_parks (he : s.entry p.seq = some e) (hc : c.seq = p.seq) :
    (s.awaitProduct p.tgtLane c).ParkedOn p.seq .product ∧
      ((s.awaitProduct p.tgtLane c).lane p.tgtLane).changes = (s.lane p.tgtLane).changes ++ [c] := by
  constructor
  · rw [State.awaitProduct, hc]
    exact State.park_parked _ (e := e) he
  · have lane := vget_vupd_eq s.job.lanes p.tgtLane Lane.reset (fun l => { l with changes := l.changes ++ [c] }) (field_lt p 2 3 0)
    exact congrArg Lane.changes lane

theorem State.submit_full (full : 64 ≤ s.pendingCount p.tgtLane) : s.submit p c = (s.freeFences p.seq).done p.seq St.flipQueueFull :=
  if_pos full

section
variable (room : s.pendingCount p.tgtLane < 64)
include room

theorem State.submit_nextJob (next : c.nextJob = true) : s.submit p c =
    ({ s with job := { s.job with nextJob := s.job.nextJob ++ [(p.tgtLane, { c with seq := 0 })] } }).done p.seq St.okStaged := by
  simp only [State.submit, ge_iff_le, if_neg (Nat.not_le.mpr room), next, if_true]

theorem State.submit_registered (now : c.nextJob = false) (target : c.target = some n) (hpr : s.product p.tgtLane n = some pr) :
    s.submit p c = if s.armLine pr < s.laneFree p.tgtLane then (s.freeFences p.seq).done p.seq St.flipLate
      else s.commitTarget p.tgtLane pr c := by
  simp only [State.submit, ge_iff_le, if_neg (Nat.not_le.mpr room), now, Bool.false_eq_true, if_false, target, hpr]

theorem State.submit_unregistered (now : c.nextJob = false) (target : c.target = some n) (hpr : s.product p.tgtLane n = none) :
    s.submit p c = if s.armed && n < (s.lane p.tgtLane).nextNum then (s.freeFences p.seq).done p.seq St.flipLate
      else s.awaitProduct p.tgtLane c := by
  simp only [State.submit, ge_iff_le, if_neg (Nat.not_le.mpr room), now, Bool.false_eq_true, if_false, target, hpr]

theorem State.submit_untargeted (now : c.nextJob = false) (target : c.target = none)
    (passed : ∀ pr ∈ s.job.products, pr.lane = p.tgtLane → s.armLine pr < s.laneFree p.tgtLane + s.itemN Pid.twnMargin) :
    s.submit p c = s.awaitProduct p.tgtLane c := by
  have noneAhead : s.job.products.find? (fun pr => pr.lane == p.tgtLane &&
      decide (s.laneFree p.tgtLane + s.itemN Pid.twnMargin ≤ s.armLine pr)) = none := by
    refine List.find?_eq_none.mpr fun pr hpr => ?_
    simp only [Bool.and_eq_true, beq_iff_eq, decide_eq_true_eq, not_and, Nat.not_le]
    exact passed pr hpr
  simp only [State.submit, ge_iff_le, if_neg (Nat.not_le.mpr room), now, Bool.false_eq_true, if_false, target, noneAhead]

end

end

/-! ## LAYER.SIGNAL (04 R157, R159) -/

/-- A line in a completion's results is as the packet gets it. -/
theorem TakenUp.doneLine {s t u : State} {p : Packet} (up : TakenUp s t p) (st n : Nat) (hu : u.qen.store = t.qen.store) :
    (u.doneLine p.seq st n).DoneWith p.seq st (n % 2 ^ 32) (n / 2 ^ 32 % 2 ^ 16) := by
  have done := up.complete st (lineR0 n) (lineR1 n) hu
  have low : lineR0 n % 2 ^ 32 = n % 2 ^ 32 := Nat.mod_mod _ _
  have high : lineR1 n % 2 ^ 31 = n / 2 ^ 32 % 2 ^ 16 := Nat.mod_eq_of_lt (by unfold lineR1; omega)
  rwa [low, high] at done

section
variable {s t : State} {p : Packet} {f : Fence} {bs : List Byte}

/-- LAYER.SIGNAL stamps a busy fence with the first line not yet begun, and says whether that is past the product's arm line. -/
theorem actLayerSignal_stamps (up : TakenUp s t p) (hf : s.fenceFor (p.f 2 11 0) p.session = some f) (busy : f.signal = none) :
    (actLayerSignal t p bs).DoneWith p.seq
      (if (s.product f.lane f.product).any (fun pr => decide (s.armLine pr < s.laneFree f.lane)) then St.fenceLate else St.ok)
      (s.laneFree f.lane % 2 ^ 32) (s.laneFree f.lane / 2 ^ 32 % 2 ^ 16) ∧
    (actLayerSignal t p bs).beside = { s with job := { s.job with fences := s.job.fences.map (fun (g : Fence) =>
      if g.id == f.id && g.lane == f.lane && g.product == f.product && g.signal == none
      then { g with signal := some (s.laneFree f.lane) } else g) } }.beside := by
  obtain ⟨q, ht⟩ := up.exists_engine
  have fence : t.fenceFor (p.f 2 11 0) p.session = some f := by rw [ht]; exact hf
  have free : t.laneFree f.lane = s.laneFree f.lane := by rw [ht]; rfl
  have late : (f.signal == some 0 || (match t.product f.lane f.product with
      | some pr => decide (t.laneFree f.lane > t.armLine pr)
      | none => false)) = (s.product f.lane f.product).any (fun pr => decide (s.armLine pr < s.laneFree f.lane)) := by
    have product : t.product f.lane f.product = s.product f.lane f.product := by rw [ht]; rfl
    have armLine (pr : Product) : t.armLine pr = s.armLine pr := by rw [ht]; rfl
    rw [product, free, busy]
    cases s.product f.lane f.product with
    | none => rfl
    | some pr => simp [armLine]
  let stamped := mapIf t.job.fences (fun g => g.id == f.id && g.lane == f.lane && g.product == f.product && g.signal == f.signal)
    (fun g => { g with signal := some (t.laneFree f.lane) })
  have act : actLayerSignal t p bs = ({ t with job := { t.job with fences := stamped } }).doneLine p.seq
        (if (s.product f.lane f.product).any (fun pr => decide (s.armLine pr < s.laneFree f.lane)) then St.fenceLate else St.ok)
        (t.laneFree f.lane) := by
    rw [← late]
    have unmissed : f.signal ≠ some 0 := by simp [busy]
    simp only [actLayerSignal, fence, stamped, if_neg unmissed] <;> rfl
  rw [act, free]
  refine ⟨up.doneLine _ _ rfl, ?_⟩
  simp only [State.doneLine_beside, stamped, busy, free]
  rw [ht]
  rfl

/-- LAYER.SIGNAL ends a missed fence, which takes no signal. -/
theorem actLayerSignal_ends (up : TakenUp s t p) (hf : s.fenceFor (p.f 2 11 0) p.session = some f) (missed : f.signal = some 0) :
    (actLayerSignal t p bs).DoneWith p.seq St.fenceLate (s.laneFree f.lane % 2 ^ 32) (s.laneFree f.lane / 2 ^ 32 % 2 ^ 16) ∧
    (actLayerSignal t p bs).beside = { s with job := { s.job with fences := s.job.fences.filter (fun (g : Fence) =>
      !(g.id == f.id && g.lane == f.lane && g.product == f.product && g.signal == some 0)) } }.beside := by
  obtain ⟨q, ht⟩ := up.exists_engine
  have fence : t.fenceFor (p.f 2 11 0) p.session = some f := by rw [ht]; exact hf
  have free : t.laneFree f.lane = s.laneFree f.lane := by rw [ht]; rfl
  have act : actLayerSignal t p bs = ({ t with job := { t.job with fences := t.job.fences.filter (fun g =>
      !(g.id == f.id && g.lane == f.lane && g.product == f.product && g.signal == some 0)) } }).doneLine p.seq St.fenceLate
        (t.laneFree f.lane) := by
    simp only [actLayerSignal, fence, missed, beq_self_eq_true, Bool.true_or, if_true]
  rw [act, free]
  refine ⟨up.doneLine _ _ rfl, ?_⟩
  rw [State.doneLine_beside, ht]
  rfl

/-! ## LAYER.SET on the proof path, and after its wait (03 R107; 04 R145, R149) -/

/-- LAYER.SET on the proof path completes at once, degraded where taps are cut. -/
theorem actLayerSet_proof {es : List (Nat × Int)} {e : StoreEntry} (he : t.entry p.seq = some e) (running : e.st = .running)
    (items : setItems p bs = some es) (proof : bit (p.dw 4) 8 = true) (kernels : (t.kernelsNow p es).1 = St.ok) :
    ∃ st, (st = St.ok ∨ st = St.okDegraded) ∧ (actLayerSet t p bs).DoneWith p.seq st 0 0 := by
  unfold actLayerSet
  simp only [items, Option.getD_some, kernels, ne_eq, not_true_eq_false, if_false, proof, Bool.not_true, Bool.false_eq_true]
  refine ⟨_, ?_, (State.pruneLive_pruned _).done (State.done_done _ _ _ (e := e) ?_ (by simp [running]))⟩
  · split
    · exact .inl rfl
    · exact .inr rfl
  · rw [State.entry, foldl_keeps State.qen (by intros; rfl)]
    exact he

theorem actLayerSet_refused {es : List (Nat × Int)} (items : setItems p bs = some es) (bad : (t.kernelsNow p es).1 ≠ St.ok) :
    actLayerSet t p bs =
      (t.complete p.seq (t.kernelsNow p es).1 (t.kernelsNow p es).2.1 (t.kernelsNow p es).2.2).pruneLive := by
  unfold actLayerSet
  simp only [items, Option.getD_some, if_pos bad]

end

/-- Settles O16: the cases of a submitted change, of a signalled fence and of LAYER.SET that waits for no product. -/
theorem submittedChangesWaitForTheirTarget : Obligations.SubmittedChangesWaitForTheirTarget := by
  unfold Obligations.SubmittedChangesWaitForTheirTarget
  refine ⟨fun s p c e he hst hc => ⟨fun full => ?full, fun room next => ?staged, fun n pr room now target hpr begun => ?late,
      fun n room now target hpr armed past => ?passed, fun n pr room now target hpr ahead => ?committed,
      fun n room now target hpr waits => ?unknown, fun room now target passed => ?untargeted⟩,
    fun s p f runs hf busy => ?stamps, fun s p f runs hf missed => ?ends, fun s p bs es feeds items proof kernels => ?proofPath,
    fun s p e sp to_ bs es he hp hst hwait hop landed items => ?afterWait, fun s p fenced => ?fence⟩
  case full =>
    rw [State.submit_full full]
    exact State.freeFences_done he hst _
  case staged =>
    rw [State.submit_nextJob room next]
    exact ⟨State.done_job _ _ _, State.done_done _ _ _ (e := e) he (by simp [hst])⟩
  case late =>
    rw [State.submit_registered room now target hpr, if_pos begun]
    exact State.freeFences_done he hst _
  case passed =>
    rw [State.submit_unregistered room now target hpr, armed, Bool.true_and, if_pos (decide_eq_true past)]
    exact State.freeFences_done he hst _
  case committed => rw [State.submit_registered room now target hpr, if_neg (Nat.not_lt.mpr ahead)]
  case unknown =>
    have later : ¬ (s.armed && decide (n < (s.lane p.tgtLane).nextNum)) = true := by
      rcases waits with idle | ahead
      · simp [idle]
      · simp [Nat.not_lt.mpr ahead]
    rw [State.submit_unregistered room now target hpr, if_neg later]
    exact State.awaitProduct_parks he hc
  case untargeted =>
    rw [State.submit_untargeted room now target passed]
    exact State.awaitProduct_parks he hc
  case stamps =>
    exact ⟨_, exec_runs_as (f := actLayerSignal) rfl rfl runs, actLayerSignal_stamps (s.place_takenUp p) hf busy⟩
  case ends =>
    exact ⟨_, exec_runs_as (f := actLayerSignal) rfl rfl runs, actLayerSignal_ends (s.place_takenUp p) hf missed⟩
  case proofPath =>
    obtain ⟨u, first, second⟩ := exec_feeds (i := .layerSet p) rfl feeds
    obtain ⟨e, he, running⟩ := opLayerSet.fed_entry s p bs (fun s => bindLayerSet_qen s p bs) (fun _ => rfl)
    exact ⟨u, _, first, second, actLayerSet_proof he running items proof kernels⟩
  case afterWait =>
    intro r bad
    let t := s.run p.seq .work
    have released : s.waitRelease p.seq = actLayerSet t p bs := by
      subst hp
      simp only [State.waitRelease, he, hst, hwait, hop, landed, if_true]
      rfl
    have pruned := (t.complete p.seq r.1 r.2.1 r.2.2).pruneLive_pruned
    refine ⟨_, congrArg Host.Outcome.next (released.trans (actLayerSet_refused items bad)), ?_, pruned.done ?_⟩
    · rw [pruned.job, State.complete_job]
      rfl
    · obtain ⟨e', he', running, -⟩ := State.run_running s he (w := .work)
      exact State.complete_done t _ _ _ _ (e := e') he' (by simp [running])
  case fence => rw [State.takeFence, if_pos fenced]

end Sys2Proof.Machine
end

section
/-! PROOF of the print-affecting changes: in force at once with no job, committed at an effect line or a product boundary while a job
is armed (01 R60, R61, R617; 11 R359, R380), and of the blocks that are copied from job memory into the on-die stores (03 R616). -/

namespace Sys2Proof.Machine

/-! ## A change on every tile of a list -/

/-- Tiles of a list that are changed one by one are all changed, each once, and no other tile is. -/
theorem State.tile_foldUpd {l : List Nat} (distinct : l.Nodup) (small : ∀ n ∈ l, n < 8) (f : Nat → TileState → TileState) (s : State)
    (x : Tile) : (l.foldl (fun s n => s.updTileN n (f n)) s).tile x = if x.val ∈ l then f x.val (s.tile x) else s.tile x := by
  induction l generalizing s with
  | nil => rfl
  | cons n r ih =>
    obtain ⟨fresh, rest⟩ := List.nodup_cons.mp distinct
    have hn := tileIx_of_lt (small n (List.mem_cons_self ..))
    rw [List.foldl_cons, ih rest fun m hm => small m (List.mem_cons_of_mem n hm), State.tile_updTileN]
    by_cases here : x = tileIx n
    · have hval : x.val = n := here ▸ hn
      rw [if_neg (hval ▸ fresh), if_pos here, if_pos (hval ▸ List.mem_cons_self ..), hval]
    · have hval : x.val ≠ n := fun h => here (Fin.ext (h.trans hn.symm))
      simp [here, hval]

theorem State.foldUpd_frame (l : List Nat) (f : Nat → TileState → TileState) (s : State) :
    { s with tiles := (l.foldl (fun s n => s.updTileN n (f n)) s).tiles } = l.foldl (fun s n => s.updTileN n (f n)) s := by
  induction l generalizing s with
  | nil => rfl
  | cons n r ih => rw [List.foldl_cons, ← ih (s.updTileN n (f n))]; rfl

theorem State.nTiles_le (s : State) : s.nTiles ≤ 8 := by
  unfold State.nTiles
  cases s.part <;> decide

theorem State.mem_tileList {s : State} {n : Nat} : n ∈ s.tileList ↔ n < s.nTiles := List.mem_range

/-- The tiles of the part that meet a condition are changed, each once, and no other tile is. -/
theorem State.tile_eachTile (s t : State) (p : Nat → Bool) (f : Nat → TileState → TileState) (x : Tile) :
    ((s.tileList.filter p).foldl (fun s n => s.updTileN n (f n)) t).tile x =
      if x.val < s.nTiles ∧ p x.val = true then f x.val (t.tile x) else t.tile x := by
  have distinct : (s.tileList.filter p).Nodup := List.nodup_range.filter p
  rw [State.tile_foldUpd distinct]
  · simp only [List.mem_filter, State.mem_tileList]
  · intro n hn
    have := State.mem_tileList.mp (List.mem_filter.mp hn).1
    have := s.nTiles_le
    omega

/-! ## A change comes into force -/

/-- The stores of a tile with the slot table of a channel. -/
def TileState.withSlots (ch : Nat) (t : SlotTbl) (x : TileState) : TileState :=
  { x with die := { x.die with slots := NMap.set SlotTbl.reset x.die.slots ch t } }

theorem State.settleChange_slots (s : State) (ch : Nat) (t : SlotTbl) :
    s.settleChange (.slots ch t) = (s.tileList.filter (fun n => (s.tileN n).on 8)).foldl
      (fun s n => s.updTileN n ((fun _ => TileState.withSlots ch t) n)) { s with job := { s.job with base := s.job.base.apply (.slots ch t) } } := rfl

theorem State.settleChange_other (s : State) {c : Change} (h : ∀ ch t, c ≠ .slots ch t) :
    s.settleChange c = { s with job := { s.job with base := s.job.base.apply c } } := by
  unfold State.settleChange
  split
  case h_1 ch t => exact absurd rfl (h ch t)
  case h_2 => rfl

theorem Change.slots_or (c : Change) : (∃ ch t, c = .slots ch t) ∨ ∀ ch t, c ≠ .slots ch t := by
  cases c
  case slots ch t => exact .inl ⟨ch, t, rfl⟩
  all_goals exact .inr (by intros; exact Change.noConfusion)

theorem State.settleChange_frame (s : State) (c : Change) :
    { s with tiles := (s.settleChange c).tiles, job := { s.job with base := s.job.base.apply c } } = s.settleChange c := by
  rcases c.slots_or with ⟨ch, t, rfl⟩ | other
  · have frame (j : Job) (u : State) (h : { ({ s with job := j } : State) with tiles := u.tiles } = u) :
        { s with tiles := u.tiles, job := j } = u := h
    rw [State.settleChange_slots]
    exact frame _ _ (State.foldUpd_frame _ (fun _ => TileState.withSlots ch t) _)
  · rw [State.settleChange_other s other]

theorem State.settleChange_qen (s : State) (c : Change) : (s.settleChange c).qen = s.qen := by rw [← s.settleChange_frame c]

/-! ## A product-boundary change with packet number 0 -/

/-- With packet number 0 a product-boundary change is the lead's own: with no job it completes no packet. -/
theorem State.changeBoundary_own (s : State) (c : Change) (idle : s.armed = false) : s.changeBoundary 0 c = s.settleChange c := by
  rw [State.changeBoundary, idle]
  rfl

theorem actColourReset_own {t : State} {p : Packet} {bs : List Byte} (own : p.seq = 0) (idle : t.armed = false) :
    (actColourReset t p bs).qen = t.qen := by
  have offsets : ∀ u, u = (bitsOf 12 (p.f 2 11 0)).foldl (fun s c => s.updCh c (fun x => { x with off := [] })) t →
      u.qen = t.qen ∧ u.job = t.job := by
    rintro u rfl
    exact ⟨foldl_keeps State.qen (by intros; rfl) _ t, foldl_keeps State.job (by intros; rfl) _ t⟩
  simp only [actColourReset, own]
  generalize hu : (bitsOf 12 (p.f 2 11 0)).foldl (fun s c => s.updCh c (fun x => { x with off := [] })) t = u
  obtain ⟨qen, job⟩ := offsets u hu.symm
  rw [State.changeBoundary_own u _ (by rw [State.armed, job]; exact idle), State.settleChange_qen, qen]

/-- COLOUR.RESET of channel 0 with fetch number 0. -/
def colourResetZero : Packet := { q := 0, seq := 0, w := ((Vector.replicate 16 0).set 0 0x0806).set 2 1 }

theorem colourResetZero_runs : opColourReset.Runs State.reset colourResetZero := by
  unfold OpDef.Runs OpDef.Passes OpDef.held
  refine ⟨⟨?_, ?_, ?_, ?_⟩, ?_, ?_, ?_, .inl ?_⟩ <;> decide

/-- Refutes O17: COLOUR.RESET with fetch number 0 in the package after reset. The command takes number 0 for a change of the lead's own,
which completes no packet, where the statement has the packet DONE with ST_OK. -/
theorem not_printChangesAreCommitted : ¬ Obligations.PrintChangesAreCommitted := by
  unfold Obligations.PrintChangesAreCommitted
  rintro ⟨⟨-, -, -, -, -, reset, -⟩, -⟩
  obtain ⟨u, next, ⟨atOnce, -⟩⟩ := reset State.reset colourResetZero colourResetZero_runs
  obtain ⟨-, e, he, hdone, -⟩ := atOnce rfl
  have hu : u = actColourReset (State.reset.place colourResetZero) colourResetZero [] :=
    (Host.Outcome.next.inj ((exec_runs_as (f := actColourReset) rfl rfl colourResetZero_runs).symm.trans next)).symm
  obtain ⟨e', he', running, -⟩ := State.reset.place_running colourResetZero
  have same : u.entry colourResetZero.seq = some e' := by
    rw [hu, State.entry, actColourReset_own rfl rfl]
    exact he'
  rw [he] at same
  rw [Option.some.inj same, running] at hdone
  cases hdone

end Sys2Proof.Machine
end

section
/-! PROOF of the blocks that are copied from job memory into the on-die stores (03 R616; 05 R190; 06 R204, R220; 07 R234; 08 R279). -/

namespace Sys2Proof.Machine

/-! ## What an occurrence leaves of a tile (14 R460) -/

theorem TileState.occur_mem (x : TileState) (r : LogRec) : (x.occur r).mem = x.mem := by unfold TileState.occur; split <;> rfl
theorem TileState.occur_takes (x : TileState) (r : LogRec) : (x.occur r).takes = x.takes := by unfold TileState.occur; split <;> rfl
theorem TileState.occur_copying (x : TileState) (r : LogRec) : (x.occur r).copying = x.copying := by unfold TileState.occur; split <;> rfl

/-- What an occurrence leaves of a tile, raising it leaves of every tile. -/
theorem State.raise_keeps {α : Type} {g : TileState → α} (hg : ∀ x r, g (x.occur r) = g x) (s : State) (t : Tile) (src : Nat) (data : List Nat)
    (x : Tile) : g ((s.raise t src data).tile x) = g (s.tile x) := by
  by_cases here : x = t
  · rw [here, State.raise, State.raiseAt, State.tile_updTile, hg]
  · rw [State.raise, State.raiseAt, State.tile_updTile_ne _ _ _ _ here]

theorem State.raise_spanTile (s : State) (t : Tile) (src : Nat) (data : List Nat) (k : Nat) :
    (s.raise t src data).spanTile k = s.spanTile k := by
  unfold State.spanTile State.tileN
  rw [State.raise_keeps TileState.occur_takes, State.raise_keeps TileState.occur_copying]

theorem State.raise_spanRead (s : State) (t : Tile) (src : Nat) (data : List Nat) (k a n : Nat) :
    (s.raise t src data).spanRead k a n = s.spanRead k a n := by
  simp only [State.spanRead, State.tileN, State.raise_spanTile, State.raise_keeps TileState.occur_mem]

/-! ## Blocks whose copies agree -/

theorem State.head_allSpans (s : State) : ((bitsOf 4 s.allSpans).head?).getD 0 = 0 := by
  unfold State.allSpans State.nTwins
  cases s.part <;> decide

section
variable {s t : State} {p : Packet} {f : State → List Byte → State} {seq a n d : Nat}

/-- A block whose copies agree on every span is handed on with span 0's bytes. -/
theorem State.withBlock_agreed (agree : s.copyDiffer s.allSpans a n = none) :
    s.withBlock seq s.allSpans a n f = f s (s.spanRead 0 a n) := by
  simp only [State.withBlock, agree, State.head_allSpans]

/-! ## Job memory does not depend on the queue engine -/

theorem TakenUp.copyDiffer (up : TakenUp s t p) (m a n : Nat) : t.copyDiffer m a n = s.copyDiffer m a n := by
  obtain ⟨q, rfl⟩ := up.exists_engine
  rfl
theorem TakenUp.allSpans (up : TakenUp s t p) : t.allSpans = s.allSpans := by
  obtain ⟨q, rfl⟩ := up.exists_engine
  rfl
theorem TakenUp.spanRead (up : TakenUp s t p) (k a n : Nat) : t.spanRead k a n = s.spanRead k a n := by
  obtain ⟨q, rfl⟩ := up.exists_engine
  rfl
theorem TakenUp.inJob (up : TakenUp s t p) (a n : Nat) : t.inJob a n = s.inJob a n := by
  obtain ⟨q, rfl⟩ := up.exists_engine
  rfl
theorem TakenUp.stores (up : TakenUp s t p) : t.stores = s.stores := by
  obtain ⟨q, rfl⟩ := up.exists_engine
  rfl

/-- A block whose copies agree in the package before is handed on with span 0's bytes. -/
theorem TakenUp.withBlock (up : TakenUp s t p) (agree : s.copyDiffer s.allSpans a n = none) :
    t.withBlock seq t.allSpans a n f = f t (s.spanRead 0 a n) := by
  rw [State.withBlock_agreed (by rw [up.copyDiffer, up.allSpans]; exact agree), up.spanRead]

theorem State.onDie_frame (s : State) (d : Nat) (g : Die → Die) : { s with tiles := (s.onDie d g).tiles } = s.onDie d g :=
  State.foldUpd_frame _ (fun _ x => { x with die := g x.die }) s
theorem State.onDie_stores (s : State) (d : Nat) (g : Die → Die) : (s.onDie d g).stores = s.stores := by rw [← s.onDie_frame d g]

theorem State.onDie_tile (s : State) (d : Nat) (g : Die → Die) (x : Tile) :
    (s.onDie d g).tile x = if x.val < s.nTiles ∧ (s.tile x).on d = true then { s.tile x with die := g (s.tile x).die } else s.tile x := by
  have each := State.tile_eachTile s s (fun n => (s.tileN n).on d) (fun _ x => { x with die := g x.die }) x
  rwa [State.tileN_val] at each

theorem State.done_tile (s : State) (seq st : Nat) (x : Tile) : (s.done seq st).tile x = s.tile x := by
  simp only [State.tile, State.done_tiles]

theorem State.done_but_tiles (s : State) (seq st : Nat) (ts : Vector TileState 8) :
    { s.done seq st with tiles := ts }.beside = { s with tiles := ts }.beside :=
  congrArg (fun w : State => { w with tiles := ts }) (s.done_beside seq st)
theorem State.done_but_stores (s : State) (seq st : Nat) (a : Stores) : { s.done seq st with stores := a }.beside = { s with stores := a }.beside :=
  congrArg (fun w : State => { w with stores := a }) (s.done_beside seq st)

/-- The tiles of a package with a packet taken up, once a block is in the stores of those whose domain is on. -/
theorem TakenUp.onDie_tile (up : TakenUp s t p) (d : Nat) (g : Die → Die) (x : Tile) : (t.onDie d g).tile x =
    if x.val < s.nTiles ∧ (s.tile x).on d = true then { s.tile x with die := g (s.tile x).die } else s.tile x := by
  obtain ⟨q, ht⟩ := up.exists_engine
  have stands : t.tile x = s.tile x := by rw [ht]; rfl
  have part : t.nTiles = s.nTiles := by rw [ht]; rfl
  rw [State.onDie_tile, stands, part]

/-- A block copied into the stores of the tiles whose domain is on, and nothing else. -/
theorem TakenUp.loadsDie (up : TakenUp s t p) (d : Nat) (g : Die → Die) :
    let u := (t.onDie d g).done p.seq St.ok
    u.DoneWith p.seq St.ok 0 0 ∧ { u with tiles := s.tiles }.beside = s.beside ∧
    ∀ x : Tile, u.tile x = if x.val < s.nTiles ∧ (s.tile x).on d = true then { s.tile x with die := g (s.tile x).die } else s.tile x := by
  obtain ⟨q, ht⟩ := up.exists_engine
  refine ⟨up.done _ ?_, ?_, fun x => (State.done_tile _ _ _ x).trans (up.onDie_tile d g x)⟩
  · rw [← t.onDie_frame d g]
  · rw [State.done_but_tiles, ← t.onDie_frame d g, ht]
    rfl

/-- A block copied into the stores of the tiles whose domain is on, with other values in the package's own stores. -/
theorem TakenUp.loadsDieAnd (up : TakenUp s t p) (d : Nat) (g : Die → Die) (stores : Stores) :
    let u := ({ t.onDie d g with stores := stores }).done p.seq St.ok
    u.DoneWith p.seq St.ok 0 0 ∧ { u with stores := s.stores, tiles := s.tiles }.beside = s.beside ∧ u.stores = stores ∧
    ∀ x : Tile, u.tile x = if x.val < s.nTiles ∧ (s.tile x).on d = true then { s.tile x with die := g (s.tile x).die } else s.tile x := by
  obtain ⟨q, ht⟩ := up.exists_engine
  refine ⟨up.done _ ?_, ?_, State.done_stores _ _ _, fun x => (State.done_tile _ _ _ x).trans (up.onDie_tile d g x)⟩
  · rw [← t.onDie_frame d g]
  · refine (congrArg (fun w : State => { w with stores := s.stores }) (State.done_but_tiles _ p.seq St.ok s.tiles)).trans ?_
    rw [← t.onDie_frame d g, ht]
    rfl

end

/-! ## The commands -/

section
variable {s t : State} {p : Packet} {bs : List Byte}

/-- Items put in force one after the other. -/
def State.putAll (s : State) (l : List (Nat × Int)) : State := l.foldl (fun s e => s.putItem e.1 e.2) s

theorem State.putAll_engine (l : List (Nat × Int)) (s : State) (q : Qen) :
    ({ s with qen := q } : State).putAll l = { s.putAll l with qen := q } := by
  induction l generalizing s with
  | nil => rfl
  | cons e r ih => exact ih (s.putItem e.1 e.2)
theorem State.putAll_stores (l : List (Nat × Int)) (s : State) : (s.putAll l).stores = s.stores :=
  foldl_keeps State.stores (by intros; rfl) l s
theorem State.putAll_qen (l : List (Nat × Int)) (s : State) : (s.putAll l).qen = s.qen :=
  foldl_keeps State.qen (by intros; rfl) l s

theorem actMarkGlyphs_loads {gs : List Glyph} (up : TakenUp s t p) (agree : s.copyDiffer s.allSpans (p.da 2) 16 = none)
    (header : glyphHeader (s.spanRead 0 (p.da 2) 16) = true) (size : glyphSize (s.spanRead 0 (p.da 2) 16) ≤ 2 ^ 20)
    (room : s.inJob (p.da 2) (glyphSize (s.spanRead 0 (p.da 2) 16)) = true)
    (agreeAll : s.copyDiffer s.allSpans (p.da 2) (glyphSize (s.spanRead 0 (p.da 2) 16)) = none)
    (glyphs : glyphSet (s.spanRead 0 (p.da 2) (glyphSize (s.spanRead 0 (p.da 2) 16))) = some gs) :
    actMarkGlyphs t p bs = ({ t.onDie 6 (fun d => { d with glyphs := vset d.glyphs (1 - s.stores.glyphBank) gs })
      with stores := { s.stores with glyphLoaded := true } }).done p.seq St.ok := by
  rw [actMarkGlyphs, up.withBlock agree]
  simp only [header, Bool.not_true, Bool.false_eq_true, if_false, if_neg (Nat.not_lt.mpr size), up.inJob, room]
  rw [up.withBlock agreeAll]
  simp only [glyphs, up.stores, State.onDie_stores]

theorem actRayViewmap_loads {v : ViewMap} (up : TakenUp s t p) (agree : s.copyDiffer s.allSpans (p.da 3) 16 = none)
    (fits : ¬ (fld (s.spanRead 0 (p.da 3) 16) 4 1 > 32 ∨ fld (s.spanRead 0 (p.da 3) 16) 5 1 > 32))
    (room : s.inJob (p.da 3) (viewMapLen (s.spanRead 0 (p.da 3) 16)) = true)
    (agreeAll : s.copyDiffer s.allSpans (p.da 3) (viewMapLen (s.spanRead 0 (p.da 3) 16)) = none)
    (view : viewMapOf (s.spanRead 0 (p.da 3) (viewMapLen (s.spanRead 0 (p.da 3) 16))) = some v) :
    actRayViewmap t p bs = (t.onDie 5 (fun d => { d with viewmap := vset d.viewmap (p.f 2 2 0) (some v) })).done p.seq St.ok := by
  rw [actRayViewmap, up.withBlock agree]
  simp only [if_neg fits, Bool.not_true, Bool.false_eq_true, if_false, up.inJob, room]
  rw [up.withBlock agreeAll]
  simp only [view]

theorem actDropScreen_loads {x : ScreenArr} (up : TakenUp s t p) (agree : s.copyDiffer s.allSpans (p.da 3) 16 = none)
    (fits : ¬ (fld (s.spanRead 0 (p.da 3) 16) 4 2 > 256 ∨ fld (s.spanRead 0 (p.da 3) 16) 6 2 > 256))
    (room : s.inJob (p.da 3) (screenLen (s.spanRead 0 (p.da 3) 16)) = true)
    (agreeAll : s.copyDiffer s.allSpans (p.da 3) (screenLen (s.spanRead 0 (p.da 3) 16)) = none)
    (screen : screenOf (s.spanRead 0 (p.da 3) (screenLen (s.spanRead 0 (p.da 3) 16))) = some x) :
    actDropScreen t p bs = (t.onDie 7 (fun d => { d with screen := vset d.screen (p.f 2 2 0) x })).done p.seq St.ok := by
  rw [actDropScreen, up.withBlock agree]
  simp only [if_neg fits, Bool.not_true, Bool.false_eq_true, if_false, up.inJob, room]
  rw [up.withBlock agreeAll]
  simp only [screen]

/-- RAY.PANEL puts its items and the view table in force, with the panel's own checks passed. -/
theorem actRayPanel_loads (up : TakenUp s t p) (room : s.inJob (p.da 2) (64 + fld (s.spanRead 0 (p.da 2) 64) 5 1) = true)
    (ok : s.panelCheck (s.spanRead 0 (p.da 2) 64) (s.spanRead 0 (p.da 2 + 64) (fld (s.spanRead 0 (p.da 2) 64) 5 1)) = St.ok) :
    let u := actRayPanel t p bs
    u.DoneWith p.seq St.ok 0 0 ∧
      u.stores = { s.stores with vtab := (s.spanRead 0 (p.da 2 + 64) (fld (s.spanRead 0 (p.da 2) 64) 5 1)).map (fun (b : Byte) => b.toNat) } ∧
      { u with stores := s.stores }.beside = ((panelItems (s.spanRead 0 (p.da 2) 64)).foldl (fun s e => s.putItem e.1 e.2) s).beside := by
  have panel : t.panelCheck = s.panelCheck := by
    obtain ⟨q, rfl⟩ := up.exists_engine
    rfl
  have act : actRayPanel t p bs = ({ t.putAll (panelItems (s.spanRead 0 (p.da 2) 64)) with
      stores := { s.stores with
        vtab := (s.spanRead 0 (p.da 2 + 64) (fld (s.spanRead 0 (p.da 2) 64) 5 1)).map (fun (b : Byte) => b.toNat) } }).done p.seq St.ok := by
    rw [← up.stores, ← State.putAll_stores (panelItems (s.spanRead 0 (p.da 2) 64)) t]
    simp only [actRayPanel, up.spanRead, up.inJob, room, Bool.not_true, Bool.false_eq_true, if_false, panel, ok, ne_eq, not_true_eq_false]
    rfl
  simp only [act]
  refine ⟨up.done _ ?_, State.done_stores _ _ _, ?_⟩
  · rw [State.putAll_qen]
  obtain ⟨q, ht⟩ := up.exists_engine
  show _ = (s.putAll (panelItems (s.spanRead 0 (p.da 2) 64))).beside
  have put : t.putAll (panelItems (s.spanRead 0 (p.da 2) 64)) = { s.putAll (panelItems (s.spanRead 0 (p.da 2) 64)) with qen := q } := by
    rw [ht]
    exact State.putAll_engine _ s q
  have stores := State.putAll_stores (panelItems (s.spanRead 0 (p.da 2) 64)) s
  rw [State.done_but_stores, put]
  generalize s.putAll (panelItems (s.spanRead 0 (p.da 2) 64)) = v at stores ⊢
  rw [← stores]
  rfl

/-! ## COLOUR.SENS, while its channel is paused (08 R279) -/

theorem State.pauseCh_keeps {α : Type} {g : State → α} (hu : ∀ s c f, g (s.updCh c f) = g s) (hr : ∀ s t src data, g (s.raise t src data) = g s)
    (s : State) (c cause : Nat) : g (s.pauseCh c cause) = g s := by
  simp only [State.pauseCh]
  split
  · rfl
  · exact (hr _ _ _ _).trans (hu _ _ _)
theorem State.resumeCh_keeps {α : Type} {g : State → α} (hu : ∀ s c f, g (s.updCh c f) = g s) (hr : ∀ s t src data, g (s.raise t src data) = g s)
    (s : State) (c cause : Nat) : g (s.resumeCh c cause) = g s := by
  simp only [State.resumeCh]
  split
  · rfl
  · exact (hr _ _ _ _).trans (hu _ _ _)

/-- The package in which COLOUR.SENS reads its block: its channel paused for it, and resumed. -/
def State.sensing (s : State) (p : Packet) : State := ((s.place p).pauseCh (p.f 2 3 0) 3).resumeCh (p.f 2 3 0) 3

theorem State.sensing_keeps {α : Type} {g : State → α} (hu : ∀ s c f, g (s.updCh c f) = g s) (hr : ∀ s t src data, g (s.raise t src data) = g s)
    (s : State) (p : Packet) : g (s.sensing p) = g (s.place p) :=
  (State.resumeCh_keeps hu hr _ _ _).trans (State.pauseCh_keeps hu hr _ _ _)

theorem State.sensing_spanRead (s : State) (p : Packet) (k a n : Nat) : (s.sensing p).spanRead k a n = s.spanRead k a n :=
  (s.sensing_keeps (g := fun s => s.spanRead k a n) (fun _ _ _ => rfl) (fun s t src data => s.raise_spanRead t src data k a n) p).trans
    ((s.place_takenUp p).spanRead k a n)
theorem State.sensing_inJob (s : State) (p : Packet) (a n : Nat) : (s.sensing p).inJob a n = s.inJob a n :=
  (s.sensing_keeps (g := fun s => s.inJob a n) (fun _ _ _ => rfl) (fun _ _ _ _ => rfl) p).trans ((s.place_takenUp p).inJob a n)
theorem State.sensing_sensOf (s : State) (p : Packet) (c : Nat) (bs : List Byte) : (s.sensing p).sensOf c bs = s.sensOf c bs := by
  refine (s.sensing_keeps (g := fun s => s.sensOf c bs) (fun _ _ _ => rfl) (fun _ _ _ _ => rfl) p).trans ?_
  rw [s.place_eq p]
  rfl

theorem checkColourSens_channel (h : (opColourSens.check s p).1 = St.ok) : p.f 2 3 0 < 12 := by
  refine Nat.not_le.mp fun high => ?_
  have : p.f 2 3 0 > 11 := high
  simp only [opColourSens, if_pos this] at h
  cases h

/-- COLOUR.SENS gives its channel the sensitivities of its block. -/
theorem actColourSens_loads {m : NMap (Option Lab)} (room : s.inJob (p.da 3) (sensLen (s.spanRead 0 (p.da 3) 16)) = true)
    (sens : s.sensOf (p.f 2 3 0) (s.spanRead 0 (p.da 3) (sensLen (s.spanRead 0 (p.da 3) 16))) = some m) :
    actColourSens ((s.place p).pauseCh (p.f 2 3 0) 3) p bs =
      ((s.sensing p).updCh (p.f 2 3 0) (fun x => { x with sens := some m })).done p.seq St.ok := by
  have act : actColourSens ((s.place p).pauseCh (p.f 2 3 0) 3) p bs =
      if !(s.sensing p).inJob (p.da 3) (sensLen ((s.sensing p).spanRead 0 (p.da 3) 16)) then (s.sensing p).done p.seq St.addrRange
      else match (s.sensing p).sensOf (p.f 2 3 0) ((s.sensing p).spanRead 0 (p.da 3) (sensLen ((s.sensing p).spanRead 0 (p.da 3) 16))) with
        | none => (s.sensing p).done p.seq St.sensBad
        | some m => ((s.sensing p).updCh (p.f 2 3 0) (fun x => { x with sens := some m })).done p.seq St.ok := rfl
  rw [act]
  simp only [State.sensing_spanRead, State.sensing_inJob, State.sensing_sensOf, room, sens, Bool.not_true, Bool.false_eq_true, if_false]

end

/-- Settles O18: each command's block passes its checks where the copies of the spans agree, and is copied. -/
theorem blocksAreLoaded : Obligations.BlocksAreLoaded := by
  unfold Obligations.BlocksAreLoaded
  refine ⟨fun s p gs runs agree header size room agreeAll glyphs => ?glyphs,
    fun s p v runs agree width height room agreeAll view => ?viewmap, fun s p runs room ok => ?panel,
    fun s p x runs agree width height room agreeAll screen => ?screen, fun s p m runs room sens => ?sens⟩
  case glyphs =>
    have up := s.place_takenUp p
    have act := actMarkGlyphs_loads (bs := []) up agree header size room agreeAll glyphs
    exact ⟨_, (exec_runs_as (f := actMarkGlyphs) rfl rfl runs).trans (congrArg _ act), up.loadsDieAnd 6 _ _⟩
  case viewmap =>
    have up := s.place_takenUp p
    have act := actRayViewmap_loads (bs := []) up agree (by omega) room agreeAll view
    exact ⟨_, (exec_runs_as (f := actRayViewmap) rfl rfl runs).trans (congrArg _ act), up.loadsDie 5 _⟩
  case screen =>
    have up := s.place_takenUp p
    have act := actDropScreen_loads (bs := []) up agree (by omega) room agreeAll screen
    exact ⟨_, (exec_runs_as (f := actDropScreen) rfl rfl runs).trans (congrArg _ act), up.loadsDie 7 _⟩
  case panel => exact ⟨_, exec_runs_as (f := actRayPanel) rfl rfl runs, actRayPanel_loads (bs := []) (s.place_takenUp p) room ok⟩
  case sens =>
    have act := actColourSens_loads (bs := []) room sens
    refine ⟨_, (exec_runs_as (f := actColourSens) rfl rfl runs).trans (congrArg _ act), (s.place_takenUp p).done _ ?_, ?_⟩
    · exact congrArg Qen.store (s.sensing_keeps (g := State.qen) (fun _ _ _ => rfl) (fun _ _ _ _ => rfl) p)
    · rw [State.colCh, State.done_colour]
      exact congrArg ColCh.sens (vget_vupd_eq _ _ _ _ (checkColourSens_channel runs.check))

end Sys2Proof.Machine
end

section
/-! PROOF about the COLOUR and MOTION commands (08 R268, R277). -/

namespace Sys2Proof.Machine

/-- The package after reset, with a capture on channel 0 that carries packet number 1. -/
def capturing : State :=
  State.reset.updCh 0 (fun x => { x with capture := some { seq := 1, first := 0, left := 0, mode := 0, tgt := [] } })

/-- COLOUR.SETUP of channel 0 with no tones, packet number 1. -/
def colourSetupOff : Packet := { q := 0, seq := 1, w := ((Vector.replicate 16 0).set 0 0x0801).set 2 1 }

theorem colourSetupOff_runs : opColourSetup.Runs capturing colourSetupOff := by
  unfold OpDef.Runs OpDef.Passes OpDef.held
  refine ⟨⟨?_, ?_, ?_, ?_⟩, ?_, ?_, ?_, .inl ?_⟩ <;> decide

/-- Setting the channel off drops its capture, and with it the packet that the capture carries. -/
theorem colourSetupOff_drops :
    ((actColourSetup (capturing.place colourSetupOff) colourSetupOff []).entry 1).map (·.status) = some St.colourState := by
  decide

/-- Refutes O19: COLOUR.SETUP with no tones of a channel whose capture carries the packet's own number. The command drops the capture, which
completes that number with ST_COLOUR_STATE, where the statement has the packet DONE with ST_OK. -/
theorem not_colourAndMotionCommandsTakeEffect : ¬ Obligations.ColourAndMotionCommandsTakeEffect := by
  unfold Obligations.ColourAndMotionCommandsTakeEffect
  rintro ⟨⟨setup, -⟩, -⟩
  obtain ⟨u, next, ⟨e, he, -, ok, -⟩, -⟩ := setup capturing colourSetupOff colourSetupOff_runs (by decide)
  have hu : u = actColourSetup (capturing.place colourSetupOff) colourSetupOff [] :=
    (Host.Outcome.next.inj ((exec_runs_as (f := actColourSetup) rfl rfl colourSetupOff_runs).symm.trans next)).symm
  have drops := colourSetupOff_drops
  rw [← hu, show u.entry 1 = some e from he, Option.map_some, ok] at drops
  exact absurd drops (by decide)

end Sys2Proof.Machine
end

section
/-! PROOF of the LINK commands (09 R297, R302; 10 R329, R334, R337; 16 R503, R506, R507, R510, R513). -/

namespace Sys2Proof.Machine

/-! ## What a frame of a package and a rejected product leave unchanged -/

section
variable {s t : State} {p : Packet}

theorem State.sendFrame_queued {f : OutFrame} (h : 3 < f.type) {α : Type} {g : State → α} (hs : ∀ s a, g { s with link := { s.link with sent := a } } = g s)
    (hl : ∀ s t l u, g (State.updLnk s t l u) = g s) (s : State) : g (s.sendFrame f) = g s := by
  simp only [State.sendFrame, if_neg (Nat.not_le.mpr h)]
  split
  · exact hs _ _
  · exact (hl _ _ _ _).trans (hs _ _)

theorem State.sendCtrl_nodes (s : State) (node addr : Nat) (data : List Nat) : (s.sendCtrl node addr data).link.nodes = s.link.nodes := by
  unfold State.sendCtrl
  split
  · rfl
  · exact State.sendFrame_queued (g := fun s => s.link.nodes) (Nat.lt_succ_self 3) (fun _ _ => rfl) (fun _ _ _ _ => rfl) s

theorem State.ctrlSend_keeps {α : Type} {g : State → α} (hs : ∀ s a, g { s with link := { s.link with sent := a } } = g s)
    (hl : ∀ s t l u, g (State.updLnk s t l u) = g s) (s : State) (r : CtrlReq) : g (s.ctrlSend r) = g s := by
  unfold State.ctrlSend
  split
  · rfl
  · exact State.sendFrame_queued (Nat.lt_succ_self 3) hs hl s

theorem State.stopSource_link (s : State) (b : Nat) : (s.stopSource b).link = s.link := by
  unfold State.stopSource
  split
  · exact State.raiseMot_link ..
  · rfl

theorem State.rejQueue_link (s : State) (n lane num d : Nat) : (s.rejQueue n lane num d).link = s.link := by
  simp only [State.rejQueue]
  split
  · exact (State.stopSource_link ..).trans (State.raiseMot_link ..)
  split
  · exact (State.stopSource_link ..).trans (State.raiseMot_link ..)
  · rfl

theorem State.rejectIf_link (s : State) (f : Product → Bool) : (s.rejectIf f).link = s.link := by
  refine foldl_keeps State.link (fun s p => ?_) _ s
  unfold State.reject
  split
  · rfl
  split
  · rfl
  · exact foldl_keeps State.link (fun s n => s.rejQueue_link ..) _ _

theorem State.commitDone_link (s : State) (cseq : Nat) : (s.commitDone cseq).link = s.link := by
  unfold State.commitDone
  split
  · rfl
  split
  · split
    · exact State.complete_link ..
    · rfl
  · rfl

theorem State.prepare_link (s : State) (c : Change) (fixed seq : Nat) : (s.prepare c fixed seq).link = s.link := by
  unfold State.prepare
  split
  · rfl
  · simp only [State.prepareNow]
    split
    · exact State.commitDone_link ..
    · rfl

theorem State.settleChange_link (s : State) (c : Change) : (s.settleChange c).link = s.link := by rw [← s.settleChange_frame c]

theorem State.changeFor_link (s : State) (seq : Nat) (c : Change) : (s.changeFor seq c).link = s.link := by
  unfold State.changeFor
  split
  · exact State.prepare_link ..
  · exact (State.done_link ..).trans (State.settleChange_link ..)
theorem State.changeOwn_link (s : State) (c : Change) : (s.changeOwn c).link = s.link := by
  unfold State.changeOwn
  split
  · exact State.prepare_link ..
  · exact State.settleChange_link ..

/-- A node that is to leave is in LEAVING, with the line at which it leaves. -/
theorem State.planLeave_nodes (s : State) (id seq : Nat) : (s.planLeave id seq).link.nodes =
    mapIf s.link.nodes (fun n => n.id == id)
      (fun n => { n with st := 5, leave := some (if s.armed then s.chooseLine (.leave id) else s.motion.lastLine + 1) }) := by
  simp only [State.planLeave]
  rw [State.rejectIf_link]
  simp only [State.raiseLead, State.raise_link, State.updNode, State.sendCtrl_nodes]
  split
  · rw [State.changeOwn_link]
  · rw [State.changeFor_link]

/-- A fold whose step does not read the queue engine does not read it. -/
theorem beside_foldl {α : Type} {f : State → α → State} (hf : ∀ s a, (f s a).beside = f s.beside a) (l : List α) (s : State) :
    (l.foldl f s).beside = l.foldl f s.beside := by
  induction l generalizing s with
  | nil => rfl
  | cons a r ih => rw [List.foldl_cons, ih, hf]; rfl

theorem State.moveBar_beside (s : State) (t b : Nat) (alt : Bool) : (s.moveBar t b alt).beside = s.beside.moveBar t b alt := by
  simp only [State.moveBar, apply_ite State.beside]
  rfl

end

theorem State.moveBar_qen (s : State) (t b : Nat) (alt : Bool) : (s.moveBar t b alt).qen = s.qen := by
  simp only [State.moveBar]
  split <;> rfl

/-! ## The commands -/

section
variable {s t : State} {p : Packet} {bs : List Byte}

theorem actLinkNodes_sets {table : List (Nat × Nat)} (up : TakenUp s t p) (ok : nodeTable (p.f 4 12 0) bs = some table) :
    (actLinkNodes t p bs).DoneWith p.seq St.ok 0 0 ∧ (actLinkNodes t p bs).beside = { s with link := { s.link with table := table } }.beside := by
  have act : actLinkNodes t p bs = ({ t with link := { t.link with table := table } }).done p.seq St.ok := by
    simp only [actLinkNodes, ok]
  obtain ⟨q, ht⟩ := up.exists_engine
  rw [act]
  refine ⟨up.done _, ?_⟩
  rw [State.done_beside, ht]
  rfl

/-- LINK.CTRL is PARKED, and its request waits for the node's answer. -/
theorem actLinkCtrl_asks (up : TakenUp s t p) :
    (actLinkCtrl t p bs).ParkedOn p.seq .work ∧ (actLinkCtrl t p bs).link.ctrl = s.link.ctrl ++
      [{ seq := p.seq, tries := 1, sentAt := s.now,
         f := { node := p.f 2 13 0, ctag := s.link.ctag, op := if bit (p.dw 2) 16 then 1 else 0, addr := p.dw 3, count := p.f 4 6 0,
                data := if bit (p.dw 2) 16 then (chunks 4 bs (p.f 4 6 0)).map (fun b => BitVec.ofNat 32 (leVal b)) else [] } }] := by
  obtain ⟨q, ht⟩ := up.exists_engine
  simp only [actLinkCtrl]
  constructor
  · exact up.park _ (State.ctrlSend_keeps (g := fun s => s.qen.store) (fun _ _ => rfl) (fun _ _ _ _ => rfl) _ _)
  · rw [State.park_link, State.ctrlSend_keeps (g := fun s => s.link.ctrl) (fun _ _ => rfl) (fun _ _ _ _ => rfl), ht]
    rfl

theorem feeds_linkCtrl (h : opLinkCtrl.Feeds s p bs) : bit (p.dw 2) 16 = true := by
  obtain ⟨-, a, ⟨-, reads⟩, -⟩ := h
  refine Decidable.byContradiction fun read => ?_
  simp only [opLinkCtrl, if_neg read] at reads
  cases reads

/-- A packet that completes, or runs on, after an effect that the queue engine has no part in. -/
theorem TakenUp.doneWith (up : TakenUp s t p) (f : State → State) (hf : ∀ s, (f s).beside = (f s.beside).beside) (hq : ∀ s, (f s).qen = s.qen) (st : Nat) :
    ((f t).done p.seq st).DoneWith p.seq st 0 0 ∧ ((f t).done p.seq st).beside = (f s).beside := by
  refine ⟨up.done _ (by rw [hq]), ?_⟩
  rw [State.done_beside, hf, up.beside, ← hf]
theorem TakenUp.runsWith (up : TakenUp s t p) (f : State → State) (hf : ∀ s, (f s).beside = (f s.beside).beside) (hq : ∀ s, (f s).qen = s.qen) (w : Wait) :
    ((f t).run p.seq w).RunningOn p.seq w ∧ ((f t).run p.seq w).beside = (f s).beside := by
  refine ⟨up.run _ (by rw [hq]), ?_⟩
  rw [State.run_beside, hf, up.beside, ← hf]

end

/-- LINK.LANE puts the transmitter of its lane a level deeper to sleep. -/
def sleepTxLane (p : Packet) (s : State) : State :=
  (s.updLnk (lnkTile p) (lnkLane p) (fun x => { x with txslp := min 2 (x.txslp + 1) })).raiseN (lnkTile p) Ev.laneSleep
    [lnkLane p, 0, min 2 ((s.lnk (lnkTile p) (lnkLane p)).txslp + 1)]
/-- LINK.LANE puts the receiver of its lane a level deeper to sleep. -/
def sleepRxLane (p : Packet) (s : State) : State :=
  (s.updLnk (lnkTile p) (lnkLane p) (fun x => { x with
    rxslp := min 2 (x.rxslp + 1), lock := false, lockRun := 0, rxFrame := none, heads := [], outSince := none })).raiseN
    (lnkTile p) Ev.laneSleep [lnkLane p, 1, min 2 ((s.lnk (lnkTile p) (lnkLane p)).rxslp + 1)]
/-- LINK.LANE begins to wake the directions of its lane that sleep. -/
def wakeLane (p : Packet) (s : State) : State :=
  s.updLnk (lnkTile p) (lnkLane p) (fun x => { x with
    action := some (p.seq, 3)
    waking := #v[if x.txslp = 0 then none else some s.now, if x.rxslp = 0 then none else some s.now] })
/-- LINK.LANE switches its lane off. -/
def offLane (p : Packet) (s : State) : State :=
  s.updLnk (lnkTile p) (lnkLane p) (fun x => { x with
    st := 0, lock := false, lockRun := 0, txq := [], tx := [], rxFrame := none, heads := [], rxslp := 0, txslp := 0, trainAt := none,
    downAt := none, outSince := none, waking := #v[none, none] })
/-- LINK.TEST starts its test on its lane. -/
def testLane (p : Packet) (s : State) : State :=
  s.updLnk (lnkTile p) (lnkLane p) (fun y => { y with
    st := 4, lock := false, lockRun := 0, txq := [], tx := [], rxFrame := none, heads := [], rxslp := 0, txslp := 0, trainAt := none,
    downAt := none, outSince := none, testErr := 0, testLoss := 0, testLocked := false
    test := some { seq := p.seq, pattern := p.f 3 2 0, loopback := p.f 3 5 4, one := bit (p.dw 3) 8, burst := bit (p.dw 3) 9,
                   duration := p.dw 4, user := p.ha 5, start := s.now, injected := false } })

/-- Settles O20: each LINK command on the package in which its packet stands. -/
theorem linkCommandsTakeEffect : Obligations.LinkCommandsTakeEffect := by
  unfold Obligations.LinkCommandsTakeEffect
  refine ⟨⟨fun s p runs none => ?noNodes, fun s p bs t feeds table => ?nodes, fun s p runs read => ?read, fun s p bs feeds => ?write,
    fun s p runs => ?leave, fun s p runs => ?remap⟩, fun s p runs train => ?train, fun s p runs tx => ?sleepTx, fun s p runs rx => ?sleepRx,
    fun s p runs wake tx rx => ?awake, fun s p runs wake asleep => ?wake, fun s p runs off => ?off, fun s p runs => ?test⟩
  case noNodes =>
    exact ⟨_, exec_runs_as (f := actLinkNodes) rfl rfl runs, actLinkNodes_sets (bs := []) (s.place_takenUp p) (by rw [none]; rfl)⟩
  case nodes =>
    obtain ⟨u, first, second⟩ := exec_feeds (i := .linkNodes p) rfl feeds
    exact ⟨u, _, first, second, actLinkNodes_sets (opLinkNodes.fed_takenUp s p bs rfl rfl) table⟩
  case read =>
    have asks := actLinkCtrl_asks (bs := []) (s.place_takenUp p)
    simp only [read, Bool.false_eq_true, if_false] at asks
    exact ⟨_, exec_runs_as (f := actLinkCtrl) rfl rfl runs, asks⟩
  case write =>
    obtain ⟨u, first, second⟩ := exec_feeds (i := .linkCtrl p) rfl feeds
    have asks := actLinkCtrl_asks (opLinkCtrl.fed_takenUp s p bs rfl rfl) (bs := bs)
    have write := feeds_linkCtrl feeds
    simp only [write, if_true] at asks
    exact ⟨u, _, first, second, asks⟩
  case leave =>
    refine ⟨_, exec_runs rfl runs, rfl, fun n hn hid => ?_⟩
    show _ ∈ ((s.place p).planLeave (p.f 2 13 0) p.seq).link.nodes
    rw [State.planLeave_nodes, s.place_eq p]
    exact List.mem_map.mpr ⟨n, hn, by rw [if_pos (by simpa using hid), ← hid]; rfl⟩
  case remap =>
    refine ⟨_, exec_runs_as (f := actLinkRemap) rfl rfl runs, (s.place_takenUp p).doneWith
      (fun s => (bitsOf 8 (p.dw 3)).foldl (fun s t => (bitsOf 12 (p.dw 2)).foldl (fun s b => s.moveBar t b (bit (p.dw 4) 0)) s) s)
      (fun s => ?_) (fun s => ?_) _⟩
    · have bars (s : State) (t : Nat) := beside_foldl (fun s b => State.moveBar_beside s t b (bit (p.dw 4) 0)) (bitsOf 12 (p.dw 2)) s
      rw [beside_foldl bars, beside_foldl bars]
      rfl
    · exact foldl_keeps State.qen (fun s t => foldl_keeps State.qen (fun s b => State.moveBar_qen ..) _ s) _ s
  case train =>
    have act : actLinkLane (s.place p) p [] = _ := if_pos train
    exact ⟨_, (exec_runs_as (f := actLinkLane) rfl rfl runs).trans (congrArg _ act),
      (s.place_takenUp p).runsWith (fun s => ((s.putItem (Pid.lnkRate (16 * lnkTile p + lnkLane p)) (p.f 4 0 0)).trainLane (lnkTile p)
        (lnkLane p)).updLnk (lnkTile p) (lnkLane p) (fun x => { x with action := some (p.seq, 0) })) (fun _ => rfl) (fun _ => rfl) _⟩
  case sleepTx =>
    have act (t : State) : actLinkLane t p [] = (sleepTxLane p t).done p.seq St.ok := by
      simp only [actLinkLane, tx, Nat.one_ne_zero, if_false, if_true]
      rfl
    exact ⟨_, (exec_runs_as (f := actLinkLane) rfl rfl runs).trans (congrArg _ (act _)),
      (s.place_takenUp p).doneWith (sleepTxLane p) (fun _ => rfl) (fun _ => rfl) _⟩
  case sleepRx =>
    have act (t : State) : actLinkLane t p [] = (sleepRxLane p t).done p.seq St.ok := by
      simp only [actLinkLane, rx, if_true]
      rfl
    exact ⟨_, (exec_runs_as (f := actLinkLane) rfl rfl runs).trans (congrArg _ (act _)),
      (s.place_takenUp p).doneWith (sleepRxLane p) (fun _ => rfl) (fun _ => rfl) _⟩
  case awake =>
    have up := s.place_takenUp p
    have lnk : (s.place p).lnk (lnkTile p) (lnkLane p) = s.lnk (lnkTile p) (lnkLane p) := by rw [s.place_eq p]; rfl
    have act : actLinkLane (s.place p) p [] = (s.place p).done p.seq St.ok := by
      simp [actLinkLane, wake, lnk, tx, rx]
    exact ⟨_, (exec_runs_as (f := actLinkLane) rfl rfl runs).trans (congrArg _ act), up.refuses _⟩
  case wake =>
    have lnk : (s.place p).lnk (lnkTile p) (lnkLane p) = s.lnk (lnkTile p) (lnkLane p) := by rw [s.place_eq p]; rfl
    have act : actLinkLane (s.place p) p [] = (wakeLane p (s.place p)).run p.seq .work := by
      simp only [actLinkLane, wake, if_true, lnk, if_neg asleep]
      rfl
    exact ⟨_, (exec_runs_as (f := actLinkLane) rfl rfl runs).trans (congrArg _ act),
      (s.place_takenUp p).runsWith (wakeLane p) (fun _ => rfl) (fun _ => rfl) _⟩
  case off =>
    have act (t : State) : actLinkLane t p [] = (offLane p t).done p.seq St.ok := by
      simp only [actLinkLane, off]
      rfl
    exact ⟨_, (exec_runs_as (f := actLinkLane) rfl rfl runs).trans (congrArg _ (act _)),
      (s.place_takenUp p).doneWith (offLane p) (fun _ => rfl) (fun _ => rfl) _⟩
  case test =>
    exact ⟨_, exec_runs_as (f := actLinkTest) rfl rfl runs, (s.place_takenUp p).runsWith (testLane p) (fun _ => rfl) (fun _ => rfl) _⟩

end Sys2Proof.Machine
end

section
/-! PROOF of the TWIN commands (11 R350, R367, R370, R379, R380, R383). -/

namespace Sys2Proof.Machine

theorem State.handover_lead (s : State) (seq : Nat) :
    (s.handover seq).lead.tile = 1 - s.lead.tile ∧ (s.handover seq).lead.handover = some (s.now, s.lead.tile, seq) := ⟨rfl, rfl⟩

/-- TWIN.PRESERVE writes the present capture to the flash memory, and its packet waits. -/
theorem State.presToFlash_waits {s t : State} {p : Packet} (up : TakenUp s t p) :
    ((t.presToFlash p.seq).park p.seq .work).ParkedOn p.seq .work ∧ ((t.presToFlash p.seq).park p.seq .work).flash =
      { s.flash with jobs := s.flash.jobs ++ [{ FlashJob.of 1 p.seq with pres := some t.capture }] } := by
  have flash : t.flash = s.flash := by
    obtain ⟨q, rfl⟩ := up.exists_engine
    rfl
  refine ⟨up.park _, ?_⟩
  rw [State.park_flash, ← flash]
  rfl

/-- Settles O21: each TWIN command on the package in which its packet stands. -/
theorem twinCommandsTakeEffect : Obligations.TwinCommandsTakeEffect := by
  unfold Obligations.TwinCommandsTakeEffect
  refine ⟨fun s p runs => ?withdraw, fun s p runs => ?rejoin, fun s p runs => ?restart, fun s p runs => ?lead, fun s p runs => ?preserve⟩
  case withdraw =>
    have begun : ((s.place p).tileN (tileArg p)).begun = (s.tileN (tileArg p)).begun := by rw [s.place_eq p]; rfl
    refine ⟨_, exec_runs_as (f := actTwinWithdraw) rfl rfl runs, ?_⟩
    rw [actTwinWithdraw, ← begun]
    rfl
  case rejoin => exact exec_runs rfl runs
  case restart =>
    have slot : ((s.place p).tileN (tileArg p)).boot.slot = (s.tileN (tileArg p)).boot.slot := by rw [s.place_eq p]; rfl
    rw [exec_runs_as (f := actTwinRestart) rfl rfl runs, actTwinRestart, ← slot]
    rfl
  case lead =>
    obtain ⟨tile, handover⟩ := (s.place p).handover_lead p.seq
    have lead (st r0 r1 : Nat) : (((s.place p).handover p.seq).complete p.seq st r0 r1).lead = ((s.place p).handover p.seq).lead :=
      State.complete_lead ..
    have now : (s.place p).now = s.now := by rw [s.place_eq p]; rfl
    rw [State.place_lead] at tile handover
    rw [now] at handover
    exact ⟨_, exec_runs rfl runs, (congrArg LeadSt.tile (lead ..)).trans tile, (congrArg LeadSt.handover (lead ..)).trans handover⟩
  case preserve =>
    exact ⟨_, exec_runs rfl runs, State.presToFlash_waits (s.place_takenUp p)⟩

end Sys2Proof.Machine
end

section
/-! PROOF about the DISP and PARM commands (17 R527, R533). -/

namespace Sys2Proof.Machine

/-- Port 0 sends, and a flip with packet number 1 is yet to be latched by port 1, which does not send. -/
def flipping : State :=
  { (State.reset.updTile 0 (fun x => { x with pdOn := 0x201 })).updDport 0 (fun d => { d with st := 3 }) with
    dispFlip := [{ seq := 1, left := 2, frame := 0, source := 0, surface := 0 }] }

/-- DISP.POWER off, packet number 1. -/
def dispPowerOffOne : Packet := { q := 0, seq := 1, w := (Vector.replicate 16 0).set 0 0x0C02 }

theorem dispPowerOffOne_runs : opDispPower.Runs flipping dispPowerOffOne := by
  unfold OpDef.Runs OpDef.Passes OpDef.held
  refine ⟨⟨?_, ?_, ?_, ?_⟩, ?_, ?_, ?_, .inl ?_⟩ <;> decide

/-- Port 1 stops, and the flip that waited for it completes. -/
theorem dispPowerOffOne_ends :
    ((actDispPower (flipping.place dispPowerOffOne) dispPowerOffOne []).entry 1).map (·.st) = some .done := by
  decide

/-- Refutes O22: DISP.POWER off while a flip that carries the packet's own number waits for the port that does not send. Stopping that port
ends the flip and with it the packet, where the statement has the packet PARKED. -/
theorem not_displayAndParameterCommandsTakeEffect : ¬ Obligations.DisplayAndParameterCommandsTakeEffect := by
  unfold Obligations.DisplayAndParameterCommandsTakeEffect
  rintro ⟨⟨-, -, -, powerOff, -⟩, -⟩
  obtain ⟨u, next, ⟨e, he, parked, -⟩, -⟩ := powerOff flipping dispPowerOffOne dispPowerOffOne_runs rfl rfl (by decide)
  have hu : u = actDispPower (flipping.place dispPowerOffOne) dispPowerOffOne [] :=
    (Host.Outcome.next.inj ((exec_runs_as (f := actDispPower) rfl rfl dispPowerOffOne_runs).symm.trans next)).symm
  have ends := dispPowerOffOne_ends
  rw [← hu, show u.entry 1 = some e from he, Option.map_some, parked] at ends
  cases ends

end Sys2Proof.Machine
end

section
/-! PROOF of the SVC and DIAG commands (01 R49; 13 R454, R455; 18 R556; 19 R590, R591). -/

namespace Sys2Proof.Machine

theorem maskOf_succ (n : Nat) (f : Nat → Bool) : maskOf (n + 1) f = if f n then maskOf n f + 2 ^ n else maskOf n f := by
  simp only [maskOf, List.range_succ, List.foldl_append, List.foldl_cons, List.foldl_nil]

theorem maskOf_lt (n : Nat) (f : Nat → Bool) : maskOf n f < 2 ^ n := by
  induction n with
  | zero => exact Nat.one_pos
  | succ n ih => rw [maskOf_succ, Nat.pow_succ]; split <;> omega

/-- Bit d of a mask is set where d is below its length and meets its condition. -/
theorem bit_maskOf (n : Nat) (f : Nat → Bool) (d : Nat) : bit (maskOf n f) d = (decide (d < n) && f d) := by
  induction n with
  | zero => simp [maskOf, bit]
  | succ n ih =>
    have low := maskOf_lt n f
    have top : (maskOf n f).testBit n = false := Nat.testBit_lt_two_pow low
    rw [bit] at ih ⊢
    rw [maskOf_succ]
    rcases Nat.lt_trichotomy d n with below | rfl | above
    · have : d < n + 1 := by omega
      split
      · rw [Nat.add_comm, Nat.testBit_two_pow_add_gt below, ih]
        simp [below, this]
      · rw [ih]
        simp [below, this]
    · split
      case isTrue set => rw [Nat.add_comm, Nat.testBit_two_pow_add_eq, top]; simp [set]
      case isFalse clear => rw [top]; simpa using clear
    · have wide : maskOf (n + 1) f < 2 ^ d := Nat.lt_of_lt_of_le (maskOf_lt (n + 1) f) (Nat.pow_le_pow_right Nat.two_pos above)
      rw [← maskOf_succ, Nat.testBit_lt_two_pow wide]
      simp [show ¬ d < n + 1 by omega]

theorem maskOf_eq_zero {n : Nat} {f : Nat → Bool} (h : ∀ d, d < n → f d = false) : maskOf n f = 0 := by
  refine Nat.eq_of_testBit_eq fun d => ?_
  rw [Nat.zero_testBit]
  refine (bit_maskOf n f d).trans ?_
  by_cases hd : d < n <;> simp [hd, h]

theorem State.park_tileN (s : State) (seq n : Nat) (w : Wait) : (s.park seq w).tileN n = s.tileN n := by
  simp only [State.tileN, State.tile, State.park_tiles]
theorem State.tileN_updTileN (s : State) (n : Nat) (f : TileState → TileState) : (s.updTileN n f).tileN n = f (s.tileN n) :=
  (s.tile_updTileN n f _).trans (if_pos rfl)

section
variable {s t : State} {p : Packet} {bs : List Byte}

/-- The domains that SVC.POWER is to switch on and that are not on. -/
def svcWait (s : State) (p : Packet) : Nat := maskOf 15 (fun d => bit (p.f 3 14 0) d && !((s.domsOff (tileArg p) (p.f 4 14 0)).tileN (tileArg p)).on d)

theorem actSvcPower_at_once (none : svcWait t p = 0) : actSvcPower t p bs = (t.domsOff (tileArg p) (p.f 4 14 0)).done p.seq St.ok := by
  have mask : maskOf 15 (fun d => bit (p.f 3 14 0) d && !((t.domsOff (tileArg p) (p.f 4 14 0)).tileN (tileArg p)).on d) = 0 := none
  simp only [actSvcPower, mask, if_true]
  rfl

theorem actSvcPower_waits (some : svcWait t p ≠ 0) :
    (p.seq, svcWait t p, t.now) ∈ ((actSvcPower t p bs).tileN (tileArg p)).pdWait := by
  have mask : maskOf 15 (fun d => bit (p.f 3 14 0) d && !((t.domsOff (tileArg p) (p.f 4 14 0)).tileN (tileArg p)).on d) ≠ 0 := some
  simp only [actSvcPower, if_neg mask]
  rw [State.park_tileN, State.tileN_updTileN]
  exact List.mem_append_right _ (List.mem_singleton.mpr rfl)

/-- SVC.UPDATE restarts its tile from the slot of the update, with the values of the package before. -/
theorem actSvcUpdate_restarts (up : TakenUp s t p) : actSvcUpdate t p bs =
    ((({ t with lead := { s.lead with
          upd := if s.lead.upd = 3 then 3 else 2
          updating := s.lead.updating.filter (fun (v : Nat × Nat × Nat) => v.2.1 != tileArg p) ++
            [(p.seq, tileArg p, s.now + 250_000_000 * s.itemN Pid.updTimeout)] } } : State).withdraw (tileArg p) 8).restartTile
      (tileArg p) s.updateSlot).rejoinFor (tileArg p) p.seq := by
  obtain ⟨q, rfl⟩ := up.exists_engine
  rfl

end

/-- Settles O23: each SVC and DIAG command on the package in which its packet stands. -/
theorem serviceAndDiagnosticCommandsTakeEffect : Obligations.ServiceAndDiagnosticCommandsTakeEffect := by
  unfold Obligations.ServiceAndDiagnosticCommandsTakeEffect
  refine ⟨⟨fun s p runs on => ?atOnce, fun s p d runs hd named off => ?waits, fun s p bs feeds => ?image, fun s p runs => ?update,
    fun s p runs => ?trim⟩, fun s p runs => ?echo, fun s p runs => exec_runs rfl runs, fun s p runs => exec_runs rfl runs⟩
  case trim => exact exec_runs_as (f := actSvcTrim) rfl rfl runs
  case echo =>
    have done := (s.place_takenUp p).complete (u := s.place p) St.ok (p.dw 2) (p.f 3 30 0)
    rw [Nat.mod_eq_of_lt (field_lt p 3 30 0)] at done
    exact ⟨_, exec_runs rfl runs, (State.complete_beside _ _ _ _ _).trans (s.place_beside p), done⟩
  case update =>
    exact (exec_runs_as (f := actSvcUpdate) rfl rfl runs).trans (congrArg _ (actSvcUpdate_restarts (s.place_takenUp p)))
  case atOnce =>
    have none : svcWait (s.place p) p = 0 := maskOf_eq_zero fun d hd => by
      cases named : bit (p.f 3 14 0) d with
      | false => rfl
      | true => simp [on d hd named]
    exact (exec_runs_as (f := actSvcPower) rfl rfl runs).trans (congrArg _ (actSvcPower_at_once none))
  case waits =>
    have named' : bit (svcWait (s.place p) p) d = true := by
      rw [svcWait, bit_maskOf]
      simp [hd, named, off]
    have some : svcWait (s.place p) p ≠ 0 := fun none => by simp [none, bit] at named'
    have now : (s.place p).now = s.now := by rw [s.place_eq p]; rfl
    exact ⟨_, _, exec_runs_as (f := actSvcPower) rfl rfl runs, named', now ▸ actSvcPower_waits some⟩
  case image =>
    obtain ⟨u, first, second⟩ := exec_feeds (i := .svcImage p) rfl feeds
    have up := opSvcImage.fed_takenUp s p bs rfl rfl
    refine ⟨u, _, first, second, up.park _, ?_⟩
    refine (State.park_beside _ _ _).trans ?_
    rw [up.eq]
    rfl

end Sys2Proof.Machine
end

section
/-! PROOF of the reports (13 R436 to R438, and the report of each chapter), and of MARK.CLOCK (05 R171). -/

namespace Sys2Proof.Machine

theorem length_leBytes (n v : Nat) : (leBytes n v).length = n := by
  induction n generalizing v with
  | zero => rfl
  | succ n ih => rw [leBytes, List.length_cons, ih]

theorem length_reportOf (opc time : Nat) (body : List Byte) : (reportOf opc time body).length = 16 + body.length := by
  simp only [reportOf, List.length_append, length_leBytes, List.length_cons, List.length_nil]

/-- A one-bit field is a bit. -/
theorem bit_of_field (p : Packet) (i l : Nat) : bit (p.dw i) l = decide (p.f i l l = 1) := by
  simp only [bit, Packet.f, bits, Nat.testBit_eq_decide_div_mod_eq, Nat.add_sub_cancel_left, Nat.pow_one, Nat.shiftRight_eq_div_pow]

section
variable {s t : State} {p : Packet} {bs : List Byte}

/-- The bytes of a report reach host memory, and its packet completes with the report's size. -/
theorem State.report_writes {e : StoreEntry} (he : s.entry p.seq = some e) (running : e.st = .running) (body : List Byte) :
    (s.report p body).beside = (s.hostWrite (p.ha 2) ((reportOf p.opcode s.now body).take (p.dw 4))).beside ∧
    (s.report p body).DoneWith p.seq (if p.dw 4 < 16 + body.length then St.okTruncated else St.ok) ((16 + body.length) % 2 ^ 32) 0 := by
  simp only [State.report, length_reportOf]
  exact ⟨State.complete_beside .., State.complete_done _ _ _ _ _ (e := e) he (by simp [running])⟩

theorem TakenUp.nTiles (up : TakenUp s t p) : t.nTiles = s.nTiles := by
  obtain ⟨q, rfl⟩ := up.exists_engine
  rfl

theorem TakenUp.rptTiles (up : TakenUp s t p) : t.rptTiles p = (bitsOf 8 (p.selector 8)).filter (· < s.nTiles) := by
  rw [State.rptTiles, up.nTiles]

theorem actParmList_own (own : p.f 5 8 8 = 0) (tiles : t.nTiles = s.nTiles) : actParmList t p bs = t.report p
    ((if p.f 5 7 0 = 0xFF ∨ p.f 5 7 0 = 0 then parmAll else parmRowsOf (p.f 5 7 0)).flatMap (fun r => (r.ids s.nTiles).flatMap (descriptor r)) ++
      Config.statusList (p.f 5 8 0)) := by
  simp only [actParmList, bit_of_field, own, tiles]
  simp

theorem actParmList_status (only : p.f 5 8 8 = 1) : actParmList t p bs = t.report p (Config.statusList (p.f 5 8 0)) := by
  simp only [actParmList, bit_of_field, only, decide_true, if_true, List.nil_append]

theorem actMarkClock_reads (up : TakenUp s t p) (only : clockCorrect p = false) :
    actMarkClock t p bs = (t.hostWrite (p.ha 8) s.clockRead).done p.seq St.ok := by
  obtain ⟨q, rfl⟩ := up.exists_engine
  simp only [actMarkClock, only, Bool.false_eq_true, if_false]
  rfl

theorem actMarkClock_corrects (up : TakenUp s t p) (corrects : clockCorrect p = true) :
    actMarkClock t p bs = (((t.hostWrite (p.ha 8) s.clockRead).calCorrect (s.clockDelta p) false (bit (p.dw 2) 1)).updCal s.lead.tile
      (fun c => { c with srcOk := c.srcOk || decide (s.marks.src = 1) })).done p.seq St.ok := by
  obtain ⟨q, rfl⟩ := up.exists_engine
  simp only [actMarkClock, corrects, if_true]
  rfl

end

/-- Settles O24: each report on the package in which its packet stands, and what reaches host memory of any report. -/
theorem reportCommandsTakeEffect : Obligations.ReportCommandsTakeEffect := by
  unfold Obligations.ReportCommandsTakeEffect
  refine ⟨fun s p => ⟨?sessions, exec_runs rfl, exec_runs rfl, exec_runs rfl, exec_runs rfl, exec_runs rfl, exec_runs rfl, ?colourLog, exec_runs rfl,
    ?linkList, ?linkTime, ?linkScan, ?assay, exec_runs rfl, exec_runs rfl, ?tally, ?thermal, ?evlog, ?statusList, ?ownList, ?clockRead, ?clockCorrect⟩,
    fun s p body e he running => ?bytes⟩
  case bytes =>
    obtain ⟨beside, done⟩ := State.report_writes he running body
    exact ⟨beside, length_reportOf _ _ _, done⟩
  all_goals have up := s.place_takenUp p
  all_goals intro runs
  case sessions =>
    refine (exec_runs_as (f := actSessionInfo) rfl rfl runs).trans (congrArg _ ?_)
    show actSessionInfo (s.place p) p [] = _
    simp only [actSessionInfo, up.session]
  case colourLog =>
    rw [exec_runs rfl runs, ← s.place_colour p]
    rfl
  case linkList =>
    rw [exec_runs rfl runs, ← s.place_link p]
    rfl
  case linkTime =>
    rw [exec_runs rfl runs, ← s.place_link p]
    rfl
  case linkScan =>
    rw [exec_runs rfl runs, ← up.nTiles]
    rfl
  case assay =>
    rw [exec_runs rfl runs, ← up.rptTiles]
    rfl
  case tally =>
    rw [exec_runs rfl runs, ← up.rptTiles]
    rfl
  case thermal =>
    rw [exec_runs rfl runs, ← up.nTiles]
    rfl
  case evlog =>
    have tiles : (s.place p).tileList = s.tileList := congrArg List.range up.nTiles
    have tile (n : Nat) : (s.place p).tileN n = s.tileN n := by rw [s.place_eq p]; rfl
    rw [exec_runs rfl runs, ← tiles]
    simp only [← tile]
    rfl
  case statusList =>
    intro only
    exact (exec_runs_as (f := actParmList) rfl rfl runs).trans (congrArg _ (actParmList_status only))
  case ownList =>
    intro own
    exact (exec_runs_as (f := actParmList) rfl rfl runs).trans (congrArg _ (actParmList_own own up.nTiles))
  case clockRead =>
    intro only
    exact ⟨_, (exec_runs_as (f := actMarkClock) rfl rfl runs).trans (congrArg _ (actMarkClock_reads up only)), up.reports _ _⟩
  case clockCorrect =>
    intro corrects
    exact (exec_runs_as (f := actMarkClock) rfl rfl runs).trans (congrArg _ (actMarkClock_corrects up corrects))

end Sys2Proof.Machine
end

section
/-! PROOF of doorbells and of QEN_CTL.EN (12 R394, R395, R397, R399, R429). -/

namespace Sys2Proof.Machine

section
variable {s : State} {t q v : Nat} {x : QueuePair} {f : QueuePair → State}

/-! ## A doorbell (12 R395, R399) -/

theorem State.bell_reaches (ht : t < 2) (on : s.cmdOn t = true) (reaches : s.bellReaches t = true) (warm : s.lead.cold ≠ 1)
    (hx : s.pair q = some x) : s.bell t q f = f x := by
  simp [State.bell, Nat.not_le.mpr ht, on, reaches, warm, hx]

theorem State.bell_strays (ht : t < 2) (on : s.cmdOn t = true) (h : s.bellReaches t = false ∨ s.lead.cold ≠ 1 ∧ s.pair q = none) :
    s.bell t q f = s.strayBell t := by
  rcases h with away | ⟨warm, none⟩
  · simp [State.bell, Nat.not_le.mpr ht, on, away]
  · simp [State.bell, Nat.not_le.mpr ht, on, warm, none]

theorem State.mirrorSend_qen (s : State) (m : Mirror) : (s.mirrorSend m).qen.bells = s.qen.bells ∧ (s.mirrorSend m).qen.store = s.qen.store ∧
    (s.mirrorSend m).qen.sessions = s.qen.sessions ∧ (s.mirrorSend m).qen.en = s.qen.en := by
  unfold State.mirrorSend
  split
  · exact ⟨rfl, rfl, rfl, rfl⟩
  · exact ⟨rfl, rfl, rfl, rfl⟩

theorem State.setPair_same (s : State) (hq : q < 256) (x : Option QueuePair) : (s.setPair q x).pair q = x :=
  (s.pair_setPair q q x).trans (if_pos ⟨rfl, hq⟩)
theorem State.setPair_other (s : State) {r : Nat} (h : r ≠ q) (x : Option QueuePair) : (s.setPair q x).pair r = s.pair r :=
  (s.pair_setPair q r x).trans (if_neg fun e => h e.1.symm)

theorem State.sqTail_outside (ht : t < 2) (on : s.cmdOn t = true) (reaches : s.bellReaches t = true) (warm : s.lead.cold ≠ 1)
    (hx : s.pair q = some x) (outside : x.sqSize ≤ v % 4096) : s.sqTail t q v = s.raiseLead Ev.queueFault [q, 0] :=
  (State.bell_reaches ht on reaches warm hx).trans (if_pos outside)

/-- A pair with its SQ tail at n, and the entries before it visible since a doorbell. -/
def QueuePair.withTail (x : QueuePair) (n bell : Nat) : QueuePair :=
  { x with sqTail := n, vis := x.vis ++ List.replicate ((n + x.sqSize - x.sqTail) % x.sqSize) bell }

/-- The package once a doorbell has moved an SQ tail. -/
def State.tailMoved (s : State) (q : Nat) (x : QueuePair) (n : Nat) : State :=
  let u := s.setPair q (some (x.withTail n s.qen.bells))
  { u with qen := { u.qen with bells := s.qen.bells + 1 } }

theorem State.sqTail_inside (ht : t < 2) (on : s.cmdOn t = true) (reaches : s.bellReaches t = true) (warm : s.lead.cold ≠ 1)
    (hx : s.pair q = some x) (inside : v % 4096 < x.sqSize) :
    s.sqTail t q v = (s.tailMoved q x (v % 4096)).mirrorSend (.tail q (v % 4096)) :=
  (State.bell_reaches ht on reaches warm hx).trans (if_neg (Nat.not_le.mpr inside))

theorem State.cqHead_outside (ht : t < 2) (on : s.cmdOn t = true) (reaches : s.bellReaches t = true) (warm : s.lead.cold ≠ 1)
    (hx : s.pair q = some x) (outside : x.cqSize ≤ v % 4096) : s.cqHead t q v = s.raiseLead Ev.queueFault [q, 0] :=
  (State.bell_reaches ht on reaches warm hx).trans (if_pos outside)

theorem State.cqHead_past (ht : t < 2) (on : s.cmdOn t = true) (reaches : s.bellReaches t = true) (warm : s.lead.cold ≠ 1)
    (hx : s.pair q = some x) (inside : v % 4096 < x.cqSize)
    (past : (x.cqTail + x.cqSize - x.cqHead) % x.cqSize < (v % 4096 + x.cqSize - x.cqHead) % x.cqSize) :
    s.cqHead t q v = s.raiseLead Ev.queueFault [q, 1] :=
  (State.bell_reaches ht on reaches warm hx).trans ((if_neg (Nat.not_le.mpr inside)).trans (if_pos past))

/-- A pair with its CQ head at n. -/
def QueuePair.withHead (x : QueuePair) (n : Nat) : QueuePair := { x with cqHead := n, held := x.held && decide (n = x.cqHead) }

theorem State.cqHead_inside (ht : t < 2) (on : s.cmdOn t = true) (reaches : s.bellReaches t = true) (warm : s.lead.cold ≠ 1)
    (hx : s.pair q = some x) (inside : v % 4096 < x.cqSize)
    (upTo : (v % 4096 + x.cqSize - x.cqHead) % x.cqSize ≤ (x.cqTail + x.cqSize - x.cqHead) % x.cqSize) :
    s.cqHead t q v = (s.setPair q (some (x.withHead (v % 4096)))).mirrorSend (.head q (v % 4096)) := by
  have held : (if v % 4096 = x.cqHead then x.held else false) = (x.held && decide (v % 4096 = x.cqHead)) := by
    split <;> simp [*]
  refine (State.bell_reaches ht on reaches warm hx).trans ?_
  simp only [if_neg (Nat.not_le.mpr inside), if_neg (Nat.not_lt.mpr upTo), held]
  rfl

/-! ## QEN_CTL.EN (12 R394, R429) -/

theorem State.ctlOpen_lead (lead : t = s.lead.tile) (on : s.cmdOn t = true) (unlocked : s.qen.reglock = false) : s.ctlOpen t = true := by
  simp [State.ctlOpen, ← lead, on, State.rwlOpen, unlocked]

end

/-- Settles O25: a doorbell inside its queue, outside it, and of no queue; EN set with and without pair 0, and cleared. -/
theorem doorbellsAndEnableMoveQueues : Obligations.DoorbellsAndEnableMoveQueues := by
  unfold Obligations.DoorbellsAndEnableMoveQueues
  refine ⟨fun s t q v present => ⟨fun x hx host on reaches warm => ⟨fun inside => ?tail, fun outside => ?tailOutside, fun inside behind => ?head,
      fun inside past => ?headPast, fun outside => ?headOutside⟩, fun host on away => ⟨?strayTail, ?strayHead⟩⟩,
    fun s t present lead on unlocked => ⟨fun x hx => ?keeps, fun none => ?starts, ?stops⟩⟩
  case tail =>
    obtain ⟨bells, store, sessions, -⟩ := (s.tailMoved q x (v.toNat % 4096)).mirrorSend_qen (.tail q (v.toNat % 4096))
    refine ⟨_, (onTile_present present).trans (congrArg _ (State.sqTail_inside host on reaches warm hx inside)),
      State.mirrorSend_beside .., bells, store, sessions, fun r hr => ?_, ?_⟩
    · exact (State.mirrorSend_pair ..).trans (s.setPair_other hr _)
    · exact (State.mirrorSend_pair ..).trans (s.setPair_same q.isLt _)
  case tailOutside => exact (onTile_present present).trans (congrArg _ (State.sqTail_outside host on reaches warm hx outside))
  case head =>
    obtain ⟨-, store, sessions, -⟩ :=
      (s.setPair q (some (x.withHead (v.toNat % 4096)))).mirrorSend_qen (.head q (v.toNat % 4096))
    refine ⟨_, (onTile_present present).trans (congrArg _ (State.cqHead_inside host on reaches warm hx inside behind)),
      State.mirrorSend_beside .., store, sessions, fun r hr => ?_, ?_⟩
    · exact (State.mirrorSend_pair ..).trans (s.setPair_other hr _)
    · exact (State.mirrorSend_pair ..).trans (s.setPair_same q.isLt _)
  case headPast => exact (onTile_present present).trans (congrArg _ (State.cqHead_past host on reaches warm hx inside past))
  case headOutside => exact (onTile_present present).trans (congrArg _ (State.cqHead_outside host on reaches warm hx outside))
  case strayTail => exact (onTile_present present).trans (congrArg _ (State.bell_strays host on away))
  case strayHead => exact (onTile_present present).trans (congrArg _ (State.bell_strays host on away))
  all_goals have ctl := State.ctlOpen_lead lead on unlocked
  case keeps => exact (onTile_present present).trans (congrArg _ ((if_pos ctl).trans (by rw [State.enStart, hx])))
  case stops => exact (onTile_present present).trans (congrArg _ (if_pos ctl))
  case starts =>
    have started : s.enSet t.val = _ := (if_pos ctl).trans (by rw [State.enStart, none])
    obtain ⟨-, store, -, en⟩ := State.mirrorSend_qen (({ s with qen := { s.qen with en := true } } : State).setPair 0
      (some (QueuePair.fresh 0 s.qen.asq (max s.qen.asqs 1 + 1) s.qen.acq (max s.qen.acqs 1 + 1)))) (.config 0)
    refine ⟨_, (onTile_present present).trans (congrArg _ started), State.mirrorSend_beside .., en, store, fun r hr => ?_, ?_⟩
    · exact (State.mirrorSend_pair ..).trans (State.setPair_other _ hr _)
    · exact (State.mirrorSend_pair ..).trans (State.setPair_same _ (by decide) _)

end Sys2Proof.Machine
end

section
/-! PROOF of completions and vectors on their way to the host (12 R397, R398, R416 to R420, R424). -/

namespace Sys2Proof.Machine

section
variable {s t u : State} {q v seq : Nat} {x : QueuePair} {e : StoreEntry}

/-! ## A completion is posted (12 R397, R398, R416) -/

/-- What is posted for an entry, before its queue pair and its session settle: the entry's writes, and its place in the store. -/
def State.posting (s : State) (q : Nat) (x : QueuePair) (e : StoreEntry) : State :=
  let s1 := s.writeEntry q x e s.lead.epoch
  if s.postedTwice e && x.posted.room then s1.writeEntry q x.posted e s.lead.overlap.2 else s1

theorem State.writeEntry_host (s : State) (q : Nat) (x : QueuePair) (e : StoreEntry) (epoch : Nat) :
    (s.writeEntry q x e epoch).host = (s.hostWrite (x.cqBase + 16 * x.cqTail) (completionBytes e x.sqHead epoch x.phase)).host := by
  have host (m : Mirror) : (s.mirrorSend m).host = s.host := by
    have beside := congrArg State.host (s.mirrorSend_beside m)
    exact beside
  simp only [State.writeEntry, State.setPair_host, State.hostWrite, host]
theorem State.writeEntry_beside (s : State) (q : Nat) (x : QueuePair) (e : StoreEntry) (epoch : Nat) :
    (s.writeEntry q x e epoch).beside = (s.hostWrite (x.cqBase + 16 * x.cqTail) (completionBytes e x.sqHead epoch x.phase)).beside := by
  rw [State.writeEntry, State.setPair_beside, State.hostWrite_beside, State.mirrorSend_beside, State.hostWrite_beside]
theorem State.writeEntry_session (s : State) (q : Nat) (x : QueuePair) (e : StoreEntry) (epoch n : Nat) :
    (s.writeEntry q x e epoch).session n = s.session n := by
  obtain ⟨-, -, sessions, -⟩ := s.mirrorSend_qen
    (.entry q x.cqTail x.phase [e.p.tag + 2 ^ 16 * e.status, epoch + 2 ^ 16 * x.sqHead, e.r0, e.r1])
  exact congrArg (vget · n none) sessions

theorem State.complete_absent (s : State) {n : Nat} (h : s.entry n = none) (seq st r0 r1 : Nat) : (s.complete seq st r0 r1).entry n = none := by
  by_cases same : n = seq
  · subst same
    rw [State.complete, h]
    exact h
  · rw [State.complete_other _ same]
    exact h

/-- Settling a queue pair and a session changes neither host memory nor an entry that is gone. -/
theorem State.settle_host (s : State) (q n : Nat) : (s.settle q n).host = s.host := by
  have pair : (s.settlePair q).host = s.host := by
    unfold State.settlePair
    split
    · split
      · rfl
      · exact (State.done_host ..).trans (State.setPair_host ..)
    · rfl
  refine Eq.trans ?_ pair
  simp only [State.settle, State.settleSession]
  split
  · split
    · rfl
    · rw [State.done_host, State.raiseLead, State.raise_host]
      unfold State.changeSession
      split <;> rfl
  · rfl

theorem State.settlePair_absent {n : Nat} (h : s.entry n = none) (q : Nat) : (s.settlePair q).entry n = none := by
  unfold State.settlePair
  split
  · split
    · exact h
    · exact State.complete_absent (s.setPair q none) h _ _ _ _
  · exact h

theorem State.settle_absent {n : Nat} (h : s.entry n = none) (q m : Nat) : (s.settle q m).entry n = none := by
  have pair := State.settlePair_absent h q
  simp only [State.settle, State.settleSession]
  split
  · split
    · exact pair
    · refine State.complete_absent _ ?_ _ _ _ _
      unfold State.changeSession
      split <;> exact pair
  · exact pair

theorem State.settlePair_session (s : State) (q n : Nat) : (s.settlePair q).session n = s.session n := by
  unfold State.settlePair
  split
  · split
    · rfl
    · exact State.done_session ..
  · rfl
theorem State.settlePair_beside (s : State) (q : Nat) : (s.settlePair q).beside = s.beside := by
  unfold State.settlePair
  split
  · split
    · rfl
    · exact (State.done_beside ..).trans (State.setPair_beside ..)
  · rfl

theorem State.settle_beside {n : Nat} (stays : (s.session n).bind (·.closing) = none) (q : Nat) : (s.settle q n).beside = s.beside := by
  have stays' : ((s.settlePair q).session n).bind (·.closing) = none := by rw [State.settlePair_session]; exact stays
  simp only [State.settle, State.settleSession, stays']
  exact State.settlePair_beside ..

/-- Posting an entry: host memory has what was written, the entry is gone, and with its session open nothing else changes. -/
theorem State.postOne_posts (s : State) (q : Nat) (x : QueuePair) (e : StoreEntry) :
    (s.postOne q x e).host = (s.posting q x e).host ∧ (s.postOne q x e).entry e.p.seq = none ∧
    ((s.session e.session).bind (·.closing) = none → (s.postOne q x e).beside = (s.posting q x e).beside) := by
  let s3 := (s.posting q x e).setStore ((s.posting q x e).qen.store.filter (fun d => d.p.seq != e.p.seq))
  let s4 := if e.p.notify && !e.counted then s3.countNotify q e.p.urgent else s3
  have post : s.postOne q x e = s4.settle q e.session := rfl
  have counted : Counted s3 s4 := by
    show Counted s3 (if _ then _ else _)
    split
    · exact State.countNotify_counted ..
    · exact .refl _
  have absent : s3.entry e.p.seq = none := by
    refine List.find?_eq_none.mpr fun d hd => ?_
    simpa using (List.mem_filter.mp hd).2
  have absent' : s4.entry e.p.seq = none := by rw [State.entry, counted.store]; exact absent
  have session : s4.session e.session = s.session e.session := by
    rw [counted.session]
    show (s.posting q x e).session _ = _
    simp only [State.posting]
    split
    · rw [State.writeEntry_session, State.writeEntry_session]
    · rw [State.writeEntry_session]
  rw [post]
  refine ⟨(s4.settle_host ..).trans ?_, State.settle_absent absent' _ _, fun stays => ?_⟩
  · have only := counted.qen
    rw [← (only : _ = s4)]
    rfl
  · rw [State.settle_beside (by rw [session]; exact stays), counted.qen.beside]
    rfl

theorem State.post_room (hx : s.pair q = some x) (he : s.nextPost q = some e) (ready : s.portReady = true) (room : x.room = true) :
    s.post q = s.postOne q x e := by
  simp [State.post, hx, he, ready, room]
theorem State.post_full (hx : s.pair q = some x) (he : s.nextPost q = some e) (ready : s.portReady = true) (full : x.room = false) :
    s.post q = if x.held then s else (s.setPair q (some { x with held := true })).raiseLead Ev.cqHeld [q] := by
  simp [State.post, hx, he, ready, full]

/-! ## Vectors leave or are held (12 R417 to R420) -/

/-- Sending a vector leaves all but the vectors due, the vectors sent and the link of the lead's port. -/
structure Sent (s u : State) : Prop where
  beside : u.beside = s.beside
  mx : u.mx = s.mx
  funcMask : u.port.funcMask = s.port.funcMask
  msixEn : u.port.msixEn = s.port.msixEn
  ready : s.portReady = true → u.portReady = true
  sent : ∀ v, v ∈ s.qen.sentVec → v ∈ u.qen.sentVec
  due : ∀ v, v ∈ u.qen.due → v ∈ s.qen.due

theorem Sent.refl (s : State) : Sent s s := ⟨rfl, rfl, rfl, rfl, id, fun _ => id, fun _ => id⟩
theorem Sent.trans (h : Sent s t) (h' : Sent t u) : Sent s u where
  beside := h'.beside.trans h.beside
  mx := h'.mx.trans h.mx
  funcMask := h'.funcMask.trans h.funcMask
  msixEn := h'.msixEn.trans h.msixEn
  ready := fun r => h'.ready (h.ready r)
  sent := fun v hv => h'.sent v (h.sent v hv)
  due := fun v hv => h.due v (h'.due v hv)

theorem Sent.vecOpen (h : Sent s u) (v : Nat) : u.vecOpen v = s.vecOpen v := by
  rw [State.vecOpen, State.vecOpen, h.mx, h.funcMask, h.msixEn]

theorem State.sendVec_open (opened : s.vecOpen v = true) (due : v ∈ s.qen.due) (ready : s.portReady = true) :
    s.sendVec v = { s with qen := { s.qen with
      due := s.qen.due.filter (· != v)
      ports := vupd s.qen.ports s.lead.tile Port.reset (fun p => { p with link := 0 })
      sentVec := v :: s.qen.sentVec } } := by
  simp only [State.sendVec, List.contains_eq_mem, due, decide_true, ready, Bool.not_true, Bool.or_self, Bool.false_eq_true, if_false, opened,
    if_true]
  rfl

theorem State.sendVec_masked (masked : s.vecOpen v = false) (due : v ∈ s.qen.due) (ready : s.portReady = true) :
    s.sendVec v = { s with qen := { s.qen with
      due := s.qen.due.filter (· != v)
      msix := vupd s.qen.msix s.lead.tile Msix.reset (fun m => { m with pba := addNew m.pba v }) } } := by
  simp only [State.sendVec, List.contains_eq_mem, due, decide_true, ready, Bool.not_true, Bool.or_self, Bool.false_eq_true, if_false, masked]
  rfl

/-- The lead's endpoint after an update of it; a lead that is neither T0 nor T1 has none. -/
theorem State.port_updPort (s : State) (f : Port → Port) : (s.updPort s.lead.tile f).port = if s.lead.tile < 2 then f s.port else s.port := by
  refine (vget_vset s.qen.ports s.lead.tile s.lead.tile _ Port.reset).trans ?_
  simp only [true_and]
  rfl

theorem State.sendVec_sent (opened : s.vecOpen v = true) : Sent s (s.sendVec v) := by
  by_cases hold : v ∈ s.qen.due ∧ s.portReady = true
  · rw [State.sendVec_open opened hold.1 hold.2]
    have port := s.port_updPort (fun p => { p with link := 0 })
    have keeps {α : Type} (g : Port → α) (hg : ∀ x : Port, g { x with link := 0 } = g x) :
        g (vget (vupd s.qen.ports s.lead.tile Port.reset (fun p => { p with link := 0 })) s.lead.tile Port.reset) = g s.port := by
      refine (congrArg g port).trans ?_
      split
      · exact hg _
      · rfl
    have linked : (vget (vupd s.qen.ports s.lead.tile Port.reset (fun p => { p with link := 0 })) s.lead.tile Port.reset).link ≠ 5 := by
      have up : s.port.link ≠ 5 := by
        have ready := hold.2
        simp only [State.portReady, Bool.and_eq_true, decide_eq_true_eq] at ready
        exact ready.2
      refine fun down => absurd ((congrArg Port.link port).symm.trans down) ?_
      split
      · exact Nat.succ_ne_zero 4 |>.symm
      · exact up
    refine ⟨rfl, rfl, keeps Port.funcMask fun _ => rfl, keeps Port.msixEn fun _ => rfl, fun ready => ?_,
      fun w hw => List.mem_cons_of_mem _ hw, fun w hw => (List.mem_filter.mp hw).1⟩
    have dstate := keeps Port.dstate fun _ => rfl
    have master := keeps Port.busMaster fun _ => rfl
    simp only [State.portReady, Bool.and_eq_true, decide_eq_true_eq] at ready ⊢
    obtain ⟨⟨⟨⟨engine, host⟩, awake⟩, bus⟩, -⟩ := ready
    exact ⟨⟨⟨⟨engine, host⟩, dstate.trans awake⟩, master.trans bus⟩, linked⟩
  · have stays : s.sendVec v = s := by
      rw [State.sendVec, if_pos]
      simpa [List.contains_eq_mem, Decidable.or_iff_not_imp_left] using hold
    rw [stays]
    exact .refl s

theorem State.sendVec_leaves (opened : s.vecOpen v = true) (ready : s.portReady = true) :
    v ∉ (s.sendVec v).qen.due ∧ (v ∈ s.qen.due → v ∈ (s.sendVec v).qen.sentVec) := by
  by_cases due : v ∈ s.qen.due
  · rw [State.sendVec_open opened due ready]
    exact ⟨by simp, fun _ => List.mem_cons_self ..⟩
  · exact ⟨fun h => due ((State.sendVec_sent opened).due v h), fun h => absurd h due⟩

theorem State.foldSend_sent {l : List Nat} (opened : ∀ v ∈ l, s.vecOpen v = true) : Sent s (l.foldl (fun s v => s.sendVec v) s) := by
  induction l generalizing s with
  | nil => exact .refl s
  | cons a r ih =>
    have one := State.sendVec_sent (opened a (List.mem_cons_self ..))
    exact one.trans (ih fun v hv => by rw [one.vecOpen]; exact opened v (List.mem_cons_of_mem a hv))

/-- Open vectors sent one after the other: none of them is due any more, and those that were due have been sent. -/
theorem State.foldSend_leaves {l : List Nat} (opened : ∀ v ∈ l, s.vecOpen v = true) (ready : s.portReady = true) :
    ∀ v ∈ l, v ∉ (l.foldl (fun s v => s.sendVec v) s).qen.due ∧
      (v ∈ s.qen.due → v ∈ (l.foldl (fun s v => s.sendVec v) s).qen.sentVec) := by
  induction l generalizing s with
  | nil => exact fun _ hv => absurd hv List.not_mem_nil
  | cons a r ih =>
    have one := State.sendVec_sent (opened a (List.mem_cons_self ..))
    have opened' (v : Nat) (hv : v ∈ r) : (s.sendVec a).vecOpen v = true := by
      rw [one.vecOpen]
      exact opened v (List.mem_cons_of_mem a hv)
    have rest := State.foldSend_sent opened'
    have each := ih opened' (one.ready ready)
    obtain ⟨gone, sent⟩ := State.sendVec_leaves (opened a (List.mem_cons_self ..)) ready
    intro v hv
    by_cases same : v = a
    · subst same
      exact ⟨fun h => gone (rest.due v h), fun h => rest.sent v (sent h)⟩
    · obtain ⟨gone', sent'⟩ := each v ((List.mem_cons.mp hv).resolve_left same)
      refine ⟨gone', fun h => sent' ?_⟩
      by_cases due : a ∈ s.qen.due
      · rw [State.sendVec_open (opened a (List.mem_cons_self ..)) due ready]
        exact List.mem_filter.mpr ⟨h, by simpa using same⟩
      · have stays : s.sendVec a = s := by simp [State.sendVec, List.contains_eq_mem, due]
        rwa [stays]

/-! ## Unmasking (12 R418) -/

theorem mem_foldl_addNew_self {l : List Nat} {acc : List Nat} : v ∈ l.foldl addNew acc ↔ v ∈ acc ∨ v ∈ l := by
  have := mem_foldl_addNew (l := l) (f := id) (acc := acc) (n := v)
  simpa using this

/-- The lead's MSI-X table after an update of it. -/
theorem State.mx_updMx (s : State) (f : Msix → Msix) : (s.updMx s.lead.tile f).mx = if s.lead.tile < 2 then f s.mx else s.mx := by
  refine (vget_vset s.qen.msix s.lead.tile s.lead.tile _ Msix.reset).trans ?_
  simp only [true_and]
  rfl

theorem State.pbaRelease_mx (s : State) : s.pbaRelease.mx =
    if s.lead.tile < 2 then { s.mx with pba := s.mx.pba.filter (fun v => !(s.mx.pba.filter s.vecOpen).contains v) } else s.mx :=
  s.mx_updMx fun m => { m with pba := m.pba.filter (fun v => !(s.mx.pba.filter s.vecOpen).contains v) }

theorem State.pbaRelease_beside (s : State) : s.pbaRelease.beside = s.beside := rfl

theorem State.pbaRelease_open (s : State) (v : Nat) : s.pbaRelease.vecOpen v = s.vecOpen v := by
  have unmasked : s.pbaRelease.mx.unmasked = s.mx.unmasked := by
    rw [State.pbaRelease_mx]
    split <;> rfl
  simp only [State.vecOpen, unmasked]
  rfl

/-- The vectors that fall due as the PBA is released are open. -/
theorem State.released_open {w : Nat} (h : w ∈ s.pbaRelease.qen.due.filter (fun v => !s.qen.due.contains v)) : s.pbaRelease.vecOpen w = true := by
  obtain ⟨due, fresh⟩ := List.mem_filter.mp h
  have released : w ∈ s.qen.due ∨ w ∈ s.mx.pba.filter s.vecOpen := mem_foldl_addNew_self.mp due
  have new : w ∉ s.qen.due := by simpa using fresh
  rw [State.pbaRelease_open]
  exact (List.mem_filter.mp (released.resolve_left new)).2

/-- The vectors that a release of the PBA makes due are sent. -/
def State.releaseSent (s : State) : State :=
  (s.pbaRelease.qen.due.filter (fun v => !s.qen.due.contains v)).foldl (fun s v => s.sendVec v) s.pbaRelease

theorem State.releaseSent_sent (s : State) : Sent s.pbaRelease s.releaseSent := State.foldSend_sent fun _ => State.released_open

/-- A vector that waited in the PBA and is not masked has been sent. -/
theorem State.releaseSent_leaves (opened : s.vecOpen v = true) (waits : v ∈ s.mx.pba) (fresh : v ∉ s.qen.due) (ready : s.portReady = true) :
    v ∉ s.releaseSent.qen.due ∧ v ∈ s.releaseSent.qen.sentVec := by
  have released : v ∈ s.pbaRelease.qen.due := mem_foldl_addNew_self.mpr (.inr (List.mem_filter.mpr ⟨waits, opened⟩))
  have listed : v ∈ s.pbaRelease.qen.due.filter (fun v => !s.qen.due.contains v) := List.mem_filter.mpr ⟨released, by simpa using fresh⟩
  obtain ⟨gone, sent⟩ := State.foldSend_leaves (fun _ => State.released_open) (s := s.pbaRelease) ready v listed
  exact ⟨gone, sent released⟩

/-- Unmasking one vector that waits in the PBA sends it. -/
theorem State.maskClear_one (en : s.port.msixEn = true) (unmasked : s.port.funcMask = false) (ready : s.portReady = true) (pba : v ∈ s.mx.pba)
    (fresh : v ∉ s.qen.due) (small : s.lead.tile < 2) :
    let u := s.maskClear (some v)
    v ∈ u.mx.unmasked ∧ v ∉ u.mx.pba ∧ v ∉ u.qen.due ∧ v ∈ u.qen.sentVec ∧ u.beside = s.beside := by
  obtain ⟨s1, hs1⟩ : ∃ s1, s1 = s.updMx s.lead.tile (fun m => { m with unmasked := addNew m.unmasked v }) := ⟨_, rfl⟩
  have mx : s1.mx = { s.mx with unmasked := addNew s.mx.unmasked v } := by rw [hs1]; exact (s.mx_updMx _).trans (if_pos small)
  have listed : v ∈ addNew s.mx.unmasked v := (mem_foldl_addNew_self (l := [v])).mpr (.inr (List.mem_singleton.mpr rfl))
  have port : s1.port = s.port := by rw [hs1]; rfl
  have opened : s1.vecOpen v = true := by
    rw [State.vecOpen, mx, port, en, unmasked]
    simpa [List.contains_eq_mem] using listed
  have waits : v ∈ s1.mx.pba := by rw [mx]; exact pba
  obtain ⟨gone, sent⟩ := State.releaseSent_leaves opened waits (by rw [hs1]; exact fresh) (by rw [hs1]; exact ready)
  have small' : s1.lead.tile < 2 := by rw [hs1]; exact small
  have table := s1.releaseSent_sent.mx.trans (s1.pbaRelease_mx.trans (if_pos small'))
  have beside : s1.releaseSent.beside = s.beside := s1.releaseSent_sent.beside.trans (s1.pbaRelease_beside.trans (by rw [hs1]; rfl))
  have clear : s.maskClear (some v) = s1.releaseSent := by rw [hs1]; rfl
  intro u
  rw [show u = s1.releaseSent from clear]
  refine ⟨?_, ?_, gone, sent, beside⟩
  · rw [table, mx]
    exact listed
  · rw [table]
    simp [waits, opened]

/-- Clearing the function's mask leaves it clear. -/
theorem State.maskClear_all (s : State) : (s.maskClear none).port.funcMask = false ∧ (s.maskClear none).beside = s.beside := by
  obtain ⟨s1, hs1⟩ : ∃ s1, s1 = s.updPort s.lead.tile (fun p => { p with funcMask := false }) := ⟨_, rfl⟩
  have clear : s.maskClear none = s1.releaseSent := by rw [hs1]; rfl
  have mask : s1.port.funcMask = false := by
    rw [hs1, s.port_updPort]
    split
    case isTrue => rfl
    case isFalse absent => simp [State.port, vget, absent, Port.reset]
  rw [clear]
  exact ⟨s1.releaseSent_sent.funcMask.trans mask, s1.releaseSent_sent.beside.trans (s1.pbaRelease_beside.trans (by rw [hs1]; rfl))⟩

end

/-- Settles O26: a completion by the room of its queue, a vector by its mask, a window by its time. -/
theorem completionsAndVectorsReachTheHost : Obligations.CompletionsAndVectorsReachTheHost := by
  unfold Obligations.CompletionsAndVectorsReachTheHost
  refine ⟨fun s q x e hx he ready => ⟨fun room once => ?once, fun room twice more => ?twice, fun full held => ?held, fun full new => ?full⟩,
    fun s v due ready => ⟨fun opened => ?sends, fun masked => ?holds⟩, fun s q w hw => ⟨fun expired => ?expired, fun runs => ?runs⟩,
    fun s v en unmasked ready pba fresh small => ?unmask, fun s => ?unmaskAll⟩
  case once =>
    have posting : s.posting q.val x e = s.writeEntry q.val x e s.lead.epoch := by simp [State.posting, once]
    obtain ⟨host, entry, beside⟩ := s.postOne_posts q.val x e
    rw [posting, State.writeEntry_host] at host
    rw [posting, State.writeEntry_beside] at beside
    exact ⟨_, congrArg Host.Outcome.next (State.post_room hx he ready room), host, entry, beside⟩
  case twice =>
    have posting : s.posting q.val x e = (s.writeEntry q.val x e s.lead.epoch).writeEntry q.val x.posted e s.lead.overlap.2 := by
      simp [State.posting, twice, more]
    obtain ⟨host, entry, -⟩ := s.postOne_posts q.val x e
    rw [posting, State.writeEntry_host] at host
    refine ⟨_, congrArg Host.Outcome.next (State.post_room hx he ready room), host.trans ?_, entry⟩
    simp only [State.hostWrite, State.writeEntry_host]
  case held => exact congrArg Host.Outcome.next ((State.post_full hx he ready full).trans (if_pos held))
  case full => exact congrArg Host.Outcome.next ((State.post_full hx he ready full).trans (if_neg (ne_true_of_eq_false new)))
  case sends =>
    refine ⟨_, congrArg Host.Outcome.next (State.sendVec_open opened due ready), rfl, rfl, rfl, rfl, rfl⟩
  case holds => exact congrArg Host.Outcome.next (State.sendVec_masked masked due ready)
  case expired => exact congrArg Host.Outcome.next (by simp [State.windowExpiry, State.closeExpired, hw, expired])
  case runs => exact congrArg Host.Outcome.next (by simp [State.windowExpiry, State.closeExpired, hw, Nat.not_le.mpr runs])
  case unmask => exact ⟨_, rfl, State.maskClear_one en unmasked ready pba fresh small⟩
  case unmaskAll => exact ⟨_, rfl, s.maskClear_all⟩

end Sys2Proof.Machine
end

section
/-! PROOF of the power states of the host port (12 R419 to R421, R430; 19 R578). -/

namespace Sys2Proof.Machine

section
variable {s t u : State} {q v : Nat}

/-! ## What posting a completion leaves unchanged while the port is in D0 (12 R417, R420) -/

/-- The endpoint that leads, the lead, the job and the stores of job memory. -/
def State.fixed (s : State) : Port × LeadSt × Job × Stores := (s.port, s.lead, s.job, s.stores)

theorem State.fixed_port (h : u.fixed = s.fixed) : u.port = s.port := congrArg Prod.fst h

theorem State.vecDue_fixed (d0 : s.port.dstate = 0) (v : Nat) (o : Option Nat) : (s.vecDue v o).fixed = s.fixed := by
  cases o with
  | none => simp only [State.vecDue, d0]; rfl
  | some k => simp [State.vecDue, d0]; rfl

theorem State.cqDue_fixed (d0 : s.port.dstate = 0) (q : Nat) : (s.cqDue q).fixed = s.fixed :=
  State.vecDue_fixed (s := s.updPair q _) d0 _ _

theorem State.closeExpired_fixed (d0 : s.port.dstate = 0) (q : Nat) : (s.closeExpired q).fixed = s.fixed := by
  unfold State.closeExpired
  split
  · split
    · exact State.cqDue_fixed d0 q
    · rfl
  · rfl

theorem State.countOpen_fixed (d0 : s.port.dstate = 0) (q : Nat) : (s.countOpen q).fixed = s.fixed := by
  have closed := State.closeExpired_fixed d0 q
  simp only [State.countOpen]
  generalize s.closeExpired q = r at closed ⊢
  have d0' : r.port.dstate = 0 := by rw [State.fixed_port closed]; exact d0
  split
  all_goals
    split
    · exact (State.cqDue_fixed (s := r.updPair q _) d0' q).trans closed
    · exact closed

theorem State.countNotify_fixed (d0 : s.port.dstate = 0) (q : Nat) (urgent : Bool) : (s.countNotify q urgent).fixed = s.fixed := by
  have opened := State.countOpen_fixed d0 q
  have d0' : (s.countOpen q).port.dstate = 0 := by rw [State.fixed_port opened]; exact d0
  simp only [State.countNotify]
  split
  · exact (State.cqDue_fixed d0' q).trans opened
  · exact opened

theorem State.complete_fixed (d0 : s.port.dstate = 0) (seq st r0 r1 : Nat) : (s.complete seq st r0 r1).fixed = s.fixed := by
  unfold State.complete
  split
  · rfl
  split
  · rfl
  · simp [d0]
    rfl

theorem State.settle_fixed (d0 : s.port.dstate = 0) (q n : Nat) : (s.settle q n).fixed = s.fixed := by
  have pair : (s.settlePair q).fixed = s.fixed := by
    unfold State.settlePair
    split
    · split
      · rfl
      · exact State.complete_fixed (s := s.setPair q none) d0 _ _ _ _
    · rfl
  have d0' : (s.settlePair q).port.dstate = 0 := by rw [State.fixed_port pair]; exact d0
  refine Eq.trans ?_ pair
  simp only [State.settle]
  generalize s.settlePair q = r at d0' ⊢
  simp only [State.settleSession]
  split
  · split
    · rfl
    · unfold State.changeSession
      split
      all_goals
        refine Eq.trans (State.complete_fixed ?_ _ _ _ _) ?_
        · exact d0'
        · rfl
  · rfl

theorem State.mirrorSend_fixed (s : State) (m : Mirror) : (s.mirrorSend m).fixed = s.fixed := by
  unfold State.mirrorSend
  split
  · rfl
  · rfl

theorem State.writeEntry_fixed (s : State) (q : Nat) (x : QueuePair) (e : StoreEntry) (epoch : Nat) :
    (s.writeEntry q x e epoch).fixed = s.fixed := by
  have set (s : State) (a : Nat) (bs : List Byte) (x : Option QueuePair) : ((s.hostWrite a bs).setPair q x).fixed = s.fixed := rfl
  rw [State.writeEntry, set, State.mirrorSend_fixed]

theorem State.postOne_fixed (d0 : s.port.dstate = 0) (q : Nat) (x : QueuePair) (e : StoreEntry) : (s.postOne q x e).fixed = s.fixed := by
  have posting : (s.posting q x e).fixed = s.fixed := by
    simp only [State.posting]
    split
    · exact (State.writeEntry_fixed ..).trans (State.writeEntry_fixed ..)
    · exact State.writeEntry_fixed ..
  let s3 := (s.posting q x e).setStore ((s.posting q x e).qen.store.filter (fun d => d.p.seq != e.p.seq))
  have d0' : s3.port.dstate = 0 := (congrArg Port.dstate (State.fixed_port posting)).trans d0
  have counted : (if e.p.notify && !e.counted then s3.countNotify q e.p.urgent else s3).fixed = s.fixed := by
    split
    · exact (State.countNotify_fixed d0' _ _).trans posting
    · exact posting
  exact (State.settle_fixed ((congrArg Port.dstate (State.fixed_port counted)).trans d0) _ _).trans counted

theorem State.post_fixed (d0 : s.port.dstate = 0) (q : Nat) : (s.post q).fixed = s.fixed := by
  unfold State.post
  split
  · split
    · rfl
    split
    · exact State.postOne_fixed d0 _ _ _
    split
    · rfl
    · rfl
  · rfl

theorem State.postAll_fixed (d0 : s.port.dstate = 0) (n : Nat) : (s.postAll n).fixed = s.fixed := by
  induction n generalizing s with
  | zero => rfl
  | succ n ih =>
    simp only [State.postAll]
    split
    · rfl
    · have one := State.post_fixed d0 (s := s)
      exact (ih ((congrArg Port.dstate (State.fixed_port (one _))).trans d0)).trans (one _)

/-! ## Every vector due is sent or held (12 R418, R420) -/

/-- Sending vectors, whether they leave or are held: what of the package and of the lead's endpoint stands. -/
structure Handled (s u : State) : Prop where
  beside : u.beside = s.beside
  port : { u.port with link := 0 } = { s.port with link := 0 }
  ready : u.portReady = s.portReady
  due : ∀ v, v ∈ u.qen.due → v ∈ s.qen.due

theorem Handled.refl (s : State) : Handled s s := ⟨rfl, rfl, rfl, fun _ => id⟩
theorem Handled.trans (h : Handled s t) (h' : Handled t u) : Handled s u :=
  ⟨h'.beside.trans h.beside, h'.port.trans h.port, h'.ready.trans h.ready, fun v hv => h.due v (h'.due v hv)⟩

theorem State.sendVec_handled (s : State) (v : Nat) : Handled s (s.sendVec v) ∧ (s.portReady = true → v ∉ (s.sendVec v).qen.due) := by
  by_cases hold : v ∈ s.qen.due ∧ s.portReady = true
  · obtain ⟨due, ready⟩ := hold
    cases opened : s.vecOpen v with
    | true =>
      have sent := State.sendVec_sent opened
      refine ⟨⟨sent.beside, ?_, (sent.ready ready).trans ready.symm, sent.due⟩, fun _ => (State.sendVec_leaves opened ready).1⟩
      rw [State.sendVec_open opened due ready]
      have port : (_ : Port) = _ := s.port_updPort (fun p => { p with link := 0 })
      refine (congrArg (fun p : Port => { p with link := 0 }) port).trans ?_
      split <;> rfl
    | false =>
      rw [State.sendVec_masked opened due ready]
      exact ⟨⟨rfl, rfl, rfl, fun w hw => (List.mem_filter.mp hw).1⟩, fun _ => by simp⟩
  · have stays : s.sendVec v = s := by
      rw [State.sendVec, if_pos]
      simpa [List.contains_eq_mem, Decidable.or_iff_not_imp_left] using hold
    rw [stays]
    exact ⟨.refl s, fun ready due => hold ⟨due, ready⟩⟩

theorem State.foldSend_handled (l : List Nat) (s : State) : Handled s (l.foldl (fun s v => s.sendVec v) s) ∧
    (s.portReady = true → ∀ v ∈ l, v ∉ (l.foldl (fun s v => s.sendVec v) s).qen.due) := by
  induction l generalizing s with
  | nil => exact ⟨.refl s, fun _ _ hv => absurd hv List.not_mem_nil⟩
  | cons a r ih =>
    obtain ⟨one, gone⟩ := s.sendVec_handled a
    obtain ⟨rest, each⟩ := ih (s.sendVec a)
    refine ⟨one.trans rest, fun ready v hv => ?_⟩
    rcases List.mem_cons.mp hv with rfl | later
    · exact fun h => gone ready (rest.due v h)
    · exact each (one.ready.trans ready) v later

theorem State.updPort_port {n : Nat} (lead : n = s.lead.tile) (small : n < 2) (f : Port → Port) : (s.updPort n f).port = f s.port := by
  subst lead
  exact (s.port_updPort f).trans (if_pos small)

/-- The lead's endpoint back in D0: awake, and every vector due handled where it can write. -/
theorem State.d0Return_lead {n : Nat} (lead : n = s.lead.tile) (small : n < 2) :
    (s.d0Return n).port.dstate = 0 ∧ (s.d0Return n).port.busMaster = true ∧ (s.d0Return n).port.msixEn = true ∧
    (s.d0Return n).port.wakeL = false ∧ (s.d0Return n).job = s.job ∧ (s.d0Return n).stores = s.stores ∧
    ((s.d0Return n).portReady = true → (s.d0Return n).qen.due = []) := by
  obtain ⟨s1, hs1⟩ : ∃ s1, s1 = s.updPort n (fun x => { x with dstate := 0, busMaster := true, msixEn := true, wakeL := false }) := ⟨_, rfl⟩
  have awake : s1.port = { s.port with dstate := 0, busMaster := true, msixEn := true, wakeL := false } := by
    rw [hs1]
    exact State.updPort_port lead small _
  have posted : (s1.postAll s1.qen.store.length).fixed = s1.fixed := State.postAll_fixed (by rw [awake]) _
  obtain ⟨s2, hs2⟩ : ∃ s2, s2 = (s1.postAll s1.qen.store.length).pbaRelease := ⟨_, rfl⟩
  have fixed : s2.fixed = s1.fixed := by rw [hs2]; exact posted
  have back : s.d0Return n = s2.qen.due.foldl (fun s v => s.sendVec v) s2 := by
    rw [hs2, hs1]
    simp only [State.d0Return, lead, ne_eq, not_true_eq_false, if_false]
  obtain ⟨handled, gone⟩ := State.foldSend_handled s2.qen.due s2
  rw [back]
  generalize s2.qen.due.foldl (fun s v => s.sendVec v) s2 = u at handled gone ⊢
  have port : { u.port with link := 0 } = { s1.port with link := 0 } := by rw [handled.port, State.fixed_port fixed]
  rw [awake] at port
  have field {α : Type} (g : Port → α) (hg : ∀ x : Port, g { x with link := 0 } = g x) :
      g u.port = g { s.port with dstate := 0, busMaster := true, msixEn := true, wakeL := false } := by
    rw [← hg u.port, port]
    exact hg _
  have job : s2.job = s1.job := congrArg (fun k => k.2.2.1) fixed
  have stores : s2.stores = s1.stores := congrArg (fun k => k.2.2.2) fixed
  have job' : u.beside.job = s2.beside.job := congrArg State.job handled.beside
  have stores' : u.beside.stores = s2.beside.stores := congrArg State.stores handled.beside
  refine ⟨field Port.dstate fun _ => rfl, field Port.busMaster fun _ => rfl, field Port.msixEn fun _ => rfl, field Port.wakeL fun _ => rfl,
    ?_, ?_, fun ready => ?_⟩
  · exact (job'.trans job).trans (by rw [hs1]; rfl)
  · exact (stores'.trans stores).trans (by rw [hs1]; rfl)
  · refine List.eq_nil_iff_forall_not_mem.mpr fun v hv => ?_
    exact gone (handled.ready.symm.trans ready) v (handled.due v hv) hv

/-- D3hot: each queue of the lead's endpoint may send a PME again. -/
theorem State.d3hot_pmes {n : Nat} (lead : n = s.lead.tile) (q : Nat) (x : QueuePair) (hx : (s.d3hot n).pair q = some x) : x.pmeSent = false := by
  simp only [State.d3hot, lead, if_true, State.pair, vget, Vector.getElem?_map] at hx
  cases hq : (s.updPort s.lead.tile (fun x => { x with dstate := 3 })).qen.pairs[q]? with
  | none => simp [hq] at hx
  | some o =>
    cases o with
    | none => simp [hq] at hx
    | some y =>
      simp only [hq, Option.map_some, Option.getD_some, Option.some.injEq] at hx
      rw [← hx]

theorem State.d3hot_rest (s : State) (n : Nat) : (s.d3hot n).qen.ports = (s.updPort n (fun x => { x with dstate := 3 })).qen.ports ∧
    (s.d3hot n).beside = s.beside ∧ (s.d3hot n).qen.store = s.qen.store := by
  simp only [State.d3hot]
  split
  · exact ⟨rfl, rfl, rfl⟩
  · exact ⟨rfl, rfl, rfl⟩

end

/-- Settles O27: the endpoint's fields in each power state, with D0 on the lead by the completions and vectors that it releases. -/
theorem portPowerStatesFollowCommands : Obligations.PortPowerStatesFollowCommands := by
  unfold Obligations.PortPowerStatesFollowCommands
  refine fun s p => ⟨⟨_, rfl, ?d3⟩, rfl, fun other => ?standby, fun lead => ⟨_, rfl, ?d0⟩, rfl, rfl⟩
  case standby => exact congrArg Host.Outcome.next (if_pos other)
  case d0 => exact State.d0Return_lead lead p.isLt
  case d3 =>
    obtain ⟨ports, beside, store⟩ := s.d3hot_rest p.val
    exact ⟨ports, fun lead => State.d3hot_pmes lead, beside, store⟩

end Sys2Proof.Machine
end

section
/-! PROOF of the event router: occurrences, event inputs, delivery by priority, TAKE and DONE (14 R457 to R474). -/

namespace Sys2Proof.Machine

section
variable {s : State} {t : Tile}

/-- A command of a tile that the part has answers the state that its effect gives. -/
theorem onTile_gives {u v : State} (ht : t.val < s.nTiles) (effect : u = v) : onTile t s u = .next v := by rw [onTile_present ht, effect]

theorem whenDue_true {c : Bool} {u : State} (h : c = true) : whenDue c s u = u := if_pos h
theorem whenDue_false {c : Bool} {u : State} (h : c = false) : whenDue c s u = s := if_neg (ne_true_of_eq_false h)

/-! ## Occurrences (14 R460, R461, R470) -/

/-- Occurrences at one tile, one after the other, change that tile's router alone, and of its sources those that occur. -/
structure Occurs (s u : State) (t : Tile) : Prop where
  frame : u = { s with tiles := u.tiles }
  other : ∀ k, k ≠ t → u.tile k = s.tile k
  router : u.tile t = { s.tile t with evr := (u.tile t).evr }

theorem Occurs.refl (s : State) (t : Tile) : Occurs s s t := ⟨rfl, fun _ _ => rfl, rfl⟩
theorem Occurs.trans {u v : State} (h : Occurs s u t) (h' : Occurs u v t) : Occurs s v t where
  frame := by rw [h'.frame, h.frame]
  other := fun k hk => (h'.other k hk).trans (h.other k hk)
  router := by rw [h'.router, h.router]

theorem Occurs.on {u : State} (h : Occurs s u t) : (u.tile t).on 1 = (s.tile t).on 1 := by rw [h.router]; rfl

theorem State.raise_occurs (on : (s.tile t).on 1 = true) (src : Nat) (data : List Nat) : Occurs s (s.raise t src data) t where
  frame := rfl
  other := fun k hk => State.tile_updTile_ne _ _ _ _ hk
  router := by simp [State.raise, State.raiseAt, TileState.occur, on]

/-- Distinct sources that occur in turn each occur once, and no other source does. -/
theorem State.foldRaise_occurs (l : List Nat) (s : State) (on : (s.tile t).on 1 = true) (distinct : l.Nodup) (small : ∀ k ∈ l, k < 188) :
    let u := l.foldl (fun s i => s.raise t (4 + i) []) s
    Occurs s u t ∧ (∀ k ∈ l, u.src t.val (4 + k) = (s.src t.val (4 + k)).occur) ∧
      (∀ k, (∀ j ∈ l, k ≠ 4 + j) → u.src t.val k = s.src t.val k) := by
  induction l generalizing s with
  | nil => exact ⟨.refl s t, fun _ hk => absurd hk List.not_mem_nil, fun _ _ => rfl⟩
  | cons a r ih =>
    obtain ⟨fresh, rest⟩ := List.nodup_cons.mp distinct
    have one := State.raise_occurs (s := s) on (4 + a) []
    obtain ⟨all, each, others⟩ := ih (s.raise t (4 + a) []) (one.on.trans on) rest fun k hk => small k (List.mem_cons_of_mem a hk)
    refine ⟨one.trans all, fun k hk => ?_, fun k hk => ?_⟩
    · rcases List.mem_cons.mp hk with rfl | later
      · have := small k (List.mem_cons_self ..)
        rw [List.foldl_cons, others (4 + k) fun j hj => by intro h; exact fresh (by rwa [show k = j by omega])]
        exact s.src_raise t _ [] (by omega) on
      · rw [List.foldl_cons, each k later]
        exact congrArg EvrSrc.occur (s.src_raise_ne t _ _ [] fun h => fresh (by rwa [show a = k by omega]))
    · rw [List.foldl_cons, others k fun j hj => hk j (List.mem_cons_of_mem a hj)]
      exact s.src_raise_ne t _ _ [] (hk a (List.mem_cons_self ..))

theorem State.raise_log (on : (s.tile t).on 1 = true) (src : Nat) (data : List Nat) : ((s.raise t src data).tile t).evr.log =
    ((s.tile t).evr.log ++ [({ time := s.tileNow t, line := s.motion.lastLine, src := src, tile := t.val, data := data } : LogRec)]).drop
      ((s.tile t).evr.log.length + 1 - 1024) := by
  simp [State.raise, State.raiseAt, TileState.occur, on, Evr.occur, Evr.addLog]

end

/-- Settles O28: occurrences at one tile with their source and log, and the filtered edge of an event input by its mode. -/
theorem occurrencesSetPendAndCount : Obligations.OccurrencesSetPendAndCount := by
  unfold Obligations.OccurrencesSetPendAndCount
  refine ⟨fun s t ht on => ⟨fun src data used => ?used, fun src data unused => ?unused, fun v => ?swset⟩, fun s t i ht due => ?input⟩
  case used =>
    refine ⟨s.raise t src.val data, onTile_gives ht (whenDue_true used), ?_⟩
    have one := State.raise_occurs (s := s) on src.val data
    exact ⟨one.frame, one.other, one.router, s.src_raise t _ data src.isLt on, fun k hk => s.src_raise_ne t _ k data hk, State.raise_log on _ _⟩
  case unused => exact onTile_gives ht (whenDue_false unused)
  case swset =>
    obtain ⟨all, each, others⟩ := State.foldRaise_occurs (t := t) (bitsOf 4 v.toNat) s on (nodup_bitsOf ..) fun k hk => by
      have := (mem_bitsOf.mp hk).1
      omega
    refine ⟨_, onTile_gives ht (by simp [State.swset, on]), all.frame, all.other, ?_, ?_⟩
    · exact fun k small set => each k (mem_bitsOf.mpr ⟨small, set⟩)
    · refine fun k hk => others k fun j hj => ?_
      obtain ⟨small, set⟩ := mem_bitsOf.mp hj
      rintro rfl
      rcases hk with low | high | clear
      · omega
      · omega
      · rw [Nat.add_sub_cancel_left, set] at clear
        exact Bool.noConfusion clear
  case input =>
    intro u
    refine ⟨fun raises => ?_, fun quiet => ?_, fun level high idle rest => ?_⟩
    all_goals refine onTile_gives ht ?_
    all_goals simp only [State.eviEdge, due, if_true, Bool.true_and]
    · rcases raises with both | ⟨up, high⟩ | ⟨down, low⟩
      · simp [both]; rfl
      · simp [up, high]; rfl
      · simp [down, low]; rfl
    · rcases quiet with ⟨up, low⟩ | ⟨down, high⟩
      · simp [up, low]; rfl
      · simp [down, high]; rfl
    · simp [level, high, idle, rest]; rfl

section
variable {s : State} {t : Tile} {map : Vector Nat 8} {last n : Nat} {o : Offer}

/-! ## Which target is chosen (14 R463 to R466, R469) -/

theorem foldl_min_le (l : List Nat) (d : Nat) : l.foldl min d ≤ d ∧ ∀ x ∈ l, l.foldl min d ≤ x := by
  induction l generalizing d with
  | nil => exact ⟨Nat.le_refl d, fun _ hx => absurd hx List.not_mem_nil⟩
  | cons a r ih =>
    obtain ⟨low, each⟩ := ih (min d a)
    refine ⟨Nat.le_trans low (Nat.min_le_left d a), fun x hx => ?_⟩
    rcases List.mem_cons.mp hx with rfl | later
    · exact Nat.le_trans low (Nat.min_le_right d x)
    · exact each x later

theorem afterLast_mem {m : Nat} {l : List Nat} (h : afterLast last m l = some n) : n ∈ l := by
  unfold afterLast at h
  split at h
  case h_1 x found => exact Option.some.inj h ▸ List.mem_of_find?_eq_some found
  case h_2 =>
    split at h
    · exact nomatch h
    · exact List.mem_of_head? h

/-- The chosen target: of those awake one of the lowest CPRI, else the wake target of the source. -/
theorem State.chooseTarget_some (h : s.chooseTarget map last o = some n) :
    (∃ x ∈ s.targetSet o, x.num = n ∧ x.eligible map o.pri = true ∧ x.sleep = false ∧
      ∀ y ∈ s.targetSet o, y.eligible map o.pri = true → y.sleep = false → x.cpri ≤ y.cpri) ∨
    ((∀ y ∈ s.targetSet o, y.eligible map o.pri = true → y.sleep = true) ∧ (∃ y ∈ s.targetSet o, y.eligible map o.pri = true) ∧
      n = (s.src o.tile o.src).wake ∧ (s.target o.tile n).en = true ∧ (s.target o.tile n).room = true) := by
  unfold State.chooseTarget at h
  obtain ⟨el, hel⟩ : ∃ el, el = (s.targetSet o).filter (fun x => x.eligible map o.pri) := ⟨_, rfl⟩
  have mem {y : Target} : y ∈ el ↔ y ∈ s.targetSet o ∧ y.eligible map o.pri = true := by rw [hel, List.mem_filter]
  simp only [← hel] at h
  by_cases awake : el.filter (fun x => !x.sleep) = []
  · have asleep (y : Target) (hy : y ∈ el) : y.sleep = true := by simpa using List.filter_eq_nil_iff.mp awake y hy
    simp only [awake, List.isEmpty_nil, Bool.not_true, Bool.false_eq_true, if_false] at h
    split at h
    · exact nomatch h
    case isFalse some =>
      obtain ⟨y, hy⟩ := List.exists_mem_of_ne_nil el (by simpa using some)
      split at h
      · exact nomatch h
      split at h
      case isTrue open_ =>
        obtain rfl := Option.some.inj h
        exact .inr ⟨fun y hy el => asleep y (mem.mpr ⟨hy, el⟩), ⟨y, mem.mp hy⟩, rfl, Bool.and_eq_true _ _ ▸ open_⟩
      · exact nomatch h
  · rw [if_pos (by simpa using awake)] at h
    obtain ⟨x, hx, rfl⟩ := List.mem_map.mp (afterLast_mem h)
    obtain ⟨hx, low⟩ := List.mem_filter.mp hx
    obtain ⟨hx, wakes⟩ := List.mem_filter.mp hx
    refine .inl ⟨x, (mem.mp hx).1, rfl, (mem.mp hx).2, by simpa using wakes, fun y hy el wake => ?_⟩
    rw [eq_of_beq low]
    refine (foldl_min_le _ 256).2 _ (List.mem_map_of_mem (f := Target.cpri) ?_)
    exact List.mem_filter.mpr ⟨mem.mpr ⟨hy, el⟩, by simpa using wake⟩

/-! ## A commit takes an offer of its list (14 R463) -/

theorem Offer.mem_insert {x y : Offer} {l : List Offer} (h : y ∈ Offer.insert map x l) : y = x ∨ y ∈ l := by
  induction l with
  | nil => exact .inl (List.mem_singleton.mp h)
  | cons z r ih =>
    unfold Offer.insert at h
    split at h
    · exact List.mem_cons.mp h
    · rcases List.mem_cons.mp h with rfl | later
      · exact .inr (List.mem_cons_self ..)
      · exact (ih later).imp_right (List.mem_cons_of_mem z)

theorem mem_offerOrder {y : Offer} {l : List Offer} (h : y ∈ offerOrder map l) : y ∈ l := by
  have fold (l acc : List Offer) (h : y ∈ l.foldl (fun acc x => Offer.insert map x acc) acc) : y ∈ l ∨ y ∈ acc := by
    induction l generalizing acc with
    | nil => exact .inr h
    | cons a r ih =>
      rcases ih _ h with later | here
      · exact .inl (List.mem_cons_of_mem a later)
      · rcases Offer.mem_insert here with rfl | before
        · exact .inl (List.mem_cons_self ..)
        · exact .inr before
  exact (fold l [] h).resolve_right List.not_mem_nil

theorem State.firstDeliverable_mem {l : List Offer} (h : (s.firstDeliverable map last l).2 = some (o, n)) : o ∈ l := by
  induction l with
  | nil => exact nomatch h
  | cons a r ih =>
    unfold State.firstDeliverable at h
    split at h
    · obtain ⟨rfl, -⟩ := Prod.mk.inj (Option.some.inj h)
      exact List.mem_cons_self ..
    · exact List.mem_cons_of_mem a (ih h)

theorem State.mem_candidates {b : Bool} (h : o ∈ s.candidates t.val b) : o.tile = t.val ∧ o.src < 192 := by
  obtain ⟨k, hk, rfl⟩ := List.mem_map.mp h
  exact ⟨rfl, List.mem_range.mp (List.mem_filter.mp hk).1⟩

/-! ## Delivery (14 R465) -/

theorem State.src_updEvr {f : Evr → Evr} (hf : ∀ e, (f e).srcs = e.srcs) (k : Nat) : (s.updEvr t.val f).src t.val k = s.src t.val k := by
  simp [State.updEvr, State.src_val, hf]

theorem State.evr_updEvr (f : Evr → Evr) : ((s.updEvr t.val f).tile t).evr = f (s.tile t).evr := by simp [State.updEvr]

theorem State.vecDue_host (s : State) (v : Nat) : (s.vecDue v none).tiles = s.tiles ∧ (s.vecDue v none).evh = s.evh := by
  simp only [State.vecDue]
  split
  · exact ⟨rfl, rfl⟩
  · exact ⟨rfl, rfl⟩

/-- A delivery to a control core: the source turns active, and the core takes the entry and its priority. -/
theorem State.deliver_core (high : 32 ≤ n) : s.deliver map o n = (s.updSrc o.tile o.src (fun x => { x with pend := false, active := true })).updCore
    o.tile (n - 32) (fun c => { c with queue := c.queue ++ [{ tile := o.tile, pri := o.pri, src := o.src }], cpri := max c.cpri o.pri }) := by
  rw [State.deliver, if_neg (Nat.not_lt.mpr high)]
  rfl

/-- A delivery to a host target: the source turns active, the target takes the entry and its priority, and its vector falls due. -/
theorem State.deliver_host (low : n < 32) : (s.deliver map o n).tiles = (s.updSrc o.tile o.src (fun x => { x with pend := false, active := true })).tiles ∧
    (s.deliver map o n).evh = (s.updHost n (fun x => { x with
      queue := x.queue ++ [{ tile := o.tile, pri := o.pri, src := o.src }], cpri := max x.cpri o.pri })).evh := by
  simp only [State.deliver, if_pos low]
  exact (State.vecDue_host _ _).imp (Eq.trans · rfl) (Eq.trans · rfl)

/-- Of the router at which the source is, a delivery changes the source and a core. -/
theorem State.deliver_router (here : o.tile = t.val) : (∀ k, (s.deliver map o n).src t.val k =
      (s.updSrc t.val o.src (fun x => { x with pend := false, active := true })).src t.val k) ∧
    ((s.deliver map o n).tile t).evr.passed = (s.tile t).evr.passed := by
  obtain ⟨s1, hs1⟩ : ∃ s1, s1 = s.updSrc t.val o.src (fun x => { x with pend := false, active := true }) := ⟨_, rfl⟩
  have passed : (s1.tile t).evr.passed = (s.tile t).evr.passed := by rw [hs1, State.updSrc, State.evr_updEvr]
  by_cases low : n < 32
  · obtain ⟨tiles, -⟩ := s.deliver_host (map := map) (o := o) low
    rw [here, ← hs1] at tiles
    rw [← hs1]
    exact ⟨fun k => by rw [State.src, State.tileN, State.tile, tiles]; rfl, by rw [State.tile, tiles]; exact passed⟩
  · rw [State.deliver_core (Nat.not_lt.mp low), here, ← hs1]
    refine ⟨State.src_updEvr fun _ => rfl, ?_⟩
    rw [State.updCore, State.evr_updEvr]
    exact passed

/-! ## The two stages of a commit -/

/-- The round robin of the cores goes on to the core that took an event. -/
def Evr.turn (n : Nat) (e : Evr) : Evr := if 32 ≤ n then { e with rr := n - 32 } else e

theorem Evr.turn_srcs (n : Nat) (e : Evr) : (e.turn n).srcs = e.srcs := by unfold Evr.turn; split <;> rfl
theorem Evr.turn_passed (n : Nat) (e : Evr) : (e.turn n).passed = e.passed := by unfold Evr.turn; split <;> rfl
theorem Evr.turn_core (n : Nat) (e : Evr) (c : Nat) : (e.turn n).core c = e.core c := by unfold Evr.turn; split <;> rfl

/-- Offers that were passed over are noted. -/
def Evr.passOver (l : List Nat) (e : Evr) : Evr := { e with passed := e.passed ++ l }

theorem Evr.passOver_srcs (l : List Nat) (e : Evr) : (e.passOver l).srcs = e.srcs := rfl
theorem Evr.passOver_passed (l : List Nat) (e : Evr) : (e.passOver l).passed = e.passed ++ l := rfl
theorem Evr.passOver_core (l : List Nat) (e : Evr) (c : Nat) : (e.passOver l).core c = e.core c := rfl

theorem State.commitCore_delivers {overs : List Offer} (on : (s.tile t).on 1 = true) (en : (s.tile t).evr.en = true)
    (first : s.firstDeliverable (s.tile t).evr.prigroup (32 + (s.tile t).evr.rr)
      (offerOrder (s.tile t).evr.prigroup ((s.candidates t.val true).filter (fun o => !((s.tile t).evr.passed.contains o.src)))) = (overs, some (o, n))) :
    s.commitCore t.val =
      ((s.updEvr t.val (Evr.passOver (overs.map (·.src)))).deliver (s.tile t).evr.prigroup o n).updEvr t.val (Evr.turn n) := by
  simp only [State.commitCore, State.tileN_val, on, en, first, Bool.not_true, Bool.or_self, Bool.false_eq_true, if_false]
  rfl

theorem State.commitCore_none {overs : List Offer} (on : (s.tile t).on 1 = true) (en : (s.tile t).evr.en = true)
    (first : s.firstDeliverable (s.tile t).evr.prigroup (32 + (s.tile t).evr.rr)
      (offerOrder (s.tile t).evr.prigroup ((s.candidates t.val true).filter (fun o => !((s.tile t).evr.passed.contains o.src)))) = (overs, none)) :
    s.commitCore t.val = s.updEvr t.val (Evr.passOver (overs.map (·.src))) := by
  simp only [State.commitCore, State.tileN_val, on, en, first, Bool.not_true, Bool.or_self, Bool.false_eq_true, if_false]
  rfl

/-- What a core's commit leaves at its tile's router. -/
theorem State.delivered_core {overs : List Nat} (here : o.tile = t.val) (small : o.src < 192) :
    let u := ((s.updEvr t.val (Evr.passOver overs)).deliver map o n).updEvr t.val (Evr.turn n)
    (u.tile t).evr.passed = (s.tile t).evr.passed ++ overs ∧
    u.src t.val o.src = { s.src t.val o.src with pend := false, active := true } ∧
    (∀ k, k ≠ o.src → u.src t.val k = s.src t.val k) := by
  obtain ⟨s1, hs1⟩ : ∃ s1, s1 = s.updEvr t.val (Evr.passOver overs) := ⟨_, rfl⟩
  have kept (k : Nat) : s1.src t.val k = s.src t.val k := by
    rw [hs1, State.src_updEvr (Evr.passOver_srcs overs)]
  have listed : (s1.tile t).evr.passed = (s.tile t).evr.passed ++ overs := by
    rw [hs1, State.evr_updEvr, Evr.passOver_passed]
  obtain ⟨src, passed⟩ := State.deliver_router (s := s1) (map := map) (n := n) here
  rw [← hs1]
  refine ⟨?_, ?_, fun k other => ?_⟩
  · rw [State.evr_updEvr, Evr.turn_passed, passed, listed]
  · rw [State.src_updEvr (Evr.turn_srcs n), src, State.src_updSrc _ _ _ _ small, kept]
  · rw [State.src_updEvr (Evr.turn_srcs n), src, State.src_updSrc_ne _ _ _ _ _ other, kept]

theorem State.updCore_core {c : Nat} (small : c < 4) (f : CoreTgt → CoreTgt) :
    ((s.updCore t.val c f).tile t).evr.core c = f ((s.tile t).evr.core c) := by
  rw [State.updCore, State.evr_updEvr]
  exact vget_vupd_eq _ _ _ _ small

/-- The core to which a source was delivered takes its entry and its priority. -/
theorem State.delivered_entry {overs : List Nat} (here : o.tile = t.val) (high : 32 ≤ n) (core : n < 36) :
    let u := ((s.updEvr t.val (Evr.passOver overs)).deliver map o n).updEvr t.val (Evr.turn n)
    u.evh = s.evh ∧ u.qen = s.qen ∧ (u.tile t).evr.core (n - 32) = { (s.tile t).evr.core (n - 32) with
      queue := ((s.tile t).evr.core (n - 32)).queue ++ [{ tile := t.val, pri := o.pri, src := o.src }]
      cpri := max ((s.tile t).evr.core (n - 32)).cpri o.pri } := by
  obtain ⟨s1, hs1⟩ : ∃ s1, s1 = s.updEvr t.val (Evr.passOver overs) := ⟨_, rfl⟩
  have kept : (s1.tile t).evr.core (n - 32) = (s.tile t).evr.core (n - 32) := by
    rw [hs1, State.evr_updEvr, Evr.passOver_core]
  obtain ⟨s2, hs2⟩ : ∃ s2, s2 = s1.updSrc o.tile o.src (fun x => { x with pend := false, active := true }) := ⟨_, rfl⟩
  have kept' : (s2.tile t).evr.core (n - 32) = (s1.tile t).evr.core (n - 32) := by
    rw [hs2, here, State.updSrc, State.evr_updEvr]
    rfl
  have frame : s2.evh = s.evh ∧ s2.qen = s.qen := by
    rw [hs2, hs1]
    exact ⟨rfl, rfl⟩
  rw [← hs1, State.deliver_core high, ← hs2, here]
  refine ⟨frame.1, frame.2, ?_⟩
  rw [State.evr_updEvr, Evr.turn_core, State.updCore_core (by omega), kept', kept]

theorem State.commitHost_none {overs : List Offer} {live : List (Nat × Nat)} (on : (s.tile s.leadTile).on 1 = true) (warm : s.lead.cold ≠ 1)
    (hlive : live = s.evh.offers.filter (fun (o : Nat × Nat) => (s.src o.1 o.2).ready && !(s.src o.1 o.2).kind && (s.tileN o.1).evr.en))
    (first : s.firstDeliverable s.leadMap s.evh.rr
      (offerOrder s.leadMap (live.map (fun o => { tile := o.1, src := o.2, pri := (s.src o.1 o.2).pri }))) = (overs, none)) :
    s.commitHost = { s with evh := { s.evh with
      offers := live.filter (fun o => !(overs.map (fun (x : Offer) => (x.tile, x.src))).contains o)
      passed := s.evh.passed ++ overs.map (fun (x : Offer) => (x.tile, x.src)) } } := by
  simp only [State.commitHost, on, decide_eq_false warm, first, ← hlive, Bool.not_true, Bool.or_self, Bool.false_eq_true, if_false]

/-- What the lead's commit leaves of the offers and the host targets. -/
theorem State.commitHost_delivers {overs : List Offer} {live : List (Nat × Nat)} (on : (s.tile s.leadTile).on 1 = true) (warm : s.lead.cold ≠ 1)
    (hlive : live = s.evh.offers.filter (fun (o : Nat × Nat) => (s.src o.1 o.2).ready && !(s.src o.1 o.2).kind && (s.tileN o.1).evr.en))
    (first : s.firstDeliverable s.leadMap s.evh.rr
      (offerOrder s.leadMap (live.map (fun o => { tile := o.1, src := o.2, pri := (s.src o.1 o.2).pri }))) = (overs, some (o, n))) :
    (s.commitHost).evh.passed = s.evh.passed ++ overs.map (fun o => (o.tile, o.src)) ∧ (o.tile, o.src) ∉ s.commitHost.evh.offers ∧
      (n < 32 → s.commitHost.evh.rr = n ∧ s.commitHost.hostTarget n = { s.hostTarget n with
        queue := (s.hostTarget n).queue ++ [{ tile := o.tile, pri := o.pri, src := o.src }]
        cpri := max (s.hostTarget n).cpri o.pri }) := by
  simp only [State.commitHost, on, decide_eq_false warm, first, ← hlive, Bool.not_true, Bool.or_self, Bool.false_eq_true, if_false]
  generalize hs1 : ({ s with evh := { s.evh with
    offers := live.filter (fun o => !(overs.map (fun o => (o.tile, o.src))).contains o)
    passed := s.evh.passed ++ overs.map (fun o => (o.tile, o.src)) } } : State) = s1
  have passed : s1.evh.passed = s.evh.passed ++ overs.map (fun o => (o.tile, o.src)) := by rw [← hs1]
  have targets : s1.evh.targets = s.evh.targets := by rw [← hs1]
  have gone (l : List (Nat × Nat)) : (o.tile, o.src) ∉ l.filter (· != (o.tile, o.src)) := by simp
  by_cases low : n < 32
  · obtain ⟨-, evh⟩ := s1.deliver_host (map := s.leadMap) (o := o) low
    rw [evh]
    refine ⟨passed, gone _, fun _ => ⟨if_pos low, ?_⟩⟩
    rw [State.hostTarget, State.hostTarget, ← targets]
    exact vget_vupd_eq _ _ _ _ low
  · rw [State.deliver_core (Nat.not_lt.mp low)]
    exact ⟨passed, gone _, fun small => absurd small low⟩

/-- A source that was passed over is no longer noted. -/
def Evr.forget (k : Nat) (e : Evr) : Evr := { e with passed := e.passed.filter (· != k) }

theorem Evr.forget_srcs (k : Nat) (e : Evr) : (e.forget k).srcs = e.srcs := rfl
theorem Evr.forget_passed (k : Nat) (e : Evr) : k ∉ (e.forget k).passed := by simp [Evr.forget]

/-- PEND of a source is cleared, and the source is no longer among those passed over. -/
theorem State.pendClear_clears {k : Nat} (on : (s.tile t).on 1 = true) (small : k < 192) :
    (s.pendClear t.val k).src t.val k = { s.src t.val k with pend := false } ∧ (∀ j, j ≠ k → (s.pendClear t.val k).src t.val j = s.src t.val j) ∧
      k ∉ ((s.pendClear t.val k).tile t).evr.passed ∧ (t.val, k) ∉ (s.pendClear t.val k).evh.passed := by
  obtain ⟨s1, hs1⟩ : ∃ s1, s1 = s.updSrc t.val k (fun x => { x with pend := false }) := ⟨_, rfl⟩
  obtain ⟨s2, hs2⟩ : ∃ s2, s2 = s1.updEvr t.val (Evr.forget k) := ⟨_, rfl⟩
  have clears : s.pendClear t.val k = { s2 with evh := { s2.evh with passed := s2.evh.passed.filter (· != (t.val, k)) } } := by
    rw [hs2, hs1]
    exact whenDue_true (by rwa [State.tileN_val])
  have src (j : Nat) : s2.src t.val j = s1.src t.val j := by rw [hs2, State.src_updEvr (Evr.forget_srcs k)]
  have forgot : k ∉ (s2.tile t).evr.passed := by
    rw [hs2, State.evr_updEvr]
    exact Evr.forget_passed k _
  rw [clears]
  refine ⟨(src k).trans ?_, fun j other => (src j).trans ?_, forgot, by simp⟩
  · rw [hs1, State.src_updSrc _ _ _ _ small]
  · rw [hs1, State.src_updSrc_ne _ _ _ _ _ other]

theorem State.zero_lt_nTiles (s : State) : 0 < s.nTiles := by
  unfold State.nTiles
  cases s.part <;> decide

end

/-- Settles O29: the chosen target, the two stages of a commit by their first deliverable offer, an offer taken, and a new look at those passed over. -/
theorem commitsDeliverByPriority : Obligations.CommitsDeliverByPriority := by
  unfold Obligations.CommitsDeliverByPriority
  refine ⟨fun s map last o n => State.chooseTarget_some, fun s t ht on en => ?core, fun s on warm => ?host, fun s t o ht on en first => ?offer,
    fun s t ht => onTile_gives ht rfl, fun s => onTile_gives s.zero_lt_nTiles rfl⟩
  case core =>
    refine ⟨_, onTile_gives ht rfl, ?_⟩
    cases first : s.firstDeliverable (s.tile t).evr.prigroup (32 + (s.tile t).evr.rr)
      (offerOrder (s.tile t).evr.prigroup ((s.candidates t.val true).filter (fun o => !((s.tile t).evr.passed.contains o.src)))) with
    | mk overs found =>
      cases found with
      | none => exact State.commitCore_none on en first
      | some x =>
        obtain ⟨o, n⟩ := x
        have mem := State.firstDeliverable_mem (congrArg Prod.snd first)
        obtain ⟨here, small⟩ := State.mem_candidates (List.mem_filter.mp (mem_offerOrder mem)).1
        have effect : s.evrCommit (some t) = _ := State.commitCore_delivers on en first
        rw [effect]
        obtain ⟨passed, active, others⟩ := s.delivered_core here small
        exact ⟨passed, active, others, s.delivered_entry here⟩
  case host =>
    refine ⟨_, onTile_gives s.zero_lt_nTiles rfl, ?_⟩
    intro live
    cases first : s.firstDeliverable s.leadMap s.evh.rr
      (offerOrder s.leadMap (live.map (fun o => { tile := o.1, src := o.2, pri := (s.src o.1 o.2).pri }))) with
    | mk overs found =>
      cases found with
      | none => exact State.commitHost_none on warm rfl first
      | some x => exact State.commitHost_delivers on warm rfl first
  case offer =>
    refine onTile_gives ht ?_
    simp only [State.offerReceive, State.tileN_val, on, en, first, Bool.not_true, Bool.or_self, Bool.false_eq_true, if_false]

/-- Settles O30: the oldest entry and the end of a source, by the tile's role. -/
theorem takeAndDoneServeSources : Obligations.TakeAndDoneServeSources := by
  unfold Obligations.TakeAndDoneServeSources
  intro s t ht on
  have bad {b src : Nat} (h : s.nTiles ≤ b ∨ 192 ≤ src ∨ (s.src b src).active = false) :
      (b < s.nTiles && decide (src < 192) && (s.src b src).active) = false := by
    rcases h with absent | past | idle
    · simp [Nat.not_lt.mpr absent]
    · simp [Nat.not_lt.mpr past]
    · simp [idle]
  refine ⟨fun h lead => ?take, fun h other standby => ?standby, fun h other off => ?neither, fun c => ?coreTake, fun h v lead present small active => ?done,
    fun h v lead not => ?bad, fun h v other => ?ignored, fun c v small active => ?coreDone, fun c v not => ?coreBad, fun src => ?clear, fun src => ?count⟩
  case take => exact onTile_gives ht (by simp [State.htTake, on, ← lead])
  case standby => exact onTile_gives ht (by simp [State.htTake, on, other, ← standby])
  case neither => exact onTile_gives ht (by simp [State.htTake, on, other, off])
  case coreTake => exact onTile_gives ht (by simp [State.coreTake, on, Evr.core])
  case done => exact onTile_gives ht (by simp [State.htDone, State.doneSrc, on, ← lead, present, small, active])
  case bad => exact onTile_gives ht (by simp [State.htDone, State.doneSrc, on, ← lead, bad not, satInc])
  case ignored => exact onTile_gives ht (by simp [State.htDone, other])
  case coreDone => exact onTile_gives ht (by simp [State.coreDone, State.doneSrc, on, ht, small, active])
  case coreBad => exact onTile_gives ht (by simp [State.coreDone, State.doneSrc, on, bad (.inr not), satInc])
  case clear => exact ⟨_, onTile_gives ht rfl, State.pendClear_clears on src.isLt⟩
  case count => exact onTile_gives ht (whenDue_true (by simpa using on))

end Sys2Proof.Machine
end

section
/-! PROOF of the register window: writes by access code, reads with their latches, and the clear commands (00 R11; 01 R51; 02 R99; 12 R393). -/

namespace Sys2Proof.Machine

section
variable {s : State} {t b o : Nat}

/-! ## Values and latches -/

/-- A map without order among its keys still reads back a value that was put under a key, other than the default. -/
theorem NMap.get_set_self {α : Type} [DecidableEq α] {d v : α} (hv : v ≠ d) (m : NMap α) (k : Nat) : NMap.get d (NMap.set d m k v) k = v := by
  induction m with
  | nil => rw [NMap.set, if_neg hv, NMap.get, if_pos rfl]
  | cons e r ih =>
    obtain ⟨a, x⟩ := e
    simp only [NMap.set]
    split
    case isTrue => rw [NMap.get, if_pos rfl]
    case isFalse after =>
      split
      case isTrue => rw [NMap.get, if_pos rfl]
      case isFalse other => simp [NMap.get, after, other, ih]

theorem and_dword {v : Nat} (hv : v < 2 ^ 32) : v &&& 0xFFFF_FFFF = v := by
  rw [show (0xFFFF_FFFF : Nat) = 2 ^ 32 - 1 from rfl, Nat.and_two_pow_sub_one_eq_mod, Nat.mod_eq_of_lt hv]

/-- A write of every bit takes the value. -/
theorem merge_all {v : Nat} (hv : v < 2 ^ 32) (old : Nat) : merge old v 0xFFFF_FFFF = v := by simp [merge, and_dword hv]

/-! ## Where an address leads (01 R51) -/

/-- The address of a register of a block of a tile. -/
def barAt (t b o : Nat) : Nat := 0x400000 * t + 0x40000 * b + o

/-- The address leads to the block, which answers when it is on. -/
theorem State.reached (ht : t < s.nTiles) (hb : b < 16) (ho : o < 0x40000) (dword : o % 4 = 0) (on : s.blockOn t b o = true) :
    barAt t b o / 4 * 4 % 0x4000000 = barAt t b o ∧ barAt t b o / 0x400000 = t ∧ barAt t b o % 0x400000 / 0x40000 = b ∧
    barAt t b o % 0x40000 = o ∧ ¬ 0x2000000 ≤ barAt t b o ∧ (decide (s.nTiles ≤ t) || !s.blockOn t b o) = false := by
  have := s.nTiles_le
  refine ⟨?_, ?_, ?_, ?_, ?_, by simp [on, ht]⟩
  all_goals unfold barAt; omega

section
variable (ht : t < s.nTiles) (ho : o < 0x40000) (dword : o % 4 = 0) (v : Nat)
include ht ho dword

theorem State.barWrite_qen (on : s.blockOn t 1 o = true) : s.barWrite (barAt t 1 o) v = s.writeQen t o v 0xFFFF_FFFF s.rwlOpen := by
  obtain ⟨whole, tile, block, offset, low, answers⟩ := State.reached ht (by decide) ho dword on
  simp only [State.barWrite, whole, State.writeBar, tile, block, offset, decide_eq_false low, Bool.false_or, answers]
  rfl

theorem State.barWrite_evr (on : s.blockOn t 2 o = true) : s.barWrite (barAt t 2 o) v = s.writeEvr t o v 0xFFFF_FFFF s.rwlOpen := by
  obtain ⟨whole, tile, block, offset, low, answers⟩ := State.reached ht (by decide) ho dword on
  simp only [State.barWrite, whole, State.writeBar, tile, block, offset, decide_eq_false low, Bool.false_or, answers]
  rfl

theorem State.barWrite_memc (on : s.blockOn t 4 o = true) : s.barWrite (barAt t 4 o) v = s.writeMemc t o (v &&& 0xFFFF_FFFF) := by
  obtain ⟨whole, tile, block, offset, low, answers⟩ := State.reached ht (by decide) ho dword on
  simp only [State.barWrite, whole, State.writeBar, tile, block, offset, decide_eq_false low, Bool.false_or, answers]
  rfl

end

theorem State.barWrite_motFault (ht : t < s.nTiles) (on : s.blockOn t 3 4 = true) (v : Nat) :
    s.barWrite (barAt t 3 4) v = s.updTileN t (fun x => { x with motFault := w1c x.motFault (v &&& 0xFFFF_FFFF) }) := by
  obtain ⟨whole, tile, block, offset, low, answers⟩ := State.reached ht (by decide) (by decide) (by decide) on
  simp only [State.barWrite, whole, State.writeBar, tile, block, offset, decide_eq_false low, Bool.false_or, answers]
  rfl

/-- Nothing answers a write past the tiles, to an absent tile or to a block that is off. -/
theorem State.barWrite_unanswered {off : Nat} (small : off < 0x4000000) (dword : off % 4 = 0) (v : Nat)
    (h : 0x2000000 ≤ off ∨ s.nTiles ≤ off / 0x400000 ∨ s.blockOn (off / 0x400000) (off % 0x400000 / 0x40000) (off % 0x40000) = false) :
    s.barWrite off v = s := by
  have whole : off / 4 * 4 % 0x4000000 = off := by omega
  rw [State.barWrite, whole, State.writeBar, if_pos]
  rcases h with past | absent | off
  · simp [past]
  · simp [absent]
  · simp [off]

/-! ## Writes of QEN and EVR (12 R393, R429; 14 R474) -/

theorem State.writeAdmin_asq {v : Nat} (hv : v < 2 ^ 32) :
    s.writeAdmin 0x10 v 0xFFFF_FFFF = { s with qen := { s.qen with asq := s.qen.asq / 2 ^ 32 * 2 ^ 32 + v / 4096 * 4096 } } := by
  simp [State.writeAdmin, merge_all hv]
theorem State.writeAdmin_acq {v : Nat} (hv : v < 2 ^ 32) :
    s.writeAdmin 0x18 v 0xFFFF_FFFF = { s with qen := { s.qen with acq := s.qen.acq / 2 ^ 32 * 2 ^ 32 + v / 4096 * 4096 } } := by
  simp [State.writeAdmin, merge_all hv]

/-- Below the queues a write to QEN on the lead acts on the admin settings while REGLOCK is 0. -/
theorem State.writeQen_admin (lead : t = s.lead.tile) (ho : o < 0x1000) (v m : Nat) :
    s.writeQen t o v m s.rwlOpen = if s.qen.reglock then s else s.writeAdmin o v m := by
  have out (b n : Nat) (hb : 0x1000 ≤ b) (k : Nat) : regIx o b n k = none := if_neg (by omega)
  simp only [State.writeQen, out _ _ (show 0x1000 ≤ 0x1000 by decide), out _ _ (show 0x1000 ≤ 0x1004 by decide), out _ _ (show 0x1000 ≤ 0x2000 by decide),
    lead, State.rwlOpen]
  rw [if_neg (by omega)]
  by_cases locked : s.qen.reglock = true
  · simp [locked]
  · simp [locked]

/-- CPRI of a host target takes the low byte of a write on the lead. -/
theorem State.writeEvr_cpri {h v : Nat} (lead : t = s.lead.tile) (hv : v < 2 ^ 32) (hh : h < 32) (sup : Bool) :
    s.writeEvr t (0x4004 + 16 * h) v 0xFFFF_FFFF sup = s.updHost h (fun x => { x with cpri := v % 256 }) := by
  have target : (0x4004 + 16 * h - 0x4000) / 16 = h := by omega
  have word : (0x4004 + 16 * h) / 4 % 4 = 1 := by omega
  rw [State.writeEvr, if_pos (by omega), target, word]
  simp [State.writeHost, lead, merge_all hv]

/-- A map of priorities takes the value while REGLOCK is 0. -/
theorem State.writeEvr_prigroup {i v : Nat} (hv : v < 2 ^ 32) (hi : i < 8) : s.writeEvr t (0x80 + 4 * i) v 0xFFFF_FFFF s.rwlOpen =
    if s.qen.reglock then s else s.updEvr t (fun e => { e with prigroup := vset e.prigroup i v }) := by
  have group : (0x80 + 4 * i - 0x80) / 4 = i := by omega
  have map (p : Vector Nat 8) : vupd p i 0 (fun x => merge x v 0xFFFF_FFFF) = vset p i v := by simp only [vupd, merge_all hv]
  rw [State.writeEvr, if_neg (by omega), if_neg (by omega), if_neg (by omega), if_neg (by omega), if_neg (by omega), if_neg (by omega),
    if_neg (by omega), if_neg (by omega), if_pos (by omega), group, State.rwlOpen]
  simp only [map]
  by_cases locked : s.qen.reglock = true
  · simp [locked]
  · simp [locked]

end

/-! ## Reads (01 R51; 02 R99) -/

section
variable {s : State} {t : Tile}

theorem State.barRead_past {off : Nat} (dword : off % 4 = 0) (past : 0x2000000 ≤ off) (small : off < 0x4000000) :
    s.barRead off = { s with busRead := 0 } := by
  have whole : off / 4 * 4 % 0x4000000 = off := by omega
  simp only [State.barRead, whole, State.readBar, if_pos past]
  rfl

theorem State.barRead_unanswered {off : Nat} (dword : off % 4 = 0) (small : off < 0x2000000) (h : s.nTiles ≤ off / 0x400000 ∨
    s.blockOn (off / 0x400000) (off % 0x400000 / 0x40000) (off % 0x40000) = false) : s.barRead off = { s with busRead := 0xFFFF_FFFF } := by
  have whole : off / 4 * 4 % 0x4000000 = off := by omega
  have unanswered : (decide (s.nTiles ≤ off / 0x400000) || !s.blockOn (off / 0x400000) (off % 0x400000 / 0x40000) (off % 0x40000)) = true := by
    rcases h with absent | off
    · simp [absent]
    · simp [off]
  simp only [State.barRead, whole, State.readBar, if_neg (Nat.not_le.mpr small), unanswered, if_true]
  rfl

/-- The low half of LAST_LINE is read, and the high half held for the read that follows. -/
theorem State.barRead_lastLine (ht : t.val < s.nTiles) (on : (s.tile t).on 14 = true) : s.barRead (barAt t.val 3 0x10) =
    (s.updTileN t.val (fun x => { x with latchHi := NMap.set 0 x.latchHi 0xC0014 (s.motion.lastLine / 2 ^ 32 % 2 ^ 16 + 1) })).returns
      (s.motion.lastLine % 2 ^ 32) := by
  have answered : s.blockOn t.val 3 0x10 = true := by simpa [State.blockOn] using on
  obtain ⟨whole, tile, block, offset, low, answers⟩ := State.reached ht (by decide) (by decide) (by decide) answered
  simp only [State.barRead, whole, State.readBar, if_neg low, tile, block, offset, answers]
  rfl

/-- The high half of LAST_LINE is read from the latch. -/
theorem State.barRead_lastLineHi (ht : t.val < s.nTiles) (on : (s.tile t).on 14 = true) {v : Nat}
    (held : NMap.get 0 (s.tile t).latchHi 0xC0014 = v + 1) : s.barRead (barAt t.val 3 0x14) = s.returns v := by
  have answered : s.blockOn t.val 3 0x14 = true := by simpa [State.blockOn] using on
  obtain ⟨whole, tile, block, offset, low, answers⟩ := State.reached ht (by decide) (by decide) (by decide) answered
  have none : latches t.val 3 0x14 = [] := by simp [latches]
  simp [State.barRead, whole, State.readBar, low, tile, block, offset, answers, none, held]

end

/-- Settles O31: each register by the block its address leads to. -/
theorem registersFollowAccessCodes : Obligations.RegistersFollowAccessCodes := by
  unfold Obligations.RegistersFollowAccessCodes
  refine ⟨fun s v => ⟨fun off small dword h => ?unanswered, fun t ht on => ?fault, fun t h ht lead on => ?cpri, fun t ht lead on => ⟨?asq, ?acq⟩,
    fun t i ht on => ?prigroup, fun t ht on => ?readOnly⟩, fun s => ⟨fun off dword past small => ?past, fun off dword small h => ?absent,
    fun t ht on => ?latch⟩⟩
  case unanswered => exact congrArg Host.Outcome.next (State.barWrite_unanswered small dword _ h)
  case fault =>
    refine congrArg Host.Outcome.next ((State.barWrite_motFault ht on v.toNat).trans ?_)
    rw [and_dword v.isLt]
    rfl
  case cpri =>
    have reg : 0x400000 * t.val + 0x84004 + 16 * h.val = barAt t.val 2 (0x4004 + 16 * h.val) := by unfold barAt; omega
    have answered : s.blockOn t.val 2 (0x4004 + 16 * h.val) = true := by simpa [State.blockOn] using on
    rw [reg]
    refine congrArg Host.Outcome.next ((State.barWrite_evr ht (by omega) (by omega) _ answered).trans ?_)
    exact State.writeEvr_cpri lead v.isLt h.isLt _
  case asq =>
    refine congrArg Host.Outcome.next ((State.barWrite_qen (o := 0x10) ht (by decide) (by decide) _ on).trans ?_)
    rw [State.writeQen_admin lead (by decide), State.writeAdmin_asq v.isLt]
  case acq =>
    refine congrArg Host.Outcome.next ((State.barWrite_qen (o := 0x18) ht (by decide) (by decide) _ on).trans ?_)
    rw [State.writeQen_admin lead (by decide), State.writeAdmin_acq v.isLt]
  case prigroup =>
    have reg : 0x400000 * t.val + 0x80080 + 4 * i.val = barAt t.val 2 (0x80 + 4 * i.val) := by unfold barAt; omega
    have answered : s.blockOn t.val 2 (0x80 + 4 * i.val) = true := by simpa [State.blockOn] using on
    rw [reg]
    refine congrArg Host.Outcome.next ((State.barWrite_evr ht (by omega) (by omega) _ answered).trans ?_)
    exact State.writeEvr_prigroup v.isLt i.isLt
  case readOnly =>
    have answered : s.blockOn t.val 4 0x40 = true := by simpa [State.blockOn] using on
    exact congrArg Host.Outcome.next ((State.barWrite_memc ht (by decide) (by decide) _ answered).trans rfl)
  case past => exact congrArg Host.Outcome.next (State.barRead_past dword past small)
  case absent => exact congrArg Host.Outcome.next (State.barRead_unanswered dword small h)
  case latch =>
    obtain ⟨f, hf⟩ : ∃ f : TileState → TileState, f = fun x =>
      { x with latchHi := NMap.set 0 x.latchHi 0xC0014 (s.motion.lastLine / 2 ^ 32 % 2 ^ 16 + 1) } := ⟨_, rfl⟩
    have held : NMap.get 0 ((s.updTile t f).tile t).latchHi 0xC0014 = s.motion.lastLine / 2 ^ 32 % 2 ^ 16 + 1 := by
      rw [State.tile_updTile, hf]
      exact NMap.get_set_self (Nat.succ_ne_zero _) _ _
    have on' : ((s.updTile t f).tile t).on 14 = true := by
      rw [State.tile_updTile, hf]
      exact on
    have low := State.barRead_lastLine ht on
    rw [← hf, State.updTileN_val] at low
    refine ⟨_, congrArg Host.Outcome.next low, ?_, rfl, rfl, fun line => ⟨_, congrArg Host.Outcome.next (State.barRead_lastLineHi
      (s := ((s.updTile t f).returns (s.motion.lastLine % 2 ^ 32)).updMot (fun m => { m with lastLine := line })) ht on' held), rfl⟩⟩
    exact BitVec.eq_of_toNat_eq (by simp [State.returns])

section
variable {s : State} {t : Tile}

/-! ## Clears (15 R498; 16 R516; 17 R539; 18 R565; 11 R389) -/

theorem State.memcClr_on (on : (s.tile t).on 10 = true) (f : Memc → Memc) : s.memcClr t.val f = s.updMemc t.val f := by
  rw [State.memcClr, State.tileN_val, if_pos on]

theorem State.readMemc_panic (n : Nat) {p : Nat} (hp : p < 3) : s.readMemc n (0x30 + 4 * p) = (s.memc n).panicTicks s.now p := by
  have port : (0x30 + 4 * p - 0x30) / 4 = p := by omega
  simp only [State.readMemc]
  rw [if_neg (by omega), if_neg (by omega), if_neg (by omega), if_neg (by omega), if_pos (by omega), port]

theorem Memc.clrPanic_ticks (m : Memc) (now : Nat) {p : Nat} (hp : p < 3) : (m.clrPanic now).panicTicks now p = 0 := by
  have zero : vget (m.clrPanic now).panicT p 0 = 0 := by simp [Memc.clrPanic, vget, hp]
  have from_ : vget (m.clrPanic now).panicFrom p 0 = now := by simp [Memc.clrPanic, vget, hp]
  rw [Memc.panicTicks, zero, from_, Nat.sub_self]
  cases vget (m.clrPanic now).panic p none with
  | none => rfl
  | some x => rfl

end

/-- Settles O32: each clear by the block it acts on. -/
theorem clearsActOnTheirCounters : Obligations.ClearsActOnTheirCounters := by
  unfold Obligations.ClearsActOnTheirCounters
  refine ⟨fun s t ht on => ⟨?ce, ?ue, ?panic, ?pause⟩, fun s t l ht on => ⟨?cnt, ?test⟩, fun s p on => ⟨?trains, ?under⟩, fun s t ht => ⟨?heat, ?max, fun on => ?cause⟩⟩
  case ce => exact onTile_gives ht (State.memcClr_on on _)
  case ue => exact onTile_gives ht (State.memcClr_on on _)
  case pause => exact onTile_gives ht (State.memcClr_on on _)
  case panic =>
    refine ⟨_, onTile_gives ht (State.memcClr_on on _), fun p hp => ?_, ?_⟩
    · have memc : (s.updMemc t.val (Memc.clrPanic s.now)).memc t.val = (s.memc t.val).clrPanic s.now := by
        simp [State.memc, State.updMemc]
      rw [State.readMemc_panic _ hp, memc]
      exact Memc.clrPanic_ticks _ _ hp
    · simp [State.readMemc, State.memc, State.updMemc]
      rfl
  case cnt => exact onTile_gives ht (whenDue_true on)
  case test =>
    refine onTile_gives ht ?_
    rw [State.lnkClrTest, on]
    cases (s.lnk t.val l.val).test with
    | none => rfl
    | some x => rfl
  case trains => exact congrArg Host.Outcome.next (whenDue_true on)
  case under => exact congrArg Host.Outcome.next (whenDue_true on)
  case heat => exact onTile_gives ht rfl
  case max => exact onTile_gives ht rfl
  case cause =>
    refine onTile_gives ht ?_
    rw [State.clrLast, State.tileN_val, on, State.rwlOpen]
    cases s.qen.reglock with
    | true => rfl
    | false => rfl

end Sys2Proof.Machine
end

section
/-! PROOF of the inputs of the motion block: quadrature steps, wire faults, index pulses and the absolute port (02 R67 to R76). -/

namespace Sys2Proof.Machine

section
variable {s u : State} {c : Instr} {f : State → State}

/-! ## Both blocks (02 R85) -/

/-- What both blocks do gives the effects of the active block, whatever the other block holds. -/
theorem State.gives_onBoth (runs : exec c s = .next (s.onBoth f)) (effect : f s = u) : s.Gives c u := by
  cases h : s.motion.other with
  | none =>
    refine ⟨u.motion.other, ?_, fun _ => rfl⟩
    rw [runs, State.onBoth, h]
    exact congrArg Host.Outcome.next effect
  | some b =>
    refine ⟨some (f (s.updMot (fun m => m.load b))).motion.block, ?_, fun none => nomatch h.symm.trans none⟩
    rw [runs, State.onBoth, h]
    exact congrArg (fun v : State => Host.Outcome.next (v.updMot _)) effect

/-- Where the active block has nothing to do, what both do changes the other block alone. -/
theorem State.onBoth_still (still : f s = s) : ∃ o, s.onBoth f = s.updMot (fun m => { m with other := o }) ∧ (s.motion.other = none → o = none) := by
  cases h : s.motion.other with
  | none =>
    refine ⟨none, ?_, fun _ => rfl⟩
    rw [State.onBoth, h]
    refine still.trans ?_
    rw [← h]
    rfl
  | some b =>
    refine ⟨some (f (s.updMot (fun m => m.load b))).motion.block, ?_, fun none => nomatch none⟩
    rw [State.onBoth, h]
    exact congrArg (fun v : State => v.updMot _) still

/-! ## Inputs -/

theorem Quad.num_lt (i : Quad) : i.num < 4 := by cases i <;> decide
theorem Pair.num_lt (j : Pair) : j.num < 3 := by cases j <;> decide
theorem Quad.num_eq_zero {i : Quad} : i.num = 0 ↔ i = .web := by cases i <;> decide
theorem Quad.num_eq_three {i : Quad} : i.num = 3 ↔ i = .lensRow := by cases i <;> decide
theorem Pair.num_lt_two {j : Pair} : j.num < 2 ↔ j ≠ .z := by cases j <;> decide

theorem State.enc_updEnc (i : Quad) (f : Enc → Enc) : (s.updEnc i.num f).enc i.num = f (s.enc i.num) := vget_vupd_eq _ _ _ _ (Quad.num_lt i)

theorem State.updEnc_updEnc (i : Quad) (f g : Enc → Enc) : (s.updEnc i.num f).updEnc i.num g = s.updEnc i.num (fun e => g (f e)) := by
  simp only [State.updEnc, State.updMot, vupd, vget_vset_eq _ _ _ _ (Quad.num_lt i), vset_vset]

/-! ## Quadrature steps (02 R68 to R71) -/

/-- A step of an input, stamped t: its count goes on, and what reads the count sees it. -/
def State.stepEnc (s : State) (i : Nat) (rx : Vector PinSt 3) (up : Bool) (t : Nat) : State :=
  let e := s.enc i
  let c := if up then (e.count + 1) % 2 ^ 48 else (e.count + 2 ^ 48 - 1) % 2 ^ 48
  let s1 := s.updEnc i (fun _ => { e with rx := rx, count := c, rev := !up, edgeAt := t, changeLine := s.motion.lastLine })
  if i = 0 then (if s.absSource then s1 else (s1.sourceStep c t (!up) true).compareAll 1 c)
  else (s1.updMot (fun m => { m with issued := m.issued.map (fun l =>
    if decide (t ≤ l.fire / 256) then { l with counts := l.counts.map (fun cs => cs.set (i - 1) c) } else l) })).compareAll (i + 1) c

/-- The level of a pair that its filter takes next. -/
def State.pairDue (s : State) (i j : Nat) : Bool := (vget (s.enc i).rx j PinSt.reset).due (s.itemN (Pid.encFilt i)) s.now

section
variable {i : Nat} {a b : PinSt}

theorem State.encEdge_idle (hda : s.pairDue i 0 = false) (hdb : s.pairDue i 1 = false) : s.encEdge i = s := by
  simp only [State.pairDue] at hda hdb
  simp [State.encEdge, hda, hdb]

variable (runs : s.motionRuns = true) (ha : vget (s.enc i).rx 0 PinSt.reset = a) (hb : vget (s.enc i).rx 1 PinSt.reset = b)
include runs ha hb

/-- Of two pairs with a due level the one that moved first steps the count, where neither is at fault. -/
theorem State.encEdge_stepA (good : vget (s.enc i).fault 0 false = false ∧ vget (s.enc i).fault 1 false = false) (due : s.pairDue i 0 = true)
    (first : s.pairDue i 1 = false ∨ a.since < b.since) : s.encEdge i =
      s.stepEnc i (vset (vset (s.enc i).rx 0 a.take) 1 b) (stepUp true a.raw b.filt (decide (s.item (Pid.encDir i) = 1))) a.since := by
  have doA : (!s.pairDue i 1 || decide (a.since ≤ b.since)) = true := by
    rcases first with quiet | later
    · simp [quiet]
    · simp [Nat.le_of_lt later]
  have doB : (s.pairDue i 1 && decide (b.since ≤ a.since)) = false := by
    rcases first with quiet | later
    · simp [quiet]
    · simp [later]
  simp only [State.pairDue, ha, hb] at due doA doB
  simp only [State.encEdge, ha, hb, runs, due, doA, doB, good.1, good.2, Bool.not_true, Bool.false_or, Bool.false_and, Bool.true_and, Bool.or_self,
    Bool.and_false, Bool.false_eq_true, if_false, if_true]
  unfold State.stepEnc
  by_cases web : i = 0
  · by_cases abs : s.absSource = true
    · simp only [web, abs, decide_true, Bool.and_self, if_true]
      rfl
    · simp only [web, abs, decide_true, Bool.and_false, if_true, Bool.false_eq_true, if_false]
      rfl
  · simp only [web, decide_false, Bool.false_and, Bool.false_eq_true, if_false]
    rfl

theorem State.encEdge_stepB (good : vget (s.enc i).fault 0 false = false ∧ vget (s.enc i).fault 1 false = false) (due : s.pairDue i 1 = true)
    (first : s.pairDue i 0 = false ∨ b.since < a.since) : s.encEdge i =
      s.stepEnc i (vset (vset (s.enc i).rx 0 a) 1 b.take) (stepUp false a.filt b.raw (decide (s.item (Pid.encDir i) = 1))) b.since := by
  have doA : (s.pairDue i 0 && decide (a.since ≤ b.since)) = false := by
    rcases first with quiet | later
    · simp [quiet]
    · simp [later]
  have doB : (!s.pairDue i 0 || decide (b.since ≤ a.since)) = true := by
    rcases first with quiet | later
    · simp [quiet]
    · simp [Nat.le_of_lt later]
  simp only [State.pairDue, ha, hb] at due doA doB
  simp only [State.encEdge, ha, hb, runs, due, doA, doB, good.1, good.2, Bool.not_true, Bool.false_or, Bool.false_and, Bool.true_and, Bool.or_self,
    Bool.and_false, Bool.false_eq_true, if_false]
  unfold State.stepEnc
  by_cases web : i = 0
  · by_cases abs : s.absSource = true
    · simp only [web, abs, decide_true, Bool.and_self, if_true]
      rfl
    · simp only [web, abs, decide_true, Bool.and_false, if_true, Bool.false_eq_true, if_false]
      rfl
  · simp only [web, decide_false, Bool.false_and, Bool.false_eq_true, if_false]
    rfl

/-- Two pairs at one tick count no step. -/
theorem State.encEdge_both (good : vget (s.enc i).fault 0 false = false ∧ vget (s.enc i).fault 1 false = false) (dueA : s.pairDue i 0 = true)
    (dueB : s.pairDue i 1 = true) (same : a.since = b.since) : s.encEdge i = ((s.updEnc i (fun _ => { s.enc i with
      rx := vset (vset (s.enc i).rx 0 a.take) 1 b.take, stepBad := satInc 16 (s.enc i).stepBad })).motFault 1).raiseBlocks
        Ev.encStepBad [i, (s.enc i).count] := by
  simp only [State.pairDue, ha, hb] at dueA dueB
  simp only [State.encEdge, ha, hb, runs, dueA, dueB, same, good.1, good.2, Nat.le_refl, decide_true, Bool.not_true, Bool.or_true, Bool.and_self,
    Bool.or_self, Bool.false_eq_true, if_false, if_true]

/-- An input at fault takes the level and does not count. -/
theorem State.encEdge_faulty (bad : ¬(vget (s.enc i).fault 0 false = false ∧ vget (s.enc i).fault 1 false = false)) (due : s.pairDue i 0 = true)
    (first : s.pairDue i 1 = false ∨ a.since < b.since) : s.encEdge i = s.updEnc i (fun _ => { s.enc i with
      rx := vset (vset (s.enc i).rx 0 a.take) 1 b }) := by
  have doA : (!s.pairDue i 1 || decide (a.since ≤ b.since)) = true := by
    rcases first with quiet | later
    · simp [quiet]
    · simp [Nat.le_of_lt later]
  have doB : (s.pairDue i 1 && decide (b.since ≤ a.since)) = false := by
    rcases first with quiet | later
    · simp [quiet]
    · simp [later]
  have fault : (vget (s.enc i).fault 0 false || vget (s.enc i).fault 1 false) = true := by
    rw [← Bool.not_eq_false, Bool.or_eq_false_iff]
    exact bad
  simp only [State.pairDue, ha, hb] at due doA doB
  simp only [State.encEdge, ha, hb, runs, due, doA, doB, fault, Bool.not_true, Bool.false_or, Bool.false_and, Bool.true_and,
    Bool.and_false, Bool.false_eq_true, if_false, if_true]

end

/-! ## Wire faults (02 R67, R82) -/

/-- The record of a pair's wires within a tick, without one. -/
def WireSave.clear : WireSave := { tick := none, same := false, since := 0, rx := PinSt.reset }

/-- An input whose pair is declared at fault or good. -/
def Enc.setFault (j : Nat) (b : Bool) (e : Enc) : Enc :=
  { e with fault := vset e.fault j b, wireSave := vupd e.wireSave j WireSave.clear (fun w => { w with tick := none }) }

section
variable {i j : Nat} (runs : s.motionRuns = true) (time : vget (s.enc i).wireSince j 0 + s.itemN (Pid.encWireTime i) ≤ s.now)
include runs time

/-- Equal wires for their time declare the fault. -/
theorem State.wireFault_declares (same : (s.enc i).same j = true) (good : vget (s.enc i).fault j false = false) : s.wireFault i j =
    (let s2 := ((s.updEnc i (Enc.setFault j true)).raiseBlocks Ev.encWireFault [i, j, 1]).motFault (2 ^ (4 + 3 * i + j))
      if i = 0 ∧ j < 2 ∧ (!s.absSource) = true then s2.coast else s2) := by
  simp only [State.wireFault, runs, same, good, decide_eq_false (Nat.not_lt.mpr time), Bool.not_true, Bool.or_false,
    Bool.false_eq_true, Bool.not_false, if_false]
  rfl

/-- Wires that differ for their time end the fault. -/
theorem State.wireFault_clears (differ : (s.enc i).same j = false) (bad : vget (s.enc i).fault j false = true)
    (notSource : ¬(i = 0 ∧ j < 2 ∧ (!s.absSource) = true)) : s.wireFault i j =
      (s.updEnc i (fun e => (e.setFault j false).follow j s.now)).raiseBlocks Ev.encWireFault [i, j, 0] := by
  simp only [State.wireFault, runs, differ, bad, decide_eq_false (Nat.not_lt.mpr time), Bool.not_true, Bool.or_false, if_false, if_true, notSource, false_and]
  rfl

end

/-! ## Raw levels -/

theorem State.pdEdge_quiet {n : Nat} (quiet : (vget s.motion.pd n PinSt.reset).due (s.itemN (Pid.pdFilt n)) s.now = false) : s.pdEdge n = s := by
  simp [State.pdEdge, quiet]

theorem State.encIndex_quiet {n : Nat} (quiet : (vget (s.enc n).rx 2 PinSt.reset).due (s.itemN (Pid.encFilt n)) s.now = false) : s.encIndex n = s := by
  simp [State.encIndex, quiet]

/-- The wires, the count and the faults of an input: what a wire's new level does not reach. -/
def Enc.wires (e : Enc) : Vector Bool 3 × Vector Bool 3 × Nat × Vector Bool 3 := (e.wireP, e.wireN, e.count, e.fault)

theorem Enc.follow_wires (e : Enc) (j now : Nat) : (e.follow j now).wires = e.wires := by
  unfold Enc.follow
  split <;> rfl

/-- A wire's new level is read back, the other wire stands, and neither count nor faults move. -/
theorem Enc.wire_levels (e : Enc) {j : Nat} (hj : j < 3) (neg level : Bool) (filt now : Nat) :
    let w := e.wire j neg level filt now
    vget w.wireP j false = (if neg then vget e.wireP j false else level) ∧ vget w.wireN j false = (if neg then level else vget e.wireN j false) ∧
      w.count = e.count ∧ w.fault = e.fault := by
  have wires : (e.wire j neg level filt now).wires =
      (if neg then e.wireP else vset e.wireP j level, if neg then vset e.wireN j level else e.wireN, e.count, e.fault) := by
    refine (Enc.follow_wires _ j now).trans ?_
    cases neg <;> by_cases z : j = 2 <;> simp [Enc.wires, z]
  obtain ⟨p, n, count, fault⟩ : _ ∧ _ ∧ _ ∧ _ := by simpa only [Enc.wires, Prod.mk.injEq] using wires
  refine ⟨?_, ?_, count, fault⟩
  · rw [p]
    cases neg
    · exact vget_vset_eq _ _ _ _ hj
    · rfl
  · rw [n]
    cases neg
    · rfl
    · exact vget_vset_eq _ _ _ _ hj

end

/-- Settles O33: the steps of an input by the pair that changes first, its wire faults, and its raw levels. -/
theorem quadratureStepsCount : Obligations.QuadratureStepsCount := by
  unfold Obligations.QuadratureStepsCount
  refine ⟨?edges, fun s => ⟨fun i j runs time notSource => ⟨fun same fault => ?declare, fun differ fault => ?clears⟩,
    fun j runs ab source same fault time => ?source, fun p level => rfl, fun n level => ?pd, fun i j neg level quiet => ?wire,
    fun i j neg level filt now => ?levels⟩⟩
  case edges =>
    intro s i runs e a b f clean dir next stepped seen
    have web (x y : State) : (if i.num = 0 then x else y) = if i = .web then x else y := by simp only [Quad.num_eq_zero]
    refine ⟨fun ha hb => ?idle, fun good ha first => ?stepA, fun good hb first => ?stepB, fun good ha hb same => ?both, fun bad ha first => ?faulty⟩
    case idle => exact State.gives_onBoth rfl (State.encEdge_idle ha hb)
    case stepA => exact State.gives_onBoth rfl ((State.encEdge_stepA runs rfl rfl good ha first).trans (web _ _))
    case stepB => exact State.gives_onBoth rfl ((State.encEdge_stepB runs rfl rfl good hb first).trans (web _ _))
    case both => exact State.gives_onBoth rfl (State.encEdge_both runs rfl rfl good ha hb same)
    case faulty => exact State.gives_onBoth rfl (State.encEdge_faulty runs rfl rfl bad ha first)
  case declare =>
    refine State.gives_onBoth rfl ((State.wireFault_declares runs time same fault).trans (if_neg fun ⟨web, ab, source⟩ => ?_))
    exact notSource ⟨Quad.num_eq_zero.mp web, Pair.num_lt_two.mp ab, by simpa using source⟩
  case clears =>
    refine State.gives_onBoth rfl (State.wireFault_clears runs time differ fault fun ⟨web, ab, source⟩ => ?_)
    exact notSource ⟨Quad.num_eq_zero.mp web, Pair.num_lt_two.mp ab, by simpa using source⟩
  case source =>
    refine State.gives_onBoth rfl ((State.wireFault_declares runs time same fault).trans ?_)
    rw [if_pos ⟨rfl, Pair.num_lt_two.mpr ab, by rw [source]; rfl⟩, Nat.mul_zero, Nat.add_zero]
    rfl
  case pd =>
    intro x quiet moved
    have still : s.settlePin (.pd n) = s := State.pdEdge_quiet quiet
    have change : x.change (s.itemN (Pid.pdFilt n.val)) s.now level = { x with raw := level, since := s.now } := by
      rw [PinSt.change, quiet]
      exact if_neg moved
    refine congrArg Host.Outcome.next ?_
    rw [still, ← change]
    rfl
  case wire =>
    have edge : s.encEdge i.num = s := State.encEdge_idle (quiet 0 (by decide)) (quiet 1 (by decide))
    obtain ⟨o, still, alone⟩ := State.onBoth_still (s := s) (f := fun s => ((s.encEdge i.num).encEdge i.num).encIndex i.num) (by
      rw [edge, edge, State.encIndex_quiet (quiet 2 (by decide))])
    have settled : exec (.inputRawTransition (.wire i j neg) level) s = .next ((s.updMot (fun m => { m with other := o })).onBoth
        (fun u => u.updEnc i.num (fun e => e.wire j.num neg level (u.itemN (Pid.encFilt i.num)) s.now))) :=
      congrArg (fun u : State => Host.Outcome.next (u.rawTransition (.wire i j neg) level)) still
    cases o with
    | none => exact ⟨none, settled.trans rfl, fun h => h.symm⟩
    | some b => exact ⟨some _, settled.trans rfl, fun h => nomatch alone h⟩
  case levels => exact Enc.wire_levels _ (Pair.num_lt j) neg level filt now

section
variable {s u : State}

/-! ## Index pulses (02 R72, R73) -/

/-- The Z level of an input has been taken. -/
def Enc.seenZ (e : Enc) : Enc := { e with rx := vset e.rx 2 (vget e.rx 2 PinSt.reset).take }

section
variable {i : Quad} (runs : s.motionRuns = true) (due : (vget (s.enc i.num).rx 2 PinSt.reset).due (s.itemN (Pid.encFilt i.num)) s.now = true)
include runs due

/-- A Z level that falls, that comes while the input runs back, or of a pair at fault is no index. -/
theorem State.encIndex_none (no : (vget (s.enc i.num).rx 2 PinSt.reset).raw = false ∨ (s.enc i.num).rev = true ∨ vget (s.enc i.num).fault 2 false = true) :
    s.encIndex i.num = s.updEnc i.num (fun _ => (s.enc i.num).seenZ) := by
  have no' : (!(vget (s.enc i.num).rx 2 PinSt.reset).raw || (s.enc i.num).rev || vget (s.enc i.num).fault 2 false) = true := by
    rcases no with low | back | fault
    · simp [low]
    · simp [back]
    · simp [fault]
  simp only [State.encIndex, runs, due, no', Bool.not_true, Bool.or_self, Bool.false_eq_true, if_false, if_true]
  rfl

variable (high : (vget (s.enc i.num).rx 2 PinSt.reset).raw = true) (ahead : (s.enc i.num).rev = false) (good : vget (s.enc i.num).fault 2 false = false)
include high ahead good

/-- A forward index is latched, and checked where the counts of a revolution are set. -/
theorem State.encIndex_forward : s.encIndex i.num =
    (let s1 := s.updEnc i.num (fun _ => (s.enc i.num).seenZ)
      if s.item (Pid.encCpr i.num) = 0 then s1.updEnc i.num (fun e => { e with latched := e.count, indexAt := some s.now }) else s1.indexAt i.num) := by
  simp only [State.encIndex, runs, due, high, ahead, good, Bool.not_true, Bool.or_self, Bool.false_eq_true, if_false]
  rfl

end

/-- What an index on the lens row does to the lens loop where it is out of place. -/
def State.rowSlip (s : State) (i : Nat) : State := if i = 3 then s.updLens (fun l => { l with slip := true }) else s

/-- The first index, or one that a re-phasing waits for, becomes the reference. -/
theorem State.indexAt_first {i : Nat} {d : Int} (dev : (s.enc i).dev = d) (first : (s.enc i).e = none) (waits : (s.enc i).rephase = []) : s.indexAt i =
    (s.updEnc i (fun e => { e with e := some e.count, latched := e.count, indexAt := some s.now, rephase := [] })).raiseBlocks Ev.encRephased
      [i, evInt d] := by
  simp [State.indexAt, dev, first, waits, State.rephased]

/-- An index is expected CPR after the one before. -/
theorem State.indexAt_next {i x c : Nat} (count : (s.enc i).count = c) (next : (s.enc i).e = some x) (waits : (s.enc i).rephase = []) : s.indexAt i =
    (let nx := (x + s.itemN (Pid.encCpr i)) % 2 ^ 48
      let d := s48 c nx
      let s1 := s.updEnc i (fun e => { e with e := some nx, latched := e.count, indexAt := some s.now, dev := d })
      if d.natAbs ≤ s.itemN (Pid.encIdxTol i) then s1 else ((s1.motFault 2).raiseBlocks Ev.encIndexSlip [i, evInt d]).rowSlip i) := by
  simp only [State.indexAt, count, next, waits, List.isEmpty_nil, Bool.not_true, Option.isNone_some, Bool.or_self, Bool.false_eq_true, if_false, Option.getD_some]
  rfl

/-- A count past the window of an index that did not come. -/
theorem State.indexMissed_past {i x : Nat} (runs : s.motionRuns = true) (next : (s.enc i).e = some x) (waits : (s.enc i).rephase = [])
    (good : vget (s.enc i).fault 2 false = false) (set : s.item (Pid.encCpr i) ≠ 0)
    (past : (s.itemN (Pid.encIdxTol i) : Int) + 1 ≤ s48 (s.enc i).count ((x + s.itemN (Pid.encCpr i)) % 2 ^ 48)) : s.indexMissed i =
      (((s.updEnc i (fun e => { e with e := some ((x + s.itemN (Pid.encCpr i)) % 2 ^ 48) })).motFault 2).raiseBlocks Ev.encIndexMiss
        [i, (x + s.itemN (Pid.encCpr i)) % 2 ^ 48]).rowSlip i := by
  simp only [State.indexMissed, next, waits, runs, good, decide_eq_false set, Option.getD_some, decide_eq_false (Int.not_lt.mpr past), List.isEmpty_nil,
    Bool.not_true, Option.isNone_some, Bool.or_self, Bool.false_eq_true, if_false]
  rfl

/-! ## The absolute port (02 R74 to R76) -/

/-- A faulted frame is discarded, and the third in a row of the source makes the loop coast. -/
theorem State.absFault_eq (s : State) (cause : Nat) : s.absFault cause =
    (let u := ((s.updMot (fun m => { m with absWait := false, absBad := m.absBad + 1 })).motFault 8).raiseMot Ev.absFault [cause]
      if s.absSource = true ∧ s.motion.absBad + 1 = 3 then u.coast else u) := by
  simp only [State.absFault, Bool.and_eq_true, decide_eq_true_eq]

section
variable {raw crc : Nat} {err warn : Bool} (waits : s.motion.absWait = true)
include waits

theorem State.absFrame_biss (biss : s.item Pid.absProto = 1) : s.absFrame raw err warn crc =
    (let v := raw % 2 ^ s.itemN Pid.absBits
      if ¬ crc = 63 - crc6 (msbBits (s.itemN Pid.absBits) v ++ [err, warn]) then s.absFault 1 else if (!err) = true then s.absFault 2
      else (if warn then s else s.raiseMot Ev.absWarn [v]).absAccept v) := by
  simp only [State.absFrame, waits, biss, Bool.not_true, Bool.false_eq_true, if_false, if_true]

theorem State.absFrame_ssi (ssi : s.item Pid.absProto ≠ 1) : s.absFrame raw err warn crc =
    (let n := s.itemN Pid.absBits
      let v := raw % 2 ^ n
      let pos := if s.item Pid.absGray = 1 then grayDecode n v else v
      let held := s.updMot (fun m => { m with absHold := s.now + 250 * s.itemN Pid.absTimeout })
      if ∃ l, s.motion.absLast = some l ∧ 2 ^ (n - 2) < (sext n (pos + 2 ^ n - l % 2 ^ n)).natAbs then held.absFault 4 else held.absAccept pos) := by
  simp only [State.absFrame, waits, ssi, Bool.not_true, Bool.false_eq_true, if_false]
  have last : (s.updMot (fun m => { m with absHold := s.now + 250 * s.itemN Pid.absTimeout })).motion.absLast = s.motion.absLast := rfl
  rw [last]
  cases s.motion.absLast with
  | none => simp
  | some l => simp [gt_iff_lt]

end

end

/-- Settles O34: index pulses by where they come, frames of the absolute port by their checks. -/
theorem indexPulsesAndAbsoluteFramesAreChecked : Obligations.IndexPulsesAndAbsoluteFramesAreChecked := by
  unfold Obligations.IndexPulsesAndAbsoluteFramesAreChecked
  refine ⟨?index, fun s => ⟨fun runs on period hold => ?poll, ?frame, fun waits biss late => ?timeout⟩⟩
  case index =>
    intro s i runs e z cpr tol forward seen lens
    have slip (u : State) : u.rowSlip i.num = lens u := by simp only [State.rowSlip, Quad.num_eq_three]; rfl
    have shown (j : Enc → Enc) : (s.updEnc i.num (fun _ => e.seenZ)).updEnc i.num j = s.updEnc i.num (fun _ => j seen) := State.updEnc_updEnc i _ j
    have read : (s.updEnc i.num (fun _ => e.seenZ)).enc i.num = seen := State.enc_updEnc i _
    refine ⟨fun x fwd next waits near => ?near, fun x fwd next waits far => ?far, fun fwd first waits => ?first, fun due high ahead good unset => ?latch,
      fun due no => ?none, fun x quiet next waits good set past => ?missed⟩
    case near =>
      obtain ⟨due, high, ahead, good, set⟩ := fwd
      refine State.gives_onBoth rfl ((State.encIndex_forward runs due high ahead good).trans ((if_neg set).trans ?_))
      refine (State.indexAt_next (congrArg Enc.count read) ((congrArg Enc.e read).trans next) ((congrArg Enc.rephase read).trans waits)).trans ?_
      exact (if_pos near).trans (shown _)
    case far =>
      obtain ⟨due, high, ahead, good, set⟩ := fwd
      refine State.gives_onBoth rfl ((State.encIndex_forward runs due high ahead good).trans ((if_neg set).trans ?_))
      refine (State.indexAt_next (congrArg Enc.count read) ((congrArg Enc.e read).trans next) ((congrArg Enc.rephase read).trans waits)).trans ?_
      refine (if_neg (Nat.not_le.mpr far)).trans (Eq.trans ?_ (slip _))
      exact congrArg (fun u : State => ((u.motFault 2).raiseBlocks Ev.encIndexSlip _).rowSlip i.num) (shown _)
    case first =>
      obtain ⟨due, high, ahead, good, set⟩ := fwd
      refine State.gives_onBoth rfl ((State.encIndex_forward runs due high ahead good).trans ((if_neg set).trans ?_))
      refine (State.indexAt_first (congrArg Enc.dev read) ((congrArg Enc.e read).trans first) ((congrArg Enc.rephase read).trans waits)).trans ?_
      exact congrArg (fun u : State => u.raiseBlocks Ev.encRephased _) (shown _)
    case latch =>
      exact State.gives_onBoth rfl ((State.encIndex_forward runs due high ahead good).trans ((if_pos unset).trans (shown _)))
    case none => exact State.gives_onBoth rfl (State.encIndex_none runs due no)
    case missed =>
      refine State.gives_onBoth rfl ?_
      rw [State.encIndexMiss, State.encIndex_quiet quiet]
      exact (State.indexMissed_past runs next waits good set past).trans (slip _)
  case poll =>
    refine congrArg Host.Outcome.next (whenDue_true ?_)
    simp [runs, on, period, hold]
  case frame =>
    intro raw crc err warn waits n v pos good jump held fault stop
    refine ⟨fun biss bad => ?crc, fun biss ok low => ?error, fun ssi far => ?jump, fun biss ok high => ?biss, fun ssi near => ?ssi, fun other off => ?kept⟩
    case crc => exact State.gives_onBoth rfl ((State.absFrame_biss waits biss).trans ((if_pos bad).trans (State.absFault_eq ..)))
    case error =>
      exact State.gives_onBoth rfl ((State.absFrame_biss waits biss).trans ((if_neg (Decidable.not_not.mpr ok)).trans ((if_pos (by rw [low]; rfl)).trans (State.absFault_eq ..))))
    case biss =>
      refine State.gives_onBoth rfl ((State.absFrame_biss waits biss).trans ((if_neg (Decidable.not_not.mpr ok)).trans (if_neg ?_)))
      rw [high]
      exact Bool.noConfusion
    case jump => exact State.gives_onBoth rfl ((State.absFrame_ssi waits ssi).trans ((if_pos far).trans (State.absFault_eq ..)))
    case ssi => exact State.gives_onBoth rfl ((State.absFrame_ssi waits ssi).trans (if_neg near))
    case kept => simp [State.absAccept, other, off]
  case timeout =>
    refine State.gives_onBoth rfl ((whenDue_true ?_).trans (State.absFault_eq ..))
    simp [waits, biss, late]

end Sys2Proof.Machine
end

section
/-! PROOF of the pitch loop, the issue of lines, the outputs, product detects and carriages of the motion block (02 R78 to R95). -/

namespace Sys2Proof.Machine

section
variable {s : State}

/-! ## The pitch loop (02 R78, R79, R83) -/

/-- An update of a loop that tracks, by the mean of its errors. -/
theorem PLoop.update_tracks {l : PLoop} (tracks : l.tracks = true) (some : l.n ≠ 0) (bw : Nat) :
    let b := if l.mode = .acq then 4 * bw else bw
    let e := l.esum.tdiv l.n
    ((l.update bw).p : Int) = (l.p + l.f * 256 + fdivI (loopKp b * e) (2 ^ 32)) % 2 ^ 92 ∧
    (l.update bw).f = wrapI 48 (l.f + fdivI (loopKi b * e) (2 ^ 48)) ∧ (l.update bw).tBase = l.tBase + 256 ∧
    (l.update bw).n = 0 ∧ (l.update bw).esum = 0 ∧ (l.update bw).mode = l.mode ∧
    (l.mode = .acq → 20 * e.natAbs < 2 ^ 44 → (l.update bw).lockRun = l.lockRun + 1) ∧
    (l.mode = .acq → 2 ^ 44 ≤ 20 * e.natAbs → (l.update bw).lockRun = 0) ∧
    (l.mode = .lock → 2 ^ 44 < 4 * e.natAbs → (l.update bw).unlockRun = l.unlockRun + 1) ∧
    (l.mode = .lock → 4 * e.natAbs ≤ 2 ^ 44 → (l.update bw).unlockRun = 0) := by
  intro b e
  have update : (l.tracks && decide (l.n ≠ 0)) = true := by simp [tracks, some]
  simp only [PLoop.update, update, if_true]
  refine ⟨Int.toNat_of_nonneg (Int.emod_nonneg _ (by decide)), rfl, trivial, trivial, trivial, trivial, fun acq small => if_pos ⟨acq, small⟩,
    fun acq large => if_neg fun h => ?_, fun lock large => if_pos ⟨lock, large⟩, fun lock small => if_neg fun h => ?_⟩
  · exact Nat.not_lt.mpr large h.2
  · exact Nat.not_lt.mpr small h.2

theorem PLoop.update_runs {l : PLoop} (idle : l.tracks = false ∨ l.n = 0) (bw : Nat) : l.update bw = { l with
    p := ((l.p + l.f * 256 : Int) % 2 ^ 92).toNat, tBase := l.tBase + 256, prev := (l.p, l.f, l.tBase), esum := 0, n := 0 } := by
  have none : (l.tracks && decide (l.n ≠ 0)) = false := by
    rcases idle with off | zero
    · simp [off]
    · simp [zero]
  simp only [PLoop.update, none, Bool.false_eq_true, if_false]

/-! ## The active role (02 R85, R86) -/

/-- Who holds the active role, the last line issued and the other block. -/
def Motion.role (m : Motion) : Nat × Nat × Option MotBlock := (m.active, m.lastLine, m.other)

/-- The active role with a tile, its loop not yet looked at. -/
def State.withRole (s : State) (a : Nat) : State := s.updMot (fun m =>
  { m.load (m.other.getD m.block) with active := a, other := if s.motionOn (1 - a) then some m.block else none, copyAt := s.now })

theorem State.roleTo_eq (a : Nat) : s.roleTo a =
    if (s.withRole a).armed && decide ((s.withRole a).motion.loop.mode = .off) then (s.withRole a).loopStart else s.withRole a := rfl

theorem State.loopStart_role (s : State) : s.loopStart.motion.role = s.motion.role := rfl

theorem State.roleTo_role (a : Nat) : (s.roleTo a).motion.role = (a, s.motion.lastLine, if s.motionOn (1 - a) then some s.motion.block else none) := by
  have taken : (s.withRole a).motion.role = (a, s.motion.lastLine, if s.motionOn (1 - a) then some s.motion.block else none) := rfl
  rw [State.roleTo_eq]
  split
  · rw [State.loopStart_role, taken]
  · exact taken

/-- A block that has loaded a state goes on from it when it takes the role. -/
theorem State.roleTo_block {a : Nat} {b : MotBlock} (other : s.motion.other = some b) (goes : s.armed = false ∨ b.loop.mode ≠ .off) :
    (s.roleTo a).motion.block = b := by
  have taken : (s.withRole a).motion.block = b := by
    have loaded : (s.withRole a).motion.block = s.motion.other.getD s.motion.block := rfl
    rw [loaded, other, Option.getD_some]
  have mode : (s.withRole a).motion.loop.mode = b.loop.mode := congrArg (fun b : MotBlock => b.loop.mode) taken
  have armed : (s.withRole a).armed = s.armed := rfl
  rw [State.roleTo_eq, if_neg, taken]
  rw [mode, armed]
  rcases goes with idle | runs
  · simp [idle]
  · simp [runs]

/-! ## Lines (02 R80, R88) -/

theorem State.issueFire_eq : s.issueFire = max (s.predict s.issueNext).toNat (s.motion.lastFire + 1) := by
  simp only [State.issueFire]
  split <;> omega

/-- Of two lines the lower one. -/
def IssuedLine.lower (m : Option IssuedLine) (l : IssuedLine) : Option IssuedLine :=
  match m with
  | none => some l
  | some x => if l.n < x.n then some l else some x

theorem IssuedLine.foldl_lower {ls : List IssuedLine} {m : Option IssuedLine} {l : IssuedLine} (h : ls.foldl IssuedLine.lower m = some l) :
    (l ∈ ls ∨ m = some l) ∧ (∀ x ∈ ls, l.n ≤ x.n) ∧ ∀ x, m = some x → l.n ≤ x.n := by
  induction ls generalizing m with
  | nil => exact ⟨.inr h, fun _ hx => absurd hx List.not_mem_nil, fun x hx => Nat.le_of_eq (congrArg _ (Option.some.inj (h.symm.trans hx)))⟩
  | cons a r ih =>
    obtain ⟨mem, least, first⟩ := ih h
    have lowered : ∃ y, IssuedLine.lower m a = some y ∧ (y = a ∨ m = some y) ∧ y.n ≤ a.n ∧ ∀ x, m = some x → y.n ≤ x.n := by
      cases m with
      | none => exact ⟨a, rfl, .inl rfl, Nat.le_refl _, nofun⟩
      | some x =>
        by_cases lt : a.n < x.n
        · exact ⟨a, if_pos lt, .inl rfl, Nat.le_refl _, fun y hy => Option.some.inj hy ▸ Nat.le_of_lt lt⟩
        · exact ⟨x, if_neg lt, .inr rfl, Nat.not_lt.mp lt, fun y hy => Option.some.inj hy ▸ Nat.le_refl _⟩
    obtain ⟨y, hy, whose, below, belowM⟩ := lowered
    have low := first y hy
    refine ⟨?_, fun x hx => ?_, fun x hx => Nat.le_trans low (belowM x hx)⟩
    · rcases mem with later | now
      · exact .inl (List.mem_cons_of_mem a later)
      · obtain rfl := Option.some.inj (hy.symm.trans now)
        rcases whose with rfl | old
        · exact .inl (List.mem_cons_self ..)
        · exact .inr old
    · rcases List.mem_cons.mp hx with rfl | later
      · exact Nat.le_trans low below
      · exact least x later

/-- The line that is reached next is the lowest of those due. -/
theorem State.reachedLine_least {l : IssuedLine} (h : s.reachedLine = some l) : s.motion.current < l.n ∧ l.fire / 256 ≤ s.now ∧ l ∈ s.motion.issued ∧
    ∀ x ∈ s.motion.issued, s.motion.current < x.n → x.fire / 256 ≤ s.now → l.n ≤ x.n := by
  have h' : (s.motion.issued.filter (fun l => decide (s.motion.current < l.n ∧ l.fire / 256 ≤ s.now))).foldl IssuedLine.lower none = some l := h
  obtain ⟨mem, least, -⟩ := IssuedLine.foldl_lower h'
  obtain ⟨issued, due⟩ := List.mem_filter.mp (mem.resolve_right nofun)
  obtain ⟨new, reached⟩ := of_decide_eq_true due
  exact ⟨new, reached, issued, fun x hx new reached => least x (List.mem_filter.mpr ⟨hx, decide_eq_true ⟨new, reached⟩⟩)⟩

end

/-- Settles O35: updates of the loop and its states, the role of the active block, and the issue and the reaching of lines. -/
theorem pitchLoopIssuesLines : Obligations.PitchLoopIssuesLines := by
  unfold Obligations.PitchLoopIssuesLines
  refine ⟨?loop, fun s => ⟨fun active able on up => ?copy, fun active able cause => ?role, fun master able on found fwd ahead passed near => ?issue,
    fun l reached => ?fire, fun l reached => State.reachedLine_least reached⟩⟩
  case loop =>
    intro s l
    refine ⟨fun runs on due => ⟨fun tracks some => ?update, fun idle => ?runs⟩, fun acq small => ?lock, fun lock large => ?unlock, fun tracks moves late => ?still,
      fun coast far => ?lost⟩
    case update =>
      have now : (s.motionRuns && decide (s.motion.loop.mode ≠ .off ∧ s.motion.loop.tBase + 256 ≤ s.now)) = true := by
        rw [runs, decide_eq_true ⟨on, due⟩, Bool.and_self]
      exact ⟨_, State.gives_onBoth rfl (whenDue_true now), rfl, PLoop.update_tracks tracks some _⟩
    case runs =>
      have now : (s.motionRuns && decide (s.motion.loop.mode ≠ .off ∧ s.motion.loop.tBase + 256 ≤ s.now)) = true := by
        rw [runs, decide_eq_true ⟨on, due⟩, Bool.and_self]
      exact State.gives_onBoth rfl ((whenDue_true now).trans (congrArg (fun m => s.updLoop (fun _ => m)) (PLoop.update_runs idle _)))
    case lock => exact State.gives_onBoth rfl (whenDue_true (decide_eq_true ⟨acq, small⟩))
    case unlock => exact State.gives_onBoth rfl (whenDue_true (decide_eq_true ⟨lock, large⟩))
    case still => 
      exact State.gives_onBoth rfl (whenDue_true (by rw [tracks, moves, decide_eq_true late]; rfl))
    case lost => exact State.gives_onBoth rfl (whenDue_true (decide_eq_true ⟨coast, far⟩))
  case copy => exact congrArg Host.Outcome.next (whenDue_true (by simp [active, able, on, up]))
  case role =>
    have cause' : ((decide ((s.tileN 0).twin = .withdrawn ∨ (s.tileN 0).twin = .off) && (s.tileN 1).printing) || !s.motionAble 0 ||
        decide (s.motion.copyAt + 1024 < s.now)) = true := by
      rcases cause with ⟨left, prints⟩ | unable | silent
      · simp [left, prints]
      · simp [unable]
      · simp [silent]
    have due : (decide (s.motion.active = 0) && s.motionAble 1 && ((decide ((s.tileN 0).twin = .withdrawn ∨ (s.tileN 0).twin = .off) &&
        (s.tileN 1).printing) || !s.motionAble 0 || decide (s.motion.copyAt + 1024 < s.now))) = true := by
      rw [cause', able, active]
      rfl
    have role := s.roleTo_role 1
    simp only [Motion.role, Prod.mk.injEq] at role
    obtain ⟨holder, line, other⟩ := role
    exact ⟨_, congrArg Host.Outcome.next (whenDue_true due), rfl, holder, line, other, fun b other goes => State.roleTo_block other goes⟩
  case issue =>
    refine ⟨congrArg Host.Outcome.next (whenDue_true ?_), State.issueFire_eq, fun goes => by rw [State.issueNext, goes]; rfl⟩
    have forward : s.motion.loop.mode ≠ .off ∧ s.motion.loop.mode ≠ .lost ∧ 0 < s.motion.loop.f := ⟨on, found, fwd⟩
    simp only [State.issueDue, decide_eq_true master, able, decide_eq_true forward, ahead, passed, decide_eq_true near]
    rfl
  case fire =>
    refine State.gives_onBoth rfl ?_
    simp only [State.fireReached, reached]

section
variable {s : State}

/-! ## Product detects and carriages (02 R90, R93, R94) -/

section
variable {i : Nat} (runs : s.motionRuns = true) (due : (vget s.motion.pd i PinSt.reset).due (s.itemN (Pid.pdFilt i)) s.now = true)
include runs due

theorem State.pdEdge_none (no : (vget s.motion.pd i PinSt.reset).raw = decide (s.item (Pid.pdEdge i) = 1) ∨ s.itemN (Pid.pdLane i) = 255 ∨
      s.registers (s.currentAt (vget s.motion.pd i PinSt.reset).since) = false) :
    s.pdEdge i = s.updMot (fun m => { m with pd := vset m.pd i (vget s.motion.pd i PinSt.reset).take }) := by
  have no' : (!((vget s.motion.pd i PinSt.reset).raw != decide (s.item (Pid.pdEdge i) = 1)) || decide (s.itemN (Pid.pdLane i) = 255) ||
      !s.registers (s.currentAt (vget s.motion.pd i PinSt.reset).since)) = true := by
    rcases no with idle | unused | idle
    · simp [idle]
    · simp [unused]
    · simp [idle]
  simp only [State.pdEdge, runs, due, no', Bool.not_true, Bool.or_self, Bool.false_eq_true, if_false, if_true]

/-- An active edge registers a product, or repeats the one before within its least distance. -/
theorem State.pdEdge_active (active : (vget s.motion.pd i PinSt.reset).raw ≠ decide (s.item (Pid.pdEdge i) = 1)) (used : s.itemN (Pid.pdLane i) ≠ 255)
    (takes : s.registers (s.currentAt (vget s.motion.pd i PinSt.reset).since) = true) : s.pdEdge i =
      (let line := s.currentAt (vget s.motion.pd i PinSt.reset).since
        let s1 := s.updMot (fun m => { m with pd := vset m.pd i (vget s.motion.pd i PinSt.reset).take })
        if ∃ l, vget s.motion.pdLast i none = some l ∧ l ≤ line ∧ line < l + s.itemN (Pid.pdMin i) then s1.raiseMot Ev.pdRepeat [i, line]
        else (s1.updMot (fun m => { m with pdLast := vset m.pdLast i (some line) })).registerProduct (s.itemN (Pid.pdLane i))
          (line + s.itemN (Pid.pdOffset i))) := by
  have no : (!((vget s.motion.pd i PinSt.reset).raw != decide (s.item (Pid.pdEdge i) = 1)) || decide (s.itemN (Pid.pdLane i) = 255) ||
      !s.registers (s.currentAt (vget s.motion.pd i PinSt.reset).since)) = false := by
    simp [bne_iff_ne.mpr active, used, takes]
  simp only [State.pdEdge, runs, due, no, Bool.not_true, Bool.or_self, Bool.false_eq_true, if_false]
  cases h : vget s.motion.pdLast i none with
  | none => simp [State.updMot]
  | some l => simp [State.updMot]

end

section
variable {g : Nat} (runs : s.motionRuns = true) (moved : s.carrRaw g ≠ vget s.motion.carrCode g 0)
  (stable : vget s.motion.carrSince g 0 + s.itemN (Pid.carrFilt g) + 1 ≤ s.now)
include runs moved stable

/-- A stable code is taken, said when it is no code, and acted on. -/
theorem State.carrChange_takes : s.carrChange g =
    (let seen := s.updMot (fun m => { m with carrCode := vset m.carrCode g (s.carrRaw g) })
      let said := if 2 ≤ (bitsOf 3 (s.carrRaw g)).length then (seen.motFault 4).raiseBlocks Ev.carriageCodeBad [g, s.carrRaw g] else seen
      let back := s.itemN (Pid.carrChannels g) &&& (0xFFF - said.carrAway)
      if vget s.motion.carrCode g 0 = 4 then said.carrLeave g (s.carrRaw g)
      else if s.carrRaw g = 4 ∧ s.armed ∧ back ≠ 0 then said.changeBoundary 0 (.carr back false) else said) := by
  simp only [State.carrChange, runs, decide_eq_false moved, decide_eq_false (Nat.not_lt.mpr stable), Bool.not_true, Bool.or_self, Bool.false_eq_true,
    if_false, ge_iff_le]

end

end

/-- Settles O36: pulses, compare settings, product detects and carriage codes, each by the state of its own unit. -/
theorem pulsesDetectsAndCarriages : Obligations.PulsesDetectsAndCarriages := by
  unfold Obligations.PulsesDetectsAndCarriages
  refine fun s => ⟨fun o => ⟨_, State.gives_onBoth rfl rfl, rfl, fun k other => vget_vupd_ne _ _ _ _ _ _ other, vget_vupd_eq _ _ _ _ o.isLt⟩,
    fun u t es seq r pend now => State.gives_onBoth rfl ?setting, ?detect, ?carriage⟩
  case setting =>
    simp only [State.compareApply, pend]
    exact whenDue_true (decide_eq_true now)
  case detect =>
    intro i runs x seen lane line due
    refine ⟨fun no => ?_, fun active used takes => ⟨fun l last low high => ?_, fun far => ?_⟩⟩
    · exact congrArg Host.Outcome.next (State.pdEdge_none runs due no)
    · exact congrArg Host.Outcome.next ((State.pdEdge_active runs due active used takes).trans (if_pos ⟨l, last, low, high⟩))
    · refine congrArg Host.Outcome.next ((State.pdEdge_active runs due active used takes).trans (if_neg ?_))
      rintro ⟨l, last, low, high⟩
      exact (far l last).elim (Nat.not_lt.mpr low) (Nat.not_le.mpr high)
  case carriage =>
    intro g runs moved stable seen said
    have takes := State.carrChange_takes runs moved stable
    refine ⟨fun left => ?_, fun away back armed some => ?_, fun away stays => ?_⟩
    · exact congrArg Host.Outcome.next (takes.trans (if_pos left))
    · exact congrArg Host.Outcome.next (takes.trans ((if_neg away).trans (if_pos ⟨back, armed, some⟩)))
    · refine congrArg Host.Outcome.next (takes.trans ((if_neg away).trans (if_neg ?_)))
      rintro ⟨back, armed, some⟩
      rcases stays with other | idle | none
      · exact other back
      · exact Bool.noConfusion (idle.symm.trans armed)
      · exact some none

end Sys2Proof.Machine
end

section
/-! PROOF of arm lines and web lines, of stage 11 and the segment frames, and of the partner's records and the end of a job (04 R153;
05 R177 to R180; 07 R240; 09 R294 to R301; 11 R354 to R362; 13 R439). -/

namespace Sys2Proof.Machine

section
variable {s : State} {t n : Nat}

/-! ## The commits of a line (11 R359, R360) -/

/-- What the commits of a line depend on: the job and the lines issued. -/
def State.lines (s : State) : Job × List IssuedLine := (s.job, s.motion.issued)

theorem State.loopStart_lines (s : State) : s.loopStart.lines = s.lines := rfl

theorem State.roleTo_lines (s : State) (a : Nat) : (s.roleTo a).lines = s.lines := by
  have taken : (s.withRole a).lines = s.lines := rfl
  rw [State.roleTo_eq]
  split
  · rw [State.loopStart_lines, taken]
  · exact taken

theorem State.motionRole_lines (s : State) : s.motionRole.lines = s.lines := by
  simp only [State.motionRole]
  split
  · split
    · exact s.roleTo_lines 1
    · exact s.roleTo_lines 0
  · rfl

theorem State.setTwin_lines {new : TwinSt} (new_ : new ≠ .paired) (cause line : Nat) : (s.setTwin t new cause line).lines = s.lines := by
  simp only [State.setTwin, State.setTwinBy, new_, and_false, if_false]
  split
  · rfl
  · split <;> rfl

theorem State.startFill_lines : (s.startFill t n).lines = s.lines := by
  have fill (line : Nat) : ((s.setTwin t .fill 0 line).updTileN t (fun x => { x with startLine := some line })).lines = s.lines :=
    State.setTwin_lines (new := .fill) (by decide) 0 line
  simp only [State.startFill]
  split
  · split
    · exact (State.motionRole_lines _).trans (fill _)
    · rfl
  · rfl

theorem State.commitsAt_congr {u : State} (h : u.lines = s.lines) (n : Nat) : u.commitsAt n (u.cmaxAt n) = s.commitsAt n (s.cmaxAt n) := by
  have job : u.job = s.job := congrArg Prod.fst h
  have issued : u.motion.issued = s.motion.issued := congrArg Prod.snd h
  have cmax : u.cmaxAt n = s.cmaxAt n := by rw [State.cmaxAt, State.cmaxAt, State.issuedAt, State.issuedAt, State.cmaxFor, State.cmaxFor, job, issued]
  rw [State.commitsAt, State.commitsAt, job, cmax]

/-! ## Products that miss their arm line (05 R179; 11 R362) -/

theorem State.armLine_congr {u : State} (past : u.job.past = s.job.past) (base : u.job.base = s.job.base) (p : Product) : u.armLine p = s.armLine p := by
  simp only [State.armLine, State.pItem, State.jobItems, State.pastJob, past, base]

theorem State.settleFence_past {j k arm : Nat} {m : PMap} {c : LaneChange} (none : c.layers = []) :
    (s.settleFence j k arm m c).job.past = s.job.past ∧ (s.settleFence j k arm m c).job.base = s.job.base := by
  unfold State.settleFence
  split
  · exact ⟨rfl, rfl⟩
  · simp only [none, List.foldl_nil]
    split
    · split <;> exact ⟨rfl, rfl⟩
    · exact ⟨rfl, rfl⟩

/-- Fences that settle without their layers leave the arm line where it is. -/
theorem State.settleFences_armLine {p : Product} {a : Nat} (m : PMap) (l : List LaneChange) (u : State) (arm : u.armLine p = a) :
    l.foldl (fun s c => s.settleFence p.lane p.num a m { c with layers := [] }) u =
      l.foldl (fun s c => s.settleFence p.lane p.num (s.armLine p) m { c with layers := [] }) u := by
  induction l generalizing u with
  | nil => rfl
  | cons c r ih =>
    obtain ⟨past, base⟩ := u.settleFence_past (j := p.lane) (k := p.num) (arm := a) (m := m) (c := { c with layers := [] }) rfl
    rw [List.foldl_cons, List.foldl_cons, arm]
    exact ih _ ((State.armLine_congr past base p).trans arm)

/-! ## Web lines on a tile (01 R31, R60; 11 R360, R361) -/

theorem State.applyCommits_applied {t : Tile} {c : Commit} (hc : c ∈ s.commitsAt n (s.cmaxAt n)) :
    c.cseq ∈ ((s.applyCommits t.val n).tile t).appliedCommits := by
  have applied : ((s.applyCommits t.val n).tile t).appliedCommits =
      ((s.commitsAt n (s.cmaxAt n)).map (·.cseq)).foldl addNew (s.tile t).appliedCommits := by
    simp [State.applyCommits]
  rw [applied]
  exact mem_foldl_addNew_self.mpr (.inr (List.mem_map_of_mem hc))

theorem State.applyCommits_begun {t : Tile} : ((s.applyCommits t.val n).tile t).begun = n + 1 := by simp [State.applyCommits]

end

/-- Settles O37: a product at its arm line, and a web line on a tile from its position to its commits. -/
theorem tilesTakeArmedAndAcceptedLines : Obligations.TilesTakeArmedAndAcceptedLines := by
  unfold Obligations.TilesTakeArmedAndAcceptedLines
  refine ⟨fun s lane num p found => ⟨fun waits => ?waits, fun due intime => ?evaluated, fun due late => ?missed, fun due => ?due⟩, fun s t n ht =>
    ⟨fun l issued fresh on reached => ?position, fun old => ?old, fun due => ?line, fun waits => ?early⟩⟩
  case waits => exact congrArg Host.Outcome.next (by simp [State.armLineEval, found, waits])
  case evaluated => exact congrArg Host.Outcome.next (by simp [State.armLineEval, found, due, intime])
  case missed =>
    intro m fenced u
    have settled : u = _ := congrArg (fun v : State => v.updLane p.lane _) (State.settleFences_armLine m fenced (s.armProduct p m) rfl).symm
    refine congrArg Host.Outcome.next ?_
    rw [settled]
    simp only [State.armLineEval, found, due, late, Bool.not_true, Bool.false_eq_true, if_false, if_true]
    rfl
  case due =>
    simp only [State.armDue, Bool.and_eq_true, Bool.not_eq_true', decide_eq_true_eq, List.all_eq_true, Bool.or_eq_true] at due
    obtain ⟨⟨⟨⟨-, armed⟩, fresh⟩, issued⟩, first⟩ := due
    refine ⟨fresh, issued, armed, fun q hq waits before => ?_⟩
    have := (first q hq).resolve_left (by rw [waits]; exact Bool.noConfusion)
    omega
  case position =>
    refine onTile_gives ht ?_
    have takes : (decide (n ≤ (s.tile t).posLine) || decide ((s.tile t).twin = .off) || !s.reaches0 t.val) = false := by
      simp [Nat.not_le.mpr fresh, on, reached]
    simp only [State.positionReceive, issued, State.tileN_val, State.updTileN_val, takes, Bool.false_eq_true, if_false]
  case old =>
    refine onTile_gives ht ?_
    unfold State.positionReceive
    split
    · rfl
    · exact if_pos (by simp [old])
  case line =>
    intro u
    have lines := s.startFill_lines (t := t.val) (n := n)
    refine ⟨onTile_gives ht ?_, State.applyCommits_begun, fun c hc => State.applyCommits_applied ?_⟩
    · simp only [State.lineCompute, due, Bool.not_true, Bool.false_eq_true, if_false, State.tileN_val]
      rfl
    · rwa [State.commitsAt_congr lines]
  case early => exact onTile_gives ht (by simp [State.lineCompute, waits])

/-! ## Segments (09 R294 to R301) -/

section
variable {s : State} {t : Tile} {line seg : Nat}

theorem bad_iff {rl : RowLine} {first lo n : Nat} : rl.bad.any (fun i => decide (lo ≤ first + i ∧ first + i < lo + n)) = true ↔
    ∃ i ∈ rl.bad, lo ≤ first + i ∧ first + i < lo + n := by
  simp

/-- The causes of a row's data, the first that holds. -/
theorem segCause_iff (rl : RowLine) (first lo n : Nat) (held : Bool) :
    (segCause rl first lo n held = 2 ↔ ∃ i ∈ rl.bad, lo ≤ first + i ∧ first + i < lo + n) ∧
    (segCause rl first lo n held = 3 ↔ rl.void = true ∧ ∀ i ∈ rl.bad, ¬ (lo ≤ first + i ∧ first + i < lo + n)) ∧
    (segCause rl first lo n held = 0 → held = false ∧ rl.void = false) := by
  unfold segCause
  split
  case isTrue bad =>
    obtain ⟨i, hi, lies⟩ := bad_iff.mp bad
    exact ⟨⟨fun _ => ⟨i, hi, lies⟩, fun _ => rfl⟩, ⟨fun h => absurd h (by decide), fun h => absurd lies (h.2 i hi)⟩, fun h => absurd h (by decide)⟩
  case isFalse good =>
    have none : ∀ i ∈ rl.bad, ¬ (lo ≤ first + i ∧ first + i < lo + n) := fun i hi lies => good (bad_iff.mpr ⟨i, hi, lies⟩)
    have no : ¬ ∃ i ∈ rl.bad, lo ≤ first + i ∧ first + i < lo + n := fun ⟨i, hi, lies⟩ => none i hi lies
    cases rl.void <;> cases held <;> simp [no]
    all_goals exact fun i hi low => Nat.not_lt.mp fun high => none i hi ⟨low, high⟩

variable {f : FiredLine} {x lo n : Nat}

theorem State.segmentFrame_due (fired : (s.tile t).firedAt line = some f) (seg_ : (s.asOf line).segOf (t.val / 2) seg = some (x, lo, n))
    (due : s.frameDue t.val line seg = true) : s.segmentFrame t.val line seg =
      (let l := (s.tile t).lane (s.segLane t.val line seg)
        if l.st ≠ 2 ∨ line < l.fromLine then s.voidSeg t.val line seg n 0
        else if s.voidCause t.val line seg lo n ≠ 0 then s.voidSeg t.val line seg n (s.voidCause t.val line seg lo n)
        else s.sendLine t.val line seg ((f.segs.lookup seg).getD [])) := by
  simp only [State.segmentFrame, State.tileN_val, fired, seg_, due, Bool.not_true, Bool.false_eq_true, if_false]

/-- A node that takes no slots is sent zeros, whatever they are. -/
theorem State.sendLine_zeros {t : Nat} (no : s.takesSlots (s.segNode (t / 2) seg) = false) (slots : List Nat) :
    s.sendLine t line seg slots = s.sendLine t line seg (slots.map (fun _ => 0)) := by
  have zeros : (slots.map (fun _ => 0)).map (fun _ => 0) = slots.map (fun _ => (0 : Nat)) := by simp
  simp only [State.sendLine, no, Bool.false_eq_true, if_false, zeros, List.length_map]

end

/-- Settles O38: stage 11 of a due line, and the frame of a due segment by its lane and its data. -/
theorem firingLinesLeaveAsFrames : Obligations.FiringLinesLeaveAsFrames := by
  unfold Obligations.FiringLinesLeaveAsFrames
  refine ⟨fun s t line short ht => ⟨fun waits => ?waits, fun due => ?stage, fun fill last alone => ?solo, fun other => ?other⟩,
    fun s t line seg f x lo n ht fired seg_ due => ?frame, segCause_iff, fun s t line seg l slots _ no => State.sendLine_zeros no slots⟩
  case waits => exact onTile_gives ht (by simp [State.stage11, waits])
  case stage =>
    refine onTile_gives ht ?_
    simp only [State.stage11, due, Bool.not_true, Bool.false_eq_true, if_false]
  case solo =>
    have ends : (s.tileN t.val).twin = .fill ∧ (s.tileN t.val).startLine.getD 0 + s.maxDelay ≤ line := by
      rw [State.tileN_val]
      exact ⟨fill, last⟩
    simp only [State.endFill, if_pos ends, alone, Bool.false_eq_true, if_false]
  case other => exact if_neg fun h => other (by simpa using h.1)
  case frame =>
    intro l
    have frame := State.segmentFrame_due fired seg_ due
    refine ⟨fun down => ?_, fun up from_ bad => ?_, fun up from_ good => ?_⟩
    all_goals refine onTile_gives ht (frame.trans ?_)
    · exact if_pos down
    · exact (if_neg (not_or.mpr ⟨Decidable.not_not.mpr up, Nat.not_lt.mpr from_⟩)).trans (if_pos bad)
    · exact (if_neg (not_or.mpr ⟨Decidable.not_not.mpr up, Nat.not_lt.mpr from_⟩)).trans (if_neg (Decidable.not_not.mpr good))

/-- Settles O39: the end of a drained job, and the partner's record of a line, taken or missing. -/
theorem recordsAreTakenAndJobsEnd : Obligations.RecordsAreTakenAndJobsEnd := by
  unfold Obligations.RecordsAreTakenAndJobsEnd
  refine ⟨fun s => ⟨fun not => ?runs, fun drained => ?ends, fun drained => ?drained⟩, fun s t line ht => ⟨fun r rec_ up whole takes fresh => ?taken,
    fun none => ?none, fun waits first carries => ?missing, fun no => ?there⟩⟩
  case runs => exact congrArg Host.Outcome.next (whenDue_false not)
  case ends => exact congrArg Host.Outcome.next (whenDue_true drained)
  case drained =>
    simp only [State.drained, Bool.and_eq_true, decide_eq_true_eq] at drained
    obtain ⟨⟨state, line⟩, sent⟩ := drained
    refine ⟨state, ?_, fun n last t used carries => ?_⟩
    · cases h : s.job.disarm with
      | none => simp [h] at line
      | some d =>
        simp only [h, decide_eq_true_eq] at line
        exact ⟨d.1, d.2.1, d.2.2, rfl, line⟩
    · simp only [last, List.all_eq_true, Bool.or_eq_true, Bool.not_eq_true'] at sent
      exact (sent t used).resolve_left (by rw [carries]; exact Bool.noConfusion)
  case taken =>
    refine onTile_gives ht ?_
    have takes' : (!vget s.linkUp (t.val / 2) true || (s.tile t).copying || !((s.tile t).carries || decide ((s.tile t).twin = .resync)) ||
        ((s.tile t).partnerRec line).isSome) = false := by
      rcases takes with carries | resync
      · simp [up, whole, fresh, carries]
      · simp [up, whole, fresh, resync]
    simp only [State.copyReceive, rec_, State.tileN_val, takes', Bool.false_eq_true, if_false, State.updTileN_val]
  case none =>
    refine onTile_gives ht ?_
    unfold State.copyReceive
    split
    · rfl
    case h_2 r rec_ =>
      rcases none with absent | down
      · exact nomatch absent.symm.trans rec_
      · exact if_pos (by simp [down])
  case missing =>
    refine onTile_gives ht ((whenDue_true ?_).trans (by rw [State.updTileN_val]))
    simp [waits, first, carries]
  case there =>
    refine onTile_gives ht (whenDue_false ?_)
    rcases no with held | other | left
    · simp [Option.isNone_eq_false_iff.mpr (Option.isSome_iff_ne_none.mpr held)]
    · simp [other]
    · simp [left]

end Sys2Proof.Machine
end

section
/-! PROOF of strips from their decoding to their mending, and of the calendars, TIME alignment and announcements (03 R121 to R126; 05 R165
to R170; 01 R43; 10 R326, R327). -/

namespace Sys2Proof.Machine

section
variable {s : State} {t : Tile} {sid strip : Nat}

/-! ## Strips (03 R121 to R126) -/

theorem stripFate_eq (own : Nat) (carries : Bool) (p : Option Nat) :
    stripFate own carries p = if own = 0 then 1 else if carries = false then 3 else if p = none ∨ p = some 0 then 2 else 3 := by
  unfold stripFate
  cases carries with
  | false => simp
  | true =>
    cases p with
    | none => simp
    | some c => cases c <;> simp

/-- A strip with a verdict of its own that decides it. -/
theorem State.decideStrip_own {st : Stream} {b : StripBuf} {c : Nat} (own : b.own = some c) (ls : List Nat) :
    s.decideStrip t.val st strip b ls =
      (let pv := (s.tile t).partnerVerdict st.sid b
       let fate := stripFate c (s.tileN (partnerOf t.val)).carries pv
       let s2 := (s.updStrip t.val st.sid strip (fun b => { b with partner := pv, fate := fate })).updTile t (fun x => { x with
         verdicts := x.verdicts.filter (fun v => !(v.arrived && v.sid == st.sid && v.strip == strip)) })
       if fate = 3 then (s.affected t.val ls).foldl (fun s p => s.reject p.lane p.num) (s2.raise t Ev.stripBlanked [t.val / 2, ls.headD 0, ls.getLastD 0])
       else if fate = 2 && pv.isNone then (s2.raise t Ev.stripVerdictLate [t.val / 2, st.surf, strip]).unsettle t.val st.sid strip (s.affected t.val ls)
       else s2) := by
  simp only [State.decideStrip, own, Option.getD_some, Option.isNone_some, Bool.false_eq_true, if_false, State.tileN_val, State.updTileN_val, State.raiseN,
    tileIx_val]

theorem State.stripDeadline_due {st : Stream} {d : Desc} {p : Product} {lo : Nat} {ls : List Nat} (stream : (s.tile t).stream sid = some st)
    (desc : (s.tile t).desc st.surf = some d) (reads : s.nextRead t.val st strip = some (p, lo :: ls))
    (open_ : ((st.buf strip).getD (StripBuf.fresh strip)).fate = 0)
    (late : lo - s.itemN Pid.codecMargin < s.motion.lastLine ∨
      (((st.buf strip).getD (StripBuf.fresh strip)).own = some 0 ∧ lo - s.itemN Pid.codecMargin = s.motion.lastLine)) :
    s.stripDeadline t.val sid strip = ((s.withBuf t.val sid strip).decideStrip t.val st strip ((st.buf strip).getD (StripBuf.fresh strip))
      (lo :: ls)).updStream t.val sid (fun st => st.refill d.scount) := by
  simp only [State.stripDeadline, State.tileN_val, stream, desc, reads]
  refine whenDue_true ?_
  rw [decide_eq_true open_, Bool.true_and]
  rcases late with past | ⟨passed, now⟩
  · split
    · exact decide_eq_true (Nat.le_of_lt past)
    · exact decide_eq_true past
  · exact decide_eq_true (Eq.mpr (if_pos (by simp [passed])) (Nat.le_of_eq now))

section
variable {v : Verdict} (found : (s.tile t).verdicts.find? (fun v => !v.arrived && v.sid == sid && v.strip == strip) = some v)
  (up : vget s.linkUp (t.val / 2) true = true) (carries : (s.tileN (partnerOf t.val)).carries = true)
include found up carries

/-- The partner's oldest verdict on a strip: it settles what was decided void, goes to the buffer that waits, or is kept. -/
theorem State.verdictReceive_takes : s.verdictReceive t.val sid strip =
    (let mine := (s.tile t).unsettled.filter (fun u => u.1 == sid && u.2.1 == strip)
     let w := s.updTile t (fun x => { x with verdicts := x.verdicts.erase v })
     let u := w.updStrip t.val sid strip (fun b => { b with partner := some v.cause })
     if (!mine.isEmpty) = true then
       let r := u.updTile t (fun x => { x with unsettled := x.unsettled.filter (fun u => !(u.1 == sid && u.2.1 == strip)) })
       if v.cause = 0 then r else mine.foldl (fun s u => s.reject u.2.2.1 u.2.2.2) r
     else if (((s.tile t).strip sid strip).map (fun b => b.partner.isNone)).getD false then u
     else w.updTile t (fun x => { x with verdicts := x.verdicts ++ [{ v with arrived := true }] })) := by
  simp only [State.verdictReceive, State.tileN_val, found, up, carries, Bool.not_true, Bool.or_self, Bool.false_eq_true, if_false, State.updTileN_val]

end

end

/-- Settles O40: each step of a strip under its own conditions. -/
theorem stripsAreDecidedByTheirDeadline : Obligations.StripsAreDecidedByTheirDeadline := by
  unfold Obligations.StripsAreDecidedByTheirDeadline
  refine ⟨stripFate_eq, fun s t sid strip d ht pending on free full => ?start, fun s t sid strip st b d ht stream buf desc on decodes new => ?verified,
    ?deadline, fun s t st strip b ls => ⟨fun own => ?released, fun c own bad alone => ?blank⟩, ?verdict, ?mended⟩
  case start =>
    refine onTile_gives ht ?_
    simp only [State.decodeStart, pending, State.tileN_val, full, Bool.false_and, Bool.not_false, Bool.and_true]
    exact whenDue_true (by rw [on, decide_eq_true free]; rfl)
  case verified =>
    refine onTile_gives ht ?_
    simp only [State.stripVerified, State.tileN_val, stream, buf, desc]
    exact whenDue_true (by rw [on, decodes, new]; rfl)
  case deadline =>
    intro s t sid strip st d p lo ls ht stream desc reads b open_ late
    exact onTile_gives ht (State.stripDeadline_due stream desc reads open_ late)
  case released => exact State.decideStrip_own own ls
  case blank =>
    have fate (pv : Option Nat) : stripFate c (s.tileN (partnerOf t.val)).carries pv = 3 := by simp [stripFate_eq, bad, alone]
    refine (State.decideStrip_own own ls).trans ?_
    simp only [fate, if_true]
  case verdict =>
    intro s t sid strip v ht found up carries mine w u
    have takes := State.verdictReceive_takes found up carries
    refine ⟨fun some => ?_, fun b none held open_ => ?_, fun none absent => ?_⟩
    all_goals refine onTile_gives ht (takes.trans ?_)
    · have waits : (!mine.isEmpty) = true := by simp [some]
      exact if_pos waits
    · have settled : (!mine.isEmpty) = false := by simp [none]
      exact (if_neg (ne_true_of_eq_false settled)).trans (if_pos (by simp [held, open_]))
    · have settled : (!mine.isEmpty) = false := by simp [none]
      exact (if_neg (ne_true_of_eq_false settled)).trans (if_neg (by simp [absent]))
  case mended =>
    intro s t sid strip st b d c ht stream buf desc mend up takes own bad passed loc u v w
    refine onTile_gives ht ?_
    have due : (b.mend && vget s.linkUp (t.val / 2) true && (s.tileN (partnerOf t.val)).takes && (b.own.map (fun c => decide (c ≠ 0))).getD false &&
        b.partner == some 0) = true := by
      simp [mend, up, takes, own, bad, passed]
    simp only [State.stripMend, State.tileN_val, stream, buf, desc]
    refine (whenDue_true due).trans ?_
    have fails (x : State) : (if v.1 = 0 then x.raiseN t.val Ev.stripMended [t.val / 2, st.surf, strip] else x.stripFails t.val st.surf strip v.1) =
        if v.1 = 0 then x.raise t Ev.stripMended [t.val / 2, st.surf, strip] else x.raise t Ev.stripCheckFail [t.val / 2, st.surf, strip, v.1] := by
      simp only [State.raiseN, tileIx_val, State.stripFails]
      split
      · rfl
      · rfl
    exact fails w

section
variable {s : State}

/-! ## Calendars (05 R165 to R170) -/

/-- The master's calendar after a rollover. -/
theorem State.rollover_master (small : s.lead.tile < 2) :
    let n : Int := ((s.master.sec + 1) * crystal : Nat) + s.master.step.getD 0
    s.rollover.master = { s.master with
      sec := (n / crystal).toNat % 2 ^ 40, sub := (n % crystal).toNat, tau := s.now, valid := s.master.valid || s.master.step.isSome, step := none } := by
  simp only [State.rollover]
  split
  all_goals exact vget_vupd_eq _ _ _ _ small

/-- TIME exchanges of a node have failed for sixteen intervals. -/
def State.exchangeLate (s : State) (h : Hop) : Bool :=
  s.link.servos.any (fun x => x.hop == h) &&
    decide ((s.servo h).doneAt + 16 * (if (s.servo h).interval = 0 then s.itemN Pid.wylTimeInt else (s.servo h).interval) < s.now)

theorem State.exchangeTimeout_node {h : Hop} (node : h ≠ .up) (late : s.exchangeLate h = true) :
    (∀ n, s.hopNode h = some n → s.exchangeTimeout h = (let u := s.updServo h (fun v => { v with aligned := false, good := 0 })
      if n.nodeSt = 4 then u.updNode n.id (fun x => { x with nodeSt := 2 }) else u)) ∧
    (s.hopNode h = none → s.exchangeTimeout h = s.updServo h (fun v => { v with aligned := false, good := 0 })) := by
  unfold State.exchangeTimeout
  refine ⟨fun n found => (whenDue_true late).trans ?_, fun none => (whenDue_true late).trans ?_⟩
  all_goals
    cases h with
    | up => exact absurd rfl node
    | down t l => simp only [*]
    | node id => simp only [*]

/-- TIME of a tile is compared with the master's once in 1,024 ticks. -/
theorem State.alignCheck_checks {t : Tile} (other : t ≠ 0) (due : ∀ a, (s.tile t).alignAt = some a → a + 1024 ≤ s.now) (d : Int) :
    s.alignCheck t.val d = (let ok := decide (d.natAbs ≤ 2)
      let u := s.updTile t (fun x => { x with skew := d, timeMin := s.tileNow t, alignAt := some s.now, slew := slewOf d }.assay 1 ok)
      if ok then u else ((u.raise t Ev.timeAlignFault [t.val, wrapS 64 d]).withdraw t.val 4).motionRole) := by
  have checks : (decide (t.val = 0) || ((s.tile t).alignAt.map (fun a => decide (s.now < a + 1024))).getD false) = false := by
    have other' : t.val ≠ 0 := fun h => other (Fin.ext h)
    cases h : (s.tile t).alignAt with
    | none => simp [other']
    | some a => simp [other', due a h]
  simp only [State.alignCheck, State.tileN_val, checks, Bool.false_eq_true, if_false, State.updTileN_val, tileIx_val, State.raiseN]

end

/-- Settles O41: rollovers, lost supplies and discipline, slews, and what comes of TIME exchanges, alignment and announcements. -/
theorem calendarsAndTimeLossAreHandled : Obligations.CalendarsAndTimeLossAreHandled := by
  unfold Obligations.CalendarsAndTimeLossAreHandled
  refine ⟨fun s => ⟨rfl, ?rollover, ?invalid, fun src new late => ?lost, fun no => ?kept, fun w slew => ⟨fun all => ?ends, fun more => ?goes⟩⟩,
    fun s any late => ?press, ?node, fun s t d ht => ⟨fun first => ?first, fun a at_ early => ?early, ?align⟩, ?announce, fun s sec tau no => ?ignored⟩
  case rollover =>
    intro small n
    have master := State.rollover_master small
    exact ⟨congrArg Cal.sec master, congrArg Cal.sub master, congrArg Cal.tau master, congrArg Cal.step master, congrArg Cal.valid master⟩
  case invalid =>
    intro k u
    refine ⟨fun other => ?_, fun lead => ?_⟩
    · exact congrArg Host.Outcome.next (congrArg (fun v : State => v.raiseLead Ev.calInvalid [k.val]) (if_neg other))
    · exact congrArg Host.Outcome.next (congrArg (fun v : State => v.raiseLead Ev.calInvalid [k.val]) (if_pos lead))
  case lost => exact congrArg Host.Outcome.next (if_pos (by simp [src, new, late]))
  case kept =>
    refine congrArg Host.Outcome.next (if_neg ?_)
    rcases no with src | lost | early
    · simp [src]
    · simp [lost]
    · simp [Nat.not_lt.mpr early]
  case ends =>
    refine congrArg Host.Outcome.next ?_
    simp only [State.calSlewed, slew, all, if_true]
  case goes =>
    refine congrArg Host.Outcome.next ?_
    simp only [State.calSlewed, slew, more, if_false]
  case press => exact congrArg Host.Outcome.next (whenDue_true (by rw [any, decide_eq_true late]; rfl))
  case node =>
    intro s h node any late u
    obtain ⟨known, unknown⟩ := State.exchangeTimeout_node node (s := s) (by rw [State.exchangeLate, any, decide_eq_true late]; rfl)
    exact ⟨fun n found => congrArg Host.Outcome.next (known n found), fun none => congrArg Host.Outcome.next (unknown none)⟩
  case first => exact onTile_gives ht (if_pos (by rw [first]; rfl))
  case early => exact onTile_gives ht (if_pos (by simp [at_, early]))
  case align =>
    intro other due slew u
    have checks := State.alignCheck_checks other due d
    refine ⟨fun near => ?_, fun far => ?_⟩
    · rw [decide_eq_true near] at checks
      exact onTile_gives ht checks
    · rw [decide_eq_false (Nat.not_le.mpr far)] at checks
      exact onTile_gives ht checks
  case announce =>
    intro s sec tau role src d u
    have due (below : s.calBelow d = false) : (decide (s.link.role = 0 ∧ s.marks.src = 2) && !s.calBelow d) = true := by
      rw [decide_eq_true ⟨role, src⟩, below]
      rfl
    refine ⟨fun below => ?_, fun above same => ?_, fun above other => ?_⟩
    · exact congrArg Host.Outcome.next (whenDue_false (Bool.and_eq_false_imp.mpr fun _ => by rw [Bool.not_eq_false']; exact below))
    · exact congrArg Host.Outcome.next ((whenDue_true (due above)).trans (if_pos same))
    · exact congrArg Host.Outcome.next ((whenDue_true (due above)).trans (if_neg (ne_true_of_eq_false other)))
  case ignored =>
    refine congrArg Host.Outcome.next (whenDue_false ?_)
    rw [decide_eq_false fun h => no.elim (absurd h.1) (absurd h.2), Bool.false_and]

end Sys2Proof.Machine
end

section
/-! PROOF of TIME exchanges, of nodes from their HELLO to their leave, and of CTRL and slave packages (10 R322 to R341). -/

namespace Sys2Proof.Machine

section
variable {s : State} {h : Hop}

/-! ## TIME exchanges (10 R322 to R326) -/

theorem State.syncReceive_up (up : s.hopUp h = true) (xseq t1 t2 : Nat) :
    let u := s.updServo h (fun v => { v with
      xseq := xseq % 256, t1 := some t1, t2 := some t2, t3 := some (s.stampNow h), syncAt := s.now, interval := s.itemN Pid.wylTimeInt
      doneAt := if v.doneAt = 0 then s.now else v.doneAt })
    (h = .up → s.syncReceive h xseq t1 t2 = u.sendFrame
      { tile := s.lead.tile, lane := 8, type := 3, node := 0, fields := [1, xseq % 256, s.stampNow .up] }) ∧
    (h ≠ .up → s.syncReceive h xseq t1 t2 = u) := by
  refine ⟨fun master => (whenDue_true up).trans ?_, fun node => (whenDue_true up).trans ?_⟩
  · subst master
    rfl
  · cases h with
    | up => exact absurd rfl node
    | down t l => rfl
    | node id => rfl

/-- A complete exchange: its stamps are dropped, or the servo takes it, and the package's own servo steps TIME. -/
theorem State.respReceive_whole {xseq t4 a b c : Nat} (up : s.hopUp h = true) (seq : (s.servo h).xseq = xseq % 256) (ha : (s.servo h).t1 = some a)
    (hb : (s.servo h).t2 = some b) (hc : (s.servo h).t3 = some c) :
    let steps := h == .up && (!s.armed || s.allTime)
    ((s.servo h).exchange a b c t4 steps = none → s.respReceive h xseq t4 = s.updServo h (fun v => { v with t1 := none, t2 := none, t3 := none })) ∧
    (∀ v o, (s.servo h).exchange a b c t4 steps = some (v, some o) →
      s.respReceive h xseq t4 = ((s.updServo h (fun _ => { v with doneAt := s.now })).stepTime o).aligned h) ∧
    (∀ v, (s.servo h).exchange a b c t4 steps = some (v, none) →
      s.respReceive h xseq t4 = (s.updServo h (fun _ => { v with doneAt := s.now })).aligned h) := by
  have due : (s.hopUp h && (s.servo h).xseq == xseq % 256) = true := by simp [up, seq]
  refine ⟨fun out => ?_, fun v o out => ?_, fun v out => ?_⟩
  all_goals
    simp only [State.respReceive, ha, hb, hc, out]
    exact whenDue_true due

/-- The servo over four stamps: its offset and delay, its runs, and its step or its rate. -/
theorem Servo.exchange_stamps (v : Servo) (t1 t2 t3 t4 : Int) (steps : Bool) :
    (t2 - t1 + (t4 - t3) < 0 ∨ 12_800_000 < t2 - t1 + (t4 - t3) → v.exchange t1 t2 t3 t4 steps = none) ∧
    (0 ≤ t2 - t1 + (t4 - t3) → t2 - t1 + (t4 - t3) ≤ 12_800_000 → ∃ w x, v.exchange t1 t2 t3 t4 steps = some (w, x) ∧
      w.o = (t2 - t1 - (t4 - t3)).tdiv 2 ∧ w.d = (t2 - t1 + (t4 - t3)).tdiv 2 ∧
      w.bad = (if 512 < w.o.natAbs then v.bad + 1 else 0) ∧ w.good = (if w.o.natAbs ≤ 256 then v.good + 1 else 0) ∧
      (steps = true → x = some (-w.o)) ∧ (steps = false → x = none ∧ w.rate = v.rate - w.o.tdiv 16)) := by
  refine ⟨fun out => if_pos out, fun low high => ?_⟩
  have inside : ¬(t2 - t1 + (t4 - t3) < 0 ∨ 12_800_000 < t2 - t1 + (t4 - t3)) := by omega
  simp only [Servo.exchange, if_neg inside]
  cases steps with
  | true => exact ⟨_, _, rfl, rfl, rfl, rfl, rfl, fun _ => rfl, nofun⟩
  | false => exact ⟨_, _, rfl, rfl, rfl, rfl, rfl, nofun, fun _ => ⟨rfl, rfl⟩⟩

end

/-- Settles O42: SYNC, REQ and RESP on a hop, and the servo over their stamps. -/
theorem timeExchangesRunTheServo : Obligations.TimeExchangesRunTheServo := by
  unfold Obligations.TimeExchangesRunTheServo
  refine ⟨fun s h up node due => ?sync, ?receive, fun s h xseq t3 t4 a up node seq stamp => ?req, ?resp, Servo.exchange_stamps⟩
  case sync => exact congrArg Host.Outcome.next (whenDue_true (by simp [up, node, due]))
  case receive =>
    intro s h xseq t1 t2 up u
    obtain ⟨master, node⟩ := State.syncReceive_up up xseq t1 t2
    exact ⟨fun is => congrArg Host.Outcome.next (master is), fun is => congrArg Host.Outcome.next (node is)⟩
  case req =>
    refine congrArg Host.Outcome.next ((whenDue_true (by simp [up, node, seq, stamp])).trans ?_)
    rw [stamp]
    rfl
  case resp =>
    intro s h xseq t4 a b c up seq ha hb hc steps
    obtain ⟨dropped, stepped, slewed⟩ := State.respReceive_whole (t4 := t4) up seq ha hb hc
    exact ⟨fun out => congrArg Host.Outcome.next (dropped out), fun v o out => congrArg Host.Outcome.next (stepped v o out),
      fun v out => congrArg Host.Outcome.next (slewed v out)⟩

/-! ## Nodes (10 R329 to R339) -/

section
variable {s : State} {t l id : Nat} {f : Hello}

/-- HELLO on a lane that is up: what the node joins or stays as. -/
theorem State.helloReceive_up (up : (s.lnkOn t l && (s.tileN t).laneUp l) = true) :
    let g := { f with depth := s.depthOf f }
    (f.id = none → s.link.table.lookup f.uid = none → s.helloReceive t l f = (s.helloBase f).nodeStays g Ev.nodeUnknown 0) ∧
    (∀ id, f.id = none → s.link.table.lookup f.uid = some id → s.helloReceive t l f =
      if s.idTaken f.uid id then (s.helloBase f).nodeStays g Ev.nodeIdConflict id
      else if 4 < g.depth then (s.helloBase f).nodeDeep t l id g
      else ((s.helloBase f).nodeHello t l id { g with state := 1 }).sendCtrl id 0 [id]) ∧
    (∀ id, f.id = some id → s.helloReceive t l f =
      if (decide (id = 0) && f.kind != 1 || s.idTaken f.uid id) = true then (s.helloBase f).nodeStays g Ev.nodeIdConflict id
      else if 4 < g.depth then (s.helloBase f).nodeDeep t l id g else (s.helloBase f).nodeHello t l id g) := by
  refine ⟨fun none unknown => ?_, fun id none known => ?_, fun id own => ?_⟩
  · simp only [State.helloReceive, up, none, unknown, Bool.not_true, Bool.false_eq_true, if_false]
  · simp only [State.helloReceive, up, none, known, Bool.not_true, Bool.false_eq_true, if_false]
  · simp only [State.helloReceive, up, own, Bool.not_true, Bool.false_eq_true, if_false]

end

/-- Settles O43: HELLO by what is known of the node, STATUS and its absence, and EVENT by its sequence. -/
theorem nodesJoinReportAndLeave : Obligations.NodesJoinReportAndLeave := by
  unfold Obligations.NodesJoinReportAndLeave
  refine ⟨?hello, fun s t l f ht => ⟨fun down => ?down, ?up⟩, fun s f none => ?stranger, fun s f x found real temps health ready st line => ?status,
    fun s id x a found at_ st => ⟨fun late => ?late, fun early => ?early⟩, fun s node code eseq data x found assigned => ⟨fun same => ?again, fun new => ?event⟩⟩
  case hello =>
    intro s h up due f
    refine congrArg Host.Outcome.next (whenDue_true ?_)
    have period : (s.servo h).helloAt + (if (h == .up && decide (s.selfNode.nodeSt = 1)) = true then 25_000 else 250_000) ≤ s.now := by
      split <;> omega
    simp only [up, Bool.true_and]
    rw [decide_eq_true period, Bool.true_or]
  case down => exact onTile_gives ht (if_pos (by rw [State.tileN_val, down]; rfl))
  case up =>
    intro on upL g
    obtain ⟨unknown, listed, own⟩ := State.helloReceive_up (s := s) (t := t.val) (l := l.val) (f := f) (by rw [State.tileN_val, on, upL]; rfl)
    refine ⟨fun none no => ?_, fun id none known taken => ?_, fun id none known free near => ?_, fun id own_ real free near => ?_,
      fun id which free deep => ?_, fun id own_ taken => ?_⟩
    all_goals refine onTile_gives ht ?_
    · exact unknown none no
    · exact (listed id none known).trans (if_pos taken)
    · exact (listed id none known).trans ((if_neg (ne_true_of_eq_false free)).trans (if_neg (Nat.not_lt.mpr near)))
    · have good : (decide (id = 0) && f.kind != 1 || s.idTaken f.uid id) = false := by
        rcases real with some | package
        · simp [some, free]
        · simp [package, free]
      exact (own id own_).trans ((if_neg (ne_true_of_eq_false good)).trans (if_neg (Nat.not_lt.mpr near)))
    · rcases which with ⟨own_, real⟩ | ⟨none, known⟩
      · have good : (decide (id = 0) && f.kind != 1 || s.idTaken f.uid id) = false := by
          rcases real with some | package
          · simp [some, free]
          · simp [package, free]
        exact (own id own_).trans ((if_neg (ne_true_of_eq_false good)).trans (if_pos deep))
      · exact (listed id none known).trans ((if_neg (ne_true_of_eq_false free)).trans (if_pos deep))
    · exact (own id own_).trans (if_pos (by simp [taken]))
  case stranger =>
    refine congrArg Host.Outcome.next ?_
    simp only [State.statusReceive, none]
  case status =>
    refine congrArg Host.Outcome.next ?_
    have joined : x.readyLine.isNone = false := by simpa [Option.isNone_iff_eq_none, Option.isSome_iff_ne_none] using line
    simp [State.statusReceive, found, real, temps, health, ready, joined]
  case late =>
    refine congrArg Host.Outcome.next ?_
    simp only [State.statusTimeout, found, at_]
    exact whenDue_true (decide_eq_true ⟨st, late⟩)
  case early =>
    refine congrArg Host.Outcome.next ?_
    simp only [State.statusTimeout, found, at_]
    exact whenDue_false (decide_eq_false fun h => Nat.not_lt.mpr early h.2)
  case again => exact congrArg Host.Outcome.next (whenDue_false (by simp [found, same]))
  case event =>
    refine congrArg Host.Outcome.next (whenDue_true ?_)
    rcases assigned with alarm | own
    · subst alarm
      simp [found, new]
    · simp [found, new, own]

/-! ## CTRL and slave packages (10 R337 to R341) -/

section
variable {s : State} {f : CtrlFrame} {r : CtrlReq} {e : StoreEntry}

theorem Node.ctrl_read (x : Node) (fr : Nat) (read : f.op = 0) : let vs := (List.range f.count).map (fun i => x.readAt fr (f.addr + 4 * i))
    (x.ctrl fr f).1 = x ∧ (x.ctrl fr f).2 = (if vs.all (·.isSome) then
      { f with op := 2, count := vs.length, data := (vs.map (·.getD 0)).map dword } else { f with op := 4, count := 1, data := [dword 1] }) := by
  intro vs
  simp only [Node.ctrl, read, if_true]
  split
  · exact ⟨rfl, by simp [vs]⟩
  · exact ⟨rfl, rfl⟩

theorem Node.ctrl_write (x : Node) (fr : Nat) (write : f.op = 1) :
    (∀ m, x.writeAll fr f.addr (f.data.map (fun (d : U32) => d.toNat)) = .ok m → (x.ctrl fr f).1 = m ∧ (x.ctrl fr f).2.op = 3) ∧
    (∀ e, x.writeAll fr f.addr (f.data.map (fun (d : U32) => d.toNat)) = .error e → (x.ctrl fr f).1 = x ∧ (x.ctrl fr f).2.op = 4) := by
  refine ⟨fun m taken => ?_, fun e refused => ?_⟩
  · simp [Node.ctrl, write, taken]
  · simp [Node.ctrl, write, refused]

section
variable (found : s.link.ctrl.find? (fun r => r.f.ctag == f.ctag && r.f.node == f.node) = some r) (he : s.entry r.seq = some e)
include found he

/-- The data of a read reach host memory, and the request completes. -/
theorem State.ctrlAnswer_data (read : r.f.op = 0) (data : f.op = 2) (whole : f.data.length = r.f.count) : s.ctrlAnswer f =
    ((({ s with link := { s.link with ctrl := s.link.ctrl.filter (fun q => q.seq != r.seq) } } : State).hostWrite (e.p.ha 5)
      (f.data.flatMap (fun (d : U32) => leBytes 4 d.toNat))).done r.seq St.ok) := by
  simp [State.ctrlAnswer, found, he, read, data, whole]

omit he in
theorem State.ctrlAnswer_nak (nak : f.op = 4) : s.ctrlAnswer f =
    (({ s with link := { s.link with ctrl := s.link.ctrl.filter (fun q => q.seq != r.seq) } } : State).complete r.seq St.nodeNak
      ((f.data.head?.map (fun (d : U32) => d.toNat)).getD 0) 0) := by
  simp [State.ctrlAnswer, found, nak]

end

end

/-- Settles O44: a slave's positions and products, CTRL at the node that answers, and its answer at the package. -/
theorem controlAndSlavePackagesAnswer : Obligations.ControlAndSlavePackagesAnswer := by
  unfold Obligations.ControlAndSlavePackagesAnswer
  refine ⟨fun s => ⟨fun e slave armed fresh => ?position, fun e no => ?ignored, fun lane num first slave takes next used => ?product, fun lane num first master => ?master⟩,
    fun s => ⟨fun f x ok other found => ?request, fun f bad => ?bad, fun x fr f read => Node.ctrl_read x fr read, fun x fr f write => Node.ctrl_write x fr write,
    fun f r e found he open_ read data whole => ?data, fun f r e found he open_ nak => ?nak, fun seq r found late => ⟨fun more => ?again, fun spent => ?ends⟩⟩⟩
  case position => exact congrArg Host.Outcome.next (whenDue_true (by rw [decide_eq_true slave, armed, decide_eq_true fresh]; rfl))
  case ignored =>
    refine congrArg Host.Outcome.next (whenDue_false ?_)
    rcases no with master | idle | old
    · simp [master]
    · simp [idle]
    · simp [Nat.not_lt.mpr old]
  case product => exact congrArg Host.Outcome.next (whenDue_true (by rw [decide_eq_true slave, takes, decide_eq_true ⟨next, used⟩]; rfl))
  case master => exact congrArg Host.Outcome.next (whenDue_false (by simp [master]))
  case request =>
    refine congrArg Host.Outcome.next ?_
    simp only [State.ctrlRequest, ok, other, found, Bool.not_true, Bool.false_eq_true, if_false, false_and]
  case bad => exact congrArg Host.Outcome.next (if_pos (by rw [bad]; rfl))
  case data =>
    refine ⟨_, congrArg Host.Outcome.next (State.ctrlAnswer_data found he read data whole), State.done_done _ _ _ ?_ open_, ?_, ?_⟩
    · exact he
    · rw [State.done_host]
      rfl
    · rw [State.done_link]
      rfl
  case nak =>
    refine ⟨_, congrArg Host.Outcome.next (State.ctrlAnswer_nak found nak), ?_, State.complete_done _ _ _ _ _ ?_ open_⟩
    · rw [State.complete_host]
    · exact he
  case again =>
    refine congrArg Host.Outcome.next ?_
    simp only [State.ctrlTimeout, found, more, if_true]
    exact whenDue_true (decide_eq_true late)
  case ends =>
    refine congrArg Host.Outcome.next ?_
    simp only [State.ctrlTimeout, found, Nat.not_lt.mpr spent, if_false]
    exact whenDue_true (decide_eq_true late)

end Sys2Proof.Machine
end

section
/-! PROOF of the registration loop: its states, its causes of loss and its references (06 R214 to R218). -/

namespace Sys2Proof.Machine

section
variable {s : State}

/-- A cause that holds on an input the lattice uses, not yet in force, takes the loop to LOST. -/
theorem State.lensLost_fresh {cause : Nat} (known : cause < 4) (new : bit s.motion.lens.causes cause = false) (holds : s.lensCause cause = true) :
    s.lensLost cause = (s.updLens (fun l => { l with
      st := .lost, causes := l.causes ||| 2 ^ cause
      hurt := (s.motion.lens.hurt * boolNat (!decide (s.motion.lens.st ≠ .lost ∧ s.motion.lens.st ≠ .reacquire))) ||| s.causeInputs cause
      entry := if decide (s.motion.lens.st ≠ .lost ∧ s.motion.lens.st ≠ .reacquire) then s.lensLine else l.entry
      holdRaised := l.holdRaised && !decide (s.motion.lens.st ≠ .lost ∧ s.motion.lens.st ≠ .reacquire)
      slip := l.slip && decide (cause ≠ 1), need := if l.acquireAt.isSome then l.need else 0, inRange := 0 })).raiseMot
        Ev.lensTrackLost [cause, s.lensLine] :=
  if_pos ⟨known, holds, by rw [new]; rfl⟩

theorem State.lensLost_still {cause : Nat} (no : 4 ≤ cause ∨ s.lensCause cause = false ∨ (cause ≠ 0 ∧ bit s.motion.lens.causes cause = true)) :
    s.lensLost cause = s := by
  refine if_neg fun ⟨known, holds, fresh⟩ => ?_
  rcases no with unknown | ended | ⟨other, old⟩
  · omega
  · exact absurd holds (by simp [ended])
  · simp [old, other] at fresh

/-- An index is no reference where its input needs none, or the index is from before the references count. -/
theorem State.lensIndex_still {i : Nat} (no : bit s.motion.lens.need (i - 1) = false ∨ ¬ ∃ a, (s.enc i).indexAt = some a ∧ s.motion.lens.refFrom ≤ a) :
    s.lensIndex i = s := by
  refine if_pos (.inr ?_)
  rcases no with idle | old
  · exact .inl (by rw [idle]; rfl)
  · refine .inr ?_
    have none_ : (s.enc i).indexAt.any (fun a => decide (s.motion.lens.refFrom ≤ a)) = false := by
      rw [Bool.eq_false_iff]
      exact fun seen => old (by simpa [Option.any_eq_true] using seen)
    exact (congrArg (!·) none_).trans rfl

section
variable {i : Nat} (lens : i ≠ 0) (needed : bit s.motion.lens.need (i - 1) = true)
  (seen : ∃ a, (s.enc i).indexAt = some a ∧ s.motion.lens.refFrom ≤ a)
include lens needed seen

/-- The index counts as a reference that the loop waits for. -/
theorem State.lensIndex_counts : ¬(i = 0 ∨ (!bit s.motion.lens.need (i - 1)) = true ∨
    (!(vget s.motion.enc i Enc.reset).indexAt.any (fun a => decide (s.motion.lens.refFrom ≤ a))) = true) := by
  obtain ⟨a, at_, since⟩ := seen
  have counts : (vget s.motion.enc i Enc.reset).indexAt.any (fun a => decide (s.motion.lens.refFrom ≤ a)) = true := by
    rw [show (vget s.motion.enc i Enc.reset).indexAt = some a from at_]
    exact decide_eq_true since
  simp [lens, needed, counts]

/-- In an acquisition the count of the sensor is set at its place; the last reference starts the loop. -/
theorem State.lensIndex_acquires {a : Nat} (acquires : s.motion.lens.acquireAt = some a) :
    let c := s.lensCfg s.lensLine
    let left := s.motion.lens.need &&& (7 - 2 ^ (i - 1))
    let taken : Lens := { s.motion.lens with need := left, ref := vset s.motion.lens.ref (i - 1) (s.enc i).latched }
    let u := s.updLens (fun _ => if i = 1 then { taken with aL := c.xl * 2 ^ 32 } else if i = 2 then { taken with aR := c.xr * 2 ^ 32 }
      else { taken with r := 0 })
    s.lensIndex i = if left = 0 then u.lensAcquired else u :=
  (if_neg (State.lensIndex_counts lens needed seen)).trans (if_pos (by rw [acquires]; rfl))

/-- In a reacquisition the place of the sensor is tested against a whole number of pitches. -/
theorem State.lensIndex_reacquires (own : s.motion.lens.acquireAt = none) (st : s.motion.lens.st = .reacquire) (left_ : i = 1) :
    let c := s.lensCfg s.lensLine
    let l := s.motion.lens
    let t := reacqTest (c.xl * 2 ^ 32 - l.aL) (l.px c) c.tol
    let u := s.updLens (fun _ => { l with need := l.need &&& 6, aL := c.xl * 2 ^ 32 - t.1 * l.px c, ref := vset l.ref 0 (s.enc 1).latched })
    s.lensIndex i = if t.2.1 then (if l.need &&& 6 = 0 then u.lensTrackOk else u)
      else (s.updLens (fun l => { l with st := .lost, stuck := true, need := 0 })).raiseMot Ev.lensReacqFail [1, evInt t.2.2] := by
  intro c l t u
  refine (if_neg (State.lensIndex_counts lens needed seen)).trans ((if_neg (by rw [own]; nofun)).trans ((if_pos st).trans ?_))
  subst left_
  by_cases near : t.2.1 = true
  · exact (if_neg (show ¬(!t.2.1) = true by simp [near])).trans (if_pos near).symm
  · exact (if_pos (show (!t.2.1) = true by simp [near])).trans (if_neg near).symm

end

end

/-- Settles O46: the loop locks, is lost, holds and reacquires, and its references are taken in their place. -/
theorem lensLoopTakesReferences : Obligations.LensLoopTakesReferences := by
  unfold Obligations.LensLoopTakesReferences
  refine ⟨fun s => ⟨fun st good => ?lock, fun st bad => ?unlock, fun cause on_ other known new holds => ?lost, fun cause gone known new holds => ?further,
      fun cause no => congrArg Host.Outcome.next (State.lensLost_still no), fun st first late => ?expired, fun st free no ended => ?reacquire, fun st first late => ?fails⟩,
    fun s => ⟨rfl, fun i _ no => congrArg Host.Outcome.next (State.lensIndex_still no), fun a acquires needed seen => ?left, fun a acquires needed seen => ?right,
      fun a acquires needed seen => ?row, fun own st needed seen => ?again⟩⟩
  case lock => exact congrArg Host.Outcome.next (if_pos ⟨st, good⟩)
  case unlock => exact congrArg Host.Outcome.next (if_pos ⟨st, bad⟩)
  case lost =>
    refine congrArg Host.Outcome.next ((State.lensLost_fresh known new holds).trans ?_)
    rw [decide_eq_true ⟨on_, other⟩]
    simp [boolNat, State.lensLine]
  case further =>
    refine congrArg Host.Outcome.next ((State.lensLost_fresh known new holds).trans ?_)
    rw [decide_eq_false fun h => gone.elim h.1 h.2]
    simp [boolNat, State.updLens]
  case expired => exact congrArg Host.Outcome.next (if_pos ⟨st, by rw [first]; rfl, late⟩)
  case reacquire => exact congrArg Host.Outcome.next (if_pos ⟨st, by rw [free]; rfl, by rw [no]; rfl, ended⟩)
  case fails =>
    obtain ⟨m, by_, past⟩ := late
    exact congrArg Host.Outcome.next (if_pos ⟨st, by rw [first]; rfl, by rw [by_]; exact decide_eq_true past⟩)
  case left => exact congrArg Host.Outcome.next (State.lensIndex_acquires (i := 1) nofun needed seen acquires)
  case right => exact congrArg Host.Outcome.next (State.lensIndex_acquires (i := 2) nofun needed seen acquires)
  case row => exact congrArg Host.Outcome.next (State.lensIndex_acquires (i := 3) nofun needed seen acquires)
  case again => exact congrArg Host.Outcome.next (State.lensIndex_reacquires (i := 1) nofun needed seen own st rfl)

end Sys2Proof.Machine
end

section
/-! PROOF of colour reports: calibration readings, patches, their timeout and the calibration's expiry (08 R264 to R269). -/

namespace Sys2Proof.Machine

section
variable {s : State} {r : ColourReport}

/-- A reading of the calibration is kept; the last one makes the fit. -/
theorem State.calReport_reads {k : CalRun} (run : s.colour.cal = some k) (usable : readingOk r = true) (row : r.row < k.cert.length)
    (new : k.reads.any (fun e => e.1 == r.row) = false) (tile : r.zone = 0xFFFF) :
    let k' : CalRun := { k with reads := k.reads ++ [(r.row, reportLab r)] }
    let u := s.updColour (fun x => { x with cal := some k' })
    s.calReport r = if k.reads.length + 1 = k.cert.length then u.calFit k' else u := by
  intro k' u
  have taken : ¬(!readingOk r || decide (k.cert.length ≤ r.row) || k.reads.any (fun e => e.1 == r.row) || r.zone != 0xFFFF) = true := by
    simp only [usable, new, tile, decide_eq_false (Nat.not_le.mpr row)]
    decide
  have reads : k'.reads.length = k.reads.length + 1 := List.length_append
  simp only [State.calReport, run]
  rw [if_neg taken, ← reads]

section
variable {b : Band} (found : s.colour.bands.find? (fun b => b.num == r.band) = some b)
include found

theorem State.bandReport_takes (row : r.row < b.rowCount) (zone : s.colZones.contains r.zone = true)
    (new : b.patches.any (fun p => p.row == r.row && p.zone == r.zone) = false) (intime : s.motion.lastLine ≤ s.measureLine b r.row + b.tmo) :
    let cause := b.causeOf r.row r.zone (if readingOk r then 0 else 6)
    s.bandReport r = s.addPatches b [{ row := r.row, zone := r.zone, cause := cause, lab := if cause = 0 then some ((reportLab r).correct s.calGO.1 s.calGO.2) else none }] := by
  simp only [State.bandReport, found]
  refine if_neg ?_
  simp only [decide_eq_false (Nat.not_le.mpr row), zone, new, decide_eq_false (Nat.not_lt.mpr intime)]
  decide

theorem State.bandReport_drops (no : s.measureLine b r.row + b.tmo < s.motion.lastLine ∨
    b.patches.any (fun p => p.row == r.row && p.zone == r.zone) = true) : s.bandReport r = s := by
  simp only [State.bandReport, found]
  refine if_pos ?_
  rcases no with late | old
  · rw [decide_eq_true late, Bool.or_true]
  · rw [old, Bool.or_true, Bool.true_or]

end

end

theorem State.reportTimeout_missing {s : State} {band row : Nat} {b : Band} (found : s.colour.bands.find? (fun b => b.num == band) = some b)
    (known : row < b.rowCount) (late : s.measureLine b row + b.tmo < s.motion.lastLine) :
    let gone := s.colZones.filter (fun z => !b.patches.any (fun p => p.row == row && p.zone == z))
    gone ≠ [] → s.reportTimeout band row =
      (if b.missing then s else s.raiseLead Ev.patchMissing [band, gone.length]).addPatches { b with missing := true }
        (gone.map (fun z => { row := row, zone := z, lab := none, cause := b.causeOf row z 7 })) := by
  intro gone some_
  have due : ¬(decide (b.rowCount ≤ row) || gone.isEmpty || decide (s.motion.lastLine ≤ s.measureLine b row + b.tmo)) = true := by
    rw [decide_eq_false (Nat.not_le.mpr known), decide_eq_false (Nat.not_le.mpr late), List.isEmpty_eq_false_iff.mpr some_]
    decide
  simp only [State.reportTimeout, found]
  exact if_neg due

/-- Settles O47: a report goes to the calibration or to its band, a row without one in time is missing, an expired calibration is reported. -/
theorem colourReportsReachTheirBand : Obligations.ColourReportsReachTheirBand := by
  unfold Obligations.ColourReportsReachTheirBand
  refine fun s => ⟨fun r reserved => ?reserved, fun r k plain own run usable row new tile => ?reading, fun r b plain other found row zone new intime => ?patch,
    fun r b other found no => ?dropped, fun band row b found known late some_ => ?missing, fun d expired due => ?due, fun no => ?quiet⟩
  case reserved => exact congrArg Host.Outcome.next (if_pos reserved)
  case reading =>
    exact congrArg Host.Outcome.next ((if_neg (Nat.not_le.mpr plain)).trans ((if_pos own).trans (State.calReport_reads run usable row new tile)))
  case patch =>
    exact congrArg Host.Outcome.next ((if_neg (Nat.not_le.mpr plain)).trans ((if_neg other).trans (State.bandReport_takes found row zone new intime)))
  case dropped =>
    refine congrArg Host.Outcome.next ?_
    by_cases reserved : 8 ≤ r.flags
    · exact if_pos reserved
    · exact (if_neg reserved).trans ((if_neg other).trans (State.bandReport_drops found no))
  case missing => exact congrArg Host.Outcome.next (State.reportTimeout_missing found known late some_)
  case due =>
    refine congrArg Host.Outcome.next ?_
    simp only [State.calDue, expired]
    exact if_neg due
  case quiet =>
    refine congrArg Host.Outcome.next ?_
    rcases no with valid | today
    · simp only [State.calDue, valid]
    · simp only [State.calDue]
      split
      · rfl
      · exact if_pos today

end Sys2Proof.Machine
end

section
/-! PROOF of block lock, training and the failure of lanes (10 R307; 16 R503 to R505, R508). -/

namespace Sys2Proof.Machine

/-! ## What leaves a lane as it is -/

section
variable {s : State} {t : Tile} {l : Fin 10}

/-- A change of a tile beside its lanes. -/
theorem State.lnk_updTile {k : Tile} {f : TileState → TileState} (keeps : ∀ x, (f x).lanes = x.lanes) (n m : Nat) :
    (s.updTile k f).lnk n m = s.lnk n m := by
  simp only [State.lnk, State.tileN, TileState.lane]
  by_cases here : tileIx n = k
  · subst here
    rw [State.tile_updTile, keeps]
  · rw [State.tile_updTile_ne s k _ f here]

theorem TileState.occur_lanes (x : TileState) (r : LogRec) : (x.occur r).lanes = x.lanes := by
  unfold TileState.occur
  split <;> rfl

theorem State.lnk_raiseN (k src : Nat) (data : List Nat) (n m : Nat) : (s.raiseN k src data).lnk n m = s.lnk n m :=
  State.lnk_updTile (fun x => x.occur_lanes _) n m

theorem State.lnk_tallyLane (k i j n m : Nat) : (s.tallyLane k i j).lnk n m = s.lnk n m := by
  unfold State.tallyLane State.updTileN
  refine State.lnk_updTile ?_ n m
  exact fun _ => rfl

theorem State.lnk_discard (i j : Nat) : (s.discard t.val l.val i).lnk t.val j = (s.updLnk t.val l.val (fun x => { x with disc := vupd x.disc i 0 (satInc 32) })).lnk t.val j :=
  State.lnk_tallyLane _ _ _ _ _

theorem State.lnk_complete (seq st a b n m : Nat) : (s.complete seq st a b).lnk n m = s.lnk n m := by
  simp only [State.lnk, State.tileN, State.tile, State.complete_tiles]

/-- A lane without its action. -/
def LaneHw.actionless (x : LaneHw) : LaneHw := { x with action := none }

/-- The action of a lane ends: its packet completes, and the lane is left as it is. -/
theorem State.endAction_ends (status : Nat) :
    (s.endAction t.val l.val status).lnk t.val l.val = (s.lnk t.val l.val).actionless ∧
    (s.endAction t.val l.val status).job = s.job ∧ (s.endAction t.val l.val status).stores = s.stores ∧
    (∀ q a e, (s.lnk t.val l.val).action = some (q, a) → s.entry q = some e → e.st ≠ .done → (s.endAction t.val l.val status).DoneWith q status 0 0) := by
  rw [State.endAction]
  split
  · next q a acts =>
    refine ⟨(State.lnk_complete _ _ _ _ _ _).trans (State.lnk_updLnk ..), State.done_job .., State.done_stores .., fun q' a' e same found open_ => ?_⟩
    cases same.symm.trans acts
    exact State.done_done _ _ _ found open_
  · next idle => exact ⟨by rw [LaneHw.actionless, ← idle], rfl, rfl, fun q a e acts => nomatch idle.symm.trans acts⟩

end

/-! ## Block lock (10 R307) -/

section
variable {s : State} {t : Tile} {l : Fin 10} {b : Block} (on_ : s.lnkOn t.val l.val = true) (receives : (s.lnk t.val l.val).receives = true)
include on_ receives

/-- A block that a receiver sees. -/
theorem State.rxBlock_sees : s.rxBlock t l b =
    let x := s.lnk t.val l.val
    let u := s.updLnk t.val l.val (fun _ => x.see b)
    if !x.lock then (if (x.see b).locks then u.lockAcquired t.val l.val else u)
    else if (x.see b).loses then u.lockLost t.val l.val
    else if x.st = 2 ∧ x.rxslp = 0 then u.takeBlock t l b (x.payload b)
    else u :=
  if_neg (by rw [on_, receives]; nofun)

omit on_ receives in
/-- The header of a block counts, whatever becomes of it. -/
theorem State.updLnk_see (f : LaneHw → LaneHw) :
    (s.updLnk t.val l.val (fun _ => (s.lnk t.val l.val).see b)).updLnk t.val l.val f = s.updLnk t.val l.val (fun x => f (x.see b)) := by
  rw [State.updLnk_updLnk]
  rfl

omit on_ receives in
/-- 64 good headers in a row give lock. -/
theorem LaneHw.see_locks {x : LaneHw} : (x.see b).locks = true ↔ syncOk b = true ∧ 63 ≤ x.heads.length ∧ ∀ h ∈ x.heads.take 63, h = true := by
  simp [LaneHw.locks, LaneHw.see, List.length_take]
  constructor
  · rintro ⟨long, ok, all⟩
    exact ⟨ok, by omega, all⟩
  · rintro ⟨ok, long, all⟩
    exact ⟨by omega, ok, all⟩

theorem State.rxBlock_locks (out : (s.lnk t.val l.val).lock = false) (good : syncOk b = true) (long : 63 ≤ (s.lnk t.val l.val).heads.length)
    (all : ∀ h ∈ (s.lnk t.val l.val).heads.take 63, h = true) :
    s.rxBlock t l b = s.updLnk t.val l.val (fun x => { x.see b with lock := true, lockRun := 0, elastic := 32, outSince := none }) := by
  rw [State.rxBlock_sees on_ receives]
  refine (if_pos (by rw [out]; rfl)).trans ((if_pos (LaneHw.see_locks.mpr ⟨good, long, all⟩)).trans ?_)
  rw [State.lockAcquired, State.lnkOn_updLnk, State.lnk_updLnk, State.updLnk_see]
  exact whenDue_true (by rw [on_, show ((s.lnk t.val l.val).see b).lock = false from out, show ((s.lnk t.val l.val).see b).receives = true from receives]; rfl)

theorem State.rxBlock_unlocked (out : (s.lnk t.val l.val).lock = false)
    (no : syncOk b = false ∨ ((s.lnk t.val l.val).heads.take 63).length < 63 ∨ ∃ h ∈ (s.lnk t.val l.val).heads.take 63, h = false) :
    s.rxBlock t l b = s.updLnk t.val l.val (fun x => x.see b) := by
  rw [State.rxBlock_sees on_ receives]
  refine (if_pos (by rw [out]; rfl)).trans (if_neg fun locks => ?_)
  obtain ⟨good, long, all⟩ := LaneHw.see_locks.mp locks
  rcases no with bad | short | ⟨h, member, bad⟩
  · exact absurd good (by simp [bad])
  · rw [List.length_take] at short
    omega
  · exact absurd (all h member) (by simp [bad])

theorem State.rxBlock_loses (in_ : (s.lnk t.val l.val).lock = true)
    (many : 16 ≤ ((syncOk b :: (s.lnk t.val l.val).heads.take 63).filter (fun h => !h)).length) :
    let x := s.lnk t.val l.val
    let u := s.updLnk t.val l.val (fun y => { y.see b with
      lock := false, lockRun := 0, rxFrame := none, outSince := if x.st = 2 then some s.now else none })
    s.rxBlock t l b = if x.rxFrame.isSome = true ∧ x.st = 2 then u.discard t.val l.val 2 else u := by
  intro x u
  rw [State.rxBlock_sees on_ receives]
  refine (if_neg (by rw [in_]; nofun)).trans ((if_pos (show (x.see b).loses = true from decide_eq_true many)).trans ?_)
  rw [State.lockLost, State.lnkOn_updLnk, State.lnk_updLnk, State.updLnk_see]
  refine (whenDue_true (by rw [on_, show ((s.lnk t.val l.val).see b).lock = true from in_]; rfl)).trans ?_
  refine ite_congr (propext ?_) (fun _ => rfl) fun _ => rfl
  exact (Bool.and_eq_true _ _).to_iff.trans (and_congr_right fun _ => decide_eq_true_iff)

/-- A block that neither ends the lock nor reaches a lane that is awake and UP. -/
theorem State.rxBlock_idle (in_ : (s.lnk t.val l.val).lock = true)
    (few : ((syncOk b :: (s.lnk t.val l.val).heads.take 63).filter (fun h => !h)).length < 16)
    (idle : (s.lnk t.val l.val).st ≠ 2 ∨ (s.lnk t.val l.val).rxslp ≠ 0) : s.rxBlock t l b = s.updLnk t.val l.val (fun y => y.see b) := by
  rw [State.rxBlock_sees on_ receives]
  refine (if_neg (by rw [in_]; nofun)).trans ((if_neg ?_).trans (if_neg fun h => idle.elim (· h.1) (· h.2)))
  exact fun loses => Nat.not_le.mpr few (of_decide_eq_true loses)

end

/-! ## Training (16 R503, R508) -/

section
variable {s : State} {t : Tile} {l : Fin 10}

theorem State.trained_up {e : Eye} {t0 : Nat} (on_ : s.lnkOn t.val l.val = true) (trains : (s.lnk t.val l.val).trainAt = some t0)
    (lock : (s.lnk t.val l.val).lock = true) (run : 1024 ≤ (s.lnk t.val l.val).lockRun) (wide : s.lnkItem t.val l.val 3 ≤ e.width)
    (high : s.lnkItem t.val l.val 4 ≤ e.height) : let u := s.trained t.val l.val e
    (u.lnk t.val l.val).st = 2 ∧ (u.lnk t.val l.val).trainAt = none ∧ (u.lnk t.val l.val).fromLine = s.laneFrom ∧ (u.lnk t.val l.val).action = none ∧
      u.job = s.job ∧ u.stores = s.stores ∧
      (∀ q a x, (s.lnk t.val l.val).action = some (q, a) → s.entry q = some x → x.st ≠ .done → u.DoneWith q St.ok 0 0) := by
  have due : ¬(!s.lnkOn t.val l.val || (s.lnk t.val l.val).trainAt.isNone || !(s.lnk t.val l.val).lock || decide ((s.lnk t.val l.val).lockRun < 1024) ||
      !decide (s.lnkItem t.val l.val 3 ≤ e.width ∧ s.lnkItem t.val l.val 4 ≤ e.height)) = true := by
    rw [on_, trains, lock, decide_eq_false (Nat.not_lt.mpr run), decide_eq_true ⟨wide, high⟩]
    exact Bool.false_ne_true
  simp only [State.trained]
  rw [if_neg due]
  obtain ⟨lane, job, stores, done⟩ := State.endAction_ends (s := (s.updLnk t.val l.val (fun x => { x with
      st := 2, trainAt := none, downAt := none, outSince := none, margin := false, eyeW := e.width % 2 ^ 8, eyeH := e.height % 2 ^ 16,
      ctle := e.ctle % 16, txMain := e.txMain % 64, txPost := e.txPost % 32, txPre := e.txPre % 16, fromLine := s.laneFrom })).raiseN t.val
    Ev.laneUp [l.val, (s.lnk t.val l.val).rate, e.width, e.height]) (t := t) (l := l) St.ok
  rw [lane, State.lnk_raiseN, State.lnk_updLnk]
  refine ⟨rfl, rfl, rfl, rfl, job, stores, fun q a x acts found open_ => done q a x ?_ found open_⟩
  rw [State.lnk_raiseN, State.lnk_updLnk]
  exact acts

theorem State.trained_still {e : Eye} (no : (s.lnk t.val l.val).lock = false ∨ (s.lnk t.val l.val).lockRun < 1024 ∨ e.width < s.lnkItem t.val l.val 3 ∨
    e.height < s.lnkItem t.val l.val 4) : s.trained t.val l.val e = s := by
  refine if_pos ?_
  rcases no with out | short | narrow | low
  · simp [out]
  · simp [short]
  · simp [narrow]
  · simp [low]

/-- The lane that training has failed on, before its event. -/
def State.trainLost (s : State) (t l : Nat) (e : Eye) : State :=
  let u := s.updLnk t l (fun x => { x with
    st := 3, trainAt := none, fault := x.fault ||| 4, eyeW := e.width % 2 ^ 8, eyeH := e.height % 2 ^ 16
    downAt := if decide ((s.lnk t l).st = 1) then s.retrainFrom t l else x.downAt })
  if decide ((s.lnk t l).st = 1) then u.tallyLane t l 3 else u

theorem State.lnk_trainLost (e : Eye) : (s.trainLost t.val l.val e).lnk t.val l.val = { s.lnk t.val l.val with
    st := 3, trainAt := none, fault := (s.lnk t.val l.val).fault ||| 4, eyeW := e.width % 2 ^ 8, eyeH := e.height % 2 ^ 16
    downAt := if decide ((s.lnk t.val l.val).st = 1) then s.retrainFrom t.val l.val else (s.lnk t.val l.val).downAt } := by
  rw [State.trainLost]
  split
  · rw [State.lnk_tallyLane, State.lnk_updLnk]
  · rw [State.lnk_updLnk]

theorem State.trainLost_rest (e : Eye) : (s.trainLost t.val l.val e).job = s.job ∧ (s.trainLost t.val l.val e).qen = s.qen := by
  rw [State.trainLost]
  split <;> exact ⟨rfl, rfl⟩

theorem State.trainFailed_down {e : Eye} {t0 : Nat} (on_ : s.lnkOn t.val l.val = true) (trains : (s.lnk t.val l.val).trainAt = some t0)
    (late : t0 + 2_500_000 ≤ s.now) : let u := s.trainFailed t.val l.val e
    (u.lnk t.val l.val).st = 3 ∧ (u.lnk t.val l.val).trainAt = none ∧ (u.lnk t.val l.val).fault = (s.lnk t.val l.val).fault ||| 4 ∧ u.job = s.job ∧
      (∀ q a x, (s.lnk t.val l.val).action = some (q, a) → s.entry q = some x → x.st ≠ .done → u.DoneWith q St.laneTrain 0 0) := by
  have due : ¬(!s.lnkOn t.val l.val || decide (s.now < t0 + 2_500_000)) = true := by
    rw [on_, decide_eq_false (Nat.not_lt.mpr late)]
    exact Bool.false_ne_true
  intro u
  have fails : u =
      ((s.trainLost t.val l.val e).raiseN t.val Ev.laneTrainFail [l.val, e.width, e.height]).endAction t.val l.val St.laneTrain := by
    simp only [u, State.trainFailed, trains]
    exact if_neg due
  obtain ⟨lane, job, _, done⟩ := State.endAction_ends (s := (s.trainLost t.val l.val e).raiseN t.val Ev.laneTrainFail [l.val, e.width, e.height])
    (t := t) (l := l) St.laneTrain
  obtain ⟨lostJob, lostQueue⟩ := State.trainLost_rest (s := s) (t := t) (l := l) e
  rw [fails, lane, State.lnk_raiseN, State.lnk_trainLost]
  refine ⟨rfl, rfl, rfl, job.trans lostJob, fun q a x acts found open_ => done q a x ?_ ?_ open_⟩
  · rw [State.lnk_raiseN, State.lnk_trainLost]
    exact acts
  · exact (congrArg (fun z => z.store.find? (fun (x : StoreEntry) => x.p.seq == q)) lostQueue).trans found

/-- Not a failure yet: training has not lasted 10 ms. -/
theorem State.trainFailed_early {e : Eye} {t0 : Nat} (trains : (s.lnk t.val l.val).trainAt = some t0) (early : s.now < t0 + 2_500_000) :
    s.trainFailed t.val l.val e = s := by
  simp only [State.trainFailed, trains]
  exact if_pos (by rw [decide_eq_true early, Bool.or_true])

/-! ## LANE_DOWN (16 R504) -/

/-- A lane fails: it is DOWN with its fault, its action ends, its queued frames are lost and its bars move. -/
def State.laneFailure (s : State) (t : Tile) (cause m : Nat) : State :=
  let u := ((((s.updLnk t.val m (fun x => { x with
    st := 3, downAt := s.retrainFrom t.val m, outSince := none, rxslp := 0, txslp := 0, waking := Vector.replicate 2 none
    txq := [], tx := [], rxFrame := none
    fault := if cause = 0 then x.fault ||| 1 else if cause = 1 then x.fault ||| 2 else x.fault })).tallyLane t.val m 3).raise t
      Ev.laneDown [m, cause]).endAction t.val m St.laneState).loseQueued t.val m
  if m < 8 then u.laneLost t.val m else u

/-- The receiver has been out of lock for more than 4 us. -/
def State.lockHeld (s : State) (t l : Nat) : Prop := (s.lnk t l).lock = false ∧ ∃ a, (s.lnk t l).outSince = some a ∧ a + 1000 < s.now

theorem State.laneDown_fails {m cause : Nat} (on_ : s.lnkOn t.val m = true) (up : (s.lnk t.val m).st = 2) (held : cause = 0 → s.lockHeld t.val m) :
    s.laneDown t.val m cause = s.laneFailure t cause m := by
  refine (if_neg ?_).trans ?_
  · by_cases lock : cause = 0
    · obtain ⟨out, a, since, long⟩ := held lock
      simp [on_, up, out, since, long]
    · simp [on_, up, lock]
  · simp only [State.laneFailure, State.raiseN, tileIx_val]

theorem State.laneDown_still {m cause : Nat} (no : s.lnkOn t.val m = false ∨ (s.lnk t.val m).st ≠ 2 ∨ cause = 0 ∧ ¬ s.lockHeld t.val m) :
    s.laneDown t.val m cause = s := by
  refine if_pos ?_
  rcases no with off | down | ⟨lock, short⟩
  · simp [off]
  · simp [down]
  · simp only [lock, decide_true, Bool.true_and, Bool.or_eq_true]
    refine .inr ?_
    split
    · next a since =>
      have no : ¬((s.lnk t.val m).lock = false ∧ a + 1000 < s.now) := fun ⟨out, long⟩ => short ⟨out, a, since, long⟩
      simp only [Bool.not_eq_true', Bool.and_eq_false_iff, decide_eq_false_iff_not, Bool.not_eq_false']
      by_cases out : (s.lnk t.val m).lock = false
      · exact .inl fun long => no ⟨out, long⟩
      · exact .inr (by simpa using out)
    · rfl

theorem State.laneDown_ref (m : Nat) : s.laneDown t.val m 2 =
    if s.lnkOn t.val m = true ∧ (s.lnk t.val m).st = 2 then s.laneFailure t 2 m else s := by
  split
  · next h => exact State.laneDown_fails h.1 h.2 nofun
  · next h =>
    refine State.laneDown_still ?_
    by_cases off : s.lnkOn t.val m = false
    · exact .inl off
    · exact .inr (.inl fun up => h ⟨by simpa using off, up⟩)

end

/-- Settles O48: block lock, training and its failure, and the failure of lanes by each cause. -/
theorem lanesTrainAndFail : Obligations.LanesTrainAndFail := by
  unfold Obligations.LanesTrainAndFail
  refine ⟨fun s t l ht on_ => ⟨fun b out receives good long all => ?locks, fun b out receives no => ?unlocked,
      fun b in_ receives => ⟨fun many => ?loses, fun few idle => ?idle⟩, fun bs out => ?already, fun bs in_ => ?locked,
      fun e t0 trains lock run wide high => ⟨_, onTile_gives ht rfl, State.trained_up on_ trains lock run wide high⟩,
      fun e no => onTile_gives ht (State.trained_still no), fun e t0 trains late => ⟨_, onTile_gives ht rfl, State.trainFailed_down on_ trains late⟩,
      fun e t0 trains early => onTile_gives ht (State.trainFailed_early trains early), fun a down st idle late => ?retrain⟩,
    fun s t l cause ht on_ => ⟨fun up other held => ?fails, fun ref => ?group, by decide, fun down other => ?down, fun lock no => ?short⟩⟩
  case locks =>
    have step := State.rxBlock_locks on_ receives out good long all
    refine ⟨onTile_gives ht ((whenDue_true ?_).trans step), onTile_gives ht step⟩
    rw [show s.rxBlocks t l [b] = s.rxBlock t l b from rfl, step, State.lnk_updLnk, out]
    rfl
  case unlocked =>
    have step := State.rxBlock_unlocked on_ receives out no
    refine ⟨onTile_gives ht step, onTile_gives ht (whenDue_false ?_)⟩
    rw [show s.rxBlocks t l [b] = s.rxBlock t l b from rfl, step, State.lnk_updLnk, show ((s.lnk t.val l.val).see b).lock = false from out, Bool.and_false]
  case loses =>
    have step := State.rxBlock_loses on_ receives in_ many
    refine ⟨onTile_gives ht ((whenDue_true ?_).trans step), onTile_gives ht step⟩
    rw [show s.rxBlocks t l [b] = s.rxBlock t l b from rfl, step, in_]
    split
    · rw [State.lnk_discard, State.lnk_updLnk, State.lnk_updLnk]
      rfl
    · rw [State.lnk_updLnk]
      rfl
  case idle => exact onTile_gives ht (State.rxBlock_idle on_ receives in_ few idle)
  case already => exact onTile_gives ht (whenDue_false (by rw [out, Bool.false_and]))
  case locked => exact onTile_gives ht (whenDue_false (by rw [in_]; rfl))
  case retrain =>
    refine onTile_gives ht ?_
    simp only [State.retrainTimer, down]
    exact whenDue_true (by rw [on_, decide_eq_true st, idle, decide_eq_true late]; rfl)
  case fails =>
    refine onTile_gives ht (congrArg (State.sweepUndelivered · t.val) ?_)
    rw [if_neg other]
    exact State.laneDown_fails on_ up held
  case group =>
    refine onTile_gives ht (congrArg (State.sweepUndelivered · t.val) ?_)
    rw [if_pos ref, ref]
    exact congrArg (List.foldl · s _) (funext fun v => funext fun m => State.laneDown_ref m)
  case down =>
    refine onTile_gives ht (congrArg (State.sweepUndelivered · t.val) ?_)
    rw [if_neg other]
    exact State.laneDown_still (.inr (.inl down))
  case short =>
    refine onTile_gives ht (congrArg (State.sweepUndelivered · t.val) ?_)
    rw [if_neg (by omega)]
    refine State.laneDown_still (.inr (.inr ⟨lock, fun ⟨out, a, since, long⟩ => ?_⟩))
    rcases no with in_ | never | ⟨a', since', soon⟩
    · exact absurd out (by simp [in_])
    · exact nomatch never.symm.trans since
    · cases since'.symm.trans since
      omega

end Sys2Proof.Machine
end

section
/-! PROOF of the line code: the scrambler, the bytes of a frame in its blocks, and the receiver that puts them together
(10 R306 to R310). -/

namespace Sys2Proof.Machine

/-! ## The scrambler (10 R306) -/

/-- The first n bits that the scrambler sends. -/
def scrambleTo (n st w : Nat) : Nat × Nat :=
  (List.range n).foldl (fun a i => let b := (w / 2 ^ i + scrTap a.2) % 2; (a.1 + 2 ^ i * b, scrPush a.2 b)) (0, st)
/-- The first n bits that the descrambler takes. -/
def descrambleTo (n st w : Nat) : Nat × Nat :=
  (List.range n).foldl (fun a i => let b := w / 2 ^ i % 2; (a.1 + 2 ^ i * ((b + scrTap a.2) % 2), scrPush a.2 b)) (0, st)

theorem scrambleTo_succ (n st w : Nat) : scrambleTo (n + 1) st w =
    let a := scrambleTo n st w
    let b := (w / 2 ^ n + scrTap a.2) % 2
    (a.1 + 2 ^ n * b, scrPush a.2 b) := by
  simp only [scrambleTo, List.range_succ, List.foldl_append, List.foldl_cons, List.foldl_nil]

theorem descrambleTo_succ (n st w : Nat) : descrambleTo (n + 1) st w =
    let a := descrambleTo n st w
    let b := w / 2 ^ n % 2
    (a.1 + 2 ^ n * ((b + scrTap a.2) % 2), scrPush a.2 b) := by
  simp only [descrambleTo, List.range_succ, List.foldl_append, List.foldl_cons, List.foldl_nil]

theorem scrambleTo_lt (n st w : Nat) : (scrambleTo n st w).1 < 2 ^ n := by
  induction n with
  | zero => exact Nat.one_pos
  | succ n ih =>
    have bit_ : (w / 2 ^ n + scrTap (scrambleTo n st w).2) % 2 < 2 := Nat.mod_lt _ Nat.two_pos
    rw [scrambleTo_succ, Nat.pow_succ]
    have top := Nat.mul_le_mul_left (2 ^ n) (Nat.le_of_lt_succ bit_)
    show (scrambleTo n st w).1 + 2 ^ n * _ < _
    omega

/-- The descrambler follows the scrambler bit by bit. -/
theorem descrambleTo_scrambleTo (n st w v : Nat) (line : v % 2 ^ n = (scrambleTo n st w).1) :
    descrambleTo n st v = (w % 2 ^ n, (scrambleTo n st w).2) := by
  induction n with
  | zero => simp [descrambleTo, scrambleTo, Nat.mod_one]
  | succ n ih =>
    have low := scrambleTo_lt n st w
    have parts : v % 2 ^ n = (scrambleTo n st w).1 ∧ v / 2 ^ n % 2 = (w / 2 ^ n + scrTap (scrambleTo n st w).2) % 2 := by
      rw [scrambleTo_succ, Nat.mod_pow_succ] at line
      have sum : v % 2 ^ n + 2 ^ n * (v / 2 ^ n % 2) = (scrambleTo n st w).1 + 2 ^ n * ((w / 2 ^ n + scrTap (scrambleTo n st w).2) % 2) := line
      have rem := congrArg (· % 2 ^ n) sum
      have quot := congrArg (· / 2 ^ n) sum
      simp only [Nat.add_mul_mod_self_left, Nat.add_mul_div_left _ _ (Nat.two_pow_pos n), Nat.mod_mod, Nat.mod_eq_of_lt low,
        Nat.div_eq_of_lt low, Nat.div_eq_of_lt (Nat.mod_lt v (Nat.two_pow_pos n)), Nat.zero_add] at rem quot
      exact ⟨rem, quot⟩
    have undo : ((w / 2 ^ n + scrTap (scrambleTo n st w).2) % 2 + scrTap (scrambleTo n st w).2) % 2 = w / 2 ^ n % 2 := by omega
    rw [descrambleTo_succ, ih parts.1, scrambleTo_succ]
    simp only [parts.2, undo, Nat.mod_pow_succ]

theorem scramble_lt (st w : Nat) : (scramble st w).1 < 2 ^ 64 := scrambleTo_lt 64 st w

theorem descramble_scramble {w : Nat} (st : Nat) (word : w < 2 ^ 64) : descramble st (scramble st w).1 = (w, (scramble st w).2) :=
  (descrambleTo_scrambleTo 64 st w _ (Nat.mod_eq_of_lt (scramble_lt st w))).trans (by rw [Nat.mod_eq_of_lt word]; rfl)

/-! ## Bytes of a frame (10 R308) -/

theorem leVal_lt (bs : List Byte) : leVal bs < 256 ^ bs.length := by
  induction bs with
  | nil => exact Nat.one_pos
  | cons b bs ih =>
    have := b.isLt
    rw [leVal, List.length_cons, Nat.pow_succ]
    omega

theorem leVal_append_zeros (bs : List Byte) (n : Nat) : leVal (bs ++ List.replicate n 0) = leVal bs := by
  induction bs with
  | nil =>
    induction n with
    | zero => rfl
    | succ n ih =>
      show (0 : Byte).toNat + 256 * leVal ([] ++ List.replicate n 0) = 0
      rw [ih]
      rfl
  | cons b bs ih => simp only [List.cons_append, leVal, ih]

/-- The bytes of a number are those it came from, and zeros. -/
theorem leBytes_leVal (n : Nat) (bs : List Byte) (fits : bs.length ≤ n) : leBytes n (leVal bs) = bs ++ List.replicate (n - bs.length) 0 := by
  induction n generalizing bs with
  | zero => simp [List.length_eq_zero_iff.mp (Nat.le_zero.mp fits), leBytes]
  | succ n ih =>
    cases bs with
    | nil =>
      have rest := ih [] (Nat.zero_le n)
      simp only [leVal, List.nil_append, List.length_nil, Nat.sub_zero] at rest
      simp [leBytes, leVal, rest, List.replicate_succ]
    | cons b bs =>
      have := b.isLt
      have head : BitVec.ofNat 8 (b.toNat + 256 * leVal bs) = b := BitVec.eq_of_toNat_eq (by simp; omega)
      have tail : (b.toNat + 256 * leVal bs) / 256 = leVal bs := by omega
      rw [leVal, leBytes, head, tail, ih bs (Nat.le_of_succ_le_succ fits)]
      simp

theorem leAt_append_zeros (bs : List Byte) (z o n : Nat) : leAt (bs ++ List.replicate z 0) o n = leAt bs o n := by
  simp only [leAt, List.drop_append, List.take_append, List.drop_replicate, List.take_replicate, leVal_append_zeros]

theorem leAt_append_long {a : List Byte} (b : List Byte) {o n : Nat} (inside : o + n ≤ a.length) : leAt (a ++ b) o n = leAt a o n := by
  rw [leAt, leAt, List.drop_append_of_le_length (by omega), List.take_append_of_le_length (by rw [List.length_drop]; omega)]

theorem rxLen_append_zeros (bs : List Byte) (z : Nat) : rxLen (bs ++ List.replicate z 0) = rxLen bs := by simp only [rxLen, leAt_append_zeros]

/-- The first block says how long its frame is. -/
theorem rxLen_append {a : List Byte} (b : List Byte) (block : 8 ≤ a.length) : rxLen (a ++ b) = rxLen a := by
  rw [rxLen, rxLen, leAt_append_long b (by omega), leAt_append_long b (by omega)]

theorem payloads_lt {bs : List Byte} : ∀ p ∈ payloads bs, p < 2 ^ 64 := by
  intro p member
  obtain ⟨i, _, rfl⟩ := List.mem_map.mp member
  refine Nat.lt_of_lt_of_le (leVal_lt _) (Nat.pow_le_pow_right (by decide : 0 < 256) (?_ : _ ≤ 8))
  rw [List.length_take]
  omega

theorem length_payloads (bs : List Byte) : (payloads bs).length = blockCount bs.length := by simp [payloads]

/-- A frame with bytes has a first block, and the others are those of the bytes from 8 on. -/
theorem payloads_cons {bs : List Byte} (some_ : bs ≠ []) : payloads bs = leVal (bs.take 8) :: payloads (bs.drop 8) := by
  have long := List.length_pos_iff.mpr some_
  have count : blockCount bs.length = blockCount (bs.drop 8).length + 1 := by
    simp only [blockCount, ceilDiv, List.length_drop]
    omega
  rw [payloads, count, List.range_succ_eq_map, List.map_cons, List.map_map, payloads]
  refine congrArg (_ :: ·) (List.map_congr_left fun i _ => ?_)
  simp only [Function.comp, List.drop_drop]
  congr 3
  omega

/-- The blocks of a frame hold its bytes, and zeros past its length. -/
theorem flatMap_payloads (bs : List Byte) : ∃ z, (payloads bs).flatMap (leBytes 8) = bs ++ List.replicate z 0 := by
  generalize size : blockCount bs.length = n
  induction n generalizing bs with
  | zero =>
    have empty : bs = [] := by
      refine List.length_eq_zero_iff.mp ?_
      simp only [blockCount, ceilDiv] at size
      omega
    exact ⟨0, by rw [empty]; rfl⟩
  | succ n ih =>
    have some_ : bs ≠ [] := fun h => by rw [h] at size; exact absurd size (by simp [blockCount, ceilDiv])
    have more : blockCount (bs.drop 8).length = n := by
      simp only [blockCount, ceilDiv, List.length_drop] at size ⊢
      omega
    obtain ⟨z, rest⟩ := ih (bs.drop 8) more
    rw [payloads_cons some_, List.flatMap_cons, rest, leBytes_leVal 8 _ (by rw [List.length_take]; omega)]
    by_cases long : 8 ≤ bs.length
    · exact ⟨z, by rw [List.length_take, Nat.min_eq_left long, Nat.sub_self, List.replicate_zero, List.append_nil, ← List.append_assoc, List.take_append_drop]⟩
    · refine ⟨8 - bs.length + z, ?_⟩
      rw [List.take_of_length_le (by omega), List.drop_of_length_le (by omega), List.nil_append, List.append_assoc, List.replicate_append_replicate]

/-! ## Blocks of a frame -/

/-- Blocks that carry payloads, the first of them block i of its frame, with the scrambler after them. -/
def blocksFrom : Nat → Nat → List Nat → List Block × Nat
  | _, st, [] => ([], st)
  | i, st, p :: ps =>
    let x := scramble st p
    let r := blocksFrom (i + 1) x.2 ps
    ({ sync := syncOf i, data := BitVec.ofNat 64 x.1 } :: r.1, r.2)

theorem foldl_blocksFrom (ps : List Nat) (i : Nat) (bs : List Block) (st : Nat) :
    (ps.zipIdx i).foldl (fun a e => let x := scramble a.2 e.1; (a.1 ++ [({ sync := syncOf e.2, data := BitVec.ofNat 64 x.1 } : Block)], x.2)) (bs, st) =
      (bs ++ (blocksFrom i st ps).1, (blocksFrom i st ps).2) := by
  induction ps generalizing i bs st with
  | nil => simp [blocksFrom]
  | cons p ps ih => simp [blocksFrom, ih]

theorem wireBlocks_eq (st : Nat) (bs : List Byte) : wireBlocks st bs = blocksFrom 0 st (payloads bs) := by
  rw [wireBlocks, foldl_blocksFrom]
  simp

theorem length_blocksFrom (i st : Nat) (ps : List Nat) : (blocksFrom i st ps).1.length = ps.length := by
  induction ps generalizing i st with
  | nil => rfl
  | cons p ps ih => simp [blocksFrom, ih]

theorem length_wireBlocks (st : Nat) (bs : List Byte) : (wireBlocks st bs).1.length = blockCount bs.length := by
  rw [wireBlocks_eq, length_blocksFrom, length_payloads]

theorem syncOf_ok (i : Nat) (d : BitVec 64) : syncOk { sync := syncOf i, data := d } = true := by
  unfold syncOf
  split <;> rfl

end Sys2Proof.Machine
end

section
/-! PROOF of received frames, their checks and their FILL, and of the sleep and tests of lanes (10 R306 to R311; 16 R501, R502,
R506 to R513). -/

namespace Sys2Proof.Machine

/-! ## Blocks at a lane that is UP (10 R306, R308) -/

/-- A lane that takes frames: UP, awake and in lock, with few bad headers. -/
structure LaneHw.Takes (y : LaneHw) : Prop where
  up : y.st = 2
  awake : y.rxslp = 0
  lock : y.lock = true
  few : (y.heads.filter (fun h => !h)).length < 16

/-- What the receiver counts is within its width. -/
structure LaneHw.Settled (y : LaneHw) : Prop where
  heads : y.heads.length ≤ 64
  run : y.lockRun ≤ 1024

/-- A lane that has seen n good blocks, with the descrambler and the frame in progress after them. -/
def LaneHw.saw (n scr : Nat) (frame : Option (List Byte)) (y : LaneHw) : LaneHw := { y with
  heads := (List.replicate n true ++ y.heads).take 64, rxScr := scr, lockRun := min 1024 (y.lockRun + n), rxFrame := frame }

section
variable {y : LaneHw} {b : Block}

theorem LaneHw.see_good (lock : y.lock = true) (good : syncOk b = true) : y.see b = y.saw 1 (descramble y.rxScr b.data.toNat).2 y.rxFrame := by
  simp [LaneHw.see, LaneHw.saw, lock, good]

theorem LaneHw.saw_saw (n m a c : Nat) (f g : Option (List Byte)) : (y.saw n a f).saw m c g = y.saw (n + m) c g := by
  simp only [LaneHw.saw]
  congr 1
  · rw [Nat.add_comm n m, ← List.replicate_append_replicate, List.append_assoc, List.take_append, List.take_append (l₁ := List.replicate m true), List.take_take,
      Nat.min_eq_left (Nat.sub_le ..)]
  · omega

theorem LaneHw.Takes.saw (takes : y.Takes) (n scr : Nat) (f : Option (List Byte)) : (y.saw n scr f).Takes := by
  refine ⟨takes.up, takes.awake, takes.lock, Nat.lt_of_le_of_lt ?_ takes.few⟩
  have sub := ((List.take_sublist 64 (List.replicate n true ++ y.heads)).filter (fun h => !h)).length_le
  simpa [LaneHw.saw, List.filter_append] using sub

theorem LaneHw.settled_saw (n scr : Nat) (f : Option (List Byte)) : (y.saw n scr f).Settled :=
  ⟨List.length_take_le .., Nat.min_le_left ..⟩

theorem LaneHw.Settled.saw_none (settled : y.Settled) (f : Option (List Byte)) : y.saw 0 y.rxScr f = { y with rxFrame := f } := by
  simp [LaneHw.saw, List.take_of_length_le settled.heads, Nat.min_eq_right settled.run]

theorem LaneHw.Takes.see_keeps (takes : y.Takes) (good : syncOk b = true) : (y.see b).loses = false := by
  rw [LaneHw.see_good takes.lock good]
  exact decide_eq_false (Nat.not_le.mpr (takes.saw _ _ _).few)

end

section
variable {s : State} {t : Tile} {l : Fin 10}

/-- Two changes of a lane that give the same lane are one. -/
theorem State.updLnk_congr {f g : LaneHw → LaneHw} (same : f (s.lnk t.val l.val) = g (s.lnk t.val l.val)) :
    s.updLnk t.val l.val f = s.updLnk t.val l.val g := by
  have fixed : ∀ h : LaneHw → LaneHw, s.updLnk t.val l.val h = s.updLnk t.val l.val (fun _ => h (s.lnk t.val l.val)) := fun _ => rfl
  rw [fixed f, fixed g, same]

theorem LaneHw.Takes.receives {y : LaneHw} (takes : y.Takes) : y.receives = true := by simp [LaneHw.receives, takes.up, takes.awake]

theorem State.rxBlock_takes {b : Block} (on_ : s.lnkOn t.val l.val = true) (up : (s.lnk t.val l.val).st = 2) (awake : (s.lnk t.val l.val).rxslp = 0)
    (lock : (s.lnk t.val l.val).lock = true) (keeps : ((s.lnk t.val l.val).see b).loses = false) :
    s.rxBlock t l b = (s.updLnk t.val l.val (fun y => y.see b)).takeBlock t l b ((s.lnk t.val l.val).payload b) := by
  rw [State.rxBlock_sees on_ (by simp [LaneHw.receives, up, awake])]
  exact (if_neg (by rw [lock]; nofun)).trans ((if_neg (by rw [keeps]; nofun)).trans (if_pos ⟨up, awake⟩))

/-- The payload of a block that the scrambler made. -/
theorem LaneHw.payload_scramble (y : LaneHw) {p : Nat} (word : p < 2 ^ 64) (sync : BitVec 2) :
    y.payload { sync := sync, data := BitVec.ofNat 64 (scramble y.rxScr p).1 } = leBytes 8 p ∧
    (descramble y.rxScr (BitVec.ofNat 64 (scramble y.rxScr p).1).toNat).2 = (scramble y.rxScr p).2 := by
  rw [LaneHw.payload, BitVec.toNat_ofNat, Nat.mod_eq_of_lt (scramble_lt _ _), descramble_scramble _ word]
  exact ⟨rfl, rfl⟩

theorem LaneHw.see_scramble {y : LaneHw} {p : Nat} (lock : y.lock = true) (word : p < 2 ^ 64) (i : Nat) :
    y.see { sync := syncOf i, data := BitVec.ofNat 64 (scramble y.rxScr p).1 } = y.saw 1 (scramble y.rxScr p).2 y.rxFrame :=
  (LaneHw.see_good lock (syncOf_ok i _)).trans (congrArg (fun scr => LaneHw.saw 1 scr y.rxFrame y) (y.payload_scramble word (syncOf i)).2)

/-- A frame in progress takes the further blocks of its length, and ends with the last. -/
theorem State.grow_blocks (ps : List Nat) (s : State) (acc : List Byte) (k i : Nat) (on_ : s.lnkOn t.val l.val = true)
    (takes : (s.lnk t.val l.val).Takes) (settled : (s.lnk t.val l.val).Settled) (further : i ≠ 0) (begun : 1 ≤ k) (blocks : acc.length = 8 * k)
    (len : blockCount (rxLen acc) = k + ps.length) (words : ∀ p ∈ ps, p < 2 ^ 64) :
    (s.grow t l acc).rxBlocks t l (blocksFrom i (s.lnk t.val l.val).rxScr ps).1 =
      (s.updLnk t.val l.val (LaneHw.saw ps.length (blocksFrom i (s.lnk t.val l.val).rxScr ps).2 none)).endFrame t l
        (.bytes ((acc ++ ps.flatMap (leBytes 8)).take (rxLen acc))) := by
  have have_ : blockCount acc.length = k := by simp only [blocks, blockCount, ceilDiv]; omega
  induction ps generalizing s acc k i with
  | nil =>
    have whole : rxWhole acc = true := decide_eq_true (by rw [have_, len]; exact Nat.le_refl _)
    have same : s.updLnk t.val l.val (fun x => { x with rxFrame := none }) = s.updLnk t.val l.val (LaneHw.saw 0 (s.lnk t.val l.val).rxScr none) :=
      State.updLnk_congr (settled.saw_none none).symm
    rw [List.flatMap_nil, List.append_nil]
    exact (if_pos whole).trans (congrArg (State.endFrame · t l _) same)
  | cons p ps ih =>
    have word := words p List.mem_cons_self
    have open_ : ¬ rxWhole acc = true := fun h => by
      have := of_decide_eq_true h
      simp only [have_, len, List.length_cons] at this
      omega
    have sync : syncOf i = 0b01 := if_neg further
    let y := s.lnk t.val l.val
    let b : Block := { sync := syncOf i, data := BitVec.ofNat 64 (scramble y.rxScr p).1 }
    let s1 := s.updLnk t.val l.val (fun x => { x with rxFrame := some acc })
    let s2 := s1.updLnk t.val l.val (fun x => x.see b)
    have lane1 : s1.lnk t.val l.val = { y with rxFrame := some acc } := State.lnk_updLnk ..
    have seen : ({ y with rxFrame := some acc } : LaneHw).see b = y.saw 1 (scramble y.rxScr p).2 (some acc) :=
      LaneHw.see_scramble (y := { y with rxFrame := some acc }) takes.lock word i
    have lane2 : s2.lnk t.val l.val = y.saw 1 (scramble y.rxScr p).2 (some acc) := (State.lnk_updLnk ..).trans ((congrArg (LaneHw.see · b) lane1).trans seen)
    have on2 : s2.lnkOn t.val l.val = true := by rw [State.lnkOn_updLnk, State.lnkOn_updLnk, on_]
    have step : s1.rxBlock t l b = s2.grow t l (acc ++ leBytes 8 p) := by
      have takes1 : (s1.lnk t.val l.val).Takes := lane1 ▸ ⟨takes.up, takes.awake, takes.lock, takes.few⟩
      rw [State.rxBlock_takes (by rw [State.lnkOn_updLnk, on_]) takes1.up takes1.awake takes1.lock (takes1.see_keeps (syncOf_ok _ _))]
      have frame : (s2.lnk t.val l.val).rxFrame = some acc := by rw [lane2]; rfl
      have bytes : (s1.lnk t.val l.val).payload b = leBytes 8 p := by
        rw [lane1]
        exact (y.payload_scramble word (syncOf i)).1
      rw [bytes]
      refine (if_neg (by rw [show b.sync = 0b01 from sync]; decide)).trans ((if_pos sync).trans ?_)
      show (match (s2.lnk t.val l.val).rxFrame with | some bs => s2.grow t l (bs ++ leBytes 8 p) | none => s2) = _
      rw [frame]
    have longer : rxLen (acc ++ leBytes 8 p) = rxLen acc := rxLen_append _ (by omega)
    have bytes : (acc ++ leBytes 8 p).length = 8 * (k + 1) := by rw [List.length_append, length_leBytes, blocks]; omega
    have rest := ih s2 (acc ++ leBytes 8 p) (k + 1) (i + 1) on2 (lane2 ▸ takes.saw _ _ _) (lane2 ▸ LaneHw.settled_saw _ _ _) (by omega) (by omega)
      bytes (by rw [longer, len, List.length_cons]; omega) (fun q member => words q (List.mem_cons_of_mem _ member))
      (by rw [bytes]; simp only [blockCount, ceilDiv]; omega)
    have scr : (s2.lnk t.val l.val).rxScr = (scramble y.rxScr p).2 := by rw [lane2]; rfl
    rw [scr, longer, List.append_assoc] at rest
    have merged : s2.updLnk t.val l.val (LaneHw.saw ps.length (blocksFrom (i + 1) (scramble y.rxScr p).2 ps).2 none) =
        s.updLnk t.val l.val (LaneHw.saw (p :: ps).length (blocksFrom i y.rxScr (p :: ps)).2 none) := by
      rw [State.updLnk_updLnk, State.updLnk_updLnk]
      refine State.updLnk_congr ?_
      show LaneHw.saw _ _ none (({ y with rxFrame := some acc } : LaneHw).see b) = _
      rw [seen, LaneHw.saw_saw, Nat.add_comm]
      rfl
    rw [merged] at rest
    have grows : s.grow t l acc = s1 := if_neg open_
    rw [grows]
    exact (congrArg (State.rxBlocks · t l _) step).trans rest

/-- A lane that has seen n good blocks, with the descrambler after them. -/
def LaneHw.heard (n scr : Nat) (y : LaneHw) : LaneHw := { y with
  heads := (List.replicate n true ++ y.heads).take 64, rxScr := scr, lockRun := min 1024 (y.lockRun + n) }

/-- A frame sent as blocks arrives as its bytes. -/
theorem State.rxBlocks_frame {bs : List Byte} (on_ : s.lnkOn t.val l.val = true) (takes : (s.lnk t.val l.val).Takes) (some_ : bs ≠ [])
    (len : rxLen bs = bs.length) (idle : (s.lnk t.val l.val).rxFrame = none) :
    s.rxBlocks t l (wireBlocks (s.lnk t.val l.val).rxScr bs).1 =
      (s.updLnk t.val l.val (LaneHw.heard (blockCount bs.length) (wireBlocks (s.lnk t.val l.val).rxScr bs).2)).endFrame t l (.bytes bs) := by
  let y := s.lnk t.val l.val
  let p := leVal (bs.take 8)
  let ps := payloads (bs.drop 8)
  have cons : payloads bs = p :: ps := payloads_cons some_
  have words : ∀ q ∈ p :: ps, q < 2 ^ 64 := cons ▸ payloads_lt
  have word := words p List.mem_cons_self
  obtain ⟨z, bytes⟩ := flatMap_payloads bs
  rw [cons, List.flatMap_cons] at bytes
  have count : blockCount bs.length = 1 + ps.length := by rw [← length_payloads, cons, List.length_cons, Nat.add_comm]
  have first : rxLen (leBytes 8 p) = bs.length := by
    rw [← len, ← rxLen_append_zeros bs z, ← bytes, rxLen_append _ (Nat.le_of_eq (length_leBytes 8 p).symm)]
  let b : Block := { sync := syncOf 0, data := BitVec.ofNat 64 (scramble y.rxScr p).1 }
  let s1 := s.updLnk t.val l.val (fun x => x.see b)
  have seen : y.see b = y.saw 1 (scramble y.rxScr p).2 none :=
    (LaneHw.see_scramble takes.lock word 0).trans (congrArg (LaneHw.saw 1 _ · y) idle)
  have lane1 : s1.lnk t.val l.val = y.saw 1 (scramble y.rxScr p).2 none := (State.lnk_updLnk ..).trans seen
  have step : s.rxBlock t l b = s1.grow t l (leBytes 8 p) := by
    rw [State.rxBlock_takes on_ takes.up takes.awake takes.lock (takes.see_keeps (syncOf_ok _ _)),
      show (s.lnk t.val l.val).payload b = leBytes 8 p from (y.payload_scramble word (syncOf 0)).1]
    refine (if_pos rfl).trans (congrArg (State.grow · t l _) (if_pos ?_))
    show (s1.lnk t.val l.val).rxFrame.isNone = true
    rw [lane1]
    rfl
  have rest := State.grow_blocks (t := t) (l := l) ps s1 (leBytes 8 p) 1 1 (by rw [State.lnkOn_updLnk, on_]) (lane1 ▸ takes.saw _ _ _)
    (lane1 ▸ LaneHw.settled_saw _ _ _) Nat.one_ne_zero (Nat.le_refl 1) (length_leBytes 8 p) (by rw [first, count])
    (fun q member => words q (List.mem_cons_of_mem _ member))
  have scr : (s1.lnk t.val l.val).rxScr = (scramble y.rxScr p).2 := by rw [lane1]; rfl
  rw [scr, bytes, first, List.take_append_of_le_length (Nat.le_refl _), List.take_length] at rest
  have wire : wireBlocks y.rxScr bs = (b :: (blocksFrom 1 (scramble y.rxScr p).2 ps).1, (blocksFrom 1 (scramble y.rxScr p).2 ps).2) := by
    rw [wireBlocks_eq, cons]
    rfl
  rw [wire]
  refine (congrArg (State.rxBlocks · t l _) step).trans (rest.trans (congrArg (State.endFrame · t l _) ?_))
  rw [State.updLnk_updLnk]
  refine State.updLnk_congr ?_
  show LaneHw.saw _ _ none (y.see b) = _
  rw [seen, LaneHw.saw_saw, count]
  simp only [LaneHw.saw, LaneHw.heard, idle, y]

/-! ## The end of a frame (10 R309, R311; 16 R501, R502) -/

/-- The level of a lane's elastic buffer, moved by a free drift of the two clocks. -/
def State.drift (s : State) (t l : Nat) : Nat := (clampI (((s.lnk t l).elastic : Int) + Config.freeInt s.free) 0 64).toNat

/-- A frame at the elastic buffer: a FILL is deleted above 40 blocks, one is inserted below 24. -/
def LaneHw.buffered (e : Nat) (f : RxFrame) (y : LaneHw) : LaneHw :=
  if isFill f = true ∧ 40 < e then { y with elastic := e - 1, fillDel := (y.fillDel + 1) % 2 ^ 32 }
  else if e < 24 then { y with elastic := e + 1, fillIns := (y.fillIns + 1) % 2 ^ 32 }
  else { y with elastic := e }

theorem State.endFrame_lost {f : RxFrame} {e : Nat} (level : s.drift t.val l.val = e) (out : e = 0 ∨ e = 64) : s.endFrame t l f =
    ((s.nextFree.updLnk t.val l.val (fun y => { y with elastic := 32, fault := y.fault ||| 8 })).discard t.val l.val 2).raise t
      Ev.laneElastic [l.val, boolNat (e == 64)] := by
  subst level
  rw [State.endFrame, State.rxEnded]
  split
  next u bs ended =>
    have lost := (if_pos out).symm.trans ended
    exact nomatch congrArg Prod.snd lost
  next u ended =>
    have lost := (if_pos out).symm.trans ended
    refine (congrArg Prod.fst lost).symm.trans ?_
    simp only [State.raiseN, tileIx_val]
    rfl

section
variable {f : RxFrame} {e : Nat} (level : s.drift t.val l.val = e) (low : e ≠ 0) (high : e ≠ 64)
include level low high

theorem State.rxEnded_buffered : s.rxEnded t.val l.val f =
    let u := s.nextFree.updLnk t.val l.val (LaneHw.buffered e f)
    match frameFault f, f with
    | some k, _ => (u.discard t.val l.val k, none)
    | none, .bytes bs => (u, some bs)
    | none, .broken => (u, none) := by
  subst level
  have same : s.nextFree.updLnk t.val l.val (LaneHw.buffered (s.drift t.val l.val) f) = s.nextFree.updLnk t.val l.val (fun x =>
      if isFill f && decide (40 < s.drift t.val l.val) then { x with elastic := s.drift t.val l.val - 1, fillDel := (x.fillDel + 1) % 2 ^ 32 }
      else if s.drift t.val l.val < 24 then { x with elastic := s.drift t.val l.val + 1, fillIns := (x.fillIns + 1) % 2 ^ 32 }
      else { x with elastic := s.drift t.val l.val }) := by
    refine State.updLnk_congr ?_
    simp only [LaneHw.buffered, Bool.and_eq_true, decide_eq_true_eq]
  rw [same]
  exact if_neg fun out => out.elim low high

theorem State.endFrame_faulty {k : Nat} (faulty : frameFault f = some k) :
    s.endFrame t l f = (s.nextFree.updLnk t.val l.val (LaneHw.buffered e f)).discard t.val l.val k := by
  rw [State.endFrame, State.rxEnded_buffered level low high, faulty]

theorem State.endFrame_accepted {bs : List Byte} (good : frameFault (.bytes bs) = none) :
    let v := s.nextFree.updLnk t.val l.val (LaneHw.buffered e (.bytes bs))
    s.endFrame t l (.bytes bs) = if isFill (.bytes bs) then v.trimBoundary t.val 0 else v.acceptFrame t l bs := by
  rw [State.endFrame, State.rxEnded_buffered level low high, good]

end

/-- A frame in progress that is broken off. -/
theorem State.breakFrame_ends {bs : List Byte} (begun : (s.lnk t.val l.val).rxFrame = some bs) :
    s.breakFrame t l = (s.updLnk t.val l.val (fun x => { x with rxFrame := none })).endFrame t l .broken := if_neg (by rw [begun]; nofun)

theorem State.rxBlocks_still {b : List Block} (off : s.lnkOn t.val l.val = false ∨ (s.lnk t.val l.val).receives = false) : s.rxBlocks t l b = s := by
  induction b with
  | nil => rfl
  | cons c b ih =>
    have still : s.rxBlock t l c = s := if_pos (by rcases off with off | deaf <;> simp [*])
    exact (congrArg (State.rxBlocks · t l b) still).trans ih

end

end Sys2Proof.Machine
end

section
/-! PROOF of what lanes receive, and of their sleep and tests (10 R306 to R311; 16 R501, R502, R506 to R513). -/

namespace Sys2Proof.Machine

/-! ## The transmitter and the checks of a frame (10 R309, R311) -/

section
variable {y : LaneHw} {bs : List Byte}

/-- A FILL leaves in every 4,096 blocks. -/
theorem LaneHw.put_fills (short : bs.length ≤ 1536) : (y.put bs).sinceFill < 4096 ∧
    (y.sinceFill + blockCount bs.length < 4096 → (y.put bs).tx = (wireBlocks y.txScr bs).1) ∧
    (4096 ≤ y.sinceFill + blockCount bs.length → (y.put bs).tx = (wireBlocks y.txScr fillBytes).1 ++
      (wireBlocks (wireBlocks y.txScr fillBytes).2 bs).1) := by
  have blocks : blockCount bs.length ≤ 192 := by simp only [blockCount, ceilDiv]; omega
  have first : y.fillFirst (blockCount bs.length) = decide (4096 ≤ y.sinceFill + blockCount bs.length) := rfl
  by_cases full : 4096 ≤ y.sinceFill + blockCount bs.length
  · simp only [LaneHw.put, first, decide_eq_true full, if_true, length_wireBlocks]
    exact ⟨by omega, fun room => absurd room (Nat.not_lt.mpr full), fun _ => trivial⟩
  · simp only [LaneHw.put, first, decide_eq_false full, Bool.false_eq_true, if_false, length_wireBlocks, List.nil_append]
    exact ⟨by omega, fun _ => trivial, fun over_ => absurd over_ full⟩

theorem frameFault_short (short : bs.length < 8) (frame : fld bs 0 1 ≠ 15) : frameFault (.bytes bs) = some 2 :=
  (if_neg frame).trans (if_pos (by rw [decide_eq_true short]; rfl))

/-- A frame with all of its bytes is judged by its check, then by its format. -/
theorem frameFault_whole (frame : fld bs 0 1 ≠ 15) (long : 8 ≤ bs.length) (all : fld bs 6 2 ≤ bs.length) (least : 12 ≤ fld bs 6 2) :
    frameFault (.bytes bs) = if crc32c (bs.take (fld bs 6 2 - 4)) ≠ fld bs (fld bs 6 2 - 4) 4 then some 0
      else if bits (fld bs 1 1) 7 4 ≠ 1 || decide (frameLen bs ≠ fld bs 6 2) then some 1 else none := by
  refine (if_neg frame).trans ((if_neg ?_).trans (if_neg (Nat.not_lt.mpr least)))
  rw [decide_eq_false (Nat.not_lt.mpr long), decide_eq_false (Nat.not_lt.mpr all)]
  exact Bool.false_ne_true

end

theorem syncOk_false {b : Block} (bad : syncOk b = false) : b.sync ≠ 0b10 ∧ b.sync ≠ 0b01 := by
  simp only [syncOk, Bool.or_eq_false_iff, beq_eq_false_iff_ne] at bad
  exact ⟨bad.2, bad.1⟩

/-- The frame in progress of a lane that has seen a block, broken off: the elastic buffer loses it, or it is BROKEN. -/
theorem State.breakFrame_see {s : State} {t : Tile} {l : Fin 10} {b : Block} {bs : List Byte} (begun : (s.lnk t.val l.val).rxFrame = some bs) :
    let e := s.drift t.val l.val
    let u := (s.updLnk t.val l.val (fun y => { y.see b with rxFrame := none })).nextFree
    (s.updLnk t.val l.val (fun y => y.see b)).breakFrame t l = if e = 0 ∨ e = 64 then
        ((u.updLnk t.val l.val (fun y => { y with elastic := 32, fault := y.fault ||| 8 })).discard t.val l.val 2).raise t Ev.laneElastic [l.val, boolNat (e == 64)]
      else (u.updLnk t.val l.val (LaneHw.buffered e .broken)).discard t.val l.val 2 := by
  intro e u
  have frame : ((s.updLnk t.val l.val (fun y => y.see b)).lnk t.val l.val).rxFrame = some bs := by
    rw [State.lnk_updLnk]
    exact begun
  rw [State.breakFrame_ends frame, State.updLnk_updLnk]
  have level : (s.updLnk t.val l.val (fun y => { y.see b with rxFrame := none })).drift t.val l.val = e := by
    rw [State.drift, State.lnk_updLnk, State.updLnk_free]
    rfl
  split
  · next out => exact State.endFrame_lost level out
  · next inside => exact State.endFrame_faulty level (fun h => inside (.inl h)) (fun h => inside (.inr h)) rfl

/-- A frame that has arrived: what the elastic buffer and its checks make of it. -/
theorem State.frameReceive_frame {s w : State} {t : Tile} {l : Fin 10} {blocks : List Block} {bs : List Byte} {e : Nat} (ht : t.val < s.nTiles)
    (arrives : s.rxBlocks t l blocks = w.endFrame t l (.bytes bs)) (level : w.drift t.val l.val = e) :
    (e = 0 ∨ e = 64 → exec (.frameReceive t l blocks) s =
      .next (((w.nextFree.updLnk t.val l.val (fun y => { y with elastic := 32, fault := y.fault ||| 8 })).discard t.val l.val 2).raise t
        Ev.laneElastic [l.val, boolNat (e == 64)])) ∧
    (e ≠ 0 → e ≠ 64 → let v := w.nextFree.updLnk t.val l.val (LaneHw.buffered e (.bytes bs))
      (∀ k, frameFault (.bytes bs) = some k → exec (.frameReceive t l blocks) s = .next (v.discard t.val l.val k)) ∧
      (frameFault (.bytes bs) = none → isFill (.bytes bs) = true → exec (.frameReceive t l blocks) s = .next (v.trimBoundary t.val 0)) ∧
      (frameFault (.bytes bs) = none → isFill (.bytes bs) = false → exec (.frameReceive t l blocks) s = .next (v.acceptFrame t l bs))) := by
  refine ⟨fun out => onTile_gives ht (arrives.trans (State.endFrame_lost level out)), fun low high => ⟨fun k faulty => ?_, fun good fill => ?_, fun good frame => ?_⟩⟩
  · exact onTile_gives ht (arrives.trans (State.endFrame_faulty level low high faulty))
  · exact onTile_gives ht (arrives.trans ((State.endFrame_accepted level low high good).trans (if_pos fill)))
  · exact onTile_gives ht (arrives.trans ((State.endFrame_accepted level low high good).trans (if_neg (by rw [frame]; nofun))))

/-! ## Sleep and tests (16 R506, R510 to R513) -/

section
variable {s : State} {t : Tile} {l : Fin 10}

/-- A direction that wakes takes its trim correction, and the action ends with the last direction. -/
theorem State.wakeTrim_wakes {rx : Bool} {a : Nat} (on_ : s.lnkOn t.val l.val = true) (up : (s.lnk t.val l.val).st = 2)
    (wakes : vget (s.lnk t.val l.val).waking (if rx then 1 else 0) none = some a)
    (due : a + wakeTime rx (if rx then (s.lnk t.val l.val).rxslp else (s.lnk t.val l.val).txslp) ≤ s.now)
    (locked : rx = true → (s.lnk t.val l.val).lock = true) :
    let u := (s.updLnk t.val l.val (fun x => { x with
      waking := vset x.waking (if rx then 1 else 0) none, rxslp := if rx then 0 else x.rxslp, txslp := if rx then x.txslp else 0 })).raise t
        Ev.laneWake [l.val, if rx then 1 else 0, 0]
    s.wakeTrim t.val l.val rx =
      (if (u.lnk t.val l.val).waking.toList.all (·.isNone) then u.endAction t.val l.val St.ok else u).trimBoundary t.val 0 := by
  intro u
  have awake : s.laneAwake t.val l.val rx = if (u.lnk t.val l.val).waking.toList.all (·.isNone) then u.endAction t.val l.val St.ok else u := by
    simp only [State.laneAwake, wakes]
    refine (if_neg ?_).trans ?_
    · rw [on_, up, decide_eq_false (Nat.not_lt.mpr due)]
      cases rx with
      | false => exact Bool.false_ne_true
      | true =>
        rw [locked rfl]
        exact Bool.false_ne_true
    · simp only [State.raiseN, tileIx_val]
      rfl
  have lane : (u.lnk t.val l.val).waking = vset (s.lnk t.val l.val).waking (if rx then 1 else 0) none := by
    have kept : u.lnk t.val l.val = _ := State.lnk_updTile (fun x => x.occur_lanes _) _ _
    rw [kept, State.lnk_updLnk]
  have gone : vget ((if (u.lnk t.val l.val).waking.toList.all (·.isNone) then u.endAction t.val l.val St.ok else u).lnk t.val l.val).waking
      (if rx then 1 else 0) none = none := by
    have same : ((if (u.lnk t.val l.val).waking.toList.all (·.isNone) then u.endAction t.val l.val St.ok else u).lnk t.val l.val).waking =
        (u.lnk t.val l.val).waking := by
      split
      · rw [(State.endAction_ends _).1]
        rfl
      · rfl
    rw [same, lane]
    exact vget_vset_eq _ _ _ _ (by split <;> decide)
  rw [State.wakeTrim, awake]
  refine if_pos ?_
  rw [wakes, gone]
  rfl

theorem State.lnk_trimBoundary (k c n m : Nat) : (s.trimBoundary k c).lnk n m = s.lnk n m := by
  unfold State.trimBoundary State.updTrm State.updTileN
  refine State.lnk_updTile ?_ n m
  exact fun _ => rfl

/-- A lane whose test has ended keeps the counts of its checker. -/
def LaneHw.tested (x : LaneTest) (errors losses : Nat) (locked : Bool) (y : LaneHw) : LaneHw := { y with
  test := none, testDone := true, testLocked := locked && !decide (x.loopback = 2)
  testErr := if decide (x.loopback = 2) then 0 else min errors 0xFFFF_FFFF, testLoss := if decide (x.loopback = 2) then 0 else min losses 0xFFFF }

theorem LaneHw.tested_counts {x : LaneTest} (near : x.loopback ≠ 2) (errors losses : Nat) (locked : Bool) (y : LaneHw) :
    (y.tested x errors losses locked).testErr = min errors 0xFFFF_FFFF ∧ (y.tested x errors losses locked).testLoss = min losses 0xFFFF := by
  simp only [LaneHw.tested, decide_eq_false near, Bool.false_eq_true, if_false]
  exact ⟨trivial, trivial⟩

theorem State.lnk_trainLane : ((s.trainLane t.val l.val).lnk t.val l.val).st = 1 ∧ ((s.trainLane t.val l.val).lnk t.val l.val).trainAt = some s.now := by
  rw [State.trainLane, State.lnk_updLnk]
  exact ⟨rfl, rfl⟩

/-- The package as a test has ended on a lane, before the test's packet completes. -/
def State.tested (s : State) (t l : Nat) (x : LaneTest) (errors losses : Nat) (locked : Bool) : State :=
  ((s.trainLane t l).updLnk t l (LaneHw.tested x errors losses locked)).raiseN t Ev.laneTestDone [l, testErrors x errors losses locked, losses]

/-- A test that ends trains its lane, keeps the counts of its checker, and completes its packet. -/
theorem State.testTrim_ends {x : LaneTest} {errors losses : Nat} {locked : Bool} (test : (s.lnk t.val l.val).test = some x)
    (due : x.start + 250_000 * x.duration ≤ s.now) : let u := s.testTrim t.val l.val errors losses locked
    (u.lnk t.val l.val).test = none ∧ (u.lnk t.val l.val).testDone = true ∧ (u.lnk t.val l.val).st = 1 ∧ (u.lnk t.val l.val).trainAt = some s.now ∧
      (x.loopback ≠ 2 → (u.lnk t.val l.val).testErr = min errors 0xFFFF_FFFF ∧ (u.lnk t.val l.val).testLoss = min losses 0xFFFF) ∧
      (∀ e, s.entry x.seq = some e → e.st ≠ .done → u.DoneWith x.seq
        (if testErrors x errors losses locked = 0 then St.ok else St.testErrors) (testErrors x errors losses locked % 2 ^ 32) (x.duration % 2 ^ 31)) := by
  let v := (s.tested t.val l.val x errors losses locked).complete x.seq
    (if testErrors x errors losses locked = 0 then St.ok else St.testErrors) (testErrors x errors losses locked) x.duration
  have ends : s.testDone t.val l.val errors losses locked = v := by
    simp only [State.testDone, test]
    exact if_neg (Nat.not_lt.mpr due)
  have lane : v.lnk t.val l.val = ((s.trainLane t.val l.val).lnk t.val l.val).tested x errors losses locked :=
    (State.lnk_complete _ _ _ _ _ _).trans ((State.lnk_raiseN _ _ _ _ _).trans (State.lnk_updLnk ..))
  have trims : s.testTrim t.val l.val errors losses locked = v.trimBoundary t.val 0 := by
    rw [State.testTrim, ends]
    exact if_pos (by rw [test, lane]; rfl)
  intro u
  have same : u = v.trimBoundary t.val 0 := trims
  rw [same, State.lnk_trimBoundary, lane]
  exact ⟨rfl, rfl, State.lnk_trainLane.1, State.lnk_trainLane.2, fun near => LaneHw.tested_counts near _ _ _ _, fun e found open_ => State.complete_done _ _ _ _ _ found open_⟩

theorem State.testTrim_early {x : LaneTest} {errors losses : Nat} {locked : Bool} (test : (s.lnk t.val l.val).test = some x)
    (early : s.now < x.start + 250_000 * x.duration) : s.testTrim t.val l.val errors losses locked = s := by
  have waits : s.testDone t.val l.val errors losses locked = s := by
    simp only [State.testDone, test]
    exact if_pos early
  rw [State.testTrim, waits, test]
  rfl

end

/-- Settles O49: the scrambler, frames in blocks and their checks, FILL, and the sleep and tests of lanes. -/
theorem lanesReceiveSleepAndTest : Obligations.LanesReceiveSleepAndTest := by
  unfold Obligations.LanesReceiveSleepAndTest
  refine ⟨⟨fun st w word => descramble_scramble st word, fun s t l ht on_ up awake lock =>
      ⟨fun bs some_ len idle few => ?frame, fun b sync idle keeps => ?stray, fun b bs sync begun keeps => ?broken⟩,
    fun s u t l b c runs same => ?append, fun s t l b ht off => onTile_gives ht (State.rxBlocks_still off),
    fun y bs short _ => LaneHw.put_fills short, fun bs short frame => frameFault_short short frame,
    fun bs frame long all least => ⟨fun crc => ?crc, fun crc len => ?len, fun crc len version => ?good⟩⟩,
    fun s t l ht => ⟨fun a on_ up wakes due => onTile_gives ht (State.wakeTrim_wakes (rx := false) on_ up wakes due nofun),
      fun a on_ up wakes due lock => onTile_gives ht (State.wakeTrim_wakes (rx := true) on_ up wakes due fun _ => lock), by decide,
      fun y test wants once due => ?inject, fun y test no => ?noInject,
      fun y errors losses locked test due => ⟨_, onTile_gives ht rfl, State.testTrim_ends test due⟩, fun y errors losses locked test early => onTile_gives ht (State.testTrim_early test early)⟩⟩
  case frame =>
    refine State.frameReceive_frame ht (State.rxBlocks_frame on_ ⟨up, awake, lock, few⟩ some_ len idle) ?_
    rw [State.drift, State.lnk_updLnk, State.updLnk_free]
  case stray =>
    refine onTile_gives ht ((State.rxBlock_takes on_ up awake lock keeps).trans ?_)
    have none_ : ((s.updLnk t.val l.val (fun y => y.see b)).lnk t.val l.val).rxFrame = none := by
      rw [State.lnk_updLnk]
      exact idle
    refine (if_neg (by rw [sync]; decide)).trans ((if_pos sync).trans ?_)
    rw [none_]
  case broken =>
    intro u v
    refine onTile_gives ht ((State.rxBlock_takes on_ up awake lock keeps).trans ?_)
    have breaks : (s.updLnk t.val l.val (fun y => y.see b)).breakFrame t l = v := State.breakFrame_see begun
    rcases sync with bad | ⟨first, open_⟩
    · rw [if_pos bad, ← breaks]
      exact (if_neg (syncOk_false bad).1).trans (if_neg (syncOk_false bad).2)
    · rw [if_neg (by rw [syncOk, first]; nofun), ← breaks]
      exact (if_pos first).trans (if_neg (by rw [open_]; nofun))
  case append =>
    have there : t.val < s.nTiles := by
      refine Decidable.byContradiction fun absent => ?_
      exact nomatch (if_neg absent).symm.trans runs
    have first : s.rxBlocks t l b = u := Host.Outcome.next.inj ((onTile_present there).symm.trans runs)
    refine (onTile_present there).trans ((congrArg Host.Outcome.next ?_).trans (onTile_present (same ▸ there)).symm)
    rw [State.rxBlocks, List.foldl_append, ← first]
    rfl
  case crc => exact (frameFault_whole frame long all least).trans (if_pos crc)
  case len =>
    refine (frameFault_whole frame long all least).trans ((if_neg (Decidable.not_not.mpr crc)).trans (if_pos ?_))
    rw [decide_eq_true len, Bool.or_true]
  case good =>
    refine (frameFault_whole frame long all least).trans ((if_neg (Decidable.not_not.mpr crc)).trans (if_neg ?_))
    simp [version, len]
  case inject =>
    refine onTile_gives ht ?_
    simp only [State.testInject, test]
    refine whenDue_true ?_
    rw [once, decide_eq_true due]
    rcases wants with one | burst <;> simp [*]
  case noInject =>
    refine onTile_gives ht ?_
    simp only [State.testInject, test]
    refine whenDue_false ?_
    rcases no with ⟨one, burst⟩ | done <;> simp [*]

end Sys2Proof.Machine
end

section
/-! PROOF of twins that go on without their partner and of tiles that withdraw (01 R32, R40; 11 R348 to R353, R364, R365). -/

namespace Sys2Proof.Machine

section
variable {s : State} {t : Tile}

/-- A twin link that goes down takes the assays of its two tiles with it. -/
def State.twinLinkCut (s : State) (k : Nat) : State :=
  ((({ s with linkUp := vset s.linkUp k false } : State).raiseLead Ev.twinLinkDown [k]).updTileN (2 * k) (fun x => x.assay 2 false)).updTileN (2 * k + 1)
    (fun x => x.assay 2 false)

theorem State.twinLinkLost_up {k : Nat} (up : vget s.linkUp k true = true) : s.twinLinkLost k =
    let u := s.twinLinkCut k
    if (u.tileN (2 * k)).carries then (if (u.tileN (2 * k + 1)).withdrawable then u.withdraw (2 * k + 1) 9 else u).aloneFrom (2 * k)
    else if (u.tileN (2 * k + 1)).carries then u.aloneFrom (2 * k + 1)
    else u := whenDue_true up

theorem State.clockLost_good (good : (s.tile t).clockOk = true) (ev reason : Nat) : s.clockLost t.val ev reason =
    (((((s.updTile t (fun x => { x with clockOk := false })).raise t ev [t.val]).withdraw t.val 3).motionRole).leadFails t.val reason) := by
  simp only [State.clockLost, State.tileN_val, State.updTileN_val, State.raiseN, tileIx_val]
  exact whenDue_true good

theorem State.clockLost_gone (gone : (s.tile t).clockOk = false) (ev reason : Nat) : s.clockLost t.val ev reason = s := by
  simp only [State.clockLost, State.tileN_val]
  exact whenDue_false gone

/-- An assay set whose result has come: the tile as its strikes say. -/
def TileState.assayed (x : TileState) (pass : Bool) : TileState :=
  ({ x with assayRun := none, lastAssay := some pass, strikes := if pass then 0 else x.strikes + 1 } : TileState).assay 0 pass

section
variable {a : Nat} (raster : (s.tile t).rasterOn = true) (runs : (s.tile t).assayRun = some a) (stage : Nat)
include raster runs

theorem State.assayEnd_passes : s.assayEnd t.val true stage = s.updTile t (TileState.assayed · true) := by
  simp only [State.assayEnd, State.tileN_val, raster, runs, State.updTileN_val]
  rfl

theorem State.assayEnd_fails : let u := (s.updTile t (TileState.assayed · false)).raise t Ev.assayFail [t.val, 0, stage, (s.tile t).edge]
    s.assayEnd t.val false stage = if (s.tile t).assayMax ≤ (s.tile t).strikes + 1 ∧ (s.tileN (partnerOf t.val)).lastAssay = some true ∧
      (s.tileN (partnerOf t.val)).twin = .paired then u.withdraw t.val 2 else u := by
  intro u
  have due : ¬(!(s.tileN t.val).rasterOn || (s.tileN t.val).assayRun.isNone) = true := by
    rw [State.tileN_val, raster, runs]
    exact Bool.false_ne_true
  have fails : (s.updTileN t.val (TileState.assayed · false)).raiseN t.val Ev.assayFail [t.val, 0, stage, (s.tileN t.val).edge] = u := by
    simp only [State.updTileN_val, State.raiseN, tileIx_val, State.tileN_val, u]
  rw [← fails, ← State.tileN_val]
  refine (if_neg due).trans ((if_neg Bool.false_ne_true).trans (ite_congr (propext ?_) (fun _ => rfl) fun _ => rfl))
  simp only [Bool.and_eq_true, decide_eq_true_eq, and_assoc]

end

theorem State.assayEnd_idle (idle : (s.tile t).assayRun = none) (pass : Bool) (stage : Nat) : s.assayEnd t.val pass stage = s :=
  if_pos (by rw [State.tileN_val, idle]; exact Bool.or_true _)

end

section
variable {s : State} {h : Nat}

theorem State.hopDown_old (old : h ∈ s.hops) : s.hopDown h = s := if_pos (by rw [List.contains_iff_mem.mpr old]; rfl)

/-- A hop that fails afresh: the first reroutes, any further one cuts tiles off. -/
theorem State.hopDown_new (there : h < s.nTiles) (new : h ∉ s.hops) : s.hopDown h =
    let u : State := { s with hops := s.hops ++ [h] }
    if u.hops.length = 1 then u.raiseLead Ev.fabricHopDown [h]
    else ((s.tileList.filter (fun t => !u.reaches0 t)).foldl (fun s t => s.withdraw t 5) u).raiseLead Ev.fabricSplit [h] := by
  refine if_neg ?_
  rw [decide_eq_false (Nat.not_le.mpr there)]
  simpa using new

end

/-- Settles O50: the twin link, the partner, heartbeats, clocks, watchdogs, assays and the fabric. -/
theorem twinsAndTilesWithdraw : Obligations.TwinsAndTilesWithdraw := by
  unfold Obligations.TwinsAndTilesWithdraw
  refine ⟨⟨fun s k hk up => ?link, fun s k hk down => (if_pos hk).trans (congrArg Host.Outcome.next (whenDue_false down)),
      fun s t ht => ⟨fun withdrawn news => ?left, fun stays => ?stays, fun due => ?silent, fun no => ?heard, fun due => ?limit, fun on_ clock due => ?beat, fun early => ?early⟩⟩,
    fun s t ht => ⟨fun good => ⟨onTile_gives ht (State.clockLost_good good ..), onTile_gives ht (State.clockLost_good good ..)⟩,
      fun gone => ⟨onTile_gives ht (State.clockLost_gone gone ..), onTile_gives ht (State.clockLost_gone gone ..)⟩, fun on_ => ?watchdog,
      fun raster idle => ?start, fun a stage raster runs => ⟨onTile_gives ht (State.assayEnd_passes raster runs stage), onTile_gives ht (State.assayEnd_fails raster runs stage)⟩,
      fun idle pass stage => onTile_gives ht (State.assayEnd_idle idle pass stage)⟩,
    fun s h hh => ⟨fun old => onTile_gives hh (State.hopDown_old old), fun first => ?first, fun more new => ?split⟩⟩
  case link =>
    have gives : ∀ {v : State}, s.twinLinkLost k.val = v → exec (.twinLinkDown k) s = .next v := fun effect =>
      (if_pos hk).trans (congrArg Host.Outcome.next effect)
    refine ⟨fun first => gives ((State.twinLinkLost_up up).trans (if_pos first)), fun no second => gives ((State.twinLinkLost_up up).trans ?_),
      fun no neither => gives ((State.twinLinkLost_up up).trans ?_)⟩
    · exact (if_neg (fun h => Bool.false_ne_true (no.symm.trans h))).trans (if_pos second)
    · exact (if_neg (fun h => Bool.false_ne_true (no.symm.trans h))).trans (if_neg (fun h => Bool.false_ne_true (neither.symm.trans h)))
  case left =>
    have due : decide ((s.tileN (partnerOf t.val)).twin = .withdrawn ∧ (s.tileN t.val).pstate ≠ .withdrawn) = true :=
      decide_eq_true ⟨withdrawn, by rwa [State.tileN_val]⟩
    refine ⟨onTile_gives ht (whenDue_true due), (whenDue_true due).trans ?_⟩
    simp only [State.tileN_val, State.updTileN_val]
  case stays => exact onTile_gives ht (whenDue_false (decide_eq_false fun h => stays h.1))
  case silent => exact onTile_gives ht (if_neg (by rw [due]; exact Bool.false_ne_true))
  case heard => exact onTile_gives ht (if_pos (by rw [no]; rfl))
  case limit =>
    simp only [State.silentDue, State.tileN_val, Bool.and_eq_true, decide_eq_true_eq] at due
    exact due.1.1.1.1
  case beat =>
    refine onTile_gives ht ?_
    simp only [State.heartbeat, State.tileN_val, State.updTileN_val]
    exact whenDue_true (by rw [on_, clock, decide_eq_true due]; rfl)
  case early =>
    refine onTile_gives ht (whenDue_false ?_)
    rw [State.tileN_val, decide_eq_false (Nat.not_le.mpr early), Bool.and_false]
  case watchdog => exact onTile_gives ht (whenDue_true (by rwa [State.tileN_val]))
  case start =>
    refine onTile_gives ht ?_
    simp only [State.assayStart, State.tileN_val, State.updTileN_val]
    exact whenDue_true (by rw [raster, idle]; rfl)
  case first =>
    refine onTile_gives hh ((State.hopDown_new hh (by simp [first])).trans ?_)
    rw [first]
    rfl
  case split =>
    refine onTile_gives hh ((State.hopDown_new hh new).trans (if_neg fun one => more ?_))
    simpa using one

end Sys2Proof.Machine
end

section
/-! PROOF of the lead's moves, of preserves and of the copy at a rejoin (11 R363, R367, R370 to R381; 12 R419). -/

namespace Sys2Proof.Machine

section
variable {s : State}

/-! ## The host functions after a takeover (11 R374 to R376) -/

theorem State.coldStarted_resumes (cold : s.lead.cold = 1) (link : s.port.link < 5) (on_ : (s.tileN s.lead.tile).on 3 = true) :
    s.coldStarted = (s.updPort s.lead.tile (fun p => { p with link := 0 })).resumeHost :=
  (if_neg (Decidable.not_not.mpr cold)).trans (if_pos (by rw [decide_eq_true link, on_]; rfl))

theorem State.coldStarted_faults (cold : s.lead.cold = 1) (no : 5 ≤ s.port.link ∨ (s.tileN s.lead.tile).on 3 = false) : s.coldStarted =
    (({ s with lead := { s.lead with cold := 2 } } : State).updTileN s.lead.tile (fun x => { x with portFault := true })).raiseLead
      Ev.hostPortFault [s.lead.tile] := by
  refine (if_neg (Decidable.not_not.mpr cold)).trans (if_neg ?_)
  rcases no with down | off
  · simp [Nat.not_lt.mpr down]
  · simp [off]

theorem State.linkState_moves {p st : Nat} (no : s.lead.cold ≠ 2 ∨ p ≠ s.lead.tile ∨ st ≠ 0) :
    s.linkState p st = s.updPort p (fun x => { x with link := st }) := by
  refine if_neg ?_
  rcases no with warm | other | down <;> simp [*]

theorem State.linkState_resumes {p : Nat} (cold : s.lead.cold = 2) (lead : p = s.lead.tile) :
    s.linkState p 0 = (s.updPort p (fun x => { x with link := 0 })).resumeHost :=
  if_pos (by simp [cold, lead])

/-! ## The way back (11 R379 to R381) -/

/-- The hold-off has ended, and a preserve is fresh. -/
theorem State.takeback_gives {a b : Nat} (tile : s.lead.tile = 1) (free : s.lead.handover = none) (warm : s.lead.cold = 0)
    (paired : (s.tileN 0).twin = .paired) (link : (vget s.qen.ports 0 Port.reset).link = 0) (recv : s.lead.recvAt = some a)
    (fresh : s.now ≤ a + 2_500_000) (since : (s.tileN 0).pairedAt = some b) (due : b ≤ s.now) : s.takeback = s.handover 0 := by
  have standby : s.standby = 0 := by rw [State.standby, tile]
  have ok : s.handoverOk = true := by
    rw [State.handoverOk, standby, free, warm, paired, link, recv, Option.map_some, decide_eq_true fresh]
    rfl
  exact whenDue_true (by rw [tile, ok, since, Option.map_some, decide_eq_true due]; rfl)

/-- A handover by T1 moves the lead to T0 with the next epoch, and nothing of the tiles, queues or job. -/
theorem State.handover_moves (tile : s.lead.tile = 1) (seq : Nat) : (s.handover seq).lead.tile = 0 ∧
    (s.handover seq).lead.epoch = nextEpoch s.lead.epoch ∧ (s.handover seq).lead.handover = some (s.now, 1, seq) ∧
    (s.handover seq).tiles = s.tiles ∧ (s.handover seq).qen = s.qen ∧ (s.handover seq).job = s.job ∧ (s.handover seq).stores = s.stores := by
  rw [State.handover, tile]
  exact ⟨rfl, rfl, rfl, rfl, rfl, rfl, rfl⟩

/-! ## Preserves (11 R370 to R372) -/

theorem Preserve.bad_none {p : Preserve} {kind : Nat} {bs : List Byte} (header : bs.take 64 = p.header kind (leAt bs 40 2) bs.length)
    (sections : badSection (leAt bs 40 2) (bs.drop 64) = none) : p.bad kind bs = none := (if_pos header).trans sections

theorem Preserve.bad_some {p : Preserve} {kind : Nat} {bs : List Byte}
    (bad : ¬(bs.take 64 = p.header kind (leAt bs 40 2) bs.length ∧ badSection (leAt bs 40 2) (bs.drop 64) = none)) :
    p.bad kind bs = some (if bs.take 64 = p.header kind (leAt bs 40 2) bs.length then (badSection (leAt bs 40 2) (bs.drop 64)).getD 0 else 0) := by
  by_cases header : bs.take 64 = p.header kind (leAt bs 40 2) bs.length
  · obtain ⟨sec, fails⟩ := Option.ne_none_iff_exists'.mp fun h => bad ⟨header, h⟩
    rw [if_pos header, fails]
    exact (if_pos header).trans fails
  · rw [if_neg header]
    exact if_neg header

theorem State.preserveReceive_keeps {p : Preserve} {bs : List Byte} (sent : s.lead.sent = some p) (good : p.bad s.lead.oldSlot bs = none) :
    s.preserveReceive bs = ({ s with lead := { s.lead with
      sent := none, slots := vset s.lead.slots s.lead.oldSlot (some p), recvAt := some s.now } } : State).updTileN s.standby (fun x =>
        ({ x with pseq := p.pseq } : TileState).assay 3 true) := by
  simp only [State.preserveReceive, sent, good]
  rfl

theorem State.preserveReceive_reports {p : Preserve} {bs : List Byte} {sec : Nat} (sent : s.lead.sent = some p)
    (bad : p.bad s.lead.oldSlot bs = some sec) : s.preserveReceive bs =
    (({ s with lead := { s.lead with sent := none } } : State).updTileN s.standby (fun x => x.assay 3 false)).raiseLead Ev.preserveBad [p.pseq, sec] := by
  simp only [State.preserveReceive, sent, bad]

/-- A section that its bytes hold whole is judged by its CRC. -/
theorem badSection_whole {n len : Nat} {bs : List Byte} (long : 16 ≤ bs.length) (length : len = leAt bs 4 4) (whole : 16 + len ≤ bs.length) :
    badSection (n + 1) bs = if leAt bs 12 4 = crc32c ((bs.drop 16).take len) then badSection n (bs.drop (16 + len)) else some (leAt bs 0 2) := by
  subst length
  refine (if_neg (Nat.not_lt.mpr long)).trans (ite_congr (propext (and_iff_right ?_)) (fun _ => rfl) fun _ => rfl)
  rw [List.length_take, List.length_drop]
  omega

/-! ## The end of a copy (11 R363, R367) -/

section
variable {t : Tile}

/-- A tile whose copy is done: it has its partner's state, or its own where both withdrew for TIME. -/
def State.copied (s : State) (t : Tile) : State :=
  s.updTile t (fun x => { (if (s.tileN (partnerOf t.val)).printing = true ∧ vget s.linkUp (t.val / 2) true = true then
    x.copyFrom (s.tileN (partnerOf t.val)) else x.resumeAlone s.motion.lastLine) with startLine := some 0, rejoinSeq := none })

theorem State.copyDone_copied (copying : (s.tile t).copying = true) (source : ((s.tileN (partnerOf t.val)).printing = true ∧
    vget s.linkUp (t.val / 2) true = true ∨ s.timeAlone t.val = true)) : let u := s.copied t
    let seq := (s.tile t).rejoinSeq.getD 0
    s.copyDone t.val = if u.armed then (if seq = 0 then u else u.park seq (.commit u.job.cseq)).prepare (.start t.val) 0 seq
      else ((u.setTwin t.val .fill 0 (u.motion.lastLine + 1)).updTileN t.val (fun x =>
        { x with startLine := some (u.motion.lastLine + 1) })).doneLine seq St.ok (u.motion.lastLine + 1) := by
  intro u seq
  have due : ¬(!(s.tileN t.val).copying || !((s.tileN (partnerOf t.val)).printing && vget s.linkUp (t.val / 2) true || s.timeAlone t.val)) = true := by
    rw [State.tileN_val, copying]
    rcases source with ⟨prints, link⟩ | alone <;> simp [*]
  have takes : u = s.updTileN t.val (fun x => { (if (s.tileN (partnerOf t.val)).printing && vget s.linkUp (t.val / 2) true then
      x.copyFrom (s.tileN (partnerOf t.val)) else x.resumeAlone s.motion.lastLine) with startLine := some 0, rejoinSeq := none }) := by
    simp only [u, State.copied, State.updTileN_val, Bool.and_eq_true]
  have number : seq = (s.tileN t.val).rejoinSeq.getD 0 := by rw [State.tileN_val]
  rw [number, takes]
  exact if_neg due

theorem State.copyDone_idle (idle : (s.tile t).copying = false) : s.copyDone t.val = s := if_pos (by rw [State.tileN_val, idle]; rfl)

end

end

/-- Settles O51: the host functions after a takeover, the lead's way back, preserves, and the copy at a rejoin. -/
theorem leadMovesWithItsPreserve : Obligations.LeadMovesWithItsPreserve := by
  unfold Obligations.LeadMovesWithItsPreserve
  refine ⟨fun s => ⟨fun cold link on_ => congrArg Host.Outcome.next (State.coldStarted_resumes cold link on_),
      fun cold no => congrArg Host.Outcome.next (State.coldStarted_faults cold no), fun warm => congrArg Host.Outcome.next (if_pos warm),
      fun cold => congrArg Host.Outcome.next (whenDue_true (by rw [decide_eq_true cold]; rfl)), congrArg Host.Outcome.next (whenDue_false (Bool.and_false _)),
      fun p st no => congrArg Host.Outcome.next (State.linkState_moves no), fun p cold lead => congrArg Host.Outcome.next (State.linkState_resumes cold lead),
      fun a b tile free warm paired link recv fresh since due =>
        ⟨_, congrArg Host.Outcome.next (State.takeback_gives tile free warm paired link recv fresh since due), State.handover_moves tile 0⟩,
      fun other => ?standby, fun h g q runs => ⟨fun due => ?ends, fun early => ?overlap⟩⟩,
    fun s => ⟨fun runs on_ => ⟨_, congrArg Host.Outcome.next (whenDue_true (by rw [runs, on_]; rfl)), rfl, rfl, ?pseq, rfl, rfl⟩, fun off => ⟨?noCapture, ?noFlash⟩,
      fun runs => ⟨_, congrArg Host.Outcome.next (whenDue_true runs), rfl, rfl, rfl⟩, fun p bs sent => ⟨fun good => ?keeps, fun bad => ?bad⟩, fun none_ bs => ?nothing,
      fun n bs len => ⟨rfl, fun long length whole => badSection_whole long length whole⟩,
      fun t ht copying source => ?copied, fun t ht idle => onTile_gives ht (State.copyDone_idle idle)⟩⟩
  case standby => exact congrArg Host.Outcome.next (whenDue_false (by rw [decide_eq_false other]; rfl))
  case ends =>
    refine congrArg Host.Outcome.next ?_
    simp only [State.handoverEnd, runs]
    exact whenDue_true (decide_eq_true due)
  case overlap =>
    refine congrArg Host.Outcome.next ?_
    simp only [State.handoverEnd, runs]
    exact whenDue_false (decide_eq_false (Nat.not_le.mpr early))
  case pseq =>
    show (s.captured.tileN s.lead.tile).pseq = s.lead.pseq
    rw [State.captured, State.tileN, State.updTileN, State.tile_updTile]
  case noCapture => exact congrArg Host.Outcome.next (whenDue_false (by rw [off]; rfl))
  case noFlash => exact congrArg Host.Outcome.next (whenDue_false off)
  case keeps => exact congrArg Host.Outcome.next (State.preserveReceive_keeps sent (Preserve.bad_none good.1 good.2))
  case bad => exact congrArg Host.Outcome.next (State.preserveReceive_reports sent (Preserve.bad_some bad))
  case nothing =>
    refine congrArg Host.Outcome.next ?_
    simp only [State.preserveReceive, none_]
  case copied =>
    have copy := State.copyDone_copied copying source
    refine ⟨fun armed alone => onTile_gives ht (copy.trans ((if_pos armed).trans ?_)), fun q armed packet some_ => onTile_gives ht (copy.trans ((if_pos armed).trans ?_)),
      fun unarmed => onTile_gives ht (copy.trans ((if_neg (fun armed => Bool.false_ne_true (unarmed.symm.trans armed))).trans ?_))⟩
    · rw [alone]
      rfl
    · rw [packet, Option.getD_some, if_neg some_]
      rfl
    · rw [State.updTileN_val]
      rfl

end Sys2Proof.Machine
end

section
/-! PROOF of PREPARE and ACK, and of the boot of tiles (11 R359, R377; 19 R576 to R579). -/

namespace Sys2Proof.Machine

/-! ## PREPARE and ACK (11 R359) -/

section
variable {s : State} {t : Tile} {cseq : Nat} {c : Commit} (found : s.job.commits.find? (fun c => c.cseq == cseq) = some c)
include found

theorem State.prepareReceive_holds (awaited : t.val ∈ c.preparing) : s.prepareReceive t cseq =
    ({ s with job := { s.job with commits := mapIf s.job.commits (fun d => d.cseq == cseq) (fun d =>
      { d with preparing := d.preparing.filter (fun k => k != t.val) }) } } : State).updTile t (fun x =>
        { x with heldCommits := x.heldCommits.filter (fun h => h.1 != cseq) ++ [(cseq, c.line)] }) := by
  simp only [State.prepareReceive, found]
  exact if_pos awaited

theorem State.prepareReceive_still (no : t.val ∉ c.preparing) : s.prepareReceive t cseq = s := by
  simp only [State.prepareReceive, found]
  exact if_neg no

theorem State.ackReceive_counts (awaits : t.val ∈ c.awaiting) (prepared : t.val ∉ c.preparing) : let u : State := { s with job := { s.job with
      commits := mapIf s.job.commits (fun d => d.cseq == cseq) (fun d => { d with awaiting := c.awaiting.filter (fun k => k != t.val) }) } }
    s.ackReceive t cseq = if (c.awaiting.filter (· != t.val)).isEmpty then u.commitDone cseq else u := by
  simp only [State.ackReceive, found]
  exact if_pos (by simp [awaits, prepared])

theorem State.ackReceive_still (no : t.val ∉ c.awaiting ∨ t.val ∈ c.preparing) : s.ackReceive t cseq = s := by
  simp only [State.ackReceive, found]
  refine if_neg ?_
  rcases no with old | early <;> simp [*]

end

/-! ## Boot stages (19 R576 to R579) -/

section
variable {s : State} {t : Tile}

theorem State.bootPass_rom (stage : (s.tile t).boot.stage = 1) : s.bootPass t.val =
    if s.heatForbids t.val then s else (s.bootOn t.val 2).updBoot t.val (fun b => { b with stage := 2 }) := by
  simp only [State.bootPass, State.tileN_val, stage]

theorem State.bootPass_image (stage : (s.tile t).boot.stage = 2) : s.bootPass t.val = if t.val = s.flash.owner then s.imageDone t.val else s := by
  simp only [State.bootPass, State.tileN_val, stage]

theorem State.bootPass_memory (stage : (s.tile t).boot.stage = 3) : s.bootPass t.val =
    (s.bootOn t.val 0x7DF4).updBoot t.val (fun b => { b with stage := 4 }) := by
  simp only [State.bootPass, State.tileN_val, stage]

theorem State.bootPass_lanes (stage : (s.tile t).boot.stage = 4) : s.bootPass t.val = s.updBoot t.val (fun b => { b with stage := 5 }) := by
  simp only [State.bootPass, State.tileN_val, stage]

theorem State.bootPass_pair (stage : (s.tile t).boot.stage = 5) : s.bootPass t.val =
    if (s.tileN (partnerOf t.val)).reachedPair then s.pairDone t.val else s := by
  simp only [State.bootPass, State.tileN_val, stage]

theorem State.bootPass_restore (stage : (s.tile t).boot.stage = 6) : s.bootPass t.val = s.restore.updBoot t.val (fun b => { b with stage := 7 }) := by
  simp only [State.bootPass, State.tileN_val, stage]

/-- Only the host port is left for HOST to switch on, and the lead stays. -/
theorem State.bootOn_host_lead : (s.bootOn t.val 8).lead = s.lead := by
  have domains : bitsOf 15 (8 &&& bonded t.val) = [3] ∨ bitsOf 15 (8 &&& bonded t.val) = [] := by
    rw [bonded]
    split
    · exact .inl (by decide)
    · exact .inr (by decide)
  rcases domains with port | none_
  · rw [State.bootOn, port, List.foldl_cons, List.foldl_nil]
    split <;> rfl
  · rw [State.bootOn, none_]
    rfl

theorem State.bootPass_host (stage : (s.tile t).boot.stage = 7) : let u := s.bootOn t.val 8
    s.bootPass t.val = (if t.val = s.lead.tile then ({ u with qen := { u.qen with ready := true } } : State) else u).bootReady t.val := by
  simp only [State.bootPass, State.tileN_val, stage, State.bootOn_host_lead]

theorem State.bootPass_over (stage : 8 ≤ (s.tile t).boot.stage) : s.bootPass t.val = s := by
  obtain ⟨n, beyond⟩ := Nat.exists_eq_add_of_le' stage
  simp only [State.bootPass, State.tileN_val, beyond]

/-- The tile that reads the flash tries the other slot once. -/
theorem State.bootStageFails_retries {c : Nat} (stage : (s.tile t).boot.stage = 2) (owner : t.val = s.flash.owner) (first : (s.tile t).boot.asked = false)
    (valid : s.flash.stateOf (1 - (s.tile t).boot.slot) = 1) (no : s.lead.updating = []) :
    s.bootStageFails t.val c = s.updBoot t.val (fun b => { b with slot := 1 - b.slot, asked := true }) := by
  have due : (decide ((s.tileN t.val).boot.stage = 2) && decide (t.val = s.flash.owner) && !(s.tileN t.val).boot.asked &&
      decide (s.flash.stateOf (1 - (s.tileN t.val).boot.slot) = 1) && !s.lead.updating.any (fun u => u.2.1 == t.val)) = true := by
    rw [State.tileN_val, stage, decide_eq_true owner, first, valid, no]
    rfl
  refine (if_pos due).trans ?_
  simp only [State.updBoot, State.updTileN_val, State.tileN_val]
  rfl

theorem State.bootStageFails_fails {c : Nat} (stage : (s.tile t).boot.stage = 1 ∨ 3 ≤ (s.tile t).boot.stage ∧ (s.tile t).boot.stage ≤ 7) :
    s.bootStageFails t.val c = s.bootFails t.val c := by
  have other : (s.tile t).boot.stage ≠ 2 := by omega
  simp only [State.bootStageFails, State.tileN_val, decide_eq_false other, Bool.false_and, Bool.false_eq_true, if_false]
  exact if_pos (by rw [Bool.and_eq_true, decide_eq_true_eq, decide_eq_true_eq]; omega)

theorem State.imageReceive_due (stage : (s.tile t).boot.stage = 2) (other : t.val ≠ s.flash.owner)
    (least : 3 ≤ (s.tileN s.flash.owner).boot.stage) (most : (s.tileN s.flash.owner).boot.stage ≤ 8) :
    decide ((s.tileN t.val).boot.stage = 2 ∧ t.val ≠ s.flash.owner ∧ 3 ≤ (s.tileN s.flash.owner).boot.stage ∧ (s.tileN s.flash.owner).boot.stage ≤ 8) = true := by
  rw [State.tileN_val]
  exact decide_eq_true ⟨stage, other, least, most⟩

end

/-- T0 not through IMAGE in time: T1 claims the flash and takes the lead. -/
theorem State.imageTimeout_moves {s : State} (lead : s.lead.tile = 0) (stuck : (s.tileN 0).boot.stage ≤ 2 ∨ (s.tileN 0).boot.stage = 15)
    (never : (s.tileN 0).boot.reached = false) : s.imageTimeout = (s.moveLead 1).updBoot 1 (fun b => { b with slot := s.flash.active, asked := false }) :=
  whenDue_true (by rw [decide_eq_true ⟨lead, stuck⟩, never]; rfl)

/-- Settles O52: PREPARE and ACK, the stages of the boot with their failures, images and timeouts. -/
theorem commitsAndBootAdvance : Obligations.CommitsAndBootAdvance := by
  unfold Obligations.CommitsAndBootAdvance
  refine ⟨fun s t cseq ht => ⟨fun c found => ⟨fun awaited => ⟨_, onTile_gives ht (State.prepareReceive_holds found awaited), ?held, fun k other => ?others, rfl, rfl, rfl⟩,
      fun no => onTile_gives ht (State.prepareReceive_still found no), fun awaits prepared => ?ack, fun no => ?noAck⟩, fun absent => ?absent⟩,
    fun s t ht => ⟨fun stage cool => ?rom, fun stage hot => ?hot, fun stage => onTile_gives ht (State.bootPass_image stage), fun stage => onTile_gives ht (State.bootPass_memory stage),
      fun stage => onTile_gives ht (State.bootPass_lanes stage), fun stage => onTile_gives ht (State.bootPass_pair stage), fun stage => onTile_gives ht (State.bootPass_restore stage),
      fun stage lead => ?host, fun stage other => ?other, fun stage => onTile_gives ht (State.bootPass_over stage),
      fun c stage owner first valid no => onTile_gives ht (State.bootStageFails_retries stage owner first valid no), fun c stage => onTile_gives ht (State.bootStageFails_fails stage),
      fun stage other least most => ⟨?image, fun c => ?imageFails⟩, fun stage e => ?noImage, fun stage => ?pair, fun stage => ?noPair⟩,
    fun s lead stuck never => ⟨_, congrArg Host.Outcome.next (State.imageTimeout_moves lead stuck never), rfl, rfl, rfl, ?slot, rfl, rfl⟩,
    fun s other => congrArg Host.Outcome.next (whenDue_false ?standby)⟩
  case held =>
    rw [State.tile_updTile]
    exact List.mem_append_right _ (List.mem_singleton.mpr rfl)
  case others => exact State.tile_updTile_ne _ _ _ _ other
  case ack =>
    refine onTile_gives ht ((congrArg (fun u : State => u.disarmSettle.armSettle) (State.ackReceive_counts found awaits prepared)).trans ?_)
    split <;> rfl
  case noAck => exact onTile_gives ht (congrArg (fun u : State => u.disarmSettle.armSettle) (State.ackReceive_still found no))
  case absent =>
    refine onTile_gives ht ?_
    simp only [State.commitPrepared, State.prepareReceive, absent]
  case rom => exact onTile_gives ht ((State.bootPass_rom stage).trans (if_neg (by rw [cool]; exact Bool.false_ne_true)))
  case hot => exact onTile_gives ht ((State.bootPass_rom stage).trans (if_pos hot))
  case host => exact onTile_gives ht ((State.bootPass_host stage).trans (congrArg (State.bootReady · t.val) (if_pos lead)))
  case other => exact onTile_gives ht ((State.bootPass_host stage).trans (congrArg (State.bootReady · t.val) (if_neg other)))
  case image => exact onTile_gives ht (whenDue_true (State.imageReceive_due stage other least most))
  case imageFails =>
    refine onTile_gives ht ((whenDue_true (State.imageReceive_due stage other least most)).trans ?_)
    rw [State.tileN_val]
  case noImage =>
    refine onTile_gives ht (whenDue_false (decide_eq_false fun h => stage ?_))
    exact (congrArg (fun x : TileState => x.boot.stage) (s.tileN_val t)).symm.trans h.1
  case pair => exact onTile_gives ht (whenDue_true (by rw [State.tileN_val]; exact decide_eq_true stage))
  case noPair => exact onTile_gives ht (whenDue_false (by rw [State.tileN_val]; exact decide_eq_false stage))
  case slot => exact congrArg (fun x : TileState => x.boot.slot) (State.tile_updTile _ _ _)
  case standby =>
    rw [decide_eq_false fun h => other h.1]
    rfl

end Sys2Proof.Machine
end

section
/-! PROOF of the cold reset, of domains that switch on and of the always-on supply (00 R11; 01 R49; 19 R568, R569, R580 to R588). -/

namespace Sys2Proof.Machine

section
variable {s : State} {t : Tile}

/-! ## The cold reset (19 R568, R580) -/

theorem State.tile_coldReset (s : State) (t : Tile) : s.coldReset.tile t = s.coldTile t.val := by
  show (Vector.ofFn (fun i : Fin 8 => s.coldTile i.val))[t.val] = _
  rw [Vector.getElem_ofFn]

/-- What the always-on supply kept of a tile's counts stays, and one more cold start is counted. -/
theorem State.coldTile_kept (valid : (s.tile t).boot.aonValid = true) : (s.coldTile t.val).boot.hours = (s.tile t).boot.hours ∧
    (s.coldTile t.val).boot.aonlost = false ∧ (s.coldTile t.val).boot.coldStarts = satInc 32 (s.tile t).boot.coldStarts := by
  simp only [State.coldTile, State.tileN_val, valid]
  exact ⟨rfl, rfl, rfl⟩

theorem State.coldTile_lost (lost : (s.tile t).boot.aonValid = false) : (s.coldTile t.val).boot.aonlost = true := by
  simp only [State.coldTile, State.tileN_val, lost]
  rfl

theorem State.coldTile_reset (s : State) (k : Nat) : (s.coldTile k).mem = [] ∧ (s.coldTile k).evr = TileState.reset.evr ∧ (s.coldTile k).pdOn = 1 ∧
    (s.coldTile k).boot.stage = 1 ∧ (s.coldTile k).boot.slot = s.flash.active := ⟨rfl, rfl, rfl, rfl, rfl⟩

/-! ## Domains (01 R49) -/

/-- These domains need nothing of the package as they come up. -/
theorem State.domUp_plain {d : Nat} (plain : d = 0 ∨ d = 2 ∨ d = 3 ∨ d = 4 ∨ d = 5 ∨ d = 6 ∨ d = 7 ∨ d = 8) :
    s.domUp t.val d = s.updTile t (fun x => { x with pdOn := x.pdOn ||| 2 ^ d, pdBusy := clearBit x.pdBusy d }) := by
  rw [← State.updTileN_val]
  rcases plain with rfl | rfl | rfl | rfl | rfl | rfl | rfl | rfl <;> rfl

/-! ## The always-on supply (19 R569, R588) -/

/-- Two changes of a tile's boot registers that give the same registers are one. -/
theorem State.updBoot_congr {f g : Boot → Boot} (same : f (s.tile t).boot = g (s.tile t).boot) : s.updBoot t.val f = s.updBoot t.val g := by
  simp only [State.updBoot, State.updTileN_val, State.updTile, same]

theorem State.aonSupply_switches (toBat : Bool) (keeps : ¬(t.val < 2 ∧ toBat = true ∧ (s.tile t).boot.vbat < 2000)) :
    s.aonSupply t.val toBat = s.updBoot t.val (fun b => { b with
      onBat := toBat, aonValid := if toBat = true ∧ b.vbat < 2000 then false else b.aonValid }) := by
  refine (if_neg ?_).trans (State.updBoot_congr ?_)
  · simp only [State.tileN_val, Bool.and_eq_true, decide_eq_true_eq]
    exact fun h => keeps ⟨h.2, h.1.1, h.1.2⟩
  · rw [State.tileN_val]
    by_cases low : toBat = true ∧ (s.tile t).boot.vbat < 2000
    · simp [low]
    · rw [if_neg low, show (toBat && decide ((s.tile t).boot.vbat < 2000)) = false by simpa using low, Bool.not_false, Bool.and_true]

theorem State.aonSupply_loses (small : t.val < 2) (low : (s.tile t).boot.vbat < 2000) :
    s.aonSupply t.val true = (s.updBoot t.val (fun b => { b with onBat := true, aonValid := false })).calInvalidate t.val := by
  refine (if_pos ?_).trans (congrArg (State.calInvalidate · t.val) (State.updBoot_congr ?_))
  · simp [low, small]
  · simp [low]

/-- An invalid calendar starts afresh, and its shadow counts no more. -/
theorem State.calInvalidate_resets {k : Nat} (small : k < 2) : vget (s.calInvalidate k).marks.cal k Cal.reset = { Cal.reset with tau := s.now } ∧
    vget (s.calInvalidate k).marks.shadowOk k true = false := by
  have marks : (s.calInvalidate k).marks.cal = vupd s.marks.cal k Cal.reset (fun _ => { Cal.reset with tau := s.now }) ∧
      (s.calInvalidate k).marks.shadowOk = vset s.marks.shadowOk k false := by
    rw [State.calInvalidate]
    split <;> exact ⟨rfl, rfl⟩
  rw [marks.1, marks.2]
  exact ⟨vget_vupd_eq _ _ _ _ small, vget_vset_eq _ _ _ _ small⟩

theorem State.vbatMeasure_power {mv : Nat} (power : (s.tile t).boot.onBat = false) :
    let u := s.updBoot t.val (fun b => { b with vbat := mv % 2 ^ 16, vbatLow := decide (mv < s.itemN Pid.vbatWarn) })
    s.vbatMeasure t.val mv = if mv < s.itemN Pid.vbatWarn ∧ (s.tile t).boot.vbatLow = false then u.raise t Ev.vbatLow [mv] else u := by
  simp only [State.vbatMeasure, State.tileN_val, power, State.raiseN, tileIx_val, Bool.and_eq_true, decide_eq_true_eq, Bool.not_eq_true']
  rfl

end

/-- Settles O53: the cold reset, domains as they become ready, and the always-on supply. -/
theorem resetAndDomainsKeepSupplies : Obligations.ResetAndDomainsKeepSupplies := by
  unfold Obligations.ResetAndDomainsKeepSupplies
  refine ⟨fun s => ⟨_, rfl, rfl, rfl, rfl, rfl, rfl, rfl, rfl, rfl, rfl, rfl, rfl, rfl, rfl, rfl, fun t => ?tile, fun k => ⟨rfl, rfl⟩⟩,
    fun s t ht => ⟨fun d busy cool => ?ready, fun d no => ?notYet, fun d plain => State.domUp_plain plain,
      fun toBat keeps => onTile_gives ht (State.aonSupply_switches toBat keeps), fun small low => onTile_gives ht (State.aonSupply_loses small low),
      fun k small => State.calInvalidate_resets small, fun mv bat => ?battery, fun mv power => onTile_gives ht (State.vbatMeasure_power power)⟩⟩
  case tile =>
    rw [State.tile_coldReset]
    obtain ⟨mem, evr, on_, stage, slot⟩ := State.coldTile_reset s t.val
    exact ⟨mem, evr, on_, stage, slot, State.coldTile_kept, State.coldTile_lost⟩
  case ready =>
    refine onTile_gives ht (whenDue_true ?_)
    rw [State.tileN_val, busy]
    by_cases control : d.val = 1
    · simp [cool control]
    · simp [control]
  case notYet =>
    refine onTile_gives ht (whenDue_false ?_)
    rw [State.tileN_val]
    rcases no with idle | ⟨control, hot⟩
    · rw [idle, Bool.false_and]
    · simp [control, hot]
  case battery => exact onTile_gives ht (if_pos (by rw [State.tileN_val, bat]))

end Sys2Proof.Machine
end

section
/-! PROOF of the flash and its journal, of updates, JTAG and SMBus, and of the balls of a package (11 R370; 19 R573, R582, R590 to
R592; 20 R596 to R603, R612, R613). -/

namespace Sys2Proof.Machine

/-! ## The balls of a package (20 R596 to R603) -/

section
variable {p : Part}

theorem localAt_inside {o : Nat × Nat} {h w i j : Nat} (hi : i < h) (hj : j < w) : localAt o h w (o.1 + i) (o.2 + j) = some (i + 1, j + 1) := by
  rw [localAt, if_pos ⟨by omega, by omega, by omega, by omega⟩, Nat.add_sub_cancel_left, Nat.add_sub_cancel_left]

theorem localAt_outside {o : Nat × Nat} {h w r c : Nat} (out : ¬(o.1 ≤ r ∧ r < o.1 + h ∧ o.2 ≤ c ∧ c < o.2 + w)) : localAt o h w r c = none := if_neg out

/-- The blocks of two tiles share no position. -/
theorem tileOrigin_apart {t u : Nat} (other : u ≠ t) {i j : Nat} (hi : i < 13) (hj : j < 22) :
    localAt (tileOrigin p u) 13 22 ((tileOrigin p t).1 + i) ((tileOrigin p t).2 + j) = none := by
  refine localAt_outside ?_
  cases p <;> (simp only [tileOrigin]; omega)

/-- Every block of a tile carries its pattern. -/
theorem ballAt_tile {t : Nat} (ht : t < p.tiles) {i j : Nat} (hi : i < 13) (hj : j < 22) :
    ballAt p ((tileOrigin p t).1 + i) ((tileOrigin p t).2 + j) = tileBall t (i + 1) (j + 1) := by
  have found : (List.range p.tiles).findSome? (fun u => (localAt (tileOrigin p u) 13 22 ((tileOrigin p t).1 + i) ((tileOrigin p t).2 + j)).map
      (fun q => tileBall u q.1 q.2)) = some (tileBall t (i + 1) (j + 1)) := by
    cases search : (List.range p.tiles).findSome? (fun u => (localAt (tileOrigin p u) 13 22 ((tileOrigin p t).1 + i) ((tileOrigin p t).2 + j)).map
      (fun q => tileBall u q.1 q.2)) with
    | none =>
      have no := List.findSome?_eq_none_iff.mp search t (List.mem_range.mpr ht)
      rw [localAt_inside hi hj] at no
      exact nomatch no
    | some b =>
      obtain ⟨u, _, at_⟩ := List.exists_of_findSome?_eq_some search
      by_cases same : u = t
      · subst same
        rw [localAt_inside hi hj] at at_
        exact at_.symm
      · rw [tileOrigin_apart same hi hj] at at_
        exact nomatch at_
  rw [ballAt, found]

/-- Outside the blocks of the tiles, the host's blocks carry theirs. -/
theorem ballAt_host {r c : Nat} (out : ∀ t, t < p.tiles → localAt (tileOrigin p t) 13 22 r c = none) :
    (∀ q, localAt (haOrigin p) 19 11 r c = some q → ballAt p r c = haBall q.1 q.2) ∧
    (∀ q, localAt (haOrigin p) 19 11 r c = none → localAt (hbOrigin p) 19 11 r c = some q → ballAt p r c = hbBall q.1 q.2) := by
  have none_ : (List.range p.tiles).findSome? (fun t => (localAt (tileOrigin p t) 13 22 r c).map (fun q => tileBall t q.1 q.2)) = none :=
    List.findSome?_eq_none_iff.mpr fun t member => by rw [out t (List.mem_range.mp member)]; rfl
  refine ⟨fun q inside => ?_, fun q no inside => ?_⟩
  · rw [ballAt, none_, inside]
  · rw [ballAt, none_, no, inside]

theorem ballAt_ha {i j : Nat} (hi : i < 19) (hj : j < 11) : ballAt p ((haOrigin p).1 + i) ((haOrigin p).2 + j) = haBall (i + 1) (j + 1) := by
  refine (ballAt_host fun t ht => localAt_outside ?_).1 _ (localAt_inside hi hj)
  cases p <;> (simp only [tileOrigin, haOrigin, Part.tiles] at ht ⊢; omega)

theorem ballAt_hb {i j : Nat} (hi : i < 19) (hj : j < 11) : ballAt p ((hbOrigin p).1 + i) ((hbOrigin p).2 + j) = hbBall (i + 1) (j + 1) := by
  refine (ballAt_host fun t ht => localAt_outside ?_).2 _ (localAt_outside ?_) (localAt_inside hi hj)
  · cases p <;> (simp only [tileOrigin, hbOrigin, Part.tiles] at ht ⊢; omega)
  · cases p <;> (simp only [haOrigin, hbOrigin]; omega)

/-- The supply of a ball, if it carries one. -/
def Ball.supply : Ball → Option Rail
  | .rail r => some r
  | _ => none

theorem Ball.eq_rail (x : Rail) : (fun b : Ball => b == .rail x) = (fun b => b.supply == some x) := by
  funext b
  cases b with
  | rail r => exact decide_eq_decide.mpr ⟨fun same => Option.some.inj (congrArg Ball.supply same), congrArg Ball.rail⟩
  | _ => rfl

/-- The balls of each supply, counted by supply. -/
theorem railCounts_ga402 : [Rail.vss, .core, .sram, .vdd2h, .vddq, .ser09, .ser12, .io, .enc].map (fun x => ballCount .ga402 (fun b => b.supply == some x)) =
    [517, 265, 20, 8, 16, 23, 17, 19, 18] := by decide +kernel
theorem railCounts_ga404 : [Rail.vss, .core, .sram, .vdd2h, .vddq, .ser09, .ser12, .io, .enc].map (fun x => ballCount .ga404 (fun b => b.supply == some x)) =
    [675, 323, 40, 16, 32, 35, 23, 23, 18] := by decide +kernel
theorem railCounts_ga408 : [Rail.vss, .core, .sram, .vdd2h, .vddq, .ser09, .ser12, .io, .enc].map (fun x => ballCount .ga408 (fun b => b.supply == some x)) =
    [551, 319, 80, 32, 64, 59, 35, 31, 18] := by decide +kernel

end

/-! ## The flash directory (19 R573, R592) -/

section
variable {f : Flash}

theorem Vector.eq_pair {α : Type} (v : Vector α 2) : ∃ a b, v = #v[a, b] := by
  refine ⟨v[0], v[1], Vector.ext fun i hi => ?_⟩
  match i, hi with
  | 0, _ => rfl
  | 1, _ => rfl

/-- A directory write puts the other copy in force, and leaves the one that was. -/
theorem Flash.writeDir_moves (g : Dir → Dir) (room : f.dir.dseq + 1 < 2 ^ 32) : (f.writeDir g).dirAt = 1 - f.dirAt ∧
    vget (f.writeDir g).dirs f.dirAt f.dir = f.dir ∧
    (f.writeDir g).dir = { g f.dir with dseq := f.dir.dseq + 1, fwverA := f.fwver 0, fwverB := f.fwver 1, good := true } := by
  obtain ⟨a, b, copies⟩ := Vector.eq_pair f.dirs
  have at_ : f.dirAt = if b.good && (!a.good || decide (a.dseq < b.dseq)) then 1 else 0 := by
    rw [Flash.dirAt, copies]
    rfl
  have dir : f.dir = if f.dirAt = 0 then a else b := by
    rw [Flash.dir, copies]
    rfl
  obtain ⟨x, hx⟩ : ∃ x : Dir, x = { g f.dir with dseq := f.dir.dseq + 1, fwverA := f.fwver 0, fwverB := f.fwver 1, good := true } := ⟨_, rfl⟩
  have dirs : (f.writeDir g).dirs = vset #v[a, b] (1 - f.dirAt) x := by
    rw [Flash.writeDir, copies, hx, Nat.mod_eq_of_lt room]
  have valid : x.good = true := by rw [hx]
  have next : x.dseq = f.dir.dseq + 1 := by rw [hx]
  rw [← hx]
  by_cases second : (b.good && (!a.good || decide (a.dseq < b.dseq))) = true
  · rw [if_pos second] at at_
    rw [at_, if_neg Nat.one_ne_zero] at dir
    have moved : (f.writeDir g).dirAt = 0 := by
      rw [Flash.dirAt, dirs, at_]
      refine if_neg ?_
      show ¬(b.good && (!x.good || decide (x.dseq < b.dseq))) = true
      rw [valid, next, dir]
      simp
    refine ⟨by rw [moved, at_], ?_, ?_⟩
    · rw [dirs, at_, dir]
      rfl
    · rw [Flash.dir, moved, dirs, at_]
      rfl
  · rw [if_neg second] at at_
    rw [at_, if_pos rfl] at dir
    have moved : (f.writeDir g).dirAt = 1 := by
      rw [Flash.dirAt, dirs, at_]
      refine if_pos ?_
      show (x.good && (!a.good || decide (a.dseq < x.dseq))) = true
      rw [valid, next, dir]
      simp
    refine ⟨by rw [moved, at_], ?_, ?_⟩
    · rw [dirs, at_, dir]
      rfl
    · rw [Flash.dir, moved, dirs, at_]
      rfl

/-- A slot's state once it is written. -/
theorem Flash.stateOf_setState (room : f.dir.dseq + 1 < 2 ^ 32) (slot st : Nat) : (f.setState slot st).stateOf slot = st := by
  rw [Flash.setState, Flash.stateOf, (Flash.writeDir_moves _ room).2.2]
  split <;> rfl

end

/-! ## The journal (19 R581, R582) -/

/-- What the sectors of the journal leave alone. -/
def Flash.records (f : Flash) := (f.dirs, f.slots, f.preserve, f.tally, f.calib, f.trims, f.jobs)

section
variable {f : Flash}

theorem Flash.putSector_records (x : JSector) : (f.putSector x).records = f.records := rfl

theorem Flash.place_records (type rlen : Nat) : (f.place type rlen).records = f.records := by
  rw [Flash.place]
  exact foldl_keeps Flash.records (fun f i => Flash.putSector_records (f := f) _) _ _

theorem Flash.rescue_records (n : Nat) : (f.rescue n).records = f.records := by
  unfold Flash.rescue
  exact foldl_keeps Flash.records (f := fun (f : Flash) (x : JSector) => f.place x.type x.rlen) (fun f x => Flash.place_records (f := f) x.type x.rlen) _ f

theorem Flash.jobs_of_records {f g : Flash} (same : f.records = g.records) : f.jobs = g.jobs := congrArg (fun r => r.2.2.2.2.2.2) same

end

section
variable {s : State} {j : FlashJob} {r : List FlashJob} (jobs : s.flash.jobs = j :: r)

/-- A record goes to the journal; the writes that wait stay. -/
theorem State.recordWritten_jobs (type : Nat) : (s.recordWritten type).flash.jobs = s.flash.jobs :=
  Flash.jobs_of_records ((Flash.place_records _ _).trans (Flash.rescue_records _))

/-- The package with its oldest flash write taken out. -/
def State.jobTaken (s : State) (r : List FlashJob) : State := { s with flash := { s.flash with jobs := r } }

include jobs

theorem State.flashDone_good : s.flashDone true = (s.jobTaken r).flashGood j := by
  simp only [State.flashDone, jobs, if_true]
  rfl

theorem State.flashDone_bad : s.flashDone false = s.flashBad j r := by
  simp only [State.flashDone, jobs, Bool.false_eq_true, if_false]

/-- A preserve comes into force, and its packet completes with its number. -/
theorem State.flashDone_preserve {p : Preserve} (type : j.type = 1) (pres : j.pres = some p) : let u := s.flashDone true
    u.flash.preserve = some p ∧ u.flash.jobs = r ∧ u.tiles = s.tiles ∧ u.job = s.job ∧
      (∀ e, s.entry j.seq = some e → e.st ≠ .done → u.DoneWith j.seq St.ok (p.pseq % 2 ^ 32) 0) := by
  intro u
  let v := (s.jobTaken r).recordWritten 1
  have effect : u = ({ v with flash := { v.flash with preserve := j.pres } } : State).complete j.seq St.ok p.pseq 0 := by
    simp only [u, State.flashDone_good jobs, State.flashGood, type, pres]
    rfl
  rw [effect]
  simp only [State.complete_flash, State.complete_tiles, State.complete_job]
  exact ⟨pres, State.recordWritten_jobs (s := s.jobTaken r) 1, rfl, rfl, fun e found open_ => State.complete_done _ _ _ _ _ found open_⟩

/-- A record of another kind comes into force, and the queues are left alone. -/
theorem State.flashDone_tally (type : j.type = 2) : let u := s.flashDone true
    u.flash.tally = j.tally ∧ u.flash.jobs = r ∧ u.qen = s.qen ∧ u.tiles = s.tiles := by
  simp only [State.flashDone_good jobs, State.flashGood, type]
  exact ⟨trivial, State.recordWritten_jobs (s := s.jobTaken r) 2, rfl, rfl⟩

theorem State.flashDone_trims (type : j.type = 3) : let u := s.flashDone true
    u.flash.trims = j.trims ∧ u.flash.jobs = r ∧ u.qen = s.qen := by
  simp only [State.flashDone_good jobs, State.flashGood, type]
  exact ⟨trivial, State.recordWritten_jobs (s := s.jobTaken r) 3, rfl⟩

theorem State.flashDone_calib (type : j.type = 4) : let u := s.flashDone true
    u.flash.calib = j.calib ∧ u.flash.jobs = r ∧ u.qen = s.qen := by
  simp only [State.flashDone_good jobs, State.flashGood, type]
  exact ⟨trivial, State.recordWritten_jobs (s := s.jobTaken r) 4, rfl⟩

/-- An image read back is STAGED, or its slot is EMPTY. -/
theorem State.flashDone_image (type : j.type = 0) : let u := s.flashDone true
    u.flash.jobs = r ∧
      (s.flash.dir.good = true → s.flash.dir.dseq + 1 < 2 ^ 32 →
        u.flash.stateOf (1 - s.flash.active) = (if imageCause s.part s.lead.tile j.image = 0 then 2 else 0)) ∧
      u.lead.upd = (if imageCause s.part s.lead.tile j.image = 0 then 1 else 0) ∧
      (∀ e, s.entry j.seq = some e → e.st ≠ .done →
        u.DoneWith j.seq (if imageCause s.part s.lead.tile j.image = 0 then St.ok else St.imageBad) 0 0) := by
  intro u
  have effect : u = (s.jobTaken r).imageStored j := by
    simp only [u, State.flashDone_good jobs, State.flashGood, type]
  rw [effect]
  by_cases good : imageCause s.part s.lead.tile j.image = 0
  · let f : Flash := { s.flash with jobs := r, slots := vset s.flash.slots (1 - s.flash.active) (some (imageOf j.image)) }
    have stored : (s.jobTaken r).imageStored j =
        ({ s with flash := f.setState (1 - s.flash.active) 2, lead := { s.lead with upd := 1 } } : State).done j.seq St.ok := if_pos good
    rw [stored, if_pos good, if_pos good, if_pos good]
    simp only [State.done_flash, State.done_lead]
    exact ⟨rfl, fun _ room => Flash.stateOf_setState (f := f) room _ _, trivial, fun e found open_ => State.done_done _ _ _ found open_⟩
  · let f : Flash := { s.flash with jobs := r }
    have stored : (s.jobTaken r).imageStored j =
        ({ s with flash := f.setState (1 - s.flash.active) 0, lead := { s.lead with upd := 0 } } : State).done j.seq St.imageBad := if_neg good
    rw [stored, if_neg good, if_neg good, if_neg good]
    simp only [State.done_flash, State.done_lead]
    exact ⟨rfl, fun _ room => Flash.stateOf_setState (f := f) room _ _, trivial, fun e found open_ => State.done_done _ _ _ found open_⟩

/-- A write that fails for the first time is made again. -/
theorem State.flashDone_again (first : j.seq = 0 ∨ j.tries = 0) : let u := s.flashDone false
    u.flash.jobs = { j with tries := j.tries + 1 } :: r ∧ u.qen = s.qen ∧ u.job = s.job := by
  have no : ¬(decide (j.seq ≠ 0) && decide (1 ≤ j.tries)) = true := by
    rcases first with own | fresh <;> simp [*]
  rw [State.flashDone_bad jobs, State.flashBad, if_neg no]
  exact ⟨rfl, rfl, rfl⟩

theorem State.flashDone_fails (command : j.seq ≠ 0) (second : 1 ≤ j.tries) : let u := s.flashDone false
    u.flash.jobs = r ∧ (∀ e, s.entry j.seq = some e → e.st ≠ .done → u.DoneWith j.seq (if j.type = 0 then St.flashFail else St.preserveFail) 0 0) := by
  have ends : (decide (j.seq ≠ 0) && decide (1 ≤ j.tries)) = true := by simp [command, second]
  rw [State.flashDone_bad jobs, State.flashBad, if_pos ends]
  by_cases image : j.type = 0
  · rw [if_pos image, if_pos image]
    simp only [State.done_flash]
    exact ⟨rfl, fun e found open_ => State.done_done _ _ _ found open_⟩
  · rw [if_neg image, if_neg image]
    simp only [State.done_flash]
    exact ⟨trivial, fun e found open_ => State.done_done _ _ _ found open_⟩

end

theorem State.smbAnswer_word (s : State) (v : Nat) : s.smbAnswer v = { s with busRead := BitVec.ofNat 32 (v % 2 ^ 16), smbNack := false } := rfl

/-- Settles O54: flash writes and their failures, updates, JTAG and SMBus, the balls of a package, and directory writes. -/
theorem servicePathsAnswer : Obligations.ServicePathsAnswer := by
  unfold Obligations.ServicePathsAnswer
  have answers : ∀ {s : State} (v : Nat), Host.Outcome.next (s.smbAnswer v) =
      (.next { s with busRead := BitVec.ofNat 32 (v % 2 ^ 16), smbNack := false } : Out) := fun {s} v => congrArg Host.Outcome.next (State.smbAnswer_word s v)
  refine ⟨fun s => ⟨fun j r p jobs type pres => ⟨_, rfl, State.flashDone_preserve jobs type pres⟩, fun j r jobs type => ⟨_, rfl, State.flashDone_tally jobs type⟩,
      fun j r jobs type => ⟨_, rfl, State.flashDone_image jobs type⟩, fun j r jobs first => ⟨_, rfl, State.flashDone_again jobs first⟩,
      fun j r jobs command second => ⟨_, rfl, State.flashDone_fails jobs command second⟩, fun jobs ok => ?none_,
      fun runs => congrArg Host.Outcome.next (whenDue_true runs), fun j r jobs type => ⟨_, rfl, State.flashDone_trims jobs type⟩,
      fun j r jobs type => ⟨_, rfl, State.flashDone_calib jobs type⟩, fun q t e late => ?update, fun pins => ⟨rfl, rfl⟩, answers _, answers _, answers _, answers _, fun cmd => rfl, rfl⟩,
    fun p t ht i hi j hj => ballAt_tile ht hi hj, fun p i hi j hj => ⟨ballAt_ha hi hj, ballAt_hb hi hj⟩, fun p => ?counts,
    fun f g _ room => Flash.writeDir_moves g room⟩
  case none_ =>
    refine congrArg Host.Outcome.next ?_
    simp only [State.flashDone, jobs]
  case update =>
    refine congrArg Host.Outcome.next ?_
    simp only [State.updateTimeout, late]
  case counts =>
    rw [show (fun x => ballCount p (fun b => b == .rail x)) = (fun x => ballCount p (fun b => b.supply == some x)) from
      funext fun x => congrArg (ballCount p) (Ball.eq_rail x)]
    cases p with
    | ga402 => exact railCounts_ga402
    | ga404 => exact railCounts_ga404
    | ga408 => exact railCounts_ga408

end Sys2Proof.Machine
end

section
/-! PROOF of the frames of a port: their pacing and the events of their lines (17 R526 to R529, R532). -/

namespace Sys2Proof.Machine

/-! ## A port and the rest (17 R526) -/

section
variable {s : State} {p : Fin 2}

theorem State.dport_updDport (f : DspPort → DspPort) : (s.updDport p.val f).dport p.val = f (s.dport p.val) := vget_vupd_eq _ _ _ _ p.isLt

theorem State.dport_updDport_ne (f : DspPort → DspPort) {q : Nat} (other : q ≠ p.val) : (s.updDport p.val f).dport q = s.dport q :=
  vget_vupd_ne _ _ _ _ _ _ other

/-- A frame of a port has begun, with its items. -/
structure State.Begun (s u : State) (p : Fin 2) : Prop where
  frame : (u.dport p.val).frame = ((s.dport p.val).frame + 1) % 2 ^ 32
  frameAt : (u.dport p.val).frameAt = s.now
  lineBase : (u.dport p.val).lineBase = 0
  phase : (u.dport p.val).phase = 0
  te : (u.dport p.val).te = none
  halved : (u.dport p.val).halved = bit (s.tileN p.val).thm.shed 0
  job : u.job = s.job
  qen : u.qen = s.qen
  motion : u.motion = s.motion
  other : ∀ q, q ≠ p.val → u.dport q = s.dport q

/-- A port as its next frame begins. -/
def DspPort.framed (d : DspPort) (now : Nat) (halved : Bool) (set : Nat × Nat) : DspPort :=
  { d with frame := (d.frame + 1) % 2 ^ 32, frameAt := now, lineBase := 0, phase := 0, te := none, underSeen := none, matched := false
           halved := halved, frameSet := set, panic := false }

theorem State.dport_startFrame : (s.startFrame p.val).dport p.val =
    (s.dport p.val).framed s.now (bit (s.tileN p.val).thm.shed 0) (s.itemN Pid.dspTeEdge, s.itemN Pid.dspLineMatch) := State.dport_updDport _

/-- Any change of the port that keeps what a frame begins with may follow the frame's start. -/
theorem State.startFrame_begins (f : DspPort → DspPort) (keeps : ∀ d, (f d).frame = d.frame ∧ (f d).frameAt = d.frameAt ∧
    (f d).lineBase = d.lineBase ∧ (f d).phase = d.phase ∧ (f d).te = d.te ∧ (f d).halved = d.halved) :
    s.Begun ((s.startFrame p.val).updDport p.val f) p := by
  have port : ((s.startFrame p.val).updDport p.val f).dport p.val = f ((s.dport p.val).framed s.now (bit (s.tileN p.val).thm.shed 0)
    (s.itemN Pid.dspTeEdge, s.itemN Pid.dspLineMatch)) := (State.dport_updDport _).trans (congrArg f State.dport_startFrame)
  obtain ⟨frame, frameAt, lineBase, phase, te, halved⟩ := keeps ((s.dport p.val).framed s.now (bit (s.tileN p.val).thm.shed 0)
    (s.itemN Pid.dspTeEdge, s.itemN Pid.dspLineMatch))
  rw [← port] at frame frameAt lineBase phase te halved
  exact { frame := frame, frameAt := frameAt, lineBase := lineBase, phase := phase, te := te, halved := halved, job := rfl, qen := rfl
          motion := rfl, other := fun q other => (State.dport_updDport_ne _ other).trans (State.dport_updDport_ne _ other) }

theorem State.begun_startFrame : s.Begun (s.startFrame p.val) p := by
  have port := State.dport_startFrame (s := s) (p := p)
  exact { frame := congrArg DspPort.frame port, frameAt := congrArg DspPort.frameAt port, lineBase := congrArg DspPort.lineBase port
          phase := congrArg DspPort.phase port, te := congrArg DspPort.te port, halved := congrArg DspPort.halved port, job := rfl
          qen := rfl, motion := rfl, other := fun q other => State.dport_updDport_ne _ other }

/-- A clause of a statement in the form of an unnamed conjunction. -/
theorem State.Begun.parts {u : State} (h : s.Begun u p) : (u.dport p.val).frame = ((s.dport p.val).frame + 1) % 2 ^ 32 ∧
    (u.dport p.val).frameAt = s.now ∧ (u.dport p.val).lineBase = 0 ∧ (u.dport p.val).phase = 0 ∧ (u.dport p.val).te = none ∧
    (u.dport p.val).halved = bit (s.tileN p.val).thm.shed 0 ∧ u.job = s.job ∧ u.qen = s.qen ∧ u.motion = s.motion ∧
    ∀ q, q ≠ p.val → u.dport q = s.dport q :=
  ⟨h.frame, h.frameAt, h.lineBase, h.phase, h.te, h.halved, h.job, h.qen, h.motion, h.other⟩

end

/-! ## When a frame ends and the next may begin (17 R528, R530) -/

theorem DspPort.between_iff {d : DspPort} :
    d.between = true ↔ d.sends = true ∧ d.phase = 2 ∧ ∀ x, d.change = some x → x.2 ≠ 5 := by
  unfold DspPort.between
  cases d.change with
  | none => simp
  | some x => simp [and_assoc]

section
variable {d : DspPort} {m : Timing}

theorem DspPort.release_fallback (pacing : m.pacing = 1 ∨ d.teLost = true) : d.release m = some (d.frameLines m) :=
  if_pos (Bool.or_eq_true_iff.mpr (pacing.imp decide_eq_true id))

theorem DspPort.release_te (pacing : m.pacing ≠ 1) (held : d.teLost = false) {a l : Nat} (te : d.te = some (a, l)) :
    d.release m = some (max m.vtotal (l + (PMap.item d.shown.items Pid.dspTeDelay).toNat)) := by
  simp only [DspPort.release, pacing, held, te, decide_false, Bool.or_self, Bool.false_eq_true, if_false]

theorem DspPort.release_waits (pacing : m.pacing ≠ 1) (held : d.teLost = false) (te : d.te = none) (skip : d.teSkip = 0) :
    d.release m = none := by
  simp [DspPort.release, pacing, held, te, skip]

end

section
variable {s : State} {p : Nat} {m : Timing}

theorem State.frameStart_released (timing : (s.dport p).timing = some m) {l : Nat} (released : (s.dport p).release m = some l) :
    s.frameStart p = whenDue ((s.dport p).between && decide (l ≤ (s.dport p).lineAt s.now)) s (s.startFrame p) := by
  simp only [State.frameStart, timing, released]

theorem State.frameStart_begins (timing : (s.dport p).timing = some m) {l : Nat} (released : (s.dport p).release m = some l)
    (between : (s.dport p).between = true) (line : l ≤ (s.dport p).lineAt s.now) : s.frameStart p = s.startFrame p := by
  rw [State.frameStart_released timing released, between, decide_eq_true line]
  rfl

theorem State.frameStart_early (timing : (s.dport p).timing = some m) {l : Nat} (released : (s.dport p).release m = some l)
    (early : (s.dport p).lineAt s.now < l) : s.frameStart p = s := by
  rw [State.frameStart_released timing released, decide_eq_false (Nat.not_le.mpr early), Bool.and_false]
  rfl

theorem State.frameStart_unreleased (timing : (s.dport p).timing = some m) (waits : (s.dport p).release m = none) : s.frameStart p = s := by
  simp only [State.frameStart, timing, waits]

/-- With the frame before not ended nothing begins. -/
theorem State.frameStart_within (timing : (s.dport p).timing = some m) (within : (s.dport p).between = false) : s.frameStart p = s := by
  cases released : (s.dport p).release m with
  | none => exact State.frameStart_unreleased timing released
  | some l =>
    rw [State.frameStart_released timing released, within]
    rfl

theorem State.teLost_within (timing : (s.dport p).timing = some m) (within : (s.dport p).between = false) : s.teLost p = s := by
  simp only [State.teLost, timing, within, Bool.false_and, whenDue, Bool.false_eq_true, if_false]

theorem State.teLost_begins (timing : (s.dport p).timing = some m) (waits : (s.dport p).release m = none)
    (between : (s.dport p).between = true) (line : m.vtotalMax ≤ (s.dport p).lineAt s.now) :
    s.teLost p = ((s.startFrame p).updDport p (fun d => { d with teLost := true })).raiseN p Ev.dspTeLost
      [p, (((s.startFrame p).updDport p (fun d => { d with teLost := true })).dport p).frame] := by
  simp only [State.teLost, timing, waits, between, Option.isNone_none, Bool.and_self, line, decide_true, whenDue, if_true]

end

/-! ## The lines of a frame (17 R527, R529, R532) -/

section
variable {s : State} {p : Nat} {m : Timing}

/-- The package at the first line of vertical blanking. -/
def State.blanking (s : State) (p : Nat) (m : Timing) : State :=
  (s.updDport p (fun d => { d with phase := 1, last := s.lastSent p m m.vactive })).raiseN p Ev.dspBlankStart [p, (s.dport p).frame]

theorem State.proofFlip_due (timing : (s.dport p).timing = some m) (sends : (s.dport p).sends = true) (phase : (s.dport p).phase = 0)
    (line : m.vactive ≤ (s.dport p).lineAt s.now) : s.proofFlip p =
      match (s.dport p).change with
      | some (_, st) => if st = 2 ∨ st = 3 then s.blanking p m else ((s.blanking p m).latch p).pruneLive
      | none => ((s.blanking p m).latch p).pruneLive := by
  simp only [State.proofFlip, timing]
  refine whenDue_true ?_
  rw [sends, phase, decide_eq_true line]
  rfl

theorem State.proofFlip_latches (timing : (s.dport p).timing = some m) (sends : (s.dport p).sends = true) (phase : (s.dport p).phase = 0)
    (line : m.vactive ≤ (s.dport p).lineAt s.now) (shows : ∀ x, (s.dport p).change = some x → x.2 ≠ 2 ∧ x.2 ≠ 3) :
    s.proofFlip p = ((s.blanking p m).latch p).pruneLive := by
  rw [State.proofFlip_due timing sends phase line]
  cases change : (s.dport p).change with
  | none => rfl
  | some x => exact if_neg (not_or.mpr (shows x change))

theorem State.proofFlip_black (timing : (s.dport p).timing = some m) (sends : (s.dport p).sends = true) (phase : (s.dport p).phase = 0)
    (line : m.vactive ≤ (s.dport p).lineAt s.now) {x : Timing × Nat} (change : (s.dport p).change = some x) (black : x.2 = 2 ∨ x.2 = 3) :
    s.proofFlip p = s.blanking p m := by
  rw [State.proofFlip_due timing sends phase line, change]
  exact if_pos black

theorem State.proofFlip_early (timing : (s.dport p).timing = some m)
    (early : (s.dport p).phase ≠ 0 ∨ (s.dport p).lineAt s.now < m.vactive) : s.proofFlip p = s := by
  simp only [State.proofFlip, timing]
  refine whenDue_false ?_
  rcases early with phase | line
  · rw [beq_eq_false_iff_ne.mpr phase, Bool.and_false, Bool.false_and]
  · rw [decide_eq_false (Nat.not_le.mpr line), Bool.and_false]

theorem State.lineMatch_sends (sends : (s.dport p).sends = true) : s.lineMatch p =
    if (s.dport p).matched = false ∧ (s.dport p).frameSet.2 ≤ (s.dport p).lineAt s.now then
      (s.updDport p (fun d => { d with matched := true })).raiseN p Ev.dspLineMatch [p, (s.dport p).frame] else s := by
  have guard : ((s.dport p).sends && !(s.dport p).matched && decide ((s.dport p).frameSet.2 ≤ (s.dport p).lineAt s.now)) =
      decide ((s.dport p).matched = false ∧ (s.dport p).frameSet.2 ≤ (s.dport p).lineAt s.now) := by
    rw [sends]
    simp
  simp only [State.lineMatch, guard, whenDue, decide_eq_true_eq]

/-- Where no display is to be switched off nothing settles. -/
theorem State.dispOffSettle_none (h : s.dispOff = none) : s.dispOffSettle = s := by
  refine if_neg ?_
  simp [State.dispOffDue, h]

end

section
variable {s : State} {p : Fin 2} {m : Timing}

/-- While a port sends, the display stays. -/
theorem State.dispOffSettle_sends (sends : (s.dport p.val).sends = true) : s.dispOffSettle = s := by
  refine if_neg ?_
  have any : s.dsp.toList.any DspPort.sends = true := by
    refine List.any_eq_true.mpr ⟨s.dport p.val, ?_, sends⟩
    unfold State.dport vget
    simp [p.isLt]
  simp [State.dispOffDue, any]

theorem State.frameDone_ends (timing : (s.dport p.val).timing = some m) (sends : (s.dport p.val).sends = true)
    (phase : (s.dport p.val).phase = 1) (change : (s.dport p.val).change = none) (stays : s.dispOff = none)
    (base : (s.dport p.val).lineBase = 0) (line : m.vtotal ≤ (s.dport p.val).lineAt s.now) :
    s.frameDone p.val = (s.updDport p.val (fun d => { d with phase := 2 })).raiseN p.val Ev.dspFrameDone [p.val, (s.dport p.val).frame] := by
  obtain ⟨u, hu⟩ : ∃ u, u = (s.updDport p.val (fun d => { d with phase := 2 })).raiseN p.val Ev.dspFrameDone
    [p.val, (s.dport p.val).frame] := ⟨_, rfl⟩
  have port : (u.dport p.val).change = none := by
    rw [hu]
    exact (congrArg DspPort.change (State.dport_updDport (s := s) _)).trans change
  have off : u.dispOff = none := by
    rw [hu]
    exact stays
  have after : u.frameEnded p.val = u := by
    simp only [State.frameEnded, off, port, Option.isSome_none, Bool.false_eq_true, if_false]
  simp only [State.frameDone, timing, change, base, if_true]
  rw [← hu, after]
  refine whenDue_true ?_
  rw [sends, phase, decide_eq_true line]
  rfl

theorem State.frameDone_early (timing : (s.dport p.val).timing = some m)
    (early : (s.dport p.val).phase ≠ 1 ∨ (s.dport p.val).lineAt s.now < m.vtotal) : s.frameDone p.val = s := by
  simp only [State.frameDone, timing]
  refine whenDue_false ?_
  rcases early with phase | line
  · rw [beq_eq_false_iff_ne.mpr phase, Bool.and_false, Bool.false_and, Bool.false_and]
  · rw [decide_eq_false (Nat.not_le.mpr line), Bool.and_false, Bool.false_and]

end

/-! ## Underruns (17 R532) -/

section
variable {s : State} {p : Fin 2} {m : Timing} {line pixel : Nat}

/-- The port, and the panic of its memory port in watermark mode, after an underrun. -/
def State.filled (s : State) (p : Nat) (m : Timing) (line pixel : Nat) : State :=
  let wm := (vget (s.tileN p).memc.tolDecl 2 none).isNone
  let u := s.updDport p (fun d => { d with under := satInc 32 d.under, fillpix := satAdd 32 d.fillpix (m.hactive - pixel)
                                           underSeen := some line, panic := d.panic || wm, fill := s.fillFrom p m line pixel })
  if wm then u.updMemc (tileIx p) (fun c => c.setPanic s.now 2 true) else u

/-- What an underrun does, beside the event. -/
structure State.Filled (s u : State) (p : Fin 2) (m : Timing) (line pixel : Nat) : Prop where
  under : (u.dport p.val).under = satInc 32 (s.dport p.val).under
  fillpix : (u.dport p.val).fillpix = satAdd 32 (s.dport p.val).fillpix (m.hactive - pixel)
  underSeen : (u.dport p.val).underSeen = some line
  job : u.job = s.job
  qen : u.qen = s.qen
  other : ∀ q, q ≠ p.val → u.dport q = s.dport q

theorem State.filled_fills : s.Filled (s.filled p.val m line pixel) p m line pixel := by
  obtain ⟨u, hu⟩ : ∃ u, u = s.updDport p.val (fun d => { d with
    under := satInc 32 d.under, fillpix := satAdd 32 d.fillpix (m.hactive - pixel), underSeen := some line
    panic := d.panic || (vget (s.tileN p.val).memc.tolDecl 2 none).isNone, fill := s.fillFrom p.val m line pixel }) := ⟨_, rfl⟩
  have fills : s.Filled u p m line pixel := by
    have port := congrArg (fun u : State => u.dport p.val) hu |>.trans (State.dport_updDport _)
    exact { under := congrArg DspPort.under port, fillpix := congrArg DspPort.fillpix port, underSeen := congrArg DspPort.underSeen port
            job := (congrArg State.job hu :), qen := (congrArg State.qen hu :)
            other := fun q other => (congrArg (fun u : State => u.dport q) hu).trans (State.dport_updDport_ne _ other) }
  unfold State.filled
  simp only [← hu]
  split
  · exact { under := fills.under, fillpix := fills.fillpix, underSeen := fills.underSeen, job := fills.job, qen := fills.qen, other := fills.other }
  · exact fills

theorem State.underrun_due (timing : (s.dport p.val).timing = some m) (st : (s.dport p.val).st = 4) (phase : (s.dport p.val).phase = 0)
    (hline : line < m.vactive) (hpixel : pixel < m.hactive) (now : line = (s.dport p.val).lineAt s.now)
    (fresh : (s.dport p.val).underSeen ≠ some line) : s.underrun p.val line pixel =
      if (s.dport p.val).underSeen = none then
        (s.filled p.val m line pixel).raiseN p.val Ev.dspUnderrun [p.val, (s.dport p.val).frame, line, pixel]
      else s.filled p.val m line pixel := by
  simp only [State.underrun, timing]
  refine (whenDue_true ?_).trans ?_
  · rw [decide_eq_true ⟨st, phase, hline, hpixel, now⟩, decide_eq_true fresh]
    rfl
  · exact ite_congr (propext Option.isNone_iff_eq_none) (fun _ => rfl) fun _ => rfl

end

section
variable {s : State} {p : Fin 2} {m : Timing}

theorem State.startFrame_teLost : ((s.startFrame p.val).dport p.val).teLost = (s.dport p.val).teLost :=
  (congrArg DspPort.teLost State.dport_startFrame :)

/-- With no edge and none accepted, the frame begins at the last line of blanking, and the loss of the TE is reported. -/
theorem State.teLost_reports (timing : (s.dport p.val).timing = some m) (waits : (s.dport p.val).release m = none)
    (between : (s.dport p.val).between = true) (line : m.vtotalMax ≤ (s.dport p.val).lineAt s.now) :
    ∃ u : State, s.teLost p.val = u.raiseN p.val Ev.dspTeLost [p.val, (u.dport p.val).frame] ∧ s.Begun u p ∧ (u.dport p.val).teLost = true :=
  ⟨_, State.teLost_begins timing waits between line, State.startFrame_begins _ fun _ => ⟨rfl, rfl, rfl, rfl, rfl, rfl⟩,
    congrArg DspPort.teLost (State.dport_updDport _)⟩

end

/-- Settles O55: a port's frames follow its pacing, and the lines of a frame raise their events. -/
theorem framesKeepTheirPacing : Obligations.FramesKeepTheirPacing := by
  intro s p m timing sends d begun ended
  have between : ended → d.between = true := fun h => DspPort.between_iff.mpr ⟨sends, h⟩
  have starts {l : Nat} (h : ended) (released : d.release m = some l) (line : l ≤ d.lineAt s.now) :
      exec (.dspFrameStart p) s = .next (s.startFrame p.val) :=
    congrArg Host.Outcome.next (State.frameStart_begins timing released (between h) line)
  refine ⟨fun h pacing line => ⟨_, starts h (DspPort.release_fallback pacing) line, State.begun_startFrame.parts, ?_⟩,
    fun _ pacing line => congrArg Host.Outcome.next (State.frameStart_early timing (DspPort.release_fallback pacing) line),
    fun h pacing held a l te => ⟨fun line => ⟨_, starts h (DspPort.release_te pacing held te) line, State.begun_startFrame.parts⟩,
      fun line => congrArg Host.Outcome.next (State.frameStart_early timing (DspPort.release_te pacing held te) line)⟩,
    fun h pacing held te skip line => ?lost, fun h => ?within, fun phase line => ⟨fun shows => ?latches, fun x change black => ?black⟩,
    fun early => congrArg Host.Outcome.next (State.proofFlip_early timing early),
    congrArg Host.Outcome.next (State.lineMatch_sends sends), fun phase change stays base line => ?done, fun early => ?still,
    fun line pixel st phase hline hpixel now fresh => ?underrun⟩
  · exact State.startFrame_teLost
  case lost =>
    have waits := DspPort.release_waits pacing held te skip
    obtain ⟨u, lost, begins, flag⟩ := State.teLost_reports timing waits (between h) line
    exact ⟨u, _, congrArg Host.Outcome.next lost, begins.parts, rfl, flag,
      congrArg Host.Outcome.next (State.frameStart_unreleased timing waits)⟩
  case within =>
    have within : d.between = false := Bool.eq_false_iff.mpr fun hb => h (DspPort.between_iff.mp hb).2
    exact ⟨congrArg Host.Outcome.next (State.frameStart_within timing within), congrArg Host.Outcome.next (State.teLost_within timing within)⟩
  case latches => exact congrArg Host.Outcome.next (State.proofFlip_latches timing sends phase line shows)
  case black => exact congrArg Host.Outcome.next (State.proofFlip_black timing sends phase line change black)
  case done =>
    refine congrArg Host.Outcome.next ((congrArg State.dispOffSettle (State.frameDone_ends timing sends phase change stays base line)).trans ?_)
    exact State.dispOffSettle_none stays
  case still =>
    exact congrArg Host.Outcome.next ((congrArg State.dispOffSettle (State.frameDone_early timing early)).trans
      (State.dispOffSettle_sends sends))
  case underrun =>
    have fills := State.filled_fills (s := s) (p := p) (m := m) (line := line) (pixel := pixel)
    exact ⟨_, congrArg Host.Outcome.next (State.underrun_due timing st phase hline hpixel now fresh), fills.under, fills.fillpix,
      fills.underSeen, fills.job, fills.qen, fills.other⟩

end Sys2Proof.Machine
end

section
/-! PROOF of the proof flip of a port, its sink and its pixels (17 R521 to R525, R527, R528, R530, R533 to R535). -/

namespace Sys2Proof.Machine

/-! ## What the end of a mode change and of a flip leaves alone (17 R527, R533) -/

/-- The ports, the job, the inputs and the stop of the display. -/
def State.screen (s : State) : Vector DspPort 2 × Job × Motion × Option Nat := (s.dsp, s.job, s.motion, s.dispOff)

section
variable (s : State) (p : Nat)

theorem State.screen_complete (seq st r0 r1 : Nat) : (s.complete seq st r0 r1).screen = s.screen := by
  simp only [State.screen, State.complete_dsp, State.complete_job, State.complete_motion, State.complete_dispOff]

theorem State.screen_dispFlip (flips : List DispFlip) : ({ s with dispFlip := flips } : State).screen = s.screen := rfl

theorem State.screen_ite {c : Prop} [Decidable c] {a b : State} (ha : a.screen = s.screen) (hb : b.screen = s.screen) :
    (if c then a else b).screen = s.screen := by
  split
  · exact ha
  · exact hb

theorem State.screen_flipSettle : s.flipSettle.screen = s.screen := by
  unfold State.flipSettle
  exact (State.screen_dispFlip _ _).trans (foldl_keeps State.screen (f := fun s (f : DispFlip) => s.complete f.seq St.ok f.frame 0)
    (fun s _ => State.screen_complete s _ _ _ _) _ s)

theorem State.screen_modePort (failed : Bool) : (s.modePort p failed).screen = s.screen := by
  unfold State.modePort
  split
  · rfl
  · exact State.screen_ite _ rfl (State.screen_ite _ rfl (State.screen_ite _ (State.screen_complete _ _ _ _ _) (State.screen_complete _ _ _ _ _)))

/-- A refused setting is reported, and nothing else happens. -/
theorem State.flipEvents_keeps {β : Type} (g : State → β) (raises : ∀ (s : State) data, g (s.raiseN p Ev.dspModeChanged data) = g s) :
    g (s.flipEvents p) = g s := by
  have one (c : Bool) (u : State) data : g (if c then u.raiseN p Ev.dspModeChanged data else u) = g u := by
    cases c
    · rfl
    · exact raises u data
  exact (one _ _ _).trans (one _ _ _)

variable {s} {u : State} (h : u.screen = s.screen)
include h

theorem State.dsp_of_screen : u.dsp = s.dsp := congrArg (·.1) h

theorem State.dport_of_screen (q : Nat) : u.dport q = s.dport q := congrArg (fun v => vget v q DspPort.reset) (State.dsp_of_screen h)

theorem State.job_of_screen : u.job = s.job := congrArg (·.2.1) h

theorem State.motion_of_screen : u.motion = s.motion := congrArg (·.2.2.1) h

theorem State.dispOff_of_screen : u.dispOff = s.dispOff := congrArg (·.2.2.2) h

end

/-! ## The latch (17 R522, R527) -/

section
variable {s : State} {p : Fin 2}

/-- What a port holds after its proof flip. -/
def State.latched (s : State) (p : Nat) (d : DspPort) : DspPort :=
  { d with shown := s.latchView p, seen := s.job.base.items, staging := if (s.dport p).shown == s.latchView p then d.staging else [] }

/-- A flip that a port has latched. -/
def State.latchedFlip (s : State) (p : Nat) (f : DispFlip) : DispFlip :=
  { f with left := f.left - 2 ^ p, frame := if p = s.lead.tile || f.frame = 0 then ((s.dport p).frame + 1) % 2 ^ 32 else f.frame }

/-- The package with the port's view latched, before its flips settle. -/
def State.taken (s : State) (p : Nat) : State :=
  { (s.flipEvents p).updDport p (s.latched p) with dispFlip := mapIf (s.flipEvents p).dispFlip (fun f => bit f.left p) (s.latchedFlip p) }

theorem State.dport_flipEvents (q : Nat) : (s.flipEvents p.val).dport q = s.dport q :=
  State.flipEvents_keeps s p (fun u => u.dport q) fun _ _ => rfl

theorem State.latch_eq : s.latch p.val = (s.taken p.val).flipSettle := rfl

theorem State.shown_latch : ((s.latch p.val).dport p.val).shown = s.latchView p.val := by
  rw [State.latch_eq, State.dport_of_screen (State.screen_flipSettle _)]
  exact congrArg DspPort.shown (State.dport_updDport (s := s.flipEvents p.val) _)

theorem State.dport_latch_ne {q : Nat} (other : q ≠ p.val) : (s.latch p.val).dport q = s.dport q := by
  rw [State.latch_eq, State.dport_of_screen (State.screen_flipSettle _)]
  exact (State.dport_updDport_ne (s := s.flipEvents p.val) _ other).trans (State.dport_flipEvents q)

theorem State.job_latch : (s.latch p.val).job = s.job := by
  rw [State.latch_eq, State.job_of_screen (State.screen_flipSettle _)]
  exact State.flipEvents_keeps s p State.job fun _ _ => rfl

theorem State.entry_taken (n : Nat) : (s.taken p.val).entry n = s.entry n :=
  State.flipEvents_keeps s p (fun u => u.entry n) fun _ _ => rfl

theorem State.dispFlip_taken : (s.taken p.val).dispFlip = mapIf s.dispFlip (fun f => bit f.left p.val) (s.latchedFlip p.val) :=
  congrArg (fun l => mapIf l (fun (f : DispFlip) => bit f.left p.val) (s.latchedFlip p.val)) (State.flipEvents_keeps s p State.dispFlip fun _ _ => rfl)

/-- The last flip that no running port waits for ends its packet. -/
theorem State.flipSettle_ends {f : DispFlip} (only : s.dispFlip = [f]) (left : f.left = 0) (seq : f.seq ≠ 0) {e : StoreEntry}
    (found : s.entry f.seq = some e) (runs : e.st ≠ .done) : s.flipSettle.DoneWith f.seq St.ok (f.frame % 2 ^ 32) 0 := by
  have settle : ∀ running, s.dispFlip.filter (fun f => decide (f.seq ≠ 0 ∧ f.left &&& running = 0)) = [f] := by
    intro running
    simp [only, left, seq]
  unfold State.flipSettle
  simp only [settle]
  exact State.complete_done s f.seq St.ok f.frame 0 found runs

/-- The flip of a port alone ends with the port's latch. -/
theorem State.latch_ends {f : DispFlip} (only : s.dispFlip = [f]) (left : f.left = 2 ^ p.val) (seq : f.seq ≠ 0) {e : StoreEntry}
    (found : s.entry f.seq = some e) (runs : e.st ≠ .done) :
    (s.latch p.val).DoneWith f.seq St.ok ((s.latchedFlip p.val f).frame % 2 ^ 32) 0 := by
  have bit : bit f.left p.val = true := by simp [left, bit]
  have taken : (s.taken p.val).dispFlip = [s.latchedFlip p.val f] := by
    rw [State.dispFlip_taken, only]
    exact congrArg (fun x => [x]) (if_pos bit)
  rw [State.latch_eq]
  exact State.flipSettle_ends (f := s.latchedFlip p.val f) taken (by simp [State.latchedFlip, left]) seq
    ((State.entry_taken _).trans found) runs

theorem State.latchedFlip_frame {f : DispFlip} (first : p.val = s.lead.tile ∨ f.frame = 0) :
    (s.latchedFlip p.val f).frame % 2 ^ 32 = ((s.dport p.val).frame + 1) % 2 ^ 32 := by
  have frame : (s.latchedFlip p.val f).frame = ((s.dport p.val).frame + 1) % 2 ^ 32 :=
    if_pos (Bool.or_eq_true_iff.mpr (first.imp decide_eq_true decide_eq_true))
  rw [frame, Nat.mod_mod]

theorem State.latchView_flip {f : DispFlip} (last : (s.dispFlip.filter (fun f => bit f.left p.val)).getLast? = some f) :
    (s.latchView p.val).source = f.source ∧ (s.latchView p.val).surface = f.surface := by
  simp only [State.latchView, last, Option.map_some, Option.getD_some, and_self]

theorem State.latchView_no_flip (h : s.dispFlip.filter (fun f => bit f.left p.val) = []) :
    (s.latchView p.val).source = (s.dport p.val).shown.source ∧ (s.latchView p.val).surface = (s.dport p.val).shown.surface := by
  simp only [State.latchView, h, List.getLast?_nil, Option.map_none, Option.getD_none, and_self]

theorem State.latchView_items (conv : (s.convAt p.val (PMap.item s.job.base.items Pid.dspConv).toNat).isSome = true)
    (src : s.srcOk (PMap.item s.job.base.items Pid.dspSrc).toNat = true) : (s.latchView p.val).items = s.job.base.items := by
  simp only [State.latchView, conv, src, if_true]

end

/-! ## Codes (17 R522, R525, R532) -/

theorem fillCode_part (bg last k : Nat) :
    fillCode .ga408 bg last k = last ∧ fillCode .ga402 bg last k = bgCode bg k ∧ fillCode .ga404 bg last k = bgCode bg k := ⟨rfl, rfl, rfl⟩

/-- A conversion's entries within their range interpolate within it. -/
theorem dspCode_le {conv tab : List Nat} (uses : (if conv.isEmpty then convBuiltin else conv) = tab)
    (range : ∀ i, 36 ≤ i → tab.getD i 0 ≤ 1023) (d : Nat → Nat) (k : Nat) : dspCode conv d k ≤ 1023 := by
  unfold dspCode
  simp only [uses]
  generalize min 4095 _ = dens
  have low := range (36 + 257 * k + dens / 16) (by omega)
  have high := range (36 + 257 * k + (dens / 16 + 1)) (by omega)
  have part := Nat.mod_lt dens (show 0 < 16 by omega)
  generalize dens % 16 = r at part ⊢
  generalize tab.getD (36 + 257 * k + dens / 16) 0 = a at low ⊢
  generalize tab.getD (36 + 257 * k + (dens / 16 + 1)) 0 = b at high ⊢
  have ha : a * (16 - r) ≤ 1023 * (16 - r) := Nat.mul_le_mul_right _ low
  have hb : b * r ≤ 1023 * r := Nat.mul_le_mul_right _ high
  omega

theorem getD_le_of_drop {l : List Nat} {n m : Nat} (h : ∀ v ∈ l.drop n, v ≤ m) (i : Nat) (from_ : n ≤ i) : l.getD i 0 ≤ m := by
  rw [List.getD_eq_getElem?_getD]
  cases hi : l[i]? with
  | none => exact Nat.zero_le m
  | some v =>
    refine h v (List.mem_of_getElem? (i := i - n) ?_)
    rw [List.getElem?_drop, Nat.add_sub_of_le from_, hi]

theorem convBuiltin_le (v : Nat) (h : v ∈ convBuiltin.drop 36) : v ≤ 1023 := by
  have split : convBuiltin.drop 36 = (List.range 771).map (fun i => 1023 - 1023 * (i % 257) / 256) :=
    List.drop_left' (by rw [List.length_map, List.length_range])
  rw [split] at h
  obtain ⟨i, _, rfl⟩ := List.mem_map.mp h
  exact Nat.sub_le _ _

/-! ## TE edges (17 R528, R530) -/

section
variable {s : State} {p : Fin 2}

/-- The package with a TE input's filtered level taken. -/
def State.teTaken (s : State) (p : Nat) : State :=
  { s with motion := { s.motion with te := vset s.motion.te p (vget s.motion.te p PinSt.reset).take } }

/-- The edge releases a frame: the port sends under TE pacing, in blanking, and no edge is held. -/
def State.TeAccepted (s : State) (p : Nat) : Prop :=
  (s.dport p).sends = true ∧ (s.dport p).pacing = 0 ∧ (vget s.motion.te p PinSt.reset).raw ≠ decide ((s.dport p).frameSet.1 = 1) ∧
    ((s.dport p).timing.map (·.vactive)).getD 0 ≤ (s.dport p).lineAt (vget s.motion.te p PinSt.reset).since ∧ (s.dport p).te = none

/-- The model's guard of an edge. -/
def State.teGuard (s : State) (p : Nat) : Bool :=
  (s.dport p).sends && (s.dport p).pacing == 0 && ((vget s.motion.te p PinSt.reset).take.filt != decide ((s.dport p).frameSet.1 = 1)) &&
    decide (((s.dport p).timing.map (·.vactive)).getD 0 ≤ (s.dport p).lineAt (vget s.motion.te p PinSt.reset).since) &&
    (s.dport p).te.isNone

theorem State.teGuard_iff : s.teGuard p.val = true ↔ s.TeAccepted p.val := by
  simp only [State.teGuard, State.TeAccepted, Bool.and_eq_true, beq_iff_eq, bne_iff_ne, decide_eq_true_eq, Option.isNone_iff_eq_none, and_assoc]
  rfl

/-- Every second edge is passed over while the rate is halved. -/
theorem DspPort.skips_iff {d : DspPort} :
    (d.halved && d.teSkip == 0 && !d.teLost) = true ↔ d.halved = true ∧ d.teSkip = 0 ∧ d.teLost = false := by
  simp only [Bool.and_eq_true, beq_iff_eq, Bool.not_eq_eq_eq_not, Bool.not_true, and_assoc]

theorem State.teEdge_due (due : (vget s.motion.te p.val PinSt.reset).due (s.itemN Pid.dspTeFilt) s.now = true) :
    s.teEdge p.val = if s.teGuard p.val then
      if (s.dport p.val).halved && (s.dport p.val).teSkip == 0 && !(s.dport p.val).teLost then
        (s.teTaken p.val).updDport p.val (fun d => { d with teSkip := 1 })
      else (s.teTaken p.val).updDport p.val (fun d => { d with
        te := some ((vget s.motion.te p.val PinSt.reset).since, (s.dport p.val).lineAt (vget s.motion.te p.val PinSt.reset).since)
        teSkip := 0, teLost := false })
    else s.teTaken p.val := by
  unfold State.teEdge
  refine (whenDue_true due).trans ?_
  simp only []
  cases h : s.teGuard p.val with
  | false => exact if_pos (congrArg (!·) h)
  | true => exact if_neg (Bool.eq_false_iff.mp (congrArg (!·) h))

theorem State.updDport_at {f g : DspPort → DspPort} (same : f (s.dport p.val) = g (s.dport p.val)) : s.updDport p.val f = s.updDport p.val g := by
  unfold State.updDport vupd
  exact congrArg (fun d => { s with dsp := vset s.dsp p.val d }) same

end

/-! ## Trainings and lost links (17 R533 to R535) -/

section
variable {s : State} {p : Fin 2} {m : Timing}

theorem State.trainMode_trains (last : s.dispLast = some m) : s.trainMode p.val = s.updDport p.val (fun d => d.train m) := by
  simp only [State.trainMode, last]

theorem State.trainMode_idle (last : s.dispLast = none) : s.trainMode p.val = s.updDport p.val (fun d => { d with st := 1 }) := by
  simp only [State.trainMode, last]

/-- A port with its link lost. -/
def DspPort.gone (d : DspPort) (now : Nat) : DspPort :=
  { d with st := 5, lanes := 0, change := none, fallback := false, lostAt := now, panic := false }

theorem State.screen_linkGone : (s.linkGone p.val).screen = (s.updDport p.val (fun d => d.gone s.now)).screen :=
  (State.screen_flipSettle _).trans (State.screen_modePort _ _ _)

theorem State.dport_linkGone : (s.linkGone p.val).dport p.val = (s.dport p.val).gone s.now :=
  (State.dport_of_screen State.screen_linkGone _).trans (State.dport_updDport _)

theorem State.job_linkGone : (s.linkGone p.val).job = s.job := (State.job_of_screen State.screen_linkGone :)
theorem State.motion_linkGone : (s.linkGone p.val).motion = s.motion := (State.motion_of_screen State.screen_linkGone :)
theorem State.dispOff_linkGone : (s.linkGone p.val).dispOff = s.dispOff := (State.dispOff_of_screen State.screen_linkGone :)

theorem State.hotplug_rises (low : (s.dport p.val).hpd = false) (powered : s.dispPd p.val = true) (on : (s.dport p.val).st ≠ 0) :
    s.hotplug p.val = ((s.updDport p.val (fun d => { d with hpd := true, sink := d.sink + 1 })).trainMode p.val).raiseN p.val
      Ev.dspHotplug [p.val] := by
  simp only [State.hotplug, low, powered, on, Bool.not_false, Bool.not_true, Bool.false_eq_true, whenDue, if_true, if_false]

/-- What the rise of HPD does to its port. -/
structure State.Plugged (s u : State) (p : Fin 2) : Prop where
  hpd : (u.dport p.val).hpd = true
  sink : (u.dport p.val).sink = (s.dport p.val).sink + 1
  trains : ∀ m, s.dispLast = some m → (u.dport p.val).st = 2 ∧ (u.dport p.val).timing = some m ∧ (u.dport p.val).rate = m.rate ∧
    (u.dport p.val).trains = satInc 16 (s.dport p.val).trains
  idle : s.dispLast = none → (u.dport p.val).st = 1
  job : u.job = s.job

theorem State.trainMode_plugs :
    s.Plugged ((s.updDport p.val (fun d => { d with hpd := true, sink := d.sink + 1 })).trainMode p.val) p := by
  obtain ⟨u, hu⟩ : ∃ u, u = s.updDport p.val (fun d => { d with hpd := true, sink := d.sink + 1 }) := ⟨_, rfl⟩
  have port : u.dport p.val = { s.dport p.val with hpd := true, sink := (s.dport p.val).sink + 1 } := by
    rw [hu]
    exact State.dport_updDport _
  have sameLast : u.dispLast = s.dispLast := by rw [hu]; rfl
  have sameJob : u.job = s.job := by rw [hu]; rfl
  rw [← hu]
  cases last : s.dispLast with
  | none =>
    have after := State.dport_updDport (s := u) (p := p) (fun d => { d with st := 1 })
    rw [State.trainMode_idle (sameLast.trans last)]
    rw [port] at after
    exact { hpd := congrArg DspPort.hpd after, sink := congrArg DspPort.sink after, trains := fun m h => nomatch last.symm.trans h
            idle := fun _ => congrArg DspPort.st after, job := sameJob }
  | some m =>
    have after := State.dport_updDport (s := u) (p := p) (fun d => d.train m)
    rw [State.trainMode_trains (sameLast.trans last)]
    rw [port] at after
    refine { hpd := congrArg DspPort.hpd after, sink := congrArg DspPort.sink after, trains := fun n h => ?_
             idle := fun h => (nomatch last.symm.trans h), job := sameJob }
    obtain rfl := Option.some.inj (last.symm.trans h)
    exact ⟨congrArg DspPort.st after, congrArg DspPort.timing after, congrArg DspPort.rate after, congrArg DspPort.trains after⟩

/-- What a lost link does to its port. -/
structure State.Unlinked (s u : State) (p : Fin 2) (hpd : Bool) : Prop where
  st : (u.dport p.val).st = 5
  hpd : (u.dport p.val).hpd = hpd
  change : (u.dport p.val).change = none
  lostAt : (u.dport p.val).lostAt = s.now
  job : u.job = s.job
  motion : u.motion = s.motion

theorem State.linkGone_unlinks : s.Unlinked (s.linkGone p.val) p (s.dport p.val).hpd := by
  have port := State.dport_linkGone (s := s) (p := p)
  exact { st := congrArg DspPort.st port, hpd := (congrArg DspPort.hpd port :), change := congrArg DspPort.change port
          lostAt := congrArg DspPort.lostAt port, job := State.job_linkGone, motion := State.motion_linkGone }

/-- The package with HPD low where it fell. -/
def State.unplugged (s : State) (p : Nat) (fell : Bool) : State := if fell then s.updDport p (fun d => { d with hpd := false }) else s

theorem State.dispLinkLost_unlinks {fell : Bool} (falls : if fell = true then (s.dport p.val).hpd = true else
      (s.dport p.val).hpd = true ∧ (s.dport p.val).sends = true) (powered : s.dispPd p.val = true) (trained : 2 ≤ (s.dport p.val).st)
    (stays : s.dispOff = none) :
    exec (.dspLinkLost p fell) s = .next (((s.unplugged p.val fell).linkGone p.val).raiseN p.val Ev.dspLinkLost [p.val]) := by
  have due : (if fell then (s.dport p.val).hpd else (s.dport p.val).sends && (s.dport p.val).hpd) = true := by
    cases fell with
    | false => exact Bool.and_eq_true_iff.mpr ⟨falls.2, falls.1⟩
    | true => exact falls
  have same : (s.unplugged p.val fell).dispOff = s.dispOff := by
    cases fell with
    | false => rfl
    | true => rfl
  have lost : s.linkLost p.val fell = ((s.unplugged p.val fell).linkGone p.val).raiseN p.val Ev.dspLinkLost [p.val] := by
    unfold State.linkLost
    refine (whenDue_true due).trans ((if_neg ?_).trans ?_)
    · exact Bool.eq_false_iff.mp (congrArg (!·) powered)
    · exact congrArg (State.raiseN · p.val Ev.dspLinkLost [p.val]) (if_pos trained)
  refine congrArg Host.Outcome.next ((congrArg State.dispOffSettle lost).trans (State.dispOffSettle_none ?_))
  exact State.dispOff_linkGone.trans (same.trans stays)

theorem State.unplugged_unlinks (fell : Bool) (high : (s.dport p.val).hpd = true) :
    s.Unlinked ((s.unplugged p.val fell).linkGone p.val) p (if fell = true then false else true) := by
  have gone := State.linkGone_unlinks (s := s.unplugged p.val fell) (p := p)
  cases fell with
  | false => exact { st := gone.st, hpd := gone.hpd.trans high, change := gone.change, lostAt := gone.lostAt, job := gone.job, motion := gone.motion }
  | true =>
    have low : ((s.unplugged p.val true).dport p.val).hpd = false := congrArg DspPort.hpd (State.dport_updDport (s := s) _)
    exact { st := gone.st, hpd := gone.hpd.trans low, change := gone.change, lostAt := gone.lostAt, job := gone.job, motion := gone.motion }

theorem State.dspRetrain_due (lost : (s.dport p.val).st = 5) (high : (s.dport p.val).hpd = true)
    (waited : (s.dport p.val).lostAt + 25_000_000 ≤ s.now) (last : s.dispLast = some m) :
    s.dspRetrain p.val = (s.updDport p.val (fun d => d.train m)).updDport p.val (fun d => { d with lostAt := s.now }) := by
  unfold State.dspRetrain
  rw [← State.trainMode_trains last]
  refine whenDue_true ?_
  rw [decide_eq_true lost, decide_eq_true waited, high]
  rfl

theorem State.dspRetrain_waits (h : (s.dport p.val).st ≠ 5 ∨ (s.dport p.val).hpd = false ∨ s.now < (s.dport p.val).lostAt + 25_000_000) :
    s.dspRetrain p.val = s := by
  refine whenDue_false ?_
  rcases h with st | hpd | early
  · rw [decide_eq_false st, Bool.false_and, Bool.false_and]
  · rw [hpd, Bool.and_false, Bool.false_and]
  · rw [decide_eq_false (Nat.not_le.mpr early), Bool.and_false]

/-! ## The end of a training and of a mode change (17 R533, R534) -/

theorem State.dspTrained_changes (trains : (s.dport p.val).st = 2) {m : Timing} {st : Nat} (change : (s.dport p.val).change = some (m, st)) :
    s.dspTrained p.val true = s.updDport p.val (fun d => { d.begin m s.now with st := 3, change := some (m, 5) }) := by
  unfold State.dspTrained
  refine (whenDue_true (decide_eq_true trains)).trans ?_
  simp only [change, if_true]

theorem State.dspTrained_falls (trains : (s.dport p.val).st = 2) {m old : Timing} {st : Nat} (change : (s.dport p.val).change = some (m, st))
    (timing : (s.dport p.val).timing = some old) :
    s.dspTrained p.val false = s.updDport p.val (fun d => { d.train old with change := none, fallback := true }) := by
  unfold State.dspTrained
  refine (whenDue_true (decide_eq_true trains)).trans ?_
  simp only [change, timing, Bool.false_eq_true, if_false]

theorem State.dspTrained_starts (trains : (s.dport p.val).st = 2) (change : (s.dport p.val).change = none)
    (timing : (s.dport p.val).timing = some m) (first : (s.dport p.val).fallback = false) :
    s.dspTrained p.val true = s.updDport p.val (fun d => { d.begin m s.now with st := 4, fallback := false }) := by
  unfold State.dspTrained
  refine (whenDue_true (decide_eq_true trains)).trans ?_
  simp only [change, timing, first, Bool.false_eq_true, if_true, if_false]

theorem State.dspTrained_lost (trains : (s.dport p.val).st = 2) (change : (s.dport p.val).change = none) :
    s.dspTrained p.val false = s.linkGone p.val := by
  unfold State.dspTrained
  refine (whenDue_true (decide_eq_true trains)).trans ?_
  simp only [change, Bool.false_eq_true, if_false]

/-- The package at the first frame of a new timing. -/
def State.shownMode (s : State) (p : Nat) : State := (s.startFrame p).updDport p (fun d => { d with st := 4, change := none })

theorem State.modeChanged_due {m : Timing} (change : (s.dport p.val).change = some (m, 5)) (sends : (s.dport p.val).sends = true)
    (phase : (s.dport p.val).phase = 1) (line : m.vtotal ≤ (s.dport p.val).lineAt s.now) :
    s.modeChanged p.val = (((s.shownMode p.val).raiseN p.val Ev.dspModeChanged [p.val, ((s.shownMode p.val).dport p.val).frame]).modePort
      p.val false).flipSettle := by
  simp only [State.modeChanged, change]
  refine whenDue_true ?_
  rw [sends, phase, decide_eq_true line]
  rfl

theorem State.modeChanged_none (change : (s.dport p.val).change = none) : s.modeChanged p.val = s := by
  simp only [State.modeChanged, change]

/-- What the first frame of a new timing does to its port. -/
theorem State.modeChanged_shows {m : Timing} (change : (s.dport p.val).change = some (m, 5)) (sends : (s.dport p.val).sends = true)
    (phase : (s.dport p.val).phase = 1) (line : m.vtotal ≤ (s.dport p.val).lineAt s.now) :
    ((s.modeChanged p.val).dport p.val).st = 4 ∧ ((s.modeChanged p.val).dport p.val).change = none ∧
      ((s.modeChanged p.val).dport p.val).frame = ((s.dport p.val).frame + 1) % 2 ^ 32 ∧ (s.modeChanged p.val).job = s.job := by
  have screen : (s.modeChanged p.val).screen = (s.shownMode p.val).screen := by
    rw [State.modeChanged_due change sends phase line]
    exact (State.screen_flipSettle _).trans (State.screen_modePort _ _ _)
  have begun : s.Begun (s.shownMode p.val) p := State.startFrame_begins _ fun _ => ⟨rfl, rfl, rfl, rfl, rfl, rfl⟩
  have port : (s.shownMode p.val).dport p.val = { (s.startFrame p.val).dport p.val with st := 4, change := none } := State.dport_updDport _
  rw [State.dport_of_screen screen, State.job_of_screen screen]
  exact ⟨congrArg DspPort.st port, congrArg DspPort.change port, begun.frame, begun.job⟩

end

/-! ## Pixels (17 R521, R525) -/

section
variable {s : State} {p : Fin 2}

theorem State.pixelOut_live (m : Timing) (x y k : Nat) (live : (s.dport p.val).shown.source = 0) :
    s.pixelOut p.val m x y k = dspCode (s.dport p.val).shown.conv (s.proofComposite p.val x y k) k := if_pos live

theorem State.proofComposite_unsampled (x y k : Nat) (h : (s.dport p.val).shown.prod = none) (ch : Nat) : s.proofComposite p.val x y k ch = 0 := by
  simp only [State.proofComposite, h]

theorem State.proofComposite_inactive (x y k : Nat) {ch : Nat} (h : bit s.activeCh ch = false) : s.proofComposite p.val x y k ch = 0 := by
  unfold State.proofComposite
  simp only [h, Bool.not_false, if_true]
  split
  · rfl
  · rfl

theorem State.pixelOut_background (m : Timing) (x y k : Nat) (raster : (s.dport p.val).shown.source ≠ 0)
    (outside : ∀ d, (s.tileN p.val).desc (s.dport p.val).shown.surface = some d → d.width ≤ x ∨ d.height ≤ y) :
    s.pixelOut p.val m x y k = bgCode m.bg k := by
  refine (if_neg raster).trans ?_
  cases desc : (s.tileN p.val).desc (s.dport p.val).shown.surface with
  | none => rfl
  | some d =>
    refine if_neg fun inside => ?_
    rcases outside d desc with h | h
    · exact Nat.not_lt.mpr h inside.1
    · exact Nat.not_lt.mpr h inside.2

end

/-- Settles O56: a port latches what is pending at its proof flip, and follows its sink. -/
theorem portsLatchAndFollowTheirSinks : Obligations.PortsLatchAndFollowTheirSinks := by
  refine ⟨fun s p => ⟨State.shown_latch, fun q => State.dport_latch_ne, State.job_latch, fun f => State.latchView_flip, State.latchView_no_flip,
      State.latchView_items, fun f only left seq e found runs => ⟨_, State.latch_ends only left seq found runs, State.latchedFlip_frame⟩,
      fun _ _ _ => rfl, fun _ _ => rfl, fillCode_part⟩, ?sinks,
    fun s p m x y k => ⟨State.pixelOut_live m x y k, State.proofComposite_unsampled x y k, fun ch => State.proofComposite_inactive x y k,
      State.pixelOut_background m x y k⟩, ?codes⟩
  case codes =>
    intro conv d k size range
    have full : conv.isEmpty = false := by
      cases conv with
      | nil => exact absurd size (by decide)
      | cons => rfl
    exact ⟨dspCode_le (by rw [full]; rfl) (getD_le_of_drop range) d k.val, dspCode_le (if_pos rfl) (getD_le_of_drop convBuiltin_le) d k.val⟩
  case sinks =>
    intro s p d
    refine ⟨?edge, fun layer row data powered other => congrArg Host.Outcome.next (whenDue_true ?staged),
      fun high => congrArg Host.Outcome.next (whenDue_false (congrArg (!·) high)),
      fun low powered on => ⟨_, congrArg Host.Outcome.next (State.hotplug_rises low powered on), ?plug⟩,
      fun fell falls powered trained stays => ⟨_, State.dispLinkLost_unlinks falls powered trained stays, ?lost⟩,
      fun lost high waited m last => ⟨_, congrArg Host.Outcome.next (State.dspRetrain_due lost high waited last), ?retrain⟩,
      fun waits => congrArg Host.Outcome.next (State.dspRetrain_waits waits),
      fun trains => ⟨fun m st change => congrArg Host.Outcome.next (State.dspTrained_changes trains change),
        fun m st old change timing => congrArg Host.Outcome.next (State.dspTrained_falls trains change timing),
        fun m change timing first => congrArg Host.Outcome.next (State.dspTrained_starts trains change timing first),
        fun change => ⟨_, congrArg Host.Outcome.next (State.dspTrained_lost trains change), State.linkGone_unlinks.st, State.job_linkGone⟩⟩,
      fun idle ok => congrArg Host.Outcome.next (whenDue_false (decide_eq_false idle)),
      fun m change sends phase line => ⟨_, rfl, State.modeChanged_shows change sends phase line⟩,
      fun change => congrArg Host.Outcome.next (State.modeChanged_none change)⟩
    case staged =>
      rw [powered, decide_eq_true other]
      rfl
    case plug =>
      have plugs := State.trainMode_plugs (s := s) (p := p)
      exact ⟨plugs.hpd, plugs.sink, plugs.trains, plugs.idle, plugs.job⟩
    case lost =>
      have high : d.hpd = true := by
        cases fell with
        | false => exact falls.1
        | true => exact falls
      have gone := State.unplugged_unlinks fell high
      exact ⟨gone.st, gone.hpd, gone.change, gone.lostAt, gone.job, gone.motion⟩
    case retrain =>
      have port := (State.dport_updDport (s := s.updDport p.val (fun d => d.train m)) (p := p) (fun d => { d with lostAt := s.now })).trans
        (congrArg (fun d : DspPort => { d with lostAt := s.now }) (State.dport_updDport (s := s) (fun d => d.train m)))
      exact ⟨congrArg DspPort.st port, congrArg DspPort.lostAt port, congrArg DspPort.timing port, rfl, rfl⟩
    case edge =>
      intro x u
      refine ⟨fun early => congrArg Host.Outcome.next (whenDue_false early), fun due => ⟨fun accepted => ⟨fun every => ?_, fun halved skip held => ?_⟩,
        fun refused => ?_⟩⟩
      · refine congrArg Host.Outcome.next ((State.teEdge_due due).trans ((if_pos (State.teGuard_iff.mpr accepted)).trans ((if_neg ?_).trans ?_)))
        · intro skips
          obtain ⟨halved, skip, held⟩ := DspPort.skips_iff.mp skips
          rcases every with h | h | h
          · exact Bool.false_ne_true (h.symm.trans halved)
          · exact h skip
          · exact Bool.false_ne_true (held.symm.trans h)
        · exact State.updDport_at (s := s.teTaken p.val) rfl
      · refine congrArg Host.Outcome.next ((State.teEdge_due due).trans ((if_pos (State.teGuard_iff.mpr accepted)).trans (if_pos ?_)))
        exact DspPort.skips_iff.mpr ⟨halved, skip, held⟩
      · exact congrArg Host.Outcome.next ((State.teEdge_due due).trans (if_neg fun h => refused (State.teGuard_iff.mp h)))

end Sys2Proof.Machine
end

section
/-! PROOF of the requests of a DRAM controller: how they complete, and what their errors leave (15 R481 to R485, R489, R495). -/

namespace Sys2Proof.Machine

/-! ## A tile beside its controller -/

/-- An event changes its router and, asleep, what is busy; the rest of every tile stays. -/
theorem State.raiseN_keeps {β : Type} (g : TileState → β) (keeps : ∀ x evr busy, g { x with evr := evr, pdBusy := busy } = g x) (s : State)
    (k src : Nat) (data : List Nat) (n : Nat) : g ((s.raiseN k src data).tileN n) = g (s.tileN n) := by
  have occur (x : TileState) (r : LogRec) : g (x.occur r) = g x := by
    unfold TileState.occur
    split
    · exact keeps x _ x.pdBusy
    · exact keeps x _ _
  refine (congrArg g (State.tile_updTileN s k _ (tileIx n))).trans ?_
  split
  · exact occur _ _
  · rfl

theorem State.updTileN_keeps {β : Type} (g : TileState → β) {f : TileState → TileState} (keeps : ∀ x, g (f x) = g x) (s : State) (k n : Nat) :
    g ((s.updTileN k f).tileN n) = g (s.tileN n) := by
  refine (congrArg g (State.tile_updTileN s k f (tileIx n))).trans ?_
  split
  · exact keeps _
  · rfl

theorem State.memc_updMemc (s : State) (n : Nat) (f : Memc → Memc) : (s.updMemc n f).memc n = f (s.memc n) :=
  congrArg TileState.memc (s.tileN_updTileN n _)

theorem State.memc_raiseN (s : State) (k src : Nat) (data : List Nat) (n : Nat) : (s.raiseN k src data).memc n = s.memc n :=
  State.raiseN_keeps TileState.memc (fun _ _ _ => rfl) s k src data n

theorem State.updMemc_keeps {β : Type} (g : TileState → β) (keeps : ∀ x m, g { x with memc := m } = g x) (s : State) (k n : Nat)
    (f : Memc → Memc) : g ((s.updMemc k f).tileN n) = g (s.tileN n) :=
  State.updTileN_keeps g (fun x => keeps x _) s k n

/-! ## PANIC judged anew (15 R489) -/

/-- The queues and the errors of a controller. -/
def Memc.errors (m : Memc) : Vector (List DramReq) 4 × Nat × Nat × Nat × Nat × List Nat := (m.chq, m.ceCnt, m.ceAddr, m.ueCnt, m.ueAddr, m.poison)

theorem Memc.errors_setPanic (m : Memc) (now p : Nat) (on : Bool) : (m.setPanic now p on).errors = m.errors := by
  unfold Memc.setPanic
  split
  · split
    · rfl
    · rfl
  · split
    · rfl
    · rfl

theorem State.errors_scanPorts (s : State) (n : Nat) : ((s.scanPorts n).memc n).errors = (s.memc n).errors := by
  unfold State.scanPorts State.dwritePanic State.scanPanic
  rw [State.memc_updMemc, Memc.errors_setPanic, State.memc_updMemc, Memc.errors_setPanic]

theorem State.scanPorts_keeps {β : Type} (g : TileState → β) (keeps : ∀ x m, g { x with memc := m } = g x) (s : State) (k n : Nat) :
    g ((s.scanPorts k).tileN n) = g (s.tileN n) :=
  (State.updMemc_keeps g keeps _ k n _).trans (State.updMemc_keeps g keeps s k n _)

/-! ## The request at the head of a queue (15 R482, R483, R485) -/

/-- The address that an error names. -/
def dramEndOwn : DramEnd → Nat
  | .clean => 0
  | .corrected a => a
  | .uncorrectable a => a

/-- The request that completes: the head of the queue, or one of the control cores. -/
def State.dramHead (s : State) (t ch : Nat) (e : DramEnd) : DramReq :=
  (vget (s.memc t).chq ch []).headD { port := 5, da := dramEndOwn e, bytes := 8, at_ := s.now, rowLine := none }

/-- The package with the head of a queue gone. -/
def State.dramTaken (s : State) (t ch : Nat) (e : DramEnd) : State :=
  let pl := (s.memc t).place (s.dramHead t ch e).da
  s.updMemc t (fun m => { m with
    chq := vset m.chq ch ((vget (s.memc t).chq ch []).drop 1), openRow := NMap.set 0 m.openRow (16 * ch + pl.2.1) (pl.2.2.1 + 1)
    moved := vupd m.moved ch [] (fun l => (s.now, 64) :: l.filter (fun x => decide (s.now < x.1 + 1_000_000))) })

/-- A request ends. -/
def State.dramEnds (s : State) (t : Nat) (r : DramReq) : DramEnd → State
  | .clean => s
  | .corrected a => s.memCe t r.port a
  | .uncorrectable a => (s.memUe t r a).markBad t r

/-- The package after a request that ended in one way. -/
def State.dramAfter (s : State) (t ch : Nat) (e how : DramEnd) : State :=
  ((((s.dramTaken t ch e).dramEnds t (s.dramHead t ch e) how).updMemc t (fun m => m.written (s.dramHead t ch e)))).scanPorts t

section
variable {s : State} {t ch : Nat} {e how : DramEnd}

theorem State.dramDone_runs (runs : (s.memc t).st = 2) :
    s.dramDone t ch e = s.dramAfter t ch e ((s.memc t).endOf (s.dramHead t ch e) e) := by
  unfold State.dramDone
  refine (if_neg (Decidable.not_not.mpr runs)).trans ?_
  cases e with
  | clean => rfl
  | corrected a => rfl
  | uncorrectable a => rfl

/-! ## What the end of a request does (15 R481 to R483) -/

theorem State.memc_dramTaken : (s.dramTaken t ch e).memc t =
    { s.memc t with
      chq := vset (s.memc t).chq ch ((vget (s.memc t).chq ch []).drop 1)
      openRow := NMap.set 0 (s.memc t).openRow (16 * ch + ((s.memc t).place (s.dramHead t ch e).da).2.1) (((s.memc t).place (s.dramHead t ch e).da).2.2.1 + 1)
      moved := vupd (s.memc t).moved ch [] (fun l => (s.now, 64) :: l.filter (fun x => decide (s.now < x.1 + 1_000_000))) } :=
  State.memc_updMemc s t _

theorem State.memc_markBad (u : State) (r : DramReq) : (u.markBad t r).memc t = u.memc t := by
  unfold State.markBad
  split
  · rfl
  · exact State.updTileN_keeps TileState.memc (f := fun x => x.spoil _ _ _) (fun _ => rfl) u t t

/-- The words that an uncorrectable error poisons: the word, or those of its granule that a write does not cover. -/
def DramReq.spoils (r : DramReq) (word : Nat) : List Nat :=
  if r.port = 1 then ((List.range 8).map (fun i => r.da / 64 * 64 + 8 * i)).filter (fun a => decide (a < r.da ∨ r.da + r.bytes ≤ a)) else [word]

theorem State.errors_memUe (u : State) (r : DramReq) (a : Nat) : (((u.memUe t r a).markBad t r).memc t).errors =
    ((u.memc t).chq, (u.memc t).ceCnt, (u.memc t).ceAddr, satInc 32 (u.memc t).ueCnt, a % 2 ^ 40 / 8 * 8,
      (r.spoils (a % 2 ^ 40 / 8 * 8)).foldl addNew (u.memc t).poison) := by
  rw [State.memc_markBad]
  unfold State.memUe
  rw [State.memc_raiseN, State.memc_updMemc]
  rfl

/-- A correctable error counted, and reported or not. -/
def State.ceCounted (s : State) (t port da : Nat) (due : Bool) : State :=
  s.updMemc t (fun m => { m with
    ceCnt := satInc 32 m.ceCnt, ceAddr := da % 2 ^ 40 / 8 * 8, ceLast := if due then some s.now else m.ceLast
    scrub := if port = 5 then (m.scrub.1 + 1, m.scrub.2) else m.scrub })

theorem State.memCe_counts (u : State) (port a : Nat) : ∃ due : Bool, u.memCe t port a =
    if due then (u.ceCounted t port a due).raiseN t Ev.memcCe [a, satInc 32 (u.memc t).ceCnt] else u.ceCounted t port a due := ⟨_, rfl⟩

theorem State.errors_ceCounted (u : State) (port a : Nat) (due : Bool) : ((u.ceCounted t port a due).memc t).errors =
    ((u.memc t).chq, satInc 32 (u.memc t).ceCnt, a % 2 ^ 40 / 8 * 8, (u.memc t).ueCnt, (u.memc t).ueAddr, (u.memc t).poison) :=
  congrArg Memc.errors (State.memc_updMemc u t _)

theorem State.errors_memCe (u : State) (port a : Nat) : ((u.memCe t port a).memc t).errors =
    ((u.memc t).chq, satInc 32 (u.memc t).ceCnt, a % 2 ^ 40 / 8 * 8, (u.memc t).ueCnt, (u.memc t).ueAddr, (u.memc t).poison) := by
  obtain ⟨due, counts⟩ := State.memCe_counts (t := t) u port a
  rw [counts]
  cases due with
  | true => exact (congrArg Memc.errors (State.memc_raiseN _ t _ _ t)).trans (State.errors_ceCounted u port a true)
  | false => exact State.errors_ceCounted u port a false

/-- The words that a write covers hold its data. -/
def DramReq.mends (r : DramReq) (poison : List Nat) : List Nat :=
  if r.port = 1 then poison.filter (fun a => decide (a < r.da ∨ r.da + r.bytes ≤ a)) else poison

theorem Memc.errors_written (m : Memc) (r : DramReq) :
    (m.written r).errors = (m.chq, m.ceCnt, m.ceAddr, m.ueCnt, m.ueAddr, r.mends m.poison) := by
  unfold Memc.written DramReq.mends
  split
  · rfl
  · rfl

theorem State.errors_dramAfter {q : Vector (List DramReq) 4} {ce ceAddr ue ueAddr : Nat} {poison : List Nat}
    (ends : (((s.dramTaken t ch e).dramEnds t (s.dramHead t ch e) how).memc t).errors = (q, ce, ceAddr, ue, ueAddr, poison)) :
    ((s.dramAfter t ch e how).memc t).errors = (q, ce, ceAddr, ue, ueAddr, (s.dramHead t ch e).mends poison) := by
  unfold State.dramAfter
  rw [State.errors_scanPorts, State.memc_updMemc, Memc.errors_written]
  simp only [Memc.errors, Prod.mk.injEq] at ends
  obtain ⟨hq, hce, hceAddr, hue, hueAddr, hpoison⟩ := ends
  rw [hq, hce, hceAddr, hue, hueAddr, hpoison]

/-- The queue without its head. -/
def State.queueLeft (s : State) (t ch : Nat) : Vector (List DramReq) 4 := vset (s.memc t).chq ch ((vget (s.memc t).chq ch []).drop 1)

theorem State.errors_clean : ((s.dramAfter t ch e .clean).memc t).errors =
    (s.queueLeft t ch, (s.memc t).ceCnt, (s.memc t).ceAddr, (s.memc t).ueCnt, (s.memc t).ueAddr, (s.dramHead t ch e).mends (s.memc t).poison) :=
  State.errors_dramAfter (congrArg Memc.errors State.memc_dramTaken)

theorem State.errors_corrected {a : Nat} : ((s.dramAfter t ch e (.corrected a)).memc t).errors =
    (s.queueLeft t ch, satInc 32 (s.memc t).ceCnt, a % 2 ^ 40 / 8 * 8, (s.memc t).ueCnt, (s.memc t).ueAddr,
      (s.dramHead t ch e).mends (s.memc t).poison) := by
  refine State.errors_dramAfter ((State.errors_memCe _ _ _).trans ?_)
  rw [State.memc_dramTaken]
  rfl

theorem State.errors_uncorrectable {a : Nat} : ((s.dramAfter t ch e (.uncorrectable a)).memc t).errors =
    (s.queueLeft t ch, (s.memc t).ceCnt, (s.memc t).ceAddr, satInc 32 (s.memc t).ueCnt, a % 2 ^ 40 / 8 * 8,
      (s.dramHead t ch e).mends (((s.dramHead t ch e).spoils (a % 2 ^ 40 / 8 * 8)).foldl addNew (s.memc t).poison)) := by
  refine State.errors_dramAfter ((State.errors_memUe _ _ _).trans ?_)
  rw [State.memc_dramTaken]
  rfl

/-- Whatever the end, the head has left its queue. -/
theorem State.chq_dramAfter : ((s.dramAfter t ch e how).memc t).chq = s.queueLeft t ch := by
  cases how with
  | clean => exact congrArg (·.1) State.errors_clean
  | corrected a => exact congrArg (·.1) State.errors_corrected
  | uncorrectable a => exact congrArg (·.1) State.errors_uncorrectable

/-- The engine, the job and the inputs. -/
def State.apart (s : State) : Qen × Job × Motion := (s.qen, s.job, s.motion)

theorem State.apart_dramAfter : (s.dramAfter t ch e how).apart = s.apart := by
  cases how with
  | clean => rfl
  | corrected a =>
    have one (u : State) (port : Nat) : (u.memCe t port a).apart = u.apart := by
      obtain ⟨due, counts⟩ := State.memCe_counts (t := t) u port a
      rw [counts]
      cases due with
      | true => rfl
      | false => rfl
    exact one (s.dramTaken t ch e) _
  | uncorrectable a =>
    have one (u : State) (r : DramReq) : (u.markBad t r).apart = u.apart := by
      unfold State.markBad
      split
      · rfl
      · rfl
    exact one ((s.dramTaken t ch e).memUe t (s.dramHead t ch e) a) _

/-- A clean end leaves the tile beside its controller alone. -/
theorem State.dramAfter_clean_keeps {β : Type} (g : TileState → β) (keeps : ∀ x m, g { x with memc := m } = g x) (n : Nat) :
    g ((s.dramAfter t ch e .clean).tileN n) = g (s.tileN n) :=
  (State.scanPorts_keeps g keeps _ t n).trans ((State.updMemc_keeps g keeps _ t n _).trans (State.updMemc_keeps g keeps s t n _))

/-- A correctable error within a second of one reported raises nothing. -/
theorem State.dramAfter_corrected_keeps {β : Type} (g : TileState → β) (keeps : ∀ x m, g { x with memc := m } = g x) {a b : Nat}
    (last : (s.memc t).ceLast = some b) (recent : s.now < b + 250_000_000) (n : Nat) :
    g ((s.dramAfter t ch e (.corrected a)).tileN n) = g (s.tileN n) := by
  have sameLast : ((s.dramTaken t ch e).memc t).ceLast = some b := (congrArg Memc.ceLast State.memc_dramTaken).trans last
  have quiet (u : State) (port : Nat) (hl : (u.memc t).ceLast = some b) (hr : u.now < b + 250_000_000) :
      g ((u.memCe t port a).tileN n) = g (u.tileN n) := by
    have early : decide (b + 250_000_000 ≤ u.now) = false := decide_eq_false (Nat.not_le.mpr hr)
    unfold State.memCe
    simp only [hl, early, Bool.false_eq_true, if_false]
    exact State.updMemc_keeps g keeps u t n _
  exact (State.scanPorts_keeps g keeps _ t n).trans ((State.updMemc_keeps g keeps _ t n _).trans
    ((quiet (s.dramTaken t ch e) _ sameLast recent).trans (State.updMemc_keeps g keeps s t n _)))

end

/-! ## Poison (15 R481) -/

theorem DramReq.mem_mends_word {r : DramReq} (fetch : r.port ≠ 1) {word : Nat} (poison : List Nat) :
    word ∈ r.mends ((r.spoils word).foldl addNew poison) := by
  unfold DramReq.mends DramReq.spoils
  rw [if_neg fetch, if_neg fetch, mem_foldl_addNew_self]
  exact .inr (List.mem_singleton.mpr rfl)

/-- A write that meets an uncorrectable error poisons every word of its granule that it does not cover. -/
theorem DramReq.mem_mends_granule {r : DramReq} (write : r.port = 1) {word w : Nat} (poison : List Nat) (aligned : w % 8 = 0)
    (granule : w / 64 = r.da / 64) : w ∈ r.mends ((r.spoils word).foldl addNew poison) ↔ w < r.da ∨ r.da + r.bytes ≤ w := by
  unfold DramReq.mends DramReq.spoils
  rw [if_pos write, if_pos write, List.mem_filter, mem_foldl_addNew_self, decide_eq_true_eq]
  refine ⟨fun h => h.2, fun h => ⟨.inr (List.mem_filter.mpr ⟨List.mem_map.mpr ⟨w % 64 / 8, ?_, ?_⟩, decide_eq_true h⟩), h⟩⟩
  · exact List.mem_range.mpr (by omega)
  · rw [← granule]
    omega

/-! ## How a request ends (15 R481, R482, R485) -/

section
variable {s : State} {t ch : Nat} {e : DramEnd}

/-- A fetch of a granule that holds a poisoned word. -/
def Memc.Hit (m : Memc) (first : Option DramReq) : Prop := ∃ r, first = some r ∧ r.port = 0 ∧ ∃ a ∈ m.poison, a / 64 = r.da / 64

theorem State.dramHead_some {r : DramReq} (first : (vget (s.memc t).chq ch []).head? = some r) : s.dramHead t ch e = r := by
  unfold State.dramHead
  rw [List.headD_eq_head?_getD, first]
  rfl

theorem State.dramHead_none (first : (vget (s.memc t).chq ch []).head? = none) : (s.dramHead t ch e).port = 5 := by
  unfold State.dramHead
  rw [List.headD_eq_head?_getD, first]
  rfl

theorem Memc.endOf_uncorrectable (m : Memc) (r : DramReq) (a : Nat) : m.endOf r (.uncorrectable a) = .uncorrectable a := by
  unfold Memc.endOf
  cases m.poison.find? (fun a => a / 64 == r.da / 64) with
  | none => rfl
  | some b => rfl

theorem Memc.endOf_free {m : Memc} {r : DramReq} (free : r.port ≠ 0 ∨ ∀ a ∈ m.poison, a / 64 ≠ r.da / 64) : m.endOf r e = e := by
  unfold Memc.endOf
  cases found : m.poison.find? (fun a => a / 64 == r.da / 64) with
  | none => cases e <;> rfl
  | some b =>
    have port : r.port ≠ 0 := free.resolve_right fun h => h b (List.mem_of_find?_eq_some found) (by simpa using List.find?_some found)
    cases e with
    | clean => exact if_neg port
    | corrected a => exact if_neg port
    | uncorrectable a => rfl

theorem Memc.endOf_hit {m : Memc} {r : DramReq} (fetch : r.port = 0) (hit : ∃ a ∈ m.poison, a / 64 = r.da / 64) :
    ∃ a, m.endOf r e = .uncorrectable a := by
  obtain ⟨a, mem, granule⟩ := hit
  unfold Memc.endOf
  cases found : m.poison.find? (fun a => a / 64 == r.da / 64) with
  | none => exact absurd (beq_iff_eq.mpr granule) (List.find?_eq_none.mp found a mem)
  | some b =>
    cases e with
    | clean => exact ⟨b, if_pos fetch⟩
    | corrected c => exact ⟨b, if_pos fetch⟩
    | uncorrectable c => exact ⟨c, rfl⟩

theorem State.dramDone_free (runs : (s.memc t).st = 2) (free : ¬(s.memc t).Hit (vget (s.memc t).chq ch []).head?) :
    s.dramDone t ch e = s.dramAfter t ch e e := by
  rw [State.dramDone_runs runs, Memc.endOf_free]
  cases first : (vget (s.memc t).chq ch []).head? with
  | none =>
    rw [State.dramHead_none first]
    exact .inl (by decide)
  | some r =>
    rw [State.dramHead_some first]
    by_cases fetch : r.port = 0
    · exact .inr fun a mem granule => free ⟨r, first, fetch, a, mem, granule⟩
    · exact .inl fetch

theorem State.dramDone_uncorrectable (runs : (s.memc t).st = 2) (a : Nat) :
    s.dramDone t ch (.uncorrectable a) = s.dramAfter t ch (.uncorrectable a) (.uncorrectable a) := by
  rw [State.dramDone_runs runs, Memc.endOf_uncorrectable]

theorem State.dramDone_hit (runs : (s.memc t).st = 2) (hit : (s.memc t).Hit (vget (s.memc t).chq ch []).head?) :
    ∃ a, s.dramDone t ch e = s.dramAfter t ch e (.uncorrectable a) := by
  obtain ⟨r, first, fetch, poisoned⟩ := hit
  obtain ⟨a, ends⟩ := Memc.endOf_hit (e := e) fetch poisoned
  exact ⟨a, by rw [State.dramDone_runs runs, State.dramHead_some first, ends]⟩

end

/-! ## What a controller's request leaves -/

section
variable {s : State} {t : Tile} {ch : Fin 4} {e : DramEnd}

/-- The words that stay poisoned once the head has ended with no uncorrectable error. -/
def Memc.keptPoison (m : Memc) (first : Option DramReq) : List Nat := ((first.map (fun r => r.mends m.poison))).getD m.poison

theorem State.keptPoison_head : (s.memc t.val).keptPoison (vget (s.memc t.val).chq ch.val []).head? =
    (s.dramHead t.val ch.val e).mends (s.memc t.val).poison := by
  cases first : (vget (s.memc t.val).chq ch.val []).head? with
  | none =>
    unfold DramReq.mends
    rw [State.dramHead_none first]
    rfl
  | some r =>
    rw [State.dramHead_some first]
    rfl

/-- A request that ends well, a counted error, and an uncorrectable one. -/
theorem State.dramDone_clean (runs : (s.memc t.val).st = 2) (free : ¬(s.memc t.val).Hit (vget (s.memc t.val).chq ch.val []).head?) :
    ((s.dramDone t.val ch.val .clean).memc t.val).errors = (s.queueLeft t.val ch.val, (s.memc t.val).ceCnt, (s.memc t.val).ceAddr,
        (s.memc t.val).ueCnt, (s.memc t.val).ueAddr, (s.memc t.val).keptPoison (vget (s.memc t.val).chq ch.val []).head?) ∧
      ((s.dramDone t.val ch.val .clean).tile t).mem = (s.tile t).mem ∧ ((s.dramDone t.val ch.val .clean).tile t).evr = (s.tile t).evr := by
  rw [State.dramDone_free runs free, State.keptPoison_head (e := .clean)]
  have mem := State.dramAfter_clean_keeps (s := s) (t := t.val) (ch := ch.val) (e := .clean) TileState.mem (fun _ _ => rfl) t.val
  have evr := State.dramAfter_clean_keeps (s := s) (t := t.val) (ch := ch.val) (e := .clean) TileState.evr (fun _ _ => rfl) t.val
  rw [State.tileN_val, State.tileN_val] at mem evr
  exact ⟨State.errors_clean, mem, evr⟩

theorem State.dramDone_corrected (runs : (s.memc t.val).st = 2) (free : ¬(s.memc t.val).Hit (vget (s.memc t.val).chq ch.val []).head?) (a : Nat) :
    ((s.dramDone t.val ch.val (.corrected a)).memc t.val).errors = (s.queueLeft t.val ch.val, satInc 32 (s.memc t.val).ceCnt, a % 2 ^ 40 / 8 * 8,
        (s.memc t.val).ueCnt, (s.memc t.val).ueAddr, (s.memc t.val).keptPoison (vget (s.memc t.val).chq ch.val []).head?) ∧
      ∀ b, (s.memc t.val).ceLast = some b → s.now < b + 250_000_000 → ((s.dramDone t.val ch.val (.corrected a)).tile t).evr = (s.tile t).evr := by
  rw [State.dramDone_free runs free, State.keptPoison_head (e := .corrected a)]
  refine ⟨State.errors_corrected, fun b last recent => ?_⟩
  have evr := State.dramAfter_corrected_keeps (s := s) (t := t.val) (ch := ch.val) (e := .corrected a) TileState.evr (fun _ _ => rfl)
    (a := a) last recent t.val
  rw [State.tileN_val, State.tileN_val] at evr
  exact evr

theorem State.chq_dramDone (runs : (s.memc t.val).st = 2) : ((s.dramDone t.val ch.val e).memc t.val).chq = s.queueLeft t.val ch.val := by
  rw [State.dramDone_runs runs, State.chq_dramAfter]

theorem State.apart_dramDone (runs : (s.memc t.val).st = 2) : (s.dramDone t.val ch.val e).apart = s.apart := by
  rw [State.dramDone_runs runs, State.apart_dramAfter]

/-- A controller after an uncorrectable error. -/
structure State.Spoiled (s u : State) (t : Tile) (ch : Fin 4) (a : Nat) : Prop where
  ueCnt : (u.memc t.val).ueCnt = satInc 32 (s.memc t.val).ueCnt
  ueAddr : (u.memc t.val).ueAddr = a % 2 ^ 40 / 8 * 8
  ceCnt : (u.memc t.val).ceCnt = (s.memc t.val).ceCnt
  word : (∀ r, (vget (s.memc t.val).chq ch.val []).head? = some r → r.port ≠ 1) → a % 2 ^ 40 / 8 * 8 ∈ (u.memc t.val).poison
  granule : ∀ r, (vget (s.memc t.val).chq ch.val []).head? = some r → r.port = 1 → ∀ w, w % 8 = 0 → w / 64 = r.da / 64 →
    (w ∈ (u.memc t.val).poison ↔ w < r.da ∨ r.da + r.bytes ≤ w)

theorem State.dramAfter_spoils (a : Nat) : s.Spoiled (s.dramAfter t.val ch.val e (.uncorrectable a)) t ch a := by
  have errors := State.errors_uncorrectable (s := s) (t := t.val) (ch := ch.val) (e := e) (a := a)
  simp only [Memc.errors, Prod.mk.injEq] at errors
  obtain ⟨-, ceCnt, -, ueCnt, ueAddr, poison⟩ := errors
  refine { ueCnt := ueCnt, ueAddr := ueAddr, ceCnt := ceCnt, word := fun fetch => ?_, granule := fun r first write w aligned granule => ?_ }
  · rw [poison]
    refine DramReq.mem_mends_word ?_ _
    cases first : (vget (s.memc t.val).chq ch.val []).head? with
    | none =>
      rw [State.dramHead_none first]
      decide
    | some r =>
      rw [State.dramHead_some first]
      exact fetch r first
  · rw [poison, State.dramHead_some first]
    exact DramReq.mem_mends_granule write _ aligned granule

end

/-! ## Refresh, precharge, scrub, heat and PANIC (15 R484, R485, R489, R495) -/

section
variable {s : State} {t : Nat}

theorem State.dramRefresh_eq (ch bank : Nat) : s.dramRefresh t ch bank = if (s.memc t).st = 2 ∧ (s.memc t).pause = none then
    s.updMemc t (fun m => { m with
      refreshed := NMap.upd 0 m.refreshed (16 * ch + bank) (· + 1), openRow := NMap.set 0 m.openRow (16 * ch + bank) 0 }) else s := by
  simp only [State.dramRefresh, whenDue, Bool.and_eq_true, decide_eq_true_eq, Option.isNone_iff_eq_none]

theorem State.bankIdle_eq (ch bank : Nat) : s.bankIdle t ch bank =
    if (s.memc t).st = 2 ∧ ∀ r ∈ vget (s.memc t).chq ch [], ((s.memc t).place r.da).2.1 ≠ bank then
      s.updMemc t (fun m => { m with openRow := NMap.set 0 m.openRow (16 * ch + bank) 0 }) else s := by
  simp only [State.bankIdle, whenDue, Bool.and_eq_true, decide_eq_true_eq, List.all_eq_true]

theorem State.scrubDone_eq : s.scrubDone t = if (s.memc t).st = 2 ∧ (s.memc t).scrubH ≠ 0 then
    (s.updMemc t (fun m => { m with scrub := (0, 0), scrubH := s.itemN (Pid.memcScrub t) })).raiseN t Ev.memcScrubDone
      [(s.memc t).scrub.1, (s.memc t).scrub.2] else s := by
  simp only [State.scrubDone, whenDue, decide_eq_true_eq]

theorem State.dramHot_eq (ch mr4 : Nat) (hot : Bool) : s.dramHot t ch mr4 hot = if (s.memc t).st = 2 ∧ vget (s.memc t).hot ch false ≠ hot then
    (s.updMemc t (fun m => { m with hot := vset m.hot ch hot })).raiseN t Ev.memcDramHot [ch, mr4, boolNat hot] else s := by
  simp only [State.dramHot, whenDue, Bool.and_eq_true, decide_eq_true_eq, bne_iff_ne]

theorem State.panicLong_held {p t0 : Nat} (held : vget (s.memc t).panic p none = some t0) : s.panicLong t p =
    if t0 + 25_000 * (vget (s.memc t).panicLongs p 0 + 1) ≤ s.now then
      (s.updMemc t (fun m => { m with panicLongs := vset m.panicLongs p (vget (s.memc t).panicLongs p 0 + 1) })).raiseN t Ev.memcPanicLong
        [p, 25_000 * (vget (s.memc t).panicLongs p 0 + 1)] else s := by
  simp only [State.panicLong, held, whenDue, decide_eq_true_eq]

theorem State.panicLong_none {p : Nat} (held : vget (s.memc t).panic p none = none) : s.panicLong t p = s := by
  simp only [State.panicLong, held]

end

end Sys2Proof.Machine
end

section
/-! PROOF of the pauses of a DRAM controller, of its arbiter and of its address map (15 R478, R488, R491 to R494; 18 R553). -/

namespace Sys2Proof.Machine

/-! ## Pauses (15 R491, R492, R494) -/

section
variable {s : State} {t : Nat}

/-- Every real-time port tolerates a pause and the guard. -/
def State.Room (s : State) (t d : Nat) : Prop := ∀ p, p < 3 → d + s.itemN (Pid.memcRtGuard t) ≤ s.tolerance t p

theorem State.room_iff (kind : Nat) :
    (List.range 3).all (fun p => decide (pauseLen kind + s.itemN (Pid.memcRtGuard t) ≤ s.tolerance t p)) = true ↔ s.Room t (pauseLen kind) := by
  simp only [State.Room, List.all_eq_true, List.mem_range, decide_eq_true_eq]

theorem State.pauseStart_eq : s.pauseStart t =
    whenDue (decide ((s.memc t).st = 2) && (s.memc t).pause.isNone && ((s.memc t).freqPend || (s.memc t).trainPend) &&
      (List.range 3).all (fun p => decide (pauseLen (if (s.memc t).freqPend then 0 else 1) + s.itemN (Pid.memcRtGuard t) ≤ s.tolerance t p))) s
      (s.updMemc t (fun m => { m with pause := some (if (s.memc t).freqPend then 0 else 1, s.now) })) := rfl

theorem State.pauseStart_frequency (runs : (s.memc t).st = 2) (free : (s.memc t).pause = none) (freq : (s.memc t).freqPend = true)
    (room : s.Room t 1500) : s.pauseStart t = s.updMemc t (fun m => { m with pause := some (0, s.now) }) := by
  rw [State.pauseStart_eq, runs, free, freq, if_pos rfl, State.room_iff 0 |>.mpr room]
  rfl

theorem State.pauseStart_retraining (runs : (s.memc t).st = 2) (free : (s.memc t).pause = none) (freq : (s.memc t).freqPend = false)
    (train : (s.memc t).trainPend = true) (room : s.Room t 100) : s.pauseStart t = s.updMemc t (fun m => { m with pause := some (1, s.now) }) := by
  rw [State.pauseStart_eq, runs, free, freq, train, if_neg Bool.false_ne_true, State.room_iff 1 |>.mpr room]
  rfl

theorem State.pauseStart_waits (waits : (s.memc t).st ≠ 2 ∨ (s.memc t).pause ≠ none ∨ ((s.memc t).freqPend = false ∧ (s.memc t).trainPend = false) ∨
    ((s.memc t).freqPend = true ∧ ¬s.Room t 1500) ∨ ((s.memc t).freqPend = false ∧ ¬s.Room t 100)) : s.pauseStart t = s := by
  rw [State.pauseStart_eq]
  refine whenDue_false ?_
  rcases waits with st | pause | ⟨freq, train⟩ | ⟨freq, room⟩ | ⟨freq, room⟩
  · rw [decide_eq_false st, Bool.false_and, Bool.false_and, Bool.false_and]
  · rw [Option.isNone_eq_false_iff.mpr (Option.isSome_iff_ne_none.mpr pause), Bool.and_false, Bool.false_and, Bool.false_and]
  · rw [freq, train, Bool.or_false, Bool.and_false, Bool.false_and]
  · rw [freq, if_pos rfl, Bool.eq_false_iff.mpr fun h => room ((State.room_iff 0).mp h), Bool.and_false]
  · rw [freq, if_neg Bool.false_ne_true, Bool.eq_false_iff.mpr fun h => room ((State.room_iff 1).mp h), Bool.and_false]

theorem State.retrainDue_falls (runs : (s.memc t).st = 2) (idle : (s.memc t).trainPend = false) {a : Nat} (due : (s.memc t).trainDue = some a)
    (reached : a ≤ s.now) : s.retrainDue t = s.updMemc t (fun m => { m with trainPend := true, deferMs := s.itemN (Pid.memcTrainDefer t) }) := by
  refine whenDue_true ?_
  rw [runs, idle, due, Option.map_some, decide_eq_true reached]
  rfl

theorem State.retrainDue_waits (waits : (s.memc t).st ≠ 2 ∨ (s.memc t).trainPend = true ∨ (s.memc t).trainDue = none ∨
    ∃ a, (s.memc t).trainDue = some a ∧ s.now < a) : s.retrainDue t = s := by
  refine whenDue_false ?_
  rcases waits with st | pend | due | ⟨a, due, early⟩
  · rw [decide_eq_false st, Bool.false_and, Bool.false_and]
  · rw [pend, Bool.not_true, Bool.and_false, Bool.false_and]
  · rw [due, Option.map_none, Option.getD_none, Bool.and_false]
  · rw [due, Option.map_some, Option.getD_some, decide_eq_false (Nat.not_le.mpr early), Bool.and_false]

theorem State.pauseForced_runs (free : (s.memc t).pause = none) (pend : (s.memc t).trainPend = true) {a : Nat}
    (due : (s.memc t).trainDue = some a) (deferred : a + 250_000 * (s.memc t).deferMs ≤ s.now) : s.pauseForced t =
      (s.updMemc t (fun m => { m with pause := some (1, s.now), forced := satInc 16 m.forced })).raiseN t Ev.memcPauseForced [s.now - a] := by
  simp only [State.pauseForced, due]
  refine whenDue_true ?_
  rw [pend, free, decide_eq_true deferred]
  rfl

theorem State.pauseForced_waits (waits : (s.memc t).trainPend = false ∨ (s.memc t).pause ≠ none ∨ (s.memc t).trainDue = none) :
    s.pauseForced t = s := by
  cases due : (s.memc t).trainDue with
  | none => simp only [State.pauseForced, due]
  | some a =>
    simp only [State.pauseForced, due]
    refine whenDue_false ?_
    rcases waits with pend | pause | none_
    · rw [pend, Bool.false_and, Bool.false_and]
    · rw [Option.isNone_eq_false_iff.mpr (Option.isSome_iff_ne_none.mpr pause), Bool.and_false, Bool.false_and]
    · exact nomatch due.symm.trans none_

end

/-! ## The end of a pause (15 R493, R494; 18 R553) -/

section
variable {s : State} {t : Tile}

/-- A controller after a pause. -/
def Memc.unpaused (m : Memc) (now start due : Nat) : Memc :=
  { m with pause := none, pauseMax := max m.pauseMax (min 0xFFFF (now - start)), trainPend := false, trainDue := some due }

theorem State.memc_pauseEnd (start : Nat) : (s.pauseEnd t.val start).memc t.val =
    (s.memc t.val).unpaused s.now start (s.now + 250_000 * s.itemN (Pid.memcTrainInt t.val)) := State.memc_updMemc s t.val _

/-- The package with the other set in use. -/
def State.swapped (s : State) (t start : Nat) : State :=
  (s.pauseEnd t start).updMemc t (fun m => { m with set := 1 - (s.memc t).set, freqPend := decide (s.itemN (Pid.memcSet t) ≠ 1 - (s.memc t).set) })

theorem State.memc_swapped (start : Nat) : (s.swapped t.val start).memc t.val =
    { (s.memc t.val).unpaused s.now start (s.now + 250_000 * s.itemN (Pid.memcTrainInt t.val)) with
      set := 1 - (s.memc t.val).set, freqPend := decide (s.itemN (Pid.memcSet t.val) ≠ 1 - (s.memc t.val).set) } := by
  rw [← State.memc_pauseEnd]
  exact State.memc_updMemc (s.pauseEnd t.val start) t.val _

theorem State.setChanged_swaps {a : Nat} (pause : (s.memc t.val).pause = some (0, a)) : s.setChanged t.val =
    (s.swapped t.val a).raiseN t.val Ev.memcSetChanged
      [1 - (s.memc t.val).set, rateOf (if 1 - (s.memc t.val).set = 0 then (s.memc t.val).rateA else (s.memc t.val).rateB)] := by
  simp only [State.setChanged, pause]
  rfl

theorem State.setChanged_still (no : ∀ a, (s.memc t.val).pause ≠ some (0, a)) : s.setChanged t.val = s := by
  simp only [State.setChanged]

theorem State.retrainDone_still (no : ∀ a, (s.memc t.val).pause ≠ some (1, a)) (drift : Option (Fin 4 × Int)) : s.retrainDone t.val drift = s := by
  unfold State.retrainDone
  split
  next a pause => exact absurd pause (no a)
  next => rfl

/-- A drift beyond one step is reported after the pause. -/
def State.drifted (s : State) (t : Nat) : Option (Fin 4 × Int) → State
  | some (ch, d) => s.raiseN t Ev.memcTrainFail [ch.val, evInt d]
  | none => s

theorem State.retrainDone_ends {a : Nat} (pause : (s.memc t.val).pause = some (1, a)) (drift : Option (Fin 4 × Int)) :
    s.retrainDone t.val drift = ((s.pauseEnd t.val a).drifted t.val drift).trimBoundary t.val 1 := by
  unfold State.retrainDone State.retrained
  simp only [pause]
  rfl

theorem State.drifted_keeps {β : Type} (g : TileState → β) (keeps : ∀ x evr busy, g { x with evr := evr, pdBusy := busy } = g x) (u : State)
    (drift : Option (Fin 4 × Int)) (k n : Nat) : g ((u.drifted k drift).tileN n) = g (u.tileN n) := by
  cases drift with
  | none => rfl
  | some d => exact State.raiseN_keeps g keeps u k _ _ n

theorem State.apart_drifted (u : State) (drift : Option (Fin 4 × Int)) (k : Nat) : (u.drifted k drift).apart = u.apart := by
  cases drift with
  | none => rfl
  | some d => rfl

theorem State.trm_trimBoundary (u : State) (c : Nat) : (u.trimBoundary t.val c).trm t.val = (u.trm t.val).force c (trimKeys c) :=
  congrArg TileState.trm (State.tileN_updTileN u t.val _)

theorem State.memc_retrainDone {a : Nat} (pause : (s.memc t.val).pause = some (1, a)) (drift : Option (Fin 4 × Int)) :
    (s.retrainDone t.val drift).memc t.val = (s.memc t.val).unpaused s.now a (s.now + 250_000 * s.itemN (Pid.memcTrainInt t.val)) := by
  rw [State.retrainDone_ends pause]
  refine (State.updTileN_keeps TileState.memc (f := fun x => { x with trm := x.trm.force 1 (trimKeys 1) }) (fun _ => rfl) _ t.val t.val).trans ?_
  exact (State.drifted_keeps TileState.memc (fun _ _ _ => rfl) _ drift t.val t.val).trans (State.memc_pauseEnd a)

theorem State.waiting_retrainDone {a : Nat} (pause : (s.memc t.val).pause = some (1, a)) (drift : Option (Fin 4 × Int)) :
    ((s.retrainDone t.val drift).trm t.val).waiting = (s.trm t.val).waiting.filter (fun w => w.1 != 1) := by
  have trm : ((s.pauseEnd t.val a).drifted t.val drift).trm t.val = s.trm t.val :=
    (State.drifted_keeps TileState.trm (fun _ _ _ => rfl) _ drift t.val t.val).trans
      (State.updMemc_keeps TileState.trm (fun _ _ => rfl) s t.val t.val _)
  rw [State.retrainDone_ends pause, State.trm_trimBoundary, trm]
  refine List.filter_congr fun w _ => ?_
  rw [show trimKeys 1 = [1] from rfl, List.contains_cons, List.contains_nil, Bool.or_false]
  rfl

theorem State.apart_retrainDone {a : Nat} (pause : (s.memc t.val).pause = some (1, a)) (drift : Option (Fin 4 × Int)) :
    (s.retrainDone t.val drift).apart = s.apart := by
  rw [State.retrainDone_ends pause]
  exact State.apart_drifted _ drift _

end

/-! ## The arbiter (15 R488) -/

section
variable {m : Memc} {wt ch : Nat}

theorem Memc.grant_full (full : queueDepth ≤ (vget m.chq ch []).length) : m.grant wt ch = m := if_pos full

/-- No port that holds PANIC has a request for the channel. -/
def Memc.Calm (m : Memc) (ch : Nat) : Prop := ∀ q, q < 3 → (vget m.panic q none).isSome = false ∨ m.readyFor ch q = none

theorem Memc.panics_eq_false {q : Nat} (calm : (vget m.panic q none).isSome = false ∨ m.readyFor ch q = none) :
    ((vget m.panic q none).isSome && (m.readyFor ch q).isSome) = false := by
  rcases calm with h | h
  · rw [h, Bool.false_and]
  · rw [h, Option.isSome_none, Bool.and_false]

theorem Memc.find_panic {p : Nat} {r : DramReq} (hp : p < 3) (panic : (vget m.panic p none).isSome = true) (ready : m.readyFor ch p = some r)
    (first : ∀ q, q < p → (vget m.panic q none).isSome = false ∨ m.readyFor ch q = none) :
    (List.range 3).find? (fun p => (vget m.panic p none).isSome && (m.readyFor ch p).isSome) = some p := by
  refine List.find?_range_eq_some.mpr ⟨?_, List.mem_range.mpr hp, fun q hq => ?_⟩
  · rw [panic, ready]
    rfl
  · rw [Memc.panics_eq_false (first q hq)]
    rfl

theorem Memc.find_calm (calm : m.Calm ch) :
    (List.range 3).find? (fun p => (vget m.panic p none).isSome && (m.readyFor ch p).isSome) = none :=
  List.find?_eq_none.mpr fun q hq => Bool.eq_false_iff.mp (Memc.panics_eq_false (calm q (List.mem_range.mp hq)))

theorem Memc.grant_panic (room : (vget m.chq ch []).length < queueDepth) {p : Nat} {r : DramReq} (hp : p < 3)
    (panic : (vget m.panic p none).isSome = true) (ready : m.readyFor ch p = some r)
    (first : ∀ q, q < p → (vget m.panic q none).isSome = false ∨ m.readyFor ch q = none) : m.grant wt ch = m.admitReq ch p r := by
  simp only [Memc.grant, Nat.not_le.mpr room, if_false, Memc.find_panic hp panic ready first, ready, Option.map_some, Option.getD_some]

theorem Memc.grant_turn (room : (vget m.chq ch []).length < queueDepth) (calm : m.Calm ch) {r : DramReq}
    (ready : m.readyFor ch (vget m.turn ch (0, 0)).1 = some r) (turn : (vget m.turn ch (0, 0)).2 < wt / 16 ^ (vget m.turn ch (0, 0)).1 % 16) :
    m.grant wt ch = { m.admitReq ch (vget m.turn ch (0, 0)).1 r with
      turn := vset m.turn ch ((vget m.turn ch (0, 0)).1, (vget m.turn ch (0, 0)).2 + 1) } := by
  have rotate : m.rotate wt ch = some ((vget m.turn ch (0, 0)).1, (vget m.turn ch (0, 0)).2 + 1) := by
    unfold Memc.rotate
    refine if_pos ?_
    rw [ready, decide_eq_true turn]
    rfl
  simp only [Memc.grant, Nat.not_le.mpr room, if_false, Memc.find_calm calm, rotate, ready, Option.map_some, Option.getD_some]

theorem Memc.grant_idle (idle : ∀ q, m.readyFor ch q = none) : m.grant wt ch = m := by
  have rotate : m.rotate wt ch = none := by
    simp [Memc.rotate, idle]
  unfold Memc.grant
  split
  · rfl
  · simp only [Memc.find_calm fun q _ => .inr (idle q), rotate]

end

/-! ## The address map (15 R478) -/

theorem checkAddr_granule (da : Nat) : checkAddr da / 64 % 8 = 7 ∧ checkAddr da % 64 < 56 := by
  unfold checkAddr
  omega

theorem physAddr_granule (da : Nat) : physAddr da / 64 % 8 ≠ 7 := by
  unfold physAddr
  omega

theorem checkAddr_word {da db : Nat} (h : checkAddr da = checkAddr db) : da / 8 = db / 8 := by
  unfold checkAddr at h
  omega

theorem physAddr_injective {da db : Nat} (h : physAddr da = physAddr db) : da = db := by
  unfold physAddr at h
  omega

/-- Settles O57: a controller's requests complete in order with their errors, its pauses wait for their window, its arbiter
serves PANIC first, and its address map keeps words and check bytes apart. -/
theorem dramLeavesInOrderAndPauses : Obligations.DramLeavesInOrderAndPauses := by
  refine ⟨fun s t here => ?requests, fun s t here => ?pauses, fun m wt ch => Memc.grant_full,
    fun m wt ch p r hp room panic ready first => Memc.grant_panic room hp panic ready first,
    fun m wt ch r room calm => fun ready turn => Memc.grant_turn room calm ready turn, fun m wt ch => Memc.grant_idle,
    fun da db => ⟨(checkAddr_granule da).1, (checkAddr_granule da).2, physAddr_granule da, checkAddr_word, physAddr_injective⟩⟩
  case requests =>
    intro m
    refine ⟨fun idle ch e => onTile_gives here (if_pos idle), fun runs ch e => ?done,
      fun ch bank => onTile_gives here (State.dramRefresh_eq _ _), fun ch bank => onTile_gives here (State.bankIdle_eq _ _),
      onTile_gives here State.scrubDone_eq, fun ch mr4 hot => onTile_gives here (State.dramHot_eq _ _ _),
      fun port t0 held => onTile_gives here (State.panicLong_held held), fun port held => onTile_gives here (State.panicLong_none held)⟩
    intro first hit kept
    have chq := State.chq_dramDone (ch := ch) (e := e) runs
    have rest := State.apart_dramDone (ch := ch) (e := e) runs
    have hkept : kept = m.keptPoison first := by
      unfold Memc.keptPoison kept
      cases first with
      | none => rfl
      | some r => rfl
    refine ⟨s.dramDone t.val ch.val e, onTile_gives here rfl, ?_, fun k other => ?_, congrArg (·.1) rest, congrArg (·.2.1) rest,
      congrArg (·.2.2) rest, fun free clean => ?_, fun free a counted => ?_, fun a lost => ?_, fun poisoned => ?_⟩
    · rw [chq]
      exact vget_vset_eq _ _ _ _ ch.isLt
    · rw [chq]
      exact vget_vset_ne _ _ _ _ _ other
    · subst clean
      obtain ⟨errors, mem, evr⟩ := State.dramDone_clean runs free
      rw [hkept]
      exact ⟨congrArg (·.2.1) errors, congrArg (·.2.2.2.1) errors, congrArg (·.2.2.2.2.2) errors, mem, evr⟩
    · subst counted
      obtain ⟨errors, quiet⟩ := State.dramDone_corrected runs free a
      rw [hkept]
      exact ⟨congrArg (·.2.1) errors, congrArg (·.2.2.1) errors, congrArg (·.2.2.2.1) errors, congrArg (·.2.2.2.2.2) errors, quiet⟩
    · subst lost
      rw [State.dramDone_uncorrectable runs a]
      have spoils := State.dramAfter_spoils (s := s) (t := t) (ch := ch) (e := .uncorrectable a) a
      exact ⟨spoils.ueCnt, spoils.ueAddr, spoils.ceCnt, spoils.word, spoils.granule⟩
    · obtain ⟨a, ends⟩ := State.dramDone_hit (e := e) runs poisoned
      rw [ends]
      exact ⟨(State.dramAfter_spoils a).ueCnt, (State.dramAfter_spoils a).ceCnt⟩
  case pauses =>
    intro m room
    refine ⟨fun runs free freq wide => onTile_gives here (State.pauseStart_frequency runs free freq wide),
      fun runs free freq train wide => onTile_gives here (State.pauseStart_retraining runs free freq train wide),
      fun waits => onTile_gives here (State.pauseStart_waits waits),
      fun a pause => ⟨_, onTile_gives here (State.setChanged_swaps pause), ?swaps⟩,
      fun no => onTile_gives here (State.setChanged_still no),
      fun runs idle a due reached => onTile_gives here (State.retrainDue_falls runs idle due reached),
      fun waits => onTile_gives here (State.retrainDue_waits waits),
      fun free pend a due deferred => onTile_gives here (State.pauseForced_runs free pend due deferred),
      fun waits => onTile_gives here (State.pauseForced_waits waits),
      fun a pause drift => ⟨_, onTile_gives here rfl, ?ends⟩,
      fun no drift => onTile_gives here (State.retrainDone_still no drift)⟩
    case swaps =>
      rw [State.memc_swapped]
      exact ⟨rfl, rfl, rfl, rfl, decide_eq_true_iff, rfl, rfl⟩
    case ends =>
      have rest := State.apart_retrainDone pause drift
      rw [State.memc_retrainDone pause]
      exact ⟨rfl, rfl, rfl, rfl, State.waiting_retrainDone pause drift, congrArg (·.2.1) rest, congrArg (·.1) rest⟩

end Sys2Proof.Machine
end

section
/-! PROOF that a withdrawal and domains that go off leave the heat and the trim of every tile alone (01 R50; 11 R350; 18 R547). -/

namespace Sys2Proof.Machine

/-- The heat and the trim of every tile, and the alert. -/
def State.heat (s : State) : (Nat → Thm × Trm) × Bool := (fun n => ((s.tileN n).thm, (s.tileN n).trm), s.smbAlert)

section
variable (s : State)

/-! ## Events, entries and single tiles -/

theorem State.heat_updTile (t : Tile) {f : TileState → TileState} (thm : ∀ x, (f x).thm = x.thm) (trm : ∀ x, (f x).trm = x.trm) :
    (s.updTile t f).heat = s.heat := by
  have same (n : Nat) : (((s.updTile t f).tileN n).thm, ((s.updTile t f).tileN n).trm) = ((s.tileN n).thm, (s.tileN n).trm) := by
    by_cases here : tileIx n = t
    · have now : (s.updTile t f).tileN n = f (s.tileN n) := by
        subst here
        exact State.tile_updTile s _ f
      rw [now, thm, trm]
    · have now : (s.updTile t f).tileN n = s.tileN n := State.tile_updTile_ne s t (tileIx n) f here
      rw [now]
  exact congrArg (fun v => (v, s.smbAlert)) (funext same)

theorem State.heat_updTileN (n : Nat) {f : TileState → TileState} (thm : ∀ x, (f x).thm = x.thm) (trm : ∀ x, (f x).trm = x.trm) :
    (s.updTileN n f).heat = s.heat := State.heat_updTile s _ thm trm

theorem State.heat_raise (t : Tile) (src : Nat) (data : List Nat) : (s.raise t src data).heat = s.heat := by
  refine State.heat_updTile s t (fun x => ?_) (fun x => ?_)
  · unfold TileState.occur
    split
    · rfl
    · rfl
  · unfold TileState.occur
    split
    · rfl
    · rfl

theorem State.heat_raiseN (n src : Nat) (data : List Nat) : (s.raiseN n src data).heat = s.heat := State.heat_raise s _ src data

theorem State.heat_raiseMot (src : Nat) (data : List Nat) : (s.raiseMot src data).heat = s.heat := State.heat_raise s _ src data

theorem State.heat_raiseLead (src : Nat) (data : List Nat) : (s.raiseLead src data).heat = s.heat := State.heat_raise s _ src data

theorem State.heat_complete (seq st r0 r1 : Nat) : (s.complete seq st r0 r1).heat = s.heat := by
  simp only [State.heat, State.tileN, State.tile, State.complete_tiles, State.complete_smbAlert]

theorem State.heat_ite {c : Prop} [Decidable c] {a b : State} (ha : a.heat = s.heat) (hb : b.heat = s.heat) :
    (if c then a else b).heat = s.heat := by
  split
  · exact ha
  · exact hb

theorem State.heat_foldl {α : Type} {f : State → α → State} (hf : ∀ s a, (f s a).heat = s.heat) (l : List α) : (l.foldl f s).heat = s.heat :=
  foldl_keeps State.heat hf l s

/-! ## Commits and boundaries (01 R60; 11 R359) -/

theorem State.heat_commitDone (cseq : Nat) : (s.commitDone cseq).heat = s.heat := by
  unfold State.commitDone
  split
  · rfl
  · simp only []
    split
    · exact State.heat_ite s (State.heat_complete _ _ _ _ _) rfl
    · rfl

theorem State.heat_prepareNow (c : Change) (fixed seq : Nat) : (s.prepareNow c fixed seq).heat = s.heat :=
  State.heat_ite s (State.heat_commitDone _ _) rfl

theorem State.heat_prepare (c : Change) (fixed seq : Nat) : (s.prepare c fixed seq).heat = s.heat :=
  State.heat_ite s rfl (State.heat_prepareNow s c fixed seq)

theorem State.heat_settleChange (c : Change) : (s.settleChange c).heat = s.heat := by
  unfold State.settleChange
  simp only []
  split
  · refine (State.heat_foldl _ (fun u i => ?_) _).trans rfl
    exact State.heat_updTileN u i (fun _ => rfl) (fun _ => rfl)
  · rfl

theorem State.heat_changeOwn (c : Change) : (s.changeOwn c).heat = s.heat :=
  State.heat_ite s (State.heat_prepare s c 0 0) (State.heat_settleChange s c)

theorem State.heat_prepareHeld : s.prepareHeld.heat = s.heat := by
  unfold State.prepareHeld
  refine (State.heat_foldl _ (fun u h => ?_) _).trans rfl
  exact (State.heat_prepareNow _ h.1 h.2.1 h.2.2).trans rfl

theorem State.heat_tryBoundary (e : Change × Nat) : (s.tryBoundary e).2.heat = s.heat := by
  unfold State.tryBoundary
  split
  · rfl
  · split
    · rfl
    · exact (State.heat_prepare _ _ _ _).trans (State.heat_ite s rfl rfl)

theorem State.heat_settleBoundary : s.settleBoundary.heat = s.heat := by
  unfold State.settleBoundary
  refine (State.heat_foldl _ (fun u e => ?_) _).trans rfl
  exact State.heat_ite u (State.heat_tryBoundary u e) rfl

theorem State.heat_dropAcks (t : Nat) : (s.dropAcks t).heat = s.heat := by
  unfold State.dropAcks
  refine State.heat_foldl _ (fun u c => ?_) _
  exact State.heat_ite u (State.heat_ite u (State.heat_commitDone _ _) rfl) rfl

/-! ## Rejections and the end of a job (02 R94; 13 R439) -/

theorem State.heat_stopSource (b : Nat) : (s.stopSource b).heat = s.heat := State.heat_ite s (State.heat_raiseMot _ _ _) rfl

theorem State.heat_rejQueue (n lane num line : Nat) : (s.rejQueue n lane num line).heat = s.heat :=
  State.heat_ite s ((State.heat_stopSource _ _).trans (State.heat_raiseMot s _ _))
    (State.heat_ite s ((State.heat_stopSource _ _).trans (State.heat_raiseMot s _ _)) rfl)

theorem State.heat_reject (lane num : Nat) : (s.reject lane num).heat = s.heat := by
  unfold State.reject
  split
  · rfl
  · refine State.heat_ite s rfl ?_
    exact State.heat_foldl _ (fun u n => State.heat_rejQueue u n _ _ _) _

theorem State.heat_rejectIf (f : Product → Bool) : (s.rejectIf f).heat = s.heat := State.heat_foldl s (fun u _ => State.heat_reject u _ _) _

theorem State.heat_disarmSettle : s.disarmSettle.heat = s.heat := by
  unfold State.disarmSettle
  split
  · rfl
  · split
    · rfl
    · exact State.heat_ite s (State.heat_ite s ((State.heat_rejectIf _ _).trans (State.heat_raiseLead _ _ _)) (State.heat_raiseLead _ _ _)) rfl

theorem State.heat_checkDark (k line : Nat) : (s.checkDark k line).heat = s.heat :=
  State.heat_ite s ((State.heat_ite _ (State.heat_rejectIf _ _) rfl).trans (State.heat_raiseLead s _ _)) rfl

/-! ## The motion role (02 R86) -/

theorem State.heat_roleTo (a : Nat) : (s.roleTo a).heat = s.heat := State.heat_ite s rfl rfl

theorem State.heat_roleToT1 : s.roleToT1.heat = s.heat := (State.heat_raiseN _ _ _ _).trans (State.heat_roleTo s 1)

theorem State.heat_motionRole : s.motionRole.heat = s.heat := State.heat_ite s (State.heat_ite s (State.heat_roleToT1 s) (State.heat_roleTo s 0)) rfl

theorem State.heat_motionAfter (t : Nat) : (s.motionAfter t).heat = s.heat := State.heat_ite s (State.heat_roleToT1 _) (State.heat_motionRole s)

theorem State.heat_roleBack : s.roleBack.heat = s.heat :=
  State.heat_ite s (State.heat_ite s (State.heat_changeOwn _ _) (State.heat_roleTo _ 0)) rfl

/-! ## A withdrawal and the lead (11 R348 to R350, R373 to R381) -/

theorem State.heat_setTwin (t : Nat) (new : TwinSt) (cause line : Nat) : (s.setTwin t new cause line).heat = s.heat := by
  refine State.heat_ite s rfl ?_
  have first : (s.updTileN t (fun x => { x with twin := new, pairedAt := if new = .paired then s.holdoffEnd else none })).heat = s.heat :=
    State.heat_updTileN s t (fun _ => rfl) (fun _ => rfl)
  have seen := State.heat_ite (c := new = .withdrawn) s first ((State.heat_updTileN _ (partnerOf t) (f := fun x => { x with pstate := new })
    (fun _ => rfl) (fun _ => rfl)).trans first)
  exact State.heat_ite s ((State.heat_roleBack _).trans ((State.heat_raiseN _ _ _ _).trans seen)) ((State.heat_raiseN _ _ _ _).trans seen)

theorem State.heat_withdraw (t cause : Nat) : (s.withdraw t cause).heat = s.heat := by
  unfold State.withdraw State.withdrawBy
  refine State.heat_ite s rfl ?_
  refine (State.heat_motionAfter _ t).trans ((State.heat_checkDark _ _ _).trans ((State.heat_disarmSettle _).trans
    ((State.heat_dropAcks _ t).trans ?_)))
  have gone := (State.heat_updTileN (s.setTwinBy t t .withdrawn cause (s.tileN t).begun) t (f := fun x => { x with
    cause := cause, withdrawals := satInc 8 x.withdrawals, startLine := none, missing := none, rejoinSeq := none })
    (fun _ => rfl) (fun _ => rfl)).trans (State.heat_setTwin s t .withdrawn cause _)
  split
  · exact (State.heat_complete _ _ _ _ _).trans gone
  · exact gone

theorem State.heat_takeover (reason : Nat) : (s.takeover reason).heat = s.heat := (State.heat_raiseLead _ _ _).trans rfl

theorem State.heat_leadFails (t reason : Nat) : (s.leadFails t reason).heat = s.heat := by
  unfold State.leadFails
  refine State.heat_ite s rfl ?_
  split
  · exact State.heat_ite s ((State.heat_disarmSettle _).trans ((State.heat_settleBoundary _).trans ((State.heat_prepareHeld _).trans rfl))) rfl
  · exact State.heat_ite s (State.heat_takeover s reason) rfl

/-! ## Domains that go off (01 R50) -/

theorem TileState.lose_thm (x : TileState) (d : Nat) : (x.lose d).thm = x.thm := by
  unfold TileState.lose
  split <;> rfl

theorem TileState.lose_trm (x : TileState) (d : Nat) : (x.lose d).trm = x.trm := by
  unfold TileState.lose
  split <;> rfl

theorem State.heat_modePort (p : Nat) (failed : Bool) : (s.modePort p failed).heat = s.heat := by
  unfold State.modePort
  split
  · rfl
  · exact State.heat_ite s rfl (State.heat_ite s rfl (State.heat_ite s (State.heat_complete _ _ _ _ _) (State.heat_complete _ _ _ _ _)))

theorem State.heat_flipSettle : s.flipSettle.heat = s.heat := by
  have flips (u : State) (l : List DispFlip) : ({ u with dispFlip := l } : State).heat = u.heat := rfl
  unfold State.flipSettle
  exact (flips _ _).trans (State.heat_foldl s (f := fun s (f : DispFlip) => s.complete f.seq St.ok f.frame 0) (fun u _ => State.heat_complete u _ _ _ _) _)

theorem State.heat_portStop (p : Nat) : (s.portStop p).heat = s.heat := (State.heat_flipSettle _).trans (State.heat_modePort _ p true)

theorem State.heat_motionDown (t : Nat) : (s.motionDown t).heat = s.heat := State.heat_ite s rfl rfl

theorem State.heat_domOff (t d : Nat) : (s.domOff t d).heat = s.heat := by
  have off : (s.updTileN t (fun x => { x.lose d with pdOn := clearBit x.pdOn d, pdBusy := clearBit x.pdBusy d })).heat = s.heat :=
    State.heat_updTileN s t (fun x => x.lose_thm d) (fun x => x.lose_trm d)
  obtain ⟨u, hu⟩ : ∃ u, u = s.updTileN t (fun x => { x.lose d with pdOn := clearBit x.pdOn d, pdBusy := clearBit x.pdBusy d }) := ⟨_, rfl⟩
  unfold State.domOff
  simp only [← hu] at off ⊢
  refine State.heat_ite s (State.heat_updTileN s t (fun _ => rfl) (fun _ => rfl)) ?_
  refine Eq.trans ?_ off
  exact State.heat_ite u rfl (State.heat_ite u rfl (State.heat_ite u (State.heat_motionDown u t) (State.heat_ite u (State.heat_portStop u t)
    (State.heat_ite u rfl rfl))))

theorem State.heat_domsOff (t mask : Nat) : (s.domsOff t mask).heat = s.heat := by
  unfold State.domsOff
  refine (State.heat_motionRole _).trans ((State.heat_foldl _ (fun u d => State.heat_ite u rfl (State.heat_domOff u t d)) _).trans ?_)
  have first : (if s.printNeeds t mask ≠ 0 && (s.tileN t).withdrawable then s.withdraw t 1 else s).heat = s.heat :=
    State.heat_ite s (State.heat_withdraw s t 1) rfl
  have second := (State.heat_ite (c := (bit mask 1 && (s.tileN t).on 1) = true) _ (State.heat_setTwin _ t .off 0 (s.tileN t).begun) rfl).trans first
  exact (State.heat_ite _ (State.heat_leadFails _ t 4) rfl).trans second

end

end Sys2Proof.Machine
end

section
/-! PROOF of the die temperatures, the levels, the throttle steps and the shedding (18 R540 to R548). -/

namespace Sys2Proof.Machine

section
variable {s : State} {t : Tile}

theorem State.thm_updThm (s : State) (n : Nat) (f : Thm → Thm) : (s.updThm n f).thm n = f (s.thm n) :=
  congrArg TileState.thm (s.tileN_updTileN n _)

theorem State.updThm_at {f g : Thm → Thm} (n : Nat) (same : f (s.thm n) = g (s.thm n)) : s.updThm n f = s.updThm n g :=
  congrArg (fun x => s.setTile (tileIx n) { s.tileN n with thm := x }) same

theorem State.item_of_job {u : State} (job : u.job = s.job) (pid : Nat) : u.item pid = s.item pid :=
  congrArg (fun j : Job => PMap.item j.base.items pid) job

/-! ## What a conversion looks at (18 R540 to R543) -/

/-- The temperatures and levels of every tile, the job, the engine, the alert and the part. -/
def State.levels (s : State) : (Nat → Thm) × Job × Qen × Bool × Part := (fun n => s.thm n, s.job, s.qen, s.smbAlert, s.part)

theorem State.levels_updTileN (u : State) (n : Nat) {f : TileState → TileState} (keeps : ∀ x, (f x).thm = x.thm) :
    (u.updTileN n f).levels = u.levels :=
  congrArg (fun v => (v, u.job, u.qen, u.smbAlert, u.part)) (funext fun k => State.updTileN_keeps TileState.thm keeps u n k)

theorem State.levels_ite {c : Prop} [Decidable c] {a b : State} (ha : a.levels = s.levels) (hb : b.levels = s.levels) :
    (if c then a else b).levels = s.levels := by
  split
  · exact ha
  · exact hb

theorem State.levels_thermCycle (u : State) (n : Nat) : (u.thermCycle n).levels = u.levels :=
  State.levels_ite (State.levels_updTileN u n fun _ => rfl) (State.levels_ite (State.levels_updTileN u n fun _ => rfl) rfl)

theorem State.levels_trimAuto (u : State) (n : Nat) : (u.trimAuto n).levels = u.levels :=
  State.levels_ite (State.levels_updTileN u n fun _ => rfl) rfl

/-- The conversion recorded, before the levels follow. -/
def State.recorded (s : State) (t code : Nat) (temp : Int) (ok : Bool) : State :=
  let s1 := (s.trimBoundary t 2).convert t code temp ok
  if ok then s1.thermCycle t else s1

/-- Trim values and runs follow a conversion without touching a level. -/
theorem State.levels_conversion (code : Nat) (temp : Int) (valid : Bool) : (s.conversion t.val code temp valid).levels =
    ((((s.recorded t.val code temp (tempOk temp valid)).warnLevel t.val).throttle t.val).shutLevel t.val).levels := by
  refine State.levels_ite ?_ rfl
  exact (State.levels_trimAuto _ _).trans (State.levels_updTileN _ _ fun _ => rfl)

theorem State.levels_recorded (code : Nat) (temp : Int) (ok : Bool) :
    (s.recorded t.val code temp ok).levels = ((s.trimBoundary t.val 2).convert t.val code temp ok).levels :=
  State.levels_ite (State.levels_thermCycle _ _) rfl

theorem State.thm_trimBoundary (u : State) (n c : Nat) : (u.trimBoundary n c).thm n = u.thm n :=
  State.updTileN_keeps TileState.thm (f := fun x => { x with trm := x.trm.force c (trimKeys c) }) (fun _ => rfl) u n n

end

/-! ## A conversion recorded (18 R540, R542) -/

section
variable {s : State} {n code : Nat} {temp : Int}

theorem State.convert_good (good : (s.thm n).sensorBad = false) : s.convert n code temp true = s.updThm n (fun x => x.take code temp) := by
  have after : (s.updThm n (fun x => x.take code temp)).thm n = (s.thm n).take code temp := State.thm_updThm s n _
  refine (if_neg ?_).trans (if_neg ?_)
  · intro h
    have run : 0 = 3 := (congrArg Thm.badRun after).symm.trans (of_decide_eq_true (Bool.and_eq_true_iff.mp h).2)
    exact absurd run (by decide)
  · intro h
    have bad := (Bool.and_eq_true_iff.mp h).1
    exact Bool.false_ne_true ((good.symm.trans (congrArg Thm.sensorBad after).symm).trans bad)

theorem State.convert_miss (good : (s.thm n).sensorBad = false) (few : (s.thm n).badRun < 2) :
    s.convert n code temp false = s.updThm n (fun x => x.miss code) := by
  have after : (s.updThm n (fun x => x.miss code)).thm n = (s.thm n).miss code := State.thm_updThm s n _
  refine (if_neg ?_).trans (if_neg ?_)
  · intro h
    have run : min 3 ((s.thm n).badRun + 1) = 3 := (congrArg Thm.badRun after).symm.trans (of_decide_eq_true (Bool.and_eq_true_iff.mp h).2)
    omega
  · intro h
    have bad := (Bool.and_eq_true_iff.mp h).1
    exact Bool.false_ne_true ((good.symm.trans (congrArg Thm.sensorBad after).symm).trans bad)

/-- A sensor found bad. -/
def Thm.spoiled (x : Thm) : Thm := { x with sensorBad := true, goodRun := 0, cntSensor := satInc 8 x.cntSensor }

theorem State.convert_third (good : (s.thm n).sensorBad = false) (two : (s.thm n).badRun = 2) :
    s.convert n code temp false = ((s.updThm n (fun x => x.miss code)).updThm n Thm.spoiled).raiseN n Ev.thermSensorBad [code, 1] := by
  have after : (s.updThm n (fun x => x.miss code)).thm n = (s.thm n).miss code := State.thm_updThm s n _
  refine if_pos (Bool.and_eq_true_iff.mpr ⟨?_, decide_eq_true ?_⟩)
  · exact congrArg (!·) ((congrArg Thm.sensorBad after).trans good)
  · exact (congrArg Thm.badRun after).trans (congrArg (fun b => min 3 (b + 1)) two)

theorem State.convert_hundredth (bad : (s.thm n).sensorBad = true) (run : (s.thm n).goodRun = 99) :
    s.convert n code temp true = ((s.updThm n (fun x => x.take code temp)).updThm n (fun x => { x with sensorBad := false })).raiseN n
      Ev.thermSensorBad [code, 0] := by
  have after : (s.updThm n (fun x => x.take code temp)).thm n = (s.thm n).take code temp := State.thm_updThm s n _
  refine (if_neg ?_).trans (if_pos (Bool.and_eq_true_iff.mpr ⟨?_, decide_eq_true ?_⟩))
  · intro h
    have good := (Bool.and_eq_true_iff.mp h).1
    exact Bool.false_ne_true ((congrArg (!·) ((congrArg Thm.sensorBad after).trans bad)).symm.trans good)
  · exact (congrArg Thm.sensorBad after).trans bad
  · exact (congrArg Thm.goodRun after).trans (congrArg (fun g => min 100 (g + 1)) run)

end

/-! ## The levels (18 R543, R544, R547) -/

theorem Thm.reaches_eq_false {x : Thm} {limit : Int} (good : x.sensorBad = false) (low : x.temp < limit ∨ x.conv = []) :
    x.reaches limit = false := by
  unfold Thm.reaches
  rcases low with low | empty
  · rw [good, decide_eq_false (Int.not_le.mpr low)]
    rfl
  · rw [good, empty, List.isEmpty_nil, Bool.not_true, Bool.and_false, Bool.or_false]

theorem Thm.reaches_eq_true {x : Thm} {limit : Int} (high : limit ≤ x.temp) (measured : x.conv ≠ []) : x.reaches limit = true := by
  unfold Thm.reaches
  rw [decide_eq_true high, List.isEmpty_eq_false_iff.mpr measured]
  exact Bool.or_true _

theorem Thm.below_eq_true {x : Thm} {limit : Int} (good : x.sensorBad = false) (low : x.temp < limit) : x.below limit = true := by
  unfold Thm.below
  rw [good, decide_eq_true low]
  rfl

section
variable {s : State} {n : Nat}

theorem State.warnLevel_still (off : (s.thm n).warn = false) (low : (s.thm n).reaches (s.item (Pid.thmWarn n)) = false) :
    s.warnLevel n = s := by
  simp only [State.warnLevel, off, low, Bool.not_false, Bool.true_and, Bool.false_and, Bool.false_eq_true, if_false]

/-- The warning level changed. -/
def State.warned (s : State) (n : Nat) (on : Bool) : State := ((s.updThm n (fun x => { x with warn := on })).thermLevel n 0 on).smbAlertSet

theorem State.warnLevel_sets (off : (s.thm n).warn = false) (high : (s.thm n).reaches (s.item (Pid.thmWarn n)) = true) :
    s.warnLevel n = s.warned n true := by
  refine if_pos ?_
  rw [off, high]
  rfl

theorem State.warnLevel_clears (on : (s.thm n).warn = true)
    (low : (s.thm n).below (s.item (Pid.thmWarn n) - s.item (Pid.thmWarnHyst n)) = true) : s.warnLevel n = s.warned n false := by
  refine (if_neg ?_).trans (if_pos ?_)
  · rw [on]
    exact Bool.false_ne_true
  · rw [on, low]
    rfl

theorem State.thm_warned (on : Bool) : (s.warned n on).thm n = { s.thm n with warn := on } :=
  (State.raiseN_keeps TileState.thm (fun _ _ _ => rfl) _ n _ _ n).trans (State.thm_updThm s n _)

theorem State.throttle_still (low : (s.thm n).reaches (s.item (Pid.thmThrot n)) = false) : s.throttle n = s := by
  refine if_neg ?_
  rw [low, Bool.and_false]
  exact Bool.false_ne_true

theorem State.shutLevel_still (on : (s.thm n).shut = false) (low : (s.thm n).reaches (s.item (Pid.thmShut n)) = false) : s.shutLevel n = s := by
  simp only [State.shutLevel, on, low, Bool.not_false, Bool.true_and, Bool.false_and, Bool.false_eq_true, if_false]

theorem State.reaches_warned (on : Bool) (limit : Int) : ((s.warned n on).thm n).reaches limit = (s.thm n).reaches limit := by
  rw [State.thm_warned]
  rfl

theorem State.warned_calm (on : Bool) (up : (s.thm n).shut = false) (noThrottle : (s.thm n).reaches (s.item (Pid.thmThrot n)) = false)
    (noShut : (s.thm n).reaches (s.item (Pid.thmShut n)) = false) : ((s.warned n on).throttle n).shutLevel n = s.warned n on := by
  rw [State.throttle_still ((State.reaches_warned on _).trans noThrottle), State.shutLevel_still ?_ ((State.reaches_warned on _).trans noShut)]
  rw [State.thm_warned]
  exact up

/-- A tile that warns raises the alert. -/
theorem State.smbAlert_warned (here : n < s.nTiles) : (s.warned n true).smbAlert = true := by
  refine List.any_eq_true.mpr ⟨n, State.mem_tileList.mpr here, Bool.or_eq_true_iff.mpr (.inl ?_)⟩
  exact congrArg Thm.warn ((State.raiseN_keeps TileState.thm (fun _ _ _ => rfl) _ n _ _ n).trans (State.thm_updThm s n _))

end

/-! ## A conversion and the levels together (18 R540 to R543) -/

section
variable {s : State} {t : Tile} {code : Nat} {temp : Int} {valid : Bool}

theorem State.thm_of_levels {u v : State} (h : u.levels = v.levels) (n : Nat) : u.thm n = v.thm n := congrFun (congrArg (·.1) h) n

theorem State.job_of_levels {u v : State} (h : u.levels = v.levels) : u.job = v.job := congrArg (·.2.1) h

theorem State.qen_of_levels {u v : State} (h : u.levels = v.levels) : u.qen = v.qen := congrArg (·.2.2.1) h

theorem State.smbAlert_of_levels {u v : State} (h : u.levels = v.levels) : u.smbAlert = v.smbAlert := congrArg (·.2.2.2.1) h

theorem State.part_of_levels {u v : State} (h : u.levels = v.levels) : u.part = v.part := congrArg (·.2.2.2.2) h

/-- What a conversion leaves of its tile's heat block, beside the rest of the package. -/
structure State.Recorded (s u : State) (t : Tile) (x : Thm) : Prop where
  thm : u.thm t.val = x
  job : u.job = s.job
  qen : u.qen = s.qen
  part : u.part = s.part

theorem State.Recorded.of_levels {u v : State} {x : Thm} (rec_ : s.Recorded u t x) (h : v.levels = u.levels) : s.Recorded v t x :=
  { thm := (State.thm_of_levels h _).trans rec_.thm, job := (State.job_of_levels h).trans rec_.job
    qen := (State.qen_of_levels h).trans rec_.qen, part := (State.part_of_levels h).trans rec_.part }

theorem State.recorded_upd {f : Thm → Thm} : s.Recorded ((s.trimBoundary t.val 2).updThm t.val f) t (f (s.thm t.val)) :=
  { thm := (State.thm_updThm _ _ _).trans (congrArg f (State.thm_trimBoundary s t.val 2)), job := rfl, qen := rfl, part := rfl }

theorem State.recorded_good (ok : tempOk temp valid = true) (good : (s.thm t.val).sensorBad = false) :
    s.Recorded (s.recorded t.val code temp (tempOk temp valid)) t ((s.thm t.val).take code temp) := by
  have levels := State.levels_recorded (s := s) (t := t) code temp true
  rw [State.convert_good (by rw [State.thm_trimBoundary]; exact good)] at levels
  rw [ok]
  exact State.recorded_upd.of_levels levels

theorem State.recorded_miss (bad : tempOk temp valid = false) (good : (s.thm t.val).sensorBad = false) (few : (s.thm t.val).badRun < 2) :
    s.Recorded (s.recorded t.val code temp (tempOk temp valid)) t ((s.thm t.val).miss code) := by
  have levels := State.levels_recorded (s := s) (t := t) code temp false
  rw [State.convert_miss (by rw [State.thm_trimBoundary]; exact good) (by rw [State.thm_trimBoundary]; exact few)] at levels
  rw [bad]
  exact State.recorded_upd.of_levels levels

variable {x : Thm} (rec_ : s.Recorded (s.recorded t.val code temp (tempOk temp valid)) t x)
include rec_

/-- Below every level nothing but the temperature changes. -/
theorem State.conversion_calm (off : x.warn = false) (up : x.shut = false) (noWarn : x.reaches (s.item (Pid.thmWarn t.val)) = false)
    (noThrottle : x.reaches (s.item (Pid.thmThrot t.val)) = false) (noShut : x.reaches (s.item (Pid.thmShut t.val)) = false) :
    s.Recorded (s.conversion t.val code temp valid) t x := by
  have levels := State.levels_conversion (s := s) (t := t) code temp valid
  have item := State.item_of_job rec_.job
  rw [State.warnLevel_still (by rw [rec_.thm]; exact off) (by rw [rec_.thm, item]; exact noWarn),
    State.throttle_still (by rw [rec_.thm, item]; exact noThrottle),
    State.shutLevel_still (by rw [rec_.thm]; exact up) (by rw [rec_.thm, item]; exact noShut)] at levels
  exact rec_.of_levels levels

/-- Where the warning level alone changes, the rest follows as below every level. -/
theorem State.conversion_warned (on : Bool) (changes : (s.recorded t.val code temp (tempOk temp valid)).warnLevel t.val =
      (s.recorded t.val code temp (tempOk temp valid)).warned t.val on) (up : x.shut = false)
    (noThrottle : x.reaches (s.item (Pid.thmThrot t.val)) = false) (noShut : x.reaches (s.item (Pid.thmShut t.val)) = false) :
    (s.conversion t.val code temp valid).levels = ((s.recorded t.val code temp (tempOk temp valid)).warned t.val on).levels := by
  have levels := State.levels_conversion (s := s) (t := t) code temp valid
  have item := State.item_of_job rec_.job
  rw [changes, State.warned_calm on (by rw [rec_.thm]; exact up) (by rw [rec_.thm, item]; exact noThrottle)
    (by rw [rec_.thm, item]; exact noShut)] at levels
  exact levels

theorem State.recorded_warned (on : Bool) : s.Recorded ((s.recorded t.val code temp (tempOk temp valid)).warned t.val on) t { x with warn := on } :=
  { thm := (State.thm_warned on).trans (by rw [rec_.thm]), job := rec_.job, qen := rec_.qen, part := rec_.part }

theorem State.conversion_warns (here : t.val < s.nTiles) (off : x.warn = false) (up : x.shut = false)
    (warns : x.reaches (s.item (Pid.thmWarn t.val)) = true) (noThrottle : x.reaches (s.item (Pid.thmThrot t.val)) = false)
    (noShut : x.reaches (s.item (Pid.thmShut t.val)) = false) :
    s.Recorded (s.conversion t.val code temp valid) t { x with warn := true } ∧ (s.conversion t.val code temp valid).smbAlert = true := by
  have item := State.item_of_job rec_.job
  have levels := State.conversion_warned rec_ true (State.warnLevel_sets (by rw [rec_.thm]; exact off)
    (by rw [rec_.thm, item]; exact warns)) up noThrottle noShut
  refine ⟨(State.recorded_warned rec_ true).of_levels levels, (State.smbAlert_of_levels levels).trans (State.smbAlert_warned ?_)⟩
  rw [State.nTiles, rec_.part]
  exact here

theorem State.conversion_clears (on : x.warn = true) (up : x.shut = false)
    (clears : x.below (s.item (Pid.thmWarn t.val) - s.item (Pid.thmWarnHyst t.val)) = true)
    (noThrottle : x.reaches (s.item (Pid.thmThrot t.val)) = false) (noShut : x.reaches (s.item (Pid.thmShut t.val)) = false) :
    s.Recorded (s.conversion t.val code temp valid) t { x with warn := false } := by
  have item := State.item_of_job rec_.job
  have levels := State.conversion_warned rec_ false (State.warnLevel_clears (by rw [rec_.thm]; exact on)
    (by rw [rec_.thm, item, item]; exact clears)) up noThrottle noShut
  exact (State.recorded_warned rec_ false).of_levels levels

end

end Sys2Proof.Machine
end

section
/-! PROOF of the throttle steps, the shedding and the shutdown (18 R544 to R548). -/

namespace Sys2Proof.Machine

/-! ## Savings and intervals (18 R544, R545) -/

section
variable {s : State} {n : Nat}

theorem State.shedSaving_applied {i est a : Nat} (applied : vget (s.thm n).applied i none = some (est, a)) : s.shedSaving n i =
    if a + 2_500_000 ≤ s.now then s.updThm n (fun y =>
      { y with saving := vset y.saving i (est - (s.thm n).est), applied := vset y.applied i none }) else s := by
  simp only [State.shedSaving, applied, whenDue, decide_eq_true_eq]
  split
  · exact State.updThm_at n rfl
  · rfl

theorem State.shedSaving_none {i : Nat} (applied : vget (s.thm n).applied i none = none) : s.shedSaving n i = s := by
  simp only [State.shedSaving, applied]

theorem State.stepInterval_stopped (timer : (s.thm n).timer = none) : s.stepInterval n = s := by
  simp only [State.stepInterval, timer]

theorem State.stepInterval_early {a : Nat} (timer : (s.thm n).timer = some a) (early : s.now < a + 250_000 * (s.thm n).stepT) :
    s.stepInterval n = s := by
  simp only [State.stepInterval, timer]
  exact if_pos (.inl early)

/-- The end of an interval at a step. -/
theorem State.stepInterval_ends {a : Nat} (timer : (s.thm n).timer = some a) (reached : a + 250_000 * (s.thm n).stepT ≤ s.now)
    (step : (s.thm n).step ≠ 0) : s.stepInterval n =
      if (s.thm n).reaches (s.item (Pid.thmThrot n)) && decide ((s.thm n).step < 4) then s.setStep n ((s.thm n).step + 1)
      else if (s.thm n).below (s.item (Pid.thmThrot n) - s.item (Pid.thmThrotHyst n)) then
        if (s.thm n).step = 1 then (s.setStep n ((s.thm n).step - 1)).stepZero n else s.setStep n ((s.thm n).step - 1)
      else s.updThm n (fun x => { x with timer := some s.now, stepT := s.itemN (Pid.thmStepT n) }) := by
  simp only [State.stepInterval, timer]
  exact if_neg (not_or.mpr ⟨Nat.not_lt.mpr reached, step⟩)

theorem State.stepInterval_raises {a : Nat} (timer : (s.thm n).timer = some a) (reached : a + 250_000 * (s.thm n).stepT ≤ s.now)
    (step : (s.thm n).step ≠ 0) (hot : (s.thm n).reaches (s.item (Pid.thmThrot n)) = true) (more : (s.thm n).step < 4) :
    s.stepInterval n = s.setStep n ((s.thm n).step + 1) := by
  rw [State.stepInterval_ends timer reached step]
  exact if_pos (by rw [hot, decide_eq_true more]; rfl)

theorem State.stepInterval_top {a : Nat} (timer : (s.thm n).timer = some a) (reached : a + 250_000 * (s.thm n).stepT ≤ s.now)
    (step : (s.thm n).step ≠ 0) (top : (s.thm n).reaches (s.item (Pid.thmThrot n)) = false ∨ 4 ≤ (s.thm n).step) : s.stepInterval n =
      if (s.thm n).below (s.item (Pid.thmThrot n) - s.item (Pid.thmThrotHyst n)) then
        if (s.thm n).step = 1 then (s.setStep n ((s.thm n).step - 1)).stepZero n else s.setStep n ((s.thm n).step - 1)
      else s.updThm n (fun x => { x with timer := some s.now, stepT := s.itemN (Pid.thmStepT n) }) := by
  rw [State.stepInterval_ends timer reached step]
  refine if_neg ?_
  rcases top with cool | four
  · rw [cool, Bool.false_and]
    exact Bool.false_ne_true
  · rw [decide_eq_false (Nat.not_lt.mpr four), Bool.and_false]
    exact Bool.false_ne_true

theorem State.stepInterval_lowers {a : Nat} (timer : (s.thm n).timer = some a) (reached : a + 250_000 * (s.thm n).stepT ≤ s.now)
    (step : (s.thm n).step ≠ 0) (top : (s.thm n).reaches (s.item (Pid.thmThrot n)) = false ∨ 4 ≤ (s.thm n).step)
    (low : (s.thm n).below (s.item (Pid.thmThrot n) - s.item (Pid.thmThrotHyst n)) = true) : s.stepInterval n =
      if (s.thm n).step = 1 then (s.setStep n 0).stepZero n else s.setStep n ((s.thm n).step - 1) := by
  rw [State.stepInterval_top timer reached step top]
  refine (if_pos low).trans ?_
  split
  next one => rw [one]
  next => rfl

theorem State.stepInterval_holds {a : Nat} (timer : (s.thm n).timer = some a) (reached : a + 250_000 * (s.thm n).stepT ≤ s.now)
    (step : (s.thm n).step ≠ 0) (top : (s.thm n).reaches (s.item (Pid.thmThrot n)) = false ∨ 4 ≤ (s.thm n).step)
    (high : (s.thm n).below (s.item (Pid.thmThrot n) - s.item (Pid.thmThrotHyst n)) = false) :
    s.stepInterval n = s.updThm n (fun x => { x with timer := some s.now, stepT := s.itemN (Pid.thmStepT n) }) := by
  rw [State.stepInterval_top timer reached step top]
  exact if_neg (Bool.eq_false_iff.mp high)

theorem State.throttle_eq : s.throttle n =
    if (s.thm n).step = 0 ∧ (s.thm n).reaches (s.item (Pid.thmThrot n)) = true then s.setStep n 1 else s := by
  simp only [State.throttle, Bool.and_eq_true, decide_eq_true_eq]

/-! ## A change of step (18 R544 to R546) -/

theorem State.thm_updBoot (u : State) (f : Boot → Boot) : (u.updBoot n f).thm n = u.thm n :=
  State.updTileN_keeps TileState.thm (f := fun x => { x with boot := f x.boot }) (fun _ => rfl) u n n

theorem State.thm_updTrm (u : State) (f : Trm → Trm) : (u.updTrm n f).thm n = u.thm n :=
  State.updTileN_keeps TileState.thm (f := fun x => { x with trm := f x.trm }) (fun _ => rfl) u n n

theorem State.thm_thermLevel (u : State) (level : Nat) (set : Bool) : (u.thermLevel n level set).thm n = u.thm n :=
  State.raiseN_keeps TileState.thm (fun _ _ _ => rfl) u n _ _ n

/-- Step, limit, actions and timer of a tile. -/
def Thm.steps (x : Thm) : Nat × Nat × Nat × Option Nat := (x.step, x.limit, x.shed, x.timer)

theorem State.steps_raiseN (u : State) (k src : Nat) (data : List Nat) : ((u.raiseN k src data).thm n).steps = (u.thm n).steps :=
  State.raiseN_keeps (fun x => x.thm.steps) (fun _ _ _ => rfl) u k src data n

theorem State.steps_shedNote (u : State) (old : Nat) : ((u.shedNote n old).thm n).steps = (u.thm n).steps := by
  unfold State.shedNote
  have note (f : Thm → Thm) (keeps : ∀ x, (f x).steps = x.steps) : ((u.updThm n f).thm n).steps = (u.thm n).steps :=
    (congrArg Thm.steps (State.thm_updThm u n f)).trans (keeps _)
  simp only []
  split
  · exact (State.steps_raiseN _ _ _ _).trans (note _ fun _ => rfl)
  · exact note _ fun _ => rfl

theorem State.thm_of_heat {u v : State} (h : u.heat = v.heat) (k : Nat) : u.thm k = v.thm k := congrArg (·.1) (congrFun (congrArg (·.1) h) k)

theorem State.trm_of_heat {u v : State} (h : u.heat = v.heat) (k : Nat) : u.trm k = v.trm k := congrArg (·.2) (congrFun (congrArg (·.1) h) k)

theorem State.smbAlert_of_heat {u v : State} (h : u.heat = v.heat) : u.smbAlert = v.smbAlert := congrArg (·.2) h

/-- The limit of a step. -/
def State.limitAt (s : State) (n new : Nat) : Nat := s.itemN (Pid.thmPlimit n) - new * s.itemN (Pid.thmStepW n)

/-- A step asks for the fourth action. -/
def State.wantsFour (s : State) (n new : Nat) : Bool :=
  decide (new ≠ 0) && !bit (s.thm n).shed 3 && decide (s.limitAt n new < (shedUp n (s.limitAt n new) [0, 1, 2] (s.thm n).shed (s.thm n).est).2)

/-- The tile has withdrawn for its heat. -/
def State.heatOut (s : State) (n : Nat) : Bool := decide ((s.tileN n).twin = .withdrawn ∧ (s.tileN n).cause = 7)

/-- The actions of a step. -/
def State.shedAt (s : State) (n new : Nat) : Nat :=
  if new = 0 then 0
  else if new < (s.thm n).step && decide ((s.thm n).est ≤ s.limitAt n new) then
    (if s.heatOut n then (s.thm n).shed else shedDown (s.thm n).savingOf (s.limitAt n new) [2, 1, 0] (s.thm n).shed (s.thm n).est)
  else (shedUp n (s.limitAt n new) [0, 1, 2] (s.thm n).shed (s.thm n).est).1 + (if s.wantsFour n new && s.mayFour n then 8 else 0)

/-- The tile holds where the fourth action is wanted and not allowed. -/
def State.heldAt (s : State) (n new : Nat) : Bool := s.wantsFour n new && !(s.wantsFour n new && s.mayFour n) && !s.heatOut n

/-- The package with a step set. -/
def State.stepped (s : State) (n new : Nat) : State :=
  s.updThm n (fun x => { x with
    step := new, limit := s.limitAt n new, shed := s.shedAt n new, held := s.heldAt n new
    timer := if new = 0 then none else some s.now, stepT := s.itemN (Pid.thmStepT n)
    cntThrottle := if (s.thm n).step = 0 then satInc 16 x.cntThrottle else x.cntThrottle })

/-- The throttle level's event, at the first step and at the last. -/
def State.stepLevel (s : State) (n old new : Nat) : State :=
  if old = 0 then (s.updBoot n (fun b => { b with tallyHeat := (satInc 32 b.tallyHeat.1, b.tallyHeat.2) })).thermLevel n 1 true
  else if new = 0 then s.thermLevel n 1 false else s

/-- The step noted and reported. -/
def State.stepNoted (s : State) (n new : Nat) : State :=
  (((s.stepped n new).stepLevel n (s.thm n).step new).shedNote n (s.thm n).shed).raiseN n Ev.thermShed
    [new, s.limitAt n new, s.shedAt n new, boolNat (s.heldAt n new)]

theorem State.setStep_eq (new : Nat) : s.setStep n new =
    if s.wantsFour n new && s.mayFour n then ((s.stepNoted n new).withdraw n 7).domsOff n shedDomains else s.stepNoted n new := rfl

theorem State.steps_stepLevel (u : State) (old new : Nat) : ((u.stepLevel n old new).thm n).steps = (u.thm n).steps := by
  unfold State.stepLevel
  split
  · exact congrArg Thm.steps ((State.thm_thermLevel _ _ _).trans (State.thm_updBoot u _))
  · split
    · exact State.steps_raiseN _ _ _ _
    · rfl

theorem State.steps_setStep (new : Nat) : ((s.setStep n new).thm n).steps =
    (new, s.limitAt n new, s.shedAt n new, if new = 0 then none else some s.now) := by
  have noted : ((s.stepNoted n new).thm n).steps = (new, s.limitAt n new, s.shedAt n new, if new = 0 then none else some s.now) :=
    (State.steps_raiseN _ _ _ _).trans ((State.steps_shedNote _ _).trans ((State.steps_stepLevel _ _ _).trans
      (congrArg Thm.steps (State.thm_updThm s n _))))
  have heat : (s.setStep n new).heat = (s.stepNoted n new).heat :=
    (congrArg State.heat (State.setStep_eq new)).trans
      (State.heat_ite _ ((State.heat_domsOff _ n shedDomains).trans (State.heat_withdraw _ n 7)) rfl)
  rw [State.thm_of_heat heat]
  exact noted

/-! ## A shutdown (18 R547, R557) -/

/-- A heat block with its shutdown counted. -/
def Thm.shutDown (x : Thm) : Thm := { x with shut := true, cntShut := satInc 8 x.cntShut }

/-- Shutdown noted, with its level. -/
def State.shutReported (s : State) (n : Nat) : State :=
  ((s.updThm n Thm.shutDown).updBoot n (fun b => { b with tallyHeat := (b.tallyHeat.1, satInc 32 b.tallyHeat.2) })).thermLevel n 2 true

/-- And with the alert. -/
def State.shutNoted (s : State) (n : Nat) : State := (s.shutReported n).smbAlertSet

theorem State.thm_shutReported : (s.shutReported n).thm n = (s.thm n).shutDown :=
  (State.thm_thermLevel _ _ _).trans ((State.thm_updBoot _ _).trans (State.thm_updThm s n _))

theorem State.thm_shutNoted : (s.shutNoted n).thm n = (s.thm n).shutDown := State.thm_shutReported

theorem State.smbAlert_shutNoted (here : n < s.nTiles) : (s.shutNoted n).smbAlert = true := by
  refine List.any_eq_true.mpr ⟨n, State.mem_tileList.mpr here, Bool.or_eq_true_iff.mpr (.inr ?_)⟩
  exact congrArg Thm.shut State.thm_shutReported

/-- A tile's trim runs and the packets that waited for them dropped. -/
def State.untrimmed (s : State) (n : Nat) : State := s.updTrm n (fun x => { x with run := none, running := 0, queue := [] })

theorem State.heat_trimAbandon (u : State) : (u.trimAbandon n).heat = (u.untrimmed n).heat := by
  unfold State.trimAbandon
  refine State.heat_foldl _ (fun v seq => ?_) _
  exact State.heat_ite v rfl (State.heat_complete _ _ _ _ _)

theorem State.heat_shutdown : (s.shutdown n).heat = (((s.shutNoted n).withdraw n 7).untrimmed n).heat :=
  (State.heat_domsOff _ n _).trans (State.heat_trimAbandon _)

theorem State.thm_shutdown : (s.shutdown n).thm n = (s.thm n).shutDown := by
  rw [State.thm_of_heat State.heat_shutdown]
  exact (State.thm_updTrm _ _).trans ((State.thm_of_heat (State.heat_withdraw _ n 7) n).trans State.thm_shutNoted)

theorem State.smbAlert_shutdown (here : n < s.nTiles) : (s.shutdown n).smbAlert = true := by
  rw [State.smbAlert_of_heat State.heat_shutdown]
  exact (State.smbAlert_of_heat (State.heat_withdraw _ n 7)).trans (State.smbAlert_shutNoted here)

theorem State.run_shutdown : ((s.shutdown n).trm n).run = none := by
  rw [State.trm_of_heat State.heat_shutdown]
  exact congrArg (fun x => x.trm.run) (State.tileN_updTileN _ n _)

end

/-! ## The first actions that suffice (18 R545) -/

theorem shedUp_enough {t limit shed est : Nat} (l : List Nat) (h : est ≤ limit) : shedUp t limit l shed est = (shed, est) := by
  cases l with
  | nil => rfl
  | cons i is => exact if_pos h

theorem shedUp_lead {t limit est : Nat} (ht : t < 2) (more : limit < est) (saves : est - 5 ≤ limit) :
    shedUp t limit [0, 1, 2] 0 est = (1, est - 5) := by
  have can : (bit 0 0 || !canShed t 0) = false := by
    rw [canShed, decide_eq_true (.inr ht)]
    rfl
  refine (if_neg (Nat.not_le.mpr more)).trans ((if_neg (Bool.eq_false_iff.mp can)).trans ?_)
  exact shedUp_enough _ saves

theorem shedUp_other {t limit est : Nat} (ht : 2 ≤ t) (more : limit < est) (saves : est - 7 ≤ limit) :
    shedUp t limit [0, 1, 2] 0 est = (2, est - 7) := by
  have cannot : (bit 0 0 || !canShed t 0) = true := by
    rw [canShed, decide_eq_false (by omega)]
    rfl
  have can : (bit 0 1 || !canShed t 1) = false := by
    rw [canShed, decide_eq_true (.inl (by decide))]
    rfl
  refine (if_neg (Nat.not_le.mpr more)).trans ((if_pos cannot).trans ((if_neg (Nat.not_le.mpr more)).trans
    ((if_neg (Bool.eq_false_iff.mp can)).trans ?_)))
  exact shedUp_enough _ saves

theorem tempOk_iff (temp : Int) (valid : Bool) : tempOk temp valid = true ↔ valid = true ∧ -550 ≤ temp ∧ temp ≤ 1500 := by
  rw [tempOk, Bool.and_eq_true, decide_eq_true_eq]

section
variable {s : State} {n code : Nat} {temp : Int}

/-- The third conversion in a row out of range. -/
theorem State.convert_spoils (good : (s.thm n).sensorBad = false) (two : (s.thm n).badRun = 2) :
    ∃ u : State, s.convert n code temp false = u.raiseN n Ev.thermSensorBad [code, 1] ∧ (u.thm n).sensorBad = true ∧
      (u.thm n).cntSensor = satInc 8 (s.thm n).cntSensor := by
  have thm : ((s.updThm n (fun x => x.miss code)).updThm n Thm.spoiled).thm n = ((s.thm n).miss code).spoiled :=
    (State.thm_updThm _ n _).trans (congrArg Thm.spoiled (State.thm_updThm s n _))
  exact ⟨_, State.convert_third good two, congrArg Thm.sensorBad thm, congrArg Thm.cntSensor thm⟩

/-- The hundredth in range. -/
theorem State.convert_recovers (bad : (s.thm n).sensorBad = true) (run : (s.thm n).goodRun = 99) :
    ∃ u : State, s.convert n code temp true = u.raiseN n Ev.thermSensorBad [code, 0] ∧ (u.thm n).sensorBad = false :=
  ⟨_, State.convert_hundredth bad run, congrArg Thm.sensorBad (State.thm_updThm _ n _)⟩

end

/-- A conversion in range is held among the last four. -/
theorem Thm.conv_take (x : Thm) (code : Nat) (temp : Int) : (x.take code temp).conv ≠ [] := List.cons_ne_nil temp (x.conv.take 3)

/-- Settles O58: temperatures are filtered, levels and steps follow them, and a shutdown sets its flag. -/
theorem heatIsMeasuredAndShed : Obligations.HeatIsMeasuredAndShed := by
  refine ⟨⟨fun s t code temp valid here => ⟨_, onTile_gives here rfl⟩, fun s t code temp valid here => ?levels, fun _ => rfl, tempOk_iff,
      fun s t code temp ok here good hok two => ?spoils, fun s t code temp ok here bad hok run => ?recovers⟩,
    fun s t here => ?steps, fun t limit shed est h => shedUp_enough _ h, fun t limit est => shedUp_lead, fun t limit est => shedUp_other⟩
  case spoils =>
    subst hok
    obtain ⟨u, raises, bad, count⟩ := State.convert_spoils (code := code) (temp := temp) good two
    exact ⟨u, raises, bad, count, fun limit => by rw [Thm.reaches, bad, Bool.true_or]⟩
  case recovers =>
    subst hok
    exact State.convert_recovers bad run
  case levels =>
    intro x cold
    refine ⟨fun ok hcold noWarn noThrottle noShut => ?_, fun ok hcold warn noThrottle noShut => ?_,
      fun ok on up good step clears noThrottle noShut => ?_, fun bad hcold few empty => ?_⟩
    · obtain ⟨off, up, good, step⟩ := hcold
      have after := State.conversion_calm (State.recorded_good (code := code) ok good) off up (Thm.reaches_eq_false good (.inl noWarn))
        (Thm.reaches_eq_false good (.inl noThrottle)) (Thm.reaches_eq_false good (.inl noShut))
      refine ⟨_, onTile_gives here rfl, ?_⟩
      rw [after.thm]
      exact ⟨rfl, off, up, step, rfl, after.job, after.qen⟩
    · obtain ⟨off, up, good, step⟩ := hcold
      obtain ⟨after, alert⟩ := State.conversion_warns (State.recorded_good (code := code) ok good) here off up
        (Thm.reaches_eq_true warn (x.conv_take code temp)) (Thm.reaches_eq_false good (.inl noThrottle)) (Thm.reaches_eq_false good (.inl noShut))
      refine ⟨_, onTile_gives here rfl, ?_⟩
      rw [after.thm]
      exact ⟨rfl, step, up, alert, after.job⟩
    · have after := State.conversion_clears (State.recorded_good (code := code) ok good) on up (Thm.below_eq_true good clears)
        (Thm.reaches_eq_false good (.inl noThrottle)) (Thm.reaches_eq_false good (.inl noShut))
      refine ⟨_, onTile_gives here rfl, ?_⟩
      rw [after.thm]
      exact ⟨rfl, after.job⟩
    · obtain ⟨off, up, good, step⟩ := hcold
      have after := State.conversion_calm (State.recorded_miss (code := code) bad good few) off up (Thm.reaches_eq_false good (.inr empty))
        (Thm.reaches_eq_false good (.inr empty)) (Thm.reaches_eq_false good (.inr empty))
      refine ⟨_, onTile_gives here rfl, ?_⟩
      rw [after.thm]
      exact ⟨Nat.min_eq_right (Nat.succ_le_of_lt (Nat.lt_succ_of_lt few)), rfl, good, up, after.job, after.qen⟩
  case steps =>
    intro x
    refine ⟨fun est => onTile_gives here rfl, fun a est t0 applied => onTile_gives here (State.shedSaving_applied applied),
      fun a applied => onTile_gives here (State.shedSaving_none applied), fun timer => onTile_gives here (State.stepInterval_stopped timer),
      fun a timer reached step => ⟨fun hot more => onTile_gives here (State.stepInterval_raises timer reached step hot more),
        fun top => ⟨fun low => onTile_gives here (State.stepInterval_lowers timer reached step top low),
          fun high => onTile_gives here (State.stepInterval_holds timer reached step top high)⟩⟩,
      fun a timer early => onTile_gives here (State.stepInterval_early timer early), State.throttle_eq, fun new => ?_,
      congrArg Thm.shut State.thm_shutdown, congrArg Thm.cntShut State.thm_shutdown, State.smbAlert_shutdown here, State.run_shutdown⟩
    have after := State.steps_setStep (s := s) (n := t.val) new
    simp only [Thm.steps, Prod.mk.injEq] at after
    obtain ⟨step, limit, shed, timer⟩ := after
    exact ⟨step, limit, fun zero => ⟨shed.trans (if_pos zero), timer.trans (if_pos zero)⟩, fun more => timer.trans (if_neg more)⟩

end Sys2Proof.Machine
end

section
/-! PROOF of the trim runs, of the corrections that wait for their boundary and of the sets (18 R553 to R558). -/

namespace Sys2Proof.Machine

/-! ## Corrections that wait (18 R553, R558) -/

section
variable {x : Trm} {c : Nat}

theorem Trm.pend_await (vs : List Int) : bit (x.await c vs).pend c = true := by
  simp only [Trm.await, bit, Nat.testBit_or, Nat.testBit_two_pow_self, Bool.or_true]

/-- A newer correction replaces the one that waits. -/
theorem Trm.waiting_await (vs : List Int) :
    (x.await c vs).waiting.filter (fun w => (trimKeys c).contains w.1) = (trimKeys c).map (fun k => (k, vs)) := by
  have others : (x.waiting.filter (fun w => !(trimKeys c).contains w.1)).filter (fun w => (trimKeys c).contains w.1) = [] :=
    List.filter_eq_nil_iff.mpr fun w hw => by simpa using (List.mem_filter.mp hw).2
  have new : ((trimKeys c).map (fun k => (k, vs))).filter (fun w => (trimKeys c).contains w.1) = (trimKeys c).map (fun k => (k, vs)) := by
    refine List.filter_eq_self.mpr fun w hw => ?_
    obtain ⟨k, hk, rfl⟩ := List.mem_map.mp hw
    exact List.contains_iff_mem.mpr hk
  exact (List.filter_append _ _).trans ((congr (congrArg (· ++ ·) others) new).trans (List.nil_append _))

theorem Trm.force_takes {keys : List Nat} {w : Nat × List Int} (waits : w ∈ x.waiting) (key : w.1 ∈ keys) :
    w ∈ (x.force c keys).inForce ∧ w ∉ (x.force c keys).waiting := by
  have named : keys.contains w.1 = true := List.contains_iff_mem.mpr key
  refine ⟨List.mem_append.mpr (.inr (List.mem_filter.mpr ⟨waits, named⟩)), fun left => ?_⟩
  have out := (List.mem_filter.mp left).2
  rw [named] at out
  exact Bool.false_ne_true out

end

/-! ## The sets (18 R554) -/

/-- The nearer of two sets to a temperature, the earlier at the same distance. -/
def nearerSet (temp : Int) (b : Option (TrimSet × Nat)) (a : TrimSet × Nat) : Option (TrimSet × Nat) :=
  match b with
  | none => some a
  | some c => if (a.1.temp - temp).natAbs < (c.1.temp - temp).natAbs then some a else b

/-- The nearest set to a temperature, with its place. -/
def Trm.nearest (x : Trm) (temp : Int) : Option (TrimSet × Nat) := x.sets.zipIdx.foldl (nearerSet temp) none

/-- A set with some values renewed. -/
def TrimSet.renewed (a : TrimSet) (temp : Int) (vs : List (Nat × List Int)) : TrimSet :=
  { temp := temp, values := a.values.filter (fun v => !(vs.any (fun w => w.1 == v.1))) ++ vs }

theorem foldl_nearerSet (temp : Int) (l : List (TrimSet × Nat)) (b : Option (TrimSet × Nat)) :
    (l.foldl (nearerSet temp) b = none ↔ l = [] ∧ b = none) ∧
      ∀ a, l.foldl (nearerSet temp) b = some a → b = some a ∨ a ∈ l := by
  induction l generalizing b with
  | nil => exact ⟨⟨fun h => ⟨rfl, h⟩, fun h => h.2⟩, fun a h => .inl h⟩
  | cons e l ih =>
    have one : nearerSet temp b e = some e ∨ (nearerSet temp b e = b ∧ b ≠ none) := by
      unfold nearerSet
      cases b with
      | none => exact .inl rfl
      | some c =>
        simp only []
        split
        · exact .inl rfl
        · exact .inr ⟨rfl, Option.some_ne_none c⟩
    obtain ⟨none_, some_⟩ := ih (nearerSet temp b e)
    rw [List.foldl_cons]
    refine ⟨⟨fun h => ?_, fun h => nomatch h.1⟩, fun a h => ?_⟩
    · obtain ⟨-, gone⟩ := none_.mp h
      rcases one with new | ⟨old, held⟩
      · exact nomatch new.symm.trans gone
      · exact absurd (old.symm.trans gone) held
    · rcases some_ a h with here | there
      · rcases one with new | ⟨old, -⟩
        · obtain rfl := Option.some.inj (new.symm.trans here)
          exact .inr List.mem_cons_self
        · exact .inl (old.symm.trans here)
      · exact .inr (List.mem_cons_of_mem e there)

section
variable {x : Trm} {dt : Nat} {temp : Int} {vs : List (Nat × List Int)}

theorem Trm.nearest_eq_none : x.nearest temp = none ↔ x.sets = [] := by
  rw [Trm.nearest, (foldl_nearerSet temp x.sets.zipIdx none).1, List.zipIdx_eq_nil_iff]
  exact and_iff_left rfl

theorem Trm.mem_of_nearest {a : TrimSet} {i : Nat} (h : x.nearest temp = some (a, i)) : a ∈ x.sets :=
  List.fst_mem_of_mem_zipIdx (((foldl_nearerSet temp x.sets.zipIdx none).2 (a, i) h).resolve_left nofun)

theorem Trm.sets_store_none (h : x.nearest temp = none) : (x.store dt temp vs).sets = [{ temp := temp, values := vs }] := by
  unfold Trm.store
  simp only []
  split
  next a i found => exact nomatch h.symm.trans found
  next => rfl

theorem Trm.sets_store_some {a : TrimSet} {i : Nat} (h : x.nearest temp = some (a, i)) : (x.store dt temp vs).sets =
    if 2 * (a.temp - temp).natAbs ≤ dt || decide (8 ≤ x.sets.length) then x.sets.set i (a.renewed temp vs)
    else x.sets ++ [{ temp := temp, values := vs }] := by
  unfold Trm.store
  simp only []
  split
  next b j found =>
    obtain ⟨rfl, rfl⟩ := Prod.mk.inj (Option.some.inj (h.symm.trans found))
    split
    · rfl
    · rfl
  next found => exact nomatch h.symm.trans found

theorem Trm.sets_store_near {a : TrimSet} (only : x.sets = [a]) (near : 2 * (a.temp - temp).natAbs ≤ dt) :
    (x.store dt temp vs).sets = [a.renewed temp vs] := by
  have nearest : x.nearest temp = some (a, 0) := by
    rw [Trm.nearest, only]
    rfl
  rw [Trm.sets_store_some nearest, only, decide_eq_true near]
  rfl

theorem Trm.sets_store_far (room : x.sets.length < 8) (far : ∀ a ∈ x.sets, dt < 2 * (a.temp - temp).natAbs) :
    (x.store dt temp vs).sets = x.sets ++ [{ temp := temp, values := vs }] := by
  cases nearest : x.nearest temp with
  | none => rw [Trm.sets_store_none nearest, Trm.nearest_eq_none.mp nearest, List.nil_append]
  | some b =>
    rw [Trm.sets_store_some nearest]
    refine if_neg ?_
    rw [decide_eq_false (Nat.not_le.mpr (far b.1 (Trm.mem_of_nearest nearest))), decide_eq_false (Nat.not_le.mpr room)]
    exact Bool.false_ne_true

theorem Trm.length_sets_store (few : x.sets.length ≤ 8) : (x.store dt temp vs).sets.length ≤ 8 := by
  cases nearest : x.nearest temp with
  | none =>
    rw [Trm.sets_store_none nearest, List.length_singleton]
    decide
  | some b =>
    rw [Trm.sets_store_some nearest]
    split
    · rw [List.length_set]
      exact few
    next no =>
      have room : ¬8 ≤ x.sets.length := fun h => no (by rw [decide_eq_true h, Bool.or_true])
      rw [List.length_append, List.length_singleton]
      omega

end

/-! ## The end of a run (18 R554, R557) -/

section
variable {s : State} {t : Tile}

theorem State.trm_updTrm (u : State) (n : Nat) (f : Trm → Trm) : (u.updTrm n f).trm n = f (u.trm n) :=
  congrArg TileState.trm (State.tileN_updTileN u n _)

/-- The runs counted, their last temperature, and the run, the classes and the commands in progress. -/
def Trm.course (x : Trm) : Nat × Int × Option (Nat × List Nat) × Nat × List (Nat × Nat) := (x.runs, x.lastTemp, x.run, x.running, x.queue)

theorem Trm.course_store (x : Trm) (dt : Nat) (temp : Int) (vs : List (Nat × List Int)) : (x.store dt temp vs).course = x.course := by
  unfold Trm.store
  simp only []
  split
  · split
    · rfl
    · rfl
  · rfl

theorem Trm.course_awaits (x : Trm) (vs : List (Nat × List Int)) : (vs.foldl (fun x v => x.await v.1 v.2) x).course = x.course :=
  foldl_keeps Trm.course (f := fun x (v : Nat × List Int) => x.await v.1 v.2) (fun _ _ => rfl) vs x

/-- The trim of a tile and the job. -/
def State.trimmed (s : State) (t : Tile) : Trm × Job := (s.trm t.val, s.job)

theorem State.trimmed_raiseN (u : State) (k src : Nat) (data : List Nat) : (u.raiseN k src data).trimmed t = u.trimmed t :=
  congrArg (·, u.job) (State.raiseN_keeps TileState.trm (fun _ _ _ => rfl) u k src data t.val)

theorem State.trimmed_trimEye (u : State) (l : Nat) (e : Eye) : (u.trimEye t.val l e).trimmed t = u.trimmed t := by
  have eye (f : LaneHw → LaneHw) : (u.updLnk t.val l f).trimmed t = u.trimmed t :=
    congrArg (·, u.job) (State.updTileN_keeps TileState.trm (f := fun x => x.updLane l f) (fun _ => rfl) u t.val t.val)
  unfold State.trimEye
  simp only []
  split
  · rfl
  · split
    · exact (State.trimmed_raiseN _ _ _ _).trans (eye _)
    · exact eye _

theorem State.trimmed_trimSettle (u : State) (seq : Nat) : (u.trimSettle seq).trimmed t = u.trimmed t := by
  unfold State.trimSettle
  simp only []
  split
  · rfl
  · simp only [State.trimmed, State.trm, State.tileN, State.tile, State.complete_tiles, State.complete_job]

theorem State.trimmed_trimRecord (u : State) : u.trimRecord.trimmed t = u.trimmed t := by
  unfold State.trimRecord
  split
  · rfl
  · rfl

theorem State.trimmed_ite {c : Prop} [Decidable c] {a b u : State} (ha : a.trimmed t = u.trimmed t) (hb : b.trimmed t = u.trimmed t) :
    (if c then a else b).trimmed t = u.trimmed t := by
  split
  · exact ha
  · exact hb

theorem State.trimmed_foldl {α : Type} {f : State → α → State} (hf : ∀ u a, (f u a).trimmed t = u.trimmed t) (l : List α) (u : State) :
    (l.foldl f u).trimmed t = u.trimmed t := foldl_keeps (fun u => u.trimmed t) hf l u

theorem State.trimmed_eyes (u : State) (c : Prop) [Decidable c] (eyes : List (Nat × Eye)) :
    (if c then eyes.foldl (fun s e => s.trimEye t.val e.1 e.2) u else u).trimmed t = u.trimmed t :=
  State.trimmed_ite (State.trimmed_foldl (fun u _ => State.trimmed_trimEye u _ _) _ _) rfl

theorem State.course_of_trimmed {v : State} {upd : Trm → Trm} {c : Nat × Int × Option (Nat × List Nat) × Nat × List (Nat × Nat)}
    (h : v.trimmed t = (s.updTrm t.val upd).trimmed t) (course : (upd (s.trm t.val)).course = c) : v.job = s.job ∧ (v.trm t.val).course = c :=
  ⟨congrArg (·.2) h, (congrArg Trm.course ((congrArg (·.1) h).trans (State.trm_updTrm s t.val upd))).trans course⟩

/-- The package after the measures of a run: its results, the eyes, and the events of the classes that failed. -/
def State.measured (s : State) (n : Nat) (upd : Trm → Trm) (phy : Bool) (eyes : List (Nat × Eye)) (bad : List (Nat × Nat)) : State :=
  bad.foldl (fun s b => s.raiseN n Ev.trimFail [b.1, b.2])
    (if phy then eyes.foldl (fun s e => s.trimEye n e.1 e.2) (s.updTrm n upd) else s.updTrm n upd)

theorem State.trimmed_measured (upd : Trm → Trm) (phy : Bool) (eyes : List (Nat × Eye)) (bad : List (Nat × Nat)) :
    (s.measured t.val upd phy eyes bad).trimmed t = (s.updTrm t.val upd).trimmed t := by
  refine (State.trimmed_foldl (fun u b => ?_) bad _).trans (State.trimmed_eyes _ _ eyes)
  exact State.trimmed_raiseN u _ _ _

/-- A run that ends is counted, with its temperature, and measured before its packets are told. -/
theorem State.trimDone_measures {c : Nat} {q : List Nat} (run : (s.trm t.val).run = some (c, q)) (r : TrimResult) :
    ∃ upd phy eyes bad done data, s.trimDone t.val r =
        (((s.measured t.val upd phy eyes bad).raiseN t.val Ev.trimDone data).trimEnd t.val done).trimRecord ∧
      (upd (s.trm t.val)).course = (satInc 16 (s.trm t.val).runs, (s.thm t.val).temp, (s.trm t.val).run, (s.trm t.val).running, (s.trm t.val).queue) := by
  simp only [State.trimDone, run]
  refine ⟨_, _, _, _, _, _, rfl, (Trm.course_awaits _ _).trans ?_⟩
  split
  · rw [← run]
    rfl
  · exact (Trm.course_store _ _ _ _).trans (by rw [← run]; rfl)

/-- Before its packets are told, a run is counted. -/
theorem State.trimDone_ends {c : Nat} {q : List Nat} (run : (s.trm t.val).run = some (c, q)) (r : TrimResult) : ∃ (u : State) (done : Nat),
    s.trimDone t.val r = (u.trimEnd t.val done).trimRecord ∧ u.job = s.job ∧ (u.trm t.val).course =
      (satInc 16 (s.trm t.val).runs, (s.thm t.val).temp, (s.trm t.val).run, (s.trm t.val).running, (s.trm t.val).queue) := by
  obtain ⟨upd, phy, eyes, bad, done, data, ends, course⟩ := State.trimDone_measures run r
  exact ⟨_, done, ends, State.course_of_trimmed ((State.trimmed_raiseN _ _ _ _).trans (State.trimmed_measured upd phy eyes bad)) course⟩

section
variable (u : State) (done : Nat)

/-- The packets of a run gather its classes. -/
def State.trimTold (u : State) (n done : Nat) : State :=
  (((u.trm n).run.map (·.2)).getD [] ++ (u.trm n).queue.map (·.1)).foldl (fun s seq => s.updEntry seq (fun e => { e with r0 := e.r0 ||| done })) u

/-- The run in progress is over. -/
def State.trimIdle (u : State) (n done : Nat) : State := (u.trimTold n done).updTrm n (fun x => { x with run := none, running := 0 })

theorem State.trimmed_trimTold : (u.trimTold t.val done).trimmed t = u.trimmed t :=
  State.trimmed_foldl (f := fun s seq => s.updEntry seq (fun e => { e with r0 := e.r0 ||| done })) (fun _ _ => rfl) _ u

theorem State.trm_trimIdle : (u.trimIdle t.val done).trm t.val = { u.trm t.val with run := none, running := 0 } := by
  have told : (u.trimTold t.val done).trm t.val = u.trm t.val := congrArg (·.1) (State.trimmed_trimTold u done)
  exact (State.trm_updTrm _ _ _).trans (by rw [told])

/-- With no command waiting, no run follows. -/
theorem State.trimmed_trimEnd (idle : (u.trm t.val).queue = []) : (u.trimEnd t.val done).trimmed t = ({ u.trm t.val with run := none, running := 0 }, u.job) := by
  have start : u.trimEnd t.val done = (((u.trm t.val).run.map (·.2)).getD []).foldl (fun s seq => s.trimSettle seq) (u.trimIdle t.val done) := by
    simp only [State.trimEnd, State.trimIdle, State.trimTold, idle]
  rw [start]
  refine (State.trimmed_foldl (fun v seq => State.trimmed_trimSettle v seq) _ _).trans ?_
  exact Prod.ext (State.trm_trimIdle u done) (congrArg (·.2) (State.trimmed_trimTold (t := t) u done))

/-- A command that waited runs next. -/
theorem State.trimmed_trimEnd_next {q : Nat × Nat} {qs : List (Nat × Nat)} (waits : (u.trm t.val).queue = q :: qs) :
    ∃ x : Trm, (u.trimEnd t.val done).trimmed t = (x, u.job) ∧ x.runs = (u.trm t.val).runs ∧ x.lastTemp = (u.trm t.val).lastTemp := by
  have start : u.trimEnd t.val done = (((u.trm t.val).run.map (·.2)).getD []).foldl (fun s seq => s.trimSettle seq)
      (((u.trimIdle t.val done).updTrm t.val (fun x => { x with queue := qs })).trimStart t.val q.2 [q.1]) := by
    simp only [State.trimEnd, State.trimIdle, State.trimTold, waits]
  rw [start]
  refine ⟨_, (State.trimmed_foldl (fun v seq => State.trimmed_trimSettle v seq) _ _).trans (Prod.ext rfl ?_), ?_⟩
  · exact congrArg (·.2) (State.trimmed_trimTold (t := t) u done)
  · have next_ : ((((u.trimIdle t.val done).updTrm t.val (fun x => { x with queue := qs })).trimStart t.val q.2 [q.1]).trm t.val).course =
        ((u.trm t.val).runs, (u.trm t.val).lastTemp, some (q.2, [q.1]), q.2, qs) := by
      refine (congrArg Trm.course (State.trm_updTrm _ _ _)).trans ?_
      rw [State.trm_updTrm, State.trm_trimIdle]
      rfl
    exact ⟨congrArg (·.1) next_, congrArg (·.2.1) next_⟩

end

/-- What the end of a run leaves of its tile's trim. -/
theorem State.trimDone_counts {c : Nat} {q : List Nat} (run : (s.trm t.val).run = some (c, q)) (r : TrimResult) :
    ((s.trimDone t.val r).trm t.val).runs = satInc 16 (s.trm t.val).runs ∧
      ((s.trimDone t.val r).trm t.val).lastTemp = (s.thm t.val).temp ∧ (s.trimDone t.val r).job = s.job ∧
      ((s.trm t.val).queue = [] → ((s.trimDone t.val r).trm t.val).run = none ∧ ((s.trimDone t.val r).trm t.val).running = 0) := by
  obtain ⟨u, done, ends, job, course⟩ := State.trimDone_ends run r
  simp only [Trm.course, Prod.mk.injEq] at course
  obtain ⟨runs, lastTemp, -, -, queue⟩ := course
  have recorded (v : State) : v.trimRecord.trm t.val = v.trm t.val ∧ v.trimRecord.job = v.job :=
    ⟨congrArg (·.1) (State.trimmed_trimRecord (t := t) v), congrArg (·.2) (State.trimmed_trimRecord (t := t) v)⟩
  rw [ends, (recorded _).1, (recorded _).2]
  cases waits : (u.trm t.val).queue with
  | nil =>
    have after := State.trimmed_trimEnd u done waits
    have trm : (u.trimEnd t.val done).trm t.val = { u.trm t.val with run := none, running := 0 } := congrArg (·.1) after
    rw [trm]
    exact ⟨runs, lastTemp, (congrArg (·.2) after :).trans job, fun _ => ⟨rfl, rfl⟩⟩
  | cons w ws =>
    obtain ⟨x, after, sameRuns, sameTemp⟩ := State.trimmed_trimEnd_next u done waits
    have trm : (u.trimEnd t.val done).trm t.val = x := congrArg (·.1) after
    rw [trm]
    exact ⟨sameRuns.trans runs, sameTemp.trans lastTemp, (congrArg (·.2) after :).trans job,
      fun idle => nomatch waits.symm.trans (queue.trans idle)⟩

theorem State.encTrim_due {n : Nat} (host : t.val < 2) (on : (s.tile t).on 14 = true)
    (free : (s.enc n).edgeAt + s.itemN (Pid.trmEdgeFree t.val) ≤ s.now) : s.encTrim t.val n = s.updTrm t.val (fun x => x.force 3 [16 + n]) := by
  refine whenDue_true ?_
  rw [State.tileN_val, decide_eq_true host, on, decide_eq_true free]
  rfl

theorem State.encTrim_waits {n : Nat} (waits : 2 ≤ t.val ∨ (s.tile t).on 14 = false ∨
    s.now < (s.enc n).edgeAt + s.itemN (Pid.trmEdgeFree t.val)) : s.encTrim t.val n = s := by
  refine whenDue_false ?_
  rcases waits with other | off | edge
  · rw [decide_eq_false (Nat.not_lt.mpr other), Bool.false_and, Bool.false_and]
  · rw [State.tileN_val, off, Bool.and_false, Bool.false_and]
  · rw [decide_eq_false (Nat.not_le.mpr edge), Bool.and_false]

end

/-- Settles O59: a trim run ends with its counts, and its corrections wait for their boundary. -/
theorem trimRunsCorrectAtTheirBoundary : Obligations.TrimRunsCorrectAtTheirBoundary := by
  refine ⟨fun s t here => ⟨fun idle r => ?idle, fun c q r run => ⟨_, onTile_gives here rfl, ?run⟩,
      fun i host on free => onTile_gives here (State.encTrim_due host on free), fun i waits => onTile_gives here (State.encTrim_waits waits)⟩,
    fun x c vs => ⟨Trm.pend_await vs, Trm.waiting_await vs, rfl⟩, fun x c keys w => Trm.force_takes,
    fun x dt temp vs empty => Trm.sets_store_none (Trm.nearest_eq_none.mpr empty),
    fun x dt temp vs a only near => ⟨_, Trm.sets_store_near only near, rfl, fun v hv => List.mem_append.mpr (.inr hv)⟩,
    fun x dt temp vs => Trm.sets_store_far, fun x dt temp vs => Trm.length_sets_store⟩
  case idle => exact onTile_gives here (by simp only [State.trimDone, idle])
  case run =>
    obtain ⟨runs, lastTemp, job, idle⟩ := State.trimDone_counts run r
    exact ⟨runs, lastTemp, congrArg Job.products job, idle⟩

end Sys2Proof.Machine
end

section
/-! PROOF of the fetch of entries, of the next packet's dispatch and of the mirror of the queues (12 R396, R399, R403 to R408, R422). -/

namespace Sys2Proof.Machine

/-! ## The queue whose turn it is (12 R396, R405) -/

section
variable {s : State} {q k : Nat}

theorem State.fetchTurn_fetchable (turn : s.fetchTurn = some (q, k)) : s.fetchable q = true ∧ 1 ≤ k ∧ k ≤ 8 := by
  unfold State.fetchTurn at turn
  simp only [] at turn
  split at turn
  next more =>
    obtain ⟨rfl, rfl⟩ := Prod.mk.inj (Option.some.inj turn)
    obtain ⟨few, ready⟩ := Bool.and_eq_true_iff.mp more
    exact ⟨ready, Nat.succ_pos _, of_decide_eq_true few⟩
  next =>
    obtain ⟨r, found, same⟩ := Option.map_eq_some_iff.mp turn
    obtain ⟨rfl, rfl⟩ := Prod.mk.inj same
    exact ⟨List.find?_some found, Nat.le_refl 1, by decide⟩

theorem State.lt_of_pair {x : QueuePair} (pair : s.pair q = some x) : q < 256 := by
  refine Decidable.byContradiction fun out => ?_
  have none_ : s.pair q = none := by
    unfold State.pair vget
    rw [Vector.getElem?_eq_none (Nat.not_lt.mp out)]
    rfl
  exact nomatch none_.symm.trans pair

/-! ## Fetch (12 R399, R403, R404) -/

/-- The package with the turn at a queue. -/
def State.turned (s : State) (q k : Nat) : State := { s with qen := { s.qen with turn := (q, k) } }

theorem State.fetch_takes {x : QueuePair} (on : s.fetchOn = true) (turn : s.fetchTurn = some (q, k)) (pair : s.pair q = some x) (w : Words16) :
    s.fetch (some w) = (s.turned q k).takeEntry q x w := by
  unfold State.fetch
  rw [on, turn]
  simp only [pair]
  rfl

theorem State.fetch_fails {x : QueuePair} (on : s.fetchOn = true) (turn : s.fetchTurn = some (q, k)) (pair : s.pair q = some x) :
    s.fetch none = ((s.turned q k).setPair q (some { x with fault := true, stopped := true })).raiseLead Ev.queueFault [q, 2] := by
  unfold State.fetch
  rw [on, turn]
  simp only [pair]
  rfl

theorem State.fetch_waits (waits : s.fetchOn = false ∨ s.fetchTurn = none) (entry : Option Words16) : s.fetch entry = s := by
  unfold State.fetch
  rcases waits with off | idle
  · exact if_pos (by rw [off]; rfl)
  · simp only [idle, ite_self]

/-- The package with an entry of a queue in the store. -/
def State.stored (s : State) (q : Nat) (x : QueuePair) (p : Packet) : State :=
  let s1 := s.setPair q (some x.advance)
  let s2 : State := { s1 with qen := { s1.qen with nextSeq := s.qen.nextSeq + 1 } }
  s2.setStore (s2.qen.store ++ [StoreEntry.fetched p x.session])

theorem State.takeEntry_passes {x : QueuePair} {w : Words16} (passes : s.fetchCheck { q := q, seq := s.qen.nextSeq, w := w } x = 0) :
    s.takeEntry q x w = s.stored q x { q := q, seq := s.qen.nextSeq, w := w } := by
  simp only [State.takeEntry, passes, if_true]
  rfl

theorem State.takeEntry_fails {x : QueuePair} {w : Words16} (fails : s.fetchCheck { q := q, seq := s.qen.nextSeq, w := w } x ≠ 0) :
    s.takeEntry q x w = (s.stored q x (unordered { q := q, seq := s.qen.nextSeq, w := w })).done s.qen.nextSeq
      (s.fetchCheck { q := q, seq := s.qen.nextSeq, w := w } x) := by
  simp only [State.takeEntry, fails, if_false]
  rfl

theorem State.pair_set_own (s : State) {x : QueuePair} (pair : s.pair q = some x) (y : Option QueuePair) : (s.setPair q y).pair q = y :=
  State.setPair_same s (State.lt_of_pair pair) y

theorem State.pair_stored {x : QueuePair} {p : Packet} (pair : s.pair q = some x) : (s.stored q x p).pair q = some x.advance :=
  State.pair_set_own s pair _

theorem State.beside_stored {x : QueuePair} {p : Packet} : (s.stored q x p).beside = s.beside := rfl

theorem State.beside_turned : (s.turned q k).beside = s.beside := rfl

theorem State.pair_turned (r : Nat) : (s.turned q k).pair r = s.pair r := rfl

theorem State.fetchCheck_turned (p : Packet) (x : QueuePair) : (s.turned q k).fetchCheck p x = s.fetchCheck p x := rfl

theorem State.nextSeq_turned : (s.turned q k).qen.nextSeq = s.qen.nextSeq := rfl

/-- A new number finds its own entry. -/
theorem State.entry_stored {x : QueuePair} {p : Packet} (new : s.entry p.seq = none) :
    (s.stored q x p).entry p.seq = some (StoreEntry.fetched p x.session) := by
  refine (List.find?_append ..).trans ?_
  have old : s.qen.store.find? (fun e => e.p.seq == p.seq) = none := new
  rw [show (s.setPair q (some x.advance)).qen.store = s.qen.store from rfl, old, Option.none_or]
  exact List.find?_cons_of_pos (beq_self_eq_true p.seq)

/-- An entry that passes its checks is QUEUED, and its queue moves on. -/
theorem State.fetch_queues {x : QueuePair} {w : Words16} (on : s.fetchOn = true) (turn : s.fetchTurn = some (q, k)) (pair : s.pair q = some x)
    (passes : s.fetchCheck { q := q, seq := s.qen.nextSeq, w := w } x = 0) : ∃ u : State, exec (.packetFetch (some w)) s = .next u ∧
      u.pair q = some x.advance ∧ u.qen.store = s.qen.store ++ [StoreEntry.fetched { q := q, seq := s.qen.nextSeq, w := w } x.session] ∧
      u.qen.nextSeq = s.qen.nextSeq + 1 ∧ u.qen.turn = (q, k) ∧ u.beside = s.beside := by
  have fetched := (State.fetch_takes on turn pair w).trans
    (State.takeEntry_passes (s := s.turned q k) (by rw [State.fetchCheck_turned, State.nextSeq_turned]; exact passes))
  rw [State.nextSeq_turned] at fetched
  refine ⟨_, congrArg Host.Outcome.next fetched, State.pair_stored ((State.pair_turned q).trans pair), rfl, rfl, rfl, ?_⟩
  rw [State.beside_stored, State.beside_turned]

/-- A failed check completes the entry at once. -/
theorem State.fetch_refuses {x : QueuePair} {w : Words16} (on : s.fetchOn = true) (turn : s.fetchTurn = some (q, k)) (pair : s.pair q = some x)
    (fails : s.fetchCheck { q := q, seq := s.qen.nextSeq, w := w } x ≠ 0) (new : s.entry s.qen.nextSeq = none) :
    ∃ u : State, exec (.packetFetch (some w)) s = .next u ∧ (u.pair q).map QueuePair.quiet = some x.advance.quiet ∧
      u.DoneWith s.qen.nextSeq (s.fetchCheck { q := q, seq := s.qen.nextSeq, w := w } x) 0 0 ∧ u.beside = s.beside := by
  have fetched := (State.fetch_takes on turn pair w).trans
    (State.takeEntry_fails (s := s.turned q k) (by rw [State.fetchCheck_turned, State.nextSeq_turned]; exact fails))
  rw [State.nextSeq_turned, State.fetchCheck_turned] at fetched
  refine ⟨_, congrArg Host.Outcome.next fetched, ?_, ?_, ?_⟩
  · rw [State.done, State.complete_pair, State.pair_stored ((State.pair_turned q).trans pair)]
    rfl
  · exact State.done_done _ _ _ (State.entry_stored (s := s.turned q k) (p := unordered { q := q, seq := s.qen.nextSeq, w := w }) new) nofun
  · rw [State.done_beside, State.beside_stored, State.beside_turned]

/-- A read that fails stops the queue. -/
theorem State.fetch_faults {x : QueuePair} (on : s.fetchOn = true) (turn : s.fetchTurn = some (q, k)) (pair : s.pair q = some x) :
    ∃ u : State, exec (.packetFetch none) s = .next (u.raiseLead Ev.queueFault [q, 2]) ∧
      u.pair q = some { x with fault := true, stopped := true } ∧ u.beside = s.beside :=
  ⟨_, congrArg Host.Outcome.next (State.fetch_fails on turn pair), State.pair_set_own _ ((State.pair_turned q).trans pair) _, rfl⟩

theorem State.fetchCheck_opcode {p : Packet} {x : QueuePair} (unknown : opOf p.opcode = none) : s.fetchCheck p x = St.opcodeBad :=
  if_pos (by rw [unknown]; rfl)

theorem State.fetchCheck_flags {p : Packet} {x : QueuePair} (known : opOf p.opcode ≠ none)
    (bad : p.f 0 31 22 ≠ 0 ∨ (p.urgent = true ∧ p.notify = false)) : s.fetchCheck p x = St.flagsBad := by
  refine (if_neg ?_).trans (if_pos ?_)
  · rw [Option.isNone_iff_eq_none]
    exact known
  · rcases bad with reserved | ⟨urgent, silent⟩
    · simp [reserved]
    · simp [urgent, silent]

/-! ## Dispatch (12 R404 to R408) -/

/-- The package with the session and the queue that come next noted. -/
def State.chosen (s : State) (e : StoreEntry) : State :=
  { s with qen := { s.qen with
      dispSess := vset s.qen.dispSess (((s.session e.session).map (·.cls)).getD 0) e.session
      dispQueue := NMap.set 255 s.qen.dispQueue e.session e.p.q } }

theorem State.dispatchNext_runs {e : StoreEntry} {d : OpDef} (on : s.engineOn = true) (next : s.nextDispatch = some e) (op : opOf e.p.opcode = some d) :
    s.dispatchNext = d.dispatch (s.chosen e) e.p := by
  unfold State.dispatchNext
  rw [on, next]
  simp only [op]
  rfl

theorem State.dispatchNext_waits (waits : s.engineOn = false ∨ s.nextDispatch = none) : s.dispatchNext = s := by
  unfold State.dispatchNext
  rcases waits with off | idle
  · exact if_pos (by rw [off]; rfl)
  · simp only [idle, ite_self]

theorem State.nextOf_eligible {cls : Nat} {e : StoreEntry} (next : s.nextOf cls = some e) : e ∈ s.qen.store ∧ s.eligible e = true := by
  have chosen (p : StoreEntry → Bool) (found : (s.qen.store.filter (fun e => ((s.session e.session).map (·.cls)).getD 0 == cls &&
      s.eligible e)).find? p = some e) : e ∈ s.qen.store ∧ s.eligible e = true := by
    obtain ⟨mem, ready⟩ := List.mem_filter.mp (List.mem_of_find?_eq_some found)
    exact ⟨mem, (Bool.and_eq_true_iff.mp ready).2⟩
  unfold State.nextOf at next
  simp only [] at next
  split at next
  · exact nomatch next
  · split at next
    · exact nomatch next
    · exact chosen _ next

theorem State.nextDispatch_eligible {e : StoreEntry} (next : s.nextDispatch = some e) : e ∈ s.qen.store ∧ s.eligible e = true := by
  obtain ⟨cls, -, found⟩ := List.exists_of_findSome?_eq_some next
  exact State.nextOf_eligible found

/-- An ordered packet has no earlier one of its queue in QUEUED. -/
theorem holds_ordered {f e : StoreEntry} (free : holds f e = false) (before : f.p.seq < e.p.seq) (same : f.p.q = e.p.q)
    (ordered : e.p.ordered = true) : f.st ≠ .queued := by
  intro queued
  refine Bool.false_ne_true (free.symm.trans ?_)
  unfold holds
  rw [decide_eq_true before, ordered, same, decide_eq_true queued, beq_self_eq_true, Bool.and_self, Bool.and_self, Bool.or_true, Bool.and_self]

theorem State.eligible_parts {e : StoreEntry} (ready : s.eligible e = true) : e.st = .queued ∧ ∀ f ∈ s.qen.store, holds f e = false := by
  obtain ⟨first, free⟩ := Bool.and_eq_true_iff.mp ready
  refine ⟨of_decide_eq_true (Bool.and_eq_true_iff.mp first).1, fun f hf => ?_⟩
  exact Bool.not_eq_true' _ |>.mp (List.all_eq_true.mp free f hf)

/-! ## The mirror (12 R422) -/

theorem State.q_mirrorOf : (s.mirrorOf q).q = q := by
  unfold State.mirrorOf
  cases found : s.qen.mirrored.find? (fun m => m.q == q) with
  | none => rfl
  | some m =>
    have own := List.find?_some found
    exact eq_of_beq own

/-- A record replaced is the one that is read. -/
theorem State.mirrorOf_setMirror (m : MirrorQ) (own : m.q = q) : (s.setMirror m).mirrorOf q = m := by
  subst own
  have others : (s.qen.mirrored.filter (fun x => x.q != m.q)).find? (fun x => x.q == m.q) = none := by
    refine List.find?_eq_none.mpr fun x hx => ?_
    have other := (List.mem_filter.mp hx).2
    exact Bool.eq_false_iff.mp (Bool.not_eq_true' _ |>.mp other)
  have found : (s.qen.mirrored.filter (fun x => x.q != m.q) ++ [m]).find? (fun x => x.q == m.q) = some m := by
    rw [List.find?_append, others, Option.none_or]
    exact List.find?_cons_of_pos (beq_self_eq_true m.q)
  exact congrArg (fun x : Option MirrorQ => x.getD { q := m.q, tail := 0, head := 0, annTail := 0, entries := [] }) found

/-- The mirror without its oldest write. -/
def State.unmirrored (s : State) (r : List Mirror) : State := { s with qen := { s.qen with mirror := r } }

/-- What every mirrored write leaves alone. -/
structure State.Mirrored (s u : State) (r : List Mirror) : Prop where
  mirror : u.qen.mirror = r
  pairs : u.qen.pairs = s.qen.pairs
  store : u.qen.store = s.qen.store
  beside : u.beside = s.beside

theorem State.mirrorReceive_keeps {w : Mirror} {r : List Mirror} (waits : s.qen.mirror = w :: r) : s.Mirrored s.mirrorReceive r := by
  unfold State.mirrorReceive
  rw [waits]
  cases w with
  | tail q v => exact ⟨rfl, rfl, rfl, rfl⟩
  | head q v => exact ⟨rfl, rfl, rfl, rfl⟩
  | config q => exact ⟨rfl, rfl, rfl, rfl⟩
  | entry q slot phase dw => exact ⟨rfl, rfl, rfl, rfl⟩
  | msix v e => exact ⟨rfl, rfl, rfl, rfl⟩

theorem State.mirrorReceive_tail {v : Nat} {r : List Mirror} (waits : s.qen.mirror = .tail q v :: r) :
    s.mirrorReceive.mirrorOf q = { s.mirrorOf q with tail := v } := by
  unfold State.mirrorReceive
  rw [waits]
  exact State.mirrorOf_setMirror (s := s.unmirrored r) _ State.q_mirrorOf

theorem State.mirrorReceive_head {v : Nat} {r : List Mirror} (waits : s.qen.mirror = .head q v :: r) : (s.mirrorReceive.mirrorOf q).head = v := by
  have own : ((s.mirrorOf q).consume (((s.pair q).map (·.cqSize)).getD 4096) v).q = q := State.q_mirrorOf
  have received : s.mirrorReceive = (s.unmirrored r).setMirror ((s.mirrorOf q).consume (((s.pair q).map (·.cqSize)).getD 4096) v) := by
    unfold State.mirrorReceive
    rw [waits]
    rfl
  rw [received, State.mirrorOf_setMirror _ own]
  rfl

theorem State.mirrorReceive_none (empty : s.qen.mirror = []) : s.mirrorReceive = s := by
  unfold State.mirrorReceive
  rw [empty]

end

/-- Settles O60: entries are fetched, checked, dispatched in their order and mirrored. -/
theorem entriesAreFetchedAndDispatched : Obligations.EntriesAreFetchedAndDispatched := by
  refine ⟨fun s q k x w on turn pair => ?fetch,
    fun s e waits => congrArg Host.Outcome.next (State.fetch_waits waits e), fun s q k => State.fetchTurn_fetchable,
    fun s p x => ⟨State.fetchCheck_opcode, State.fetchCheck_flags⟩,
    fun s e d on next op => ⟨s.chosen e, ?dispatch⟩,
    fun s waits => congrArg Host.Outcome.next (State.dispatchNext_waits waits), fun s e next => ?next, fun s w r waits => ?mirror,
    fun s empty => congrArg Host.Outcome.next (State.mirrorReceive_none empty)⟩
  case fetch =>
    intro p
    exact ⟨State.fetch_queues on turn pair, State.fetch_refuses on turn pair, State.fetch_faults on turn pair⟩
  case dispatch => exact ⟨congrArg Host.Outcome.next (State.dispatchNext_runs on next op), rfl, rfl, fun _ => rfl, fun _ => rfl⟩
  case next =>
    obtain ⟨mem, ready⟩ := State.nextDispatch_eligible next
    obtain ⟨queued, free⟩ := State.eligible_parts ready
    exact ⟨mem, queued, fun f hf before same ordered => holds_ordered (free f hf) before same ordered⟩
  case mirror =>
    have keeps := State.mirrorReceive_keeps waits
    refine ⟨s.mirrorReceive, rfl, keeps.mirror, keeps.pairs, keeps.store, keeps.beside, fun q v hw => ?_, fun q v hw => ?_⟩
    · subst hw
      exact State.mirrorReceive_tail waits
    · subst hw
      exact State.mirrorReceive_head waits

end Sys2Proof.Machine
end
